-- ==== Sys2Proof/Word.lean ====
section
/-! DEFINITION. Words, bytes and the bit-field helpers of the register tables (R9 to R12). -/

namespace Sys2Proof

/-- A register word and a Filif register: 32 bits. -/
abbrev Word := BitVec 32

/-- A byte of memory. -/
abbrev Byte := BitVec 8

/-- A field placed with its least bit at `lo` of a word. -/
def putV {n : Nat} (x : BitVec n) (lo : Nat) : Word := x.setWidth 32 <<< lo

/-- A one-bit field placed at bit `lo` of a word. -/
def putB (x : Bool) (lo : Nat) : Word := if x then 1#32 <<< lo else 0#32

/-- The `n` bits of a word from bit `lo` up. -/
def getF (w : Word) (lo n : Nat) : BitVec n := w.extractLsb' lo n

/-- The old field with the bits of `m` taken from the new one. -/
def fmix {n : Nat} (old new m : BitVec n) : BitVec n := (old &&& ~~~m) ||| (new &&& m)

/-- A vector with entry `i` changed by `f`; unchanged where there is no entry `i`. -/
def vmod {α : Type} {n : Nat} (v : Vector α n) (i : Nat) (f : α → α) : Vector α n :=
  if h : i < n then v.set i (f v[i]) else v

/-- Entry `i` of a vector, or `d` where there is none. -/
def vget {α : Type} {n : Nat} (v : Vector α n) (i : Nat) (d : α) : α :=
  if h : i < n then v[i] else d

/-- One more, held at all ones: the saturating class of Table 1-8. -/
def satInc {n : Nat} (x : BitVec n) : BitVec n := if x = BitVec.allOnes n then x else x + 1

/-- A natural number in a field of `n` bits, held at all ones when it does not fit (Table 1-8). -/
def satNat (n : Nat) (x : Nat) : BitVec n := if x < 2 ^ n then BitVec.ofNat n x else BitVec.allOnes n

/-- `x` kept within `lo` to `hi`. -/
def clampInt (lo hi x : Int) : Int := if x < lo then lo else if hi < x then hi else x

/-- The largest magnitude of a position count, 2^31 − 1 (R41, R71). -/
def posMax : Int := 2147483647

end Sys2Proof
end

