-- ==== Sys2Proof/Syntax.lean ====
section
/-! DEFINITION. The commands the block takes, with their operands. A command that stands for an event carries what the event
brings from outside the model (a level, a measured current, a frame); what State can tell is not an operand. -/

namespace Sys2Proof

/-- A Filif register L0 to L31 (R288). -/
abbrev Reg := Fin 32

/-- A bit number of a contact or coil (R289). -/
abbrev BitIx := Fin 32

/-- An axis AX-00 to AX-63, a portal P-00 to P-15, a load-switch channel LS-00 to LS-47 (R2). -/
abbrev AxisIx := Fin 64
@[inherit_doc AxisIx] abbrev PortalIx := Fin 16
@[inherit_doc AxisIx] abbrev ChanIx := Fin 48

/-- What a fabric operation meets: nothing, an uncorrectable ECC error or a fabric timeout (R31, R299). -/
inductive FabFault where
  | none | ecc | timeout
  deriving DecidableEq, Repr

/-- How a frame's DMA ends (Table 1-6): DONE, ERROR by an uncorrectable ECC error, a fabric timeout, an access violation or a source
link error, or ABORTED. -/
inductive DmaEnd where
  | done | ecc | timeout | violation | linkError | aborted
  deriving DecidableEq, Repr

/-- The pins of FO-00 to FO-15 as the output side reads them: the voltage of each, 0.1 V, and the channels that limit their current
(R252, R255). -/
structure FoRead where
  volts : Vector (BitVec 12) 16
  ilim  : BitVec 16
  deriving DecidableEq, Repr

/-- The input whose coupler half the injection of an arbitration found failed (Table 7-8): FI k of a portal, a zero-speed train line, or a
wheel-pulse input. -/
inductive Disputed where
  | portal (p : PortalIx) (k : Fin 6)
  | line (k : Fin 2)
  | wheel (i : Fin 4)
  deriving DecidableEq, Repr

/-- The two safety channels: channel A and Hinge (R180). -/
inductive SafeCh where
  | a | h
  deriving DecidableEq, Repr

/-- A supply of an input or output group: FSUP0, FSUP1, or the test sources of a portal (R257). -/
inductive SupplyGroup where
  | fsup0
  | fsup1
  | test (p : PortalIx)
  deriving DecidableEq, Repr


/-- How a fabric operation ends (R27, R31, R32). -/
inductive FabEnd where
  | done | corrected | ecc | violation
  deriving DecidableEq, Repr

/-- What a mailbox is bound to, NET.MBCFGm.LINK. -/
inductive MbLink where
  | udp | xl | can (i : Fin 4) | ser (i : Fin 4)
  deriving DecidableEq, Repr

/-- An Ethernet link: a head link, a panel link, a path of NET.RED, or SVC. -/
inductive EthLink where
  | hl (p : PortalIx) | pl (p : PortalIx) | path (k : Fin 6) | svc
  deriving DecidableEq, Repr

/-- The data set of a PTP master as its announce messages give it: priority 1, clock class, accuracy, offset variance, priority 2,
grandmaster identity, steps removed, and the identity of the port that sends (R377, IEEE 1588-2008). -/
structure PtpMaster where
  prio1 : Byte
  cls : Byte
  acc : Byte
  variance : BitVec 16
  prio2 : Byte
  ident : BitVec 64
  steps : BitVec 16
  sender : BitVec 80
  deriving DecidableEq, Repr

/-- A Sync message: its domain, the port that sent it, and the offset from the master that it gives, ns (R377). -/
structure SyncMsg where
  domain : Byte
  sender : BitVec 80
  ofs : Int
  deriving DecidableEq, Repr

/-- What a frame on a redundant pair is: a supervision frame of the node with this MAC address (R374), a PTP announce of a master with
the UTC offset (R21, R377), a Porvar frame's payload (R365), a UDP datagram with its destination port, its source address and port and
its data, or anything else that the pair supports. -/
inductive PrpKind where
  | supervision (mac : BitVec 48)
  | announce (domain : Byte) (m : PtpMaster) (utc : BitVec 16)
  | porvar (b : List Byte)
  | datagram (dst : BitVec 16) (src : Word) (port : BitVec 16) (b : List Byte)
  | other
  deriving DecidableEq, Repr

/-- The link a session comes in on (R421). -/
inductive SesLink where
  | svc | tn
  deriving DecidableEq, Repr

/-- The levels of the Hall lines (W, V, U), or of Z, B and A, at the pins, and for how many ticks each has stood (R106). -/
structure PinLevels where
  levels : BitVec 3
  held   : Vector Nat 3
  deriving DecidableEq, Repr

/-- How a serial answer begins (R112): whether the line was idle high at the first clock edge, and the arrival of the BiSS start bit
after that edge, ns. -/
structure AnswerStart where
  idle  : Bool
  start : BitVec 16
  deriving DecidableEq, Repr

/-- A verdict on its way to channel A (R167): its portal, what its transfer over the fabric meets at which address, and whether its
CRC-32C is right there. -/
structure VerdictTransfer where
  p    : PortalIx
  flt  : FabFault
  addr : Word
  crc  : Bool
  deriving DecidableEq, Repr

/-- What a flush found of the flash: the blocks of ROLL that wore out and, where no spare is left for one of them, how many of the flush's
records for ROLL had been written before it; the blocks of FIRST, and of the other areas since the last flush, that wore out (R407); and
how many pages of FIRST failed their verification (R401). -/
structure FlushWear where
  worn  : BitVec 16 := 0
  done  : BitVec 16 := 0
  first : BitVec 16 := 0
  other : BitVec 16 := 0
  bad   : BitVec 16 := 0
  deriving DecidableEq, Repr

/-- What a TLS handshake brings (R421 to R423): it meets R421 and the client holds its key; the certificate chains to the SESSION
anchor in three steps at most; it chains to the Porvar root; the rights its OU attributes name, READ to ANCHOR; its validity period,
ns TAI; and the low half of its serial number. -/
structure ClientCert where
  tls       : Bool
  chains    : Bool
  root      : Bool
  rights    : BitVec 6
  notBefore : Nat
  notAfter  : Nat
  serial    : Word
  deriving DecidableEq, Repr

/-- A supply fault that ends: CTL above 137.5 V; MBUS low, high or reversed; ALB above 154 V (R236, R438, R439). -/
inductive SupplyFault where
  | ctlOv | mbusUv | mbusOv | mbusRev | albOv
  deriving DecidableEq, Repr

/-- What the boot sequence finds (Table 19-2): the control section's temperature, °C; whether each MRAM device reads well; whether the
holding copy passes its CRC; the sequences of the staged records and the RETAIN copies that fail theirs; the portals whose newer and older
kerf models fail theirs; whether Hinge's echo of the parameter set agrees; the ms from reset release to core up; the periods of the RTC
since an orderly halt (R444); CTL, 0.1 V (R449); and the converter's input power without the heads, W (R446). -/
structure BootIn where
  tcs       : BitVec 8
  mram0     : Bool
  mram1     : Bool
  holding   : Bool
  badStaged : List Nat
  badRetain : List (BitVec 16)
  newBad    : BitVec 16
  oldBad    : BitVec 16
  echo      : Bool
  coreMs    : BitVec 12
  rtc       : Nat
  ctl       : BitVec 12
  pcore     : BitVec 12
  deriving DecidableEq, Repr


/-- The commands of spec/opcode_table.json, one constructor a row: the Filif instructions, the register operations, the
hardware's own events with what they measure, and the session operations (DESIGN CHOICE, log 73). -/
inductive Instr where
  /-- R294: ALU instruction: Ld = La + Lb, setting Z, N, C and V. -/
  | add (d : Reg) (a : Reg) (b : Reg)
  /-- R294: ALU instruction: Ld = La + Lb + C, setting Z, N, C and V. -/
  | adc (d : Reg) (a : Reg) (b : Reg)
  /-- R294: ALU instruction: Ld = La − Lb, setting Z, N, C and V. -/
  | sub (d : Reg) (a : Reg) (b : Reg)
  /-- R294: ALU instruction: Ld = La − Lb − (1 − C), setting Z, N, C and V. -/
  | sbc (d : Reg) (a : Reg) (b : Reg)
  /-- R294: ALU instruction: sets the flags of La − Lb without writing a register. -/
  | cmp (a : Reg) (b : Reg)
  /-- R294: ALU instruction: Ld = 0 − La, setting Z, N, C and V. -/
  | neg (d : Reg) (a : Reg)
  /-- R294: ALU instruction: Ld = La AND Lb, setting Z and N. -/
  | and_ (d : Reg) (a : Reg) (b : Reg)
  /-- R294: ALU instruction: Ld = La OR Lb, setting Z and N. -/
  | or_ (d : Reg) (a : Reg) (b : Reg)
  /-- R294: ALU instruction: Ld = La XOR Lb, setting Z and N. -/
  | xor_ (d : Reg) (a : Reg) (b : Reg)
  /-- R294: ALU instruction: Ld = La AND NOT Lb, setting Z and N. -/
  | andn (d : Reg) (a : Reg) (b : Reg)
  /-- R294: ALU instruction: sets Z and N from La AND Lb without writing a register. -/
  | tst (a : Reg) (b : Reg)
  /-- R294: ALU instruction: Ld = NOT La, setting Z and N. -/
  | not_ (d : Reg) (a : Reg)
  /-- R294: ALU instruction: Ld = La, changing no flag. -/
  | mov (d : Reg) (a : Reg)
  /-- R294: ALU instruction: Ld = La if B = 1, otherwise Lb. -/
  | sel (d : Reg) (a : Reg) (b : Reg)
  /-- R294: ALU instruction: shifts La left by Lb[4:0] into Ld, setting Z, N and C. -/
  | shl (d : Reg) (a : Reg) (b : Reg)
  /-- R294: ALU instruction: shifts La right logically into Ld, setting Z, N and C. -/
  | shr (d : Reg) (a : Reg) (b : Reg)
  /-- R294: ALU instruction: shifts La right arithmetically into Ld, setting Z, N and C. -/
  | sar (d : Reg) (a : Reg) (b : Reg)
  /-- R294: ALU instruction: rotates La right into Ld, setting Z, N and C. -/
  | ror (d : Reg) (a : Reg) (b : Reg)
  /-- R294: ALU instruction: Ld = the signed lesser of La and Lb. -/
  | mins (d : Reg) (a : Reg) (b : Reg)
  /-- R294: ALU instruction: Ld = the signed greater of La and Lb. -/
  | maxs (d : Reg) (a : Reg) (b : Reg)
  /-- R294: ALU instruction: Ld = the unsigned lesser of La and Lb. -/
  | minu (d : Reg) (a : Reg) (b : Reg)
  /-- R294: ALU instruction: Ld = the unsigned greater of La and Lb. -/
  | maxu (d : Reg) (a : Reg) (b : Reg)
  /-- R294: ALU instruction: saturating signed add, with V set when clamped. -/
  | adds (d : Reg) (a : Reg) (b : Reg)
  /-- R294: ALU instruction: saturating signed subtract, with V set when clamped. -/
  | subs (d : Reg) (a : Reg) (b : Reg)
  /-- R295: MULDIV instruction: low 32 bits of La × Lb, with V set on signed overflow. -/
  | mul (d : Reg) (a : Reg) (b : Reg)
  /-- R295: MULDIV instruction: high 32 bits of the signed product. -/
  | mulh (d : Reg) (a : Reg) (b : Reg)
  /-- R295: MULDIV instruction: high 32 bits of the unsigned product. -/
  | mulhu (d : Reg) (a : Reg) (b : Reg)
  /-- R295: MULDIV instruction: signed 18-cycle division that never faults. -/
  | div (d : Reg) (a : Reg) (b : Reg)
  /-- R295: MULDIV instruction: unsigned 18-cycle division that never faults. -/
  | divu (d : Reg) (a : Reg) (b : Reg)
  /-- R295: MULDIV instruction: signed remainder, carrying the sign of the dividend. -/
  | rem (d : Reg) (a : Reg) (b : Reg)
  /-- R295: MULDIV instruction: unsigned remainder. -/
  | remu (d : Reg) (a : Reg) (b : Reg)
  /-- R296: Immediate instruction: Ld = La + sext(IMM), changing no flag. -/
  | addi (d : Reg) (a : Reg) (imm : BitVec 16)
  /-- R296: Immediate instruction: sets the flags of La − sext(IMM). -/
  | cmpi (a : Reg) (imm : BitVec 16)
  /-- R296: Immediate instruction: Ld = La AND zext(IMM), setting Z and N. -/
  | andi (d : Reg) (a : Reg) (imm : BitVec 16)
  /-- R296: Immediate instruction: Ld = La OR zext(IMM), changing no flag. -/
  | ori (d : Reg) (a : Reg) (imm : BitVec 16)
  /-- R296: Immediate instruction: Ld = La XOR zext(IMM), setting Z and N. -/
  | xori (d : Reg) (a : Reg) (imm : BitVec 16)
  /-- R296: Immediate instruction: Ld = IMM << 16, changing no flag. -/
  | lui (d : Reg) (imm : BitVec 16)
  /-- R296: Immediate instruction: shift or rotate of La, with the type and amount taken from IMM. -/
  | shi (d : Reg) (a : Reg) (imm : BitVec 16)
  /-- R296: Immediate instruction: sets Z and N from La AND zext(IMM). -/
  | tsti (a : Reg) (imm : BitVec 16)
  /-- R297: Word load from La + sext(IMM); an access without the right or a misaligned access returns zero. -/
  | ldw (d : Reg) (a : Reg) (imm : BitVec 16) (flt : FabFault)
  /-- R297: Sign-extending halfword load. -/
  | ldh (d : Reg) (a : Reg) (imm : BitVec 16) (flt : FabFault)
  /-- R297: Zero-extending halfword load. -/
  | ldhu (d : Reg) (a : Reg) (imm : BitVec 16) (flt : FabFault)
  /-- R297: Sign-extending byte load. -/
  | ldb (d : Reg) (a : Reg) (imm : BitVec 16) (flt : FabFault)
  /-- R297: Zero-extending byte load. -/
  | ldbu (d : Reg) (a : Reg) (imm : BitVec 16) (flt : FabFault)
  /-- R297: Word store issued to the eight-entry store queue. -/
  | stw (d : Reg) (a : Reg) (imm : BitVec 16)
  /-- R297: Halfword store issued to the store queue. -/
  | sth (d : Reg) (a : Reg) (imm : BitVec 16)
  /-- R297: Byte store issued to the store queue. -/
  | stb (d : Reg) (a : Reg) (imm : BitVec 16)
  /-- R299: A queued store is written to its target; a fault on it abandons the rest of the queue and puts the module in STOP with cause MEM. -/
  | storeDrain (flt : FabFault)
  /-- R300: Memory contact: B = bit b of a memory word. -/
  | cld (bit : BitIx) (a : Reg) (imm : BitVec 16) (flt : FabFault)
  /-- R300: Memory contact: B = NOT bit b. -/
  | cldn (bit : BitIx) (a : Reg) (imm : BitVec 16) (flt : FabFault)
  /-- R300: Memory contact: B = B AND bit b. -/
  | cand (bit : BitIx) (a : Reg) (imm : BitVec 16) (flt : FabFault)
  /-- R300: Memory contact: B = B AND NOT bit b. -/
  | candn (bit : BitIx) (a : Reg) (imm : BitVec 16) (flt : FabFault)
  /-- R300: Memory contact: B = B OR bit b. -/
  | cor (bit : BitIx) (a : Reg) (imm : BitVec 16) (flt : FabFault)
  /-- R300: Memory contact: B = B OR NOT bit b. -/
  | corn (bit : BitIx) (a : Reg) (imm : BitVec 16) (flt : FabFault)
  /-- R300: Memory contact: B = B XOR bit b. -/
  | cxor (bit : BitIx) (a : Reg) (imm : BitVec 16) (flt : FabFault)
  /-- R300: Memory coil: an indivisible read-modify-write that sets bit b = B. -/
  | cst (bit : BitIx) (a : Reg) (imm : BitVec 16) (flt : FabFault)
  /-- R300: Memory coil: sets bit b = NOT B. -/
  | cstn (bit : BitIx) (a : Reg) (imm : BitVec 16) (flt : FabFault)
  /-- R300: Memory coil: sets bit b if B = 1. -/
  | cset (bit : BitIx) (a : Reg) (imm : BitVec 16) (flt : FabFault)
  /-- R300: Memory coil: clears bit b if B = 1. -/
  | crst (bit : BitIx) (a : Reg) (imm : BitVec 16) (flt : FabFault)
  /-- R301: Register contact: B = La[b]. -/
  | rld (a : Reg) (bit : BitIx)
  /-- R301: Register contact: B = NOT La[b]. -/
  | rldn (a : Reg) (bit : BitIx)
  /-- R301: Register contact: B = B AND La[b]. -/
  | rand (a : Reg) (bit : BitIx)
  /-- R301: Register contact: B = B AND NOT La[b]. -/
  | randn (a : Reg) (bit : BitIx)
  /-- R301: Register contact OR (FN 0x04 of OP 0x02): B = B OR La[b]. -/
  | rorContact (a : Reg) (bit : BitIx)
  /-- R301: Register contact: B = B OR NOT La[b]. -/
  | rorn (a : Reg) (bit : BitIx)
  /-- R301: Register contact: B = B XOR La[b]. -/
  | rxor (a : Reg) (bit : BitIx)
  /-- R301: Register coil: Ld[b] = B. -/
  | rst (d : Reg) (bit : BitIx)
  /-- R301: Register coil: Ld[b] = NOT B. -/
  | rstn (d : Reg) (bit : BitIx)
  /-- R301: Register coil: sets Ld[b] if B = 1. -/
  | rset (d : Reg) (bit : BitIx)
  /-- R301: Register coil: clears Ld[b] if B = 1. -/
  | rrst (d : Reg) (bit : BitIx)
  /-- R301: B = NOT B. -/
  | bnot
  /-- R301: B = 1. -/
  | bone
  /-- R301: B = 0. -/
  | bzero
  /-- R301: B = 1 if the condition code holds, otherwise 0. -/
  | bcc (cond : BitVec 5)
  /-- R301: Ld = B, zero-extended. -/
  | bget (d : Reg)
  /-- R301: B = 1 if La ≠ 0, otherwise 0. -/
  | bput (a : Reg)
  /-- R302: Conditional PC-relative branch. -/
  | br (cond : BitVec 5) (ofs : BitVec 21)
  /-- R302: Conditional branch that writes the return address to L31. -/
  | brl (cond : BitVec 5) (ofs : BitVec 21)
  /-- R303: Jump to the address in La. -/
  | jr (a : Reg)
  /-- R303: Jump to La, writing the return address to Ld. -/
  | jrl (d : Reg) (a : Reg)
  /-- R304: SYS instruction that does nothing. -/
  | nop
  /-- R304: Ends the execute phase of the cycle; the output phase follows. -/
  | eoc
  /-- R271: Returns from the running call-out and switches back to the bank it interrupted. -/
  | retc
  /-- R304: Reads Z, N, C, V and B of the context into Ld. -/
  | rdf (d : Reg)
  /-- R304: Writes Z, N, C, V and B of the context from La. -/
  | wrf (a : Reg)
  /-- R304: Waits until every queued store has completed. -/
  | fence
  /-- R305: Copies the staged words of one stageable block to its active copy as one operation and returns a status code. -/
  | commit (d : Reg) (a : Reg) (flt : FabFault)
  /-- R307: Starts a block move from a 16-byte descriptor on a free move channel. -/
  | bmove (d : Reg) (a : Reg)
  /-- R317: Evaluates a timer instance with input B and returns ET. -/
  | trun (d : Reg) (tag : BitVec 14)
  /-- R317: Sets the preset PT of a timer instance. -/
  | tpre (d : Reg) (tag : BitVec 14)
  /-- R317: Resets a timer instance: ACC, RUN and Q become 0. -/
  | tres (tag : BitVec 14)
  /-- R318: Evaluates an edge detector and returns RISE in B. -/
  | edr (tag : BitVec 14)
  /-- R318: Evaluates an edge detector and returns FALL in B. -/
  | edf (tag : BitVec 14)
  /-- R318: Returns the FALL of the detector's last evaluation without evaluating it. -/
  | edlf (tag : BitVec 14)
  /-- R319: Counts a CTUD instance up on a rise of B, saturating. -/
  | ccu (d : Reg) (tag : BitVec 14)
  /-- R319: Counts a CTUD instance down on a rise of B, holding at 0. -/
  | ccd (d : Reg) (tag : BitVec 14)
  /-- R319: If B = 1, loads CV = PV. -/
  | cload (d : Reg) (tag : BitVec 14)
  /-- R319: If B = 1, clears CV. -/
  | cres (d : Reg) (tag : BitVec 14)
  /-- R319: Sets the PV of a counter instance. -/
  | cpre (d : Reg) (tag : BitVec 14)
  /-- R320: Evaluates an SR or RS latch. -/
  | lev (d : Reg) (tag : BitVec 14)
  /-- R321: Sets the target of a ramp instance. -/
  | rtgt (d : Reg) (tag : BitVec 14)
  /-- R321: Sets the rate of a ramp instance. -/
  | rrate (d : Reg) (tag : BitVec 14)
  /-- R321: Advances a ramp's output towards its target by the elapsed time. -/
  | rrun (d : Reg) (tag : BitVec 14)
  /-- R321: TAG SUB 0x23: sets the ramp's OUT = Ld and LAST = now. -/
  | rampRset (d : Reg) (tag : BitVec 14)
  /-- R313: Returns the address of a tagged instance. -/
  | tadr (d : Reg) (tag : BitVec 14)
  /-- R322: Stages and commits an axis target. -/
  | mtgt (d : Reg) (a : Reg) (k : BitVec 8) (flt : FabFault)
  /-- R324: Stages and commits both leaf targets of a portal as one operation, forming one start. -/
  | mleaf (d : Reg) (a : Reg) (k : BitVec 8) (flt : FabFault)
  /-- R322: Stages AXC.VLIM of an axis without committing it. -/
  | mvlim (d : Reg) (a : Reg) (k : BitVec 8)
  /-- R322: Writes AXC.CMD of one axis. -/
  | mcmd (d : Reg) (a : Reg) (k : BitVec 8)
  /-- R322: Writes AXC.CMD of every fitted axis of a portal in one update. -/
  | pcmd (d : Reg) (a : Reg) (k : BitVec 8)
  /-- R322: Returns the live AXC.STATE. -/
  | mstat (d : Reg) (k : BitVec 8)
  /-- R322: Returns the live AXC.POS. -/
  | mpos (d : Reg) (k : BitVec 8)
  /-- R323: Returns AXC.BLZHIT and clears the bits it read in the same access. -/
  | bhit (d : Reg) (k : BitVec 8)
  /-- R322: Writes AXC.BLZREARM to re-arm ONCE entries. -/
  | brearm (d : Reg) (a : Reg) (k : BitVec 8)
  /-- R322: Stages and commits LSB.CMD.ON of a channel from La[0]. -/
  | lsw (d : Reg) (a : Reg) (k : BitVec 8) (flt : FabFault)
  /-- R322: Stages and commits LSB.CMD.ON of a channel from B. -/
  | lswb (d : Reg) (k : BitVec 8) (flt : FabFault)
  /-- R326: Emits a program Tally record with a payload from a buffer. -/
  | trec (d : Reg) (a : Reg) (k : BitVec 8)
  /-- R326: Emits a program Tally record whose payload is one word. -/
  | tword (d : Reg) (a : Reg) (k : BitVec 8)
  /-- R326: Sends a message through a mailbox. -/
  | mbsend (d : Reg) (a : Reg) (k : BitVec 8)
  /-- R326: Takes the oldest message of a mailbox into a buffer. -/
  | mbrecv (d : Reg) (a : Reg) (k : BitVec 8)
  /-- R325: Returns a mailbox's status word. -/
  | mbstat (d : Reg) (k : BitVec 8)
  /-- R5: A write to a register that has no row of its own, applied under its access codes (RW, W1C, IMG, reserved bits, staging). -/
  | registerWrite (ctx : Fin 5) (addr : Word) (w : Word)
  /-- R26: A read of a _LO register that latches the matching _HI half for the requester. -/
  | loHalfRead (ctx : Fin 5) (addr : Word)
  /-- R8: A read that returns an RC field and clears exactly the events it returned. -/
  | rcFieldRead (ctx : Fin 5) (addr : Word)
  /-- R249: A read of FIO.EQ that takes the oldest edge entry and latches its time stamp. -/
  | edgeQueueRead (ctx : Fin 5)
  /-- R410: A store to the emission port's GO word that emits the buffer as a PROG record. -/
  | emissionGo (w : Word)
  /-- R77: AXC.CMD.STOP stops the axis in the update in which it is requested. -/
  | cmdStop (x : AxisIx)
  /-- R81: AXC.CMD.HALT starts a controlled deceleration to standstill. -/
  | cmdHalt (x : AxisIx)
  /-- R87: AXC.CMD.REREF requests a re-reference crawl to the end stop. -/
  | cmdReref (x : AxisIx)
  /-- R78: AXC.CMD.DISABLE stops the axis and takes its bridges off. -/
  | cmdDisable (x : AxisIx)
  /-- R79: AXC.CMD.ENABLE ends a DISABLE. -/
  | cmdEnable (x : AxisIx)
  /-- R95: A write to AXC.BLZREARM that re-arms ONCE blaze entries lying on their approach side. -/
  | blzrearm (x : AxisIx) (w : Word)
  /-- R149: AXC.FMAPCMD.CLEAR sets every friction-map cell to zero. -/
  | fmapClear (x : AxisIx)
  /-- R154: AXC.CAL.REQ requests a current-sensor calibration, which is deferred to the idle window. -/
  | calReq (x : AxisIx)
  /-- R58: A W1C write of PRT.OBS.GIVEUP that clears GIVEUP and sets RETRY to 0. -/
  | giveupClear (p : PortalIx)
  /-- R160: KRF.CMD.OPEN opens the portal's kerf window with GW = G. -/
  | krfOpen (p : PortalIx)
  /-- R174: KRF.CMD.LEARN requests a relearn of the empty-zone model. -/
  | krfLearn (p : PortalIx)
  /-- R177: KRF.CMD.SNAP requests a snapshot record of the next judged frame. -/
  | krfSnap (p : PortalIx)
  /-- R228: LSB.REQ.OLTEST requests the off-state open-load test. -/
  | lsbOltest (c : ChanIx) (shorted : Bool)
  /-- R276: A write of SYS.CTL.STOP that puts the module in STOP with cause PROG. -/
  | progStop
  /-- R217: A write of SRQ.ACK that clears the named SST.EVT bits. -/
  | eventAck (w : Word)
  /-- R403: TAL.CTL.FLUSH triggers a Tally flush. -/
  | talFlush
  /-- R358: CMJ.CTL.TAKE delivers the oldest ACCEPTED journal entry, refusing expired entries first. -/
  | take
  /-- R359: A write of CMJ.RES that gives the delivered entry its outcome. -/
  | cmjRes (w : Word)
  /-- R450: PWR.SLPCMD.SLEEP requests sleep, which is deferred until the conditions hold. -/
  | sleepRequest
  /-- R450: PWR.SLPCMD.CANCEL withdraws a DEFERRED sleep request. -/
  | sleepCancel
  /-- R447: FEL.HCMD.RESET puts a locked head supply back in the admission queue. -/
  | headReset (w : BitVec 16)
  /-- R67: The per-tick update of one axis: the accumulator adds its velocity, set-point steps and SDO pulses are made, and crossings are compared. -/
  | axisUpdate (x : AxisIx)
  /-- R74: The planner sets the axis's acceleration and velocity for its next 64 updates within its limits. -/
  | planningPeriod (x : AxisIx)
  /-- R101: The 100 µs evaluation of the felling-order queue, admitting starts within the budget. -/
  | fellingEvaluation (imeas : BitVec 12) (vbus : BitVec 12)
  /-- R82: A landed plan holds |FERR| within INPOS for 5 ms; ATTGT sets and the friction map learns. -/
  | standstillAtTarget (x : AxisIx)
  /-- R56: The warning time expires and the held G-reducing leaf start is released to felling order. -/
  | warnMet (p : PortalIx)
  /-- R62: MOVEINH clears 100 ms after EEH returns to 0. -/
  | moveinhHoldoffEnd (p : PortalIx)
  /-- R57: A leaf movement lasts longer than MOVETMO; MTO sets and stops the leaves. -/
  | moveTimeout (p : PortalIx)
  /-- R57: Both DCL contacts have not opened within UNLOCKTMO of LK on; UTO sets. -/
  | unlockTimeout (p : PortalIx)
  /-- R57: Both DCL contacts have not made within LOCKTMO of HOME; LTO sets. -/
  | lockTimeout (p : PortalIx)
  /-- R50: The force estimate stays above its threshold for OBST; a force obstacle latch sets and the stop follows. -/
  | obstacleDetectionTime (x : AxisIx)
  /-- R51: A sensitive edge stays active for 2 ms during closing; EA or EB sets. -/
  | edgeObstacle (p : PortalIx) (leafB : Bool)
  /-- R87: FERR exceeds REFFE for REFT during a re-reference; the axis takes REFOFS and becomes TRUSTED. -/
  | endStopFound (x : AxisIx)
  /-- R89: The end stop is not found within REFTMO; REFFAIL sets and the axis stops. -/
  | referenceTimeout (x : AxisIx)
  /-- R277: In STOP an axis's bridges go off when its speed reads STILL, or 50 ms after the stop. -/
  | bridgesOffInStop (x : AxisIx)
  /-- R135: The 25 µs current-loop step of an axis, sampling phase currents and setting duty. -/
  | currentLoopStep (x : AxisIx) (iu : BitVec 16) (iv : BitVec 16) (iw : BitVec 16)
  /-- R135: The 100 µs speed-loop step: speed measurement, force estimate and envelope checks. -/
  | speedLoopStep (x : AxisIx)
  /-- R135: The 400 µs position-loop step, sampling the set-point and checking the following error. -/
  | positionLoopStep (x : AxisIx)
  /-- R153: A phase current above 14 A switches the stage off within 2 µs and sets OCHW. -/
  | overcurrentComparator (x : AxisIx)
  /-- R153: A stage above 150 °C cuts its axis and sets OTEMP. -/
  | stageOvertemp (x : AxisIx) (t : BitVec 8)
  /-- R154: Pending current-sensor calibrations start when the idle window opens. -/
  | calibrationStart
  /-- R154: A calibration's 6.4 ms of samples end; the offsets are taken DONE or FAILED. -/
  | calibrationComplete (x : AxisIx) (mu : BitVec 16) (mv : BitVec 16) (mw : BitVec 16)
  /-- R106: A filtered change on a Hall, A or B line is accepted, counted or judged illegal, and dated. -/
  | feedbackEdge (x : AxisIx) (hall : Bool) (l : PinLevels)
  /-- R124: An index event is judged against the expected count and corrected, or moves trust. -/
  | indexEvent (x : AxisIx) (illegal : Bool)
  /-- R111: A serial sensor request starts every SER.PER. -/
  | serialRequest (x : AxisIx)
  /-- R112: A serial position word is received and judged good or bad. -/
  | serialWord (x : AxisIx) (raw : BitVec 40) (crc : BitVec 16) (err : Bool) (warn : Bool) (ans : AnswerStart) (delay : BitVec 16)
  /-- R120: No legal edge arrives for TSS; speed is reported 0 with quality STILL. -/
  | feedbackStandstill (x : AxisIx)
  /-- R131: A position-compare pulse on PA ends PW after the latest crossing. -/
  | comparePulseEnd (p : PortalIx)
  /-- R367: A depth segment from a head is received and assembled, or ends the partial frame in error. -/
  | depthSegment (p : PortalIx) (b : List Byte) (fcs : Bool)
  /-- R368: A head status frame sets or changes the present head identity. -/
  | headStatusFrame (p : PortalIx) (id : BitVec 64) (fw : Word) (rate : Byte) (temp : Byte)
  /-- R369: The rate command is repeated every 1 s, or resent every 100 ms while the segment flag is wrong. -/
  | rateCommandRepeat (p : PortalIx)
  /-- R37: A DMA transfer ends and its completion word is written DONE, ERROR or ABORTED. -/
  | dmaComplete (p : PortalIx) (e : DmaEnd) (addr : Word)
  /-- R174: Pending relearns start when the idle window opens. -/
  | kerfLearnStart
  /-- R167: The kerf engine completes a frame's judgement and issues its verdict to the registers and channel A. -/
  | verdictIssue (v : VerdictTransfer)
  /-- R165: A verdict not ready 12 ms after its frame end is dropped as missing. -/
  | verdictLate (p : PortalIx)
  /-- R166: No frame end for SILENT while the window is open; a SILENT BLIND verdict is issued. -/
  | silentExpiry (p : PortalIx)
  /-- R172: An override line active longer than OVRMAX sets OVRSTUCK and stops acting. -/
  | ovrmaxExpiry (p : PortalIx)
  /-- R172: The override line is inactive for 1 s and OVRSTUCK clears. -/
  | ovrstuckClear (p : PortalIx)
  /-- R187: The 1 ms decision instant of a safety channel: pair values, zero speed, side conditions and switch drives. -/
  | gridInstant (ch : SafeCh) (fi : BitVec 96) (zs : BitVec 2) (rb : BitVec 6)
  /-- R181: The 1 ms hinge-link frame exchange with its cross-checks and mode changes. -/
  | hingeLinkExchange (good : Bool)
  /-- R204: The arbitration self-tests end and decide the survivor, an input fault or UNDECIDED. -/
  | arbitrationTestComplete (aPass : Bool) (hPass : Bool) (bad : Option Disputed)
  /-- R181: A channel's heartbeat does not toggle for 20 ms. -/
  | heartbeatAbsent (ch : SafeCh)
  /-- R181: A channel asserts its fault line, declaring itself failed. -/
  | faultLineAssert (ch : SafeCh)
  /-- R211: Channel A's reset line asserts; Hinge arms the path and holds HS and the SDE request. -/
  | channelAResetLine
  /-- R492: RESYNC lasts beyond ARSYNC and Hinge enters DEG_H. -/
  | arsyncExpiry
  /-- R209: The degraded window expires; EXPIRED sets and loops open at the permit. -/
  | degradedWindowExpiry
  /-- R213: Channel A's own watchdog expires and resets channel A alone. -/
  | channelAWatchdog
  /-- R18: A 1 ms window of mutual clock counting, raising a clock fault after two deviations. -/
  | clockCrosscheck (ch : SafeCh) (dev : BitVec 16) (aOff : Bool) (hOff : Bool)
  /-- R191: A 400 µs gap of TPA or TPB, during which the inputs are checked. -/
  | testGap (src : Fin 2) (aDuring : BitVec 96) (aAfter : BitVec 96) (hDuring : BitVec 96) (hAfter : BitVec 96)
  /-- R195: A 300 µs off-pulse test of a closed door-loop switch every 10 s. -/
  | switchTestPulse (sw : Fin 4) (opened : Bool)
  /-- R198: A wheel-pulse edge on a safety half completes a period for the threshold judgement. -/
  | wheelPulse (ch : SafeCh) (idx : Fin 4)
  /-- R250: A rising edge on a WP input in counting mode increments its counter. -/
  | wheelPulseCount (idx : Fin 4)
  /-- R245: A filtered input change is accepted as a dated edge, queued and may raise a call-out. -/
  | fieldInputEdge (n : Fin 148) (v : BitVec 12) (held : Nat)
  /-- R247: The once-per-second test current check of an off input's coupler. -/
  | couplerCheck (n : Fin 148) (pass : Bool)
  /-- R254: The 1 ms refresh of the isolated field-output side with the commands in force. -/
  | outputRefresh (rb : FoRead)
  /-- R254: No valid refresh for FOTMO; outputs take their SAFE bits and SILENT sets. -/
  | refreshTimeout
  /-- R255: An output's read-back disagrees with its command for 2 ms; OFFHI or ONLO sets. -/
  | readbackDisagree (n : Fin 16) (v : BitVec 12) (ilim : Bool)
  /-- R252: A field output reaches 160 °C and shuts down until 140 °C. -/
  | foThermalShutdown (n : Fin 16)
  /-- R224: A load-switch junction reaches 170 °C; the channel switches off and its thermal latch sets. -/
  | lsThermalShutdown (c : ChanIx) (tj : BitVec 16)
  /-- R224: The junction cools to 150 °C and the thermal latch clears. -/
  | lsLatchClear (c : ChanIx) (tj : BitVec 16)
  /-- R225: RETRYT after a thermal shutdown the channel attempts to conduct again. -/
  | lsRetry (c : ChanIx)
  /-- R225: 10 s of continuous conduction return the retry counter to 0. -/
  | lsRetryCounterReset (c : ChanIx)
  /-- R227: The conducting current stays below OLTH for 10 ms, or above it, and OPENLD sets or clears. -/
  | openLoadDetect (c : ChanIx) (idx : BitVec 16)
  /-- R228: A deferred off-state open-load test starts once the idle window is open and the command is off. -/
  | oltestStart (c : ChanIx) (shorted : Bool)
  /-- R228: The 5 ms off-state test ends with PASS, OPEN or SHTALB. -/
  | oltestComplete (c : ChanIx) (above : Bool)
  /-- R229: A switch-off's clamp energy is summed until the current decays and added to the accumulator. -/
  | clampMeasurementComplete (c : ChanIx) (energy : Nat)
  /-- R229: The 1 ms leak update of every Choker accumulator. -/
  | chokerLeak
  /-- R233: ALB below 8.0 V for 1 ms applies hold-off 1. -/
  | albUndervoltage (v : BitVec 12)
  /-- R234: A reversed ALB sets REV and applies hold-off 1. -/
  | albReversed
  /-- R235: Loss of the ALB return is detected and applies hold-off 1. -/
  | albReturnLoss
  /-- R236: ALB above 154 V sets OVW. -/
  | albOvervoltage (v : BitVec 12)
  /-- R233: ALB normal for 10 ms ends hold-off 1. -/
  | supplyHoldoffEnd (v : BitVec 12)
  /-- R261: The snapshot tick and input phase of a cycle, begun once replies and MINCYC allow. -/
  | snapshot
  /-- R267: PLWAIT passes after the output phase and meets the snapshot condition. -/
  | plwaitExpiry
  /-- R268: A panel reply is checked and placed in its input area, or discarded as late. -/
  | panelReply (p : PortalIx) (b : List Byte)
  /-- R268: No reply for PLTMO; panel data zeroed, PLFLT set and PL-LOST written. -/
  | panelTimeout (p : PortalIx)
  /-- R277: In STOP and HOLD a panel frame with the last cycle number is sent every 1 ms. -/
  | panelFrameRepeat
  /-- R270: A pending call-out starts at an instruction boundary in its priority bank. -/
  | calloutStart
  /-- R272: A call-out's 2,000th instruction is not RETC; the module enters STOP with cause COLIM. -/
  | calloutBudgetExpiry
  /-- R273: The cycle interval reaches WDT; the module enters STOP with cause WDOG. -/
  | cycleWatchdogExpiry
  /-- R279: 100 ms after a WDOG or COLIM stop the module restarts into RUN within the AUTO limit. -/
  | automaticRestart
  /-- R276: An enabled breakpoint instruction is reached; the module enters HOLD. -/
  | breakpoint
  /-- R284: A block move ends DONE, ERROR or ABORTED and writes its completion word. -/
  | blockMoveComplete (idx : Fin 4) (flt : FabFault)
  /-- R32: A fabric operation completes whole, or fails with an ECC error or violation and no visible effect. -/
  | fabricOperationComplete (src : Fin 7) (e : FabEnd) (addr : Word)
  /-- R31: An operation not completed 20 µs after its grant fails and is recorded. -/
  | fabricTimeout (src : Fin 7) (addr : Word)
  /-- R28: A mirrored MRAM write is confirmed, or a device is marked failed. -/
  | mramWriteComplete (src : Fin 7) (ok0 : Bool) (ok1 : Bool)
  /-- R335: Landing verification ends VERIFIED or REJECTED. -/
  | verificationComplete
  /-- R340: A VERIFIED image is switched in at the end of an output phase once no hold reason remains. -/
  | imageSwitch (echo : Bool)
  /-- R382: A Bathawin command telegram is checked by format, code, time and kind, then judged for the journal. -/
  | telegramReceive (sg : Bool) (b : List Byte)
  /-- R351: The journal entry is written to MRAM and the ACK is handed to the link. -/
  | journalWriteComplete (ok0 : Bool) (ok1 : Bool)
  /-- R359: A delivered entry with no result after 60 s is refused with reason 6. -/
  | deliveryTimeout
  /-- R360: A journal entry is freed 60 s after SENT is set. -/
  | entryFree
  /-- R385: A STATUS telegram is sent every SPER ms if CODEH has arrived. -/
  | statusTelegramSend (codeh : Option Word)
  /-- R373: A frame on a PRP pair is received, the second copy discarded as duplicate. -/
  | prpFrameReceive (k : Fin 6) (mac : BitVec 48) (seq : Option (BitVec 16)) (wlan : Bool) (f : PrpKind)
  /-- R364: A frame that the link does not support is dropped and counted. -/
  | unsupportedFrame
  /-- R374: A PRP supervision frame is sent on each path every 2 s. -/
  | supervisionSend
  /-- R374: Each path is judged UP or DOWN every 2 s. -/
  | pathCheck
  /-- R376: An output process dataset is sent every PERIOD. -/
  | pdOutputSend (n : Fin 8)
  /-- R376: An input process dataset datagram is taken into its slot or flagged LENERR. -/
  | pdInputReceive (b : List Byte)
  /-- R375: No copy of a dataset for NET.HOLD; data zeroed and LOST set. -/
  | pdHoldExpiry (n : Fin 8)
  /-- R377: A PTP Sync message disciplines calendar time, slewing or stepping it. -/
  | ptpSyncReceive (k : Fin 2) (m : SyncMsg)
  /-- R22: The disciplining source is lost for 3 s and the time source enters HOLDOVER. -/
  | ptpLoss
  /-- R22: After 3,600 s of holdover the time source falls to FREE. -/
  | holdoverExpiry
  /-- R23: A 1 PPS edge on SYNC is dated and judged valid or invalid. -/
  | syncPulse
  /-- R23: A predicted SYNC second passes without a pulse, counting towards loss of SYNC. -/
  | syncPulseMissing
  /-- R387: A twin heartbeat is sent on XL every 100 ms. -/
  | twinHeartbeatSend
  /-- R388: A twin heartbeat arrives, counting towards UP. -/
  | twinHeartbeatReceive (mac : BitVec 48)
  /-- R388: No twin heartbeat for 300 ms; the state becomes SPLIT or LOST. -/
  | twinTimeout
  /-- R389: A CAN, UDP, XL or RS-485 message is filed in its mailbox, or dropped. -/
  | mailboxArrival (l : MbLink) (w : Word) (dst : BitVec 16) (src : BitVec 16) (b : List Byte)
  /-- R391: A CAN frame not sent within 100 ms is dropped and TXERR set. -/
  | canSendTimeout (m : Fin 64)
  /-- R391: A bus-off controller recovers after 128 occurrences of 11 recessive bits. -/
  | canBusOffRecovery (idx : Fin 4)
  /-- R391: An RS-485 message ends at an idle line of IDLE bit times. -/
  | serialMessageEnd (idx : Fin 4) (b : List Byte)
  /-- R421: A TLS 1.3 mutual handshake admits a session and grants its rights. -/
  | sessionHandshake (link : SesLink) (c : ClientCert)
  /-- R424: No client record for 10 s; the session is lost. -/
  | sessionLoss (idx : Fin 3)
  /-- R430: Session NOP operation. -/
  | sessionNop (idx : Fin 3) (tag : Word)
  /-- R432: Session READ of consecutive words without side effects. -/
  | read (idx : Fin 3) (tag : Word) (addr : Word) (count : Word)
  /-- R432: Session WRITE of consecutive register words under their access codes. -/
  | write (idx : Fin 3) (tag : Word) (addr : Word) (ws : List Word)
  /-- R434: Cancels LANDING and starts a transfer of TOTLEN bytes. -/
  | landBegin (idx : Fin 3) (tag : Word) (total : Word)
  /-- R434: Writes the next chunk of a landing transfer. -/
  | landData (idx : Fin 3) (tag : Word) (ofs : Word) (b : List Byte)
  /-- R434: Starts verification of the transferred image. -/
  | landVerify (idx : Fin 3) (tag : Word)
  /-- R434: Requests activation of a VERIFIED image. -/
  | landActivate (idx : Fin 3) (tag : Word)
  /-- R434: Empties LANDING. -/
  | landCancel (idx : Fin 3) (tag : Word)
  /-- R334: Copies PREVIOUS into LANDING for verification. -/
  | landPrevious (idx : Fin 3) (tag : Word)
  /-- R434: Session command that enters RUN cold from STOP. -/
  | modeRun (idx : Fin 3) (tag : Word) (n : Word)
  /-- R434: Session command that enters STOP with cause SVC. -/
  | modeStop (idx : Fin 3) (tag : Word) (n : Word)
  /-- R434: Session command that enters HOLD at the next end of an output phase. -/
  | modeHold (idx : Fin 3) (tag : Word) (n : Word)
  /-- R434: Session command that resumes RUN from HOLD. -/
  | modeResume (idx : Fin 3) (tag : Word) (n : Word)
  /-- R280: Session command that executes N single instructions in HOLD. -/
  | modeStep (idx : Fin 3) (tag : Word) (n : Word)
  /-- R434: Session command that closes the session and performs a SERVICE reset. -/
  | reset (idx : Fin 3) (tag : Word)
  /-- R434: Session command that writes CMD.REREF of an axis. -/
  | reref (idx : Fin 3) (tag : Word) (axis : Word)
  /-- R434: Session REQUEST kind 1: current-sensor calibration of an axis. -/
  | requestCalibration (idx : Fin 3) (tag : Word) (unit : Word)
  /-- R434: Session REQUEST kind 2: kerf relearn of a portal. -/
  | requestRelearn (idx : Fin 3) (tag : Word) (unit : Word)
  /-- R434: Session REQUEST kind 3: off-state open-load test of a channel. -/
  | requestOltest (idx : Fin 3) (tag : Word) (unit : Word) (shorted : Bool)
  /-- R434: Session REQUEST kind 4: Tally flush. -/
  | requestFlush (idx : Fin 3) (tag : Word) (unit : Word)
  /-- R344: Sets a force on a field of a tagged instance once written to MRAM. -/
  | forceSet (idx : Fin 3) (tag : Word) (t : Word) (field : Word) (value : Word) (ok0 : Bool) (ok1 : Bool)
  /-- R344: Releases a force. -/
  | forceRelease (idx : Fin 3) (tag : Word) (t : Word) (field : Word)
  /-- R434: Returns the forces present. -/
  | forceList (idx : Fin 3) (tag : Word)
  /-- R408: Returns Tally records from a sequence onwards. -/
  | tallyRead (idx : Fin 3) (tag : Word) (seq : BitVec 64) (maxlen : Word) (flags : Word)
  /-- R401: Commissions the module once, opening FIRST with a COMMISSION record. -/
  | commission (idx : Fin 3) (tag : Word)
  /-- R425: Returns a signed attestation report for a nonce. -/
  | attest (idx : Fin 3) (tag : Word) (nonce : List Byte)
  /-- R434: Writes a firmware package chunk into the idle bank and checks the complete package. -/
  | fwWrite (idx : Fin 3) (tag : Word) (ofs : Word) (total : Word) (b : List Byte)
  /-- R419: Writes a new envelope certificate, effective at the next reset. -/
  | envWrite (idx : Fin 3) (tag : Word) (cert : List Byte)
  /-- R414: Writes an anchor slot, effective at the next reset. -/
  | anchorWrite (idx : Fin 3) (tag : Word) (slot : Word) (key : List Byte)
  /-- R420: Raises an anti-rollback counter to the ROLLBACK in force. -/
  | advance (idx : Fin 3) (tag : Word) (counter : Word)
  /-- R433: Session COMMAND that carries one command into the journal. -/
  | command (idx : Fin 3) (tag : Word) (connid : Word) (tseq : Word) (kind : Byte) (target : Byte) (pad : BitVec 16) (arg : Word) (expms : Word)
  /-- R403: A flush of staged records to FIRST or ROLL completes. -/
  | tallyFlushComplete (wear : FlushWear)
  /-- R437: CTL below 14.0 V for 10 ms sets LOWMOT. -/
  | ctlLow (v : BitVec 12)
  /-- R437: CTL below 14.0 V for 50 ms sheds every head supply. -/
  | headShed
  /-- R437: CTL at or above 15.0 V for 1 s clears LOWMOT. -/
  | lowmotClear (v : BitVec 12)
  /-- R438: CTL above 137.5 V sets OV. -/
  | ctlOvervoltage (v : BitVec 12)
  /-- R439: MBUS undervoltage, overvoltage or reversal is detected. -/
  | mbusFault (v : BitVec 12) (rev : Bool)
  /-- R439: A mean MBUS current above 40 A over 60 s sets MBOC. -/
  | mbusOvercurrent
  /-- R440: CTL falls below 5.5 V and the hold-up bank takes the load. -/
  | ctlInterruption (v : BitVec 12) (len : BitVec 16)
  /-- R440: CTL returns to 6.0 V before the sequence starts; the interruption is ridden through. -/
  | interruptionEnd (v : BitVec 12) (lasted : Nat) (ea : BitVec 8) (eb : BitVec 8)
  /-- R443: 10 ms of interruption or the reserve is reached; the power-fail sequence runs to orderly halt. -/
  | powerFailStart (reserve : Bool) (len : BitVec 16)
  /-- R441: The 10-minute measured discharge test of each hold-up half. -/
  | holdupTest (ea : BitVec 8) (eb : BitVec 8)
  /-- R441: A hold-up half is found open, shorted or below 7.2 J and is isolated. -/
  | halfFailure (hub : Bool) (len : BitVec 16)
  /-- R442: With no healthy half, firmware requests a Tally flush every 10 ms. -/
  | noHalfFlush
  /-- R446: The 10 ms head admission evaluation switches on head supplies within the converter budget. -/
  | headAdmission (pcore : BitVec 12)
  /-- R447: A head supply in current limit for 20 ms is switched off, or locked on a second trip. -/
  | headTrip (p : PortalIx)
  /-- R447: 5 s after a trip the head supply waits for admission again. -/
  | headRetry (p : PortalIx)
  /-- R449: The control section reaches −38.0 °C, or −40.0 °C, and the start follows. -/
  | preheatComplete (tcs : BitVec 8) (len : BitVec 16)
  /-- R450: Every enabled wake input off for SLPDLY requests sleep. -/
  | autoSleep (lvl : BitVec 4)
  /-- R451: Entry to sleep once the idle window is open and no switch or interruption runs. -/
  | sleepEntry
  /-- R453: An enabled wake input goes on and holds for 20 ms, restarting the core warm. -/
  | wake (src : BitVec 4) (lvl : BitVec 4) (rtc : Nat)
  /-- R452: CTL lost for more than 2 s in sleep or after halt becomes a total loss of supply. -/
  | retentionLoss
  /-- R459: Reset release starts the boot sequence through to core up. -/
  | resetRelease (b : BootIn)
  /-- R459: Entry to RUN once the safety mode has left START, calibration ended and the reserve is held. -/
  | startupRunEntry (reserve : Bool)
  /-- R428: The 100 ms supervisor watchdog expires and resets the controller die. -/
  | supervisorWatchdog
  /-- R368: An Ethernet link (HL, PL, TN, XL, SG, SVC) comes up or goes down, updating NET.LNK and restarting the head's status-before-segments condition. -/
  | linkStateChange (l : EthLink) (up : Bool)
  /-- R391: A CAN controller enters bus-off on its error counts and clears its mailboxes' LINK bit. -/
  | canBusOff (idx : Fin 4)
  /-- R252: A field output in thermal shutdown cools to 140 °C and restarts automatically, clearing its FOST2.TSD bit. -/
  | foThermalRestart (n : Fin 16)
  /-- R257: FSUP0, FSUP1 or a portal's test sources cross the missing or low threshold, updating FIOSUPV, GFLT and the sticky GEVT bit. -/
  | groupSupplyChange (g : SupplyGroup) (v : BitVec 12)
  /-- R236: ALB falls back below 154 V, or an MBUS or CTL overvoltage or reversal ends, clearing the flag and for ALB writing the ending LS-SUPPLY record. -/
  | supplyFaultEnd (f : SupplyFault) (v : BitVec 12)
  /-- R430: A session request with an unlisted OP or a bad head is answered BADREQ, or a LEN beyond the limit closes the session. -/
  | sessionMalformedMessage (idx : Fin 3) (opc : BitVec 16) (tag : Word) (len : Word)
  /-- R425: The signed attestation report is complete and sent within 50 ms of its request, ending the BUSY period. -/
  | attestationReportReady
  /-- R461: Channel A's start-up self-test (or its restart tests after its own reset) ends, passing towards readiness or asserting the fault line. -/
  | startUpSelfTestComplete (ch : SafeCh) (pass : Bool) (stuck : BitVec 6) (noclose : BitVec 6)
  /-- R290: An instruction word with a reserved OP, FN, SUB or condition, a non-zero Zero field, or an undeclared tag is executed, entering STOP with cause ILLOP. -/
  | illegalWord (w : Word)
  /-- R302: An instruction fetch outside the code range or beyond the code length enters STOP with cause FETCH. -/
  | fetchOutsideCode
  deriving DecidableEq, Repr

end Sys2Proof
end

