-- ==== Sys2Proof/Decode.lean ====
section
/-! DEFINITION. The instruction words of Filif (R289 to R291): the command a word stands for, none for a word that is illegal whatever
the state. The command table itself gives no row any bits. -/

namespace Sys2Proof

/-- The fields of an instruction word, Table 11-1. -/
def opOf (w : Word) : Nat := (getF w 26 6).toNat
@[inherit_doc opOf] def dOf (w : Word) : Reg := (getF w 21 5).toFin
@[inherit_doc opOf] def aOf (w : Word) : Reg := (getF w 16 5).toFin
@[inherit_doc opOf] def bOf (w : Word) : Reg := (getF w 11 5).toFin
@[inherit_doc opOf] def immOf (w : Word) : BitVec 16 := getF w 0 16
@[inherit_doc opOf] def fnA (w : Word) : Nat := (getF w 0 6).toNat
@[inherit_doc opOf] def fnE (w : Word) : Nat := (getF w 8 8).toNat
@[inherit_doc opOf] def kOf (w : Word) : BitVec 8 := getF w 0 8
@[inherit_doc opOf] def subOf (w : Word) : Nat := (getF w 14 7).toNat
@[inherit_doc opOf] def tagOf (w : Word) : BitVec 14 := getF w 0 14
@[inherit_doc opOf] def condOf (w : Word) : BitVec 5 := getF w 21 5
@[inherit_doc opOf] def ofsOf (w : Word) : BitVec 21 := getF w 0 21

/-- An instruction whose unused fields are zero (R290). -/
def zeroed (fields : List Reg) (i : Instr) : Option Instr := if fields.all (· == 0) then some i else none

/-- OP 0x00, Table 11-4. -/
def decodeAlu (fn : Nat) (d a b : Reg) : Option Instr :=
  match fn with
  | 0x00 => some (.add d a b)
  | 0x01 => some (.adc d a b)
  | 0x02 => some (.sub d a b)
  | 0x03 => some (.sbc d a b)
  | 0x04 => zeroed [d] (.cmp a b)
  | 0x05 => zeroed [b] (.neg d a)
  | 0x08 => some (.and_ d a b)
  | 0x09 => some (.or_ d a b)
  | 0x0A => some (.xor_ d a b)
  | 0x0B => some (.andn d a b)
  | 0x0C => zeroed [d] (.tst a b)
  | 0x0D => zeroed [b] (.not_ d a)
  | 0x0E => zeroed [b] (.mov d a)
  | 0x0F => some (.sel d a b)
  | 0x10 => some (.shl d a b)
  | 0x11 => some (.shr d a b)
  | 0x12 => some (.sar d a b)
  | 0x13 => some (.ror d a b)
  | 0x18 => some (.mins d a b)
  | 0x19 => some (.maxs d a b)
  | 0x1A => some (.minu d a b)
  | 0x1B => some (.maxu d a b)
  | 0x1C => some (.adds d a b)
  | 0x1D => some (.subs d a b)
  | _ => none

/-- OP 0x01, Table 11-5. -/
def decodeMuldiv (fn : Nat) (d a b : Reg) : Option Instr :=
  match fn with
  | 0x00 => some (.mul d a b)
  | 0x01 => some (.mulh d a b)
  | 0x02 => some (.mulhu d a b)
  | 0x04 => some (.div d a b)
  | 0x05 => some (.divu d a b)
  | 0x06 => some (.rem d a b)
  | 0x07 => some (.remu d a b)
  | _ => none

/-- OP 0x02, Table 11-9; conditions above 16 are reserved (R293). -/
def decodeBreg (fn : Nat) (d a b : Reg) : Option Instr :=
  match fn with
  | 0x00 => zeroed [d] (.rld a b)
  | 0x01 => zeroed [d] (.rldn a b)
  | 0x02 => zeroed [d] (.rand a b)
  | 0x03 => zeroed [d] (.randn a b)
  | 0x04 => zeroed [d] (.rorContact a b)
  | 0x05 => zeroed [d] (.rorn a b)
  | 0x06 => zeroed [d] (.rxor a b)
  | 0x08 => zeroed [a] (.rst d b)
  | 0x09 => zeroed [a] (.rstn d b)
  | 0x0A => zeroed [a] (.rset d b)
  | 0x0B => zeroed [a] (.rrst d b)
  | 0x10 => zeroed [d, a, b] .bnot
  | 0x11 => zeroed [d, a, b] .bone
  | 0x12 => zeroed [d, a, b] .bzero
  | 0x13 => if b.val ≤ 16 then zeroed [d, a] (.bcc (BitVec.ofNat 5 b.val)) else none
  | 0x14 => zeroed [a, b] (.bget d)
  | 0x15 => zeroed [d, b] (.bput a)
  | _ => none

/-- OP 0x34, Table 12-5. -/
def decodeTag (sub : Nat) (d : Reg) (t : BitVec 14) : Option Instr :=
  match sub with
  | 0x00 => some (.trun d t)
  | 0x01 => some (.tpre d t)
  | 0x02 => zeroed [d] (.tres t)
  | 0x08 => zeroed [d] (.edr t)
  | 0x09 => zeroed [d] (.edf t)
  | 0x0A => zeroed [d] (.edlf t)
  | 0x10 => some (.ccu d t)
  | 0x11 => some (.ccd d t)
  | 0x12 => some (.cload d t)
  | 0x13 => some (.cres d t)
  | 0x14 => some (.cpre d t)
  | 0x18 => some (.lev d t)
  | 0x20 => some (.rtgt d t)
  | 0x21 => some (.rrate d t)
  | 0x22 => some (.rrun d t)
  | 0x23 => some (.rampRset d t)
  | 0x7F => some (.tadr d t)
  | _ => none

/-- OP 0x38, Table 11-10: K is zero. -/
def decodeSys (fn : Nat) (d a : Reg) (k : BitVec 8) : Option Instr :=
  if k ≠ 0 then none else
  match fn with
  | 0x00 => zeroed [d, a] .nop
  | 0x01 => zeroed [d, a] .eoc
  | 0x02 => zeroed [d, a] .retc
  | 0x04 => zeroed [a] (.rdf d)
  | 0x05 => zeroed [d] (.wrf a)
  | 0x08 => zeroed [d, a] .fence
  | 0x10 => some (.commit d a .none)
  | 0x11 => some (.bmove d a)
  | _ => none

/-- A literal K within the range, or 0xFF (R322). -/
def kIn (n : Nat) (k : BitVec 8) (i : Instr) : Option Instr := if k.toNat < n ∨ k = 0xFF then some i else none

/-- OP 0x39, Table 12-7. -/
def decodeMot (fn : Nat) (d a : Reg) (k : BitVec 8) : Option Instr :=
  match fn with
  | 0x00 => kIn 64 k (.mtgt d a k .none)
  | 0x01 => if k.toNat < 16 then some (.mleaf d a k .none) else none
  | 0x02 => kIn 64 k (.mvlim d a k)
  | 0x03 => kIn 64 k (.mcmd d a k)
  | 0x04 => kIn 16 k (.pcmd d a k)
  | 0x08 => kIn 64 k (.mstat d k)
  | 0x09 => kIn 64 k (.mpos d k)
  | 0x10 => kIn 64 k (.bhit d k)
  | 0x11 => kIn 64 k (.brearm d a k)
  | 0x18 => kIn 48 k (.lsw d a k .none)
  | 0x19 => kIn 48 k (.lswb d k .none)
  | _ => none

/-- OP 0x3A, Table 12-8. -/
def decodeEmit (fn : Nat) (d a : Reg) (k : BitVec 8) : Option Instr :=
  match fn with
  | 0x00 => if k ≠ 0xFF then some (.trec d a k) else none
  | 0x01 => if k ≠ 0xFF then some (.tword d a k) else none
  | 0x10 => if k.toNat < 64 then some (.mbsend d a k) else none
  | 0x11 => if k.toNat < 64 then some (.mbrecv d a k) else none
  | 0x12 => if k.toNat < 64 then zeroed [a] (.mbstat d k) else none
  | _ => none

/-- The instruction a word stands for (R289 to R291). The fabric fault of a load or COMMIT is no part of the word: none is met. -/
def decodeFilif (w : Word) : Option Instr :=
  let d := dOf w
  let a := aOf w
  let b := bOf w
  let i := immOf w
  let k := kOf w
  match opOf w with
  | 0x00 => if getF w 6 5 = 0 then decodeAlu (fnA w) d a b else none
  | 0x01 => if getF w 6 5 = 0 then decodeMuldiv (fnA w) d a b else none
  | 0x02 => if getF w 6 5 = 0 then decodeBreg (fnA w) d a b else none
  | 0x03 =>
    if getF w 6 5 ≠ 0 then none
    else if fnA w = 0 then zeroed [d, b] (.jr a)
    else if fnA w = 1 then zeroed [b] (.jrl d a)
    else none
  | 0x08 => some (.addi d a i)
  | 0x09 => zeroed [d] (.cmpi a i)
  | 0x0A => some (.andi d a i)
  | 0x0B => some (.ori d a i)
  | 0x0C => some (.xori d a i)
  | 0x0D => zeroed [a] (.lui d i)
  | 0x0E => if i.toNat < 128 then some (.shi d a i) else none
  | 0x0F => zeroed [d] (.tsti a i)
  | 0x10 => some (.ldw d a i .none)
  | 0x11 => some (.ldh d a i .none)
  | 0x12 => some (.ldhu d a i .none)
  | 0x13 => some (.ldb d a i .none)
  | 0x14 => some (.ldbu d a i .none)
  | 0x18 => some (.stw d a i)
  | 0x19 => some (.sth d a i)
  | 0x1A => some (.stb d a i)
  | 0x20 => some (.cld d a i .none)
  | 0x21 => some (.cldn d a i .none)
  | 0x22 => some (.cand d a i .none)
  | 0x23 => some (.candn d a i .none)
  | 0x24 => some (.cor d a i .none)
  | 0x25 => some (.corn d a i .none)
  | 0x26 => some (.cxor d a i .none)
  | 0x28 => some (.cst d a i .none)
  | 0x29 => some (.cstn d a i .none)
  | 0x2A => some (.cset d a i .none)
  | 0x2B => some (.crst d a i .none)
  | 0x30 => if (condOf w).toNat ≤ 16 then some (.br (condOf w) (ofsOf w)) else none
  | 0x31 => if (condOf w).toNat ≤ 16 then some (.brl (condOf w) (ofsOf w)) else none
  | 0x34 => decodeTag (subOf w) d (tagOf w)
  | 0x38 => decodeSys (fnE w) d a k
  | 0x39 => decodeMot (fnE w) d a k
  | 0x3A => decodeEmit (fnE w) d a k
  | _ => none

/-- The command a word spells by the table's bits: the table gives no row any bits. -/
def decodeTableWord (_nbits _w : Nat) : Option Instr := none

end Sys2Proof
end

