-- ==== Sys2Proof/Config.lean ====
section
/-! DEFINITION. What the spec leaves open. Each constant is opaque: no proof can see a value of it, so a statement about a free
value holds for every value (log 4). -/

namespace Sys2Proof.Config

/-- The n-th free value of a run, as a natural number (log 4). -/
opaque free : Nat → Nat

/-- The n-th free value of a run, as an integer (log 4). -/
opaque freeInt : Nat → Int

/-- Does this signature over these bytes verify under this public key? (R412, R413: ECDSA P-384 is not computed here; log 5). -/
opaque sigOk : List Byte → List Byte → List Byte → Bool

/-- SHA-384 of a run of bytes (R412; log 5). -/
opaque sha384 : List Byte → List Byte

/-- The signature that the device identity key makes over these bytes (R425; log 5). -/
opaque deviceSign : List Byte → List Byte

/-- The device identity certificate beside its subject serialNumber (R413; log 5). -/
opaque deviceCert : List Byte

/-- R415: the signature of the FACTORY image verifies under the Porvar firmware key (log 5). -/
opaque factorySigOk : List Byte → Bool

/-- The digest of a kerf model: a CRC-32C over a layout that the spec does not give (R173; log 9). -/
opaque modelDigest : List Nat → List Nat → BitVec 32

/-- The q component of three phase currents (mA) at an electrical angle (2^-16 revolution): R138, R145 state no transform. -/
opaque currentQ : Int → Int × Int × Int → Int

/-- The d component likewise. -/
opaque currentD : Int → Int × Int × Int → Int

/-- R415: both signatures of a firmware package verify under the Porvar firmware key (its format is not given; log 5). -/
opaque fwSigOk : List Byte → Bool

/-- R415: ROLLBACK, PART, the version that SYS.ID.FWVER shows, and the system and channel A parts of a package (log 5). -/
opaque fwRollback : List Byte → BitVec 32
@[inherit_doc fwRollback] opaque fwPart : List Byte → BitVec 32
@[inherit_doc fwRollback] opaque fwVersion : List Byte → BitVec 16
@[inherit_doc fwRollback] opaque fwSystem : List Byte → List Byte
@[inherit_doc fwRollback] opaque fwSafety : List Byte → List Byte

/-- R415: by their headers, the first of two packages is the newer (log 5). -/
opaque fwNewer : List Byte → List Byte → Bool

/-- The MAC address of the module's TN port, assigned at manufacture (R365; log 15). -/
opaque tnMac : BitVec 48

end Sys2Proof.Config
end

