-- ==== Sys2Proof/Machine/Codes.lean ====
section
/-! DEFINITION. The named codes of the register tables: axis states, trust, window states, modes, request states. -/

namespace Sys2Proof.Machine

/-- Table 3-3, AXC.STATE.STATE. -/
inductive AxState where
  | disabled | idle | warnhold | queued | moving | halting | stopped | referencing
  deriving DecidableEq, Repr

/-- The code of Table 3-3. -/
def AxState.code : AxState → BitVec 4
  | .disabled => 0 | .idle => 1 | .warnhold => 2 | .queued => 3
  | .moving => 4 | .halting => 5 | .stopped => 6 | .referencing => 7

/-- Table 3-5, position trust. -/
inductive Trust where
  | trusted | degraded | untrusted
  deriving DecidableEq, Repr

/-- The code of Table 3-5. -/
def Trust.code : Trust → BitVec 2
  | .trusted => 0 | .degraded => 1 | .untrusted => 2

/-- Table 4-2, speed quality. -/
inductive Qual where
  | measured | upper | lower | still
  deriving DecidableEq, Repr

/-- The code of Table 4-2. -/
def Qual.code : Qual → BitVec 2
  | .measured => 0 | .upper => 1 | .lower => 2 | .still => 3

/-- Table 6-1, kerf window states. -/
inductive KWin where
  | closed | closing | watch
  deriving DecidableEq, Repr

/-- The code of Table 6-1. -/
def KWin.code : KWin → BitVec 2
  | .closed => 0 | .closing => 1 | .watch => 2

/-- A verdict as PRT.STAT.KERF encodes it. -/
inductive Verdict where
  | closed | clear | occupied | blind
  deriving DecidableEq, Repr

/-- The code of PRT.STAT.KERF. -/
def Verdict.code : Verdict → BitVec 2
  | .closed => 0 | .clear => 1 | .occupied => 2 | .blind => 3

/-- KRF.STAT.MODEL. -/
inductive ModelStat where
  | valid | absent | crcFailed
  deriving DecidableEq, Repr

/-- The code of KRF.STAT.MODEL. -/
def ModelStat.code : ModelStat → BitVec 2
  | .valid => 1 | .absent => 2 | .crcFailed => 3

/-- AXC.CAL.STATUS and KRF.STAT.LRN. -/
inductive ReqStat where
  | idle | deferred | running | done | failed
  deriving DecidableEq, Repr

/-- The code of AXC.CAL.STATUS and KRF.STAT.LRN. -/
def ReqStat.code : ReqStat → BitVec 3
  | .idle => 0 | .deferred => 1 | .running => 2 | .done => 3 | .failed => 4

/-- LSB.STAT.OLT. -/
inductive OltStat where
  | idle | deferred | running | pass | openLoad | shtalb
  deriving DecidableEq, Repr

/-- The code of LSB.STAT.OLT. -/
def OltStat.code : OltStat → BitVec 3
  | .idle => 0 | .deferred => 1 | .running => 2 | .pass => 3 | .openLoad => 4 | .shtalb => 5

/-- SYS.MODE.MODE. -/
inductive RunMode where
  | stop | run | hold
  deriving DecidableEq, Repr

/-- The code of SYS.MODE.MODE. -/
def RunMode.code : RunMode → BitVec 2
  | .stop => 0 | .run => 1 | .hold => 2

/-- LND.STAT.STATE. -/
inductive LndState where
  | empty | receiving | verifying | verified | held | switching | rejected
  deriving DecidableEq, Repr

/-- The code of LND.STAT.STATE. -/
def LndState.code : LndState → BitVec 3
  | .empty => 0 | .receiving => 1 | .verifying => 2 | .verified => 3 | .held => 4 | .switching => 5 | .rejected => 6

/-- Table 1-2, calendar time source. -/
inductive CalSrc where
  | unset | free | ptp | sync | holdover
  deriving DecidableEq, Repr

/-- The code of Table 1-2. -/
def CalSrc.code : CalSrc → BitVec 3
  | .unset => 0 | .free => 1 | .ptp => 2 | .sync => 3 | .holdover => 4

/-- NET.TWIN.STATE. -/
inductive TwinState where
  | idle | up | split | lost
  deriving DecidableEq, Repr

/-- The code of NET.TWIN.STATE. -/
def TwinState.code : TwinState → BitVec 2
  | .idle => 0 | .up => 1 | .split => 2 | .lost => 3

/-- PWR.SLPST.STATE. -/
inductive SlpState where
  | awake | deferred | entering
  deriving DecidableEq, Repr

/-- The code of PWR.SLPST.STATE. -/
def SlpState.code : SlpState → BitVec 2
  | .awake => 0 | .deferred => 1 | .entering => 2

/-- SST.MODE.MODE, Table 7-9. -/
inductive SMode where
  | start | normal | resync | degA | degH | linkloss | arbitrating | undecided | failed
  deriving DecidableEq, Repr

/-- The code of SST.MODE.MODE. -/
def SMode.code : SMode → BitVec 4
  | .start => 0 | .normal => 1 | .resync => 2 | .degA => 3 | .degH => 4 | .linkloss => 5
  | .arbitrating => 6 | .undecided => 7 | .failed => 8

end Sys2Proof.Machine
end

