-- ==== Sys2Proof/Machine/RegSystem.lean ====
section
/-! DEFINITION. The register blocks TIM, FAB, SYS, LND, CMJ, RST, PWR, TRU, TAL of the address map (Table 1-7), field by field as
their register tables give them: bits, access code and reset value. Fields that only mirror other state are not stored
here; Machine/BusRead.lean computes them. `toWord` is what a read gives, `img` what an image record sets (access IMG),
`write` what a writer sets under Table 0-6 (RW and W1C), under a mask of the bits the access carries. -/

namespace Sys2Proof.Machine

/-- TIM.UTCOFS — UTC offset, offset 0x0010 (register table after R26). -/
structure TimUtcofs where
  seconds : BitVec 16 := 0  -- [15:0] RO
  valid : Bool := false  -- [16:16] RO
  deriving DecidableEq, Repr

/-- The word a read of TIM.UTCOFS gives, as far as it is stored here. -/
def TimUtcofs.toWord (r : TimUtcofs) : Word :=
  putV r.seconds 0 ||| putB r.valid 16

/-- TIM.SRC — Calendar source status, offset 0x0014 (register table after R26). -/
structure TimSrc where
  state : CalSrc := .unset  -- [2:0] RO
  valid : Bool := false  -- [3:3] RO
  stepped : Bool := false  -- [8:8] W1C
  ppsloss : Bool := false  -- [9:9] W1C
  ptploss : Bool := false  -- [10:10] W1C
  deriving DecidableEq, Repr

/-- The word a read of TIM.SRC gives, as far as it is stored here. -/
def TimSrc.toWord (r : TimSrc) : Word :=
  putV r.state.code 0 ||| putB r.valid 3 ||| putB r.stepped 8 ||| putB r.ppsloss 9 ||| putB r.ptploss 10

/-- A write of the bits `m` of TIM.SRC (Table 0-6). -/
def TimSrc.write (r : TimSrc) (w m : Word) : TimSrc :=
  { r with stepped := r.stepped && !((w &&& m).getLsbD 8), ppsloss := r.ppsloss && !((w &&& m).getLsbD 9), ptploss := r.ptploss && !((w &&& m).getLsbD 10) }

/-- TIM.CLKMON — Clock cross-check, offset 0x0018 (register table after R26). -/
structure TimClkmon where
  dev : BitVec 16 := 0  -- [15:0] RO
  fault : Bool := false  -- [16:16] RO
  deriving DecidableEq, Repr

/-- The word a read of TIM.CLKMON gives, as far as it is stored here. -/
def TimClkmon.toWord (r : TimClkmon) : Word :=
  putV r.dev 0 ||| putB r.fault 16

/-- The stored registers of one TIM block. -/
structure Tim where
  utcofs : TimUtcofs := {}
  src : TimSrc := {}
  clkmon : TimClkmon := {}
  deriving DecidableEq, Repr

/-- The word at offset `off` of the block as a read gives it, as far as it is stored here; 0 elsewhere (R6). -/
def Tim.regRead (b : Tim) (off : Nat) : Word :=
  match off with
  | 0x10 => b.utcofs.toWord
  | 0x14 => b.src.toWord
  | 0x18 => b.clkmon.toWord
  | _ => 0

/-- A writer sets the bits `m` of the word at offset `off` of the block (Table 0-6, RW and W1C; the rest is ignored). -/
def Tim.regWrite (b : Tim) (off : Nat) (w m : Word) : Tim :=
  match off with
  | 0x14 => { b with src := b.src.write w m }
  | _ => b

/-- Bits of the word at `off` that are IMG fields (R332: an image record may write no other bit as one). -/
def Tim.imgMask (off : Nat) : Word :=
  match off with
  | _ => 0

/-- FAB.INFL — In-flight operations, offset 0x0000 (register table after R38). -/
structure FabInfl where
  kerf : BitVec 8 := 0  -- [7:0] RO
  net : BitVec 8 := 0  -- [15:8] RO
  fil : BitVec 8 := 0  -- [23:16] RO
  tal : BitVec 8 := 0  -- [31:24] RO
  deriving DecidableEq, Repr

/-- The word a read of FAB.INFL gives, as far as it is stored here. -/
def FabInfl.toWord (r : FabInfl) : Word :=
  putV r.kerf 0 ||| putV r.net 8 ||| putV r.fil 16 ||| putV r.tal 24

/-- FAB.ECCCNT — ECC event counts, offset 0x0008 (register table after R38). -/
structure FabEcccnt where
  corr : BitVec 16 := 0  -- [15:0] RO
  uncorr : BitVec 16 := 0  -- [31:16] RO
  deriving DecidableEq, Repr

/-- The word a read of FAB.ECCCNT gives, as far as it is stored here. -/
def FabEcccnt.toWord (r : FabEcccnt) : Word :=
  putV r.corr 0 ||| putV r.uncorr 16

/-- FAB.LASTF — Last fabric fault, offset 0x0010 (register table after R38). -/
structure FabLastf where
  kind : BitVec 4 := 0  -- [3:0] RO
  source : BitVec 4 := 0  -- [7:4] RO
  mram1 : Bool := false  -- [8:8] RO
  mram0 : Bool := false  -- [9:9] RO
  new : Bool := false  -- [31:31] W1C
  deriving DecidableEq, Repr

/-- The word a read of FAB.LASTF gives, as far as it is stored here. -/
def FabLastf.toWord (r : FabLastf) : Word :=
  putV r.kind 0 ||| putV r.source 4 ||| putB r.mram1 8 ||| putB r.mram0 9 ||| putB r.new 31

/-- A write of the bits `m` of FAB.LASTF (Table 0-6). -/
def FabLastf.write (r : FabLastf) (w m : Word) : FabLastf :=
  { r with new := r.new && !((w &&& m).getLsbD 31) }

/-- The stored registers of one FAB block. -/
structure Fab where
  infl : FabInfl := {}
  infls : BitVec 8 := 0
  ecccnt : FabEcccnt := {}
  tocnt : BitVec 16 := 0
  lastf : FabLastf := {}
  lasta : BitVec 32 := 0
  deriving DecidableEq, Repr

/-- The word at offset `off` of the block as a read gives it, as far as it is stored here; 0 elsewhere (R6). -/
def Fab.regRead (b : Fab) (off : Nat) : Word :=
  match off with
  | 0x0 => b.infl.toWord
  | 0x4 => putV b.infls 0
  | 0x8 => b.ecccnt.toWord
  | 0xc => putV b.tocnt 0
  | 0x10 => b.lastf.toWord
  | 0x14 => putV b.lasta 0
  | _ => 0

/-- A writer sets the bits `m` of the word at offset `off` of the block (Table 0-6, RW and W1C; the rest is ignored). -/
def Fab.regWrite (b : Fab) (off : Nat) (w m : Word) : Fab :=
  match off with
  | 0x10 => { b with lastf := b.lastf.write w m }
  | _ => b

/-- Bits of the word at `off` that are IMG fields (R332: an image record may write no other bit as one). -/
def Fab.imgMask (off : Nat) : Word :=
  match off with
  | _ => 0

/-- SYS.ID — Module identity, offset 0x0000 (register table after R287). -/
structure SysId where
  variant : BitVec 4 := 0  -- [3:0] RO
  hwrev : BitVec 8 := 0  -- [15:8] RO
  fwver : BitVec 16 := 0  -- [31:16] RO
  deriving DecidableEq, Repr

/-- The word a read of SYS.ID gives, as far as it is stored here. -/
def SysId.toWord (r : SysId) : Word :=
  putV r.variant 0 ||| putV r.hwrev 8 ||| putV r.fwver 16

/-- SYS.MODE — Execution mode, offset 0x0004 (register table after R287). -/
structure SysMode where
  mode : RunMode := .stop  -- [1:0] RO
  factory : Bool := false  -- [2:2] RO
  warm : Bool := false  -- [3:3] RO
  cause : BitVec 4 := 10  -- [11:8] RO
  deriving DecidableEq, Repr

/-- The word a read of SYS.MODE gives, as far as it is stored here. -/
def SysMode.toWord (r : SysMode) : Word :=
  putV r.mode.code 0 ||| putB r.factory 2 ||| putB r.warm 3 ||| putV r.cause 8

/-- SYS.CYCT — Cycle length, offset 0x0010 (register table after R287). -/
structure SysCyct where
  last : BitVec 16 := 0  -- [15:0] RO
  max : BitVec 16 := 0  -- [31:16] RO
  deriving DecidableEq, Repr

/-- The word a read of SYS.CYCT gives, as far as it is stored here. -/
def SysCyct.toWord (r : SysCyct) : Word :=
  putV r.last 0 ||| putV r.max 16

/-- SYS.WDT — Watchdog and period, offset 0x0014 (register table after R287). -/
structure SysWdt where
  wdt : BitVec 15 := 2000  -- [14:0] IMG
  mincyc : BitVec 15 := 0  -- [30:16] IMG
  deriving DecidableEq, Repr

/-- The word a read of SYS.WDT gives, as far as it is stored here. -/
def SysWdt.toWord (r : SysWdt) : Word :=
  putV r.wdt 0 ||| putV r.mincyc 16

/-- An image record writes SYS.WDT (R5 IMG, R332). -/
def SysWdt.img (r : SysWdt) (w : Word) : SysWdt :=
  { r with wdt := getF w 0 15, mincyc := getF w 16 15 }

/-- SYS.RST — Restart policy, offset 0x0018 (register table after R287). -/
structure SysRst where
  auto : BitVec 2 := 0  -- [1:0] IMG
  cold : Bool := false  -- [2:2] IMG
  deriving DecidableEq, Repr

/-- The word a read of SYS.RST gives, as far as it is stored here. -/
def SysRst.toWord (r : SysRst) : Word :=
  putV r.auto 0 ||| putB r.cold 2

/-- An image record writes SYS.RST (R5 IMG, R332). -/
def SysRst.img (r : SysRst) (w : Word) : SysRst :=
  { r with auto := getF w 0 2, cold := w.getLsbD 2 }

/-- SYS.PLCFG — Panel exchange, offset 0x0020 (register table after R287). -/
structure SysPlcfg where
  plen : BitVec 16 := 0  -- [15:0] IMG
  plwait : BitVec 8 := 100  -- [23:16] IMG
  pltmo : BitVec 8 := 50  -- [31:24] IMG
  deriving DecidableEq, Repr

/-- The word a read of SYS.PLCFG gives, as far as it is stored here. -/
def SysPlcfg.toWord (r : SysPlcfg) : Word :=
  putV r.plen 0 ||| putV r.plwait 16 ||| putV r.pltmo 24

/-- An image record writes SYS.PLCFG (R5 IMG, R332). -/
def SysPlcfg.img (r : SysPlcfg) (w : Word) : SysPlcfg :=
  { r with plen := getF w 0 16, plwait := getF w 16 8, pltmo := getF w 24 8 }

/-- SYS.PLSTAT — Panel status, offset 0x0024 (register table after R287). -/
structure SysPlstat where
  miss : BitVec 16 := 0  -- [15:0] RO
  plflt : BitVec 16 := 0  -- [31:16] RO
  deriving DecidableEq, Repr

/-- The word a read of SYS.PLSTAT gives, as far as it is stored here. -/
def SysPlstat.toWord (r : SysPlstat) : Word :=
  putV r.miss 0 ||| putV r.plflt 16

/-- SYS.COCNT — Call-out statistics, offset 0x0030 (register table after R287). -/
structure SysCocnt where
  lost : BitVec 16 := 0  -- [15:0] RO
  undecl : BitVec 16 := 0  -- [31:16] RO
  deriving DecidableEq, Repr

/-- The word a read of SYS.COCNT gives, as far as it is stored here. -/
def SysCocnt.toWord (r : SysCocnt) : Word :=
  putV r.lost 0 ||| putV r.undecl 16

/-- SYS.STOPN — Stop statistics, offset 0x003C (register table after R287). -/
structure SysStopn where
  stops : BitVec 16 := 0  -- [15:0] RO
  wdogn : BitVec 16 := 0  -- [31:16] RO
  deriving DecidableEq, Repr

/-- The word a read of SYS.STOPN gives, as far as it is stored here. -/
def SysStopn.toWord (r : SysStopn) : Word :=
  putV r.stops 0 ||| putV r.wdogn 16

/-- SYS.BRKn — Breakpoint n, offset 0x0100 + 0x4 × n, n = 0 to 7 (register table after R287). -/
structure SysBrk where
  en : Bool := false  -- [0:0] RW
  addr : BitVec 22 := 0  -- [23:2] RW
  deriving DecidableEq, Repr

/-- The word a read of SYS.BRKn gives, as far as it is stored here. -/
def SysBrk.toWord (r : SysBrk) : Word :=
  putB r.en 0 ||| putV r.addr 2

/-- A write of the bits `m` of SYS.BRKn (Table 0-6). -/
def SysBrk.write (r : SysBrk) (w m : Word) : SysBrk :=
  { r with en := if m.getLsbD 0 then w.getLsbD 0 else r.en, addr := fmix r.addr (getF w 2 22) (getF m 2 22) }

/-- The stored registers of one SYS block. -/
structure Sys where
  id : SysId := {}
  mode : SysMode := {}
  cyct : SysCyct := {}
  wdt : SysWdt := {}
  rst : SysRst := {}
  plcfg : SysPlcfg := {}
  plstat : SysPlstat := {}
  plcnt : BitVec 16 := 0
  cocnt : SysCocnt := {}
  comax : BitVec 11 := 0
  bmstat : BitVec 16 := 0
  stopn : SysStopn := {}
  violn : BitVec 32 := 0
  viola : BitVec 32 := 0
  brk : Vector (SysBrk) 8 := Vector.replicate 8 {}
  deriving DecidableEq, Repr

/-- An image record writes the word at offset `off` of the block; an offset with no IMG field keeps all (R332). -/
def Sys.imgWrite (b : Sys) (off : Nat) (w : Word) : Sys :=
  match off with
  | 0x14 => { b with wdt := b.wdt.img w }
  | 0x18 => { b with rst := b.rst.img w }
  | 0x20 => { b with plcfg := b.plcfg.img w }
  | _ => b

/-- Every IMG field of the block at its reset value, the rest kept (R332: a field no record writes takes its reset value). -/
def Sys.imgReset (b : Sys) : Sys :=
  { b with wdt := {},
           rst := {},
           plcfg := {} }

/-- The word at offset `off` of the block as a read gives it, as far as it is stored here; 0 elsewhere (R6). -/
def Sys.regRead (b : Sys) (off : Nat) : Word :=
  match off with
  | 0x0 => b.id.toWord
  | 0x4 => b.mode.toWord
  | 0x10 => b.cyct.toWord
  | 0x14 => b.wdt.toWord
  | 0x18 => b.rst.toWord
  | 0x20 => b.plcfg.toWord
  | 0x24 => b.plstat.toWord
  | 0x28 => putV b.plcnt 0
  | 0x30 => b.cocnt.toWord
  | 0x34 => putV b.comax 0
  | 0x38 => putV b.bmstat 16
  | 0x3c => b.stopn.toWord
  | 0x80 => putV b.violn 0
  | 0x84 => putV b.viola 0
  | _ => if 0x100 ≤ off ∧ off < 0x120 then (vget b.brk ((off - 0x100) / 4) {}).toWord else 0

/-- A writer sets the bits `m` of the word at offset `off` of the block (Table 0-6, RW and W1C; the rest is ignored). -/
def Sys.regWrite (b : Sys) (off : Nat) (w m : Word) : Sys :=
  match off with
  | _ => if 0x100 ≤ off ∧ off < 0x120 then { b with brk := vmod b.brk ((off - 0x100) / 4) fun r => r.write w m } else b

/-- Bits of the word at `off` that are IMG fields (R332: an image record may write no other bit as one). -/
def Sys.imgMask (off : Nat) : Word :=
  match off with
  | 0x14 => 0x7fff7fff
  | 0x18 => 0x7
  | 0x20 => 0xffffffff
  | _ => 0

/-- LND.STAT — Landing status, offset 0x0000 (register table after R349). -/
structure LndStat where
  state : LndState := .empty  -- [2:0] RO
  reject : BitVec 4 := 0  -- [11:8] RO
  holdrsn : BitVec 4 := 0  -- [15:12] RO
  fallbk : Bool := false  -- [16:16] RO
  deriving DecidableEq, Repr

/-- The word a read of LND.STAT gives, as far as it is stored here. -/
def LndStat.toWord (r : LndStat) : Word :=
  putV r.state.code 0 ||| putV r.reject 8 ||| putV r.holdrsn 12 ||| putB r.fallbk 16

/-- The stored registers of one LND block. -/
structure Lnd where
  stat : LndStat := {}
  swn : BitVec 32 := 0
  frc : Bool := false
  deriving DecidableEq, Repr

/-- The word at offset `off` of the block as a read gives it, as far as it is stored here; 0 elsewhere (R6). -/
def Lnd.regRead (b : Lnd) (off : Nat) : Word :=
  match off with
  | 0x0 => b.stat.toWord
  | 0x18 => putV b.swn 0
  | 0x1c => putB b.frc 16
  | _ => 0

/-- A writer sets the bits `m` of the word at offset `off` of the block (Table 0-6, RW and W1C; the rest is ignored). -/
def Lnd.regWrite (b : Lnd) (off : Nat) (w m : Word) : Lnd :=
  match off with
  | 0x1c => { b with frc := b.frc && !((w &&& m).getLsbD 16) }
  | _ => b

/-- Bits of the word at `off` that are IMG fields (R332: an image record may write no other bit as one). -/
def Lnd.imgMask (off : Nat) : Word :=
  match off with
  | _ => 0

/-- CMJ.CNT — Statistics, offset 0x0038 (register table after R363). -/
structure CmjCnt where
  accn : BitVec 16 := 0  -- [15:0] RO
  dupn : BitVec 16 := 0  -- [31:16] RO
  deriving DecidableEq, Repr

/-- The word a read of CMJ.CNT gives, as far as it is stored here. -/
def CmjCnt.toWord (r : CmjCnt) : Word :=
  putV r.accn 0 ||| putV r.dupn 16

/-- CMJ.NAKN — Refusals, offset 0x003C (register table after R363). -/
structure CmjNakn where
  nakn : BitVec 16 := 0  -- [15:0] RO
  expn : BitVec 16 := 0  -- [31:16] RO
  deriving DecidableEq, Repr

/-- The word a read of CMJ.NAKN gives, as far as it is stored here. -/
def CmjNakn.toWord (r : CmjNakn) : Word :=
  putV r.nakn 0 ||| putV r.expn 16

/-- The stored registers of one CMJ block. -/
structure Cmj where
  rstat : BitVec 2 := 0
  cnt : CmjCnt := {}
  nakn : CmjNakn := {}
  epoch : BitVec 32 := 0
  defexp : BitVec 20 := 10000
  deriving DecidableEq, Repr

/-- An image record writes the word at offset `off` of the block; an offset with no IMG field keeps all (R332). -/
def Cmj.imgWrite (b : Cmj) (off : Nat) (w : Word) : Cmj :=
  match off with
  | 0x44 => { b with defexp := getF w 0 20 }
  | _ => b

/-- Every IMG field of the block at its reset value, the rest kept (R332: a field no record writes takes its reset value). -/
def Cmj.imgReset (b : Cmj) : Cmj :=
  { b with defexp := 10000 }

/-- The word at offset `off` of the block as a read gives it, as far as it is stored here; 0 elsewhere (R6). -/
def Cmj.regRead (b : Cmj) (off : Nat) : Word :=
  match off with
  | 0x34 => putV b.rstat 0
  | 0x38 => b.cnt.toWord
  | 0x3c => b.nakn.toWord
  | 0x40 => putV b.epoch 0
  | 0x44 => putV b.defexp 0
  | _ => 0

/-- Bits of the word at `off` that are IMG fields (R332: an image record may write no other bit as one). -/
def Cmj.imgMask (off : Nat) : Word :=
  match off with
  | 0x44 => 0xfffff
  | _ => 0

/-- RST.LAST — Last reset, offset 0x0000 (register table after R466). -/
structure RstLast where
  src : BitVec 3 := 0  -- [2:0] RO
  nohalt : Bool := false  -- [3:3] RO
  bankwait : Bool := false  -- [4:4] RO
  deriving DecidableEq, Repr

/-- The word a read of RST.LAST gives, as far as it is stored here. -/
def RstLast.toWord (r : RstLast) : Word :=
  putV r.src 0 ||| putB r.nohalt 3 ||| putB r.bankwait 4

/-- RST.BOOT — Boot times, offset 0x0004 (register table after R466). -/
structure RstBoot where
  core : BitVec 12 := 0  -- [11:0] RO
  run : BitVec 12 := 0  -- [27:16] RO
  deriving DecidableEq, Repr

/-- The word a read of RST.BOOT gives, as far as it is stored here. -/
def RstBoot.toWord (r : RstBoot) : Word :=
  putV r.core 0 ||| putV r.run 16

/-- RST.CNT — Reset statistics, offset 0x0008 (register table after R466). -/
structure RstCnt where
  supn : BitVec 16 := 0  -- [15:0] RO
  nohaltn : BitVec 16 := 0  -- [31:16] RO
  deriving DecidableEq, Repr

/-- The word a read of RST.CNT gives, as far as it is stored here. -/
def RstCnt.toWord (r : RstCnt) : Word :=
  putV r.supn 0 ||| putV r.nohaltn 16

/-- RST.ARST — Channel A resets, offset 0x0010 (register table after R466). -/
structure RstArst where
  n : BitVec 16 := 0  -- [15:0] RO
  lastms : BitVec 16 := 0  -- [31:16] RO
  deriving DecidableEq, Repr

/-- The word a read of RST.ARST gives, as far as it is stored here. -/
def RstArst.toWord (r : RstArst) : Word :=
  putV r.n 0 ||| putV r.lastms 16

/-- The stored registers of one RST block. -/
structure Rst where
  last : RstLast := {}
  boot : RstBoot := {}
  cnt : RstCnt := {}
  arst : RstArst := {}
  deriving DecidableEq, Repr

/-- The word at offset `off` of the block as a read gives it, as far as it is stored here; 0 elsewhere (R6). -/
def Rst.regRead (b : Rst) (off : Nat) : Word :=
  match off with
  | 0x0 => b.last.toWord
  | 0x4 => b.boot.toWord
  | 0x8 => b.cnt.toWord
  | 0x10 => b.arst.toWord
  | _ => 0

/-- Bits of the word at `off` that are IMG fields (R332: an image record may write no other bit as one). -/
def Rst.imgMask (off : Nat) : Word :=
  match off with
  | _ => 0

/-- PWR.CTL — Control supply, offset 0x0000 (register table after R456). -/
structure PwrCtl where
  v : BitVec 12 := 0  -- [11:0] RO
  lowmot : Bool := false  -- [12:12] RO
  ov : Bool := false  -- [13:13] RO
  hu : Bool := false  -- [14:14] RO
  deriving DecidableEq, Repr

/-- The word a read of PWR.CTL gives, as far as it is stored here. -/
def PwrCtl.toWord (r : PwrCtl) : Word :=
  putV r.v 0 ||| putB r.lowmot 12 ||| putB r.ov 13 ||| putB r.hu 14

/-- PWR.MBUS — Motor bus, offset 0x0004 (register table after R456). -/
structure PwrMbus where
  v : BitVec 12 := 0  -- [11:0] RO
  uv : Bool := false  -- [12:12] RO
  ov : Bool := false  -- [13:13] RO
  rev : Bool := false  -- [14:14] RO
  deriving DecidableEq, Repr

/-- The word a read of PWR.MBUS gives, as far as it is stored here. -/
def PwrMbus.toWord (r : PwrMbus) : Word :=
  putV r.v 0 ||| putB r.uv 12 ||| putB r.ov 13 ||| putB r.rev 14

/-- PWR.HU — Hold-up bank, offset 0x0008 (register table after R456). -/
structure PwrHu where
  ea : BitVec 8 := 0  -- [7:0] RO
  eb : BitVec 8 := 0  -- [15:8] RO
  faila : Bool := false  -- [16:16] RO
  failb : Bool := false  -- [17:17] RO
  noHalf : Bool := false  -- [18:18] RO
  chg : Bool := false  -- [19:19] RO
  deriving DecidableEq, Repr

/-- The word a read of PWR.HU gives, as far as it is stored here. -/
def PwrHu.toWord (r : PwrHu) : Word :=
  putV r.ea 0 ||| putV r.eb 8 ||| putB r.faila 16 ||| putB r.failb 17 ||| putB r.noHalf 18 ||| putB r.chg 19

/-- PWR.EVT — Supply events, offset 0x000C (register table after R456). -/
structure PwrEvt where
  intr : Bool := false  -- [0:0] W1C
  lowmot : Bool := false  -- [1:1] W1C
  ctlov : Bool := false  -- [2:2] W1C
  mbuv : Bool := false  -- [3:3] W1C
  mbov : Bool := false  -- [4:4] W1C
  mbrev : Bool := false  -- [5:5] W1C
  mboc : Bool := false  -- [6:6] W1C
  hufail : Bool := false  -- [7:7] W1C
  shed : Bool := false  -- [8:8] W1C
  htrip : Bool := false  -- [9:9] W1C
  deriving DecidableEq, Repr

/-- The word a read of PWR.EVT gives, as far as it is stored here. -/
def PwrEvt.toWord (r : PwrEvt) : Word :=
  putB r.intr 0 ||| putB r.lowmot 1 ||| putB r.ctlov 2 ||| putB r.mbuv 3 ||| putB r.mbov 4 ||| putB r.mbrev 5 ||| putB r.mboc 6 ||| putB r.hufail 7 ||| putB r.shed 8 ||| putB r.htrip 9

/-- A write of the bits `m` of PWR.EVT (Table 0-6). -/
def PwrEvt.write (r : PwrEvt) (w m : Word) : PwrEvt :=
  { r with intr := r.intr && !((w &&& m).getLsbD 0), lowmot := r.lowmot && !((w &&& m).getLsbD 1), ctlov := r.ctlov && !((w &&& m).getLsbD 2), mbuv := r.mbuv && !((w &&& m).getLsbD 3), mbov := r.mbov && !((w &&& m).getLsbD 4), mbrev := r.mbrev && !((w &&& m).getLsbD 5), mboc := r.mboc && !((w &&& m).getLsbD 6), hufail := r.hufail && !((w &&& m).getLsbD 7), shed := r.shed && !((w &&& m).getLsbD 8), htrip := r.htrip && !((w &&& m).getLsbD 9) }

/-- PWR.PF — Supply statistics, offset 0x0010 (register table after R456). -/
structure PwrPf where
  intrn : BitVec 16 := 0  -- [15:0] RO
  pfn : BitVec 16 := 0  -- [31:16] RO
  deriving DecidableEq, Repr

/-- The word a read of PWR.PF gives, as far as it is stored here. -/
def PwrPf.toWord (r : PwrPf) : Word :=
  putV r.intrn 0 ||| putV r.pfn 16

/-- PWR.LAST — Last events, offset 0x0014 (register table after R456). -/
structure PwrLast where
  intr : BitVec 16 := 0  -- [15:0] RO
  pf : BitVec 16 := 0  -- [31:16] RO
  deriving DecidableEq, Repr

/-- The word a read of PWR.LAST gives, as far as it is stored here. -/
def PwrLast.toWord (r : PwrLast) : Word :=
  putV r.intr 0 ||| putV r.pf 16

/-- PWR.SLPCFG — Sleep configuration, offset 0x0020 (register table after R456). -/
structure PwrSlpcfg where
  wakeen : BitVec 4 := 15  -- [3:0] IMG
  autoslp : Bool := false  -- [4:4] IMG
  slpdly : BitVec 16 := 600  -- [31:16] IMG
  deriving DecidableEq, Repr

/-- The word a read of PWR.SLPCFG gives, as far as it is stored here. -/
def PwrSlpcfg.toWord (r : PwrSlpcfg) : Word :=
  putV r.wakeen 0 ||| putB r.autoslp 4 ||| putV r.slpdly 16

/-- An image record writes PWR.SLPCFG (R5 IMG, R332). -/
def PwrSlpcfg.img (r : PwrSlpcfg) (w : Word) : PwrSlpcfg :=
  { r with wakeen := getF w 0 4, autoslp := w.getLsbD 4, slpdly := getF w 16 16 }

/-- PWR.SLPST — Sleep status, offset 0x0028 (register table after R456). -/
structure PwrSlpst where
  state : SlpState := .awake  -- [1:0] RO
  wakesrc : BitVec 4 := 0  -- [7:4] RO
  wakelvl : BitVec 4 := 0  -- [11:8] RO
  deriving DecidableEq, Repr

/-- The word a read of PWR.SLPST gives, as far as it is stored here. -/
def PwrSlpst.toWord (r : PwrSlpst) : Word :=
  putV r.state.code 0 ||| putV r.wakesrc 4 ||| putV r.wakelvl 8

/-- PWR.TEMP — Control section, offset 0x0034 (register table after R456). -/
structure PwrTemp where
  tcs : BitVec 8 := 0  -- [7:0] RO
  preheat : Bool := false  -- [8:8] RO
  pht : BitVec 16 := 0  -- [31:16] RO
  deriving DecidableEq, Repr

/-- The word a read of PWR.TEMP gives, as far as it is stored here. -/
def PwrTemp.toWord (r : PwrTemp) : Word :=
  putV r.tcs 0 ||| putB r.preheat 8 ||| putV r.pht 16

/-- The stored registers of one PWR block. -/
structure Pwr where
  ctl : PwrCtl := {}
  mbus : PwrMbus := {}
  hu : PwrHu := {}
  evt : PwrEvt := {}
  pf : PwrPf := {}
  last : PwrLast := {}
  slpcfg : PwrSlpcfg := {}
  slpst : PwrSlpst := {}
  slpn : BitVec 32 := 0
  slpt : BitVec 32 := 0
  temp : PwrTemp := {}
  deriving DecidableEq, Repr

/-- An image record writes the word at offset `off` of the block; an offset with no IMG field keeps all (R332). -/
def Pwr.imgWrite (b : Pwr) (off : Nat) (w : Word) : Pwr :=
  match off with
  | 0x20 => { b with slpcfg := b.slpcfg.img w }
  | _ => b

/-- Every IMG field of the block at its reset value, the rest kept (R332: a field no record writes takes its reset value). -/
def Pwr.imgReset (b : Pwr) : Pwr :=
  { b with slpcfg := {} }

/-- The word at offset `off` of the block as a read gives it, as far as it is stored here; 0 elsewhere (R6). -/
def Pwr.regRead (b : Pwr) (off : Nat) : Word :=
  match off with
  | 0x0 => b.ctl.toWord
  | 0x4 => b.mbus.toWord
  | 0x8 => b.hu.toWord
  | 0xc => b.evt.toWord
  | 0x10 => b.pf.toWord
  | 0x14 => b.last.toWord
  | 0x20 => b.slpcfg.toWord
  | 0x28 => b.slpst.toWord
  | 0x2c => putV b.slpn 0
  | 0x30 => putV b.slpt 0
  | 0x34 => b.temp.toWord
  | _ => 0

/-- A writer sets the bits `m` of the word at offset `off` of the block (Table 0-6, RW and W1C; the rest is ignored). -/
def Pwr.regWrite (b : Pwr) (off : Nat) (w m : Word) : Pwr :=
  match off with
  | 0xc => { b with evt := b.evt.write w m }
  | _ => b

/-- Bits of the word at `off` that are IMG fields (R332: an image record may write no other bit as one). -/
def Pwr.imgMask (off : Nat) : Word :=
  match off with
  | 0x20 => 0xffff001f
  | _ => 0

/-- The stored registers of one TRU block. -/
structure Tru where
  wdn : BitVec 16 := 0
  deriving DecidableEq, Repr

/-- The word at offset `off` of the block as a read gives it, as far as it is stored here; 0 elsewhere (R6). -/
def Tru.regRead (b : Tru) (off : Nat) : Word :=
  match off with
  | 0x24 => putV b.wdn 0
  | _ => 0

/-- Bits of the word at `off` that are IMG fields (R332: an image record may write no other bit as one). -/
def Tru.imgMask (off : Nat) : Word :=
  match off with
  | _ => 0

/-- TAL.STAT — Tally status, offset 0x0000 (register table after R412). -/
structure TalStat where
  flushing : Bool := false  -- [10:10] RO
  comm : Bool := false  -- [11:11] RO
  firstfull : Bool := false  -- [12:12] RO
  spare : Bool := false  -- [13:13] RO
  deriving DecidableEq, Repr

/-- The word a read of TAL.STAT gives, as far as it is stored here. -/
def TalStat.toWord (r : TalStat) : Word :=
  putB r.flushing 10 ||| putB r.comm 11 ||| putB r.firstfull 12 ||| putB r.spare 13

/-- TAL.EVT — Tally events, offset 0x0018 (register table after R412). -/
structure TalEvt where
  lost : Bool := false  -- [0:0] W1C
  spare : Bool := false  -- [1:1] W1C
  firstfull : Bool := false  -- [2:2] W1C
  deriving DecidableEq, Repr

/-- The word a read of TAL.EVT gives, as far as it is stored here. -/
def TalEvt.toWord (r : TalEvt) : Word :=
  putB r.lost 0 ||| putB r.spare 1 ||| putB r.firstfull 2

/-- A write of the bits `m` of TAL.EVT (Table 0-6). -/
def TalEvt.write (r : TalEvt) (w m : Word) : TalEvt :=
  { r with lost := r.lost && !((w &&& m).getLsbD 0), spare := r.spare && !((w &&& m).getLsbD 1), firstfull := r.firstfull && !((w &&& m).getLsbD 2) }

/-- TAL.CNT — Statistics, offset 0x001C (register table after R412). -/
structure TalCnt where
  mergen : BitVec 16 := 0  -- [15:0] RO
  pfulln : BitVec 16 := 0  -- [31:16] RO
  deriving DecidableEq, Repr

/-- The word a read of TAL.CNT gives, as far as it is stored here. -/
def TalCnt.toWord (r : TalCnt) : Word :=
  putV r.mergen 0 ||| putV r.pfulln 16

/-- The stored registers of one TAL block. -/
structure Tal where
  stat : TalStat := {}
  evt : TalEvt := {}
  cnt : TalCnt := {}
  deriving DecidableEq, Repr

/-- The word at offset `off` of the block as a read gives it, as far as it is stored here; 0 elsewhere (R6). -/
def Tal.regRead (b : Tal) (off : Nat) : Word :=
  match off with
  | 0x0 => b.stat.toWord
  | 0x18 => b.evt.toWord
  | 0x1c => b.cnt.toWord
  | _ => 0

/-- A writer sets the bits `m` of the word at offset `off` of the block (Table 0-6, RW and W1C; the rest is ignored). -/
def Tal.regWrite (b : Tal) (off : Nat) (w m : Word) : Tal :=
  match off with
  | 0x18 => { b with evt := b.evt.write w m }
  | _ => b

/-- Bits of the word at `off` that are IMG fields (R332: an image record may write no other bit as one). -/
def Tal.imgMask (off : Nat) : Word :=
  match off with
  | _ => 0

end Sys2Proof.Machine
end

