-- ==== Sys2Proof/Machine/UnitEngine.lean ====
section
/-! DEFINITION. What the Filif engine holds beside the SYS registers: the five register banks, running and pending call-outs,
the store queue, the move channels, and what the active image declares (chapters 10 to 12, 16). Also the Tally engine's records. -/

namespace Sys2Proof.Machine

/-- R288: the registers, flags, boolean accumulator and program counter of one context. -/
structure Bank where
  l  : Vector Word 32 := Vector.replicate 32 0
  z  : Bool := false
  n  : Bool := false
  c  : Bool := false
  v  : Bool := false
  b  : Bool := false
  pc : Word := 0
  deriving DecidableEq, Repr

/-- A call-out running or interrupted in its priority's bank, with the instructions it has executed (R271, R272). -/
structure Running where
  num   : BitVec 16
  insns : Nat
  deriving DecidableEq, Repr

/-- A pending call-out: number, declared priority, trigger time and argument, and whether a mailbox's arrival triggered it, whose argument
is formed at entry (R269 to R271, R389). -/
structure PendCo where
  num  : BitVec 16
  prio : Fin 4
  time : Nat
  arg  : Word
  mbox : Bool := false
  deriving DecidableEq, Repr

/-- A call-out declaration of the active image (R327). -/
structure Decl where
  num   : BitVec 16
  prio  : Fin 4
  entry : Word
  deriving DecidableEq, Repr

/-- Table 12-1, instance types. -/
inductive TagType where
  | ton | tof | tp | tonr | edge | ctud | sr | rs | ramp
  deriving DecidableEq, Repr

/-- The code of Table 12-1. -/
def TagType.code : TagType → BitVec 8
  | .ton => 0x01 | .tof => 0x02 | .tp => 0x03 | .tonr => 0x04 | .edge => 0x08
  | .ctud => 0x10 | .sr => 0x18 | .rs => 0x19 | .ramp => 0x20

/-- The type a code of Table 12-1 names; none for reserved codes and for 0. -/
def TagType.ofCode (c : BitVec 8) : Option TagType :=
  [TagType.ton, .tof, .tp, .tonr, .edge, .ctud, .sr, .rs, .ramp].find? fun t => t.code == c

/-- The 16 bytes of an instance, as four words (R310). -/
structure Quad where
  w0 : Word := 0
  w1 : Word := 0
  w2 : Word := 0
  w3 : Word := 0
  deriving DecidableEq, Repr

/-- A tag declaration of the active image (R311): type, RETAIN, NEWPRE and initial state. -/
structure TagDecl where
  tag    : BitVec 14
  type   : TagType
  retain : Bool
  newpre : Bool
  init   : Quad
  deriving DecidableEq, Repr

/-- The MRAM copy of a RETAIN instance (R316): it carries tag and type. A copy that fails its CRC at a start is dropped. -/
structure RetainCopy where
  tag  : BitVec 14
  type : TagType
  val  : Quad
  et   : Word
  deriving DecidableEq, Repr

/-- A forced field (R344): tag, field offset code and value. -/
structure Force where
  tag   : BitVec 14
  field : BitVec 8
  type  : TagType
  value : Word
  deriving DecidableEq, Repr

/-- One entry of the store queue (R298): where, what, how many bytes, and the context that issued it. -/
structure QStore where
  addr : Word
  val  : Word
  size : Nat
  ctx  : Fin 5
  deriving DecidableEq, Repr

/-- A block move in flight on a channel (R283, R284), the context that issued it, and the runs of bytes that the program has stored
to its destination since (R285). -/
structure Move where
  src : Nat
  dst : Nat
  len : Nat
  cw  : Nat
  tag : BitVec 8
  ctx : Fin 5
  hit : List (Nat × Nat) := []
  deriving DecidableEq, Repr

/-- The phase of the program cycle between two commands: input and output phases are inside SNAPSHOT and EOC (R261). -/
inductive Phase where
  | wait | execute
  deriving DecidableEq, Repr

/-- The Filif engine. -/
structure Engine where
  sys      : Sys := {}
  banks    : Vector Bank 5 := Vector.replicate 5 {}
  running  : Vector (Option Running) 4 := Vector.replicate 4 none
  pend     : List PendCo := []
  phase    : Phase := .wait
  cycno    : Nat := 0
  first    : Bool := false        -- next snapshot is the first since entry to RUN
  switched : Bool := false        -- next snapshot is the first after an image switch
  decls    : List Decl := []
  tags     : List TagDecl := []
  retained : List RetainCopy := []
  forces   : List Force := []
  code     : List Byte := []      -- CODE section of the ACTIVE image
  entry    : Word := 0            -- its entry point
  data0    : List Byte := []      -- its DATA section
  safeOut  : List Byte := []      -- its safe output image (R266)
  sq       : List QStore := []    -- store queue, oldest first
  moves    : Vector (Option Move) 4 := Vector.replicate 4 none
  moveTag  : Vector (BitVec 8) 4 := Vector.replicate 4 0
  wdStart  : Nat := 0             -- start of the watchdog interval (R273)
  snapAt   : Nat := 0             -- last snapshot tick (R275)
  outEnd   : Nat := 0             -- end of the last output phase (R267)
  atEnd    : Bool := false        -- an output phase has ended in RUN since RUN was entered or resumed (R286)
  outCyc   : Nat := 0             -- and its cycle number (R376)
  replied  : BitVec 16 := 0       -- panels whose reply to the last output phase is taken
  plData   : Vector (List Byte) 16 := Vector.replicate 16 []  -- DATA of the last reply taken; empty: zeros (R268)
  plEcho   : Vector Word 16 := Vector.replicate 16 0          -- and the cycle number it echoes
  plAge    : Vector Word 16 := Vector.replicate 16 0          -- snapshots since it was taken
  applied  : List Host.Cell := []   -- output image as applied at the last output phase (R280)
  plAt     : Vector Nat 16 := Vector.replicate 16 0   -- last reply taken, or exchange start, per panel (R268)
  stopAt   : Nat := 0             -- entry to the last STOP
  autoAt   : List Nat := []       -- automatic restarts (R279)
  holdReq  : Bool := false        -- a session's HOLD, taken at the next end of an output phase
  stepping : Bool := false        -- a single step of HOLD is executing (R280)
  stalled  : Bool := false        -- a BMOVE waits for a channel: no call-out starts before it is done (Table 11-13)
  frameAt  : Nat := 0             -- last repeated panel frame in STOP or HOLD (R277)
  port     : Vector (Vector Word 256) 5 := Vector.replicate 5 (Vector.replicate 256 0)  -- emission-port buffers (R410)
  deriving DecidableEq, Repr

/-- A Tally record, Table 16-1; LENGTH and the CRC follow from the rest. -/
structure Rec where
  type    : BitVec 16
  payload : List Byte
  snap    : Option (List Byte) := none   -- the snapshot at the end of the payload (SNAP)
  calv    : Bool
  repsat  : Bool := false
  repeats : BitVec 16 := 0
  seq     : Nat
  cal     : Nat
  mono    : Nat
  deriving DecidableEq, Repr

/-- The Tally engine (chapter 16). -/
structure Tally where
  reg      : Tal := {}
  seq      : Nat := 0                    -- the sequence the next record takes (R396)
  staging  : List Rec := []              -- oldest first
  flush    : Option Nat := none          -- records below this sequence are in the running flush (R403)
  queued   : List Nat := []              -- and in each of the flushes that follow it, in order
  first    : List Rec := []              -- FIRST area
  firstU   : Nat := 0                    -- 16 KiB pages of FIRST written
  firstPad : List (Nat × Nat) := []      -- PAD records in FIRST: the page each ends and the bytes it fills (R400)
  commSeq  : Option Nat := none          -- sequence of the COMMISSION record
  roll     : List (Nat × Rec) := []      -- ROLL area, oldest first, each with the page it begins in, counted from the first ever
  rollU    : Nat := 0                    -- 16 KiB pages of ROLL written, ever
  rollPad  : List (Nat × Nat) := []      -- PAD records in ROLL
  spares   : Nat := 3751                 -- spare blocks (R407)
  lost     : Nat := 0                    -- module records lost and not yet reported (R404)
  starting : Bool := false               -- from a start until the held records are staged (R404)
  held     : List Rec := []              -- records held until then, without sequence, the start's LOST record first
  badCrc   : Nat := 0                    -- staged records dropped at start (R404)
  deriving DecidableEq, Repr

end Sys2Proof.Machine
end

