-- ==== Sys2Proof/Machine/RegField.lean ====
section
/-! DEFINITION. The register blocks FIO of the address map (Table 1-7), field by field as
their register tables give them: bits, access code and reset value. Fields that only mirror other state are not stored
here; Machine/BusRead.lean computes them. `toWord` is what a read gives, `img` what an image record sets (access IMG),
`write` what a writer sets under Table 0-6 (RW and W1C), under a mask of the bits the access carries. -/

namespace Sys2Proof.Machine

/-- FIO.ICFGn — Input configuration n, offset 0x0000 + 0x4 × n, n = 0 to 147 (register table after R260). -/
structure FioIcfg where
  cls : BitVec 2 := 1  -- [1:0] IMG
  edge : BitVec 2 := 3  -- [3:2] IMG
  qen : Bool := false  -- [4:4] IMG
  call : Bool := false  -- [5:5] IMG
  prio : BitVec 2 := 0  -- [7:6] IMG
  filt : BitVec 8 := 200  -- [15:8] IMG
  cnt : Bool := false  -- [16:16] IMG
  deriving DecidableEq, Repr

/-- The word a read of FIO.ICFGn gives, as far as it is stored here. -/
def FioIcfg.toWord (r : FioIcfg) : Word :=
  putV r.cls 0 ||| putV r.edge 2 ||| putB r.qen 4 ||| putB r.call 5 ||| putV r.prio 6 ||| putV r.filt 8 ||| putB r.cnt 16

/-- An image record writes FIO.ICFGn (R5 IMG, R332). -/
def FioIcfg.img (r : FioIcfg) (w : Word) : FioIcfg :=
  { r with cls := getF w 0 2, edge := getF w 2 2, qen := w.getLsbD 4, call := w.getLsbD 5, prio := getF w 6 2, filt := getF w 8 8, cnt := w.getLsbD 16 }

/-- FIO.EQSTAT — Queue status, offset 0x034C (register table after R260). -/
structure FioEqstat where
  ovf : Bool := false  -- [15:15] W1C
  dropped : BitVec 16 := 0  -- [31:16] RO
  deriving DecidableEq, Repr

/-- The word a read of FIO.EQSTAT gives, as far as it is stored here. -/
def FioEqstat.toWord (r : FioEqstat) : Word :=
  putB r.ovf 15 ||| putV r.dropped 16

/-- A write of the bits `m` of FIO.EQSTAT (Table 0-6). -/
def FioEqstat.write (r : FioEqstat) (w m : Word) : FioEqstat :=
  { r with ovf := r.ovf && !((w &&& m).getLsbD 15) }

/-- FIO.FOCFG — Output safe values, offset 0x0400 (register table after R260). -/
structure FioFocfg where
  safe : BitVec 16 := 0  -- [15:0] IMG
  fotmo : BitVec 10 := 100  -- [25:16] IMG
  deriving DecidableEq, Repr

/-- The word a read of FIO.FOCFG gives, as far as it is stored here. -/
def FioFocfg.toWord (r : FioFocfg) : Word :=
  putV r.safe 0 ||| putV r.fotmo 16

/-- An image record writes FIO.FOCFG (R5 IMG, R332). -/
def FioFocfg.img (r : FioFocfg) (w : Word) : FioFocfg :=
  { r with safe := getF w 0 16, fotmo := getF w 16 10 }

/-- FIO.FOSUPV — Supply status, offset 0x0408 (register table after R260). -/
structure FioFosupv where
  v0 : BitVec 12 := 0  -- [11:0] RO
  miss0 : Bool := false  -- [12:12] RO
  low0 : Bool := false  -- [13:13] RO
  v1 : BitVec 12 := 0  -- [27:16] RO
  miss1 : Bool := false  -- [28:28] RO
  low1 : Bool := false  -- [29:29] RO
  deriving DecidableEq, Repr

/-- The word a read of FIO.FOSUPV gives, as far as it is stored here. -/
def FioFosupv.toWord (r : FioFosupv) : Word :=
  putV r.v0 0 ||| putB r.miss0 12 ||| putB r.low0 13 ||| putV r.v1 16 ||| putB r.miss1 28 ||| putB r.low1 29

/-- FIO.FOCMD — Output commands and read-back, offset 0x040C (register table after R260). -/
structure FioFocmd where
  cmd : BitVec 16 := 0  -- [15:0] RO
  rb : BitVec 16 := 0  -- [31:16] RO
  deriving DecidableEq, Repr

/-- The word a read of FIO.FOCMD gives, as far as it is stored here. -/
def FioFocmd.toWord (r : FioFocmd) : Word :=
  putV r.cmd 0 ||| putV r.rb 16

/-- FIO.FOST — Output disagreement, offset 0x0410 (register table after R260). -/
structure FioFost where
  offhi : BitVec 16 := 0  -- [15:0] RO
  onlo : BitVec 16 := 0  -- [31:16] RO
  deriving DecidableEq, Repr

/-- The word a read of FIO.FOST gives, as far as it is stored here. -/
def FioFost.toWord (r : FioFost) : Word :=
  putV r.offhi 0 ||| putV r.onlo 16

/-- FIO.FOST2 — Output protection, offset 0x0414 (register table after R260). -/
structure FioFost2 where
  ilim : BitVec 16 := 0  -- [15:0] RO
  tsd : BitVec 16 := 0  -- [31:16] RO
  deriving DecidableEq, Repr

/-- The word a read of FIO.FOST2 gives, as far as it is stored here. -/
def FioFost2.toWord (r : FioFost2) : Word :=
  putV r.ilim 0 ||| putV r.tsd 16

/-- FIO.FOEVT — Output events, offset 0x0418 (register table after R260). -/
structure FioFoevt where
  dis : BitVec 16 := 0  -- [15:0] W1C
  silent : Bool := false  -- [16:16] W1C
  tsd : Bool := false  -- [17:17] W1C
  deriving DecidableEq, Repr

/-- The word a read of FIO.FOEVT gives, as far as it is stored here. -/
def FioFoevt.toWord (r : FioFoevt) : Word :=
  putV r.dis 0 ||| putB r.silent 16 ||| putB r.tsd 17

/-- A write of the bits `m` of FIO.FOEVT (Table 0-6). -/
def FioFoevt.write (r : FioFoevt) (w m : Word) : FioFoevt :=
  { r with dis := r.dis &&& ~~~(getF (w &&& m) 0 16), silent := r.silent && !((w &&& m).getLsbD 16), tsd := r.tsd && !((w &&& m).getLsbD 17) }

/-- The stored registers of one FIO block. -/
structure Fio where
  icfg : Vector (FioIcfg) 148 := Vector.replicate 148 {}
  gevt : BitVec 20 := 0
  eqstat : FioEqstat := {}
  wpcnt : Vector (BitVec 32) 4 := Vector.replicate 4 0
  wpst : BitVec 4 := 0
  focfg : FioFocfg := {}
  fosup : BitVec 8 := 18
  fosupv : FioFosupv := {}
  focmd : FioFocmd := {}
  fost : FioFost := {}
  fost2 : FioFost2 := {}
  foevt : FioFoevt := {}
  deriving DecidableEq, Repr

/-- An image record writes the word at offset `off` of the block; an offset with no IMG field keeps all (R332). -/
def Fio.imgWrite (b : Fio) (off : Nat) (w : Word) : Fio :=
  match off with
  | 0x400 => { b with focfg := b.focfg.img w }
  | 0x404 => { b with fosup := getF w 0 8 }
  | _ => if 0x0 ≤ off ∧ off < 0x250 then { b with icfg := vmod b.icfg ((off - 0x0) / 4) fun r => r.img w }
    else b

/-- Every IMG field of the block at its reset value, the rest kept (R332: a field no record writes takes its reset value). -/
def Fio.imgReset (b : Fio) : Fio :=
  { b with icfg := Vector.replicate 148 {},
           focfg := {},
           fosup := 18 }

/-- The word at offset `off` of the block as a read gives it, as far as it is stored here; 0 elsewhere (R6). -/
def Fio.regRead (b : Fio) (off : Nat) : Word :=
  match off with
  | 0x324 => putV b.gevt 0
  | 0x34c => b.eqstat.toWord
  | 0x390 => putV b.wpst 0
  | 0x400 => b.focfg.toWord
  | 0x404 => putV b.fosup 0
  | 0x408 => b.fosupv.toWord
  | 0x40c => b.focmd.toWord
  | 0x410 => b.fost.toWord
  | 0x414 => b.fost2.toWord
  | 0x418 => b.foevt.toWord
  | _ => if 0x0 ≤ off ∧ off < 0x250 then (vget b.icfg ((off - 0x0) / 4) {}).toWord else if 0x380 ≤ off ∧ off < 0x390 then putV (vget b.wpcnt ((off - 0x380) / 4) 0) 0 else 0

/-- A writer sets the bits `m` of the word at offset `off` of the block (Table 0-6, RW and W1C; the rest is ignored). -/
def Fio.regWrite (b : Fio) (off : Nat) (w m : Word) : Fio :=
  match off with
  | 0x324 => { b with gevt := b.gevt &&& ~~~(getF (w &&& m) 0 20) }
  | 0x34c => { b with eqstat := b.eqstat.write w m }
  | 0x390 => { b with wpst := b.wpst &&& ~~~(getF (w &&& m) 0 4) }
  | 0x418 => { b with foevt := b.foevt.write w m }
  | _ => b

/-- Bits of the word at `off` that are IMG fields (R332: an image record may write no other bit as one). -/
def Fio.imgMask (off : Nat) : Word :=
  match off with
  | 0x400 => 0x3ffffff
  | 0x404 => 0xff
  | _ => if 0x0 ≤ off ∧ off < 0x250 then 0x1ffff else 0

end Sys2Proof.Machine
end

