-- ==== Sys2Proof/Machine/UnitField.lean ====
section
/-! DEFINITION. What the field I/O front end and the isolated output side hold beside the FIO registers (chapter 9). -/

namespace Sys2Proof.Machine

/-- One entry of the edge queue (R249). -/
structure Edge where
  input : BitVec 8
  level : Bool
  time  : Nat
  deriving DecidableEq, Repr

/-- Field inputs and outputs. -/
structure FieldIo where
  reg      : Fio := {}
  lvl      : BitVec 148 := 0             -- accepted levels, FIO.LVL0 to LVL4 (R244)
  at_      : Vector Nat 148 := Vector.replicate 148 0   -- time stamp of the last accepted edge (R245)
  queue    : List Edge := []             -- oldest first (R249)
  wpt      : Vector Nat 4 := Vector.replicate 4 0       -- last counted edge, FIO.WPT (R250)
  gapAt    : Vector (Option Nat) 2 := Vector.replicate 2 none   -- start of the last gap of TPA, TPB (R191)
  copFail  : Vector Nat 148 := Vector.replicate 148 0   -- coupler checks failed in a row (R247)
  copPass  : Vector Nat 148 := Vector.replicate 148 0   -- and passed in a row
  copFlt   : BitVec 148 := 0             -- coupler faults
  copAt    : Vector (Option Nat) 148 := Vector.replicate 148 none   -- last check
  icfgAt   : Vector (Option Nat) 148 := Vector.replicate 148 none   -- last image switch that changed CLASS or FILT (R259)
  tpMiss   : BitVec 16 := 0              -- a test source of the portal is missing (R257)
  tpLow    : BitVec 16 := 0
  groups   : BitVec 20 := 0              -- FIO.GFLT as last judged
  safeHeld : BitVec 16 := 0              -- SAFE bits held on the output side (R254)
  imgFo    : BitVec 16 := 0              -- FO word last taken by an output phase (R265)
  pins     : BitVec 16 := 0              -- FO-00 to FO-15 as driven
  word     : BitVec 16 := 0              -- word the output side last took: a refresh's, SAFE's, and egress (R254)
  off      : Bool := false               -- every output off: sleep, the power-fail sequence, a reset that powers the output side down (R254)
  fresh    : Nat := 0                    -- last valid refresh (R254)
  silent   : Bool := false               -- outputs took SAFE and no valid refresh since
  cmdAt    : Vector Nat 16 := Vector.replicate 16 0     -- last change of each channel's command (R255)
  cmp      : BitVec 16 := 0              -- channels whose read-back disagreed with the command when last looked at
  cmpAt    : Vector Nat 16 := Vector.replicate 16 0     -- and since when each has agreed or disagreed
  measured : BitVec 2 := 0               -- FSUP0 and FSUP1 have been measured since the start
  rev      : BitVec 2 := 0               -- FSUP0 and FSUP1 reversed (R482)
  deriving DecidableEq, Repr

end Sys2Proof.Machine
end

