-- ==== Sys2Proof/Machine/UnitJournal.lean ====
section
/-! DEFINITION. The command journal and its connection table in MRAM, and commands whose journal write is in progress (chapter 14). -/

namespace Sys2Proof.Machine

/-- Where a command came from: TN, SG, or a COMMAND operation of the session with this number, and its TAG (Table 14-3, R433). -/
inductive CmdSource where
  | tn | sg | svc (session : Nat) (tag : Word)
  deriving DecidableEq, Repr

/-- SOURCE of Table 14-3. -/
def CmdSource.code : CmdSource → Nat
  | .tn => 0 | .sg => 1 | .svc _ _ => 2

/-- STATE of Table 14-3. -/
inductive EntState where
  | accepted | delivered | done | refused
  deriving DecidableEq, Repr

/-- The code of Table 14-3. -/
def EntState.code : EntState → Nat
  | .accepted => 1 | .delivered => 2 | .done => 3 | .refused => 4

/-- A command as it reaches the journal (Table 15-8). -/
structure JCmd where
  connid : Word
  tseq   : Word
  kind   : Byte
  target : Byte
  source : CmdSource
  arg    : Word
  expms  : Word
  deriving DecidableEq, Repr

/-- A journal entry, Table 14-3. -/
structure Entry where
  cmd    : JCmd
  jseq   : Nat
  state  : EntState := .accepted
  tacc   : Nat
  epoch  : Word
  reason : Byte := 0
  redel  : Bool := false
  sent   : Bool := false
  at_    : Nat := 0          -- delivery, and later the instant SENT was set
  deriving DecidableEq, Repr

/-- A row of the connection table (R353), with the JSEQ of each of its accepted commands still known to it. -/
structure Conn where
  id   : Word
  last : Word
  jseq : List (Word × Nat)   -- telegram sequence and JSEQ of the original command, newest first
  at_  : Nat                 -- last telegram
  deriving DecidableEq, Repr

/-- A command whose entry is being written, and from where repeats of it came that are held until then (R351, R362). -/
structure JWrite where
  cmd  : JCmd
  tacc : Nat
  dups : List CmdSource := []
  deriving DecidableEq, Repr

/-- The command journal. -/
structure Journal where
  reg     : Cmj := {}
  entries : List Entry := []          -- ascending JSEQ
  conns   : List Conn := []
  writes  : List JWrite := []         -- oldest first
  jseq    : Nat := 0                  -- the JSEQ last given
  dlv     : Vector Word 6 := Vector.replicate 6 0   -- CMJ.DLV0 to DLV5
  closed  : Bool := false             -- power-fail sequence or sleep entry has begun (Table 14-2)
  deriving DecidableEq, Repr

end Sys2Proof.Machine
end

