-- ==== Sys2Proof/Machine/RegKerf.lean ====
section
/-! DEFINITION. The register blocks KRF of the address map (Table 1-7), field by field as
their register tables give them: bits, access code and reset value. Fields that only mirror other state are not stored
here; Machine/BusRead.lean computes them. `toWord` is what a read gives, `img` what an image record sets (access IMG),
`write` what a writer sets under Table 0-6 (RW and W1C), under a mask of the bits the access carries. -/

namespace Sys2Proof.Machine

/-- KRF.CFG — Kerf configuration, offset 0x0000 (register table after R179). -/
structure KrfCfg where
  ovrtl : BitVec 4 := 0  -- [3:0] IMG
  ovren : Bool := false  -- [4:4] IMG
  snap : Bool := true  -- [5:5] IMG
  ovrmax : BitVec 8 := 60  -- [15:8] IMG
  deriving DecidableEq, Repr

/-- The word a read of KRF.CFG gives, as far as it is stored here. -/
def KrfCfg.toWord (r : KrfCfg) : Word :=
  putV r.ovrtl 0 ||| putB r.ovren 4 ||| putB r.snap 5 ||| putV r.ovrmax 8

/-- An image record writes KRF.CFG (R5 IMG, R332). -/
def KrfCfg.img (r : KrfCfg) (w : Word) : KrfCfg :=
  { r with ovrtl := getF w 0 4, ovren := w.getLsbD 4, snap := w.getLsbD 5, ovrmax := getF w 8 8 }

/-- KRF.ZONE — Zone rows, offset 0x0004 (register table after R179). -/
structure KrfZone where
  zy0 : BitVec 9 := 0  -- [8:0] IMG
  zy1 : BitVec 9 := 479  -- [24:16] IMG
  deriving DecidableEq, Repr

/-- The word a read of KRF.ZONE gives, as far as it is stored here. -/
def KrfZone.toWord (r : KrfZone) : Word :=
  putV r.zy0 0 ||| putV r.zy1 16

/-- An image record writes KRF.ZONE (R5 IMG, R332). -/
def KrfZone.img (r : KrfZone) (w : Word) : KrfZone :=
  { r with zy0 := getF w 0 9, zy1 := getF w 16 9 }

/-- KRF.MLINE — Meeting line, offset 0x0008 (register table after R179). -/
structure KrfMline where
  xm : BitVec 14 := 5120  -- [13:0] IMG
  jside : Bool := false  -- [15:15] IMG
  deriving DecidableEq, Repr

/-- The word a read of KRF.MLINE gives, as far as it is stored here. -/
def KrfMline.toWord (r : KrfMline) : Word :=
  putV r.xm 0 ||| putB r.jside 15

/-- An image record writes KRF.MLINE (R5 IMG, R332). -/
def KrfMline.img (r : KrfMline) (w : Word) : KrfMline :=
  { r with xm := getF w 0 14, jside := w.getLsbD 15 }

/-- KRF.SLAB — Slab and margins, offset 0x0010 (register table after R179). -/
structure KrfSlab where
  zdepth : BitVec 10 := 250  -- [9:0] IMG
  zmarg : BitVec 10 := 60  -- [19:10] IMG
  tolmin : BitVec 8 := 15  -- [27:20] IMG
  deriving DecidableEq, Repr

/-- The word a read of KRF.SLAB gives, as far as it is stored here. -/
def KrfSlab.toWord (r : KrfSlab) : Word :=
  putV r.zdepth 0 ||| putV r.zmarg 10 ||| putV r.tolmin 20

/-- An image record writes KRF.SLAB (R5 IMG, R332). -/
def KrfSlab.img (r : KrfSlab) (w : Word) : KrfSlab :=
  { r with zdepth := getF w 0 10, zmarg := getF w 10 10, tolmin := getF w 20 8 }

/-- KRF.DET — Detection, offset 0x0014 (register table after R179). -/
structure KrfDet where
  minpix : BitVec 10 := 6  -- [9:0] IMG
  foul : BitVec 7 := 25  -- [16:10] IMG
  fouln : BitVec 4 := 4  -- [23:20] IMG
  silent : BitVec 8 := 100  -- [31:24] IMG
  deriving DecidableEq, Repr

/-- The word a read of KRF.DET gives, as far as it is stored here. -/
def KrfDet.toWord (r : KrfDet) : Word :=
  putV r.minpix 0 ||| putV r.foul 10 ||| putV r.fouln 20 ||| putV r.silent 24

/-- An image record writes KRF.DET (R5 IMG, R332). -/
def KrfDet.img (r : KrfDet) (w : Word) : KrfDet :=
  { r with minpix := getF w 0 10, foul := getF w 10 7, fouln := getF w 20 4, silent := getF w 24 8 }

/-- KRF.STAT — Kerf status, offset 0x0024 (register table after R179). -/
structure KrfStat where
  win : KWin := .closed  -- [1:0] RO
  verd : Verdict := .closed  -- [3:2] RO
  rate : Bool := false  -- [4:4] RO
  kcond : Bool := false  -- [5:5] RO
  lockocc : Bool := false  -- [6:6] RO
  ovr : Bool := false  -- [7:7] RO
  ovrstuck : Bool := false  -- [8:8] RO
  bcause : BitVec 3 := 0  -- [11:9] RO
  model : ModelStat := .absent  -- [13:12] RO
  run : BitVec 4 := 0  -- [19:16] RO
  lrn : ReqStat := .idle  -- [22:20] RO
  deriving DecidableEq, Repr

/-- The word a read of KRF.STAT gives, as far as it is stored here. -/
def KrfStat.toWord (r : KrfStat) : Word :=
  putV r.win.code 0 ||| putV r.verd.code 2 ||| putB r.rate 4 ||| putB r.kcond 5 ||| putB r.lockocc 6 ||| putB r.ovr 7 ||| putB r.ovrstuck 8 ||| putV r.bcause 9 ||| putV r.model.code 12 ||| putV r.run 16 ||| putV r.lrn.code 20

/-- KRF.EVT — Kerf events, offset 0x0028 (register table after R179). -/
structure KrfEvt where
  occ : Bool := false  -- [0:0] W1C
  lockocc : Bool := false  -- [1:1] W1C
  blind : Bool := false  -- [2:2] W1C
  gap : Bool := false  -- [3:3] W1C
  late : Bool := false  -- [4:4] W1C
  wrap : Bool := false  -- [5:5] W1C
  ovrused : Bool := false  -- [6:6] W1C
  lrndone : Bool := false  -- [7:7] W1C
  lrnfail : Bool := false  -- [8:8] W1C
  headchg : Bool := false  -- [9:9] W1C
  deriving DecidableEq, Repr

/-- The word a read of KRF.EVT gives, as far as it is stored here. -/
def KrfEvt.toWord (r : KrfEvt) : Word :=
  putB r.occ 0 ||| putB r.lockocc 1 ||| putB r.blind 2 ||| putB r.gap 3 ||| putB r.late 4 ||| putB r.wrap 5 ||| putB r.ovrused 6 ||| putB r.lrndone 7 ||| putB r.lrnfail 8 ||| putB r.headchg 9

/-- A write of the bits `m` of KRF.EVT (Table 0-6). -/
def KrfEvt.write (r : KrfEvt) (w m : Word) : KrfEvt :=
  { r with occ := r.occ && !((w &&& m).getLsbD 0), lockocc := r.lockocc && !((w &&& m).getLsbD 1), blind := r.blind && !((w &&& m).getLsbD 2), gap := r.gap && !((w &&& m).getLsbD 3), late := r.late && !((w &&& m).getLsbD 4), wrap := r.wrap && !((w &&& m).getLsbD 5), ovrused := r.ovrused && !((w &&& m).getLsbD 6), lrndone := r.lrndone && !((w &&& m).getLsbD 7), lrnfail := r.lrnfail && !((w &&& m).getLsbD 8), headchg := r.headchg && !((w &&& m).getLsbD 9) }

/-- KRF.LASTJ — Last judgement, offset 0x0038 (register table after R179). -/
structure KrfLastj where
  hitpix : BitVec 16 := 0  -- [15:0] RO
  invpct : BitVec 7 := 0  -- [22:16] RO
  deriving DecidableEq, Repr

/-- The word a read of KRF.LASTJ gives, as far as it is stored here. -/
def KrfLastj.toWord (r : KrfLastj) : Word :=
  putV r.hitpix 0 ||| putV r.invpct 16

/-- KRF.BAND — Last band, offset 0x003C (register table after R179). -/
structure KrfBand where
  xl : BitVec 10 := 0  -- [9:0] RO
  xr : BitVec 10 := 0  -- [25:16] RO
  deriving DecidableEq, Repr

/-- The word a read of KRF.BAND gives, as far as it is stored here. -/
def KrfBand.toWord (r : KrfBand) : Word :=
  putV r.xl 0 ||| putV r.xr 16

/-- KRF.CNT — Frame statistics, offset 0x0044 (register table after R179). -/
structure KrfCnt where
  miss : BitVec 16 := 0  -- [15:0] RO
  occn : BitVec 16 := 0  -- [31:16] RO
  deriving DecidableEq, Repr

/-- The word a read of KRF.CNT gives, as far as it is stored here. -/
def KrfCnt.toWord (r : KrfCnt) : Word :=
  putV r.miss 0 ||| putV r.occn 16

/-- KRF.BLINDN — Episodes and overrides, offset 0x0048 (register table after R179). -/
structure KrfBlindn where
  epis : BitVec 16 := 0  -- [15:0] RO
  ovrn : BitVec 16 := 0  -- [31:16] RO
  deriving DecidableEq, Repr

/-- The word a read of KRF.BLINDN gives, as far as it is stored here. -/
def KrfBlindn.toWord (r : KrfBlindn) : Word :=
  putV r.epis 0 ||| putV r.ovrn 16

/-- The stored registers of one KRF block. -/
structure Krf where
  cfg : KrfCfg := {}
  zone : KrfZone := {}
  mline : KrfMline := {}
  kpx : BitVec 16 := 0
  slab : KrfSlab := {}
  det : KrfDet := {}
  stat : KrfStat := {}
  evt : KrfEvt := {}
  fcnt : BitVec 32 := 0
  lastj : KrfLastj := {}
  band : KrfBand := {}
  gused : BitVec 16 := 0
  cnt : KrfCnt := {}
  blindn : KrfBlindn := {}
  headid : BitVec 32 := 0
  mdig : BitVec 32 := 0
  zwide : BitVec 10 := 0
  deriving DecidableEq, Repr

/-- An image record writes the word at offset `off` of the block; an offset with no IMG field keeps all (R332). -/
def Krf.imgWrite (b : Krf) (off : Nat) (w : Word) : Krf :=
  match off with
  | 0x0 => { b with cfg := b.cfg.img w }
  | 0x4 => { b with zone := b.zone.img w }
  | 0x8 => { b with mline := b.mline.img w }
  | 0xc => { b with kpx := getF w 0 16 }
  | 0x10 => { b with slab := b.slab.img w }
  | 0x14 => { b with det := b.det.img w }
  | _ => b

/-- Every IMG field of the block at its reset value, the rest kept (R332: a field no record writes takes its reset value). -/
def Krf.imgReset (b : Krf) : Krf :=
  { b with cfg := {},
           zone := {},
           mline := {},
           kpx := 0,
           slab := {},
           det := {} }

/-- The word at offset `off` of the block as a read gives it, as far as it is stored here; 0 elsewhere (R6). -/
def Krf.regRead (b : Krf) (off : Nat) : Word :=
  match off with
  | 0x0 => b.cfg.toWord
  | 0x4 => b.zone.toWord
  | 0x8 => b.mline.toWord
  | 0xc => putV b.kpx 0
  | 0x10 => b.slab.toWord
  | 0x14 => b.det.toWord
  | 0x24 => b.stat.toWord
  | 0x28 => b.evt.toWord
  | 0x2c => putV b.fcnt 0
  | 0x38 => b.lastj.toWord
  | 0x3c => b.band.toWord
  | 0x40 => putV b.gused 0
  | 0x44 => b.cnt.toWord
  | 0x48 => b.blindn.toWord
  | 0x4c => putV b.headid 0
  | 0x50 => putV b.mdig 0
  | 0x60 => putV b.zwide 0
  | _ => 0

/-- A writer sets the bits `m` of the word at offset `off` of the block (Table 0-6, RW and W1C; the rest is ignored). -/
def Krf.regWrite (b : Krf) (off : Nat) (w m : Word) : Krf :=
  match off with
  | 0x28 => { b with evt := b.evt.write w m }
  | 0x60 => { b with zwide := fmix b.zwide (getF w 0 10) (getF m 0 10) }
  | _ => b

/-- Bits of the word at `off` that are IMG fields (R332: an image record may write no other bit as one). -/
def Krf.imgMask (off : Nat) : Word :=
  match off with
  | 0x0 => 0xff3f
  | 0x4 => 0x1ff01ff
  | 0x8 => 0xbfff
  | 0xc => 0xffff
  | 0x10 => 0xfffffff
  | 0x14 => 0xfff1ffff
  | _ => 0

end Sys2Proof.Machine
end

