-- ==== Sys2Proof/Machine/UnitKerf.lean ====
section
/-! DEFINITION. What one kerf block holds beside its registers: window, judgement, model, override and frame windows (chapter 6),
and the head link of its portal (R366 to R369). -/

namespace Sys2Proof.Machine

/-- One depth frame of a head: counter, frame end, largest gap since the frame before (0.1 mm), and its depth in row-major order. -/
structure Frame where
  fcnt  : Word
  fend  : Nat
  g     : Nat
  depth : List (BitVec 16)
  live  : Bool                          -- the window was open at the frame end (R167)
  deriving DecidableEq, Repr

/-- What judging a frame gave (R161 to R163). -/
structure Judged where
  frame  : Frame
  verd   : Verdict
  bcause : BitVec 3 := 0
  xl     : Nat := 0
  xr     : Nat := 0
  hitpix : Nat := 0
  invpct : Nat := 0
  inOrder : Bool := true               -- its counter follows the frame before (R165)
  judged : Bool := true                -- a frame was judged: false for STUCK and SILENT (R165, R166)
  deriving DecidableEq, Repr

/-- The frame window of R176. -/
structure Shown where
  tag  : BitVec 8
  j    : Judged
  win  : KWin
  deriving DecidableEq, Repr

/-- A learned empty-zone model (R173): per pixel a depth and tolerance, or an invalid mark, and what it was learned under. -/
structure KModel where
  px    : List (Option (Nat × Nat))
  head  : BitVec 64
  zone  : Word
  mline : Word
  kpx   : Word
  slab  : Word
  deriving DecidableEq, Repr

/-- A frame whose segments are arriving (R367). -/
structure Partial where
  fcnt : Word
  next : Nat                            -- the segment expected
  rows : List (List (BitVec 16))        -- segments received, newest first
  deriving DecidableEq, Repr

/-- One portal's kerf engine. -/
structure Kerf where
  reg     : Krf := {}
  sZwide  : BitVec 10 := 0
  cfgNow  : KrfCfg := {}                -- KRF.CFG and KRF.DET as they act: an image switch takes effect at the next judged frame (R175)
  detNow  : KrfDet := {}
  staged  : Bool := false
  -- head link
  status  : Bool := false               -- a status frame has come since link-up (R368)
  headId  : BitVec 64 := 0
  headKnown : Bool := false             -- a status frame has come since the start
  headFw  : Word := 0
  headRate : Byte := 0
  headTemp : Byte := 0
  segRate : Bool := false               -- RATE flag of the last segment
  segAt   : Nat := 0                    -- and when it came
  part    : Option Partial := none
  tag     : BitVec 8 := 0               -- TAG of the last frame DMA (Table 1-6)
  rateAt  : Nat := 0                    -- last rate command
  -- frames
  dma     : List (BitVec 8 × Frame) := []   -- received, DMA not yet ended
  shown   : Option Shown := none
  received : Bool := false              -- a frame has been received: KRF.FCNT is the previous counter
  broken  : Bool := false               -- the next frame does not follow the one before (R168)
  wait    : List Judged := []           -- judged, verdict not yet issued
  fend    : Nat := 0                    -- frame end of the last judged frame, KRF.FEND
  lastEnd : Nat := 0                    -- last frame end
  gmax    : Nat := 0                    -- largest G since then, 0.1 mm (R161)
  foulRow : Nat := 0                    -- judged frames in a row with INVPCT > FOUL (R163)
  cleanRow : Nat := 0                   -- and with INVPCT ≤ FOUL
  lens    : Bool := false
  -- window
  gw      : Int := 0                    -- GW, nm (R160)
  openAt  : Nat := 0
  silAt   : Option Nat := none          -- last SILENT verdict since a frame end (R166)
  last    : Option Judged := none       -- the verdict issued last
  -- the kerf condition
  tm      : Option Nat := none          -- DCL made and agreed since (R168)
  made    : Bool := false               -- it has been since the start (R464)
  afterTm : Option Verdict := none      -- latest verdict issued after tm
  nonBlind : Option Verdict := none     -- latest non-BLIND verdict of the present window
  episode : Bool := false               -- a BLIND episode (R171)
  lockAt  : Nat := 0                    -- LOCKOCC set
  snapReq : Bool := false
  -- override (R172)
  ovrLine : Bool := false
  ovrAt   : Nat := 0                    -- last change of the line
  -- model (R173, R174)
  model   : Option KModel := none       -- the newer copy
  older   : Option KModel := none
  copyBad : Bool := false               -- both copies fail their CRC
  dropped : Bool := false               -- a switch of the geometry has made the model invalid until a relearn (R175)
  learn   : List (List (BitVec 16)) := []   -- frames taken, newest first
  deriving DecidableEq, Repr

end Sys2Proof.Machine
end

