-- ==== Sys2Proof/Machine/RegLoad.lean ====
section
/-! DEFINITION. The register blocks LSB, LSG of the address map (Table 1-7), field by field as
their register tables give them: bits, access code and reset value. Fields that only mirror other state are not stored
here; Machine/BusRead.lean computes them. `toWord` is what a read gives, `img` what an image record sets (access IMG),
`write` what a writer sets under Table 0-6 (RW and W1C), under a mask of the bits the access carries. -/

namespace Sys2Proof.Machine

/-- LSB.CFG — Channel configuration, offset 0x0000 (register table after R239). -/
structure LsbCfg where
  ilim : BitVec 7 := 40  -- [6:0] IMG
  olth : BitVec 8 := 20  -- [15:8] IMG
  safe : Bool := false  -- [16:16] IMG
  retryn : BitVec 3 := 3  -- [19:17] IMG
  olen : Bool := true  -- [20:20] IMG
  deriving DecidableEq, Repr

/-- The word a read of LSB.CFG gives, as far as it is stored here. -/
def LsbCfg.toWord (r : LsbCfg) : Word :=
  putV r.ilim 0 ||| putV r.olth 8 ||| putB r.safe 16 ||| putV r.retryn 17 ||| putB r.olen 20

/-- An image record writes LSB.CFG (R5 IMG, R332). -/
def LsbCfg.img (r : LsbCfg) (w : Word) : LsbCfg :=
  { r with ilim := getF w 0 7, olth := getF w 8 8, safe := w.getLsbD 16, retryn := getF w 17 3, olen := w.getLsbD 20 }

/-- LSB.CHKCFG — Choker configuration, offset 0x0008 (register table after R239). -/
structure LsbChkcfg where
  budget : BitVec 12 := 2000  -- [11:0] IMG
  leak : BitVec 7 := 100  -- [22:16] IMG
  deriving DecidableEq, Repr

/-- The word a read of LSB.CHKCFG gives, as far as it is stored here. -/
def LsbChkcfg.toWord (r : LsbChkcfg) : Word :=
  putV r.budget 0 ||| putV r.leak 16

/-- An image record writes LSB.CHKCFG (R5 IMG, R332). -/
def LsbChkcfg.img (r : LsbChkcfg) (w : Word) : LsbChkcfg :=
  { r with budget := getF w 0 12, leak := getF w 16 7 }

/-- LSB.STAT — Channel status, offset 0x0014 (register table after R239). -/
structure LsbStat where
  out : Bool := false  -- [0:0] RO
  ilimact : Bool := false  -- [1:1] RO
  tlatch : Bool := false  -- [2:2] RO
  openld : Bool := false  -- [3:3] RO
  retries : BitVec 3 := 0  -- [10:8] RO
  safev : Bool := false  -- [11:11] RO
  olt : OltStat := .idle  -- [14:12] RO
  deriving DecidableEq, Repr

/-- The word a read of LSB.STAT gives, as far as it is stored here. -/
def LsbStat.toWord (r : LsbStat) : Word :=
  putB r.out 0 ||| putB r.ilimact 1 ||| putB r.tlatch 2 ||| putB r.openld 3 ||| putV r.retries 8 ||| putB r.safev 11 ||| putV r.olt.code 12

/-- LSB.EVT — Channel events, offset 0x0018 (register table after R239). -/
structure LsbEvt where
  tsd : Bool := false  -- [0:0] W1C
  rlock : Bool := false  -- [1:1] W1C
  choke : Bool := false  -- [2:2] W1C
  clampov : Bool := false  -- [3:3] W1C
  openld : Bool := false  -- [4:4] W1C
  deriving DecidableEq, Repr

/-- The word a read of LSB.EVT gives, as far as it is stored here. -/
def LsbEvt.toWord (r : LsbEvt) : Word :=
  putB r.tsd 0 ||| putB r.rlock 1 ||| putB r.choke 2 ||| putB r.clampov 3 ||| putB r.openld 4

/-- A write of the bits `m` of LSB.EVT (Table 0-6). -/
def LsbEvt.write (r : LsbEvt) (w m : Word) : LsbEvt :=
  { r with tsd := r.tsd && !((w &&& m).getLsbD 0), rlock := r.rlock && !((w &&& m).getLsbD 1), choke := r.choke && !((w &&& m).getLsbD 2), clampov := r.clampov && !((w &&& m).getLsbD 3), openld := r.openld && !((w &&& m).getLsbD 4) }

/-- LSB.MEAS — Measurements, offset 0x001C (register table after R239). -/
structure LsbMeas where
  i : BitVec 16 := 0  -- [15:0] RO
  tj : BitVec 16 := 0  -- [31:16] RO
  deriving DecidableEq, Repr

/-- The word a read of LSB.MEAS gives, as far as it is stored here. -/
def LsbMeas.toWord (r : LsbMeas) : Word :=
  putV r.i 0 ||| putV r.tj 16

/-- LSB.CHK — Choker state, offset 0x0020 (register table after R239). -/
structure LsbChk where
  e : BitVec 16 := 0  -- [15:0] RO
  last : BitVec 16 := 0  -- [31:16] RO
  deriving DecidableEq, Repr

/-- The word a read of LSB.CHK gives, as far as it is stored here. -/
def LsbChk.toWord (r : LsbChk) : Word :=
  putV r.e 0 ||| putV r.last 16

/-- LSB.CNT — Channel statistics, offset 0x0024 (register table after R239). -/
structure LsbCnt where
  tsdn : BitVec 16 := 0  -- [15:0] RO
  choken : BitVec 16 := 0  -- [31:16] RO
  deriving DecidableEq, Repr

/-- The word a read of LSB.CNT gives, as far as it is stored here. -/
def LsbCnt.toWord (r : LsbCnt) : Word :=
  putV r.tsdn 0 ||| putV r.choken 16

/-- The stored registers of one LSB block. -/
structure Lsb where
  cfg : LsbCfg := {}
  retry : BitVec 8 := 50
  chkcfg : LsbChkcfg := {}
  cmd : Bool := false
  stat : LsbStat := {}
  evt : LsbEvt := {}
  meas : LsbMeas := {}
  chk : LsbChk := {}
  cnt : LsbCnt := {}
  swn : BitVec 32 := 0
  deriving DecidableEq, Repr

/-- An image record writes the word at offset `off` of the block; an offset with no IMG field keeps all (R332). -/
def Lsb.imgWrite (b : Lsb) (off : Nat) (w : Word) : Lsb :=
  match off with
  | 0x0 => { b with cfg := b.cfg.img w }
  | 0x4 => { b with retry := getF w 0 8 }
  | 0x8 => { b with chkcfg := b.chkcfg.img w }
  | _ => b

/-- Every IMG field of the block at its reset value, the rest kept (R332: a field no record writes takes its reset value). -/
def Lsb.imgReset (b : Lsb) : Lsb :=
  { b with cfg := {},
           retry := 50,
           chkcfg := {} }

/-- The word at offset `off` of the block as a read gives it, as far as it is stored here; 0 elsewhere (R6). -/
def Lsb.regRead (b : Lsb) (off : Nat) : Word :=
  match off with
  | 0x0 => b.cfg.toWord
  | 0x4 => putV b.retry 0
  | 0x8 => b.chkcfg.toWord
  | 0xc => putB b.cmd 0
  | 0x14 => b.stat.toWord
  | 0x18 => b.evt.toWord
  | 0x1c => b.meas.toWord
  | 0x20 => b.chk.toWord
  | 0x24 => b.cnt.toWord
  | 0x28 => putV b.swn 0
  | _ => 0

/-- A writer sets the bits `m` of the word at offset `off` of the block (Table 0-6, RW and W1C; the rest is ignored). -/
def Lsb.regWrite (b : Lsb) (off : Nat) (w m : Word) : Lsb :=
  match off with
  | 0xc => { b with cmd := if m.getLsbD 0 then w.getLsbD 0 else b.cmd }
  | 0x18 => { b with evt := b.evt.write w m }
  | _ => b

/-- Bits of the word at `off` that are IMG fields (R332: an image record may write no other bit as one). -/
def Lsb.imgMask (off : Nat) : Word :=
  match off with
  | 0x0 => 0x1fff7f
  | 0x4 => 0xff
  | 0x8 => 0x7f0fff
  | _ => 0

/-- LSG.ALB — Load bus status, offset 0x0000 (register table after R240). -/
structure LsgAlb where
  v : BitVec 12 := 0  -- [11:0] RO
  uv : Bool := false  -- [12:12] RO
  rev : Bool := false  -- [13:13] RO
  gndl : Bool := false  -- [14:14] RO
  ovw : Bool := false  -- [15:15] RO
  deriving DecidableEq, Repr

/-- The word a read of LSG.ALB gives, as far as it is stored here. -/
def LsgAlb.toWord (r : LsgAlb) : Word :=
  putV r.v 0 ||| putB r.uv 12 ||| putB r.rev 13 ||| putB r.gndl 14 ||| putB r.ovw 15

/-- The stored registers of one LSG block. -/
structure Lsg where
  alb : LsgAlb := {}
  evt : BitVec 4 := 0
  deriving DecidableEq, Repr

/-- The word at offset `off` of the block as a read gives it, as far as it is stored here; 0 elsewhere (R6). -/
def Lsg.regRead (b : Lsg) (off : Nat) : Word :=
  match off with
  | 0x0 => b.alb.toWord
  | 0x4 => putV b.evt 0
  | _ => 0

/-- A writer sets the bits `m` of the word at offset `off` of the block (Table 0-6, RW and W1C; the rest is ignored). -/
def Lsg.regWrite (b : Lsg) (off : Nat) (w m : Word) : Lsg :=
  match off with
  | 0x4 => { b with evt := b.evt &&& ~~~(getF (w &&& m) 0 4) }
  | _ => b

/-- Bits of the word at `off` that are IMG fields (R332: an image record may write no other bit as one). -/
def Lsg.imgMask (off : Nat) : Word :=
  match off with
  | _ => 0

end Sys2Proof.Machine
end

