-- ==== Sys2Proof/Machine/UnitLoad.lean ====
section
/-! DEFINITION. What a load-switch channel and the load bus hold beside their registers (chapter 8). -/

namespace Sys2Proof.Machine

/-- One load-switch channel. -/
structure LoadCh where
  reg      : Lsb := {}
  sCmd     : Bool := false            -- staging copy of LSB.CMD.ON
  staged   : Bool := false
  safeGov  : Bool := true             -- the safe value governs, from a start or entry to STOP until a commit in RUN (R221)
  resetOff : Bool := true             -- off since the last start: no command under RUN yet (R463)
  eff      : Bool := false            -- the command that governs, as last evaluated
  lockHold : Bool := false            -- hold-off 4
  choked   : Bool := false            -- hold-off 5
  spent    : Bool := false            -- hold-off 6
  edgeWait : Bool := false            -- an on-edge came while the thermal latch was set (R226)
  retryAt  : Option Nat := none       -- hold-off 8: when the next attempt is due (R225)
  attempt  : Bool := false            -- the next conduction is a retry
  since    : Nat := 0                 -- conducting since
  clamping : Bool := false            -- a switch-off whose clamp energy is still measured (R229)
  acc      : Nat := 0                 -- Choker accumulator, µJ
  oltAt    : Nat := 0                 -- start of the off-state test (R228)
  deriving DecidableEq, Repr

/-- The load bus. -/
structure LoadBus where
  reg    : Lsg := {}
  hold   : Bool := false              -- hold-off 1 for a supply fault (R233 to R235)
  off    : Bool := false              -- hold-off 1 for the power-fail sequence or sleep (R221)
  leakAt : Nat := 0                   -- last leak update (R229)
  deriving DecidableEq, Repr

end Sys2Proof.Machine
end

