-- ==== Sys2Proof/Machine/RegAxis.lean ====
section
/-! DEFINITION. The register blocks AXC of the address map (Table 1-7), field by field as
their register tables give them: bits, access code and reset value. Fields that only mirror other state are not stored
here; Machine/BusRead.lean computes them. `toWord` is what a read gives, `img` what an image record sets (access IMG),
`write` what a writer sets under Table 0-6 (RW and W1C), under a mask of the bits the access carries. -/

namespace Sys2Proof.Machine

/-- AXC.CFG — Axis configuration, offset 0x0000 (register table after R104). -/
structure AxcCfg where
  rot : Bool := false  -- [0:0] IMG
  sdo : Bool := false  -- [1:1] IMG
  deriving DecidableEq, Repr

/-- The word a read of AXC.CFG gives, as far as it is stored here. -/
def AxcCfg.toWord (r : AxcCfg) : Word :=
  putB r.rot 0 ||| putB r.sdo 1

/-- An image record writes AXC.CFG (R5 IMG, R332). -/
def AxcCfg.img (r : AxcCfg) (w : Word) : AxcCfg :=
  { r with rot := w.getLsbD 0, sdo := w.getLsbD 1 }

/-- AXC.VMAX — Speed limits, offset 0x0008 (register table after R104). -/
structure AxcVmax where
  vo : BitVec 16 := 4800  -- [15:0] IMG
  vc : BitVec 16 := 4800  -- [31:16] IMG
  deriving DecidableEq, Repr

/-- The word a read of AXC.VMAX gives, as far as it is stored here. -/
def AxcVmax.toWord (r : AxcVmax) : Word :=
  putV r.vo 0 ||| putV r.vc 16

/-- An image record writes AXC.VMAX (R5 IMG, R332). -/
def AxcVmax.img (r : AxcVmax) (w : Word) : AxcVmax :=
  { r with vo := getF w 0 16, vc := getF w 16 16 }

/-- AXC.AMAX — Acceleration limits, offset 0x000C (register table after R104). -/
structure AxcAmax where
  ao : BitVec 16 := 1500  -- [15:0] IMG
  ac : BitVec 16 := 1500  -- [31:16] IMG
  deriving DecidableEq, Repr

/-- The word a read of AXC.AMAX gives, as far as it is stored here. -/
def AxcAmax.toWord (r : AxcAmax) : Word :=
  putV r.ao 0 ||| putV r.ac 16

/-- An image record writes AXC.AMAX (R5 IMG, R332). -/
def AxcAmax.img (r : AxcAmax) (w : Word) : AxcAmax :=
  { r with ao := getF w 0 16, ac := getF w 16 16 }

/-- AXC.STATE — Axis state, offset 0x0020 (register table after R104). -/
structure AxcState where
  state : AxState := .disabled  -- [3:0] RO
  trust : Trust := .untrusted  -- [5:4] RO
  attgt : Bool := false  -- [6:6] RO
  cause : BitVec 4 := 0  -- [15:12] RO
  deriving DecidableEq, Repr

/-- The word a read of AXC.STATE gives, as far as it is stored here. -/
def AxcState.toWord (r : AxcState) : Word :=
  putV r.state.code 0 ||| putV r.trust.code 4 ||| putB r.attgt 6 ||| putV r.cause 12

/-- AXC.FLT — Axis faults, offset 0x0024 (register table after R104). -/
structure AxcFlt where
  ferr : Bool := false  -- [0:0] W1C
  fbflt : Bool := false  -- [1:1] W1C
  sat : Bool := false  -- [2:2] W1C
  envcut : Bool := false  -- [3:3] W1C
  reffail : Bool := false  -- [4:4] W1C
  starve : Bool := false  -- [5:5] W1C
  refused : Bool := false  -- [6:6] W1C
  deriving DecidableEq, Repr

/-- The word a read of AXC.FLT gives, as far as it is stored here. -/
def AxcFlt.toWord (r : AxcFlt) : Word :=
  putB r.ferr 0 ||| putB r.fbflt 1 ||| putB r.sat 2 ||| putB r.envcut 3 ||| putB r.reffail 4 ||| putB r.starve 5 ||| putB r.refused 6

/-- A write of the bits `m` of AXC.FLT (Table 0-6). -/
def AxcFlt.write (r : AxcFlt) (w m : Word) : AxcFlt :=
  { r with ferr := r.ferr && !((w &&& m).getLsbD 0), fbflt := r.fbflt && !((w &&& m).getLsbD 1), sat := r.sat && !((w &&& m).getLsbD 2), envcut := r.envcut && !((w &&& m).getLsbD 3), reffail := r.reffail && !((w &&& m).getLsbD 4), starve := r.starve && !((w &&& m).getLsbD 5), refused := r.refused && !((w &&& m).getLsbD 6) }

/-- AXC.TOL — Tolerances, offset 0x0044 (register table after R104). -/
structure AxcTol where
  inpos : BitVec 16 := 512  -- [15:0] IMG
  hometol : BitVec 16 := 2048  -- [31:16] IMG
  deriving DecidableEq, Repr

/-- The word a read of AXC.TOL gives, as far as it is stored here. -/
def AxcTol.toWord (r : AxcTol) : Word :=
  putV r.inpos 0 ||| putV r.hometol 16

/-- An image record writes AXC.TOL (R5 IMG, R332). -/
def AxcTol.img (r : AxcTol) (w : Word) : AxcTol :=
  { r with inpos := getF w 0 16, hometol := getF w 16 16 }

/-- AXC.REFV — Reference speed and timeout, offset 0x0054 (register table after R104). -/
structure AxcRefv where
  vref : BitVec 16 := 320  -- [15:0] IMG
  reftmo : BitVec 10 := 300  -- [25:16] IMG
  deriving DecidableEq, Repr

/-- The word a read of AXC.REFV gives, as far as it is stored here. -/
def AxcRefv.toWord (r : AxcRefv) : Word :=
  putV r.vref 0 ||| putV r.reftmo 16

/-- An image record writes AXC.REFV (R5 IMG, R332). -/
def AxcRefv.img (r : AxcRefv) (w : Word) : AxcRefv :=
  { r with vref := getF w 0 16, reftmo := getF w 16 10 }

/-- AXC.REFD — End-stop detection, offset 0x0058 (register table after R104). -/
structure AxcRefd where
  reffe : BitVec 16 := 1024  -- [15:0] IMG
  reft : BitVec 8 := 50  -- [23:16] IMG
  iref : BitVec 8 := 15  -- [31:24] IMG
  deriving DecidableEq, Repr

/-- The word a read of AXC.REFD gives, as far as it is stored here. -/
def AxcRefd.toWord (r : AxcRefd) : Word :=
  putV r.reffe 0 ||| putV r.reft 16 ||| putV r.iref 24

/-- An image record writes AXC.REFD (R5 IMG, R332). -/
def AxcRefd.img (r : AxcRefd) (w : Word) : AxcRefd :=
  { r with reffe := getF w 0 16, reft := getF w 16 8, iref := getF w 24 8 }

/-- AXC.FEL — Felling-order prediction, offset 0x0064 (register table after R104). -/
structure AxcFel where
  ipk : BitVec 12 := 40  -- [11:0] IMG
  irun : BitVec 12 := 10  -- [23:12] IMG
  tpk : BitVec 8 := 30  -- [31:24] IMG
  deriving DecidableEq, Repr

/-- The word a read of AXC.FEL gives, as far as it is stored here. -/
def AxcFel.toWord (r : AxcFel) : Word :=
  putV r.ipk 0 ||| putV r.irun 12 ||| putV r.tpk 24

/-- An image record writes AXC.FEL (R5 IMG, R332). -/
def AxcFel.img (r : AxcFel) (w : Word) : AxcFel :=
  { r with ipk := getF w 0 12, irun := getF w 12 12, tpk := getF w 24 8 }

/-- AXC.SDO — Step output timing, offset 0x0068 (register table after R104). -/
structure AxcSdo where
  pw : BitVec 8 := 1  -- [7:0] IMG
  dirsu : BitVec 8 := 2  -- [15:8] IMG
  deriving DecidableEq, Repr

/-- The word a read of AXC.SDO gives, as far as it is stored here. -/
def AxcSdo.toWord (r : AxcSdo) : Word :=
  putV r.pw 0 ||| putV r.dirsu 8

/-- An image record writes AXC.SDO (R5 IMG, R332). -/
def AxcSdo.img (r : AxcSdo) (w : Word) : AxcSdo :=
  { r with pw := getF w 0 8, dirsu := getF w 8 8 }

/-- AXC.MOT — Motor configuration, offset 0x0100 (register table after R156). -/
structure AxcMot where
  kind : BitVec 2 := 0  -- [1:0] IMG
  comm : Bool := false  -- [2:2] IMG
  phswap : Bool := false  -- [3:3] IMG
  poles : BitVec 4 := 0  -- [11:8] IMG
  deriving DecidableEq, Repr

/-- The word a read of AXC.MOT gives, as far as it is stored here. -/
def AxcMot.toWord (r : AxcMot) : Word :=
  putV r.kind 0 ||| putB r.comm 2 ||| putB r.phswap 3 ||| putV r.poles 8

/-- An image record writes AXC.MOT (R5 IMG, R332). -/
def AxcMot.img (r : AxcMot) (w : Word) : AxcMot :=
  { r with kind := getF w 0 2, comm := w.getLsbD 2, phswap := w.getLsbD 3, poles := getF w 8 4 }

/-- AXC.PWM — Bridge timing, offset 0x0110 (register table after R156). -/
structure AxcPwm where
  slew : BitVec 2 := 0  -- [1:0] IMG
  dead : BitVec 4 := 5  -- [7:4] IMG
  deriving DecidableEq, Repr

/-- The word a read of AXC.PWM gives, as far as it is stored here. -/
def AxcPwm.toWord (r : AxcPwm) : Word :=
  putV r.slew 0 ||| putV r.dead 4

/-- An image record writes AXC.PWM (R5 IMG, R332). -/
def AxcPwm.img (r : AxcPwm) (w : Word) : AxcPwm :=
  { r with slew := getF w 0 2, dead := getF w 4 4 }

/-- AXC.GSH — Gain-table shifts, offset 0x0114 (register table after R156). -/
structure AxcGsh where
  csh : BitVec 5 := 6  -- [4:0] IMG
  ssh : BitVec 5 := 10  -- [12:8] IMG
  psh : BitVec 5 := 7  -- [20:16] IMG
  deriving DecidableEq, Repr

/-- The word a read of AXC.GSH gives, as far as it is stored here. -/
def AxcGsh.toWord (r : AxcGsh) : Word :=
  putV r.csh 0 ||| putV r.ssh 8 ||| putV r.psh 16

/-- An image record writes AXC.GSH (R5 IMG, R332). -/
def AxcGsh.img (r : AxcGsh) (w : Word) : AxcGsh :=
  { r with csh := getF w 0 5, ssh := getF w 8 5, psh := getF w 16 5 }

/-- AXC.IQ — Currents, offset 0x0128 (register table after R156). -/
structure AxcIq where
  cmd : BitVec 16 := 0  -- [15:0] RO
  meas : BitVec 16 := 0  -- [31:16] RO
  deriving DecidableEq, Repr

/-- The word a read of AXC.IQ gives, as far as it is stored here. -/
def AxcIq.toWord (r : AxcIq) : Word :=
  putV r.cmd 0 ||| putV r.meas 16

/-- AXC.SATF — Loop saturation, offset 0x012C (register table after R156). -/
structure AxcSatf where
  satc : Bool := false  -- [0:0] RO
  sats : Bool := false  -- [1:1] RO
  satp : Bool := false  -- [2:2] RO
  deriving DecidableEq, Repr

/-- The word a read of AXC.SATF gives, as far as it is stored here. -/
def AxcSatf.toWord (r : AxcSatf) : Word :=
  putB r.satc 0 ||| putB r.sats 1 ||| putB r.satp 2

/-- AXC.FMAPCFG — Friction map configuration, offset 0x0134 (register table after R156). -/
structure AxcFmapcfg where
  cell : BitVec 16 := 64  -- [15:0] IMG
  learn : Bool := true  -- [16:16] IMG
  deriving DecidableEq, Repr

/-- The word a read of AXC.FMAPCFG gives, as far as it is stored here. -/
def AxcFmapcfg.toWord (r : AxcFmapcfg) : Word :=
  putV r.cell 0 ||| putB r.learn 16

/-- An image record writes AXC.FMAPCFG (R5 IMG, R332). -/
def AxcFmapcfg.img (r : AxcFmapcfg) (w : Word) : AxcFmapcfg :=
  { r with cell := getF w 0 16, learn := w.getLsbD 16 }

/-- AXC.CAL — Current-sensor calibration, offset 0x013C (register table after R156). -/
structure AxcCal where
  ofsok : Bool := false  -- [1:1] RO
  status : ReqStat := .idle  -- [10:8] RO
  deriving DecidableEq, Repr

/-- The word a read of AXC.CAL gives, as far as it is stored here. -/
def AxcCal.toWord (r : AxcCal) : Word :=
  putB r.ofsok 1 ||| putV r.status.code 8

/-- AXC.IOFS — Phase-current offsets, offset 0x0140 (register table after R156). -/
structure AxcIofs where
  u : BitVec 10 := 0  -- [9:0] RO
  v : BitVec 10 := 0  -- [19:10] RO
  w : BitVec 10 := 0  -- [29:20] RO
  deriving DecidableEq, Repr

/-- The word a read of AXC.IOFS gives, as far as it is stored here. -/
def AxcIofs.toWord (r : AxcIofs) : Word :=
  putV r.u 0 ||| putV r.v 10 ||| putV r.w 20

/-- AXC.ENVF — Force envelope, offset 0x0180 (register table after R156). -/
structure AxcEnvf where
  fc : BitVec 10 := 60  -- [9:0] RO; no certificate: Table 5-3 (log 2)
  fo : BitVec 10 := 60  -- [19:10] RO
  tf : BitVec 5 := 1  -- [24:20] RO
  deriving DecidableEq, Repr

/-- The word a read of AXC.ENVF gives, as far as it is stored here. -/
def AxcEnvf.toWord (r : AxcEnvf) : Word :=
  putV r.fc 0 ||| putV r.fo 10 ||| putV r.tf 20

/-- AXC.ENVV — Speed envelope and mass, offset 0x0184 (register table after R156). -/
structure AxcEnvv where
  v : BitVec 16 := 100  -- [15:0] RO
  mass : BitVec 16 := 2000  -- [31:16] RO
  deriving DecidableEq, Repr

/-- The word a read of AXC.ENVV gives, as far as it is stored here. -/
def AxcEnvv.toWord (r : AxcEnvv) : Word :=
  putV r.v 0 ||| putV r.mass 16

/-- AXC.ENVK — Force constant and friction cap, offset 0x0190 (register table after R156). -/
structure AxcEnvk where
  kf : BitVec 16 := 10000  -- [15:0] RO
  frmax : BitVec 16 := 0  -- [31:16] RO
  deriving DecidableEq, Repr

/-- The word a read of AXC.ENVK gives, as far as it is stored here. -/
def AxcEnvk.toWord (r : AxcEnvk) : Word :=
  putV r.kf 0 ||| putV r.frmax 16

/-- AXC.ENVST — Envelope status, offset 0x0198 (register table after R156). -/
structure AxcEnvst where
  force : Bool := false  -- [0:0] W1C
  speed : Bool := false  -- [1:1] W1C
  energy : Bool := false  -- [2:2] W1C
  ipeak : Bool := false  -- [3:3] W1C
  ochw : Bool := false  -- [4:4] W1C
  i2t : Bool := false  -- [5:5] W1C
  otemp : Bool := false  -- [6:6] W1C
  floor : Bool := false  -- [8:8] RO
  deriving DecidableEq, Repr

/-- The word a read of AXC.ENVST gives, as far as it is stored here. -/
def AxcEnvst.toWord (r : AxcEnvst) : Word :=
  putB r.force 0 ||| putB r.speed 1 ||| putB r.energy 2 ||| putB r.ipeak 3 ||| putB r.ochw 4 ||| putB r.i2t 5 ||| putB r.otemp 6 ||| putB r.floor 8

/-- A write of the bits `m` of AXC.ENVST (Table 0-6). -/
def AxcEnvst.write (r : AxcEnvst) (w m : Word) : AxcEnvst :=
  { r with force := r.force && !((w &&& m).getLsbD 0), speed := r.speed && !((w &&& m).getLsbD 1), energy := r.energy && !((w &&& m).getLsbD 2), ipeak := r.ipeak && !((w &&& m).getLsbD 3), ochw := r.ochw && !((w &&& m).getLsbD 4), i2t := r.i2t && !((w &&& m).getLsbD 5), otemp := r.otemp && !((w &&& m).getLsbD 6) }

/-- AXC.FMAPc — Friction map cell c, offset 0x0400 + 0x4 × c, c = 0 to 63 (register table after R156). -/
structure AxcFmap where
  opn : BitVec 16 := 0  -- [15:0] RO
  close : BitVec 16 := 0  -- [31:16] RO
  deriving DecidableEq, Repr

/-- The word a read of AXC.FMAPc gives, as far as it is stored here. -/
def AxcFmap.toWord (r : AxcFmap) : Word :=
  putV r.opn 0 ||| putV r.close 16

/-- The stored registers of one AXC block. -/
structure Axc where
  cfg : AxcCfg := {}
  scale : BitVec 32 := 1024000
  vmax : AxcVmax := {}
  amax : AxcAmax := {}
  tgt : BitVec 32 := 0
  vlim : BitVec 16 := 0
  jmax : BitVec 32 := 30000
  state : AxcState := {}
  flt : AxcFlt := {}
  refuse : BitVec 4 := 0
  tgtf : BitVec 32 := 0
  tol : AxcTol := {}
  trustb : BitVec 32 := 20480
  slmin : BitVec 32 := 4294957056
  slmax : BitVec 32 := 2097152
  refv : AxcRefv := {}
  refd : AxcRefd := {}
  refofs : BitVec 32 := 4294966784
  obsf : BitVec 10 := 150
  fel : AxcFel := {}
  sdo : AxcSdo := {}
  blzhit : BitVec 32 := 0
  blzarmd : BitVec 32 := 0
  mot : AxcMot := {}
  ecnt : BitVec 32 := 0
  eofs : BitVec 16 := 0
  ilim : BitVec 12 := 50
  pwm : AxcPwm := {}
  gsh : AxcGsh := {}
  kic : BitVec 32 := 0
  kis : BitVec 32 := 0
  kip : BitVec 32 := 0
  ff : BitVec 16 := 32768
  iq : AxcIq := {}
  satf : AxcSatf := {}
  fest : BitVec 16 := 0
  fmapcfg : AxcFmapcfg := {}
  cal : AxcCal := {}
  iofs : AxcIofs := {}
  i2t : BitVec 16 := 0
  envf : AxcEnvf := {}
  envv : AxcEnvv := {}
  enve : BitVec 16 := 500
  envi : BitVec 8 := 20
  envk : AxcEnvk := {}
  envs : BitVec 32 := 1024000
  envst : AxcEnvst := {}
  gtc : Vector (BitVec 32) 32 := Vector.replicate 32 0
  gts : Vector (BitVec 32) 32 := Vector.replicate 32 0
  gtp : Vector (BitVec 32) 32 := Vector.replicate 32 0
  fmap : Vector (AxcFmap) 64 := Vector.replicate 64 {}
  deriving DecidableEq, Repr

/-- An image record writes the word at offset `off` of the block; an offset with no IMG field keeps all (R332). -/
def Axc.imgWrite (b : Axc) (off : Nat) (w : Word) : Axc :=
  match off with
  | 0x0 => { b with cfg := b.cfg.img w }
  | 0x4 => { b with scale := getF w 0 32 }
  | 0x8 => { b with vmax := b.vmax.img w }
  | 0xc => { b with amax := b.amax.img w }
  | 0x18 => { b with jmax := getF w 0 32 }
  | 0x44 => { b with tol := b.tol.img w }
  | 0x48 => { b with trustb := getF w 0 32 }
  | 0x4c => { b with slmin := getF w 0 32 }
  | 0x50 => { b with slmax := getF w 0 32 }
  | 0x54 => { b with refv := b.refv.img w }
  | 0x58 => { b with refd := b.refd.img w }
  | 0x5c => { b with refofs := getF w 0 32 }
  | 0x60 => { b with obsf := getF w 0 10 }
  | 0x64 => { b with fel := b.fel.img w }
  | 0x68 => { b with sdo := b.sdo.img w }
  | 0x100 => { b with mot := b.mot.img w }
  | 0x104 => { b with ecnt := getF w 0 32 }
  | 0x108 => { b with eofs := getF w 0 16 }
  | 0x10c => { b with ilim := getF w 0 12 }
  | 0x110 => { b with pwm := b.pwm.img w }
  | 0x114 => { b with gsh := b.gsh.img w }
  | 0x118 => { b with kic := getF w 0 32 }
  | 0x11c => { b with kis := getF w 0 32 }
  | 0x120 => { b with kip := getF w 0 32 }
  | 0x124 => { b with ff := getF w 0 16 }
  | 0x134 => { b with fmapcfg := b.fmapcfg.img w }
  | _ => if 0x200 ≤ off ∧ off < 0x280 then { b with gtc := vmod b.gtc ((off - 0x200) / 4) fun _ => getF w 0 32 }
    else if 0x280 ≤ off ∧ off < 0x300 then { b with gts := vmod b.gts ((off - 0x280) / 4) fun _ => getF w 0 32 }
    else if 0x300 ≤ off ∧ off < 0x380 then { b with gtp := vmod b.gtp ((off - 0x300) / 4) fun _ => getF w 0 32 }
    else b

/-- Every IMG field of the block at its reset value, the rest kept (R332: a field no record writes takes its reset value). -/
def Axc.imgReset (b : Axc) : Axc :=
  { b with cfg := {},
           scale := 1024000,
           vmax := {},
           amax := {},
           jmax := 30000,
           tol := {},
           trustb := 20480,
           slmin := 4294957056,
           slmax := 2097152,
           refv := {},
           refd := {},
           refofs := 4294966784,
           obsf := 150,
           fel := {},
           sdo := {},
           mot := {},
           ecnt := 0,
           eofs := 0,
           ilim := 50,
           pwm := {},
           gsh := {},
           kic := 0,
           kis := 0,
           kip := 0,
           ff := 32768,
           fmapcfg := {},
           gtc := Vector.replicate 32 0,
           gts := Vector.replicate 32 0,
           gtp := Vector.replicate 32 0 }

/-- The word at offset `off` of the block as a read gives it, as far as it is stored here; 0 elsewhere (R6). -/
def Axc.regRead (b : Axc) (off : Nat) : Word :=
  match off with
  | 0x0 => b.cfg.toWord
  | 0x4 => putV b.scale 0
  | 0x8 => b.vmax.toWord
  | 0xc => b.amax.toWord
  | 0x10 => putV b.tgt 0
  | 0x14 => putV b.vlim 0
  | 0x18 => putV b.jmax 0
  | 0x20 => b.state.toWord
  | 0x24 => b.flt.toWord
  | 0x28 => putV b.refuse 0
  | 0x2c => putV b.tgtf 0
  | 0x44 => b.tol.toWord
  | 0x48 => putV b.trustb 0
  | 0x4c => putV b.slmin 0
  | 0x50 => putV b.slmax 0
  | 0x54 => b.refv.toWord
  | 0x58 => b.refd.toWord
  | 0x5c => putV b.refofs 0
  | 0x60 => putV b.obsf 0
  | 0x64 => b.fel.toWord
  | 0x68 => b.sdo.toWord
  | 0x6c => putV b.blzhit 0
  | 0x70 => putV b.blzarmd 0
  | 0x100 => b.mot.toWord
  | 0x104 => putV b.ecnt 0
  | 0x108 => putV b.eofs 0
  | 0x10c => putV b.ilim 0
  | 0x110 => b.pwm.toWord
  | 0x114 => b.gsh.toWord
  | 0x118 => putV b.kic 0
  | 0x11c => putV b.kis 0
  | 0x120 => putV b.kip 0
  | 0x124 => putV b.ff 0
  | 0x128 => b.iq.toWord
  | 0x12c => b.satf.toWord
  | 0x130 => putV b.fest 0
  | 0x134 => b.fmapcfg.toWord
  | 0x13c => b.cal.toWord
  | 0x140 => b.iofs.toWord
  | 0x144 => putV b.i2t 0
  | 0x180 => b.envf.toWord
  | 0x184 => b.envv.toWord
  | 0x188 => putV b.enve 0
  | 0x18c => putV b.envi 0
  | 0x190 => b.envk.toWord
  | 0x194 => putV b.envs 0
  | 0x198 => b.envst.toWord
  | _ => if 0x200 ≤ off ∧ off < 0x280 then putV (vget b.gtc ((off - 0x200) / 4) 0) 0 else if 0x280 ≤ off ∧ off < 0x300 then putV (vget b.gts ((off - 0x280) / 4) 0) 0 else if 0x300 ≤ off ∧ off < 0x380 then putV (vget b.gtp ((off - 0x300) / 4) 0) 0 else if 0x400 ≤ off ∧ off < 0x500 then (vget b.fmap ((off - 0x400) / 4) {}).toWord else 0

/-- A writer sets the bits `m` of the word at offset `off` of the block (Table 0-6, RW and W1C; the rest is ignored). -/
def Axc.regWrite (b : Axc) (off : Nat) (w m : Word) : Axc :=
  match off with
  | 0x10 => { b with tgt := fmix b.tgt (getF w 0 32) (getF m 0 32) }
  | 0x14 => { b with vlim := fmix b.vlim (getF w 0 16) (getF m 0 16) }
  | 0x24 => { b with flt := b.flt.write w m }
  | 0x6c => { b with blzhit := b.blzhit &&& ~~~(getF (w &&& m) 0 32) }
  | 0x198 => { b with envst := b.envst.write w m }
  | _ => b

/-- Bits of the word at `off` that are IMG fields (R332: an image record may write no other bit as one). -/
def Axc.imgMask (off : Nat) : Word :=
  match off with
  | 0x0 => 0x3
  | 0x4 => 0xffffffff
  | 0x8 => 0xffffffff
  | 0xc => 0xffffffff
  | 0x18 => 0xffffffff
  | 0x44 => 0xffffffff
  | 0x48 => 0xffffffff
  | 0x4c => 0xffffffff
  | 0x50 => 0xffffffff
  | 0x54 => 0x3ffffff
  | 0x58 => 0xffffffff
  | 0x5c => 0xffffffff
  | 0x60 => 0x3ff
  | 0x64 => 0xffffffff
  | 0x68 => 0xffff
  | 0x100 => 0xf0f
  | 0x104 => 0xffffffff
  | 0x108 => 0xffff
  | 0x10c => 0xfff
  | 0x110 => 0xf3
  | 0x114 => 0x1f1f1f
  | 0x118 => 0xffffffff
  | 0x11c => 0xffffffff
  | 0x120 => 0xffffffff
  | 0x124 => 0xffff
  | 0x134 => 0x1ffff
  | _ => if 0x300 ≤ off ∧ off < 0x380 then 0xffffffff else if 0x280 ≤ off ∧ off < 0x300 then 0xffffffff else if 0x200 ≤ off ∧ off < 0x280 then 0xffffffff else 0

end Sys2Proof.Machine
end

