-- ==== Sys2Proof/Machine/RegFeedback.lean ====
section
/-! DEFINITION. The register blocks FBK, FBK (0x0200 on) of the address map (Table 1-7), field by field as
their register tables give them: bits, access code and reset value. Fields that only mirror other state are not stored
here; Machine/BusRead.lean computes them. `toWord` is what a read gives, `img` what an image record sets (access IMG),
`write` what a writer sets under Table 0-6 (RW and W1C), under a mask of the bits the access carries. -/

namespace Sys2Proof.Machine

/-- FBK.CFG — Feedback configuration, offset 0x0000 (register table after R134). -/
structure FbkCfg where
  src : BitVec 2 := 0  -- [1:0] IMG
  hall : Bool := false  -- [2:2] IMG
  inv : Bool := false  -- [3:3] IMG
  sermode : BitVec 2 := 0  -- [5:4] IMG
  gate : Bool := true  -- [6:6] IMG
  idxen : Bool := false  -- [7:7] IMG
  learn : Bool := false  -- [8:8] IMG
  erren : Bool := false  -- [9:9] IMG
  filt : BitVec 8 := 16  -- [23:16] IMG
  deriving DecidableEq, Repr

/-- The word a read of FBK.CFG gives, as far as it is stored here. -/
def FbkCfg.toWord (r : FbkCfg) : Word :=
  putV r.src 0 ||| putB r.hall 2 ||| putB r.inv 3 ||| putV r.sermode 4 ||| putB r.gate 6 ||| putB r.idxen 7 ||| putB r.learn 8 ||| putB r.erren 9 ||| putV r.filt 16

/-- An image record writes FBK.CFG (R5 IMG, R332). -/
def FbkCfg.img (r : FbkCfg) (w : Word) : FbkCfg :=
  { r with src := getF w 0 2, hall := w.getLsbD 2, inv := w.getLsbD 3, sermode := getF w 4 2, gate := w.getLsbD 6, idxen := w.getLsbD 7, learn := w.getLsbD 8, erren := w.getLsbD 9, filt := getF w 16 8 }

/-- FBK.SER — Serial format, offset 0x000C (register table after R134). -/
structure FbkSer where
  len : BitVec 6 := 24  -- [5:0] IMG
  crclen : BitVec 5 := 6  -- [10:6] IMG
  per : BitVec 2 := 2  -- [13:12] IMG
  clkdiv : BitVec 8 := 40  -- [23:16] IMG
  deriving DecidableEq, Repr

/-- The word a read of FBK.SER gives, as far as it is stored here. -/
def FbkSer.toWord (r : FbkSer) : Word :=
  putV r.len 0 ||| putV r.crclen 6 ||| putV r.per 12 ||| putV r.clkdiv 16

/-- An image record writes FBK.SER (R5 IMG, R332). -/
def FbkSer.img (r : FbkSer) (w : Word) : FbkSer :=
  { r with len := getF w 0 6, crclen := getF w 6 5, per := getF w 12 2, clkdiv := getF w 16 8 }

/-- FBK.SERCRC — Serial CRC, offset 0x0010 (register table after R134). -/
structure FbkSercrc where
  poly : BitVec 16 := 67  -- [15:0] IMG
  crcinv : Bool := true  -- [16:16] IMG
  deriving DecidableEq, Repr

/-- The word a read of FBK.SERCRC gives, as far as it is stored here. -/
def FbkSercrc.toWord (r : FbkSercrc) : Word :=
  putV r.poly 0 ||| putB r.crcinv 16

/-- An image record writes FBK.SERCRC (R5 IMG, R332). -/
def FbkSercrc.img (r : FbkSercrc) (w : Word) : FbkSercrc :=
  { r with poly := getF w 0 16, crcinv := w.getLsbD 16 }

/-- FBK.SERDLY — Line delay, offset 0x0014 (register table after R134). -/
structure FbkSerdly where
  dly : BitVec 10 := 0  -- [9:0] IMG
  meas : BitVec 10 := 0  -- [25:16] RO
  deriving DecidableEq, Repr

/-- The word a read of FBK.SERDLY gives, as far as it is stored here. -/
def FbkSerdly.toWord (r : FbkSerdly) : Word :=
  putV r.dly 0 ||| putV r.meas 16

/-- An image record writes FBK.SERDLY (R5 IMG, R332). -/
def FbkSerdly.img (r : FbkSerdly) (w : Word) : FbkSerdly :=
  { r with dly := getF w 0 10 }

/-- FBK.SOFS — Serial offset, offset 0x0018 (register table after R134). -/
structure FbkSofs where
  ofs : BitVec 27 := 0  -- [26:0] IMG
  shift : BitVec 5 := 0  -- [31:27] IMG
  deriving DecidableEq, Repr

/-- The word a read of FBK.SOFS gives, as far as it is stored here. -/
def FbkSofs.toWord (r : FbkSofs) : Word :=
  putV r.ofs 0 ||| putV r.shift 27

/-- An image record writes FBK.SOFS (R5 IMG, R332). -/
def FbkSofs.img (r : FbkSofs) (w : Word) : FbkSofs :=
  { r with ofs := getF w 0 27, shift := getF w 27 5 }

/-- FBK.LIM — Limits, offset 0x0028 (register table after R134). -/
structure FbkLim where
  tol : BitVec 3 := 2  -- [2:0] IMG
  illn : BitVec 4 := 4  -- [7:4] IMG
  sern : BitVec 4 := 3  -- [11:8] IMG
  tss : BitVec 8 := 20  -- [23:16] IMG
  deriving DecidableEq, Repr

/-- The word a read of FBK.LIM gives, as far as it is stored here. -/
def FbkLim.toWord (r : FbkLim) : Word :=
  putV r.tol 0 ||| putV r.illn 4 ||| putV r.sern 8 ||| putV r.tss 16

/-- An image record writes FBK.LIM (R5 IMG, R332). -/
def FbkLim.img (r : FbkLim) (w : Word) : FbkLim :=
  { r with tol := getF w 0 3, illn := getF w 4 4, sern := getF w 8 4, tss := getF w 16 8 }

/-- FBK.SQ — Speed quality and lines, offset 0x0048 (register table after R134). -/
structure FbkSq where
  qual : Qual := .still  -- [1:0] RO
  dir : Bool := false  -- [2:2] RO
  hallc : BitVec 3 := 0  -- [6:4] RO
  abz : BitVec 3 := 0  -- [10:8] RO
  deriving DecidableEq, Repr

/-- The word a read of FBK.SQ gives, as far as it is stored here. -/
def FbkSq.toWord (r : FbkSq) : Word :=
  putV r.qual.code 0 ||| putB r.dir 2 ||| putV r.hallc 4 ||| putV r.abz 8

/-- FBK.STAT — Feedback events, offset 0x0058 (register table after R134). -/
structure FbkStat where
  ill : Bool := false  -- [0:0] W1C
  crc : Bool := false  -- [1:1] W1C
  errb : Bool := false  -- [2:2] W1C
  wto : Bool := false  -- [3:3] W1C
  jump : Bool := false  -- [4:4] W1C
  warn : Bool := false  -- [5:5] W1C
  idxcor : Bool := false  -- [6:6] W1C
  idxerr : Bool := false  -- [7:7] W1C
  deriving DecidableEq, Repr

/-- The word a read of FBK.STAT gives, as far as it is stored here. -/
def FbkStat.toWord (r : FbkStat) : Word :=
  putB r.ill 0 ||| putB r.crc 1 ||| putB r.errb 2 ||| putB r.wto 3 ||| putB r.jump 4 ||| putB r.warn 5 ||| putB r.idxcor 6 ||| putB r.idxerr 7

/-- A write of the bits `m` of FBK.STAT (Table 0-6). -/
def FbkStat.write (r : FbkStat) (w m : Word) : FbkStat :=
  { r with ill := r.ill && !((w &&& m).getLsbD 0), crc := r.crc && !((w &&& m).getLsbD 1), errb := r.errb && !((w &&& m).getLsbD 2), wto := r.wto && !((w &&& m).getLsbD 3), jump := r.jump && !((w &&& m).getLsbD 4), warn := r.warn && !((w &&& m).getLsbD 5), idxcor := r.idxcor && !((w &&& m).getLsbD 6), idxerr := r.idxerr && !((w &&& m).getLsbD 7) }

/-- FBK.ERRCNT — Error counts, offset 0x005C (register table after R134). -/
structure FbkErrcnt where
  ill : BitVec 16 := 0  -- [15:0] RO
  ser : BitVec 16 := 0  -- [31:16] RO
  deriving DecidableEq, Repr

/-- The word a read of FBK.ERRCNT gives, as far as it is stored here. -/
def FbkErrcnt.toWord (r : FbkErrcnt) : Word :=
  putV r.ill 0 ||| putV r.ser 16

/-- The stored registers of one FBK block. -/
structure Fbk where
  cfg : FbkCfg := {}
  hallseq : BitVec 18 := 183449
  hcnt : BitVec 16 := 1
  ser : FbkSer := {}
  sercrc : FbkSercrc := {}
  serdly : FbkSerdly := {}
  sofs : FbkSofs := {}
  jump : BitVec 32 := 0
  idxpos : BitVec 32 := 0
  idxpitch : BitVec 32 := 0
  lim : FbkLim := {}
  speed : BitVec 32 := 0
  sq : FbkSq := {}
  per : BitVec 32 := 4294967295
  stat : FbkStat := {}
  errcnt : FbkErrcnt := {}
  idxlast : BitVec 32 := 0
  idxdev : BitVec 32 := 0
  deriving DecidableEq, Repr

/-- An image record writes the word at offset `off` of the block; an offset with no IMG field keeps all (R332). -/
def Fbk.imgWrite (b : Fbk) (off : Nat) (w : Word) : Fbk :=
  match off with
  | 0x0 => { b with cfg := b.cfg.img w }
  | 0x4 => { b with hallseq := getF w 0 18 }
  | 0x8 => { b with hcnt := getF w 0 16 }
  | 0xc => { b with ser := b.ser.img w }
  | 0x10 => { b with sercrc := b.sercrc.img w }
  | 0x14 => { b with serdly := b.serdly.img w }
  | 0x18 => { b with sofs := b.sofs.img w }
  | 0x1c => { b with jump := getF w 0 32 }
  | 0x20 => { b with idxpos := getF w 0 32 }
  | 0x24 => { b with idxpitch := getF w 0 32 }
  | 0x28 => { b with lim := b.lim.img w }
  | _ => b

/-- Every IMG field of the block at its reset value, the rest kept (R332: a field no record writes takes its reset value). -/
def Fbk.imgReset (b : Fbk) : Fbk :=
  { b with cfg := {},
           hallseq := 183449,
           hcnt := 1,
           ser := {},
           sercrc := {},
           serdly := { b.serdly with dly := 0 },
           sofs := {},
           jump := 0,
           idxpos := 0,
           idxpitch := 0,
           lim := {} }

/-- The word at offset `off` of the block as a read gives it, as far as it is stored here; 0 elsewhere (R6). -/
def Fbk.regRead (b : Fbk) (off : Nat) : Word :=
  match off with
  | 0x0 => b.cfg.toWord
  | 0x4 => putV b.hallseq 0
  | 0x8 => putV b.hcnt 0
  | 0xc => b.ser.toWord
  | 0x10 => b.sercrc.toWord
  | 0x14 => b.serdly.toWord
  | 0x18 => b.sofs.toWord
  | 0x1c => putV b.jump 0
  | 0x20 => putV b.idxpos 0
  | 0x24 => putV b.idxpitch 0
  | 0x28 => b.lim.toWord
  | 0x44 => putV b.speed 0
  | 0x48 => b.sq.toWord
  | 0x4c => putV b.per 0
  | 0x58 => b.stat.toWord
  | 0x5c => b.errcnt.toWord
  | 0x60 => putV b.idxlast 0
  | 0x64 => putV b.idxdev 0
  | _ => 0

/-- A writer sets the bits `m` of the word at offset `off` of the block (Table 0-6, RW and W1C; the rest is ignored). -/
def Fbk.regWrite (b : Fbk) (off : Nat) (w m : Word) : Fbk :=
  match off with
  | 0x58 => { b with stat := b.stat.write w m }
  | _ => b

/-- Bits of the word at `off` that are IMG fields (R332: an image record may write no other bit as one). -/
def Fbk.imgMask (off : Nat) : Word :=
  match off with
  | 0x0 => 0xff03ff
  | 0x4 => 0x3ffff
  | 0x8 => 0xffff
  | 0xc => 0xff37ff
  | 0x10 => 0x1ffff
  | 0x14 => 0x3ff
  | 0x18 => 0xffffffff
  | 0x1c => 0xffffffff
  | 0x20 => 0xffffffff
  | 0x24 => 0xffffffff
  | 0x28 => 0xff0ff7
  | _ => 0

/-- FBK.POCFG — Position output configuration, offset 0x0200 (register table after R134). -/
structure PoPocfg where
  mode : BitVec 2 := 0  -- [1:0] IMG
  plines : Bool := false  -- [2:2] IMG
  psrc : BitVec 6 := 0  -- [13:8] IMG
  caxis : BitVec 6 := 0  -- [21:16] IMG
  deriving DecidableEq, Repr

/-- The word a read of FBK.POCFG gives, as far as it is stored here. -/
def PoPocfg.toWord (r : PoPocfg) : Word :=
  putV r.mode 0 ||| putB r.plines 2 ||| putV r.psrc 8 ||| putV r.caxis 16

/-- An image record writes FBK.POCFG (R5 IMG, R332). -/
def PoPocfg.img (r : PoPocfg) (w : Word) : PoPocfg :=
  { r with mode := getF w 0 2, plines := w.getLsbD 2, psrc := getF w 8 6, caxis := getF w 16 6 }

/-- FBK.POSTAT — Compare status, offset 0x0210 (register table after R134). -/
structure PoPostat where
  hits : BitVec 16 := 0  -- [15:0] W1C
  ovl : Bool := false  -- [16:16] W1C
  active : Bool := false  -- [17:17] RO
  deriving DecidableEq, Repr

/-- The word a read of FBK.POSTAT gives, as far as it is stored here. -/
def PoPostat.toWord (r : PoPostat) : Word :=
  putV r.hits 0 ||| putB r.ovl 16 ||| putB r.active 17

/-- A write of the bits `m` of FBK.POSTAT (Table 0-6). -/
def PoPostat.write (r : PoPostat) (w m : Word) : PoPostat :=
  { r with hits := r.hits &&& ~~~(getF (w &&& m) 0 16), ovl := r.ovl && !((w &&& m).getLsbD 16) }

/-- The stored registers of one FBK position-output block. -/
structure Po where
  pocfg : PoPocfg := {}
  popw : BitVec 14 := 100
  pocen : BitVec 16 := 0
  pocdir : BitVec 32 := 4294967295
  postat : PoPostat := {}
  pocmp : Vector (BitVec 32) 16 := Vector.replicate 16 0
  deriving DecidableEq, Repr

/-- An image record writes the word at offset `off` of the block; an offset with no IMG field keeps all (R332). -/
def Po.imgWrite (b : Po) (off : Nat) (w : Word) : Po :=
  match off with
  | 0x200 => { b with pocfg := b.pocfg.img w }
  | _ => b

/-- Every IMG field of the block at its reset value, the rest kept (R332: a field no record writes takes its reset value). -/
def Po.imgReset (b : Po) : Po :=
  { b with pocfg := {} }

/-- The word at offset `off` of the block as a read gives it, as far as it is stored here; 0 elsewhere (R6). -/
def Po.regRead (b : Po) (off : Nat) : Word :=
  match off with
  | 0x200 => b.pocfg.toWord
  | 0x204 => putV b.popw 0
  | 0x208 => putV b.pocen 0
  | 0x20c => putV b.pocdir 0
  | 0x210 => b.postat.toWord
  | _ => if 0x240 ≤ off ∧ off < 0x280 then putV (vget b.pocmp ((off - 0x240) / 4) 0) 0 else 0

/-- A writer sets the bits `m` of the word at offset `off` of the block (Table 0-6, RW and W1C; the rest is ignored). -/
def Po.regWrite (b : Po) (off : Nat) (w m : Word) : Po :=
  match off with
  | 0x204 => { b with popw := fmix b.popw (getF w 0 14) (getF m 0 14) }
  | 0x208 => { b with pocen := fmix b.pocen (getF w 0 16) (getF m 0 16) }
  | 0x20c => { b with pocdir := fmix b.pocdir (getF w 0 32) (getF m 0 32) }
  | 0x210 => { b with postat := b.postat.write w m }
  | _ => if 0x240 ≤ off ∧ off < 0x280 then { b with pocmp := vmod b.pocmp ((off - 0x240) / 4) fun r => fmix r (getF w 0 32) (getF m 0 32) } else b

/-- Bits of the word at `off` that are IMG fields (R332: an image record may write no other bit as one). -/
def Po.imgMask (off : Nat) : Word :=
  match off with
  | 0x200 => 0x3f3f07
  | _ => 0

end Sys2Proof.Machine
end

