-- ==== Sys2Proof/Machine/RegPortal.lean ====
section
/-! DEFINITION. The register blocks PRT, FEL of the address map (Table 1-7), field by field as
their register tables give them: bits, access code and reset value. Fields that only mirror other state are not stored
here; Machine/BusRead.lean computes them. `toWord` is what a read gives, `img` what an image record sets (access IMG),
`write` what a writer sets under Table 0-6 (RW and W1C), under a mask of the bits the access carries. -/

namespace Sys2Proof.Machine

/-- PRT.CFG — Portal configuration, offset 0x0000 (register table after R44). -/
structure PrtCfg where
  side : Bool := false  -- [0:0] IMG
  kind : BitVec 3 := 0  -- [3:1] IMG
  axfit : BitVec 4 := 0  -- [7:4] IMG
  lkfit : Bool := false  -- [8:8] IMG
  kerffit : Bool := false  -- [9:9] IMG
  edgefit : Bool := false  -- [10:10] IMG
  deriving DecidableEq, Repr

/-- The word a read of PRT.CFG gives, as far as it is stored here. -/
def PrtCfg.toWord (r : PrtCfg) : Word :=
  putB r.side 0 ||| putV r.kind 1 ||| putV r.axfit 4 ||| putB r.lkfit 8 ||| putB r.kerffit 9 ||| putB r.edgefit 10

/-- An image record writes PRT.CFG (R5 IMG, R332). -/
def PrtCfg.img (r : PrtCfg) (w : Word) : PrtCfg :=
  { r with side := w.getLsbD 0, kind := getF w 1 3, axfit := getF w 4 4, lkfit := w.getLsbD 8, kerffit := w.getLsbD 9, edgefit := w.getLsbD 10 }

/-- PRT.GAPEV — Gap event thresholds, offset 0x0004 (register table after R44). -/
structure PrtGapev where
  stepgap : BitVec 10 := 250  -- [9:0] IMG
  finalgap : BitVec 10 := 150  -- [19:10] IMG
  edgemask : BitVec 6 := 15  -- [25:20] IMG
  lockgap : BitVec 6 := 3  -- [31:26] IMG
  deriving DecidableEq, Repr

/-- The word a read of PRT.GAPEV gives, as far as it is stored here. -/
def PrtGapev.toWord (r : PrtGapev) : Word :=
  putV r.stepgap 0 ||| putV r.finalgap 10 ||| putV r.edgemask 20 ||| putV r.lockgap 26

/-- An image record writes PRT.GAPEV (R5 IMG, R332). -/
def PrtGapev.img (r : PrtGapev) (w : Word) : PrtGapev :=
  { r with stepgap := getF w 0 10, finalgap := getF w 10 10, edgemask := getF w 20 6, lockgap := getF w 26 6 }

/-- PRT.FORCE — Obstacle force, offset 0x0008 (register table after R44). -/
structure PrtForce where
  obsf : BitVec 10 := 100  -- [9:0] IMG
  sealf : BitVec 10 := 130  -- [19:10] IMG
  obst : BitVec 6 := 10  -- [25:20] IMG
  deriving DecidableEq, Repr

/-- The word a read of PRT.FORCE gives, as far as it is stored here. -/
def PrtForce.toWord (r : PrtForce) : Word :=
  putV r.obsf 0 ||| putV r.sealf 10 ||| putV r.obst 20

/-- An image record writes PRT.FORCE (R5 IMG, R332). -/
def PrtForce.img (r : PrtForce) (w : Word) : PrtForce :=
  { r with obsf := getF w 0 10, sealf := getF w 10 10, obst := getF w 20 6 }

/-- PRT.SEQ — Sequence parameters, offset 0x000C (register table after R44). -/
structure PrtSeq where
  reopen : BitVec 10 := 150  -- [9:0] IMG
  maxretry : BitVec 4 := 3  -- [13:10] IMG
  warn : BitVec 10 := 300  -- [23:14] IMG
  khold : BitVec 8 := 20  -- [31:24] IMG
  deriving DecidableEq, Repr

/-- The word a read of PRT.SEQ gives, as far as it is stored here. -/
def PrtSeq.toWord (r : PrtSeq) : Word :=
  putV r.reopen 0 ||| putV r.maxretry 10 ||| putV r.warn 14 ||| putV r.khold 24

/-- An image record writes PRT.SEQ (R5 IMG, R332). -/
def PrtSeq.img (r : PrtSeq) (w : Word) : PrtSeq :=
  { r with reopen := getF w 0 10, maxretry := getF w 10 4, warn := getF w 14 10, khold := getF w 24 8 }

/-- PRT.TMO — Sequence bounds, offset 0x0010 (register table after R44). -/
structure PrtTmo where
  unlocktmo : BitVec 10 := 500  -- [9:0] IMG
  locktmo : BitVec 10 := 300  -- [19:10] IMG
  movetmo : BitVec 12 := 600  -- [31:20] IMG
  deriving DecidableEq, Repr

/-- The word a read of PRT.TMO gives, as far as it is stored here. -/
def PrtTmo.toWord (r : PrtTmo) : Word :=
  putV r.unlocktmo 0 ||| putV r.locktmo 10 ||| putV r.movetmo 20

/-- An image record writes PRT.TMO (R5 IMG, R332). -/
def PrtTmo.img (r : PrtTmo) (w : Word) : PrtTmo :=
  { r with unlocktmo := getF w 0 10, locktmo := getF w 10 10, movetmo := getF w 20 12 }

/-- PRT.FINALV — Final-approach speed, offset 0x0014 (register table after R44). -/
structure PrtFinalv where
  va : BitVec 16 := 1280  -- [15:0] IMG
  vb : BitVec 16 := 1280  -- [31:16] IMG
  deriving DecidableEq, Repr

/-- The word a read of PRT.FINALV gives, as far as it is stored here. -/
def PrtFinalv.toWord (r : PrtFinalv) : Word :=
  putV r.va 0 ||| putV r.vb 16

/-- An image record writes PRT.FINALV (R5 IMG, R332). -/
def PrtFinalv.img (r : PrtFinalv) (w : Word) : PrtFinalv :=
  { r with va := getF w 0 16, vb := getF w 16 16 }

/-- PRT.PTRAVAj — Plug travel of leaf A, offset 0x0040 + 0x4 × j, j = 0 to 15 (register table after R44). -/
structure PrtPtrava where
  t0 : BitVec 16 := 0  -- [15:0] IMG
  t1 : BitVec 16 := 0  -- [31:16] IMG
  deriving DecidableEq, Repr

/-- The word a read of PRT.PTRAVAj gives, as far as it is stored here. -/
def PrtPtrava.toWord (r : PrtPtrava) : Word :=
  putV r.t0 0 ||| putV r.t1 16

/-- An image record writes PRT.PTRAVAj (R5 IMG, R332). -/
def PrtPtrava.img (r : PrtPtrava) (w : Word) : PrtPtrava :=
  { r with t0 := getF w 0 16, t1 := getF w 16 16 }

/-- PRT.PTRAVBj — Plug travel of leaf B, offset 0x0080 + 0x4 × j, j = 0 to 15 (register table after R44). -/
structure PrtPtravb where
  t0 : BitVec 16 := 0  -- [15:0] IMG
  t1 : BitVec 16 := 0  -- [31:16] IMG
  deriving DecidableEq, Repr

/-- The word a read of PRT.PTRAVBj gives, as far as it is stored here. -/
def PrtPtravb.toWord (r : PrtPtravb) : Word :=
  putV r.t0 0 ||| putV r.t1 16

/-- An image record writes PRT.PTRAVBj (R5 IMG, R332). -/
def PrtPtravb.img (r : PrtPtravb) (w : Word) : PrtPtravb :=
  { r with t0 := getF w 0 16, t1 := getF w 16 16 }

/-- PRT.OBS — Obstacle and sequence latches, offset 0x0024 (register table after R44). -/
structure PrtObs where
  fa : Bool := false  -- [0:0] W1C
  fb : Bool := false  -- [1:1] W1C
  ea : Bool := false  -- [2:2] W1C
  eb : Bool := false  -- [3:3] W1C
  ko : Bool := false  -- [4:4] W1C
  fs : Bool := false  -- [5:5] W1C
  fx : Bool := false  -- [6:6] W1C
  trap : Bool := false  -- [7:7] W1C
  mto : Bool := false  -- [8:8] W1C
  uto : Bool := false  -- [9:9] W1C
  lto : Bool := false  -- [10:10] W1C
  giveup : Bool := false  -- [11:11] W1C
  deriving DecidableEq, Repr

/-- The word a read of PRT.OBS gives, as far as it is stored here. -/
def PrtObs.toWord (r : PrtObs) : Word :=
  putB r.fa 0 ||| putB r.fb 1 ||| putB r.ea 2 ||| putB r.eb 3 ||| putB r.ko 4 ||| putB r.fs 5 ||| putB r.fx 6 ||| putB r.trap 7 ||| putB r.mto 8 ||| putB r.uto 9 ||| putB r.lto 10 ||| putB r.giveup 11

/-- A write of the bits `m` of PRT.OBS (Table 0-6). -/
def PrtObs.write (r : PrtObs) (w m : Word) : PrtObs :=
  { r with fa := r.fa && !((w &&& m).getLsbD 0), fb := r.fb && !((w &&& m).getLsbD 1), ea := r.ea && !((w &&& m).getLsbD 2), eb := r.eb && !((w &&& m).getLsbD 3), ko := r.ko && !((w &&& m).getLsbD 4), fs := r.fs && !((w &&& m).getLsbD 5), fx := r.fx && !((w &&& m).getLsbD 6), trap := r.trap && !((w &&& m).getLsbD 7), mto := r.mto && !((w &&& m).getLsbD 8), uto := r.uto && !((w &&& m).getLsbD 9), lto := r.lto && !((w &&& m).getLsbD 10), giveup := r.giveup && !((w &&& m).getLsbD 11) }

/-- PRT.PHASE — Program phase, offset 0x0028 (register table after R44). -/
structure PrtPhase where
  phase : BitVec 4 := 0  -- [3:0] RW
  cause : BitVec 4 := 0  -- [7:4] RW
  deriving DecidableEq, Repr

/-- The word a read of PRT.PHASE gives, as far as it is stored here. -/
def PrtPhase.toWord (r : PrtPhase) : Word :=
  putV r.phase 0 ||| putV r.cause 4

/-- A write of the bits `m` of PRT.PHASE (Table 0-6). -/
def PrtPhase.write (r : PrtPhase) (w m : Word) : PrtPhase :=
  { r with phase := fmix r.phase (getF w 0 4) (getF m 0 4), cause := fmix r.cause (getF w 4 4) (getF m 4 4) }

/-- The stored registers of one PRT block. -/
structure Prt where
  cfg : PrtCfg := {}
  gapev : PrtGapev := {}
  force : PrtForce := {}
  seq : PrtSeq := {}
  tmo : PrtTmo := {}
  finalv : PrtFinalv := {}
  ptspan : BitVec 32 := 0
  ptrava : Vector (PrtPtrava) 16 := Vector.replicate 16 {}
  ptravb : Vector (PrtPtravb) 16 := Vector.replicate 16 {}
  obs : PrtObs := {}
  phase : PrtPhase := {}
  gap : BitVec 16 := 0
  cycles : BitVec 32 := 0
  reopens : BitVec 32 := 0
  deriving DecidableEq, Repr

/-- An image record writes the word at offset `off` of the block; an offset with no IMG field keeps all (R332). -/
def Prt.imgWrite (b : Prt) (off : Nat) (w : Word) : Prt :=
  match off with
  | 0x0 => { b with cfg := b.cfg.img w }
  | 0x4 => { b with gapev := b.gapev.img w }
  | 0x8 => { b with force := b.force.img w }
  | 0xc => { b with seq := b.seq.img w }
  | 0x10 => { b with tmo := b.tmo.img w }
  | 0x14 => { b with finalv := b.finalv.img w }
  | 0x18 => { b with ptspan := getF w 0 32 }
  | _ => if 0x40 ≤ off ∧ off < 0x80 then { b with ptrava := vmod b.ptrava ((off - 0x40) / 4) fun r => r.img w }
    else if 0x80 ≤ off ∧ off < 0xc0 then { b with ptravb := vmod b.ptravb ((off - 0x80) / 4) fun r => r.img w }
    else b

/-- Every IMG field of the block at its reset value, the rest kept (R332: a field no record writes takes its reset value). -/
def Prt.imgReset (b : Prt) : Prt :=
  { b with cfg := {},
           gapev := {},
           force := {},
           seq := {},
           tmo := {},
           finalv := {},
           ptspan := 0,
           ptrava := Vector.replicate 16 {},
           ptravb := Vector.replicate 16 {} }

/-- The word at offset `off` of the block as a read gives it, as far as it is stored here; 0 elsewhere (R6). -/
def Prt.regRead (b : Prt) (off : Nat) : Word :=
  match off with
  | 0x0 => b.cfg.toWord
  | 0x4 => b.gapev.toWord
  | 0x8 => b.force.toWord
  | 0xc => b.seq.toWord
  | 0x10 => b.tmo.toWord
  | 0x14 => b.finalv.toWord
  | 0x18 => putV b.ptspan 0
  | 0x24 => b.obs.toWord
  | 0x28 => b.phase.toWord
  | 0x2c => putV b.gap 0
  | 0x30 => putV b.cycles 0
  | 0x34 => putV b.reopens 0
  | _ => if 0x40 ≤ off ∧ off < 0x80 then (vget b.ptrava ((off - 0x40) / 4) {}).toWord else if 0x80 ≤ off ∧ off < 0xc0 then (vget b.ptravb ((off - 0x80) / 4) {}).toWord else 0

/-- A writer sets the bits `m` of the word at offset `off` of the block (Table 0-6, RW and W1C; the rest is ignored). -/
def Prt.regWrite (b : Prt) (off : Nat) (w m : Word) : Prt :=
  match off with
  | 0x24 => { b with obs := b.obs.write w m }
  | 0x28 => { b with phase := b.phase.write w m }
  | _ => b

/-- Bits of the word at `off` that are IMG fields (R332: an image record may write no other bit as one). -/
def Prt.imgMask (off : Nat) : Word :=
  match off with
  | 0x0 => 0x7ff
  | 0x4 => 0xffffffff
  | 0x8 => 0x3ffffff
  | 0xc => 0xffffffff
  | 0x10 => 0xffffffff
  | 0x14 => 0xffffffff
  | 0x18 => 0xffffffff
  | _ => if 0x80 ≤ off ∧ off < 0xc0 then 0xffffffff else if 0x40 ≤ off ∧ off < 0x80 then 0xffffffff else 0

/-- FEL.DERATE — Voltage derating, offset 0x0004 (register table after R102). -/
structure FelDerate where
  vknee : BitVec 12 := 0  -- [11:0] IMG
  vmin : BitVec 12 := 168  -- [27:16] IMG
  deriving DecidableEq, Repr

/-- The word a read of FEL.DERATE gives, as far as it is stored here. -/
def FelDerate.toWord (r : FelDerate) : Word :=
  putV r.vknee 0 ||| putV r.vmin 16

/-- An image record writes FEL.DERATE (R5 IMG, R332). -/
def FelDerate.img (r : FelDerate) (w : Word) : FelDerate :=
  { r with vknee := getF w 0 12, vmin := getF w 16 12 }

/-- FEL.LOAD — Load and budget, offset 0x0014 (register table after R102). -/
structure FelLoad where
  load : BitVec 12 := 0  -- [11:0] RO
  beff : BitVec 12 := 0  -- [27:16] RO
  deriving DecidableEq, Repr

/-- The word a read of FEL.LOAD gives, as far as it is stored here. -/
def FelLoad.toWord (r : FelLoad) : Word :=
  putV r.load 0 ||| putV r.beff 16

/-- FEL.MEAS — Motor-bus measurements, offset 0x0018 (register table after R102). -/
structure FelMeas where
  imeas : BitVec 12 := 0  -- [11:0] RO
  vbus : BitVec 12 := 0  -- [27:16] RO
  deriving DecidableEq, Repr

/-- The word a read of FEL.MEAS gives, as far as it is stored here. -/
def FelMeas.toWord (r : FelMeas) : Word :=
  putV r.imeas 0 ||| putV r.vbus 16

/-- FEL.HCFG — Head admission, offset 0x0040 (register table after R447). -/
structure FelHcfg where
  maxn : BitVec 3 := 4  -- [2:0] IMG
  htpk : BitVec 8 := 20  -- [15:8] IMG
  hpk : BitVec 8 := 12  -- [23:16] IMG
  hrun : BitVec 8 := 6  -- [31:24] IMG
  deriving DecidableEq, Repr

/-- The word a read of FEL.HCFG gives, as far as it is stored here. -/
def FelHcfg.toWord (r : FelHcfg) : Word :=
  putV r.maxn 0 ||| putV r.htpk 8 ||| putV r.hpk 16 ||| putV r.hrun 24

/-- An image record writes FEL.HCFG (R5 IMG, R332). -/
def FelHcfg.img (r : FelHcfg) (w : Word) : FelHcfg :=
  { r with maxn := getF w 0 3, htpk := getF w 8 8, hpk := getF w 16 8, hrun := getF w 24 8 }

/-- FEL.HSTAT — Head supplies, offset 0x0044 (register table after R447). -/
structure FelHstat where
  on : BitVec 16 := 0  -- [15:0] RO
  wait : BitVec 16 := 0  -- [31:16] RO
  deriving DecidableEq, Repr

/-- The word a read of FEL.HSTAT gives, as far as it is stored here. -/
def FelHstat.toWord (r : FelHstat) : Word :=
  putV r.on 0 ||| putV r.wait 16

/-- FEL.HFLT — Head supply faults, offset 0x0048 (register table after R447). -/
structure FelHflt where
  trip : BitVec 16 := 0  -- [15:0] W1C
  lock : BitVec 16 := 0  -- [31:16] RO
  deriving DecidableEq, Repr

/-- The word a read of FEL.HFLT gives, as far as it is stored here. -/
def FelHflt.toWord (r : FelHflt) : Word :=
  putV r.trip 0 ||| putV r.lock 16

/-- A write of the bits `m` of FEL.HFLT (Table 0-6). -/
def FelHflt.write (r : FelHflt) (w m : Word) : FelHflt :=
  { r with trip := r.trip &&& ~~~(getF (w &&& m) 0 16) }

/-- FEL.HPWR — Converter load, offset 0x004C (register table after R447). -/
structure FelHpwr where
  pcore : BitVec 12 := 0  -- [11:0] RO
  ppred : BitVec 12 := 0  -- [27:16] RO
  deriving DecidableEq, Repr

/-- The word a read of FEL.HPWR gives, as far as it is stored here. -/
def FelHpwr.toWord (r : FelHpwr) : Word :=
  putV r.pcore 0 ||| putV r.ppred 16

/-- The stored registers of one FEL block. -/
structure Fel where
  budget : BitVec 12 := 400
  derate : FelDerate := {}
  bound : BitVec 12 := 400
  prio0 : BitVec 32 := 0
  prio1 : BitVec 32 := 0
  load : FelLoad := {}
  meas : FelMeas := {}
  starved : BitVec 16 := 0
  hcfg : FelHcfg := {}
  hstat : FelHstat := {}
  hflt : FelHflt := {}
  hpwr : FelHpwr := {}
  deriving DecidableEq, Repr

/-- An image record writes the word at offset `off` of the block; an offset with no IMG field keeps all (R332). -/
def Fel.imgWrite (b : Fel) (off : Nat) (w : Word) : Fel :=
  match off with
  | 0x0 => { b with budget := getF w 0 12 }
  | 0x4 => { b with derate := b.derate.img w }
  | 0x8 => { b with bound := getF w 0 12 }
  | 0xc => { b with prio0 := getF w 0 32 }
  | 0x10 => { b with prio1 := getF w 0 32 }
  | 0x40 => { b with hcfg := b.hcfg.img w }
  | _ => b

/-- Every IMG field of the block at its reset value, the rest kept (R332: a field no record writes takes its reset value). -/
def Fel.imgReset (b : Fel) : Fel :=
  { b with budget := 400,
           derate := {},
           bound := 400,
           prio0 := 0,
           prio1 := 0,
           hcfg := {} }

/-- The word at offset `off` of the block as a read gives it, as far as it is stored here; 0 elsewhere (R6). -/
def Fel.regRead (b : Fel) (off : Nat) : Word :=
  match off with
  | 0x0 => putV b.budget 0
  | 0x4 => b.derate.toWord
  | 0x8 => putV b.bound 0
  | 0xc => putV b.prio0 0
  | 0x10 => putV b.prio1 0
  | 0x14 => b.load.toWord
  | 0x18 => b.meas.toWord
  | 0x20 => putV b.starved 0
  | 0x40 => b.hcfg.toWord
  | 0x44 => b.hstat.toWord
  | 0x48 => b.hflt.toWord
  | 0x4c => b.hpwr.toWord
  | _ => 0

/-- A writer sets the bits `m` of the word at offset `off` of the block (Table 0-6, RW and W1C; the rest is ignored). -/
def Fel.regWrite (b : Fel) (off : Nat) (w m : Word) : Fel :=
  match off with
  | 0x48 => { b with hflt := b.hflt.write w m }
  | _ => b

/-- Bits of the word at `off` that are IMG fields (R332: an image record may write no other bit as one). -/
def Fel.imgMask (off : Nat) : Word :=
  match off with
  | 0x0 => 0xfff
  | 0x4 => 0xfff0fff
  | 0x8 => 0xfff
  | 0xc => 0xffffffff
  | 0x10 => 0xffffffff
  | 0x40 => 0xffffff07
  | _ => 0

end Sys2Proof.Machine
end

