-- ==== Sys2Proof/Machine/UnitMotion.lean ====
section
/-! DEFINITION. What one axis and one portal hold beside their registers: motion generator and blaze tables (chapter 3),
position feedback (chapter 4), control engine (chapter 5), and the door cycle (chapter 2). -/

namespace Sys2Proof.Machine

/-- What a waiting or running start is for (R87, R99). -/
inductive StartKind where
  | target | reref
  deriving DecidableEq, Repr

/-- One axis. Positions are signed counts; velocity is in 2^-64 count per update, `reg`'s registers as their tables. -/
structure Axis where
  reg      : Axc := {}
  fb       : Fbk := {}
  -- staging copies (R33)
  sTgt     : Word := 0
  sVlim    : BitVec 16 := 0
  tgtSet   : Bool := false              -- AXC.TGT is staged and not committed
  vlimSet  : Bool := false
  blz      : Vector Word 128 := Vector.replicate 128 0   -- blaze table, active copy (R93)
  sBlz     : Vector Word 128 := Vector.replicate 128 0   -- and its staging
  blzOld   : Option (Nat × Vector Word 128 × Word) := none   -- last COMMIT of a table: when, the table and the arm states before its update (R103)
  coprio   : BitVec 32 := 0             -- CO-PRIO record written since the last COMMIT (R328)
  -- phase accumulator and planner
  acc      : Int := 0                   -- units of 2^-32 count (R68)
  vel      : Int := 0                   -- units of 2^-32 count per update (R69)
  velx     : Int := 0                   -- the planner's velocity, units of 2^-64 count per update
  accel    : Int := 0                   -- change of velx per planning period (R74)
  landing  : Bool := false              -- the present planning period is the last of its movement (R74)
  pos      : Int := 0                   -- actual position, FBK.COUNT
  blzTs    : Nat := 0                   -- time of the last firing, AXC.BLZTS (R96)
  blzPend  : BitVec 32 := 0             -- ONCE entries that BLZREARM leaves to re-arm by HYST (R95)
  updAt    : Nat := 0                   -- last update (R67)
  planAt   : Nat := 0                   -- last planning period (R74)
  p0       : Int := 0                   -- previous sample of the position (R94)
  kind     : StartKind := .target
  prevTgtf : Word := 0                  -- target in force before the start (R83)
  prevSt   : AxState := .disabled       -- state before the start
  prevAt   : Bool × Bool := (false, false)   -- before the start: the plan had landed, ATTGT (R82, R83)
  axtgtAt  : Option Nat := none         -- the update in which a blaze AXTGT last governed the target (R103)
  arrive   : Nat := 0                   -- arrival of the start in the queue (R101)
  admitAt  : Nat := 0                   -- admission (R100)
  landed   : Bool := false              -- the plan has landed on its target
  inposAt  : Option Nat := none         -- |FERR| within INPOS since (R82)
  haltRef  : Bool := false              -- a re-reference is pending behind the halt (R87)
  vcaps    : List (Nat × Nat) := []     -- blaze speed caps in force: entry and cap (R76)
  finalCap : Bool := false              -- the FINAL cap of its portal is in force
  bridges  : Bool := false
  disable  : Bool := false              -- CMD.DISABLE holds (R78, R79)
  stopOff  : Bool := false              -- bridges off for module STOP (R277)
  stopAt   : Nat := 0                   -- the stop of module STOP
  causeAt  : Nat := 0                   -- the update in which the cause that CAUSE shows acted (R78)
  ferrOver : Bool := false              -- |FERR| exceeded TRUSTB at the last position-loop step (R86)
  refAt    : Int := 0                   -- position at which a re-reference was admitted (R89)
  refOver  : Option Nat := none         -- FERR above REFFE since (R87)
  sdoDir   : Bool := false              -- PB line (R90)
  sdoPB    : Nat := 0                   -- updates since PB last changed
  sdoPA    : Nat := 0                   -- updates left of the PA pulse
  retPos   : Option Int := none         -- position retained in MRAM at the last orderly halt (R85)
  retTrust : Trust := .untrusted        -- and its trust (R443)
  -- feedback front end (chapter 4); accepted line levels stand in FBK.SQ
  rawHall  : BitVec 3 := 0              -- the Hall lines W, V, U, and Z, B, A, as their pins stand (R106, R130)
  rawAbz   : BitVec 3 := 0
  hallAt   : Nat := 0                   -- first sample of the present Hall code (R145)
  zLow     : Bool := true               -- Z has been low since the last sample in which Z, A and B were all high (R124)
  idxDue   : Bool := false              -- a sample of Z, A and B was an index event, not yet taken (R124)
  idxCnt   : Int := 0                   -- the count of that sample
  idxIll   : Bool := false              -- and it held an illegal A/B transition (R127)
  edgeAt   : Nat := 0                   -- time of the last legal edge, FBK.EDGE
  hadEdge  : Bool := false              -- a legal edge since reset or wake (R121)
  refTime  : Nat := 0                   -- time of e_ref, the newest legal edge at or before the last speed-loop step (R119)
  refCnt   : Option Int := none         -- the count at e_ref; none before the first
  newCnt   : Int := 0                   -- the count at the newest legal edge
  nEdges   : Nat := 0                   -- legal edges since e_ref, but for a first one after standstill (R121)
  mixed    : Bool := false              -- a reversal lies between e_ref and the newest edge (R119, R122)
  lower    : Option Int := none         -- the LOWER report that stands until a period completes (R121, R122)
  stepEdge : Bool := false              -- a legal edge since the last speed-loop step (R120)
  illRow   : Nat := 0                   -- consecutive illegal transitions (R110)
  illAt    : Nat := 0                   -- the last of them
  badRow   : Nat := 0                   -- consecutive bad serial words (R113)
  sraw     : Nat := 0                   -- FBK.SRAW, last good serial word
  unwrap   : Int := 0                   -- unwrapped raw value (R115)
  serGood  : Bool := false              -- a good word has been received since start
  wakeTest : Bool := true               -- the next good word is the first since the start (R85, R118)
  serReq   : Nat := 0                   -- the last request
  serNext  : Nat := 0                   -- when the next is due (R111)
  serNew   : Option (Int × Nat) := none -- the newest good count and its request (R123)
  serOld   : Option (Int × Nat) := none -- and the one before
  chgAt    : Nat := 0                   -- last change of the serial count
  learnPend : Bool := false             -- no index event has come since the last completed re-reference (R128)
  -- control engine (chapter 5)
  intC     : Int := 0                   -- integral terms, sums of KI × e (R138, R141): q and d current, speed, position
  intD     : Int := 0
  intS     : Int := 0
  intP     : Int := 0
  limC     : Int := 0                   -- sign of each output that stood at its limit at its last step, else 0
  limD     : Int := 0
  limS     : Int := 0
  limP     : Int := 0
  vcmd     : Int := 0                   -- speed command, 1/256 count/s
  icmd     : Int := 0                   -- current command, mA
  duty     : Int × Int := (0, 0)        -- q and d phase voltage in force, 2^-16 mV
  dutyNext : Int × Int := (0, 0)        -- computed from the last sample, in force from the next turning point (R136)
  curAt    : Nat := 0                   -- earliest next current-loop, speed-loop and position-loop step (R135)
  spdAt    : Nat := 0
  posAt    : Nat := 0
  imeas    : Int := 0                   -- measured q or bridge current, mA
  iph      : Int × Int × Int := (0, 0, 0)   -- median phase currents of the last sample, mA
  fhist    : List Int := []             -- last ten force estimates, 10^-5 N, newest first (R146)
  toClose  : Bool := false              -- the last command accepted for it closes it (R146)
  prevClose : Bool := false             -- as it was before the waiting start
  fSide    : Bool := false              -- the last force compared pushed in the opening direction
  fOver    : Option Nat := none         -- force above the envelope limit of its side since
  fOverAt  : Option Nat := none         -- force above the obstacle threshold since (R50)
  vOver    : Nat := 0                   -- speed-loop steps in a row above the envelope speed
  eOver    : Nat := 0                   -- and above the envelope energy
  i2       : Nat × Nat × Nat := (0, 0, 0)   -- filtered squares of the phase currents, mA² × 160,000 (R153)
  cutTo    : Nat := 0                   -- last update of the loop step of the last envelope cut (R155)
  i2hold   : Bool := false              -- cut by I2T, and the root not yet below 3.0 A
  hot      : Bool := false              -- stage above 150 °C, and not yet below 130 °C
  calAt    : Option Nat := none         -- calibration started (R154)
  lowSide  : Bool := false              -- the bridge holds its three low-side switches on for a calibration
  startCal : Bool := false              -- the start-up calibration has not ended
  calPend  : Bool := false              -- a deferred request waits behind it (R465)
  fbHold   : Bool := false              -- a feedback fault was cleared while its condition persisted (Table 3-9)
  envHold  : Bool := false              -- an envelope cut was cleared while its condition persisted
  fmap     : List (Nat × Bool × Nat × Nat) := []  -- samples of this movement: cell, closing, sum in 10^-5 N, number (R148)
  fmapBad  : Bool := false              -- a latch of its portal set during this movement: it teaches nothing (R148)
  deriving DecidableEq, Repr

/-- A movement of a portal's leaves (R54, R57). -/
inductive Dir where
  | opening | closing
  deriving DecidableEq, Repr

/-- The door cycle in progress, Table 16-4. -/
structure DoorCycle where
  start  : Nat
  gmax   : Nat := 0
  obs    : BitVec 12 := 0
  fcpk   : Vector Nat 4 := Vector.replicate 4 0
  fopk   : Vector Nat 4 := Vector.replicate 4 0
  kocc   : Nat := 0
  kblind : Nat := 0
  trail  : List Word := []
  trunc  : Bool := false
  deriving DecidableEq, Repr

/-- One portal. -/
structure Portal where
  reg      : Prt := {}
  po       : Po := {}
  -- staging copies of the position output (R33, R132)
  sPopw    : BitVec 14 := 100
  sPocen   : BitVec 16 := 0
  sPocdir  : BitVec 32 := 0xFFFFFFFF
  sPocmp   : Vector (BitVec 32) 16 := Vector.replicate 16 0
  poSet    : Bool := false
  poOld    : Option (Nat × Po) := none  -- last COMMIT of them: when, and the registers before its update (R133)
  pa       : Bool := false              -- position-output lines (R130)
  pb       : Bool := false
  pz       : Bool := false
  poEnd    : Nat := 0                   -- end of the present compare pulse (R131)
  arm      : BitVec 5 := 0              -- armed gap events, KERF in bit 0 to LOCK in bit 4 (R49)
  g        : Int := 0                   -- portal gap in nm (R47)
  gTrusted : Bool := false              -- G has been computed from trusted leaves since start
  mov      : Option Dir := none         -- movement of the leaves in progress, or held after an obstacle
  ended    : Bool := false              -- that movement has ended at standstill at its target (R57)
  counted  : Bool := false              -- RETRY has counted a latch of this closing movement (R58)
  retry    : BitVec 4 := 0              -- PRT.STAT.RETRY
  utoAt    : Option Nat := none         -- LK commanded on, contacts not yet open (R57)
  ltoAt    : Option Nat := none         -- HOME rose in a closing movement (R57)
  mtoAt    : Vector (Option Nat) 2 := Vector.replicate 2 none   -- movement of leaf A and of leaf B began (R57)
  home     : Bool := false              -- HOME as last judged
  lpAt     : Option Nat := none         -- LP commanded on since (R56)
  stillAt  : Nat := 0                   -- last standstill of the leaves (R56)
  eehOff   : Option Nat := none         -- EEH returned to 0, MOVEINH held (R62)
  dcl      : BitVec 2 := 0              -- DCL2, DCL1 as channel A reads them
  eeh      : Bool := false              -- channel A's EEH
  iso      : Bool := false
  cl       : Bool := false              -- closed and locked (R60)
  trapped  : Bool := false              -- TRAP has set, and the portal has not been reopened since (R61)
  egress   : Bool := false              -- EEH was 1, and the program has not closed the portal since (R62)
  zsp      : Bool := false              -- zero-speed permit of the side (R200)
  cycle    : Option DoorCycle := none
  deriving DecidableEq, Repr

end Sys2Proof.Machine
end

