-- ==== Sys2Proof/Machine/RegNet.lean ====
section
/-! DEFINITION. The register blocks NET of the address map (Table 1-7), field by field as
their register tables give them: bits, access code and reset value. Fields that only mirror other state are not stored
here; Machine/BusRead.lean computes them. `toWord` is what a read gives, `img` what an image record sets (access IMG),
`write` what a writer sets under Table 0-6 (RW and W1C), under a mask of the bits the access carries. -/

namespace Sys2Proof.Machine

/-- NET.LNK — Portal links, offset 0x0000 (register table after R394). -/
structure NetLnk where
  hl : BitVec 16 := 0  -- [15:0] RO
  pl : BitVec 16 := 0  -- [31:16] RO
  deriving DecidableEq, Repr

/-- The word a read of NET.LNK gives, as far as it is stored here. -/
def NetLnk.toWord (r : NetLnk) : Word :=
  putV r.hl 0 ||| putV r.pl 16

/-- NET.PTP — PTP, offset 0x0014 (register table after R394). -/
structure NetPtp where
  pfx : BitVec 6 := 24  -- [5:0] IMG
  domain : BitVec 8 := 0  -- [15:8] IMG
  path : BitVec 2 := 0  -- [17:16] RO
  deriving DecidableEq, Repr

/-- The word a read of NET.PTP gives, as far as it is stored here. -/
def NetPtp.toWord (r : NetPtp) : Word :=
  putV r.pfx 0 ||| putV r.domain 8 ||| putV r.path 16

/-- An image record writes NET.PTP (R5 IMG, R332). -/
def NetPtp.img (r : NetPtp) (w : Word) : NetPtp :=
  { r with pfx := getF w 0 6, domain := getF w 8 8 }

/-- NET.BW — Telegram timing, offset 0x001C (register table after R394). -/
structure NetBw where
  expect : BitVec 16 := 100  -- [15:0] IMG
  sper : BitVec 8 := 20  -- [23:16] IMG
  deriving DecidableEq, Repr

/-- The word a read of NET.BW gives, as far as it is stored here. -/
def NetBw.toWord (r : NetBw) : Word :=
  putV r.expect 0 ||| putV r.sper 16

/-- An image record writes NET.BW (R5 IMG, R332). -/
def NetBw.img (r : NetBw) (w : Word) : NetBw :=
  { r with expect := getF w 0 16, sper := getF w 16 8 }

/-- NET.BWREJ — Telegram rejections, offset 0x0028 (register table after R394). -/
structure NetBwrej where
  format : BitVec 8 := 0  -- [7:0] RO
  code : BitVec 8 := 0  -- [15:8] RO
  time : BitVec 8 := 0  -- [23:16] RO
  kind : BitVec 8 := 0  -- [31:24] RO
  deriving DecidableEq, Repr

/-- The word a read of NET.BWREJ gives, as far as it is stored here. -/
def NetBwrej.toWord (r : NetBwrej) : Word :=
  putV r.format 0 ||| putV r.code 8 ||| putV r.time 16 ||| putV r.kind 24

/-- NET.BWST — Status telegrams, offset 0x002C (register table after R394). -/
structure NetBwst where
  sending : Bool := false  -- [0:0] RO
  wrap : Bool := false  -- [1:1] W1C
  deriving DecidableEq, Repr

/-- The word a read of NET.BWST gives, as far as it is stored here. -/
def NetBwst.toWord (r : NetBwst) : Word :=
  putB r.sending 0 ||| putB r.wrap 1

/-- A write of the bits `m` of NET.BWST (Table 0-6). -/
def NetBwst.write (r : NetBwst) (w m : Word) : NetBwst :=
  { r with wrap := r.wrap && !((w &&& m).getLsbD 1) }

/-- NET.TWIN — Twin, offset 0x0030 (register table after R394). -/
structure NetTwin where
  en : Bool := false  -- [0:0] IMG
  state : TwinState := .idle  -- [2:1] RO
  chg : Bool := false  -- [3:3] W1C
  deriving DecidableEq, Repr

/-- The word a read of NET.TWIN gives, as far as it is stored here. -/
def NetTwin.toWord (r : NetTwin) : Word :=
  putB r.en 0 ||| putV r.state.code 1 ||| putB r.chg 3

/-- An image record writes NET.TWIN (R5 IMG, R332). -/
def NetTwin.img (r : NetTwin) (w : Word) : NetTwin :=
  { r with en := w.getLsbD 0 }

/-- A write of the bits `m` of NET.TWIN (Table 0-6). -/
def NetTwin.write (r : NetTwin) (w m : Word) : NetTwin :=
  { r with chg := r.chg && !((w &&& m).getLsbD 3) }

/-- NET.ERR — Portal link errors, offset 0x0034 (register table after R394). -/
structure NetErr where
  hlerr : BitVec 16 := 0  -- [15:0] RO
  plerr : BitVec 16 := 0  -- [31:16] RO
  deriving DecidableEq, Repr

/-- The word a read of NET.ERR gives, as far as it is stored here. -/
def NetErr.toWord (r : NetErr) : Word :=
  putV r.hlerr 0 ||| putV r.plerr 16

/-- NET.ERR2 — Other errors, offset 0x0038 (register table after R394). -/
structure NetErr2 where
  proto : BitVec 8 := 0  -- [7:0] RO
  rate : BitVec 8 := 0  -- [15:8] RO
  wlan : BitVec 16 := 0  -- [31:16] RO
  deriving DecidableEq, Repr

/-- The word a read of NET.ERR2 gives, as far as it is stored here. -/
def NetErr2.toWord (r : NetErr2) : Word :=
  putV r.proto 0 ||| putV r.rate 8 ||| putV r.wlan 16

/-- NET.CANi — CAN channel i, offset 0x0040 + 0x4 × i, i = 0 to 3 (register table after R394). -/
structure NetCan where
  en : Bool := false  -- [0:0] IMG
  fd : Bool := false  -- [1:1] IMG
  term : Bool := false  -- [2:2] IMG
  nbr : BitVec 4 := 2  -- [7:4] IMG
  dbr : BitVec 4 := 1  -- [11:8] IMG
  deriving DecidableEq, Repr

/-- The word a read of NET.CANi gives, as far as it is stored here. -/
def NetCan.toWord (r : NetCan) : Word :=
  putB r.en 0 ||| putB r.fd 1 ||| putB r.term 2 ||| putV r.nbr 4 ||| putV r.dbr 8

/-- An image record writes NET.CANi (R5 IMG, R332). -/
def NetCan.img (r : NetCan) (w : Word) : NetCan :=
  { r with en := w.getLsbD 0, fd := w.getLsbD 1, term := w.getLsbD 2, nbr := getF w 4 4, dbr := getF w 8 4 }

/-- NET.SERi — RS-485 channel i, offset 0x0050 + 0x4 × i, i = 0 to 3 (register table after R394). -/
structure NetSer where
  en : Bool := false  -- [0:0] IMG
  term : Bool := false  -- [1:1] IMG
  parity : BitVec 2 := 0  -- [3:2] IMG
  stop2 : Bool := false  -- [4:4] IMG
  baud : BitVec 17 := 1152  -- [21:5] IMG
  idle : BitVec 8 := 35  -- [29:22] IMG
  deriving DecidableEq, Repr

/-- The word a read of NET.SERi gives, as far as it is stored here. -/
def NetSer.toWord (r : NetSer) : Word :=
  putB r.en 0 ||| putB r.term 1 ||| putV r.parity 2 ||| putB r.stop2 4 ||| putV r.baud 5 ||| putV r.idle 22

/-- An image record writes NET.SERi (R5 IMG, R332). -/
def NetSer.img (r : NetSer) (w : Word) : NetSer :=
  { r with en := w.getLsbD 0, term := w.getLsbD 1, parity := getF w 2 2, stop2 := w.getLsbD 4, baud := getF w 5 17, idle := getF w 22 8 }

/-- NET.MBCFGm — Mailbox binding m, offset 0x0100 + 0x4 × m, m = 0 to 63 (register table after R394). -/
structure NetMbcfg where
  en : Bool := false  -- [0:0] IMG
  dir : Bool := false  -- [1:1] IMG
  link : BitVec 4 := 0  -- [5:2] IMG
  ext : Bool := false  -- [6:6] IMG
  deriving DecidableEq, Repr

/-- The word a read of NET.MBCFGm gives, as far as it is stored here. -/
def NetMbcfg.toWord (r : NetMbcfg) : Word :=
  putB r.en 0 ||| putB r.dir 1 ||| putV r.link 2 ||| putB r.ext 6

/-- An image record writes NET.MBCFGm (R5 IMG, R332). -/
def NetMbcfg.img (r : NetMbcfg) (w : Word) : NetMbcfg :=
  { r with en := w.getLsbD 0, dir := w.getLsbD 1, link := getF w 2 4, ext := w.getLsbD 6 }

/-- NET.PDIn — Input dataset n, offset 0x0400 + 0x4 × n, n = 0 to 7 (register table after R394). -/
structure NetPdi where
  id : BitVec 16 := 0  -- [15:0] IMG
  len : BitVec 10 := 0  -- [25:16] IMG
  deriving DecidableEq, Repr

/-- The word a read of NET.PDIn gives, as far as it is stored here. -/
def NetPdi.toWord (r : NetPdi) : Word :=
  putV r.id 0 ||| putV r.len 16

/-- An image record writes NET.PDIn (R5 IMG, R332). -/
def NetPdi.img (r : NetPdi) (w : Word) : NetPdi :=
  { r with id := getF w 0 16, len := getF w 16 10 }

/-- NET.PDOn — Output dataset n, offset 0x0420 + 0x4 × n, n = 0 to 7 (register table after R394). -/
structure NetPdo where
  id : BitVec 16 := 0  -- [15:0] IMG
  len : BitVec 10 := 0  -- [25:16] IMG
  period : BitVec 6 := 10  -- [31:26] IMG
  deriving DecidableEq, Repr

/-- The word a read of NET.PDOn gives, as far as it is stored here. -/
def NetPdo.toWord (r : NetPdo) : Word :=
  putV r.id 0 ||| putV r.len 16 ||| putV r.period 26

/-- An image record writes NET.PDOn (R5 IMG, R332). -/
def NetPdo.img (r : NetPdo) (w : Word) : NetPdo :=
  { r with id := getF w 0 16, len := getF w 16 10, period := getF w 26 6 }

/-- The stored registers of one NET block. -/
structure Net where
  lnk : NetLnk := {}
  red : BitVec 6 := 0
  redevt : BitVec 6 := 0
  hold : BitVec 12 := 500
  ip : BitVec 32 := 0
  ptp : NetPtp := {}
  ptpofs : BitVec 32 := 0
  bw : NetBw := {}
  bwport : BitVec 16 := 20546
  bwsconn : BitVec 32 := 0
  bwrej : NetBwrej := {}
  bwst : NetBwst := {}
  twin : NetTwin := {}
  err : NetErr := {}
  err2 : NetErr2 := {}
  can : Vector (NetCan) 4 := Vector.replicate 4 {}
  ser : Vector (NetSer) 4 := Vector.replicate 4 {}
  mbcfg : Vector (NetMbcfg) 64 := Vector.replicate 64 {}
  mbid : Vector (BitVec 32) 64 := Vector.replicate 64 0
  mbmsk : Vector (BitVec 29) 64 := Vector.replicate 64 0
  pdi : Vector (NetPdi) 8 := Vector.replicate 8 {}
  pdo : Vector (NetPdo) 8 := Vector.replicate 8 {}
  deriving DecidableEq, Repr

/-- An image record writes the word at offset `off` of the block; an offset with no IMG field keeps all (R332). -/
def Net.imgWrite (b : Net) (off : Nat) (w : Word) : Net :=
  match off with
  | 0xc => { b with hold := getF w 0 12 }
  | 0x10 => { b with ip := getF w 0 32 }
  | 0x14 => { b with ptp := b.ptp.img w }
  | 0x1c => { b with bw := b.bw.img w }
  | 0x20 => { b with bwport := getF w 0 16 }
  | 0x24 => { b with bwsconn := getF w 0 32 }
  | 0x30 => { b with twin := b.twin.img w }
  | _ => if 0x40 ≤ off ∧ off < 0x50 then { b with can := vmod b.can ((off - 0x40) / 4) fun r => r.img w }
    else if 0x50 ≤ off ∧ off < 0x60 then { b with ser := vmod b.ser ((off - 0x50) / 4) fun r => r.img w }
    else if 0x100 ≤ off ∧ off < 0x200 then { b with mbcfg := vmod b.mbcfg ((off - 0x100) / 4) fun r => r.img w }
    else if 0x200 ≤ off ∧ off < 0x300 then { b with mbid := vmod b.mbid ((off - 0x200) / 4) fun _ => getF w 0 32 }
    else if 0x300 ≤ off ∧ off < 0x400 then { b with mbmsk := vmod b.mbmsk ((off - 0x300) / 4) fun _ => getF w 0 29 }
    else if 0x400 ≤ off ∧ off < 0x420 then { b with pdi := vmod b.pdi ((off - 0x400) / 4) fun r => r.img w }
    else if 0x420 ≤ off ∧ off < 0x440 then { b with pdo := vmod b.pdo ((off - 0x420) / 4) fun r => r.img w }
    else b

/-- Every IMG field of the block at its reset value, the rest kept (R332: a field no record writes takes its reset value). -/
def Net.imgReset (b : Net) : Net :=
  { b with hold := 500,
           ip := 0,
           ptp := { b.ptp with pfx := 24, domain := 0 },
           bw := {},
           bwport := 20546,
           bwsconn := 0,
           twin := { b.twin with en := false },
           can := Vector.replicate 4 {},
           ser := Vector.replicate 4 {},
           mbcfg := Vector.replicate 64 {},
           mbid := Vector.replicate 64 0,
           mbmsk := Vector.replicate 64 0,
           pdi := Vector.replicate 8 {},
           pdo := Vector.replicate 8 {} }

/-- The word at offset `off` of the block as a read gives it, as far as it is stored here; 0 elsewhere (R6). -/
def Net.regRead (b : Net) (off : Nat) : Word :=
  match off with
  | 0x0 => b.lnk.toWord
  | 0x4 => putV b.red 0
  | 0x8 => putV b.redevt 0
  | 0xc => putV b.hold 0
  | 0x10 => putV b.ip 0
  | 0x14 => b.ptp.toWord
  | 0x18 => putV b.ptpofs 0
  | 0x1c => b.bw.toWord
  | 0x20 => putV b.bwport 0
  | 0x24 => putV b.bwsconn 0
  | 0x28 => b.bwrej.toWord
  | 0x2c => b.bwst.toWord
  | 0x30 => b.twin.toWord
  | 0x34 => b.err.toWord
  | 0x38 => b.err2.toWord
  | _ => if 0x40 ≤ off ∧ off < 0x50 then (vget b.can ((off - 0x40) / 4) {}).toWord else if 0x50 ≤ off ∧ off < 0x60 then (vget b.ser ((off - 0x50) / 4) {}).toWord else if 0x100 ≤ off ∧ off < 0x200 then (vget b.mbcfg ((off - 0x100) / 4) {}).toWord else if 0x200 ≤ off ∧ off < 0x300 then putV (vget b.mbid ((off - 0x200) / 4) 0) 0 else if 0x300 ≤ off ∧ off < 0x400 then putV (vget b.mbmsk ((off - 0x300) / 4) 0) 0 else if 0x400 ≤ off ∧ off < 0x420 then (vget b.pdi ((off - 0x400) / 4) {}).toWord else if 0x420 ≤ off ∧ off < 0x440 then (vget b.pdo ((off - 0x420) / 4) {}).toWord else 0

/-- A writer sets the bits `m` of the word at offset `off` of the block (Table 0-6, RW and W1C; the rest is ignored). -/
def Net.regWrite (b : Net) (off : Nat) (w m : Word) : Net :=
  match off with
  | 0x8 => { b with redevt := b.redevt &&& ~~~(getF (w &&& m) 0 6) }
  | 0x2c => { b with bwst := b.bwst.write w m }
  | 0x30 => { b with twin := b.twin.write w m }
  | _ => b

/-- Bits of the word at `off` that are IMG fields (R332: an image record may write no other bit as one). -/
def Net.imgMask (off : Nat) : Word :=
  match off with
  | 0xc => 0xfff
  | 0x10 => 0xffffffff
  | 0x14 => 0xff3f
  | 0x1c => 0xffffff
  | 0x20 => 0xffff
  | 0x24 => 0xffffffff
  | 0x30 => 0x1
  | _ => if 0x420 ≤ off ∧ off < 0x440 then 0xffffffff else if 0x400 ≤ off ∧ off < 0x420 then 0x3ffffff else if 0x300 ≤ off ∧ off < 0x400 then 0x1fffffff else if 0x200 ≤ off ∧ off < 0x300 then 0xffffffff else if 0x100 ≤ off ∧ off < 0x200 then 0x7f else if 0x50 ≤ off ∧ off < 0x60 then 0x3fffffff else if 0x40 ≤ off ∧ off < 0x50 then 0xff7 else 0

end Sys2Proof.Machine
end

