-- ==== Sys2Proof/Machine/UnitNet.lean ====
section
/-! DEFINITION. What the network engine holds beside the NET registers: redundant paths, process datasets, PTP and SYNC, the twin,
STATUS telegrams and the 64 mailboxes (chapter 15). -/

namespace Sys2Proof.Machine

/-- A mailbox message: word 0, the port in word 1, and the data (R390). -/
structure Msg where
  word0 : Word
  port  : BitVec 16 := 0
  data  : List Byte
  deriving DecidableEq, Repr

/-- One mailbox (R389 to R392). -/
structure Mailbox where
  queue   : List Msg := []            -- received, oldest first
  out     : List (Msg × Nat) := []    -- sent and not yet on the link, with the time of MBSEND
  ovf     : Bool := false
  txerr   : Bool := false
  dropped : BitVec 16 := 0
  deriving DecidableEq, Repr

/-- One input dataset as the network engine holds it between snapshots (R375, R376). -/
structure PdSlot where
  data   : List Byte := []
  seq    : Word := 0
  at_    : Nat := 0                   -- last valid datagram, or when the slot was bound
  valid  : Bool := false
  lost   : Bool := false
  lenerr : Bool := false
  deriving DecidableEq, Repr

/-- The network engine. Paths are numbered as NET.RED: TN-A, TN-B, XL-A, XL-B, SG-A, SG-B. -/
structure Network where
  reg     : Net := {}
  mbox    : Vector Mailbox 64 := Vector.replicate 64 {}
  pdi     : Vector PdSlot 8 := Vector.replicate 8 {}
  pdoAt   : Vector Nat 8 := Vector.replicate 8 0
  lup     : BitVec 6 := 0             -- link up, per path
  svcUp   : Bool := false
  seen    : List (Fin 6 × BitVec 48 × BitVec 16 × Nat) := []   -- path, source MAC, sequence and time of each copy kept (R373, R393)
  supSeen : BitVec 6 := 0             -- a supervision frame since the previous path check (R374)
  supAt   : Nat := 0
  checkAt : Nat := 0
  busOff  : BitVec 4 := 0             -- CAN controllers in bus-off (R391)
  bwSeq   : Word := 0                 -- SEQ of the next STATUS
  bwAt    : Nat := 0
  masters : List (Byte × PtpMaster × Nat) := []   -- masters announced: domain, data set and time of the last announce (R377)
  ptpRow  : Nat := 0                  -- consecutive Sync messages within 1 µs (R377)
  ptpAt   : Vector (Option Nat) 2 := Vector.replicate 2 none   -- last Sync per path
  ppsRow  : Nat := 0                  -- consecutive valid pulses on SYNC (R23)
  ppsBad  : Nat := 0                  -- consecutive missing or invalid pulses
  ppsAt   : Nat := 0                  -- last pulse, or the second at which one was missed
  ppsGood : Nat := 0                  -- last valid pulse
  ppsLost : Bool := false             -- SYNC is lost, and three valid pulses in a row have not come since
  holdAt  : Nat := 0                  -- entry to HOLDOVER
  twinMac : Option (BitVec 48) := none
  twinAt  : Option Nat := none        -- last twin heartbeat
  sups    : List (BitVec 48 × Nat) := []   -- TN MAC addresses whose supervision frames came within 4 s, with the time of the last (R388)
  twinRow : Nat := 0                  -- consecutive heartbeats
  twinTx  : Nat := 0                  -- last heartbeat sent
  deriving DecidableEq, Repr

end Sys2Proof.Machine
end

