-- ==== Sys2Proof/Machine/UnitSafety.lean ====
section
/-! DEFINITION. Channel A, Hinge, the hinge link, the door-loop switches and the status window (chapter 7). -/

namespace Sys2Proof.Machine

/-- One input pair as one channel judges it (R187 to R189). -/
structure Pair where
  raw     : BitVec 2 := 0       -- last reading of the two inputs, 1 closed
  diff    : Nat := 0            -- consecutive grid instants at which they differ
  safeRow : Nat := 0            -- consecutive grid instants at which both read the safe value
  flt     : Bool := false
  val     : Bool := false       -- the pair has its unsafe value
  deriving DecidableEq, Repr

/-- The three pairs of one portal (Table 7-3) and the test-pulse faults of its six inputs (R192), FI k = 0 to 5. -/
structure PortalPairs where
  dcl  : Pair := {}
  eeh  : Pair := {}
  iso  : Pair := {}
  tpf  : BitVec 6 := 0
  held : BitVec 6 := 0                                  -- faults of step 4 of Table 7-8, held until reset
  good : Vector Nat 6 := Vector.replicate 6 0           -- good gaps in a row
  deriving DecidableEq, Repr

/-- One wheel-pulse input as one channel sees it (R198). -/
structure Wheel where
  last   : Option Nat := none   -- last pulse
  period : Option Nat := none   -- last completed period, ticks
  deriving DecidableEq, Repr

/-- One safety channel. -/
structure Channel where
  portals : Vector PortalPairs 16 := Vector.replicate 16 {}
  zs      : Pair := {}
  zsHeld  : BitVec 2 := 0                               -- faults of step 4 of Table 7-8 on ZSTL1 and ZSTL2
  wpHeld  : BitVec 4 := 0                               -- and on the wheel-pulse inputs
  wheels  : Vector Wheel 4 := Vector.replicate 4 {}
  below   : Option Nat := none                          -- every enabled input below threshold since (R198)
  above   : Option Nat := none                          -- every enabled input above threshold since (R199)
  wpflt   : Bool := false
  wzs     : Bool := false                               -- wheel zero speed
  permit  : Bool := false                               -- zero-speed permit
  cond    : Vector Bool 2 := Vector.replicate 2 false   -- side conditions (Table 7-5)
  failed  : Bool := false                               -- the fault line is asserted (R181)
  silent  : Bool := false                               -- the heartbeat is absent (R181)
  tested  : Bool := false                               -- start-up self-test passed (R461)
  swDone  : Bool := false                               -- its loop switches have been tested since the module reset (R460)
  sdeDone : Bool := false                               -- and its switches of the side drive enables
  sdeBad  : BitVec 2 := 0                               -- sides whose enable does not pass that test
  gridAt  : Nat := 0                                    -- last grid instant
  clkDev  : Nat := 0                                    -- consecutive deviating windows (R18)
  frames  : Nat := 0                                    -- consecutive agreeing frames (R492)
  since   : Nat := 0                                    -- reset release (R199)
  deriving DecidableEq, Repr

/-- The safety parameters of Table 7-2. -/
structure SafePar where
  disc    : BitVec 10 := 50
  zsth    : BitVec 3 := 3
  degwin  : BitVec 5 := 10
  arsync  : BitVec 5 := 5
  wdia    : BitVec 16 := 8400
  ppr     : BitVec 10 := 100
  wpen    : BitVec 4 := 3
  egren   : Bool := false
  zstl1   : BitVec 4 := 0
  zstl2   : BitVec 4 := 1
  zsdwell : BitVec 11 := 500
  deriving DecidableEq, Repr

/-- The safety part of the module. Switches are numbered HS left, LS left, HS right, LS right. -/
structure Safety where
  a        : Channel := {}
  h        : Channel := {}
  mode     : SMode := .start
  drive    : BitVec 4 := 0            -- switch drives (true: closed)
  rb       : BitVec 4 := 0            -- switch read-backs
  req      : Vector Bool 2 := Vector.replicate 2 false   -- channel A's SDE requests (R201)
  held     : Vector Bool 2 := Vector.replicate 2 false   -- HS held by Hinge in RESYNC (R211)
  stuck    : BitVec 4 := 0
  noclose  : BitVec 4 := 0
  badRb    : Vector Nat 4 := Vector.replicate 4 0        -- grid instants in a row at which drive and read-back differ (R196)
  closedAt : Vector Nat 4 := Vector.replicate 4 0        -- when each switch last closed (R195)
  pulseAt  : Vector (Option Nat) 4 := Vector.replicate 4 none   -- start of the last test pulse of each switch (R195)
  pulse    : Option (Fin 4 × Bool) := none   -- a pulse not yet judged: its switch, and whether it reads open in time
  sdeRb    : BitVec 2 := 0            -- read-backs of the side drive enables (Table 7-7)
  expired  : Bool := false
  exHold   : Vector Bool 2 := Vector.replicate 2 false   -- loops opened after expiry (R209)
  winAt    : Option Nat := none       -- start of the degraded window (R207)
  linkUp   : Bool := false
  linkBad  : Nat := 0                 -- consecutive frames missing or bad
  differ   : Vector Nat 111 := Vector.replicate 111 0    -- consecutive exchanges at which each thing Table 7-7 compares differs (R203)
  aReset   : Bool := false            -- channel A's reset line
  aGone    : Nat := 0                 -- when it asserted (R212, RST.ARST)
  aOwn     : Bool := false            -- by a CHANNEL-A reset whose length RST.ARST does not show yet (R213)
  unbroken : BitVec 16 := 0           -- DCL pairs made without a break through the absence (R212)
  clIn     : BitVec 16 := 0           -- portals whose CL = 1 awaits channel A's return (R212)
  clkflt   : Bool := false
  swTests  : Bool := false            -- the start-up switch tests have passed (R460)
  par      : SafePar := {}            -- the SAFE section's set, channel A's
  locked   : Option SafePar := none   -- the set locked in Hinge (R184)
  hFit     : BitVec 16 := 0           -- and with it each portal's fitted state
  hSide    : BitVec 16 := 0           -- and side
  arbItem  : BitVec 4 := 0
  arbOut   : BitVec 2 := 0
  arbInput : Bool := false
  arbPort  : BitVec 8 := 0xFF
  evt      : BitVec 11 := 0           -- SST.EVT
  evtNew   : BitVec 11 := 0           -- events raised since channel A last wrote the window (R217)
  ack      : BitVec 11 := 0           -- SRQ.ACK bits that channel A has not yet read (R217)
  whold    : BitVec 2 := 0            -- SRQ.WHOLD
  zsDis    : Option Nat := none       -- sources disagreeing since (R200)
  window   : Vector Word 13 :=          -- status window offsets 0x00 to 0x30, channel A's last exchange (R216)
    #v[0, 0, 0, 0, 0, 0xF00, 0, 0, 0xFF00, 0x050A0C32, 0x0C6420D0, 0x0001F410, 31667]
  winWr    : Nat := 0                 -- when channel A last wrote it
  deriving DecidableEq, Repr

end Sys2Proof.Machine
end

