-- ==== Sys2Proof/Machine/UnitSystem.lean ====
section
/-! DEFINITION. What landing (chapter 13), trust and sessions (chapter 17), supplies and sleep (chapter 18) and start-up (chapter 19)
hold beside their registers. -/

namespace Sys2Proof.Machine

/-- The start sources of Table 19-1. -/
inductive StartSrc where
  | power | restart | wake | service | supervisor
  deriving DecidableEq, Repr

/-- SRC of Table 19-1. -/
def StartSrc.code : StartSrc → BitVec 3
  | .power => 0 | .restart => 1 | .wake => 2 | .service => 3 | .supervisor => 4

/-- The image slots and the holding copy (R333, R338). -/
structure Landing where
  reg      : Lnd := {}
  active   : List Byte := []
  landing  : List Byte := []
  previous : List Byte := []
  factory  : List Byte := []
  total    : Nat := 0                              -- TOTLEN of the transfer
  owner    : Option (Fin 3) := none                -- the session whose transfer is RECEIVING
  activate : Bool := false                         -- activation requested, not yet taken (R339)
  degHeld  : Bool := false                         -- requested in a degraded mode or UNDECIDED (R215)
  verifier : Option (Fin 3 × Word) := none         -- session and TAG of a LAND-VERIFY being answered
  holding  : Option (List Byte × List Byte) := none   -- PARAM and SAFE sections of the holding copy
  deriving DecidableEq, Repr

/-- A session of R421: its number, its rights READ to ANCHOR as TRU.SESS numbers them, the low half of its client certificate's
serial number (Table 16-3), and the last record of its client. -/
structure Session where
  num    : Nat
  rights : BitVec 6
  serial : Word
  at_    : Nat
  deriving DecidableEq, Repr

/-- Keys, counters, certificates and sessions. Session 0 is on SVC, sessions 1 and 2 on TN. -/
structure Security where
  reg      : Tru := {}
  anchors  : Vector (Option (List Byte)) 4 := Vector.replicate 4 none   -- as loaded at the last reset
  stored   : Vector (Option (List Byte)) 4 := Vector.replicate 4 none   -- as the secure element holds them
  ancpend  : Bool := false                         -- an anchor write waits for reset
  rbfw     : Word := 0
  rbimg    : Word := 0
  rbenv    : Word := 0
  serial   : List Byte := List.replicate 16 0
  banks    : Vector (List Byte) 2 := Vector.replicate 2 []
  bank     : Fin 2 := 0
  fwalt    : Bool := false
  fwTotal  : Option (Fin 3 × Nat) := none          -- session and TOTAL of a firmware transfer
  fwBuf    : List Byte := []
  env      : Vector (List Byte) 2 := Vector.replicate 2 []     -- flash copies of the envelope certificate
  envUsed  : List Byte := []                       -- the certificate in force
  envStat  : BitVec 2 := 1
  envpend  : Bool := false
  sessions : Vector (Option Session) 3 := Vector.replicate 3 none
  opened   : Nat := 0                              -- sessions opened, the number of the next
  refn     : BitVec 16 := 0
  attest   : Option (Fin 3 × Word × List Byte × Nat) := none   -- session, TAG, report, and when it was asked for
  deriving DecidableEq, Repr

/-- R413: the device identity certificate: its subject serialNumber is the device serial; the rest is fixed at manufacture (log 5). -/
def Security.identity (t : Security) : List Byte × List Byte := (t.serial, Config.deviceCert)

/-- Supplies, hold-up bank, head supplies and sleep. -/
structure Supply where
  reg      : Pwr := {}
  intrAt   : Option Nat := none                    -- an interruption runs since
  rechargeAt : Nat := 0                            -- end of the last interruption
  testAt   : Nat := 0                              -- last hold-up test
  startTest : Bool := true                         -- the test of a start has not been made yet (R441)
  admAt    : Nat := 0                              -- last evaluation of head admission
  failing  : Bool := false                         -- the power-fail sequence has started
  flushAt  : Nat := 0                              -- last flush of R442
  shed     : BitVec 16 := 0                        -- heads shed under R437 that wait for LOWMOT to clear
  headAt   : Vector Nat 16 := Vector.replicate 16 0             -- admission of each head supply
  tripAt   : Vector (Option Nat) 16 := Vector.replicate 16 none -- last trip
  retryAt  : Vector (Option Nat) 16 := Vector.replicate 16 none -- trip whose retry is due
  wakeAt   : Nat := 0                              -- last change of a wake input's level
  chargeEnd : Nat := 0                             -- MBUS has charged its capacitors (Table 20-9)
  sleepAt  : Nat := 0
  deriving DecidableEq, Repr

/-- The serial clock and position output pairs: without a driver, low in reset, or in use (Table 20-11). -/
inductive LineDrive where
  | highZ | low | active
  deriving DecidableEq, Repr

/-- What the module drives at its pins beside the outputs that have a register (Table 19-4, Table 20-11). -/
structure Drives where
  tpa   : Bool := false                            -- test sources TPA and TPB, gaps apart (R191)
  tpb   : Bool := false
  fs5   : Bool := false                            -- sensor supplies FS5
  lines : LineDrive := .low                        -- serial clock and position outputs
  bus   : Bool := false                            -- CAN and RS-485 drivers
  deriving DecidableEq, Repr

/-- Reset and start-up. -/
structure Boot where
  reg      : Rst := {}
  held     : Option StartSrc := some .power        -- in reset, and the source of the start that follows
  down     : Bool := false                         -- orderly halt or sleep: only the retention domain lives (R443, R452)
  asleep   : Bool := false
  marker   : Bool := true                          -- the halt marker of R444 stands in MRAM
  relAt    : Nat := 0                              -- reset release
  chilled  : Bool := false                         -- the start waits for the control section to warm (R449)
  heating  : Bool := false                         -- the pre-heater runs (R449)
  drives   : Drives := {}                          -- pin drives (R463, R478)
  up       : Bool := false                         -- core up (Table 19-2)
  starting : Bool := false                         -- entry to RUN of this start not yet made
  recovery : Bool := false                         -- RECOVERY of Table 19-3
  cold     : Bool := true                          -- entry to RUN of this start is cold
  calWait  : Bool := true                          -- when last looked, the reserve was not the last condition of entry to RUN
  deriving DecidableEq, Repr

end Sys2Proof.Machine
end

