-- ==== Sys2Proof/Machine/State.lean ====
section
/-! DEFINITION. The state of the block: every register, queue, counter, mode and pin the spec names, as plain data; the queue
of commands; the state at reset; and the reasons a command can stop. -/

namespace Sys2Proof.Machine

/-- Why a command faults. -/
inductive Fault where
  /-- Raised by no meaning: the spec gives every command of the table an effect in every state. The name stands for a machine that
  would stop on an ill-formed command. Safe. -/
  | illFormed
  deriving DecidableEq, Repr

/-- Why a command is refused. -/
inductive Refusal where
  /-- Raised by Dispatch for a command that has no meaning yet. Safe. -/
  | notModelled (mnemonic : String)
  deriving DecidableEq, Repr

/-- What leaves the module on a link or in a session, in order. -/
inductive Output where
  /-- A Porvar frame's payload on HL or PL of a portal (R369, R370). -/
  | head (portal : Nat) (payload : List Byte)
  | panel (portal : Nat) (payload : List Byte)
  /-- A Porvar frame's payload on XL, both paths (R387). -/
  | twin (payload : List Byte)
  /-- A Bathawin telegram behind its carrier head, on SG or on TN (R379). -/
  | telegram (sg : Bool) (payload : List Byte)
  /-- A process dataset datagram to 239.192.x.y, port 20548 (R376). -/
  | dataset (id : BitVec 16) (payload : List Byte)
  /-- A PRP supervision frame on a path of NET.RED (R374). -/
  | supervision (path : Nat)
  /-- A mailbox message on its link (R390). -/
  | message (mailbox : Nat) (m : Msg)
  /-- What a read of a register gave its reader: requester 0 to 4 a Filif context, 5 the service session (R26). -/
  | value (requester : Nat) (addr : Nat) (w : Word)
  /-- A session's response: OP, TAG, STATUS and payload (Table 17-8). -/
  | response (session : Nat) (op : Nat) (tag : Word) (status : Nat) (payload : List Byte)
  /-- The device identity certificate, presented in the handshake of a session, or of a connection that gets none (3): its subject
  serialNumber and the rest of it (R413, R421). -/
  | certificate (session : Nat) (serial : List Byte × List Byte)
  /-- An OUTCOME notice in a session (R433). -/
  | notice (session : Nat) (payload : List Byte)
  deriving DecidableEq, Repr

/-- The state of the block. -/
structure State where
  mono    : Nat := 0                 -- monotonic time, ticks of 2.5 ns (R19)
  tim     : Tim := {}
  calBase : Nat := 0                 -- calendar time, ns TAI, at `calAt` (R21)
  calAt   : Nat := 0
  slew    : Int := 0                 -- correction still to be slewed at `calAt`, ns (R24)
  calPpb  : Int := 0                 -- frequency correction of calendar time against MCLK, 10^-9 (R22)
  fab     : Fab := {}
  latch   : List (Nat × Nat × Word) := []   -- requester, _HI address, latched half (R26)
  mem     : List Host.Cell := []     -- data range, input image and output image, by Filif address
  eng     : Engine := {}
  tally   : Tally := {}
  axes    : Vector Axis 64 := Vector.replicate 64 {}
  portals : Vector Portal 16 := Vector.replicate 16 {}
  fel     : Fel := {}
  sde     : Vector Bool 2 := Vector.replicate 2 false   -- side drive enables SDE-L, SDE-R
  ls      : Vector LoadCh 48 := Vector.replicate 48 {}
  lsg     : LoadBus := {}
  kerf    : Vector Kerf 16 := Vector.replicate 16 {}
  fio     : FieldIo := {}
  safe    : Safety := {}
  jnl     : Journal := {}
  net     : Network := {}
  lnd     : Landing := {}
  tru     : Security := {}
  pwr     : Supply := {}
  boot    : Boot := {}
  pending : List Instr := []
  sent    : List Output := []
  freeSeq : Nat := 0                 -- the model's own: picks the next free value (log 4)
  deriving DecidableEq, Repr

/-- An axis of a new module: its current sensors were calibrated at manufacture (R154, R491). -/
def Axis.new : Axis := { reg := { cal := { ofsok := true } } }

/-- A portal of a new module: portals P-08 to P-15 are on the right side (PRT.CFG.SIDE). -/
def Portal.new (p : Fin 16) : Portal := { reg := { cfg := { side := decide (8 ≤ p.val) } } }

/-- The machine at the first reset of its life: reset is asserted and not yet released, and nothing has been placed in its
flash and secure element (log 10). -/
def State.reset : State := { axes := Vector.replicate 64 Axis.new, portals := Vector.ofFn Portal.new }

end Sys2Proof.Machine
end

