-- ==== Sys2Proof/Machine/Ops.lean ====
section
/-! DEFINITION. The named operations every family shares: access to units, byte memory, free values, calendar time, the latched
_HI halves, recorded fabric faults, Tally records and flush triggers, and call-out triggers. -/

namespace Sys2Proof.Machine

/-- Bit `i` of a field set or cleared. -/
def putBit {n : Nat} (b : BitVec n) (i : Nat) (v : Bool) : BitVec n :=
  if v then b ||| (1#n <<< i) else b &&& ~~~(1#n <<< i)

/-- A number below `n`. -/
def finMod (n : Nat) (k : Nat) (h : 0 < n := by decide) : Fin n := ⟨k % n, Nat.mod_lt k h⟩

/-- What a command's meaning answers. -/
abbrev Out := Host.Outcome State Fault Refusal

/-- The state an outcome leaves. -/
def stateOf (s : State) : Out → State
  | .next t => t
  | _ => s

/-! ### Units -/

/-- Axis `i`. -/
def State.axis (s : State) (i : AxisIx) : Axis := s.axes[i.val]

/-- Axis `i` changed by `f`. -/
def State.modAxis (s : State) (i : AxisIx) (f : Axis → Axis) : State :=
  { s with axes := s.axes.set i.val (f (s.axis i)) }

/-- Portal `p`. -/
def State.portal (s : State) (p : PortalIx) : Portal := s.portals[p.val]

/-- Portal `p` changed by `f`. -/
def State.modPortal (s : State) (p : PortalIx) (f : Portal → Portal) : State :=
  { s with portals := s.portals.set p.val (f (s.portal p)) }

/-- The Filif engine changed by `f`. -/
def State.modEng (s : State) (f : Engine → Engine) : State := { s with eng := f s.eng }

/-- The SYS registers changed by `f`. -/
def State.modSys (s : State) (f : Sys → Sys) : State := s.modEng fun e => { e with sys := f e.sys }

/-- The Tally engine changed by `f`. -/
def State.modTally (s : State) (f : Tally → Tally) : State := { s with tally := f s.tally }

/-- R2: axis = 4 × portal + slot. -/
def axisOf (p : PortalIx) (slot : Fin 4) : AxisIx := ⟨4 * p.val + slot.val, by omega⟩

/-- The portal of an axis (R2). -/
def portalOf (a : AxisIx) : PortalIx := ⟨a.val / 4, by omega⟩

/-- The slot of an axis in its portal (R2). -/
def slotOf (a : AxisIx) : Fin 4 := ⟨a.val % 4, by omega⟩

/-- R3: load-switch channel = 3 × portal + k. -/
def chanOf (p : PortalIx) (k : Fin 3) : ChanIx := ⟨3 * p.val + k.val, by omega⟩

/-- The portal of a load-switch channel (R3). -/
def chanPortal (c : ChanIx) : PortalIx := ⟨c.val / 3, by omega⟩

/-- `k` of a load-switch channel: 0 LK, 1 HT, 2 LP (R3). -/
def chanK (c : ChanIx) : Fin 3 := ⟨c.val % 3, by omega⟩

/-- R43: the portal is fitted. -/
def Portal.fitted (p : Portal) : Bool := p.reg.cfg.kind != 0

/-! ### Portals and fitted units -/

/-- The portal has two leaves (PRT.CFG.TYPE). -/
def Portal.twoLeaf (p : Portal) : Bool := p.reg.cfg.kind == 1 || p.reg.cfg.kind == 3

/-- The portal is of a plug type. -/
def Portal.plug (p : Portal) : Bool := p.reg.cfg.kind == 3 || p.reg.cfg.kind == 4

/-- 0 left, 1 right. -/
def Portal.side (p : Portal) : Fin 2 := if p.reg.cfg.side then 1 else 0

/-- R43: the axis is fitted. -/
def State.fitted (s : State) (a : AxisIx) : Bool :=
  let p := s.portal (portalOf a)
  p.fitted && p.reg.cfg.axfit.getLsbD (slotOf a).val

/-- The axis is a leaf of its portal: slot 0, and slot 1 on two-leaf types. -/
def State.isLeaf (s : State) (a : AxisIx) : Bool :=
  (slotOf a).val == 0 || ((slotOf a).val == 1 && (s.portal (portalOf a)).twoLeaf)

/-- The fitted leaves of a portal. -/
def State.leaves (s : State) (p : PortalIx) : List AxisIx :=
  [axisOf p 0, axisOf p 1].filter fun a => s.isLeaf a && s.fitted a

/-- The fitted axes of a portal. -/
def State.axesOf (s : State) (p : PortalIx) : List AxisIx :=
  [axisOf p 0, axisOf p 1, axisOf p 2, axisOf p 3].filter s.fitted

/-- Every leaf of the portal is at least DEGRADED (R47, Table 3-5). -/
def State.leavesTrusted (s : State) (p : PortalIx) : Bool :=
  (s.leaves p).all fun a => (s.axis a).reg.state.trust != .untrusted

/-- Load-switch channel `c` changed by `f`. -/
def State.modLs (s : State) (c : ChanIx) (f : LoadCh → LoadCh) : State :=
  { s with ls := s.ls.set c.val (f s.ls[c.val]) }

/-- Kerf engine of portal `p` changed by `f`. -/
def State.modKerf (s : State) (p : PortalIx) (f : Kerf → Kerf) : State :=
  { s with kerf := s.kerf.set p.val (f s.kerf[p.val]) }

/-- All axes, portals and channels. -/
def allAxes : List AxisIx := List.finRange 64
@[inherit_doc allAxes] def allPortals : List PortalIx := List.finRange 16
@[inherit_doc allAxes] def allChans : List ChanIx := List.finRange 48

/-- One state change per unit of a list, in order. -/
def State.forAll {ι : Type} (s : State) (is : List ι) (f : State → ι → State) : State := is.foldl f s

/-! ### Free values (log 4) -/

/-- The state after one free value has been taken. -/
def State.used (s : State) : State := { s with freeSeq := s.freeSeq + 1 }

/-- The next free value, as a natural number. -/
def State.freeNat (s : State) : Nat := Config.free s.freeSeq

/-- The next free value, as a word. -/
def State.freeWord (s : State) : Word := BitVec.ofNat 32 (Config.free s.freeSeq)

/-- Free bytes, one per place. -/
def State.freeBytes (s : State) (n : Nat) : List Byte := (List.range n).map fun i => BitVec.ofNat 8 (Config.free (s.freeSeq + i))

/-- The state after `n` free values have been taken. -/
def State.usedN (s : State) (n : Nat) : State := { s with freeSeq := s.freeSeq + n }

/-! ### Bytes -/

/-- The `n` bytes of a number, least first (R11). -/
def leBytes : Nat → Nat → List Byte
  | 0, _ => []
  | n + 1, v => BitVec.ofNat 8 v :: leBytes n (v / 256)

/-- The number that bytes stand for, least first (R11). -/
def leNat : List Byte → Nat
  | [] => 0
  | b :: bs => b.toNat + 256 * leNat bs

/-- The number that bytes stand for, most first (network order, R363). -/
def beNat (bs : List Byte) : Nat := leNat bs.reverse

/-- The `n` bytes of a number, most first. -/
def beBytes (n v : Nat) : List Byte := (leBytes n v).reverse

/-- The `n` bytes of a list at an offset, zero where there is none. -/
def bytesAt (bs : List Byte) (off n : Nat) : List Byte :=
  let t := (bs.drop off).take n
  t ++ List.replicate (n - t.length) 0

/-- The word of a list of bytes at an offset (R11). -/
def wordAt (bs : List Byte) (off : Nat) : Word := BitVec.ofNat 32 (leNat (bytesAt bs off 4))

/-- Two's complement value of `bits` bits of a number. -/
def signOf (bits n : Nat) : Int := if n % 2 ^ bits < 2 ^ (bits - 1) then (n % 2 ^ bits : Nat) else (n % 2 ^ bits : Nat) - (2 ^ bits : Nat)

/-- CRC of a run of bytes, most significant bit first unless `refl`: the ordinary bitwise form (R10). -/
def crcByte (refl : Bool) (poly width : Nat) (crc : Nat) (b : Nat) : Nat :=
  if refl then
    (List.range 8).foldl (fun c _ => if c % 2 = 1 then c / 2 ^^^ poly else c / 2) (crc ^^^ b)
  else
    (List.range 8).foldl (fun c _ =>
      if c / 2 ^ (width - 1) % 2 = 1 then (c * 2 % 2 ^ width) ^^^ poly else c * 2 % 2 ^ width) (crc ^^^ (b * 2 ^ (width - 8)))

/-- CRC-32C (R12): reflected, polynomial 0x1EDC6F41, all ones in and out. -/
def crc32c (bs : List Byte) : Nat :=
  (bs.foldl (fun c b => crcByte true 0x82F63B78 32 c b.toNat) 0xFFFFFFFF) ^^^ 0xFFFFFFFF

/-! ### Memory: data range, input image, output image -/

/-- The byte at an address; a byte nothing has written reads 0 (log 3). -/
def Mem.read : List Host.Cell → Nat → Byte
  | [], _ => 0
  | c :: m, a => if c.1 = a then c.2 else Mem.read m a

/-- One byte written; the canonical form is kept (addresses rising, no zero listed). -/
def Mem.write : List Host.Cell → Nat → Byte → List Host.Cell
  | [], a, b => if b = 0 then [] else [(a, b)]
  | c :: m, a, b =>
    if c.1 < a then c :: Mem.write m a b
    else if c.1 = a then (if b = 0 then m else (a, b) :: m)
    else if b = 0 then c :: m else (a, b) :: c :: m

/-- The canonical form: addresses strictly rising, and no listed byte equal to what an unlisted address reads as. -/
abbrev Memory.wf (m : List Host.Cell) : Prop := m.Pairwise (fun x y => x.1 < y.1) ∧ ∀ c ∈ m, c.2 ≠ 0

/-- The byte of memory at an address. -/
def State.byte (s : State) (a : Nat) : Byte := Mem.read s.mem a

/-- `n` bytes of memory from an address up. -/
def State.bytes (s : State) (a : Nat) : Nat → List Byte
  | 0 => []
  | n + 1 => s.byte a :: s.bytes (a + 1) n

/-- Bytes written from an address up. -/
def Mem.writeList : List Host.Cell → Nat → List Byte → List Host.Cell
  | m, _, [] => m
  | m, a, b :: bs => Mem.writeList (Mem.write m a b) (a + 1) bs

/-- Bytes written to memory from an address up. -/
def State.setBytes (s : State) (a : Nat) (bs : List Byte) : State := { s with mem := Mem.writeList s.mem a bs }

/-- The little-endian word of memory at an address (R11). -/
def State.memWord (s : State) (a : Nat) : Word := BitVec.ofNat 32 (leNat (s.bytes a 4))

/-- A little-endian word written to memory (R11). -/
def State.setWord (s : State) (a : Nat) (w : Word) : State := s.setBytes a (leBytes 4 w.toNat)

/-- `n` bytes from an address up take values the spec leaves open (log 4). -/
def State.scramble (s : State) (a n : Nat) : State := (s.setBytes a (s.freeBytes n)).usedN n

/-- Memory from `lo` up to `hi` with every byte zero. -/
def Mem.clear (m : List Host.Cell) (lo hi : Nat) : List Host.Cell := m.filter fun c => !(lo ≤ c.1 && c.1 < hi)

/-- The data range, its end, the input and output images (Table 1-7). -/
def dataBase : Nat := 0x01000000
@[inherit_doc dataBase] def dataEnd : Nat := 0x01400000
@[inherit_doc dataBase] def tagBase : Nat := 0x013C0000
@[inherit_doc dataBase] def inBase : Nat := 0x20000000
@[inherit_doc dataBase] def outBase : Nat := 0x20010000
@[inherit_doc dataBase] def outEnd : Nat := 0x20020000

/-- `n` bytes from `a` lie wholly in the data range. -/
def inData (a n : Nat) : Bool := dataBase ≤ a && a + n ≤ dataEnd

/-- `n` bytes from `a` lie wholly in the output image. -/
def inOutput (a n : Nat) : Bool := outBase ≤ a && a + n ≤ outEnd

/-- `n` bytes from `a` lie wholly in byte memory. -/
def inMemory (a n : Nat) : Bool := inData a n || (inBase ≤ a && a + n ≤ outEnd)

/-! ### Time -/

/-- Ticks of 2.5 ns in a microsecond, a millisecond and a second (R16). -/
def us (n : Nat) : Nat := 400 * n
@[inherit_doc us] def ms (n : Nat) : Nat := 400000 * n
@[inherit_doc us] def sec (n : Nat) : Nat := 400000000 * n

/-- Ticks since `t`. -/
def State.since (s : State) (t : Nat) : Nat := s.mono - t

/-- Nanoseconds that `t` ticks last. -/
def ticksNs (t : Nat) : Nat := t * 5 / 2

/-- The part of the correction slewed so far: at most 100 µs a second (R24). -/
def slewed (backlog : Int) (ns : Nat) : Int := clampInt (-(ns / 10000 : Nat)) (ns / 10000 : Nat) backlog

/-- Calendar time now, ns, with the last frequency correction (R21, R22, R24). -/
def State.calNow (s : State) : Nat :=
  let ns := ticksNs (s.mono - s.calAt)
  ((s.calBase + ns : Nat) + (ns : Int) * s.calPpb / 1000000000 + slewed s.slew ns).toNat

/-- The monotonic count brought forward to `t`, the earliest instant of a time-driven event (log 1). -/
def State.upTo (s : State) (t : Nat) : State := { s with mono := max s.mono t }

/-- The power block's state changed. -/
def State.modPwr (s : State) (f : Supply → Supply) : State := { s with pwr := f s.pwr }

/-- The PWR registers changed. -/
def State.modPwrReg (s : State) (f : Pwr → Pwr) : State := s.modPwr fun p => { p with reg := f p.reg }

/-- The FEL registers changed. -/
def State.modFel (s : State) (f : Fel → Fel) : State := { s with fel := f s.fel }

/-- The monotonic count advanced by `n` ticks. -/
def State.pass (s : State) (n : Nat) : State := { s with mono := s.mono + n }

/-- MCLK runs: the module is neither in reset nor down (R20, R443, R452). -/
def State.clocked (s : State) : Bool := s.boot.held.isNone && !s.boot.down

/-- R364: a frame that its link does not support is dropped and counted. -/
def State.dropFrame (s : State) : State :=
  let e := s.net.reg.err2
  { s with net := { s.net with reg := { s.net.reg with err2 := { e with proto := satInc e.proto } } } }

/-- The core is up (Table 19-2): the controller die runs. In a reset, in RECOVERY, after an orderly halt and asleep none of its engines,
links and registers does anything (R452, R459, R462, R463) (DEDUCED, log 100). -/
def State.online (s : State) : Bool := s.clocked && s.boot.up

/-- The safety channels and the output side run: the core is up, or a SUPERVISOR reset holds the controller die alone (R457). -/
def State.guarded (s : State) : Bool := s.online || (s.boot.held == some .supervisor && !s.boot.down)

/-- The first tick from `t` on that is congruent to `n` modulo `m`. -/
def nextOn (m t n : Nat) : Nat := t + (n % m + m - t % m) % m

/-! ### Latched halves (R26) -/

/-- The _HI half at `addr` latched for a requester. -/
def State.latchPut (s : State) (req addr : Nat) (w : Word) : State :=
  { s with latch := (req, addr, w) :: s.latch.filter fun e => !(e.1 == req && e.2.1 == addr) }

/-- The latched half, zero before the first latching read. -/
def State.latchGet (s : State) (req addr : Nat) : Word :=
  match s.latch.find? fun e => e.1 == req && e.2.1 == addr with
  | some e => e.2.2
  | none => 0

/-! ### Tally (chapter 16) -/

/-- Bytes a record takes: header, payload, padding, CRC (R395). -/
def Rec.size (r : Rec) : Nat :=
  let n := r.payload.length + (r.snap.getD []).length
  32 + (n + 3) / 4 * 4 + 4

/-- Bytes staged. -/
def Tally.fill (t : Tally) : Nat := (t.staging.map Rec.size).sum

/-- The staged records a triggered flush covers lie below this sequence. -/
def Tally.covered (t : Tally) : Nat := t.queued.getLast?.getD (t.flush.getD 0)

/-- A flush trigger: every record staged so far and not yet taken is taken by a flush, which follows those triggered before (R403). -/
def Tally.trigger (t : Tally) : Tally :=
  match t.flush with
  | none => { t with flush := some t.seq, reg := { t.reg with stat := { t.reg.stat with flushing := true } } }
  | some _ => if t.covered = t.seq then t else { t with queued := t.queued ++ [t.seq] }

/-- Table 16-3, the records whose staging triggers a flush. -/
def flushMarked (type : BitVec 16) : Bool :=
  [0x0004, 0x0005, 0x0006, 0x0010, 0x0011, 0x0016, 0x0017, 0x0018, 0x0021, 0x0031, 0x0032, 0x0033, 0x0041, 0x0042].contains type.toNat

/-- The occurrence has the newest staged record's type and payload, and that record may take it apart from a full count (R405). -/
def Tally.foldable (t : Tally) (type : BitVec 16) (payload : List Byte) (r : Rec) : Bool :=
  r.type == type && r.payload == payload && r.snap.isNone && decide (t.covered ≤ r.seq) && type != 1 && type != 2

/-- The newest staged record changed. -/
def Tally.modNewest (t : Tally) (f : Rec → Rec) : Tally :=
  match t.staging.getLast? with
  | some r => { t with staging := t.staging.dropLast ++ [f r] }
  | none => t

/-- The COMMISSION record is staged: FIRST takes the history from its sequence on (R401). -/
def Tally.commissioned (t : Tally) (r : Rec) : Tally :=
  if r.type = 6 then { t with commSeq := some t.seq, reg := { t.reg with stat := { t.reg.stat with comm := true } } } else t

/-- A record takes the next sequence and is staged; marked records and a fill of 384 KiB trigger a flush (R396, R403). -/
def Tally.stage (t : Tally) (r : Rec) : Tally :=
  let before := t.fill
  let t := t.commissioned r
  let t := { t with staging := t.staging ++ [{ r with seq := t.seq }], seq := t.seq + 1 }
  if flushMarked r.type || (decide (before < 393216) && decide (393216 ≤ t.fill)) then t.trigger else t

/-- Staging as a ring once ROLL has stopped: the oldest give way until `n` bytes fit (R407). -/
def ringRoom (n : Nat) : List Rec → List Rec
  | [] => []
  | r :: rs => if ((r :: rs).map Rec.size).sum + n ≤ 524288 then r :: rs else ringRoom n rs

/-- The LOST record that reports lost module records, once there is room (R404). -/
def Tally.report (t : Tally) (mk : BitVec 16 → List Byte → Rec) : Tally :=
  if t.lost = 0 then t else
  let r := mk 4 (leBytes 2 0xFFFF ++ leBytes 2 1 ++ leBytes 4 t.lost ++ leBytes 8 0)
  if t.fill + r.size ≤ 524288 then { t with lost := 0 }.stage r else t

/-- The status codes of R326. -/
inductive EmitStatus where
  | accepted | merged | full | bad
  deriving DecidableEq, Repr

/-- The code of R326. -/
def EmitStatus.code : EmitStatus → Word
  | .accepted => 0 | .merged => 1 | .full => 2 | .bad => 3

/-- A new record, where there is room; a ring makes it, for a LOST record that is due too (R404, R407). -/
def Tally.putNew (t : Tally) (r : Rec) (mk : BitVec 16 → List Byte → Rec) : Tally × EmitStatus :=
  let t := if t.reg.stat.spare then { t with staging := ringRoom (r.size + if t.lost = 0 then 0 else 52) t.staging } else t
  let t := t.report mk
  if t.fill + r.size ≤ 524288 then (t.stage r, .accepted)
  else ({ t with lost := t.lost + 1, reg := { t.reg with evt := { t.reg.evt with lost := true } } }, .full)

/-- A record reaches the Tally engine: held while the START flush is due, folded, staged, or lost (R396, R404, R405, R407). -/
def Tally.put (t : Tally) (prog : Bool) (mk : BitVec 16 → List Byte → Rec) (type : BitVec 16) (payload : List Byte)
    (snap : Option (List Byte)) : Tally × EmitStatus :=
  let r := { mk type payload with snap := snap }
  if prog && decide (458752 ≤ t.fill) && !t.reg.stat.spare then
    ({ t with reg := { t.reg with cnt := { t.reg.cnt with pfulln := satInc t.reg.cnt.pfulln } } }, .full)
  else if t.starting then ({ t with held := t.held ++ [r] }, .accepted)
  else
    match t.staging.getLast? with
    | some r0 =>
      if snap.isNone && t.foldable type payload r0 && r0.repeats != 0xFFFF then
        ({ t.modNewest (fun x => { x with repeats := x.repeats + 1 }) with
            reg := { t.reg with cnt := { t.reg.cnt with mergen := satInc t.reg.cnt.mergen } } }, .merged)
      else
        let t := if snap.isNone && t.foldable type payload r0 then t.modNewest (fun x => { x with repsat := true }) else t
        Tally.putNew t r mk
    | none => Tally.putNew t r mk

/-- R404: the held records are staged, in their order, as long as there is room, and before the report of lost ones; `n` bounds their
number. -/
def Tally.unhold (t : Tally) (mk : BitVec 16 → List Byte → Rec) : Nat → Tally
  | 0 => t
  | n + 1 =>
    match t.held with
    | [] => { t with starting := false }
    | r :: rs =>
      if t.fill + r.size ≤ 524288 ∨ t.reg.stat.spare = true then
        let u := ({ t with held := rs, starting := false, lost := 0 }.put false (fun ty pl => if ty = r.type ∧ pl = r.payload then r else mk ty pl)
          r.type r.payload r.snap).1
        { u with lost := t.lost + u.lost }.unhold mk n
      else { t with starting := true }

/-- A record of now, without its sequence (R406). -/
def State.mkRec (s : State) (type : BitVec 16) (payload : List Byte) : Rec :=
  { type := type, payload := payload, calv := s.tim.src.valid, seq := 0, cal := s.calNow, mono := s.mono }

/-- A module record of this type and payload reaches the Tally engine. -/
def State.record (s : State) (type : BitVec 16) (payload : List Byte) (snap : Option (List Byte) := none) : State :=
  { s with tally := (s.tally.put false s.mkRec type payload snap).1 }

/-- An event record, Table 16-2: unit, code and arguments. -/
def State.event (s : State) (type : BitVec 16) (unit code : Nat) (arg0 : Nat := 0) (snap : Option (List Byte) := none) : State :=
  s.record type (leBytes 2 unit ++ leBytes 2 code ++ leBytes 4 arg0 ++ leBytes 8 0) snap

/-- The module as UNIT of a record (Table 16-2). -/
def moduleUnit : Nat := 0xFFFF

/-- A flush trigger (R403). -/
def State.flush (s : State) : State := s.modTally Tally.trigger

/-! ### Fabric faults (R31) -/

/-- The address of a source of Table 1-4 in FAB.LASTF. -/
abbrev FabSource := BitVec 4

/-- An uncorrectable ECC error or a fabric timeout is recorded (R31); an ECC error also triggers a flush (Table 16-5). -/
def State.fabFault (s : State) (f : FabFault) (src : FabSource) (addr : Word) : State :=
  match f with
  | .none => s
  | .ecc =>
    { s with fab := { s.fab with
        lastf := { s.fab.lastf with kind := 1, source := src, new := true }, lasta := addr,
        ecccnt := { s.fab.ecccnt with uncorr := satInc s.fab.ecccnt.uncorr } } }.flush
  | .timeout =>
    { s with fab := { s.fab with
        lastf := { s.fab.lastf with kind := 2, source := src, new := true }, lasta := addr,
        tocnt := satInc s.fab.tocnt } }

/-- An access violation of a source other than Filif is recorded (R31). -/
def State.fabViolation (s : State) (src : FabSource) (addr : Word) : State :=
  { s with fab := { s.fab with lastf := { s.fab.lastf with kind := 3, source := src, new := true }, lasta := addr } }

/-! ### Violations and call-out triggers -/

/-- R282: a program access without the right is counted. -/
def State.violation (s : State) (addr : Word) : State :=
  s.modSys fun y => { y with violn := satInc y.violn, viola := addr }

/-- The declaration of a call-out number in the active image (R327). -/
def Engine.decl (e : Engine) (num : BitVec 16) : Option Decl := e.decls.find? fun d => d.num == num

/-- One trigger lost (R269, R277). -/
def Engine.lose (e : Engine) : Engine :=
  { e with sys := { e.sys with cocnt := { e.sys.cocnt with lost := satInc e.sys.cocnt.lost } } }

/-- R269: a trigger makes its call-out pending, or is merged, ignored or (in STOP) discarded. `gap`: a gap event, which is not
counted where undeclared (R48) (DEDUCED, log 45). -/
def Engine.trigger (e : Engine) (now : Nat) (num : BitVec 16) (arg : Word) (gap : Bool) (mbox : Bool := false) : Engine :=
  match e.decl num with
  | none =>
    if gap then e else { e with sys := { e.sys with cocnt := { e.sys.cocnt with undecl := satInc e.sys.cocnt.undecl } } }
  | some d =>
    if e.sys.mode.mode = .stop || e.pend.any fun p => p.num == num then e.lose
    else { e with pend := e.pend ++ [{ num := num, prio := d.prio, time := now, arg := arg, mbox := mbox }] }

/-- A call-out trigger of now. -/
def State.callout (s : State) (num : BitVec 16) (arg : Word) (gap : Bool := false) (mbox : Bool := false) : State :=
  s.modEng fun e => e.trigger s.mono num arg gap mbox

/-- Something leaves the module (DESIGN CHOICE, log 72). -/
def State.send (s : State) (o : Output) : State := { s with sent := s.sent ++ [o] }

end Sys2Proof.Machine
end

