-- ==== Sys2Proof/Machine/LoadOps.lean ====
section
/-! DEFINITION. Load switches: hold-offs, conduction, commands, on-edges and Choker (chapter 8). -/

namespace Sys2Proof.Machine

/-- Load-switch channel `c`. -/
def State.chan (s : State) (c : ChanIx) : LoadCh := s.ls[c.val]

/-- The safe value governs the channel: in STOP, after it until the program commits the channel (R221), and while the holding image runs
(R337). -/
def State.safeGoverns (s : State) (c : ChanIx) : Bool :=
  s.eng.sys.mode.mode == .stop || s.eng.sys.mode.factory || (s.chan c).safeGov

/-- LSB.CFG.SAFE; LK channels have the safe value off (R221). From a start on every channel is off until a command under RUN (R463). -/
def State.safeValue (s : State) (c : ChanIx) : Bool := (chanK c).val != 0 && (s.chan c).reg.cfg.safe && !(s.chan c).resetOff

/-- The command that governs the channel: the command in force, or the safe value (R221). -/
def State.lsEff (s : State) (c : ChanIx) : Bool := if s.safeGoverns c then s.safeValue c else (s.chan c).reg.cmd

/-- The hold-offs of Table 8-2 present, lowest code first. -/
def State.holds (s : State) (c : ChanIx) : List Nat :=
  let x := s.chan c
  (if s.lsg.hold || s.lsg.off then [1] else [])
    ++ (if s.safeGoverns c && !s.safeValue c then [2] else [])
    ++ (if (chanK c).val == 0 && (s.portal (chanPortal c)).iso then [3] else [])
    ++ (if x.lockHold then [4] else []) ++ (if x.choked then [5] else []) ++ (if x.spent then [6] else [])
    ++ (if x.reg.stat.tlatch then [7] else []) ++ (if x.retryAt.isSome then [8] else [])
    ++ (if x.reg.stat.olt == .running then [9] else [])

/-- LSB.STAT.HOLD: the lowest hold-off present; its reset value while reset lasts. -/
def State.holdCode (s : State) (c : ChanIx) : Nat := if s.boot.held.isSome then 0 else (s.holds c).headD 0

/-- R219: the channel conducts. -/
def State.conducts (s : State) (c : ChanIx) : Bool :=
  (s.portal (chanPortal c)).fitted && s.lsEff c && (s.holds c).isEmpty

/-- LSB.STAT changed. -/
def LoadCh.modStat (x : LoadCh) (f : LsbStat → LsbStat) : LoadCh := { x with reg := { x.reg with stat := f x.reg.stat } }

/-- LSB.EVT changed. -/
def LoadCh.modEvt (x : LoadCh) (f : LsbEvt → LsbEvt) : LoadCh := { x with reg := { x.reg with evt := f x.reg.evt } }

/-- The output of a channel switched on or off: a switch-off is counted and its clamp energy measured (R229), an attempt that
conducts counts as a retry (R225). -/
def LoadCh.switch (x : LoadCh) (on : Bool) (now : Nat) : LoadCh :=
  if on = x.reg.stat.out then x
  else if on then
    let x := if x.attempt then { x.modStat (fun t => { t with retries := satInc t.retries }) with attempt := false } else x
    { x.modStat (fun t => { t with out := true }) with since := now }
  else
    let x := x.modStat fun t => { t with out := false, ilimact := false }
    { x with clamping := true, reg := { x.reg with swn := satInc x.reg.swn, meas := { x.reg.meas with i := 0 } } }

/-- The door timers that start with a command: UTO with LK (R57), the warning with LP (R56). -/
def State.lsTimers (s : State) (c : ChanIx) (on : Bool) : State :=
  let p := chanPortal c
  match (chanK c).val with
  | 0 => s.modPortal p fun q => { q with utoAt := if on && q.dcl != 0 then some s.mono else none }
  | 2 => s.modPortal p fun q => { q with lpAt := if on then some s.mono else none }
  | _ => s

/-- A channel brought in line with its command and hold-offs (R219). -/
def State.lsEval (s : State) (c : ChanIx) : State :=
  let e := s.lsEff c
  let s := if e = (s.chan c).eff then s else (s.modLs c fun x => { x with eff := e }).lsTimers c e
  let on := s.conducts c
  s.modLs c fun x => (x.switch on s.mono).modStat fun t => { t with safev := s.safeGoverns c }

/-- The accumulator with what its register shows, units of 0.1 mJ. -/
def LoadCh.setAcc (x : LoadCh) (n : Nat) : LoadCh :=
  { x with acc := n, reg := { x.reg with chk := { x.reg.chk with e := satNat 16 (n / 100) } } }

/-- An on-edge ends what waits for it (R220, R225, R226, R228, R230). -/
def LoadCh.onEdge (x : LoadCh) : LoadCh :=
  let x := x.modStat fun t => { t with retries := 0, olt := if t.olt == .running then .deferred else t.olt }
  { x with
    lockHold := false
    choked := x.choked && !decide (x.acc * 2 < x.reg.chkcfg.budget.toNat * 1000)
    spent := x.spent && x.reg.stat.tlatch
    edgeWait := x.reg.stat.tlatch
    retryAt := none
    attempt := false }

/-- The command goes off: the retry counter returns to 0 and no attempt is pending (R225). -/
def LoadCh.cmdOff (x : LoadCh) : LoadCh :=
  { x.modStat (fun t => { t with retries := 0 }) with retryAt := none, attempt := false, edgeWait := false }

/-- An on-edge for LK that is commanded on already starts UTO, unless it runs: LK is commanded on once more (R57, Table 2-4). -/
def State.lkAgain (s : State) (c : ChanIx) : State :=
  s.modPortal (chanPortal c) fun q => if q.dcl != 0 && q.utoAt.isNone then { q with utoAt := some s.mono } else q

/-- A new command in force; `edge` where it is an on-edge whatever the old one (R220). Outside STOP it commits the channel (R221). -/
def State.lsSet (s : State) (c : ChanIx) (on edge : Bool) : State :=
  if !(s.portal (chanPortal c)).fitted then s else
  let s' := s.modLs c fun x =>
    let y := if on && (edge || !x.reg.cmd) then x.onEdge else if !on then x.cmdOff else x
    let still := s.eng.sys.mode.mode == .stop
    { y with reg := { y.reg with cmd := on }, safeGov := x.safeGov && still, resetOff := x.resetOff && still }
  let s' := s'.lsEval c
  if on && edge && (chanK c).val == 0 && s'.lsEff c then s'.lkAgain c else s'

/-- A blaze LSON or LSOFF writes the command in force directly (R220). -/
def State.lsCommand (s : State) (c : ChanIx) (on : Bool) : State := s.lsSet c on true

/-- A COMMIT of a load-switch block that completes DONE (R220, R221). -/
def State.lsCommit (s : State) (c : ChanIx) : State :=
  if !(s.portal (chanPortal c)).fitted then s else
  let on := if (s.chan c).staged then (s.chan c).sCmd else (s.chan c).reg.cmd
  (s.lsSet c on false).modLs c fun x => { x with staged := false, sCmd := x.reg.cmd }

/-- The LOCK gap event de-energises LK until an on-edge after it (Table 2-1, Table 8-2, R238). -/
def State.lkDrop (s : State) (p : PortalIx) : State :=
  (s.modLs (chanOf p 0) fun x => { x with lockHold := true }).lsEval (chanOf p 0)

/-- Off-state tests that run are abandoned: the idle window has closed (R228). -/
def State.oltAbandon (s : State) : State :=
  s.forAll allChans fun s c =>
    if (s.chan c).reg.stat.olt == .running then (s.modLs c fun x => x.modStat fun t => { t with olt := .deferred }).lsEval c else s

end Sys2Proof.Machine
end

