-- ==== Sys2Proof/Machine/KerfOps.lean ====
section
/-! DEFINITION. Kerf-window operations: the window and its rate, the band and the judgement of a frame, verdicts and what they do, the
kerf condition, snapshots, the model (chapter 6). -/

namespace Sys2Proof.Machine

/-- Kerf engine of portal `p`. -/
def State.krf (s : State) (p : PortalIx) : Kerf := s.kerf[p.val]

/-- KRF.STAT changed. -/
def Kerf.modStat (k : Kerf) (f : KrfStat → KrfStat) : Kerf := { k with reg := { k.reg with stat := f k.reg.stat } }

/-- KRF.EVT changed. -/
def Kerf.modEvt (k : Kerf) (f : KrfEvt → KrfEvt) : Kerf := { k with reg := { k.reg with evt := f k.reg.evt } }

/-- The portal has a head and is not isolated, so that the window may be open (R159). -/
def State.kerfLive (s : State) (p : PortalIx) : Bool := (s.portal p).reg.cfg.kerffit && !(s.portal p).iso

/-- The driver override acts (R172). -/
def Kerf.ovrActs (k : Kerf) : Bool := k.cfgNow.ovren && k.ovrLine && !k.reg.stat.ovrstuck

/-- R169: the kerf condition, held while CL = 1: also where the CL was that of an isolated portal, so that one judged afresh with its
contacts made keeps it (DESIGN CHOICE, log 90). -/
def State.kcondEval (s : State) (p : PortalIx) : State :=
  let q := s.portal p
  s.modKerf p fun k => k.modStat fun t =>
    { t with ovr := k.ovrActs
             kcond := q.cl || s.safe.clIn.getLsbD p.val || !q.reg.cfg.kerffit || decide (3 ≤ t.run.toNat)
               || (k.afterTm == some .blind && k.nonBlind != some .occupied) || k.ovrActs }

/-- The module's rate command to a head (R369). -/
def rateFrame (fast : Bool) : List Byte := [0x48, 0x10, 0x01, 0, if fast then 120 else 30, 0, 0, 0]

/-- The window takes another state; a change to or from CLOSING commands the head's rate (R157). -/
def State.setWin (s : State) (p : PortalIx) (w : KWin) : State :=
  let fast := w == .closing
  let was := (s.krf p).reg.stat.rate
  let s := s.modKerf p fun k => k.modStat fun t => { t with win := w, rate := fast }
  if fast = was then s else (s.modKerf p fun k => { k with rateAt := s.mono }).send (.head p.val (rateFrame fast))

/-- The window goes to CLOSED: RUN, the run's verdicts, the episode and LOCKOCC end (R168, R170). -/
def State.kerfClose (s : State) (p : PortalIx) : State :=
  let k := s.krf p
  if k.reg.stat.win = .closed then s else
  let s := if k.reg.stat.lockocc then s.event 0x31 p.val 2 k.reg.fcnt.toNat else s
  let s := (s.modKerf p fun k =>
    { k with nonBlind := none, afterTm := none, episode := false, silAt := none }.modStat fun t =>
      { t with run := 0, lockocc := false, verd := .closed, bcause := 0 })
  (s.setWin p .closed).kcondEval p

/-- R160: an opening source acts, with its value of GW in nm. Sources of one update keep the greatest; an update's are those of one tick
(DESIGN CHOICE, log 136). -/
def State.kerfOpen (s : State) (p : PortalIx) (gw : Int) : State :=
  let k := s.krf p
  if !s.kerfLive p then s
  else if k.reg.stat.win = .closed then
    (s.modKerf p fun k => { k with gw := gw, openAt := s.mono, silAt := none, nonBlind := none, episode := false }).setWin p .closing
  else if k.reg.stat.win = .closing ∧ k.openAt = s.mono then s.modKerf p fun k => { k with gw := max k.gw gw }
  else s

/-- R159: G has changed: the largest value since the frame end before, and CLOSING left above GW + 2 mm. -/
def State.kerfGap (s : State) (p : PortalIx) : State :=
  let g := (s.portal p).g
  let s := s.modKerf p fun k => { k with gmax := max k.gmax (s.portal p).reg.gap.toNat }
  let k := s.krf p
  if k.reg.stat.win = .closing ∧ k.gw + 2000000 < g then s.kerfClose p else s

/-- R159: CL rises or falls. -/
def State.kerfCl (s : State) (p : PortalIx) (cl : Bool) : State :=
  let w := (s.krf p).reg.stat.win
  let s := if cl then (if w = .closing then s.setWin p .watch else s) else if w = .watch then s.kerfClose p else s
  s.kcondEval p

/-- R168: a missing frame, or the DCL pair leaving 0b11, ends the run. -/
def State.kerfBreak (s : State) (p : PortalIx) : State :=
  (s.modKerf p fun k => k.modStat fun t => { t with run := 0 }).kcondEval p

/-- R160, R168: what channel A's grid instant does: tm, the fifth opening source, which at its first make after a start takes GW = 0 while G is
held (R464), and the ends by EEH and ISO. -/
def State.kerfGrid (s : State) (p : PortalIx) : State :=
  let q := s.portal p
  let made := (s.safe.a.portals[p.val]).dcl.val
  let k := s.krf p
  let s := if made && k.tm.isNone then
      let gw := if s.leavesTrusted p || k.made then q.g else 0
      (s.modKerf p fun k => { k with tm := some s.mono, made := true, afterTm := none }).kerfOpen p gw
    else if !made && k.tm.isSome then (s.modKerf p fun k => { k with tm := none, afterTm := none }).kerfBreak p
    else s
  let w := (s.krf p).reg.stat.win
  let s := if w ≠ .closed ∧ (q.iso ∨ !q.reg.cfg.kerffit ∨ (w = .closing ∧ q.eeh)) then s.kerfClose p else s
  s.kcondEval p

/-! ### The configuration that acts (R172, R175) -/

/-- R172: after an image switch the line that the override follows reads as it stands. The switch is no edge of the line; one that reads
active is timed from the switch on (DESIGN CHOICE, log 94). -/
def State.overrideRead (s : State) (p : PortalIx) : State :=
  let on := s.fio.lvl.getLsbD (128 + (s.krf p).cfgNow.ovrtl.toNat)
  (s.modKerf p fun k => if k.ovrLine = on then k else { k with ovrLine := on, ovrAt := s.mono }).kcondEval p

/-- KRF.CFG and KRF.DET act as they stand: from a start, a switch of the geometry, or the first frame judged after a switch (R175). -/
def State.kerfSync (s : State) (p : PortalIx) : State :=
  let k := s.krf p
  if k.cfgNow = k.reg.cfg ∧ k.detNow = k.reg.det then s
  else (s.modKerf p fun k => { k with cfgNow := k.reg.cfg, detNow := k.reg.det }).overrideRead p

/-! ### Judging a frame (R161 to R163) -/

/-- The band's columns for a largest gap `g` in 0.1 mm (R161) (DEDUCED, log 50). -/
def State.band (s : State) (p : PortalIx) (g : Nat) : Nat × Nat :=
  let r := (s.krf p).reg
  let q := s.portal p
  let m : Int := 10 * ((r.slab.zmarg.toNat : Int) + r.zwide.toNat)
  let xm : Int := r.mline.xm.toNat
  let k : Int := r.kpx.toNat
  let two := q.reg.cfg.kind == 1 || q.reg.cfg.kind == 3
  let lo : Int := if two then (5120 * xm - (g + 2 * m) * k) / 81920
    else (2560 * xm - (if r.mline.jside then g + m else m) * k) / 40960
  let hi : Int := if two then -((-(5120 * xm) - (g + 2 * m) * k) / 81920)
    else -((-(2560 * xm) - (if r.mline.jside then m else g + m) * k) / 40960)
  ((clampInt 0 639 lo).toNat, (clampInt 0 639 hi).toNat)

/-- A pixel of the band as R162 classes it. -/
inductive Pixel where
  | invalid | hit | empty
  deriving DecidableEq, Repr

/-- R162: the class of depth `d` against a model entry. -/
def pixelOf (zdepth : Nat) (m : Option (Nat × Nat)) (d : BitVec 16) : Pixel :=
  match m with
  | none => .invalid
  | some (depth, tol) =>
    if d = 0 ∨ d = 0xFFFF then .invalid
    else if depth ≤ d.toNat + zdepth ∧ d.toNat + tol < depth then .hit else .empty

/-- The model words of R173 as they stand. -/
def Krf.geom (r : Krf) : Word × Word × Word × Word := (r.zone.toWord, r.mline.toWord, r.kpx.setWidth 32, r.slab.toWord)

/-- R173: the digest of a model matches the present head identity and parameters. -/
def Kerf.fits (k : Kerf) (m : KModel) : Bool := m.head == k.headId && (m.zone, m.mline, m.kpx, m.slab) == k.reg.geom

/-- R173: the copy in force: the newer, or, where its digest does not match, the older. -/
def Kerf.inForce (k : Kerf) : Option KModel := (k.model.filter k.fits).or (k.older.filter k.fits)

/-- Two pixels touch, corners included. -/
def near (a b : Nat × Nat) : Bool :=
  decide (a.1 ≤ b.1 + 1) && decide (b.1 ≤ a.1 + 1) && decide (a.2 ≤ b.2 + 1) && decide (b.2 ≤ a.2 + 1)

/-- A group grown by the pixels that touch it, and the pixels left over. -/
def growGroup : Nat → List (Nat × Nat) → List (Nat × Nat) → List (Nat × Nat) × List (Nat × Nat)
  | 0, g, r => (g, r)
  | n + 1, g, r =>
    let a := r.filter fun x => g.any (near x)
    if a.isEmpty then (g, r) else growGroup n (g ++ a) (r.filter fun x => !g.any (near x))

/-- The size of the largest group by 8-connectivity (R162). -/
def largestGroup : Nat → List (Nat × Nat) → Nat
  | 0, _ => 0
  | _, [] => 0
  | n + 1, x :: r =>
    let (g, r') := growGroup r.length [x] r
    max g.length (largestGroup n r')

/-- The pixels of a band: rows and columns, row by row, with a step. -/
def bandPixels (y0 y1 xl xr step : Nat) : List (Nat × Nat) :=
  ((List.range (y1 + 1 - y0)).filter (· % step = 0)).flatMap fun y =>
    ((List.range (xr + 1 - xl)).filter (· % step = 0)).map fun x => (xl + x, y0 + y)

/-- The model entry and the depth of a pixel. -/
def pixelAt (m : KModel) (f : Frame) (x y : Nat) : Option (Nat × Nat) × BitVec 16 :=
  ((m.px[640 * y + x]?).getD none, (f.depth[640 * y + x]?).getD 0)

/-- R163: a frame is judged, with its counter in order or not. Without a valid model HITPIX and INVPCT are 0 and the runs of LENS stand
(DESIGN CHOICE, log 112). -/
def State.judgeFrame (s : State) (p : PortalIx) (f : Frame) (inOrder : Bool) : State × Judged :=
  let s := s.kerfSync p
  let k := s.krf p
  let r := k.reg
  let (xl, xr) := s.band p f.g
  match r.stat.model, k.inForce with
  | .valid, some m =>
    let px := bandPixels r.zone.zy0.toNat r.zone.zy1.toNat xl xr 1
    let cls := px.map fun x => (x, let (e, d) := pixelAt m f x.1 x.2; pixelOf r.slab.zdepth.toNat e d)
    let hits := (cls.filter fun c => c.2 == .hit).map Prod.fst
    let group := largestGroup hits.length hits
    let inv := if px.length = 0 then 0 else 100 * (cls.filter fun c => c.2 == .invalid).length / px.length
    let foul := decide (k.detNow.foul.toNat < inv)
    let k := { k with foulRow := if foul then k.foulRow + 1 else 0, cleanRow := if foul then 0 else k.cleanRow + 1 }
    let k := { k with lens := if k.detNow.fouln.toNat ≤ k.foulRow then true else if k.detNow.fouln.toNat ≤ k.cleanRow then false else k.lens }
    let occ := decide (k.detNow.minpix.toNat ≤ group) && decide (0 < group)
    (s.modKerf p fun _ => k,
     { frame := f, verd := if occ then .occupied else if k.lens then .blind else .clear, bcause := if !occ && k.lens then 3 else 0,
       xl := xl, xr := xr, hitpix := group, invpct := inv, inOrder := inOrder })
  | _, _ => (s, { frame := f, verd := .blind, bcause := 4, xl := xl, xr := xr, inOrder := inOrder })

/-! ### Snapshots (R177) -/

/-- The code of one pixel in a snapshot. -/
def snapCode (e : Option (Nat × Nat)) (d : BitVec 16) : Byte :=
  match e with
  | none => 0xFE
  | some (m, t) =>
    if d = 0 ∨ d = 0xFFFF then 0xFE
    else if m ≤ d.toNat + t then 0 else BitVec.ofNat 8 (min 0xFD (max 1 ((m - d.toNat + 3) / 4)))

/-- Run-length form of R177: the runs of equal codes, longest first 129. -/
def runsOf : List Byte → List (Byte × Nat)
  | [] => []
  | b :: bs =>
    match runsOf bs with
    | (c, n) :: rs => if b = c ∧ n < 129 then (c, n + 1) :: rs else (b, 1) :: (c, n) :: rs
    | [] => [(b, 1)]

/-- Literals gathered for one control byte. -/
def litBytes (l : List Byte) : List Byte := if l.isEmpty then [] else BitVec.ofNat 8 (l.length - 1) :: l

/-- Control bytes and codes of the runs; single codes are gathered into literals of at most 128. -/
def rleBytes : List Byte → List (Byte × Nat) → List Byte
  | l, [] => litBytes l
  | l, (c, n) :: rs =>
    if n = 1 then (if l.length = 128 then litBytes l ++ rleBytes [c] rs else rleBytes (l ++ [c]) rs)
    else litBytes l ++ BitVec.ofNat 8 (n + 0x7E) :: c :: rleBytes [] rs

/-- The encoded codes of a band at a subsampling step. -/
def snapData (m : KModel) (j : Judged) (y0 y1 step : Nat) : List Byte :=
  rleBytes [] (runsOf ((bandPixels y0 y1 j.xl j.xr step).map fun x => let (e, d) := pixelAt m j.frame x.1 x.2; snapCode e d))

/-- Table 6-4: the snapshot of a judged frame, where snapshots are on and the model valid (R177). -/
def State.snapshot (s : State) (p : PortalIx) (j : Judged) : Option (List Byte) :=
  let r := (s.krf p).reg
  match (s.krf p).inForce with
  | none => none
  | some m =>
    if (s.krf p).cfgNow.snap && r.stat.model == .valid then
      let y0 := r.zone.zy0.toNat
      let y1 := r.zone.zy1.toNat
      let d1 := snapData m j y0 y1 1
      let d2 := snapData m j y0 y1 2
      let (sub, d) := if d1.length ≤ 60000 then (0, d1) else if d2.length ≤ 60000 then (1, d2) else (2, snapData m j y0 y1 4)
      some (leBytes 1 p.val ++ leBytes 1 j.verd.code.toNat ++ leBytes 1 (sub + if r.stat.lockocc then 4 else 0) ++ [0]
        ++ leBytes 4 j.frame.fcnt.toNat ++ leBytes 8 j.frame.fend ++ leBytes 2 j.frame.g ++ leBytes 2 j.xl ++ leBytes 2 j.xr
        ++ leBytes 2 y0 ++ leBytes 2 y1 ++ leBytes 2 d.length ++ leBytes 4 0 ++ d)
    else none

/-! ### The model (R173) -/

/-- The digest of a model: a CRC-32C over a form whose layout the spec does not give (log 9). -/
def KModel.digest (m : KModel) : Word :=
  Config.modelDigest (m.px.map fun e => match e with | some (d, t) => 65536 * t + d + 1 | none => 0)
    [m.head.toNat, m.zone.toNat, m.mline.toNat, m.kpx.toNat, m.slab.toNat]

/-- R173: KRF.STAT.MODEL from the copies, the present head identity and the parameters (DEDUCED, log 49). -/
def State.modelCheck (s : State) (p : PortalIx) : State :=
  s.modKerf p fun k =>
    let m := if k.copyBad || k.dropped then none else k.inForce
    let k := k.modStat fun t => { t with model := if k.copyBad then .crcFailed else if m.isSome then .valid else .absent }
    { k with reg := { k.reg with mdig := match m with | some m => m.digest | none => 0 } }

/-- R175: a change of the geometry leaves the portal without a valid model until a relearn. -/
def State.modelDrop (s : State) (p : PortalIx) : State :=
  (s.modKerf p fun k => { k with dropped := true }).modelCheck p

/-- The idle window has closed: learning portals abandon their frames (R174). -/
def State.learnAbandon (s : State) : State :=
  s.forAll allPortals fun s p =>
    if (s.krf p).reg.stat.lrn == .running then
      s.modKerf p fun k => { k with learn := [] }.modStat fun t => { t with lrn := .deferred }
    else s

/-- R172: the override's train line changes. A rising edge while the override can act is counted and recorded. -/
def State.overrideLine (s : State) (p : PortalIx) (level : Bool) : State :=
  let k := s.krf p
  if k.ovrLine = level then s else
  let can := level && k.cfgNow.ovren && !k.reg.stat.ovrstuck
  let s := s.modKerf p fun k => { k with ovrLine := level, ovrAt := s.mono }
  let s := if can then
      let s := s.modKerf p fun k =>
        let k := k.modEvt fun e => { e with ovrused := true }
        { k with reg := { k.reg with blindn := { k.reg.blindn with ovrn := satInc k.reg.blindn.ovrn } } }
      let snap := match k.last with
        | some j => if k.reg.stat.verd = .occupied ∨ k.reg.stat.lockocc then s.snapshot p j else none
        | none => none
      s.event 0x33 p.val 0 k.cfgNow.ovrtl.toNat snap
    else s
  s.kcondEval p

/-- An accepted edge of train line `n` reaches every portal whose override it serves (R172). -/
def State.overrideEdge (s : State) (n : Nat) (level : Bool) : State :=
  s.forAll allPortals fun s p =>
    if (s.krf p).cfgNow.ovrtl.toNat == n then s.overrideLine p level else s

end Sys2Proof.Machine
end

