-- ==== Sys2Proof/Machine/Planner.lean ====
section
/-! DEFINITION. The planner of the motion generator (R69, R74 to R76, R81, R87): limits in the planner's units, and the velocity and
acceleration of the next planning period. The plan is the fastest that keeps within AMAX, JMAX and the speed limit, as Table 3-1 computes
one (DEDUCED, log 6). Speeds are in 2^-64 count per update, an acceleration is the change of speed in one planning period, and a way is
the sum of the speeds of the periods that cover it. Every function takes the speed along the direction of motion, so that it is not negative. -/

namespace Sys2Proof.Machine

/-- A speed in units of 64 counts/s as 2^-64 count per update. -/
def speedX (v : Nat) : Int := (v * 64 * 2 ^ 64 / 6250000 : Nat)

/-- An acceleration in units of 1,024 counts/s² as velocity change per planning period. -/
def accelX (a : Nat) : Int := (a * 1024 * 64 * 2 ^ 64 / 6250000 ^ 2 : Nat)

/-- A jerk in units of 1,024 counts/s³ as acceleration change per planning period. -/
def jerkX (j : Nat) : Int := (j * 1024 * 4096 * 2 ^ 64 / 6250000 ^ 3 : Nat)

/-- The velocity rounded to the register's unit (R69). -/
def roundVel (velx : Int) : Int := (velx + 2147483648) / 4294967296

/-- What one plan has to keep to: the acceleration limit of the direction of motion and the jerk limit (R74). -/
structure Limits where
  amax : Int
  jmax : Int
  deriving DecidableEq, Repr

/-- The least value above `lo` and up to `hi` that is `ok`, which holds of `hi` and of everything between. -/
def leastAbove (ok : Int → Bool) : Nat → Int → Int → Int
  | 0, _, hi => hi
  | n + 1, lo, hi =>
    if hi - lo ≤ 1 then hi
    else if ok ((lo + hi) / 2) then leastAbove ok n lo ((lo + hi) / 2) else leastAbove ok n ((lo + hi) / 2) hi

/-- The least value from `lo` to `hi` that is `ok`; `hi` where none below it is. -/
def least (ok : Int → Bool) (lo hi : Int) : Int := if ok lo then lo else leastAbove ok 64 lo hi

/-- The greatest value from `lo` to `hi` that is `ok`, which holds of everything below it; `lo` where none above it is. -/
def greatest (ok : Int → Bool) (lo hi : Int) : Int := if ok hi then hi else leastAbove (fun x => !ok x) 64 lo hi - 1

/-- The lowest and highest acceleration of the next period: a change of at most JMAX, and within AMAX or on the way back into it. -/
def Limits.low (l : Limits) (a : Int) : Int := max (a - l.jmax) (min (-l.amax) (a + l.jmax))
@[inherit_doc Limits.low] def Limits.high (l : Limits) (a : Int) : Int := min (a + l.jmax) (max l.amax (a - l.jmax))

/-- The change of speed that still comes while an acceleration `q` is taken back at the jerk limit. -/
def Limits.release (l : Limits) (q : Int) : Int :=
  if q ≤ 0 ∨ l.jmax ≤ 0 then 0 else let k := q / l.jmax; k * q - l.jmax * (k * (k + 1) / 2)

/-- The way from speed `v` and acceleration `a` to standstill under smooth time: the acceleration is taken back, the deceleration rises to
its peak `p`, holds and is taken back, each at the jerk limit. -/
def Limits.smoothStop (l : Limits) (v a : Int) : Int :=
  let j := l.jmax
  let v0 := if 0 < a then v + a * a / (2 * j) else v
  let q := if 0 < a then 0 else -a
  let x0 := if 0 < a then v * a / j + a * a * a / (3 * j * j) else 0
  let p := max q (greatest (fun p => decide (2 * p * p ≤ 2 * j * v0 + q * q)) 0 l.amax)
  let d := p - q
  let v1 := v0 - (p * p - q * q) / (2 * j)
  let v2 := p * p / (2 * j)
  x0 + (v0 * d / j - q * d * d / (2 * j * j) - d * d * d / (6 * j * j))
    + (if p ≤ 0 then 0 else max 0 ((v1 * v1 - v2 * v2) / (2 * p))) + p * p * p / (6 * j * j)

/-- The way to standstill in whole planning periods: that under smooth time, less what a sum over periods counts double. -/
def Limits.stopWay (l : Limits) (v a : Int) : Int := max 0 (l.smoothStop (max 0 (v - a / 2)) a - v + a / 6)

/-- The acceleration that brings the speed down to `w` soonest, and meets it with no acceleration. -/
def Limits.slowTo (l : Limits) (w v a : Int) : Int :=
  least (fun x => decide (w + l.release (-x) ≤ v + x)) (l.low a) (l.high a)

/-- The acceleration that brings the speed to the limit `w` soonest: up to it, or down to it where the limit has fallen below the
speed (R76). -/
def Limits.runTo (l : Limits) (w v a : Int) : Int :=
  let ok := fun x : Int => decide (v + x + l.release x ≤ w)
  if ok (l.low a) then greatest ok (l.low a) (l.high a) else if 0 ≤ l.low a then l.low a else l.slowTo w v a

/-- The greatest acceleration after which the axis can still stop within the way `d`; none where it cannot. -/
def Limits.within (l : Limits) (d v a : Int) : Option Int :=
  let ok := fun x : Int => decide (0 ≤ v + x ∧ v + x + l.stopWay (v + x) x ≤ d)
  let lo := max (l.low a) (-v)
  if lo ≤ l.high a ∧ ok lo then some (greatest ok lo (l.high a)) else none

/-- The acceleration of the next period of a run over the way `d` (none: without an end) at the speed limit `w`: as fast as the limits
allow; where the way no longer suffices to stop, a stop, from which the axis reverses (R75). It never passes zero speed. -/
def Limits.run (l : Limits) (w : Int) (d : Option Int) (v a : Int) : Int :=
  let stop := l.slowTo 0 v a
  match d with
  | none => max stop (l.runTo w v a)
  | some d =>
    match l.within d v a with
    | some x => max stop (min (l.runTo w v a) x)
    | none => stop

/-- The unit of velocity, to which R69 rounds. -/
def velGrain : Int := 4294967296

/-- R74, R75: the way left lies ahead and is so short that this planning period ends the movement: it covers the way, and the changes of
speed that this and the standstill after it make stay within the acceleration and jerk limits, but for the rounding of R69. -/
def Limits.landing (l : Limits) (w d v a : Int) : Bool :=
  decide (0 ≤ d ∧ d ≤ max w v ∧ d ≤ min l.amax l.jmax + velGrain ∧ (d - v).natAbs ≤ l.amax + velGrain
    ∧ (2 * d - v).natAbs ≤ l.jmax + velGrain ∧ (d - v - a).natAbs ≤ l.jmax + velGrain)

/-- What the planner sets for the next 64 updates: velocity, acceleration, and whether the plan lands. -/
structure Plan where
  velx  : Int
  accel : Int
  land  : Bool
  deriving DecidableEq, Repr

/-- What a movement is to do: run to a way left of it, crawl without an end, or come to standstill. -/
inductive Course where
  | reach (way : Int)
  | crawl
  | halt
  deriving DecidableEq, Repr

/-- One planning period from velocity `velx` and acceleration `accel`, in direction `neg`, at the speed limit `w`. A standstill with an
acceleration left takes one period to lose it: a reversal passes zero velocity with zero acceleration (R75). -/
def planStep (l : Limits) (w : Int) (c : Course) (neg : Bool) (velx accel : Int) : Plan :=
  let f := fun x : Int => if neg then -x else x
  let v := f velx
  let a := f accel
  let go := fun x : Int => ({ velx := f (v + x), accel := f x, land := false } : Plan)
  if v = 0 ∧ a ≠ 0 then { velx := 0, accel := 0, land := false }
  else match c with
  | .reach d => if l.landing w (f d) v a then { velx := d, accel := d - velx, land := true } else go (l.run w (some (f d)) v a)
  | .crawl => go (l.run w none v a)
  | .halt => if v = 0 then { velx := 0, accel := 0, land := true } else go (l.slowTo 0 v a)

end Sys2Proof.Machine
end

