-- ==== Sys2Proof/Machine/MotionOps.lean ====
section
/-! DEFINITION. Motion generator and portal operations: fitted units, the portal gap, stops and bridges, the refusal of targets,
starts and felling order, the planner, blaze entries and gap events (chapters 2 and 3). -/

namespace Sys2Proof.Machine

/-- The side drive enable of the axis's portal is on. -/
def State.sdeOn (s : State) (p : PortalIx) : Bool := s.sde[(s.portal p).side.val]

/-! ### Positions -/

/-- The set-point: integer part of the accumulator (R68). -/
def Axis.setp (x : Axis) : Int := x.acc / 4294967296

/-- The set-point fraction, units of 2^-32 count. -/
def Axis.frac (x : Axis) : Int := x.acc % 4294967296

/-- The set-point placed at a position, fraction zero. -/
def Axis.place (x : Axis) (n : Int) : Axis := { x with acc := n * 4294967296 }

/-- The axis has a feedback source: FBK.CFG.SRC is not 0b00 (R105). -/
def Axis.hasFb (x : Axis) : Bool := x.fb.cfg.src != 0

/-- AXC.FERR: set-point minus position, held within ±(2^31 − 1); 0 without a feedback source (R86, R91). -/
def Axis.ferr (x : Axis) : Int := if x.hasFb then clampInt (-posMax) posMax (x.setp - x.pos) else 0

/-- Travel in nm of a sliding leaf at a position (R47, R72). -/
def slideTravel (scale : Nat) (pos : Int) : Int := if scale = 0 then 0 else pos * 1000000000 / scale

/-- Point `i` of a plug leaf's travel table: its axis position and its travel in nm. -/
def plugPoint (span : Int) (t : Vector PrtPtrava 16) (i : Nat) : Int × Int :=
  let e := vget t (i / 2) {}
  (Int.tdiv ((i : Int) * span) 31, ((if i % 2 = 0 then e.t0 else e.t1).toNat : Int) * 100000)

/-- Linear interpolation over the points from `i` on, `n` intervals left (R47). -/
def plugWalk (span : Int) (t : Vector PrtPtrava 16) (pos : Int) : Nat → Nat → Int
  | i, 0 => (plugPoint span t i).2
  | i, n + 1 =>
    let a := plugPoint span t i
    let b := plugPoint span t (i + 1)
    if pos ≤ a.1 then a.2
    else if pos < b.1 then a.2 + (b.2 - a.2) * (pos - a.1) / (b.1 - a.1)
    else plugWalk span t pos (i + 1) n

/-- Travel of a leaf from its closed end, nm (R47). -/
def State.travel (s : State) (a : AxisIx) : Int :=
  let p := s.portal (portalOf a)
  let x := s.axis a
  if p.plug then
    let t := if (slotOf a).val = 0 then p.reg.ptrava else p.reg.ptravb.map fun e => { t0 := e.t0, t1 := e.t1 }
    if x.pos ≤ 0 then (plugPoint p.reg.ptspan.toInt t 0).2 else plugWalk p.reg.ptspan.toInt t x.pos 0 31
  else slideTravel x.reg.scale.toNat x.pos

/-- The portal gap from the leaves' present positions, nm (R47). -/
def State.gapNow (s : State) (p : PortalIx) : Int := ((s.leaves p).map s.travel).sum

/-- PRT.GAP.G: units of 0.1 mm, 0 to 0xFFFF (DEDUCED, log 44). -/
def gapUnits (g : Int) : BitVec 16 := if g < 0 then 0 else satNat 16 (g / 100000).toNat

/-- A length in mm as nm. -/
def mm (n : Nat) : Int := (n : Int) * 1000000

/-- G is at or below EDGEMASK: edges masked, SEALF applies (R50, Table 2-1). -/
def Portal.masked (p : Portal) : Bool := decide (p.g ≤ mm p.reg.gapev.edgemask.toNat)

/-- HOME: every fitted axis at its closed end within HOMETOL and TRUSTED. -/
def State.homeNow (s : State) (p : PortalIx) : Bool :=
  (s.portal p).fitted && (s.axesOf p).all fun a =>
    let x := s.axis a
    x.reg.state.trust == .trusted && decide (x.pos.natAbs ≤ x.reg.tol.hometol.toNat)

/-- The axis is under a plan. -/
def Axis.underPlan (x : Axis) : Bool :=
  x.reg.state.state == .moving || x.reg.state.state == .halting || x.reg.state.state == .referencing

/-- Some axis moves: a plan runs and has not ended. -/
def State.anyMoving (s : State) : Bool := allAxes.any fun a => (s.axis a).underPlan

/-- R45: the idle window is open. -/
def State.idleWindow (s : State) : Bool :=
  (allPortals.all fun p => !(s.portal p).fitted || (s.portal p).cl) && !s.anyMoving

/-- PRT.STAT.MOVEINH: EEH, ISO, module STOP or the hold-off after EEH (R62). -/
def State.moveInh (s : State) (p : PortalIx) : Bool :=
  let q := s.portal p
  q.eeh || q.iso || s.eng.sys.mode.mode == .stop || q.eehOff.isSome

/-! ### Axis registers -/

/-- The axis's state of Table 3-3. -/
def Axis.st (x : Axis) : AxState := x.reg.state.state

/-- Another state of Table 3-3. -/
def Axis.setSt (x : Axis) (t : AxState) : Axis := { x with reg := { x.reg with state := { x.reg.state with state := t } } }

/-- Another trust of Table 3-5. -/
def Axis.setTrust (x : Axis) (t : Trust) : Axis := { x with reg := { x.reg with state := { x.reg.state with trust := t } } }

/-- AXC.STATE.CAUSE, Table 3-2. -/
def Axis.setCause (x : Axis) (c : BitVec 4) : Axis := { x with reg := { x.reg with state := { x.reg.state with cause := c } } }

/-- The number of the axis's first update from `t` on (R67). -/
def updateOf (a : AxisIx) (t : Nat) : Nat := (t + 63 - a.val) / 64

/-- R78: a cause acts in update `u`: of several in one update the lowest code shows. -/
def Axis.act (x : Axis) (c : BitVec 4) (u : Nat) : Axis :=
  let old := x.reg.state.cause
  { x.setCause (if x.causeAt = u ∧ old ≠ 0 ∧ old < c then old else c) with causeAt := u }

/-- AXC.STATE.ATTGT. -/
def Axis.setAttgt (x : Axis) (b : Bool) : Axis := { x with reg := { x.reg with state := { x.reg.state with attgt := b } } }

/-- AXC.FLT changed. -/
def Axis.modFlt (x : Axis) (f : AxcFlt → AxcFlt) : Axis := { x with reg := { x.reg with flt := f x.reg.flt } }

/-- A blocking fault bit, AXC.FLT[4:0], is set. -/
def AxcFlt.blocking (f : AxcFlt) : Bool := f.ferr || f.fbflt || f.sat || f.envcut || f.reffail

/-- No velocity, no acceleration, no plan. -/
def Axis.freeze (x : Axis) : Axis :=
  { x with vel := 0, velx := 0, accel := 0, landing := false, landed := false, inposAt := none, haltRef := false, refOver := none
           fmap := [], fmapBad := false }

/-- R142: the integral terms are set to 0. -/
def Axis.zeroInt (x : Axis) : Axis := { x with intC := 0, intD := 0, intS := 0, intP := 0 }

/-- A waiting start is withdrawn: the target in force is again the one before it, and the axis stands at it as it did (R82, R83). -/
def Axis.withdraw (x : Axis) : Axis :=
  if x.st = .warnhold ∨ x.st = .queued then
    ({ x with landed := x.prevAt.1, toClose := x.prevClose, reg := { x.reg with tgtf := x.prevTgtf } }.setAttgt x.prevAt.2).setSt x.prevSt
  else x

/-- R155: a stop of update `u` comes in the loop step of the envelope cut that took the bridges off. -/
def Axis.stopInCut (x : Axis) (cause : BitVec 4) (u : Nat) : Bool :=
  x.reg.state.cause == 6 && decide (u ≤ x.cutTo) && [1, 2, 3, 5].contains cause

/-- R77, R78: a stop in update `u`. A DISABLED axis has nothing to stop; where its bridges went off in this update, the lowest cause shows,
and where an envelope cut took them off in this loop step, the stop's (R155). -/
def Axis.stop (x : Axis) (cause : BitVec 4) (u : Nat) : Axis :=
  if x.st = .disabled then (if x.causeAt = u then x.act cause u else if x.stopInCut cause u then x.setCause cause else x) else ((x.withdraw.freeze.setSt .stopped).act cause u).setAttgt false

/-- R79: the bridges are off from update `u`; the set-point follows the position, and the axis is DISABLED. A calibration that runs loses its
low side and runs to its end all the same (DESIGN CHOICE, log 133). -/
def Axis.bridgesOff (x : Axis) (cause : BitVec 4) (u : Nat) : Axis :=
  let y := if x.st = .disabled then x else (x.withdraw.freeze.setAttgt false).act cause u
  ({ y.zeroInt with bridges := false, lowSide := false, duty := (0, 0), dutyNext := (0, 0) }.setSt .disabled).place (if y.hasFb then y.pos else y.setp)

/-- R79: every cause has ended; the axis holds its actual position in IDLE. -/
def Axis.bridgesOn (x : Axis) : Axis :=
  if x.st = .disabled then ({ x with bridges := true }.setSt .idle).place (if x.hasFb then x.pos else x.setp) else x

/-- Table 3-2: the causes that keep the axis's bridges off, lowest code first. -/
def State.offCauses (s : State) (a : AxisIx) : List (BitVec 4) :=
  let x := s.axis a
  let p := s.portal (portalOf a)
  let on := fun (b : Bool) (c : BitVec 4) => if b then [c] else []
  on (p.eeh && s.sdeOn (portalOf a)) 4 ++ on (x.reg.flt.fbflt || x.reg.flt.envcut || x.i2hold || x.fbHold || x.envHold) 6 ++ on x.stopOff 7 ++ on p.iso 8
    ++ on (!s.sdeOn (portalOf a)) 9 ++ on x.disable 10 ++ on (!s.fitted a) 11
    ++ on (x.reg.mot.kind != 0 && (!x.reg.cal.ofsok || x.startCal)) 12

/-- The lowest of them; none if the bridges may be on. -/
def State.offCause (s : State) (a : AxisIx) : Option (BitVec 4) := (s.offCauses a).head?

/-- A DISABLED axis whose shown cause took its bridges off and has ended shows the lowest that still holds them (DESIGN CHOICE, log 77). -/
def Axis.offShow (x : Axis) (cs : List (BitVec 4)) : Axis :=
  let old := x.reg.state.cause
  if [1, 2, 3, 5].contains old || cs.contains old then x else x.setCause (cs.headD 0)

/-- The bridges of an axis brought in line with the causes of Table 3-2. -/
def State.bridgeEval (s : State) (a : AxisIx) : State :=
  match s.offCause a with
  | some c =>
    if (s.axis a).st = .disabled then s.modAxis a fun x => (x.offShow (s.offCauses a)).stop c (updateOf a s.mono)
    else s.modAxis a fun x => (x.stop c (updateOf a s.mono)).bridgesOff c (updateOf a s.mono)
  | none => s.modAxis a Axis.bridgesOn

/-- The bridges of every axis of a portal, brought in line. -/
def State.bridgeEvalPortal (s : State) (p : PortalIx) : State :=
  s.forAll [axisOf p 0, axisOf p 1, axisOf p 2, axisOf p 3] State.bridgeEval

/-- A leaf's movement ends: its MTO bound ends and standstill counts from now (R56, R57). -/
def State.leafStill (s : State) (a : AxisIx) : State :=
  s.modPortal (portalOf a) fun q =>
    if (vget q.mtoAt (slotOf a).val none).isSome then { q with mtoAt := vmod q.mtoAt (slotOf a).val fun _ => none, stillAt := s.mono } else q

/-- The movement of a leaf whose plan runs no longer has ended. -/
def State.leafEnd (s : State) (a : AxisIx) : State := if (s.axis a).underPlan then s else s.leafStill a

/-- The movements of a portal's leaves that have ended (R56, R57). -/
def State.movementEnd (s : State) (p : PortalIx) : State := (s.leafEnd (axisOf p 0)).leafEnd (axisOf p 1)

/-- R77: an axis stops, and with it the movement it belongs to. -/
def State.stopAxis (s : State) (a : AxisIx) (cause : BitVec 4) : State :=
  (s.modAxis a fun x => x.stop cause (updateOf a s.mono)).movementEnd (portalOf a)

/-- The leaves of a portal stop (R53). -/
def State.stopLeaves (s : State) (p : PortalIx) (cause : BitVec 4) : State :=
  s.forAll (s.leaves p) fun s a => s.stopAxis a cause

/-! ### Retries and obstacle latches (R54, R58) -/

/-- R58: GIVEUP sets when RETRY reaches MAXRETRY + 1 (DEDUCED, log 43). -/
def Portal.countRetry (p : Portal) : Portal :=
  if p.mov = some .closing && !p.counted then
    let r := satInc p.retry
    { p with counted := true, retry := r,
             reg := { p.reg with reopens := satInc p.reg.reopens,
                                 obs := if p.reg.seq.maxretry.toNat + 1 ≤ r.toNat then { p.reg.obs with giveup := true } else p.reg.obs } }
  else p

/-- A latch of PRT.OBS that refuses G-reducing leaf targets (R54). -/
def PrtObs.refusing (o : PrtObs) : Bool := o.fa || o.fb || o.ea || o.eb || o.ko || o.trap || o.mto || o.lto || o.giveup

/-- The door cycle in progress takes the latches into its record (Table 16-4). -/
def Portal.noteObs (p : Portal) : Portal :=
  { p with cycle := p.cycle.map fun c => { c with obs := c.obs ||| (p.reg.obs.toWord.setWidth 12) } }

/-- End codes of Table 16-4. -/
inductive CycleEnd where
  | cl | giveup | eeh | iso
  deriving DecidableEq, Repr

/-- The code of Table 16-4. -/
def CycleEnd.code : CycleEnd → Nat
  | .cl => 1 | .giveup => 2 | .eeh => 3 | .iso => 4

/-- Table 16-4: the payload of a door-cycle record. -/
def doorPayload (p : PortalIx) (q : Portal) (c : DoorCycle) (e : CycleEnd) (retry : BitVec 4) (cycles now : Nat) : List Byte :=
  let sat16 := fun n : Nat => leBytes 2 (min n 0xFFFF)
  leBytes 1 p.val ++ leBytes 1 (e.code + if c.trunc then 128 else 0) ++ leBytes 1 retry.toNat
    ++ leBytes 1 q.side.val ++ leBytes 8 c.start ++ leBytes 4 (min ((now - c.start) / 400000) 0xFFFFFFFF)
    ++ sat16 c.gmax ++ leBytes 2 c.obs.toNat ++ (c.fcpk.toList.map sat16).flatten ++ (c.fopk.toList.map sat16).flatten
    ++ sat16 c.kocc ++ sat16 c.kblind ++ leBytes 4 cycles ++ leBytes 1 c.trail.length ++ leBytes 3 0
    ++ (c.trail.map fun w => leBytes 4 w.toNat).flatten

/-- R64: the door cycle in progress ends; its record is written and PRT.CYCLES increases. -/
def State.cycleEnd (s : State) (p : PortalIx) (e : CycleEnd) (retry : BitVec 4) : State :=
  let q := s.portal p
  match q.cycle with
  | none => s
  | some c =>
    let n := satInc q.reg.cycles
    (s.modPortal p fun q => { q with cycle := none, reg := { q.reg with cycles := n } }).record 1
      (doorPayload p q c e retry n.toNat s.mono)

/-- R64: a door cycle begins, unless one is in progress. -/
def State.cycleStart (s : State) (p : PortalIx) : State :=
  s.modPortal p fun q => if q.cycle.isSome then q else { q with cycle := some { start := s.mono, gmax := (gapUnits q.g).toNat, obs := q.reg.obs.toWord.setWidth 12 } }

/-- A change of PRT.PHASE or CAUSE enters the trail, its first 32 changes (R65, R399). -/
def Portal.notePhase (q : Portal) (now : Nat) : Portal :=
  { q with cycle := q.cycle.map fun c =>
      if c.trail.length < 32 then
        { c with trail := c.trail ++ [q.reg.phase.toWord ||| (BitVec.ofNat 32 (min ((now - c.start) / 400000) 0xFFFFFF) <<< 8)] }
      else { c with trunc := true } }

/-- A latch of PRT.OBS sets: it is counted (R58) and noted, and a GIVEUP ends the door cycle (R64). -/
def State.latchObs (s : State) (p : PortalIx) (set : PrtObs → PrtObs) (counts : Bool) : State :=
  let before := (s.portal p).reg.obs.giveup
  let s := s.modPortal p fun q =>
    let q := { q with trapped := q.trapped || (set {}).trap, reg := { q.reg with obs := set q.reg.obs } }
    (if counts then q.countRetry else q).noteObs
  let s := s.forAll [axisOf p 0, axisOf p 1, axisOf p 2, axisOf p 3] fun s a => s.modAxis a fun x => { x with fmap := [], fmapBad := true }   -- R148
  let q := s.portal p
  if q.reg.obs.giveup && !before then s.cycleEnd p .giveup q.retry else s

/-! ### Felling order (R99 to R102) -/

/-- The prediction of an admitted axis, units of 0.1 A (R100). -/
def State.prediction (s : State) (a : AxisIx) : Nat :=
  let x := s.axis a
  if x.underPlan then
    if s.since x.admitAt < ms (5 * x.reg.fel.tpk.toNat) then x.reg.fel.ipk.toNat else x.reg.fel.irun.toNat
  else 0

/-- The load L (R100). -/
def State.load (s : State) : Nat := max ((allAxes.map s.prediction).sum) s.fel.meas.imeas.toNat

/-- The effective budget (R100), rounded down to 0.1 A (DESIGN CHOICE, log 107). -/
def State.beff (s : State) : Nat :=
  let k := s.fel.derate.vknee.toNat
  let m := s.fel.derate.vmin.toNat
  let b := s.fel.budget.toNat
  let v := s.fel.meas.vbus.toNat
  if k = 0 then b else if k ≤ m then (if k ≤ v then b else 0) else b * (min (v - m) (k - m)) / (k - m)

/-- FEL.PRIO of a portal. -/
def State.felPrio (s : State) (p : PortalIx) : Nat :=
  if p.val < 8 then ((getF s.fel.prio0 (4 * p.val) 4)).toNat else ((getF s.fel.prio1 (4 * (p.val - 8)) 4)).toNat

/-- The axes that wait in one start with `a`: the queued leaves of its portal, or the axis alone (R59, R324). -/
def State.startOf (s : State) (a : AxisIx) : List AxisIx :=
  if s.isLeaf a then (s.leaves (portalOf a)).filter fun b => (s.axis b).st == .queued else [a]

/-- The queued starts, each named by its lowest axis. -/
def State.queuedStarts (s : State) : List AxisIx :=
  allAxes.filter fun a => (s.axis a).st == .queued && ((s.startOf a).head? == some a)

/-- Queue order (R101): priority, portal, arrival, slot. -/
def State.before (s : State) (a b : AxisIx) : Bool :=
  let k := fun a : AxisIx => (s.felPrio (portalOf a), (portalOf a).val, (s.axis a).arrive, (slotOf a).val)
  let x := k a; let y := k b
  x.1 < y.1 || (x.1 == y.1 && (x.2.1 < y.2.1 || (x.2.1 == y.2.1 && (x.2.2.1 < y.2.2.1 || (x.2.2.1 == y.2.2.1 && x.2.2.2 ≤ y.2.2.2)))))

/-- The head of the queue. -/
def State.queueHead (s : State) : Option AxisIx :=
  s.queuedStarts.find? fun a => s.queuedStarts.all fun b => s.before a b

/-- The present movement's direction against the set-point: below it closes, above it opens (R54). -/
def Axis.dirTo (x : Axis) (t : Int) : Option Dir := if t < x.setp then some .closing else if x.setp < t then some .opening else none

/-- A leaf movement begins: its MTO bound starts, and its direction tells a new closing movement from a resumed one (R57, R58). Of two
leaves sent in opposite directions the one sent last gives the portal's movement its direction (DESIGN CHOICE, log 78). The first closing
of a portal with CL = 0 begins a cycle also where none has ended since the start (DESIGN CHOICE, log 128). -/
def State.moveBegin (s : State) (a : AxisIx) (d : Option Dir) : State :=
  if s.isLeaf a then
    let q := s.portal (portalOf a)
    let s := if d = some .closing && !q.cl && !q.iso then s.cycleStart (portalOf a) else s   -- R64: after an ended cycle
    s.modPortal (portalOf a) fun q =>
      let m := if d.isSome then d else q.mov
      { q with mtoAt := vmod q.mtoAt (slotOf a).val fun _ => some s.mono, ltoAt := none, mov := m, ended := false, counted := q.counted && (q.mov == some .closing) }
  else s

/-- FI `k` of a portal reads on (R2, R244). -/
def State.inputOn (s : State) (p : PortalIx) (k : Nat) : Bool := s.fio.lvl.getLsbD (8 * p.val + k)

/-- The sensitive edge of leaf A (`k` = 6) or B (7) is active: its input reads open (R51). One that is not wired is none: its status bit
reads 0, from the switch of EDGEFIT on (DESIGN CHOICE, log 130). -/
def State.edgeActive (s : State) (p : PortalIx) (k : Nat) : Bool := (s.portal p).reg.cfg.edgefit && !s.inputOn p k

/-- An edge obstacle latches and stops the leaves (R51, R53). -/
def State.edgeLatch (s : State) (p : PortalIx) (b : Bool) : State :=
  (s.latchObs p (fun o => if b then { o with eb := true } else { o with ea := true }) true).stopLeaves p 2

/-- An edge that is active when a closing movement begins sets its latch at once (R51). -/
def State.edgeAtStart (s : State) (p : PortalIx) : State :=
  let q := s.portal p
  if q.mov = some .closing && !q.masked then
    let s := if s.edgeActive p 6 then s.edgeLatch p false else s
    if q.twoLeaf && s.edgeActive p 7 then s.edgeLatch p true else s
  else s

/-- R154: a calibration that waited for the idle window is abandoned when the window closes; the start-up calibration waited for none and runs
to its end (R459; DEDUCED, log 38). -/
def Axis.calAbandon (x : Axis) : Axis :=
  if x.reg.cal.status = .running ∧ x.reg.cal.ofsok ∧ !x.startCal then
    { x.zeroInt with calAt := none, lowSide := false, reg := { x.reg with cal := { x.reg.cal with status := .deferred } } }
  else x

/-- A start-up calibration has not ended (R459). -/
def State.startCals (s : State) : Bool := allAxes.any fun a => (s.axis a).startCal

/-- R154: calibrations of every axis abandoned. -/
def State.calAbandon (s : State) : State := { s with axes := s.axes.map Axis.calAbandon }

/-- The idle window closes: tests and learning that need it are abandoned (R174, R228). -/
def State.idleClose (s : State) : State := s.oltAbandon.learnAbandon.calAbandon

/-- A start is admitted (R101): the plan begins from standstill, and an idle window closes (R228). -/
def State.admitStart (s : State) (a : AxisIx) : State :=
  let s := s.idleClose
  let x := s.axis a
  let s := s.modAxis a fun x =>
    let y := { x.freeze with admitAt := s.mono, refAt := x.pos }
    if x.kind = .reref then y.setSt .referencing else y.setSt .moving
  let d := if x.kind = .reref then some .closing else x.dirTo x.reg.tgtf.toInt
  let s := s.moveBegin a d
  let g := (s.portal (portalOf a)).g
  if s.isLeaf a && d == some .closing && decide (g ≤ mm 400) then s.kerfOpen (portalOf a) g else s   -- R160

/-- R437, R439, Table 20-9: LOWMOT, an overvoltage or reversal of MBUS, or MBUS not yet charged, bars every axis start. -/
def State.startsBarred (s : State) : Bool :=
  s.pwr.reg.ctl.lowmot || s.pwr.reg.mbus.ov || s.pwr.reg.mbus.rev || decide (s.mono < s.pwr.chargeEnd)

/-- Admission of queue heads while they fit, at most `n` of them, from a load `l` that rises by each admitted IPK (R101); answers the load. -/
def State.admitAll (s : State) (l : Nat) : Nat → State × Nat
  | 0 => (s, l)
  | n + 1 =>
    match s.queueHead with
    | none => (s, l)
    | some a =>
      let g := s.startOf a
      let l' := l + (g.map fun b => (s.axis b).reg.fel.ipk.toNat).sum
      if !s.startsBarred ∧ s.beff ≠ 0 ∧ l' ≤ s.beff then
        let s := s.forAll g State.admitStart
        (if s.isLeaf a then s.edgeAtStart (portalOf a) else s).admitAll l' n
      else (s, l)

/-- FEL.LOAD shows L and beff of the evaluation. -/
def State.showLoad (s : State) (l : Nat) : State :=
  { s with fel := { s.fel with load := { load := satNat 12 l, beff := satNat 12 s.beff } } }

/-- A start refused by the bound returns the axis to the state and target before it (R102). -/
def Axis.starve (x : Axis) : Axis :=
  let y := x.withdraw.modFlt fun f => { f with starve := true, refused := true }
  { y with reg := { y.reg with refuse := 6 } }

/-- R102: every start that has waited longer than FEL.BOUND is refused. -/
def State.starveAll (s : State) : State :=
  s.forAll s.queuedStarts fun s a =>
    let w := s.since (s.axis a).arrive
    if ms s.fel.bound.toNat < w then
      let g := s.startOf a
      let s := s.forAll g fun s b => s.modAxis b Axis.starve
      ({ s with fel := { s.fel with starved := satInc s.fel.starved } }).event 0x20 a.val 0 (w / 400000)
    else s

/-- One evaluation of the queue: admission first, then the bound (R101 to R103). -/
def State.felling (s : State) : State :=
  let r := s.admitAll s.load 64
  (r.1.showLoad r.2).starveAll

/-! ### Blaze entries (R93 to R98) -/

/-- A blaze entry, Table 3-6. -/
structure Blaze where
  pos    : Int
  en     : Bool
  dir    : BitVec 2
  once   : Bool
  hyst   : Nat
  action : Nat
  arg    : Word
  callid : BitVec 16
  call   : Bool
  prio   : BitVec 2
  slot   : Fin 4
  deriving DecidableEq, Repr

/-- Entry `e` of a blaze table (Table 3-6). -/
def blazeAt (t : Vector Word 128) (e : Fin 32) : Blaze :=
  let w := fun i : Fin 4 => t[4 * e.val + i.val]
  { pos := (w 0).toInt, en := (w 1).getLsbD 0, dir := getF (w 1) 1 2, once := (w 1).getLsbD 3, hyst := (getF (w 1) 4 12).toNat,
    action := (getF (w 1) 16 4).toNat, arg := w 2, callid := getF (w 3) 0 16, call := (w 3).getLsbD 16,
    prio := getF (w 3) 17 2, slot := ⟨(getF (w 3) 19 2).toNat, by have := (getF (w 3) 19 2).isLt; omega⟩ }

/-- R95: the position lies on the entry's approach side, by more than `h` counts. -/
def Blaze.approach (b : Blaze) (p h : Int) : Bool :=
  if b.dir = 1 then decide (p < b.pos - h) else if b.dir = 2 then decide (b.pos + h < p)
  else if b.dir = 3 then decide (p < b.pos - h ∨ b.pos + h < p) else false

/-- R94: the entry is crossed in an enabled direction between two samples. -/
def Blaze.crossed (b : Blaze) (p0 p1 : Int) : Bool :=
  (b.dir.getLsbD 0 && decide (p0 < b.pos ∧ b.pos ≤ p1)) || (b.dir.getLsbD 1 && decide (b.pos < p0 ∧ p1 ≤ b.pos))

/-- Entry `e` armed or disarmed; re-arming removes its speed cap (R76), and with it nothing of a BLZREARM is left to do (R95). -/
def Axis.setArm (x : Axis) (e : Fin 32) (on : Bool) : Axis :=
  { x with blzPend := if on then x.blzPend &&& ~~~(1#32 <<< e.val) else x.blzPend
           reg := { x.reg with blzarmd := if on then x.reg.blzarmd ||| (1#32 <<< e.val) else x.reg.blzarmd &&& ~~~(1#32 <<< e.val) }
           vcaps := if on then x.vcaps.filter fun c => c.1 != e.val else x.vcaps }

/-- Every entry number. -/
def allEntries : List (Fin 32) := List.finRange 32

/-- R95: fired entries, and those that a COMMIT or a re-reference left disarmed (DESIGN CHOICE, log 106), re-arm once the position lies beyond
HYST; a ONCE entry only after a BLZREARM that could not re-arm it. -/
def Axis.rearm (x : Axis) : Axis :=
  allEntries.foldl (fun y e =>
    let b := blazeAt y.blz e
    if !y.reg.blzarmd.getLsbD e.val && b.en && (!b.once || y.blzPend.getLsbD e.val) && b.approach y.pos b.hyst then y.setArm e true else y) x

/-- R95: a write of AXC.BLZREARM: a ONCE entry on its approach side re-arms, a disarmed one elsewhere will by its HYST. -/
def Axis.blzRearm (x : Axis) (w : Word) : Axis :=
  allEntries.foldl (fun y e =>
    let b := blazeAt y.blz e
    if !w.getLsbD e.val || !b.once then y
    else if b.approach y.pos 0 then y.setArm e true
    else if y.reg.blzarmd.getLsbD e.val then y
    else { y with blzPend := y.blzPend ||| (1#32 <<< e.val) }) x

/-- R98: after a completed re-reference every entry but a disarmed ONCE entry takes its arm state from the position. -/
def Axis.armAll (x : Axis) : Axis :=
  allEntries.foldl (fun y e =>
    let b := blazeAt y.blz e
    if b.once && !y.reg.blzarmd.getLsbD e.val then y else y.setArm e (b.approach y.pos 0)) x

/-! ### Gap events armed (R48, R49, R98) -/

/-- Threshold of gap event `e` in nm; none where STEPGAP = 0 disables it (Table 2-1). -/
def Portal.threshold (q : Portal) (e : Fin 5) : Option Int :=
  match e with
  | 0 => some (mm 400)
  | 1 => if q.reg.gapev.stepgap = 0 then none else some (mm q.reg.gapev.stepgap.toNat)
  | 2 => some (mm q.reg.gapev.finalgap.toNat)
  | 3 => some (mm q.reg.gapev.edgemask.toNat)
  | 4 => some (mm q.reg.gapev.lockgap.toNat)

/-- The arm bit of gap event `e`. -/
def Portal.setArm (q : Portal) (e : Fin 5) (on : Bool) : Portal :=
  { q with arm := if on then q.arm ||| (1#5 <<< e.val) else q.arm &&& ~~~(1#5 <<< e.val) }

/-- Every gap event, KERF to LOCK. -/
def allGaps : List (Fin 5) := List.finRange 5

/-- The FINAL cap of the portal's leaves set or removed (R76). -/
def State.setFinal (s : State) (p : PortalIx) (on : Bool) : State :=
  s.forAll (s.leaves p) fun s a => s.modAxis a fun x => { x with finalCap := on }

/-- R98: the gap events set from G, as after a re-reference. -/
def State.armGaps (s : State) (p : PortalIx) : State :=
  let q := s.portal p
  let s := s.modPortal p fun q => allGaps.foldl (fun q e =>
    q.setArm e (match q.threshold e with | some t => decide (t + mm 2 < q.g) | none => false)) q
  if (s.portal p).arm.getLsbD 2 && !q.arm.getLsbD 2 then s.setFinal p false else s

/-! ### Standstill at the target (R57, R82, R148) -/

/-- R148: one touched cell moves one eighth of the way towards its mean, within 0 to FRMAX (units of 0.1 N, rounded down). -/
def Axis.fmapCell (x : Axis) (c : Nat) (closing : Bool) (mean : Nat) : Axis :=
  let f := fun old : BitVec 16 => BitVec.ofNat 16 (min x.reg.envk.frmax.toNat ((7 * old.toNat + mean) / 8))
  { x with reg := { x.reg with fmap := vmod x.reg.fmap c fun e => if closing then { e with close := f e.close } else { e with opn := f e.opn } } }

/-- R148: a movement that ended at its target teaches the friction map. -/
def Axis.fmapLearn (x : Axis) : Axis :=
  { x.fmap.foldl (fun y e => y.fmapCell e.1 e.2.1 (e.2.2.1 / (e.2.2.2 * 10000))) x with fmap := [] }

/-- R82: an axis stands at its target: what its movement learnt is kept, and it is IDLE there. -/
def Axis.atTarget (x : Axis) : Axis := (if x.st = .moving then x.fmapLearn.setSt .idle else x).setAttgt true

/-- R57: the movement of an axis has ended at its target; that of its portal has where no leaf is under plan. -/
def State.arrived (s : State) (a : AxisIx) : State :=
  let p := portalOf a
  let s := s.movementEnd p
  if s.isLeaf a && !(s.leaves p).any fun b => (s.axis b).underPlan then s.modPortal p fun q => { q with ended := true } else s

/-- A start comes after the plan has landed. Where the axis stands at its target in this very update, that is the end of its movement
(R57, Table 5-4); else its bound ends, and the axis waits as it was. -/
def State.standstill (s : State) (a : AxisIx) : State :=
  match (s.axis a).inposAt with
  | some t => if updateOf a (t + ms 5) ≤ updateOf a s.mono then (s.modAxis a Axis.atTarget).arrived a else s.leafStill a
  | none => s.leafStill a

/-! ### Requests: targets and re-references (R54 to R56, R80, R83) -/

/-- R56: the warning of a G-reducing leaf start from standstill has been given. -/
def State.warnMet (s : State) (p : PortalIx) : Bool :=
  let q := s.portal p
  let w := q.reg.seq.warn.toNat
  w == 0 ||
    match q.lpAt with
    | none => false
    | some t => decide (ms (10 * w) ≤ s.since (max t q.stillAt))

/-- R337: the FACTORY holding image accepts no target, and a re-reference only from a service session. -/
def State.factoryBars (s : State) (kind : StartKind) (svc : Bool) : Bool := s.eng.sys.mode.factory && !(svc && kind == .reref)

/-- Table 3-4: the first reason that refuses a request; none if it is accepted. Behind them all, what the holding image bars is refused with
a code that the table does not state: a free value (DESIGN CHOICE, log 30). -/
def State.refusal (s : State) (a : AxisIx) (kind : StartKind) (t : Int) (svc : Bool := false) : Option (BitVec 4) :=
  let x := s.axis a
  let p := portalOf a
  let q := s.portal p
  let leaf := s.isLeaf a
  let down := kind = .reref ∨ t < x.setp
  let up := kind = .target ∧ x.setp < t
  let latch := if leaf then q.reg.obs.refusing else if (slotOf a).val = 2 then q.reg.obs.fs
    else if (slotOf a).val = 3 then q.reg.obs.fx else false
  if x.st = .disabled then some 8
  else if s.eng.sys.mode.mode = .hold then some 9
  else if x.reg.flt.blocking then some 5
  else if s.moveInh p then some 3
  else if x.reg.state.trust = .untrusted ∧ kind = .target then some 4
  else if x.st = .referencing ∧ kind = .target then some 10
  else if kind = .target ∧ (t < x.reg.slmin.toInt ∨ x.reg.slmax.toInt < t) then some 7
  else if latch ∧ down then some 1
  else if leaf ∧ up ∧ (q.dcl ≠ 0 ∨ !q.zsp ∨ q.eeh ∨ q.iso) then some 2
  else if s.factoryBars kind svc then some (BitVec.ofNat 4 s.freeNat)
  else none

/-- A refused request (R83). -/
def Axis.refuse (x : Axis) (c : BitVec 4) : Axis :=
  let y := x.modFlt fun f => { f with refused := true }
  { y with reg := { y.reg with refuse := c } }

/-- The other leaf's waiting start, which a start of this leaf joins (R324). -/
def State.joinArrive (s : State) (a : AxisIx) (now : Nat) : Nat :=
  if s.isLeaf a then
    ((s.leaves (portalOf a)).filter fun b => b != a && (s.axis b).st == .queued).foldl (fun t b => min t (s.axis b).arrive) now
  else now

/-- A start from standstill enters WARNHOLD or the queue (R56, R99, R101); a queued one is evaluated on arrival, unless another start
of the same update is still to come (`more`). -/
def State.start (s : State) (a : AxisIx) (kind : StartKind) (t : Int) (more : Bool) : State :=
  let x := s.axis a
  let held := s.isLeaf a && (kind == .reref || decide (t < x.setp)) && !s.warnMet (portalOf a)
  let waiting := x.st == .warnhold || x.st == .queued
  let s' := s.modAxis a fun x =>
    let y := if waiting then x else { x with prevTgtf := x.reg.tgtf, prevSt := x.st, prevClose := x.toClose,
                                                   prevAt := (x.landed, x.reg.state.attgt) }
    let y := { y with kind := kind, toClose := kind == StartKind.reref || decide (t < x.setp), landing := false, landed := false, inposAt := none, vel := 0, velx := 0, accel := 0,
                      arrive := if x.st == AxState.queued then x.arrive else s.joinArrive a s.mono,
                      reg := { y.reg with tgtf := if kind == StartKind.target then BitVec.ofInt 32 t else y.reg.tgtf } }
    (y.setAttgt false).setSt (if held then AxState.warnhold else AxState.queued)
  if held || more then s' else s'.felling

/-- R98: a completed re-reference places the axis at REFOFS: position, set-point and target, TRUSTED, no speed cap, IDLE. It fires
nothing; every entry takes its arm state from the new position, and the portal's gap events from G. -/
def State.referenced (s : State) (a : AxisIx) : State :=
  let p := portalOf a
  let s := s.modAxis a fun y =>
    let n := y.reg.refofs.toInt
    let z := { y.withdraw.freeze.zeroInt with
      pos := n, p0 := n, idxDue := false, landed := true, vcaps := [], finalCap := false, reg := { y.reg with tgtf := y.reg.refofs } }
    (((z.place n).setTrust .trusted).setSt .idle).armAll
  let s := if s.isLeaf a && s.leavesTrusted p then
    s.modPortal p fun q => { q with g := s.gapNow p, gTrusted := true, reg := { q.reg with gap := gapUnits (s.gapNow p) } } else s
  s.armGaps p

/-- R62: the program closes the portal again: a target or re-reference of a leaf that does not open it is accepted (DEDUCED, log 80). -/
def State.closeAgain (s : State) (a : AxisIx) (opens : Bool) : State :=
  if s.isLeaf a && !opens then s.modPortal (portalOf a) fun q => { q with egress := false } else s

/-- An accepted target (R75, R80 to R83, R102). A target for an axis whose plan has landed is a start (Table 3-9), and one of the update in
which the axis stopped is not planned (R80). -/
def State.acceptTarget (s : State) (a : AxisIx) (t : Int) (more : Bool) : State :=
  let x := s.axis a
  if x.st = .stopped ∧ x.causeAt = updateOf a s.mono then s else
  let here := decide (t = x.setp)
  let set := fun x : Axis => { x with reg := { x.reg with tgtf := BitVec.ofInt 32 t } }
  let s := if s.isLeaf a then s.modPortal (portalOf a) fun q => { q with ltoAt := none } else s
  let s := s.closeAgain a (decide (x.setp < t))
  match x.st with
  | .moving | .halting =>
    if x.st = .moving ∧ x.landed then (s.standstill a).start a .target t more
    else
      let s := (s.modAxis a fun x =>
        ({ set x with toClose := if here then x.toClose else decide (t < x.setp), haltRef := false, landing := false, landed := false, inposAt := none, fmap := [], fmapBad := false }.setAttgt false).setSt .moving).moveBegin
          a (x.dirTo t)
      if s.isLeaf a && x.dirTo t == some .closing then s.edgeAtStart (portalOf a) else s   -- R51
  | .warnhold | .queued =>
    if here then s.modAxis a fun x => { set (x.withdraw.setSt .idle) with landed := true } else s.start a .target t more
  | _ =>
    if here then s.modAxis a fun x => ({ set x with landed := true }.setSt .idle)
    else s.start a .target t more

/-- An accepted re-reference (R87, R91). -/
def State.acceptReref (s : State) (a : AxisIx) (more : Bool) : State :=
  let x := s.axis a
  let s := s.closeAgain a false
  if x.reg.cfg.sdo && !x.hasFb && x.st != .referencing then (s.referenced a).movementEnd (portalOf a) else
  match x.st with
  | .referencing => s
  | .moving | .halting =>
    if x.st = .moving ∧ x.landed then (s.standstill a).start a .reref 0 more
    else s.modAxis a fun x => { x.setSt .halting with haltRef := true, toClose := true, landing := false, fmap := [] }
  | _ => s.start a .reref 0 more

/-- A request reaches the motion generator (R83); `more`: other axes take one in the same update; `svc`: it comes from a service session. -/
def State.request (s : State) (a : AxisIx) (kind : StartKind) (t : Int) (more : Bool := false) (svc : Bool := false) : State :=
  match s.refusal a kind t svc with
  | some c => (if s.factoryBars kind svc then s.used else s).modAxis a fun x => x.refuse c
  | none => let s := s.calAbandon; if kind = .reref then s.acceptReref a more else s.acceptTarget a t more

/-- A start has come to the queue since `s0`. -/
def State.arrivedSince (s s0 : State) : Bool :=
  allAxes.any fun a =>
    (s.axis a).st == .queued && ((s0.axis a).st != .queued || (s.axis a).kind != (s0.axis a).kind || (s.axis a).reg.tgtf != (s0.axis a).reg.tgtf)

/-- R59, R101: the starts of one update have all come: the queue is evaluated once, so that two leaves are one start. -/
def State.fellSince (s s0 : State) : State := if s.arrivedSince s0 then s.felling else s

/-! ### Axis commands (AXC.CMD) -/

/-- R81: a halt. A HALTING axis goes on, and a re-reference pending behind its halt stays (DESIGN CHOICE, log 104). -/
def State.haltAxis (s : State) (a : AxisIx) : State :=
  match (s.axis a).st with
  | .warnhold | .queued => s.modAxis a Axis.withdraw
  | .referencing => s.stopAxis a 0
  | .moving => s.modAxis a fun x => { x.setSt .halting with haltRef := false, landing := false, landed := false, inposAt := none, fmap := [] }
  | _ => s

/-- CMD.STOP (R77, cause 1). -/
def State.cmdStop (s : State) (a : AxisIx) : State := s.stopAxis a 1

/-- CMD.DISABLE: a stop, and bridges off until ENABLE (R78). -/
def State.cmdDisable (s : State) (a : AxisIx) : State :=
  ((s.stopAxis a 10).modAxis a fun x => { x with disable := true }).bridgeEval a

/-- CMD.ENABLE ends a DISABLE (R79). -/
def State.cmdEnable (s : State) (a : AxisIx) : State := (s.modAxis a fun x => { x with disable := false }).bridgeEval a

/-- A write of AXC.CMD; `more`: other axes take it in the same update; `svc`: by a service session. With several bits set, DISABLE and STOP act and HALT, ENABLE and REREF are ignored (Table 3-9). -/
def State.axisCmd (s : State) (a : AxisIx) (w : Word) (more : Bool := false) (svc : Bool := false) : State :=
  if !s.fitted a then s
  else if w.getLsbD 0 || w.getLsbD 3 then
    let s := if w.getLsbD 0 then s.cmdStop a else s
    if w.getLsbD 3 then s.cmdDisable a else s
  else match (getF w 1 2).toNat, w.getLsbD 4 with
    | 0, true => s.cmdEnable a
    | 1, false => s.haltAxis a
    | 2, false => s.request a .reref 0 more svc
    | _, _ => s

/-! ### The plan of an axis (R74 to R76) -/

/-- The speed caps in force (R76); the FINAL cap is `final`. -/
def Axis.caps (x : Axis) (final : Nat) : List Nat := x.vcaps.map Prod.snd ++ (if x.finalCap then [final] else [])

/-- The speed limit of a direction (R74, R76, R104), units of 64 counts/s. -/
def Axis.speedLimit (x : Axis) (final : Nat) (neg : Bool) : Nat :=
  let base := if neg then x.reg.vmax.vc.toNat else x.reg.vmax.vo.toNat
  let base := if x.reg.vlim = 0 then base else min base x.reg.vlim.toNat
  (x.caps final).foldl min base

/-- The final-approach cap of a leaf (PRT.FINALV). -/
def State.finalCapOf (s : State) (a : AxisIx) : Nat :=
  let q := s.portal (portalOf a)
  if (slotOf a).val = 0 then q.reg.finalv.va.toNat else q.reg.finalv.vb.toNat

/-- The plan of an axis for its next 64 updates (R74 to R76, R81, R87): to its target, negative at VREF, or to standstill. VREF
alone limits the crawl (DESIGN CHOICE, log 102). -/
def State.plan (s : State) (a : AxisIx) : Plan :=
  let x := s.axis a
  let d := x.reg.tgtf.toInt * 4294967296 - x.acc          -- way left, 2^-32 count
  let neg := if x.velx = 0 then x.st == .referencing || decide (d < 0) else decide (x.velx < 0)
  let l : Limits := { amax := accelX (if neg then x.reg.amax.ac.toNat else x.reg.amax.ao.toNat), jmax := jerkX x.reg.jmax.toNat }
  match x.st with
  | .referencing => planStep l (speedX x.reg.refv.vref.toNat) .crawl neg x.velx x.accel
  | .halting => planStep l 0 .halt neg x.velx x.accel
  | _ => planStep l (speedX (x.speedLimit (s.finalCapOf a) neg)) (.reach (d * 67108864)) neg x.velx x.accel

/-- Halt at standstill (R81): the set-point becomes the target in force; a pending re-reference queues (R87). -/
def State.haltEnd (s : State) (a : AxisIx) : State :=
  let x := s.axis a
  let s' := (s.modAxis a fun x =>
    ({ x.freeze with landed := true, reg := { x.reg with tgtf := BitVec.ofInt 32 x.setp } }.setSt .idle)).movementEnd (portalOf a)
  if x.haltRef then s'.start a .reref 0 false else s'

/-- A planning period of an axis that is under a plan (R74). -/
def State.planPeriod (s : State) (a : AxisIx) : State :=
  let x := s.axis a
  if x.underPlan && !x.landed then
    let p := s.plan a
    if x.st = .halting ∧ p.land then s.haltEnd a
    else s.modAxis a fun x =>
      { x with velx := p.velx, accel := p.accel, landing := p.land, inposAt := none
               vel := clampInt (-2147483648) 2147483647 (roundVel p.velx) }
  else s

/-! ### Blaze actions (R94 to R97, Table 3-7) -/

/-- R97: an enabled entry whose content a COMMIT rejects. -/
def State.blazeBad (s : State) (a : AxisIx) (b : Blaze) : Bool :=
  b.en && (decide (7 ≤ b.action) || b.dir == 0
    || ((b.action == 2 || b.action == 3) && getF b.arg 0 2 == 3)
    || (b.action == 4 && !s.fitted (axisOf (portalOf a) b.slot)))

/-- Table 3-7, R103: a blaze AXTGT; accepted, it governs a COMMIT of the same update. -/
def State.blazeTarget (s : State) (b : AxisIx) (t : Int) : State :=
  let s' := s.request b .target t true
  if (s.refusal b .target t).isSome then s' else s'.modAxis b fun x => { x with axtgtAt := some (updateOf b s.mono) }

/-- Table 3-7: the action of a fired entry, but for STOP, which follows all firing (R94). -/
def State.blazeAct (s : State) (a : AxisIx) (e : Fin 32) (b : Blaze) : State :=
  let p := portalOf a
  let k : Fin 3 := if getF b.arg 0 2 = 1 then 1 else if getF b.arg 0 2 = 2 then 2 else 0
  match b.action with
  | 1 => s.modAxis a fun x => { x with vcaps := (e.val, (getF b.arg 0 16).toNat) :: x.vcaps.filter fun c => c.1 != e.val }
  | 2 => if getF b.arg 0 2 = 3 then s else s.lsCommand (chanOf p k) false
  | 3 => if getF b.arg 0 2 = 3 then s else s.lsCommand (chanOf p k) true
  | 4 => s.blazeTarget (axisOf p b.slot) b.arg.toInt
  | 6 => s.kerfOpen p (s.portal p).g
  | _ => s

/-- R328: the first firing since the COMMIT of an entry whose PRIO is not the declared one writes a CO-PRIO record. -/
def State.coPrio (s : State) (a : AxisIx) (e : Fin 32) (b : Blaze) : State :=
  match s.eng.decl b.callid with
  | none => s
  | some d =>
    if d.prio.val == b.prio.toNat || (s.axis a).coprio.getLsbD e.val then s
    else (s.modAxis a fun x => { x with coprio := x.coprio ||| (1#32 <<< e.val) }).event 0x15 b.callid.toNat
      (a.val * 32 + e.val) d.prio.val

/-- R96: entry `e` fires. -/
def State.blazeFire (s : State) (a : AxisIx) (e : Fin 32) : State :=
  let b := blazeAt (s.axis a).blz e
  let s := s.modAxis a fun x => { x.setArm e false with
    reg := { (x.setArm e false).reg with blzhit := x.reg.blzhit ||| (1#32 <<< e.val) }, blzTs := s.mono }
  let s := s.blazeAct a e b
  if b.call then (s.callout b.callid (BitVec.ofNat 32 (e.val + 256 * a.val))).coPrio a e b else s

/-- R94: the entries crossed in this update, in entry order. -/
def State.crossings (s : State) (a : AxisIx) : List (Fin 32) :=
  let x := s.axis a
  if x.reg.state.trust = .untrusted then []
  else allEntries.filter fun e =>
    let b := blazeAt x.blz e
    b.en && x.reg.blzarmd.getLsbD e.val && b.crossed x.p0 x.pos

/-! ### Position compare (R131, R132) -/

/-- R131: the enabled compare entries of a portal's output that its compare axis crosses in this update. -/
def Portal.compares (q : Portal) (p0 p1 : Int) : BitVec 16 :=
  (List.finRange 16).foldl (fun h i =>
    let b : Blaze := { pos := q.po.pocmp[i.val].toInt, en := true, dir := getF q.po.pocdir (2 * i.val) 2, once := false, hyst := 0,
                       action := 0, arg := 0, callid := 0, call := false, prio := 0, slot := 0 }
    if q.po.pocen.getLsbD i.val && b.crossed p0 p1 then h ||| (1#16 <<< i.val) else h) 0

/-- R131, R132: a crossing starts the pulse on PA, or restarts it. Entries crossed in one update are one crossing: two of them with no pulse
in progress start it and set no OVL (DESIGN CHOICE, log 89). -/
def Portal.compare (q : Portal) (p0 p1 : Int) (now : Nat) : Portal :=
  let h := q.compares p0 p1
  if h = 0 then q else
  { q with pa := true, poEnd := now + us q.po.popw.toNat,
           po := { q.po with postat := { hits := q.po.postat.hits ||| h, ovl := q.po.postat.ovl || q.po.postat.active, active := true } } }

/-- The registers with which a position output entered the update of its compare axis at `now`: a COMMIT within that update does not act in
it yet (Table 4-4; DEDUCED, log 138). -/
def Portal.poBegan (q : Portal) (now : Nat) : Po :=
  match q.poOld with
  | some o => if updateOf q.po.pocfg.caxis.toFin o.1 = updateOf q.po.pocfg.caxis.toFin now then { o.2 with pocfg := q.po.pocfg, postat := q.po.postat } else q.po
  | none => q.po

/-- R131, R133: a portal's compare output in the update of its axis. -/
def Portal.compareBegan (q : Portal) (p0 p1 : Int) (now : Nat) : Portal :=
  let r := { q with po := q.poBegan now }.compare p0 p1 now
  { r with po := { q.po with postat := r.po.postat } }

/-- R131: every position output in compare mode on this axis. -/
def State.compareAll (s : State) (a : AxisIx) : State :=
  let x := s.axis a
  s.forAll (allPortals.filter fun p =>
      (s.portal p).po.pocfg.mode == 2 && (s.portal p).po.pocfg.caxis == BitVec.ofNat 6 a.val)
    fun s p => s.modPortal p fun q => q.compareBegan x.p0 x.pos s.mono

/-! ### Gap events (R48, R49) -/

/-- Table 2-1: the hardware action of a gap event, and its call-out (R48). -/
def State.gapFire (s : State) (p : PortalIx) (e : Fin 5) : State :=
  let s := s.modPortal p fun q => q.setArm e false
  let s := match e with
    | 0 => s.kerfOpen p (mm 400)
    | 1 => s.forAll ([axisOf p 2, axisOf p 3].filter s.fitted) fun s a => s.request a .target 0 true
    | 2 => s.setFinal p true
    | 3 => s
    | 4 => s.lkDrop p
  s.callout (BitVec.ofNat 16 (0x0A00 + 8 * p.val + e.val)) (BitVec.ofNat 32 (p.val + 256 * e.val)) true

/-- R47 to R49: G computed anew at an update of leaf A; events fire, or re-arm. A held G does nothing, to the window neither (R159)
(DESIGN CHOICE, log 137). -/
def State.gapUpdate (s : State) (p : PortalIx) : State :=
  if !s.leavesTrusted p then s else
  let q := s.portal p
  let g := s.gapNow p
  let fires := if g < q.g then allGaps.filter fun e =>
      q.arm.getLsbD e.val && (match q.threshold e with | some t => decide (g ≤ t) | none => false) else []
  let rearms := allGaps.filter fun e =>
      !q.arm.getLsbD e.val && (match q.threshold e with | some t => decide (t + mm 2 ≤ g) | none => false)
  let s := s.modPortal p fun q =>
    let q := rearms.foldl (fun q e => q.setArm e true) q
    { q with g := g, gTrusted := true, trapped := q.trapped && decide (g ≤ mm q.reg.gapev.edgemask.toNat), reg := { q.reg with gap := gapUnits g },
             cycle := q.cycle.map fun c => { c with gmax := max c.gmax (gapUnits g).toNat } }
  let s := if rearms.contains 2 then s.setFinal p false else s
  (s.forAll fires fun s e => s.gapFire p e).kerfGap p

/-! ### HOME and what follows from it (R57) -/

/-- HOME judged anew; its rise in a closing movement starts the LTO bound (R57). -/
def State.homeEval (s : State) (p : PortalIx) : State :=
  let h := s.homeNow p
  s.modPortal p fun q =>
    { q with home := h, ltoAt := if h && !q.home && q.mov == some .closing && q.dcl != 3 then some s.mono else q.ltoAt }

/-! ### The accumulator (R67 to R71, R79) -/

/-- R68, R71: the accumulator adds its velocity; an update that would carry the set-point beyond ±(2^31 − 1) leaves it. -/
def Axis.advance (x : Axis) : Axis × Bool :=
  let n := x.acc + x.vel          -- both in units of 2^-32 count
  if posMax < n / 4294967296 ∨ n / 4294967296 < -posMax then (x, true) else ({ x with acc := n }, false)

/-- The way from the accumulator to the target in force, 2^-32 count. -/
def Axis.wayLeft (x : Axis) : Int := x.reg.tgtf.toInt * 4294967296 - x.acc

/-- R74: in the last planning period of a movement, within one update of the target, the set-point is the target, fraction zero. -/
def Axis.land (x : Axis) : Axis :=
  if x.st = .moving ∧ x.landing ∧ x.wayLeft.natAbs ≤ max 64 x.vel.natAbs then
    { x with acc := x.reg.tgtf.toInt * 4294967296, vel := 0, velx := 0, accel := 0, landing := false, landed := true }
  else x

/-- The direction in which this update is to move the accumulator: that of the velocity, or of the rest of the way of a plan that lands. -/
def Axis.heading (x : Axis) : Int := if x.vel = 0 ∧ x.st = .moving ∧ x.landing then x.wayLeft else x.vel

/-- R90: pulse and direction lines of an SDO axis after an update that moved the set-point from `n0` in direction `go`. A pulse in progress
when the axis stops runs its PW (DESIGN CHOICE, log 105). -/
def Axis.sdoLines (x : Axis) (n0 go : Int) : Axis :=
  if !x.reg.cfg.sdo then x else
  let dir := if go = 0 then x.sdoDir else decide (0 < go)
  { x with sdoPB := if dir = x.sdoDir then x.sdoPB + 1 else 0, sdoDir := dir,
           sdoPA := if x.setp = n0 then x.sdoPA - 1 else x.reg.sdo.pw.toNat }

/-- R90: the step from `x` to `y` that this update would make comes sooner than DIRSU updates after PB changed: the accumulator waits
(DEDUCED, log 81). -/
def Axis.sdoWait (x y : Axis) : Bool :=
  let turn := decide (x.heading ≠ 0) && (decide (0 < x.heading) != x.sdoDir)
  x.reg.cfg.sdo && decide (y.setp ≠ x.setp) && (if turn then x.reg.sdo.dirsu != 0 else decide (x.sdoPB + 1 < x.reg.sdo.dirsu.toNat))

/-- The set-point's part of an update: frozen, following the position (R79), or moving (R68). -/
def Axis.updateSetp (x : Axis) : Axis × Bool :=
  if x.st = .disabled then (if x.hasFb then (x.sdoLines x.setp 0).place x.pos else x.sdoLines x.setp 0, false)
  else if x.underPlan && !x.landed then
    let (m, sat) := x.advance
    let y := (if x.sdoWait m.land then x else m.land).sdoLines x.setp x.heading
    (if y.hasFb then y else { y with pos := y.setp }, sat)
  else (x.sdoLines x.setp 0, false)

/-- R82: how long |FERR| has been within INPOS. ATTGT, once 1, stays so until the next request (DESIGN CHOICE, log 103). -/
def Axis.inpos (x : Axis) (now : Nat) : Axis :=
  if x.landed && decide (x.ferr.natAbs ≤ x.reg.tol.inpos.toNat) then
    { x with inposAt := some (x.inposAt.getD now) }
  else { x with inposAt := none }

/-- R87: how long FERR has been above REFFE, by its magnitude (DESIGN CHOICE, log 131). -/
def Axis.refWatch (x : Axis) (now : Nat) : Axis :=
  if x.st = .referencing ∧ (x.reg.refd.reffe.toNat : Int) < x.ferr.natAbs then { x with refOver := some (x.refOver.getD now) }
  else { x with refOver := none }

/-- R71: a saturated position stops the axis and makes it UNTRUSTED. -/
def State.saturate (s : State) (a : AxisIx) : State :=
  (s.modAxis a fun x => (x.modFlt fun f => { f with sat := true }).setTrust .untrusted).stopAxis a 5

/-- The words of entry `e` differ between two tables. -/
def entryChanged (t u : Vector Word 128) (e : Fin 32) : Bool :=
  (List.finRange 4).any fun i => t[4 * e.val + i.val] != u[4 * e.val + i.val]

/-- The arm states of a changed entry from `r`, of any other from `x`. -/
def Axis.armsFrom (x : Axis) (t u : Vector Word 128) (r : Word) : Word :=
  allEntries.foldl (fun w e => putBit w e.val (if entryChanged t u e then r.getLsbD e.val else x.reg.blzarmd.getLsbD e.val)) 0

/-- Table 3-9: a COMMIT of the blaze table within this update does not act in it yet: the axis with the table that was active when the
update began (DEDUCED, log 138). -/
def Axis.tableBegan (x : Axis) (a : AxisIx) (now : Nat) : Axis :=
  match x.blzOld with
  | some (t, b, r) =>
    if updateOf a t = updateOf a now then { x with blz := b, reg := { x.reg with blzarmd := x.armsFrom b x.blz r } } else x
  | none => x

/-- The axis with the table of `y` again, after an update that began with another one; changed entries are armed as in `y`. -/
def Axis.tableOf (x y : Axis) : Axis :=
  if x.blz = y.blz then x else { x with blz := y.blz, reg := { x.reg with blzarmd := x.armsFrom x.blz y.blz y.reg.blzarmd } }

/-- The whole of one update of an axis (R67, R94): set-point, crossings, gap events, then the stops, and the starts that came. -/
def State.axisUpdate (s : State) (a : AxisIx) : State :=
  let s0 := s
  let (x1, sat) := (s.axis a).updateSetp
  let s := s.modAxis a fun _ => ((x1.inpos s.mono).refWatch s.mono).tableBegan a s.mono
  let es := s.crossings a
  let stop := es.any fun e => (blazeAt (s.axis a).blz e).action == 5
  let s := s.compareAll a
  let s := s.forAll es fun s e => s.blazeFire a e
  let s := s.modAxis a fun x => { x.rearm with p0 := x.pos }.tableOf (s0.axis a)
  let s := if (slotOf a).val = 0 then s.gapUpdate (portalOf a) else s
  let s := s.homeEval (portalOf a)
  let s := if stop then s.stopAxis a 3 else s
  let s := if sat then s.saturate a else s
  s.fellSince s0

end Sys2Proof.Machine
end

