-- ==== Sys2Proof/Machine/FeedbackOps.lean ====
section
/-! DEFINITION. Feedback channels: faults, counting, edge dating, index, serial words and measured speed (chapter 4). -/

namespace Sys2Proof.Machine

/-! ### Faults and count limits (R116, R117) -/

/-- R117: a feedback fault stops the axis, takes its bridges off at once and makes it UNTRUSTED. -/
def State.fbFault (s : State) (a : AxisIx) : State :=
  (s.modAxis a fun x => (x.modFlt fun f => { f with fbflt := true }).setTrust .untrusted).bridgeEval a

/-- Table 3-9: the condition of a cleared feedback fault has ended; the bridges follow. -/
def State.fbRelease (s : State) (a : AxisIx) : State :=
  if (s.axis a).fbHold then (s.modAxis a fun x => { x with fbHold := false }).bridgeEval a else s

/-- R116: the position count becomes `n`, held within ±(2^31 − 1). -/
def State.setCount (s : State) (a : AxisIx) (n : Int) : State :=
  let s' := s.modAxis a fun x => { x with pos := clampInt (-posMax) posMax n }
  if posMax < n ∨ n < -posMax then s'.saturate a else s'

/-! ### Lines (R106 to R110) -/

/-- FBK.SQ changed. -/
def Axis.modSq (x : Axis) (f : FbkSq → FbkSq) : Axis := { x with fb := { x.fb with sq := f x.fb.sq } }

/-- FBK.STAT changed. -/
def Axis.modFst (x : Axis) (f : FbkStat → FbkStat) : Axis := { x with fb := { x.fb with stat := f x.fb.stat } }

/-- The place of a Hall code in FBK.HALLSEQ; none for 0b000 and 0b111. -/
def hallPlace (seq : BitVec 18) (c : BitVec 3) : Option Nat := (List.range 6).find? fun i => getF (seq.setWidth 32) (3 * i) 3 == c

/-- The number of ones in three line levels. -/
def ones3 (l : BitVec 3) : Nat := l.getLsbD 0 |>.toNat |> (· + (l.getLsbD 1).toNat + (l.getLsbD 2).toNat)

/-- R107: a change of the accepted levels of a group (Hall W, V, U, or Z, B, A) is illegal. -/
def illegalChange (hall : Bool) (old new : BitVec 3) : Bool :=
  if hall then decide (2 ≤ ones3 (old ^^^ new)) || new == 0 || new == 7 else (old ^^^ new) &&& 3 == 3

/-- R108, R109: a legal change runs up (true) or down, before INV; none where it is no step: Z alone, or from an illegal Hall code. -/
def stepUp (seq : BitVec 18) (hall : Bool) (old new : BitVec 3) : Option Bool :=
  if hall then
    match hallPlace seq old, hallPlace seq new with
    | some i, some j => some (decide (j = (i + 1) % 6))
    | _, _ => none
  else
    let a := new.getLsbD 0
    let b := new.getLsbD 1
    if (old ^^^ new).getLsbD 0 then some (a != b) else if (old ^^^ new).getLsbD 1 then some (a == b) else none

/-- The magnitude of one count in `dt` ticks, units of 1/256 count/s, rounded down. -/
def oneCount (dt : Nat) : Int := if dt = 0 then 0 else ((400000000 * 256 / dt : Nat) : Int)

/-- R119 to R122: a legal edge in a direction, dated `t`, that brings the count to `n`. -/
def Axis.edge (x : Axis) (up : Bool) (n : Int) (t : Nat) : Axis :=
  let first := !x.hadEdge || (x.fb.sq.qual == .still && x.lower.isNone && x.nEdges == 0)
  let turn := x.hadEdge && up != x.fb.sq.dir
  let sgn : Int := if up then 1 else -1
  let y := if first then { x with lower := some (if x.hadEdge then sgn * oneCount (t - x.edgeAt) else 0), mixed := x.mixed || turn }
    else if turn then { x with lower := some 0, mixed := true, nEdges := x.nEdges + 1 }
    else { x with nEdges := x.nEdges + 1 }
  { y.modSq (fun q => { q with dir := up }) with edgeAt := t, newCnt := n, hadEdge := true, stepEdge := true }

/-- R107, R110: an illegal transition; FBK.LIM.ILLN of them in a row are a feedback fault. ILLN, SERN and TSS act as they stand also at 0,
outside their ranges, which no rule has Landing reject (DESIGN CHOICE, log 110). -/
def State.illegalEdge (s : State) (a : AxisIx) : State :=
  let s := s.modAxis a fun x =>
    let y := x.modFst fun f => { f with ill := true }
    { y with illRow := if ms 10 < s.since x.illAt then 1 else x.illRow + 1, illAt := s.mono,
             fb := { y.fb with errcnt := { y.fb.errcnt with ill := satInc y.fb.errcnt.ill } } }
  if (s.axis a).fb.lim.illn.toNat ≤ (s.axis a).illRow then s.fbFault a else s

/-- R130: a pass-through output repeats its axis's lines as their pins stand; not in reset or sleep (R129). -/
def State.passThrough (s : State) (a : AxisIx) (hall : Bool) (l : BitVec 3) : State :=
  s.forAll (allPortals.filter fun p =>
      let c := (s.portal p).po.pocfg
      c.mode == 1 && c.plines == hall && c.psrc == BitVec.ofNat 6 a.val)
    fun s p => s.modPortal p fun q => { q with pa := l.getLsbD 0, pb := l.getLsbD 1, pz := l.getLsbD 2 }

/-- R124: an index event of a sample of Z, B, A after one with Z at `z`; a legal edge of the sample is counted first. It is due with the
count of that sample until it is taken. -/
def Axis.indexSample (x : Axis) (z : Bool) (l : BitVec 3) (ill : Bool) : Axis :=
  let high := l == 7
  let due := x.fb.cfg.idxen && x.fb.cfg.src == 2 && (if x.fb.cfg.gate then high && x.zLow
    else x.hadEdge && (if x.fb.sq.dir then !z && l.getLsbD 2 else z && !l.getLsbD 2))
  let y := { x with zLow := !l.getLsbD 2 || (x.zLow && !high) }
  if due then { y with idxDue := true, idxCnt := x.pos, idxIll := ill } else y

/-- R107 to R109, R117: a change of the accepted levels of a group of lines from `old` to `l`, dated `t`, is counted or illegal. -/
def State.lineCount (s : State) (a : AxisIx) (hall : Bool) (old l : BitVec 3) (t : Nat) : State :=
  let x := s.axis a
  let c := x.fb.cfg
  if (hall && !c.hall) || (!hall && c.src != 2) then s
  else if illegalChange hall old l then s.illegalEdge a
  else if hall && c.src != 1 then s
  else
    match stepUp x.fb.hallseq hall old l with
    | none => s
    | some u =>
      let up := u != c.inv
      let n := if hall then x.fb.hcnt.toNat else 1
      let s := s.setCount a (x.pos + (if up then (n : Int) else -(n : Int)))
      (s.modAxis a fun x => x.edge up x.pos t).fbRelease a

/-- R106 to R110, R124: the accepted levels of a group of lines change, dated `t`. The first levels accepted after a start are judged as
a change from 0b000, the reset value of FBK.SQ (DESIGN CHOICE, log 82). Levels that come back to those accepted are no change. -/
def State.lineChange (s : State) (a : AxisIx) (hall : Bool) (l : BitVec 3) (t : Nat) : State :=
  let x := s.axis a
  let old := if hall then x.fb.sq.hallc else x.fb.sq.abz
  if l = old then s else
  let s := s.modAxis a fun x => x.modSq fun q => if hall then { q with hallc := l } else { q with abz := l }
  (s.lineCount a hall old l t).modAxis a fun x =>
    if hall then { x with hallAt := t } else x.indexSample (old.getLsbD 2) l (illegalChange false old l)

/-- Lines are bits of a group: the longest-standing lines among `lines`, as a mask, and for how long they have stood. -/
def oldestLines (l : PinLevels) (lines : List (Fin 3)) : BitVec 3 × Nat :=
  let h := (lines.map fun i => l.held[i.val]).foldl max 0
  ((lines.filter fun i => l.held[i.val] = h).foldl (fun m i => m ||| (1#3 <<< i.val)) 0, h)

/-- R106: the changed lines of a group that have stood for FILT samples are accepted, line by line: those of one first sample together, in
the order of their first samples. -/
def State.acceptLines (s : State) (a : AxisIx) (hall : Bool) (l : PinLevels) : Nat → State
  | 0 => s
  | n + 1 =>
    let x := s.axis a
    let old := if hall then x.fb.sq.hallc else x.fb.sq.abz
    let due := (List.finRange 3).filter fun i =>
      (old ^^^ l.levels).getLsbD i.val && decide (max x.fb.cfg.filt.toNat 1 ≤ l.held[i.val] + 1)
    if due.isEmpty then s else
    let m := oldestLines l due
    (s.lineChange a hall ((old &&& ~~~m.1) ||| (l.levels &&& m.1)) (s.mono - m.2)).acceptLines a hall l n

/-! ### Index (R124 to R128) -/

/-- R125: the deviation of a count from the nearest expected count. -/
def indexDev (count idxpos : Int) (pitch : Nat) : Int :=
  if pitch = 0 then count - idxpos else
  let r := (count - idxpos) % pitch
  if (pitch : Int) < 2 * r then r - pitch else r

/-- R124 to R128: an index event at the count of its sample. One that teaches IDXPOS writes IDXLAST and leaves IDXDEV, since it is not judged
(DESIGN CHOICE, log 83). -/
def State.indexEvent (s : State) (a : AxisIx) : State :=
  let x := s.axis a
  let pitch := x.fb.idxpitch.toNat
  let d := indexDev x.idxCnt x.fb.idxpos.toInt pitch
  let sat : Word := BitVec.ofInt 32 (clampInt (-posMax) posMax d)
  let blind := x.reg.state.trust == .untrusted || x.st == .referencing
  let note := fun (dev : Bool) (x : Axis) =>
    { x with fb := { x.fb with idxlast := BitVec.ofInt 32 x.idxCnt, idxdev := if dev then sat else x.fb.idxdev } }
  if blind then s.modAxis a (note true)
  else
  let s := s.modAxis a fun x => { x with learnPend := false }
  if x.learnPend && x.fb.cfg.learn then
    s.modAxis a fun x =>
      let y := note false x
      { y with fb := { y.fb with idxpos := BitVec.ofInt 32 (if pitch = 0 then x.idxCnt else x.idxCnt % pitch) } }
  else
    let s := s.modAxis a (note true)
    if d.natAbs ≤ x.fb.lim.tol.toNat then
      (s.modAxis a fun x =>
        let y := x.modFst fun f => { f with idxcor := true }
        if y.reg.state.trust = .degraded then y.setTrust .trusted else y).setCount a (x.pos - d)
    else s.modAxis a fun x =>
      let y := x.modFst fun f => { f with idxerr := true }
      if y.reg.state.trust = .trusted then y.setTrust .degraded else y

/-! ### Carriers (R136) -/

/-- R136: the tick, modulo a carrier period of 50 µs, at which the carrier of an axis starts; that of AX-00 starts at multiples of the
period (DESIGN CHOICE, log 86). -/
def carrierOf (a : AxisIx) : Nat := a.val * 625 / 2

/-! ### Serial words (R111 to R115) -/

/-- FBK.SER.PER in ticks (R111); the reserved 0b11, which Landing does not reject, acts as 100 µs (DESIGN CHOICE, log 84). -/
def serPeriod (p : BitVec 2) : Nat := if p = 0 then us 25 else if p = 1 then us 50 else us 100

/-- The bits of a number, most significant of `n` first. -/
def bitsMsb (n v : Nat) : List Bool := (List.range n).map fun i => v.testBit (n - 1 - i)

/-- R111: the CRC of a run of bits, initial value zero, `len` bits. -/
def serialCrc (poly len : Nat) (bits : List Bool) : Nat :=
  bits.foldl (fun c b => if (c / 2 ^ (len - 1) % 2 == 1) != b then (c * 2 % 2 ^ len) ^^^ (poly % 2 ^ len) else c * 2 % 2 ^ len) 0

/-- Reflected Gray code to binary. -/
def grayToBin : Nat → Nat → Nat
  | 0, g => g
  | n + 1, g => g ^^^ grayToBin n (g / 2)

/-- The word's data bits as its position value (Table 4-1). -/
def Axis.serialData (x : Axis) (raw : Nat) : Nat :=
  let len := x.fb.ser.len.toNat
  if x.fb.cfg.sermode = 1 then grayToBin len (raw % 2 ^ len) else raw % 2 ^ len

/-- The frame's CRC holds; `err` and `warn` are the bits nE (or the SSI error bit) and nW as sent. -/
def Axis.serialCrcOk (x : Axis) (raw crc : Nat) (err warn : Bool) : Bool :=
  let n := x.fb.ser.crclen.toNat
  let extra := if x.fb.cfg.sermode = 2 then [err, warn] else if x.fb.cfg.erren then [err] else []
  let c := serialCrc x.fb.sercrc.poly.toNat n (bitsMsb x.fb.ser.len.toNat raw ++ extra)
  n == 0 || crc % 2 ^ n == (if x.fb.sercrc.crcinv then 2 ^ n - 1 - c else c)

/-- The distance of two raw values modulo 2^len. -/
def rawDistance (len a b : Nat) : Nat := let d := (a + 2 ^ len - b) % 2 ^ len; min d (2 ^ len - d)

/-- R112: the latest start bit after the first clock edge, ns: 1,200 ns plus two periods of the clock of R111. -/
def Axis.startLimit (x : Axis) : Nat := 1200 + 10 * x.fb.ser.clkdiv.toNat

/-- R112, R114: what is wrong with a word: FBK.STAT bits CRC, ERRB, WTO, JUMP. -/
def Axis.serialBad (x : Axis) (raw crc : Nat) (err warn idle : Bool) (start delay : Nat) : Bool × Bool × Bool × Bool :=
  let biss := x.fb.cfg.sermode == 2
  if !idle || (biss && decide (x.startLimit < start ∨ 1000 < delay)) then (false, false, true, false) else
  let v := x.serialData raw
  (!x.serialCrcOk raw crc err warn, !err && (biss || x.fb.cfg.erren), false,
    x.serGood && x.fb.jump != 0 && decide (x.fb.jump.toNat < rawDistance x.fb.ser.len.toNat v x.sraw))

/-- R115: the position count of an unwrapped raw value. -/
def serialCount (sofs : FbkSofs) (u : Int) : Int :=
  let v := u - sofs.ofs.toInt
  let sh := sofs.shift.toInt
  if 0 ≤ sh then v * 2 ^ sh.toNat else v / 2 ^ (-sh).toNat

/-- A number held in 64 bits, signed. -/
def wrap64 (n : Int) : Int := (BitVec.ofInt 64 n).toInt

/-- R115, R116, R123: a good word of value `v` moves the unwrapped value and the count, held within its limits; the speed is that of the held
counts. -/
def State.serialGood (s : State) (a : AxisIx) (v : Nat) : State :=
  let x := s.axis a
  let len := x.fb.ser.len.toNat
  let u := wrap64 (if x.serGood then x.unwrap + signOf len (v + 2 ^ len - x.sraw) else signOf len v)
  let n := serialCount x.fb.sofs u
  let s := (s.modAxis a fun x =>
    { x with unwrap := u, sraw := v, serGood := true, wakeTest := false, badRow := 0, serOld := x.serNew, serNew := some (clampInt (-posMax) posMax n, x.serReq),
             chgAt := if x.pos = clampInt (-posMax) posMax n then x.chgAt else x.serReq }).setCount a n
  let near := match x.retPos with | some r => decide ((n - r).natAbs ≤ x.reg.trustb.toNat) | none => false
  let s := if x.wakeTest && near && !x.reg.flt.fbflt && !(s.axis a).reg.flt.sat then s.modAxis a fun x => x.setTrust .trusted else s
  s.fbRelease a

/-- R112, R113: a bad word is discarded; SERN of them in a row are a feedback fault. -/
def State.serialBad (s : State) (a : AxisIx) (b : Bool × Bool × Bool × Bool) : State :=
  let s := s.modAxis a fun x =>
    let y := x.modFst fun f => { f with crc := f.crc || b.1, errb := f.errb || b.2.1, wto := f.wto || b.2.2.1, jump := f.jump || b.2.2.2 }
    { y with badRow := x.badRow + 1, fb := { y.fb with errcnt := { y.fb.errcnt with ser := satInc y.fb.errcnt.ser } } }
  if (s.axis a).fb.lim.sern.toNat ≤ (s.axis a).badRow then s.fbFault a else s

/-! ### Speed (R119 to R123) -/

/-- FBK.SPEED and QUAL set; a speed beyond 32 bits is held at their limits (DESIGN CHOICE, log 108). -/
def Axis.setSpeed (x : Axis) (v : Int) (q : Qual) : Axis :=
  let y := x.modSq fun t => { t with qual := q }
  { y with fb := { y.fb with speed := BitVec.ofInt 32 (clampInt (-2147483648) 2147483647 v) } }

/-- Counts over ticks as 1/256 count/s, rounded towards zero; the ticks saturate (R119). -/
def speedOf (counts : Int) (dt : Nat) : Int :=
  if dt = 0 then 0 else Int.tdiv (counts * 400000000 * 256) (min dt 0xFFFFFFFF : Nat)

/-- No legal edge, or no change of a serial count, for TSS. -/
def Axis.quiet (x : Axis) (now : Nat) : Bool :=
  decide (ms x.fb.lim.tss.toNat ≤ now - (if x.fb.cfg.src = 3 then x.chgAt else x.edgeAt))

/-- R120: standstill: speed 0, STILL. -/
def Axis.standstill (x : Axis) : Axis :=
  { x.setSpeed 0 .still with lower := none, nEdges := 0, mixed := false }

/-- R119, Table 4-2: the speed at a speed-loop step (DEDUCED, log 39). -/
def Axis.measureSpeed (x : Axis) (now : Nat) : Axis :=
  let y : Axis :=
    if x.fb.cfg.src = 3 then
      if x.quiet now then x.standstill else
      match x.serOld, x.serNew with
      | some (c0, t0), some (c1, t1) =>
        let z := x.setSpeed (speedOf (c1 - c0) (t1 - t0)) .measured
        { z with fb := { z.fb with per := satNat 32 (t1 - t0) } }
      | _, _ => x
    else if x.stepEdge then
      match x.refCnt, decide (x.nEdges ≠ 0) && !x.mixed, x.lower with
      | some c, true, _ =>
        let dt := x.edgeAt - x.refTime
        let z := x.setSpeed (speedOf (x.newCnt - c) dt) .measured
        { z with lower := none, fb := { z.fb with per := satNat 32 dt } }
      | _, _, some v => x.setSpeed v .lower
      | _, _, none => x
    else if x.quiet now then x.standstill
    else if (x.fb.sq.qual = .measured ∨ x.fb.sq.qual = .upper) ∧ x.fb.per.toNat < now - x.edgeAt then
      x.setSpeed ((if x.fb.speed.toInt < 0 then -1 else 1) * oneCount (now - x.edgeAt)) .upper
    else x
  { y with stepEdge := false, refTime := x.edgeAt, refCnt := if x.hadEdge then some x.newCnt else none, nEdges := 0, mixed := false }

end Sys2Proof.Machine
end

