-- ==== Sys2Proof/Machine/ControlOps.lean ====
section
/-! DEFINITION. The control engine: gains, the three loops, the force estimate, the friction map, the envelope and current-sensor
calibration (chapter 5). -/

namespace Sys2Proof.Machine

/-! ### Gains and limits (R138, R139, R141, R144) -/

/-- R139: the gain at |e| = `e`. -/
def gainAt (t : Vector Word 32) (sh e : Nat) : Int :=
  let i := e / 2 ^ sh
  if 31 ≤ i then ((vget t 31 0).toNat : Int) else
  let k : Int := (vget t i 0).toNat
  let k1 : Int := (vget t (i + 1) 0).toNat
  k + (k1 - k) * (e - i * 2 ^ sh : Nat) / 2 ^ sh

/-- R141: the integral term, updated unless the output stood at its limit with the sign of e. -/
def integrate (i lim : Int) (ki : Word) (e : Int) (hold : Bool) : Int :=
  if hold || (lim != 0 && e.sign == lim) then i else i + ki.toNat * e

/-- An output held within ± its limit, and its sign if it stands at the limit. -/
def saturateAt (lim v : Int) : Int × Int :=
  let o := clampInt (-lim) lim v
  (o, if lim ≤ o.natAbs then o.sign else 0)

/-- The output stands at its limit (AXC.SATF); under a limit of 0 it always does. -/
def atLimit (lim o : Int) : Bool := decide (lim ≤ o.natAbs)

/-- R144: the current limit in force, mA. -/
def Axis.currentLimit (x : Axis) : Nat :=
  let l := min (100 * x.reg.ilim.toNat) (100 * x.reg.envi.toNat)
  if x.st = .referencing then min l (100 * x.reg.refd.iref.toNat) else l

/-- Table 5-1: the limit of the phase voltage, 2^-16 mV; MBUS in 0.1 V. -/
def voltageLimit (kind : BitVec 2) (mbus : Nat) : Nat :=
  let v := 95 * mbus * 65536
  if kind = 1 then Nat.sqrt (v * v / 3) else v

/-- The envelope speed limit in 1/256 count/s (Table 5-1). -/
def Axis.vLimit (x : Axis) : Int := ((x.reg.envv.v.toNat * x.reg.envs.toNat * 256 / 1000 : Nat) : Int)

/-- A signed number in a 16-bit field, held at its ends (DESIGN CHOICE, log 134). -/
def sat16 (v : Int) : BitVec 16 := BitVec.ofInt 16 (clampInt (-32768) 32767 v)

/-- R154: a calibration of the axis runs, and its loops are suspended. -/
def Axis.calibrating (x : Axis) : Bool := x.reg.cal.status == .running

/-! ### Loops -/

/-- R138: one position-loop step: the speed command. -/
def Axis.positionLoop (x : Axis) : Axis :=
  let e := x.ferr
  let i := integrate x.intP x.limP x.reg.kip e false
  let k := gainAt x.reg.gtp x.reg.gsh.psh.toNat e.natAbs
  let n := k * e * 2 ^ 39 * 2500 + i * 2 ^ 39 + x.reg.ff.toNat * x.vel * 1600000000 * 2500
  let (o, l) := saturateAt x.vLimit (Int.tdiv n (2 ^ 47 * 2500))
  { x with intP := i, vcmd := o, limP := l, reg := { x.reg with satf := { x.reg.satf with satp := atLimit x.vLimit o } } }

/-- R138, R143: one speed-loop step: the current command. -/
def Axis.speedLoop (x : Axis) : Axis :=
  let e := x.vcmd - (if x.fb.sq.qual = .still then 0 else x.fb.speed.toInt)
  let i := integrate x.intS x.limS x.reg.kis e (x.fb.sq.qual == .lower || x.fb.sq.qual == .upper)
  let k := gainAt x.reg.gts x.reg.gsh.ssh.toNat (e.natAbs / 256)
  let n := (k * e * 10000 + i) * 1000
  let (o, l) := saturateAt x.currentLimit (Int.tdiv n (2 ^ 40 * 10000))
  { x with intS := i, icmd := o, limS := l,
           reg := { x.reg with satf := { x.reg.satf with sats := atLimit x.currentLimit o }, iq := { x.reg.iq with cmd := sat16 o } } }

/-- R136: a turning point of the carrier: the voltages computed from the last sample take effect. -/
def Axis.turn (x : Axis) : Axis := { x with duty := x.dutyNext }

/-- R136, R138: one current-loop step of both components: the phase voltages of the next turning point, in 2^-16 mV
(DESIGN CHOICE, log 135); MBUS in 0.1 V (DEDUCED, log 33). -/
def Axis.currentLoop (x : Axis) (q d : Int) (mbus : Nat) : Axis :=
  let lim : Int := voltageLimit x.reg.mot.kind mbus
  let out := fun (e i : Int) => saturateAt lim (Int.tdiv (gainAt x.reg.gtc x.reg.gsh.csh.toNat e.natAbs * e * 40000 + i) 40000)
  let eq := x.icmd - q
  let iq := integrate x.intC x.limC x.reg.kic eq false
  let vq := out eq iq
  let foc := x.reg.mot.kind == 1
  let id := if foc then integrate x.intD x.limD x.reg.kic (-d) false else 0
  let vd := if foc then out (-d) id else (0, 0)
  { x with intC := iq, intD := id, limC := vq.2, limD := vd.2, dutyNext := (vq.1, vd.1),
           reg := { x.reg with satf := { x.reg.satf with satc := atLimit lim vq.1 || (foc && atLimit lim vd.1) } } }

/-- R145: the speed along HALLSEQ, 1/256 count/s, and the counts of one Hall change: HCNT, and INV against it, where Hall changes are
counted (R109), else a sixth of an electrical revolution of ECNT counts (DEDUCED, log 87). -/
def Axis.hallSpeed (x : Axis) : Int × Nat :=
  if x.fb.cfg.src = 1 then (if x.fb.cfg.inv then -x.fb.speed.toInt else x.fb.speed.toInt, 6 * x.fb.hcnt.toNat)
  else (x.fb.speed.toInt, x.reg.ecnt.toNat)

/-- R145: the electrical angle in 2^-16 revolution; none where the Hall lines show no sector. -/
def Axis.angle (x : Axis) (now : Nat) : Option Int :=
  let e : Int := x.reg.eofs.toNat
  if x.reg.mot.comm then
    let n : Int := x.reg.ecnt.toNat
    some ((if n = 0 then 0 else x.pos % n * 65536 / n) + e)
  else
    (hallPlace x.fb.hallseq x.fb.sq.hallc).map fun k =>
      let centre : Int := ((2 * k + 1 : Nat) : Int) * 65536 / 12
      let (v, rev) := x.hallSpeed                       -- counts of six Hall changes
      let fast := x.fb.sq.qual == .measured && rev != 0 && decide (rev * 100 * 256 ≤ 6 * v.natAbs)
      let adv := v * ((now - x.hallAt : Nat) : Int) * 65536 / ((rev : Int) * 256 * 400000000)
      centre + (if fast then clampInt (-5461) 5461 adv else 0) + e

/-! ### The envelope (R150 to R153) -/

/-- R151: an envelope cut: its bit, ENVCUT, and the bridges off, all six switches, also those of a calibration. A stop of this loop step
of `span` ticks, before the cut or after it, shows its lower CAUSE (Table 5-4). -/
def State.envCut (s : State) (a : AxisIx) (span : Nat) (bit : AxcEnvst → AxcEnvst) : State :=
  let x := s.axis a
  let c := x.reg.state.cause
  let keep := x.st == .stopped && c != 0 && decide (c < 6) && decide (updateOf a (s.mono - span) ≤ x.causeAt)
  let s := (s.modAxis a fun x =>
    let y := x.modFlt fun f => { f with envcut := true }
    { y with lowSide := false, cutTo := updateOf a (s.mono + span - 1), reg := { y.reg with envst := bit y.reg.envst } }).bridgeEval a
  if keep then s.modAxis a fun x => x.setCause c else s

/-- The latch of a force obstacle of an axis, and the stop it brings (R50, R53, R152). -/
def State.forceObstacle (s : State) (a : AxisIx) : State :=
  let p := portalOf a
  let q := s.portal p
  if s.isLeaf a then
    let trap := q.masked && q.mov == some .closing && !q.ended
    let b := (slotOf a).val == 1
    (s.latchObs p (fun o => if trap then { o with trap := true } else if b then { o with fb := true } else { o with fa := true })
      (!q.ended)).stopLeaves p 2
  else
    (s.latchObs p (fun o => if (slotOf a).val = 2 then { o with fs := true } else { o with fx := true }) false).stopAxis a 2

/-- R152, R155: a force cut sets the latch first; the stop's lower cause stands. -/
def State.forceCut (s : State) (a : AxisIx) : State := (s.forceObstacle a).envCut a (us 100) fun e => { e with force := true }

/-- KF × I in 10^-5 N (R146). -/
def Axis.fRaw (x : Axis) : Int := x.reg.envk.kf.toNat * x.imeas

/-- The friction-map cell of the position (R148). -/
def Axis.cell (x : Axis) : Nat :=
  let w := x.reg.fmapcfg.cell.toNat * 256
  if w = 0 ∨ x.pos < 0 then 0 else min 63 (x.pos.toNat / w)

/-- Direction of the set-point velocity: +1 opening, −1 closing, 0 at rest. -/
def Axis.direction (x : Axis) : Int := x.vel.sign

/-- R146, R147, R150: one force estimate, 10^-5 N; floor values take no corrections (DEDUCED, log 36). -/
def Axis.fEst (x : Axis) : Int :=
  if x.reg.envst.floor then x.fRaw else
  let d := x.direction
  let cell := vget x.reg.fmap x.cell {}
  let fr : Int := if d = 0 then 0 else
    ((min (if d < 0 then cell.close.toNat else cell.opn.toNat) x.reg.envk.frmax.toNat * 10000 : Nat) : Int)
  let amax := accelX (max x.reg.amax.ao.toNat x.reg.amax.ac.toNat)
  let acc := clampInt (-amax) amax x.accel
  let inertia := Int.tdiv (x.reg.envv.mass.toNat * 10000 * acc * 610351562500) (2 ^ 64 * max x.reg.envs.toNat 1 : Nat)
  x.fRaw - d * fr - inertia

/-- The sum of the last ten estimates (R146). -/
def Axis.fSum (x : Axis) : Int := x.fhist.foldl (· + ·) 0

/-- R146: the estimate is above a closing and an opening threshold (N) on the sides compared. -/
def State.forceAbove (s : State) (a : AxisIx) (fc fo : Nat) : Bool :=
  let x := s.axis a
  let d := x.direction
  let told := s.isLeaf a && x.toClose
  let close := decide ((fc * 1000000 : Nat) < -x.fSum)
  let open_ := decide (((fo * 1000000 : Nat) : Int) < x.fSum)
  if d < 0 then close else if 0 < d then open_ else close || (open_ && !told)

/-- R50: the obstacle threshold of an axis, N. -/
def State.obsThreshold (s : State) (a : AxisIx) : Nat :=
  let q := s.portal (portalOf a)
  if s.isLeaf a then (if q.masked then q.reg.force.sealf.toNat else q.reg.force.obsf.toNat) else (s.axis a).reg.obsf.toNat

/-- R150: the envelope speed, 1/256 count/s. -/
def Axis.envSpeed (x : Axis) : Nat :=
  let fb := if x.fb.sq.qual = .measured ∨ x.fb.sq.qual = .upper then x.fb.speed.toInt.natAbs else 0
  max fb (x.vel.natAbs * 1600000000 / 2 ^ 32)

/-- Above the speed limit V. -/
def Axis.overSpeed (x : Axis) : Bool := decide (x.reg.envv.v.toNat * 256 * x.reg.envs.toNat < x.envSpeed * 1000)

/-- Above the energy limit E: ½ m v². -/
def Axis.overEnergy (x : Axis) : Bool :=
  decide (20 * x.reg.enve.toNat * (256 * x.reg.envs.toNat) ^ 2 < x.reg.envv.mass.toNat * x.envSpeed ^ 2 * 1000)

/-- R148: the sample of this speed step, if it is one (DEDUCED, log 37). -/
def Axis.fmapSample (x : Axis) : Axis :=
  let closing := decide (x.direction < 0)
  let lim := if closing then x.reg.vmax.vc.toNat else x.reg.vmax.vo.toNat
  if x.reg.fmapcfg.learn && !x.fmapBad && x.st == .moving && !x.landed && x.vel != 0 && x.accel == 0 && x.fb.sq.qual == .measured
      && decide (lim * 64 * 256 ≤ 4 * x.fb.speed.toInt.natAbs) then
    let f := x.fRaw.natAbs
    let old := (x.fmap.find? fun e => e.1 == x.cell && e.2.1 == closing).getD (x.cell, closing, 0, 0)
    { x with fmap := (x.cell, closing, old.2.2.1 + f, old.2.2.2 + 1) :: x.fmap.filter fun e => !(e.1 == x.cell && e.2.1 == closing) }
  else x

/-- R146: the estimate of a speed step enters the mean. -/
def Axis.estimate (x : Axis) : Axis :=
  let y := { x with fhist := (x.fEst :: x.fhist).take 10 }
  { y with reg := { y.reg with fest := sat16 (Int.tdiv y.fSum 100000) } }

/-- The peaks of the door cycle in progress (Table 16-4). -/
def State.forcePeak (s : State) (a : AxisIx) : State :=
  let f := (s.axis a).reg.fest.toInt
  s.modPortal (portalOf a) fun q => { q with cycle := q.cycle.map fun c =>
    let i := (slotOf a).val
    { c with fcpk := vmod c.fcpk i fun v => max v (-f).toNat
             fopk := vmod c.fopk i fun v => max v f.toNat } }

/-- A compared quantity is above its limit, as last compared (Table 5-3). -/
def Axis.overNow (x : Axis) : Bool :=
  let pk := 100 * x.reg.envi.toNat
  x.fOver.isSome || decide (2 ≤ x.vOver) || decide (2 ≤ x.eOver)
    || decide (pk < x.iph.1.natAbs ∨ pk < x.iph.2.1.natAbs ∨ pk < x.iph.2.2.natAbs)

/-- R50, R151: the comparisons of a speed step: obstacle time, force, speed and energy. -/
def State.envelope (s : State) (a : AxisIx) : State :=
  let x := s.axis a
  let obs := s.forceAbove a (s.obsThreshold a) (s.obsThreshold a)
  let past := s.forceAbove a x.reg.envf.fc.toNat x.reg.envf.fo.toNat
  let side := decide (0 < x.fSum)
  let since := fun o : Option Nat => if x.fSide = side then o.getD s.mono else s.mono   -- each side has its own time
  let s := s.modAxis a fun x =>
    { x with fSide := side, fOverAt := if obs then some (since x.fOverAt) else none, fOver := if past then some (since x.fOver) else none,
             vOver := if x.overSpeed then x.vOver + 1 else 0, eOver := if x.overEnergy then x.eOver + 1 else 0 }
  let x := s.axis a
  let s := if (match x.fOver with | some t => decide (ms x.reg.envf.tf.toNat ≤ s.since t) | none => false) then s.forceCut a else s
  let s := if 2 ≤ x.vOver then s.envCut a (us 100) fun e => { e with speed := true } else s
  let s := if 2 ≤ x.eOver then s.envCut a (us 100) fun e => { e with energy := true } else s
  if (s.axis a).envHold && !(s.axis a).overNow then (s.modAxis a fun x => { x with envHold := false }).bridgeEval a else s

/-! ### rms limit (R153) -/

/-- A first-order filter of 4 s at steps of 25 µs; the state is in units of 1/160,000 of the square (DEDUCED, log 34). -/
def filterSquare (y : Nat) (i : Int) : Nat := y + i.natAbs * i.natAbs - y / 160000

/-- The largest filtered square in mA²: of three phases, or of U and V. -/
def Axis.i2max (x : Axis) : Nat :=
  (if x.reg.mot.kind = 1 then max x.i2.1 (max x.i2.2.1 x.i2.2.2) else max x.i2.1 x.i2.2.1) / 160000

/-- R153: the filter and AXC.I2T at a current step. -/
def Axis.filter (x : Axis) : Axis :=
  let y := { x with i2 := (filterSquare x.i2.1 x.iph.1, filterSquare x.i2.2.1 x.iph.2.1, filterSquare x.i2.2.2 x.iph.2.2) }
  { y with reg := { y.reg with i2t := satNat 16 (Nat.sqrt y.i2max / 10) } }

/-- R153: above 4.0 A the axis is cut; its bridge waits until the root is below 3.0 A. -/
def State.rmsLimit (s : State) (a : AxisIx) : State :=
  let x := s.axis a
  if 16000000 < x.i2max then (s.modAxis a fun x => { x with i2hold := true }).envCut a (us 25) fun e => { e with i2t := true }
  else if x.i2hold ∧ x.i2max < 9000000 then (s.modAxis a fun x => { x with i2hold := false }).bridgeEval a
  else s

/-! ### Calibration (R154) -/

/-- AXC.CAL.STATUS set. -/
def Axis.setCal (x : Axis) (t : ReqStat) : Axis := { x with reg := { x.reg with cal := { x.reg.cal with status := t } } }

/-- A calibration starts: the loops are suspended and the bridge holds its three low-side switches on. -/
def State.calStart (s : State) (a : AxisIx) : State :=
  s.modAxis a fun x => { x.setCal .running with calAt := some s.mono, lowSide := true, duty := (0, 0), dutyNext := (0, 0) }

/-- R154, R155: the pending calibration of an axis can start: in the idle window at rest with no bridges-off cause, or without valid
offsets at once. -/
def State.calReady (s : State) (a : AxisIx) : Bool :=
  let x := s.axis a
  s.fitted a && x.reg.mot.kind != 0 && (!x.reg.cal.ofsok || (s.idleWindow && (x.st == .idle || x.st == .stopped) && (s.offCause a).isNone))

/-- R154: a calibration is requested. One requested while the start-up calibration runs waits behind it (DEDUCED, log 66); any other while
one runs is dropped (DESIGN CHOICE, log 111). -/
def State.calRequest (s : State) (a : AxisIx) : State :=
  let x := s.axis a
  if x.reg.cal.status = .deferred ∨ x.calPend then s
  else if x.reg.cal.status = .running then
    if x.startCal then (s.modAxis a fun x => { x with calPend := true }).event 0x19 a.val 1 else s
  else if s.calReady a then s.calStart a
  else (s.modAxis a fun x => x.setCal .deferred).event 0x19 a.val 1

end Sys2Proof.Machine
end

