-- ==== Sys2Proof/Machine/Control.lean ====
section
/-! DEFINITION. The events of the control engine (chapter 5). The loops of an axis step on the grid of R135; a step brings monotonic time
forward to its next instant of that grid (log 1, log 86). -/

namespace Sys2Proof.Machine

/-- R135: the state at the axis's next instant of a loop that steps every `n` current steps, not before `t`. -/
def State.toStep (s : State) (x : AxisIx) (n t : Nat) : State := s.upTo (nextOn (10000 * n) (max s.mono t) (carrierOf x))

/-- R135, R136, R138, R153, R154: the current-loop step of an axis with the medians of its phase-current conversions, mA, from which the
offsets are taken. -/
def execCurrentLoopStep (x : AxisIx) (iu iv iw : BitVec 16) (s : State) : Out :=
  if !s.online then .next s else
  let y := s.axis x
  if y.reg.mot.kind = 0 then .next s else
  let s := (s.toStep x 1 y.curAt).modAxis x fun y => y.turn
  let o := y.reg.iofs
  let u := iu.toInt - o.u.toInt
  let v := iv.toInt - o.v.toInt
  let w := iw.toInt - o.w.toInt
  let i := if y.reg.mot.phswap then (u, w, v) else (u, v, w)
  let ang := (y.angle s.mono).getD (Config.freeInt s.freeSeq)
  let q := if y.reg.mot.kind = 1 then Config.currentQ ang i else i.1
  let d := Config.currentD ang i
  let s := s.used.modAxis x fun y =>
    let y := { y with curAt := s.mono + 1, iph := i, imeas := q, reg := { y.reg with iq := { y.reg.iq with meas := sat16 q } } }
    let y := if y.calibrating then y else y.currentLoop q d s.fel.meas.vbus.toNat
    y.filter
  let pk := 100 * y.reg.envi.toNat
  let s := if pk < i.1.natAbs ∨ pk < i.2.1.natAbs ∨ pk < i.2.2.natAbs then s.envCut x (us 25) fun e => { e with ipeak := true } else s
  .next (s.rmsLimit x)

/-- R119, R135, R138, R146, R151: the speed-loop step of an axis. -/
def execSpeedLoopStep (x : AxisIx) (s : State) : Out :=
  if !s.online then .next s else
  let s := s.toStep x 4 (s.axis x).spdAt
  let s := s.modAxis x fun y => { y.measureSpeed s.mono with spdAt := s.mono + 1 }
  let y := s.axis x
  let s := if y.fb.cfg.src != 3 && decide (ms 10 < s.since y.illAt) then s.fbRelease x else s
  if (s.axis x).reg.mot.kind = 0 then .next s else
  let s := s.modAxis x fun y => ((if y.calibrating then y else y.speedLoop).fmapSample).estimate
  .next ((s.forcePeak x).envelope x)

/-- R135, R138, R86: the position-loop step of an axis. -/
def execPositionLoopStep (x : AxisIx) (s : State) : Out :=
  if !s.online then .next s else
  let s := s.toStep x 16 (s.axis x).posAt
  let y := s.axis x
  let past := y.st != .disabled && y.hasFb && decide ((y.reg.trustb.toNat : Int) < y.ferr.natAbs)
  let s := s.modAxis x fun y =>
    let z := if y.reg.mot.kind = 0 || y.calibrating then y else y.positionLoop
    { z with ferrOver := past, posAt := s.mono + 1 }
  if past && y.ferrOver then
    .next ((s.modAxis x fun y => (y.modFlt fun f => { f with ferr := true }).setTrust .untrusted).stopAxis x 5)
  else .next s

/-- R153: a phase current above 14 A switches the stage off. -/
def execOvercurrentComparator (x : AxisIx) (s : State) : Out :=
  if !s.online then .next s else .next (s.envCut x (us 25) fun e => { e with ochw := true })

/-- R153: the stage temperature in °C: above 150 °C a cut; below 130 °C the cut may be cleared (DEDUCED, log 35). -/
def execStageOvertemp (x : AxisIx) (t : BitVec 8) (s : State) : Out :=
  if !s.online then .next s else
  if 150 < t.toNat then
    .next ((s.modAxis x fun y => { y with hot := true }).envCut x (us 25) fun e => { e with otemp := true })
  else if t.toNat < 130 then .next (s.modAxis x fun y => { y with hot := false })
  else .next s

/-- R154: the pending calibrations start together when the idle window opens. -/
def execCalibrationStart (s : State) : Out :=
  if !s.online then .next s else
  .next (s.forAll (allAxes.filter fun a => (s.axis a).reg.cal.status == .deferred && s.calReady a) State.calStart)

/-- R154: 6.4 ms of samples have been averaged, mA per phase. -/
def execCalibrationComplete (x : AxisIx) (mu mv mw : BitVec 16) (s : State) : Out :=
  if !s.online then .next s else
  let y := s.axis x
  match y.calAt with
  | some t =>
    if !y.calibrating then .next s else
    let s := s.upTo (t + us 6400)
    let ok := [mu, mv, mw].all fun m => decide (m.toInt.natAbs ≤ 500)
    let wait := y.calPend
    let s := s.modAxis x fun y => { y.zeroInt with calAt := none, lowSide := false, startCal := false, calPend := false }
    if ok then
      .next ((s.modAxis x fun y => { y with reg := { y.reg with
        iofs := { u := mu.setWidth 10, v := mv.setWidth 10, w := mw.setWidth 10 }
        cal := { ofsok := true, status := if wait then .deferred else .done } } }).bridgeEval x)
    else .next (((s.modAxis x fun y => y.setCal (if wait then .deferred else .failed)).event 0x19 x.val 2).bridgeEval x)
  | none => .next s

/-- R149: AXC.FMAPCMD.CLEAR. -/
def execFmapClear (x : AxisIx) (s : State) : Out :=
  if !s.online then .next s else
  .next (if s.fitted x then s.modAxis x fun y => { y with reg := { y.reg with fmap := Vector.replicate 64 {} } } else s)

/-- R154: AXC.CAL.REQ. -/
def execCalReq (x : AxisIx) (s : State) : Out :=
  if !s.online then .next s else .next (if s.fitted x then s.calRequest x else s)

end Sys2Proof.Machine
end

