-- ==== Sys2Proof/Machine/AddrMap.lean ====
section
/-! DEFINITION. The Filif address map and its rights (Table 1-7, Table 10-7, R5 to R8, R281, R282). Requesters 0 to 4 are the Filif
contexts, 5 the service session, 6 and 7 the sessions on TN. -/

namespace Sys2Proof.Machine

/-! ### The address map (Table 1-7) -/

/-- Where an address lies, with its offset in the block. -/
inductive Place where
  | code (off : Nat)
  | memory
  | axis (a : AxisIx) (off : Nat)
  | blaze (a : AxisIx) (off : Nat)
  | load (c : ChanIx) (off : Nat)
  | field (off : Nat)
  | feedback (a : AxisIx) (off : Nat)
  | kerf (p : PortalIx) (off : Nat)
  | port (off : Nat)
  | mailbox (m : Fin 64) (off : Nat)
  | frame (p : PortalIx) (off : Nat)
  | safety (off : Nat)
  | system (off : Nat)
  | nowhere
  deriving DecidableEq, Repr

/-- Table 1-7. -/
def placeOf (a : Nat) : Place :=
  if a < 0x00400000 then .code a
  else if dataBase ≤ a ∧ a < dataEnd ∨ inBase ≤ a ∧ a < outEnd then .memory
  else if 0x21000000 ≤ a ∧ a < 0x21040000 then
    .axis ⟨(a - 0x21000000) / 0x1000 % 64, Nat.mod_lt _ (by decide)⟩ (a % 0x1000)
  else if 0x22000000 ≤ a ∧ a < 0x22008000 then
    .blaze ⟨(a - 0x22000000) / 0x200 % 64, Nat.mod_lt _ (by decide)⟩ (a % 0x200)
  else if 0x23000000 ≤ a ∧ a < 0x23000C00 then
    .load ⟨(a - 0x23000000) / 0x40 % 48, Nat.mod_lt _ (by decide)⟩ (a % 0x40)
  else if 0x24000000 ≤ a ∧ a < 0x24001000 then .field (a - 0x24000000)
  else if 0x25000000 ≤ a ∧ a < 0x25010000 then
    .feedback ⟨(a - 0x25000000) / 0x400 % 64, Nat.mod_lt _ (by decide)⟩ (a % 0x400)
  else if 0x26000000 ≤ a ∧ a < 0x26010000 then
    .kerf ⟨(a - 0x26000000) / 0x1000 % 16, Nat.mod_lt _ (by decide)⟩ (a % 0x1000)
  else if 0x27000000 ≤ a ∧ a < 0x27001000 then .port (a - 0x27000000)
  else if 0x28000000 ≤ a ∧ a < 0x28040000 then
    .mailbox ⟨(a - 0x28000000) / 0x1000 % 64, Nat.mod_lt _ (by decide)⟩ (a % 0x1000)
  else if 0x30000000 ≤ a ∧ a < 0x31000000 then
    .frame ⟨(a - 0x30000000) / 0x100000 % 16, Nat.mod_lt _ (by decide)⟩ (a % 0x100000)
  else if 0x40000000 ≤ a ∧ a < 0x40002000 then .safety (a - 0x40000000)
  else if 0xF0000000 ≤ a ∧ a < 0xF0010000 then .system (a - 0xF0000000)
  else .nowhere

/-- SYS.VIOLN, SYS.VIOLA and SYS.BRK0 to BRK7, which are outside the program's rights (R282). -/
def sessionOnly (off : Nat) : Bool := decide (0x80 ≤ off ∧ off < 0x88) || decide (0x100 ≤ off ∧ off < 0x120)

/-- Table 10-7: the program may read the place. -/
def Place.progRead : Place → Bool
  | .code _ | .port _ | .nowhere => false
  | .mailbox _ off => decide (off < 4)
  | .system off => !sessionOnly off
  | _ => true

/-- Table 10-7: the program may write the place at address `a`. -/
def Place.progWrite (a : Nat) : Place → Bool
  | .code _ | .mailbox _ _ | .frame _ _ | .nowhere => false
  | .memory => inData a 1 || inOutput a 1
  | .safety off => decide (0x1000 ≤ off)
  | .system off => !sessionOnly off
  | _ => true

/-- The ranges of Table 1-7 as numbers: two addresses of one number lie in one range (R283, R432). -/
def rangeOf (a : Nat) : Nat :=
  match placeOf a with
  | .code _ => 1
  | .memory => if a < inBase then 2 else if a < outBase then 3 else 4
  | .axis _ _ => 5
  | .blaze _ _ => 6
  | .load _ _ => 7
  | .field _ => 8
  | .feedback _ _ => 9
  | .kerf _ _ => 10
  | .port _ => 11
  | .mailbox _ _ => 12
  | .frame _ _ => 13
  | .safety _ => 14
  | .system _ => 15
  | .nowhere => 0

end Sys2Proof.Machine
end

