-- ==== Sys2Proof/Machine/Container.lean ====
section
/-! DEFINITION. The image container: its layout, sections, register records and declarations, and the checks that look at its bytes
alone (R331, R332, R416; Table 13-1 to Table 13-4; codes 1 to 4, 7 and 8 of Table 13-5). -/

namespace Sys2Proof.Machine

/-! ### Layout (Table 13-1 to Table 13-3) -/

/-- A container. -/
abbrev Container := List Byte

/-- Offset and length of the section of type `t`, 1 to 6 (Table 13-2). -/
def Container.sectOff (c : Container) (t : Nat) : Nat := (wordAt c (0x74 + 16 * t)).toNat
@[inherit_doc Container.sectOff] def Container.sectLen (c : Container) (t : Nat) : Nat := (wordAt c (0x78 + 16 * t)).toNat

/-- The bytes of the section of type `t`. -/
def Container.sect (c : Container) (t : Nat) : List Byte := bytesAt c (c.sectOff t) (c.sectLen t)

/-- E: the end of SYMBOLS, rounded up to a multiple of 16. -/
def Container.trailer (c : Container) : Nat := (c.sectOff 6 + c.sectLen 6 + 15) / 16 * 16

/-- KEEPDATA. -/
def Container.keepData (c : Container) : Bool := (wordAt c 0x0C).getLsbD 0

/-- ROLLBACK. -/
def Container.rollback (c : Container) : Word := wordAt c 0x14

/-- The bytes that SIG covers. -/
def Container.signed (c : Container) : List Byte := c.take (c.trailer + 0x10)

/-- The `n` bytes at an offset are zero. -/
def zeroAt (c : List Byte) (off n : Nat) : Bool := (bytesAt c off n).all (· == 0)

/-! ### Codes 1 to 4 -/

/-- The sections lie in ascending order from 0x100 up to E, apart, with zero between them (R331). -/
def Container.sectionsOk (c : Container) : Bool :=
  let e := c.trailer
  let ends := fun t => if t = 0 then 0x100 else c.sectOff t + c.sectLen t
  ([1, 2, 3, 4, 5, 6].all fun t =>
    wordAt c (0x70 + 16 * t) == BitVec.ofNat 32 t && c.sectOff t % 16 == 0 && decide (0x100 ≤ c.sectOff t)
      && decide (ends (t - 1) ≤ c.sectOff t) && zeroAt c (ends (t - 1)) (c.sectOff t - ends (t - 1)))
    && zeroAt c (ends 6) (e - ends 6)

/-- Code 1, FORMAT. -/
def Container.formatOk (c : Container) : Bool :=
  let n := (wordAt c 8).toNat
  decide (0x100 ≤ c.length) && c.take 4 == [0x46, 0x4C, 0x49, 0x46] && bytesAt c 4 2 == [1, 0] && bytesAt c 6 2 == [0, 1]
    && n == c.length && decide (n ≤ 67108864) && wordAt c 0x0C &&& 0xFFFFFFFE == 0 && wordAt c 0x1C &&& 0xFFFFFFFC == 0
    && wordAt c 0x20 &&& 0xFFFF0000 == 0 && zeroAt c 0x24 12 && zeroAt c 0x48 56 && zeroAt c 0xE0 32
    && c.sectionsOk && n == c.trailer + 208 && zeroAt c (c.trailer + 4) 12

/-- Code 2, CHECK. -/
def Container.checkOk (c : Container) : Bool :=
  ([1, 2, 3, 4, 5, 6].all fun t => (wordAt c (0x7C + 16 * t)).toNat == crc32c (c.sect t))
    && (wordAt c c.trailer).toNat == crc32c (c.take c.trailer)

/-- A signature under the key of an anchor slot; an empty slot verifies nothing (R414). -/
def verifies (key : Option (List Byte)) (msg sig : List Byte) : Bool :=
  match key with
  | some k => Config.sigOk k msg sig
  | none => false

/-- Code 3, SIG, under the IMAGE anchor. -/
def Container.sigOk (c : Container) (key : Option (List Byte)) : Bool := verifies key c.signed (bytesAt c (c.trailer + 0x10) 96)

/-- Code 4, SAFESIG, under the SAFETY anchor. -/
def Container.safeSigOk (c : Container) (key : Option (List Byte)) : Bool :=
  verifies key (bytesAt c 0x18 4 ++ c.sect 5) (bytesAt c (c.trailer + 0x70) 96)

/-! ### Register records (R332) -/

/-- Words of a run of bytes. -/
def wordsOf (bs : List Byte) (n : Nat) : List Word := (List.range n).map fun i => wordAt bs (4 * i)

/-- The records of a PARAM or SAFE section; none where one is cut short. `fuel` bounds their number. -/
def parseRecs : Nat → List Byte → Option (List (Nat × List Word))
  | 0, bs => if bs.isEmpty then some [] else none
  | fuel + 1, bs =>
    if bs.isEmpty then some [] else
    let n := (wordAt bs 4).toNat
    if bs.length < 8 + 4 * n then none
    else (parseRecs fuel (bs.drop (8 + 4 * n))).map fun rs => ((wordAt bs 0).toNat, wordsOf (bs.drop 8) n) :: rs

/-- The records of a section, none where they do not parse. -/
def recsOf (bs : List Byte) : List (Nat × List Word) := (parseRecs bs.length bs).getD []

/-- The words of a record with their addresses. -/
def recWords (r : Nat × List Word) : List (Nat × Word) := r.2.zipIdx.map fun e => (r.1 + 4 * e.2, e.1)

/-- R266: the record of the safe output image. -/
def isSafeOut (r : Nat × List Word) : Bool := r.1 == outBase && r.2.length == 16384

/-- R266: the safe output image of a PARAM section. -/
def safeOutOf (param : List Byte) : List Byte :=
  match (recsOf param).find? isSafeOut with
  | some r => (r.2.map fun w => leBytes 4 w.toNat).flatten
  | none => []

/-! ### Tags and call-outs (Table 13-4, R311, R327) -/

/-- A priority of two bits. -/
def prioOf (n : Nat) : Fin 4 := ⟨n % 4, by omega⟩

/-- The bytes of TAGS entry `i`. -/
def tagEntry (t : List Byte) (i : Nat) : List Byte := bytesAt t (8 + 24 * i) 24

/-- A TAGS entry of a type that Table 12-1 lists. -/
def tagDecl (b : List Byte) : Option TagDecl :=
  (TagType.ofCode (b.getD 2 0)).map fun k =>
    { tag := (wordAt b 0).setWidth 14, type := k, retain := (b.getD 3 0).getLsbD 0, newpre := (b.getD 3 0).getLsbD 1,
      init := { w0 := wordAt b 8, w1 := wordAt b 12, w2 := wordAt b 16, w3 := wordAt b 20 } }

/-- The tags and the call-outs that a TAGS section declares. -/
def tagCount (t : List Byte) : Nat := (wordAt t 0).toNat
@[inherit_doc tagCount] def declCount (t : List Byte) : Nat := (wordAt t 4).toNat
@[inherit_doc tagCount] def tagsOf (t : List Byte) : List TagDecl := (List.range (tagCount t)).filterMap fun i => tagDecl (tagEntry t i)
@[inherit_doc tagCount] def declsOf (t : List Byte) : List Decl :=
  (List.range (declCount t)).map fun i =>
    let o := 8 + 24 * tagCount t + 8 * i
    { num := (wordAt t o).setWidth 16, prio := prioOf (getF (wordAt t o) 16 2).toNat, entry := wordAt t (o + 4) }

/-- The presets that NEWPRE may name (R340). -/
def TagType.hasPreset (k : TagType) : Bool := k == .ton || k == .tof || k == .tp || k == .tonr || k == .ctud || k == .ramp

/-- R311: no reserved bit of an initial state is set (Table 12-2, Table 12-3). -/
def initOk (k : TagType) (q : Quad) : Bool :=
  match k with
  | .ton | .tof | .tp | .tonr => q.w3 &&& 0xF8000000 == 0
  | .edge => q.w0 &&& 0xFFFFFFF8 == 0 && q.w1 == 0 && q.w2 == 0 && q.w3 == 0
  | .ctud => q.w2 &&& 0xFFFFFFF0 == 0 && q.w3 == 0
  | .sr | .rs => q.w0 &&& 0xFFFFFFFE == 0 && q.w1 == 0 && q.w2 == 0 && q.w3 == 0
  | .ramp => true

/-- Table 12-9: the number is not in a reserved range. -/
def callNumOk (n : Nat) : Bool :=
  decide (n ≤ 0x893) || decide (0xA00 ≤ n ∧ n ≤ 0xA7F ∧ n % 8 < 5) || decide (0xC00 ≤ n ∧ n ≤ 0xC3F)

/-- A TAGS entry keeps Table 13-4 and R311. -/
def tagEntryOk (b : List Byte) : Bool :=
  match tagDecl b with
  | some d => wordAt b 0 &&& 0xFC00C000 == 0 && wordAt b 4 == 0 && initOk d.type d.init && (!d.newpre || d.type.hasPreset)
  | none => false

/-- The numbers rise. -/
def rising : List Nat → Bool
  | a :: b :: l => decide (a < b) && rising (b :: l)
  | _ => true

/-- No number stands twice. -/
def distinct : List Nat → Bool
  | a :: l => !l.contains a && distinct l
  | [] => true

/-- Code 8, TAGS, but for what R327 asks of FIO.ICFG. -/
def Container.tagsOk (c : Container) : Bool :=
  let t := c.sect 3
  let n := tagCount t
  let m := declCount t
  let ds := declsOf t
  decide (8 ≤ t.length) && t.length == 8 + 24 * n + 8 * m
    && ((List.range n).all fun i => tagEntryOk (tagEntry t i)) && rising ((tagsOf t).map fun d => d.tag.toNat)
    && decide (m ≤ 1024) && distinct (ds.map fun d => d.num.toNat) && (ds.all fun d => callNumOk d.num.toNat)
    && (ds.all fun d => d.entry.toNat % 4 == 0 && decide (d.entry.toNat < c.sectLen 1))
    && ((List.range m).all fun i => wordAt t (8 + 24 * n + 8 * i) &&& 0xFFFC0000 == 0)

/-- Code 7, SIZE (R332). -/
def Container.sizeOk (c : Container) : Bool :=
  let n := c.sectLen 1
  let e := (wordAt c 0x10).toNat
  decide (4 ≤ n ∧ n ≤ 4194304 ∧ n % 4 = 0) && decide (c.sectLen 2 ≤ 3932160) && decide (e % 4 = 0 ∧ e < n)

/-! ### The SAFE section (R184, Table 7-2) -/

/-- The parameters named by a word of SST.PAR0 to PAR2. -/
def SafePar.img (q : SafePar) (off : Nat) (w : Word) : SafePar :=
  match off with
  | 0x24 => { q with disc := getF w 0 10, zsth := getF w 10 3, degwin := getF w 16 5, arsync := getF w 24 5 }
  | 0x28 => { q with wdia := getF w 0 16, ppr := getF w 16 10, wpen := getF w 26 4, egren := w.getLsbD 30 }
  | 0x2C => { q with zstl1 := getF w 0 4, zstl2 := getF w 4 4, zsdwell := getF w 8 11 }
  | _ => q

/-- The IMG bits of SST.PAR0 to PAR2. -/
def safeMask (off : Nat) : Word :=
  match off with
  | 0x24 => 0x1F1F1FFF
  | 0x28 => 0x7FFFFFFF
  | 0x2C => 0x7FFFF
  | _ => 0

/-- The base of the safety status window. -/
def sstBase : Nat := 0x40000000

/-- The parameter set of a SAFE section; what no record names takes its default. -/
def safeParOf (safe : List Byte) : SafePar :=
  ((recsOf safe).map recWords).flatten.foldl (fun q e => q.img (e.1 - sstBase) e.2) {}

/-- The records of a SAFE section are well formed and confined to SST.PAR0 to PAR2. -/
def safeRecsOk (safe : List Byte) : Bool :=
  match parseRecs safe.length safe with
  | some rs => (rs.all fun r => decide (sstBase + 0x24 ≤ r.1 ∧ r.1 < sstBase + 0x30) && r.1 % 4 == 0) && (rs.map recWords).flatten.all fun e =>
      decide (sstBase + 0x24 ≤ e.1 ∧ e.1 < sstBase + 0x30) && e.2 &&& ~~~(safeMask (e.1 - sstBase)) == 0
  | none => false

end Sys2Proof.Machine
end

