-- ==== Sys2Proof/Machine/SafetyOps.lean ====
section
/-! DEFINITION. Channel A and Hinge: pairs, zero speed, side conditions, switches, safety modes, and what the portals take from
channel A (chapter 7, and R60 to R64). -/

namespace Sys2Proof.Machine

/-! ### Pairs (R187 to R192) -/

/-- One grid instant of a pair with readings `r`; `clean`: neither input has a test-pulse fault; `other`: the other channel's
frame lets the fault clear (R187 to R189). -/
def Pair.instant (p : Pair) (disc : Nat) (r : BitVec 2) (clean other : Bool) : Pair :=
  let diff := if r = 1 ∨ r = 2 then p.diff + 1 else 0
  let safeRow := if r = 0 && clean then p.safeRow + 1 else 0
  let flt := (p.flt && !(decide (disc ≤ safeRow) && other)) || decide (diff = disc + 1)
  { raw := r, diff := diff, safeRow := safeRow, flt := flt, val := r == 3 && !flt }

/-- The other channel's frame reports the pair without a fault of its own (R189; log 7). -/
def Pair.clears (p : Pair) (disc : Nat) : Bool := !p.flt || decide (disc ≤ p.safeRow)

/-- R189: the other channel's fault is adopted, and holds the pair at its safe value. -/
def Pair.adopt (p q : Pair) (disc : Nat) : Pair := if q.clears disc then p else { p with flt := true, val := false }

/-- The two readings of a pair among a portal's six (FI k and k + 1). -/
def pairBits (r : BitVec 6) (k : Nat) : BitVec 2 := r.extractLsb' k 2

/-- One grid instant of a portal's three pairs, with its six readings. -/
def PortalPairs.instant (q o : PortalPairs) (disc : Nat) (link : Bool) (r : BitVec 6) : PortalPairs :=
  let bad := q.tpf ||| q.held
  let r := r &&& ~~~bad
  let f := fun (p op : Pair) k => p.instant disc (pairBits r k) (pairBits bad k == 0) (!link || op.clears disc)
  { q with dcl := f q.dcl o.dcl 0, eeh := f q.eeh o.eeh 2, iso := f q.iso o.iso 4 }

/-- The readings a portal's pairs last used. -/
def PortalPairs.raw (q : PortalPairs) : BitVec 6 :=
  (q.dcl.raw.setWidth 6) ||| (q.eeh.raw.setWidth 6 <<< 2) ||| (q.iso.raw.setWidth 6 <<< 4)

/-- The six readings of portal `n` among the 96 of a grid instant. -/
def sixOf (fi : BitVec 96) (n : Nat) : BitVec 6 := fi.extractLsb' (6 * n) 6

/-- R190: a grid instant now falls within a test gap or the 200 µs after it. -/
def State.inGap (s : State) : Bool :=
  s.fio.gapAt.toList.any fun g => match g with | some t => decide (t ≤ s.mono ∧ s.mono < t + us 600) | none => false

/-! ### Wheel pulses and the zero-speed permit (R198 to R200) -/

/-- Tth in µs (R198). -/
def SafePar.tth (q : SafePar) : Nat :=
  if q.ppr = 0 ∨ q.zsth = 0 then 0 else 3141592653589793 * q.wdia.toNat * 3600 / (10 * q.ppr.toNat * q.zsth.toNat * 1000000000000000)

/-- R198: the input is above threshold. -/
def Wheel.above (w : Wheel) (tth now : Nat) : Bool :=
  match w.period, w.last with
  | some p, some l => decide (p < us tth ∧ now - l < us tth)
  | _, _ => false

/-- R199: a pulse period shorter than Tth ÷ 2. -/
def Wheel.fast (w : Wheel) (tth : Nat) : Bool := match w.period with | some p => decide (2 * p < us tth) | none => false

/-- R199: no pulse for 2 s, from the last pulse or from reset release at `since`. -/
def Wheel.still (w : Wheel) (since now : Nat) : Bool := decide (sec 2 ≤ now - w.last.getD since)

/-- The enabled wheel-pulse inputs. -/
def SafePar.wheels (q : SafePar) : List (Fin 4) := (List.finRange 4).filter fun i => q.wpen.getLsbD i.val

/-- R198 to R200: wheel zero speed, WPFLT and the permit at a grid instant. A wheel-pulse input with a test-pulse fault never counts as below
threshold (DEDUCED, log 115). -/
def Channel.speed (c : Channel) (q : SafePar) (now : Nat) : Channel :=
  let on := q.wheels
  let up := fun i : Fin 4 => (c.wheels[i.val]).above q.tth now
  let below := if on.all fun i => !up i && !c.wpHeld.getLsbD i.val then some (c.below.getD now) else none
  let above := if on.all up then some (c.above.getD now) else none
  let bad := on.any fun i => (c.wheels[i.val]).fast q.tth && on.any fun j => j != i && (c.wheels[j.val]).still c.since now
  let heal := match above with | some t => decide (sec 10 ≤ now - t) | none => false
  let wpflt := bad || (c.wpflt && !heal)
  let wzs := !wpflt && (match below with | some t => decide (ms q.zsdwell.toNat ≤ now - t) | none => false)
  { c with below := below, above := above, wpflt := wpflt, wzs := wzs, permit := wzs && c.zs.val }

/-! ### Channels -/

/-- Channel A runs: neither in reset nor failed nor silent. -/
def Safety.aRuns (f : Safety) : Bool := !f.aReset && !f.a.failed && !f.a.silent

/-- Hinge runs. -/
def Safety.hRuns (f : Safety) : Bool := !f.h.failed && !f.h.silent

/-- R182: the degradation path to channel A's switches and request is armed, or that to Hinge's. -/
def Safety.armedA (f : Safety) : Bool := f.aReset || f.a.failed || f.a.silent
@[inherit_doc Safety.armedA] def Safety.armedH (f : Safety) : Bool := f.h.failed || f.h.silent

/-- SST.EVT bits set; channel A has not yet shown them (R217). -/
def Safety.raise (f : Safety) (b : BitVec 11) : Safety := { f with evt := f.evt ||| b, evtNew := f.evtNew ||| b }

/-- A channel whose circuits restart at `now`: its fault line, the faults of step 4 of Table 7-8 and the start-up switch tests stay until
module reset (R181, R192, R213). -/
def Channel.afresh (c : Channel) (now : Nat) : Channel :=
  { failed := c.failed, since := now, portals := c.portals.map fun q => { held := q.held }
    zsHeld := c.zsHeld, wpHeld := c.wpHeld, swDone := c.swDone, sdeDone := c.sdeDone, sdeBad := c.sdeBad }

/-- The channel may switch the enable of side `d` on: its permit is present and its switch has passed its start-up test (R201, R460). -/
def Channel.enables (c : Channel) (d : Fin 2) : Bool := c.permit && c.sdeDone && !c.sdeBad.getLsbD d.val

/-- SST.ARB (register table after R216). -/
def Safety.arbWord (f : Safety) : Word :=
  putV f.arbItem 0 ||| putV f.arbOut 4 ||| putB f.arbInput 6 ||| putV f.arbPort 8

/-- The parameters by which both channels decide: the locked set (R184). -/
def Safety.active (f : Safety) : SafePar := f.locked.getD f.par

/-- The safety part changed. -/
def State.modSafe (s : State) (f : Safety → Safety) : State := { s with safe := f s.safe }

/-- The fitted portals of a side. -/
def State.sidePortals (s : State) (d : Fin 2) : List PortalIx :=
  allPortals.filter fun p => (s.portal p).fitted && (s.portal p).side == d

/-- The fitted portals of a side as Hinge has them locked (R184). -/
def Safety.hPortals (f : Safety) (d : Fin 2) : List PortalIx :=
  allPortals.filter fun p => f.hFit.getLsbD p.val && f.hSide.getLsbD p.val == (d == 1)

/-- Each portal's fitted state and side, as a parameter load takes them (R184). -/
def State.portalMap (s : State) : BitVec 16 × BitVec 16 :=
  let of := fun f : PortalIx → Bool => allPortals.foldl (fun (b : BitVec 16) p => if f p then b ||| (1#16 <<< p.val) else b) 0
  (of fun p => (s.portal p).fitted, of fun p => (s.portal p).side == 1)

/-- Both sides. -/
def bothSides : List (Fin 2) := List.finRange 2

/-- A switch of a loop has a fault (R196). HS of side d is switch 2d, LS 2d + 1. -/
def Safety.loopFault (f : Safety) (d : Fin 2) : Bool :=
  (List.range 2).any fun i => (f.stuck ||| f.noclose).getLsbD (2 * d.val + i)

/-- R170, R193: no LOCKOCC withholding on the side. -/
def State.lockOcc (s : State) (d : Fin 2) : Bool := (s.sidePortals d).any fun p => (s.krf p).reg.stat.lockocc && !(s.krf p).ovrActs

/-- Table 7-5, channel A's column, but for the mode. -/
def State.aCond (s : State) (d : Fin 2) : Bool :=
  ((s.sidePortals d).all fun p => (s.portal p).cl) && !s.lockOcc d && !s.safe.whold.getLsbD d.val
    && !s.safe.loopFault d && s.safe.locked.isSome

/-- Table 7-5, Hinge's column, but for the mode. -/
def State.hCond (s : State) (d : Fin 2) : Bool :=
  ((s.safe.hPortals d).all fun p => let q := s.safe.h.portals[p.val]; q.dcl.val && !q.iso.flt)
    && !s.safe.loopFault d && s.safe.locked.isSome

/-- Table 7-5, Mode: Table 7-9 permits the channel to close its switch. -/
def SMode.permits : SMode → SafeCh → Bool
  | .normal, _ | .linkloss, _ => true
  | .degA, ch => ch == .a
  | .degH, ch | .resync, ch => ch == .h
  | _, _ => false

/-- Table 7-5 as a whole: the channel's side condition, as it reports and compares it (R203, R216). -/
def State.sideCond (s : State) (ch : SafeCh) (d : Fin 2) : Bool :=
  s.safe.mode.permits ch && (match ch with | .a => s.aCond d | .h => s.hCond d)

/-- The loop of a side is closed: both switches driven (R180). -/
def Safety.loop (f : Safety) (d : Fin 2) : Bool := f.drive.getLsbD (2 * d.val) && f.drive.getLsbD (2 * d.val + 1)

/-- R209: after expiry an open loop stays open, and a closed one stays closed only while the deciding channel has no permit. -/
def Safety.mayClose (f : Safety) (d : Fin 2) (permit : Bool) : Bool :=
  !f.exHold[d.val] && (!f.expired || (f.loop d && !permit))

/-- Table 7-9: the switches of a loop as a channel drives them at its grid instant: HS and LS. The other channel's switch follows its
degradation path only while that is armed (R182); in RESYNC Hinge keeps the path until the mode ends, also once channel A's reset line is
released (DESIGN CHOICE, log 95). -/
def State.switches (s : State) (ch : SafeCh) (d : Fin 2) : Bool × Bool :=
  let f := s.safe
  let hs := f.drive.getLsbD (2 * d.val)
  let ls := f.drive.getLsbD (2 * d.val + 1)
  let a := s.aCond d && f.mayClose d f.a.permit
  let h := s.hCond d && f.mayClose d f.h.permit
  match f.mode, ch with
  | .normal, .a => (s.aCond d && !f.exHold[d.val], ls)
  | .normal, .h => (hs, s.hCond d && !f.exHold[d.val])
  | .linkloss, .a => (a, ls)
  | .linkloss, .h => (hs, h)
  | .resync, .a => (hs, ls)
  | .resync, .h => (f.held[d.val] && h, h)
  | .degH, .a => (false, ls)
  | .degH, .h => (if f.armedA then h else hs, h)
  | .degA, .a => (a, f.armedH && a)
  | .degA, .h => (hs, ls)
  | _, _ => (false, false)

/-- Table 7-9: the side drive enable of a side; the request path is armed as R182 says. A channel that does not run requests nothing, but
in RESYNC Hinge holds the request (R201). Without a locked parameter set it stays off (R184, R338). -/
def Safety.sdeOf (f : Safety) (d : Fin 2) : Bool :=
  f.locked.isSome && match f.mode with
  | .normal | .undecided | .linkloss => f.h.enables d && f.req[d.val] && f.aRuns
  | .resync => f.h.enables d && f.req[d.val]
  | .degH => f.h.enables d && (f.armedA || f.req[d.val])
  | .degA => f.a.enables d && f.armedH && f.aRuns
  | _ => false

/-- R200: PRT.STAT.ZSP of a side; a channel that does not run has no permit. -/
def State.zspOf (s : State) (d : Fin 2) : Bool :=
  let f := s.safe
  match f.mode with
  | .normal | .undecided => f.aRuns && f.a.permit && f.hRuns && f.h.permit
  | .degA => f.aRuns && f.a.permit
  | .degH => f.h.permit
  | .resync | .linkloss => f.sdeRb.getLsbD d.val && (!f.aRuns || f.a.permit)
  | _ => false

/-! ### What the portals take from the enables and permits -/

/-- ZSP of every portal formed anew; its loss during a movement is recorded (Table 2-4). -/
def State.zspEval (s : State) : State :=
  s.forAll allPortals fun s p =>
    let q := s.portal p
    let z := q.fitted && s.zspOf q.side
    let lost := q.zsp && !z && (s.leaves p).any fun a => (s.axis a).underPlan
    let s := s.modPortal p fun q => { q with zsp := z }
    let s := if q.zsp && !z && (s.krf p).reg.stat.win == .watch then s.kerfClose p else s
    if lost then s.event 0x21 p.val 1 else s

/-- The side drive enables brought in line, then ZSP formed anew, and then the bridges, so that a movement that loses its permit is still
seen as one (R66, R201, Table 3-2). A read-back that agreed with the enable follows it. A side with no fitted portal has no enable (R46). -/
def State.sdeEval (s : State) : State :=
  let on := fun d : Fin 2 => s.safe.sdeOf d && !(s.sidePortals d).isEmpty
  let new := bothSides.filter fun d => on d != s.sde[d.val]
  let rb := new.foldl (fun b d => if b.getLsbD d.val = s.sde[d.val] then putBit b d.val (on d) else b) s.safe.sdeRb
  ({ s with sde := Vector.ofFn on, safe := { s.safe with sdeRb := rb } }.zspEval).forAll new fun s d => s.forAll (s.sidePortals d) State.bridgeEvalPortal

/-! ### Door judgement (R60 to R64) -/

/-- R60, R63: closed and locked, as channel A judges it. -/
def State.clNow (s : State) (p : PortalIx) : Bool :=
  let q := s.portal p
  let a := s.safe.a.portals[p.val]
  if q.iso then q.dcl == 3
  else a.dcl.val && q.home && !q.reg.obs.trap && !q.trapped && !q.reg.obs.lto && !q.eeh && !q.egress
    && (!q.reg.cfg.kerffit || (s.kerf[p.val]).reg.stat.kcond)

/-- CL rises or falls: RETRY, the door cycle and the idle window follow (R58, R64, R228). The rise ends the closing movement, so that after
CL has fallen again without one a verdict sets no KO (R52) (DESIGN CHOICE, log 129). -/
def State.setCl (s : State) (p : PortalIx) (cl : Bool) : State :=
  let q := s.portal p
  if cl = q.cl then s
  else if cl then
    let s := (s.modPortal p fun q => { q with cl := true }).kerfCl p true
    (s.cycleEnd p .cl q.retry).modPortal p fun q => { q with retry := 0, mov := none, counted := false }
  else
    let s := ((s.modPortal p fun q => { q with cl := false }).kerfCl p false).idleClose
    if q.iso then s else s.cycleStart p

/-- R62: EEH as channel A forms it. -/
def State.setEeh (s : State) (p : PortalIx) (e : Bool) : State :=
  let q := s.portal p
  if e = q.eeh then s
  else if e then
    let s := s.modPortal p fun q => { q with eeh := true, egress := true, eehOff := none }
    let s := s.forAll [axisOf p 0, axisOf p 1, axisOf p 2, axisOf p 3] fun s a => s.stopAxis a 4
    (s.cycleEnd p .eeh q.retry).bridgeEvalPortal p
  else (s.modPortal p fun q => { q with eeh := false, eehOff := some s.mono }).bridgeEvalPortal p

/-- R63: ISO as channel A forms it. -/
def State.setIso (s : State) (p : PortalIx) (i : Bool) : State :=
  let q := s.portal p
  if i = q.iso then s
  else
    let s := s.modPortal p fun q => { q with iso := i }
    let s := (s.bridgeEvalPortal p).lsEval (chanOf p 0)
    if i then s.cycleEnd p .iso q.retry else s

/-- The DCL contacts as channel A reads them end the UTO and LTO bounds (R57). -/
def State.setDcl (s : State) (p : PortalIx) (d : BitVec 2) : State :=
  s.modPortal p fun q => { q with dcl := d, utoAt := if d = 0 then none else q.utoAt, ltoAt := if d = 3 then none else q.ltoAt }

/-- A grid instant of channel A for one fitted portal; CL waits for the return from RESYNC (R212). Where EEH rises and CL falls by it at
one instant, EEH comes first: the cycle that the fall begins is not ended by that EEH (DESIGN CHOICE, log 91). -/
def State.judge (s : State) (p : PortalIx) : State :=
  if !(s.portal p).fitted then s else
  let a := s.safe.a.portals[p.val]
  let s := ((s.setDcl p a.dcl.raw).setIso p a.iso.val).setEeh p (!a.eeh.val)
  let s := (s.homeEval p).kerfGrid p
  if s.safe.mode = .resync then s else s.setCl p (s.clNow p)

/-! ### Modes (R206 to R213) -/

/-- A degraded mode (R207). -/
def SMode.degraded : SMode → Bool
  | .resync | .degA | .degH | .linkloss => true
  | _ => false

/-- R209: the degraded window has expired: loops open now stay open. -/
def Safety.expire (f : Safety) : Safety :=
  { f.raise 0x40 with expired := true, exHold := Vector.ofFn fun d : Fin 2 => f.exHold[d.val] || !f.loop d }

/-- R212: the CL = 1 of portals that channel A does not restore falls. -/
def State.dropCl (s : State) : State :=
  (s.forAll allPortals fun s p =>
    if s.safe.clIn.getLsbD p.val then (s.modPortal p fun q => { q with cl := true }).setCl p false else s).modSafe fun f => { f with clIn := 0 }

/-- RST.ARST changed. -/
def State.modArst (s : State) (f : RstArst → RstArst) : State :=
  { s with boot := { s.boot with reg := { s.boot.reg with arst := f s.boot.reg.arst } } }

/-- R213: an absence ends: RST.ARST shows its length where it came of a CHANNEL-A reset. -/
def State.absenceEnd (s : State) : State :=
  if s.safe.aOwn then
    (s.modArst fun r => { r with lastms := satNat 16 (s.since s.safe.aGone / 400000) }).modSafe fun f => { f with aOwn := false }
  else s

/-- A mode is entered: a degraded one starts the window on the first entry since NORMAL, which expires at once where DEGWIN is 0; NORMAL
cancels an unexpired one (R207, R210). A survivor that does not run drives nothing. SDE and ZSP follow. The absence that led to RESYNC
ends with it, unless channel A is still in reset and the mode is not DEG_H (R213). -/
def State.setMode (s : State) (m : SMode) : State :=
  if s.safe.mode = m then s else
  let s := if s.safe.mode = .resync ∧ (m = .degH ∨ !s.safe.aReset) then s.absenceEnd else s
  let s := s.modSafe fun f =>
    let g := if m.degraded then f.raise 0x10 else f
    let g := { g with
      mode := m
      winAt := if m.degraded then some (f.winAt.getD s.mono) else if m == .normal && !f.expired then none else f.winAt
      differ := Vector.replicate 111 0
      drive := if m == .arbitrating || m == .undecided || m == .failed || (m == .degA && !f.aRuns) then 0 else f.drive }
    if m.degraded && f.winAt.isNone && f.active.degwin = 0 then g.expire else g
  (if m = .resync ∨ m = .normal then s else s.dropCl).sdeEval

/-- A switch fault, an arbitration, a channel's failure: the SAFETY record of SST.EVT bit `n`, with SST.ARB (Table 16-3). -/
def State.safetyRecord (s : State) (unit n : Nat) : State := s.event 0x17 unit n s.safe.arbWord.toNat

/-- The record of an arbitration that has ended (R204). -/
def State.arbRecord (s : State) : State :=
  s.safetyRecord (if s.safe.arbPort = 0xFF then moduleUnit else s.safe.arbPort.toNat) 7

/-- A channel is gone: what the mode becomes (Table 7-9, R210); a channel A in reset is no failed one. START and the modes that end only at
reset stay. An arbitration ends by it, with that channel failed (Table 7-8 step 3). -/
def State.channelGone (s : State) (ch : SafeCh) : State :=
  let other := match ch with | .a => s.safe.hRuns | .h => !s.safe.a.failed && !s.safe.a.silent
  let m : SMode := match ch with | .a => .degH | .h => .degA
  match s.safe.mode with
  | .normal | .resync | .linkloss => s.setMode (if other then m else .failed)
  | .arbitrating =>
    let s := s.modSafe fun f => { f with arbOut := match ch with | .a => 1 | .h => 2 }
    (s.setMode (if other then m else .failed)).arbRecord
  | .degH => if ch = .h then s.setMode .failed else s
  | .degA => if ch = .a then s.setMode .failed else s
  | _ => s.sdeEval

/-- R211, R212: channel A's reset line asserts: Hinge holds HS and the request, and the window hardware shows AABS. CL reads 0 from now on.
In RESYNC that is no fall of CL: KCOND stays held and no door cycle begins unless channel A does not restore it (DESIGN CHOICE, log 97). -/
def State.aResetLine (s : State) : State :=
  if s.safe.aReset then s else
  let s := s.absenceEnd.modSafe fun f =>
    { f with aReset := true, aGone := s.mono
             held := Vector.ofFn fun d : Fin 2 => f.drive.getLsbD (2 * d.val)
             unbroken := allPortals.foldl (fun b p => if (f.h.portals[p.val]).dcl.val then b ||| (1#16 <<< p.val) else b) 0
             clIn := allPortals.foldl (fun b p => if (s.portal p).cl then b ||| (1#16 <<< p.val) else b) 0
             a := { f.a with tested := false, frames := 0 } }
  let s := match s.safe.mode with
    | .normal | .linkloss => s.setMode .resync
    | .arbitrating => (s.modSafe fun f => { f with a := { f.a with failed := true } }).channelGone .a
    | .degA => s.setMode .failed
    | _ => s.sdeEval
  if s.safe.mode = .resync then (s.forAll allPortals fun s p => s.modPortal p fun q => { q with cl := false }).idleClose else s.dropCl

/-- R213: channel A's own reset, counted in RST.ARST. -/
def State.aOwnReset (s : State) : State :=
  if s.safe.aReset then s
  else ((s.aResetLine).modSafe fun f => { f with aOwn := true }).modArst fun r => { r with n := satInc r.n }

/-- A switch fault: its bit and SST.EVT.SWF set and a record is written (R196). -/
def State.switchFault (s : State) (sw : Fin 4) (stuck : Bool) : State :=
  let s := s.modSafe fun f =>
    { f.raise 4 with stuck := if stuck then f.stuck ||| (1#4 <<< sw.val) else f.stuck
                     noclose := if stuck then f.noclose else f.noclose ||| (1#4 <<< sw.val) }
  s.safetyRecord moduleUnit 2

/-- The switches whose read-backs a channel checks: its own, and those of a channel that does not run. -/
def Safety.reads (f : Safety) (ch : SafeCh) : List Nat :=
  match ch with
  | .a => if f.hRuns then [0, 2] else [0, 1, 2, 3]
  | .h => if f.aRuns then [1, 3] else [0, 1, 2, 3]

/-- R196: drive against read-back of the switches a channel checks, at its grid instant (DEDUCED, log 47); the enables' read-backs come
with those of LS. -/
def State.switchCheck (s : State) (ch : SafeCh) (rb : BitVec 6) : State :=
  let own := s.safe.reads ch
  let s := s.modSafe fun f =>
    { f with sdeRb := if own.contains 1 then rb.extractLsb' 4 2 else f.sdeRb
             rb := own.foldl (fun b i => if rb.getLsbD i then b ||| (1#4 <<< i) else b &&& ~~~(1#4 <<< i)) f.rb
             badRb := own.foldl (fun v i => vmod v i fun n => if rb.getLsbD i = f.drive.getLsbD i then 0 else n + 1) f.badRb }
  s.forAll ((List.finRange 4).filter fun i => own.contains i.val) fun s i =>
    if s.safe.badRb[i.val] = 3 then s.switchFault i (!s.safe.drive.getLsbD i.val) else s

/-- R197: a test pulse still holds switch `i` open. -/
def Safety.pulsed (f : Safety) (now i : Nat) : Bool :=
  match vget f.pulseAt i none with | some t => decide (now < t + us 300) | none => false

/-- R195, R197: a pulse whose time has run out is judged, unless the switch was meanwhile told to open. -/
def State.pulseJudge (s : State) : State :=
  match s.safe.pulse with
  | none => s
  | some (i, opened) =>
    if s.safe.pulsed s.mono i.val then s else
      let t := s.modSafe fun f => { f with pulse := none }
      if opened || !s.safe.drive.getLsbD i.val then t else t.switchFault i true

/-- The switches a channel decides in this mode driven anew; a closing is dated, and waits for a test pulse to run out (R193 to R195,
R197); a loop found open after expiry stays open (R209). -/
def State.driveLoops (s : State) (ch : SafeCh) : State :=
  s.forAll bothSides fun s d =>
    let (hs, ls) := s.switches ch d
    s.modSafe fun f =>
      let put := fun (b : BitVec 4) (i : Nat) (v : Bool) =>
        if v && !(!f.drive.getLsbD i && f.pulsed s.mono i) then b ||| (1#4 <<< i) else b &&& ~~~(1#4 <<< i)
      let n := put (put f.drive (2 * d.val) hs) (2 * d.val + 1) ls
      let t := fun (v : Vector Nat 4) (i : Nat) => if n.getLsbD i && !f.drive.getLsbD i then vmod v i (fun _ => s.mono) else v
      { f with drive := n, closedAt := t (t f.closedAt (2 * d.val)) (2 * d.val + 1)
               held := if f.mode == .resync then f.held.set d.val (f.held[d.val] && hs) else f.held
               exHold := if f.expired && !(n.getLsbD (2 * d.val) && n.getLsbD (2 * d.val + 1)) then f.exHold.set d.val true else f.exHold }

/-! ### Egress and the status window (R202, R216) -/

/-- R202: the egress output of a side is energised: channel A drives it, and no fitted portal has its EEH pair at the safe value; a
survivor drives it alone (Table 7-12). -/
def State.egressOn (s : State) (d : Fin 2) : Bool :=
  let f := s.safe
  let a := f.aRuns && (s.sidePortals d).all fun p => (f.a.portals[p.val]).eeh.val
  let h := (f.hPortals d).all fun p => (f.h.portals[p.val]).eeh.val
  match f.mode with
  | .degH => h
  | .degA => a
  | .failed => false
  | _ => a && h

/-- R202, R253: with EGREN, FO-14 and FO-15 of a word of outputs indicate egress, whatever the word holds. -/
def State.egressPins (s : State) (w : BitVec 16) : BitVec 16 :=
  if s.safe.active.egren then (w &&& 0x3FFF) ||| (if s.egressOn 0 then 0x4000 else 0) ||| (if s.egressOn 1 then 0x8000 else 0) else w

/-- Whole seconds left in the degraded window; 0 outside it (R207). -/
def State.winLeft (s : State) : Nat :=
  match s.safe.winAt with
  | none => 0
  | some t => if s.safe.mode.degraded && !s.safe.expired then (sec (60 * s.safe.active.degwin.toNat) - s.since t) / sec 1 else 0

/-- SST.PFLT of eight portals from `n0`. -/
def Safety.pflt (f : Safety) (n0 : Nat) : Word :=
  (List.range 8).foldl (fun w i =>
    let q := vget f.a.portals (n0 + i) {}
    let r := vget f.h.portals (n0 + i) {}
    w ||| putB q.dcl.flt (4 * i) ||| putB q.eeh.flt (4 * i + 1) ||| putB q.iso.flt (4 * i + 2)
      ||| putB (q.tpf ||| q.held ||| r.tpf ||| r.held != 0) (4 * i + 3)) 0

/-- Wheel speed in 0.01 km/h, held at 0xFFFF. -/
def Wheel.v (w : Wheel) (q : SafePar) (now : Nat) : Nat :=
  match w.period, w.last with
  | some p, some l =>
    let t := max p (now - l)
    if t = 0 ∨ q.ppr = 0 then 0
    else min 0xFFFF (3141592653589793 * q.wdia.toNat * 360000 * 400 / (10 * q.ppr.toNat * t * 1000000000000000))
  | _, _ => 0

/-- The words SST.MODE to SST.HTTH as channel A writes them now. -/
def State.sstNow (s : State) : Vector Word 13 :=
  let f := s.safe
  let q := f.active
  let side := fun d : Fin 2 =>
    let o := 8 * d.val
    putB (s.sideCond .a d) o ||| putB (s.sideCond .h d) (o + 1) ||| putB (f.rb.getLsbD (2 * d.val)) (o + 2)
      ||| putB (f.rb.getLsbD (2 * d.val + 1)) (o + 3) ||| putB (f.loop d) (o + 4)
      ||| putB (f.a.permit && f.h.permit && !(s.sidePortals d).isEmpty) (o + 5) ||| putB s.sde[d.val] (o + 6)
      ||| putB (q.egren && !s.egressOn d) (o + 7)
  let hok := allPortals.foldl (fun w p => w ||| putB (f.hFit.getLsbD p.val && (f.h.portals[p.val]).dcl.val && !(f.h.portals[p.val]).iso.flt) p.val) 0
  let acl := allPortals.foldl (fun w p => w ||| putB (s.portal p).cl (16 + p.val)) 0
  let mis := match f.zsDis with | some t => decide (sec 2 < s.since t) | none => false
  let below := (List.finRange 4).foldl (fun w i => w ||| putB (!(f.a.wheels[i.val]).above q.tth s.mono) (8 + i.val)) (0 : Word)
  let v := (q.wheels.map fun i => (f.a.wheels[i.val]).v q s.mono).foldl max 0
  #v[putV f.mode.code 0 ||| putB f.expired 4 ||| putB f.a.failed 5 ||| putB f.h.failed 6 ||| putB f.linkUp 7 ||| putB f.clkflt 8
        ||| putV (BitVec.ofNat 16 s.winLeft) 16,
      side 0 ||| side 1, hok ||| acl, f.pflt 0, f.pflt 8,
      putB f.a.wzs 0 ||| putB f.a.zs.val 1 ||| putB f.h.wzs 2 ||| putB f.h.zs.val 3 ||| putB (f.a.wpflt || f.h.wpflt) 4
        ||| putB (f.a.zs.flt || f.h.zs.flt) 5 ||| putB mis 6 ||| below ||| putV (BitVec.ofNat 16 v) 16,
      putV f.stuck 0 ||| putV f.noclose 4 ||| putB ((List.range 4).any (f.pulsed s.mono)) 8,
      putV f.evt 0,
      f.arbWord,
      putV q.disc 0 ||| putV q.zsth 10 ||| putV q.degwin 16 ||| putV q.arsync 24,
      putV q.wdia 0 ||| putV q.ppr 16 ||| putV q.wpen 26 ||| putB q.egren 30,
      putV q.zstl1 0 ||| putV q.zstl2 4 ||| putV q.zsdwell 8,
      BitVec.ofNat 32 q.tth]

/-! ### Parameters (R184, R185) -/

/-- Every value lies in the range of Table 7-2. -/
def SafePar.ok (q : SafePar) : Bool :=
  let n := q.wheels.length
  decide (20 ≤ q.disc.toNat ∧ q.disc.toNat ≤ 500) && decide (1 ≤ q.zsth.toNat ∧ q.zsth.toNat ≤ 5)
    && decide (100 ≤ q.zsdwell.toNat ∧ q.zsdwell.toNat ≤ 2000) && decide (3000 ≤ q.wdia.toNat ∧ q.wdia.toNat ≤ 13000)
    && decide (1 ≤ q.ppr.toNat) && decide (2 ≤ n) && q.zstl1 != q.zstl2 && decide (q.degwin.toNat ≤ 30)
    && decide (1 ≤ q.arsync.toNat ∧ q.arsync.toNat ≤ 30)

/-- R184: the load of a parameter set into Hinge. `echo`: the echoed set agrees. A failed load sets SST.EVT.PARAM and writes a
record; at a start no set is locked, at a switch the old one stays. `m`: each portal's fitted state and side. -/
def State.paramLoad (s : State) (q : SafePar) (echo start : Bool) (m : BitVec 16 × BitVec 16) : State :=
  if q.ok && echo then s.modSafe fun f => { f with locked := some q, par := q, hFit := m.1, hSide := m.2 }
  else
    let s := s.modSafe fun f => { f.raise 0x200 with locked := if start then none else f.locked }
    s.safetyRecord moduleUnit 9

end Sys2Proof.Machine
end

