-- ==== Sys2Proof/Machine/ConfigOps.lean ====
section
/-! DEFINITION. The IMG fields: how PARAM sets them, what Landing rejects in them, and which changes wait for the idle window
(R44, R73, R92, R105, R129, R140, R155, R175, R179, R185, R237, R243, R266, R274, R327, R332, R339, R394, R448, R456). -/

namespace Sys2Proof.Machine

/-! ### IMG fields (R5, R332) -/

/-- The IMG bits of the word at an address; none where the address lies in no block of Table 1-7. -/
def imgMaskAt (a : Nat) : Option Word :=
  match placeOf a with
  | .axis _ off => some (Axc.imgMask off)
  | .load _ off => some (Lsb.imgMask off)
  | .field off => some (Fio.imgMask off)
  | .feedback x off => some (if off < 0x200 then Fbk.imgMask off else if (slotOf x).val = 0 then Po.imgMask off else 0)
  | .kerf _ off => some (Krf.imgMask off)
  | .blaze _ _ | .port _ | .mailbox _ _ | .safety _ => some 0
  | .system off =>
    let o := off % 0x1000
    some (match off / 0x1000 with
      | 0x0 => Sys.imgMask o
      | 0x3 => Fel.imgMask o
      | 0x6 => Cmj.imgMask o
      | 0x7 => Net.imgMask o
      | 0x8 => Prt.imgMask (o % 0x100)
      | 0xB => Pwr.imgMask o
      | _ => 0)
  | .code _ | .memory | .frame _ _ => none
  | .nowhere => if 0xF0000000 ≤ a then some 0 else none

/-- The offset lies in one of the ranges, each from its first byte up to its end. -/
def inRanges (off : Nat) (l : List (Nat × Nat)) : Bool := l.any fun r => decide (r.1 ≤ off ∧ off < r.2)

/-- The word holds fields of a register table, and none of them is IMG: no record writes it (R332). -/
def noImgWord (a : Nat) : Bool :=
  match placeOf a with
  | .axis _ off => inRanges off [(0x10, 0x18), (0x1C, 0x44), (0x6C, 0x80), (0x128, 0x134), (0x138, 0x148), (0x180, 0x19C), (0x400, 0x500)]
  | .load _ off => inRanges off [(0x0C, 0x2C)]
  | .field off =>
    inRanges off [(0x300, 0x314), (0x320, 0x328), (0x340, 0x350), (0x380, 0x394), (0x3A0, 0x3C0), (0x408, 0x41C), (0x800, 0x82C)]
  | .feedback x off => inRanges off [(0x40, 0x70)] || ((slotOf x).val == 0 && inRanges off [(0x204, 0x214), (0x240, 0x280)])
  | .kerf _ off => inRanges off [(0x20, 0x54), (0x60, 0x64)]
  | .blaze _ _ => true
  | .port off => inRanges off [(0x0, 0x400), (0xFFC, 0x1000)]
  | .mailbox _ off => off < 4
  | .safety off => inRanges off [(0x0, 0x24), (0x30, 0x38), (0x1000, 0x1008)]
  | .system off =>
    let o := off % 0x1000
    match off / 0x1000 with
    | 0x0 => inRanges o [(0x0, 0x14), (0x1C, 0x20), (0x24, 0x40), (0x80, 0x88), (0x100, 0x120)]
    | 0x1 => o < 0x1C
    | 0x2 => o < 0x18
    | 0x3 => inRanges o [(0x14, 0x24), (0x44, 0x54)]
    | 0x4 => o < 0x18
    | 0x5 => o < 0x20
    | 0x6 => inRanges o [(0x0, 0x8), (0x10, 0x28), (0x30, 0x44)]
    | 0x7 => inRanges o [(0x0, 0xC), (0x18, 0x1C), (0x28, 0x30), (0x34, 0x3C)]
    | 0x8 => inRanges (o % 0x100) [(0x20, 0x38)]
    | 0x9 => o < 0x28
    | 0xA => o < 0x28
    | 0xB => inRanges o [(0x0, 0x18), (0x24, 0x38)]
    | 0xC => o < 0x14
    | _ => false
  | .code _ | .memory | .frame _ _ | .nowhere => false

/-- The IMG fields of the word at an address take the bits of `w`. -/
def State.imgWord (s : State) (a : Nat) (w : Word) : State :=
  match placeOf a with
  | .axis x off => s.modAxis x fun y => { y with reg := y.reg.imgWrite off w }
  | .load c off => s.modLs c fun y => { y with reg := y.reg.imgWrite off w }
  | .field off => { s with fio := { s.fio with reg := s.fio.reg.imgWrite off w } }
  | .feedback x off =>
    if off < 0x200 then s.modAxis x fun y => { y with fb := y.fb.imgWrite off w }
    else if (slotOf x).val = 0 then s.modPortal (portalOf x) fun q => { q with po := q.po.imgWrite off w } else s
  | .kerf p off => s.modKerf p fun y => { y with reg := y.reg.imgWrite off w }
  | .system off =>
    let o := off % 0x1000
    match off / 0x1000 with
    | 0x0 => s.modSys fun y => y.imgWrite o w
    | 0x3 => { s with fel := s.fel.imgWrite o w }
    | 0x6 => { s with jnl := { s.jnl with reg := s.jnl.reg.imgWrite o w } }
    | 0x7 => { s with net := { s.net with reg := s.net.reg.imgWrite o w } }
    | 0x8 => s.modPortal (finMod 16 (o / 0x100)) fun q => { q with reg := q.reg.imgWrite (o % 0x100) w }
    | 0xB => { s with pwr := { s.pwr with reg := s.pwr.reg.imgWrite o w } }
    | _ => s
  | _ => s

/-- The reset value of PRT.CFG: portals P-08 to P-15 are on the right side. -/
def Prt.sideReset (r : Prt) (p : PortalIx) : Prt := { r with cfg := { r.cfg with side := decide (8 ≤ p.val) } }

/-- The IMG fields of the units at their reset values. -/
def State.imgResetUnits (s : State) : State :=
  { s with
    axes := s.axes.map fun x : Axis => { x with reg := x.reg.imgReset, fb := x.fb.imgReset }
    portals := Vector.ofFn fun p : Fin 16 =>
      { s.portals[p.val] with reg := (s.portals[p.val]).reg.imgReset.sideReset p, po := (s.portals[p.val]).po.imgReset }
    ls := s.ls.map fun c : LoadCh => { c with reg := c.reg.imgReset }
    kerf := s.kerf.map fun k : Kerf => { k with reg := k.reg.imgReset }
    fio := { s.fio with reg := s.fio.reg.imgReset }
    fel := s.fel.imgReset }

/-- The IMG fields of the system control region at their reset values. -/
def State.imgResetSystem (s : State) : State :=
  { s with
    eng := { s.eng with sys := s.eng.sys.imgReset }
    jnl := { s.jnl with reg := s.jnl.reg.imgReset }
    net := { s.net with reg := s.net.reg.imgReset }
    pwr := { s.pwr with reg := s.pwr.reg.imgReset } }

/-- Every IMG field at its reset value (R332). -/
def State.imgReset (s : State) : State := s.imgResetUnits.imgResetSystem

/-- R266, R332: the IMG fields and the safe output image from a PARAM section; FIO.FOCFG.SAFE is its FO word. -/
def State.loadParam (s : State) (param : List Byte) : State :=
  let s := ((recsOf param).map recWords).flatten.foldl (fun s e => s.imgWord e.1 e.2) s.imgReset
  let so := safeOutOf param
  let s := s.modEng fun e => { e with safeOut := so }
  { s with fio := { s.fio with reg := { s.fio.reg with focfg := { s.fio.reg.focfg with safe := (wordAt so 0).setWidth 16 } } } }

/-- The state with the image's PARAM and SAFE sections in the place of those in force: what the checks and comparisons look at. -/
def State.trial (s : State) (c : Container) : State :=
  (s.loadParam (c.sect 4)).modSafe fun f => { f with par := safeParOf (c.sect 5) }

/-! ### Code 9: records (R266, R332) -/

/-- R332: a record lies in a block and writes words with IMG fields, or reserved words, zeros outside the IMG fields, and none of SST.PAR0
to PAR2; or it is the safe output image. The fields of another access in a word with IMG fields take zeros (DEDUCED, log 117). -/
def recOk (r : Nat × List Word) : Bool :=
  isSafeOut r || (r.1 % 4 == 0 && (imgMaskAt r.1).isSome && (recWords r).all fun e =>
    !decide (sstBase + 0x24 ≤ e.1 ∧ e.1 < sstBase + 0x30) && !noImgWord e.1 && match imgMaskAt e.1 with
    | some m => e.2 &&& ~~~m == 0
    | none => false)

/-- Every record of PARAM keeps R332; there is a safe output image, and FIO.FOCFG agrees with it (R266). -/
def paramRecsOk (param : List Byte) : Bool :=
  match parseRecs param.length param with
  | some rs =>
    let fo := wordAt (safeOutOf param) 0
    rs.all recOk && rs.any isSafeOut
      && ((rs.map recWords).flatten.all fun e => placeOf e.1 != .field 0x400 || getF e.2 0 16 == getF fo 0 16)
  | none => false

/-! ### Code 9: values -/

/-- A number lies between two others. -/
def within (lo hi : Nat) {n : Nat} (v : BitVec n) : Bool := decide (lo ≤ v.toNat ∧ v.toNat ≤ hi)

/-- R44. -/
def State.portalOk (s : State) (p : PortalIx) : Bool :=
  let q := s.portal p
  let r := q.reg
  let two := q.twoLeaf
  let pts := fun f : Nat → List (BitVec 16) => ((List.range 16).map f).flatten.map BitVec.toNat
  let walk := fun l : List Nat => l.headD 0 == 0 && (List.zip l (l.drop 1)).all fun e => decide (e.1 ≤ e.2)
  within 0 4 r.cfg.kind && !(q.fitted && !two && r.cfg.axfit.getLsbD 1) && (!q.fitted || r.cfg.axfit.getLsbD 0)
    && decide (r.gapev.lockgap.toNat < r.gapev.edgemask.toNat ∧ r.gapev.edgemask.toNat < r.gapev.finalgap.toNat)
    && decide (r.force.obsf.toNat ≤ r.force.sealf.toNat)
    && ((s.leaves p).all fun a => decide (r.force.sealf.toNat < (s.axis a).reg.envf.fc.toNat))
    && r.seq.maxretry != 15 && r.finalv.va != 0 && (!two || r.finalv.vb != 0)
    && (!q.plug || (r.ptspan != 0
      && ((s.leaves p).all fun a => decide ((r.ptspan.toNat : Int) ≤ (s.axis a).reg.slmax.toInt))
      && walk (pts fun i => let t := vget r.ptrava i {}; [t.t0, t.t1])
      && walk (pts fun i => let t := vget r.ptravb i {}; [t.t0, t.t1])))

/-- R73, for a fitted axis. -/
def Axis.motionOk (x : Axis) : Bool :=
  let r := x.reg
  r.scale != 0 && within 1 48828 r.vmax.vo && within 1 48828 r.vmax.vc && r.amax.ao != 0 && r.amax.ac != 0 && r.jmax != 0
    && decide (r.slmin.toInt < 0 ∧ 0 < r.slmax.toInt) && decide (r.slmin.toInt ≤ r.refofs.toInt ∧ r.refofs.toInt ≤ 0)
    && r.sdo.pw != 0

/-- R92: step and direction outputs of a portal. -/
def State.sdoOk (s : State) (p : PortalIx) : Bool :=
  let ax := [axisOf p 0, axisOf p 1, axisOf p 2, axisOf p 3].filter fun a => (s.axis a).reg.cfg.sdo
  let mode := (s.portal p).po.pocfg.mode
  decide (ax.length ≤ 1) && (ax.isEmpty || (mode != 1 && mode != 2))
    && ax.all fun a =>
      let r := (s.axis a).reg
      decide (r.vmax.vo.toNat * r.sdo.pw.toNat ≤ 48828 ∧ r.vmax.vc.toNat * r.sdo.pw.toNat ≤ 48828)

/-- R105: FBK.HALLSEQ is an order of the six legal codes in which neighbours differ in one bit. -/
def hallSeqOk (q : BitVec 18) : Bool :=
  let code := fun i : Nat => (getF (q.setWidth 32) (3 * (i % 6)) 3)
  let ones := fun b : BitVec 3 => (b.getLsbD 0).toNat + (b.getLsbD 1).toNat + (b.getLsbD 2).toNat
  ((List.range 6).all fun i => within 1 6 (code i) && ones (code i ^^^ code (i + 1)) == 1)
    && distinct ((List.range 6).map fun i => (code i).toNat)

/-- R105, Table 4-1. -/
def Axis.feedbackOk (x : Axis) : Bool :=
  let f := x.fb
  let c := f.cfg
  !(c.src == 1 && !c.hall) && !(c.idxen && c.src != 2) && (!c.hall || hallSeqOk f.hallseq) && c.sermode != 3
    && (c.src != 3 || (within 8 40 f.ser.len && within 0 16 f.ser.crclen && decide (20 ≤ f.ser.clkdiv.toNat)))

/-- R129. -/
def State.outputOk (s : State) (p : PortalIx) : Bool :=
  let c := (s.portal p).po.pocfg
  let src : AxisIx := finMod 64 c.psrc.toNat
  let f := (s.axis src).fb.cfg
  !(c.mode == 1 && !(if c.plines then f.hall else f.src == 2)) && !(c.mode == 2 && !s.fitted (finMod 64 c.caxis.toNat))

/-- R140. -/
def State.controlOk (s : State) (a : AxisIx) : Bool :=
  let x := s.axis a
  let r := x.reg
  let m := r.mot
  let fit := s.fitted a
  !(fit && (m.kind != 0) == r.cfg.sdo) && m.kind != 3 && !(m.kind == 1 && (m.poles == 0 || (m.comm && r.ecnt == 0)))
    && (m.kind == 0 || (r.gtc[31] != 0 && r.gts[31] != 0 && r.gtp[31] != 0))
    && within 0 24 r.gsh.csh && within 0 24 r.gsh.ssh && within 0 24 r.gsh.psh
    && decide (r.ilim.toNat ≤ r.envi.toNat) && (r.cfg.rot || s.tru.envStat == 1 || r.scale == r.envs)

/-- R237. -/
def LoadCh.ok (x : LoadCh) (c : ChanIx) : Bool :=
  within 5 80 x.reg.cfg.ilim && within 5 200 x.reg.cfg.olth && x.reg.retry != 0 && within 100 2000 x.reg.chkcfg.budget
    && within 20 100 x.reg.chkcfg.leak && !((chanK c).val == 0 && x.reg.cfg.safe)

/-- R243: input `n`; `zs`: it is a zero-speed train line. -/
def FioIcfg.ok (c : FioIcfg) (n : Nat) (zs : Bool) : Bool :=
  let pair := decide (n < 128 ∧ n % 8 < 6)
  !(pair && !within 0 1 c.cls) && !((pair || zs) && c.filt != 200) && !(c.cnt && (decide (n < 144) || c.qen || c.call))

/-- R179. -/
def Krf.ok (k : Krf) : Bool :=
  within 0 479 k.zone.zy1 && decide (k.zone.zy0.toNat ≤ k.zone.zy1.toNat) && within 0 10224 k.mline.xm && k.kpx != 0
    && k.slab.zdepth != 0 && k.slab.zmarg != 0 && within 1 100 k.det.foul && k.det.fouln != 0 && decide (20 ≤ k.det.silent.toNat)
    && !(k.cfg.ovren && k.cfg.ovrmax == 0)

/-- R394. -/
def Net.ok (n : Net) : Bool :=
  (n.can.toList.all fun c => within 0 3 c.nbr && within 0 3 c.dbr)
    && (n.ser.toList.all fun c => within 12 100000 c.baud && decide (2 ≤ c.idle.toNat))
    && (n.mbcfg.toList.all fun c => within 0 9 c.link)
    && within 10 1000 n.bw.expect && decide (10 ≤ n.bw.sper.toNat) && within 50 4000 n.hold
    && (n.pdi.toList.all fun d => within 0 1008 d.len) && (n.pdo.toList.all fun d => within 0 1008 d.len && d.period != 0)
    && distinct ((n.pdi.toList.filter fun d => d.len != 0).map fun d => d.id.toNat)

/-- R274, R448, R456 and the notes of FEL.BUDGET, FEL.DERATE and CMJ.DEFEXP. -/
def State.systemOk (s : State) : Bool :=
  let y := s.eng.sys
  let h := s.fel.hcfg
  within 50 20000 y.wdt.wdt && decide (y.wdt.mincyc.toNat < y.wdt.wdt.toNat)
    && (y.plcfg.plen == 0 || decide (y.plcfg.plwait.toNat < y.wdt.wdt.toNat))
    && within 0 600 s.fel.budget && decide (168 ≤ s.fel.derate.vmin.toNat)
    && (s.fel.derate.vknee == 0 || decide (s.fel.derate.vmin.toNat < s.fel.derate.vknee.toNat))
    && within 1 4 h.maxn && within 1 255 h.htpk && within 6 30 h.hpk && within 1 12 h.hrun && decide (h.hrun.toNat ≤ h.hpk.toNat)
    && decide (10 ≤ s.pwr.reg.slpcfg.slpdly.toNat) && within 100 600000 s.jnl.reg.defexp

/-- Code 9, PARAM: every value of the trial state `s` that Landing judges. -/
def State.paramOk (s : State) : Bool :=
  (allPortals.all fun p => s.portalOk p && s.sdoOk p && s.outputOk p && (!(s.portal p).reg.cfg.kerffit || (s.kerf[p.val]).reg.ok))
    && (allAxes.all fun a =>
      let x := s.axis a
      (!s.fitted a || (x.motionOk && (x.reg.cfg.sdo || x.fb.cfg.src != 0))) && x.feedbackOk && s.controlOk a && x.reg.fmapcfg.cell != 0)
    && (allChans.all fun c => !(s.portal (chanPortal c)).fitted || (s.ls[c.val]).ok c)
    && ((List.finRange 148).all fun n => (s.fio.reg.icfg[n.val]).ok n.val
      (n.val == 128 + s.safe.par.zstl1.toNat || n.val == 128 + s.safe.par.zstl2.toNat))
    && s.net.reg.ok && s.systemOk

/-- R327: an input that raises a call-out has the priority its number declares. -/
def State.inputPrioOk (s : State) (ds : List Decl) : Bool :=
  (List.finRange 148).all fun n =>
    let c := s.fio.reg.icfg[n.val]
    !c.call || (ds.all fun d => d.num.toNat != 0x800 + n.val || d.prio.val == c.prio.toNat)

/-! ### What waits for the idle window (R339, Table 13-6) -/

/-- R185: the SAFE values, or a portal's side or fitted state, differ: Hinge needs a parameter load. -/
def State.hingeChange (s t : State) : Bool :=
  s.safe.par != t.safe.par || allPortals.any fun p =>
    (s.portal p).reg.cfg.side != (t.portal p).reg.cfg.side || (s.portal p).fitted != (t.portal p).fitted

/-- R45: the portal model differs. -/
def portalChange (r t : Prt) : Bool := r.cfg != t.cfg || r.ptspan != t.ptspan || r.ptrava != t.ptrava || r.ptravb != t.ptravb

/-- Table 5-4: the motor configuration differs. -/
def motorChange (r t : Axc) : Bool :=
  r.mot != t.mot || r.ecnt != t.ecnt || r.eofs != t.eofs || r.scale != t.scale || r.fmapcfg.cell != t.fmapcfg.cell

/-- R175: the kerf geometry differs. -/
def kerfChange (r t : Krf) : Bool := r.zone != t.zone || r.mline != t.mline || r.kpx != t.kpx || r.slab != t.slab

/-- The configuration `t` changes something against `s` for which a switch waits for the idle window (Table 13-6, IDLE). -/
def State.idleChange (s t : State) : Bool :=
  s.hingeChange t
    || (allPortals.any fun p => portalChange (s.portal p).reg (t.portal p).reg || kerfChange (s.kerf[p.val]).reg (t.kerf[p.val]).reg)
    || (allAxes.any fun a => (s.fitted a || t.fitted a) && motorChange (s.axis a).reg (t.axis a).reg)

/-- Table 13-6: the hold reasons present for the image in LANDING, as LND.STAT.HOLDRSN shows them. A switch requested in a degraded mode or
UNDECIDED is held until module reset (R215). -/
def State.holdReasons (s : State) : BitVec 4 :=
  let b := fun (c : Bool) (n : BitVec 4) => if c then n else 0
  b (!s.idleWindow && s.idleChange (s.trial s.lnd.landing)) 1 ||| b (s.eng.sys.mode.mode == .hold) 2
    ||| b (s.safe.mode != .normal || s.lnd.degHeld) 4 ||| b (s.eng.moves.toList.any Option.isSome) 8

/-- LND.STAT as it reads: an activated image is HELD while a reason is present, and SWITCHING else (R339, R434). -/
def State.lndStat (s : State) : LndStat :=
  let t := s.lnd.reg.stat
  if s.lnd.activate then
    let h := s.holdReasons
    { t with state := if h = 0 then .switching else .held, holdrsn := h }
  else t

end Sys2Proof.Machine
end

