-- ==== Sys2Proof/Machine/Field.lean ====
section
/-! DEFINITION. The commands of field inputs and outputs (chapter 9). -/

namespace Sys2Proof.Machine

/-- Field I/O changed. -/
def State.modFio (s : State) (f : FieldIo → FieldIo) : State := { s with fio := f s.fio }

/-- The FIO registers changed. -/
def State.modFioReg (s : State) (f : Fio → Fio) : State := s.modFio fun x => { x with reg := f x.reg }

/-- The inputs of group `g` (R257). -/
def groupInputs (g : Nat) : List Nat :=
  if g < 16 then (List.range 8).map (8 * g + ·) else if g = 16 then (List.range 16).map (128 + ·) else if g = 17 then (List.range 4).map (144 + ·) else []

/-- FIO.GFLT bit `g` (R257); the field inputs of a portal that is not fitted are disabled (R43). -/
def State.groupFault (s : State) (g : Nat) : Bool :=
  let f := s.fio
  let tp := fun c : Channel => let q := vget c.portals g {}; q.tpf ||| q.held != 0
  let fit := if h : g < 16 then (s.portal ⟨g, h⟩).fitted else true
  fit && (groupInputs g).any (fun n => f.copFlt.getLsbD n)
    || (decide (g < 16) && fit && (tp s.safe.a || tp s.safe.h || f.tpMiss.getLsbD g || f.tpLow.getLsbD g))
    || (g == 16 && s.safe.a.zsHeld ||| s.safe.h.zsHeld != 0) || (g == 17 && s.safe.a.wpHeld ||| s.safe.h.wpHeld != 0)
    || (g == 18 && (f.reg.fosupv.miss0 || f.reg.fosupv.low0 || (f.reg.fost.offhi ||| f.reg.fost.onlo ||| f.reg.fost2.ilim ||| f.reg.fost2.tsd) &&& 0x00FF != 0))
    || (g == 19 && (f.reg.fosupv.miss1 || f.reg.fosupv.low1 || (f.reg.fost.offhi ||| f.reg.fost.onlo ||| f.reg.fost2.ilim ||| f.reg.fost2.tsd) &&& 0xFF00 != 0))

/-- FIO.GFLT and its sticky copy brought up to date (R257). -/
def State.groupEval (s : State) : State :=
  let g := (List.range 20).foldl (fun b i => if s.groupFault i then b ||| (1#20 <<< i) else b) 0
  s.modFio fun x => { x with groups := g, reg := { x.reg with gevt := x.reg.gevt ||| g } }

/-- FSUP0 and FSUP1, once measured, judged against FIO.FOSUP.SUPLOW (R257). -/
def FieldIo.judgeSupply (x : FieldIo) : FieldIo :=
  let v := x.reg.fosupv
  let below := fun (i : Nat) (n : BitVec 12) (t : Nat) => x.measured.getLsbD i && decide (n.toNat < t)
  let low := x.reg.fosup.toNat * 10
  { x with reg := { x.reg with fosupv := { v with
      miss0 := below 0 v.v0 90, low0 := below 0 v.v0 low, miss1 := below 1 v.v1 90, low1 := below 1 v.v1 low } } }

/-- R257: the supplies judged against the present SUPLOW. -/
def State.supplyJudge (s : State) : State := (s.modFio FieldIo.judgeSupply).groupEval

/-! ### Field outputs (R252 to R255, R482) -/

/-- What of a word the channels can drive: none while every output is off, not a channel shut down, nor one whose supply is reversed. -/
def FieldIo.conduct (x : FieldIo) (w : BitVec 16) : BitVec 16 :=
  let gone := (if x.rev.getLsbD 0 then 0x00FF#16 else 0) ||| (if x.rev.getLsbD 1 then 0xFF00#16 else 0)
  if x.off then 0 else w &&& ~~~(x.reg.fost2.tsd ||| gone)

/-- The pins take the word `w`; a channel that is off limits no current. -/
def FieldIo.setPins (x : FieldIo) (w : BitVec 16) : FieldIo :=
  let p := x.conduct w
  { x with word := w, pins := p, reg := { x.reg with fost2 := { x.reg.fost2 with ilim := x.reg.fost2.ilim &&& p } } }

/-- The command word `w` in force from `now`: each channel's last change is kept (R255). -/
def FieldIo.setCmd (x : FieldIo) (w : BitVec 16) (now : Nat) : FieldIo :=
  let old := x.reg.focmd.cmd
  { x with cmdAt := Vector.ofFn fun i : Fin 16 => if w.getLsbD i.val = old.getLsbD i.val then x.cmdAt[i.val] else now
           reg := { x.reg with focmd := { x.reg.focmd with cmd := w } } }

/-- R255: the voltage `v` of pin `n`, 0.1 V, reads high: at or above half its group's supply voltage. -/
def FieldIo.pinHigh (x : FieldIo) (n : Fin 16) (v : BitVec 12) : Bool :=
  decide ((if n.val < 8 then x.reg.fosupv.v0 else x.reg.fosupv.v1).toNat ≤ 2 * v.toNat)

/-- The read-back of channel `n` taken at `now`: since when it has agreed or disagreed with the command. -/
def FieldIo.compare (x : FieldIo) (n : Fin 16) (high : Bool) (now : Nat) : FieldIo :=
  let d := x.reg.focmd.cmd.getLsbD n.val != high
  { x with cmp := putBit x.cmp n.val d, cmpAt := if d = x.cmp.getLsbD n.val then x.cmpAt else x.cmpAt.set n.val now
           reg := { x.reg with focmd := { x.reg.focmd with rb := putBit x.reg.focmd.rb n.val high } } }

/-- R202: with EGREN, FO-14 and FO-15 follow the EEH pairs at once, and R254 does not act on them. -/
def State.egressDrive (s : State) : State :=
  if s.safe.active.egren then
    let word := s.egressPins s.fio.word
    let cmd := s.egressPins s.fio.reg.focmd.cmd
    (s.modFio fun x => (x.setCmd (if x.off then 0 else cmd) s.mono).setPins word).groupEval
  else s

/-- The output side is powered: as the safety channels, and in RECOVERY after a SUPERVISOR reset (R254, Table 19-3). -/
def State.outputSide (s : State) : Bool :=
  s.guarded || (s.boot.recovery && s.clocked && s.boot.reg.last.src == StartSrc.supervisor.code)

/-- The coupler delay of an input's class, ticks (Table 9-1): 2.10 µs or 2.35 µs. -/
def couplerDelay (cls : BitVec 2) : Nat := if cls.toNat < 2 then 840 else 940

/-- Table 9-1: what an input of class `cls` reads at a pin voltage in 0.1 V; between the thresholds the reading is undefined. -/
def inputReads (cls : BitVec 2) (v : Int) : Option Bool :=
  let (on, off) : Int × Int := if cls = 0 then (150, 50) else if cls = 1 then (110, 50) else if cls = 2 then (430, 220) else (660, 330)
  if on ≤ v then some true else if v ≤ off then some false else none

/-- R246: the change began within a test gap or the 200 µs after it; answers the gap's end. -/
def State.gapOf (s : State) (n : Fin 148) (began : Nat) : Option Nat :=
  if n.val < 128 ∧ n.val % 8 < 6 then
    match s.fio.gapAt[n.val % 2]? with
    | some (some t) => if t ≤ began ∧ began < t + us 600 then some (t + us 400) else none
    | _ => none
  else none

/-- R244, R245, R248 to R250: a change is accepted as an edge of an input under configuration `c` whose first sample was at `t`. -/
def State.inputAccept (s : State) (n : Fin 148) (level : Bool) (c : FioIcfg) (t : Nat) : State :=
  let stamp := t - couplerDelay c.cls
  let s := s.modFio fun x => { x with lvl := putBit x.lvl n.val level, at_ := x.at_.set n.val stamp }
  let s := if 128 ≤ n.val ∧ n.val < 144 then s.overrideEdge (n.val - 128) level else s
  let chosen := if level then c.edge.getLsbD 0 else c.edge.getLsbD 1
  if !chosen || c.cnt then s
  else
    let s := if !c.qen then s
      else if s.fio.queue.length < 1024 then
        s.modFio fun x => { x with queue := x.queue ++ [{ input := BitVec.ofNat 8 n.val, level := level, time := stamp }] }
      else s.modFioReg fun r => { r with eqstat := { ovf := true, dropped := satInc r.eqstat.dropped } }
    if c.call then
      s.modEng fun e => e.trigger stamp (BitVec.ofNat 16 (0x0800 + n.val)) (BitVec.ofNat 32 (n.val + if level then 256 else 0)) false
    else s

/-- R259: a level that changes because an image switch changed CLASS or FILT: no edge. -/
def State.inputQuiet (s : State) (n : Fin 148) (level : Bool) : State :=
  let s := s.modFio fun x => { x with lvl := putBit x.lvl n.val level }
  if 128 ≤ n.val ∧ n.val < 144 then s.overrideEdge (n.val - 128) level else s

/-- A change whose first sample was at `began` is taken: as an edge, or quietly where it goes back to an image switch of the input's CLASS
or FILT (DESIGN CHOICE, log 98). -/
def State.inputTake (s : State) (n : Fin 148) (level : Bool) (c : FioIcfg) (began : Nat) : State :=
  match s.fio.icfgAt[n.val] with
  | some t => if began ≤ t then s.inputQuiet n level else s.inputAccept n level c began
  | none => s.inputAccept n level c began

/-- R43: the input is not one of a portal that is not fitted. -/
def State.inputFitted (s : State) (n : Fin 148) : Bool :=
  if h : n.val < 128 then (s.portal ⟨n.val / 8, by omega⟩).fitted else true

/-- R246: a change that begins in a gap, or within 200 µs after it, counts only once it still holds 200 µs after the gap, and then from
its first sample after the gap. -/
def State.inputChange (s : State) (n : Fin 148) (level : Bool) (c : FioIcfg) (held : Nat) : State :=
  let began := s.mono - held
  match s.gapOf n began with
  | some e => if s.mono < e + us 200 then s else s.inputTake n level c (max e began)
  | none => s.inputTake n level c began

/-- R43, R242, R244 to R249: the pin of input `n` has held a voltage, in 0.1 V, for `held` ticks. A new level is accepted once that
reaches the filter time; the edge is dated to its first sample, less the coupler delay; it may be queued and may raise its call-out. A
voltage between the thresholds reads as a free choice (log 4). -/
def execFieldInputEdge (n : Fin 148) (v : BitVec 12) (held : Nat) (s : State) : Out :=
  let c := s.fio.reg.icfg[n.val]
  if !s.online ∨ s.fio.copFlt.getLsbD n.val ∨ held < us (10 * c.filt.toNat) ∨ !s.inputFitted n then .next s
  else
    let go := fun (s : State) (level : Bool) => if s.fio.lvl.getLsbD n.val = level then s else s.inputChange n level c held
    .next (match inputReads c.cls v.toInt with
      | some level => go s level
      | none => go s.used (s.freeNat % 2 == 1))

/-- R249: a read of FIO.EQ takes the oldest entry and latches its time for the reader; an empty queue gives VALID = 0. -/
def State.takeEdge (s : State) (req : Nat) : State × Word :=
  match s.fio.queue with
  | [] => (s, 0)
  | e :: es =>
    let s := s.modFio fun x => { x with queue := es }
    let s := (s.latchPut req 0x24000344 (BitVec.ofNat 32 e.time)).latchPut req 0x24000348 (BitVec.ofNat 32 (e.time / 4294967296))
    (s, putV e.input 0 ||| putB e.level 8 ||| putB true 31)

/-- R247: the once-per-second coupler check of an input that reads off; `pass`: the coupler responds to the test current. -/
def execCouplerCheck (n : Fin 148) (pass : Bool) (s : State) : Out :=
  if s.fio.lvl.getLsbD n.val ∨ !s.online ∨ !s.inputFitted n then .next s
  else
    let s := match s.fio.copAt[n.val] with | some t => s.upTo (t + sec 1) | none => s
    let s := s.modFio fun x =>
      { x with copAt := x.copAt.set n.val (some s.mono)
               copFail := x.copFail.set n.val (if pass then 0 else x.copFail[n.val] + 1)
               copPass := x.copPass.set n.val (if pass then x.copPass[n.val] + 1 else 0) }
    let flt := s.fio.copFlt.getLsbD n.val
    if !flt && decide (2 ≤ s.fio.copFail[n.val]) then
      let s := s.modFio fun x => { x with copFlt := putBit x.copFlt n.val true, lvl := putBit x.lvl n.val false }
      .next (s.groupEval.event 0x50 n.val 0)
    else if flt && decide (2 ≤ s.fio.copPass[n.val]) then
      .next (s.modFio fun x => { x with copFlt := putBit x.copFlt n.val false }).groupEval
    else .next s

/-- R247, R250, R251: a rising edge on a WP input in counting mode; none is counted in sleep or with a coupler fault. -/
def execWheelPulseCount (i : Fin 4) (s : State) : Out :=
  let c := vget s.fio.reg.icfg (144 + i.val) {}
  if c.cnt && s.online && !s.fio.copFlt.getLsbD (144 + i.val) then
    let n := s.fio.reg.wpcnt[i.val]
    let s := s.modFio fun x =>
      { x with wpt := x.wpt.set i.val (s.mono - couplerDelay c.cls)
               reg := { x.reg with wpcnt := x.reg.wpcnt.set i.val (n + 1)
                                   wpst := if n = 0xFFFFFFFF then putBit x.reg.wpst i.val true else x.reg.wpst } }
    .next (if n = 0xFFFFFFFF then s.event 0x51 i.val 0 else s)
  else .next s

/-- The FO word in force: the last output phase's, or the safe word in STOP (R253, R277, R280), and egress. -/
def State.foWord (s : State) : BitVec 16 :=
  s.egressPins (if s.eng.sys.mode.mode = .stop then s.fio.reg.focfg.safe else s.fio.imgFo)

/-- R252, R254: the 1 ms refresh of the isolated output side; `rb`: the pins as read back (R255). -/
def execOutputRefresh (rb : FoRead) (s : State) : Out :=
  if !s.online then .next s else
  let w := if s.fio.off then 0 else s.foWord
  .next ((s.modFio fun x =>
    let x := { x with fresh := s.mono, silent := false, reg := { x.reg with fost2 := { x.reg.fost2 with ilim := rb.ilim } } }
    let x := (x.setCmd w s.mono).setPins w
    (List.finRange 16).foldl (fun x n => x.compare n (x.pinHigh n rb.volts[n.val]) s.mono) x).groupEval)

/-- R254: no valid refresh for FOTMO: each output takes its SAFE bit as the output side holds it. -/
def execRefreshTimeout (s : State) : Out :=
  if !s.outputSide then .next s else
  let s := s.upTo (s.fio.fresh + ms s.fio.reg.focfg.fotmo.toNat)
  .next (s.modFio fun x =>
    { x.setPins (s.egressPins x.safeHeld) with
        silent := true, reg := { (x.setPins (s.egressPins x.safeHeld)).reg with foevt := { x.reg.foevt with silent := true } } }).groupEval

/-- R255: the read-back of a channel, at the pin voltage `v` in 0.1 V, has disagreed with its command for 2 ms, or agreed for 2 ms; `ilim`:
the channel limits its current. A change of the channel's own command blanks the comparison for 200 µs. -/
def execReadbackDisagree (n : Fin 16) (v : BitVec 12) (ilim : Bool) (s : State) : Out :=
  if !s.guarded then .next s else
  let high := s.fio.pinHigh n v
  let ilim := ilim && s.fio.pins.getLsbD n.val
  let s := s.modFio fun x => x.compare n high s.mono
  let s := s.upTo (max (s.fio.cmpAt[n.val] + ms 2) (s.fio.cmdAt[n.val] + us 2200))
  let cmd := s.fio.reg.focmd.cmd.getLsbD n.val
  let tsd := s.fio.reg.fost2.tsd.getLsbD n.val
  let was := s.fio.reg.fost
  let offhi := (!cmd && high) || (cmd != high && was.offhi.getLsbD n.val)
  let onlo := (cmd && !high && !ilim && !tsd) || (cmd != high && was.onlo.getLsbD n.val)
  let new := (offhi && !s.fio.reg.fost.offhi.getLsbD n.val) || (onlo && !s.fio.reg.fost.onlo.getLsbD n.val)
  let s := s.modFioReg fun r =>
    { r with fost := { offhi := putBit r.fost.offhi n.val offhi, onlo := putBit r.fost.onlo n.val onlo }
             fost2 := { r.fost2 with ilim := putBit r.fost2.ilim n.val ilim }
             foevt := { r.foevt with dis := if new then putBit r.foevt.dis n.val true else r.foevt.dis } }
  .next (if new then s.groupEval.event 0x52 n.val (if cmd then 2 else 1) else s.groupEval)

/-- R252: a field output reaches 160 °C and shuts down. -/
def execFoThermalShutdown (n : Fin 16) (s : State) : Out :=
  if !s.outputSide then .next s else
  .next ((s.modFio fun x =>
    let r := { x.reg with fost2 := { x.reg.fost2 with tsd := putBit x.reg.fost2.tsd n.val true }, foevt := { x.reg.foevt with tsd := true } }
    { x with reg := r }.setPins x.word).groupEval)

/-- Every channel follows the word that the output side holds again (R254). -/
def State.outputAgain (s : State) : State := s.modFio fun x => x.setPins x.word

/-- R252: it restarts at or below 140 °C and follows its command again. -/
def execFoThermalRestart (n : Fin 16) (s : State) : Out :=
  if !s.outputSide then .next s else
  if s.fio.reg.fost2.tsd.getLsbD n.val then .next ((s.modFio fun x => { x with reg := { x.reg with
      fost2 := { x.reg.fost2 with tsd := putBit x.reg.fost2.tsd n.val false } } }).outputAgain.groupEval)
  else .next s

/-- The voltage `v` of FSUP0 or FSUP1 (`second`), signed, 0.1 V: one that is reversed reads 0 and keeps its group's outputs off (R482). -/
def FieldIo.supply (x : FieldIo) (second : Bool) (v : BitVec 12) : FieldIo :=
  let neg := v.msb
  let n : BitVec 12 := if neg then 0 else v
  let r := x.reg
  { x with measured := putBit x.measured second.toNat true, rev := putBit x.rev second.toNat neg
           reg := { r with fosupv := if second then { r.fosupv with v1 := n } else { r.fosupv with v0 := n } } }.judgeSupply

/-- R257: a supply is measured, in 0.1 V, negative where it is reversed: FSUP0, FSUP1, or the lower test source of a portal outside its
gaps. -/
def execGroupSupplyChange (g : SupplyGroup) (v : BitVec 12) (s : State) : Out :=
  if !s.outputSide then .next s else
  .next (match g with
    | .fsup0 => ((s.modFio fun x => x.supply false v).outputAgain).groupEval
    | .fsup1 => ((s.modFio fun x => x.supply true v).outputAgain).groupEval
    | .test p => (s.modFio fun x => { x with tpMiss := putBit x.tpMiss p.val (decide (v.toInt < 90)), tpLow := putBit x.tpLow p.val (decide (v.toInt < 180)) }).groupEval)

end Sys2Proof.Machine
end

