-- ==== Sys2Proof/Machine/Kerf.lean ====
section
/-! DEFINITION. The commands of the kerf engine and of the head links (chapters 6 and 15). -/

namespace Sys2Proof.Machine

/-! ### KRF.CMD -/

/-- R160: a write of KRF.CMD.OPEN. -/
def execKrfOpen (p : PortalIx) (s : State) : Out :=
  if !s.online then .next s else
  .next (if (s.portal p).fitted then s.kerfOpen p (s.portal p).g else s)

/-- R174: a request for a relearn; one that comes while the portal learns is ignored (DESIGN CHOICE, log 113). -/
def State.learnRequest (s : State) (p : PortalIx) : State :=
  let t := (s.krf p).reg.stat.lrn
  if !(s.portal p).fitted ∨ t = .deferred ∨ t = .running then s
  else if s.idleWindow then s.modKerf p fun k => { k with learn := [] }.modStat fun t => { t with lrn := .running }
  else (s.modKerf p fun k => k.modStat fun t => { t with lrn := .deferred }).event 0x35 p.val 1

/-- R174: a write of KRF.CMD.LEARN. -/
def execKrfLearn (p : PortalIx) (s : State) : Out :=
  if !s.online then .next s else .next (s.learnRequest p)

/-- R177: a write of KRF.CMD.SNAP. -/
def execKrfSnap (p : PortalIx) (s : State) : Out :=
  if !s.online then .next s else
  .next (if (s.portal p).fitted then s.modKerf p fun k => { k with snapReq := true } else s)

/-- R174: the idle window is open: every portal with a pending request learns at once. -/
def execKerfLearnStart (s : State) : Out :=
  if !s.online then .next s else
  .next (if s.idleWindow then
    s.forAll allPortals fun s p =>
      if (s.krf p).reg.stat.lrn == .deferred then
        s.modKerf p fun k => { k with learn := [] }.modStat fun t => { t with lrn := .running }
      else s
  else s)

/-! ### Head link (R366 to R369) -/

/-- NET.ERR.HLERR rises (R367). -/
def State.hlError (s : State) : State :=
  { s with net := { s.net with reg := { s.net.reg with err := { s.net.reg.err with hlerr := satInc s.net.reg.err.hlerr } } } }

/-- R165: a frame is missing: it is counted, GAP sets and the run ends. -/
def State.frameMissing (s : State) (p : PortalIx) (n : Nat) : State :=
  (s.modKerf p fun k =>
    let k := k.modEvt fun e => { e with gap := true }
    { k with broken := true, learn := [],
             reg := { k.reg with cnt := { k.reg.cnt with miss := satNat 16 (k.reg.cnt.miss.toNat + n) } } }).kerfBreak p

/-- R41, R165: KRF.FCNT takes the counter of a received frame; where it wraps, WRAP sets and Tally records it. -/
def State.countFrame (s : State) (p : PortalIx) (fcnt : Word) : State :=
  let k := s.krf p
  let wrapped := k.received && decide ((fcnt - k.reg.fcnt).toNat < 2 ^ 31) && decide (fcnt.toNat < k.reg.fcnt.toNat)
  let s := s.modKerf p fun k => { k with received := true, reg := { k.reg with fcnt := fcnt } }
  if wrapped then (s.modKerf p fun k => k.modEvt fun e => { e with wrap := true }).event 0x36 p.val 0 else s

/-- R165: a frame with counter `fcnt` is lost, and with it every frame between the last one received and it. -/
def State.frameLost (s : State) (p : PortalIx) (fcnt : Word) : State :=
  let k := s.krf p
  let d := if k.received then (fcnt - k.reg.fcnt).toNat else 1
  (s.countFrame p fcnt).frameMissing p (if d < 2 ^ 31 then max 1 d else 1)

/-- The partial frame ends in error and is missing; its counter is the last received (R367). -/
def State.partError (s : State) (p : PortalIx) : State :=
  let s := s.hlError
  match (s.krf p).part with
  | none => s
  | some f =>
    (s.modKerf p fun k => { k with part := none }).frameLost p f.fcnt

/-- The big-endian 16-bit values of a run of bytes. -/
def beWords : List Byte → List (BitVec 16)
  | a :: b :: r => (a ++ b) :: beWords r
  | _ => []

/-- R367: the segment's head is right: VER, ROW0, NROWS, head identity and DCRC. -/
def segOk (id : BitVec 64) (b : List Byte) : Bool :=
  let seg := beNat (bytesAt b 8 2)
  bytesAt b 2 1 == [1] && beNat (bytesAt b 10 2) == 6 * seg && beNat (bytesAt b 12 2) == 6
    && beNat (bytesAt b 16 4) == id.toNat % 2 ^ 32 && b.length == 7704
    && beNat (bytesAt b 20 4) == crc32c (bytesAt b 0 20 ++ bytesAt b 24 7680)

/-- R367: segment 79 has come: the frame end. Its DMA follows. -/
def State.frameEnd (s : State) (p : PortalIx) (fcnt : Word) (rows : List (List (BitVec 16))) : State :=
  let k := s.krf p
  let f : Frame := { fcnt := fcnt, fend := s.mono, g := k.gmax, depth := rows.reverse.flatten, live := k.reg.stat.win != .closed }
  s.modKerf p fun k => { k with part := none, dma := k.dma ++ [(k.tag, f)], lastEnd := s.mono, silAt := none,
                                gmax := (s.portal p).reg.gap.toNat }

/-- R366, R367: a depth segment arrives: 24 bytes of subheader and 7,680 of depth; `fcs`: the Ethernet check passes (DEDUCED, log 51). -/
def execDepthSegment (p : PortalIx) (b : List Byte) (fcs : Bool) (s : State) : Out :=
  if !s.online then .next s else
  let k := s.krf p
  if bytesAt b 0 2 != [0x48, 0x01] then .next s.dropFrame else   -- R364
  if !k.status then .next s else
  let seg := beNat (bytesAt b 8 2)
  let fcnt : Word := BitVec.ofNat 32 (beNat (bytesAt b 4 4))
  let rows := beWords (bytesAt b 24 7680)
  let first := fun s : State =>
    s.modKerf p fun k => { k with tag := k.tag + 1, part := some { fcnt := fcnt, next := 1, rows := [rows] } }
  if !(fcs && segOk k.headId b) then
    .next (match k.part with | some _ => s.partError p | none => s.hlError)
  else
    let s := s.modKerf p fun k => { k with segRate := (bytesAt b 3 1).any (·.getLsbD 0), segAt := s.mono }
    match k.part with
    | none => .next (if seg = 0 then first s else s)
    | some f =>
      if seg = 0 then .next (if f.fcnt = fcnt then first s else first (s.partError p))
      else if seg = f.next ∧ fcnt = f.fcnt then
        .next (if seg = 79 then s.frameEnd p fcnt (rows :: f.rows)
          else s.modKerf p fun k => { k with part := some { f with next := seg + 1, rows := rows :: f.rows } })
      else .next (s.partError p)

/-- R368, R173: a head status frame: identity, firmware, rate and temperature. An identity other than the one known before, from a status
frame since the start or else from the model's learning head, is a change, also where the first frame after link-up brings it (R482;
DEDUCED, log 49). -/
def execHeadStatusFrame (p : PortalIx) (id : BitVec 64) (fw : Word) (rate temp : Byte) (s : State) : Out :=
  if !s.online then .next s else
  let k := s.krf p
  let change := if k.headKnown then k.headId != id else k.model.any fun m => m.head != id
  let s := s.modKerf p fun k =>
    { k with status := true, headKnown := true, headId := id, headFw := fw, headRate := rate, headTemp := temp,
             part := if change then none else k.part, reg := { k.reg with headid := id.setWidth 32 } }
  let s := s.modelCheck p
  .next (if change then (s.modKerf p fun k => k.modEvt fun e => { e with headchg := true }).learnRequest p else s)

/-- R369: the rate command is repeated every 1 s; while the segments carry the other RATE flag, every 100 ms, each counted. -/
def execRateCommandRepeat (p : PortalIx) (s : State) : Out :=
  if !s.online then .next s else
  let k := s.krf p
  if !s.net.reg.lnk.hl.getLsbD p.val then .next s else
  let fast := k.reg.stat.rate
  let wrong := k.segRate != fast && decide (k.rateAt < k.segAt)
  let s := s.upTo (k.rateAt + if wrong then ms 100 else sec 1)
  let s := if wrong then
      { s with net := { s.net with reg := { s.net.reg with err2 := { s.net.reg.err2 with rate := satInc s.net.reg.err2.rate } } } }
    else s
  .next ((s.modKerf p fun k => { k with rateAt := s.mono }).send (.head p.val (rateFrame fast)))

/-! ### The learn (R174) -/

/-- A pixel of the new model from its samples. -/
def learnPixel (tolmin : Nat) (v : List Nat) : Option (Nat × Nat) :=
  if v.length < 48 then none
  else
    let lo := v.foldl min 65535
    let hi := v.foldl max 0
    some ((2 * v.sum + v.length) / (2 * v.length), min 255 (tolmin + (hi - lo)))

/-- The model that 64 frames give. -/
def learnModel (tolmin : Nat) (fs : List (List (BitVec 16))) : List (Option (Nat × Nat)) :=
  (List.range 307200).map fun i =>
    learnPixel tolmin ((fs.map fun f => ((f[i]?).getD 0).toNat).filter fun d => d != 0 && d != 65535)

/-- The learn ends with its 64th frame. -/
def State.learnEnd (s : State) (p : PortalIx) : State :=
  let k := s.krf p
  let px := learnModel k.reg.slab.tolmin.toNat k.learn
  let z0 := k.reg.zone.zy0.toNat
  let z1 := k.reg.zone.zy1.toNat
  let zone := (px.drop (640 * z0)).take (640 * (z1 + 1 - z0))
  if k.detNow.foul.toNat * zone.length < 100 * (zone.filter Option.isNone).length then
    (s.modKerf p fun k => ({ k with learn := [] }.modStat fun t => { t with lrn := .failed }).modEvt fun e => { e with lrnfail := true }).event
      0x35 p.val 2
  else
    let m : KModel := { px := px, head := k.headId, zone := k.reg.geom.1, mline := k.reg.geom.2.1, kpx := k.reg.geom.2.2.1, slab := k.reg.geom.2.2.2 }
    (s.modKerf p fun k => ({ k with learn := [], older := k.model, model := some m, copyBad := false, dropped := false }.modStat fun t =>
      { t with lrn := .done }).modEvt fun e => { e with lrndone := true }).modelCheck p

/-- A learning portal takes a frame that is not STUCK, as long as the idle window is open; a STUCK one is not consecutive (R174). -/
def State.learnFrame (s : State) (p : PortalIx) (f : Frame) (stuck : Bool) : State :=
  if (s.krf p).reg.stat.lrn == .running then
    if !s.idleWindow then s.learnAbandon
    else if stuck then s.modKerf p fun k => { k with learn := [] }
    else
      let s := s.modKerf p fun k => { k with learn := f.depth :: k.learn }
      if (s.krf p).learn.length = 64 then s.learnEnd p else s
  else s

/-! ### Frames and verdicts -/

/-- R161: the band of a frame, formed for each frame, judged or not; the kerf engine shows it and its Gmax from then on. -/
def State.formBand (s : State) (p : PortalIx) (f : Frame) : State :=
  let (xl, xr) := s.band p f.g
  s.modKerf p fun k => { k with reg := { k.reg with band := { xl := BitVec.ofNat 10 xl, xr := BitVec.ofNat 10 xr }, gused := BitVec.ofNat 16 f.g } }

/-- R165: the frame's counter against the last one: it is judged or not, in order or not. -/
def State.takeFrame (s : State) (p : PortalIx) (tag : BitVec 8) (f : Frame) : State :=
  let k := s.krf p
  let d := if k.received then (f.fcnt - k.reg.fcnt).toNat else 1
  let s := if 2 ≤ d ∧ d < 2 ^ 31 then s.frameMissing p (d - 1)
    else if 2 ^ 31 ≤ d then s.modKerf p fun k => { k.modEvt (fun e => { e with gap := true }) with broken := true, learn := [] }
    else s
  let inOrder := d == 1 && !(s.krf p).broken
  let s := ((s.modKerf p fun k => { k with broken := false }).countFrame p f.fcnt).formBand p f
  let w := (s.krf p).reg.stat.win
  let blank : Judged := { frame := f, verd := .closed, judged := false, xl := (s.band p f.g).1, xr := (s.band p f.g).2 }
  if d = 0 then
    let s := s.modKerf p fun k => { k with shown := some { tag := tag, j := blank, win := w } }
    if f.live then s.modKerf p fun k => { k with wait := k.wait ++ [{ blank with verd := .blind, bcause := 2, inOrder := false }] } else s
  else if f.live then
    let sr := s.judgeFrame p f inOrder
    let s := sr.1
    let j := sr.2
    s.modKerf p fun k => { k with shown := some { tag := tag, j := { j with verd := .closed }, win := w }, wait := k.wait ++ [j] }
  else s.modKerf p fun k => { k with shown := some { tag := tag, j := blank, win := w } }

/-- R31, Table 1-6: what the end of a frame's DMA records of the fault it met at an address. -/
def State.dmaFault (s : State) (e : DmaEnd) (addr : Word) : State :=
  match e with
  | .ecc => s.fabFault .ecc 0 addr
  | .timeout => s.fabFault .timeout 0 addr
  | .violation => s.fabViolation 0 addr
  | .done | .linkError | .aborted => s

/-- R37, R165, R176: a head frame's DMA ends: DONE, or in ERROR or ABORTED, and then the frame is missing. -/
def execDmaComplete (p : PortalIx) (e : DmaEnd) (addr : Word) (s : State) : Out :=
  if !s.online then .next s else
  match (s.krf p).dma with
  | [] => .next s
  | (tag, f) :: rest =>
    let s := s.modKerf p fun k => { k with dma := rest }
    let stuck := (s.krf p).received && (s.krf p).reg.fcnt == f.fcnt
    .next (if e = .done then (s.takeFrame p tag f).learnFrame p f stuck else (s.dmaFault e addr).frameLost p f.fcnt)

/-- R52: an OCCUPIED verdict in a closing movement, or after one with CL = 0, sets KO. -/
def State.koSet (s : State) (p : PortalIx) : State :=
  let q := s.portal p
  if q.mov == some .closing && !q.cl then s.latchObs p (fun o => { o with ko := true }) true else s

/-- R170: an OCCUPIED verdict in WATCH. -/
def State.lockoccSet (s : State) (p : PortalIx) (j : Judged) : State :=
  let was := (s.krf p).reg.stat.lockocc
  let s := s.modKerf p fun k => ({ k with lockAt := if was then k.lockAt else s.mono }.modStat fun t => { t with lockocc := true }).modEvt fun e => { e with lockocc := true }
  if was then s else s.event 0x31 p.val 1 j.frame.fcnt.toNat (s.snapshot p j)

/-- R171: a BLIND verdict begins an episode. -/
def State.blindBegin (s : State) (p : PortalIx) (j : Judged) : State :=
  if (s.krf p).episode then s else
  let s := s.modKerf p fun k =>
    let k := k.modEvt fun e => { e with blind := true }
    { k with episode := true, reg := { k.reg with blindn := { k.reg.blindn with epis := satInc k.reg.blindn.epis } } }
  s.event 0x32 p.val j.bcause.toNat j.frame.fcnt.toNat (if j.bcause = 3 then s.snapshot p j else none)

/-- R167, R170: the run of CLEAR verdicts after this verdict. -/
def Kerf.runAfter (k : Kerf) (j : Judged) (frame : Bool) : Nat :=
  let from_ := if k.reg.stat.lockocc then some k.lockAt else k.tm
  let base := if j.inOrder then k.reg.stat.run.toNat else 0
  match j.verd, from_ with
  | .clear, some t => if frame && decide (t < j.frame.fend) then min 15 (base + 1) else base
  | .clear, none => 0
  | _, _ => 0

/-- A verdict as the kerf engine's registers and the frame window show it (R167, R176); the last judgement is that of a judged frame. -/
def Kerf.note (k : Kerf) (j : Judged) : Kerf :=
  let k := k.modStat fun t => { t with verd := j.verd, bcause := j.bcause }
  { k with last := if j.judged then some j else k.last
           fend := if j.judged then j.frame.fend else k.fend
           episode := k.episode && j.verd == Verdict.blind
           shown := k.shown.map fun v => if j.judged && v.j.frame.fend == j.frame.fend then { v with j := { v.j with verd := j.verd } } else v
           reg := if j.judged then { k.reg with
               lastj := { hitpix := satNat 16 j.hitpix, invpct := BitVec.ofNat 7 j.invpct }
               cnt := if j.verd = .occupied then { k.reg.cnt with occn := satInc k.reg.cnt.occn } else k.reg.cnt } else k.reg }

/-- A verdict at time `now` as channel A keeps it (R168, R169). -/
def Kerf.noteA (k : Kerf) (j : Judged) (run now : Nat) : Kerf :=
  let after := match k.tm with | some t => decide (t < now) | none => false
  { k.modStat (fun t => { t with run := BitVec.ofNat 4 run }) with
    afterTm := if after then some j.verd else k.afterTm
    nonBlind := if j.verd = .blind then k.nonBlind else some j.verd }

/-- What a verdict does in a window of state `w` whose verdict before it was `before` (R168 to R171). -/
def State.verdictAct (s : State) (p : PortalIx) (j : Judged) (w : KWin) (before : Verdict) : State :=
  match j.verd, w with
  | .occupied, .closing =>
    let s := s.modKerf p fun k => k.modEvt fun e => { e with occ := true }
    let s := if before = Verdict.occupied then s else s.event 0x30 p.val 0 j.frame.fcnt.toNat (s.snapshot p j)
    s.koSet p
  | .occupied, .watch => s.lockoccSet p j
  | .blind, _ => s.blindBegin p j
  | _, _ => s

/-- R177: a requested snapshot is recorded of the next judged frame. -/
def State.snapTake (s : State) (p : PortalIx) (j : Judged) : State :=
  if j.judged && (s.krf p).snapReq then
    (s.modKerf p fun k => { k with snapReq := false }).event 0x34 p.val 0 j.frame.fcnt.toNat (s.snapshot p j)
  else s

/-- R170: three CLEAR verdicts end LOCKOCC. -/
def State.verdictEnd (s : State) (p : PortalIx) (j : Judged) (run : Nat) : State :=
  let s := if (s.krf p).reg.stat.lockocc ∧ 3 ≤ run then s.modKerf p fun k => k.modStat fun t => { t with lockocc := false } else s
  (s.snapTake p j).kcondEval p

/-- R165, R167: a frame whose verdict channel A does not get is missing, and the frame after it, judged or still to come, does not follow
it. -/
def State.verdictMissing (s : State) (p : PortalIx) : State :=
  let s := s.frameMissing p 1
  s.modKerf p fun k => match k.wait with
    | [] => k
    | j :: r => { k with wait := { j with inOrder := false } :: r, broken := false }

/-- R167: a verdict is discarded: the window is CLOSED at its issue, or its frame ended before the present opening. -/
def Kerf.discards (k : Kerf) (j : Judged) (frame : Bool) : Bool :=
  k.reg.stat.win == .closed || (frame && decide (j.frame.fend < k.openAt))

/-- R167 to R171: a verdict is issued. `frame`: it belongs to a frame; a SILENT verdict does not. `reaches`: channel A gets it; a verdict
whose transfer or CRC fails acts in the kerf engine, with its events, records and latches, and for channel A, which forms RUN and KCOND, its
frame is missing (DESIGN CHOICE, log 93). -/
def State.issue (s : State) (p : PortalIx) (j : Judged) (frame reaches : Bool) : State :=
  let k := s.krf p
  if k.discards j frame then s else
  let run := k.runAfter j frame
  let s := (s.modKerf p fun k => k.note j).modPortal p fun q => { q with cycle := q.cycle.map fun c =>
    { c with kocc := c.kocc + (if j.verd = .occupied then 1 else 0), kblind := c.kblind + (if j.verd = .blind then 1 else 0) } }
  let s := if reaches then s.modKerf p fun k => k.noteA j run s.mono else s
  let s := s.verdictAct p j k.reg.stat.win k.reg.stat.verd
  if reaches then s.verdictEnd p j run else (s.snapTake p j).verdictMissing p

/-- R165: a verdict not ready 12 ms after its frame end is dropped as missing. -/
def State.verdictLate (s : State) (p : PortalIx) (rest : List Judged) : State :=
  (s.modKerf p fun k => ({ k with wait := rest }).modEvt fun e => { e with late := true }).verdictMissing p

/-- R167: the oldest judged frame's verdict is issued, within 12 ms of its frame end, and passed to channel A. -/
def execVerdictIssue (v : VerdictTransfer) (s : State) : Out :=
  let p := v.p
  if !s.online then .next s else
  match (s.krf p).wait with
  | [] => .next s
  | j :: rest =>
    if ms 12 < s.since j.frame.fend then .next (s.verdictLate p rest)
    else
      let s := s.modKerf p fun k => { k with wait := rest }
      .next (if (s.krf p).discards j true then s else (s.fabFault v.flt 5 v.addr).issue p j true (v.crc && v.flt == .none))

/-- R165: the oldest verdict is not ready within 12 ms. -/
def execVerdictLate (p : PortalIx) (s : State) : Out :=
  if !s.online then .next s else
  match (s.krf p).wait with
  | [] => .next s
  | j :: rest => .next ((s.upTo (j.frame.fend + ms 12 + 1)).verdictLate p rest)

/-- R166: no frame end for SILENT, and then for each frame period: a SILENT BLIND verdict. -/
def execSilentExpiry (p : PortalIx) (s : State) : Out :=
  if !s.online then .next s else
  let k := s.krf p
  if k.reg.stat.win = .closed then .next s else
  let period := if k.reg.stat.win = .closing then 400000000 / 120 else 400000000 / 30
  let due := match k.silAt with
    | some t => t + period
    | none => max k.lastEnd k.openAt + ms k.detNow.silent.toNat
  let s := s.upTo due
  let s := s.modKerf p fun k => { k with silAt := some s.mono }
  .next (s.issue p { frame := { fcnt := k.reg.fcnt, fend := s.mono, g := k.gmax, depth := [], live := true }, verd := .blind, bcause := 1,
                     inOrder := false, judged := false } false true)

/-- R172: the override line has been active for longer than OVRMAX. -/
def execOvrmaxExpiry (p : PortalIx) (s : State) : Out :=
  if !s.online then .next s else
  let k := s.krf p
  if k.ovrLine && k.cfgNow.ovren && !k.reg.stat.ovrstuck then
    let s := s.upTo (k.ovrAt + sec k.cfgNow.ovrmax.toNat + 1)
    .next ((s.modKerf p fun k => k.modStat fun t => { t with ovrstuck := true }).kcondEval p)
  else .next s

/-- R172: the line has been inactive for 1 s. -/
def execOvrstuckClear (p : PortalIx) (s : State) : Out :=
  if !s.online then .next s else
  let k := s.krf p
  if !k.ovrLine && k.reg.stat.ovrstuck then
    .next (((s.upTo (k.ovrAt + sec 1)).modKerf p fun k => k.modStat fun t => { t with ovrstuck := false }).kcondEval p)
  else .next s

end Sys2Proof.Machine
end

