-- ==== Sys2Proof/Machine/Load.lean ====
section
/-! DEFINITION. The commands of the load switches and of the load bus (chapter 8). -/

namespace Sys2Proof.Machine

/-- R228: the test may run: the idle window is open and the channel's command is off. -/
def State.oltReady (s : State) (c : ChanIx) : Bool := s.idleWindow && !s.lsEff c

/-- R228: the off-state test begins with a look at the output: above ALB − 2 V it is shorted to the bus. -/
def State.oltStart (s : State) (c : ChanIx) (shorted : Bool) : State :=
  (s.modLs c fun x => { x.modStat (fun t => { t with olt := if shorted then .shtalb else .running }) with oltAt := s.mono }).lsEval c

/-- R228: a request for the test, run at once or deferred. -/
def State.oltRequest (s : State) (c : ChanIx) (shorted : Bool) : State :=
  if !(s.portal (chanPortal c)).fitted then s
  else if (s.chan c).reg.stat.olt = .running then s
  else if s.oltReady c then s.oltStart c shorted
  else if (s.chan c).reg.stat.olt = .deferred then s
  else (s.modLs c fun x => x.modStat fun t => { t with olt := .deferred }).event 0x43 c.val 0

/-- R228: LSB.REQ.OLTEST. `shorted`: the output reads above ALB − 2 V with the channel off. -/
def execLsbOltest (c : ChanIx) (shorted : Bool) (s : State) : Out :=
  if !s.online then .next s else .next (s.oltRequest c shorted)

/-- R228: a deferred test starts once both conditions hold. -/
def execOltestStart (c : ChanIx) (shorted : Bool) (s : State) : Out :=
  if !s.online then .next s else
  if (s.chan c).reg.stat.olt = .deferred ∧ s.oltReady c then .next (s.oltStart c shorted) else .next s

/-- R228: the 5 ms of the test end; `above`: the output stands above 4 V. -/
def execOltestComplete (c : ChanIx) (above : Bool) (s : State) : Out :=
  if !s.online then .next s else
  if (s.chan c).reg.stat.olt = .running then
    let s := s.upTo ((s.chan c).oltAt + ms 5)
    .next ((s.modLs c fun x => x.modStat fun t => { t with olt := if above then .openLoad else .pass }).lsEval c)
  else .next s

/-- R224, R225: the junction reaches 170 °C: the channel switches off and latches; a retry is due, or none is left. -/
def execLsThermalShutdown (c : ChanIx) (tj : BitVec 16) (s : State) : Out :=
  if !s.online then .next s else
  if tj.toInt < 170 ∨ (s.chan c).reg.stat.tlatch then .next s else
  let x := s.chan c
  let on := s.lsEff c
  let last := on && decide (x.reg.cfg.retryn ≤ x.reg.stat.retries)
  let s := s.modLs c fun x =>
    let y := (x.modStat fun t => { t with tlatch := true }).modEvt fun e => { e with tsd := true, rlock := e.rlock || last }
    { y with spent := y.spent || last
             retryAt := if on && !last then some (s.mono + ms (10 * y.reg.retry.toNat)) else none
             attempt := false
             reg := { y.reg with meas := { y.reg.meas with tj := tj }, cnt := { y.reg.cnt with tsdn := satInc y.reg.cnt.tsdn } } }
  let s := (s.lsEval c).event 0x40 c.val 0 tj.toNat
  .next (if last then s.event 0x41 c.val 0 else s)

/-- An attempt to conduct again (R225). -/
def State.lsAttempt (s : State) (c : ChanIx) : State := (s.modLs c fun x => { x with retryAt := none, attempt := true }).lsEval c

/-- R224, R226, R232: the junction has cooled to 150 °C: the latch clears, in reset and sleep too, and what waited for it goes ahead. -/
def execLsLatchClear (c : ChanIx) (tj : BitVec 16) (s : State) : Out :=
  if 150 < tj.toInt ∨ !(s.chan c).reg.stat.tlatch then .next s else
  let s := s.modLs c fun x =>
    { x.modStat (fun t => { t with tlatch := false }) with
        spent := x.spent && !x.edgeWait, edgeWait := false, reg := { (x.modStat (fun t => { t with tlatch := false })).reg with meas := { x.reg.meas with tj := tj } } }
  if !s.online then .next s else
  match (s.chan c).retryAt with
  | some t => .next (if t ≤ s.mono then s.lsAttempt c else s.lsEval c)
  | none => .next (s.lsEval c)

/-- R225, R226: RETRYT after a shutdown the channel attempts to conduct, unless the latch is still set. -/
def execLsRetry (c : ChanIx) (s : State) : Out :=
  if !s.online then .next s else
  match (s.chan c).retryAt with
  | some t =>
    let s := s.upTo t
    .next (if (s.chan c).reg.stat.tlatch then s else s.lsAttempt c)
  | none => .next s

/-- R225: 10 s of continuous conduction return the retry counter to 0. -/
def execLsRetryCounterReset (c : ChanIx) (s : State) : Out :=
  if !s.online then .next s else
  if (s.chan c).reg.stat.out then
    .next ((s.upTo ((s.chan c).since + sec 10)).modLs c fun x => x.modStat fun t => { t with retries := 0 })
  else .next s

/-- R223, R227: the measured current has stayed below OLTH for 10 ms, or at or above it; regulation shows at ILIM. -/
def execOpenLoadDetect (c : ChanIx) (i : BitVec 16) (s : State) : Out :=
  if !s.online then .next s else
  if (s.chan c).reg.stat.out then
    .next (s.modLs c fun x =>
      let lim := decide (x.reg.cfg.ilim.toNat * 100 ≤ i.toNat)
      let low := decide (i.toNat < x.reg.cfg.olth.toNat) && x.reg.cfg.olen && !lim
      let y := x.modStat fun t => { t with ilimact := lim, openld := low }
      let y := if low && !x.reg.stat.openld then y.modEvt fun e => { e with openld := true } else y
      { y with reg := { y.reg with meas := { y.reg.meas with i := i } } })
  else .next s

/-- R229 to R231: the clamp energy of a switch-off, in µJ, is added to the accumulator; Choker may lock the channel off (DEDUCED, log 46).
The switch-offs by a reset, sleep or the power-fail sequence are measured too. -/
def execClampMeasurementComplete (c : ChanIx) (energy : Nat) (s : State) : Out :=
  if (s.chan c).clamping then
    let s := s.modLs c fun x => { x.setAcc (x.acc + energy) with clamping := false }
    let s := s.modLs c fun x => { x with reg := { x.reg with chk := { x.reg.chk with last := satNat 16 (energy / 100) } } }
    let x := s.chan c
    let past := decide (x.reg.chkcfg.budget.toNat * 1000 ≤ x.acc)
    let big := decide (800000 < energy)
    let s := if past then
        (s.modLs c fun x => { x.modEvt (fun e => { e with choke := true }) with
            choked := true, retryAt := none, attempt := false,
            reg := { (x.modEvt (fun e => { e with choke := true })).reg with cnt := { x.reg.cnt with choken := satInc x.reg.cnt.choken } } }).event
          0x42 c.val 1 x.reg.chk.toWord.toNat
      else s
    let s := if big then
        (s.modLs c fun x => { x.modEvt (fun e => { e with clampov := true }) with choked := true, retryAt := none, attempt := false }).event
          0x42 c.val 2 x.reg.chk.toWord.toNat
      else s
    .next (s.lsEval c)
  else .next s

/-- R229: every accumulator falls by LEAK for each 1 ms that has passed. -/
def execChokerLeak (s : State) : Out :=
  if !s.online then .next s else
  let s := s.upTo (s.lsg.leakAt + ms 1)
  let n := s.since s.lsg.leakAt / ms 1
  let s := { s with lsg := { s.lsg with leakAt := s.lsg.leakAt + ms n } }
  .next (s.forAll allChans fun s c => s.modLs c fun x => x.setAcc (x.acc - n * x.reg.chkcfg.leak.toNat))

/-- LSG.ALB changed. -/
def State.modAlb (s : State) (f : LsgAlb → LsgAlb) : State :=
  { s with lsg := { s.lsg with reg := { s.lsg.reg with alb := f s.lsg.reg.alb } } }

/-- The LSG.ALB bits as bits 12 to 15. -/
def LsgAlb.bit (b : LsgAlb) (i : Nat) : Bool := b.toWord.getLsbD i

/-- A supply fault begins: event bit, LS-SUPPLY record, and hold-off 1 unless it is an overvoltage (R233 to R236). -/
def State.supplyBegin (s : State) (i : Nat) (f : LsgAlb → LsgAlb) : State :=
  if s.lsg.reg.alb.bit i then s.modAlb f else
  let s := s.modAlb f
  let s := { s with lsg := { s.lsg with hold := s.lsg.hold || decide (i < 15),
                                        reg := { s.lsg.reg with evt := s.lsg.reg.evt ||| (1#4 <<< (i - 12)) } } }
  (s.forAll allChans State.lsEval).event 0x44 moduleUnit i 1

/-- A supply fault ends: one LS-SUPPLY record (R236). -/
def State.supplyEnd (s : State) (i : Nat) (f : LsgAlb → LsgAlb) : State :=
  if s.lsg.reg.alb.bit i then (s.modAlb f).event 0x44 moduleUnit i 0 else s

/-- R233: ALB below 8.0 V for 1 ms. -/
def execAlbUndervoltage (v : BitVec 12) (s : State) : Out :=
  if !s.online then .next s else
  .next (if v.toNat < 80 then s.supplyBegin 12 fun b => { b with v := v, uv := true } else s)

/-- R234: ALB reversed; the voltage reads 0. -/
def execAlbReversed (s : State) : Out :=
  if !s.online then .next s else .next (s.supplyBegin 13 fun b => { b with v := 0, rev := true })

/-- R235: loss of the ALB return. -/
def execAlbReturnLoss (s : State) : Out :=
  if !s.online then .next s else .next (s.supplyBegin 14 fun b => { b with gndl := true })

/-- R236: ALB above 154 V; every channel is left as commanded. -/
def execAlbOvervoltage (v : BitVec 12) (s : State) : Out :=
  if !s.online then .next s else
  .next (if 1540 < v.toNat then s.supplyBegin 15 fun b => { b with v := v, ovw := true } else s)

/-- R233 to R235: the supply has been normal for 10 ms, after an undervoltage at or above 9.0 V: hold-off 1 ends and channels follow their
commands. -/
def execSupplyHoldoffEnd (v : BitVec 12) (s : State) : Out :=
  if !s.online then .next s else
  if s.lsg.hold && (!s.lsg.reg.alb.uv || decide (90 ≤ v.toNat)) then
    let s := s.supplyEnd 12 fun b => { b with uv := false }
    let s := s.supplyEnd 13 fun b => { b with rev := false }
    let s := s.supplyEnd 14 fun b => { b with gndl := false }
    let s := s.modAlb fun b => { b with v := v }
    .next (({ s with lsg := { s.lsg with hold := false } }).forAll allChans State.lsEval)
  else .next s

end Sys2Proof.Machine
end

