-- ==== Sys2Proof/Machine/JournalOps.lean ====
section
/-! DEFINITION. Bathawin telegrams and the command journal: codes, acceptance, delivery and outcome (chapters 14 and 15). -/

namespace Sys2Proof.Machine

/-! ### Mirrored MRAM (R28) -/

/-- R28: a mirrored write with the confirmation of each device; a device that fails is marked failed and reported. -/
def State.mramWrite (s : State) (ok0 ok1 : Bool) (src : FabSource) : State × Bool :=
  let l := s.fab.lastf
  let good := (ok0 && !l.mram0) || (ok1 && !l.mram1)
  if (ok0 || l.mram0) && (ok1 || l.mram1) then (s, good) else
  let a := s.freeWord
  let s := { s.used with fab := { s.fab with
    lastf := { l with kind := 4, source := src, new := true, mram0 := l.mram0 || !ok0, mram1 := l.mram1 || !ok1 }, lasta := a } }
  (s.event 0x18 moduleUnit 4 a.toNat, good)

/-! ### Telegrams (R379 to R386) -/

/-- CODEA of Table 15-7. -/
def codeA (conn : Word) (bs : List Byte) : Nat :=
  (bs.foldl (fun c b => crcByte true 0x82F63B78 32 c b.toNat) conn.toNat) ^^^ 0xFFFFFFFF

/-- CODEH of Table 15-7. -/
def codeH (conn : Word) (bs : List Byte) : Nat :=
  bs.foldl (fun c b => crcByte false 0x741B8CD7 32 c b.toNat) (conn.toNat ^^^ 0xFFFFFFFF)

/-- The carrier head of R379. -/
def carrierHead : List Byte := [0x42, 0x01, 0, 0]

/-- Calendar µs [31:0] (R383). -/
def State.calUs (s : State) : Nat := s.calNow / 1000 % 2 ^ 32

/-- R380, R381: a telegram behind its carrier head. `codeh`: the CODEH that Hinge gives; without it channel A computes both codes
(R385, R386). -/
def State.telegram (s : State) (conn seq : Word) (type : Nat) (sdata : List Byte) (codeh : Option Word := none) : List Byte :=
  let body := beBytes 4 conn.toNat ++ beBytes 4 seq.toNat ++ beBytes 4 s.calUs ++ beBytes 1 1 ++ beBytes 1 type
    ++ beBytes 2 sdata.length ++ sdata ++ List.replicate ((4 - sdata.length % 4) % 4) 0
  carrierHead ++ body ++ beBytes 4 (codeA conn body) ++ beBytes 4 (match codeh with | some w => w.toNat | none => codeH conn body)

/-- A payload padded with zero bytes to the Ethernet minimum of 46 (R379). -/
def padEthernet (bs : List Byte) : List Byte := bs ++ List.replicate (46 - bs.length) 0

/-- A telegram leaves on SG or TN. -/
def State.sendTelegram (s : State) (sg : Bool) (conn seq : Word) (type : Nat) (sdata : List Byte) (codeh : Option Word := none) : State :=
  let b := s.telegram conn seq type sdata codeh
  s.send (.telegram sg (if sg then padEthernet b else b))

/-- R384: a reply on the link of its command, on CONNID XOR 0x8000_0000 with the command's TSEQ. -/
def State.reply (s : State) (sg : Bool) (c : JCmd) (type : Nat) (sdata : List Byte) : State :=
  s.sendTelegram sg (c.connid ^^^ 0x80000000#32) c.tseq type sdata

/-- The journal changed. -/
def State.modJnl (s : State) (f : Journal → Journal) : State := { s with jnl := f s.jnl }

/-- CMJ registers changed. -/
def State.modCmj (s : State) (f : Cmj → Cmj) : State := s.modJnl fun j => { j with reg := f j.reg }

/-- The OP of COMMAND (Table 17-9). -/
def opCommand : Nat := 0x0070

/-- The session on SVC with this number is open. -/
def Security.isOpen (t : Security) (num : Nat) : Bool :=
  match t.sessions[0] with | some e => e.num == num | none => false

/-- R433: a response to COMMAND leaves in the session that sent it, where that is still open. -/
def State.cmdResponse (s : State) (num : Nat) (tag : Word) (status : Nat) (payload : List Byte) : State :=
  if s.tru.isOpen num then s.send (.response 0 opCommand tag status payload) else s

/-- R351, R433: an acknowledgement with the entry's JSEQ. -/
def State.ack (s : State) (c : JCmd) (src : CmdSource) (jseq : Nat) : State :=
  match src with
  | .tn => s.reply false c 2 (beBytes 8 jseq)
  | .sg => s.reply true c 2 (beBytes 8 jseq)
  | .svc n tag => s.cmdResponse n tag 0 (leBytes 8 jseq)

/-- R351, R433: a negative acknowledgement with a code of Table 14-2. -/
def State.nak (s : State) (c : JCmd) (code : Nat) : State :=
  let s := s.modCmj fun r => { r with nakn := { r.nakn with nakn := satInc r.nakn.nakn } }
  match c.source with
  | .tn => s.reply false c 3 (beBytes 1 code ++ [0, 0, 0])
  | .sg => s.reply true c 3 (beBytes 1 code ++ [0, 0, 0])
  | .svc n tag => s.cmdResponse n tag 5 (leBytes 4 code)

/-! ### Acceptance (R351 to R354) -/

/-- R382, check 4: KIND is a reserved code of Table 14-1. -/
def reservedKind (k : Byte) : Bool := k == 0 || (decide (5 < k.toNat) && decide (k.toNat < 0x80))

/-- The entry is open: it has no outcome. -/
def Entry.isOpen (e : Entry) : Bool := e.state == .accepted || e.state == .delivered

/-- The entry's command has an outcome that no report has carried yet. -/
def Entry.waiting (e : Entry) : Bool := !e.isOpen && !e.sent

/-- The table row of a connection. -/
def Journal.conn (j : Journal) (id : Word) : Option Conn := j.conns.find? fun r => r.id == id

/-- The telegram sequence last accepted on a connection, writes in progress included. -/
def Journal.lastSeq (j : Journal) (id : Word) : Option Word :=
  match j.writes.reverse.find? fun w => w.cmd.connid == id with
  | some w => some w.cmd.tseq
  | none => (j.conn id).map Conn.last

/-- R354: the row that can be retired: no open entry, no report waiting, silent longest and for an hour at least. -/
def Journal.retirable (j : Journal) (now : Nat) : Option Conn :=
  let ok := j.conns.filter fun r =>
    decide (sec 3600 ≤ now - r.at_) && !(j.entries.any fun e => e.cmd.connid == r.id && (e.isOpen || e.waiting))
      && !(j.writes.any fun w => w.cmd.connid == r.id)
  ok.find? fun r => ok.all fun q => decide (r.at_ ≤ q.at_)

/-- Rows in use, those of first commands being written included. -/
def Journal.rows (j : Journal) : Nat :=
  j.conns.length + ((j.writes.map fun w => w.cmd.connid).eraseDups.filter fun id => (j.conn id).isNone).length

/-- Why a command that is next on its connection is not accepted (Table 14-2) (DEDUCED, log 42). -/
def Journal.refuses (j : Journal) (c : JCmd) (now : Nat) : Option Nat :=
  if (j.lastSeq c.connid).isNone && decide (64 ≤ j.rows) && (j.retirable now).isNone then some 3
  else if 1024 ≤ j.entries.length + j.writes.length then some 1
  else none

/-- R351: the write of an accepted command's entry begins; a row is retired first where one is needed (R354). -/
def Journal.begin_ (j : Journal) (c : JCmd) (now : Nat) : Journal :=
  let j := if (j.lastSeq c.connid).isNone ∧ 64 ≤ j.rows then
      match j.retirable now with
      | some r => { j with conns := j.conns.filter fun q => q.id != r.id }
      | none => j
    else j
  { j with writes := j.writes ++ [{ cmd := c, tacc := now }] }

/-- R353: a duplicate is acknowledged again with the JSEQ of its original, once that is written (R362). -/
def State.duplicate (s : State) (c : JCmd) : State :=
  let s := s.modCmj fun r => { r with cnt := { r.cnt with dupn := satInc r.cnt.dupn } }
  if s.jnl.writes.any fun w => w.cmd.connid == c.connid && w.cmd.tseq == c.tseq then
    s.modJnl fun j => { j with writes := j.writes.map fun w =>
      if w.cmd.connid == c.connid && w.cmd.tseq == c.tseq then { w with dups := w.dups ++ [c.source] } else w }
  else
    match (s.jnl.conn c.connid).bind fun r => (r.jseq.find? fun e => e.1 == c.tseq).map Prod.snd with
    | some n => s.ack c c.source n
    | none => s.used.ack c c.source s.freeNat

/-- R353, R354: a command that passed the checks of its link is judged; none is accepted or answered otherwise once the power-fail
sequence or entry to sleep has begun (Table 14-5). -/
def State.judgeCommand (s : State) (c : JCmd) : State :=
  if s.jnl.closed then s.nak c 4 else
  let d := (s.jnl.lastSeq c.connid).map fun l => (c.tseq - l).toNat
  let s := s.modJnl fun j => { j with conns := j.conns.map fun r => if r.id == c.connid then { r with at_ := s.mono } else r }
  match d with
  | some d =>
    if d = 0 ∨ 2 ^ 31 ≤ d then s.duplicate c
    else if d ≠ 1 then s.nak c 2
    else
      match s.jnl.refuses c s.mono with
      | some code => s.nak c code
      | none => s.modJnl fun j => j.begin_ c s.mono
  | none =>
    match s.jnl.refuses c s.mono with
    | some code => s.nak c code
    | none => s.modJnl fun j => j.begin_ c s.mono

/-- Table 14-3: a command as its entry keeps it: an EXPMS of 0 in the telegram gives the CMJ.DEFEXP of the acceptance. -/
def Journal.accepted (j : Journal) (c : JCmd) : JCmd := if c.expms = 0 then { c with expms := j.reg.defexp.setWidth 32 } else c

/-- Table 14-3: the 60 bytes of an entry under its CRC. -/
def Entry.body (e : Entry) : List Byte :=
  leBytes 8 e.jseq ++ leBytes 4 e.cmd.connid.toNat ++ leBytes 4 e.cmd.tseq.toNat
    ++ [e.cmd.kind, e.cmd.target, BitVec.ofNat 8 e.cmd.source.code, BitVec.ofNat 8 e.state.code]
    ++ leBytes 4 e.cmd.arg.toNat ++ leBytes 8 e.tacc ++ leBytes 4 e.epoch.toNat ++ leBytes 4 e.cmd.expms.toNat
    ++ [e.reason, (if e.redel then 1 else 0) ||| (if e.sent then 2 else 0), 0, 0] ++ List.replicate 16 0

/-- R356: the 64 bytes in which an entry stands in MRAM: rewritten whole at each change of its state (R32). -/
def Entry.bytes (e : Entry) : List Byte := e.body ++ leBytes 4 (crc32c e.body)

/-- R351, R352: the oldest write ends. `ok`: the entry stands in MRAM. -/
def State.writeEnd (s : State) (ok : Bool) : State :=
  match s.jnl.writes with
  | [] => s
  | w :: ws =>
    let s := s.modJnl fun j => { j with writes := ws }
    if !ok then w.dups.foldl (fun s src => s.nak { w.cmd with source := src } 5) (s.nak w.cmd 5) else
    let n := s.jnl.jseq + 1
    let s := s.modJnl fun j =>
      let row := (j.conn w.cmd.connid).getD { id := w.cmd.connid, last := w.cmd.tseq, jseq := [], at_ := w.tacc }
      let row := { row with last := w.cmd.tseq, jseq := (w.cmd.tseq, n) :: row.jseq.filter fun e => e.1 != w.cmd.tseq }
      { j with jseq := n
               entries := j.entries ++ [{ cmd := j.accepted w.cmd, jseq := n, tacc := w.tacc, epoch := j.reg.epoch }]
               conns := (j.conns.filter fun r => r.id != row.id) ++ [row]
               reg := { j.reg with cnt := { j.reg.cnt with accn := satInc j.reg.cnt.accn } } }
    w.dups.foldl (fun s src => s.ack w.cmd src n) (s.ack w.cmd w.cmd.source n)

/-- R28, R351: the oldest write ends, with the confirmation of each MRAM device. -/
def State.writeDone (s : State) (ok0 ok1 : Bool) : State :=
  let sr := s.mramWrite ok0 ok1 6
  sr.1.writeEnd sr.2

/-! ### Delivery and outcome (R358 to R361) -/

/-- An entry, named by its JSEQ, changed. -/
def State.modEntry (s : State) (n : Nat) (f : Entry → Entry) : State :=
  s.modJnl fun j => { j with entries := j.entries.map fun e => if e.jseq = n then f e else e }

/-- R433: the payload of an OUTCOME notice. -/
def Entry.notice (e : Entry) : List Byte :=
  leBytes 8 e.jseq ++ leBytes 4 e.cmd.connid.toNat ++ leBytes 4 e.cmd.tseq.toNat ++ leBytes 1 (if e.state = .done then 1 else 0)
    ++ [e.reason, 0, 0]

/-- R359, R360, R433: the outcome report leaves and SENT is set; a session's outcome waits while that session is closed. -/
def State.report (s : State) (e : Entry) : State :=
  let sdata := beBytes 8 e.jseq ++ beBytes 1 (if e.state = .done then 1 else 0) ++ [e.reason, 0, 0]
  let sent := fun s : State => s.modEntry e.jseq fun e => { e with sent := true, at_ := s.mono }
  match e.cmd.source with
  | .tn => sent (s.reply false e.cmd 4 sdata)
  | .sg => sent (s.reply true e.cmd 4 sdata)
  | .svc num _ => if s.tru.isOpen num then sent (s.send (.notice 0 e.notice)) else s

/-- R359: an entry gets its outcome, which is written before its report leaves (R360). -/
def State.outcome (s : State) (e : Entry) (done : Bool) (reason : Byte) : State :=
  let e' := { e with state := if done then .done else .refused, reason := reason }
  let s := s.modEntry e.jseq fun _ => e'
  let s := s.modJnl fun j =>
    { j with dlv := if e.state = .delivered then j.dlv.set 1 (j.dlv[1] &&& 0x7FFFFFFF) else j.dlv
             reg := { j.reg with nakn := { j.reg.nakn with
               expn := if reason = 2 ∨ reason = 3 then satInc j.reg.nakn.expn else j.reg.nakn.expn } } }
  s.report e'

/-- The entry that is DELIVERED. -/
def Journal.delivered (j : Journal) : Option Entry := j.entries.find? fun e => e.state == .delivered

/-- Age of an entry in ticks. -/
def State.age (s : State) (e : Entry) : Nat := s.mono - e.tacc

/-- R358: the reason that refuses an entry in its place at TAKE. -/
def State.takeRefusal (s : State) (e : Entry) : Option Byte :=
  if e.epoch ≠ s.jnl.reg.epoch then some 3
  else if ms e.cmd.expms.toNat ≤ s.age e then some 2
  else if s.eng.sys.mode.factory then some 4
  else none

/-- R358: an entry is delivered and shown. -/
def State.deliver (s : State) (e : Entry) : State :=
  let left := (ms e.cmd.expms.toNat - s.age e) / ms 1
  let w1 := putV e.cmd.kind 0 ||| putV e.cmd.target 8 ||| putV (BitVec.ofNat 2 e.cmd.source.code) 16 ||| putB e.redel 18 ||| putB true 31
  (s.modEntry e.jseq fun e => { e with state := .delivered, at_ := s.mono }).modJnl fun j =>
    { j with dlv := #v[BitVec.ofNat 32 e.jseq, w1, e.cmd.arg, e.cmd.connid, e.cmd.tseq, BitVec.ofNat 32 left] }

/-- R358: TAKE over the entries from the oldest. -/
def State.takeFrom (s : State) : List Entry → State
  | [] => s
  | e :: es =>
    if e.state ≠ .accepted then s.takeFrom es else
    match s.takeRefusal e with
    | some r => (s.outcome e false r).takeFrom es
    | none => s.deliver e

/-- R358: a write of CMJ.CTL.TAKE. -/
def State.take (s : State) : State := if s.jnl.delivered.isSome then s else s.takeFrom s.jnl.entries

/-- R359: a write of CMJ.RES. -/
def State.result (s : State) (w : Word) : State :=
  let st := fun (s : State) (v : BitVec 2) => s.modCmj fun r => { r with rstat := v }
  let reason := getF w 0 8
  let out := w.getLsbD 8
  match s.jnl.delivered with
  | none => st s 2
  | some e =>
    if e.jseq % 65536 ≠ (getF w 16 16).toNat then st s 2
    else if !(if out then reason == 0 else reason == 1 || reason == 5 || decide (0x80 ≤ reason.toNat)) then st s 3
    else st (s.outcome e out reason) 1

/-- R361: a DELIVERED entry returns to ACCEPTED with REDEL. -/
def State.redeliver (s : State) : State :=
  match s.jnl.delivered with
  | none => s
  | some e =>
    (s.modEntry e.jseq fun e => { e with state := .accepted, redel := true }).modJnl fun j =>
      { j with dlv := j.dlv.set 1 (j.dlv[1] &&& 0x7FFFFFFF) }

/-- R360: outcomes without SENT are reported again, as far as their link allows. -/
def State.reportAll (s : State) : State := s.forAll (s.jnl.entries.filter Entry.waiting) State.report

/-- R433: the waiting outcomes of sessions are sent in a session on SVC that holds SERVICE. -/
def State.reportSession (s : State) : State :=
  s.forAll (s.jnl.entries.filter fun e => e.waiting && e.cmd.source.code == 2) fun s e =>
    (s.send (.notice 0 e.notice)).modEntry e.jseq fun e => { e with sent := true, at_ := s.mono }

end Sys2Proof.Machine
end

