-- ==== Sys2Proof/Machine/EngineOps.lean ====
section
/-! DEFINITION. Filif engine operations: contexts and banks, instruction boundaries, tagged instances, entry to RUN, HOLD and STOP
(chapters 10 to 12). -/

namespace Sys2Proof.Machine

/-! ### Contexts (R271, R288) -/

/-- The context that executes: the highest-priority call-out running, else the cycle. Bank 0 is the cycle's, bank p + 1 priority p's. -/
def Engine.cur (e : Engine) : Fin 5 :=
  if e.running[0].isSome then 1 else if e.running[1].isSome then 2 else if e.running[2].isSome then 3
  else if e.running[3].isSome then 4 else 0

/-- The executing context's bank. -/
def State.bank (s : State) : Bank := s.eng.banks[s.eng.cur.val]

/-- The executing context's bank changed. -/
def State.modBank (s : State) (f : Bank → Bank) : State :=
  s.modEng fun e => { e with banks := e.banks.set e.cur.val (f e.banks[e.cur.val]) }

/-- Register `r` of a bank. -/
def Bank.r (k : Bank) (r : Reg) : Word := k.l[r.val]

/-- Register `r` written. -/
def Bank.put (k : Bank) (r : Reg) (w : Word) : Bank := { k with l := k.l.set r.val w }

/-- Register `r` of the executing context. -/
def State.r (s : State) (r : Reg) : Word := s.bank.r r

/-- Register `r` of the executing context written. -/
def State.putR (s : State) (r : Reg) (w : Word) : State := s.modBank fun k => k.put r w

/-- A call-out runs or is interrupted. -/
def Engine.inCallout (e : Engine) : Bool := e.cur != 0

/-- R270: the call-out can start: none of its own or a higher priority runs or is interrupted. -/
def Engine.canStart (e : Engine) (p : PendCo) : Bool :=
  (List.finRange 4).all fun q => q.val > p.prio.val || e.running[q.val].isNone

/-- R270: which of two pending call-outs starts first. -/
def PendCo.before (p q : PendCo) : Bool :=
  p.prio.val < q.prio.val ||
    (p.prio == q.prio && (p.time < q.time || (p.time == q.time && p.num.toNat ≤ q.num.toNat)))

/-- R270: the pending call-out that starts at this boundary. -/
def Engine.eligible (e : Engine) : Option PendCo :=
  (e.pend.filter e.canStart).find? fun p => (e.pend.filter e.canStart).all fun q => p.before q

/-- Instructions the running call-out has executed; 0 in the cycle. -/
def Engine.insns (e : Engine) : Nat :=
  if e.cur.val = 0 then 0 else match vget e.running (e.cur.val - 1) none with | some r => r.insns | none => 0

/-- R272: the running call-out has executed 2,000 instructions, its RETC not among them. -/
def Engine.spent (e : Engine) : Bool := decide (2000 ≤ e.insns)

/-- The watchdog interval is over (R273); it is suspended in HOLD (R280). -/
def State.wdOver (s : State) : Bool :=
  s.eng.sys.mode.mode == .run && decide (us s.eng.sys.wdt.wdt.toNat ≤ s.since s.eng.wdStart)

/-- R276, R286: of the cause `n` and of a watchdog or budget that is due at the same instruction boundary the lowest. -/
def State.stopCause (s : State) (n : Nat) : BitVec 4 := BitVec.ofNat 4 (if s.wdOver then min n 3 else if s.eng.spent then min n 4 else n)

/-- The engine executes an instruction at this boundary: in RUN in the execute phase or a call-out, with no call-out due to start before
a BMOVE that does not stall (Table 11-13), the watchdog interval not over (R273) and the call-out's budget not used up (R272); in HOLD
only as a single step (R280); the core is up. -/
def State.ready (s : State) : Bool :=
  let e := s.eng
  let busy := e.inCallout || e.phase == .execute
  s.online && if e.stepping then e.sys.mode.mode == .hold && busy && !e.spent
  else e.sys.mode.mode == .run && busy && (e.eligible.isNone || e.stalled) && !s.wdOver && !e.spent

/-- A call-out's count of executed instructions rises; the cycle has none (R272). -/
def Engine.counted (e : Engine) : Engine :=
  if e.cur.val = 0 then e else
  let i := e.cur.val - 1
  let n := e.insns + 1
  { e with running := vmod e.running i fun r => r.map fun x => { x with insns := n }
           sys := { e.sys with comax := if e.sys.comax.toNat < n then satNat 11 n else e.sys.comax } }

/-- One executed word: the program counter moves on, time passes, and a call-out's count rises (R272, R308). -/
def State.retire (s : State) (cycles : Nat) : State :=
  ((s.pass cycles).modBank fun k => { k with pc := k.pc + 4 }).modEng fun e => { e.counted with stalled := false }

/-- An instruction of `cycles` cycles, executed where the engine is ready; where it is not, the word is not reached. -/
def State.insn (s : State) (cycles : Nat) (f : State → State) : State :=
  if s.ready then f (s.retire cycles) else s

/-- An instruction that touches only its context's bank. -/
def State.bankOp (s : State) (cycles : Nat) (f : Bank → Bank) : State := s.insn cycles fun s => s.modBank f

/-! ### Tagged instances (R310, R313) -/

/-- The address of an instance (R310). -/
def tagAddr (t : BitVec 14) : Nat := tagBase + 16 * t.toNat

/-- The 16 bytes of an instance. -/
def State.quad (s : State) (t : BitVec 14) : Quad :=
  { w0 := s.memWord (tagAddr t), w1 := s.memWord (tagAddr t + 4), w2 := s.memWord (tagAddr t + 8), w3 := s.memWord (tagAddr t + 12) }

/-- The 16 bytes of an instance written. -/
def State.setQuad (s : State) (t : BitVec 14) (q : Quad) : State :=
  (((s.setWord (tagAddr t) q.w0).setWord (tagAddr t + 4) q.w1).setWord (tagAddr t + 8) q.w2).setWord (tagAddr t + 12) q.w3

/-- The declaration of a tag (R311). -/
def Engine.tag (e : Engine) (t : BitVec 14) : Option TagDecl := e.tags.find? fun d => d.tag == t

/-- "Now" of chapter 12: whole µs of monotonic time (R314). -/
def State.nowUs (s : State) : Nat := s.mono / 400

/-- A timer's state, Table 12-2. -/
structure Timer where
  pt    : Nat
  acc   : Nat
  start : Nat
  inp   : Bool
  q     : Bool
  run   : Bool
  deriving DecidableEq, Repr

/-- A timer read from its bytes (Table 12-2). -/
def Timer.of (q : Quad) : Timer :=
  { pt := q.w0.toNat, acc := q.w1.toNat, start := q.w2.toNat + 4294967296 * (getF q.w3 0 24).toNat,
    inp := q.w3.getLsbD 24, q := q.w3.getLsbD 25, run := q.w3.getLsbD 26 }

/-- A timer's bytes, reserved bits zero (R313). -/
def Timer.quad (t : Timer) : Quad :=
  { w0 := BitVec.ofNat 32 t.pt, w1 := BitVec.ofNat 32 t.acc, w2 := BitVec.ofNat 32 t.start,
    w3 := putV (BitVec.ofNat 24 (t.start / 4294967296)) 0 ||| putB t.inp 24 ||| putB t.q 25 ||| putB t.run 26 }

/-- ET (R317): the difference in 56 bits, the sum held at 0xFFFF_FFFF. -/
def Timer.et (t : Timer) (now : Nat) : Nat :=
  if t.run then min t.pt (min 0xFFFFFFFF (t.acc + (now + 2 ^ 56 - t.start % 2 ^ 56) % 2 ^ 56)) else t.acc

/-- The type is a timer. -/
def TagType.isTimer (t : TagType) : Bool := t == .ton || t == .tof || t == .tp || t == .tonr

/-! ### Modes (R276 to R280, R316) -/

/-- SYS.MODE.MODE. -/
def State.mode (s : State) : RunMode := s.eng.sys.mode.mode

/-- SYS.MODE changed. -/
def State.modMode (s : State) (f : SysMode → SysMode) : State := s.modSys fun y => { y with mode := f y.mode }

/-- A DMA completion word, Table 1-6. -/
def completion (state : BitVec 2) (err : BitVec 6) (tag : BitVec 8) : Word := putV state 30 ||| putV err 24 ||| putV tag 16

/-- Staged words of every block are discarded (R35). -/
def Axis.discard (x : Axis) : Axis :=
  { x with sTgt := x.reg.tgt, sVlim := x.reg.vlim, tgtSet := false, vlimSet := false, sBlz := x.blz }

/-- The position output's staged words are discarded (R35). -/
def Portal.discard (q : Portal) : Portal :=
  { q with sPopw := q.po.popw, sPocen := q.po.pocen, sPocdir := q.po.pocdir, sPocmp := q.po.pocmp, poSet := false }

/-- Staged words of every block are discarded (R35). -/
def State.discardStaged (s : State) : State :=
  { s with axes := s.axes.map Axis.discard, portals := s.portals.map Portal.discard,
           ls := s.ls.map fun c => { c with sCmd := c.reg.cmd, staged := false },
           kerf := s.kerf.map fun k => { k with sZwide := k.reg.zwide, staged := false } }

/-- Block moves in flight end ABORTED (R277). -/
def State.abortMoves (s : State) : State :=
  let s' := s.forAll (s.eng.moves.toList.filterMap id) fun s m => s.setWord m.cw (completion 3 0 m.tag)
  s'.modEng fun e => { e with moves := Vector.replicate 4 none }

/-- The MRAM copies of all RETAIN instances are written (R316). -/
def State.saveRetain (s : State) : State :=
  s.modEng fun e => { e with retained := (e.tags.filter TagDecl.retain).map fun d =>
    let q := s.quad d.tag
    { tag := d.tag, type := d.type, val := q, et := BitVec.ofNat 32 ((Timer.of q).et s.nowUs) } }

/-- R277, Table 10-6: entry to STOP. A HOLD that a session waits for outlasts a STOP that an automatic restart can end (Table 10-8). -/
def State.enterStop (s : State) (cause : BitVec 4) : State :=
  if s.mode = .stop then s else
  let n := s.eng.pend.length
  let s := s.modEng fun e =>
    { e with pend := [], running := Vector.replicate 4 none, phase := .wait, stopAt := s.mono, frameAt := s.mono,
             holdReq := e.holdReq && (cause == 3 || cause == 4), stepping := false, stalled := false,
             sys := { e.sys with
               mode := { e.sys.mode with mode := .stop, cause := cause },
               cocnt := { e.sys.cocnt with lost := satNat 16 (e.sys.cocnt.lost.toNat + n) },
               stopn := { stops := satInc e.sys.stopn.stops,
                          wdogn := if cause = 3 then satInc e.sys.stopn.wdogn else e.sys.stopn.wdogn } } }
  let s := (s.discardStaged.abortMoves).saveRetain.redeliver
  let s := s.forAll allAxes fun s a => (s.modAxis a fun x => { x with stopAt := s.mono }).stopAxis a 7
  let s := s.forAll allChans fun s c => (s.modLs c fun x => { x with safeGov := true }).lsEval c
  (s.event 0x10 moduleUnit cause.toNat).flush

/-- R280: entry to HOLD: every axis is halted. -/
def State.enterHold (s : State) : State :=
  let s := s.modMode fun m => { m with mode := .hold }
  let s := s.modEng fun e => { e with holdReq := false, frameAt := s.mono }
  s.forAll allAxes State.haltAxis

/-- R280: resume from HOLD: the watchdog interval starts afresh. -/
def State.resume (s : State) : State :=
  (s.modMode fun m => { m with mode := .run }).modEng fun e => { e with wdStart := s.mono, atEnd := false }

/-- The initial state of an instance at a cold entry: its RETAIN copy where there is a matching one (R316). -/
def Engine.initial (e : Engine) (now : Nat) (d : TagDecl) : Quad :=
  match (if d.retain then e.retained.find? fun c => c.tag == d.tag && c.type == d.type else none) with
  | none => d.init
  | some c =>
    let t := Timer.of c.val
    if d.type.isTimer && t.run then ({ t with acc := c.et.toNat, start := now % 2 ^ 56 } : Timer).quad else c.val

/-- A cold entry loads the data range and every instance (R316). -/
def State.coldLoad (s : State) : State :=
  let s := ({ s with mem := Mem.clear s.mem dataBase dataEnd }).setBytes dataBase s.eng.data0
  s.forAll s.eng.tags fun s d => s.setQuad d.tag (s.eng.initial s.nowUs d)

/-- At every entry to RUN the LAST of every RAMP instance is the low word of now (R316). -/
def State.rampLast (s : State) : State :=
  s.forAll (s.eng.tags.filter fun d => d.type == .ramp) fun s d =>
    s.setQuad d.tag { s.quad d.tag with w3 := BitVec.ofNat 32 s.nowUs }

/-- The output image is loaded from the safe output image (R278). -/
def State.loadSafeOut (s : State) : State :=
  ({ s with mem := Mem.clear s.mem outBase outEnd }).setBytes outBase s.eng.safeOut

/-- R278: entry to RUN. The holding image then puts every HT and LP at its safe value (R337, log 114). -/
def State.enterRun (s : State) (cold : Bool) : State :=
  let s := s.loadSafeOut
  let s := { s with fio := { s.fio with imgFo := s.fio.reg.focfg.safe } }
  let s := (if cold then s.coldLoad else s).rampLast
  let s := s.modEng fun e =>
    { e with banks := Vector.replicate 5 {}, running := Vector.replicate 4 none, phase := .wait, first := true, wdStart := s.mono,
             outEnd := s.mono, replied := 0, applied := s.mem.filter fun c => decide (outBase ≤ c.1),
             sys := { e.sys with mode := { e.sys.mode with mode := .run, warm := !cold },
                                 cyct := { e.sys.cyct with max := 0 }, comax := 0 } }
  let s := s.forAll allAxes fun s a => (s.modAxis a fun x => { x with stopOff := false }).bridgeEval a
  s.forAll allChans fun s c => (if s.eng.sys.mode.factory then s.modLs c fun x => { x with resetOff := false } else s).lsEval c

end Sys2Proof.Machine
end

