-- ==== Sys2Proof/Machine/SessionOps.lean ====
section
/-! DEFINITION. Sessions: rights, responses, and what the end of a session undoes (R421 to R424, R430, R431, R434). -/

namespace Sys2Proof.Machine

/-- The session on a link: 0 on SVC, 1 and 2 on TN. -/
abbrev SesIx := Fin 3

/-- Landing changed. -/
def State.modLnd (s : State) (f : Landing → Landing) : State := { s with lnd := f s.lnd }

/-- LND.STAT changed. -/
def Landing.modStat (l : Landing) (f : LndStat → LndStat) : Landing := { l with reg := { l.reg with stat := f l.reg.stat } }

/-- Keys, counters and sessions changed. -/
def State.modTru (s : State) (f : Security → Security) : State := { s with tru := f s.tru }

/-- R334: LANDING is emptied, whatever it held. -/
def Landing.cancel (l : Landing) : Landing :=
  { l.modStat (fun t => { t with state := .empty, reject := 0, holdrsn := 0 }) with
    landing := [], total := 0, owner := none, activate := false, degHeld := false, verifier := none }

/-- The bank that is not running. -/
def Security.idle (t : Security) : Fin 2 := 1 - t.bank

/-- R434: a firmware transfer ends without its last chunk: the idle bank is left erased. -/
def Security.eraseIdle (t : Security) : Security := { t with banks := t.banks.set t.idle.val [], fwBuf := [], fwTotal := none }

/-- R424, R434: a session ends: its RECEIVING transfer and a HOLD it waits for are cancelled, its firmware transfer leaves the bank erased, and what it
asked for and was not answered yet is dropped. -/
def State.endSession (s : State) (i : SesIx) : State :=
  if (s.tru.sessions[i.val]).isNone then s else
  let s := s.modLnd fun l => if l.reg.stat.state == .receiving && l.owner == some i then l.cancel else l
  let s := s.modLnd fun l => { l with verifier := l.verifier.filter fun v => v.1 != i }
  let s := if i = 0 then s.modEng fun e => { e with holdReq := false } else s
  s.modTru fun t =>
    let t := match t.fwTotal with | some f => if f.1 = i then t.eraseIdle else t | none => t
    { t with sessions := t.sessions.set i.val none, attest := t.attest.filter fun a => a.1 != i }

/-- R424: every session is lost. -/
def State.endSessions (s : State) : State := s.forAll (List.finRange 3) State.endSession

/-- The rights of R422, as TRU.SESS numbers them. -/
inductive Right where
  | read | land | service | debug | force | anchor
  deriving DecidableEq, Repr

/-- The bit of a right in TRU.SESS.RIGHTS. -/
def Right.bit : Right → Nat
  | .read => 0 | .land => 1 | .service => 2 | .debug => 3 | .force => 4 | .anchor => 5

/-- Table 17-10. -/
inductive Status where
  | ok | right | badreq | state | access | refused | busy
  deriving DecidableEq, Repr

/-- The code of Table 17-10. -/
def Status.code : Status → Nat
  | .ok => 0 | .right => 1 | .badreq => 2 | .state => 3 | .access => 4 | .refused => 5 | .busy => 6

/-- What an operation answers at once: nothing yet, or a status and a payload. -/
inductive Answer where
  | later
  | now (st : Status) (payload : List Byte := [])
  deriving DecidableEq, Repr

/-- A response leaves. -/
def State.respond (s : State) (i : SesIx) (op : Nat) (tag : Word) (st : Status) (payload : List Byte := []) : State :=
  s.send (.response i.val op tag st.code payload)

/-- The session holds a right (R422: on TN only READ and LAND count). -/
def Session.has (e : Session) (r : Right) : Bool := e.rights.getLsbD r.bit

/-- The source is session number `n`. -/
def CmdSource.isSession (c : CmdSource) (n : Nat) : Bool := match c with | .svc k _ => k == n | .tn | .sg => false

/-- A response to session `i` is due and has not left: to a LAND-VERIFY, an ATTEST or a COMMAND. -/
def State.owes (s : State) (i : SesIx) : Bool :=
  s.lnd.verifier.any (fun v => v.1 == i) || s.tru.attest.any (fun a => a.1 == i)
    || (match s.tru.sessions[i.val] with
      | some e => i.val == 0 && s.jnl.writes.any fun w => w.cmd.source.isSession e.num || w.dups.any fun d => d.isSession e.num
      | none => false)

end Sys2Proof.Machine
end

