-- ==== Sys2Proof/Machine/TallyOps.lean ====
section
/-! DEFINITION. Tally: what a flush writes to FIRST and ROLL, records as stored, reading the history, and emission by the program
(chapter 16). -/

namespace Sys2Proof.Machine

/-! ### Flash (R400 to R402, R407) -/

/-- 16 KiB pages that `n` bytes take. -/
def pagesOf (n : Nat) : Nat := (n + 16383) / 16384

/-- R400: the PAD record behind `n` bytes that end in page `p`: none where the page is full, or its tail too short for a record
(DEDUCED, log 41). -/
def padOf (p n : Nat) : List (Nat × Nat) :=
  let tail := pagesOf n * 16384 - n
  if 36 ≤ tail then [(p, tail)] else []

/-- R400: a PAD record that fills `n` bytes: it is formed in flash alone and takes no sequence. -/
def padRec (n : Nat) : Rec :=
  { type := 3, payload := List.replicate (n - 36) 0, calv := false, seq := 0xFFFFFFFFFFFFFFFF, cal := 0, mono := 0 }

/-- The record goes to FIRST: it stands at or after the COMMISSION record, and FIRST is not full (R401). -/
def Tally.toFirst (t : Tally) (r : Rec) : Bool :=
  !t.reg.stat.firstfull && (match t.commSeq with | some c => decide (c ≤ r.seq) | none => false)

/-- The records of a flush that FIRST takes: up to the first that does not fit the pages left (R401). -/
def firstFit (room : Nat) : List Rec → List Rec × List Rec
  | [] => ([], [])
  | r :: rs =>
    if r.size ≤ room then
      let (a, b) := firstFit (room - r.size) rs
      (r :: a, b)
    else ([], r :: rs)

/-- R401: records written to FIRST; those that no longer fit are left for ROLL, and FIRST is full from then on. `bad` pages fail their
write verification on the way and are left as they are. -/
def Tally.writeFirst (t : Tally) (rs : List Rec) (bad : Nat) : Tally × List Rec :=
  let bad := if rs.isEmpty then 0 else min bad (65536 - t.firstU)
  let (a, b) := firstFit ((65536 - t.firstU - bad) * 16384) rs
  let full := !b.isEmpty
  let n := (a.map Rec.size).sum
  let used := t.firstU + bad + pagesOf n
  ({ t with first := t.first ++ a, firstU := used, firstPad := t.firstPad ++ padOf (used - 1) n
            reg := { t.reg with stat := { t.reg.stat with firstfull := t.reg.stat.firstfull || full },
                                evt := { t.reg.evt with firstfull := t.reg.evt.firstfull || full } } }, b)

/-- Records placed in ROLL from page `p` on, `off` bytes into it (DEDUCED, log 41). -/
def placeRoll (p off : Nat) : List Rec → List (Nat × Rec)
  | [] => []
  | r :: rs => (p + off / 16384, r) :: placeRoll p (off + r.size) rs

/-- R400, R402: records written to ROLL, with a PAD record behind them; its 12,288 blocks of 256 pages circulate, and the oldest give way. -/
def Tally.writeRoll (t : Tally) (rs : List Rec) : Tally :=
  if rs.isEmpty then t else
  let b := (rs.map Rec.size).sum
  let n := t.rollU + pagesOf b
  let held := fun p : Nat => decide ((n - 1) / 256 < p / 256 + 12288)
  { t with roll := (t.roll ++ placeRoll t.rollU 0 rs).filter fun e => held e.1
           rollPad := (t.rollPad ++ padOf (n - 1) b).filter fun e => held e.1
           rollU := n }

/-- R407: no spare is left for ROLL: it closes with a ROLL-STOP record and takes nothing more. -/
def Tally.stopRoll (t : Tally) (mk : BitVec 16 → List Byte → Rec) : Tally :=
  let r := mk 5 (leBytes 2 0xFFFF ++ leBytes 2 0 ++ leBytes 4 t.spares ++ leBytes 8 0)
  { t.writeRoll [{ r with seq := t.seq }] with
    seq := t.seq + 1
    reg := { t.reg with stat := { t.reg.stat with spare := true }, evt := { t.reg.evt with spare := true } } }

/-- The oldest sequence held in ROLL, or the next one (TAL.ROLLOLD). -/
def Tally.rollOld (t : Tally) : Nat := match t.roll with | e :: _ => e.2.seq | [] => t.seq

/-- R407: blocks of other areas that wore out are replaced, from the 64 spares held back too. -/
def Tally.wear (t : Tally) (n : Nat) : Tally := { t with spares := t.spares - n }

/-- R400 to R403, R407, R411: the running flush has written its records; blocks wore out on the way and took spares. Where ROLL needs a block
and no spare is left for it, ROLL stops: what was written before is closed by ROLL-STOP, the rest stays staged. -/
def Tally.flushDone (t : Tally) (w : FlushWear) (mk : BitVec 16 → List Byte → Rec) : Tally :=
  let t := t.wear w.other.toNat
  match t.flush with
  | none => t
  | some n =>
    let t := t.wear w.first.toNat
    let mine := t.staging.filter fun r => decide (r.seq < n)
    let early := mine.filter fun r => match t.commSeq with | some c => decide (r.seq < c) | none => true
    let late := mine.filter fun r => match t.commSeq with | some c => decide (c ≤ r.seq) | none => false
    let (t, rest) := if t.reg.stat.firstfull then (t, late) else t.writeFirst late w.bad.toNat
    let out := early ++ rest                     -- bound for ROLL
    let need := if t.reg.stat.spare || out.isEmpty then 0 else w.worn.toNat
    let stop := decide (t.spares - 64 < need)
    let now := if t.reg.stat.spare then [] else if stop then out.take w.done.toNat else out
    let t := (t.wear (min need (t.spares - 64))).writeRoll now
    let t := if stop then t.stopRoll mk else t
    let left := (out.drop now.length).map Rec.seq
    let t := { t with staging := t.staging.filter fun r => !decide (r.seq < n) || left.contains r.seq
                      flush := t.queued.head?, queued := t.queued.tail
                      reg := { t.reg with stat := { t.reg.stat with flushing := !t.queued.isEmpty } } }
    if stop then t.trigger else t

/-- A flush has completed: held records and the report of lost ones are staged where there is room now (R404). -/
def Tally.settle (t : Tally) (mk : BitVec 16 → List Byte → Rec) : Tally :=
  let t := t.unhold mk (t.held.length + 1)
  if t.starting then t else t.report mk

/-! ### Records as stored (R395) -/

/-- Where a copy of a record is read from. -/
inductive RecPlace where
  | first | roll | staging
  deriving DecidableEq, Repr

/-- The bytes of a record, Table 16-1, as read from a place. -/
def Rec.bytes (r : Rec) (p : RecPlace) : List Byte :=
  let body := r.payload ++ r.snap.getD []
  let flags := (if r.calv then 1 else 0) + (if r.snap.isSome then 2 else 0) + (if p = .first then 4 else 0)
    + (if p = .staging then 8 else 0) + (if r.repsat then 16 else 0)
  let bs := leBytes 2 r.type.toNat ++ leBytes 2 body.length ++ leBytes 2 flags ++ leBytes 2 r.repeats.toNat
    ++ leBytes 8 r.seq ++ leBytes 8 r.cal ++ leBytes 8 r.mono ++ body ++ List.replicate ((4 - body.length % 4) % 4) 0
  bs ++ leBytes 4 (crc32c bs)

/-- A copy placed among others by its sequence. -/
def insertRec (e : Rec × RecPlace) : List (Rec × RecPlace) → List (Rec × RecPlace)
  | [] => [e]
  | f :: fs => if e.1.seq ≤ f.1.seq then e :: f :: fs else f :: insertRec e fs

/-- The held records in ascending sequence, with staging where it is asked for (R408). -/
def Tally.history (t : Tally) (staged : Bool) : List (Rec × RecPlace) :=
  let copies (p : RecPlace) (l : List Rec) : List (Rec × RecPlace) := l.map fun r => (r, p)
  (copies .first t.first ++ copies .roll (t.roll.map Prod.snd) ++ copies .staging (if staged then t.staging else [])).foldr insertRec []

/-- Whole records, while they fit in `n` bytes. -/
def takeRecords (n : Nat) : List (Rec × RecPlace) → List Byte
  | [] => []
  | e :: es => if e.1.size ≤ n then e.1.bytes e.2 ++ takeRecords (n - e.1.size) es else []

/-- R408, Table 16-7: the response to a read request. -/
def Tally.read (t : Tally) (seq maxlen : Nat) (staged : Bool) : List Byte :=
  let hs := (t.history staged).filter fun e => decide (seq ≤ e.1.seq)
  let status := match hs with | [] => 2 | e :: _ => if e.1.seq = seq then 0 else 1
  let rs := takeRecords maxlen hs
  leBytes 4 status ++ leBytes 8 (t.commSeq.getD 0xFFFFFFFFFFFFFFFF) ++ leBytes 8 t.rollOld ++ leBytes 8 t.seq
    ++ leBytes 4 rs.length ++ rs

/-! ### Commissioning and emission (R401, R410) -/

/-- R401: the COMMISSION record reaches the Tally engine; from it on, records go to FIRST. The module is commissioned once the record is
staged; false: it is lost. -/
def State.commission (s : State) (serial : Word) : State × Bool :=
  let r := s.tally.put false s.mkRec 6 (leBytes 2 moduleUnit ++ leBytes 2 0 ++ leBytes 4 serial.toNat ++ leBytes 8 0) none
  ({ s with tally := r.1 }, r.2 != .full)

/-- R410: the program emits a PROG record. -/
def State.emit (s : State) (subtype : BitVec 8) (payload : List Byte) : State × EmitStatus :=
  let (t, r) := s.tally.put true s.mkRec (0x8000 + subtype.setWidth 16) payload none
  ({ s with tally := t }, r)

/-- R410: a store to the GO word of the emission port, from context `ctx`. -/
def State.emissionGo (s : State) (ctx : Fin 5) (w : Word) : State :=
  let len := (getF w 16 11).toNat
  if 1024 < len ∨ w &&& 0xF800FF00 ≠ 0 then s.violation 0x27000FFC
  else
    let bytes := (s.eng.port[ctx.val].toList.map fun w => leBytes 4 w.toNat).flatten
    (s.emit (w.setWidth 8) (bytes.take len)).1

end Sys2Proof.Machine
end

