-- ==== Sys2Proof/Machine/SupplyOps.lean ====
section
/-! DEFINITION. Supplies: head admission, entry to sleep and the power-fail sequence (chapter 18). -/

namespace Sys2Proof.Machine

/-- Bit `i` of a 16-bit field set or cleared. -/
def bit16 (b : BitVec 16) (i : Nat) (v : Bool) : BitVec 16 := if v then b ||| (1#16 <<< i) else b &&& ~~~(1#16 <<< i)

/-! ### Head admission (R446, R447) -/

/-- A head supply is in its first HTPK after admission. -/
def State.headStarting (s : State) (p : PortalIx) : Bool :=
  s.fel.hstat.on.getLsbD p.val && decide (s.since s.pwr.headAt[p.val] < ms (10 * s.fel.hcfg.htpk.toNat))

/-- The prediction of a head supply that is on, W (R446). -/
def State.headPower (s : State) (p : PortalIx) : Nat :=
  if !s.fel.hstat.on.getLsbD p.val then 0
  else if s.headStarting p then s.fel.hcfg.hpk.toNat else s.fel.hcfg.hrun.toNat

/-- PCORE and the predictions of the heads that are on, W. -/
def State.headLoad (s : State) : Nat := s.fel.hpwr.pcore.toNat + (allPortals.map s.headPower).sum

/-- R446: one more head may be switched on. -/
def State.headFits (s : State) : Bool :=
  !s.pwr.reg.ctl.lowmot && !s.pwr.failing
    && decide ((allPortals.filter s.headStarting).length < s.fel.hcfg.maxn.toNat)
    && decide (s.headLoad + s.fel.hcfg.hpk.toNat ≤ 240)

/-- R446: the head at the front of the queue: the least FEL.PRIO, then the least portal number. -/
def State.headFront (s : State) : Option PortalIx :=
  let q := allPortals.filter fun p => s.fel.hstat.wait.getLsbD p.val
  q.find? fun p => q.all fun r => decide (s.felPrio p < s.felPrio r) || (s.felPrio p == s.felPrio r && decide (p.val ≤ r.val))

/-- A head supply is switched on. -/
def State.headOn (s : State) (p : PortalIx) : State :=
  (s.modFel fun f => { f with hstat := { on := bit16 f.hstat.on p.val true, wait := bit16 f.hstat.wait p.val false } }).modPwr fun w =>
    { w with headAt := w.headAt.set p.val s.mono }

/-- Heads admitted while the front of the queue fits, at most `n` of them. -/
def State.headAdmitGo (s : State) : Nat → State
  | 0 => s
  | n + 1 =>
    match s.headFront with
    | some p => if s.headFits then (s.headOn p).headAdmitGo n else s
    | none => s

/-- R446: one admission evaluation; FEL.HPWR.PPRED shows its load. -/
def State.headAdmit (s : State) : State :=
  let s := s.headAdmitGo 16
  s.modFel fun f => { f with hpwr := { f.hpwr with ppred := satNat 12 s.headLoad } }

/-- R446: a head starts to wait for admission, if its portal has one; never while it is locked or on. -/
def State.headWait (s : State) (p : PortalIx) : State :=
  if (s.portal p).reg.cfg.kerffit && !s.fel.hflt.lock.getLsbD p.val && !s.fel.hstat.on.getLsbD p.val then
    s.modFel fun f => { f with hstat := { f.hstat with wait := bit16 f.hstat.wait p.val true } }
  else s

/-- R446: every fitted head waits, and admission is evaluated. -/
def State.headWaitAll (s : State) : State := (s.forAll allPortals State.headWait).headAdmit

/-- Every head supply is off and none waits. -/
def State.headsOff (s : State) : State :=
  (s.modFel fun f => { f with hstat := {} }).modPwr fun w => { w with shed := 0, retryAt := Vector.replicate 16 none }

/-- R447: FEL.HCMD.RESET: the locked supplies named wait for admission again. -/
def State.headReset (s : State) (w : BitVec 16) : State :=
  let l := w &&& s.fel.hflt.lock
  let s := s.modFel fun f => { f with hflt := { f.hflt with lock := f.hflt.lock &&& ~~~l } }
  (s.forAll (allPortals.filter fun p => l.getLsbD p.val) State.headWait).headAdmit

/-! ### Starts to come (R444, R457, Table 20-9) -/

/-- What starts at a release of reset: the source that holds it, or, after an orderly halt, a RESTART (R444, R457). -/
def State.releases (s : State) : Option StartSrc :=
  match s.boot.held with
  | some c => some c
  | none => if s.boot.down && !s.boot.asleep then some .restart else none

/-- MBUS begins to charge its capacitors, for 200 ms at most; how long is free (Table 20-9; log 18). -/
def State.mbusCharge (s : State) : State :=
  s.used.modPwr fun w => { w with chargeEnd := s.mono + s.freeNat % (ms 200 + 1) }

/-! ### Halt (R443, R451) -/

/-- Every axis's bridges are off. -/
def State.bridgesOffAll (s : State) (cause : BitVec 4) : State :=
  s.forAll allAxes fun s a => s.modAxis a fun x => { x.bridgesOff cause (updateOf a s.mono) with stopOff := true }

/-- Every load switch takes hold-off 1, and every field output goes off (R221, R254). -/
def State.outputsOff (s : State) : State :=
  let s := { s with lsg := { s.lsg with off := true }, fio := { s.fio with pins := 0, off := true } }
  s.forAll allChans State.lsEval

/-- R403: one flush after the other completes, at most `n`. -/
def State.runFlushes (s : State) (n : Nat) : State :=
  s.forAll (List.range n) fun s _ => s.modTally fun t => (t.flushDone {} s.mkRec).settle s.mkRec

/-- R403, R404: the flushes triggered so far complete, and those that the records held back or reported meanwhile trigger. -/
def State.finishFlush (s : State) : State := s.runFlushes (s.tally.queued.length + s.tally.held.length + 3)

/-- R85, R316, R443: RETAIN copies and axis positions, each with its trust, are written to MRAM. -/
def State.saveHalt (s : State) : State :=
  let s := s.saveRetain
  { s with axes := s.axes.map fun x => { x with retPos := some x.pos, retTrust := x.reg.state.trust } }

/-- R90, R129: every line of the position outputs is low. -/
def State.linesLow (s : State) : State :=
  { s with portals := s.portals.map fun q : Portal => { q with pa := false, pb := false, pz := false }
           axes := s.axes.map fun x => { x with sdoPA := 0, sdoDir := false } }

/-- Nothing is driven any more: the control converter stops (Table 20-11). -/
def State.undriven (s : State) : State := { s with boot := { s.boot with drives := { lines := .highZ } } }

/-- Channel A and Hinge stop: loops and side drive enables open. -/
def State.safetyStop (s : State) : State :=
  { s with safe := { s.safe with drive := 0, rb := 0, req := Vector.replicate 2 false, held := Vector.replicate 2 false }
           sde := Vector.replicate 2 false }

/-- R361: journal writes in progress complete. -/
def State.finishWrites (s : State) : State :=
  s.forAll s.jnl.writes fun s _ => s.writeDone true true

/-- R451, R452: only the retention domain lives, asleep from now on; the halt marker stands. -/
def State.sleepDown (s : State) : State :=
  { s with boot := { s.boot with down := true, asleep := true, marker := true }, pwr := { s.pwr with sleepAt := s.mono } }

/-- R451: entry to sleep, Table 18-4, from E to its end. -/
def State.sleepEnter (s : State) : State :=
  let s := s.modPwrReg fun r =>
    { r with slpst := { r.slpst with state := .entering }, slpn := satInc r.slpn, temp := { r.temp with preheat := false } }
  let s := (s.modJnl fun j => { j with closed := true }).endSessions
  let s := ((s.enterStop (s.stopCause 9)).flush).headsOff
  let s := (s.bridgesOffAll 7).outputsOff
  ((s.linesLow.undriven.finishFlush.finishWrites).saveHalt.safetyStop).sleepDown

/-- R450: what entry to sleep waits for. -/
def State.sleepReady (s : State) : Bool :=
  s.idleWindow && s.lndStat.state != .verifying && s.lndStat.state != .switching && s.pwr.intrAt.isNone && !s.boot.down

/-- Table 18-6: the power-fail sequence or a deferred entry to sleep begins at this tick. -/
def State.closing (s : State) : Bool :=
  (match s.pwr.intrAt with | some t => decide (t + ms 10 ≤ s.mono) | none => false)
    || (s.pwr.reg.slpst.state == .deferred && s.sleepReady)

/-- A command that passed the checks of its link: at the tick of S or E it is not accepted any more (R455), else it is judged. -/
def State.commandIn (s : State) (c : JCmd) : State := if s.closing then s.nak c 4 else s.judgeCommand c

/-- R450: a request for sleep: entry at once, or DEFERRED. -/
def State.sleepRequest (s : State) : State :=
  if s.boot.down then s
  else if s.sleepReady then s.sleepEnter
  else s.modPwrReg fun r => { r with slpst := { r.slpst with state := .deferred } }

/-- R450: a DEFERRED request is withdrawn. -/
def State.sleepCancel (s : State) : State :=
  if s.pwr.reg.slpst.state = .deferred then s.modPwrReg fun r => { r with slpst := { r.slpst with state := .awake } } else s

/-- R443, R444: the power-fail sequence, Table 18-3, from S to the orderly halt. `len`: its length, units of 0.1 ms (DEDUCED, log 62). -/
def State.powerFail (s : State) (len : BitVec 16) : State :=
  let s := ((s.modPwr fun w => { w with failing := true }).modJnl fun j => { j with closed := true }).endSessions
  let s := ((s.enterStop (s.stopCause 11)).flush).headsOff
  let s := s.forAll allAxes fun s a => if s.fitted a then s.stopAxis a 1 else s
  let s := { s with fio := { s.fio with pins := 0 } }
  let s := s.finishFlush.finishWrites
  let s := (s.bridgesOffAll 1).outputsOff
  let s := s.saveHalt.safetyStop.linesLow.undriven
  let s := s.modPwrReg fun r =>
    { r with pf := { r.pf with pfn := satInc r.pf.pfn }, last := { r.last with pf := len }, temp := { r.temp with preheat := false } }
  { s with boot := { s.boot with down := true, asleep := false, marker := true, chilled := false, heating := false } }

end Sys2Proof.Machine
end

