-- ==== Sys2Proof/Machine/BusRead.lean ====
section
/-! DEFINITION. What a read of the Filif address map gives: computed registers and latches (Table 1-7, R5 to R8, R26, R40). -/

namespace Sys2Proof.Machine

/-! ### 64-bit pairs (R26) -/

/-- The 64-bit value whose low word stands at this place, where it is a _LO register. -/
def State.pair64 (s : State) : Place → Option Nat
  | .axis a 0x78 => some (s.axis a).blzTs
  | .feedback a 0x50 => some (s.axis a).edgeAt
  | .feedback a 0x68 => some (s.axis a).sraw
  | .kerf p 0x30 => some (s.krf p).fend
  | .field off =>
    if 0x3A0 ≤ off ∧ off < 0x3C0 ∧ off % 8 = 0 then some (vget s.fio.wpt ((off - 0x3A0) / 8) 0) else none
  | .system 0x0008 => some s.eng.cycno
  | .system 0x1000 => some s.mono
  | .system 0x1008 => some s.calNow
  | .system 0x9004 => some s.tally.seq
  | .system 0x9020 => some s.tally.rollOld
  | _ => none

/-- The place is a _HI register, or one of FIO.EQT_LO and EQT_HI, which FIO.EQ latches (R249). -/
def State.isLatched (s : State) (a : Nat) : Bool :=
  a == 0x24000344 || a == 0x24000348 || (decide (4 ≤ a) && (s.pair64 (placeOf (a - 4))).isSome)

/-! ### Computed registers -/

/-- PRT.STAT. -/
def State.prtStat (s : State) (p : PortalIx) : Word :=
  let q := s.portal p
  putV q.dcl 0 ||| putB q.eeh 2 ||| putB q.iso 3 ||| putB (q.iso && q.dcl != 3) 4
    ||| putB (s.edgeActive p 6) 5 ||| putB (q.twoLeaf && s.edgeActive p 7) 6 ||| putV (s.krf p).reg.stat.verd.code 7
    ||| putB (s.homeNow p) 9 ||| putB q.cl 10 ||| putB q.reg.obs.trap 11 ||| putB q.zsp 12 ||| putB (s.sdeOn p) 13
    ||| putB q.reg.obs.giveup 14 ||| putB (s.moveInh p) 15 ||| putV q.retry 16

/-- AXC.STATE. -/
def State.axcState (s : State) (a : AxisIx) : Word :=
  let x := s.axis a
  x.reg.state.toWord ||| putB (!x.vcaps.isEmpty || x.finalCap) 7
    ||| putV (if x.st = .queued then satNat 16 (s.since x.arrive / ms 1) else 0) 16

/-- FEL.QUEUE. -/
def State.felQueue (s : State) : Word :=
  let h := match s.queueHead with
    | some a => putV (BitVec.ofNat 4 (portalOf a).val) 8 ||| putV (BitVec.ofNat 2 (slotOf a).val) 12 ||| putB true 15
    | none => 0
  putV (BitVec.ofNat 7 s.queuedStarts.length) 0 ||| h

/-- 48 channel bits as two words; `i` chooses one. -/
def chanBits (i : Nat) (f : ChanIx → Bool) : Word :=
  let n := (allChans.filter f).foldl (fun n c => n + 2 ^ c.val) 0
  if i = 0 then BitVec.ofNat 32 n else BitVec.ofNat 32 (n / 2 ^ 32)

/-- LSG.FLT0 and FLT1: hold-off 5, 6 or 7 is present. -/
def State.lsHeld (s : State) (c : ChanIx) : Bool := (s.holds c).any fun h => h == 5 || h == 6 || h == 7

/-- Table 9-2: the AP-16 view word of group `g`. -/
def State.apView (s : State) (g : Nat) : Word :=
  let f := s.fio
  let st : BitVec 16 :=
    if g < 8 then (f.lvl >>> (16 * g)).setWidth 16
    else if g = 8 then (f.lvl >>> 128).setWidth 16
    else if g = 9 then ((f.lvl >>> 144).setWidth 4).setWidth 16
    else f.reg.focmd.rb
  let flt :=
    if g < 8 then f.groups.getLsbD (2 * g) || f.groups.getLsbD (2 * g + 1)
    else if g = 8 then f.groups.getLsbD 16 else if g = 9 then f.groups.getLsbD 17
    else f.groups.getLsbD 18 || f.groups.getLsbD 19
  let miss := if g < 8 then f.tpMiss.getLsbD (2 * g) || f.tpMiss.getLsbD (2 * g + 1)
    else if g = 10 then f.reg.fosupv.miss0 || f.reg.fosupv.miss1 else false
  let low := if g < 8 then f.tpLow.getLsbD (2 * g) || f.tpLow.getLsbD (2 * g + 1)
    else if g = 10 then f.reg.fosupv.low0 || f.reg.fosupv.low1 else false
  putV st 0 ||| putB flt 16 ||| putB miss 17 ||| putB low 18 ||| putV (BitVec.ofNat 4 g) 24

/-- A word of the field I/O block. -/
def State.fioRead (s : State) (off : Nat) : Word :=
  let f := s.fio
  if 0x300 ≤ off ∧ off < 0x314 then (f.lvl >>> (8 * (off - 0x300))).setWidth 32
  else if off = 0x320 then putV f.groups 0
  else if off = 0x340 then
    match f.queue with
    | e :: _ => putV e.input 0 ||| putB e.level 8 ||| putB true 31
    | [] => 0
  else if off = 0x34C then f.reg.eqstat.toWord ||| putV (BitVec.ofNat 11 f.queue.length) 0
  else if 0x800 ≤ off ∧ off < 0x82C then s.apView ((off - 0x800) / 4)
  else f.reg.regRead off

/-- Bit `i` of a list of numbers' bits. -/
def bitsOf (n : Nat) (f : Nat → Bool) : Nat := (List.range n).foldl (fun w i => if f i then w + 2 ^ i else w) 0

/-- A word of the SYS registers. -/
def State.sysRead (s : State) (off : Nat) : Word :=
  let e := s.eng
  match off with
  | 0x04 => e.sys.mode.toWord ||| putV (BitVec.ofNat 2 (e.autoAt.filter fun t => decide (s.since t < sec 3600)).length) 16
  | 0x2C => BitVec.ofNat 32 (bitsOf 4 fun p => (vget e.running p none).isSome) ||| putV (satNat 8 e.pend.length) 8
  | 0x38 => e.sys.regRead 0x38 ||| BitVec.ofNat 32 (bitsOf 4 fun i => (vget e.moves i none).isSome)
  | _ => e.sys.regRead off

/-- FAB.INFL and INFLS: operations in flight at this moment, free within the quotas of Table 1-4 (R29). -/
def State.inFlight (s : State) (off : Nat) : Word :=
  let n := fun i q : Nat => BitVec.ofNat 32 (Config.free (s.freeSeq + i) % (q + 1))
  if off = 0 then n 0 64 ||| (n 1 24 <<< 8) ||| (n 2 16 <<< 16) ||| (n 3 16 <<< 24) else n 0 8

/-- A word of the landing block. -/
def State.lndRead (s : State) (off : Nat) : Word :=
  if off = 0 then s.lndStat.toWord
  else if 0x04 ≤ off ∧ off < 0x14 then wordAt s.lnd.active (0x30 + (off - 4))
  else if off = 0x14 then ((wordAt s.lnd.active 0x14).setWidth 16).setWidth 32 ||| (s.tru.rbimg <<< 16)
  else if off = 0x1C then s.lnd.reg.regRead off ||| putV (BitVec.ofNat 9 s.eng.forces.length) 0
  else s.lnd.reg.regRead off

/-- A word of the journal block. -/
def State.cmjRead (s : State) (off : Nat) : Word :=
  let j := s.jnl
  if off = 0 then
    putV (BitVec.ofNat 11 (j.entries.filter Entry.isOpen).length) 0 ||| putB (decide (1024 ≤ j.entries.length + j.writes.length)) 11
      ||| putB (s.fab.lastf.mram0 != s.fab.lastf.mram1) 12 ||| putV (BitVec.ofNat 7 j.conns.length) 13
  else if 0x10 ≤ off ∧ off < 0x28 then vget j.dlv ((off - 0x10) / 4) 0
  else j.reg.regRead off

/-- A word of the Tally block. -/
def State.talRead (s : State) (off : Nat) : Word :=
  let t := s.tally
  match off with
  | 0x00 => t.reg.stat.toWord ||| BitVec.ofNat 32 (min 512 (t.fill / 1024))
  | 0x0C => BitVec.ofNat 32 (t.firstU % 2 ^ 17)
  | 0x10 => BitVec.ofNat 32 (t.spares % 2 ^ 16)
  | _ => t.reg.regRead off

/-- A word of the trust block. -/
def State.truRead (s : State) (off : Nat) : Word :=
  let t := s.tru
  match off with
  | 0x00 => BitVec.ofNat 32 (bitsOf 4 fun i => (vget t.anchors i none).isSome) ||| putB t.ancpend 4
      ||| putV t.envStat 5 ||| putB t.envpend 7 ||| BitVec.ofNat 32 (256 * t.bank.val) ||| putB t.fwalt 9
  | 0x04 => t.rbfw
  | 0x08 => t.rbimg
  | 0x0C => t.rbenv
  | 0x20 =>
    let svc := t.sessions[0]
    putB svc.isSome 0 ||| BitVec.ofNat 32 (2 * (t.sessions[1].isSome.toNat + t.sessions[2].isSome.toNat))
      ||| putV (match svc with | some e => e.rights | none => 0) 3 ||| putV t.refn 16
  | _ => if 0x10 ≤ off ∧ off < 0x20 then wordAt t.serial (off - 0x10) else t.reg.regRead off

/-- A word of the reset block; RST.DEFER counts the requests that wait (R465). -/
def State.rstRead (s : State) (off : Nat) : Word :=
  if off = 0x0C then
    BitVec.ofNat 32 (allAxes.filter fun a => (s.axis a).reg.cal.status == .deferred || (s.axis a).calPend).length
      ||| BitVec.ofNat 32 (256 * (allPortals.filter fun p => (s.krf p).reg.stat.lrn == .deferred).length)
      ||| BitVec.ofNat 32 (65536 * (allChans.filter fun c => (s.chan c).reg.stat.olt == .deferred).length)
  else s.boot.reg.regRead off

/-- PWR.HU: a half that recharges is full 2 s after the interruption, at 7.5 J or more; what it reads then, and on its way there, is free
(R440; log 18). -/
def State.huRead (s : State) : Word :=
  let h := s.pwr.reg.hu
  let low := h.chg && decide (s.since s.pwr.rechargeAt < sec 2)
  let e := fun (i : Nat) (x : BitVec 8) (failed : Bool) =>
    let n := if low then x.toNat else 75
    if h.chg && !failed then satNat 8 (n + Config.free (s.freeSeq + i) % (256 - n)) else x
  { h with ea := e 0 h.ea h.faila, eb := e 1 h.eb h.failb, chg := low }.toWord

/-- PWR.TEMP: TCS reads the control section as it is, free while the core is up (R484; log 18). -/
def State.tempRead (s : State) : Word :=
  let t := s.pwr.reg.temp
  (if s.online then { t with tcs := BitVec.ofNat 8 (Config.free s.freeSeq) } else t).toWord

/-- PWR.SLPST: WAKELVL reads the present levels of the wake inputs, free while the core is up (R456; log 4). -/
def State.slpRead (s : State) : Word :=
  let t := s.pwr.reg.slpst
  (if s.online then { t with wakelvl := BitVec.ofNat 4 (Config.free s.freeSeq) } else t).toWord

/-- A word of the system control region. -/
def State.systemRead (s : State) (off : Nat) : Word :=
  let o := off % 0x1000
  match off / 0x1000 with
  | 0x0 => s.sysRead o
  | 0x1 => s.tim.regRead o
  | 0x2 => if o < 8 then s.inFlight o else s.fab.regRead o
  | 0x3 => if o = 0x1C then s.felQueue else s.fel.regRead o
  | 0x4 => if o = 0x08 ∨ o = 0x0C then chanBits (o / 4 % 2) (fun c => (s.chan c).reg.stat.out)
      else if o = 0x10 ∨ o = 0x14 then chanBits (o / 4 % 2) s.lsHeld else s.lsg.reg.regRead o
  | 0x5 => s.lndRead o
  | 0x6 => s.cmjRead o
  | 0x7 => s.net.reg.regRead o
  | 0x8 => let p := finMod 16 (o / 0x100); if o % 0x100 = 0x20 then s.prtStat p else (s.portal p).reg.regRead (o % 0x100)
  | 0x9 => s.talRead o
  | 0xA => s.truRead o
  | 0xB => if o = 8 then s.huRead else if o = 0x28 then s.slpRead else if o = 0x34 then s.tempRead else s.pwr.reg.regRead o
  | 0xC => s.rstRead o
  | _ => 0

/-- A word of an axis control block. -/
def State.axisRead (s : State) (a : AxisIx) (off : Nat) : Word :=
  let x := s.axis a
  match off with
  | 0x20 => s.axcState a
  | 0x30 => BitVec.ofInt 32 x.setp
  | 0x34 => BitVec.ofInt 32 x.frac
  | 0x38 => BitVec.ofInt 32 x.vel
  | 0x3C => BitVec.ofInt 32 x.pos
  | 0x40 => BitVec.ofInt 32 x.ferr
  | _ => x.reg.regRead off

/-- A word of a feedback block; the output registers exist in slot 0 (R129). -/
def State.feedbackRead (s : State) (a : AxisIx) (off : Nat) : Word :=
  if off = 0x40 then BitVec.ofInt 32 (s.axis a).pos
  else if 0x200 ≤ off then (if (slotOf a).val = 0 then (s.portal (portalOf a)).po.regRead off else 0)
  else (s.axis a).fb.regRead off

/-- The code of NET.MBCFGm.LINK; none for reserved codes. -/
def MbLink.ofCode (c : BitVec 4) : Option MbLink :=
  match c.toNat with
  | 0 => some .udp
  | 1 => some .xl
  | 2 => some (.can 0)
  | 3 => some (.can 1)
  | 4 => some (.can 2)
  | 5 => some (.can 3)
  | 6 => some (.ser 0)
  | 7 => some (.ser 1)
  | 8 => some (.ser 2)
  | 9 => some (.ser 3)
  | _ => none

/-- A bound link is up (Table 15-11): TN by its paths, XL by the twin, CAN and RS-485 by their controllers. -/
def Network.linkUp (n : Network) (link : BitVec 4) : Bool :=
  match MbLink.ofCode link with
  | some .udp => n.lup.getLsbD 0 || n.lup.getLsbD 1
  | some .xl => n.reg.twin.state == .up
  | some (.can i) => (vget n.reg.can i.val {}).en && !n.busOff.getLsbD i.val
  | some (.ser i) => (vget n.reg.ser i.val {}).en
  | none => false

/-- Table 15-11: the status word of a mailbox; one that sends has the messages not yet on the link queued. -/
def State.mailboxStatus (s : State) (m : Fin 64) : Word :=
  let b := s.net.mbox[m.val]
  BitVec.ofNat 32 (b.queue.length + b.out.length) ||| putB b.ovf 8 ||| putB (s.net.linkUp (s.net.reg.mbcfg[m.val]).link) 9
    ||| putB b.txerr 10 ||| putV b.dropped 16

/-- A byte of a frame window's head, Table 6-3. -/
def Shown.head (w : Shown) : List Byte :=
  leBytes 4 (completion 1 0 w.tag).toNat ++ leBytes 4 w.j.frame.fcnt.toNat ++ leBytes 8 w.j.frame.fend ++ leBytes 2 w.j.frame.g
    ++ leBytes 1 w.j.verd.code.toNat ++ leBytes 1 w.win.code.toNat ++ leBytes 2 w.j.xl ++ leBytes 2 w.j.xr ++ leBytes 2 w.j.hitpix
    ++ leBytes 2 w.j.invpct

/-- A word of a frame window (R176): of the newest complete frame. The spec names no address at which the frame it replaced could still
be read (DESIGN CHOICE, log 92). -/
def State.frameRead (s : State) (p : PortalIx) (off : Nat) : Word :=
  match (s.krf p).shown with
  | none => 0
  | some w =>
    if off < 0x40 then wordAt w.head off
    else
      let i := (off - 0x40) / 2
      putV (w.j.frame.depth.getD i 0) 0 ||| putV (w.j.frame.depth.getD (i + 1) 0) 16

/-- A word of the safety status window and request mailbox (R216, R217). -/
def State.safetyRead (s : State) (off : Nat) : Word :=
  if off < 0x34 then vget s.safe.window (off / 4) 0
  else if off = 0x34 then putV (satNat 16 (s.since s.safe.winWr / ms 1)) 0 ||| putB (s.boot.held.isSome || s.safe.aReset || s.safe.a.failed) 16
  else if off = 0x1000 then putV s.safe.whold 0
  else 0

/-- The word at a word address as requester `req` reads it, rights apart; the read itself is `State.touch`. -/
def State.peek (s : State) (req a : Nat) : Word :=
  let pl := placeOf a
  match s.pair64 pl with
  | some v => BitVec.ofNat 32 v
  | none =>
    if s.isLatched a then s.latchGet req a
    else match pl with
      | .code off => wordAt s.eng.code off
      | .memory => s.memWord a
      | .axis x off => s.axisRead x off
      | .blaze x off => vget (s.axis x).blz (off / 4) 0
      | .load c off =>
        let w := (s.chan c).reg.regRead off
        if off = 0x14 then w ||| putV (BitVec.ofNat 4 (s.holdCode c)) 4
        else if off = 0 && (chanK c).val == 0 then w &&& ~~~0x10000#32 else w
      | .field off => s.fioRead off
      | .feedback x off => s.feedbackRead x off
      | .kerf p off => (s.krf p).reg.regRead off
      | .port _ => 0
      | .mailbox m off => if off = 0 then s.mailboxStatus m else 0
      | .frame p off => s.frameRead p off
      | .safety off => s.safetyRead off
      | .system off => s.systemRead off
      | .nowhere => 0

/-- One mailbox changed. -/
def State.modMbox (s : State) (m : Fin 64) (f : Mailbox → Mailbox) : State :=
  { s with net := { s.net with mbox := s.net.mbox.set m.val (f s.net.mbox[m.val]) } }

/-- How many free values a read of a word of the system control region takes: the transfers in flight, PWR.HU, SLPST and TEMP (log 4). -/
def freeReads (off : Nat) : Nat :=
  match off with
  | 0x2000 => 4
  | 0xB008 => 2
  | 0x2004 | 0xB028 | 0xB034 => 1
  | _ => 0

/-- What a read of a word does besides giving it: it latches a _HI half (R26), takes an edge-queue entry (R249), and clears the RC
bits of `m` that it returned (R8). -/
def State.touch (s : State) (req a : Nat) (m : Word) : State :=
  let pl := placeOf a
  match s.pair64 pl with
  | some v => s.latchPut req (a + 4) (BitVec.ofNat 32 (v / 2 ^ 32))
  | none =>
    match pl with
    | .field 0x340 => (s.takeEdge req).1
    | .mailbox b 0 => s.modMbox b fun x => { x with ovf := x.ovf && !m.getLsbD 8, txerr := x.txerr && !m.getLsbD 10 }
    | .system off => s.usedN (freeReads off)
    | _ => s

end Sys2Proof.Machine
end

