-- ==== Sys2Proof/Machine/Motion.lean ====
section
/-! DEFINITION. The commands of the motion generator and of AXC.CMD (chapter 3). A time-driven event brings monotonic time forward
to the first instant at which it can occur (log 1); where its condition does not hold in the state, it changes nothing. -/

namespace Sys2Proof.Machine

/-- The first tick from `t` on that is congruent to `n` modulo 64 (R67). -/
def nextTick (t n : Nat) : Nat := nextOn 64 t n

/-- R67, R68, R94: the update of one axis, at its next tick of the round. -/
def execAxisUpdate (x : AxisIx) (s : State) : Out :=
  if !s.online then .next s else
  let s := s.upTo (nextTick (max s.mono ((s.axis x).updAt)) x.val)
  let s := s.axisUpdate x
  .next ((s.modAxis x fun y => { y with updAt := s.mono + 1 }).movementEnd (portalOf x))

/-- R74 to R76: one planning period of one axis. -/
def execPlanningPeriod (x : AxisIx) (s : State) : Out :=
  if !s.online then .next s else
  let s := s.upTo (s.axis x).planAt
  .next ((s.planPeriod x).modAxis x fun y => { y with planAt := s.mono + 4096 })

/-- R100 to R102, R456: the 100 µs evaluation of the queue, with the bus current and voltage as measured; PWR.MBUS shows the voltage, 0 while it is
reversed. -/
def execFellingEvaluation (imeas vbus : BitVec 12) (s : State) : Out :=
  if !s.online then .next s else
  let m := s.pwr.reg.mbus
  let s := s.modPwrReg fun r => { r with mbus := { m with v := if m.rev then m.v else vbus } }
  .next (s.modFel fun f => { f with meas := { imeas := imeas, vbus := vbus } }).felling

/-- R82: the plan has landed and |FERR| has held within INPOS for 5 ms. -/
def execStandstillAtTarget (x : AxisIx) (s : State) : Out :=
  if !s.online then .next s else
  let y := s.axis x
  match y.inposAt with
  | some t =>
    if y.landed && (y.st == .moving || y.st == .idle) then
      let s := s.upTo (t + ms 5)
      .next ((s.modAxis x Axis.atTarget).arrived x)
    else .next s
  | none => .next s

/-- R56: the warning time expires; the held starts of the portal enter the queue, or join the start that waits there (R324). -/
def execWarnMet (p : PortalIx) (s : State) : Out :=
  if !s.online then .next s else
  let q := s.portal p
  let held := (s.leaves p).filter fun a => (s.axis a).st == .warnhold
  match q.lpAt, held with
  | some t, _ :: _ =>
    let s := s.upTo (max t q.stillAt + ms (10 * q.reg.seq.warn.toNat))
    .next (s.forAll held fun s a => s.modAxis a fun x => { x.setSt .queued with arrive := s.joinArrive a s.mono }).felling
  | _, _ => .next s

/-- R87: the end stop is found: position, set-point and target become REFOFS, trust returns, caps go, entries and events arm. -/
def execEndStopFound (x : AxisIx) (s : State) : Out :=
  if !s.online then .next s else
  let y := s.axis x
  match y.refOver with
  | some t =>
    if y.st = .referencing then
      let s := s.upTo (t + ms y.reg.refd.reft.toNat)
      let s := (s.referenced x).modAxis x fun y => { y with learnPend := true }
      .next ((s.homeEval (portalOf x)).movementEnd (portalOf x))
    else .next s
  | none => .next s

/-- R87, R89: the end stop is found by the update of `t`: FERR has been above REFFE for REFT. -/
def Axis.foundBy (y : Axis) (a : AxisIx) (t : Nat) : Bool :=
  match y.refOver with
  | some u => decide (updateOf a (u + ms y.reg.refd.reft.toNat) ≤ updateOf a t)
  | none => false

/-- R89: the end stop is not found in time, or the axis has crossed more than 1.25 times the way from SLMAX to REFOFS, by its actual
position (DESIGN CHOICE, log 132). An end stop found by then governs. -/
def execReferenceTimeout (x : AxisIx) (s : State) : Out :=
  if !s.online then .next s else
  let y := s.axis x
  if y.st = .referencing then
    let far := decide (5 * (y.reg.slmax.toInt - y.reg.refofs.toInt) < 4 * (y.refAt - y.pos).natAbs)
    let due := if far then s.mono else max s.mono (y.admitAt + ms (100 * y.reg.refv.reftmo.toNat))
    if y.foundBy x due then execEndStopFound x s else
    let s := s.upTo due
    .next ((s.modAxis x fun y => y.modFlt fun f => { f with reffail := true }).stopAxis x 5)
  else .next s

/-- R277: in STOP the bridges go off when the speed reads STILL, or 50 ms after the stop. -/
def execBridgesOffInStop (x : AxisIx) (s : State) : Out :=
  if !s.online then .next s else
  let y := s.axis x
  if s.eng.sys.mode.mode = .stop ∧ y.stopOff = false then
    let s := if y.fb.sq.qual = .still then s else s.upTo (y.stopAt + ms 50)
    .next ((s.modAxis x fun y => { y with stopOff := true }).bridgeEval x)
  else .next s

/-- R77: AXC.CMD.STOP. -/
def execCmdStop (x : AxisIx) (s : State) : Out :=
  if !s.online then .next s else .next (s.axisCmd x 1)

/-- R81: AXC.CMD.HALT. -/
def execCmdHalt (x : AxisIx) (s : State) : Out :=
  if !s.online then .next s else .next (s.axisCmd x 2)

/-- R83, R87: AXC.CMD.REREF. -/
def execCmdReref (x : AxisIx) (s : State) : Out :=
  if !s.online then .next s else .next (s.axisCmd x 4)

/-- R78: AXC.CMD.DISABLE. -/
def execCmdDisable (x : AxisIx) (s : State) : Out :=
  if !s.online then .next s else .next (s.axisCmd x 8)

/-- R79: AXC.CMD.ENABLE. -/
def execCmdEnable (x : AxisIx) (s : State) : Out :=
  if !s.online then .next s else .next (s.axisCmd x 16)

/-- R95: a write of AXC.BLZREARM. -/
def execBlzrearm (x : AxisIx) (w : Word) (s : State) : Out :=
  if !s.online then .next s else
  .next (if s.fitted x then s.modAxis x fun y => y.blzRearm w else s)

end Sys2Proof.Machine
end

