-- ==== Sys2Proof/Machine/PortalCmd.lean ====
section
/-! DEFINITION. The commands of the door cycle: bounds, obstacles, GIVEUP, the egress hold-off (chapter 2). -/

namespace Sys2Proof.Machine

/-- R62: MOVEINH clears 100 ms after EEH returned to 0. -/
def execMoveinhHoldoffEnd (p : PortalIx) (s : State) : Out :=
  if !s.online then .next s else
  match (s.portal p).eehOff with
  | some t => .next ((s.upTo (t + ms 100)).modPortal p fun q => { q with eehOff := none })
  | none => .next s

/-- R57: a leaf movement has lasted MOVETMO: MTO sets and stops the leaves. -/
def execMoveTimeout (p : PortalIx) (s : State) : Out :=
  if !s.online then .next s else
  let q := s.portal p
  match (q.mtoAt.toList.filterMap id).min? with
  | some t =>
    let s := s.upTo (t + ms (10 * q.reg.tmo.movetmo.toNat))
    .next ((s.latchObs p (fun o => { o with mto := true }) true).stopLeaves p 2)
  | none => .next s

/-- R57: both DCL contacts have not opened within UNLOCKTMO of LK on. -/
def execUnlockTimeout (p : PortalIx) (s : State) : Out :=
  if !s.online then .next s else
  let q := s.portal p
  match q.utoAt with
  | some t =>
    if q.dcl = 0 then .next s else
    let s := (s.upTo (t + ms q.reg.tmo.unlocktmo.toNat)).modPortal p fun q => { q with utoAt := none }
    .next (s.latchObs p (fun o => { o with uto := true }) false)
  | none => .next s

/-- R57: both DCL contacts have not made within LOCKTMO of HOME. -/
def execLockTimeout (p : PortalIx) (s : State) : Out :=
  if !s.online then .next s else
  let q := s.portal p
  match q.ltoAt with
  | some t =>
    if q.dcl = 3 then .next s else
    let s := (s.upTo (t + ms q.reg.tmo.locktmo.toNat)).modPortal p fun q => { q with ltoAt := none }
    .next (s.latchObs p (fun o => { o with lto := true }) true)
  | none => .next s

/-- R50, R53: the force estimate of an axis has stayed above its threshold for OBST. -/
def execObstacleDetectionTime (x : AxisIx) (s : State) : Out :=
  if !s.online then .next s else
  match (s.axis x).fOverAt with
  | some t => .next ((s.upTo (t + ms (s.portal (portalOf x)).reg.force.obst.toNat)).forceObstacle x)
  | none => .next s

/-- R51, R53: a sensitive edge has been active for 2 ms during closing, above EDGEMASK. `leafB`: SEB. -/
def execEdgeObstacle (p : PortalIx) (leafB : Bool) (s : State) : Out :=
  if !s.online then .next s else
  let q := s.portal p
  let k := if leafB then 7 else 6
  let moving := (s.leaves p).any fun a => (s.axis a).underPlan
  if s.edgeActive p k && !q.masked && q.mov == some .closing && moving && (!leafB || q.twoLeaf) then
    .next ((s.upTo (vget s.fio.at_ (8 * p.val + k) 0 + ms 2)).edgeLatch p leafB)
  else .next s

/-- R58: writing 1 to GIVEUP clears it and RETRY. -/
def Portal.clearGiveup (q : Portal) : Portal :=
  { q with retry := 0, reg := { q.reg with obs := { q.reg.obs with giveup := false } } }

/-- R58: GIVEUP is cleared. -/
def execGiveupClear (p : PortalIx) (s : State) : Out :=
  if !s.online then .next s else .next (s.modPortal p Portal.clearGiveup)

end Sys2Proof.Machine
end

