-- ==== Sys2Proof/Machine/Safety.lean ====
section
/-! DEFINITION. The commands of channel A, Hinge and the door loop (chapter 7). -/

namespace Sys2Proof.Machine

/-- One channel of the two. -/
def Safety.ch (f : Safety) : SafeCh → Channel
  | .a => f.a
  | .h => f.h

/-- One channel of the two changed. -/
def Safety.modCh (f : Safety) (c : SafeCh) (g : Channel → Channel) : Safety :=
  match c with
  | .a => { f with a := g f.a }
  | .h => { f with h := g f.h }

/-- The other channel. -/
def otherCh : SafeCh → SafeCh
  | .a => .h
  | .h => .a

/-- The channel runs. -/
def Safety.runs (f : Safety) : SafeCh → Bool
  | .a => f.aRuns
  | .h => f.hRuns

/-- The field inputs of portal `n` are enabled, as the channel knows it: by PRT.CFG, or by Hinge's locked set (R43, R184). -/
def State.readsPortal (s : State) (ch : SafeCh) (n : Fin 16) : Bool :=
  match ch with
  | .a => (s.portal n).fitted
  | .h => s.safe.hFit.getLsbD n.val

/-- The pairs of a channel at a grid instant: SST.EVT.DISC and ZSF set where a fault newly appears (R187 to R190). -/
def State.pairsInstant (s : State) (ch : SafeCh) (fi : BitVec 96) (zs : BitVec 2) : State :=
  let f := s.safe
  let q := f.active
  let c := f.ch ch
  let o := f.ch (otherCh ch)
  let gap := s.inGap
  let ps : Vector PortalPairs 16 := Vector.ofFn fun n : Fin 16 =>
    let x := c.portals[n.val]
    x.instant o.portals[n.val] q.disc.toNat f.linkUp (if !s.readsPortal ch n then 0 else if gap then x.raw else sixOf fi n.val)
  let z := c.zs.instant q.disc.toNat ((if gap then c.zs.raw else zs) &&& ~~~c.zsHeld) (c.zsHeld == 0) (!f.linkUp || o.zs.clears q.disc.toNat)
  let fresh := (List.finRange 16).any fun n =>
    let x := c.portals[n.val]; let y := ps[n.val]
    (y.dcl.flt && !x.dcl.flt) || (y.eeh.flt && !x.eeh.flt) || (y.iso.flt && !x.iso.flt)
  let c' := ({ c with portals := ps, zs := z, gridAt := s.mono } : Channel).speed q s.mono
  s.modSafe fun f =>
    (f.modCh ch fun _ => c').raise ((if fresh || (z.flt && !c.zs.flt) then 1 else 0)
      ||| (if (z.flt && !c.zs.flt) || (c'.wpflt && !c.wpflt) then 8 else 0))

/-- R217: channel A has read SRQ.ACK: the named events that it has shown clear, and the window is written. -/
def State.windowWrite (s : State) : State :=
  let s := s.modSafe fun f => { f with evt := (f.evt &&& ~~~f.ack) ||| f.evtNew, evtNew := 0, ack := 0 }
  s.modSafe fun f => { f with window := s.sstNow, winWr := s.mono }

/-- R460: a channel tests its switches of the side drive enables when its permit first arrives; one that fails is recorded, and the channel
does not switch that enable on. -/
def State.sdeTest (s : State) (ch : SafeCh) : State :=
  let c := s.safe.ch ch
  if c.swDone && !c.sdeDone && c.permit then
    let s := s.modSafe fun f => f.modCh ch fun c => { c with sdeDone := true }
    s.forAll (bothSides.filter fun d => c.sdeBad.getLsbD d.val) fun s _ => (s.modSafe fun f => f.raise 4).safetyRecord moduleUnit 2
  else s

/-- R187 to R203, R209, R216, R460: one grid instant of a channel. `fi`: FI k = 0 to 5 of every portal as its own coupler halves read,
1 closed; `zs`: ZSTL1 and ZSTL2; `rb`: read-backs of the four switches and of SDE-L and SDE-R. A channel that does not run has no grid. -/
def execGridInstant (ch : SafeCh) (fi : BitVec 96) (zs : BitVec 2) (rb : BitVec 6) (s : State) : Out :=
  if !s.guarded then .next s else
  if !s.safe.runs ch then .next s else
  let s := (s.upTo ((s.safe.ch ch).gridAt + ms 1)).pulseJudge
  let s := ((s.pairsInstant ch fi zs).sdeTest ch).switchCheck ch rb
  let s := match ch with
    | .a => s.forAll allPortals State.judge
    | .h => s.modSafe fun f => { f with unbroken := allPortals.foldl (fun (b : BitVec 16) (p : PortalIx) =>
        if (f.h.portals[p.val]).dcl.val then b else b &&& ~~~(1#16 <<< p.val)) f.unbroken }
  let s := match ch with
    | .a => s.modSafe fun f => { f with
        req := if f.mode = SMode.resync then f.req else Vector.ofFn f.a.enables
        zsDis := if f.a.wzs = f.a.zs.val then none else some (f.zsDis.getD s.mono) }
    | .h => s
  let s := s.modSafe fun f => f.modCh ch fun c =>
    { c with cond := Vector.ofFn (s.sideCond ch) }
  let s := ((s.driveLoops ch).sdeEval).egressDrive
  .next (match ch with
    | .a => s.windowWrite
    | .h => s)

/-- The code in Table 7-7 of the `n`th thing compared: the 96 inputs of the portals' pairs, six to a portal, and the two of ZS; the four
wheel-pulse inputs; the two sides; the four loop switches and the two SDEs; the locked set. -/
def itemOf (n : Nat) : Nat := if n < 98 then 1 else if n < 102 then 2 else if n < 104 then 3 else if n < 110 then 4 else 5

/-- R203: which of the things compared under Table 7-7 differ now. -/
def State.differing (s : State) : Vector Bool 111 :=
  let f := s.safe
  let q := f.active
  Vector.ofFn fun n : Fin 111 =>
    if n.val < 96 then (f.a.portals[finMod 16 (n.val / 6)]).raw.getLsbD (n.val % 6) != (f.h.portals[finMod 16 (n.val / 6)]).raw.getLsbD (n.val % 6)
    else if n.val < 98 then f.a.zs.raw.getLsbD (n.val - 96) != f.h.zs.raw.getLsbD (n.val - 96)
    else if n.val < 102 then
      let i := finMod 4 (n.val - 98)
      q.wheels.contains i && !(f.a.wpHeld ||| f.h.wpHeld).getLsbD i.val && (f.a.wheels[i]).above q.tth s.mono != (f.h.wheels[i]).above q.tth s.mono
    else if n.val < 104 then f.a.cond[finMod 2 (n.val - 102)] && !f.h.cond[finMod 2 (n.val - 102)]
    else if n.val < 108 then f.drive.getLsbD (n.val - 104) != f.rb.getLsbD (n.val - 104)
    else if n.val < 110 then s.sde[finMod 2 (n.val - 108)] != f.sdeRb.getLsbD (n.val - 108)
    else f.locked.isSome && (f.locked != some f.par || (f.hFit, f.hSide) != s.portalMap)

/-- The tolerance of each item of Table 7-7, in exchanges of 1 ms. -/
def tolerance (item : Nat) : Nat := match item with | 1 => 3 | 2 => 50 | 3 => 10 | 4 => 2 | _ => 0

/-- The first difference that has lasted beyond its tolerance (R203). -/
def State.disagreement (s : State) : Option (Fin 111) :=
  (List.finRange 111).find? fun n => decide (tolerance (itemOf n.val) < s.safe.differ[n.val])

/-- A disagreement over the `n`th thing compared starts arbitration: both channels open both loops and withdraw SDE (R204, Table 7-8
step 1). -/
def State.arbitrate (s : State) (n : Fin 111) : State :=
  let s := s.modSafe fun f =>
    { f.raise 0x80 with arbItem := BitVec.ofNat 4 (itemOf n.val), arbOut := 0, arbInput := false
                        arbPort := if n.val < 96 then BitVec.ofNat 8 (n.val / 6) else 0xFF }
  s.setMode .arbitrating

/-- R212: channel A rejoins: CL is restored where nothing broke, Hinge disarms the path, NORMAL returns. -/
def State.rejoin (s : State) : State :=
  let s := s.forAll allPortals fun s p =>
    let k := (s.kerf[p.val]).reg.stat
    let keep := s.safe.unbroken.getLsbD p.val && (!(s.portal p).reg.cfg.kerffit || k.kcond) && !k.lockocc && s.clNow p
    if s.safe.clIn.getLsbD p.val && keep then
      (s.modPortal p fun q => { q with cl := true }).modSafe fun f => { f with clIn := f.clIn &&& ~~~(1#16 <<< p.val) }
    else s
  let s := s.dropCl
  let gone := s.since s.safe.aGone / 400000
  let s := s.modSafe fun f => f.raise 0x20
  (s.setMode .normal).event 0x16 moduleUnit 0 gone

/-- R204, R206, R213: what a complete exchange brings about, by the operation mode. `ready`: self-tests, locked set and switch tests are
there. The start-up calibration has ended before START is left (Table 19-2). -/
def State.exchanged (s : State) (ready : Bool) : State :=
  let past := s.disagreement
  let n := min s.safe.a.frames s.safe.h.frames
  match s.safe.mode with
  | .start => if ready && decide (50 ≤ n) && !s.startCals then s.setMode .normal else s
  | .resync => match past with | some i => s.arbitrate i | none => if s.safe.a.tested then s.rejoin else s
  | .linkloss => match past with | some i => s.arbitrate i | none => if 100 ≤ n then s.setMode .normal else s
  | .normal => match past with | some i => s.arbitrate i | none => s
  | _ => s

/-- R181, R189, R203, R206, R210, R212, R492: one exchange of link frames. `good`: both frames arrive and pass their CRC. -/
def execHingeLinkExchange (good : Bool) (s : State) : Out :=
  if !s.guarded then .next s else
  let f := s.safe
  if !good then
    let n := f.linkBad + 1
    let s := s.modSafe fun f => { f with linkBad := n, a := { f.a with frames := 0 }, h := { f.h with frames := 0 } }
    if n = 3 ∧ f.linkUp then
      let s := s.modSafe fun f => { f.raise 0x400 with linkUp := false }
      .next (if s.safe.mode = .normal ∧ s.safe.aRuns ∧ s.safe.hRuns then s.setMode .linkloss else s)
    else .next s
  else if !f.aRuns || !f.hRuns then .next s
  else
    let q := f.active
    -- each channel adopts the other's pair faults
    let ad := fun (x o : Channel) => { x with
      portals := Vector.ofFn fun n : Fin 16 =>
        let p := x.portals[n.val]; let r := o.portals[n.val]
        { p with dcl := p.dcl.adopt r.dcl q.disc.toNat, eeh := p.eeh.adopt r.eeh q.disc.toNat, iso := p.iso.adopt r.iso q.disc.toNat }
      zs := x.zs.adopt o.zs q.disc.toNat }
    let df := s.differing
    let ready := f.a.tested && f.h.tested && f.locked.isSome && f.swTests
    let s := s.modSafe fun f =>
      let dn : Vector Nat 111 := Vector.ofFn fun i : Fin 111 => if df[i.val] then f.differ[i.val] + 1 else 0
      let agree := dn.toList.all (· == 0) && (f.mode != .start || ready)
      { f with linkUp := true, linkBad := 0, differ := dn,
               a := { ad f.a f.h with frames := if agree then f.a.frames + 1 else 0 },
               h := { ad f.h f.a with frames := if agree then f.h.frames + 1 else 0 } }
    .next (s.exchanged ready)

/-- A test-pulse fault on the disputed input in a channel, held until module reset (Table 7-8 step 4). -/
def Channel.holdInput (c : Channel) : Disputed → Channel
  | .portal p k => { c with portals := vmod c.portals p.val fun x => { x with held := x.held ||| (1#6 <<< k.val) } }
  | .line k => { c with zsHeld := c.zsHeld ||| (1#2 <<< k.val) }
  | .wheel i => { c with wpHeld := c.wpHeld ||| (1#4 <<< i.val) }

/-- PORTAL of SST.ARB for a disputed input. -/
def disputedPort : Disputed → BitVec 8
  | .portal p _ => BitVec.ofNat 8 p.val
  | _ => 0xFF

/-- R204, Table 7-8: the self-tests end; where the input is resolved while the link is down, NORMAL ends in LINKLOSS at once (DESIGN CHOICE,
log 139). `aPass`, `hPass`: each channel's test; `bad`: the disputed input whose coupler half is found
failed. -/
def execArbitrationTestComplete (aPass hPass : Bool) (bad : Option Disputed) (s : State) : Out :=
  if !s.guarded then .next s else
  if s.safe.mode ≠ .arbitrating then .next s
  else
    if !aPass then
      let s := s.modSafe fun f => { f with a := { f.a with failed := true }, h := { f.h with failed := f.h.failed || !hPass } }
      .next (s.channelGone .a)
    else if !hPass then .next ((s.modSafe fun f => { f with h := { f.h with failed := true } }).channelGone .h)
    else match bad with
      | some i =>
        let s := s.modSafe fun f => { f.raise 2 with a := f.a.holdInput i, h := f.h.holdInput i, arbInput := true, arbPort := disputedPort i }
        let s := s.groupEval.setMode .normal
        .next ((if s.safe.linkUp then s else s.setMode .linkloss).arbRecord)
      | none => .next (((s.modSafe fun f => { f with arbOut := 3 }).setMode .undecided).arbRecord)

/-- R181, R206: a channel's heartbeat has not toggled for 20 ms. Channel A's reset line accounts for its own silence, but not for that of a
survivor (R210). -/
def execHeartbeatAbsent (ch : SafeCh) (s : State) : Out :=
  if !s.guarded then .next s else
  if ch = .a ∧ s.safe.aReset ∧ s.safe.mode ≠ .degA then .next s
  else .next ((s.modSafe fun f => f.modCh ch fun c => { c with silent := true }).channelGone ch)

/-- R181: a channel asserts its fault line; it holds until module reset. -/
def execFaultLineAssert (ch : SafeCh) (s : State) : Out :=
  if !s.guarded then .next s else
  .next ((s.modSafe fun f => f.modCh ch fun c => { c with failed := true }).channelGone ch)

/-- R211: channel A's reset line asserts. -/
def execChannelAResetLine (s : State) : Out :=
  if !s.guarded then .next s else .next s.aOwnReset

/-- R213: channel A's own watchdog expires 10 ms after its last grid instant and resets channel A alone. -/
def execChannelAWatchdog (s : State) : Out :=
  if !s.guarded then .next s else
  if s.safe.aRuns then .next (s.upTo (s.safe.a.gridAt + ms 10)).aOwnReset else .next s

/-- R206, R492: RESYNC has lasted ARSYNC: Hinge enters DEG_H. -/
def execArsyncExpiry (s : State) : Out :=
  if !s.guarded then .next s else
  if s.safe.mode = .resync then
    let s := s.upTo (s.safe.aGone + sec s.safe.active.arsync.toNat)
    .next ((s.setMode .degH).safetyRecord moduleUnit 4)
  else .next s

/-- R209: the degraded window expires; loops open now stay open. -/
def execDegradedWindowExpiry (s : State) : Out :=
  if !s.guarded then .next s else
  match s.safe.winAt with
  | some t =>
    if s.safe.mode.degraded && !s.safe.expired then
      .next ((s.upTo (t + sec (60 * s.safe.active.degwin.toNat))).modSafe Safety.expire)
    else .next s
  | none => .next s

/-- R205: both clocks deviate, or neither: UNDECIDED, but not from START nor from a mode that ends only at module reset (R206, R210). -/
def State.clockUndecided (s : State) : State :=
  match s.safe.mode with
  | .normal | .resync | .linkloss | .arbitrating => s.setMode .undecided
  | _ => s

/-- R18, R205: a 1 ms window in which a channel counts the other's clock; `dev` in 0.01 %. Two deviations in a row are a clock
fault; `aOff`, `hOff`: the channel's own clock deviates from the RTC by more than 1 %. -/
def execClockCrosscheck (ch : SafeCh) (dev : BitVec 16) (aOff hOff : Bool) (s : State) : Out :=
  if !s.guarded then .next s else
  let wide := decide (200 < dev.toInt.natAbs)
  let n := if wide then (s.safe.ch ch).clkDev + 1 else 0
  let s := s.modSafe fun f => f.modCh ch fun c => { c with clkDev := n }
  let fault := decide (2 ≤ s.safe.a.clkDev ∨ 2 ≤ s.safe.h.clkDev)
  let s := { s with tim := { s.tim with clkmon := { dev := dev, fault := fault } } }
  let s := s.modSafe fun f => { f with clkflt := fault }
  if n ≠ 2 then .next s
  else
    let s := s.modSafe fun f => { f.raise 0x100 with arbItem := 6, arbInput := false, arbPort := 0xFF,
                                                     arbOut := if aOff = hOff then 3 else if aOff then 1 else 2,
                                                     a := { f.a with failed := f.a.failed || (aOff && !hOff) },
                                                     h := { f.h with failed := f.h.failed || (hOff && !aOff) } }
    let s := if aOff = hOff then s.clockUndecided else if aOff then s.channelGone .a else s.channelGone .h
    .next (s.safetyRecord moduleUnit 8)

/-- R192: one input of a portal at a gap of source `src` (0 TPA, 1 TPB): contact 1 hangs on TPA, contact 2 on TPB. -/
def PortalPairs.gap (q : PortalPairs) (src : Fin 2) (during after : BitVec 6) : PortalPairs :=
  (List.finRange 6).foldl (fun q k =>
    let own := k.val % 2 == src.val
    let d := during.getLsbD k.val
    let before := q.raw.getLsbD k.val
    let a := after.getLsbD k.val
    if own && d then { q with tpf := q.tpf ||| (1#6 <<< k.val), good := q.good.set k.val 0 }
    else if !own && before && a && !d then { q with tpf := q.tpf ||| (1#6 <<< k.val), good := q.good.set k.val 0 }
    else if own then
      let n := if a then q.good[k.val] + 1 else 0
      { q with good := q.good.set k.val n, tpf := if 10 ≤ n then q.tpf &&& ~~~(1#6 <<< k.val) else q.tpf }
    else q) q

/-- R191: an instant `t` put off so that a gap of TPB then keeps 2 ms from the TPA gap that began at `g` and from the next. -/
def gapClear (g t : Nat) : Nat :=
  if t < g + us 2400 then g + us 2400 else if g + us 7600 < t ∧ t < g + us 12400 then g + us 12400 else t

/-- R191: the earliest start of the next gap of a source: 10 ms after its last, and of TPB away from the gaps of TPA. -/
def State.gapDue (s : State) (src : Fin 2) : Nat :=
  let t := match s.fio.gapAt[src.val] with | some g => max s.mono (g + ms 10) | none => s.mono
  match s.fio.gapAt[0] with
  | some g => if src.val = 1 ∧ s.safe.aRuns then gapClear g t else t
  | none => t

/-- R190 to R192: a gap of TPA or TPB; what each channel's coupler halves read during the gap and after it. -/
def execTestGap (src : Fin 2) (aDuring aAfter hDuring hAfter : BitVec 96) (s : State) : Out :=
  if !s.guarded then .next s else
  if !(if src.val = 0 then s.safe.aRuns else s.safe.hRuns) then .next s else
  let s := s.upTo (s.gapDue src)
  let f := fun (ch : SafeCh) (c : Channel) (d e : BitVec 96) =>
    { c with portals := Vector.ofFn fun n : Fin 16 =>
        if s.readsPortal ch n then (c.portals[n.val]).gap src (sixOf d n.val) (sixOf e n.val) else c.portals[n.val] }
  let bad := fun c : Channel => c.portals.toList.map PortalPairs.tpf
  let s' := s.modSafe fun x =>
    { x with a := if x.aRuns then f .a x.a aDuring aAfter else x.a, h := if x.hRuns then f .h x.h hDuring hAfter else x.h }
  let new := (List.zip (bad s.safe.a ++ bad s.safe.h) (bad s'.safe.a ++ bad s'.safe.h)).any fun p => p.2 &&& ~~~p.1 != 0
  .next ((s'.modSafe fun x => if new then x.raise 2 else x).modFio fun x => { x with gapAt := x.gapAt.set src.val (some s.mono) }).groupEval

/-- R195: the start of the next test pulse of a switch: every 10 s, the four staggered 2.5 s apart from the start of the run, not within
20 ms after it closed (DESIGN CHOICE, log 96: which of the four comes first). -/
def State.pulseDue (s : State) (sw : Fin 4) : Nat :=
  let t := max s.mono (s.safe.closedAt[sw.val] + ms 20)
  let t := match s.safe.pulseAt[sw.val] with | some u => max t (u + 1) | none => t
  let b := s.boot.relAt + ms (2500 * sw.val)
  b + (t - b + (sec 10 - 1)) / sec 10 * sec 10

/-- R195 to R197, R215: the off-pulse of 300 µs of a switch of a closed loop, by its own channel; `opened`: its read-back shows it open
within 250 µs. The pulse is judged when its time has run out. -/
def execSwitchTestPulse (sw : Fin 4) (opened : Bool) (s : State) : Out :=
  if !s.guarded then .next s else
  if s.safe.runs (if sw.val % 2 = 0 then .a else .h) && s.safe.loop ⟨sw.val / 2, by omega⟩ then
    let s := (s.upTo (s.pulseDue sw)).pulseJudge
    .next (s.modSafe fun f => { f with pulseAt := f.pulseAt.set sw.val (some s.mono), pulse := some (sw, opened) })
  else .next s

/-- R198: a wheel-pulse edge on a channel's half completes a period. -/
def execWheelPulse (ch : SafeCh) (i : Fin 4) (s : State) : Out :=
  if !s.guarded then .next s else
  .next (s.modSafe fun f => f.modCh ch fun c =>
    { c with wheels := vmod c.wheels i.val fun w => { last := some s.mono, period := w.last.map fun t => s.mono - t } })

/-- R217: a write of SRQ.ACK: channel A clears the named SST.EVT bits at its next grid instant. -/
def execEventAck (w : Word) (s : State) : Out :=
  if !s.online then .next s else
  .next (s.modSafe fun f => { f with ack := f.ack ||| w.setWidth 11 })

end Sys2Proof.Machine
end

