-- ==== Sys2Proof/Machine/BusWrite.lean ====
section
/-! DEFINITION. What a write to a register does under its access codes: staging, W1C, RW, command bits (R5 to R8, R33, R43).
`m` marks the bits that the access covers. -/

namespace Sys2Proof.Machine

/-- The condition of a feedback fault persists: SERN bad words in a row without a good one, or ILLN illegal transitions whose row 10 ms
have not ended (R110, R113). -/
def Axis.faultPersists (x : Axis) (now : Nat) : Bool :=
  if x.fb.cfg.src = 3 then decide (x.fb.lim.sern.toNat ≤ x.badRow)
  else decide (x.fb.lim.illn.toNat ≤ x.illRow ∧ now - x.illAt ≤ ms 10)

/-- R79, R117: a write of AXC.FLT: a cleared FBFLT restarts the rows of R110 and R113; a stage still above 130 °C keeps ENVCUT
(R153); while the condition of a cleared fault persists the axis stays DISABLED (Table 3-9); the bridges follow. -/
def State.writeFlt (s : State) (a : AxisIx) (w m : Word) : State :=
  (s.modAxis a fun x =>
    let f := x.reg.flt.write w m
    let cleared := x.reg.flt.fbflt && !f.fbflt
    { x with illRow := if cleared then 0 else x.illRow, badRow := if cleared then 0 else x.badRow,
             fbHold := x.fbHold || (cleared && x.faultPersists s.mono),
             envHold := x.envHold || (x.reg.flt.envcut && !f.envcut && x.overNow),
             reg := { x.reg with flt := { f with envcut := f.envcut || (x.reg.flt.envcut && x.hot) } } }).bridgeEval a

/-- A write to an axis control block, the writer a service session (`svc`) or the program; an axis that is not fitted ignores it (R43). -/
def State.writeAxis (s : State) (a : AxisIx) (off : Nat) (w m : Word) (svc : Bool := false) : State :=
  if !s.fitted a then s else
  match off with
  | 0x10 => s.modAxis a fun x => { x with sTgt := fmix x.sTgt w m, tgtSet := true }
  | 0x14 => s.modAxis a fun x => { x with sVlim := fmix x.sVlim (getF w 0 16) (getF m 0 16), vlimSet := true }
  | 0x1C => s.axisCmd a (w &&& m) false svc
  | 0x24 => s.writeFlt a w m
  | 0x74 => s.modAxis a fun x => x.blzRearm (w &&& m)
  | 0x138 => if (w &&& m).getLsbD 0 then s.modAxis a fun x => { x with reg := { x.reg with fmap := Vector.replicate 64 {} } } else s
  | 0x13C => if (w &&& m).getLsbD 0 then s.calRequest a else s
  | _ => s.modAxis a fun x => { x with reg := x.reg.regWrite off w m }

/-- The bits of word `i` of a blaze table that are not reserved (R6, Table 3-6). -/
def blazeMask (i : Nat) : Word := if i % 4 = 1 then 0x000FFFFF else if i % 4 = 3 then 0x001FFFFF else 0xFFFFFFFF

/-- A write to a blaze table goes to its staging copy (R93); its reserved bits stay zero (R6). -/
def State.writeBlaze (s : State) (a : AxisIx) (off : Nat) (w m : Word) : State :=
  if s.fitted a then s.modAxis a fun x => { x with sBlz := vmod x.sBlz (off / 4) fun r => fmix r w (m &&& blazeMask (off / 4)) } else s

/-- A write to a load-switch block. A test that LSB.REQ starts finds the output shorted or not as a free value tells (log 4). -/
def State.writeLoad (s : State) (c : ChanIx) (off : Nat) (w m : Word) : State :=
  if !(s.portal (chanPortal c)).fitted then s else
  match off with
  | 0x0C => s.modLs c fun x => { x with sCmd := if m.getLsbD 0 then w.getLsbD 0 else x.sCmd, staged := true }
  | 0x10 => if (w &&& m).getLsbD 0 then s.used.oltRequest c (s.freeNat % 2 == 1) else s
  | _ => s.modLs c fun x => { x with reg := x.reg.regWrite off w m }

/-- A write to a feedback block; the position output's registers are staged (R132, R134). -/
def State.writeFeedback (s : State) (a : AxisIx) (off : Nat) (w m : Word) : State :=
  if !s.fitted a then s
  else if off < 0x200 then s.modAxis a fun x => { x with fb := x.fb.regWrite off w m }
  else if (slotOf a).val ≠ 0 then s
  else s.modPortal (portalOf a) fun q =>
    if off = 0x204 then { q with sPopw := fmix q.sPopw (getF w 0 14) (getF m 0 14), poSet := true }
    else if off = 0x208 then { q with sPocen := fmix q.sPocen (getF w 0 16) (getF m 0 16), poSet := true }
    else if off = 0x20C then { q with sPocdir := fmix q.sPocdir w m, poSet := true }
    else if 0x240 ≤ off ∧ off < 0x280 then { q with sPocmp := vmod q.sPocmp ((off - 0x240) / 4) fun r => fmix r w m, poSet := true }
    else { q with po := q.po.regWrite off w m }

/-- A write to a kerf block. -/
def State.writeKerf (s : State) (p : PortalIx) (off : Nat) (w m : Word) : State :=
  if !(s.portal p).fitted then s else
  match off with
  | 0x20 =>
    let c := w &&& m
    let s := if c.getLsbD 0 then s.kerfOpen p (s.portal p).g else s
    let s := if c.getLsbD 1 then s.learnRequest p else s
    if c.getLsbD 2 then s.modKerf p fun k => { k with snapReq := true } else s
  | 0x60 => s.modKerf p fun k => { k with sZwide := fmix k.sZwide (getF w 0 10) (getF m 0 10), staged := true }
  | _ => s.modKerf p fun k => { k with reg := k.reg.regWrite off w m }

/-- A write to the emission port from context `ctx`: its buffer, and the GO word (R410). -/
def State.writePort (s : State) (ctx : Fin 5) (off : Nat) (w m : Word) : State :=
  if off < 0x400 then
    s.modEng fun e => { e with port := e.port.set ctx.val (vmod e.port[ctx.val] (off / 4) fun r => fmix r w m) }
  else if off = 0xFFC then s.emissionGo ctx (w &&& m)
  else s

/-- A write to the safety request mailbox (R217). -/
def State.writeSafety (s : State) (off : Nat) (w m : Word) : State :=
  if off = 0x1000 then s.modSafe fun f => { f with whold := fmix f.whold (getF w 0 2) (getF m 0 2) }
  else if off = 0x1004 then s.modSafe fun f => { f with ack := f.ack ||| (w &&& m).setWidth 11 }
  else s

/-- A write to a portal block: PRT.OBS and PRT.PHASE (R43); clearing GIVEUP clears RETRY (R58), and a change of PHASE enters the
trail of the door cycle (R65) (DEDUCED, log 70). -/
def State.writePortal (s : State) (p : PortalIx) (off : Nat) (w m : Word) : State :=
  s.modPortal p fun q =>
    let q' := { q with reg := q.reg.regWrite off w m }
    if off = 0x24 ∧ (w &&& m).getLsbD 11 then q'.clearGiveup
    else if off = 0x28 ∧ q'.reg.phase ≠ q.reg.phase then q'.notePhase s.mono
    else q'

/-- A write to the system control region by the program or, with `session`, by a service session. -/
def State.writeSystem (s : State) (session : Bool) (off : Nat) (w m : Word) : State :=
  let o := off % 0x1000
  let c := w &&& m
  match off / 0x1000 with
  | 0x0 =>
    if o = 0x1C then (if c.getLsbD 0 then s.enterStop 1 else s)
    else s.modSys fun y => y.regWrite o w m
  | 0x1 => if session then { s with tim := s.tim.regWrite o w m } else s
  | 0x2 => { s with fab := s.fab.regWrite o w m }
  | 0x3 =>
    if o = 0x50 then s.headReset (c.setWidth 16) else { s with fel := s.fel.regWrite o w m }
  | 0x4 => { s with lsg := { s.lsg with reg := s.lsg.reg.regWrite o w m } }
  | 0x5 => s.modLnd fun l => { l with reg := l.reg.regWrite o w m }
  | 0x6 =>
    if o = 0x04 then (if c.getLsbD 0 then s.take else s)
    else if o = 0x30 then s.result c
    else s
  | 0x7 => { s with net := { s.net with reg := s.net.reg.regWrite o w m } }
  | 0x8 => s.writePortal (finMod 16 (o / 0x100)) (o % 0x100) w m
  | 0x9 =>
    if o = 0x14 then (if c.getLsbD 0 then s.flush else s)
    else s.modTally fun t => { t with reg := t.reg.regWrite o w m }
  | 0xB =>
    if o = 0x24 then
      let s := if c.getLsbD 1 then s.sleepCancel else s
      if c.getLsbD 0 then s.sleepRequest else s
    else s.modPwrReg fun r => r.regWrite o w m
  | _ => s

/-- A write of the bits `m` of the word at a word address, rights apart. `ctx`: the Filif context, whose emission-port buffer a store
to the port reaches (DEDUCED, log 32). -/
def State.poke (s : State) (ctx : Fin 5) (session : Bool) (a : Nat) (w m : Word) : State :=
  match placeOf a with
  | .memory => s.setWord a (fmix (s.memWord a) w m)
  | .axis x off => s.writeAxis x off w m session
  | .blaze x off => s.writeBlaze x off w m
  | .load c off => s.writeLoad c off w m
  | .field off => s.modFioReg fun r => r.regWrite off w m
  | .feedback x off => s.writeFeedback x off w m
  | .kerf p off => s.writeKerf p off w m
  | .port off => s.writePort ctx off w m
  | .safety off => s.writeSafety off w m
  | .system off => s.writeSystem session off w m
  | .code _ | .mailbox _ _ | .frame _ _ | .nowhere => s

end Sys2Proof.Machine
end

