-- ==== Sys2Proof/Machine/MemOps.lean ====
section
/-! DEFINITION. Filif's memory accesses: rights, loads, the store queue and its order, faults (R281, R282, R297 to R300). -/

namespace Sys2Proof.Machine

/-- The word address of an address. -/
def wordOf (a : Nat) : Nat := a / 4 * 4

/-- R281, R297: `n` bytes at `a` are aligned and the program may read them. -/
def mayRead (a n : Nat) : Bool := a % n == 0 && (placeOf (wordOf a)).progRead

/-- R281, R297: `n` bytes at `a` are aligned and the program may write them (DEDUCED, log 28). -/
def mayWrite (a n : Nat) : Bool := a % n == 0 && (placeOf (wordOf a)).progWrite a

/-- Table 11-7: cycles of a load; an access without the right is taken as one to SRAM (log 12). -/
def loadCycles (a : Nat) : Nat :=
  match placeOf (wordOf a) with
  | .system _ | .mailbox _ _ | .port _ => 10
  | .frame _ _ => 40
  | _ => 2

/-! ### The store queue (R298, R299) -/

/-- The queued store touches one of the `n` bytes from `a` up. -/
def QStore.overlaps (q : QStore) (a n : Nat) : Bool := decide (q.addr.toNat < a + n ∧ a < q.addr.toNat + q.size)

/-- The bits of a word that `n` bytes at `a` cover. -/
def laneMask (a n : Nat) : Word := BitVec.ofNat 32 ((2 ^ (8 * n) - 1) * 2 ^ (8 * (a % 4)))

/-- R285: the program stores `n` bytes at `a`: a move in flight to them no longer gives them a value the spec states. -/
def State.hitMoves (s : State) (a n : Nat) : State :=
  s.modEng fun e => { e with moves := e.moves.map fun c => c.map fun m =>
    if a < m.dst + m.len ∧ m.dst < a + n then { m with hit := (a, n) :: m.hit } else m }

/-- A store reaches its target. -/
def State.applyStore (s : State) (q : QStore) : State :=
  let a := q.addr.toNat
  (s.hitMoves a q.size).poke q.ctx false (wordOf a) (q.val <<< (8 * (a % 4))) (laneMask a q.size)

/-- A store issued before an entry to STOP has its effect before what the entry discards and saves (R35, R316). -/
def State.settleStop (s : State) : State := if s.mode = .stop then s.discardStaged.saveRetain else s

/-- The oldest queued store is written to its target (R298) (DEDUCED, log 19). -/
def State.drainOne (s : State) : State :=
  match s.eng.sq with
  | [] => s
  | q :: qs => ((s.modEng fun e => { e with sq := qs }).applyStore q).settleStop

/-- The `n` oldest queued stores are written. -/
def State.drain (s : State) : Nat → State
  | 0 => s
  | n + 1 => s.drainOne.drain n

/-- Every queued store is written. -/
def State.drainAll (s : State) : State := s.drain s.eng.sq.length

/-- How many of the oldest stores have to be written before `n` bytes at `a` are read. -/
def drainDepth (a n : Nat) : List QStore → Nat
  | [] => 0
  | q :: qs =>
    let k := drainDepth a n qs
    if k ≠ 0 then k + 1 else if q.overlaps a n then 1 else 0

/-- R298: earlier stores to the bytes read have been written. -/
def State.drainFor (s : State) (a n : Nat) : State := s.drain (drainDepth a n s.eng.sq)

/-- SYS.CTL, a store to which is the last instruction executed (Table 10-5, cause 1). -/
def sysCtl : Nat := 0xF000001C

/-- R297, R298: a store of `n` bytes. A full queue lets its oldest go first; a store to SYS.CTL acts at once, behind all others. -/
def State.store (s : State) (a : Word) (w : Word) (n : Nat) : State :=
  if !mayWrite a.toNat n then s.drainAll.violation a else
  let q : QStore := { addr := a, val := w, size := n, ctx := s.eng.cur }
  if wordOf a.toNat = sysCtl then s.drainAll.applyStore q
  else
    let s := if 8 ≤ s.eng.sq.length then s.drainOne else s
    s.modEng fun e => { e with sq := e.sq ++ [q] }

/-! ### Loads -/

/-- A read of the word at a word address leaves an effect: it has RC bits, or latches a _HI half (R8, R26). -/
def State.movesOnRead (s : State) (a : Nat) : Bool :=
  match placeOf a with
  | .field 0x340 | .mailbox _ 0 => true
  | p => (s.pair64 p).isSome

/-- R297 to R299: the word with `n` bytes at `a`, shifted to bit 0. None: a fault put the module in STOP with cause MEM. A read with
an effect comes after every earlier store. -/
def State.fetch (s : State) (a : Word) (n : Nat) (flt : FabFault) : State × Option Word :=
  if !mayRead a.toNat n then (s.drainAll.violation a, some 0) else
  let s := if s.movesOnRead (wordOf a.toNat) then s.drainAll else s.drainFor a.toNat n
  match flt with
  | .none =>
    let wa := wordOf a.toNat
    let w := s.peek s.eng.cur.val wa
    (s.touch s.eng.cur.val wa (laneMask a.toNat n), some (w >>> (8 * (a.toNat % 4))))
  | f => ((s.fabFault f 2 a).enterStop (s.stopCause 7), none)

/-- An instruction the engine cannot execute (R290): no effect but STOP with cause ILLOP. -/
def State.illop (s : State) : State := s.drainAll.enterStop 5

/-- An illegal word where the engine is ready to execute it. -/
def State.illegal (s : State) : State := if s.ready then s.illop else s

/-- A violation by a context other than through an address: counted, with the address it stands for (R282). -/
def State.noRight (s : State) (a : Nat) : State := s.violation (BitVec.ofNat 32 a)

end Sys2Proof.Machine
end

