-- ==== Sys2Proof/Machine/Flags.lean ====
section
/-! DEFINITION. Flag computations and conditions of Filif (R292 to R294). -/

namespace Sys2Proof.Machine

/-- The result of an operation with its carry and overflow. -/
structure Alu where
  res : Word
  c   : Bool := false
  v   : Bool := false
  deriving DecidableEq, Repr

/-- R292: addition with a carry in. -/
def addOp (x y : Word) (c : Bool) : Alu :=
  let n := x.toNat + y.toNat + c.toNat
  let i := x.toInt + y.toInt + c.toNat
  { res := BitVec.ofNat 32 n, c := decide (2 ^ 32 ≤ n), v := decide (i < -2 ^ 31 ∨ 2 ^ 31 ≤ i) }

/-- R292: subtraction of y and a borrow; C = 1 when no borrow occurs. -/
def subOp (x y : Word) (b : Bool) : Alu :=
  let i := x.toInt - y.toInt - b.toNat
  { res := x - y - BitVec.ofNat 32 b.toNat, c := decide (y.toNat + b.toNat ≤ x.toNat), v := decide (i < -2 ^ 31 ∨ 2 ^ 31 ≤ i) }

/-- Z and N of a result (R292). -/
def Bank.zn (k : Bank) (w : Word) : Bank := { k with z := w == 0, n := w.getLsbD 31 }

/-- All four flags of a result (R292). -/
def Bank.zncv (k : Bank) (a : Alu) : Bank := { k.zn a.res with c := a.c, v := a.v }

/-- Z, N and V of a result (R292, R295). -/
def Bank.znv (k : Bank) (a : Alu) : Bank := { k.zn a.res with v := a.v }

/-- The four shifts of Table 11-4. -/
inductive Shift where
  | shl | shr | sar | ror
  deriving DecidableEq, Repr

/-- R294: a shift or rotation by 0 to 31. -/
def Shift.res (t : Shift) (x : Word) (n : Nat) : Word :=
  match t with
  | .shl => x <<< n
  | .shr => x >>> n
  | .sar => x.sshiftRight n
  | .ror => x.rotateRight n

/-- R294: the last bit shifted out, for an amount other than 0. -/
def Shift.out (t : Shift) (x : Word) (n : Nat) : Bool :=
  match t with
  | .shl => x.getLsbD (32 - n)
  | .shr => x.getLsbD (n - 1)
  | .sar => x.getLsbD (n - 1)
  | .ror => (x.rotateRight n).getLsbD 31

/-- R294: Z and N always; C unless the amount is 0. -/
def Bank.shift (k : Bank) (t : Shift) (x : Word) (n : Nat) : Bank :=
  let k' := k.zn (t.res x n)
  if n = 0 then k' else { k' with c := t.out x n }

/-- Table 11-3: the conditions; none for the reserved codes 17 to 31. -/
def Bank.cond (k : Bank) (c : BitVec 5) : Option Bool :=
  match c.toNat with
  | 0 => some true
  | 1 => some k.z
  | 2 => some !k.z
  | 3 => some k.n
  | 4 => some !k.n
  | 5 => some k.c
  | 6 => some !k.c
  | 7 => some k.v
  | 8 => some !k.v
  | 9 => some (k.c && !k.z)
  | 10 => some (!k.c || k.z)
  | 11 => some (k.n == k.v)
  | 12 => some (k.n != k.v)
  | 13 => some (!k.z && k.n == k.v)
  | 14 => some (k.z || k.n != k.v)
  | 15 => some k.b
  | 16 => some !k.b
  | _ => none

/-- A value clamped to 32 signed bits (ADDS, SUBS): V = 1 if clamped. -/
def clampOp (i : Int) : Alu :=
  { res := BitVec.ofInt 32 (clampInt (-2147483648) 2147483647 i), v := decide (i < -2147483648 ∨ 2147483647 < i) }

end Sys2Proof.Machine
end

