-- ==== Sys2Proof/Machine/Operands.lean ====
section
/-! DEFINITION. Operand forms of the Filif instructions (R289): register results, immediates, unit numbers from K or Ld. -/

namespace Sys2Proof.Machine

/-- IMM sign-extended (R289). -/
def sext (imm : BitVec 16) : Word := imm.signExtend 32

/-- IMM zero-extended (R289). -/
def zext (imm : BitVec 16) : Word := imm.setWidth 32

/-- Form A with all four flags: Ld takes the result of La and Lb. -/
def State.alu (s : State) (cycles : Nat) (d a b : Reg) (f : Bank → Word → Word → Alu) : State :=
  s.bankOp cycles fun k => let r := f k (k.r a) (k.r b); (k.zncv r).put d r.res

/-- Form A with Z and N: Ld takes the result. -/
def State.logic (s : State) (cycles : Nat) (d a b : Reg) (f : Word → Word → Word) : State :=
  s.bankOp cycles fun k => let r := f (k.r a) (k.r b); (k.zn r).put d r

/-- Form A with Z, N and V: Ld takes the result. -/
def State.aluV (s : State) (cycles : Nat) (d a b : Reg) (f : Word → Word → Alu) : State :=
  s.bankOp cycles fun k => let r := f (k.r a) (k.r b); (k.znv r).put d r.res

/-- A shift of Table 11-4: La by `n`, into Ld. -/
def State.shiftOp (s : State) (d a : Reg) (t : Shift) (n : Bank → Nat) : State :=
  s.bankOp 1 fun k => (k.shift t (k.r a) (n k)).put d (t.res (k.r a) (n k))

/-- The amount Lb[4:0] (R294). -/
def amount (b : Reg) (k : Bank) : Nat := (k.r b).toNat % 32

/-- A contact on a bit `x`: B takes `f` of B and the bit (R300, R301). -/
def State.contact (s : State) (cycles : Nat) (x : Bank → Bool) (f : Bool → Bool → Bool) : State :=
  s.bankOp cycles fun k => { k with b := f k.b (x k) }

/-- A coil on bit `i` of Ld: it takes `f` of B and its old value (R301). -/
def State.coil (s : State) (d : Reg) (i : BitIx) (f : Bool → Bool → Bool) : State :=
  s.bankOp 1 fun k =>
    let w := k.r d
    k.put d (if f k.b (w.getLsbD i.val) then w ||| (1#32 <<< i.val) else w &&& ~~~(1#32 <<< i.val))

/-- The unit a MOT instruction names (R322): K, or with K = 0xFF the low bits of Ld. -/
inductive UnitNo where
  | unit (n : Nat)      -- in range
  | beyond              -- a number from Ld beyond the range
  | illegal             -- a literal K beyond the range
  deriving DecidableEq, Repr

/-- R322: the unit number of K or Ld in a range of `n` units; the low bits of Ld are its least byte (log 8). -/
def unitNo (k : BitVec 8) (ld : Word) (n : Nat) : UnitNo :=
  if k = 0xFF then (if ld.toNat % 256 < n then .unit (ld.toNat % 256) else .beyond)
  else if k.toNat < n then .unit k.toNat else .illegal

/-- A status into Ld, and Z = 1 where it is 0 (R305, R322). -/
def State.putStatus (s : State) (d : Reg) (w : Word) : State := s.modBank fun k => { k.put d w with z := w == 0 }

end Sys2Proof.Machine
end

