-- ==== Sys2Proof/Machine/CommitOps.lean ====
section
/-! DEFINITION. COMMIT of a stageable block (R33 to R36, R97, R132, R179, R305, R306). -/

namespace Sys2Proof.Machine

/-- A stageable block, Table 11-12. -/
inductive Block where
  | axis (a : AxisIx)
  | blaze (a : AxisIx)
  | load (c : ChanIx)
  | output (p : PortalIx)
  | kerf (p : PortalIx)
  deriving DecidableEq, Repr

/-- The block that contains an address; none for NOBLOCK (Table 11-11, Table 11-12). -/
def blockAt (a : Nat) : Option Block :=
  match placeOf a with
  | .axis x _ => some (.axis x)
  | .blaze x _ => some (.blaze x)
  | .load c _ => some (.load c)
  | .feedback x _ => if (slotOf x).val = 0 then some (.output (portalOf x)) else none
  | .kerf p _ => some (.kerf p)
  | _ => none

/-- Table 11-12: cycles of a COMMIT; 6 for NOBLOCK. -/
def commitCycles : Option Block → Nat
  | some (.blaze _) => 38
  | some (.output _) => 14
  | some _ => 7
  | none => 6

/-- The codes of Table 11-11. -/
inductive CommitStatus where
  | done | fault | noblock | content | stepped
  deriving DecidableEq, Repr

/-- The code of Table 11-11. -/
def CommitStatus.code : CommitStatus → Word
  | .done => 0 | .fault => 1 | .noblock => 2 | .content => 3 | .stepped => 4

/-- R43: the portal or axis of the block is fitted. -/
def State.blockFitted (s : State) : Block → Bool
  | .axis a => s.fitted a
  | .blaze a => s.fitted a
  | .load c => (s.portal (chanPortal c)).fitted
  | .output p => s.fitted (axisOf p 0)
  | .kerf p => (s.portal p).fitted

/-- Enabled compare entries as staged, one with direction 0b00 among them. -/
def Portal.badCompare (q : Portal) : Bool :=
  (List.finRange 16).any fun i => q.sPocen.getLsbD i.val && getF q.sPocdir (2 * i.val) 2 == 0

/-- R97, R132, R179: the block's chapter takes the staged content. -/
def State.contentOk (s : State) : Block → Bool
  | .blaze a => allEntries.all fun e => !s.blazeBad a (blazeAt (s.axis a).sBlz e)
  | .output p =>
    let q := s.portal p
    decide (1 ≤ q.sPopw.toNat ∧ q.sPopw.toNat ≤ 10000) && !q.badCompare
  | .kerf p => decide ((s.krf p).sZwide.toNat ≤ 500)
  | _ => true

/-- R97: the staged table becomes the active one; a changed entry is armed only on its approach side (DEDUCED, log 21). The axis `a` keeps
the table with which its update began (Table 3-9). -/
def Axis.commitBlaze (x : Axis) (a : AxisIx) (now : Nat) : Axis :=
  let old := match x.blzOld with
    | some o => if updateOf a o.1 = updateOf a now then o.2 else (x.blz, x.reg.blzarmd)
    | none => (x.blz, x.reg.blzarmd)
  let y := { x with blz := x.sBlz, blzOld := some (now, old), coprio := 0 }
  allEntries.foldl (fun y e =>
    if entryChanged x.blz x.sBlz e then y.setArm e ((blazeAt y.blz e).approach y.pos 0) else y) y

/-- The staged words of an axis block are applied; a staged target reaches the motion generator (R83), unless a blaze AXTGT of the same
update governs it (R103). `more`: the other leaf's
target follows in the same update (R324). -/
def State.commitAxis (s : State) (a : AxisIx) (more : Bool) : State :=
  let set := (s.axis a).tgtSet
  let s := s.modAxis a fun x => { x with tgtSet := false, vlimSet := false, reg := { x.reg with tgt := x.sTgt, vlim := x.sVlim } }
  if set then
    let t := (s.axis a).reg.tgt.toInt
    if (s.axis a).axtgtAt = some (updateOf a s.mono) && (s.refusal a .target t).isNone then s else s.request a .target t more
  else s

/-- The staged words of a block are applied as one operation (R34). -/
def State.applyBlock (s : State) : Block → State
  | .axis a => s.commitAxis a false
  | .blaze a => s.modAxis a fun x => x.commitBlaze a s.mono
  | .load c => s.lsCommit c
  | .output p => s.modPortal p fun q =>
      { q with poSet := false, poOld := some (s.mono, q.poBegan s.mono), po := { q.po with popw := q.sPopw, pocen := q.sPocen, pocdir := q.sPocdir, pocmp := q.sPocmp } }
  | .kerf p => s.modKerf p fun k => { k with staged := false, reg := { k.reg with zwide := k.sZwide } }

/-- The address of the first stageable word of a block and the number of words a COMMIT copies (Table 11-12). -/
def Block.words : Block → Nat × Nat
  | .axis a => (0x21000010 + 0x1000 * a.val, 2)
  | .blaze a => (0x22000000 + 0x200 * a.val, 128)
  | .load c => (0x2300000C + 0x40 * c.val, 1)
  | .output p => (0x25000204 + 0x400 * (axisOf p 0).val, 31)
  | .kerf p => (0x26000060 + 0x1000 * p.val, 1)

/-- Table 1-5: the copy meets a fabric fault: nothing is applied, and the fault is recorded with the word that failed, which the spec
leaves open (log 4); `bs`: the blocks copied as one operation. -/
def State.copyFault (s : State) (bs : List Block) (f : FabFault) : State :=
  let ws := bs.flatMap fun b => (List.range b.words.2).map fun i => b.words.1 + 4 * i
  s.used.fabFault f 2 (BitVec.ofNat 32 (ws.getD (s.freeNat % ws.length) 0))

/-- What a COMMIT of a block answers before anything is applied, in this order: STEPPED, DONE where nothing is fitted, CONTENT, FAULT
(DEDUCED, log 20). -/
def State.commitCheck (s : State) (b : Block) (f : FabFault) : Option CommitStatus :=
  if s.eng.stepping then some .stepped
  else if !s.blockFitted b then some .done
  else if !s.contentOk b then some .content
  else if f ≠ .none then some .fault
  else none

/-- R305: COMMIT of one block. -/
def State.commit (s : State) (b : Block) (f : FabFault) : State × CommitStatus :=
  match s.commitCheck b f with
  | some .fault => (s.copyFault [b] f, .fault)
  | some c => (s, c)
  | none => (s.applyBlock b, .done)

end Sys2Proof.Machine
end

