-- ==== Sys2Proof/Machine/EngineCmd.lean ====
section
/-! DEFINITION. The program cycle and what ends it: snapshots, output phases, panels, call-outs, the watchdog, restarts and
breakpoints (chapter 10). -/

namespace Sys2Proof.Machine

/-! ### Output phase (R265, R267, R273, R277, R280, R370) -/

/-- Safe values are in force on panels, network and outputs: STOP, or the FACTORY holding image (R277, R337) (DESIGN CHOICE, log 30). -/
def State.safeInForce (s : State) : Bool := s.mode == .stop || s.eng.sys.mode.factory

/-- A byte of the output image as it is in force now: the safe image, or the last applied one. -/
def State.appliedByte (s : State) (off : Nat) : Byte :=
  if s.safeInForce then s.eng.safeOut.getD off 0 else Mem.read s.eng.applied (outBase + off)

/-- `n` bytes of it. -/
def State.appliedBytes (s : State) (off n : Nat) : List Byte := (List.range n).map fun i => s.appliedByte (off + i)

/-- Table 15-4: a frame to the panel of portal `p`, with the number of the cycle whose output phase last ended (R267, R268, R277). -/
def State.panelFrame (s : State) (p : PortalIx) : List Byte :=
  let data := s.appliedBytes (0x1010 + 0x100 * p.val) 240
  let flags := (if s.safeInForce then 1 else 0) + (if s.mode = .run then 0 else 2)
  let ph := (s.portal p).reg.phase
  let head := [0x50, 0x01, 0x01, BitVec.ofNat 8 p.val] ++ beBytes 4 (s.eng.outCyc % 2 ^ 32) ++ beBytes 2 flags
    ++ [BitVec.ofNat 8 (ph.phase.toNat + 16 * ph.cause.toNat), 0]
  head ++ beBytes 4 (crc32c (head ++ data)) ++ data

/-- The panels that take part (SYS.PLCFG.PLEN). -/
def State.panels (s : State) : List PortalIx := allPortals.filter fun p => s.eng.sys.plcfg.plen.getLsbD p.val

/-- One frame to each panel that takes part. -/
def State.sendPanels (s : State) : State := s.forAll s.panels fun s p => s.send (.panel p.val (s.panelFrame p))

/-- The frame headers overwrite bytes 0x00 to 0x0F of the panel output areas (Table 10-3). -/
def State.putHeaders (s : State) : State :=
  s.forAll s.panels fun s p => s.setBytes (outBase + 0x1000 + 0x100 * p.val) ((s.panelFrame p).take 16)

/-- The end of an output phase ends the interval (R273): SYS.CYCT, the next interval, and a HOLD that waits for it (R276). -/
def State.intervalEnd (s : State) : State :=
  let n := satNat 16 (s.since s.eng.wdStart / 400)
  let past := s.mode == .run && decide (us s.eng.sys.wdt.wdt.toNat ≤ s.since s.eng.wdStart)
  let s := s.modEng fun e =>
    { e with phase := .wait, outEnd := s.mono, replied := 0, wdStart := if past then e.wdStart else s.mono
             sys := { e.sys with cyct := { last := n, max := if e.sys.cyct.max.toNat < n.toNat then n else e.sys.cyct.max } } }
  if past then s.enterStop 3 else if s.eng.holdReq then s.enterHold else s

/-- R261, R265: the output phase; how long it takes, up to 12 µs, is left open (log 4). Stepped in HOLD the EOC ends the execute phase
and the outputs stay frozen (R280; log 16). -/
def State.outputPhase (s : State) : State :=
  if s.mode = .stop then s else
  if s.mode = .hold then s.modEng fun e => { e with phase := .wait, outEnd := s.mono, atEnd := false, replied := 0 } else
  let s := (s.pass (s.freeNat % (us 12 + 1))).used
  let s := { s with fio := { s.fio with imgFo :=
    if s.eng.sys.mode.factory then s.fio.reg.focfg.safe else (s.memWord outBase).setWidth 16 } }
  let s := s.modEng fun e => { e with outCyc := e.cycno, atEnd := true, applied := s.mem.filter fun c => decide (outBase ≤ c.1) }
  (s.sendPanels.putHeaders).intervalEnd

/-- R285: a move that writes the output image is in flight. -/
def State.moveToOutput (s : State) : Bool := s.eng.moves.toList.any fun c => match c with | some m => decide (outBase ≤ m.dst) | none => false

/-- R285: a move that reads the input image is in flight. -/
def State.moveFromInput (s : State) : Bool :=
  s.eng.moves.toList.any fun c => match c with | some m => decide (inBase ≤ m.src ∧ m.src < outBase) | none => false

/-- R304, R261: EOC: every store issued before it is written, and the output phase follows. While a move writes the output image it
stalls: the command has no effect (log 13). Illegal in a call-out. -/
def execEoc (s : State) : Out :=
  .next (if s.eng.inCallout then s.illegal
    else if s.moveToOutput then s
    else s.insn 1 fun s => s.drainAll.outputPhase)

/-! ### Snapshot (R261 to R264, R267, R268, R275) -/

/-- The earliest instant at which the snapshot condition and MINCYC let the snapshot come (R267, R275). -/
def State.snapDue (s : State) : Nat :=
  let e := s.eng
  let r := if e.sys.plcfg.plen &&& ~~~e.replied = 0 then s.mono else e.outEnd + us e.sys.plcfg.plwait.toNat
  if e.sys.wdt.mincyc = 0 then r else max r (e.snapAt + us e.sys.wdt.mincyc.toNat)

/-- Words of memory from an address up. -/
def State.setWords (s : State) (a : Nat) (ws : List Word) : State := s.setBytes a (ws.map fun w => leBytes 4 w.toNat).flatten

/-- Registers read into the image: those at `addr i` for i below `n`. -/
def State.copyRegs (s : State) (off n : Nat) (addr : Nat → Nat) : State :=
  s.setWords (inBase + off) ((List.range n).map fun i => s.peek 0 (addr i))

/-- Table 10-2: the panel input area of a portal that takes part. -/
def State.panelArea (s : State) (p : PortalIx) : State :=
  let e := s.eng
  let here := e.replied.getLsbD p.val
  (s.setWords (inBase + 0x1000 + 0x100 * p.val)
    [e.plEcho[p.val], e.plAge[p.val], putB here 0 ||| putB (e.sys.plstat.plflt.getLsbD p.val) 1, 0]).setBytes
    (inBase + 0x1010 + 0x100 * p.val) (bytesAt e.plData[p.val] 0 240)

/-- Table 15-5: input slot `n`. -/
def State.pdArea (s : State) (n : Fin 8) : State :=
  let c := s.net.reg.pdi[n.val]
  if c.len = 0 then s else
  let d := s.net.pdi[n.val]
  (s.setWords (inBase + 0x2000 + 0x400 * n.val)
    [c.id.setWidth 32, satNat 32 (s.since d.at_ / ms 1), putB d.valid 0 ||| putB d.lost 1 ||| putB d.lenerr 2, d.seq]).setBytes
    (inBase + 0x2010 + 0x400 * n.val) (bytesAt d.data 0 (min c.len.toNat 1008))

/-- Table 10-1: the input image as every source stands at the snapshot tick (R263). -/
def State.inputImage (s : State) : State :=
  let e := s.eng
  let s := { s with mem := Mem.clear s.mem inBase outBase }
  let s := s.setBytes inBase (leBytes 8 e.cycno ++ leBytes 8 s.mono)
  let flags := putB e.first 0 ||| putB e.switched 1 ||| putB e.sys.mode.factory 2 ||| putB e.sys.mode.warm 3
  let s := s.setWords (inBase + 0x10) [flags, e.sys.cyct.last.setWidth 32]
  let s := s.setBytes (inBase + 0x18) (leBytes 8 s.calNow)
  let s := s.copyRegs 0x40 5 fun i => 0x24000300 + 4 * i
  let s := s.copyRegs 0x54 1 fun _ => 0x24000320
  let s := s.copyRegs 0x58 2 fun i => 0x2400040C + 4 * i
  let s := s.copyRegs 0x60 16 fun p => 0xF0008020 + 0x100 * p
  let s := s.copyRegs 0xA0 16 fun p => 0xF0008024 + 0x100 * p
  let s := s.copyRegs 0xE0 16 fun p => 0xF000802C + 0x100 * p
  let s := s.copyRegs 0x120 16 fun p => 0x26000024 + 0x1000 * p
  let s := s.copyRegs 0x180 14 fun i => 0x40000000 + 4 * i
  let s := s.forAll allAxes fun s a =>
    s.copyRegs (0x200 + 0x10 * a.val) 4 fun i =>
      if i = 0 then axcReg a 0x20 else if i = 1 then axcReg a 0x24 else if i = 2 then axcReg a 0x3C
      else 0x25000044 + 0x400 * a.val
  let s := s.copyRegs 0x600 48 fun c => 0x23000014 + 0x40 * c
  let s := s.copyRegs 0x6C0 1 fun _ => 0xF0004000
  let s := s.copyRegs 0x6C4 1 fun _ => 0xF0003014
  let s := s.forAll s.panels State.panelArea
  s.forAll (List.finRange 8) State.pdArea
where
  /-- The address of a register of an axis control block. -/
  axcReg (a : AxisIx) (off : Nat) : Nat := 0x21000000 + 0x1000 * a.val + off

/-- R268: at a snapshot a panel whose reply was taken counts its age from 0; each other one is missing. -/
def State.panelAges (s : State) : State :=
  s.modEng fun e =>
    let miss := e.sys.plcfg.plen &&& ~~~e.replied
    { e with plAge := Vector.ofFn fun p : Fin 16 =>
               if !e.sys.plcfg.plen.getLsbD p.val then e.plAge[p.val]
               else if e.replied.getLsbD p.val then 0 else satInc e.plAge[p.val]
             sys := { e.sys with plstat := { e.sys.plstat with miss := miss } } }

/-- R261: the snapshot tick and the input phase, in RUN's wait phase with no call-out running, no move reading the input image, and the
watchdog interval not over; how long the phase takes, up to 15 µs, is left open (log 4). The execute phase begins at the entry point. -/
def execSnapshot (s : State) : Out :=
  if !s.online then .next s else
  let t := max s.mono s.snapDue
  if s.mode ≠ .run ∨ s.eng.phase ≠ .wait ∨ s.eng.inCallout ∨ s.moveFromInput ∨ us s.eng.sys.wdt.wdt.toNat ≤ t - s.eng.wdStart then .next s
  else
    let s := (s.upTo t).panelAges.modEng fun e => { e with cycno := e.cycno + 1, snapAt := t }
    let s := s.inputImage
    let s := s.modEng fun e =>
      { e with phase := .execute, first := false, switched := false, banks := e.banks.set 0 { e.banks[0] with pc := e.entry } }
    .next (s.pass (s.freeNat % (us 15 + 1))).used

/-- R267: PLWAIT has passed since the end of the output phase: from here on the snapshot condition holds. -/
def execPlwaitExpiry (s : State) : Out :=
  if !s.online then .next s else
  .next (if s.mode = .run ∧ s.eng.phase = .wait then s.upTo (s.eng.outEnd + us s.eng.sys.plcfg.plwait.toNat) else s)

/-! ### Panels (R268, R277, R370, R372) -/

/-- Table 15-4, R372: a reply's payload is whole and from this portal's panel. -/
def replyOk (p : PortalIx) (b : List Byte) : Bool :=
  b.length == 256 && b.getD 0 0 == 0x50 && b.getD 1 0 == 0x02 && b.getD 2 0 == 0x01 && b.getD 3 0 == BitVec.ofNat 8 p.val
    && beNat (bytesAt b 12 4) == crc32c (b.take 12 ++ b.drop 16)

/-- R268, R372: a panel reply. Outside the execute phase of RUN the first reply that echoes the last output phase's cycle is taken; in HOLD
a later one replaces it (R280). One kept out still shows that the panel replies (DEDUCED, log 24). -/
def execPanelReply (p : PortalIx) (b : List Byte) (s : State) : Out :=
  if !s.online then .next s else
  if b.getD 0 0 ≠ 0x50 then .next s.dropFrame   -- R364
  else if !replyOk p b then
    .next { s with net := { s.net with reg := { s.net.reg with err := { s.net.reg.err with plerr := satInc s.net.reg.err.plerr } } } }
  else if !s.eng.sys.plcfg.plen.getLsbD p.val then .next s
  else
    let echo := beNat (bytesAt b 4 4)
    if (s.eng.phase = .wait ∨ s.mode = .hold) ∧ echo = s.eng.outCyc % 2 ^ 32 then
      if s.mode ≠ .hold ∧ s.eng.replied.getLsbD p.val ∧ !s.eng.sys.plstat.plflt.getLsbD p.val then
        .next (s.modEng fun e => { e with plAt := e.plAt.set p.val s.mono })
      else .next (s.modEng fun e =>
        { e with replied := bit16 e.replied p.val true, plAt := e.plAt.set p.val s.mono, plData := e.plData.set p.val (b.drop 16)
                 plEcho := e.plEcho.set p.val (BitVec.ofNat 32 echo)
                 sys := { e.sys with plstat := { e.sys.plstat with plflt := bit16 e.sys.plstat.plflt p.val false } } })
    else .next (s.modSys fun y => { y with plcnt := satInc y.plcnt })

/-- R268: no reply for PLTMO: DATA to zero, PLFLT, and one PL-LOST record. -/
def execPanelTimeout (p : PortalIx) (s : State) : Out :=
  if !s.online then .next s else
  if s.eng.sys.plcfg.plen.getLsbD p.val && !s.eng.sys.plstat.plflt.getLsbD p.val then
    let s := s.upTo (s.eng.plAt[p.val] + ms s.eng.sys.plcfg.pltmo.toNat)
    .next ((s.modEng fun e =>
      { e with plData := e.plData.set p.val []
               sys := { e.sys with plstat := { e.sys.plstat with plflt := bit16 e.sys.plstat.plflt p.val true } } }).event 0x60 p.val 0)
  else .next s

/-- R277, R280: in STOP and HOLD a frame goes to each panel every 1 ms. -/
def execPanelFrameRepeat (s : State) : Out :=
  if !s.online then .next s else
  if s.mode = .run then .next s
  else
    let s := s.upTo (s.eng.frameAt + ms 1)
    .next ((s.modEng fun e => { e with frameAt := s.mono }).sendPanels)

/-! ### Call-outs (R270 to R272) -/

/-- R271, R389: what L3 holds at entry; a call-out that a mailbox's arrival triggered shows the messages queued at entry. -/
def State.entryArg (s : State) (p : PendCo) : Word :=
  let n := p.num.toNat
  if p.mbox then BitVec.ofNat 32 (n % 64 + 256 * (s.net.mbox[n % 64]).queue.length) else p.arg

/-- R271: the bank of a call-out at entry. -/
def entryBank (p : PendCo) (entry arg : Word) : Bank :=
  let k : Bank := { pc := entry }
  (((k.put 0 (p.num.setWidth 32)).put 1 (BitVec.ofNat 32 p.time)).put 2 (BitVec.ofNat 32 (p.time / 2 ^ 32))).put 3 arg

/-- R270, R271: at an instruction boundary the first eligible call-out starts; of the 8 cycles of entry and return 4 pass here (log 14). -/
def execCalloutStart (s : State) : Out :=
  if !s.online then .next s else
  .next (if s.mode ≠ .run ∨ s.wdOver ∨ s.eng.spent ∨ s.eng.stalled then s else
    match s.eng.eligible with
    | none => s
    | some p =>
      let entry := match s.eng.decl p.num with | some d => d.entry | none => 0
      (s.pass 4).modEng fun e =>
        { e with pend := e.pend.filter fun q => q.num != p.num
                 running := e.running.set p.prio.val (some { num := p.num, insns := 0 })
                 banks := vmod e.banks (p.prio.val + 1) fun _ => entryBank p entry (s.entryArg p) })

/-- R271: RETC: the bank that the call-out interrupted takes over. Illegal in the cycle. -/
def execRetc (s : State) : Out :=
  .next (if !s.eng.inCallout then s.illegal
    else s.insn 4 fun s => s.modEng fun e => { e with running := vmod e.running (e.cur.val - 1) fun _ => none })

/-- R272: the 2,000th instruction of a call-out was not its RETC; the watchdog's cause is the lower one (R286). -/
def execCalloutBudgetExpiry (s : State) : Out :=
  if !s.online then .next s else
  .next (if s.mode = .run ∧ s.eng.spent then s.drainAll.enterStop (s.stopCause 4) else s)

/-- R273: the interval reaches WDT. -/
def execCycleWatchdogExpiry (s : State) : Out :=
  if !s.online then .next s else
  .next (if s.mode = .run then (s.upTo (s.eng.wdStart + us s.eng.sys.wdt.wdt.toNat)).drainAll.enterStop 3 else s)

/-! ### STOP, restart and HOLD (R276, R279) -/

/-- Table 10-5, cause 1: the program writes SYS.CTL.STOP. -/
def execProgStop (s : State) : Out :=
  if !s.online then .next s else .next (if s.mode = .run then s.drainAll.enterStop 1 else s)

/-- R290, R312: the word is illegal in the state it is executed in. -/
def State.wordIllegal (s : State) (w : Word) : Bool :=
  match decodeFilif w with
  | none => true
  | some .eoc => s.eng.inCallout
  | some .retc => !s.eng.inCallout
  | some _ =>
    if opOf w ≠ 0x34 then false else
    match s.eng.tag (tagOf w) with
    | none => true
    | some d => !accepts (subOf w) d.type
where
  /-- Table 12-5: the types that a SUB accepts. -/
  accepts (sub : Nat) (k : TagType) : Bool :=
    if sub < 0x08 then k.isTimer else if sub < 0x10 then k == .edge else if sub < 0x18 then k == .ctud
    else if sub < 0x20 then k == .sr || k == .rs else if sub < 0x40 then k == .ramp else true

/-- R290: an illegal word is executed: no effect but STOP with cause ILLOP. -/
def execIllegalWord (w : Word) (s : State) : Out := .next (if s.wordIllegal w then s.illegal else s)

/-- R302, Table 10-5 cause 6: a fetch outside the code range or beyond the code length. -/
def execFetchOutsideCode (s : State) : Out :=
  .next (if s.ready && (decide (0x00400000 ≤ s.bank.pc.toNat) || decide (s.eng.code.length < s.bank.pc.toNat + 4)) then
    s.drainAll.enterStop 6 else s)

/-- R279: 100 ms after a STOP with cause WDOG or COLIM. -/
def execAutomaticRestart (s : State) : Out :=
  if !s.online then .next s else
  let s' := s.upTo (s.eng.stopAt + ms 100)
  let recent := s'.eng.autoAt.filter fun t => decide (s'.since t < sec 3600)
  let c := s.eng.sys.mode.cause
  .next (if s.mode = .stop ∧ (c = 3 ∨ c = 4) ∧ !s.boot.down ∧ recent.length < s.eng.sys.rst.auto.toNat then
    (s'.drainAll.modEng fun e => { e with autoAt := s'.mono :: recent }).enterRun s.eng.sys.rst.cold
  else s)

/-- A service session holds debug rights (R276). -/
def Security.debugs (t : Security) : Bool := match t.sessions[0] with | some e => e.has .debug | none => false

/-- R276: an instruction with an enabled breakpoint is about to execute. -/
def execBreakpoint (s : State) : Out :=
  let pc := s.bank.pc
  .next (if s.ready && s.mode == .run && s.tru.debugs && decide (pc.toNat < 2 ^ 24)
      && (s.eng.sys.brk.toList.any fun b => b.en && b.addr == getF pc 2 22) then s.enterHold else s)

end Sys2Proof.Machine
end

