-- ==== Sys2Proof/Machine/FabricCmd.lean ====
section
/-! DEFINITION. How fabric operations and mirrored MRAM writes end where no other row carries them (R27, R28, R31, R32). -/

namespace Sys2Proof.Machine

/-- R31, R32, Table 10-5: an operation of source `src` fails. A failed instruction fetch of Filif puts the module in STOP with cause
MEM; Filif's other operations have rows of their own. -/
def State.fabFail (s : State) (src : Fin 7) (f : FabFault) (addr : Word) : State :=
  let s := s.fabFault f (BitVec.ofNat 4 src.val) addr
  if src.val = 2 ∧ s.mode = .run then s.drainAll.enterStop (s.stopCause 7) else s

/-- R27, R31, R32: an operation completes whole, with or without a corrected error, or fails and leaves no effect but its record
(DEDUCED, log 26). -/
def execFabricOperationComplete (src : Fin 7) (e : FabEnd) (addr : Word) (s : State) : Out :=
  if !s.online then .next s else
  .next (match e with
    | .done => s
    | .corrected => { s with fab := { s.fab with ecccnt := { s.fab.ecccnt with corr := satInc s.fab.ecccnt.corr } } }
    | .ecc => s.fabFail src .ecc addr
    | .violation => if src.val = 2 then s.violation addr else s.fabViolation (BitVec.ofNat 4 src.val) addr)

/-- R31: an operation has not completed 20 µs after its grant. -/
def execFabricTimeout (src : Fin 7) (addr : Word) (s : State) : Out :=
  if !s.online then .next s else .next (s.fabFail src .timeout addr)

/-- R28: a mirrored MRAM write of source `src` is confirmed, or a device is marked failed. -/
def execMramWriteComplete (src : Fin 7) (ok0 ok1 : Bool) (s : State) : Out :=
  if !s.online then .next s else
  .next (s.mramWrite ok0 ok1 (BitVec.ofNat 4 src.val)).1

end Sys2Proof.Machine
end

