-- ==== Sys2Proof/Machine/Feedback.lean ====
section
/-! DEFINITION. The events of the feedback channels and position outputs (chapter 4). -/

namespace Sys2Proof.Machine

/-- R106 to R110, R130: the pins of the Hall lines (W, V, U), or of Z, B and A, stand at new levels.
Pass-through outputs repeat them as they are; the filter accepts each line once it has been present for FILT samples, dated to the
first (DEDUCED, log 40). Nothing counts in reset or sleep (R118). -/
def execFeedbackEdge (x : AxisIx) (hall : Bool) (l : PinLevels) (s : State) : Out :=
  let s := s.modAxis x fun y => if hall then { y with rawHall := l.levels } else { y with rawAbz := l.levels }
  if !s.online then .next s else
  let s := s.passThrough x hall l.levels
  .next (s.acceptLines x hall l 3)

/-- R124 to R128: the index event of the newest sample of Z, A and B. `illegal`: that sample holds an illegal A/B transition, as the
lines show it or as seen at the pins, and the event is ignored (R127). -/
def execIndexEvent (x : AxisIx) (illegal : Bool) (s : State) : Out :=
  if !s.online then .next s else
  let y := s.axis x
  if !(y.fb.cfg.idxen && y.fb.cfg.src == 2 && y.idxDue) then .next s else
  let s := s.modAxis x fun y => { y with idxDue := false }
  .next (if illegal || y.idxIll then s else s.indexEvent x)

/-- R111: a serial request starts, every FBK.SER.PER, at a current-loop step of the axis. -/
def execSerialRequest (x : AxisIx) (s : State) : Out :=
  if (s.axis x).fb.cfg.src = 3 ∧ s.online then
    let s := s.upTo (nextOn 10000 (max s.mono (s.axis x).serNext) (carrierOf x))
    .next (s.modAxis x fun y => { y with serReq := s.mono, serNext := s.mono + serPeriod y.fb.ser.per })
  else .next s

/-- R112 to R115: a serial word: raw data, CRC, the bits nE (or the SSI error bit) and nW as sent, how the answer began, and the
measured BiSS delay, ns. A delay that does not fit the 10 bits
of FBK.SERDLY.MEAS shows as 1,023, and that of a word without an acknowledge is shown too (DESIGN CHOICE, log 85). -/
def execSerialWord (x : AxisIx) (raw : BitVec 40) (crc : BitVec 16) (err warn : Bool) (ans : AnswerStart) (delay : BitVec 16) (s : State) : Out :=
  let y := s.axis x
  if y.fb.cfg.src = 3 ∧ s.online then
    let s := if y.fb.cfg.sermode = 2 then
        s.modAxis x fun y => { y with fb := { y.fb with serdly := { y.fb.serdly with meas := satNat 10 delay.toNat } } }
      else s
    let b := y.serialBad raw.toNat crc.toNat err warn ans.idle ans.start.toNat delay.toNat
    if b.1 || b.2.1 || b.2.2.1 || b.2.2.2 then .next (s.serialBad x b)
    else
      let s := s.serialGood x (y.serialData raw.toNat)
      .next (if y.fb.cfg.sermode = 2 && !warn then s.modAxis x fun y => y.modFst fun f => { f with warn := true } else s)
  else .next s

/-- R120, R123: no legal edge (or no change of a serial count) for TSS: speed 0, STILL. -/
def execFeedbackStandstill (x : AxisIx) (s : State) : Out :=
  if !s.online then .next s else
  let y := s.axis x
  if y.stepEdge then .next s else
  let s := s.upTo ((if y.fb.cfg.src = 3 then y.chgAt else y.edgeAt) + ms y.fb.lim.tss.toNat)
  .next (s.modAxis x Axis.standstill)

/-- R131, R132: the pulse on PA ends PW after the latest crossing. -/
def execComparePulseEnd (p : PortalIx) (s : State) : Out :=
  if !s.online then .next s else
  let q := s.portal p
  if q.po.postat.active then
    .next ((s.upTo q.poEnd).modPortal p fun q => { q with pa := false, po := { q.po with postat := { q.po.postat with active := false } } })
  else .next s

end Sys2Proof.Machine
end

