-- ==== Sys2Proof/Machine/FilifAlu.lean ====
section
/-! DEFINITION. The ALU, MULDIV and immediate groups of Filif (R294 to R296). -/

namespace Sys2Proof.Machine

/-- R294: Ld = La + Lb. -/
def execAdd (d a b : Reg) (s : State) : Out := .next (s.alu 1 d a b fun _ x y => addOp x y false)

/-- R294: Ld = La + Lb + C. -/
def execAdc (d a b : Reg) (s : State) : Out := .next (s.alu 1 d a b fun k x y => addOp x y k.c)

/-- R294: Ld = La − Lb. -/
def execSub (d a b : Reg) (s : State) : Out := .next (s.alu 1 d a b fun _ x y => subOp x y false)

/-- R294: Ld = La − Lb − (1 − C). -/
def execSbc (d a b : Reg) (s : State) : Out := .next (s.alu 1 d a b fun k x y => subOp x y !k.c)

/-- R294: flags of La − Lb. -/
def execCmp (a b : Reg) (s : State) : Out := .next (s.bankOp 1 fun k => k.zncv (subOp (k.r a) (k.r b) false))

/-- R294: Ld = 0 − La. -/
def execNeg (d a : Reg) (s : State) : Out :=
  .next (s.bankOp 1 fun k => let r := subOp 0 (k.r a) false; (k.zncv r).put d r.res)

/-- R294: Ld = La AND Lb. -/
def execAnd (d a b : Reg) (s : State) : Out := .next (s.logic 1 d a b fun x y => x &&& y)

/-- R294: Ld = La OR Lb. -/
def execOr (d a b : Reg) (s : State) : Out := .next (s.logic 1 d a b fun x y => x ||| y)

/-- R294: Ld = La XOR Lb. -/
def execXor (d a b : Reg) (s : State) : Out := .next (s.logic 1 d a b fun x y => x ^^^ y)

/-- R294: Ld = La AND NOT Lb. -/
def execAndn (d a b : Reg) (s : State) : Out := .next (s.logic 1 d a b fun x y => x &&& ~~~y)

/-- R294: flags of La AND Lb. -/
def execTst (a b : Reg) (s : State) : Out := .next (s.bankOp 1 fun k => k.zn (k.r a &&& k.r b))

/-- R294: Ld = NOT La. -/
def execNot (d a : Reg) (s : State) : Out := .next (s.bankOp 1 fun k => (k.zn (~~~k.r a)).put d (~~~k.r a))

/-- R294: Ld = La, no flag. -/
def execMov (d a : Reg) (s : State) : Out := .next (s.bankOp 1 fun k => k.put d (k.r a))

/-- R294: Ld = La if B = 1, else Lb. -/
def execSel (d a b : Reg) (s : State) : Out := .next (s.bankOp 1 fun k => k.put d (if k.b then k.r a else k.r b))

/-- R294: shift left by Lb[4:0]. -/
def execShl (d a b : Reg) (s : State) : Out := .next (s.shiftOp d a .shl (amount b))

/-- R294: logical shift right. -/
def execShr (d a b : Reg) (s : State) : Out := .next (s.shiftOp d a .shr (amount b))

/-- R294: arithmetic shift right. -/
def execSar (d a b : Reg) (s : State) : Out := .next (s.shiftOp d a .sar (amount b))

/-- R294: rotation right. -/
def execRor (d a b : Reg) (s : State) : Out := .next (s.shiftOp d a .ror (amount b))

/-- R294: the signed lesser. -/
def execMins (d a b : Reg) (s : State) : Out := .next (s.logic 1 d a b fun x y => if x.toInt ≤ y.toInt then x else y)

/-- R294: the signed greater. -/
def execMaxs (d a b : Reg) (s : State) : Out := .next (s.logic 1 d a b fun x y => if x.toInt ≤ y.toInt then y else x)

/-- R294: the unsigned lesser. -/
def execMinu (d a b : Reg) (s : State) : Out := .next (s.logic 1 d a b fun x y => if x.toNat ≤ y.toNat then x else y)

/-- R294: the unsigned greater. -/
def execMaxu (d a b : Reg) (s : State) : Out := .next (s.logic 1 d a b fun x y => if x.toNat ≤ y.toNat then y else x)

/-- R294: saturating signed addition. -/
def execAdds (d a b : Reg) (s : State) : Out := .next (s.aluV 1 d a b fun x y => clampOp (x.toInt + y.toInt))

/-- R294: saturating signed subtraction. -/
def execSubs (d a b : Reg) (s : State) : Out := .next (s.aluV 1 d a b fun x y => clampOp (x.toInt - y.toInt))

/-- R295: low half of the product; V where the signed product does not fit. -/
def mulOp (x y : Word) : Alu :=
  let i := x.toInt * y.toInt
  { res := BitVec.ofInt 32 i, v := decide (i < -2147483648 ∨ 2147483647 < i) }

/-- R295: signed quotient; by zero it is 0 with V, and −2^31 ÷ −1 is −2^31 with V. -/
def divOp (x y : Word) : Alu :=
  if y = 0 then { res := 0, v := true }
  else { res := BitVec.ofInt 32 (Int.tdiv x.toInt y.toInt), v := x.toInt == -2147483648 && y.toInt == -1 }

/-- R295: unsigned quotient. -/
def divuOp (x y : Word) : Alu := if y = 0 then { res := 0, v := true } else { res := BitVec.ofNat 32 (x.toNat / y.toNat) }

/-- R295: signed remainder, with the sign of the dividend; by zero it is La with V. -/
def remOp (x y : Word) : Alu :=
  if y = 0 then { res := x, v := true }
  else { res := BitVec.ofInt 32 (Int.tmod x.toInt y.toInt), v := x.toInt == -2147483648 && y.toInt == -1 }

/-- R295: unsigned remainder. -/
def remuOp (x y : Word) : Alu := if y = 0 then { res := x, v := true } else { res := BitVec.ofNat 32 (x.toNat % y.toNat) }

/-- R295: MUL, 2 cycles. -/
def execMul (d a b : Reg) (s : State) : Out := .next (s.aluV 2 d a b mulOp)

/-- R295: high half of the signed product. -/
def execMulh (d a b : Reg) (s : State) : Out :=
  .next (s.logic 2 d a b fun x y => BitVec.ofInt 32 (x.toInt * y.toInt / 4294967296))

/-- R295: high half of the unsigned product. -/
def execMulhu (d a b : Reg) (s : State) : Out :=
  .next (s.logic 2 d a b fun x y => BitVec.ofNat 32 (x.toNat * y.toNat / 4294967296))

/-- R295: DIV, 18 cycles. -/
def execDiv (d a b : Reg) (s : State) : Out := .next (s.aluV 18 d a b divOp)

/-- R295: DIVU. -/
def execDivu (d a b : Reg) (s : State) : Out := .next (s.aluV 18 d a b divuOp)

/-- R295: REM. -/
def execRem (d a b : Reg) (s : State) : Out := .next (s.aluV 18 d a b remOp)

/-- R295: REMU. -/
def execRemu (d a b : Reg) (s : State) : Out := .next (s.aluV 18 d a b remuOp)

/-- R296: Ld = La + sext(IMM), no flag. -/
def execAddi (d a : Reg) (imm : BitVec 16) (s : State) : Out := .next (s.bankOp 1 fun k => k.put d (k.r a + sext imm))

/-- R296: flags of La − sext(IMM). -/
def execCmpi (a : Reg) (imm : BitVec 16) (s : State) : Out := .next (s.bankOp 1 fun k => k.zncv (subOp (k.r a) (sext imm) false))

/-- R296: Ld = La AND zext(IMM). -/
def execAndi (d a : Reg) (imm : BitVec 16) (s : State) : Out :=
  .next (s.bankOp 1 fun k => (k.zn (k.r a &&& zext imm)).put d (k.r a &&& zext imm))

/-- R296: Ld = La OR zext(IMM), no flag. -/
def execOri (d a : Reg) (imm : BitVec 16) (s : State) : Out := .next (s.bankOp 1 fun k => k.put d (k.r a ||| zext imm))

/-- R296: Ld = La XOR zext(IMM). -/
def execXori (d a : Reg) (imm : BitVec 16) (s : State) : Out :=
  .next (s.bankOp 1 fun k => (k.zn (k.r a ^^^ zext imm)).put d (k.r a ^^^ zext imm))

/-- R296: Ld = IMM << 16, no flag. -/
def execLui (d : Reg) (imm : BitVec 16) (s : State) : Out := .next (s.bankOp 1 fun k => k.put d (zext imm <<< 16))

/-- The shift type of SHI, IMM[6:5] (R296). -/
def shiType (imm : BitVec 16) : Shift :=
  match (getF (zext imm) 5 2).toNat with
  | 0 => .shl
  | 1 => .shr
  | 2 => .sar
  | _ => .ror

/-- R296: shift by IMM[4:0]; IMM[15:7] not zero makes the word illegal (R290). -/
def execShi (d a : Reg) (imm : BitVec 16) (s : State) : Out :=
  .next (if imm.toNat < 128 then s.shiftOp d a (shiType imm) fun _ => imm.toNat % 32 else s.illegal)

/-- R296: flags of La AND zext(IMM). -/
def execTsti (a : Reg) (imm : BitVec 16) (s : State) : Out := .next (s.bankOp 1 fun k => k.zn (k.r a &&& zext imm))

end Sys2Proof.Machine
end

