-- ==== Sys2Proof/Machine/FilifBits.lean ====
section
/-! DEFINITION. The register contact group, branches, jumps, and the SYS functions on the bank (R301 to R304). -/

namespace Sys2Proof.Machine

/-- R301: B = La[b]. -/
def execRld (a : Reg) (bit : BitIx) (s : State) : Out := .next (s.contact 1 (fun k => (k.r a).getLsbD bit.val) fun _ x => x)

/-- R301: B = NOT La[b]. -/
def execRldn (a : Reg) (bit : BitIx) (s : State) : Out := .next (s.contact 1 (fun k => (k.r a).getLsbD bit.val) fun _ x => !x)

/-- R301: B = B AND La[b]. -/
def execRand (a : Reg) (bit : BitIx) (s : State) : Out := .next (s.contact 1 (fun k => (k.r a).getLsbD bit.val) fun b x => b && x)

/-- R301: B = B AND NOT La[b]. -/
def execRandn (a : Reg) (bit : BitIx) (s : State) : Out := .next (s.contact 1 (fun k => (k.r a).getLsbD bit.val) fun b x => b && !x)

/-- R301: ROR of the register contact group: B = B OR La[b]. -/
def execRorContact (a : Reg) (bit : BitIx) (s : State) : Out := .next (s.contact 1 (fun k => (k.r a).getLsbD bit.val) fun b x => b || x)

/-- R301: B = B OR NOT La[b]. -/
def execRorn (a : Reg) (bit : BitIx) (s : State) : Out := .next (s.contact 1 (fun k => (k.r a).getLsbD bit.val) fun b x => b || !x)

/-- R301: B = B XOR La[b]. -/
def execRxor (a : Reg) (bit : BitIx) (s : State) : Out := .next (s.contact 1 (fun k => (k.r a).getLsbD bit.val) fun b x => b ^^ x)

/-- R301: Ld[b] = B. -/
def execRst (d : Reg) (bit : BitIx) (s : State) : Out := .next (s.coil d bit fun b _ => b)

/-- R301: Ld[b] = NOT B. -/
def execRstn (d : Reg) (bit : BitIx) (s : State) : Out := .next (s.coil d bit fun b _ => !b)

/-- R301: if B = 1, Ld[b] = 1. -/
def execRset (d : Reg) (bit : BitIx) (s : State) : Out := .next (s.coil d bit fun b x => b || x)

/-- R301: if B = 1, Ld[b] = 0. -/
def execRrst (d : Reg) (bit : BitIx) (s : State) : Out := .next (s.coil d bit fun b x => !b && x)

/-- R301: B = NOT B. -/
def execBnot (s : State) : Out := .next (s.bankOp 1 fun k => { k with b := !k.b })

/-- R301: B = 1. -/
def execBone (s : State) : Out := .next (s.bankOp 1 fun k => { k with b := true })

/-- R301: B = 0. -/
def execBzero (s : State) : Out := .next (s.bankOp 1 fun k => { k with b := false })

/-- R301: B = 1 if the condition holds; a reserved condition is an illegal word (R290). -/
def execBcc (cond : BitVec 5) (s : State) : Out :=
  .next (match s.bank.cond cond with
    | some _ => s.bankOp 1 fun k => { k with b := (k.cond cond).getD false }
    | none => s.illegal)

/-- R301: Ld = B, zero-extended. -/
def execBget (d : Reg) (s : State) : Out := .next (s.bankOp 1 fun k => k.put d (putB k.b 0))

/-- R301: B = 1 if La ≠ 0. -/
def execBput (a : Reg) (s : State) : Out := .next (s.bankOp 1 fun k => { k with b := k.r a != 0 })

/-- Where a branch goes: its own address + 4 × sext(OFS). The bank's program counter has moved on by one word. -/
def branchTo (k : Bank) (ofs : BitVec 21) : Word := k.pc - 4 + (ofs.signExtend 32 <<< 2)

/-- R302: a branch; taken it takes 2 cycles, else 1. `link`: the link register written when taken. -/
def State.branch (s : State) (cond : BitVec 5) (ofs : BitVec 21) (link : Bool) : State :=
  match s.bank.cond cond with
  | none => s.illegal
  | some false => s.bankOp 1 fun k => k
  | some true => s.bankOp 2 fun k =>
      { (if link then k.put 31 k.pc else k) with pc := branchTo k ofs }

/-- R302: BR. -/
def execBr (cond : BitVec 5) (ofs : BitVec 21) (s : State) : Out := .next (s.branch cond ofs false)

/-- R302: BRL. -/
def execBrl (cond : BitVec 5) (ofs : BitVec 21) (s : State) : Out := .next (s.branch cond ofs true)

/-- R303: JR, 3 cycles. -/
def execJr (a : Reg) (s : State) : Out := .next (s.bankOp 3 fun k => { k with pc := k.r a &&& ~~~3#32 })

/-- R303: JRL; a JRL whose Ld names La jumps to La's old value. -/
def execJrl (d a : Reg) (s : State) : Out := .next (s.bankOp 3 fun k => { k.put d k.pc with pc := k.r a &&& ~~~3#32 })

/-- R304: NOP. -/
def execNop (s : State) : Out := .next (s.bankOp 1 fun k => k)

/-- R304: RDF. -/
def execRdf (d : Reg) (s : State) : Out :=
  .next (s.bankOp 1 fun k => k.put d (putB k.z 0 ||| putB k.n 1 ||| putB k.c 2 ||| putB k.v 3 ||| putB k.b 4))

/-- R304: WRF. -/
def execWrf (a : Reg) (s : State) : Out :=
  .next (s.bankOp 1 fun k =>
    let w := k.r a
    { k with z := w.getLsbD 0, n := w.getLsbD 1, c := w.getLsbD 2, v := w.getLsbD 3, b := w.getLsbD 4 })

end Sys2Proof.Machine
end

