-- ==== Sys2Proof/Machine/FilifEmit.lean ====
section
/-! DEFINITION. The EMIT group: program records and mailbox messages (R325, R326, R388 to R392). Buffers and descriptors are read
behind every earlier store (R298). -/

namespace Sys2Proof.Machine

/-- R325: a buffer of `n` bytes lies word-aligned in the data range. -/
def bufferOk (a n : Nat) : Bool := a % 4 == 0 && inData a n

/-- A program record of this payload, and its status into Ld (R326, R405, R410). -/
def State.emitTo (s : State) (d : Reg) (k : BitVec 8) (payload : List Byte) : State :=
  let sr := s.emit k payload
  let s := sr.1
  let r := sr.2
  s.putStatus d r.code

/-- Status BAD, and a violation at `a` (R326). -/
def State.emitBad (s : State) (d : Reg) (a : Word) : State := (s.violation a).putStatus d EmitStatus.bad.code

/-- R325: TREC; K = 0xFF is an illegal word. -/
def execTrec (d a : Reg) (k : BitVec 8) (s : State) : Out :=
  .next (if k = 0xFF then s.illegal else
    let len := (s.r d).toNat % 65536
    s.insn (8 + (len + 15) / 16) fun s =>
      let s := s.drainAll
      if 1024 < len ∨ !bufferOk (s.r a).toNat len then s.emitBad d (s.r a)
      else s.emitTo d k (s.bytes (s.r a).toNat len))

/-- R325: TWORD. -/
def execTword (d a : Reg) (k : BitVec 8) (s : State) : Out :=
  .next (if k = 0xFF then s.illegal else s.insn 8 fun s => s.drainAll.emitTo d k (leBytes 4 (s.r a).toNat))

/-- R390: the most data bytes of a message on a link, by the FD bit of its word 0 (DEDUCED, log 27). -/
def dataLimit (l : MbLink) (fd : Bool) : Nat :=
  match l with
  | .can _ => if fd then 64 else 8
  | .ser _ => 1024
  | .udp | .xl => 1472

/-- The message of `n` bytes at `a`, head included (R390). -/
def State.messageAt (s : State) (a n : Nat) : Msg :=
  { word0 := s.memWord a, port := getF (s.memWord (a + 4)) 16 16, data := s.bytes (a + 8) (n - 8) }

/-- What a send mailbox does with a message (R326, R388, R390). -/
def State.mbSend (s : State) (m : Fin 64) (a n : Nat) : State × EmitStatus :=
  let g := s.net.reg.mbcfg[m.val]
  match MbLink.ofCode g.link with
  | some l =>
    if n < 8 ∨ !bufferOk a n ∨ dataLimit l ((s.memWord a).getLsbD 30) < n - 8 then (s, .bad)
    else if !g.en ∨ !g.dir then (s.used, if s.freeNat % 2 = 0 then .full else .bad)
    else if l = .xl ∧ s.net.reg.twin.state ≠ .up then (s, .full)
    else if 16 ≤ (s.net.mbox[m.val]).out.length then (s, .full)
    else (s.modMbox m fun b => { b with out := b.out ++ [(s.messageAt a n, s.mono)] }, .accepted)
  | none => (s.used, if s.freeNat % 2 = 0 then .full else .bad)

/-- R325: MBSEND. -/
def execMbsend (d a : Reg) (k : BitVec 8) (s : State) : Out :=
  .next (if 64 ≤ k.toNat then s.illegal else
    let t := s.drainAll
    let ok := bufferOk (t.r a).toNat 8
    let len := if ok then (t.memWord ((t.r a).toNat + 4)).toNat else 0
    s.insn (10 + (len + 15) / 16) fun s =>
      let s := s.drainAll
      let ad := (s.r a).toNat
      if !ok then s.emitBad d (s.r a) else
      let sr := s.mbSend (finMod 64 k.toNat) (s.memWord ad).toNat len
      let s := sr.1
      let r := sr.2
      if r = .bad then s.emitBad d (s.memWord ad) else s.putStatus d r.code)

/-- The bytes of a message as MBRECV lays it down (R390). -/
def Msg.bytes (m : Msg) : List Byte := leBytes 4 m.word0.toNat ++ leBytes 2 m.data.length ++ leBytes 2 m.port.toNat ++ m.data

/-- Ld with Z and N as MBRECV sets them (R326). -/
def State.putTaken (s : State) (d : Reg) (w : Word) : State := s.modBank fun k => { k.put d w with z := w == 0, n := w.getLsbD 31 }

/-- R326: the oldest message of a mailbox is taken into a buffer of `cap` bytes at `ad`. -/
def State.mbRecv (s : State) (d : Reg) (m : Fin 64) (ad cap : Nat) : State :=
  match (s.net.mbox[m.val]).queue with
  | [] => s.putTaken d 0
  | g :: gs =>
    if cap < g.bytes.length then s.putTaken d 0xFFFFFFFF
    else (((s.modMbox m fun b => { b with queue := gs }).hitMoves ad g.bytes.length).setBytes ad g.bytes).putTaken d
      (BitVec.ofNat 32 g.bytes.length)

/-- R325, R326: MBRECV. Where the descriptor or the buffer breaks R325, nothing is taken, the access is a violation, and what Ld then
holds is left open (log 4). -/
def execMbrecv (d a : Reg) (k : BitVec 8) (s : State) : Out :=
  .next (if 64 ≤ k.toNat then s.illegal else
    let m : Fin 64 := finMod 64 k.toNat
    let t := s.drainAll
    let ad := (t.r a).toNat
    let buf := (t.memWord ad).toNat
    let cap := (t.memWord (ad + 4)).toNat
    let ok := bufferOk ad 8 && bufferOk buf cap
    let len := match (t.net.mbox[m.val]).queue with
      | g :: _ => if ok && decide (g.bytes.length ≤ cap) then g.bytes.length else 0
      | [] => 0
    s.insn (10 + (len + 15) / 16) fun s =>
      let s := s.drainAll
      if !ok then (s.used.violation (s.r a)).putTaken d s.freeWord
      else s.mbRecv d m buf cap)

/-- R325, R392: MBSTAT: the status word; its RC bits are cleared by the read. -/
def execMbstat (d : Reg) (k : BitVec 8) (s : State) : Out :=
  .next (if 64 ≤ k.toNat then s.illegal else
    s.insn 10 fun s =>
      let m : Fin 64 := finMod 64 k.toNat
      let s := s.drainAll
      (s.touch s.eng.cur.val (0x28000000 + 0x1000 * m.val) (BitVec.allOnes 32)).putR d (s.mailboxStatus m))

end Sys2Proof.Machine
end

