-- ==== Sys2Proof/Machine/FilifMem.lean ====
section
/-! DEFINITION. Loads, stores, and the contacts and coils on memory (R297 to R300). A load's operand `flt` says what its fabric
operation meets. -/

namespace Sys2Proof.Machine

/-- The address of a load or store: La + sext(IMM) (R297). -/
def State.ea (s : State) (a : Reg) (imm : BitVec 16) : Word := s.r a + sext imm

/-- R297, R299: a load of `n` bytes, extended by `ext`. -/
def State.loadOp (s : State) (d a : Reg) (imm : BitVec 16) (flt : FabFault) (n : Nat) (ext : Word → Word) : State :=
  s.insn (loadCycles (s.ea a imm).toNat) fun s =>
    let r := s.fetch (s.ea a imm) n flt
    match r.2 with
    | some w => r.1.putR d (ext w)
    | none => r.1

/-- R297: a store of the low `n` bytes of Ld. -/
def State.storeOp (s : State) (d a : Reg) (imm : BitVec 16) (n : Nat) : State :=
  s.insn 1 fun s => s.store (s.ea a imm) (s.r d) n

/-- R297: LDW. -/
def execLdw (d a : Reg) (imm : BitVec 16) (flt : FabFault) (s : State) : Out := .next (s.loadOp d a imm flt 4 id)

/-- R297: LDH, sign-extended. -/
def execLdh (d a : Reg) (imm : BitVec 16) (flt : FabFault) (s : State) : Out :=
  .next (s.loadOp d a imm flt 2 fun w => (w.setWidth 16).signExtend 32)

/-- R297: LDHU, zero-extended. -/
def execLdhu (d a : Reg) (imm : BitVec 16) (flt : FabFault) (s : State) : Out :=
  .next (s.loadOp d a imm flt 2 fun w => (w.setWidth 16).setWidth 32)

/-- R297: LDB, sign-extended. -/
def execLdb (d a : Reg) (imm : BitVec 16) (flt : FabFault) (s : State) : Out :=
  .next (s.loadOp d a imm flt 1 fun w => (w.setWidth 8).signExtend 32)

/-- R297: LDBU, zero-extended. -/
def execLdbu (d a : Reg) (imm : BitVec 16) (flt : FabFault) (s : State) : Out :=
  .next (s.loadOp d a imm flt 1 fun w => (w.setWidth 8).setWidth 32)

/-- R297: STW. -/
def execStw (d a : Reg) (imm : BitVec 16) (s : State) : Out := .next (s.storeOp d a imm 4)

/-- R297: STH. -/
def execSth (d a : Reg) (imm : BitVec 16) (s : State) : Out := .next (s.storeOp d a imm 2)

/-- R297: STB. -/
def execStb (d a : Reg) (imm : BitVec 16) (s : State) : Out := .next (s.storeOp d a imm 1)

/-- R298, R299: the oldest queued store reaches its target; a fault drops it and the rest of the queue, and puts the module in STOP. -/
def execStoreDrain (flt : FabFault) (s : State) : Out :=
  if !s.online then .next s else
  match s.eng.sq, flt with
  | [], _ => .next s
  | _, .none => .next s.drainOne
  | q :: _, f => .next (((s.modEng fun e => { e with sq := [] }).fabFault f 2 q.addr).enterStop (s.stopCause 7))

/-- R300: a contact on bit `bit` of the word at La + sext(IMM): B takes `f` of B and the bit. -/
def State.memContact (s : State) (bit : BitIx) (a : Reg) (imm : BitVec 16) (flt : FabFault) (f : Bool → Bool → Bool) : State :=
  s.insn (loadCycles (s.ea a imm).toNat) fun s =>
    let r := s.fetch (s.ea a imm) 4 flt
    match r.2 with
    | some w => r.1.modBank fun k => { k with b := f k.b (w.getLsbD bit.val) }
    | none => r.1

/-- R300: the target of a coil lies in the data range or the output image, aligned. -/
def coilTarget (a : Nat) : Bool := a % 4 == 0 && (inData a 4 || inOutput a 4)

/-- R300: a coil on bit `bit` of the word at La + sext(IMM): the bit takes `f` of B and its old value, in one step. -/
def State.memCoil (s : State) (bit : BitIx) (a : Reg) (imm : BitVec 16) (flt : FabFault) (f : Bool → Bool → Bool) : State :=
  s.insn 3 fun s =>
    let ad := s.ea a imm
    if !coilTarget ad.toNat then s.drainAll.violation ad else
    let r := s.drainAll.fetch ad 4 flt
    match r.2 with
    | some w =>
      let v := f r.1.bank.b (w.getLsbD bit.val)
      (r.1.hitMoves ad.toNat 4).setWord ad.toNat (if v then w ||| (1#32 <<< bit.val) else w &&& ~~~(1#32 <<< bit.val))
    | none => r.1

/-- R300: CLD. -/
def execCld (bit : BitIx) (a : Reg) (imm : BitVec 16) (flt : FabFault) (s : State) : Out :=
  .next (s.memContact bit a imm flt fun _ x => x)

/-- R300: CLDN. -/
def execCldn (bit : BitIx) (a : Reg) (imm : BitVec 16) (flt : FabFault) (s : State) : Out :=
  .next (s.memContact bit a imm flt fun _ x => !x)

/-- R300: CAND. -/
def execCand (bit : BitIx) (a : Reg) (imm : BitVec 16) (flt : FabFault) (s : State) : Out :=
  .next (s.memContact bit a imm flt fun b x => b && x)

/-- R300: CANDN. -/
def execCandn (bit : BitIx) (a : Reg) (imm : BitVec 16) (flt : FabFault) (s : State) : Out :=
  .next (s.memContact bit a imm flt fun b x => b && !x)

/-- R300: COR. -/
def execCor (bit : BitIx) (a : Reg) (imm : BitVec 16) (flt : FabFault) (s : State) : Out :=
  .next (s.memContact bit a imm flt fun b x => b || x)

/-- R300: CORN. -/
def execCorn (bit : BitIx) (a : Reg) (imm : BitVec 16) (flt : FabFault) (s : State) : Out :=
  .next (s.memContact bit a imm flt fun b x => b || !x)

/-- R300: CXOR. -/
def execCxor (bit : BitIx) (a : Reg) (imm : BitVec 16) (flt : FabFault) (s : State) : Out :=
  .next (s.memContact bit a imm flt fun b x => b ^^ x)

/-- R300: CST. -/
def execCst (bit : BitIx) (a : Reg) (imm : BitVec 16) (flt : FabFault) (s : State) : Out :=
  .next (s.memCoil bit a imm flt fun b _ => b)

/-- R300: CSTN. -/
def execCstn (bit : BitIx) (a : Reg) (imm : BitVec 16) (flt : FabFault) (s : State) : Out :=
  .next (s.memCoil bit a imm flt fun b _ => !b)

/-- R300: CSET. -/
def execCset (bit : BitIx) (a : Reg) (imm : BitVec 16) (flt : FabFault) (s : State) : Out :=
  .next (s.memCoil bit a imm flt fun b x => b || x)

/-- R300: CRST. -/
def execCrst (bit : BitIx) (a : Reg) (imm : BitVec 16) (flt : FabFault) (s : State) : Out :=
  .next (s.memCoil bit a imm flt fun b x => !b && x)

end Sys2Proof.Machine
end

