-- ==== Sys2Proof/Machine/FilifMot.lean ====
section
/-! DEFINITION. COMMIT, FENCE and the MOT group (R304 to R306, R322 to R324). Functions that commit or write a block let the store
queue empty first, as the stores they stand for would (R298). -/

namespace Sys2Proof.Machine

/-- R304: FENCE: every queued store completes. -/
def execFence (s : State) : Out := .next (s.insn 1 State.drainAll)

/-- R305, R306: COMMIT. -/
def execCommit (d a : Reg) (flt : FabFault) (s : State) : Out :=
  let b := blockAt (s.r a).toNat
  .next (s.insn (commitCycles b) fun s =>
    let s := s.drainAll
    match b with
    | none => s.putStatus d CommitStatus.noblock.code
    | some b => let sr := s.commit b flt; let s := sr.1; let c := sr.2; s.putStatus d c.code)

/-- The registers a MOT function reaches in the block of unit `n`, for the address a violation counts (R323) (DEDUCED, log 22). -/
def axcAddr (n off : Nat) : Nat := 0x21000000 + 0x1000 * n + off

/-- R322: a function of one unit. `illegal` words stop the engine; a number from Ld beyond the range writes `none_` to Ld, with Z
where the function has it, and counts a violation at `addr` of that number. -/
def State.motOp (s : State) (cycles n : Nat) (d : Reg) (k : BitVec 8) (none_ : Word) (flag : Bool) (addr : Nat → Nat)
    (f : State → Nat → State) : State :=
  match unitNo k (s.r d) n with
  | .illegal => s.illegal
  | .unit i => s.insn cycles fun s => f s i
  | .beyond => s.insn cycles fun s =>
      let s := s.drainAll.noRight (addr ((s.r d).toNat % 256))
      if flag then s.putStatus d none_ else s.putR d none_

/-- R322: MTGT. -/
def execMtgt (d a : Reg) (k : BitVec 8) (flt : FabFault) (s : State) : Out :=
  .next (s.motOp 8 64 d k 2 true (axcAddr · 0x10) fun s i =>
    let x := finMod 64 i
    let s := s.drainAll.writeAxis x 0x10 (s.r a) (BitVec.allOnes 32)
    let sr := s.commit (.axis x) flt
    let s := sr.1
    let c := sr.2
    s.putStatus d c.code)

/-- R324: both leaf blocks committed as one operation: both or neither. -/
def State.commitLeaves (s : State) (p : PortalIx) (f : FabFault) : State × CommitStatus :=
  match s.commitCheck (.axis (axisOf p 0)) f with
  | some .fault =>
    (s.copyFault (.axis (axisOf p 0) :: if (s.portal p).twoLeaf && s.fitted (axisOf p 1) then [.axis (axisOf p 1)] else []) f, .fault)
  | some .done =>
    if (s.portal p).twoLeaf && s.fitted (axisOf p 1) then s.commit (.axis (axisOf p 1)) f else (s, .done)
  | some c => (s, c)
  | none =>
    let s0 := s
    let s := s.commitAxis (axisOf p 0) true
    let s := if (s.portal p).twoLeaf && s.fitted (axisOf p 1) then s.commitAxis (axisOf p 1) true else s
    (s.fellSince s0, .done)

/-- R322, R324: MLEAF: slot 0 takes La and slot 1 takes Ld; a one-leaf portal takes slot 0 alone. -/
def execMleaf (d a : Reg) (k : BitVec 8) (flt : FabFault) (s : State) : Out :=
  .next (if 16 ≤ k.toNat then s.illegal else
    s.insn 10 fun s =>
      let p := finMod 16 k.toNat
      let s := s.drainAll.writeAxis (axisOf p 0) 0x10 (s.r a) (BitVec.allOnes 32)
      let s := if (s.portal p).twoLeaf then s.writeAxis (axisOf p 1) 0x10 (s.r d) (BitVec.allOnes 32) else s
      let sr := s.commitLeaves p flt
      let s := sr.1
      let c := sr.2
      s.putStatus d c.code)

/-- R322: MVLIM: AXC.VLIM staged, not committed. -/
def execMvlim (d a : Reg) (k : BitVec 8) (s : State) : Out :=
  .next (s.motOp 1 64 d k 0 false (axcAddr · 0x14) fun s i =>
    s.drainAll.writeAxis (finMod 64 i) 0x14 (s.r a) 0xFFFF)

/-- R322: MCMD: AXC.CMD of one axis. -/
def execMcmd (d a : Reg) (k : BitVec 8) (s : State) : Out :=
  .next (s.motOp 1 64 d k 0 false (axcAddr · 0x1C) fun s i =>
    s.drainAll.writeAxis (finMod 64 i) 0x1C (s.r a) 0x1F)

/-- R322: PCMD: AXC.CMD of every fitted axis of a portal, in one update. -/
def execPcmd (d a : Reg) (k : BitVec 8) (s : State) : Out :=
  .next (s.motOp 2 16 d k 0 false (fun n => axcAddr (4 * n) 0x1C) fun s i =>
    let w := s.r a
    let s := s.drainAll
    (s.forAll (s.axesOf (finMod 16 i)) fun s x => s.axisCmd x (w &&& 0x1F) true).fellSince s)

/-- R322: MSTAT: AXC.STATE, live. -/
def execMstat (d : Reg) (k : BitVec 8) (s : State) : Out :=
  .next (s.motOp 2 64 d k 0 false (axcAddr · 0x20) fun s i => s.putR d (s.axcState (finMod 64 i)))

/-- R322: MPOS: AXC.POS, live. -/
def execMpos (d : Reg) (k : BitVec 8) (s : State) : Out :=
  .next (s.motOp 2 64 d k 0 false (axcAddr · 0x3C) fun s i => s.putR d (BitVec.ofInt 32 (s.axis (finMod 64 i)).pos))

/-- R322, R323: BHIT: AXC.BLZHIT, whose bits read are cleared in the same access; Z = 1 where it is 0. -/
def execBhit (d : Reg) (k : BitVec 8) (s : State) : Out :=
  .next (s.motOp 3 64 d k 0 true (axcAddr · 0x6C) fun s i =>
    let x := finMod 64 i
    let s := s.drainAll
    let w := s.axisRead x 0x6C
    (s.writeAxis x 0x6C w w).putStatus d w)

/-- R322: BREARM: AXC.BLZREARM. -/
def execBrearm (d a : Reg) (k : BitVec 8) (s : State) : Out :=
  .next (s.motOp 1 64 d k 0 false (axcAddr · 0x74) fun s i =>
    s.drainAll.writeAxis (finMod 64 i) 0x74 (s.r a) (BitVec.allOnes 32))

/-- LSB.CMD.ON staged and the channel committed (R322). -/
def State.lsw (s : State) (d : Reg) (k : BitVec 8) (flt : FabFault) (on : State → Bool) : State :=
  s.motOp 8 48 d k 2 true (fun n => 0x23000000 + 0x40 * n + 0x0C) fun s i =>
    let c := finMod 48 i
    let s := s.drainAll.writeLoad c 0x0C (putB (on s) 0) 1
    let sr := s.commit (.load c) flt
    let s := sr.1
    let r := sr.2
    s.putStatus d r.code

/-- R322: LSW: La[0]. -/
def execLsw (d a : Reg) (k : BitVec 8) (flt : FabFault) (s : State) : Out := .next (s.lsw d k flt fun s => (s.r a).getLsbD 0)

/-- R322: LSWB: B. -/
def execLswb (d : Reg) (k : BitVec 8) (flt : FabFault) (s : State) : Out := .next (s.lsw d k flt fun s => s.bank.b)

end Sys2Proof.Machine
end

