-- ==== Sys2Proof/Machine/FilifMove.lean ====
section
/-! DEFINITION. Block moves (R283 to R285, R307). -/

namespace Sys2Proof.Machine

/-- R283: `n` bytes from `a` lie within one range that the program may read. -/
def moveSource (a n : Nat) : Bool :=
  rangeOf a != 0 && rangeOf a == rangeOf (a + n - 1)
    && (match placeOf a with
      | .code _ | .port _ | .nowhere => false
      | .mailbox _ off => off == 0 && n == 4
      | .system off => (off + n ≤ 0x80 || 0x88 ≤ off) && (off + n ≤ 0x100 || 0x120 ≤ off)
      | _ => true)

/-- R283: the conditions on source, destination and length. -/
def moveOk (src dst len : Nat) : Bool :=
  src % 4 == 0 && dst % 4 == 0 && len % 4 == 0 && decide (4 ≤ len ∧ len ≤ 1048576)
    && moveSource src len && (inData dst len || inOutput dst len) && (decide (src + len ≤ dst) || decide (dst + len ≤ src))

/-- A move ended ERROR is counted (SYS.BMSTAT.ERRN). -/
def State.moveError (s : State) : State :=
  s.modSys fun y => { y with bmstat := satInc y.bmstat }

/-- The first free move channel. -/
def Engine.freeMove (e : Engine) : Option (Fin 4) := (List.finRange 4).find? fun i => e.moves[i.val].isNone

/-- R284: a move starts on channel `i`: PENDING with the next TAG, and then the transfer, whose destination holds nothing valid until
DONE (R38); one that breaks R283 ends ERROR with ERR 3 at once (DEDUCED, log 23). -/
def State.moveStart (s : State) (i : Fin 4) (src dst len cw : Nat) : State :=
  let tag := s.eng.moveTag[i.val] + 1
  let s := (s.modEng fun e => { e with moveTag := e.moveTag.set i.val tag }).setWord cw (completion 0 0 tag)
  if moveOk src dst len then
    (s.scramble dst len).modEng fun e =>
      { e with moves := e.moves.set i.val (some { src := src, dst := dst, len := len, cw := cw, tag := tag, ctx := e.cur }) }
  else
    ((s.setWord cw (completion 2 3 tag)).moveError).noRight (if src % 4 == 0 && moveSource src len then dst else src)

/-- R307, Table 11-13: BMOVE. While all four channels are busy it stalls: the command only bars call-outs until it is sent again and
completes (log 13). -/
def execBmove (d a : Reg) (s : State) : Out :=
  .next (match s.eng.freeMove with
    | none => if s.ready then s.modEng fun e => { e with stalled := true } else s
    | some i =>
      s.insn 6 fun s =>
        let ad := (s.r a).toNat
        let s := s.drainAll
        let cw := (s.memWord (ad + 12)).toNat
        if !(ad % 4 == 0 && inData ad 16 && cw % 4 == 0 && inData cw 4) then
          s.modBank fun k => { k.put d 0xFFFFFFFF with n := true, z := false }
        else
          let s := s.moveStart i (s.memWord ad).toNat (s.memWord (ad + 4)).toNat (s.memWord (ad + 8)).toNat cw
          s.modBank fun k => { k.put d (BitVec.ofNat 32 i.val) with n := false, z := i == 0 })

/-- The words of the source, each read as the issuing context reads it (R26, R8), and the state after those reads. -/
def State.moveRead (s : State) (req a : Nat) : Nat → State × List Byte
  | 0 => (s, [])
  | n + 1 =>
    let w := s.peek req a
    let sr := (s.touch req a (BitVec.allOnes 32)).moveRead req (a + 4) n
    let s' := sr.1
    let bs := sr.2
    (s', leBytes 4 w.toNat ++ bs)

/-- R284: the move on channel `i` ends: DONE behind all its data, or ERROR where it met a fabric fault. Bytes that the program stored
to meanwhile are left undefined (R285). -/
def execBlockMoveComplete (i : Fin 4) (flt : FabFault) (s : State) : Out :=
  if !s.online then .next s else
  match s.eng.moves[i.val] with
  | none => .next s
  | some m =>
    let s := s.modEng fun e => { e with moves := e.moves.set i.val none }
    match flt with
    | .none =>
      let sr := s.moveRead m.ctx.val m.src (m.len / 4)
      let s := sr.1
      let bs := sr.2
      let s := (s.setBytes m.dst bs).forAll m.hit fun s h =>
        s.scramble (max h.1 m.dst) (min (h.1 + h.2) (m.dst + m.len) - max h.1 m.dst)
      .next (s.setWord m.cw (completion 1 0 m.tag))
    | f =>
      let err : BitVec 6 := if f = .ecc then 1 else 2
      let ad := (if s.freeNat % 2 = 0 then m.src else m.dst) + s.freeNat / 2 % m.len
      .next ((s.used.moveError.fabFault f 2 (BitVec.ofNat 32 ad)).setWord m.cw (completion 2 err m.tag))

end Sys2Proof.Machine
end

