-- ==== Sys2Proof/Machine/FilifTag.lean ====
section
/-! DEFINITION. The tagged-instance operations of Form D (R310 to R321). -/

namespace Sys2Proof.Machine

/-- Bit `i` of a word set to `v`. -/
def setBit (w : Word) (i : Nat) (v : Bool) : Word := if v then w ||| (1#32 <<< i) else w &&& ~~~(1#32 <<< i)

/-- R344, R434: the forced field of an instance takes the forced value (codes 1 Q, 2 RISE, 3 FALL, 4 CV, 5 OUT) (DEDUCED, log 29). -/
def Force.apply (f : Force) (q : Quad) : Quad :=
  let v := f.value.getLsbD 0
  match f.type, f.field.toNat with
  | .sr, 1 => { q with w0 := setBit q.w0 0 v }
  | .rs, 1 => { q with w0 := setBit q.w0 0 v }
  | .edge, 2 => { q with w0 := setBit q.w0 1 v }
  | .edge, 3 => { q with w0 := setBit q.w0 2 v }
  | .ctud, 4 => { q with w1 := f.value }
  | .ramp, 5 => { q with w1 := f.value }
  | k, 1 => if k.isTimer then { q with w3 := setBit q.w3 25 v } else q
  | _, _ => q

/-- A counter's state, Table 12-3. -/
structure Counter where
  pv : Word
  cv : Word
  cu : Bool
  cd : Bool
  deriving DecidableEq, Repr

/-- A counter read from its bytes. -/
def Counter.of (q : Quad) : Counter := { pv := q.w0, cv := q.w1, cu := q.w2.getLsbD 0, cd := q.w2.getLsbD 1 }

/-- QU: CV ≥ PV. -/
def Counter.qu (c : Counter) : Bool := decide (c.pv.toNat ≤ c.cv.toNat)

/-- QD: CV = 0. -/
def Counter.qd (c : Counter) : Bool := c.cv == 0

/-- A counter's bytes, QU and QD brought up to date (R319). -/
def Counter.quad (c : Counter) : Quad :=
  { w0 := c.pv, w1 := c.cv, w2 := putB c.cu 0 ||| putB c.cd 1 ||| putB c.qu 2 ||| putB c.qd 3 }

/-- R345, R346: the state of an instance as it is written back: its forces act, except under the holding image. -/
def Engine.writeBack (e : Engine) (t : BitVec 14) (k : TagType) (q : Quad) : Quad :=
  if e.sys.mode.factory then q else
  let q' := (e.forces.filter fun f => f.tag == t && f.type == k).foldl (fun q f => f.apply q) q
  if k = .ctud then (Counter.of q').quad else q'

/-- R312, R313, R345: an operation on an instance whose type it accepts: `f` gives the new state, and `g` what the context's bank
takes from the state as written. On any other tag the word is illegal. -/
def State.tagOp (s : State) (t : BitVec 14) (accepts : TagType → Bool) (f : TagType → State → Quad → Quad)
    (g : State → Quad → Bank → Bank) : State :=
  match s.eng.tag t with
  | some d =>
    if accepts d.type then
      s.insn 4 fun s =>
        let s := s.drainAll
        let q := s.eng.writeBack t d.type (f d.type s (s.quad t))
        ((s.hitMoves (tagAddr t) 16).setQuad t q).modBank (g s q)
    else s.illegal
  | none => s.illegal

/-- R317: the expiry of a run, step 1 of a TRUN. -/
def Timer.expire (t : Timer) (k : TagType) : Timer :=
  { t with run := false, acc := t.pt, q := k == .ton || k == .tonr }

/-- Table 12-6: the input rules, step 2 of a TRUN. -/
def Timer.input (t : Timer) (k : TagType) (x : Bool) (now : Nat) : Timer :=
  let go := { t with start := now % 2 ^ 56, acc := 0, run := true }
  match k, x with
  | .ton, true =>
    if !t.run && !t.q then (if t.pt = 0 then go.expire .ton else go) else t
  | .ton, false => { t with run := false, acc := 0, q := false }
  | .tof, true => { t with q := true, run := false, acc := 0 }
  | .tof, false =>
    if t.inp then (if t.pt = 0 then { go with q := false } else go) else t
  | .tp, true => if !t.inp && !t.run then { go with q := true } else t
  | .tp, false => if t.run then t else { t with acc := 0 }
  | .tonr, true => if !t.run && !t.q then { t with start := now % 2 ^ 56, run := true } else t
  | .tonr, false => if t.run then { t with acc := t.et now, run := false } else t
  | _, _ => t

/-- R317: one TRUN. -/
def Timer.trun (t : Timer) (k : TagType) (x : Bool) (now : Nat) : Timer :=
  let t := if t.run && decide (t.pt ≤ t.et now) then t.expire k else t
  { t.input k x now with inp := x }

/-- An operation that leaves its context's bank as it is. -/
def keepBank (_ : State) (_ : Quad) (k : Bank) : Bank := k

/-- R317: TRUN: Ld = ET, B = Q. -/
def execTrun (d : Reg) (tag : BitVec 14) (s : State) : Out :=
  .next (s.tagOp tag TagType.isTimer (fun k s q => ((Timer.of q).trun k s.bank.b s.nowUs).quad) fun s q b =>
    let t := Timer.of q
    { b.put d (BitVec.ofNat 32 (t.et s.nowUs)) with b := t.q })

/-- R317: TPRE: PT = Ld. -/
def execTpre (d : Reg) (tag : BitVec 14) (s : State) : Out :=
  .next (s.tagOp tag TagType.isTimer (fun _ s q => ({ Timer.of q with pt := (s.r d).toNat } : Timer).quad) keepBank)

/-- R317: TRES: ACC, RUN and Q become 0. -/
def execTres (tag : BitVec 14) (s : State) : Out :=
  .next (s.tagOp tag TagType.isTimer (fun _ _ q => ({ Timer.of q with acc := 0, run := false, q := false } : Timer).quad) keepBank)

/-- R318: the evaluation of an edge detector. -/
def edgeEval (x : Bool) (q : Quad) : Quad :=
  let prev := q.w0.getLsbD 0
  { w0 := putB x 0 ||| putB (x && !prev) 1 ||| putB (!x && prev) 2 }

/-- R318: EDR: B = RISE. -/
def execEdr (tag : BitVec 14) (s : State) : Out :=
  .next (s.tagOp tag (· == .edge) (fun _ s q => edgeEval s.bank.b q) fun _ q k => { k with b := q.w0.getLsbD 1 })

/-- R318: EDF: B = FALL. -/
def execEdf (tag : BitVec 14) (s : State) : Out :=
  .next (s.tagOp tag (· == .edge) (fun _ s q => edgeEval s.bank.b q) fun _ q k => { k with b := q.w0.getLsbD 2 })

/-- R318: EDLF: the FALL of the last evaluation; reserved bits are written back as zero (R313). -/
def execEdlf (tag : BitVec 14) (s : State) : Out :=
  .next (s.tagOp tag (· == .edge) (fun _ _ q => { w0 := q.w0 &&& 7 }) fun _ q k => { k with b := q.w0.getLsbD 2 })

/-- R319: one counter operation: Ld takes CV; `b` is B after it, where it changes B. -/
def State.counterOp (s : State) (d : Reg) (tag : BitVec 14) (f : Bool → Counter → Counter) (b : Option (Counter → Bool)) : State :=
  s.tagOp tag (· == .ctud) (fun _ s q => (f s.bank.b (Counter.of q)).quad) fun _ q k =>
    let c := Counter.of q
    match b with
    | some g => { k.put d c.cv with b := g c }
    | none => k.put d c.cv

/-- R319: CCU. -/
def execCcu (d : Reg) (tag : BitVec 14) (s : State) : Out :=
  .next (s.counterOp d tag (fun x c => { c with cv := if x && !c.cu then satInc c.cv else c.cv, cu := x }) (some Counter.qu))

/-- R319: CCD. -/
def execCcd (d : Reg) (tag : BitVec 14) (s : State) : Out :=
  .next (s.counterOp d tag (fun x c => { c with cv := if x && !c.cd && c.cv != 0 then c.cv - 1 else c.cv, cd := x }) (some Counter.qd))

/-- R319: CLOAD. -/
def execCload (d : Reg) (tag : BitVec 14) (s : State) : Out :=
  .next (s.counterOp d tag (fun x c => if x then { c with cv := c.pv } else c) none)

/-- R319: CRES. -/
def execCres (d : Reg) (tag : BitVec 14) (s : State) : Out :=
  .next (s.counterOp d tag (fun x c => if x then { c with cv := 0 } else c) none)

/-- R319: CPRE: PV = Ld; Ld is read, not written. -/
def execCpre (d : Reg) (tag : BitVec 14) (s : State) : Out :=
  .next (s.tagOp tag (· == .ctud) (fun _ s q => ({ Counter.of q with pv := s.r d } : Counter).quad) keepBank)

/-- R320: the latch's new Q. -/
def levEval (k : TagType) (x r q : Bool) : Bool := if k = .sr then x || (q && !r) else !r && (x || q)

/-- R320: LEV: S = B, R = Ld[0]. -/
def execLev (d : Reg) (tag : BitVec 14) (s : State) : Out :=
  .next (s.tagOp tag (fun k => k == .sr || k == .rs)
    (fun k s q => { w0 := putB (levEval k s.bank.b ((s.r d).getLsbD 0) (q.w0.getLsbD 0)) 0 })
    fun _ q k => { k with b := q.w0.getLsbD 0 })

/-- R321: RTGT. -/
def execRtgt (d : Reg) (tag : BitVec 14) (s : State) : Out :=
  .next (s.tagOp tag (· == .ramp) (fun _ s q => { q with w0 := s.r d }) keepBank)

/-- R321: RRATE. -/
def execRrate (d : Reg) (tag : BitVec 14) (s : State) : Out :=
  .next (s.tagOp tag (· == .ramp) (fun _ s q => { q with w2 := s.r d }) keepBank)

/-- R321: the ramp's evaluation at low word of now `now`. -/
def rampRun (q : Quad) (now : Word) : Quad :=
  let tgt := q.w0.toInt
  let out := q.w1.toInt
  let rate := q.w2.toNat
  if rate = 0 ∨ out = tgt then { q with w1 := q.w0, w3 := now }
  else
    let dt := (now - q.w3).toNat
    let k := rate * dt / 1000000
    if (tgt - out).natAbs ≤ k then { q with w1 := q.w0, w3 := now }
    else { q with w1 := BitVec.ofInt 32 (if out < tgt then out + k else out - k), w3 := q.w3 + BitVec.ofNat 32 (k * 1000000 / rate) }

/-- R321: RRUN: Ld = OUT, B = 1 if OUT = TGT. -/
def execRrun (d : Reg) (tag : BitVec 14) (s : State) : Out :=
  .next (s.tagOp tag (· == .ramp) (fun _ s q => rampRun q (BitVec.ofNat 32 s.nowUs)) fun _ q k => { k.put d q.w1 with b := q.w1 == q.w0 })

/-- R321: RSET of TAG: OUT = Ld, LAST = now. -/
def execRampRset (d : Reg) (tag : BitVec 14) (s : State) : Out :=
  .next (s.tagOp tag (· == .ramp) (fun _ s q => { q with w1 := s.r d, w3 := BitVec.ofNat 32 s.nowUs }) keepBank)

/-- R313: TADR: the address of the instance, 1 cycle. -/
def execTadr (d : Reg) (tag : BitVec 14) (s : State) : Out :=
  .next (match s.eng.tag tag with
    | some _ => s.bankOp 1 fun k => k.put d (BitVec.ofNat 32 (tagAddr tag))
    | none => s.illegal)

end Sys2Proof.Machine
end

