-- ==== Sys2Proof/Machine/JournalCmd.lean ====
section
/-! DEFINITION. The commands of the journal and of Bathawin telegrams (chapters 14 and 15). -/

namespace Sys2Proof.Machine

/-- R358: CMJ.CTL.TAKE. -/
def execTake (s : State) : Out :=
  if !s.online then .next s else .next s.take

/-- R359: a write of CMJ.RES. -/
def execCmjRes (w : Word) (s : State) : Out :=
  if !s.online then .next s else .next (s.result w)

/-- NET.BWREJ changed. -/
def State.bwReject (s : State) (f : NetBwrej → NetBwrej) : State :=
  { s with net := { s.net with reg := { s.net.reg with bwrej := f s.net.reg.bwrej } } }

/-- R382, check 1: what follows the carrier head is a COMMAND telegram of the right form; on SG it may be padded (R379). -/
def formatOk (sg : Bool) (b : List Byte) : Bool :=
  let t := b.drop 4
  let rest := t.drop 36
  b.take 4 == carrierHead && decide (36 ≤ t.length) && (rest.isEmpty || (sg && rest.all (· == 0) && decide (b.length ≤ 46)))
    && beNat (bytesAt t 0x0E 2) == 12 && bytesAt t 0x0C 2 == [1, 1] && bytesAt t 0x12 2 == [0, 0]

/-- R383: the source time of a telegram lies within its bounds. -/
def State.timeOk (s : State) (stime : Nat) : Bool :=
  let age := signOf 32 (s.calUs + 2 ^ 32 - stime)
  let st := s.tim.src.state
  (st == .ptp || st == .sync || st == .holdover)
    && decide (-10000 ≤ age ∧ age ≤ ((s.net.reg.bw.expect.toNat * 1000 : Nat) : Int))

/-- R382: a Porvar frame's payload on SG, or a datagram to the telegram port on TN, is checked and judged. -/
def State.telegramIn (s : State) (sg : Bool) (b : List Byte) : State :=
  let t := b.drop 4
  let conn : Word := BitVec.ofNat 32 (beNat (bytesAt t 0 4))
  let body := t.take 28
  let kind : Byte := (bytesAt t 0x10 1).headD 0
  if b.headD 0 ≠ 0x42 then s.dropFrame
  else if !formatOk sg b then s.bwReject fun r => { r with format := satInc r.format }
  else if !(beNat (bytesAt t 28 4) == codeA conn body && beNat (bytesAt t 32 4) == codeH conn body) then
    s.bwReject fun r => { r with code := satInc r.code }
  else if !s.timeOk (beNat (bytesAt t 8 4)) then s.bwReject fun r => { r with time := satInc r.time }
  else if reservedKind kind then s.bwReject fun r => { r with kind := satInc r.kind }
  else
    s.commandIn
      { connid := conn, tseq := BitVec.ofNat 32 (beNat (bytesAt t 4 4)), kind := kind, target := (bytesAt t 0x11 1).headD 0,
        source := if sg then .sg else .tn, arg := BitVec.ofNat 32 (beNat (bytesAt t 0x14 4)),
        expms := BitVec.ofNat 32 (beNat (bytesAt t 0x18 4)) }

/-- R382: a telegram that duplicate discard has passed. -/
def execTelegramReceive (sg : Bool) (b : List Byte) (s : State) : Out :=
  if !s.online then .next s else .next (s.telegramIn sg b)

/-- R28, R351: the oldest journal write ends, with the confirmation of each MRAM device. -/
def execJournalWriteComplete (ok0 ok1 : Bool) (s : State) : Out :=
  if !s.online then .next s else
  if s.jnl.writes.isEmpty then .next s else .next (s.writeDone ok0 ok1)

/-- R359: a delivered entry has had no result for 60 s. -/
def execDeliveryTimeout (s : State) : Out :=
  if !s.online then .next s else
  match s.jnl.delivered with
  | some e => .next ((s.upTo (e.at_ + sec 60)).outcome e false 6)
  | none => .next s

/-- R360: the entry whose SENT was set first is freed, 60 s after. -/
def execEntryFree (s : State) : Out :=
  if !s.online then .next s else
  let done := s.jnl.entries.filter fun e => e.sent
  match done.find? fun e => done.all fun q => decide (e.at_ ≤ q.at_) with
  | some e => .next ((s.upTo (e.at_ + sec 60)).modJnl fun j => { j with entries := j.entries.filter fun q => q.jseq != e.jseq })
  | none => .next s

/-- Table 15-9: the safe data of STATUS, from the status window. -/
def State.statusData (s : State) : List Byte :=
  let side := s.safe.window[1]
  let mode := s.safe.window[0]
  leBytes 1 side.toNat ++ leBytes 1 (side.toNat / 256) ++ leBytes 1 (mode.toNat % 32) ++ [0] ++ beBytes 2 (getF mode 16 16).toNat ++ [0, 0]

/-- R385: a STATUS telegram is due. `codeh`: the CODEH that Hinge computed over its view of the exchange, where it has arrived. -/
def execStatusTelegramSend (codeh : Option Word) (s : State) : Out :=
  if !s.online then .next s else
  let on := s.safe.linkUp && !s.safe.a.silent && !s.safe.h.silent && !s.safe.aReset
  let mod := fun (s : State) (f : NetBwst → NetBwst) => { s with net := { s.net with reg := { s.net.reg with bwst := f s.net.reg.bwst } } }
  if !on then .next (mod s fun r => { r with sending := false }) else
  let s := s.upTo (s.net.bwAt + ms s.net.reg.bw.sper.toNat)
  let s := mod { s with net := { s.net with bwAt := s.mono } } fun r => { r with sending := true }
  if codeh.isNone then .next s else
  let conn := s.net.reg.bwsconn
  let n := s.net.bwSeq
  let s := (s.sendTelegram true conn n 5 s.statusData codeh).sendTelegram false conn n 5 s.statusData codeh
  let s := { s with net := { s.net with bwSeq := n + 1 } }
  .next (if n + 1 = 0 then (mod s fun r => { r with wrap := true }).event 0x64 moduleUnit 0 else s)

end Sys2Proof.Machine
end

