-- ==== Sys2Proof/Machine/NetOps.lean ====
section
/-! DEFINITION. Network operations: calendar corrections, redundant paths, the twin's state, mailboxes (R22 to R24, R373 to R391). -/

namespace Sys2Proof.Machine

/-- The network engine changed. -/
def State.modNet (s : State) (f : Network → Network) : State := { s with net := f s.net }

/-- The NET registers changed. -/
def State.modNetReg (s : State) (f : Net → Net) : State := s.modNet fun n => { n with reg := f n.reg }

/-- TIM.SRC changed. -/
def State.modSrc (s : State) (f : TimSrc → TimSrc) : State := { s with tim := { s.tim with src := f s.tim.src } }

/-! ### Calendar time (R22 to R24) -/

/-- Calendar time set to `new` ns from now on, with no correction left to slew. -/
def State.setCal (s : State) (new : Nat) : State := { s with calBase := new, calAt := s.mono, slew := 0 }

/-- R24: calendar time is stepped: TIM.SRC.STEPPED and a CLOCK-STEP record, whose header bears the new time (R406). -/
def State.stepCal (s : State) (new : Nat) : State :=
  let old := s.calNow
  let s := (s.setCal new).modSrc fun t => { t with stepped := true }
  s.record 2 (leBytes 8 old ++ leBytes 8 new ++ leBytes 1 s.tim.src.state.code.toNat ++ List.replicate 7 0)

/-- R24: a correction by `d` ns: slewed up to 1 ms, in place of what was still to be slewed; else stepped. -/
def State.correctCal (s : State) (d : Int) : State :=
  if d.natAbs ≤ 1000000 then { s.setCal s.calNow with slew := d } else s.stepCal (s.calNow + d).toNat

/-- R22: the frequency correction that discipline finds: the spec does not say how it is computed, so it is a free value within MCLK's
±50 ppm (R16) (DESIGN CHOICE, log 74). -/
def State.tune (s : State) : State := { s.used with calPpb := clampInt (-50000) 50000 (Config.freeInt s.freeSeq) }

/-- R22: calendar time runs on MCLK alone from now on; what is still to be slewed stays (log 74). -/
def State.runFree (s : State) : State :=
  { s with calBase := s.calNow, calAt := s.mono, slew := s.slew - slewed s.slew (ticksNs (s.mono - s.calAt)), calPpb := 0 }

/-- R22: entry to HOLDOVER; the last frequency correction stays. -/
def State.holdover (s : State) : State :=
  (s.modSrc fun t => { t with state := .holdover }).modNet fun n => { n with holdAt := s.mono }

/-! ### Redundant paths (R373, R374) -/

/-- R374: the state of a path of NET.RED changes, with its event bit and its record. -/
def State.pathSet (s : State) (k : Fin 6) (up : Bool) : State :=
  if s.net.reg.red.getLsbD k.val = up then s else
  (s.modNetReg fun r => { r with red := putBit r.red k.val up, redevt := putBit r.redevt k.val true }).event 0x61 k.val 0 up.toNat

/-- The pair of a path: TN, XL, SG. -/
def pairOf (k : Fin 6) : Fin 3 := ⟨k.val / 2, by omega⟩

/-- R373: this frame is the second copy of one kept less than 400 ms ago. -/
def State.duplicateFrame (s : State) (k : Fin 6) (mac : BitVec 48) (seq : BitVec 16) : Bool :=
  s.net.seen.any fun e => pairOf e.1 == pairOf k && e.2.1 == mac && e.2.2.1 == seq && decide (s.since e.2.2.2 < ms 400)

/-- R373: the copy of a frame that is kept: the first, or path A's of two in one tick (Table 15-12), which hold the same bytes. -/
def State.keepFrame (s : State) (k : Fin 6) (mac : BitVec 48) (seq : BitVec 16) : State :=
  s.modNet fun w =>
    { w with seen := if s.duplicateFrame k mac seq then
        w.seen.map (fun e =>
          if pairOf e.1 == pairOf k && e.2.1 == mac && e.2.2.1 == seq && e.2.2.2 == s.mono && k.val % 2 == 0 then (k, e.2) else e)
      else (k, mac, seq, s.mono) :: w.seen.filter (fun e => decide (s.since e.2.2.2 < ms 400)) }

/-! ### The PTP master (R377) -/

/-- The order of the best master clock algorithm: the lower is better. -/
def PtpMaster.rank (m : PtpMaster) : Nat :=
  (m.prio1 ++ m.cls ++ m.acc ++ m.variance ++ m.prio2 ++ m.ident ++ m.steps ++ m.sender).toNat

/-- The masters of NET.PTP.DOMAIN heard within the announce receipt timeout: 3 announce intervals of 2 s in the default profile
(PRESUMED, log 118). -/
def State.masters (s : State) : List PtpMaster :=
  (s.net.masters.filter fun e => e.1 == s.net.reg.ptp.domain && decide (s.since e.2.2 < sec 6)).map fun e => e.2.1

/-- R377: the master that the best master clock algorithm chooses. -/
def State.master (s : State) : Option PtpMaster :=
  s.masters.foldl (fun b m => match b with
    | some q => if PtpMaster.rank m < PtpMaster.rank q then some m else b
    | none => some m) none

/-- R21, R377: an announce message: its master is known from now on; the chosen master gives the UTC offset. -/
def State.announced (s : State) (domain : Byte) (m : PtpMaster) (utc : BitVec 16) : State :=
  let others := s.net.masters.filter fun e => !(e.1 == domain && e.2.1.sender == m.sender) && decide (s.since e.2.2 < sec 6)
  let s := s.modNet fun w => { w with masters := (domain, m, s.mono) :: others }
  if domain = s.net.reg.ptp.domain ∧ s.master = some m then { s with tim := { s.tim with utcofs := { seconds := utc, valid := true } } } else s

/-! ### Twin (R388) -/

/-- R388: a change of the twin's state: NET.TWIN.CHG and a TWIN record. -/
def State.twinSet (s : State) (t : TwinState) : State :=
  if s.net.reg.twin.state = t then s else
  (s.modNetReg fun r => { r with twin := { r.twin with state := t, chg := true } }).event 0x63 moduleUnit t.code.toNat

/-! ### Mailboxes (R389, R390) -/

/-- R389: mailbox `m` is an enabled receive mailbox of the link whose filter the message matches. -/
def State.mbMatch (s : State) (m : Fin 64) (l : MbLink) (word0 : Word) (dst : BitVec 16) : Bool :=
  let g := s.net.reg.mbcfg[m.val]
  g.en && !g.dir && MbLink.ofCode g.link == some l
    && (match l with
      | .can _ =>
        ((getF word0 0 29 &&& s.net.reg.mbmsk[m.val]).setWidth 32 == s.net.reg.mbid[m.val]) && g.ext == word0.getLsbD 29
      | .udp => dst.setWidth 16 == (s.net.reg.mbid[m.val]).setWidth 16
      | .xl | .ser _ => true)

/-- R389: a received message is filed in the lowest mailbox that takes it, or dropped; an arrival triggers its call-out. -/
def State.mbArrive (s : State) (l : MbLink) (dst : BitVec 16) (g : Msg) : State :=
  match (List.finRange 64).find? fun m => s.mbMatch m l g.word0 dst with
  | none => s.dropFrame
  | some m =>
    let n := (s.net.mbox[m.val]).queue.length
    if 16 ≤ n then s.modMbox m fun b => { b with ovf := true, dropped := satInc b.dropped }
    else (s.modMbox m fun b => { b with queue := b.queue ++ [g] }).callout (BitVec.ofNat 16 (0x0C00 + m.val))
      (BitVec.ofNat 32 (m.val + 256 * (n + 1))) false true

/-- R364, R387, NET.CANi, NET.SERi: what a link takes part in: a CAN or RS-485 channel that is enabled, CAN FD frames where they are
allowed, XL while the twin exchange is on. -/
def Net.takes (n : Net) (l : MbLink) (word0 : Word) : Bool :=
  match l with
  | .udp => true
  | .xl => n.twin.en
  | .can i => (vget n.can i.val {}).en && (!word0.getLsbD 30 || (vget n.can i.val {}).fd)
  | .ser i => (vget n.ser i.val {}).en

/-- R389: a message on a link, under the word 0 that it came with: CAN by its identifier word, UDP by its ports. -/
def State.messageIn (s : State) (l : MbLink) (word0 : Word) (dst src : BitVec 16) (b : List Byte) : State :=
  if !s.net.reg.takes l word0 then s.dropFrame else
  s.mbArrive l dst (match l with
    | .can _ => { word0 := word0, data := b }
    | .udp => { word0 := word0, port := src, data := b }
    | .xl | .ser _ => { word0 := 0, data := b })

/-- R387, R390: what leaves for a mailbox message: on XL a Porvar frame of PROTO 0x58, TYPE 0x02 with its data (DEDUCED, log 119). -/
def outputOf (m : Fin 64) (l : MbLink) (g : Msg) : Output :=
  match l with
  | .xl => .twin ([0x58, 0x02] ++ g.data)
  | _ => .message m.val g

/-- R390: what send mailboxes hold leaves on links that are up, one message a tick of each, in order. A CAN FD frame does not leave a
channel that allows none, and times out under R391 (DESIGN CHOICE, log 120). -/
def State.mbTick (s : State) : State :=
  s.forAll (List.finRange 64) fun s m =>
    match MbLink.ofCode (s.net.reg.mbcfg[m.val]).link, (s.net.mbox[m.val]).out with
    | some l, g :: gs =>
      if s.net.linkUp (s.net.reg.mbcfg[m.val]).link && s.net.reg.takes l g.1.word0 then
        (s.modMbox m fun b => { b with out := gs }).send (outputOf m l g.1)
      else s
    | _, _ => s

end Sys2Proof.Machine
end

