-- ==== Sys2Proof/Machine/LandOps.lean ====
section
/-! DEFINITION. Verification of an image and the switch to it (R335 to R342, R347). -/

namespace Sys2Proof.Machine

/-! ### Verification (Table 13-5) -/

/-- Code 5, TARGET. -/
def State.targetOk (s : State) (c : Container) : Bool :=
  let id := s.eng.sys.id
  wordAt c 0x18 == 0x6448#32 && (wordAt c 0x1C).getLsbD id.variant.toNat && decide ((wordAt c 0x20).toNat ≤ id.fwver.toNat)

/-- The first of some checks that fails, by its code; 0 where every one passes. -/
def firstFail : List (Nat × Bool) → Nat
  | [] => 0
  | (n, ok) :: l => if ok then firstFail l else n

/-- R336: codes 1 to 5, as the boot ROM runs them on ACTIVE (DEDUCED, log 68). -/
def State.bootCode (s : State) (c : Container) : Nat :=
  firstFail [(1, c.formatOk), (2, c.checkOk), (3, c.sigOk s.tru.anchors[0]), (4, c.safeSigOk s.tru.anchors[1]), (5, s.targetOk c)]

/-- R335: Table 13-5 in order. -/
def State.verifyCode (s : State) (c : Container) : Nat :=
  let t := s.trial c
  let n := s.bootCode c
  if n ≠ 0 then n else
  firstFail [(6, decide (s.tru.rbimg.toNat ≤ c.rollback.toNat)), (7, c.sizeOk),
    (8, c.tagsOk && t.inputPrioOk (declsOf (c.sect 3))),
    (9, paramRecsOk (c.sect 4) && safeRecsOk (c.sect 5) && t.paramOk), (10, (safeParOf (Container.sect c 5)).ok)]

/-! ### Program and configuration of an image -/

/-- The engine takes what the image declares and holds: code, entry point, data, tags and call-outs. -/
def Engine.loadImage (e : Engine) (c : Container) : Engine :=
  { e with code := c.sect 1, entry := wordAt c 0x10, data0 := c.sect 2, tags := tagsOf (c.sect 3), decls := declsOf (c.sect 3) }

/-- R254: the output side holds the SAFE bits. -/
def State.holdSafe (s : State) : State := { s with fio := { s.fio with safeHeld := s.fio.reg.focfg.safe } }

/-! ### Tagged state across a switch (R341, R342, R347) -/

/-- R341: NEWPRE takes the preset alone from INIT: PT of timers, PV of CTUD, RATE of RAMP. -/
def Quad.newPreset (q init : Quad) (k : TagType) : Quad :=
  match k with
  | .ramp => { q with w2 := init.w2 }
  | _ => { q with w0 := init.w0 }

/-- R341: the state of a tag of the new image. -/
def State.mapTag (s : State) (old : List TagDecl) (d : TagDecl) : Quad :=
  if old.any fun o => o.tag == d.tag && o.type == d.type then
    let q := s.quad d.tag
    if d.newpre then q.newPreset d.init d.type else q
  else d.init

/-- R340, R341: the data range and the instances after a switch from the image with the tags `old`. -/
def State.switchData (s : State) (old : List TagDecl) (keep : Bool) : State :=
  let qs := s.eng.tags.map fun d => (d.tag, s.mapTag old d)
  let s := if keep then s else ({ s with mem := Mem.clear s.mem dataBase dataEnd }).setBytes dataBase s.eng.data0
  let s := s.forAll qs fun s e => s.setQuad e.1 e.2
  s.modEng fun e => { e with retained := e.retained.filter fun r => e.tags.any fun d => d.tag == r.tag }

/-- R342: pending call-outs under the new declarations. -/
def Engine.mapPending (e : Engine) : Engine :=
  let gone := (e.pend.filter fun p => (e.decl p.num).isNone).length
  { e with pend := e.pend.filterMap fun p => (e.decl p.num).map fun d => { p with prio := d.prio }
           sys := { e.sys with cocnt := { e.sys.cocnt with undecl := satNat 16 (e.sys.cocnt.undecl.toNat + gone) } } }

/-- R347: forces whose tag does not survive with its type are dropped, each with its record. -/
def State.dropForces (s : State) : State :=
  let keeps := fun f : Force => s.eng.tags.any fun d => d.tag == f.tag && d.type == f.type
  let gone := s.eng.forces.filter fun f => !keeps f
  let s := s.modEng fun e => { e with forces := e.forces.filter keeps }
  let s := s.forAll gone fun s f => s.event 0x14 f.tag.toNat f.type.code.toNat f.value.toNat
  if gone.isEmpty then s else s.modLnd fun l => { l with reg := { l.reg with frc := true } }

/-! ### What the new fields change at the switch -/

/-- R129, R131, R133: the lines of a position output in its mode: a pass-through repeats the pins of its axis; a compare output keeps a
pulse in progress; every other line is low, in the reserved mode 0b11 too, which acts as off (DESIGN CHOICE, log 109). `same`: the
output was in compare mode before. -/
def State.outputSet (s : State) (p : PortalIx) (same : Bool) : State :=
  let c := (s.portal p).po.pocfg
  let x := s.axis (finMod 64 c.psrc.toNat)
  let l : BitVec 3 := if c.mode = 1 then (if c.plines then x.rawHall else x.rawAbz) else 0
  s.modPortal p fun q =>
    let on := c.mode == 2 && same && q.po.postat.active
    { q with pa := l.getLsbD 0 || on, pb := l.getLsbD 1, pz := l.getLsbD 2
             po := { q.po with postat := { q.po.postat with active := on } } }

/-- The lines of a position output at a start. -/
def State.outputLines (s : State) (p : PortalIx) : State := s.outputSet p false

/-- The axis `x` after its configuration changed from `r` and `f` (Table 4-4, R149). An axis that loses its trust stops (Table 3-5), and
R85 no longer restores it. The serial format is SERMODE, ERREN, FBK.SER and FBK.SERCRC; CAUSE shows 0 (DESIGN CHOICE, log 88). -/
def Axis.reconfigure (x : Axis) (r : Axc) (f : Fbk) (fitted : Bool) : Axis :=
  let ser := f.cfg.sermode != x.fb.cfg.sermode || f.cfg.erren != x.fb.cfg.erren || f.ser != x.fb.ser
    || f.sercrc != x.fb.sercrc
  let lost := fitted && (f.cfg.src != x.fb.cfg.src || r.scale != x.reg.scale || f.hcnt != x.fb.hcnt || f.sofs != x.fb.sofs || ser)
  let x := if lost then { (x.stop 0 0).setTrust .untrusted with serGood := false, serNew := none, serOld := none, wakeTest := false } else x
  if r.scale != x.reg.scale || r.fmapcfg.cell != x.reg.fmapcfg.cell then
    { x with reg := { x.reg with fmap := Vector.replicate 64 {} } } else x

/-- R45, R98, R175: portal `p` after its fields changed from those of `o`. A changed travel table gives G from the positions as they stand,
also while a leaf of an isolated portal is UNTRUSTED and R47 would hold G (DESIGN CHOICE, log 79). -/
def State.reconfigurePortal (o s : State) (p : PortalIx) : State :=
  let r := (o.portal p).reg
  let n := (s.portal p).reg
  let s := s.modelCheck p
  let s := if kerfChange (o.krf p).reg (s.krf p).reg then ((s.modelDrop p).learnRequest p).kerfSync p else s
  let s :=
    if r.cfg.kerffit && !n.cfg.kerffit then
      ((s.kerfClose p).modFel fun f =>
        { f with hstat := { on := bit16 f.hstat.on p.val false, wait := bit16 f.hstat.wait p.val false } }).modPwr fun w =>
        { w with shed := bit16 w.shed p.val false, retryAt := w.retryAt.set p.val none }
    else if !r.cfg.kerffit && n.cfg.kerffit then (s.headWait p).kerfOpen p (s.portal p).g
    else s
  if r.ptspan != n.ptspan || r.ptrava != n.ptrava || r.ptravb != n.ptravb then
    let g := s.gapNow p
    ((s.modPortal p fun q => { q with g := g, reg := { q.reg with gap := gapUnits g } }).modKerf p fun k =>
      { k with gmax := max k.gmax (gapUnits g).toNat }).armGaps p
  else s

/-- R465: requests for units that are no longer fitted are dropped. -/
def State.dropRequests (s : State) : State :=
  let s := s.forAll allAxes fun s a =>
    if s.fitted a then s else s.modAxis a fun x => { x.setCal .idle with calAt := none, lowSide := false, startCal := false, calPend := false }
  let s := s.forAll allChans fun s c =>
    if (s.portal (chanPortal c)).fitted then s else s.modLs c fun x => x.modStat fun t => { t with olt := .idle }
  s.forAll allPortals fun s p =>
    if (s.portal p).fitted then s else s.modKerf p fun k => { k with learn := [] }.modStat fun t => { t with lrn := .idle }

/-- R388: with NET.TWIN.EN cleared there is no twin exchange, and STATE returns to none, without a record (DESIGN CHOICE, log 121). -/
def State.twinOff (s : State) : State :=
  if s.net.reg.twin.en then s else
  s.modNet fun w => { w with twinAt := none, twinRow := 0, reg := { w.reg with twin := { w.reg.twin with state := .idle } } }

/-- Mailboxes and datasets whose binding changed start empty (Table 15-12, R375). -/
def State.rebind (s o : State) : State :=
  let r := o.net.reg
  let n := s.net.reg
  let s := s.forAll (List.finRange 64) fun s m =>
    if r.mbcfg[m.val] != n.mbcfg[m.val] || r.mbid[m.val] != n.mbid[m.val] || r.mbmsk[m.val] != n.mbmsk[m.val] then
      s.modMbox m fun b => { b with queue := [], out := [] } else s
  s.modNet fun k => { k with pdi := Vector.ofFn fun i : Fin 8 => if r.pdi[i.val] != n.pdi[i.val] then { at_ := s.mono } else k.pdi[i.val] }

/-- Panels that take part from the switch on begin their exchange. -/
def State.newPanels (s o : State) : State :=
  s.modEng fun e => { e with plAt := Vector.ofFn fun p : Fin 16 =>
    if e.sys.plcfg.plen.getLsbD p.val && !o.eng.sys.plcfg.plen.getLsbD p.val then s.mono else e.plAt[p.val] }

/-- R259: inputs whose CLASS or FILT changed are so from now on. -/
def State.newInputs (s o : State) : State :=
  { s with fio := { s.fio with icfgAt := Vector.ofFn fun n : Fin 148 =>
    let a := o.fio.reg.icfg[n.val]; let b := s.fio.reg.icfg[n.val]
    if a.cls != b.cls || a.filt != b.filt then some s.mono else s.fio.icfgAt[n.val] } }

/-- What the configuration loaded into `s` changes against the one in `o`. -/
def State.reconfigure (s o : State) : State :=
  let s := s.forAll allAxes fun s a =>
    s.modAxis a fun x => x.reconfigure (o.axis a).reg (o.axis a).fb (o.fitted a || s.fitted a)
  let s := s.forAll allPortals (State.reconfigurePortal o)
  let s := s.forAll allPortals fun s p => s.outputSet p ((o.portal p).po.pocfg.mode == 2)
  let s := s.forAll allPortals State.movementEnd
  let s := (((s.dropRequests.twinOff).rebind o).newPanels o).newInputs o
  let s := if s.idleWindow then s else s.idleClose
  let s := (s.forAll allAxes State.bridgeEval).forAll allChans State.lsEval
  (s.headAdmit.sdeEval.zspEval).supplyJudge

/-! ### The switch (R339, R340) -/

/-- A switch may be taken now: in STOP, or at the end of an output phase (R339) (DEDUCED, log 69). -/
def State.switchPoint (s : State) : Bool :=
  match s.mode with
  | .stop => true
  | .run => s.eng.phase == .wait && s.mono == s.eng.outEnd && s.eng.atEnd && !s.eng.first && !s.eng.inCallout
  | .hold => false

/-- Roles rotate: LANDING becomes ACTIVE, ACTIVE PREVIOUS, and the old PREVIOUS is erased as LANDING (R333); the holding copy is
written (R338). -/
def Landing.rotate (l : Landing) : Landing :=
  let c := l.landing
  { l.cancel with active := c, previous := l.active, holding := some (Container.sect c 4, Container.sect c 5)
                  reg := { l.cancel.reg with swn := satInc l.reg.swn, stat := { l.cancel.reg.stat with fallbk := false } } }

/-- R340: a failed Hinge load: the previous image stays active, and REJECT reads 11. -/
def State.hingeReject (s : State) : State :=
  s.modLnd fun l => { l.modStat (fun t => { t with state := .rejected, reject := 11 }) with activate := false }

/-- R340: the switch to the image in LANDING. `echo`: Hinge's echo of the parameter set agrees, where a load is due. -/
def State.switch (s : State) (echo : Bool) : State :=
  let c := s.lnd.landing
  let q := safeParOf (Container.sect c 5)
  let factory := s.eng.sys.mode.factory
  let old := s.eng.tags
  let load := s.hingeChange (s.trial c)
  let t := if load then s.paramLoad q echo false (s.trial c).portalMap else s
  if load && !(q.ok && echo) then t.hingeReject else
  let n := (t.modLnd Landing.rotate).loadParam (Container.sect c 4)
  let n := (n.discardStaged.modEng fun e => (e.loadImage c).mapPending).holdSafe
  let n := (n.switchData old (Container.keepData c)).dropForces
  let n := (n.pass (us 400 + 16 * n.eng.tags.length)).reconfigure t
  let n := (n.modMode fun m => { m with factory := false }).modEng fun e =>
    { e with banks := Vector.replicate 5 {}, switched := true, wdStart := n.mono }
  if factory then (if n.mode = .run then n.enterRun true else n.coldLoad) else n

end Sys2Proof.Machine
end

