-- ==== Sys2Proof/Machine/LandCmd.lean ====
section
/-! DEFINITION. The events of landing: a verification ends, an image is switched in (chapter 13). -/

namespace Sys2Proof.Machine

/-- The OP of LAND-VERIFY (Table 17-9). -/
def opLandVerify : Nat := 0x0012

/-- R335: the verification that runs ends; a LAND-VERIFY that waits for it is answered. -/
def State.verified (s : State) : State :=
  if s.lnd.reg.stat.state ≠ .verifying then s
  else
    let n := s.verifyCode s.lnd.landing
    let by_ := s.lnd.verifier
    let s := s.modLnd fun l => { l with verifier := none }
    let s :=
      if n = 0 then s.modLnd fun l => l.modStat fun t => { t with state := .verified, reject := 0 }
      else (s.modLnd fun l => l.modStat fun t => { t with state := .rejected, reject := BitVec.ofNat 4 n }).event 0x12 moduleUnit n
    match by_ with
    | some (i, tag) => s.respond i opLandVerify tag .ok (leBytes 4 s.lndStat.toWord.toNat)
    | none => s

/-- R335: the end of a verification. -/
def execVerificationComplete (s : State) : Out :=
  if !s.online then .next s else .next s.verified

/-- R339, R340: an activated image is switched in where no hold reason is present. -/
def execImageSwitch (echo : Bool) (s : State) : Out :=
  if !s.online then .next s else
  .next (if s.lnd.activate && s.switchPoint && s.holdReasons == 0 then s.switch echo else s)

end Sys2Proof.Machine
end

