-- ==== Sys2Proof/Machine/NetCmd.lean ====
section
/-! DEFINITION. Network events: redundant frames and paths, process data, PTP and SYNC, the twin, mailboxes (chapter 15). -/

namespace Sys2Proof.Machine

/-- R364: an unsupported frame. -/
def execUnsupportedFrame (s : State) : Out :=
  if !s.online then .next s else .next s.dropFrame

/-- R376: a process dataset datagram: taken into its slot, or LENERR where its length is not the configured one. -/
def State.datasetIn (s : State) (b : List Byte) : State :=
  if b.length < 12 ∨ b.getD 0 0 ≠ 0x44 ∨ b.getD 1 0 ≠ 0x01 then s.dropFrame
  else
    let len := beNat (bytesAt b 2 2)
    let id := beNat (bytesAt b 4 2)
    match (List.finRange 8).find? fun n => (s.net.reg.pdi[n.val]).len != 0 && (s.net.reg.pdi[n.val]).id.toNat == id with
    | none => s
    | some n =>
      let ok := len == (s.net.reg.pdi[n.val]).len.toNat && decide (12 + len ≤ b.length)
      s.modNet fun w => { w with pdi := vmod w.pdi n.val fun d =>
        if ok then { data := bytesAt b 12 len, seq := BitVec.ofNat 32 (beNat (bytesAt b 8 4)), at_ := s.mono, valid := true }
        else { d with lenerr := true } }

/-- R388: a twin heartbeat from the twin whose TN port has this MAC address. -/
def State.heartbeatIn (s : State) (mac : BitVec 48) : State :=
  if !s.net.reg.twin.en then s
  else
    let row := match s.net.twinAt with | some t => if s.since t ≤ ms 300 then s.net.twinRow + 1 else 1 | none => 1
    let s := s.modNet fun w => { w with twinMac := some mac, twinAt := some s.mono, twinRow := row }
    let t := s.net.reg.twin.state
    if t = .idle ∨ 10 ≤ row then s.twinSet .up else s

/-- R365, R387: a Porvar frame on XL: a twin heartbeat, or a message for the mailboxes. -/
def State.twinFrame (s : State) (b : List Byte) : State :=
  if b.take 2 = [0x58, 0x01] ∧ 25 ≤ b.length then s.heartbeatIn (BitVec.ofNat 48 (beNat (bytesAt b 19 6)))
  else if b.take 2 = [0x58, 0x02] then s.messageIn .xl 0 0 0 (b.drop 2)
  else s.dropFrame

/-- R375, R379, R389: a UDP datagram on TN goes by its port: telegrams, process data, mailboxes. -/
def State.datagramIn (s : State) (dst : BitVec 16) (src : Word) (port : BitVec 16) (b : List Byte) : State :=
  if dst = s.net.reg.bwport then s.telegramIn false b
  else if dst = 20548 then s.datasetIn b
  else s.messageIn .udp src dst port b

/-- What the kept copy of a frame on path `k` does (Table 15-1). -/
def State.frameIn (s : State) (k : Fin 6) (f : PrpKind) : State :=
  match f, (pairOf k).val with
  | .announce domain m utc, 0 => s.announced domain m utc
  | .datagram dst src port b, 0 => s.datagramIn dst src port b
  | .porvar b, 1 => s.twinFrame b
  | .porvar b, 2 => s.telegramIn true b
  | .announce _ _ _, _ | .datagram _ _ _ _, _ | .porvar _, _ => s.dropFrame
  | .supervision _, _ | .other, _ => s

/-- R373, R374, R388: a frame arrives on path `k`, with its trailer's sequence where it has one. A supervision frame brings its path up;
the second copy of any other frame is discarded with all that it carries (DEDUCED, log 52). -/
def execPrpFrameReceive (k : Fin 6) (mac : BitVec 48) (seq : Option (BitVec 16)) (wlan : Bool) (f : PrpKind) (s : State) : Out :=
  if !s.online then .next s else
  let s := if wlan then s.modNetReg fun r => { r with err2 := { r.err2 with wlan := satInc r.err2.wlan } } else s
  let dup := match seq with | some n => s.duplicateFrame k mac n | none => false
  let s := match seq with | some n => s.keepFrame k mac n | none => s
  match f with
  | .supervision src =>
    let s := (s.modNet fun w => { w with supSeen := putBit w.supSeen k.val true }).pathSet k true
    .next (if (pairOf k).val = 0 then s.modNet fun w =>
      { w with sups := (src, s.mono) :: w.sups.filter fun e => e.1 != src && decide (s.since e.2 ≤ sec 4) } else s)
  | _ => .next (if dup then s else s.frameIn k f)

/-- R374: a supervision frame on each path whose link is up, every 2 s. -/
def execSupervisionSend (s : State) : Out :=
  if !s.online then .next s else
  let s := s.upTo (s.net.supAt + sec 2)
  .next ((s.modNet fun w => { w with supAt := s.mono }).forAll ((List.finRange 6).filter fun k => s.net.lup.getLsbD k.val)
    fun s k => s.send (.supervision k.val))

/-- R374: every 2 s each path is checked. -/
def execPathCheck (s : State) : Out :=
  if !s.online then .next s else
  let s := s.upTo (s.net.checkAt + sec 2)
  let bad := fun k : Fin 6 => !s.net.lup.getLsbD k.val || !s.net.supSeen.getLsbD k.val
  .next ((s.forAll ((List.finRange 6).filter bad) fun s k => s.pathSet k false).modNet fun w => { w with supSeen := 0, checkAt := s.mono })

/-- R368, R374: an Ethernet link comes up or goes down. A head's segments wait for its next status frame. -/
def execLinkStateChange (l : EthLink) (up : Bool) (s : State) : Out :=
  if !s.online then .next s else
  .next (match l with
    | .hl p =>
      (s.modNetReg fun r => { r with lnk := { r.lnk with hl := bit16 r.lnk.hl p.val up } }).modKerf p fun k =>
        { k with status := false, part := none }
    | .pl p => s.modNetReg fun r => { r with lnk := { r.lnk with pl := bit16 r.lnk.pl p.val up } }
    | .path k => s.modNet fun w => { w with lup := putBit w.lup k.val up }
    | .svc => s.modNet fun w => { w with svcUp := up })

/-! ### Process data (R375, R376) -/

/-- R376, Table 15-5: output dataset `n` is sent, from the output image in force. -/
def execPdOutputSend (n : Fin 8) (s : State) : Out :=
  if !s.online then .next s else
  let c := s.net.reg.pdo[n.val]
  if c.len = 0 then .next s
  else
    let s := s.upTo (s.net.pdoAt[n.val] + ms (10 * c.period.toNat))
    let head := [0x44, 0x01] ++ beBytes 2 c.len.toNat ++ beBytes 2 c.id.toNat ++ [0, 0] ++ beBytes 4 (s.eng.outCyc % 2 ^ 32)
    .next ((s.modNet fun w => { w with pdoAt := w.pdoAt.set n.val s.mono }).send
      (.dataset c.id (head ++ s.appliedBytes (0x2010 + 0x400 * n.val) c.len.toNat)))

/-- R376: a process dataset datagram that duplicate discard has passed. -/
def execPdInputReceive (b : List Byte) (s : State) : Out :=
  if !s.online then .next s else .next (s.datasetIn b)

/-- R375: no valid datagram for NET.HOLD: DATA to zero, LOST, and one PD-LOST record. It is judged once the tick of the expiry is over,
since a datagram of that tick governs (Table 15-12) (DESIGN CHOICE, log 125). -/
def execPdHoldExpiry (n : Fin 8) (s : State) : Out :=
  if !s.online then .next s else
  let c := s.net.reg.pdi[n.val]
  if c.len = 0 ∨ (s.net.pdi[n.val]).lost then .next s
  else
    let s := s.upTo ((s.net.pdi[n.val]).at_ + ms s.net.reg.hold.toNat + 1)
    .next ((s.modNet fun w => { w with pdi := vmod w.pdi n.val fun d => { d with data := [], lost := true, valid := false } }).event
      0x62 n.val 0 c.id.toNat)

/-! ### PTP and SYNC (R22 to R24, R377, R378) -/

/-- R377: path `k` of TN disciplines: path A while it delivers Sync, else path B. -/
def State.ptpPath (s : State) (k : Fin 2) : Bool :=
  k.val == 0 || (match s.net.ptpAt[0] with | some t => decide (sec 3 < s.since t) | none => true)

/-- R377: a Sync message on path A or B of TN. One of another domain, or not from the chosen master, is not used. One of a master not yet
locked corrects calendar time too (DESIGN CHOICE, log 126). -/
def execPtpSyncReceive (k : Fin 2) (m : SyncMsg) (s : State) : Out :=
  if !s.online then .next s else
  let ofs := m.ofs
  if m.domain ≠ s.net.reg.ptp.domain ∨ s.master.map PtpMaster.sender ≠ some m.sender then .next s else
  let use := s.ptpPath k
  let s := s.modNet fun w => { w with ptpAt := w.ptpAt.set k.val (some s.mono) }
  if !use then .next s
  else
    let s := s.modNetReg fun r =>
      { r with ptp := { r.ptp with path := BitVec.ofNat 2 (k.val + 1) }, ptpofs := BitVec.ofInt 32 (clampInt (-posMax) posMax ofs) }
    let row := if ofs.natAbs ≤ 1000 then s.net.ptpRow + 1 else 0
    let s := (s.correctCal (-ofs)).modNet fun w => { w with ptpRow := row }
    let s := if 16 ≤ row then s.modSrc fun t => { t with state := .ptp, valid := true } else s
    .next (if s.tim.src.state = .ptp then s.tune else s)

/-- R22: a lost SYNC has been lost for more than 3 s since its last valid pulse. -/
def State.ppsHoldover (s : State) : State :=
  if s.tim.src.state = .sync ∧ s.net.ppsLost ∧ sec 3 < s.since s.net.ppsGood then s.holdover else s

/-- R22, R377: the disciplining source is lost for 3 s: neither path has delivered Sync, or SYNC has been lost. -/
def execPtpLoss (s : State) : Out :=
  if !s.online then .next s else
  if s.tim.src.state = .sync ∧ s.net.ppsLost then .next (s.upTo (s.net.ppsGood + sec 3 + 1)).ppsHoldover
  else if s.tim.src.state ≠ .ptp then .next s
  else
    let last := max ((s.net.ptpAt[0]).getD 0) ((s.net.ptpAt[1]).getD 0)
    let s := s.upTo (last + sec 3)
    let s := s.modNet fun w => { w with ptpRow := 0, reg := { w.reg with ptp := { w.reg.ptp with path := 0 } } }
    .next (s.holdover.modSrc fun t => { t with ptploss := true })

/-- R22: 3,600 s of holdover. -/
def execHoldoverExpiry (s : State) : Out :=
  if !s.online then .next s else
  if s.tim.src.state = .holdover then .next ((s.upTo (s.net.holdAt + sec 3600)).runFree.modSrc fun t => { t with state := .free }) else .next s

/-- Nanoseconds by which calendar time now lies past the nearest second. -/
def State.secondOffset (s : State) : Int :=
  let r := s.calNow % 1000000000
  if r ≤ 500000000 then r else (r : Int) - 1000000000

/-- R23: one more missing or invalid pulse; the third in a row is loss of SYNC. PPSLOSS sets only for a SYNC that governs: under PTP
its loss sets nothing (DESIGN CHOICE, log 75). HOLDOVER follows once it has been lost for more than 3 s (Table 1-2). -/
def State.ppsBad (s : State) : State :=
  let n := s.net.ppsBad + 1
  let s := s.modNet fun w => { w with ppsRow := 0, ppsBad := n, ppsLost := w.ppsLost || decide (3 ≤ n) }
  let s := if n = 3 ∧ s.tim.src.state = .sync then s.modSrc fun t => { t with ppsloss := true } else s
  s.ppsHoldover

/-- R23, R378: a pulse on SYNC, valid within 1 ms of the predicted second. It corrects calendar time once three in a row were valid,
the seconds value is known, and PTP does not take precedence. -/
def execSyncPulse (s : State) : Out :=
  if !s.online then .next s else
  let s := s.modNet fun w => { w with ppsAt := s.mono }
  if s.tim.src.state = .unset then .next s
  else if s.secondOffset.natAbs ≤ 1000000 then
    let s := s.modNet fun w =>
      { w with ppsRow := w.ppsRow + 1, ppsBad := 0, ppsGood := s.mono, ppsLost := w.ppsLost && decide (w.ppsRow + 1 < 3) }
    .next (if s.tim.src.state ≠ .ptp ∧ (s.tim.src.state = .sync ∧ !s.net.ppsLost ∨ 3 ≤ s.net.ppsRow) then
      (s.correctCal (-s.secondOffset)).tune.modSrc fun t => { t with state := .sync } else s)
  else .next s.ppsBad

/-- R23: a predicted second, and the 1 ms after it in which its pulse would have been valid, have passed without a pulse. -/
def execSyncPulseMissing (s : State) : Out :=
  if !s.online then .next s else
  let due := s.net.ppsAt + sec 1
  .next ((s.upTo (due + ms 1)).modNet fun w => { w with ppsAt := due }).ppsBad

/-! ### Twin (R387, R388) -/

/-- R387: a twin heartbeat every 100 ms. -/
def execTwinHeartbeatSend (s : State) : Out :=
  if !s.online then .next s else
  if !s.net.reg.twin.en then .next s
  else
    let s := s.upTo (s.net.twinTx + ms 100)
    let mode := BitVec.ofNat 8 ((vget s.safe.window 0 0).toNat % 16)
    .next ((s.modNet fun w => { w with twinTx := s.mono }).send
      (.twin ([0x58, 0x01] ++ bytesAt s.lnd.active 0x30 16 ++ [mode] ++ beBytes 6 Config.tnMac.toNat)))

/-- R388: a twin heartbeat that duplicate discard has passed. -/
def execTwinHeartbeatReceive (mac : BitVec 48) (s : State) : Out :=
  if !s.online then .next s else .next (s.heartbeatIn mac)

/-- R388: a supervision frame from the twin's TN MAC, as its heartbeats give it, was seen on TN within 4 s. -/
def State.twinHeard (s : State) : Bool :=
  match s.net.twinMac with
  | some m => s.net.sups.any fun e => e.1 == m && decide (s.since e.2 ≤ sec 4)
  | none => false

/-- R388: no heartbeat for 300 ms, from reset release where none has come: SPLIT while the twin's supervision was seen on TN within 4 s, else LOST. -/
def execTwinTimeout (s : State) : Out :=
  if !s.online then .next s else
  if !s.net.reg.twin.en then .next s
  else
    let s := (s.upTo ((s.net.twinAt.getD s.boot.relAt) + ms 300)).modNet fun w => { w with twinRow := 0 }
    .next (s.twinSet (if s.twinHeard then .split else .lost))

/-! ### Mailboxes (R389 to R391) -/

/-- R389: a message that duplicate discard has passed arrives on a link. -/
def execMailboxArrival (l : MbLink) (word0 : Word) (dst src : BitVec 16) (b : List Byte) (s : State) : Out :=
  if !s.online then .next s else .next (s.messageIn l word0 dst src b)

/-- R391: an RS-485 message ends at an idle line and is filed. -/
def execSerialMessageEnd (i : Fin 4) (b : List Byte) (s : State) : Out :=
  if !s.online then .next s else
  .next (if (s.net.reg.ser[i.val]).en then s.mbArrive (.ser i) 0 { word0 := 0, data := b } else s)

/-- R391: the oldest CAN frame of a mailbox has not been sent within 100 ms of MBSEND. -/
def execCanSendTimeout (m : Fin 64) (s : State) : Out :=
  if !s.online then .next s else
  match MbLink.ofCode (s.net.reg.mbcfg[m.val]).link, (s.net.mbox[m.val]).out with
  | some (.can _), g :: gs => .next ((s.upTo (g.2 + ms 100)).modMbox m fun b => { b with out := gs, txerr := true })
  | _, _ => .next s

/-- R391: a CAN controller enters bus-off: LINK of its mailboxes clears. -/
def execCanBusOff (i : Fin 4) (s : State) : Out :=
  if !s.online then .next s else .next (s.modNet fun w => { w with busOff := putBit w.busOff i.val true })

/-- R391: 128 occurrences of 11 recessive bits: the controller recovers. -/
def execCanBusOffRecovery (i : Fin 4) (s : State) : Out :=
  if !s.online then .next s else .next (s.modNet fun w => { w with busOff := putBit w.busOff i.val false })

end Sys2Proof.Machine
end

