-- ==== Sys2Proof/Machine/RegisterCmd.lean ====
section
/-! DEFINITION. Register accesses that no instruction row carries: writes under the access codes, latching reads, clearing reads, and
the commands of the sleep and head-supply registers (R5 to R8, R26, R249, R447, R450). `ctx`: the Filif context that makes the
access. -/

namespace Sys2Proof.Machine

/-- A word read by a context: without the right it is 0 and counted (R282); it leaves as what the reader got. -/
def State.busRead (s : State) (ctx : Fin 5) (a : Word) : State :=
  if !mayRead a.toNat 4 then (s.violation a).send (.value ctx.val a.toNat 0) else
  let s := s.drainFor a.toNat 4
  let w := s.peek ctx.val a.toNat
  (s.touch ctx.val a.toNat (BitVec.allOnes 32)).send (.value ctx.val a.toNat w)

/-- R5 to R8, R282: a word written to a register by a context (DEDUCED, log 25). -/
def execRegisterWrite (ctx : Fin 5) (a w : Word) (s : State) : Out :=
  if !s.online then .next s else
  .next (if !mayWrite a.toNat 4 then s.violation a else s.drainAll.poke ctx false a.toNat w (BitVec.allOnes 32))

/-- R26: a read of a _LO register latches the matching _HI half for the requester. -/
def execLoHalfRead (ctx : Fin 5) (a : Word) (s : State) : Out :=
  if !s.online then .next s else .next (s.busRead ctx a)

/-- R8: a read of an RC field clears exactly what it returned. -/
def execRcFieldRead (ctx : Fin 5) (a : Word) (s : State) : Out :=
  if !s.online then .next s else .next (s.busRead ctx a)

/-- R249: a read of FIO.EQ takes the oldest edge and latches its time stamp. -/
def execEdgeQueueRead (ctx : Fin 5) (s : State) : Out :=
  if !s.online then .next s else .next (s.busRead ctx 0x24000340)

/-- R450: PWR.SLPCMD.SLEEP. -/
def execSleepRequest (s : State) : Out :=
  if !s.online then .next s else .next s.drainAll.sleepRequest

/-- R450: PWR.SLPCMD.CANCEL. -/
def execSleepCancel (s : State) : Out :=
  if !s.online then .next s else .next s.sleepCancel

/-- R447: FEL.HCMD.RESET. -/
def execHeadReset (w : BitVec 16) (s : State) : Out :=
  if !s.online then .next s else .next (s.headReset w)

end Sys2Proof.Machine
end

