-- ==== Sys2Proof/Machine/FilifStep.lean ====
section
/-! DEFINITION. Single steps of Filif in HOLD: the word at the program counter is decoded and executed (R280, R289, R302). -/

namespace Sys2Proof.Machine

/-- A Filif instruction executed by its own meaning. -/
def State.runInsn (s : State) (i : Instr) : State :=
  match i with
  | .add d a b => stateOf s (execAdd d a b s)
  | .adc d a b => stateOf s (execAdc d a b s)
  | .sub d a b => stateOf s (execSub d a b s)
  | .sbc d a b => stateOf s (execSbc d a b s)
  | .cmp a b => stateOf s (execCmp a b s)
  | .neg d a => stateOf s (execNeg d a s)
  | .and_ d a b => stateOf s (execAnd d a b s)
  | .or_ d a b => stateOf s (execOr d a b s)
  | .xor_ d a b => stateOf s (execXor d a b s)
  | .andn d a b => stateOf s (execAndn d a b s)
  | .tst a b => stateOf s (execTst a b s)
  | .not_ d a => stateOf s (execNot d a s)
  | .mov d a => stateOf s (execMov d a s)
  | .sel d a b => stateOf s (execSel d a b s)
  | .shl d a b => stateOf s (execShl d a b s)
  | .shr d a b => stateOf s (execShr d a b s)
  | .sar d a b => stateOf s (execSar d a b s)
  | .ror d a b => stateOf s (execRor d a b s)
  | .mins d a b => stateOf s (execMins d a b s)
  | .maxs d a b => stateOf s (execMaxs d a b s)
  | .minu d a b => stateOf s (execMinu d a b s)
  | .maxu d a b => stateOf s (execMaxu d a b s)
  | .adds d a b => stateOf s (execAdds d a b s)
  | .subs d a b => stateOf s (execSubs d a b s)
  | .mul d a b => stateOf s (execMul d a b s)
  | .mulh d a b => stateOf s (execMulh d a b s)
  | .mulhu d a b => stateOf s (execMulhu d a b s)
  | .div d a b => stateOf s (execDiv d a b s)
  | .divu d a b => stateOf s (execDivu d a b s)
  | .rem d a b => stateOf s (execRem d a b s)
  | .remu d a b => stateOf s (execRemu d a b s)
  | .addi d a imm => stateOf s (execAddi d a imm s)
  | .cmpi a imm => stateOf s (execCmpi a imm s)
  | .andi d a imm => stateOf s (execAndi d a imm s)
  | .ori d a imm => stateOf s (execOri d a imm s)
  | .xori d a imm => stateOf s (execXori d a imm s)
  | .lui d imm => stateOf s (execLui d imm s)
  | .shi d a imm => stateOf s (execShi d a imm s)
  | .tsti a imm => stateOf s (execTsti a imm s)
  | .ldw d a imm flt => stateOf s (execLdw d a imm flt s)
  | .ldh d a imm flt => stateOf s (execLdh d a imm flt s)
  | .ldhu d a imm flt => stateOf s (execLdhu d a imm flt s)
  | .ldb d a imm flt => stateOf s (execLdb d a imm flt s)
  | .ldbu d a imm flt => stateOf s (execLdbu d a imm flt s)
  | .stw d a imm => stateOf s (execStw d a imm s)
  | .sth d a imm => stateOf s (execSth d a imm s)
  | .stb d a imm => stateOf s (execStb d a imm s)
  | .cld bit a imm flt => stateOf s (execCld bit a imm flt s)
  | .cldn bit a imm flt => stateOf s (execCldn bit a imm flt s)
  | .cand bit a imm flt => stateOf s (execCand bit a imm flt s)
  | .candn bit a imm flt => stateOf s (execCandn bit a imm flt s)
  | .cor bit a imm flt => stateOf s (execCor bit a imm flt s)
  | .corn bit a imm flt => stateOf s (execCorn bit a imm flt s)
  | .cxor bit a imm flt => stateOf s (execCxor bit a imm flt s)
  | .cst bit a imm flt => stateOf s (execCst bit a imm flt s)
  | .cstn bit a imm flt => stateOf s (execCstn bit a imm flt s)
  | .cset bit a imm flt => stateOf s (execCset bit a imm flt s)
  | .crst bit a imm flt => stateOf s (execCrst bit a imm flt s)
  | .rld a bit => stateOf s (execRld a bit s)
  | .rldn a bit => stateOf s (execRldn a bit s)
  | .rand a bit => stateOf s (execRand a bit s)
  | .randn a bit => stateOf s (execRandn a bit s)
  | .rorContact a bit => stateOf s (execRorContact a bit s)
  | .rorn a bit => stateOf s (execRorn a bit s)
  | .rxor a bit => stateOf s (execRxor a bit s)
  | .rst d bit => stateOf s (execRst d bit s)
  | .rstn d bit => stateOf s (execRstn d bit s)
  | .rset d bit => stateOf s (execRset d bit s)
  | .rrst d bit => stateOf s (execRrst d bit s)
  | .bnot => stateOf s (execBnot s)
  | .bone => stateOf s (execBone s)
  | .bzero => stateOf s (execBzero s)
  | .bcc cond => stateOf s (execBcc cond s)
  | .bget d => stateOf s (execBget d s)
  | .bput a => stateOf s (execBput a s)
  | .br cond ofs => stateOf s (execBr cond ofs s)
  | .brl cond ofs => stateOf s (execBrl cond ofs s)
  | .jr a => stateOf s (execJr a s)
  | .jrl d a => stateOf s (execJrl d a s)
  | .nop => stateOf s (execNop s)
  | .eoc => stateOf s (execEoc s)
  | .retc => stateOf s (execRetc s)
  | .rdf d => stateOf s (execRdf d s)
  | .wrf a => stateOf s (execWrf a s)
  | .fence => stateOf s (execFence s)
  | .commit d a flt => stateOf s (execCommit d a flt s)
  | .bmove d a => stateOf s (execBmove d a s)
  | .trun d tag => stateOf s (execTrun d tag s)
  | .tpre d tag => stateOf s (execTpre d tag s)
  | .tres tag => stateOf s (execTres tag s)
  | .edr tag => stateOf s (execEdr tag s)
  | .edf tag => stateOf s (execEdf tag s)
  | .edlf tag => stateOf s (execEdlf tag s)
  | .ccu d tag => stateOf s (execCcu d tag s)
  | .ccd d tag => stateOf s (execCcd d tag s)
  | .cload d tag => stateOf s (execCload d tag s)
  | .cres d tag => stateOf s (execCres d tag s)
  | .cpre d tag => stateOf s (execCpre d tag s)
  | .lev d tag => stateOf s (execLev d tag s)
  | .rtgt d tag => stateOf s (execRtgt d tag s)
  | .rrate d tag => stateOf s (execRrate d tag s)
  | .rrun d tag => stateOf s (execRrun d tag s)
  | .rampRset d tag => stateOf s (execRampRset d tag s)
  | .tadr d tag => stateOf s (execTadr d tag s)
  | .mtgt d a k flt => stateOf s (execMtgt d a k flt s)
  | .mleaf d a k flt => stateOf s (execMleaf d a k flt s)
  | .mvlim d a k => stateOf s (execMvlim d a k s)
  | .mcmd d a k => stateOf s (execMcmd d a k s)
  | .pcmd d a k => stateOf s (execPcmd d a k s)
  | .mstat d k => stateOf s (execMstat d k s)
  | .mpos d k => stateOf s (execMpos d k s)
  | .bhit d k => stateOf s (execBhit d k s)
  | .brearm d a k => stateOf s (execBrearm d a k s)
  | .lsw d a k flt => stateOf s (execLsw d a k flt s)
  | .lswb d k flt => stateOf s (execLswb d k flt s)
  | .trec d a k => stateOf s (execTrec d a k s)
  | .tword d a k => stateOf s (execTword d a k s)
  | .mbsend d a k => stateOf s (execMbsend d a k s)
  | .mbrecv d a k => stateOf s (execMbrecv d a k s)
  | .mbstat d k => stateOf s (execMbstat d k s)
  | _ => s

/-- R272, R280: a stepped instruction that spends its call-out's budget puts the module in STOP, as in RUN (DESIGN CHOICE, log 99). -/
def State.stepSpent (s : State) : State := if s.mode = .hold ∧ s.eng.spent then s.drainAll.enterStop 4 else s

/-- R280: one step: the next instruction, where the engine has one to execute; a word that cannot be fetched or executed stops it. -/
def State.stepOnce (s : State) : State :=
  if !s.ready then s else
  let pc := s.bank.pc.toNat
  if 0x00400000 ≤ pc ∨ s.eng.code.length < pc + 4 then s.drainAll.enterStop 6 else
  let w := wordAt s.eng.code pc
  if s.wordIllegal w then s.illegal else
  match decodeFilif w with
  | some i => (s.runInsn i).stepSpent
  | none => s.illegal

/-- R280: `n` steps. -/
def State.steps (s : State) : Nat → State
  | 0 => s
  | n + 1 => s.stepOnce.steps n

/-- R280, R434: STEP: `n` instructions in HOLD, and HOLD again. -/
def State.stepHold (s : State) (n : Nat) : State :=
  ((s.modEng fun e => { e with stepping := true }).steps n).modEng fun e => { e with stepping := false }

end Sys2Proof.Machine
end

