-- ==== Sys2Proof/Machine/SessionCmd.lean ====
section
/-! DEFINITION. Sessions: handshake, loss, and the operations on registers, landing, modes, requests, forces and Tally (R421 to R424,
R430 to R434; Table 17-9). `i` is the session's slot (0 SVC, 1 and 2 TN), `tag` the TAG of the request. -/

namespace Sys2Proof.Machine

/-! ### Serving (R430, R431) -/

/-- The OP of ATTEST (Table 17-9). -/
def opAttest : Nat := 0x0050

/-- R425: the report is signed and sent. -/
def State.attestDone (s : State) : State :=
  match s.tru.attest with
  | some (i, tag, report, _) => (s.modTru fun t => { t with attest := none }).respond i opAttest tag .ok report
  | none => s

/-- How many journal writes end with the last COMMAND of session number `n`. -/
def Journal.writesOf (j : Journal) (n : Nat) : Nat :=
  (j.writes.reverse.dropWhile fun w => !(w.cmd.source.isSession n || w.dups.any fun d => d.isSession n)).length

/-- R430: a response leaves before the next request of its session begins: what session `i` still waits for comes to its end first, the
journal writes with the confirmation of the devices that work (DESIGN CHOICE, log 124). -/
def State.answerFirst (s : State) (i : SesIx) : State :=
  if !s.owes i then s else
  let s := if s.lnd.verifier.any fun v => v.1 == i then s.verified else s
  let s := if s.tru.attest.any fun a => a.1 == i then s.attestDone else s
  match s.tru.sessions[i.val] with
  | some e => if i = 0 then s.forAll (List.range (s.jnl.writesOf e.num)) fun s _ => s.writeDone true true else s
  | none => s

/-- R430, R431: a request of session `i`: it begins once the session's earlier ones are answered; it counts as the client's record;
the operation is carried out only with its right and on its links, and, in RECOVERY, only where Table 19-3 lets it
(DEDUCED, logs 54 and 57). -/
def State.serve (s : State) (i : SesIx) (op : Nat) (tag : Word) (need : Option Right) (onTn inRecovery : Bool)
    (f : State → State × Answer) : State :=
  match s.tru.sessions[i.val] with
  | none => s
  | some e =>
    let s := s.answerFirst i
    let s := s.modTru fun t => { t with sessions := t.sessions.set i.val (some { e with at_ := s.mono }) }
    let allowed := (onTn || i.val == 0) && (match need with | some r => e.has r | none => true)
    if !allowed then s.respond i op tag .right
    else if s.boot.recovery && !inRecovery then s.respond i op tag .state
    else
      let r := f s
      match r.2 with
      | .later => r.1
      | .now st p => r.1.respond i op tag st p

/-! ### Sessions (R421 to R424, R430) -/

/-- The module can serve a session: its core is up, or its boot ROM waits in RECOVERY (R462). -/
def State.serving (s : State) : Bool := s.boot.held.isNone && !s.boot.down && (s.boot.up || s.boot.recovery)

/-- R421 to R423: the handshake admits the client: by the SESSION anchor, or, while there is none, by the Porvar root on SVC for
ANCHOR alone. None: refused (DEDUCED, log 55). -/
def State.admits (s : State) (link : SesLink) (c : ClientCert) : Option (BitVec 6) :=
  let valid := s.tim.src.valid
  let inTime := !valid || (decide (c.notBefore ≤ s.calNow) && decide (s.calNow ≤ c.notAfter))
  let anchor := s.tru.anchors[3].isSome
  if !c.tls || !inTime then none
  else if anchor then
    if !c.chains then none
    else
      let r := if valid then c.rights else c.rights &&& 0x1F
      some (if link = .tn then r &&& 3 else r)
  else if link = .svc && c.root && c.rights.getLsbD 5 && valid then some 0x20
  else none

/-- The free slot of a link. -/
def State.freeSlot (s : State) (link : SesLink) : Option SesIx :=
  let free := fun i : SesIx => (s.tru.sessions[i.val]).isNone
  match link with
  | .svc => if free 0 then some 0 else none
  | .tn => if free 1 then some 1 else if free 2 then some 2 else none

/-- R421 to R423, R433: a handshake; a session on SVC with SERVICE first gets the outcomes that wait for one. -/
def execSessionHandshake (link : SesLink) (c : ClientCert) (s : State) : Out :=
  if !s.serving || (s.boot.recovery && link == .tn) then .next s else
  match s.admits link c with
  | none => .next (s.modTru fun t => { t with refn := satInc t.refn })
  | some r =>
    let s := s.send (.certificate (match s.freeSlot link with | some i => i.val | none => 3) s.tru.identity)
    match s.freeSlot link with
    | none => .next s
    | some i =>
      let e : Session := { num := s.tru.opened, rights := r, serial := c.serial, at_ := s.mono }
      let s := s.modTru fun t => { t with sessions := t.sessions.set i.val (some e), opened := t.opened + 1 }
      .next (if i.val = 0 && e.has .service then s.reportSession else s)

/-- R424, R276: no record of a session's client for 10 s; in HOLD the loss of the service session enters STOP (DEDUCED, log 56). -/
def execSessionLoss (i : Fin 3) (s : State) : Out :=
  let s := match s.tru.sessions[i.val] with
    | some e => (s.upTo (e.at_ + sec 10)).endSession i
    | none => s
  .next (if i.val = 0 ∧ s.mode = .hold then s.drainAll.enterStop 8 else s)

/-- R430: NOP. -/
def execSessionNop (i : Fin 3) (tag : Word) (s : State) : Out :=
  .next (s.serve i 0x0001 tag none true true fun s => (s, .now .ok))

/-- R430: a message that is no request of Table 17-9, or breaks Table 17-8; beyond the limit of LEN it closes the session. -/
def execSessionMalformedMessage (i : Fin 3) (opc : BitVec 16) (tag len : Word) (s : State) : Out :=
  if 16777248 < len.toNat then .next (s.endSession i)
  else .next (s.serve i opc.toNat tag none true true fun s => (s, .now .badreq))

/-! ### Registers (R432) -/

/-- The requester number of a session (R26). -/
def requesterOf (i : SesIx) : Nat := 5 + i.val

/-- R432: what a session's read of a word moves: its own latch of a pair, and nothing else. -/
def State.observe (s : State) (req a : Nat) : State :=
  match s.pair64 (placeOf a) with
  | some v => s.latchPut req (a + 4) (BitVec.ofNat 32 (v / 2 ^ 32))
  | none =>
    match placeOf a with
    | .system off => s.usedN (freeReads off)
    | _ => s

/-- R432: `n` words from `a` up, as they read. -/
def State.readWords (s : State) (req a : Nat) : Nat → State × List Byte
  | 0 => (s, [])
  | n + 1 =>
    let w := s.peek req a
    let sr := (s.observe req a).readWords req (a + 4) n
    let s := sr.1
    let bs := sr.2
    (s, leBytes 4 w.toNat ++ bs)

/-- R432: READ. -/
def execRead (i : Fin 3) (tag addr count : Word) (s : State) : Out :=
  let a := addr.toNat
  let n := count.toNat
  .next (s.serve i 0x0002 tag (some .read) true false fun s =>
    if n = 0 ∨ 4096 < n then (s, .now .badreq)
    else if a % 4 ≠ 0 ∨ rangeOf a = 0 ∨ rangeOf a ≠ rangeOf (a + 4 * (n - 1)) then (s, .now .access)
    else
      let sr := s.readWords (requesterOf i) a n
      let s := sr.1
      let bs := sr.2
      (s, .now .ok bs))

/-- SYS.BRK0 to BRK7. -/
def isBrk (a : Nat) : Bool := decide (0xF0000100 ≤ a ∧ a < 0xF0000120)

/-- R432: a session may write the word: a register of a block or of the system control region, and not a stageable one. -/
def sessionWritable (a : Nat) : Bool :=
  a % 4 == 0 && match placeOf a with
  | .axis _ off => off != 0x10 && off != 0x14
  | .load _ off => off != 0x0C
  | .feedback x off =>
    !((slotOf x).val == 0 && (off == 0x204 || off == 0x208 || off == 0x20C || decide (0x240 ≤ off ∧ off < 0x280)))
  | .kerf _ off => off != 0x60
  | .field _ | .mailbox _ _ | .system _ => true
  | .code _ | .memory | .blaze _ _ | .port _ | .frame _ _ | .safety _ | .nowhere => false

/-- A word as a service session writes it. -/
def State.sessionPoke (s : State) (a : Nat) (w : Word) : State := s.poke 0 true a w (BitVec.allOnes 32)

/-- The value written to the word at an address. -/
def wordFor (ws : List (Nat × Word)) (a : Nat) : Option Word := (ws.find? fun e => e.1 == a).map Prod.snd

/-- R21, R22: calendar time and the UTC offset as a service session sets them, with both halves of TIM.CAL in one write (log 17). -/
def State.setTime (s : State) (ws : List (Nat × Word)) : State :=
  let s := match wordFor ws 0xF0001008, wordFor ws 0xF000100C with
    | some lo, some hi =>
      ({ s.correctCal ((lo.toNat + 2 ^ 32 * hi.toNat : Nat) - (s.calNow : Nat)) with calPpb := 0 }).modSrc fun t => { t with state := .free, valid := true }
    | _, _ => s
  match wordFor ws 0xF0001010 with
  | some w => { s with tim := { s.tim with utcofs := { seconds := w.setWidth 16, valid := true } } }
  | none => s

/-- R432: WRITE. -/
def execWrite (i : Fin 3) (tag addr : Word) (ws : List Word) (s : State) : Out :=
  let ws := ws.zipIdx.map fun e => (addr.toNat + 4 * e.2, e.1)
  .next (s.serve i 0x0003 tag none false false fun s =>
    let has := fun r => match s.tru.sessions[i.val] with | some e => e.has r | none => false
    let brk := ws.any fun e => isBrk e.1
    let other := ws.isEmpty || ws.any fun e => !isBrk e.1
    if (brk && !has .debug) || (other && !has .service) then (s, .now .right)
    else if ws.any fun e => !sessionWritable e.1 then (s, .now .access)
    else ((ws.foldl (fun s e => s.sessionPoke e.1 e.2) s).setTime ws, .now .ok))

/-! ### Landing (R333, R334, R434) -/

/-- R434: a verification that a session waits for is given up: the session is told STATE. -/
def State.dropVerifier (s : State) : State :=
  match s.lnd.verifier with
  | some (j, t) => (s.modLnd fun l => { l with verifier := none }).respond j opLandVerify t .state
  | none => s

/-- LANDING emptied by a session. -/
def State.cancelLanding (s : State) : State := s.dropVerifier.modLnd Landing.cancel

/-- LAND-BEGIN. -/
def execLandBegin (i : Fin 3) (tag total : Word) (s : State) : Out :=
  .next (s.serve i 0x0010 tag (some .land) true false fun s =>
    if 67108864 < total.toNat then (s, .now .badreq)
    else (s.cancelLanding.modLnd fun l =>
      { l.modStat (fun t => { t with state := .receiving }) with total := total.toNat, owner := some i }, .now .ok))

/-- LAND-DATA (DEDUCED, log 59). -/
def execLandData (i : Fin 3) (tag ofs : Word) (b : List Byte) (s : State) : Out :=
  .next (s.serve i 0x0011 tag (some .land) true false fun s =>
    let l := s.lnd
    if b.isEmpty ∨ 1048576 < b.length then (s, .now .badreq)
    else if l.reg.stat.state ≠ .receiving ∨ l.owner ≠ some i then (s, .now .state)
    else if ofs.toNat ≠ l.landing.length ∨ l.total < l.landing.length + b.length then (s, .now .badreq)
    else (s.modLnd fun l => { l with landing := l.landing ++ b }, .now .ok))

/-- LAND-VERIFY: on a complete transfer, one that was rejected or verified before too. -/
def execLandVerify (i : Fin 3) (tag : Word) (s : State) : Out :=
  .next (s.serve i opLandVerify tag (some .land) true false fun s =>
    let t := s.lnd.reg.stat.state
    if (t = .receiving ∨ t = .rejected ∨ t = .verified ∧ !s.lnd.activate) ∧ s.lnd.landing.length = s.lnd.total then
      (s.modLnd fun l => { l.modStat (fun t => { t with state := .verifying }) with verifier := some (i, tag) }, .later)
    else (s, .now .state))

/-- LAND-ACTIVATE. -/
def execLandActivate (i : Fin 3) (tag : Word) (s : State) : Out :=
  .next (s.serve i 0x0013 tag (some .land) true false fun s =>
    if s.lnd.reg.stat.state = .verified ∧ !s.lnd.activate then
      let s := s.modLnd fun l => { l with activate := true, degHeld := s.safe.mode.degraded || s.safe.mode == .undecided }
      (s, .now .ok (leBytes 4 s.lndStat.toWord.toNat))
    else (s, .now .state))

/-- LAND-CANCEL. -/
def execLandCancel (i : Fin 3) (tag : Word) (s : State) : Out :=
  .next (s.serve i 0x0014 tag (some .land) true false fun s => (s.cancelLanding, .now .ok))

/-- R333, R334: LAND-PREVIOUS: the container in PREVIOUS is copied; the transfer is complete. -/
def execLandPrevious (i : Fin 3) (tag : Word) (s : State) : Out :=
  .next (s.serve i 0x0015 tag (some .land) true false fun s =>
    (s.cancelLanding.modLnd fun l =>
      { l.modStat (fun t => { t with state := .receiving }) with
        landing := l.previous, total := l.previous.length, owner := some i }, .now .ok))

/-! ### Modes and reset (R276, R280, R434) -/

/-- MODE: a command that is accepted where `ok`, with SYS.MODE in the answer. -/
def State.serveMode (s : State) (i : SesIx) (tag : Word) (need : Right) (argOk : Bool) (ok : State → Bool) (f : State → State) : State :=
  s.serve i 0x0020 tag (some need) false false fun s =>
    if !argOk then (s, .now .badreq)
    else if !ok s then (s, .now .state)
    else
      let s := f s
      (s, .now .ok (leBytes 4 (s.sysRead 4).toNat))

/-- RUN: in STOP, a cold entry (R278); before the entry to RUN of a start it makes that entry cold, and the start's own waits hold (R459)
(DESIGN CHOICE, log 140). -/
def execModeRun (i : Fin 3) (tag n : Word) (s : State) : Out :=
  .next (s.serveMode i tag .service (n == 0) (fun s => s.mode == .stop) fun s =>
    let s := s.modEng fun e => { e with holdReq := false }
    if s.boot.starting then { s with boot := { s.boot with cold := true } } else s.drainAll.enterRun true)

/-- STOP: in RUN and in HOLD, cause SVC. -/
def execModeStop (i : Fin 3) (tag n : Word) (s : State) : Out :=
  .next (s.serveMode i tag .service (n == 0) (fun s => s.mode != .stop) fun s => s.drainAll.enterStop 2)

/-- HOLD: in RUN, taken at the next end of an output phase. -/
def execModeHold (i : Fin 3) (tag n : Word) (s : State) : Out :=
  .next (s.serveMode i tag .debug (n == 0) (fun s => s.mode == .run) fun s => s.modEng fun e => { e with holdReq := true })

/-- RESUME: in HOLD. -/
def execModeResume (i : Fin 3) (tag n : Word) (s : State) : Out :=
  .next (s.serveMode i tag .debug (n == 0) (fun s => s.mode == .hold) State.resume)

/-- STEP: in HOLD, `n` instructions (DEDUCED, log 31). -/
def execModeStep (i : Fin 3) (tag n : Word) (s : State) : Out :=
  .next (s.serveMode i tag .debug (decide (1 ≤ n.toNat ∧ n.toNat ≤ 65535)) (fun s => s.mode == .hold) fun s => s.stepHold n.toNat)

/-! ### Requests (R83, R154, R174, R228, R403, R434) -/

/-- A REQUEST for unit `u` of `n`: the write `f`, and the request's status field after it. -/
def State.serveRequest (s : State) (i : SesIx) (tag u : Word) (n : Nat) (f : State → State) (status : State → Nat) : State :=
  s.serve i 0x0023 tag (some .service) false false fun s =>
    if n ≤ u.toNat then (s, .now .badreq)
    else
      let s := f s
      (s, .now .ok (leBytes 4 (status s)))

/-- REREF: CMD.REREF of an axis; AXC.REFUSE as it stands afterwards (DEDUCED, log 60). -/
def execReref (i : Fin 3) (tag axis : Word) (s : State) : Out :=
  .next (s.serve i 0x0022 tag (some .service) false false fun s =>
    if 64 ≤ axis.toNat then (s, .now .badreq)
    else
      let a : AxisIx := finMod 64 axis.toNat
      let no := s.fitted a && (s.refusal a .reref 0 true).isSome
      let s := s.axisCmd a 4 (svc := true)
      (s, .now (if no then .refused else .ok) (leBytes 4 (s.axis a).reg.refuse.toNat)))

/-- REQUEST, KIND 1. -/
def execRequestCalibration (i : Fin 3) (tag unit : Word) (s : State) : Out :=
  let a : AxisIx := finMod 64 unit.toNat
  .next (s.serveRequest i tag unit 64 (fun s => s.writeAxis a 0x13C 1 1) fun s => (s.axis a).reg.cal.status.code.toNat)

/-- REQUEST, KIND 2. -/
def execRequestRelearn (i : Fin 3) (tag unit : Word) (s : State) : Out :=
  let p : PortalIx := finMod 16 unit.toNat
  .next (s.serveRequest i tag unit 16 (fun s => s.learnRequest p) fun s => (s.krf p).reg.stat.lrn.code.toNat)

/-- REQUEST, KIND 3. `shorted`: as for LSB-OLTEST. -/
def execRequestOltest (i : Fin 3) (tag unit : Word) (shorted : Bool) (s : State) : Out :=
  let c : ChanIx := finMod 48 unit.toNat
  .next (s.serveRequest i tag unit 48 (fun s => s.oltRequest c shorted) fun s => (s.chan c).reg.stat.olt.code.toNat)

/-- REQUEST, KIND 4. -/
def execRequestFlush (i : Fin 3) (tag unit : Word) (s : State) : Out :=
  .next (s.serveRequest i tag unit 1 State.flush fun s => s.tally.reg.stat.flushing.toNat)

/-! ### Forces (R344, R434) -/

/-- R344: the field of a type that can be forced. -/
def TagType.hasField (k : TagType) (f : Nat) : Bool :=
  match f with
  | 1 => k.isTimer || k == .sr || k == .rs
  | 2 | 3 => k == .edge
  | 4 => k == .ctud
  | 5 => k == .ramp
  | _ => false

/-- The force stands on this tag and field. -/
def Force.is (f : Force) (t field : Word) : Bool := f.tag.toNat == t.toNat && f.field.toNat == field.toNat

/-- R344: the declaration that lets a force act: a declared tag whose type has the field. -/
def State.forceDecl (s : State) (t field : Word) : Option TagDecl :=
  match s.eng.tags.find? fun d => d.tag.toNat == t.toNat with
  | some d => if d.type.hasField field.toNat then some d else none
  | none => none

/-- FORCE-SET. `ok0`, `ok1`: the MRAM devices confirm the write (R28). -/
def execForceSet (i : Fin 3) (tag t field value : Word) (ok0 ok1 : Bool) (s : State) : Out :=
  .next (s.serve i 0x0030 tag (some .force) false false fun s =>
    if field = 0 ∨ 5 < field.toNat then (s, .now .badreq)
    else
      match s.forceDecl t field with
      | none => (s, .now .refused)
      | some d =>
        let rest := s.eng.forces.filter fun f => !f.is t field
        if 256 ≤ rest.length then (s, .now .refused)
        else
          let sr := s.mramWrite ok0 ok1 1
          let s := sr.1
          let ok := sr.2
          if !ok then (s, .now .refused)
          else
            let f : Force := { tag := d.tag, field := field.setWidth 8, type := d.type, value := value }
            ((s.modEng fun e => { e with forces := rest ++ [f] }).event 0x13 t.toNat 1 value.toNat, .now .ok))

/-- FORCE-RELEASE. -/
def execForceRelease (i : Fin 3) (tag t field : Word) (s : State) : Out :=
  .next (s.serve i 0x0031 tag (some .force) false false fun s =>
    match s.eng.forces.find? fun f => f.is t field with
    | none => (s, .now .refused)
    | some f =>
      ((s.modEng fun e => { e with forces := e.forces.filter fun f => !f.is t field }).event 0x13 t.toNat 2 f.value.toNat, .now .ok))

/-- FORCE-LIST. -/
def execForceList (i : Fin 3) (tag : Word) (s : State) : Out :=
  .next (s.serve i 0x0032 tag (some .read) false false fun s =>
    let fs := s.eng.forces
    (s, .now .ok (leBytes 4 fs.length ++
      (fs.map fun f => leBytes 4 f.tag.toNat ++ leBytes 4 f.field.toNat ++ leBytes 4 f.value.toNat).flatten)))

/-! ### Tally and the journal (R401, R408, R433) -/

/-- TALLY-READ. -/
def execTallyRead (i : Fin 3) (tag : Word) (seq : BitVec 64) (maxlen flags : Word) (s : State) : Out :=
  .next (s.serve i 0x0040 tag (some .read) true false fun s =>
    if maxlen.toNat < 65536 ∨ 16777216 < maxlen.toNat ∨ 1 < flags.toNat then (s, .now .badreq)
    else (s, .now .ok (s.tally.read seq.toNat maxlen.toNat (flags == 1))))

/-- COMMISSION. Where staging has no room for its record, the command is refused and the module not commissioned (DESIGN CHOICE, log 122). -/
def execCommission (i : Fin 3) (tag : Word) (s : State) : Out :=
  .next (s.serve i 0x0041 tag (some .service) false false fun s =>
    if s.tally.reg.stat.comm || s.tally.held.any (fun r => r.type == 6) then (s, .now .refused)
    else
      let sr := s.commission (match s.tru.sessions[i.val] with | some e => e.serial | none => 0)
      (sr.1, .now (if sr.2 then .ok else .refused)))

/-- COMMAND: judged as SOURCE 2; the response leaves with the acknowledgement or the refusal. -/
def execCommand (i : Fin 3) (tag connid tseq : Word) (kind target : Byte) (pad : BitVec 16) (arg expms : Word) (s : State) : Out :=
  .next (s.serve i opCommand tag (some .service) false false fun s =>
    if pad ≠ 0 ∨ reservedKind kind then (s, .now .badreq)
    else
      let num := match s.tru.sessions[i.val] with | some e => e.num | none => 0
      (s.commandIn { connid := connid, tseq := tseq, kind := kind, target := target, source := .svc num tag, arg := arg,
                        expms := expms }, .later))

end Sys2Proof.Machine
end

