-- ==== Sys2Proof/Machine/Envelope.lean ====
section
/-! DEFINITION. The envelope certificate: its layout, the checks that refuse it or an entry, and the envelope registers it fills
(R150, R417 to R419; Table 17-2, Table 17-3, Table 5-3). -/

namespace Sys2Proof.Machine

/-- A certificate's number of entries (NENT). -/
def certCount (c : List Byte) : Nat := (getF (wordAt c 4) 16 16).toNat

/-- The length that NENT gives a certificate. -/
def certLen (c : List Byte) : Nat := 64 + 32 * certCount c + 96

/-- The payload is laid out as a certificate: 1 to 64 entries and its signature, no more (DEDUCED, log 61). -/
def certLayout (c : List Byte) : Bool := decide (1 ≤ certCount c ∧ certCount c ≤ 64) && c.length == certLen c

/-- ROLLBACK and ISSUED. -/
def certRollback (c : List Byte) : Word := wordAt c 0x0C
@[inherit_doc certRollback] def certIssued (c : List Byte) : Nat := leNat (bytesAt c 0x20 8)

/-- The entries, 32 bytes each. -/
def certEntries (c : List Byte) : List (List Byte) := (List.range (certCount c)).map fun i => bytesAt c (64 + 32 * i) 32

/-- The zero fields of an entry. -/
def entryZeros (e : List Byte) : Bool := (e.getD 1 0).toNat / 2 == 0 && zeroAt e 0x07 1 && zeroAt e 0x0F 1 && zeroAt e 0x18 8

/-- No two bytes are equal. -/
def apart : List Byte → Bool
  | [] => true
  | b :: bs => !bs.contains b && apart bs

/-- R418: nothing refuses the whole certificate. `key`: the ENVELOPE anchor; `serial`: this module's. -/
def certOk (key : Option (List Byte)) (rbenv : Word) (serial c : List Byte) : Bool :=
  let n := 64 + 32 * certCount c
  let bind := bytesAt c 0x10 16
  certLayout c && c.take 4 == [0x50, 0x45, 0x4E, 0x56] && bytesAt c 4 2 == [1, 0] && wordAt c 8 == 0x6448#32 && zeroAt c 0x28 24
    && (certEntries c).all entryZeros && decide (rbenv.toNat ≤ (certRollback c).toNat) && (bind.all (· == 0) || bind == serial)
    && apart ((certEntries c).map fun e => e.getD 0 0) && verifies key (c.take n) (bytesAt c n 96)

/-- A 16-bit field of an entry. -/
def entryH (e : List Byte) (off : Nat) : Nat := leNat (bytesAt e off 2)

/-- Table 17-3: every value of an entry lies in its range. -/
def entryOk (e : List Byte) : Bool :=
  let b := fun i => (e.getD i 0).toNat
  let cs := (wordAt e 0x14).toNat
  decide (b 0 < 64) && b 1 == 1 && decide (60 ≤ entryH e 2 ∧ entryH e 2 ≤ 400) && decide (60 ≤ entryH e 4 ∧ entryH e 4 ≤ 600)
    && decide (1 ≤ b 6 ∧ b 6 ≤ 20) && decide (50 ≤ entryH e 8 ∧ entryH e 8 ≤ 1500) && decide (10 ≤ entryH e 0xA ∧ entryH e 0xA ≤ 2000)
    && decide (500 ≤ entryH e 0xC ∧ entryH e 0xC ≤ 25000) && decide (10 ≤ b 0xE ∧ b 0xE ≤ 100)
    && decide (50 ≤ entryH e 0x10 ∧ entryH e 0x10 ≤ 40000) && decide (entryH e 0x12 ≤ 1000) && decide (1 ≤ cs ∧ cs < 2 ^ 31)

/-- Table 5-3: the floor values. -/
def Axc.floorEnv (r : Axc) : Axc :=
  { r with envf := { fc := 60, fo := 60, tf := 1 }, envv := { v := 100, mass := 2000 }, enve := 500, envi := 20,
           envk := { kf := 10000, frmax := 0 }, envs := 1024000, envst := { r.envst with floor := true } }

/-- The envelope registers as an entry gives them. -/
def Axc.entryEnv (r : Axc) (e : List Byte) : Axc :=
  let h := fun off => BitVec.ofNat 16 (entryH e off)
  { r with envf := { fc := (h 2).setWidth 10, fo := (h 4).setWidth 10, tf := (e.getD 6 0).setWidth 5 }
           envv := { v := h 8, mass := h 0xA }, enve := h 0xC, envi := e.getD 0xE 0, envk := { kf := h 0x10, frmax := h 0x12 }
           envs := wordAt e 0x14, envst := { r.envst with floor := false } }

/-- R418: the envelope registers of axis `a` under the certificate in force; empty: none. -/
def Axc.envelope (r : Axc) (a : AxisIx) (cert : List Byte) : Axc :=
  match (certEntries cert).find? fun e => e.getD 0 0 == BitVec.ofNat 8 a.val && entryOk e with
  | some e => r.entryEnv e
  | none => r.floorEnv

/-- R419: of two certificates the newer, by ROLLBACK and then by ISSUED. -/
def certNewer (a b : List Byte) : Bool :=
  let x := (certRollback a).toNat
  let y := (certRollback b).toNat
  decide (y < x) || (x == y && decide (certIssued b ≤ certIssued a))

/-- R418, R419: the copy in force; empty where neither passes. -/
def certChoice (ok : List Byte → Bool) (a b : List Byte) : List Byte :=
  if ok a && ok b then (if certNewer a b then a else b) else if ok a then a else if ok b then b else []

/-- TRU.STAT.ENV: 0 CERT, 1 FLOOR, 2 PART. -/
def certStat (c : List Byte) : BitVec 2 := if c.isEmpty then 1 else if (certEntries c).all entryOk then 0 else 2

end Sys2Proof.Machine
end

