-- ==== Sys2Proof/Machine/TrustCmd.lean ====
section
/-! DEFINITION. Session operations on firmware, certificates, anchors and counters, and attestation (R414, R415, R418 to R420, R425,
R426, R434). -/

namespace Sys2Proof.Machine

/-! ### Attestation (R425, R426) -/

/-- The firmware package that runs. -/
def Security.running (t : Security) : List Byte := t.banks[t.bank.val]

/-- FLAGS of Table 17-5. -/
def State.attestFlags (s : State) : Word :=
  putB s.eng.sys.mode.factory 0 ||| putB (allAxes.any fun a => (s.axis a).reg.envst.floor) 1 ||| putB s.tim.src.valid 2
    ||| putB s.tally.reg.stat.comm 3 ||| putB s.tru.ancpend 4 ||| putB s.tru.envpend 5

/-- Table 17-5: the report of this instant. -/
def State.report400 (s : State) (nonce : List Byte) : List Byte :=
  let t := s.tru
  let body := [0x50, 0x41, 0x54, 0x54, 1, 0] ++ leBytes 2 400 ++ bytesAt nonce 0 32 ++ bytesAt t.serial 0 16
    ++ leBytes 8 s.mono ++ leBytes 8 s.calNow ++ leBytes 4 (s.sysRead 0).toNat ++ leBytes 4 s.attestFlags.toNat
    ++ bytesAt (Config.sha384 (Config.fwSystem t.running)) 0 48 ++ bytesAt (Config.sha384 (Config.fwSafety t.running)) 0 48
    ++ bytesAt (Config.sha384 (Container.signed s.lnd.active)) 0 48
    ++ bytesAt (if t.envUsed.isEmpty then [] else Config.sha384 t.envUsed) 0 48 ++ bytesAt s.lnd.active 0x30 16
    ++ leBytes 4 t.rbfw.toNat ++ leBytes 4 t.rbimg.toNat ++ leBytes 4 t.rbenv.toNat ++ [0, 0, 0, 0]
  body ++ bytesAt (Config.deviceSign body) 0 96

/-- ATTEST: the report describes the instant of the request; one that arrives while another is being answered gets none (R425, R434). -/
def execAttest (i : Fin 3) (tag : Word) (nonce : List Byte) (s : State) : Out :=
  let busy := s.tru.attest.isSome
  .next (s.serve i opAttest tag (some .read) true false fun s =>
    if nonce.length ≠ 32 then (s, .now .badreq)
    else if busy then (s, .now .busy)
    else (s.modTru fun t => { t with attest := some (i, tag, s.report400 nonce, s.mono) }, .later))

/-- R425: the report is signed and sent. -/
def execAttestationReportReady (s : State) : Out :=
  .next s.attestDone

/-! ### Firmware (R415, R434) -/

/-- R415: the package passes the checks of the boot ROM. -/
def Security.fwOk (t : Security) (b : List Byte) : Bool :=
  !b.isEmpty && Config.fwSigOk b && decide (t.rbfw.toNat ≤ (Config.fwRollback b).toNat) && Config.fwPart b == 0x6448#32

/-- RESULT of FW-WRITE: 0 pass, 1 signature, 2 ROLLBACK, 3 PART. -/
def Security.fwResult (t : Security) (b : List Byte) : Nat :=
  if !Config.fwSigOk b then 1 else if (Config.fwRollback b).toNat < t.rbfw.toNat then 2
  else if Config.fwPart b ≠ 0x6448#32 then 3 else 0

/-- The length of the package being written: the first chunk's TOTAL. -/
def Security.fwWhole (t : Security) (total : Word) : Nat := match t.fwTotal with | some f => f.2 | none => total.toNat

/-- A chunk that continues the package is taken; the last one has the package judged (DEDUCED, log 58). -/
def State.fwChunk (s : State) (i : Fin 3) (ofs total : Word) (b : List Byte) : State × Answer :=
  let whole := s.tru.fwWhole total
  if b.isEmpty ∨ 1048576 < b.length ∨ 33554432 < total.toNat ∨ total.toNat ≠ whole ∨ ofs.toNat ≠ s.tru.fwBuf.length
      ∨ whole < s.tru.fwBuf.length + b.length then (s, .now .badreq)
  else
    let p := s.tru.fwBuf ++ b
    if p.length < whole then
      (s.modTru fun t => { t with banks := t.banks.set t.idle.val [], fwTotal := some (i, whole), fwBuf := p }, .now .ok)
    else
      let n := s.tru.fwResult p
      (s.modTru fun t =>
        { t with banks := t.banks.set t.idle.val (if n = 0 then p else []), fwTotal := none, fwBuf := [] }, .now .ok (leBytes 4 n))

/-- FW-WRITE: a chunk of a package for the idle bank, which is erased from its first chunk until the package has passed. -/
def execFwWrite (i : Fin 3) (tag ofs total : Word) (b : List Byte) (s : State) : Out :=
  .next (s.serve i 0x0060 tag (some .service) false true fun s => s.fwChunk i ofs total b)

/-! ### Envelope certificate, anchors, counters (R414, R418 to R420, R434) -/

/-- ENV-WRITE: both copies take the certificate, for the next reset. -/
def execEnvWrite (i : Fin 3) (tag : Word) (cert : List Byte) (s : State) : Out :=
  .next (s.serve i 0x0061 tag (some .service) false false fun s =>
    if !certLayout cert then (s, .now .badreq)
    else if !certOk s.tru.anchors[2] s.tru.rbenv s.tru.serial cert then (s, .now .refused)
    else (s.modTru fun t => { t with env := Vector.replicate 2 cert, envpend := true }, .now .ok))

/-- ANCHOR-WRITE: the secure element takes the key, for the next reset; all zero empties the slot. -/
def execAnchorWrite (i : Fin 3) (tag slot : Word) (key : List Byte) (s : State) : Out :=
  .next (s.serve i 0x0062 tag (some .anchor) false false fun s =>
    let zero := key.all (· == 0)
    if slot = 0 ∨ 4 < slot.toNat ∨ key.length ≠ 97 ∨ (!zero ∧ key.headD 0 ≠ 4) then (s, .now .badreq)
    else
      let k := if zero then none else some key
      (s.modTru fun t => { t with stored := vmod t.stored (slot.toNat - 1) fun _ => k, ancpend := true }, .now .ok))

/-- The counter raised to a ROLLBACK value; never lowered (R420). -/
def raised (c r : Word) : Word := if c.toNat < r.toNat then r else c

/-- Table 17-7: the image switch that is due at this end of an output phase, if one is. -/
def State.dueSwitch (s : State) : State := if s.lnd.activate && s.switchPoint && s.holdReasons == 0 then s.switch true else s

/-- TRU.RBIMG to the ACTIVE image's ROLLBACK, unless FACTORY runs (R420). -/
def State.raiseRbimg (s : State) : State × Answer :=
  if s.eng.sys.mode.factory then (s, .now .refused)
  else
    let v := raised s.tru.rbimg (Container.rollback s.lnd.active)
    (s.modTru fun t => { t with rbimg := v }, .now .ok (leBytes 4 v.toNat))

/-- ADVANCE: RBFW to the running firmware's value, RBIMG to the ACTIVE image's, RBENV to the certificate's in force. An image switch that is
due at this end of an output phase completes first (Table 17-7), with Hinge's load taken as good (DESIGN CHOICE, log 141). -/
def execAdvance (i : Fin 3) (tag counter : Word) (s : State) : Out :=
  .next (s.serve i 0x0063 tag (some .service) false false fun s =>
    let t := s.tru
    match counter.toNat with
    | 1 =>
      let v := raised t.rbfw (Config.fwRollback t.running)
      (s.modTru fun t => { t with rbfw := v }, .now .ok (leBytes 4 v.toNat))
    | 2 => s.dueSwitch.raiseRbimg
    | 3 =>
      let v := raised t.rbenv (certRollback t.envUsed)
      (s.modTru fun t => { t with rbenv := v }, .now .ok (leBytes 4 v.toNat))
    | _ => (s, .now .badreq))

end Sys2Proof.Machine
end

