-- ==== Sys2Proof/Machine/StartOps.lean ====
section
/-! DEFINITION. Reset and boot: outputs in reset, what each start source keeps, and the boot sequence up to core up (chapter 19). -/

namespace Sys2Proof.Machine

/-- The start is a module reset: it restarts Hinge too (R457). -/
def StartSrc.module (c : StartSrc) : Bool := c != .supervisor

/-- R463, Table 19-4: a reset asserts: outputs take their reset state. A SUPERVISOR reset leaves the output side and Hinge running. -/
def State.assertReset (s : State) (src : StartSrc) : State :=
  let fio := s.fio
  let s := (s.endSessions.bridgesOffAll 0).outputsOff.headsOff
  let s := s.linesLow
  let s := if src.module then s.safetyStop else { s with fio := fio }.aResetLine.egressDrive
  let s := s.modPwrReg fun r => { r with temp := { r.temp with preheat := false } }
  let on := !src.module
  { s with boot := { s.boot with held := some src, up := false, recovery := false, starting := false, chilled := false, heating := false
                                 drives := { tpa := on, tpb := on } } }

/-! ### What a start keeps (R19, R39, R85, R149, R154, R232, R251, R254, R262, R316, R346, R357, R435, R457, R465) -/

/-- An axis: offsets, friction map and the position retained; it starts UNTRUSTED at that position, or at 0. A calibration that ran in the
idle window waits for it again (R154, R465). -/
def Axis.restart (o : Axis) (power orderly : Bool) : Axis :=
  let r := if orderly then o.retPos else none
  let n := r.getD 0
  let x : Axis := { pos := n, p0 := n, retPos := r, retTrust := if r.isSome then o.retTrust else .untrusted, rawHall := o.rawHall, rawAbz := o.rawAbz }
  let d : Axc := x.reg
  { x.place n with reg := { d with
      cal := { ofsok := o.reg.cal.ofsok, status := if o.reg.cal.status == .deferred || o.calPend || (o.reg.cal.status == .running && !o.startCal) then .deferred else .idle }, iofs := o.reg.iofs,
      fmap := if power then d.fmap else o.reg.fmap } }

/-- A portal: its counters since manufacture. -/
def Portal.restart (o : Portal) (p : PortalIx) : Portal :=
  let d : Prt := {}
  { reg := { d with cycles := o.reg.cycles, reopens := o.reg.reopens }.sideReset p }

/-- A load-switch channel: its switch-offs, a deferred test, the thermal latch, and, with the retention domain, Choker; `gone`: ms since
the last leak. -/
def LoadCh.restart (o : LoadCh) (power : Bool) (gone : Nat) : LoadCh :=
  let d : LoadCh := {}
  let x := { d with reg := { d.reg with swn := o.reg.swn, stat := { d.reg.stat with
    tlatch := o.reg.stat.tlatch, olt := if o.reg.stat.olt == .deferred || o.reg.stat.olt == .running then .deferred else .idle } } }
  if power then x else { x.setAcc (o.acc - o.reg.chkcfg.leak.toNat * gone) with choked := o.choked, clamping := o.clamping }

/-- A kerf engine: its models in flash, and a deferred relearn. `newBad`, `oldBad`: the copy fails its CRC (R173). -/
def Kerf.restart (o : Kerf) (newBad oldBad : Bool) : Kerf :=
  let k : Kerf := {
    model := if newBad then (if oldBad then none else o.older) else o.model
    older := if oldBad then none else o.older
    copyBad := o.copyBad || (newBad && (oldBad || o.older.isNone) && o.model.isSome)
    dropped := o.dropped && (o.reg.stat.lrn == .deferred || o.reg.stat.lrn == .running) }
  if o.reg.stat.lrn == .deferred || o.reg.stat.lrn == .running then k.modStat fun t => { t with lrn := .deferred } else k

/-- Field I/O: the wheel-pulse counters, and, over a SUPERVISOR reset, the output side with the word it holds and its thermal shutdowns;
what went silent or shut down meanwhile is shown (R252, R254). -/
def FieldIo.restart (o : FieldIo) (src : StartSrc) : FieldIo :=
  let d : FieldIo := {}
  let f := if src == .power then d else { d with reg := { d.reg with wpcnt := o.reg.wpcnt } }
  if src.module then f else { f with
    reg := { f.reg with focfg := { f.reg.focfg with fotmo := o.reg.focfg.fotmo }, fost2 := o.reg.fost2
                        foevt := { f.reg.foevt with silent := o.silent, tsd := o.reg.fost2.tsd != 0 } }
    rev := o.rev, pins := o.pins, word := o.word, safeHeld := o.safeHeld, fresh := o.fresh, silent := o.silent, cmdAt := o.cmdAt, off := o.off }

/-- The safety part at reset release `now`: over a SUPERVISOR reset Hinge and what it holds run on, and channel A starts afresh behind its
reset line. -/
def Safety.restart (o : Safety) (src : StartSrc) (now : Nat) : Safety :=
  if src.module then { a := { since := now }, h := { since := now }, winWr := now } else { o with a := o.a.afresh now, clIn := 0, whold := 0, ack := 0 }

/-- The Filif engine: the retained copies but for those that fail their CRC (`bad`, by their tags), forces, stop statistics, and over a wake the cycle number. -/
def Engine.restart (o : Engine) (src : StartSrc) (now : Nat) (bad : List (BitVec 16)) : Engine :=
  { retained := o.retained.filter fun c => !bad.contains (c.tag.setWidth 16), forces := o.forces, stopAt := now, frameAt := now, outEnd := now
    cycno := if src == .wake then o.cycno else 0, outCyc := if src == .wake then o.cycno else 0
    sys := { id := o.sys.id, stopn := o.sys.stopn } }

/-- Tally: flash, and the staging buffer with the records held and the count of lost ones while the retention domain held it; new records
wait for the START flush. -/
def Tally.restart (o : Tally) (power : Bool) : Tally :=
  let st := o.reg.stat
  { seq := o.seq, first := o.first, firstU := o.firstU, firstPad := o.firstPad, commSeq := o.commSeq, roll := o.roll, rollU := o.rollU
    rollPad := o.rollPad, spares := o.spares
    staging := if power then [] else o.staging, held := if power then [] else o.held, lost := if power then 0 else o.lost, starting := true
    reg := { stat := { st with flushing := false } } }

/-- R412: TAL.SEQ_HI and TAL.ROLLOLD_HI as a start leaves them latched for each requester. -/
def Tally.latches (t : Tally) : List (Nat × Nat × Word) :=
  ((List.range 8).map fun r =>
    [(r, 0xF0009008, BitVec.ofNat 32 (t.seq / 2 ^ 32)), (r, 0xF0009024, BitVec.ofNat 32 (t.rollOld / 2 ^ 32))]).flatten

/-- The journal: entries, connections and counters; the epoch rises at a first power, and what is measured from an instant of the old
count is measured from the start (DEDUCED, log 101). -/
def Journal.restart (o : Journal) (power : Bool) : Journal :=
  { entries := if power then o.entries.map fun e : Entry => { e with at_ := 0 } else o.entries
    conns := if power then o.conns.map fun r : Conn => { r with at_ := 0 } else o.conns
    jseq := o.jseq
    reg := { epoch := if power then satInc o.reg.epoch else o.reg.epoch } }

/-- Landing: the slots that are never in transit, and the holding copy (DEDUCED, log 67). -/
def Landing.restart (o : Landing) : Landing :=
  { active := o.active, previous := o.previous, factory := o.factory, holding := o.holding, reg := { swn := o.reg.swn } }

/-- Calendar time: restored from the RTC where it was valid; the UTC offset is retained, over a first power of the retention domain too
(DESIGN CHOICE, log 127). -/
def Tim.restart (o : Tim) (power : Bool) : Tim :=
  { utcofs := { seconds := o.utcofs.seconds, valid := false }
    src := if o.src.valid && !power then { state := .free, valid := true } else {} }

/-- The fabric's fault record: kept while the retention domain lives; the marks of failed MRAM devices always. -/
def Fab.restart (o : Fab) (power : Bool) : Fab :=
  if power then { lastf := { mram0 := o.lastf.mram0, mram1 := o.lastf.mram1 } }
  else { lastf := o.lastf, lasta := o.lasta, ecccnt := o.ecccnt, tocnt := o.tocnt }

/-- The supplies: statistics, what the last sleep left, and over a SUPERVISOR reset failed halves. -/
def Supply.restart (o : Supply) (src : StartSrc) (now : Nat) : Supply :=
  let r := o.reg
  let d : Pwr := {}
  { reg := { d with
      pf := r.pf, last := { d.last with pf := r.last.pf }, slpn := r.slpn, temp := r.temp
      slpt := if src == .wake then r.slpt else 0
      slpst := if src == .wake then { state := .awake, wakesrc := r.slpst.wakesrc, wakelvl := r.slpst.wakelvl } else {}
      hu := if src.module then {} else r.hu }
    testAt := now, rechargeAt := now, flushAt := now, wakeAt := now, admAt := now }

/-- The MRAM holds nothing that reads (R462): journal, forces, retained state and counters start from their reset values. -/
def State.mramLost (s : State) : State :=
  { s with
    eng := { s.eng with retained := [], forces := [], sys := { s.eng.sys with stopn := {} } }
    jnl := { s.jnl with entries := [], conns := [], jseq := 0, reg := { s.jnl.reg with epoch := 0 } }
    lnd := { s.lnd with holding := none, reg := { s.lnd.reg with swn := 0 } }
    tru := { s.tru with reg := {} }
    pwr := { s.pwr with reg := { s.pwr.reg with pf := {}, last := {}, slpn := 0 } }
    axes := s.axes.map fun x : Axis => { x.place 0 with
      pos := 0, p0 := 0, retPos := none, reg := { x.reg with cal := {}, iofs := {}, fmap := Vector.replicate 64 {} } }
    portals := s.portals.map fun q : Portal => { q with reg := { q.reg with cycles := 0, reopens := 0 } }
    ls := s.ls.map fun c : LoadCh => { c.modStat (fun t => { t with olt := .idle }) with reg := { c.reg with swn := 0, stat := { c.reg.stat with olt := .idle } } }
    kerf := s.kerf.map fun k : Kerf => k.modStat fun t => { t with lrn := .idle }
    tim := { s.tim with utcofs := {} }
    boot := { s.boot with reg := { s.boot.reg with cnt := {}, arst := {} } } }

/-! ### The checks of the boot ROM (R415, R418, R419, R458) -/

/-- R415: the firmware bank that starts, and whether the newer one was refused; none: RECOVERY. -/
def Security.chooseBank (t : Security) : Option (Fin 2 × Bool) :=
  let newer : Fin 2 :=
    if t.banks[0].isEmpty then 1 else if t.banks[1].isEmpty then 0 else if Config.fwNewer t.banks[1] t.banks[0] then 1 else 0
  if t.fwOk t.banks[newer.val] then some (newer, false)
  else if t.fwOk t.banks[(1 - newer).val] then some (1 - newer, true)
  else none

/-- Keys, counters, certificates: anchors as stored, the certificate in force, no session. -/
def Security.restart (o : Security) : Security :=
  let ok := certOk o.stored[2] o.rbenv o.serial
  let c := certChoice ok o.env[0] o.env[1]
  let t : Security :=
    { reg := o.reg, anchors := o.stored, stored := o.stored, rbfw := o.rbfw, rbimg := o.rbimg, rbenv := o.rbenv, serial := o.serial
      banks := o.banks, bank := o.bank, env := o.env, envUsed := c, envStat := certStat c, opened := o.opened }
  match t.chooseBank with
  | some (b, alt) => { t with bank := b, fwalt := alt }
  | none => t

/-- R20, R39, R262, R458: the state at the start of boot from `src`, before anything of the image is loaded (DEDUCED, log 65). -/
def State.restart (o : State) (src : StartSrc) (b : BootIn) : State :=
  let power := src == .power
  let now := if power then 0 else o.mono
  let nohalt := !o.boot.marker || src == .supervisor
  let k := o.boot.reg.cnt
  { mono := now
    tim := o.tim.restart power
    calBase := if power then 0 else o.runFree.calBase
    calAt := if power then 0 else o.runFree.calAt
    slew := if power then 0 else o.runFree.slew
    calPpb := 0
    fab := o.fab.restart power
    mem := if power then [] else o.mem
    eng := o.eng.restart src now b.badRetain
    tally := o.tally.restart power
    latch := (o.tally.restart power).latches
    axes := o.axes.map fun x => x.restart power (!nohalt)
    portals := Vector.ofFn fun p : Fin 16 => (o.portals[p.val]).restart p
    fel := if src.module then {} else { hflt := { lock := o.fel.hflt.lock } }
    sde := if src.module then Vector.replicate 2 false else o.sde
    ls := o.ls.map fun c => c.restart power (o.since o.lsg.leakAt / ms 1)
    lsg := { leakAt := if power then 0 else o.lsg.leakAt + o.since o.lsg.leakAt / ms 1 * ms 1 }
    kerf := Vector.ofFn fun p : Fin 16 => (o.kerf[p.val]).restart (b.newBad.getLsbD p.val) (b.oldBad.getLsbD p.val)
    fio := o.fio.restart src
    safe := o.safe.restart src now
    jnl := o.jnl.restart power
    lnd := o.lnd.restart
    tru := o.tru.restart
    pwr := o.pwr.restart src now
    boot :=
      { held := none, down := false, asleep := false, marker := false, relAt := now, chilled := false, drives := { o.boot.drives with lines := .low }, up := false, starting := false
        recovery := o.tru.restart.chooseBank.isNone, cold := src != .wake, calWait := true
        reg := { last := { src := src.code, nohalt := nohalt }, boot := {}
                 cnt := { supn := k.supn, nohaltn := if nohalt then satInc k.nohaltn else k.nohaltn }
                 arst := { n := o.boot.reg.arst.n } } }
    pending := o.pending
    sent := o.sent
    freeSeq := o.freeSeq }

/-! ### From the firmware's start to core up (Table 19-2) -/

/-- R28, R462: the MRAM devices read and compared. The spec names no source for a device found failed in this read; FAB.LASTF.SOURCE
shows 6, that of MRAM writes (DESIGN CHOICE, log 76). -/
def State.mramCheck (s : State) (b : BootIn) : State :=
  let sr := s.mramWrite b.mram0 b.mram1 6
  let s := sr.1
  let ok := sr.2
  if ok then s else s.mramLost

/-- R418: the envelope registers. -/
def State.loadEnvelope (s : State) : State :=
  s.forAll allAxes fun s a => s.modAxis a fun x => { x with reg := x.reg.envelope a s.tru.envUsed }

/-- R336 to R338: the image that runs: ACTIVE, or FACTORY, where the Porvar firmware key signed it (R415; else no program is loaded:
DESIGN CHOICE, log 123), with the configuration of the holding copy. Answers the PARAM and SAFE sections
in force; none: every portal counts as not fitted. -/
def State.loadActive (s : State) (holdingOk : Bool) : State × Option (List Byte × List Byte) :=
  let c := s.lnd.active
  let n := s.bootCode c
  if n = 0 then (s.modEng fun e => e.loadImage c, some (Container.sect c 4, Container.sect c 5))
  else
    let s := (s.modMode fun m => { m with factory := true }).modLnd fun l => l.modStat fun t => { t with fallbk := true }
    let s := (s.event 0x11 moduleUnit n).modEng fun e => e.loadImage (if Config.factorySigOk s.lnd.factory then s.lnd.factory else [])
    (s, if holdingOk then s.lnd.holding else none)

/-- R338, R339: no valid holding copy: no parameter set is locked, Hinge too takes every portal as not fitted, and both loops and both
enables open. -/
def State.noHolding (s : State) : State :=
  (s.modSafe fun f => { f with par := {}, locked := none, hFit := 0 }).safetyStop

/-- R184, R254, R266, R332, Table 19-4: the configuration is loaded, and, but at a SUPERVISOR reset, the outputs take SAFE and Hinge its
parameters. -/
def State.configure (s : State) (cfg : Option (List Byte × List Byte)) (hinge echo : Bool) : State :=
  match cfg with
  | none => s.imgReset.noHolding
  | some (param, safe) =>
    let q := safeParOf safe
    let s := (s.loadParam param).holdSafe
    if hinge then
      let s := (s.modSafe fun f => { f with par := q }).paramLoad q echo true s.portalMap
      s.modFio fun x => x.setPins (s.egressPins x.safeHeld)
    else s.modSafe fun f => { f with par := q }

/-- R404: staging is checked: bad records are dropped, the START flush takes the rest, then the LOST record and the held records are
staged, each once there is room. -/
def State.tallyStart (s : State) (bad : List Nat) : State :=
  let t := s.tally
  let good := t.staging.filter fun r => !bad.contains r.seq
  let n := t.staging.length - good.length
  let lost := if n = 0 then [] else [s.mkRec 4 (leBytes 2 moduleUnit ++ leBytes 2 2 ++ leBytes 4 n ++ leBytes 8 0)]
  s.modTally fun t => ({ t with staging := good, held := lost ++ t.held, badCrc := n }.trigger).settle s.mkRec

/-- G and its events at the loaded positions, the largest G since the frame end before (R161) among them; the kerf model is checked, and KRF.CFG and KRF.DET act (R47, R49, R173). -/
def State.portalStart (s : State) (p : PortalIx) : State :=
  let g := s.gapNow p
  (((s.modPortal p fun q => { q with g := g, reg := { q.reg with gap := gapUnits g } }).modKerf p fun k =>
    { k with gmax := (gapUnits g).toNat }).armGaps p).modelCheck p |>.kerfSync p

/-- R154, R465: the start-up calibration of an axis; a deferred request waits behind it (DEDUCED, log 66). -/
def State.startCal (s : State) (a : AxisIx) : State :=
  if s.fitted a && (s.axis a).reg.mot.kind != 0 then
    (s.calStart a).modAxis a fun x => { x with startCal := true, calPend := (s.axis a).reg.cal.status == .deferred }
  else s

/-- Table 19-2 up to core up, and the calibration that follows. -/
def State.bootUp (o : State) (src : StartSrc) (b : BootIn) : State :=
  let s := (o.restart src b).loadEnvelope
  let s := s.modPwrReg fun r => { r with temp := { r.temp with tcs := b.tcs }, ctl := { r.ctl with v := b.ctl } }
  if s.boot.recovery then (s.mramCheck b).safetyStop else
  let s := s.modSys fun y => { y with id := { y.id with fwver := Config.fwVersion s.tru.running } }
  let s := s.mramCheck b
  let sr := s.loadActive b.holding
  let s := sr.1
  let cfg := sr.2
  let s := s.configure cfg src.module b.echo
  let s := (s.forAll allPortals State.portalStart).dropRequests
  let s := s.pass (ms b.coreMs.toNat)
  let s := { s with boot := { s.boot with
    up := true, starting := true, reg := { s.boot.reg with boot := { core := b.coreMs, run := 0 } }
    drives := { tpa := true, tpb := true, fs5 := true, lines := .active, bus := true } } }
  let s := s.modFel fun f => { f with hpwr := { f.hpwr with pcore := b.pcore } }
  let s := if src = .power ∨ src = .restart then s.mbusCharge else s
  let s := ((s.tallyStart b.badStaged).redeliver.reportAll).headWaitAll
  let s := (s.forAll allAxes State.startCal).forAll allAxes State.bridgeEval
  let s := s.forAll allPortals State.outputLines
  (((s.forAll allChans State.lsEval).sdeEval).zspEval).groupEval

end Sys2Proof.Machine
end

