-- ==== Sys2Proof/Machine/SupplyCmd.lean ====
section
/-! DEFINITION. The events of the supplies, the hold-up bank, the head supplies and sleep (chapter 18). Voltages are in 0.1 V, energies
in 0.1 J, the length of a power-fail sequence in 0.1 ms. -/

namespace Sys2Proof.Machine

/-- PWR.CTL, PWR.MBUS, PWR.HU and PWR.EVT changed. -/
def Pwr.modCtl (r : Pwr) (f : PwrCtl → PwrCtl) : Pwr := { r with ctl := f r.ctl }
@[inherit_doc Pwr.modCtl] def Pwr.modMbus (r : Pwr) (f : PwrMbus → PwrMbus) : Pwr := { r with mbus := f r.mbus }
@[inherit_doc Pwr.modCtl] def Pwr.modHu (r : Pwr) (f : PwrHu → PwrHu) : Pwr := { r with hu := f r.hu }
@[inherit_doc Pwr.modCtl] def Pwr.modEvt (r : Pwr) (f : PwrEvt → PwrEvt) : Pwr := { r with evt := f r.evt }

/-! ### Inputs (R437 to R439) -/

/-- R437: CTL below 14.0 V for 10 ms. -/
def execCtlLow (v : BitVec 12) (s : State) : Out :=
  if !s.online then .next s else
  .next (if v.toNat < 140 then
    s.modPwrReg fun r =>
      (r.modCtl fun c => { c with v := v, lowmot := true }).modEvt fun e => { e with lowmot := e.lowmot || !r.ctl.lowmot }
  else s)

/-- R437: CTL below 14.0 V for 50 ms: every head supply goes off. -/
def execHeadShed (s : State) : Out :=
  if !s.online then .next s else
  .next (if s.pwr.reg.ctl.lowmot then
    let on := s.fel.hstat.on
    ((s.modFel fun f => { f with hstat := { f.hstat with on := 0 } }).modPwr fun w => { w with shed := w.shed ||| on }).modPwrReg fun r =>
      r.modEvt fun e => { e with shed := true }
  else s)

/-- R437, R446: CTL at or above 15.0 V for 1 s: shed heads wait for admission again. -/
def execLowmotClear (v : BitVec 12) (s : State) : Out :=
  if !s.online then .next s else
  .next (if s.pwr.reg.ctl.lowmot ∧ 150 ≤ v.toNat then
    let w := s.pwr.shed
    let s := (s.modPwrReg fun r => r.modCtl fun c => { c with v := v, lowmot := false }).modPwr fun p => { p with shed := 0 }
    (s.forAll (allPortals.filter fun p => w.getLsbD p.val) State.headWait).headAdmit
  else s)

/-- R438: CTL above 137.5 V. -/
def execCtlOvervoltage (v : BitVec 12) (s : State) : Out :=
  if !s.online then .next s else
  .next (if 1375 < v.toNat then
    s.modPwrReg fun r => (r.modCtl fun c => { c with v := v, ov := true }).modEvt fun e => { e with ctlov := true }
  else s)

/-- R439: MBUS below 16.8 V, above 154 V, or reversed, when the voltage reads 0. -/
def execMbusFault (v : BitVec 12) (rev : Bool) (s : State) : Out :=
  if !s.online then .next s else
  .next (s.modPwrReg fun r =>
    if rev then (r.modMbus fun m => { m with v := 0, rev := true }).modEvt fun e => { e with mbrev := true }
    else if v.toNat < 168 then (r.modMbus fun m => { m with v := v, uv := true }).modEvt fun e => { e with mbuv := true }
    else if 1540 < v.toNat then (r.modMbus fun m => { m with v := v, ov := true }).modEvt fun e => { e with mbov := true }
    else r)

/-- R439: the mean MBUS current over 60 s is above 40 A. -/
def execMbusOvercurrent (s : State) : Out :=
  if !s.online then .next s else .next (s.modPwrReg fun r => r.modEvt fun e => { e with mboc := true })

/-- R236, R438, R439: a supply fault ends at the voltage `v`. MBUS back from low or reversed charges its capacitors. -/
def execSupplyFaultEnd (f : SupplyFault) (v : BitVec 12) (s : State) : Out :=
  if !s.online then .next s else
  let n := v.toNat
  .next (match f with
    | .ctlOv => if n ≤ 1375 then s.modPwrReg fun r => r.modCtl fun c => { c with v := v, ov := false } else s
    | .mbusUv => if 168 ≤ n then s.mbusCharge.modPwrReg fun r => r.modMbus fun m => { m with v := v, uv := false } else s
    | .mbusOv => if n ≤ 1540 then s.modPwrReg fun r => r.modMbus fun m => { m with v := v, ov := false } else s
    | .mbusRev => s.mbusCharge.modPwrReg fun r => r.modMbus fun m => { m with v := v, rev := false }
    | .albOv => if n ≤ 1540 then s.supplyEnd 15 fun b => { b with v := v, ovw := false } else s)

/-! ### Hold-up bank (R440 to R443) -/

/-- No half is healthy. -/
def State.noHalf (s : State) : Bool := s.pwr.reg.hu.noHalf

/-- The power-fail sequence from S, with every store issued before it written; the interruption is over with it. -/
def State.powerFailNow (s : State) (len : BitVec 16) : State :=
  let s := s.drainAll.powerFail len
  (s.modPwr fun w => { w with intrAt := none }).pass (40000 * len.toNat)

/-- R440, R442: CTL below 5.5 V: the bank carries the load; without a healthy half the power-fail sequence starts at once. -/
def execCtlInterruption (v : BitVec 12) (len : BitVec 16) (s : State) : Out :=
  .next (if s.boot.down ∨ s.pwr.intrAt.isSome ∨ 55 ≤ v.toNat then s else
    let s := s.modPwrReg fun r => r.modCtl fun c => { c with v := v, hu := true }
    let s := s.modPwr fun w => { w with intrAt := some s.mono }
    if s.noHalf then s.powerFailNow len else s)

/-- R440: CTL is at or above 6.0 V again, `lasted` ticks after it fell; the interruption has been ridden through. `ea`, `eb`: the energy
of the halves. -/
def execInterruptionEnd (v : BitVec 12) (lasted : Nat) (ea eb : BitVec 8) (s : State) : Out :=
  match s.pwr.intrAt with
  | none => .next s
  | some t =>
    let s' := s.upTo (t + lasted)
    let n := s'.since t
    if v.toNat < 60 ∨ ms 10 < n then .next s
    else
      let s := s'.modPwrReg fun r =>
        { (((r.modCtl fun c => { c with v := v, hu := false }).modEvt fun e => { e with intr := true }).modHu fun h =>
            { h with ea := ea, eb := eb, chg := true }) with
          pf := { r.pf with intrn := satInc r.pf.intrn }, last := { r.last with intr := satNat 16 (n / 40000) } }
      .next (s.modPwr fun w => { w with intrAt := none, rechargeAt := s.mono })

/-- R440, R443: 10 ms of interruption have passed, or, with `reserve`, the healthiest half is at its reserve. -/
def execPowerFailStart (reserve : Bool) (len : BitVec 16) (s : State) : Out :=
  match s.pwr.intrAt with
  | none => .next s
  | some t =>
    if s.boot.down then .next s
    else .next ((if reserve then s else s.upTo (t + ms 10)).powerFailNow len)

/-- R441: a half has failed: it is isolated and reported; with both gone R442 holds. -/
def State.failHalf (s : State) (b : Bool) : State :=
  if (if b then s.pwr.reg.hu.failb else s.pwr.reg.hu.faila) then s else
  let s := s.modPwrReg fun r =>
    (r.modHu fun h => if b then { h with failb := true, eb := 0 } else { h with faila := true, ea := 0 }).modEvt fun e =>
      { e with hufail := true }
  if s.pwr.reg.hu.faila && s.pwr.reg.hu.failb then (s.modPwrReg fun r => r.modHu fun h => { h with noHalf := true }).modPwr fun w => { w with flushAt := s.mono } else s

/-- R441: the test of each half that has not failed, at each start and every 10 min, but not in an interruption or the recharge after one.
A half that passes is healthy, and R442 no longer holds. -/
def execHoldupTest (ea eb : BitVec 8) (s : State) : Out :=
  if !s.online then .next s else
  if s.pwr.intrAt.isSome then .next s
  else
    let s := s.upTo (max (if s.pwr.startTest then 0 else s.pwr.testAt + sec 600) (if s.pwr.reg.hu.chg then s.pwr.rechargeAt + sec 2 else 0))
    let s := (s.modPwrReg fun r => r.modHu fun h =>
      { h with
             ea := if h.faila then h.ea else ea, eb := if h.failb then h.eb else eb, chg := false,
             noHalf := h.faila && h.failb }).modPwr fun w =>
        { w with testAt := s.mono, startTest := false }
    let s := if ea.toNat < 72 then s.failHalf false else s
    .next (if eb.toNat < 72 then s.failHalf true else s)

/-- R441, R455: a half is found open, shorted or weak; both gone during an interruption start the power-fail sequence. -/
def execHalfFailure (hub : Bool) (len : BitVec 16) (s : State) : Out :=
  if !s.online then .next s else
  let s := s.failHalf hub
  .next (if s.noHalf && s.pwr.intrAt.isSome then s.powerFailNow len else s)

/-- R442: with no healthy half a flush is asked for every 10 ms. -/
def execNoHalfFlush (s : State) : Out :=
  if !s.online then .next s else
  .next (if s.pwr.reg.hu.noHalf then
    let s := s.upTo (s.pwr.flushAt + ms 10)
    (s.modPwr fun w => { w with flushAt := s.mono }).flush
  else s)

/-! ### Head supplies (R446, R447) -/

/-- R446: the evaluation every 10 ms; `pcore`: the converter's measured input power without the heads, W. -/
def execHeadAdmission (pcore : BitVec 12) (s : State) : Out :=
  if !s.online then .next s else
  let s := (s.upTo (s.pwr.admAt + ms 10)).modPwr fun w => { w with admAt := s.mono }
  .next (s.modFel fun f => { f with hpwr := { f.hpwr with pcore := pcore } }).headAdmit

/-- R447: a head supply has been in current limit for 20 ms: off, and locked off at a second trip within 60 s (DEDUCED, log 63). -/
def execHeadTrip (p : PortalIx) (s : State) : Out :=
  if !s.online then .next s else
  .next (if s.fel.hstat.on.getLsbD p.val then
    let again : Bool := match s.pwr.tripAt[p.val] with | some t => decide (s.since t ≤ sec 60) | none => false
    let s := s.modFel fun f =>
      { f with hstat := { f.hstat with on := bit16 f.hstat.on p.val false }
               hflt := { trip := bit16 f.hflt.trip p.val true, lock := bit16 f.hflt.lock p.val (again || f.hflt.lock.getLsbD p.val) } }
    let retry : Option Nat := match again with | true => none | false => some s.mono
    let s := s.modPwr fun w =>
      { w with tripAt := w.tripAt.set p.val (some s.mono), retryAt := w.retryAt.set p.val retry }
    s.modPwrReg fun r => r.modEvt fun e => { e with htrip := true }
  else s)

/-- R447: 5 s after a trip the supply waits for admission again. -/
def execHeadRetry (p : PortalIx) (s : State) : Out :=
  if !s.online then .next s else
  match s.pwr.retryAt[p.val] with
  | some t => .next ((((s.upTo (t + sec 5)).modPwr fun w => { w with retryAt := w.retryAt.set p.val none }).headWait p).headAdmit)
  | none => .next s

/-! ### Cold start and sleep (R449 to R453) -/

/-- R449: the control section has warmed: −40.0 °C for the S variant, −38.0 °C and the end of the pre-heat of `len` s for the X variant. -/
def execPreheatComplete (tcs : BitVec 8) (len : BitVec 16) (s : State) : Out :=
  let x := s.eng.sys.id.variant == 1
  .next (if s.releases.isSome ∧ (!x ∨ s.boot.heating) ∧ (if x then -38 else -40) ≤ tcs.toInt then
    let s := s.modPwrReg fun r => { r with temp := { tcs := tcs, preheat := x, pht := if x then len else r.temp.pht } }
    { s with boot := { s.boot with heating := false, chilled := false } }
  else s)

/-- R450: every enabled wake input has been off for SLPDLY; `lvl`: the levels of the inputs. -/
def execAutoSleep (lvl : BitVec 4) (s : State) : Out :=
  if !s.online then .next s else
  let c := s.pwr.reg.slpcfg
  .next (if c.autoslp && lvl &&& c.wakeen == 0 then
    let s := s.modPwrReg fun r => { r with slpst := { r.slpst with wakelvl := lvl } }
    (s.upTo (s.pwr.wakeAt + sec c.slpdly.toNat)).drainAll.sleepRequest
  else s)

/-- R450, R451: a DEFERRED request: the three conditions hold. -/
def execSleepEntry (s : State) : Out :=
  if !s.online then .next s else
  .next (if s.pwr.reg.slpst.state = .deferred ∧ s.sleepReady then s.drainAll.sleepEnter else s)

/-- R20, R453: a wake: `src` qualified, `lvl` are the levels, and the sleep lasted `rtc` periods of the RTC. The start follows
(DEDUCED, log 64). -/
def execWake (src lvl : BitVec 4) (rtc : Nat) (s : State) : Out :=
  let w := src &&& s.pwr.reg.slpcfg.wakeen
  .next (if s.boot.asleep ∧ w ≠ 0 then
    let s := s.runFree.pass (12207 * rtc)
    let s := s.modPwrReg fun r =>
      { r with slpst := { r.slpst with wakesrc := w, wakelvl := lvl }, slpt := satNat 32 (rtc / 32768)
               temp := { r.temp with preheat := false } }
    let s := s.modPwr fun p => { p with wakeAt := s.mono }
    { s with boot := { s.boot with held := some .wake, asleep := false, chilled := false, heating := false, drives := {} } }
  else s)

/-- R452, R457: the retention domain loses its power: the next start is a POWER, and no pre-heater has run before it (R449). -/
def execRetentionLoss (s : State) : Out :=
  .next (if s.boot.down then
    { s.modPwrReg (fun r => { r with temp := { r.temp with preheat := false } }) with
      boot := { s.boot with held := some .power, asleep := false } }
  else s)

end Sys2Proof.Machine
end

