-- ==== Sys2Proof/Machine/StartCmd.lean ====
section
/-! DEFINITION. The events of reset and start-up (chapter 19), and the session's RESET (R434). -/

namespace Sys2Proof.Machine

/-- RESET: it is answered, the session closes, and a SERVICE reset follows. -/
def execReset (i : Fin 3) (tag : Word) (s : State) : Out :=
  let ok : Bool := match s.tru.sessions[i.val] with | some e => i.val == 0 && e.has .service | none => false
  let s := s.serve i 0x0021 tag (some .service) false true fun s => (s, .now .ok)
  match ok with
  | true => .next ((s.endSession i).assertReset .service)
  | false => .next s

/-- R428: the supervisor watchdog has expired: the controller die resets, and Hinge holds what channel A last drove. -/
def execSupervisorWatchdog (s : State) : Out :=
  if s.boot.held.isSome ∨ s.boot.down then .next s
  else
    let s := s.modTru fun t => { t with reg := { wdn := satInc t.reg.wdn } }
    let k := s.boot.reg.cnt
    let s := { s with boot := { s.boot with reg := { s.boot.reg with cnt := { k with supn := satInc k.supn } } } }
    .next (s.assertReset .supervisor)

/-- R449, R459, R462: reset is released and the boot sequence runs to core up, but not below −40.0 °C, nor, where an X variant began below
that, below −38.0 °C; its pre-heater runs while CTL is at or above 16.8 V (DEDUCED, log 71). A RESTART comes 100 ms after the orderly halt at
the earliest, and after 2 s the retention domain is lost (R19, R444, R457; DEDUCED, log 64). -/
def execResetRelease (b : BootIn) (s : State) : Out :=
  match s.releases with
  | none => .next s
  | some src =>
    if b.tcs.toInt < (if s.boot.chilled then -38 else -40) then
      let s := s.modPwrReg fun r => { r with temp := { r.temp with tcs := b.tcs } }
      let x := s.eng.sys.id.variant == 1
      .next { s with boot := { s.boot with drives := { s.boot.drives with lines := .low }, chilled := x, heating := x && decide (168 ≤ b.ctl.toNat) } }
    else if src = .restart then
      .next ((s.runFree.pass (12207 * max b.rtc 3277)).bootUp (if 65536 < b.rtc then .power else src) b)
    else .next (s.bootUp src b)

/-- R459: entry to RUN waits for the safety mode and the calibration; `reserve`: a hold-up half has its 5.0 J. At a POWER start the
reserve is waited for too, for 5 s at most. Where no parameter set is locked, RUN is reached though START stays (R338, R462; DEDUCED,
log 116). -/
def execStartupRunEntry (reserve : Bool) (s : State) : Out :=
  if !s.online then .next s else
  if !s.boot.starting ∨ s.mode ≠ .stop then .next s
  else
    let f := s.safe
    let safe := f.mode != .start || (f.locked.isNone && f.a.tested && f.h.tested)
    let ready := safe && !s.startCals
    let power := s.boot.reg.last.src == 0
    if !ready then .next { s with boot := { s.boot with calWait := true } }
    else if power && !reserve && decide (s.since s.boot.relAt < sec 5) then .next { s with boot := { s.boot with calWait := false } }
    else
      let s := if power && !reserve then
          (s.modPwrReg fun r => r.modHu fun h => { h with noHalf := true }).modPwr fun w => { w with flushAt := s.mono }
        else s
      let r := s.boot.reg
      let s := { s with boot := { s.boot with
        starting := false
        reg := { r with last := { r.last with bankwait := power && !s.boot.calWait }
                        boot := { r.boot with run := satNat 12 (s.since s.boot.relAt / ms 1) } } } }
      .next (s.enterRun s.boot.cold)

/-- The loop switches of a channel: HS of each side are channel A's, LS Hinge's. -/
def ownSwitches (ch : SafeCh) : BitVec 4 := match ch with | .a => 0x5 | .h => 0xA

/-- R460: a channel's tests of its own switches, once after a module reset: `stuck` and `noclose` name those that fail, the loop switches in
bits 0 to 3, SDE-L and SDE-R in bits 4 and 5. -/
def State.switchTests (s : State) (ch : SafeCh) (stuck noclose : BitVec 6) : State :=
  if (s.safe.ch ch).swDone then s else
  let bad := fun (m : BitVec 6) => (List.finRange 4).filter fun i => (ownSwitches ch).getLsbD i.val && m.getLsbD i.val
  let s := s.forAll (bad stuck) fun s i => s.switchFault i true
  let s := s.forAll (bad (noclose &&& ~~~stuck)) fun s i => s.switchFault i false
  (s.modSafe fun f =>
    let f := f.modCh ch fun c => { c with swDone := true, sdeBad := (stuck ||| noclose).extractLsb' 4 2 }
    { f with swTests := f.a.swDone && f.h.swDone && f.stuck == 0 && f.noclose == 0 }).sdeTest ch

/-- R460, R461: a channel's start-up self-test ends, and with it the tests of its switches; or channel A's restart tests after its own reset
end (R213) (DEDUCED, log 48). -/
def execStartUpSelfTestComplete (ch : SafeCh) (pass : Bool) (stuck noclose : BitVec 6) (s : State) : Out :=
  if !s.guarded then .next s else
  let set := fun (s : State) (f : Channel → Channel) => s.modSafe fun y => y.modCh ch f
  if ch = .a ∧ s.safe.aReset then
    let s := s.modSafe fun f => { f with aReset := false }
    if pass then
      let s := (set s fun c => { c.afresh s.mono with tested := true, gridAt := s.mono }).groupEval.switchTests ch stuck noclose
      .next (if s.safe.mode = .resync then s else s.absenceEnd)
    else .next ((set s fun c => { c with failed := true }).channelGone .a).absenceEnd
  else if s.safe.mode ≠ .start ∨ (s.safe.ch ch).tested ∨ (s.safe.ch ch).failed then .next s
  else if !pass then .next (set s fun c => { c with failed := true })
  else
    .next ((set s fun c => { c with tested := true, gridAt := s.mono }).switchTests ch stuck noclose)

end Sys2Proof.Machine
end

