-- ==== Sys2Proof/Machine/TallyCmd.lean ====
section
/-! DEFINITION. The commands of Tally that no session carries (chapter 16). -/

namespace Sys2Proof.Machine

/-- R403: a write of TAL.CTL.FLUSH. -/
def execTalFlush (s : State) : Out :=
  if !s.online then .next s else .next s.flush

/-- R400 to R403, R407: the running flush completes; blocks of flash that wore out were replaced, and pages of FIRST that failed their
verification were written again. -/
def execTallyFlushComplete (wear : FlushWear) (s : State) : Out :=
  if !s.online then .next s else
  .next (s.modTally fun t => (t.flushDone wear s.mkRec).settle s.mkRec)

/-- R410: a store of the executing context to the emission port's GO word. -/
def execEmissionGo (w : Word) (s : State) : Out :=
  .next (if s.ready then s.emissionGo s.eng.cur w else s)

end Sys2Proof.Machine
end

