-- ==== Sys2Proof/Machine/Dispatch.lean ====
section
/-! DEFINITION. One arm per command: each calls its own meaning. -/

namespace Sys2Proof.Machine

def exec (i : Instr) (s : State) : Host.Outcome State Fault Refusal :=
  match i with
  | .add d a b => Sys2Proof.Machine.execAdd d a b s
  | .adc d a b => Sys2Proof.Machine.execAdc d a b s
  | .sub d a b => Sys2Proof.Machine.execSub d a b s
  | .sbc d a b => Sys2Proof.Machine.execSbc d a b s
  | .cmp a b => Sys2Proof.Machine.execCmp a b s
  | .neg d a => Sys2Proof.Machine.execNeg d a s
  | .and_ d a b => Sys2Proof.Machine.execAnd d a b s
  | .or_ d a b => Sys2Proof.Machine.execOr d a b s
  | .xor_ d a b => Sys2Proof.Machine.execXor d a b s
  | .andn d a b => Sys2Proof.Machine.execAndn d a b s
  | .tst a b => Sys2Proof.Machine.execTst a b s
  | .not_ d a => Sys2Proof.Machine.execNot d a s
  | .mov d a => Sys2Proof.Machine.execMov d a s
  | .sel d a b => Sys2Proof.Machine.execSel d a b s
  | .shl d a b => Sys2Proof.Machine.execShl d a b s
  | .shr d a b => Sys2Proof.Machine.execShr d a b s
  | .sar d a b => Sys2Proof.Machine.execSar d a b s
  | .ror d a b => Sys2Proof.Machine.execRor d a b s
  | .mins d a b => Sys2Proof.Machine.execMins d a b s
  | .maxs d a b => Sys2Proof.Machine.execMaxs d a b s
  | .minu d a b => Sys2Proof.Machine.execMinu d a b s
  | .maxu d a b => Sys2Proof.Machine.execMaxu d a b s
  | .adds d a b => Sys2Proof.Machine.execAdds d a b s
  | .subs d a b => Sys2Proof.Machine.execSubs d a b s
  | .mul d a b => Sys2Proof.Machine.execMul d a b s
  | .mulh d a b => Sys2Proof.Machine.execMulh d a b s
  | .mulhu d a b => Sys2Proof.Machine.execMulhu d a b s
  | .div d a b => Sys2Proof.Machine.execDiv d a b s
  | .divu d a b => Sys2Proof.Machine.execDivu d a b s
  | .rem d a b => Sys2Proof.Machine.execRem d a b s
  | .remu d a b => Sys2Proof.Machine.execRemu d a b s
  | .addi d a imm => Sys2Proof.Machine.execAddi d a imm s
  | .cmpi a imm => Sys2Proof.Machine.execCmpi a imm s
  | .andi d a imm => Sys2Proof.Machine.execAndi d a imm s
  | .ori d a imm => Sys2Proof.Machine.execOri d a imm s
  | .xori d a imm => Sys2Proof.Machine.execXori d a imm s
  | .lui d imm => Sys2Proof.Machine.execLui d imm s
  | .shi d a imm => Sys2Proof.Machine.execShi d a imm s
  | .tsti a imm => Sys2Proof.Machine.execTsti a imm s
  | .ldw d a imm flt => Sys2Proof.Machine.execLdw d a imm flt s
  | .ldh d a imm flt => Sys2Proof.Machine.execLdh d a imm flt s
  | .ldhu d a imm flt => Sys2Proof.Machine.execLdhu d a imm flt s
  | .ldb d a imm flt => Sys2Proof.Machine.execLdb d a imm flt s
  | .ldbu d a imm flt => Sys2Proof.Machine.execLdbu d a imm flt s
  | .stw d a imm => Sys2Proof.Machine.execStw d a imm s
  | .sth d a imm => Sys2Proof.Machine.execSth d a imm s
  | .stb d a imm => Sys2Proof.Machine.execStb d a imm s
  | .storeDrain flt => Sys2Proof.Machine.execStoreDrain flt s
  | .cld bit a imm flt => Sys2Proof.Machine.execCld bit a imm flt s
  | .cldn bit a imm flt => Sys2Proof.Machine.execCldn bit a imm flt s
  | .cand bit a imm flt => Sys2Proof.Machine.execCand bit a imm flt s
  | .candn bit a imm flt => Sys2Proof.Machine.execCandn bit a imm flt s
  | .cor bit a imm flt => Sys2Proof.Machine.execCor bit a imm flt s
  | .corn bit a imm flt => Sys2Proof.Machine.execCorn bit a imm flt s
  | .cxor bit a imm flt => Sys2Proof.Machine.execCxor bit a imm flt s
  | .cst bit a imm flt => Sys2Proof.Machine.execCst bit a imm flt s
  | .cstn bit a imm flt => Sys2Proof.Machine.execCstn bit a imm flt s
  | .cset bit a imm flt => Sys2Proof.Machine.execCset bit a imm flt s
  | .crst bit a imm flt => Sys2Proof.Machine.execCrst bit a imm flt s
  | .rld a bit => Sys2Proof.Machine.execRld a bit s
  | .rldn a bit => Sys2Proof.Machine.execRldn a bit s
  | .rand a bit => Sys2Proof.Machine.execRand a bit s
  | .randn a bit => Sys2Proof.Machine.execRandn a bit s
  | .rorContact a bit => Sys2Proof.Machine.execRorContact a bit s
  | .rorn a bit => Sys2Proof.Machine.execRorn a bit s
  | .rxor a bit => Sys2Proof.Machine.execRxor a bit s
  | .rst d bit => Sys2Proof.Machine.execRst d bit s
  | .rstn d bit => Sys2Proof.Machine.execRstn d bit s
  | .rset d bit => Sys2Proof.Machine.execRset d bit s
  | .rrst d bit => Sys2Proof.Machine.execRrst d bit s
  | .bnot => Sys2Proof.Machine.execBnot s
  | .bone => Sys2Proof.Machine.execBone s
  | .bzero => Sys2Proof.Machine.execBzero s
  | .bcc cond => Sys2Proof.Machine.execBcc cond s
  | .bget d => Sys2Proof.Machine.execBget d s
  | .bput a => Sys2Proof.Machine.execBput a s
  | .br cond ofs => Sys2Proof.Machine.execBr cond ofs s
  | .brl cond ofs => Sys2Proof.Machine.execBrl cond ofs s
  | .jr a => Sys2Proof.Machine.execJr a s
  | .jrl d a => Sys2Proof.Machine.execJrl d a s
  | .nop => Sys2Proof.Machine.execNop s
  | .eoc => Sys2Proof.Machine.execEoc s
  | .retc => Sys2Proof.Machine.execRetc s
  | .rdf d => Sys2Proof.Machine.execRdf d s
  | .wrf a => Sys2Proof.Machine.execWrf a s
  | .fence => Sys2Proof.Machine.execFence s
  | .commit d a flt => Sys2Proof.Machine.execCommit d a flt s
  | .bmove d a => Sys2Proof.Machine.execBmove d a s
  | .trun d tag => Sys2Proof.Machine.execTrun d tag s
  | .tpre d tag => Sys2Proof.Machine.execTpre d tag s
  | .tres tag => Sys2Proof.Machine.execTres tag s
  | .edr tag => Sys2Proof.Machine.execEdr tag s
  | .edf tag => Sys2Proof.Machine.execEdf tag s
  | .edlf tag => Sys2Proof.Machine.execEdlf tag s
  | .ccu d tag => Sys2Proof.Machine.execCcu d tag s
  | .ccd d tag => Sys2Proof.Machine.execCcd d tag s
  | .cload d tag => Sys2Proof.Machine.execCload d tag s
  | .cres d tag => Sys2Proof.Machine.execCres d tag s
  | .cpre d tag => Sys2Proof.Machine.execCpre d tag s
  | .lev d tag => Sys2Proof.Machine.execLev d tag s
  | .rtgt d tag => Sys2Proof.Machine.execRtgt d tag s
  | .rrate d tag => Sys2Proof.Machine.execRrate d tag s
  | .rrun d tag => Sys2Proof.Machine.execRrun d tag s
  | .rampRset d tag => Sys2Proof.Machine.execRampRset d tag s
  | .tadr d tag => Sys2Proof.Machine.execTadr d tag s
  | .mtgt d a k flt => Sys2Proof.Machine.execMtgt d a k flt s
  | .mleaf d a k flt => Sys2Proof.Machine.execMleaf d a k flt s
  | .mvlim d a k => Sys2Proof.Machine.execMvlim d a k s
  | .mcmd d a k => Sys2Proof.Machine.execMcmd d a k s
  | .pcmd d a k => Sys2Proof.Machine.execPcmd d a k s
  | .mstat d k => Sys2Proof.Machine.execMstat d k s
  | .mpos d k => Sys2Proof.Machine.execMpos d k s
  | .bhit d k => Sys2Proof.Machine.execBhit d k s
  | .brearm d a k => Sys2Proof.Machine.execBrearm d a k s
  | .lsw d a k flt => Sys2Proof.Machine.execLsw d a k flt s
  | .lswb d k flt => Sys2Proof.Machine.execLswb d k flt s
  | .trec d a k => Sys2Proof.Machine.execTrec d a k s
  | .tword d a k => Sys2Proof.Machine.execTword d a k s
  | .mbsend d a k => Sys2Proof.Machine.execMbsend d a k s
  | .mbrecv d a k => Sys2Proof.Machine.execMbrecv d a k s
  | .mbstat d k => Sys2Proof.Machine.execMbstat d k s
  | .registerWrite ctx addr w => Sys2Proof.Machine.execRegisterWrite ctx addr w s
  | .loHalfRead ctx addr => Sys2Proof.Machine.execLoHalfRead ctx addr s
  | .rcFieldRead ctx addr => Sys2Proof.Machine.execRcFieldRead ctx addr s
  | .edgeQueueRead ctx => Sys2Proof.Machine.execEdgeQueueRead ctx s
  | .emissionGo w => Sys2Proof.Machine.execEmissionGo w s
  | .cmdStop x => Sys2Proof.Machine.execCmdStop x s
  | .cmdHalt x => Sys2Proof.Machine.execCmdHalt x s
  | .cmdReref x => Sys2Proof.Machine.execCmdReref x s
  | .cmdDisable x => Sys2Proof.Machine.execCmdDisable x s
  | .cmdEnable x => Sys2Proof.Machine.execCmdEnable x s
  | .blzrearm x w => Sys2Proof.Machine.execBlzrearm x w s
  | .fmapClear x => Sys2Proof.Machine.execFmapClear x s
  | .calReq x => Sys2Proof.Machine.execCalReq x s
  | .giveupClear p => Sys2Proof.Machine.execGiveupClear p s
  | .krfOpen p => Sys2Proof.Machine.execKrfOpen p s
  | .krfLearn p => Sys2Proof.Machine.execKrfLearn p s
  | .krfSnap p => Sys2Proof.Machine.execKrfSnap p s
  | .lsbOltest c shorted => Sys2Proof.Machine.execLsbOltest c shorted s
  | .progStop => Sys2Proof.Machine.execProgStop s
  | .eventAck w => Sys2Proof.Machine.execEventAck w s
  | .talFlush => Sys2Proof.Machine.execTalFlush s
  | .take => Sys2Proof.Machine.execTake s
  | .cmjRes w => Sys2Proof.Machine.execCmjRes w s
  | .sleepRequest => Sys2Proof.Machine.execSleepRequest s
  | .sleepCancel => Sys2Proof.Machine.execSleepCancel s
  | .headReset w => Sys2Proof.Machine.execHeadReset w s
  | .axisUpdate x => Sys2Proof.Machine.execAxisUpdate x s
  | .planningPeriod x => Sys2Proof.Machine.execPlanningPeriod x s
  | .fellingEvaluation imeas vbus => Sys2Proof.Machine.execFellingEvaluation imeas vbus s
  | .standstillAtTarget x => Sys2Proof.Machine.execStandstillAtTarget x s
  | .warnMet p => Sys2Proof.Machine.execWarnMet p s
  | .moveinhHoldoffEnd p => Sys2Proof.Machine.execMoveinhHoldoffEnd p s
  | .moveTimeout p => Sys2Proof.Machine.execMoveTimeout p s
  | .unlockTimeout p => Sys2Proof.Machine.execUnlockTimeout p s
  | .lockTimeout p => Sys2Proof.Machine.execLockTimeout p s
  | .obstacleDetectionTime x => Sys2Proof.Machine.execObstacleDetectionTime x s
  | .edgeObstacle p leafB => Sys2Proof.Machine.execEdgeObstacle p leafB s
  | .endStopFound x => Sys2Proof.Machine.execEndStopFound x s
  | .referenceTimeout x => Sys2Proof.Machine.execReferenceTimeout x s
  | .bridgesOffInStop x => Sys2Proof.Machine.execBridgesOffInStop x s
  | .currentLoopStep x iu iv iw => Sys2Proof.Machine.execCurrentLoopStep x iu iv iw s
  | .speedLoopStep x => Sys2Proof.Machine.execSpeedLoopStep x s
  | .positionLoopStep x => Sys2Proof.Machine.execPositionLoopStep x s
  | .overcurrentComparator x => Sys2Proof.Machine.execOvercurrentComparator x s
  | .stageOvertemp x t => Sys2Proof.Machine.execStageOvertemp x t s
  | .calibrationStart => Sys2Proof.Machine.execCalibrationStart s
  | .calibrationComplete x mu mv mw => Sys2Proof.Machine.execCalibrationComplete x mu mv mw s
  | .feedbackEdge x hall l => Sys2Proof.Machine.execFeedbackEdge x hall l s
  | .indexEvent x illegal => Sys2Proof.Machine.execIndexEvent x illegal s
  | .serialRequest x => Sys2Proof.Machine.execSerialRequest x s
  | .serialWord x raw crc err warn ans delay => Sys2Proof.Machine.execSerialWord x raw crc err warn ans delay s
  | .feedbackStandstill x => Sys2Proof.Machine.execFeedbackStandstill x s
  | .comparePulseEnd p => Sys2Proof.Machine.execComparePulseEnd p s
  | .depthSegment p b fcs => Sys2Proof.Machine.execDepthSegment p b fcs s
  | .headStatusFrame p id fw rate temp => Sys2Proof.Machine.execHeadStatusFrame p id fw rate temp s
  | .rateCommandRepeat p => Sys2Proof.Machine.execRateCommandRepeat p s
  | .dmaComplete p e addr => Sys2Proof.Machine.execDmaComplete p e addr s
  | .kerfLearnStart => Sys2Proof.Machine.execKerfLearnStart s
  | .verdictIssue v => Sys2Proof.Machine.execVerdictIssue v s
  | .verdictLate p => Sys2Proof.Machine.execVerdictLate p s
  | .silentExpiry p => Sys2Proof.Machine.execSilentExpiry p s
  | .ovrmaxExpiry p => Sys2Proof.Machine.execOvrmaxExpiry p s
  | .ovrstuckClear p => Sys2Proof.Machine.execOvrstuckClear p s
  | .gridInstant ch fi zs rb => Sys2Proof.Machine.execGridInstant ch fi zs rb s
  | .hingeLinkExchange good => Sys2Proof.Machine.execHingeLinkExchange good s
  | .arbitrationTestComplete aPass hPass bad => Sys2Proof.Machine.execArbitrationTestComplete aPass hPass bad s
  | .heartbeatAbsent ch => Sys2Proof.Machine.execHeartbeatAbsent ch s
  | .faultLineAssert ch => Sys2Proof.Machine.execFaultLineAssert ch s
  | .channelAResetLine => Sys2Proof.Machine.execChannelAResetLine s
  | .arsyncExpiry => Sys2Proof.Machine.execArsyncExpiry s
  | .degradedWindowExpiry => Sys2Proof.Machine.execDegradedWindowExpiry s
  | .channelAWatchdog => Sys2Proof.Machine.execChannelAWatchdog s
  | .clockCrosscheck ch dev aOff hOff => Sys2Proof.Machine.execClockCrosscheck ch dev aOff hOff s
  | .testGap src aDuring aAfter hDuring hAfter => Sys2Proof.Machine.execTestGap src aDuring aAfter hDuring hAfter s
  | .switchTestPulse sw opened => Sys2Proof.Machine.execSwitchTestPulse sw opened s
  | .wheelPulse ch idx => Sys2Proof.Machine.execWheelPulse ch idx s
  | .wheelPulseCount idx => Sys2Proof.Machine.execWheelPulseCount idx s
  | .fieldInputEdge n v held => Sys2Proof.Machine.execFieldInputEdge n v held s
  | .couplerCheck n pass => Sys2Proof.Machine.execCouplerCheck n pass s
  | .outputRefresh rb => Sys2Proof.Machine.execOutputRefresh rb s
  | .refreshTimeout => Sys2Proof.Machine.execRefreshTimeout s
  | .readbackDisagree n v ilim => Sys2Proof.Machine.execReadbackDisagree n v ilim s
  | .foThermalShutdown n => Sys2Proof.Machine.execFoThermalShutdown n s
  | .lsThermalShutdown c tj => Sys2Proof.Machine.execLsThermalShutdown c tj s
  | .lsLatchClear c tj => Sys2Proof.Machine.execLsLatchClear c tj s
  | .lsRetry c => Sys2Proof.Machine.execLsRetry c s
  | .lsRetryCounterReset c => Sys2Proof.Machine.execLsRetryCounterReset c s
  | .openLoadDetect c idx => Sys2Proof.Machine.execOpenLoadDetect c idx s
  | .oltestStart c shorted => Sys2Proof.Machine.execOltestStart c shorted s
  | .oltestComplete c above => Sys2Proof.Machine.execOltestComplete c above s
  | .clampMeasurementComplete c energy => Sys2Proof.Machine.execClampMeasurementComplete c energy s
  | .chokerLeak => Sys2Proof.Machine.execChokerLeak s
  | .albUndervoltage v => Sys2Proof.Machine.execAlbUndervoltage v s
  | .albReversed => Sys2Proof.Machine.execAlbReversed s
  | .albReturnLoss => Sys2Proof.Machine.execAlbReturnLoss s
  | .albOvervoltage v => Sys2Proof.Machine.execAlbOvervoltage v s
  | .supplyHoldoffEnd v => Sys2Proof.Machine.execSupplyHoldoffEnd v s
  | .snapshot => Sys2Proof.Machine.execSnapshot s
  | .plwaitExpiry => Sys2Proof.Machine.execPlwaitExpiry s
  | .panelReply p b => Sys2Proof.Machine.execPanelReply p b s
  | .panelTimeout p => Sys2Proof.Machine.execPanelTimeout p s
  | .panelFrameRepeat => Sys2Proof.Machine.execPanelFrameRepeat s
  | .calloutStart => Sys2Proof.Machine.execCalloutStart s
  | .calloutBudgetExpiry => Sys2Proof.Machine.execCalloutBudgetExpiry s
  | .cycleWatchdogExpiry => Sys2Proof.Machine.execCycleWatchdogExpiry s
  | .automaticRestart => Sys2Proof.Machine.execAutomaticRestart s
  | .breakpoint => Sys2Proof.Machine.execBreakpoint s
  | .blockMoveComplete idx flt => Sys2Proof.Machine.execBlockMoveComplete idx flt s
  | .fabricOperationComplete src e addr => Sys2Proof.Machine.execFabricOperationComplete src e addr s
  | .fabricTimeout src addr => Sys2Proof.Machine.execFabricTimeout src addr s
  | .mramWriteComplete src ok0 ok1 => Sys2Proof.Machine.execMramWriteComplete src ok0 ok1 s
  | .verificationComplete => Sys2Proof.Machine.execVerificationComplete s
  | .imageSwitch echo => Sys2Proof.Machine.execImageSwitch echo s
  | .telegramReceive sg b => Sys2Proof.Machine.execTelegramReceive sg b s
  | .journalWriteComplete ok0 ok1 => Sys2Proof.Machine.execJournalWriteComplete ok0 ok1 s
  | .deliveryTimeout => Sys2Proof.Machine.execDeliveryTimeout s
  | .entryFree => Sys2Proof.Machine.execEntryFree s
  | .statusTelegramSend codeh => Sys2Proof.Machine.execStatusTelegramSend codeh s
  | .prpFrameReceive k mac seq wlan f => Sys2Proof.Machine.execPrpFrameReceive k mac seq wlan f s
  | .unsupportedFrame => Sys2Proof.Machine.execUnsupportedFrame s
  | .supervisionSend => Sys2Proof.Machine.execSupervisionSend s
  | .pathCheck => Sys2Proof.Machine.execPathCheck s
  | .pdOutputSend n => Sys2Proof.Machine.execPdOutputSend n s
  | .pdInputReceive b => Sys2Proof.Machine.execPdInputReceive b s
  | .pdHoldExpiry n => Sys2Proof.Machine.execPdHoldExpiry n s
  | .ptpSyncReceive k m => Sys2Proof.Machine.execPtpSyncReceive k m s
  | .ptpLoss => Sys2Proof.Machine.execPtpLoss s
  | .holdoverExpiry => Sys2Proof.Machine.execHoldoverExpiry s
  | .syncPulse => Sys2Proof.Machine.execSyncPulse s
  | .syncPulseMissing => Sys2Proof.Machine.execSyncPulseMissing s
  | .twinHeartbeatSend => Sys2Proof.Machine.execTwinHeartbeatSend s
  | .twinHeartbeatReceive mac => Sys2Proof.Machine.execTwinHeartbeatReceive mac s
  | .twinTimeout => Sys2Proof.Machine.execTwinTimeout s
  | .mailboxArrival l w dst src b => Sys2Proof.Machine.execMailboxArrival l w dst src b s
  | .canSendTimeout m => Sys2Proof.Machine.execCanSendTimeout m s
  | .canBusOffRecovery idx => Sys2Proof.Machine.execCanBusOffRecovery idx s
  | .serialMessageEnd idx b => Sys2Proof.Machine.execSerialMessageEnd idx b s
  | .sessionHandshake link c => Sys2Proof.Machine.execSessionHandshake link c s
  | .sessionLoss idx => Sys2Proof.Machine.execSessionLoss idx s
  | .sessionNop idx tag => Sys2Proof.Machine.execSessionNop idx tag s
  | .read idx tag addr count => Sys2Proof.Machine.execRead idx tag addr count s
  | .write idx tag addr ws => Sys2Proof.Machine.execWrite idx tag addr ws s
  | .landBegin idx tag total => Sys2Proof.Machine.execLandBegin idx tag total s
  | .landData idx tag ofs b => Sys2Proof.Machine.execLandData idx tag ofs b s
  | .landVerify idx tag => Sys2Proof.Machine.execLandVerify idx tag s
  | .landActivate idx tag => Sys2Proof.Machine.execLandActivate idx tag s
  | .landCancel idx tag => Sys2Proof.Machine.execLandCancel idx tag s
  | .landPrevious idx tag => Sys2Proof.Machine.execLandPrevious idx tag s
  | .modeRun idx tag n => Sys2Proof.Machine.execModeRun idx tag n s
  | .modeStop idx tag n => Sys2Proof.Machine.execModeStop idx tag n s
  | .modeHold idx tag n => Sys2Proof.Machine.execModeHold idx tag n s
  | .modeResume idx tag n => Sys2Proof.Machine.execModeResume idx tag n s
  | .modeStep idx tag n => Sys2Proof.Machine.execModeStep idx tag n s
  | .reset idx tag => Sys2Proof.Machine.execReset idx tag s
  | .reref idx tag axis => Sys2Proof.Machine.execReref idx tag axis s
  | .requestCalibration idx tag unit => Sys2Proof.Machine.execRequestCalibration idx tag unit s
  | .requestRelearn idx tag unit => Sys2Proof.Machine.execRequestRelearn idx tag unit s
  | .requestOltest idx tag unit shorted => Sys2Proof.Machine.execRequestOltest idx tag unit shorted s
  | .requestFlush idx tag unit => Sys2Proof.Machine.execRequestFlush idx tag unit s
  | .forceSet idx tag t field value ok0 ok1 => Sys2Proof.Machine.execForceSet idx tag t field value ok0 ok1 s
  | .forceRelease idx tag t field => Sys2Proof.Machine.execForceRelease idx tag t field s
  | .forceList idx tag => Sys2Proof.Machine.execForceList idx tag s
  | .tallyRead idx tag seq maxlen flags => Sys2Proof.Machine.execTallyRead idx tag seq maxlen flags s
  | .commission idx tag => Sys2Proof.Machine.execCommission idx tag s
  | .attest idx tag nonce => Sys2Proof.Machine.execAttest idx tag nonce s
  | .fwWrite idx tag ofs total b => Sys2Proof.Machine.execFwWrite idx tag ofs total b s
  | .envWrite idx tag cert => Sys2Proof.Machine.execEnvWrite idx tag cert s
  | .anchorWrite idx tag slot key => Sys2Proof.Machine.execAnchorWrite idx tag slot key s
  | .advance idx tag counter => Sys2Proof.Machine.execAdvance idx tag counter s
  | .command idx tag connid tseq kind target pad arg expms => Sys2Proof.Machine.execCommand idx tag connid tseq kind target pad arg expms s
  | .tallyFlushComplete wear => Sys2Proof.Machine.execTallyFlushComplete wear s
  | .ctlLow v => Sys2Proof.Machine.execCtlLow v s
  | .headShed => Sys2Proof.Machine.execHeadShed s
  | .lowmotClear v => Sys2Proof.Machine.execLowmotClear v s
  | .ctlOvervoltage v => Sys2Proof.Machine.execCtlOvervoltage v s
  | .mbusFault v rev => Sys2Proof.Machine.execMbusFault v rev s
  | .mbusOvercurrent => Sys2Proof.Machine.execMbusOvercurrent s
  | .ctlInterruption v len => Sys2Proof.Machine.execCtlInterruption v len s
  | .interruptionEnd v lasted ea eb => Sys2Proof.Machine.execInterruptionEnd v lasted ea eb s
  | .powerFailStart reserve len => Sys2Proof.Machine.execPowerFailStart reserve len s
  | .holdupTest ea eb => Sys2Proof.Machine.execHoldupTest ea eb s
  | .halfFailure hub len => Sys2Proof.Machine.execHalfFailure hub len s
  | .noHalfFlush => Sys2Proof.Machine.execNoHalfFlush s
  | .headAdmission pcore => Sys2Proof.Machine.execHeadAdmission pcore s
  | .headTrip p => Sys2Proof.Machine.execHeadTrip p s
  | .headRetry p => Sys2Proof.Machine.execHeadRetry p s
  | .preheatComplete tcs len => Sys2Proof.Machine.execPreheatComplete tcs len s
  | .autoSleep lvl => Sys2Proof.Machine.execAutoSleep lvl s
  | .sleepEntry => Sys2Proof.Machine.execSleepEntry s
  | .wake src lvl rtc => Sys2Proof.Machine.execWake src lvl rtc s
  | .retentionLoss => Sys2Proof.Machine.execRetentionLoss s
  | .resetRelease b => Sys2Proof.Machine.execResetRelease b s
  | .startupRunEntry reserve => Sys2Proof.Machine.execStartupRunEntry reserve s
  | .supervisorWatchdog => Sys2Proof.Machine.execSupervisorWatchdog s
  | .linkStateChange l up => Sys2Proof.Machine.execLinkStateChange l up s
  | .canBusOff idx => Sys2Proof.Machine.execCanBusOff idx s
  | .foThermalRestart n => Sys2Proof.Machine.execFoThermalRestart n s
  | .groupSupplyChange g v => Sys2Proof.Machine.execGroupSupplyChange g v s
  | .supplyFaultEnd f v => Sys2Proof.Machine.execSupplyFaultEnd f v s
  | .sessionMalformedMessage idx opc tag len => Sys2Proof.Machine.execSessionMalformedMessage idx opc tag len s
  | .attestationReportReady => Sys2Proof.Machine.execAttestationReportReady s
  | .startUpSelfTestComplete ch pass stuck noclose => Sys2Proof.Machine.execStartUpSelfTestComplete ch pass stuck noclose s
  | .illegalWord w => Sys2Proof.Machine.execIllegalWord w s
  | .fetchOutsideCode => Sys2Proof.Machine.execFetchOutsideCode s

end Sys2Proof.Machine
end

