-- ==== Sys2Proof/Machine/Idle.lean ====
section
/-! DEFINITION. What the block does when no command waits: one tick passes (log 1). -/

namespace Sys2Proof.Machine

/-- Monotonic time runs: in every reset but the first power of the retention domain, and while the module is not down (R19, R20). -/
def State.counting (s : State) : Bool := s.boot.held != some .power && !s.boot.down

/-- R16, R19, R390: one tick passes, and send mailboxes of a running module hand their oldest message to links that are up; without MCLK
nothing happens. -/
def State.idle (s : State) : State := if s.online then (s.pass 1).mbTick else if s.counting then s.pass 1 else s

end Sys2Proof.Machine
end

