-- ==== Sys2Proof/Safety.lean ====
section
/-! DEFINITION. What counts as a sound state and a safe step, in the terms the statements use. -/

namespace Sys2Proof.Machine

/-- Memory is in its canonical form. -/
def State.memOk (s : State) : Prop := Memory.wf s.mem

/-- Monotonic time has reached `n` ticks. -/
def State.notBefore (s : State) (n : Nat) : Prop := n ≤ s.mono

/-- A step that is neither a fault nor a refusal: the only kind the spec gives this block. -/
def goesOn (o : Out) : Prop := ∃ t, o = .next t

/-! ### Frames -/

/-- The parts of the state that a command can change. -/
inductive Part where
  | mono | tim | cal | fab | latch | mem | eng | tally | axes | portals | fel | sde | ls | lsg | kerf | fio | safe | jnl | net | lnd | tru | pwr | boot | sent | freeSeq
  deriving DecidableEq, Repr

/-- The part is the same in two states. -/
def Part.same : Part → State → State → Prop
  | .mono, s, t => t.mono = s.mono
  | .tim, s, t => t.tim = s.tim
  | .cal, s, t => t.calBase = s.calBase ∧ t.calAt = s.calAt ∧ t.slew = s.slew ∧ t.calPpb = s.calPpb
  | .fab, s, t => t.fab = s.fab
  | .latch, s, t => t.latch = s.latch
  | .mem, s, t => t.mem = s.mem
  | .eng, s, t => t.eng = s.eng
  | .tally, s, t => t.tally = s.tally
  | .axes, s, t => t.axes = s.axes
  | .portals, s, t => t.portals = s.portals
  | .fel, s, t => t.fel = s.fel
  | .sde, s, t => t.sde = s.sde
  | .ls, s, t => t.ls = s.ls
  | .lsg, s, t => t.lsg = s.lsg
  | .kerf, s, t => t.kerf = s.kerf
  | .fio, s, t => t.fio = s.fio
  | .safe, s, t => t.safe = s.safe
  | .jnl, s, t => t.jnl = s.jnl
  | .net, s, t => t.net = s.net
  | .lnd, s, t => t.lnd = s.lnd
  | .tru, s, t => t.tru = s.tru
  | .pwr, s, t => t.pwr = s.pwr
  | .boot, s, t => t.boot = s.boot
  | .sent, s, t => t.sent = s.sent
  | .freeSeq, s, t => t.freeSeq = s.freeSeq

/-- `t` differs from `s` at most in the parts listed: every other part, and the queue of commands, is unchanged. -/
def changesOnly (l : List Part) (s t : State) : Prop := t.pending = s.pending ∧ ∀ p : Part, p ∉ l → p.same s t

/-- Command `i` completes from `s`: it has a next state, and `P` holds of that state. -/
def completes (i : Instr) (s : State) (P : State → Prop) : Prop := ∃ t, exec i s = .next t ∧ P t

/-- What a Filif word of `n` cycles that only works on its context's bank leaves: time has passed, a running call-out has counted one
instruction, no BMOVE waits for a channel, and beside that nothing but the executing context's bank differs. -/
def wordRan (n : Nat) (s t : State) : Prop :=
  changesOnly [.mono, .eng] s t ∧ t.mono = s.mono + n ∧ t.eng.cur = s.eng.cur ∧
    (∀ c : Fin 5, c ≠ s.eng.cur → t.eng.banks[c.val] = s.eng.banks[c.val]) ∧
    t.eng = { s.eng with banks := t.eng.banks, running := t.eng.running, sys := { s.eng.sys with comax := t.eng.sys.comax }
                         stalled := false }

/-- Register `d` of the executing context holds `w`; its other registers are unchanged. -/
def tookReg (d : Reg) (w : Word) (s t : State) : Prop := t.r d = w ∧ ∀ q : Reg, q ≠ d → t.r q = s.r q

/-- Every register of the executing context is unchanged. -/
def keptRegs (s t : State) : Prop := ∀ q : Reg, t.r q = s.r q

/-- Z and N are those of `w` (R292). -/
def flagsZN (w : Word) (t : State) : Prop := (t.bank.z = true ↔ w = 0) ∧ t.bank.n = w.getLsbD 31

/-- Z, N, C and V are unchanged. -/
def keptFlags (s t : State) : Prop := t.bank.z = s.bank.z ∧ t.bank.n = s.bank.n ∧ t.bank.c = s.bank.c ∧ t.bank.v = s.bank.v

/-- Execution goes on at the following word. -/
def nextWord (s t : State) : Prop := t.bank.pc = s.bank.pc + 4

/-- A word of `n` cycles that changes neither B nor the order of execution, and nothing outside its bank. -/
def plainWord (n : Nat) (s t : State) : Prop := wordRan n s t ∧ nextWord s t ∧ t.bank.b = s.bank.b

/-- The value lies outside the signed 32-bit range. -/
abbrev outOfRange (i : Int) : Prop := i < -2147483648 ∨ 2147483647 < i

/-- No store waiting in the queue touches the `n` bytes from `a` up. -/
def noStoreTo (s : State) (a n : Nat) : Prop := ∀ q ∈ s.eng.sq, a + n ≤ q.addr.toNat ∨ q.addr.toNat + q.size ≤ a

/-- Every store waiting in the queue is one of 1, 2 or 4 bytes to the data range or the output image. -/
def storesToMemory (s : State) : Prop := ∀ q ∈ s.eng.sq, (q.size = 1 ∨ q.size = 2 ∨ q.size = 4) ∧ q.addr.toNat % q.size = 0 ∧
  (inData q.addr.toNat q.size = true ∨ inOutput q.addr.toNat q.size = true)

/-- The address La + sext(IMM) of a load or store (R297). -/
def target (s : State) (a : Reg) (imm : BitVec 16) : Word := s.r a + BitVec.ofInt 32 imm.toInt

/-- The executing context goes on at the next word with its registers and B as they were. -/
def wentOn (s t : State) : Prop := nextWord s t ∧ keptRegs s t ∧ keptFlags s t ∧ t.bank.b = s.bank.b

/-- The module is in STOP with this cause. -/
def stoppedWith (cause : BitVec 4) (t : State) : Prop := t.eng.sys.mode.mode = .stop ∧ t.eng.sys.mode.cause = cause

/-- Table 11-3: the seventeen conditions, by code; the codes 17 to 31 are reserved. -/
def conditions (k : Bank) : List Bool :=
  [true, k.z, !k.z, k.n, !k.n, k.c, !k.c, k.v, !k.v, k.c && !k.z, !k.c || k.z, k.n == k.v, k.n != k.v, !k.z && k.n == k.v,
   k.z || k.n != k.v, k.b, !k.b]

/-- The Tally engine takes a module record as it comes: started, no record lost, and room in staging (R404). -/
def tallyOpen (s : State) : Prop :=
  s.tally.starting = false ∧ s.tally.reg.stat.spare = false ∧ s.tally.lost = 0 ∧ s.tally.fill + 4096 ≤ 524288

/-- The newest staged record is of this type: the occurrence was staged, or folded into a record of its type (R405). -/
def newestIs (type : BitVec 16) (t : State) : Prop := (t.tally.staging.getLast?.map Rec.type) = some type

/-- Tag `t` is declared with type `k`, no force acts on it, no store waits for its 16 bytes, and the engine is ready; the stores that wait
go to memory. -/
def tagReady (s : State) (t : BitVec 14) (k : TagType) : Prop :=
  s.ready = true ∧ s.memOk ∧ (∃ d, s.eng.tag t = some d ∧ d.type = k) ∧ (∀ f ∈ s.eng.forces, f.tag ≠ t) ∧ noStoreTo s (tagAddr t) 16 ∧
    storesToMemory s

/-- A TAG operation of 4 cycles: it changes no flag, and of memory, as the earlier stores leave it, at most the 16 bytes of its
instance (R299, R313). -/
def tagRan (t : BitVec 14) (s u : State) : Prop :=
  changesOnly [.mono, .mem, .eng] s u ∧ u.mono = s.mono + 4 ∧ nextWord s u ∧ keptFlags s u ∧ u.memOk ∧
    u.eng.sq = [] ∧
    ∀ x : Nat, x < tagAddr t ∨ tagAddr t + 16 ≤ x → u.byte x = s.drainAll.byte x

/-! ### Halts and sessions -/

/-- The module is halted in good order (Table 18-3, Table 18-4): STOP, no session, journal closed, bridges, load switches, field outputs,
loops and side drive enables off, and every position retained with its trust. -/
def haltedWell (t : State) : Prop :=
  t.boot.down = true ∧ t.boot.marker = true ∧ t.mode = .stop ∧ t.fio.pins = 0 ∧ t.sde = Vector.replicate 2 false ∧ t.safe.drive = 0 ∧
  t.jnl.closed = true ∧ (∀ i : Fin 3, t.tru.sessions[i.val] = none) ∧ (∀ c : ChanIx, (t.chan c).reg.stat.out = false) ∧
  ∀ a : AxisIx, (t.axis a).bridges = false ∧ (t.axis a).retPos = some (t.axis a).pos ∧ (t.axis a).retTrust = (t.axis a).reg.state.trust

/-- Session `i` is open with the right, none of its earlier requests waits for an answer, and the module is not in RECOVERY (R422, R430, R431). -/
def openWith (s : State) (i : Fin 3) (r : Right) : Prop :=
  s.boot.recovery = false ∧ s.owes i = false ∧ ∃ e : Session, s.tru.sessions[i.val] = some e ∧ e.has r = true

/-- One response leaves, and nothing else (R430, Table 17-8). -/
def answered (i : Fin 3) (op : Nat) (tag : Word) (st : Status) (payload : List Byte) (s t : State) : Prop :=
  t.sent = s.sent ++ [.response i.val op tag st.code payload]

/-- Keys, counters and sessions are as they were, but for the last record of session `i`'s client (R424). -/
def heard (i : Fin 3) (s t : State) : Prop :=
  t.tru = { s.tru with sessions := s.tru.sessions.set i.val ((s.tru.sessions[i.val]).map fun e => { e with at_ := s.mono }) }

end Sys2Proof.Machine
end

