-- ==== Sys2Proof/Certificates/Slice0/Obligations.lean ====
section
/-! DEFINITION. The statements for the provers. Each says what a group of commands does by the spec's rules: where it completes, what
it leaves changed, and what it leaves as it was. -/

open Sys2Proof Sys2Proof.Machine

/-- The queue of commands is first in, first out: a step takes the command at its front, and is that command's effect on the state with the
rest of the queue. -/
def Obligations.StepTakesFrontCommand : Prop := ∀ (c : Instr) (s : State),
  step { s with pending := c :: s.pending } = exec c s

/-- R16, R19, R20, R390: on an empty queue one tick of 2.5 ns passes where MCLK runs, through warm and watchdog resets too, and in a running
module the oldest message that each send mailbox holds leaves where its link is up and carries it; in a POWER reset, after an orderly halt
and asleep nothing happens. That a tick is what a step on an empty queue does (logs 1 and 11) and that a link takes one message a tick (log
27) are the model's choices. -/
def Obligations.EmptyQueueTick : Prop := ∀ (s : State), s.pending = [] → ∃ t, step s = .next t ∧ changesOnly [.mono, .net, .sent] s t ∧
  (s.online = false → s.counting = true → t = s.pass 1) ∧ (s.counting = true → t.mono = s.mono + 1) ∧
  (s.online = false → s.counting = false → t = s) ∧ (s.online = true → s.counting = true) ∧
  (s.online = true → t.net = { s.net with mbox := t.net.mbox } ∧ ∀ m : Fin 64,
    let box := s.net.mbox[m.val]
    let link := (s.net.reg.mbcfg[m.val]).link
    t.net.mbox[m.val] = { box with out := (t.net.mbox[m.val]).out } ∧
    ((MbLink.ofCode link = none ∨ s.net.linkUp link = false ∨ box.out = []) → t.net.mbox[m.val] = box) ∧
    ∀ (l : MbLink) (g : Msg × Nat) (gs : List (Msg × Nat)), MbLink.ofCode link = some l → box.out = g :: gs → s.net.linkUp link = true →
      s.net.reg.takes l g.1.word0 = true → (t.net.mbox[m.val]).out = gs ∧ outputOf m l g.1 ∈ t.sent)

/-- Every command has a next state in every state, and leaves the queue behind it as it is: the spec gives every row of the table an effect,
and an event whose condition does not hold changes nothing (the model's choice, log 1). -/
def Obligations.EveryCommandGoesOn : Prop := ∀ (i : Instr) (s : State), ∃ t, exec i s = .next t ∧ t.pending = s.pending

/-- R19, R39, R62, R153, R276, R357, R404: what the first reset leaves: monotonic time 0, STOP, every axis DISABLED and UNTRUSTED, loops,
side drives, load switches and field outputs off, memory canonical with nothing listed, Tally and journal empty, no session and no command
waiting. What no register's reset column gives is the model's choice (logs 2, 3 and 10) and is not stated here. -/
def Obligations.ResetState : Prop :=
  let s := State.reset
  s.mono = 0 ∧ s.mode = .stop ∧ s.mem = [] ∧ s.memOk ∧ s.pending = [] ∧ s.eng.sq = [] ∧ s.eng.cycno = 0 ∧ s.safe.drive = 0 ∧
  s.sde = Vector.replicate 2 false ∧ s.fio.pins = 0 ∧ s.tally.staging = [] ∧ s.jnl.entries = [] ∧ s.net.reg.red = 0 ∧
  (∀ x : AxisIx, (s.axis x).st = .disabled ∧ (s.axis x).reg.state.trust = .untrusted ∧ (s.axis x).bridges = false) ∧
  (∀ c : ChanIx, (s.chan c).reg.stat.out = false) ∧ (∀ p : PortalIx, (s.krf p).reg.stat.win = .closed) ∧
  ∀ i : Fin 3, s.tru.sessions[i.val] = none

/-- Every step keeps memory in its canonical form: addresses strictly rising, and no byte listed that an unlisted address reads as. -/
def Obligations.StepKeepsMemory : Prop := ∀ (s t : State), s.memOk → step s = .next t → t.memOk

/-- R19, R20: monotonic time never runs back, whatever the command, but for the release of a POWER reset, or of a start after the retention
domain was lost, which restarts it at 0 (log 64). -/
def Obligations.TimeNeverRunsBack : Prop := ∀ (s t : State) (i : Instr), exec i s = .next t →
  ¬ (∃ b : BootIn, i = .resetRelease b ∧ (s.releases = some .power ∨ s.releases = some .restart ∧ 65536 < b.rtc)) → s.mono ≤ t.mono

/-- R261, R277, R280: no Filif word changes anything while the engine executes nothing: outside the execute phase, a call-out and a single
step, so in STOP throughout. -/
def Obligations.NoWordRunsWithoutTheEngine : Prop := ∀ (w : Word) (i : Instr) (s : State), decodeFilif w = some i → s.ready = false →
  exec i s = .next s

/-- R289 to R291, R312, Tables 11-1 and 11-2: instruction words written out from their fields stand for their instructions, and words with a
reserved OP, FN or condition, or with an unused field that is not zero, for none. -/
def Obligations.FilifWords : Prop :=
  decodeFilif 0b000000_00011_00001_00010_00000_000000 = some (.add 3 1 2) ∧
  decodeFilif 0b000001_00011_00001_00010_00000_000100 = some (.div 3 1 2) ∧
  decodeFilif 0b000010_00000_00111_11111_00000_000000 = some (.rld 7 31) ∧
  decodeFilif 0b000011_11111_00100_00000_00000_000001 = some (.jrl 31 4) ∧
  decodeFilif 0b001000_00101_00110_1111111111111111 = some (.addi 5 6 0xFFFF) ∧
  decodeFilif 0b010000_00101_00110_0000000000000100 = some (.ldw 5 6 4 .none) ∧
  decodeFilif 0b011000_00101_00110_1000000000000000 = some (.stw 5 6 0x8000) ∧
  decodeFilif 0b100000_01001_00110_0000000000001000 = some (.cld 9 6 8 .none) ∧
  decodeFilif 0b110000_00000_111111111111111111111 = some (.br 0 0x1FFFFF) ∧
  decodeFilif 0b110100_00101_0000000_00000000000111 = some (.trun 5 7) ∧
  decodeFilif 0b111000_00000_00000_00000000_00000000 = some .nop ∧
  decodeFilif 0b111001_00101_00110_00000000_00111111 = some (.mtgt 5 6 63 .none) ∧
  decodeFilif 0b111010_00101_00110_00000000_00000001 = some (.trec 5 6 1) ∧
  decodeFilif 0 = some (.add 0 0 0) ∧ decodeFilif 0xFFFFFFFF = none ∧
  decodeFilif 0b000000_00011_00001_00010_00001_000000 = none ∧
  decodeFilif 0b110000_10001_000000000000000000000 = none ∧
  decodeFilif 0b111000_00001_00000_00000000_00000000 = none

/-- R292, R294: ADD, ADC, SUB, SBC, CMP and NEG take one cycle, write their result to Ld alone (CMP writes none), set Z and N from the
result, C from the unsigned sum or the absence of a borrow, V where the exact signed result does not fit, and change nothing else. R292,
R294: the logical operations, NOT, the lesser and the greater take one cycle, write Ld alone (TST writes none), set Z and N from the result
and leave C and V. R294: the saturating sum and difference: the exact result where it fits, with V = 0, else the nearer end of the signed
range, with V = 1; Z and N are those of what is written and C stays. -/
def Obligations.AluOperations : Prop :=
  (∀ (s : State) (d a b : Reg), s.ready = true →
    let x := s.r a
    let y := s.r b
    completes (.add d a b) s (fun t => plainWord 1 s t ∧ tookReg d (x + y) s t ∧ flagsZN (x + y) t
      ∧ (t.bank.c = true ↔ 2 ^ 32 ≤ x.toNat + y.toNat) ∧ (t.bank.v = true ↔ outOfRange (x.toInt + y.toInt))) ∧
    completes (.adc d a b) s (fun t => plainWord 1 s t ∧ tookReg d (x + y + BitVec.ofNat 32 s.bank.c.toNat) s t
      ∧ flagsZN (x + y + BitVec.ofNat 32 s.bank.c.toNat) t
      ∧ (t.bank.c = true ↔ 2 ^ 32 ≤ x.toNat + y.toNat + s.bank.c.toNat)
      ∧ (t.bank.v = true ↔ outOfRange (x.toInt + y.toInt + s.bank.c.toNat))) ∧
    completes (.sub d a b) s (fun t => plainWord 1 s t ∧ tookReg d (x - y) s t ∧ flagsZN (x - y) t
      ∧ (t.bank.c = true ↔ y.toNat ≤ x.toNat) ∧ (t.bank.v = true ↔ outOfRange (x.toInt - y.toInt))) ∧
    completes (.sbc d a b) s (fun t => plainWord 1 s t ∧ tookReg d (x - y - BitVec.ofNat 32 (!s.bank.c).toNat) s t
      ∧ flagsZN (x - y - BitVec.ofNat 32 (!s.bank.c).toNat) t
      ∧ (t.bank.c = true ↔ y.toNat + (!s.bank.c).toNat ≤ x.toNat)
      ∧ (t.bank.v = true ↔ outOfRange (x.toInt - y.toInt - (!s.bank.c).toNat))) ∧
    completes (.cmp a b) s (fun t => plainWord 1 s t ∧ keptRegs s t ∧ flagsZN (x - y) t
      ∧ (t.bank.c = true ↔ y.toNat ≤ x.toNat) ∧ (t.bank.v = true ↔ outOfRange (x.toInt - y.toInt))) ∧
    completes (.neg d a) s (fun t => plainWord 1 s t ∧ tookReg d (-x) s t ∧ flagsZN (-x) t
      ∧ (t.bank.c = true ↔ x = 0) ∧ (t.bank.v = true ↔ x.toInt = -2147483648))) ∧
  (∀ (s : State) (d a b : Reg), s.ready = true →
    let x := s.r a
    let y := s.r b
    let does := fun (i : Instr) (w : Word) => completes i s (fun t => plainWord 1 s t ∧ tookReg d w s t ∧ flagsZN w t
      ∧ t.bank.c = s.bank.c ∧ t.bank.v = s.bank.v)
    does (.and_ d a b) (x &&& y) ∧ does (.or_ d a b) (x ||| y) ∧ does (.xor_ d a b) (x ^^^ y) ∧ does (.andn d a b) (x &&& ~~~y) ∧
    does (.not_ d a) (~~~x) ∧
    does (.mins d a b) (BitVec.ofInt 32 (min x.toInt y.toInt)) ∧ does (.maxs d a b) (BitVec.ofInt 32 (max x.toInt y.toInt)) ∧
    does (.minu d a b) (BitVec.ofNat 32 (min x.toNat y.toNat)) ∧ does (.maxu d a b) (BitVec.ofNat 32 (max x.toNat y.toNat)) ∧
    completes (.tst a b) s (fun t => plainWord 1 s t ∧ keptRegs s t ∧ flagsZN (x &&& y) t
      ∧ t.bank.c = s.bank.c ∧ t.bank.v = s.bank.v) ∧
    completes (.mov d a) s (fun t => plainWord 1 s t ∧ tookReg d x s t ∧ keptFlags s t) ∧
    completes (.sel d a b) s (fun t => plainWord 1 s t ∧ tookReg d (if s.bank.b = true then x else y) s t ∧ keptFlags s t)) ∧
  (∀ (s : State) (d a b : Reg), s.ready = true →
    let does := fun (i : Instr) (v : Int) => completes i s (fun t => plainWord 1 s t ∧ (∀ q : Reg, q ≠ d → t.r q = s.r q)
      ∧ (t.r d).toInt = max (-2147483648) (min 2147483647 v) ∧ (t.bank.v = true ↔ outOfRange v) ∧ flagsZN (t.r d) t
      ∧ t.bank.c = s.bank.c)
    does (.adds d a b) ((s.r a).toInt + (s.r b).toInt) ∧ does (.subs d a b) ((s.r a).toInt - (s.r b).toInt))

/-- R292, R294, R296: the shifts and the rotation by Lb[4:0], and SHI by its IMM: the result into Ld, Z and N from it, V left; an amount of
0 gives La and leaves C, any other puts the last bit shifted out, for the rotation bit 31 of the result, into C. R292, R295: the MULDIV
group: the halves of the products and the two divisions, which never fault; by zero the quotient is 0 and the remainder La, with V = 1, and
−2^31 by −1 gives −2^31 and 0, with V = 1. Z and N are those of the result, and C stays. -/
def Obligations.ShiftsAndProducts : Prop :=
  (∀ (s : State) (d a b : Reg) (imm : BitVec 16), s.ready = true →
    let x := s.r a
    let does := fun (i : Instr) (n : Nat) (w : Word) (out : Bool) => completes i s (fun t => plainWord 1 s t ∧ tookReg d w s t
      ∧ flagsZN w t ∧ t.bank.v = s.bank.v ∧ (n = 0 → w = x ∧ t.bank.c = s.bank.c) ∧ (n ≠ 0 → t.bank.c = out))
    let left := fun (i : Instr) (n : Nat) => does i n (BitVec.ofNat 32 (x.toNat * 2 ^ n)) (x.getLsbD (32 - n))
    let right := fun (i : Instr) (n : Nat) => does i n (BitVec.ofNat 32 (x.toNat / 2 ^ n)) (x.getLsbD (n - 1))
    let arith := fun (i : Instr) (n : Nat) => does i n (BitVec.ofInt 32 (x.toInt / 2 ^ n)) (x.getLsbD (n - 1))
    let rot := fun (i : Instr) (n : Nat) => does i n (BitVec.ofNat 32 (x.toNat / 2 ^ n + x.toNat * 2 ^ (32 - n)))
      ((BitVec.ofNat 32 (x.toNat / 2 ^ n + x.toNat * 2 ^ (32 - n))).getLsbD 31)
    let n := (s.r b).toNat % 32
    let m := imm.toNat % 32
    left (.shl d a b) n ∧ right (.shr d a b) n ∧ arith (.sar d a b) n ∧ rot (.ror d a b) n ∧
    (imm.toNat / 32 = 0 → left (.shi d a imm) m) ∧ (imm.toNat / 32 = 1 → right (.shi d a imm) m) ∧
    (imm.toNat / 32 = 2 → arith (.shi d a imm) m) ∧ (imm.toNat / 32 = 3 → rot (.shi d a imm) m)) ∧
  (∀ (s : State) (d a b : Reg), s.ready = true →
    let x := s.r a
    let y := s.r b
    let does := fun (i : Instr) (n : Nat) (w : Word) (v : Bool) => completes i s (fun t => plainWord n s t ∧ tookReg d w s t
      ∧ flagsZN w t ∧ t.bank.c = s.bank.c ∧ t.bank.v = v)
    let corner := decide (x = 0x80000000 ∧ y = 0xFFFFFFFF)
    does (.mul d a b) 2 (x * y) (decide (outOfRange (x.toInt * y.toInt))) ∧
    does (.mulh d a b) 2 (BitVec.ofInt 32 (x.toInt * y.toInt / 2 ^ 32)) s.bank.v ∧
    does (.mulhu d a b) 2 (BitVec.ofNat 32 (x.toNat * y.toNat / 2 ^ 32)) s.bank.v ∧
    (y = 0 → does (.div d a b) 18 0 true ∧ does (.divu d a b) 18 0 true ∧ does (.rem d a b) 18 x true ∧ does (.remu d a b) 18 x true) ∧
    (y ≠ 0 → does (.div d a b) 18 (BitVec.ofInt 32 (Int.tdiv x.toInt y.toInt)) corner
      ∧ does (.divu d a b) 18 (BitVec.ofNat 32 (x.toNat / y.toNat)) false
      ∧ does (.rem d a b) 18 (BitVec.ofInt 32 (Int.tmod x.toInt y.toInt)) corner
      ∧ does (.remu d a b) 18 (BitVec.ofNat 32 (x.toNat % y.toNat)) false))

/-- R289, R292, R296: the immediate group: ADDI, ORI and LUI set no flag, CMPI sets all four, ANDI, XORI and TSTI set Z and N; CMPI and TSTI
write no register. -/
def Obligations.Immediates : Prop := ∀ (s : State) (d a : Reg) (imm : BitVec 16), s.ready = true →
  let x := s.r a
  let low := BitVec.ofNat 32 imm.toNat
  let quiet := fun (i : Instr) (w : Word) => completes i s (fun t => plainWord 1 s t ∧ tookReg d w s t ∧ keptFlags s t)
  let zn := fun (i : Instr) (w : Word) => completes i s (fun t => plainWord 1 s t ∧ tookReg d w s t ∧ flagsZN w t
    ∧ t.bank.c = s.bank.c ∧ t.bank.v = s.bank.v)
  quiet (.addi d a imm) (x + BitVec.ofInt 32 imm.toInt) ∧ quiet (.ori d a imm) (x ||| low) ∧
  quiet (.lui d imm) (BitVec.ofNat 32 (imm.toNat * 65536)) ∧ zn (.andi d a imm) (x &&& low) ∧ zn (.xori d a imm) (x ^^^ low) ∧
  completes (.tsti a imm) s (fun t => plainWord 1 s t ∧ keptRegs s t ∧ flagsZN (x &&& low) t
    ∧ t.bank.c = s.bank.c ∧ t.bank.v = s.bank.v) ∧
  completes (.cmpi a imm) s (fun t => plainWord 1 s t ∧ keptRegs s t ∧ flagsZN (x - BitVec.ofInt 32 imm.toInt) t
    ∧ (t.bank.c = true ↔ (BitVec.ofInt 32 imm.toInt).toNat ≤ x.toNat) ∧ (t.bank.v = true ↔ outOfRange (x.toInt - imm.toInt)))

/-- R301, Table 11-9: the register contact group, OP 0x02: each function's word, with the fields it does not use zero, stands for its
instruction; each takes one cycle; contacts read bit b of La and change B alone, coils change bit b of Ld alone, BCC takes its condition
from the Lb field, and none changes a flag. -/
def Obligations.RegisterContacts : Prop := ∀ (s : State) (d a : Reg) (bit : BitIx), s.ready = true →
  let x := (s.r a).getLsbD bit.val
  let o := (s.r d).getLsbD bit.val
  let b := s.bank.b
  let contact := fun (i : Instr) (v : Bool) => completes i s (fun t => wordRan 1 s t ∧ nextWord s t ∧ keptRegs s t ∧ keptFlags s t ∧ t.bank.b = v)
  let coil := fun (i : Instr) (v : Bool) => completes i s (fun t => plainWord 1 s t ∧ keptFlags s t ∧ (∀ q : Reg, q ≠ d → t.r q = s.r q)
    ∧ (t.r d).getLsbD bit.val = v ∧ ∀ n : Nat, n ≠ bit.val → (t.r d).getLsbD n = (s.r d).getLsbD n)
  let word := fun (fn d a b : Nat) => decodeFilif (BitVec.ofNat 32 (0x08000000 + 0x200000 * d + 0x10000 * a + 0x800 * b + fn))
  [word 0 0 a.val bit.val, word 1 0 a.val bit.val, word 2 0 a.val bit.val, word 3 0 a.val bit.val, word 4 0 a.val bit.val,
   word 5 0 a.val bit.val, word 6 0 a.val bit.val] = [some (.rld a bit), some (.rldn a bit), some (.rand a bit), some (.randn a bit),
   some (.rorContact a bit), some (.rorn a bit), some (.rxor a bit)] ∧
  [word 8 d.val 0 bit.val, word 9 d.val 0 bit.val, word 10 d.val 0 bit.val, word 11 d.val 0 bit.val] =
    [some (.rst d bit), some (.rstn d bit), some (.rset d bit), some (.rrst d bit)] ∧
  [word 16 0 0 0, word 17 0 0 0, word 18 0 0 0, word 20 d.val 0 0, word 21 0 a.val 0] =
    [some .bnot, some .bone, some .bzero, some (.bget d), some (.bput a)] ∧
  (∀ c : BitVec 5, c.toNat ≤ 16 → word 19 0 0 c.toNat = some (.bcc c)) ∧
  contact (.rld a bit) x ∧ contact (.rldn a bit) (!x) ∧ contact (.rand a bit) (b && x) ∧ contact (.randn a bit) (b && !x) ∧
  contact (.rorContact a bit) (b || x) ∧ contact (.rorn a bit) (b || !x) ∧ contact (.rxor a bit) (b ^^ x) ∧
  coil (.rst d bit) b ∧ coil (.rstn d bit) (!b) ∧ coil (.rset d bit) (o || b) ∧ coil (.rrst d bit) (o && !b) ∧
  contact .bnot (!b) ∧ contact .bone true ∧ contact .bzero false ∧ contact (.bput a) (decide (s.r a ≠ 0)) ∧
  (∀ (c : BitVec 5) (v : Bool), (conditions s.bank)[c.toNat]? = some v → contact (.bcc c) v) ∧
  completes (.bget d) s (fun t => plainWord 1 s t ∧ keptFlags s t ∧ tookReg d (if b = true then 1 else 0) s t)

/-- R302, R304: branches, NOP, RDF and WRF. A branch not taken goes on in one cycle and changes nothing; a taken one continues at its own
address + 4 × sext(OFS) after two, and BRL links in L31; RDF and WRF move the flags and B. -/
def Obligations.BranchesAndFlags : Prop := ∀ (s : State) (d a : Reg) (c : BitVec 5) (ofs : BitVec 21), s.ready = true →
  let here := s.bank.pc
  let target := here + BitVec.ofInt 32 (4 * ofs.toInt)
  let jumps := fun (i : Instr) (n : Nat) (pc : Word) (regs : State → Prop) => completes i s (fun t => wordRan n s t ∧ t.bank.pc = pc
    ∧ keptFlags s t ∧ t.bank.b = s.bank.b ∧ regs t)
  ((conditions s.bank)[c.toNat]? = some false →
    jumps (.br c ofs) 1 (here + 4) (keptRegs s) ∧ jumps (.brl c ofs) 1 (here + 4) (keptRegs s)) ∧
  ((conditions s.bank)[c.toNat]? = some true →
    jumps (.br c ofs) 2 target (keptRegs s) ∧ jumps (.brl c ofs) 2 target (tookReg 31 (here + 4) s)) ∧
  jumps .nop 1 (here + 4) (keptRegs s) ∧
  (∃ w : Word, jumps (.rdf d) 1 (here + 4) (tookReg d w s) ∧ w.toNat < 32 ∧
    [w.getLsbD 0, w.getLsbD 1, w.getLsbD 2, w.getLsbD 3, w.getLsbD 4] = [s.bank.z, s.bank.n, s.bank.c, s.bank.v, s.bank.b]) ∧
  completes (.wrf a) s (fun t => wordRan 1 s t ∧ nextWord s t ∧ keptRegs s t ∧ [t.bank.z, t.bank.n, t.bank.c, t.bank.v, t.bank.b] =
    [(s.r a).getLsbD 0, (s.r a).getLsbD 1, (s.r a).getLsbD 2, (s.r a).getLsbD 3, (s.r a).getLsbD 4])

/-- R303: JUMP, OP 0x03: JR is FN 0x00 with Ld and Lb zero, JRL FN 0x01 with Lb zero, and no other word of the opcode is an instruction; JR
continues at La without its low two bits, JRL does the same and writes its own address + 4 to Ld, after La is read; three cycles, no flag.
-/
def Obligations.Jumps : Prop := ∀ (s : State) (d a : Reg) (w : Word), s.ready = true →
  let jumps := fun (i : Instr) (regs : State → Prop) => completes i s (fun t => wordRan 3 s t ∧ t.bank.pc = s.r a &&& 0xFFFFFFFC
    ∧ keptFlags s t ∧ t.bank.b = s.bank.b ∧ regs t)
  decodeFilif (BitVec.ofNat 32 (0x0C000000 + 0x10000 * a.val)) = some (.jr a) ∧
  decodeFilif (BitVec.ofNat 32 (0x0C000001 + 0x200000 * d.val + 0x10000 * a.val)) = some (.jrl d a) ∧
  (w.toNat / 2 ^ 26 = 3 → w.toNat % 2 ^ 16 ≠ 0 → w.toNat % 2 ^ 16 ≠ 1 → decodeFilif w = none) ∧
  (w.toNat / 2 ^ 26 = 3 → w.toNat % 2 ^ 16 = 0 → w.toNat / 2 ^ 21 % 32 ≠ 0 → decodeFilif w = none) ∧
  jumps (.jr a) (keptRegs s) ∧ jumps (.jrl d a) (tookReg d (s.bank.pc + 4) s)

/-- R297, R298: a load from aligned bytes of the data range or of the images, to which no store waits, gives those bytes, least first, sign-
or zero-extended, in two cycles, and writes Ld alone. R298: a word stored and then loaded comes back, though the store still waits in the
queue. That the two cycles count no fabric wait is the model's choice (DESIGN CHOICE, log 12). -/
def Obligations.Loads : Prop :=
  (∀ (s : State) (d a : Reg) (imm : BitVec 16), s.ready = true →
    let A := (target s a imm).toNat
    let b := fun k => (s.byte (A + k)).toNat
    let loads := fun (i : Instr) (w : Word) => completes i s (fun t => plainWord 2 s t ∧ keptFlags s t ∧ tookReg d w s t)
    (A % 4 = 0 → inMemory A 4 = true → noStoreTo s A 4 →
      loads (.ldw d a imm .none) (BitVec.ofNat 32 (b 0 + 256 * b 1 + 65536 * b 2 + 16777216 * b 3))) ∧
    (A % 2 = 0 → inMemory A 2 = true → noStoreTo s A 2 →
      loads (.ldhu d a imm .none) (BitVec.ofNat 32 (b 0 + 256 * b 1)) ∧
      loads (.ldh d a imm .none) (BitVec.ofInt 32 (BitVec.ofNat 16 (b 0 + 256 * b 1)).toInt)) ∧
    (inMemory A 1 = true → noStoreTo s A 1 →
      loads (.ldbu d a imm .none) (BitVec.ofNat 32 (b 0)) ∧ loads (.ldb d a imm .none) (BitVec.ofInt 32 (s.byte A).toInt))) ∧
  (∀ (s : State) (d e a : Reg) (imm : BitVec 16), s.ready = true → s.memOk →
    s.eng.sq = [] → (target s a imm).toNat % 4 = 0 → inData (target s a imm).toNat 4 = true →
    completes (.stw d a imm) s (fun u => u.ready = true → completes (.ldw e a imm .none) u (fun t => tookReg e (s.r d) s t
      ∧ t.eng.sq = [])))

/-- R282, R297: a misaligned load returns zero and a misaligned store is ignored, each behind the stores that wait; each counts one
violation with its address, and nothing else changes. R276, R299: a load, contact or coil whose fabric operation fails puts the module in
STOP with cause MEM, where neither the watchdog nor a call-out's budget is due at the same boundary; the failing word writes neither a
register nor B. That all waiting stores drain within the word, in no time beyond its own cycles, is the model's choice (DEDUCED, log 19). -/
def Obligations.FailedAccesses : Prop :=
  (∀ (s : State) (d a : Reg) (imm : BitVec 16) (f : FabFault), s.ready = true → storesToMemory s →
    let A := target s a imm
    let counted := fun (t : State) => t.eng.sys.violn = satInc s.eng.sys.violn ∧ t.eng.sys.viola = A ∧ nextWord s t ∧ keptFlags s t
      ∧ t.bank.b = s.bank.b ∧ changesOnly [.mono, .mem, .eng] s t ∧ t.eng.sq = [] ∧ (s.eng.sq = [] → t.mem = s.mem)
    (A.toNat % 4 ≠ 0 → completes (.ldw d a imm f) s (fun t => counted t ∧ tookReg d 0 s t) ∧
      completes (.stw d a imm) s (fun t => counted t ∧ keptRegs s t)) ∧
    (A.toNat % 2 ≠ 0 → completes (.ldh d a imm f) s (fun t => counted t ∧ tookReg d 0 s t) ∧
      completes (.ldhu d a imm f) s (fun t => counted t ∧ tookReg d 0 s t) ∧
      completes (.sth d a imm) s (fun t => counted t ∧ keptRegs s t))) ∧
  (∀ (s : State) (d a : Reg) (bit : BitIx) (imm : BitVec 16) (f : FabFault), s.ready = true →
    f ≠ .none → s.eng.sq = [] → s.eng.insns < 1999 → s.since s.eng.wdStart + 3 < us s.eng.sys.wdt.wdt.toNat →
    (target s a imm).toNat % 4 = 0 → inData (target s a imm).toNat 4 = true →
    let stops := fun (i : Instr) => completes i s (fun t => stoppedWith 7 t ∧ t.eng.banks[s.eng.cur.val] = { s.bank with pc := s.bank.pc + 4 })
    stops (.ldw d a imm f) ∧ stops (.ldhu d a imm f) ∧ stops (.ldb d a imm f) ∧ stops (.cld bit a imm f) ∧ stops (.cst bit a imm f))

/-- R297, R298: a store to the data range or the output image takes one cycle and joins the end of the queue, with the register named in the
Ld field, its width and the context; memory itself and everything else is unchanged. R297 to R299: the oldest queued store reaches its bytes
of memory, least significant first, and no other byte; one that meets a fault is not applied, nor is any store behind it, and the module
enters STOP, with cause MEM where neither the watchdog nor a call-out's budget is due at the same boundary. -/
def Obligations.Stores : Prop :=
  (∀ (s : State) (d a : Reg) (imm : BitVec 16), s.ready = true → s.eng.sq.length < 8 →
    let A := target s a imm
    let queues := fun (i : Instr) (n : Nat) => A.toNat % n = 0 → (inData A.toNat n = true ∨ inOutput A.toNat n = true) →
      completes i s (fun t => changesOnly [.mono, .eng] s t ∧ t.mono = s.mono + 1 ∧ wentOn s t ∧
        t.eng.sq = s.eng.sq ++ [{ addr := A, val := s.r d, size := n, ctx := s.eng.cur }])
    queues (.stw d a imm) 4 ∧ queues (.sth d a imm) 2 ∧ queues (.stb d a imm) 1) ∧
  (∀ (s : State) (q : QStore) (qs : List QStore), s.eng.sq = q :: qs →
    s.online = true → s.mode ≠ .stop → s.memOk → (q.size = 1 ∨ q.size = 2 ∨ q.size = 4) → q.addr.toNat % q.size = 0 →
    (inData q.addr.toNat q.size = true ∨ inOutput q.addr.toNat q.size = true) →
    completes (.storeDrain .none) s (fun t => changesOnly [.mem, .eng] s t ∧ t.eng.sq = qs ∧ t.eng.banks = s.eng.banks ∧ t.memOk
      ∧ (∀ k : Nat, k < q.size → t.byte (q.addr.toNat + k) = BitVec.ofNat 8 (q.val.toNat / 256 ^ k))
      ∧ ∀ x : Nat, x < q.addr.toNat ∨ q.addr.toNat + q.size ≤ x → t.byte x = s.byte x) ∧
    ∀ f : FabFault, f ≠ .none → completes (.storeDrain f) s (fun t => t.mode = .stop ∧ (s.wdOver = false → s.eng.spent = false → stoppedWith 7 t) ∧
      t.eng.sq = [] ∧
      (s.eng.moves = Vector.replicate 4 none → ∀ x : Nat, t.byte x = s.byte x)))

/-- R300: the memory contacts read bit b of an aligned word and change B alone; the coils change that one bit in memory and nothing of B or
the flags, behind every earlier store. A coil aimed outside the data range and the output image, or misaligned, changes neither and counts a
violation. That all waiting stores drain within the word, in no time beyond its own cycles, is the model's choice (DEDUCED, log 19). -/
def Obligations.MemoryContactsAndCoils : Prop := ∀ (s : State) (bit : BitIx) (a : Reg) (imm : BitVec 16), s.ready = true → s.memOk →
  let A := (target s a imm).toNat
  let at_ := fun (t : State) (n : Nat) => (t.byte (A + n / 8)).getLsbD (n % 8)
  let x := at_ s bit.val
  let b := s.bank.b
  let contact := fun (i : Instr) (v : Bool) => completes i s (fun t => wordRan 2 s t ∧ nextWord s t ∧ keptRegs s t ∧ keptFlags s t ∧ t.bank.b = v)
  let coil := fun (i : Instr) (v : Bool) => completes i s (fun t => changesOnly [.mono, .mem, .eng] s t ∧ t.mono = s.mono + 3 ∧ wentOn s t
    ∧ (∀ n : Nat, n < 32 → at_ t n = if n = bit.val then v else at_ s n) ∧ t.eng.sq = [] ∧ ∀ y : Nat, y < A ∨ A + 4 ≤ y →
    t.byte y = s.drainAll.byte y ∧ ((∀ q ∈ s.eng.sq, y < q.addr.toNat ∨ q.addr.toNat + q.size ≤ y) → t.byte y = s.byte y))
  let barred := fun (i : Instr) => completes i s (fun t => changesOnly [.mono, .mem, .eng] s t ∧ wentOn s t ∧
    (∀ y : Nat, t.byte y = s.drainAll.byte y) ∧ t.eng.sys.violn = satInc s.eng.sys.violn ∧ t.eng.sys.viola = target s a imm)
  (A % 4 = 0 → inMemory A 4 = true → noStoreTo s A 4 →
    contact (.cld bit a imm .none) x ∧ contact (.cldn bit a imm .none) (!x) ∧ contact (.cand bit a imm .none) (b && x) ∧
    contact (.candn bit a imm .none) (b && !x) ∧ contact (.cor bit a imm .none) (b || x) ∧
    contact (.corn bit a imm .none) (b || !x) ∧ contact (.cxor bit a imm .none) (b ^^ x)) ∧
  (A % 4 = 0 → (inData A 4 = true ∨ inOutput A 4 = true) → noStoreTo s A 4 → storesToMemory s →
    coil (.cst bit a imm .none) b ∧ coil (.cstn bit a imm .none) (!b) ∧ coil (.cset bit a imm .none) (x || b) ∧
    coil (.crst bit a imm .none) (x && !b)) ∧
  (A % 4 ≠ 0 ∨ (inData A 4 = false ∧ inOutput A 4 = false) → storesToMemory s → ∀ f : FabFault,
    barred (.cst bit a imm f) ∧ barred (.cstn bit a imm f) ∧ barred (.cset bit a imm f) ∧ barred (.crst bit a imm f))

/-- R298, R304: FENCE completes wherever the engine executes a word, with stores to memory waiting or none: they have reached memory, the
queue is empty, and no other byte changes. R305, R306, Table 11-12: COMMIT, behind every store, answers in Ld, with Z where it is 0: 2
outside every block, 4 as a single step, 0 without effect where the block's portal or axis is not fitted, 3 where the content is rejected, 1
on a fault of the copy, and 0 where the staged words take effect: the Kerf block's ZWIDE, the output block's period and compares, the Blaze
table. It takes 38 cycles for a Blaze table, 14 for an output block, 7 for any other, 6 outside. That all waiting stores drain within the
word, in no time beyond its own cycles, is the model's choice (DEDUCED, log 19). The order of COMMIT's statuses, for which Table 11-11 gives
none, is another (DEDUCED, log 20). -/
def Obligations.FenceAndCommit : Prop := ∀ (s : State) (d a : Reg) (b : Block) (x : AxisIx) (p : PortalIx) (f : FabFault),
  s.ready = true → storesToMemory s →
  let at_ := blockAt (s.r a).toNat
  let ans := fun (t : State) (n : Nat) (w : Word) => t.mono = s.mono + n ∧ nextWord s t ∧ tookReg d w s t ∧ (t.bank.z = true ↔ w = 0) ∧
    t.bank.n = s.bank.n ∧ t.bank.c = s.bank.c ∧ t.bank.v = s.bank.v ∧ t.bank.b = s.bank.b ∧ t.eng.sq = []
  let n := match b with
    | .blaze _ => 38
    | .output _ => 14
    | _ => 7
  (completes .fence s (fun t => changesOnly [.mono, .mem, .eng] s t ∧ t.mono = s.mono + 1 ∧ wentOn s t ∧ t.eng.sq = [] ∧
    (s.memOk → ∀ y : Nat, (∀ q ∈ s.eng.sq, y < q.addr.toNat ∨ q.addr.toNat + q.size ≤ y) → t.byte y = s.byte y))) ∧
  (at_ = none → completes (.commit d a f) s (fun t => changesOnly [.mono, .mem, .eng] s t ∧ ans t 6 2)) ∧
  (at_ = some b → s.eng.stepping = true → completes (.commit d a f) s (fun t => changesOnly [.mono, .mem, .eng] s t ∧ ans t n 4)) ∧
  (at_ = some b → s.eng.stepping = false → s.blockFitted b = false →
    completes (.commit d a f) s (fun t => changesOnly [.mono, .mem, .eng] s t ∧ ans t n 0)) ∧
  (at_ = some b → s.eng.stepping = false → s.blockFitted b = true → s.contentOk b = false →
    completes (.commit d a f) s (fun t => changesOnly [.mono, .mem, .eng] s t ∧ ans t n 3)) ∧
  (at_ = some b → s.eng.stepping = false → s.blockFitted b = true → s.contentOk b = true → f ≠ .none →
    completes (.commit d a f) s (fun t => changesOnly [.mono, .mem, .eng, .fab, .tally, .freeSeq] s t ∧ ans t n 1)) ∧
  (at_ = some (.kerf p) → s.eng.stepping = false → s.blockFitted (.kerf p) = true → s.kerf[p.val].sZwide.toNat ≤ 500 →
    completes (.commit d a .none) s (fun t => changesOnly [.mono, .mem, .eng, .kerf] s t ∧ ans t 7 0 ∧
      t.kerf[p.val].reg.zwide = s.kerf[p.val].sZwide ∧ ∀ o : PortalIx, o ≠ p → t.kerf[o.val] = s.kerf[o.val])) ∧
  (at_ = some (.output p) → s.eng.stepping = false → s.blockFitted (.output p) = true → s.contentOk (.output p) = true →
    completes (.commit d a .none) s (fun t => changesOnly [.mono, .mem, .eng, .portals] s t ∧ ans t 14 0 ∧
      (t.portal p).po.popw = (s.portal p).sPopw ∧ (t.portal p).po.pocmp = (s.portal p).sPocmp ∧
      ∀ o : PortalIx, o ≠ p → t.portal o = s.portal o)) ∧
  (at_ = some (.blaze x) → s.eng.stepping = false → s.blockFitted (.blaze x) = true → s.contentOk (.blaze x) = true →
    completes (.commit d a .none) s (fun t => changesOnly [.mono, .mem, .eng, .axes] s t ∧ ans t 38 0 ∧
      (t.axis x).blz = (s.axis x).sBlz ∧ ∀ o : AxisIx, o ≠ x → t.axis o = s.axis o))

/-- R283, R284, R307: BMOVE reads its descriptor, takes the first free channel, returns its number with Z and N, and writes PENDING with the
channel's next tag; a source, destination or length that R283 bars ends the move at once, ERROR with code 3; a descriptor or completion word
out of place gives 0xFFFF_FFFF with N and starts nothing. While every channel is busy it stalls: the engine stays ready for it, and no
call-out starts before it is done. A move's end frees its channel and writes its completion word, DONE, or ERROR 1 or 2 on an ECC error or a
timeout; a move out of memory that ends DONE has its bytes at the destination. The end of a channel that carries no move changes nothing. A
stall that takes no time, with the command sent again after it, is the model's choice (DESIGN CHOICE, log 13), and so are a source read when
the move ends and a destination open until then (DEDUCED, log 23). -/
def Obligations.BlockMoves : Prop := ∀ (s : State) (d a : Reg) (i : Fin 4), s.memOk →
  (s.ready = true → s.eng.sq = [] → s.eng.freeMove = some i →
    let A := (s.r a).toNat
    let cw := (s.memWord (A + 12)).toNat
    let src := (s.memWord A).toNat
    let dst := (s.memWord (A + 4)).toNat
    let len := (s.memWord (A + 8)).toNat
    let placed := A % 4 = 0 ∧ inData A 16 = true ∧ cw % 4 = 0 ∧ inData cw 4 = true
    let took := fun (t : State) => t.mono = s.mono + 6 ∧ nextWord s t ∧ tookReg d (BitVec.ofNat 32 i.val) s t ∧ t.bank.n = false ∧
      (t.bank.z = true ↔ i.val = 0)
    (placed → moveOk src dst len = true → (cw + 4 ≤ dst ∨ dst + len ≤ cw) →
      completes (.bmove d a) s (fun t => changesOnly [.mono, .mem, .eng, .freeSeq] s t ∧ took t ∧
        t.memWord cw = completion 0 0 (s.eng.moveTag[i.val] + 1) ∧
        t.eng.moves[i.val] = some { src := src, dst := dst, len := len, cw := cw, tag := s.eng.moveTag[i.val] + 1, ctx := s.eng.cur })) ∧
    (placed → moveOk src dst len = false →
      completes (.bmove d a) s (fun t => changesOnly [.mono, .mem, .eng] s t ∧ took t ∧
        t.memWord cw = completion 2 3 (s.eng.moveTag[i.val] + 1) ∧ t.eng.moves = s.eng.moves)) ∧
    (¬ placed → completes (.bmove d a) s (fun t => wordRan 6 s t ∧ nextWord s t ∧
      tookReg d 0xFFFFFFFF s t ∧ t.bank.n = true ∧ t.bank.z = false ∧ t.eng.moves = s.eng.moves))) ∧
  (s.ready = true → s.eng.freeMove = none → completes (.bmove d a) s (fun t => t = { s with eng := { s.eng with stalled := true } } ∧
    t.ready = true ∧ completes .calloutStart t (fun u => u = t))) ∧
  (∀ f : FabFault, s.eng.moves[i.val] = none → completes (.blockMoveComplete i f) s (fun t => t = s)) ∧
  (∀ m : Move, s.online = true → s.eng.moves[i.val] = some m →
    (∀ f : FabFault, completes (.blockMoveComplete i f) s (fun t => t.eng.moves[i.val] = none ∧ t.mono = s.mono ∧ t.memOk ∧
      t.memWord m.cw = (match f with
        | .none => completion 1 0 m.tag
        | .ecc => completion 2 1 m.tag
        | .timeout => completion 2 2 m.tag))) ∧
    (m.hit = [] → m.len % 4 = 0 → m.src % 4 = 0 → inMemory m.src m.len = true → (m.cw + 4 ≤ m.dst ∨ m.dst + m.len ≤ m.cw) →
      completes (.blockMoveComplete i .none) s (fun t => changesOnly [.mem, .eng] s t ∧ t.eng.moves[i.val] = none ∧
        (∀ k : Nat, k < m.len → t.byte (m.dst + k) = s.byte (m.src + k)) ∧ t.memWord m.cw = completion 1 0 m.tag ∧ t.memOk)))

/-- R261, R262, R264: a snapshot, once the program waits, nothing holds it and the watchdog interval is not over: the cycle number rises by
one and stands at the start of the input image, the execute phase begins at the entry point, at most 15 µs after the snapshot tick, and no
byte outside the input image changes. R261, R265, R273, R304: EOC in the cycle ends the execute phase: the field-output word of the output
image is applied, the phase lasts at most 12 µs, the next watchdog interval begins at its end, and each panel that takes part gets one
frame. The instant at which an event comes, where a clause gives it, is how the model lets time pass (log 1). Within their bounds the
lengths of the two phases are free values (DESIGN CHOICE, log 4). -/
def Obligations.ProgramCycle : Prop :=
  (∀ (s : State), s.online = true → s.mode = .run → s.eng.phase = .wait → s.eng.cur = 0 →
    s.moveFromInput = false → max s.mono s.snapDue - s.eng.wdStart < us s.eng.sys.wdt.wdt.toNat → s.memOk →
    completes .snapshot s (fun t => changesOnly [.mono, .mem, .eng, .freeSeq] s t ∧ t.eng.cycno = s.eng.cycno + 1 ∧ t.eng.phase = .execute ∧
      t.eng.banks[0].pc = s.eng.entry ∧ t.eng.banks[0].l = s.eng.banks[0].l ∧ t.eng.snapAt = max s.mono s.snapDue ∧
      t.eng.snapAt ≤ t.mono ∧ t.mono ≤ t.eng.snapAt + us 15 ∧ t.memWord inBase = BitVec.ofNat 32 (s.eng.cycno + 1) ∧
      (∀ x : Nat, x < inBase ∨ outBase ≤ x → t.byte x = s.byte x) ∧ t.memOk)) ∧
  (∀ (s : State), s.ready = true → s.mode = .run → s.eng.cur = 0 → s.moveToOutput = false →
    s.eng.sq = [] → s.eng.sys.mode.factory = false → s.eng.holdReq = false →
    s.since s.eng.wdStart + 1 + us 12 < us s.eng.sys.wdt.wdt.toNat →
    completes .eoc s (fun t => changesOnly [.mono, .mem, .eng, .fio, .sent, .freeSeq] s t ∧ t.eng.phase = .wait ∧ t.mode = .run ∧
      t.fio.imgFo = (s.memWord outBase).setWidth 16 ∧ s.mono + 1 ≤ t.mono ∧ t.mono ≤ s.mono + 1 + us 12 ∧ t.eng.outEnd = t.mono ∧
      t.eng.wdStart = t.mono ∧ t.eng.outCyc = s.eng.cycno ∧ t.sent.length = s.sent.length + s.panels.length ∧
      (∀ x : Nat, x < outBase + 0x1000 ∨ outEnd ≤ x → t.byte x = s.byte x)))

/-- R267, R268, R372: PLWAIT after an output phase the snapshot condition holds; the first valid reply that echoes the cycle of the last
output phase is taken and clears PLFLT; a reply in the execute phase is late and only counted; a panel's timeout empties its data, sets its
PLFLT bit and writes PL-LOST. The instant at which an event comes, where a clause gives it, is how the model lets time pass (log 1). -/
def Obligations.PanelReplies : Prop := ∀ (s : State) (p : PortalIx) (b : List Byte), s.online = true → s.eng.sys.plcfg.plen.getLsbD p.val = true →
  (s.mode = .run → s.eng.phase = .wait → completes .plwaitExpiry s (fun t => changesOnly [.mono] s t ∧
    t.mono = max s.mono (s.eng.outEnd + us s.eng.sys.plcfg.plwait.toNat) ∧ (s.eng.sys.wdt.mincyc = 0 → t.snapDue ≤ t.mono))) ∧
  (replyOk p b = true → s.eng.phase = .wait → beNat (bytesAt b 4 4) = s.eng.outCyc % 2 ^ 32 → s.eng.replied.getLsbD p.val = false →
    completes (.panelReply p b) s (fun t => changesOnly [.eng] s t ∧ t.eng.plData[p.val] = b.drop 16 ∧ t.eng.replied.getLsbD p.val = true ∧
      t.eng.plEcho[p.val] = BitVec.ofNat 32 s.eng.outCyc ∧ t.eng.sys.plstat.plflt.getLsbD p.val = false ∧
      ∀ q : PortalIx, q ≠ p → t.eng.plData[q.val] = s.eng.plData[q.val] ∧ t.eng.replied.getLsbD q.val = s.eng.replied.getLsbD q.val)) ∧
  (replyOk p b = true → s.mode = .run → s.eng.phase = .execute → completes (.panelReply p b) s (fun t => changesOnly [.eng] s t ∧
    t.eng = { s.eng with sys := { s.eng.sys with plcnt := satInc s.eng.sys.plcnt } })) ∧
  (s.eng.sys.plstat.plflt.getLsbD p.val = false → completes (.panelTimeout p) s (fun t => changesOnly [.mono, .eng, .tally] s t ∧
    t.eng.plData[p.val] = [] ∧ t.eng.sys.plstat.plflt.getLsbD p.val = true ∧ (tallyOpen s → newestIs 0x60 t)))

/-- R270, R271: the first eligible call-out starts in its priority's bank with number, trigger time and argument in L0 to L3 and every other
register, flag and B zero, at its entry point; the other banks are unchanged. RETC gives the interrupted context back. That entry and return
take four of the eight cycles each is the model's choice (DESIGN CHOICE, log 14). -/
def Obligations.CallOutEntryAndReturn : Prop := ∀ (s : State),
  (∀ p : PendCo, s.online = true → s.mode = .run → s.since s.eng.wdStart < us s.eng.sys.wdt.wdt.toNat → s.eng.insns < 2000 →
    s.eng.stalled = false → s.eng.eligible = some p →
    completes .calloutStart s (fun t => changesOnly [.mono, .eng] s t ∧ t.mono = s.mono + 4 ∧
      (∃ k : Bank, t.eng.banks[p.prio.val + 1]? = some k ∧ k.r 0 = BitVec.ofNat 32 p.num.toNat ∧ k.r 1 = BitVec.ofNat 32 p.time ∧
        k.r 2 = BitVec.ofNat 32 (p.time / 2 ^ 32) ∧ k.r 3 = s.entryArg p ∧
        (p.num.toNat < 0x0C00 ∨ 0x0C40 ≤ p.num.toNat → k.r 3 = p.arg) ∧ (∀ q : Reg, 4 ≤ q.val → k.r q = 0) ∧
        [k.z, k.n, k.c, k.v, k.b] = [false, false, false, false, false] ∧
        ∀ e : Decl, s.eng.decl p.num = some e → k.pc = e.entry) ∧
      (∀ c : Fin 5, c.val ≠ p.prio.val + 1 → t.eng.banks[c.val] = s.eng.banks[c.val]) ∧
      t.eng.running[p.prio.val] = some { num := p.num, insns := 0 } ∧ t.eng.pend = s.eng.pend.filter (fun q => q.num != p.num))) ∧
  (s.ready = true → s.eng.cur ≠ 0 → completes .retc s (fun t => changesOnly [.mono, .eng] s t ∧ t.mono = s.mono + 4 ∧
    t.eng.running[s.eng.cur.val - 1]? = some none ∧ t.eng.cur ≠ s.eng.cur ∧
    ∀ c : Fin 5, c ≠ s.eng.cur → t.eng.banks[c.val] = s.eng.banks[c.val]))

/-- R272, R273, R276, R290, R302: what puts the module in STOP, each with its cause: the program, the watchdog, a call-out's budget, an
illegal word, a fetch outside the code. STOP discards what is pending and running, the kerf engine's staged words included, and counts
itself. R276, R278, R279: 100 ms after a stop by the watchdog or a call-out's budget the module restarts into RUN, while fewer automatic
restarts than AUTO lie in the last hour: zero banks, no call-out running, the wait phase, the safe output image loaded, WARM as RST.COLD
says. R276, R280: at an enabled breakpoint, with a debugging session open, the module enters HOLD. The instant at which an event comes,
where a clause gives it, is how the model lets time pass (log 1). -/
def Obligations.StopRestartHold : Prop :=
  (∀ (s : State) (w : Word), s.online = true → s.mode = .run → s.eng.sq = [] →
    let stops := fun (i : Instr) (cause : BitVec 4) => completes i s (fun t => stoppedWith cause t ∧ t.eng.pend = [] ∧
      t.eng.running = Vector.replicate 4 none ∧ t.eng.phase = .wait ∧ t.eng.moves = Vector.replicate 4 none ∧ t.eng.stepping = false ∧
      t.eng.sys.stopn.stops = satInc s.eng.sys.stopn.stops ∧ changesOnly [.mono, .mem, .eng, .tally, .axes, .portals, .ls, .kerf, .jnl] s t ∧
      ∀ p : PortalIx, t.kerf[p.val] = { s.kerf[p.val] with staged := false, sZwide := s.kerf[p.val].reg.zwide })
    stops .progStop 1 ∧ stops .cycleWatchdogExpiry 3 ∧
    (s.eng.cur ≠ 0 → 2000 ≤ s.eng.insns → s.since s.eng.wdStart < us s.eng.sys.wdt.wdt.toNat → stops .calloutBudgetExpiry 4) ∧
    (s.ready = true → decodeFilif w = none → stops (.illegalWord w) 5) ∧
    (s.ready = true → (0x00400000 ≤ s.bank.pc.toNat ∨ s.eng.code.length < s.bank.pc.toNat + 4) → stops .fetchOutsideCode 6)) ∧
  (∀ (s : State), s.online = true → s.mode = .stop → (s.eng.sys.mode.cause = 3 ∨ s.eng.sys.mode.cause = 4) →
    s.eng.sq = [] → s.memOk → s.eng.autoAt.length < s.eng.sys.rst.auto.toNat →
    s.eng.data0.length ≤ dataEnd - dataBase →
    completes .automaticRestart s (fun t => t.mode = .run ∧ t.eng.phase = .wait ∧ t.eng.banks = Vector.replicate 5 {} ∧
      t.eng.running = Vector.replicate 4 none ∧ t.eng.first = true ∧ t.eng.sys.mode.warm = !s.eng.sys.rst.cold ∧
      t.mono = max s.mono (s.eng.stopAt + ms 100) ∧ t.eng.wdStart = t.mono ∧ t.memOk ∧
      (s.eng.safeOut.length ≤ outEnd - outBase → ∀ k : Nat, k < s.eng.safeOut.length → t.byte (outBase + k) = s.eng.safeOut.getD k 0))) ∧
  (∀ (s : State) (n : Fin 8), s.ready = true → s.mode = .run → s.tru.debugs = true →
    s.eng.sys.brk[n.val].en = true → s.bank.pc.toNat = 4 * s.eng.sys.brk[n.val].addr.toNat →
    completes .breakpoint s (fun t => t.mode = .hold ∧ t.eng.banks = s.eng.banks ∧ t.mem = s.mem ∧ t.mono = s.mono))

/-- R318, R320: EDR and EDF evaluate with input B and give RISE or FALL in B; EDLF gives the FALL of the last evaluation; LEV evaluates a
latch with S = B and R = Ld[0]. R319, Table 12-3: CCU and CCD count on a rise of B, saturating and holding at 0, and give QU or QD in B;
CLOAD and CRES act where B is 1; CPRE sets PV. Ld takes CV, but for CPRE. R313, R321: a ramp: RTGT and RRATE set target and rate, RSET the
output and its time; RRUN moves OUT towards TGT by RATE × the time since LAST ÷ 10^6, to TGT at once with RATE 0, and gives OUT in Ld and
OUT = TGT in B. TADR gives an instance's address in one cycle. R290, R312: a TAG word on an undeclared tag, or on a tag of a type its SUB
does not accept, is illegal: STOP with cause ILLOP, and no instance changes. That all waiting stores drain within the word, in no time
beyond its own cycles, is the model's choice (DEDUCED, log 19). -/
def Obligations.TaggedInstances : Prop :=
  (∀ (s : State) (t : BitVec 14) (d : Reg),
    let w := (s.quad t).w0
    let x := s.bank.b
    let prev := w.getLsbD 0
    let edge := fun (i : Instr) (b : Bool) => completes i s (fun u => tagRan t s u ∧ keptRegs s u ∧ u.bank.b = b ∧
      [(u.quad t).w0.getLsbD 0, (u.quad t).w0.getLsbD 1, (u.quad t).w0.getLsbD 2] = [x, x && !prev, !x && prev])
    let latch := fun (q : Bool) => completes (.lev d t) s (fun u => tagRan t s u ∧ keptRegs s u ∧ u.bank.b = q ∧ (u.quad t).w0.getLsbD 0 = q)
    (tagReady s t .edge → edge (.edr t) (x && !prev) ∧ edge (.edf t) (!x && prev) ∧
      completes (.edlf t) s (fun u => tagRan t s u ∧ keptRegs s u ∧ u.bank.b = w.getLsbD 2 ∧ (u.quad t).w0 = w &&& 7)) ∧
    (tagReady s t .sr → latch (x || (prev && !(s.r d).getLsbD 0))) ∧
    (tagReady s t .rs → latch (!(s.r d).getLsbD 0 && (x || prev)))) ∧
  (∀ (s : State) (t : BitVec 14) (d : Reg), tagReady s t .ctud →
    let pv := (s.quad t).w0
    let cv := (s.quad t).w1
    let x := s.bank.b
    let up := x && !(s.quad t).w2.getLsbD 0
    let down := x && !(s.quad t).w2.getLsbD 1
    let gives := fun (i : Instr) (n : Nat) (b : Bool) => completes i s (fun u => tagRan t s u ∧ tookReg d (BitVec.ofNat 32 n) s u ∧
      u.bank.b = b ∧ (u.quad t).w0 = pv ∧ (u.quad t).w1 = BitVec.ofNat 32 n)
    let cu := if up = true then min (cv.toNat + 1) 0xFFFFFFFF else cv.toNat
    let cd := if down = true then cv.toNat - 1 else cv.toNat
    gives (.ccu d t) cu (decide (pv.toNat ≤ cu)) ∧ gives (.ccd d t) cd (decide (cd = 0)) ∧
    gives (.cload d t) (if x = true then pv.toNat else cv.toNat) x ∧ gives (.cres d t) (if x = true then 0 else cv.toNat) x ∧
    completes (.cpre d t) s (fun u => tagRan t s u ∧ keptRegs s u ∧ u.bank.b = x ∧ (u.quad t).w0 = s.r d ∧ (u.quad t).w1 = cv)) ∧
  (∀ (s : State) (t : BitVec 14) (d : Reg), tagReady s t .ramp →
    let q := s.quad t
    let now := BitVec.ofNat 32 ((s.mono + 4) / 400)
    let sets := fun (i : Instr) (r : Quad) => completes i s (fun u => tagRan t s u ∧ keptRegs s u ∧ u.bank.b = s.bank.b ∧ u.quad t = r)
    let runs := fun (out : Word) => completes (.rrun d t) s (fun u => tagRan t s u ∧ tookReg d out s u ∧ (u.quad t).w0 = q.w0 ∧
      (u.quad t).w1 = out ∧ (u.quad t).w2 = q.w2 ∧ (u.bank.b = true ↔ out = q.w0))
    let k := q.w2.toNat * (now - q.w3).toNat / 1000000
    sets (.rtgt d t) { q with w0 := s.r d } ∧ sets (.rrate d t) { q with w2 := s.r d } ∧
    sets (.rampRset d t) { q with w1 := s.r d, w3 := now } ∧
    (q.w2 = 0 → runs q.w0) ∧
    (q.w2 ≠ 0 → (q.w0.toInt - q.w1.toInt).natAbs ≤ k → runs q.w0) ∧
    (q.w2 ≠ 0 → q.w1.toInt + k < q.w0.toInt → runs (BitVec.ofInt 32 (q.w1.toInt + k))) ∧
    (q.w2 ≠ 0 → q.w0.toInt < q.w1.toInt - k → runs (BitVec.ofInt 32 (q.w1.toInt - k))) ∧
    completes (.tadr d t) s (fun u => plainWord 1 s u ∧ keptFlags s u ∧ tookReg d (BitVec.ofNat 32 (0x013C0000 + 16 * t.toNat)) s u)) ∧
  (∀ (s : State) (t : BitVec 14) (d : Reg), s.ready = true → s.eng.sq = [] →
    s.eng.moves = Vector.replicate 4 none →
    let stops := fun (i : Instr) => completes i s (fun u => stoppedWith 5 u ∧ ∀ x : Nat, u.byte x = s.byte x)
    (s.eng.tag t = none → stops (.trun d t) ∧ stops (.edr t) ∧ stops (.ccu d t) ∧ stops (.lev d t) ∧ stops (.rrun d t) ∧ stops (.tadr d t)) ∧
    (∀ e : TagDecl, s.eng.tag t = some e → (e.type ≠ .ctud → stops (.ccu d t) ∧ stops (.cload d t) ∧ stops (.cpre d t)) ∧
      (e.type ≠ .edge → stops (.edr t) ∧ stops (.edf t) ∧ stops (.edlf t)) ∧ (e.type ≠ .ramp → stops (.rrun d t) ∧ stops (.rampRset d t)) ∧
      (e.type = .edge → stops (.trun d t) ∧ stops (.lev d t))))

/-- R317, Table 12-2, Table 12-6: TRUN of a TON: a rise starts the run with ET 0; ET ≥ PT expires it with Q = 1 and ET = PT; input 0 resets
it. Ld takes ET and B takes Q. TPRE sets PT and TRES clears ACC, RUN and Q and keeps IN. That all waiting stores drain within the word, in
no time beyond its own cycles, is the model's choice (DEDUCED, log 19). -/
def Obligations.OnDelayTimer : Prop := ∀ (s : State) (t : BitVec 14) (d : Reg), tagReady s t .ton →
  let q := s.quad t
  let start := q.w2.toNat + 4294967296 * (q.w3.toNat % 16777216)
  let now := (s.mono + 4) / 400
  let ends := fun (u : State) (et : Word) (inp qb run : Bool) => tagRan t s u ∧ tookReg d et s u ∧ u.bank.b = qb ∧
    (u.quad t).w0 = q.w0 ∧ (u.quad t).w3.getLsbD 24 = inp ∧ (u.quad t).w3.getLsbD 25 = qb ∧ (u.quad t).w3.getLsbD 26 = run
  (s.bank.b = true → q.w3.getLsbD 25 = false → q.w3.getLsbD 26 = false → q.w0 ≠ 0 →
    completes (.trun d t) s (fun u => ends u 0 true false true)) ∧
  (s.bank.b = true → q.w3.getLsbD 26 = true → now < 2 ^ 56 → start ≤ now → q.w0.toNat ≤ q.w1.toNat + (now - start) →
    completes (.trun d t) s (fun u => ends u q.w0 true true false)) ∧
  (s.bank.b = true → q.w3.getLsbD 25 = false → q.w3.getLsbD 26 = true → now < 2 ^ 56 → start ≤ now →
    q.w1.toNat + (now - start) < q.w0.toNat →
    completes (.trun d t) s (fun u => ends u (BitVec.ofNat 32 (q.w1.toNat + (now - start))) true false true)) ∧
  (s.bank.b = false → completes (.trun d t) s (fun u => ends u 0 false false false)) ∧
  completes (.tpre d t) s (fun u => tagRan t s u ∧ keptRegs s u ∧ u.bank.b = s.bank.b ∧ (u.quad t).w0 = s.r d ∧ (u.quad t).w1 = q.w1) ∧
  completes (.tres t) s (fun u => tagRan t s u ∧ keptRegs s u ∧ u.bank.b = s.bank.b ∧ (u.quad t).w0 = q.w0 ∧ (u.quad t).w1 = 0 ∧
    (u.quad t).w3.getLsbD 24 = q.w3.getLsbD 24 ∧ (u.quad t).w3.getLsbD 25 = false ∧ (u.quad t).w3.getLsbD 26 = false)

/-- R82, R83, R103, R322, R323: MTGT on a moving axis that is no leaf and whose target is neither refused nor governed by a blaze AXTGT of
the same update: the staged words become active, the motion generator takes the target in force, Ld is 0 with Z. MVLIM stages AXC.VLIM alone
and commits nothing. R80, R322, R324: MLEAF gives both leaves of a two-leaf portal their targets as one operation, slot 0 that of La and
slot 1 that of Ld; here both leaves move, neither target is refused or governed by a blaze AXTGT of the same update, and no sensitive edge
is active that a closing movement would latch. -/
def Obligations.MotionWords : Prop :=
  (∀ (s : State) (x : AxisIx) (d a : Reg), s.ready = true → s.eng.sq = [] → s.eng.stepping = false →
    s.fitted x = true →
    (2 ≤ x.val % 4 → s.refusal x .target (s.r a).toInt = none → (s.axis x).reg.state.state = .moving → (s.axis x).landed = false →
      (s.axis x).axtgtAt ≠ some (updateOf x (s.mono + 8)) →
      completes (.mtgt d a (BitVec.ofNat 8 x.val) .none) s (fun t => changesOnly [.mono, .eng, .axes] s t ∧ t.mono = s.mono + 8 ∧
        nextWord s t ∧ tookReg d 0 s t ∧ t.bank.z = true ∧ t.bank.b = s.bank.b ∧ (t.axis x).reg.tgt = s.r a ∧ (t.axis x).reg.tgtf = s.r a ∧
        (t.axis x).reg.vlim = (s.axis x).sVlim ∧ (t.axis x).tgtSet = false ∧ (t.axis x).reg.state.state = .moving ∧
        ∀ y : AxisIx, y ≠ x → (t.axis y).reg.tgt = (s.axis y).reg.tgt ∧ (t.axis y).reg.tgtf = (s.axis y).reg.tgtf)) ∧
    completes (.mvlim d a (BitVec.ofNat 8 x.val)) s (fun t => changesOnly [.mono, .eng, .axes] s t ∧ t.mono = s.mono + 1 ∧ wentOn s t ∧
      t.axis x = { s.axis x with sVlim := BitVec.ofNat 16 (s.r a).toNat, vlimSet := true } ∧ ∀ y : AxisIx, y ≠ x → t.axis y = s.axis y)) ∧
  (∀ (s : State) (p : PortalIx) (d a : Reg), s.ready = true → s.eng.sq = [] →
    s.eng.stepping = false → (s.portal p).twoLeaf = true → s.fitted (axisOf p 0) = true → s.fitted (axisOf p 1) = true →
    (s.axis (axisOf p 0)).reg.state.state = .moving → (s.axis (axisOf p 0)).landed = false →
    (s.axis (axisOf p 1)).reg.state.state = .moving → (s.axis (axisOf p 1)).landed = false →
    s.refusal (axisOf p 0) .target (s.r a).toInt = none → s.refusal (axisOf p 1) .target (s.r d).toInt = none →
    (s.axis (axisOf p 0)).axtgtAt ≠ some (updateOf (axisOf p 0) (s.mono + 10)) →
    (s.axis (axisOf p 1)).axtgtAt ≠ some (updateOf (axisOf p 1) (s.mono + 10)) →
    ((s.portal p).masked = true ∨ (s.edgeActive p 6 = false ∧ s.edgeActive p 7 = false)) →
    completes (.mleaf d a (BitVec.ofNat 8 p.val) .none) s (fun t => t.mono = s.mono + 10 ∧ nextWord s t ∧ tookReg d 0 s t ∧ t.bank.z = true ∧
      (t.axis (axisOf p 0)).reg.tgt = s.r a ∧ (t.axis (axisOf p 0)).reg.tgtf = s.r a ∧
      (t.axis (axisOf p 1)).reg.tgt = s.r d ∧ (t.axis (axisOf p 1)).reg.tgtf = s.r d ∧
      ∀ y : AxisIx, y ≠ axisOf p 0 → y ≠ axisOf p 1 → (t.axis y).reg.tgt = (s.axis y).reg.tgt))

/-- R77 to R81, R322: MCMD writes AXC.CMD of one axis, PCMD of every fitted axis of a portal: ENABLE ends a DISABLE, DISABLE sets it, HALT
starts the deceleration of a moving axis. R94 to R96, R322, R323: MSTAT and MPOS give the live state word and position; BHIT gives
AXC.BLZHIT and clears the bits it read; BREARM re-arms the named ONCE entries that lie on their approach side, and no other entry. R220,
R322: LSW commits LSB.CMD.ON of a channel from La[0], LSWB from B: the command in force is that bit, nothing stays staged, and Ld is 0 with
Z. -/
def Obligations.UnitWords : Prop :=
  (∀ (s : State) (x : AxisIx) (p : PortalIx) (d a : Reg), s.ready = true → s.eng.sq = [] →
    (s.fitted x = true →
      let does := fun (w : Word) (P : Axis → Prop) => s.r a = w → completes (.mcmd d a (BitVec.ofNat 8 x.val)) s (fun t =>
        t.mono = s.mono + 1 ∧ wentOn s t ∧ P (t.axis x) ∧ ∀ y : AxisIx, y ≠ x → t.axis y = s.axis y)
      does 0x10 (fun y => y.disable = false) ∧ does 8 (fun y => y.disable = true) ∧
      ((s.axis x).reg.state.state = .moving → (s.axis x).landed = false → does 2 (fun y => y.reg.state.state = .halting))) ∧
    (s.r a = 0x10 → completes (.pcmd d a (BitVec.ofNat 8 p.val)) s (fun t => t.mono = s.mono + 2 ∧ wentOn s t ∧
      (∀ y : AxisIx, portalOf y = p → s.fitted y = true → (t.axis y).disable = false) ∧
      ∀ y : AxisIx, portalOf y ≠ p → t.axis y = s.axis y))) ∧
  (∀ (s : State) (x : AxisIx) (d a : Reg), s.ready = true →
    let k := BitVec.ofNat 8 x.val
    completes (.mstat d k) s (fun t => plainWord 2 s t ∧ keptFlags s t ∧ tookReg d (s.axcState x) s t) ∧
    completes (.mpos d k) s (fun t => plainWord 2 s t ∧ keptFlags s t ∧ tookReg d (BitVec.ofInt 32 (s.axis x).pos) s t) ∧
    (s.eng.sq = [] → s.fitted x = true → completes (.bhit d k) s (fun t => changesOnly [.mono, .eng, .axes] s t ∧ t.mono = s.mono + 3 ∧
      nextWord s t ∧ tookReg d (s.axis x).reg.blzhit s t ∧ (t.bank.z = true ↔ (s.axis x).reg.blzhit = 0) ∧ (t.axis x).reg.blzhit = 0 ∧
      ∀ y : AxisIx, y ≠ x → t.axis y = s.axis y)) ∧
    (s.eng.sq = [] → s.fitted x = true → completes (.brearm d a k) s (fun t => changesOnly [.mono, .eng, .axes] s t ∧ t.mono = s.mono + 1 ∧
      wentOn s t ∧ ∀ e : Fin 32, (t.axis x).reg.blzarmd.getLsbD e.val = ((s.axis x).reg.blzarmd.getLsbD e.val ||
        ((s.r a).getLsbD e.val && (blazeAt (s.axis x).blz e).once && (blazeAt (s.axis x).blz e).approach (s.axis x).pos 0))))) ∧
  (∀ (s : State) (c : ChanIx) (d a : Reg), s.ready = true → s.eng.sq = [] →
    s.eng.stepping = false → (s.portal (chanPortal c)).reg.cfg.kind ≠ 0 →
    let commits := fun (i : Instr) (on : Bool) => completes i s (fun t => changesOnly [.mono, .eng, .portals, .ls] s t ∧
      t.mono = s.mono + 8 ∧ nextWord s t ∧ tookReg d 0 s t ∧ t.bank.z = true ∧ t.bank.b = s.bank.b ∧
      t.ls[c.val].reg.cmd = on ∧ t.ls[c.val].staged = false ∧ t.ls[c.val].sCmd = on ∧ ∀ o : ChanIx, o ≠ c → t.ls[o.val] = s.ls[o.val])
    commits (.lsw d a (BitVec.ofNat 8 c.val) .none) ((s.r a).getLsbD 0) ∧ commits (.lswb d (BitVec.ofNat 8 c.val) .none) s.bank.b)

/-- R325, R326, R405, R410: TREC and TWORD write a program record of subtype K with status 0 or 1 in Ld while staging has room, answer 2 and
count where the program's share is full, and TREC answers 3 with a violation where its buffer breaks the rule. R325, R326, R388 to R392:
MBSEND queues a message that its mailbox can take and answers 0; MBRECV takes the oldest message into a buffer that can hold it, gives its
length, and 0 where there is none; MBSTAT gives the status word and clears its event bits. -/
def Obligations.RecordsAndMessages : Prop :=
  (∀ (s : State) (d a : Reg) (k : BitVec 8), s.ready = true → s.eng.sq = [] → k ≠ 0xFF →
    let A := (s.r a).toNat
    let len := (s.r d).toNat % 65536
    let said := fun (t : State) (n : Nat) => t.mono = s.mono + n ∧ nextWord s t ∧ (∀ q : Reg, q ≠ d → t.r q = s.r q) ∧
      (t.bank.z = true ↔ t.r d = 0) ∧ t.bank.b = s.bank.b
    let stages := fun (i : Instr) (n : Nat) => completes i s (fun t => changesOnly [.mono, .eng, .tally] s t ∧ said t n ∧
      (t.r d = 0 ∨ t.r d = 1) ∧ newestIs (BitVec.ofNat 16 (0x8000 + k.toNat)) t)
    let full := fun (i : Instr) (n : Nat) => completes i s (fun t => said t n ∧ t.r d = 2 ∧ t.tally.staging = s.tally.staging ∧
      t.tally.reg.cnt.pfulln = satInc s.tally.reg.cnt.pfulln)
    (tallyOpen s → s.tally.fill < 458752 → stages (.tword d a k) 8 ∧
      (len ≤ 1024 → A % 4 = 0 → inData A len = true → stages (.trec d a k) (8 + (len + 15) / 16))) ∧
    (s.tally.starting = false → s.tally.reg.stat.spare = false → 458752 ≤ s.tally.fill → full (.tword d a k) 8 ∧
      (len ≤ 1024 → A % 4 = 0 → inData A len = true → full (.trec d a k) (8 + (len + 15) / 16))) ∧
    (1024 < len ∨ A % 4 ≠ 0 → completes (.trec d a k) s (fun t => changesOnly [.mono, .eng] s t ∧ said t (8 + (len + 15) / 16) ∧
      t.r d = 3 ∧ t.eng.sys.violn = satInc s.eng.sys.violn ∧ t.eng.sys.viola = s.r a))) ∧
  (∀ (s : State) (d a : Reg) (m : Fin 64), s.ready = true → s.eng.sq = [] → s.memOk →
    let k := BitVec.ofNat 8 m.val
    let A := (s.r a).toNat
    let w0 := (s.memWord A).toNat
    let w1 := (s.memWord (A + 4)).toNat
    (A % 4 = 0 → inData A 8 = true →
      ((s.net.reg.mbcfg[m.val]).en = true → (s.net.reg.mbcfg[m.val]).dir = true → MbLink.ofCode (s.net.reg.mbcfg[m.val]).link = some .udp →
        (s.net.mbox[m.val]).out.length < 16 → 8 ≤ w1 → w1 ≤ 1480 → w0 % 4 = 0 → inData w0 w1 = true →
        completes (.mbsend d a k) s (fun t => changesOnly [.mono, .eng, .net] s t ∧ t.mono = s.mono + 10 + (w1 + 15) / 16 ∧ nextWord s t ∧
          tookReg d 0 s t ∧ t.bank.z = true ∧ ∃ g : Msg, (t.net.mbox[m.val]).out = (s.net.mbox[m.val]).out ++ [(g, t.mono)] ∧
            g.word0 = s.memWord w0 ∧ g.data = s.bytes (w0 + 8) (w1 - 8))) ∧
      (w0 % 4 = 0 → inData w0 w1 = true → ∀ (g : Msg) (gs : List Msg), (s.net.mbox[m.val]).queue = g :: gs → g.data.length + 8 ≤ w1 →
        completes (.mbrecv d a k) s (fun t => changesOnly [.mono, .mem, .eng, .net] s t ∧ nextWord s t ∧
          tookReg d (BitVec.ofNat 32 (g.data.length + 8)) s t ∧ (t.net.mbox[m.val]).queue = gs ∧
          (∀ i : Nat, i < g.data.length → t.byte (w0 + 8 + i) = g.data.getD i 0) ∧
          ∀ y : Nat, y < w0 ∨ w0 + 8 + g.data.length ≤ y → t.byte y = s.byte y)) ∧
      (w0 % 4 = 0 → inData w0 w1 = true → (s.net.mbox[m.val]).queue = [] → completes (.mbrecv d a k) s (fun t => wordRan 10 s t ∧
        nextWord s t ∧ tookReg d 0 s t ∧ t.bank.z = true ∧ t.bank.n = false))) ∧
    completes (.mbstat d k) s (fun t => changesOnly [.mono, .eng, .net] s t ∧ t.mono = s.mono + 10 ∧ nextWord s t ∧ keptFlags s t ∧
      tookReg d (s.mailboxStatus m) s t ∧ (t.net.mbox[m.val]).ovf = false ∧ (t.net.mbox[m.val]).txerr = false ∧
      (t.net.mbox[m.val]).queue = (s.net.mbox[m.val]).queue))

/-- R5, R26, R249, R282, R392, Table 1-7: what a register access by context `c` does, the store queue empty: without the right a write is
only counted; a write reaches memory or a staged register; a read of a _LO half latches the _HI half for its reader; a read of a mailbox
clears the event bits it returns; a read of FIO.EQ takes the oldest edge. That these rows are accesses by any context, not gated on RUN, and
that a read's result is recorded in sent are the model's choices (DEDUCED, log 25). -/
def Obligations.RegisterAccesses : Prop := ∀ (s : State) (c : Fin 5) (a w : Word), s.online = true → s.eng.sq = [] →
  (mayWrite a.toNat 4 = false → completes (.registerWrite c a w) s (fun t => changesOnly [.eng] s t ∧
    t.eng = { s.eng with sys := { s.eng.sys with violn := satInc s.eng.sys.violn, viola := a } })) ∧
  (a.toNat % 4 = 0 → inData a.toNat 4 = true → s.memOk → completes (.registerWrite c a w) s (fun t => changesOnly [.mem] s t ∧
    t.memWord a.toNat = w ∧ t.memOk ∧ ∀ x : Nat, x < a.toNat ∨ a.toNat + 4 ≤ x → t.byte x = s.byte x)) ∧
  (∀ x : AxisIx, s.fitted x = true → completes (.registerWrite c (BitVec.ofNat 32 (0x21000014 + 0x1000 * x.val)) w) s (fun t =>
    changesOnly [.axes] s t ∧ t.axis x = { s.axis x with sVlim := getF w 0 16, vlimSet := true } ∧
    ∀ y : AxisIx, y ≠ x → t.axis y = s.axis y)) ∧
  (∀ v : Nat, mayRead a.toNat 4 = true → s.pair64 (placeOf a.toNat) = some v → completes (.loHalfRead c a) s (fun t =>
    changesOnly [.latch, .sent] s t ∧ t.sent = s.sent ++ [.value c.val a.toNat (BitVec.ofNat 32 v)] ∧
    t.latchGet c.val (a.toNat + 4) = BitVec.ofNat 32 (v / 2 ^ 32) ∧ ∀ r n : Nat, r ≠ c.val → t.latchGet r n = s.latchGet r n)) ∧
  (∀ m : Fin 64, completes (.rcFieldRead c (BitVec.ofNat 32 (0x28000000 + 0x1000 * m.val))) s (fun t => changesOnly [.net, .sent] s t ∧
    t.sent = s.sent ++ [.value c.val (0x28000000 + 0x1000 * m.val) (s.mailboxStatus m)] ∧ (t.net.mbox[m.val]).ovf = false ∧
    (t.net.mbox[m.val]).txerr = false ∧ (t.net.mbox[m.val]).queue = (s.net.mbox[m.val]).queue)) ∧
  (∀ e es, s.fio.queue = e :: es → completes (.edgeQueueRead c) s (fun t => changesOnly [.fio, .latch, .sent] s t ∧ t.fio.queue = es ∧
    t.sent = s.sent ++ [.value c.val 0x24000340 (putV e.input 0 ||| putB e.level 8 ||| putB true 31)] ∧
    t.latchGet c.val 0x24000344 = BitVec.ofNat 32 e.time ∧ t.latchGet c.val 0x24000348 = BitVec.ofNat 32 (e.time / 2 ^ 32))) ∧
  (s.fio.queue = [] → completes (.edgeQueueRead c) s (fun t => changesOnly [.sent] s t ∧
    t.sent = s.sent ++ [.value c.val 0x24000340 0]))

/-- R403, R404, R405, R410: a store to the emission port's GO word emits the port's first LEN bytes as a program record of subtype K while
staging has room, and is a violation where LEN or a reserved bit is out of place; a write of TAL.CTL.FLUSH triggers a flush that covers
every record staged before it and follows the flushes triggered before; a flush's end takes its own records alone, of a history not yet
commissioned to ROLL, in their order, and the next flush in line begins. -/
def Obligations.EmissionAndFlush : Prop := ∀ (s : State) (w : Word) (n : Nat) (wear : FlushWear), s.online = true →
  (s.ready = true → tallyOpen s → s.tally.fill < 458752 → (getF w 16 11).toNat ≤ 1024 → w &&& 0xF800FF00 = 0 →
    completes (.emissionGo w) s (fun t => changesOnly [.tally] s t ∧ newestIs (0x8000 + (getF w 0 8).setWidth 16) t ∧
      ∃ r : Rec, t.tally.staging.getLast? = some r ∧
        r.payload = ((s.eng.port[s.eng.cur.val].toList.map fun v => leBytes 4 v.toNat).flatten).take (getF w 16 11).toNat)) ∧
  (s.ready = true → (1024 < (getF w 16 11).toNat ∨ w &&& 0xF800FF00 ≠ 0) → completes (.emissionGo w) s (fun t => changesOnly [.eng] s t ∧
    t.eng.sys.violn = satInc s.eng.sys.violn ∧ t.eng.sys.viola = 0x27000FFC)) ∧
  completes .talFlush s (fun t => changesOnly [.tally] s t ∧ t.tally.staging = s.tally.staging ∧ t.tally.seq = s.tally.seq ∧
    (s.tally.flush = none → t.tally.flush = some s.tally.seq ∧ t.tally.reg.stat.flushing = true) ∧
    (s.tally.flush ≠ none → t.tally.flush = s.tally.flush ∧ t.tally.covered = s.tally.seq ∧
      t.tally.queued = if s.tally.covered = s.tally.seq then s.tally.queued else s.tally.queued ++ [s.tally.seq])) ∧
  (s.tally.flush = some n → s.tally.starting = false → s.tally.held = [] → s.tally.commSeq = none → s.tally.reg.stat.spare = false →
    wear.worn.toNat + wear.first.toNat + wear.other.toNat + 64 ≤ s.tally.spares → s.tally.lost = 0 →
    completes (.tallyFlushComplete wear) s (fun t => t.tally.flush = s.tally.queued.head? ∧ t.tally.queued = s.tally.queued.tail ∧
      t.tally.reg.stat.flushing = !s.tally.queued.isEmpty ∧ t.tally.first = s.tally.first ∧ t.tally.seq = s.tally.seq ∧
      t.tally.staging = s.tally.staging.filter (fun r => !decide (r.seq < n)) ∧ 64 ≤ t.tally.spares ∧
      (t.tally.rollU ≤ 3145728 →
        t.tally.roll.map Prod.snd = s.tally.roll.map Prod.snd ++ s.tally.staging.filter (fun r => decide (r.seq < n)))))

/-- R77 to R79, R81, R83, R87, R91: the bits of AXC.CMD, each on its own: STOP stops the axis where its set-point is; HALT begins the
deceleration of a moving axis; DISABLE puts the bridges off, and ENABLE puts them on again once no cause of Table 3-2 is left; REREF halts a
moving axis first, places an SDO axis without feedback at REFOFS at once, and is refused as Table 3-4 says. Another axis is not touched by
the first four. R95, R149, R154: the other command registers of a fitted axis: BLZREARM arms the named ONCE entries that lie on their
approach side, FMAPCMD clears the friction map, and a calibration request starts the calibration or waits for the idle window with a record.
-/
def Obligations.AxisCommandRegisters : Prop :=
  (∀ (s : State) (x : AxisIx), s.online = true → s.fitted x = true →
    let y := s.axis x
    let u := s.modAxis x (fun z => { z with disable := false })
    let rest := fun t : State => ∀ z : AxisIx, z ≠ x → t.axis z = s.axis z
    (y.st ≠ .disabled → completes (.cmdStop x) s (fun t => changesOnly [.axes, .portals] s t ∧ rest t ∧ (t.axis x).st = .stopped ∧
      (t.axis x).reg.state.cause = 1 ∧ (t.axis x).vel = 0 ∧ (t.axis x).acc = y.acc ∧ (t.axis x).bridges = y.bridges)) ∧
    (y.st = .moving → y.landed = false → completes (.cmdHalt x) s (fun t => changesOnly [.axes] s t ∧ rest t ∧
      (t.axis x).st = .halting ∧ (t.axis x).vel = y.vel ∧ (t.axis x).reg.tgtf = y.reg.tgtf)) ∧
    (y.st ≠ .disabled → completes (.cmdDisable x) s (fun t => changesOnly [.axes, .portals] s t ∧ rest t ∧ (t.axis x).st = .disabled ∧
      (t.axis x).disable = true ∧ (t.axis x).bridges = false ∧ (t.axis x).vel = 0)) ∧
    (y.st = .disabled → u.offCause x = none → completes (.cmdEnable x) s (fun t => changesOnly [.axes] s t ∧ rest t ∧
      (t.axis x).disable = false ∧ (t.axis x).st = .idle ∧ (t.axis x).bridges = true ∧ (y.hasFb = true → (t.axis x).setp = y.pos))) ∧
    (y.st = .moving → y.landed = false → (y.reg.cfg.sdo = false ∨ y.hasFb = true) → s.refusal x .reref 0 = none →
      completes (.cmdReref x) s (fun t => changesOnly [.axes, .portals] s t ∧ (t.axis x).st = .halting ∧ (t.axis x).haltRef = true)) ∧
    (y.reg.cfg.sdo = true → y.hasFb = false → y.st ≠ .referencing → s.refusal x .reref 0 = none →
      completes (.cmdReref x) s (fun t => changesOnly [.axes, .portals] s t ∧ (t.axis x).st = .idle ∧ (t.axis x).pos = y.reg.refofs.toInt ∧
        (t.axis x).setp = y.reg.refofs.toInt ∧ (t.axis x).reg.state.trust = .trusted ∧ (t.axis x).reg.tgtf = y.reg.refofs)) ∧
    (∀ c, s.refusal x .reref 0 = some c → completes (.cmdReref x) s (fun t => changesOnly [.axes, .freeSeq] s t ∧ rest t ∧
      (t.axis x).reg.refuse = c ∧ (t.axis x).reg.flt.refused = true ∧ (t.axis x).reg.tgtf = y.reg.tgtf ∧ (t.axis x).st = y.st))) ∧
  (∀ (s : State) (x : AxisIx) (w : Word), s.online = true → s.fitted x = true →
    let y := s.axis x
    let rest := fun t : State => ∀ z : AxisIx, z ≠ x → t.axis z = s.axis z
    completes (.blzrearm x w) s (fun t => changesOnly [.axes] s t ∧ rest t ∧ ∀ e : Fin 32, (t.axis x).reg.blzarmd.getLsbD e.val =
      (y.reg.blzarmd.getLsbD e.val || (w.getLsbD e.val && (blazeAt y.blz e).once && (blazeAt y.blz e).approach y.pos 0))) ∧
    completes (.fmapClear x) s (fun t => changesOnly [.axes] s t ∧ rest t ∧
      t.axis x = { y with reg := { y.reg with fmap := Vector.replicate 64 {} } }) ∧
    (y.reg.cal.status ≠ .deferred → y.reg.cal.status ≠ .running → y.calPend = false →
      (s.calReady x = true → completes (.calReq x) s (fun t => changesOnly [.axes] s t ∧ rest t ∧ (t.axis x).reg.cal.status = .running ∧
        (t.axis x).calAt = some s.mono)) ∧
      (s.calReady x = false → completes (.calReq x) s (fun t => changesOnly [.tally, .axes] s t ∧ rest t ∧
        (t.axis x).reg.cal.status = .deferred ∧ (tallyOpen s → newestIs 0x19 t)))))

/-- R67, R68, R74, R94, R96, R47: an update of an axis comes at a tick congruent to its number modulo 64. In motion the accumulator adds the
velocity, or lands on the target in the last update of a plan that ends; an entry crossed sets its BLZHIT bit with the time, and a speed cap
it carries comes into force; an update of leaf A computes the portal gap anew from trusted leaves. The instant at which an event comes,
where a clause gives it, is how the model lets time pass (log 1). -/
def Obligations.AxisUpdateMoves : Prop := ∀ (s : State) (x : AxisIx) (e : Fin 32) (p : PortalIx), s.online = true →
  let y := s.axis x
  let quiet := fun a : AxisIx => (∀ n : Fin 32, (blazeAt (s.axis a).blz n).en = false) ∧
    ∀ o, (s.axis a).blzOld = some o → updateOf a o.1 < updateOf a s.mono
  let timed := fun (a : AxisIx) (t : State) => t.mono % 64 = a.val ∧ max s.mono (s.axis a).updAt ≤ t.mono ∧
    t.mono < max s.mono (s.axis a).updAt + 64 ∧ (t.axis a).updAt = t.mono + 1
  (x.val % 4 ≠ 0 → quiet x → y.st = .moving → y.landed = false → y.landing = false → y.reg.cfg.sdo = false →
    -posMax ≤ (y.acc + y.vel) / 4294967296 → (y.acc + y.vel) / 4294967296 ≤ posMax →
    completes (.axisUpdate x) s (fun t => changesOnly [.mono, .axes, .portals] s t ∧ timed x t ∧ (t.axis x).acc = y.acc + y.vel ∧
      (t.axis x).st = .moving ∧ (t.axis x).vel = y.vel ∧ (y.hasFb = false → (t.axis x).pos = (y.acc + y.vel) / 4294967296) ∧
      ∀ z : AxisIx, z ≠ x → t.axis z = s.axis z)) ∧
  (x.val % 4 ≠ 0 → quiet x → y.st = .moving → y.landed = false → y.landing = true → y.reg.cfg.sdo = false →
    -posMax ≤ (y.acc + y.vel) / 4294967296 → (y.acc + y.vel) / 4294967296 ≤ posMax →
    (y.reg.tgtf.toInt * 4294967296 - (y.acc + y.vel)).natAbs ≤ max 64 y.vel.natAbs →
    completes (.axisUpdate x) s (fun t => changesOnly [.mono, .axes, .portals] s t ∧ timed x t ∧ (t.axis x).setp = y.reg.tgtf.toInt ∧
      (t.axis x).frac = 0 ∧ (t.axis x).vel = 0 ∧ (t.axis x).accel = 0 ∧ (t.axis x).landed = true ∧ (t.axis x).st = .moving)) ∧
  (x.val % 4 ≠ 0 → y.hasFb = true → (∀ o, y.blzOld = some o → updateOf x o.1 < updateOf x s.mono) → s.crossings x = [e] →
    (blazeAt y.blz e).action = 1 → (blazeAt y.blz e).call = false →
    completes (.axisUpdate x) s (fun t => timed x t ∧ (t.axis x).reg.blzhit = y.reg.blzhit ||| (1#32 <<< e.val) ∧
      (t.axis x).blzTs = t.mono ∧ ((blazeAt y.blz e).dir ≠ 3 → (t.axis x).reg.blzarmd.getLsbD e.val = false ∧
        (e.val, (getF (blazeAt y.blz e).arg 0 16).toNat) ∈ (t.axis x).vcaps))) ∧
  (quiet (axisOf p 0) → (s.portal p).arm = 0 → s.leavesTrusted p = true → (∀ a ∈ s.leaves p, (s.axis a).hasFb = true) →
    completes (.axisUpdate (axisOf p 0)) s (fun t => timed (axisOf p 0) t ∧ (t.portal p).g = s.gapNow p ∧
      (t.portal p).reg.gap = gapUnits (s.gapNow p)))

/-- R71: an update that would carry the set-point of an axis in motion beyond ±(2^31 − 1) leaves it in place, sets AXC.FLT.SAT and stops the
axis, which becomes UNTRUSTED; another axis's set-point is not moved. -/
def Obligations.PositionSaturates : Prop := ∀ (s : State) (x : AxisIx), s.online = true →
  let y := s.axis x
  (∀ e : Fin 32, (blazeAt y.blz e).en = false) → y.st = .moving → y.landed = false → y.landing = false →
  y.reg.cfg.sdo = false → ((y.acc + y.vel) / 4294967296 < -2147483647 ∨ 2147483647 < (y.acc + y.vel) / 4294967296) →
  completes (.axisUpdate x) s (fun t => (t.axis x).acc = y.acc ∧ (t.axis x).reg.flt.sat = true ∧ (t.axis x).st = .stopped ∧
    (t.axis x).vel = 0 ∧ (t.axis x).reg.state.trust = .untrusted ∧ ∀ z : AxisIx, z ≠ x → (t.axis z).acc = (s.axis z).acc)

/-- R56, R74, R76, R82, R99 to R102: but for its last period, a planning period changes the acceleration by no more than JMAX, carries it no
further beyond AMAX, and lets the speed rise above the limits of R76 only as far as the jerk limit forces it; an evaluation of the queue
takes the measurements, admits the head where the load and the budget allow, and leaves it waiting where they do not; a landed axis is at
its target after 5 ms within INPOS; when the warning time is over a held start enters the queue. R87, R89, R277: the end stop gives an axis
REFOFS as position, set-point and target and makes it TRUSTED and IDLE; a re-reference that takes too long sets REFFAIL and stops it with
cause 5, unless the end stop is found by then; in STOP the bridges go off at standstill or 50 ms after the stop. The instant at which an
event comes, where a clause gives it, is how the model lets time pass (log 1). That the planner takes the fastest plan within its limits is
the model's choice (DEDUCED, log 6). -/
def Obligations.AxisPlans : Prop :=
  (∀ (s : State) (x : AxisIx) (p : PortalIx) (im vb : BitVec 12) (n : Nat), s.online = true →
    let y := s.axis x
    let u : State := { s with fel := { s.fel with meas := { imeas := im, vbus := vb } } }
    let j := jerkX y.reg.jmax.toNat
    (y.st = .moving → y.landed = false → completes (.planningPeriod x) s (fun t => changesOnly [.mono, .axes] s t ∧
      t.mono = max s.mono y.planAt ∧ (t.axis x).planAt = t.mono + 4096 ∧ (t.axis x).st = .moving ∧ (t.axis x).acc = y.acc ∧
      ((t.axis x).velx.natAbs : Int) ≤ max (y.velx.natAbs + max 0 ((y.accel.natAbs : Int) - j))
        (max (speedX (y.speedLimit (s.finalCapOf x) true)) (speedX (y.speedLimit (s.finalCapOf x) false))) ∧
      ((t.axis x).landing = false → (y.velx ≠ 0 ∨ y.accel = 0) → (((t.axis x).accel - y.accel).natAbs : Int) ≤ j ∧
        ((t.axis x).accel.natAbs : Int) ≤ max (y.accel.natAbs : Int) (max (accelX y.reg.amax.ac.toNat) (accelX y.reg.amax.ao.toNat))) ∧
      (y.velx = 0 → y.accel ≠ 0 → (t.axis x).velx = 0 ∧ (t.axis x).accel = 0) ∧
      ∀ z : AxisIx, z ≠ x → t.axis z = s.axis z)) ∧
    ((s.queuedStarts = [] → completes (.fellingEvaluation im vb) s (fun t => changesOnly [.fel, .pwr] s t ∧
        t.fel.meas = { imeas := im, vbus := vb } ∧ t.fel.load = { load := satNat 12 u.load, beff := satNat 12 u.beff })) ∧
      (s.queuedStarts = [x] → 2 ≤ x.val % 4 → y.kind = .target → s.startsBarred = false → u.beff ≠ 0 →
        u.load + y.reg.fel.ipk.toNat ≤ u.beff → completes (.fellingEvaluation im vb) s (fun t => (t.axis x).st = .moving ∧
          (t.axis x).vel = 0 ∧ (t.axis x).admitAt = s.mono ∧ t.mono = s.mono)) ∧
      (s.queuedStarts = [x] → 2 ≤ x.val % 4 → u.beff < u.load + y.reg.fel.ipk.toNat → s.since y.arrive ≤ ms s.fel.bound.toNat →
        completes (.fellingEvaluation im vb) s (fun t => changesOnly [.fel, .pwr] s t ∧ (t.axis x).st = .queued))) ∧
    (y.inposAt = some n → y.landed = true → y.st = .moving → completes (.standstillAtTarget x) s (fun t =>
      changesOnly [.mono, .axes, .portals] s t ∧ t.mono = max s.mono (n + ms 5) ∧ (t.axis x).st = .idle ∧
      (t.axis x).reg.state.attgt = true ∧ (t.axis x).acc = y.acc ∧ ∀ z : AxisIx, z ≠ x → t.axis z = s.axis z)) ∧
    (x ∈ s.leaves p → y.st = .warnhold → (s.portal p).lpAt = some n → s.queuedStarts = [] → s.beff = 0 →
      completes (.warnMet p) s (fun t => (t.axis x).st = .queued ∧ (t.axis x).arrive = t.mono ∧
        t.mono = max s.mono (max n (s.portal p).stillAt + ms (10 * (s.portal p).reg.seq.warn.toNat))))) ∧
  (∀ (s : State) (x : AxisIx) (n : Nat), s.online = true →
    let y := s.axis x
    let far := 5 * (y.reg.slmax.toInt - y.reg.refofs.toInt) < 4 * (y.refAt - y.pos).natAbs
    let due := if far then s.mono else max s.mono (y.admitAt + ms (100 * y.reg.refv.reftmo.toNat))
    let rest := fun t : State => ∀ z : AxisIx, z ≠ x → t.axis z = s.axis z
    (y.st = .referencing → y.refOver = some n → completes (.endStopFound x) s (fun t => changesOnly [.mono, .axes, .portals] s t ∧
      t.mono = max s.mono (n + ms y.reg.refd.reft.toNat) ∧ (t.axis x).pos = y.reg.refofs.toInt ∧ (t.axis x).setp = y.reg.refofs.toInt ∧
      (t.axis x).reg.tgtf = y.reg.refofs ∧ (t.axis x).reg.state.trust = .trusted ∧ (t.axis x).st = .idle ∧ (t.axis x).vcaps = [] ∧
      (t.axis x).vel = 0)) ∧
    (y.st = .referencing → y.foundBy x due = false → completes (.referenceTimeout x) s (fun t =>
      changesOnly [.mono, .axes, .portals] s t ∧ rest t ∧ t.mono = due ∧ (t.axis x).reg.flt.reffail = true ∧ (t.axis x).st = .stopped ∧
      (y.causeAt ≠ updateOf x due → (t.axis x).reg.state.cause = 5))) ∧
    (y.st = .referencing → y.foundBy x due = true → completes (.referenceTimeout x) s (fun t => (t.axis x).reg.flt.reffail = y.reg.flt.reffail ∧
      (t.axis x).st = .idle ∧ (t.axis x).reg.state.trust = .trusted)) ∧
    (s.mode = .stop → y.stopOff = false → y.st ≠ .disabled → completes (.bridgesOffInStop x) s (fun t => changesOnly [.mono, .axes] s t ∧
      rest t ∧ (t.axis x).st = .disabled ∧ (t.axis x).bridges = false ∧ (t.axis x).stopOff = true ∧
      t.mono = if y.fb.sq.qual = .still then s.mono else max s.mono (y.stopAt + ms 50))))

/-- R86, R135, R136, R138, R144, R153: the steps of an axis's loops come on the grid of R135, every 25 µs (half a carrier period of R136),
every 100 µs and every 400 µs: the current step takes the measured currents less their offsets, puts the voltages of the step before it out,
and keeps both components of the next turning point within their limit, the speed step keeps the current command within the current limit in
force, the position step keeps the speed command within the envelope, and a following error beyond TRUSTB at two steps in a row stops the
axis, UNTRUSTED. An axis without a motor has no current loop. R151, R153, R154: an overcurrent or a stage above 150 °C cuts the axis, its
bridges and low-side switches off; a stage below 130 °C releases the cut. Pending calibrations start together; averages within 500 mA become
the offsets, others fail the calibration, with a record. The instant at which an event comes, where a clause gives it, is how the model lets
time pass (log 1). The loop grid counted from tick 0 (DESIGN CHOICE, log 86) and the separate limits of the q and d voltages (DEDUCED, log
33) are the model's choices; so is a calibration whose low-side switches a cut opens (DESIGN CHOICE, log 133). -/
def Obligations.ControlLoops : Prop :=
  (∀ (s : State) (x : AxisIx) (iu iv iw : BitVec 16), s.online = true →
    let y := s.axis x
    let rest := fun t : State => ∀ z : AxisIx, z ≠ x → t.axis z = s.axis z
    let past := y.st ≠ .disabled ∧ y.hasFb = true ∧ (y.reg.trustb.toNat : Int) < y.ferr.natAbs
    let u := iu.toInt - y.reg.iofs.u.toInt
    let v := iv.toInt - y.reg.iofs.v.toInt
    let w := iw.toInt - y.reg.iofs.w.toInt
    let onGrid := fun (t : State) (n from_ : Nat) => t.mono % (10000 * n) = carrierOf x % (10000 * n) ∧ max s.mono from_ ≤ t.mono ∧
      t.mono < max s.mono from_ + 10000 * n
    (y.reg.mot.kind ≠ 0 → completes (.currentLoopStep x iu iv iw) s (fun t => changesOnly [.mono, .axes, .freeSeq] s t ∧ rest t ∧
      onGrid t 1 y.curAt ∧ (t.axis x).iph = (if y.reg.mot.phswap then (u, w, v) else (u, v, w)) ∧
      (y.reg.mot.kind ≠ 1 → (t.axis x).imeas = u ∧ (t.axis x).reg.iq.meas = sat16 u) ∧
      ((t.axis x).duty = y.dutyNext ∨ (t.axis x).bridges = false) ∧
      (y.calibrating = false → (t.axis x).dutyNext.1.natAbs ≤ voltageLimit y.reg.mot.kind s.fel.meas.vbus.toNat ∧
        (t.axis x).dutyNext.2.natAbs ≤ voltageLimit y.reg.mot.kind s.fel.meas.vbus.toNat) ∧
      (y.calibrating = true → (t.axis x).dutyNext = y.dutyNext ∨ (t.axis x).bridges = false))) ∧
    (y.reg.mot.kind = 0 → completes (.currentLoopStep x iu iv iw) s (fun t => t = s)) ∧
    (y.reg.mot.kind ≠ 0 → y.calibrating = false → completes (.speedLoopStep x) s (fun t =>
      changesOnly [.mono, .tally, .axes, .portals] s t ∧ onGrid t 4 y.spdAt ∧
      (t.axis x).icmd.natAbs ≤ y.currentLimit ∧ (t.axis x).fhist.length ≤ 10)) ∧
    (y.reg.mot.kind ≠ 0 → y.calibrating = false → ¬ past → completes (.positionLoopStep x) s (fun t => changesOnly [.mono, .axes] s t ∧ rest t ∧
      onGrid t 16 y.posAt ∧
      ((t.axis x).vcmd.natAbs : Int) ≤ y.vLimit ∧ (t.axis x).ferrOver = false)) ∧
    (past → y.ferrOver = true → completes (.positionLoopStep x) s (fun t => changesOnly [.mono, .axes, .portals] s t ∧ rest t ∧
      (t.axis x).reg.flt.ferr = true ∧ (t.axis x).reg.state.trust = .untrusted ∧ (t.axis x).st = .stopped ∧
      (y.causeAt ≠ updateOf x t.mono → (t.axis x).reg.state.cause = 5)))) ∧
  (∀ (s : State) (x : AxisIx) (k : BitVec 8) (mu mv mw : BitVec 16) (n : Nat), s.online = true →
    let y := s.axis x
    let rest := fun t : State => ∀ z : AxisIx, z ≠ x → t.axis z = s.axis z
    let cut := fun t : State => changesOnly [.axes] s t ∧ rest t ∧ (t.axis x).reg.flt.envcut = true ∧ (t.axis x).st = .disabled ∧
      (t.axis x).lowSide = false ∧ (y.st ≠ .disabled → (t.axis x).bridges = false)
    let small := mu.toInt.natAbs ≤ 500 ∧ mv.toInt.natAbs ≤ 500 ∧ mw.toInt.natAbs ≤ 500
    completes (.overcurrentComparator x) s (fun t => cut t ∧ (t.axis x).reg.envst.ochw = true) ∧
    (150 < k.toNat → completes (.stageOvertemp x k) s (fun t => cut t ∧ (t.axis x).reg.envst.otemp = true ∧ (t.axis x).hot = true)) ∧
    (k.toNat < 130 → completes (.stageOvertemp x k) s (fun t => changesOnly [.axes] s t ∧ rest t ∧ t.axis x = { y with hot := false })) ∧
    completes .calibrationStart s (fun t => changesOnly [.axes] s t ∧ ∀ z : AxisIx, t.axis z =
      if (s.axis z).reg.cal.status = .deferred ∧ s.calReady z = true then
        { (s.axis z).setCal .running with calAt := some s.mono, lowSide := true, duty := (0, 0), dutyNext := (0, 0) } else s.axis z) ∧
    (y.calAt = some n → y.calibrating = true →
      (small → completes (.calibrationComplete x mu mv mw) s (fun t => changesOnly [.mono, .axes] s t ∧ rest t ∧
        t.mono = max s.mono (n + us 6400) ∧ (t.axis x).reg.iofs = { u := mu.setWidth 10, v := mv.setWidth 10, w := mw.setWidth 10 } ∧
        (t.axis x).lowSide = false ∧
        (t.axis x).reg.cal = { ofsok := true, status := if y.calPend then .deferred else .done })) ∧
      (¬ small → completes (.calibrationComplete x mu mv mw) s (fun t => changesOnly [.mono, .tally, .axes] s t ∧ rest t ∧
        (t.axis x).reg.cal.status = (if y.calPend then .deferred else .failed) ∧ (t.axis x).reg.iofs = y.reg.iofs ∧ (tallyOpen s →
          newestIs 0x19 t)))))

/-- R106 to R113, R115 to R117, R119: lines that have not been present for FILT samples only stand at the pins, and so do levels that come
back to those accepted; a legal transition of accepted levels counts and is dated to their first sample; an illegal one is counted, leaves
the count and is a fault at once where ILLN is 0 or 1; a serial request comes at a current-loop step of its axis; a serial word in order
gives the count, one whose line was not idle or whose start bit came late is discarded and counted; standstill reads speed 0, STILL. R124 to
R127, R131: an index event whose sample's count lies within the tolerance corrects the count and restores TRUSTED, one outside it degrades
the axis and leaves the count, one in an illegal sample is ignored; the compare pulse ends at its time. The instant at which an event comes,
where a clause gives it, is how the model lets time pass (log 1). The grid of serial requests counted from tick 0 (DESIGN CHOICE, log 86)
and ILLN 0 acting as 1 (DESIGN CHOICE, log 110) are the model's choices. -/
def Obligations.Feedback : Prop :=
  (∀ (s : State) (x : AxisIx) (hall : Bool) (l : BitVec 3) (held : Vector Nat 3) (h : Nat) (u : Bool)
    (raw : BitVec 40) (crc start delay : BitVec 16) (err warn idle : Bool), s.online = true →
    let y := s.axis x
    let old := if hall then y.fb.sq.hallc else y.fb.sq.abz
    let n : Int := if hall then y.fb.hcnt.toNat else 1
    let dest := if u != y.fb.cfg.inv then y.pos + n else y.pos - n
    let len := y.fb.ser.len.toNat
    let rest := fun t : State => ∀ z : AxisIx, z ≠ x → t.axis z = s.axis z
    let changed := fun i : Fin 3 => (old ^^^ l).getLsbD i.val = true
    let accepted := l ≠ old ∧ (∀ i : Fin 3, changed i → held[i.val] = h) ∧ max y.fb.cfg.filt.toNat 1 ≤ h + 1
    ((∀ i : Fin 3, changed i → held[i.val] + 1 < max y.fb.cfg.filt.toNat 1) →
      completes (.feedbackEdge x hall ⟨l, held⟩) s (fun t => changesOnly [.axes, .portals] s t ∧ rest t ∧
        t.axis x = if hall then { y with rawHall := l } else { y with rawAbz := l })) ∧
    (accepted → y.fb.cfg.src = (if hall then 1 else 2) → (hall = true → y.fb.cfg.hall = true) → illegalChange hall old l = false →
      stepUp y.fb.hallseq hall old l = some u → -posMax ≤ dest → dest ≤ posMax →
      completes (.feedbackEdge x hall ⟨l, held⟩) s (fun t => changesOnly [.axes, .portals] s t ∧ rest t ∧ (t.axis x).pos = dest ∧
        (t.axis x).edgeAt = s.mono - h ∧ (t.axis x).fb.sq.dir = (u != y.fb.cfg.inv) ∧ (t.axis x).reg.flt = y.reg.flt)) ∧
    (accepted → (if hall then y.fb.cfg.hall = true else y.fb.cfg.src = 2) → illegalChange hall old l = true →
      completes (.feedbackEdge x hall ⟨l, held⟩) s (fun t => changesOnly [.axes, .portals] s t ∧ rest t ∧ (t.axis x).pos = y.pos ∧
        (t.axis x).fb.stat.ill = true ∧ (t.axis x).fb.errcnt.ill = satInc y.fb.errcnt.ill ∧
        (y.fb.lim.illn.toNat ≤ 1 → (t.axis x).reg.flt.fbflt = true ∧ (t.axis x).reg.state.trust = .untrusted ∧
          (t.axis x).st = .disabled))) ∧
    (y.fb.cfg.src = 3 → completes (.serialRequest x) s (fun t => changesOnly [.mono, .axes] s t ∧ rest t ∧
      t.mono % 10000 = carrierOf x % 10000 ∧ max s.mono y.serNext ≤ t.mono ∧ t.mono < max s.mono y.serNext + 10000 ∧
      (t.axis x).serReq = t.mono ∧ (t.axis x).serNext = t.mono + serPeriod y.fb.ser.per)) ∧
    (y.fb.cfg.src = 3 → (idle = false ∨ (y.fb.cfg.sermode = 2 ∧ 1200 + 10 * y.fb.ser.clkdiv.toNat < start.toNat)) →
      completes (.serialWord x raw crc err warn ⟨idle, start⟩ delay) s (fun t => changesOnly [.axes] s t ∧ rest t ∧
        (t.axis x).pos = y.pos ∧ (t.axis x).fb.stat.wto = true ∧ (t.axis x).fb.errcnt.ser = satInc y.fb.errcnt.ser ∧
        (t.axis x).sraw = y.sraw)) ∧
    (y.fb.cfg.src = 3 → y.serialBad raw.toNat crc.toNat err warn idle start.toNat delay.toNat = (false, false, false, false) →
      y.serGood = true → y.wakeTest = false →
      let v := y.serialData raw.toNat
      let c := serialCount y.fb.sofs (BitVec.ofInt 64 (y.unwrap + signOf len (v + 2 ^ len - y.sraw))).toInt
      c ≤ posMax → -posMax ≤ c → completes (.serialWord x raw crc err warn ⟨idle, start⟩ delay) s (fun t => changesOnly [.axes, .portals] s t ∧
        rest t ∧ (t.axis x).pos = c ∧ (t.axis x).sraw = v ∧ (t.axis x).badRow = 0 ∧ (t.axis x).reg.state.trust = y.reg.state.trust)) ∧
    (y.stepEdge = false → completes (.feedbackStandstill x) s (fun t => changesOnly [.mono, .axes] s t ∧ rest t ∧
      (t.axis x).fb.speed = 0 ∧ (t.axis x).fb.sq.qual = .still ∧ (t.axis x).pos = y.pos ∧
      t.mono = max s.mono ((if y.fb.cfg.src = 3 then y.chgAt else y.edgeAt) + ms y.fb.lim.tss.toNat)))) ∧
  (∀ (s : State) (x : AxisIx) (p : PortalIx), s.online = true →
    let y := s.axis x
    let d := indexDev y.idxCnt y.fb.idxpos.toInt y.fb.idxpitch.toNat
    let rest := fun t : State => ∀ z : AxisIx, z ≠ x → t.axis z = s.axis z
    (y.fb.cfg.idxen = true → y.fb.cfg.src = 2 → y.idxDue = true → y.idxIll = false → y.reg.state.trust ≠ .untrusted → y.st ≠ .referencing →
      y.learnPend = false →
      (d.natAbs ≤ y.fb.lim.tol.toNat → -posMax ≤ y.pos - d → y.pos - d ≤ posMax → completes (.indexEvent x false) s (fun t =>
        changesOnly [.axes, .portals] s t ∧ rest t ∧ (t.axis x).pos = y.pos - d ∧ (t.axis x).fb.stat.idxcor = true ∧
        (t.axis x).reg.state.trust = .trusted ∧ (t.axis x).fb.idxlast = BitVec.ofInt 32 y.idxCnt)) ∧
      (y.fb.lim.tol.toNat < d.natAbs → completes (.indexEvent x false) s (fun t => changesOnly [.axes] s t ∧ rest t ∧
        (t.axis x).pos = y.pos ∧ (t.axis x).fb.stat.idxerr = true ∧ (t.axis x).reg.state.trust = .degraded))) ∧
    completes (.indexEvent x true) s (fun t => changesOnly [.axes] s t ∧ rest t ∧
      ∃ due : Bool, t.axis x = { y with idxDue := due }) ∧
    (y.idxDue = false → ∀ b : Bool, completes (.indexEvent x b) s (fun t => t = s)) ∧
    ((s.portal p).po.postat.active = true → completes (.comparePulseEnd p) s (fun t => changesOnly [.mono, .portals] s t ∧
      t.mono = max s.mono (s.portal p).poEnd ∧ (t.portal p).pa = false ∧ (t.portal p).po.postat.active = false ∧
      (t.portal p).po.postat.hits = (s.portal p).po.postat.hits ∧ ∀ q : PortalIx, q ≠ p → t.portal q = s.portal q)))

/-- R50, R51, R53, R57, R58, R62: the bounds and obstacles of the door cycle: each sets its latch at its time and stops what it names; the
hold-off after EEH ends; clearing GIVEUP clears RETRY. The instant at which an event comes, where a clause gives it, is how the model lets
time pass (log 1). -/
def Obligations.DoorBounds : Prop := ∀ (s : State) (p : PortalIx) (x : AxisIx) (n : Nat), s.online = true →
  let q := s.portal p
  let rest := fun t : State => ∀ r : PortalIx, r ≠ p → t.portal r = s.portal r
  let halted := fun t : State => ∀ a ∈ s.leaves p, (s.axis a).st ≠ .disabled → (t.axis a).st = .stopped ∧
    ((s.axis a).causeAt ≠ updateOf a t.mono → (t.axis a).reg.state.cause = 2)
  (q.eehOff = some n → completes (.moveinhHoldoffEnd p) s (fun t => changesOnly [.mono, .portals] s t ∧ rest t ∧
    t.mono = max s.mono (n + ms 100) ∧ t.portal p = { q with eehOff := none })) ∧
  ((q.mtoAt.toList.filterMap id).min? = some n → completes (.moveTimeout p) s (fun t => changesOnly [.mono, .tally, .axes, .portals] s t ∧
    t.mono = max s.mono (n + ms (10 * q.reg.tmo.movetmo.toNat)) ∧ (t.portal p).reg.obs.mto = true ∧ halted t ∧ rest t)) ∧
  (q.utoAt = some n → q.dcl ≠ 0 → completes (.unlockTimeout p) s (fun t => rest t ∧ (t.portal p).reg.obs.uto = true ∧
    (t.portal p).utoAt = none ∧ t.mono = max s.mono (n + ms q.reg.tmo.unlocktmo.toNat) ∧ (t.portal p).retry = q.retry)) ∧
  (q.ltoAt = some n → q.dcl ≠ 3 → completes (.lockTimeout p) s (fun t => rest t ∧ (t.portal p).reg.obs.lto = true ∧
    (t.portal p).ltoAt = none ∧ t.mono = max s.mono (n + ms q.reg.tmo.locktmo.toNat))) ∧
  ((s.axis x).fOverAt = some n → portalOf x = p → (slotOf x).val = 2 → completes (.obstacleDetectionTime x) s (fun t => rest t ∧
    (t.portal p).reg.obs.fs = true ∧ t.mono = max s.mono (n + ms q.reg.force.obst.toNat) ∧
    ((s.axis x).st ≠ .disabled → (t.axis x).st = .stopped ∧
      ((s.axis x).causeAt ≠ updateOf x t.mono → (t.axis x).reg.state.cause = 2)))) ∧
  ((s.axis x).fOverAt = some n → x = axisOf p 0 → q.masked = false → completes (.obstacleDetectionTime x) s (fun t => rest t ∧
    (t.portal p).reg.obs.fa = true ∧ halted t)) ∧
  (s.edgeActive p 6 = true → q.masked = false → q.mov = some .closing → (∃ a ∈ s.leaves p, (s.axis a).underPlan = true) →
    completes (.edgeObstacle p false) s (fun t => rest t ∧ (t.portal p).reg.obs.ea = true ∧ halted t ∧
      (q.counted = false → (t.portal p).retry = satInc q.retry))) ∧
  completes (.giveupClear p) s (fun t => changesOnly [.portals] s t ∧ rest t ∧ (t.portal p).retry = 0 ∧
    (t.portal p).reg.obs.giveup = false)

/-- R157, R160, R174, R177: the kerf engine's commands: OPEN opens a closed window of a portal with a head, with the present gap, and
commands the head's rate; LEARN starts a learn in the idle window and waits for it otherwise; SNAP asks for a snapshot; at the idle window
every pending learn starts. R165, R364, R366 to R369: the head link: a frame of another PROTO or TYPE is dropped and counted; segment 0 of a
new frame begins it, the next segment extends it, segment 79 ends the frame and queues its DMA, a damaged segment is an error and its frame
is missing, with every frame between the last one and it; a status frame gives the head's identity; the rate command is repeated each
second, and each 100 ms, counted, while the segments carry the other rate. The instant at which an event comes, where a clause gives it, is
how the model lets time pass (log 1). -/
def Obligations.KerfAndHeads : Prop :=
  (∀ (s : State) (p : PortalIx), s.online = true → (s.portal p).fitted = true →
    let k := s.krf p
    let rest := fun t : State => ∀ q : PortalIx, q ≠ p → t.krf q = s.krf q
    (s.kerfLive p = true → k.reg.stat.win = .closed → k.reg.stat.rate = false → completes (.krfOpen p) s (fun t =>
      changesOnly [.kerf, .sent] s t ∧ rest t ∧ (t.krf p).reg.stat.win = .closing ∧ (t.krf p).gw = (s.portal p).g ∧
      (t.krf p).openAt = s.mono ∧ (t.krf p).reg.stat.rate = true ∧ t.sent = s.sent ++ [.head p.val (rateFrame true)])) ∧
    (k.reg.stat.lrn ≠ .deferred → k.reg.stat.lrn ≠ .running →
      (s.idleWindow = true → completes (.krfLearn p) s (fun t => changesOnly [.kerf] s t ∧ rest t ∧ (t.krf p).reg.stat.lrn = .running ∧
        (t.krf p).learn = [] ∧ (t.krf p).model = k.model)) ∧
      (s.idleWindow = false → completes (.krfLearn p) s (fun t => changesOnly [.tally, .kerf] s t ∧ rest t ∧
        (t.krf p).reg.stat.lrn = .deferred ∧ (tallyOpen s → newestIs 0x35 t)))) ∧
    completes (.krfSnap p) s (fun t => changesOnly [.kerf] s t ∧ rest t ∧ t.krf p = { k with snapReq := true }) ∧
    (s.idleWindow = true → completes .kerfLearnStart s (fun t => changesOnly [.kerf] s t ∧
      (k.reg.stat.lrn = .deferred → (t.krf p).reg.stat.lrn = .running ∧ (t.krf p).learn = []) ∧
      (k.reg.stat.lrn ≠ .deferred → t.krf p = k)))) ∧
  (∀ (s : State) (p : PortalIx) (b : List Byte) (f : Partial) (id : BitVec 64) (fw : Word)
    (rate temp : Byte), s.online = true → (s.krf p).status = true →
    let k := s.krf p
    let seg := beNat (bytesAt b 8 2)
    let fcnt : Word := BitVec.ofNat 32 (beNat (bytesAt b 4 4))
    let rows := beWords (bytesAt b 24 7680)
    let ours := bytesAt b 0 2 = [0x48, 0x01] ∧ segOk k.headId b = true
    let rest := fun t : State => ∀ q : PortalIx, q ≠ p → t.krf q = s.krf q
    (ours → k.part = none → seg = 0 → completes (.depthSegment p b true) s (fun t => changesOnly [.kerf] s t ∧ rest t ∧
      (t.krf p).part = some { fcnt := fcnt, next := 1, rows := [rows] } ∧ (t.krf p).tag = k.tag + 1)) ∧
    (ours → k.part = some f → seg = f.next → fcnt = f.fcnt → 0 < seg → seg < 79 →
      completes (.depthSegment p b true) s (fun t => changesOnly [.kerf] s t ∧ rest t ∧
        (t.krf p).part = some { fcnt := fcnt, next := seg + 1, rows := rows :: f.rows } ∧ (t.krf p).dma = k.dma)) ∧
    (ours → k.part = some f → seg = 79 → f.next = 79 → fcnt = f.fcnt → completes (.depthSegment p b true) s (fun t =>
      changesOnly [.kerf] s t ∧ rest t ∧ (t.krf p).part = none ∧ (t.krf p).lastEnd = s.mono ∧ ∃ g : Frame, (t.krf p).dma = k.dma ++ [(k.tag, g)] ∧
        g.fcnt = fcnt ∧ g.fend = s.mono ∧ g.g = k.gmax ∧ g.depth = (rows :: f.rows).reverse.flatten)) ∧
    (bytesAt b 0 2 ≠ [0x48, 0x01] → ∀ ok : Bool, completes (.depthSegment p b ok) s (fun t => changesOnly [.net] s t ∧
      t.net.reg.err2.proto = satInc s.net.reg.err2.proto)) ∧
    (bytesAt b 0 2 = [0x48, 0x01] → k.part = some f → completes (.depthSegment p b false) s (fun t => changesOnly [.tally, .kerf, .net] s t ∧ rest t ∧
      (t.krf p).part = none ∧ (t.krf p).reg.fcnt = f.fcnt ∧
      t.net.reg.err.hlerr = satInc s.net.reg.err.hlerr ∧ (t.krf p).reg.stat.run = 0 ∧
      (k.received = true → f.fcnt = k.reg.fcnt + 1 → (t.krf p).reg.cnt.miss = satNat 16 (k.reg.cnt.miss.toNat + 1)))) ∧
    (k.headKnown = true → k.headId = id → completes (.headStatusFrame p id fw rate temp) s (fun t => changesOnly [.kerf] s t ∧ rest t ∧
      (t.krf p).headFw = fw ∧ (t.krf p).headRate = rate ∧ (t.krf p).headTemp = temp ∧ (t.krf p).reg.headid = id.setWidth 32 ∧
      (t.krf p).reg.evt.headchg = k.reg.evt.headchg)) ∧
    (k.headKnown = true → k.headId ≠ id → completes (.headStatusFrame p id fw rate temp) s (fun t => changesOnly [.tally, .kerf] s t ∧ rest t ∧
      (t.krf p).headId = id ∧ (t.krf p).reg.evt.headchg = true ∧ (t.krf p).part = none)) ∧
    (s.net.reg.lnk.hl.getLsbD p.val = true → k.segRate = k.reg.stat.rate → completes (.rateCommandRepeat p) s (fun t =>
      changesOnly [.mono, .kerf, .sent] s t ∧ rest t ∧ t.mono = max s.mono (k.rateAt + sec 1) ∧ (t.krf p).rateAt = t.mono ∧
      t.sent = s.sent ++ [.head p.val (rateFrame k.reg.stat.rate)])) ∧
    (s.net.reg.lnk.hl.getLsbD p.val = true → k.segRate ≠ k.reg.stat.rate → k.rateAt < k.segAt →
      completes (.rateCommandRepeat p) s (fun t => t.mono = max s.mono (k.rateAt + ms 100) ∧
        t.net.reg.err2.rate = satInc s.net.reg.err2.rate ∧ t.sent = s.sent ++ [.head p.val (rateFrame k.reg.stat.rate)])))

/-- R52, R165 to R168, R170 to R172, R176: a DMA's end gives the frame to the judge, or loses it where it met a fault or was aborted; the
oldest verdict is issued within 12 ms of its frame end and is missing later, and a frame whose verdict does not reach channel A is missing
too; silence gives a BLIND verdict; an override held too long is stuck until its line has been inactive for a second. The instant at which
an event comes, where a clause gives it, is how the model lets time pass (log 1). That a frame lost on its DMA counts with the frames lost
before it (DEDUCED, log 49), and that a failed transfer acts in the kerf engine while its frame is missing for channel A (DESIGN CHOICE, log
93), are the model's choices. -/
def Obligations.Verdicts : Prop := ∀ (s : State) (p : PortalIx) (tag : BitVec 8) (f : Frame) (fs : List (BitVec 8 × Frame)) (j : Judged)
  (js : List Judged) (addr : Word) (flt : FabFault) (crc : Bool), s.online = true →
  let k := s.krf p
  let rest := fun t : State => ∀ q : PortalIx, q ≠ p → t.krf q = s.krf q
  let d := if k.received = true then (f.fcnt - k.reg.fcnt).toNat else 1
  let lost := fun t : State => rest t ∧ (t.krf p).dma = fs ∧ (t.krf p).shown = k.shown ∧ (t.krf p).reg.fcnt = f.fcnt ∧
    (t.krf p).reg.cnt.miss = satNat 16 (k.reg.cnt.miss.toNat + if d < 2 ^ 31 then max 1 d else 1)
  let late := match js with | [] => [] | i :: r => { i with inOrder := false } :: r
  (k.dma = (tag, f) :: fs → f.live = false → k.received = true → f.fcnt = k.reg.fcnt + 1 → k.reg.fcnt ≠ 0xFFFFFFFF → k.reg.stat.lrn = .idle →
    completes (.dmaComplete p .done addr) s (fun t => changesOnly [.kerf] s t ∧ rest t ∧ (t.krf p).dma = fs ∧
      (t.krf p).reg.fcnt = f.fcnt ∧ (t.krf p).wait = k.wait ∧ (t.krf p).reg.cnt.miss = k.reg.cnt.miss ∧
      ∃ v : Shown, (t.krf p).shown = some v ∧ v.tag = tag ∧ v.j.frame = f ∧ v.win = k.reg.stat.win)) ∧
  (k.dma = (tag, f) :: fs → completes (.dmaComplete p .timeout addr) s (fun t => changesOnly [.fab, .tally, .kerf] s t ∧ lost t ∧
    t.fab.lasta = addr ∧ t.fab.tocnt = satInc s.fab.tocnt) ∧
    completes (.dmaComplete p .aborted addr) s (fun t => changesOnly [.tally, .kerf] s t ∧ lost t)) ∧
  (k.wait = j :: js → s.since j.frame.fend ≤ ms 12 → k.reg.stat.win ≠ .closed → k.openAt ≤ j.frame.fend →
    ((crc = false ∨ flt ≠ .none) → completes (.verdictIssue ⟨p, flt, addr, crc⟩) s (fun t => rest t ∧ (t.krf p).wait = late ∧
      (t.krf p).reg.stat.verd = j.verd ∧ (t.krf p).reg.stat.run = 0 ∧
      (t.krf p).reg.cnt.miss = satNat 16 (k.reg.cnt.miss.toNat + 1) ∧ (flt ≠ .none → t.fab.lasta = addr))) ∧
    completes (.verdictIssue ⟨p, .none, addr, true⟩) s (fun t => changesOnly [.tally, .axes, .portals, .kerf] s t ∧ rest t ∧
      (t.krf p).wait = js ∧ (t.krf p).reg.stat.verd = j.verd ∧ (j.judged = true → (t.krf p).fend = j.frame.fend) ∧
      (j.verd = .occupied → k.reg.stat.win = .closing → (s.portal p).mov = some .closing → (s.portal p).cl = false →
        (t.portal p).reg.obs.ko = true) ∧
      (j.verd = .blind → (t.krf p).episode = true ∧ (k.episode = false →
        (t.krf p).reg.blindn.epis = satInc k.reg.blindn.epis)))) ∧
  (k.wait = j :: js → completes (.verdictLate p) s (fun t => changesOnly [.mono, .kerf] s t ∧ rest t ∧ (t.krf p).wait = late ∧
    s.mono ≤ t.mono ∧ j.frame.fend + ms 12 < t.mono ∧ (t.krf p).reg.evt.late = true ∧
    (t.krf p).reg.cnt.miss = satNat 16 (k.reg.cnt.miss.toNat + 1) ∧ (t.krf p).reg.stat.verd = k.reg.stat.verd)) ∧
  (k.reg.stat.win = .watch → k.silAt = none → completes (.silentExpiry p) s (fun t => rest t ∧ (t.krf p).reg.stat.verd = .blind ∧
    (t.krf p).reg.stat.bcause = 1 ∧ (t.krf p).silAt = some t.mono ∧
    t.mono = max s.mono (max k.lastEnd k.openAt + ms k.detNow.silent.toNat))) ∧
  (k.ovrLine = true → k.cfgNow.ovren = true → k.reg.stat.ovrstuck = false → completes (.ovrmaxExpiry p) s (fun t =>
    changesOnly [.mono, .kerf] s t ∧ rest t ∧ (t.krf p).reg.stat.ovrstuck = true ∧ (t.krf p).reg.stat.ovr = false ∧
    s.mono ≤ t.mono ∧ k.ovrAt + sec k.cfgNow.ovrmax.toNat < t.mono)) ∧
  (k.ovrLine = false → k.reg.stat.ovrstuck = true → completes (.ovrstuckClear p) s (fun t => changesOnly [.mono, .kerf] s t ∧ rest t ∧
    (t.krf p).reg.stat.ovrstuck = false ∧ t.mono = max s.mono (k.ovrAt + sec 1)))

/-- R219, R224 to R227: thermal protection of a load switch: at 170 °C it switches off, latches and counts, and a retry is due, or none is
left; the latch clears at 150 °C; a due retry attempts to conduct; ten seconds of conduction return the counter; the measured current shows
an open load. After each the output is what command and hold-offs say. The instant at which an event comes, where a clause gives it, is how
the model lets time pass (log 1). -/
def Obligations.ThermalProtection : Prop := ∀ (s : State) (c : ChanIx) (tj i : BitVec 16) (n : Nat), s.online = true →
  let x := s.chan c
  let rest := fun t : State => ∀ d : ChanIx, d ≠ c → t.chan d = s.chan d
  let follows := fun t : State => (t.chan c).reg.stat.out = t.conducts c
  (170 ≤ tj.toInt → x.reg.stat.tlatch = false → completes (.lsThermalShutdown c tj) s (fun t => changesOnly [.tally, .portals, .ls] s t ∧
    rest t ∧ (t.chan c).reg.stat.tlatch = true ∧ (t.chan c).reg.stat.out = false ∧ (t.chan c).reg.evt.tsd = true ∧
    (t.chan c).reg.cnt.tsdn = satInc x.reg.cnt.tsdn ∧
    (s.lsEff c = true → x.reg.stat.retries.toNat < x.reg.cfg.retryn.toNat → (t.chan c).retryAt = some (s.mono + ms (10 * x.reg.retry.toNat))) ∧
    (s.lsEff c = true → x.reg.cfg.retryn.toNat ≤ x.reg.stat.retries.toNat → (t.chan c).spent = true ∧ (t.chan c).retryAt = none ∧
      (t.chan c).reg.evt.rlock = true ∧ (tallyOpen s → newestIs 0x41 t)))) ∧
  (tj.toInt ≤ 150 → x.reg.stat.tlatch = true → completes (.lsLatchClear c tj) s (fun t => changesOnly [.portals, .ls] s t ∧ rest t ∧
    (t.chan c).reg.stat.tlatch = false ∧ follows t ∧ (x.retryAt = some n → s.mono < n → (t.chan c).retryAt = some n) ∧
    (x.retryAt = some n → n ≤ s.mono → (t.chan c).retryAt = none))) ∧
  (x.retryAt = some n → x.reg.stat.tlatch = false → completes (.lsRetry c) s (fun t => changesOnly [.mono, .portals, .ls] s t ∧ rest t ∧
    t.mono = max s.mono n ∧ (t.chan c).retryAt = none ∧ follows t ∧
    (x.reg.stat.out = false → (t.chan c).reg.stat.out = true → (t.chan c).reg.stat.retries = satInc x.reg.stat.retries))) ∧
  (x.reg.stat.out = true → completes (.lsRetryCounterReset c) s (fun t => changesOnly [.mono, .ls] s t ∧ rest t ∧
    t.mono = max s.mono (x.since + sec 10) ∧ (t.chan c).reg.stat.retries = 0 ∧ (t.chan c).reg.stat.out = true)) ∧
  (x.reg.stat.out = true → completes (.openLoadDetect c i) s (fun t => changesOnly [.ls] s t ∧ rest t ∧ (t.chan c).reg.meas.i = i ∧
    (i.toNat < x.reg.cfg.olth.toNat → x.reg.cfg.olen = true → i.toNat < x.reg.cfg.ilim.toNat * 100 →
      (t.chan c).reg.stat.openld = true ∧ (x.reg.stat.openld = false → (t.chan c).reg.evt.openld = true)) ∧
    (x.reg.cfg.ilim.toNat * 100 ≤ i.toNat → (t.chan c).reg.stat.ilimact = true ∧ (t.chan c).reg.stat.openld = false)))

/-- R228 to R231: the off-state test runs in the idle window with the command off, waits with a record otherwise, and ends with its result
after 5 ms; the clamp energy of a switch-off is added to the Choker accumulator, which locks the channel at its budget; every accumulator
leaks once for each millisecond that has passed. R233 to R236: a fault of the load bus sets its bit and event with one record; undervoltage,
reversal and loss of the return hold every channel off, an overvoltage leaves them; 10 ms of normal supply, after an undervoltage at 9.0 V
or above, end the hold-off and every channel follows its command. The instant at which an event comes, where a clause gives it, is how the
model lets time pass (log 1). -/
def Obligations.LoadTestsAndBus : Prop :=
  (∀ (s : State) (c : ChanIx) (b : Bool) (e : Nat), s.online = true → (s.portal (chanPortal c)).fitted = true →
    let x := s.chan c
    let rest := fun t : State => ∀ d : ChanIx, d ≠ c → t.chan d = s.chan d
    let passed := (max s.mono (s.lsg.leakAt + ms 1) - s.lsg.leakAt) / ms 1
    let begun := fun (i : Instr) => completes i s (fun t => changesOnly [.portals, .ls] s t ∧ rest t ∧
      (t.chan c).reg.stat.olt = (if b then .shtalb else .running) ∧ (t.chan c).oltAt = s.mono ∧ (t.chan c).reg.stat.out = false)
    (x.reg.stat.olt ≠ .running → s.oltReady c = true → begun (.lsbOltest c b)) ∧
    (x.reg.stat.olt ≠ .running → x.reg.stat.olt ≠ .deferred → s.oltReady c = false → completes (.lsbOltest c b) s (fun t =>
      changesOnly [.tally, .ls] s t ∧ rest t ∧ (t.chan c).reg.stat.olt = .deferred ∧ (tallyOpen s → newestIs 0x43 t))) ∧
    (x.reg.stat.olt = .deferred → s.oltReady c = true → begun (.oltestStart c b)) ∧
    (x.reg.stat.olt = .running → completes (.oltestComplete c b) s (fun t => changesOnly [.mono, .portals, .ls] s t ∧ rest t ∧
      t.mono = max s.mono (x.oltAt + ms 5) ∧ (t.chan c).reg.stat.olt = if b then .openLoad else .pass)) ∧
    (x.clamping = true → e ≤ 800000 → completes (.clampMeasurementComplete c e) s (fun t => changesOnly [.tally, .portals, .ls] s t ∧
      rest t ∧ (t.chan c).acc = x.acc + e ∧ (t.chan c).reg.chk.last = satNat 16 (e / 100) ∧
      (x.reg.chkcfg.budget.toNat * 1000 ≤ x.acc + e → (t.chan c).choked = true ∧ (t.chan c).reg.stat.out = false ∧
        (t.chan c).reg.cnt.choken = satInc x.reg.cnt.choken ∧ (tallyOpen s → newestIs 0x42 t)) ∧
      (x.acc + e < x.reg.chkcfg.budget.toNat * 1000 → (t.chan c).choked = x.choked))) ∧
    completes .chokerLeak s (fun t => changesOnly [.mono, .ls, .lsg] s t ∧ t.mono = max s.mono (s.lsg.leakAt + ms 1) ∧
      t.lsg.leakAt = s.lsg.leakAt + ms passed ∧ t.mono < t.lsg.leakAt + ms 1 ∧
      ∀ d : ChanIx, (t.chan d).acc = (s.chan d).acc - passed * (s.chan d).reg.chkcfg.leak.toNat)) ∧
  (∀ (s : State) (v : BitVec 12), s.online = true →
    let b := s.lsg.reg.alb
    let allOff := fun t : State => t.lsg.hold = true ∧ ∀ c : ChanIx, (t.chan c).reg.stat.out = false
    let noted := fun (t : State) (n : BitVec 4) => changesOnly [.tally, .portals, .ls, .lsg] s t ∧ t.lsg.reg.evt = s.lsg.reg.evt ||| n ∧
      (tallyOpen s → newestIs 0x44 t)
    (v.toNat < 80 → b.uv = false → completes (.albUndervoltage v) s (fun t => noted t 1 ∧ allOff t ∧
      t.lsg.reg.alb = { b with v := v, uv := true })) ∧
    (b.rev = false → completes .albReversed s (fun t => noted t 2 ∧ allOff t ∧ t.lsg.reg.alb = { b with v := 0, rev := true })) ∧
    (b.gndl = false → completes .albReturnLoss s (fun t => noted t 4 ∧ allOff t ∧ t.lsg.reg.alb = { b with gndl := true })) ∧
    (1540 < v.toNat → b.ovw = false → completes (.albOvervoltage v) s (fun t => noted t 8 ∧ t.lsg.hold = s.lsg.hold ∧
      t.lsg.reg.alb = { b with v := v, ovw := true })) ∧
    (s.lsg.hold = true → (b.uv = false ∨ 90 ≤ v.toNat) → completes (.supplyHoldoffEnd v) s (fun t => changesOnly [.tally, .portals, .ls, .lsg] s t ∧
      t.lsg.hold = false ∧ t.lsg.reg.alb = { b with v := v, uv := false, rev := false, gndl := false } ∧
      ∀ c : ChanIx, (t.chan c).reg.stat.out = t.conducts c)))

/-- R242, R244, R245, R247 to R251, Table 9-1: a voltage beyond the threshold of the input's class, held for the filter time, is accepted
and dated to its first sample, less the coupler's delay, a shorter one is not; a chosen edge enters the edge queue; a counting input counts
and stamps; a coupler is checked each second, and the second check failed in a row makes a coupler fault and reads off. Where the pin's
voltage lies beyond neither threshold the level is a free choice (log 4) and nothing is stated of it. R252 to R255, R257: a refresh drives
the output word in force, the safe word in STOP, and takes the read-back, high at or above half the group's supply voltage; without a valid
refresh the outputs take their safe bits; a read-back that disagrees for 2 ms shows, with a record; a hot output shuts down alone and
restarts to the word that the output side holds; a supply group shows missing and low, and one that is reversed drives nothing. The instant
at which an event comes, where a clause gives it, is how the model lets time pass (log 1). -/
def Obligations.FieldIo : Prop :=
  (∀ (s : State) (n : Fin 148) (l : Bool) (v : BitVec 12) (held : Nat) (i : Fin 4), s.online = true →
    let c := s.fio.reg.icfg[n.val]
    let w := vget s.fio.reg.icfg (144 + i.val) {}
    let at_ := s.mono - held - couplerDelay c.cls
    let on : Int := if c.cls = 0 then 150 else if c.cls = 1 then 110 else if c.cls = 2 then 430 else 660
    let off : Int := if c.cls = 0 then 50 else if c.cls = 1 then 50 else if c.cls = 2 then 220 else 330
    let nextCheck := fun t : State => ∀ u : Nat, s.fio.copAt[n.val] = some u → t.mono = max s.mono (u + sec 1)
    ((if l then on ≤ v.toInt else v.toInt ≤ off) → s.fio.lvl.getLsbD n.val ≠ l → s.fio.copFlt.getLsbD n.val = false →
      s.inputFitted n = true → us (10 * c.filt.toNat) ≤ held → s.gapOf n (s.mono - held) = none →
      (∀ u : Nat, s.fio.icfgAt[n.val] = some u → u < s.mono - held) →
      (n.val < 128 ∨ 144 ≤ n.val) → c.call = false → completes (.fieldInputEdge n v held) s (fun t => changesOnly [.fio] s t ∧
        (∀ m : Fin 148, t.fio.lvl.getLsbD m.val = if m = n then l else s.fio.lvl.getLsbD m.val) ∧ t.fio.at_[n.val] = at_ ∧
        ((if l then c.edge.getLsbD 0 else c.edge.getLsbD 1) = true → c.cnt = false → c.qen = true → s.fio.queue.length < 1024 →
          t.fio.queue = s.fio.queue ++ [{ input := BitVec.ofNat 8 n.val, level := l, time := at_ }]) ∧
        ((if l then c.edge.getLsbD 0 else c.edge.getLsbD 1) = false ∨ c.qen = false → t.fio.queue = s.fio.queue))) ∧
    ((if l then on ≤ v.toInt else v.toInt ≤ off) → s.fio.lvl.getLsbD n.val ≠ l → s.fio.copFlt.getLsbD n.val = false →
      s.inputFitted n = true → us (10 * c.filt.toNat) ≤ held → s.gapOf n (s.mono - held) = none →
      (∀ u : Nat, s.fio.icfgAt[n.val] = some u → u < s.mono - held) → completes (.fieldInputEdge n v held) s (fun t =>
        (∀ m : Fin 148, t.fio.lvl.getLsbD m.val = if m = n then l else s.fio.lvl.getLsbD m.val) ∧ t.fio.at_[n.val] = at_ ∧
        t.mono = s.mono ∧ t.mem = s.mem ∧ t.safe = s.safe ∧ t.mode = s.mode ∧
        (c.call = true → c.cnt = false → (if l then c.edge.getLsbD 0 else c.edge.getLsbD 1) = true →
          s.eng.decl (BitVec.ofNat 16 (0x0800 + n.val)) = none → t.eng.sys.cocnt.undecl = satInc s.eng.sys.cocnt.undecl))) ∧
    (held < us (10 * c.filt.toNat) ∨ s.inputFitted n = false → completes (.fieldInputEdge n v held) s (fun t => t = s)) ∧
    (w.cnt = true → s.fio.copFlt.getLsbD (144 + i.val) = false → completes (.wheelPulseCount i) s (fun t => changesOnly [.tally, .fio] s t ∧
      t.fio.reg.wpcnt[i.val] = s.fio.reg.wpcnt[i.val] + 1 ∧ t.fio.wpt[i.val] = s.mono - couplerDelay w.cls ∧
      (∀ m : Fin 4, m ≠ i → t.fio.reg.wpcnt[m.val] = s.fio.reg.wpcnt[m.val]) ∧
      (s.fio.reg.wpcnt[i.val] = 0xFFFFFFFF → t.fio.reg.wpst.getLsbD i.val = true ∧ (tallyOpen s → newestIs 0x51 t)) ∧
      (s.fio.reg.wpcnt[i.val] ≠ 0xFFFFFFFF → t.fio.reg.wpst = s.fio.reg.wpst ∧ t.tally = s.tally))) ∧
    (s.inputFitted n = true → s.fio.lvl.getLsbD n.val = false → completes (.couplerCheck n l) s (fun t => changesOnly [.mono, .tally, .fio] s t ∧
      nextCheck t ∧
      t.fio.copAt[n.val] = some t.mono ∧ t.fio.lvl = s.fio.lvl ∧ (s.fio.copFlt.getLsbD n.val = false → l = true → t.fio.copFlt = s.fio.copFlt))) ∧
    (s.inputFitted n = true → s.fio.lvl.getLsbD n.val = false → s.fio.copFlt.getLsbD n.val = false → s.fio.copFail[n.val] = 1 →
      completes (.couplerCheck n false) s (fun t => changesOnly [.mono, .tally, .fio] s t ∧ nextCheck t ∧ t.fio.copFlt.getLsbD n.val = true ∧
        t.fio.lvl.getLsbD n.val = false ∧ (tallyOpen s → newestIs 0x50 t))) ∧
    (s.inputFitted n = true → s.fio.lvl.getLsbD n.val = false → s.fio.copFlt.getLsbD n.val = true → s.fio.copPass[n.val] = 1 →
      completes (.couplerCheck n true) s (fun t => changesOnly [.mono, .fio] s t ∧ nextCheck t ∧ t.fio.copFlt.getLsbD n.val = false))) ∧
  (∀ (s : State) (rb : FoRead) (n : Fin 16) (v : BitVec 12) (p : PortalIx) (il : Bool), s.guarded = true →
    let r := s.fio.reg
    let lets := fun m : Fin 16 => !s.fio.off && !s.fio.rev.getLsbD (m.val / 8)
    let half := fun (m : Fin 16) (u : BitVec 12) => (if m.val < 8 then r.fosupv.v0 else r.fosupv.v1).toNat ≤ 2 * u.toNat
    let cmd := r.focmd.cmd.getLsbD n.val
    let apart := decide (half n v) != cmd
    let from_ := if s.fio.cmp.getLsbD n.val = apart then s.fio.cmpAt[n.val] else s.mono
    let judged := fun t : State => t.mono = max s.mono (max (from_ + ms 2) (s.fio.cmdAt[n.val] + us 2200))
    (s.online = true → completes (.outputRefresh rb) s (fun t => changesOnly [.fio] s t ∧
      (∀ m : Fin 16, t.fio.pins.getLsbD m.val = (lets m && s.foWord.getLsbD m.val && !r.fost2.tsd.getLsbD m.val)) ∧
      t.fio.reg.focmd.cmd = (if s.fio.off then 0 else s.foWord) ∧ t.fio.reg.fost2.ilim = rb.ilim &&& t.fio.pins ∧ t.fio.word = t.fio.reg.focmd.cmd ∧
      (∀ m : Fin 16, t.fio.reg.focmd.rb.getLsbD m.val = true ↔ half m rb.volts[m.val]) ∧ t.fio.fresh = s.mono ∧ t.fio.silent = false ∧
      (s.fio.off = false → s.mode = .stop → s.safe.active.egren = false → t.fio.reg.focmd.cmd = r.focfg.safe))) ∧
    completes .refreshTimeout s (fun t => changesOnly [.mono, .fio] s t ∧
      t.mono = max s.mono (s.fio.fresh + ms r.focfg.fotmo.toNat) ∧ t.fio.silent = true ∧ t.fio.reg.foevt.silent = true ∧
      ∀ m : Fin 16, t.fio.pins.getLsbD m.val = (lets m && (s.egressPins s.fio.safeHeld).getLsbD m.val && !r.fost2.tsd.getLsbD m.val)) ∧
    (cmd = false → half n v → r.fost.offhi.getLsbD n.val = false → completes (.readbackDisagree n v false) s (fun t =>
      changesOnly [.mono, .tally, .fio] s t ∧ judged t ∧
      t.fio.reg.fost.offhi.getLsbD n.val = true ∧ t.fio.reg.foevt.dis.getLsbD n.val = true ∧ (tallyOpen s → newestIs 0x52 t))) ∧
    (cmd = true → ¬ half n v → r.fost.onlo.getLsbD n.val = false → r.fost2.tsd.getLsbD n.val = false →
      completes (.readbackDisagree n v false) s (fun t => changesOnly [.mono, .tally, .fio] s t ∧ judged t ∧
        t.fio.reg.fost.onlo.getLsbD n.val = true ∧ t.fio.reg.foevt.dis.getLsbD n.val = true ∧ (tallyOpen s → newestIs 0x52 t))) ∧
    (cmd = true → ¬ half n v → (il = true ∧ s.fio.pins.getLsbD n.val = true ∨ r.fost2.tsd.getLsbD n.val = true) →
      completes (.readbackDisagree n v il) s (fun t => judged t ∧ t.fio.reg.fost.onlo.getLsbD n.val = r.fost.onlo.getLsbD n.val ∧
        t.fio.reg.fost2.ilim.getLsbD n.val = (il && s.fio.pins.getLsbD n.val))) ∧
    (apart = false → completes (.readbackDisagree n v il) s (fun t => changesOnly [.mono, .fio] s t ∧ judged t ∧
      t.fio.reg.fost.offhi.getLsbD n.val = false ∧ t.fio.reg.fost.onlo.getLsbD n.val = false)) ∧
    completes (.foThermalShutdown n) s (fun t => changesOnly [.fio] s t ∧ t.fio.reg.foevt.tsd = true ∧
      (∀ m : Fin 16, t.fio.reg.fost2.tsd.getLsbD m.val = if m = n then true else r.fost2.tsd.getLsbD m.val) ∧
      ∀ m : Fin 16, t.fio.pins.getLsbD m.val =
        (lets m && s.fio.word.getLsbD m.val && !t.fio.reg.fost2.tsd.getLsbD m.val)) ∧
    (r.fost2.tsd.getLsbD n.val = true → completes (.foThermalRestart n) s (fun t => changesOnly [.fio] s t ∧
      t.fio.reg.fost2.tsd.getLsbD n.val = false ∧
      t.fio.pins.getLsbD n.val = (lets n && s.fio.word.getLsbD n.val))) ∧
    (let u : Nat := if v.msb = true then 0 else v.toNat
     completes (.groupSupplyChange .fsup0 v) s (fun t => changesOnly [.fio] s t ∧ t.fio.reg.fosupv.v0.toNat = u ∧
        (t.fio.reg.fosupv.miss0 = true ↔ u < 90) ∧ (t.fio.reg.fosupv.low0 = true ↔ u < 10 * r.fosup.toNat) ∧
        (v.msb = true → ∀ m : Fin 16, m.val < 8 → t.fio.pins.getLsbD m.val = false)) ∧
      completes (.groupSupplyChange .fsup1 v) s (fun t => changesOnly [.fio] s t ∧ t.fio.reg.fosupv.v1.toNat = u ∧
        (t.fio.reg.fosupv.miss1 = true ↔ u < 90) ∧ (t.fio.reg.fosupv.low1 = true ↔ u < 10 * r.fosup.toNat) ∧
        (v.msb = true → ∀ m : Fin 16, 8 ≤ m.val → t.fio.pins.getLsbD m.val = false))) ∧
    completes (.groupSupplyChange (.test p) v) s (fun t => changesOnly [.fio] s t ∧ (t.fio.tpMiss.getLsbD p.val = true ↔ v.toInt < 90) ∧
      (t.fio.tpLow.getLsbD p.val = true ↔ v.toInt < 180) ∧ t.fio.reg.fosupv = r.fosupv))

/-- R186 to R190, R193 to R197, R201, R216, R217, Table 7-5: a grid instant of a running channel takes a millisecond, forms each pair from
its two inputs (in a test gap and the 200 µs after it from their last readings; open where the portal is not fitted), adopts a fault at the
instant after DISC of disagreement, and in NORMAL drives its own loop switch only while its column of the side's conditions holds; a test
pulse whose time has run out without opening a switch that stayed driven is a stuck switch; channel A writes the status window at its end,
having cleared the events that SRQ.ACK named of those it had shown. R190 to R192, R195, R197, R198, R217: a gap comes when it is due; an
input that reads closed in a gap of its own source takes a test-pulse fault; a test pulse of a switch of a closed loop comes when it is due
and waits to be judged, and one due before is judged by then: a switch that did not open is stuck, with record and event; a wheel pulse
completes a period; SRQ.ACK names the events that channel A clears at its next grid instant. The instant at which an event comes, where a
clause gives it, is how the model lets time pass (log 1). The instant at which a switch-test pulse is judged (DEDUCED, log 47), and the
order and first instant of the pulses (DESIGN CHOICE, log 96), are the model's choices. -/
def Obligations.SafetyGrid : Prop :=
  (∀ (s : State) (ch : SafeCh) (fi : BitVec 96) (zs : BitVec 2) (rb : BitVec 6) (p : PortalIx)
    (d : Fin 2) (sw : Fin 4), s.guarded = true → s.safe.runs ch = true →
    let q := (s.safe.ch ch).portals[p.val]
    let y := fun t : State => (t.safe.ch ch).portals[p.val]
    let r := pairBits (sixOf fi p.val) 0
    let at_ := max s.mono ((s.safe.ch ch).gridAt + ms 1)
    let reads := s.readsPortal ch p = true
    let gap := ({ s with mono := at_ }).inGap
    (completes (.gridInstant ch fi zs rb) s (fun t => changesOnly [.mono, .tally, .axes, .portals, .sde, .ls, .kerf, .fio, .safe, .sent] s t ∧
      t.mono = at_ ∧ (t.safe.ch ch).gridAt = t.mono ∧ t.safe.mode = s.safe.mode ∧
      (reads → gap = true → q.tpf = 0 → q.held = 0 → (y t).raw = q.raw) ∧
      (reads → gap = false → q.tpf = 0 → q.held = 0 → q.dcl.flt = false → r = 3 → (y t).dcl.val = true ∧ (y t).dcl.flt = false ∧ (y t).dcl.diff = 0) ∧
      (reads → gap = false → q.tpf = 0 → q.held = 0 → q.dcl.flt = false → r = 1 ∨ r = 2 → (y t).dcl.val = false ∧ (y t).dcl.diff = q.dcl.diff + 1 ∧
        ((y t).dcl.flt = true ↔ q.dcl.diff = s.safe.active.disc.toNat) ∧
        (q.dcl.diff = s.safe.active.disc.toNat → t.safe.evt.getLsbD 0 = true)) ∧
      (gap = false → r = 0 → (y t).dcl.val = false) ∧ (¬ reads → (y t).dcl.val = false))) ∧
    (s.safe.mode = .normal → ch = .h → completes (.gridInstant .h fi zs rb) s (fun t =>
      (t.safe.drive.getLsbD (2 * d.val + 1) = true → t.hCond d = true) ∧
      t.safe.drive.getLsbD (2 * d.val) = s.safe.drive.getLsbD (2 * d.val))) ∧
    (s.safe.mode = .normal → ch = .a → completes (.gridInstant .a fi zs rb) s (fun t =>
      (t.safe.drive.getLsbD (2 * d.val) = true → t.aCond d = true) ∧
      t.safe.drive.getLsbD (2 * d.val + 1) = s.safe.drive.getLsbD (2 * d.val + 1))) ∧
    (ch = .a → completes (.gridInstant .a fi zs rb) s (fun t => t.safe.winWr = t.mono ∧ t.safe.ack = 0 ∧ t.safe.evtNew = 0 ∧
      ∀ k : Fin 11, k.val ≠ 0 → k.val ≠ 2 → k.val ≠ 3 →
        t.safe.evt.getLsbD k.val = ((s.safe.evt &&& ~~~s.safe.ack) ||| s.safe.evtNew).getLsbD k.val)) ∧
    (s.safe.pulse = some (sw, false) → s.safe.drive.getLsbD sw.val = true → s.safe.pulsed at_ sw.val = false →
      completes (.gridInstant ch fi zs rb) s (fun t => t.safe.pulse = none ∧ t.safe.stuck.getLsbD sw.val = true ∧
        t.safe.evt.getLsbD 2 = true)) ∧
    (s.safe.pulse = some (sw, true) → s.safe.stuck = 0 → s.safe.badRb = Vector.replicate 4 0 → s.safe.pulsed at_ sw.val = false →
      completes (.gridInstant ch fi zs rb) s (fun t => t.safe.pulse = none ∧ t.safe.stuck = 0))) ∧
  (∀ (s : State) (src : Fin 2) (ad aa hd ha : BitVec 96) (p : PortalIx) (k : Fin 6) (sw j : Fin 4)
    (ch : SafeCh) (i : Fin 4) (w : Word) (b : Bool),
    (s.guarded = true → s.safe.aRuns = true → s.safe.hRuns = true → completes (.testGap src ad aa hd ha) s (fun t =>
      changesOnly [.mono, .fio, .safe] s t ∧ t.mono = max s.mono (s.gapDue src) ∧ t.fio.gapAt[src.val] = some t.mono ∧
      (k.val % 2 = src.val → s.readsPortal .a p = true → (sixOf ad p.val).getLsbD k.val = true → (t.safe.a.portals[p.val]).tpf.getLsbD k.val = true) ∧
      (k.val % 2 = src.val → s.readsPortal .h p = true → (sixOf hd p.val).getLsbD k.val = true → (t.safe.h.portals[p.val]).tpf.getLsbD k.val = true) ∧
      t.safe.drive = s.safe.drive ∧ t.safe.mode = s.safe.mode)) ∧
    (s.guarded = true → s.safe.runs (if sw.val % 2 = 0 then .a else .h) = true → s.safe.loop ⟨sw.val / 2, by omega⟩ = true →
      completes (.switchTestPulse sw b) s (fun t => changesOnly [.mono, .tally, .safe] s t ∧ t.mono = max s.mono (s.pulseDue sw) ∧
        t.safe.pulse = some (sw, b) ∧ t.safe.pulseAt[sw.val] = some t.mono ∧ t.safe.drive = s.safe.drive ∧ t.safe.mode = s.safe.mode ∧
        (s.safe.pulse = none → t.safe.stuck = s.safe.stuck ∧ t.safe.evt = s.safe.evt) ∧
        (s.safe.pulse = some (j, false) → s.safe.drive.getLsbD j.val = true → s.safe.pulsed t.mono j.val = false →
          t.safe.stuck.getLsbD j.val = true ∧ t.safe.evt.getLsbD 2 = true ∧ (tallyOpen s → newestIs 0x17 t)))) ∧
    (s.guarded = true → completes (.wheelPulse ch i) s (fun t => changesOnly [.safe] s t ∧
      ((t.safe.ch ch).wheels[i.val]).last = some s.mono ∧
      (∀ n : Nat, ((s.safe.ch ch).wheels[i.val]).last = some n → ((t.safe.ch ch).wheels[i.val]).period = some (s.mono - n)) ∧
      (∀ m : Fin 4, m ≠ i → (t.safe.ch ch).wheels[m.val] = (s.safe.ch ch).wheels[m.val]) ∧ t.safe.drive = s.safe.drive)) ∧
    (s.online = true → completes (.eventAck w) s (fun t => changesOnly [.safe] s t ∧
      t.safe = { s.safe with ack := s.safe.ack ||| w.setWidth 11 })))

/-- R181, R203 to R206, R210 to R213, R492, Table 7-9: what ends NORMAL and what becomes of the loops: a silent or failed channel gives the
other's degraded mode, a third lost link frame LINKLOSS, channel A's reset RESYNC with CL at 0, and the exchange after its tests NORMAL
again, as at start once the start-up calibrations have ended, an undecided arbitration or clock fault UNDECIDED with every switch open, a
clock fault of one channel the other's mode. R204, R207, R209, R212, R213, R460, R461, Table 7-8: how arbitration, RESYNC and the degraded
window end, the self-tests at start, and channel A's after its own reset. The instant at which an event comes, where a clause gives it, is
how the model lets time pass (log 1). CL at 0 in RESYNC (DESIGN CHOICE, log 97), the path to channel A's switch armed until the rejoin
(DESIGN CHOICE, log 95), and an arbitration that ends in LINKLOSS where the link is down, NORMAL having been passed through (DESIGN CHOICE,
log 139), are the model's choices. -/
def Obligations.SafetyModeChanges : Prop :=
  (∀ (s : State) (dev : BitVec 16) (b : Bool) (p : PortalIx), s.guarded = true →
    let normal := s.safe.mode = .normal
    let gone := fun (i : Instr) (m : SMode) => completes i s (fun t => t.safe.mode = m ∧ t.safe.drive = s.safe.drive ∧
      t.safe.winAt = some (s.safe.winAt.getD s.mono) ∧ t.safe.evt.getLsbD 4 = true ∧ t.mono = s.mono)
    (normal → s.safe.aRuns = true → gone (.heartbeatAbsent .h) .degA ∧ gone (.faultLineAssert .h) .degA) ∧
    (normal → s.safe.hRuns = true → s.safe.aReset = false → gone (.heartbeatAbsent .a) .degH ∧ gone (.faultLineAssert .a) .degH) ∧
    (normal → s.safe.aRuns = true → s.safe.hRuns = true → s.safe.linkUp = true → s.safe.linkBad = 2 →
      completes (.hingeLinkExchange false) s (fun t => t.safe.mode = .linkloss ∧ t.safe.linkUp = false ∧ t.safe.evt.getLsbD 10 = true ∧
        t.safe.drive = s.safe.drive)) ∧
    (s.safe.mode = .start → s.safe.aRuns = true → s.safe.hRuns = true → s.safe.a.tested = true → s.safe.h.tested = true →
      s.safe.locked.isSome = true → s.safe.swTests = true → 49 ≤ s.safe.a.frames → 49 ≤ s.safe.h.frames →
      s.startCals = false → s.differing = Vector.replicate 111 false → completes (.hingeLinkExchange true) s (fun t => t.safe.mode = .normal ∧
        t.safe.linkUp = true ∧ t.safe.linkBad = 0)) ∧
    (normal → s.safe.aReset = false → completes .channelAResetLine s (fun t => t.safe.mode = .resync ∧ t.safe.aReset = true ∧
      t.safe.drive = s.safe.drive ∧ t.safe.aGone = s.mono ∧ t.boot.reg.arst.n = satInc s.boot.reg.arst.n ∧ (t.portal p).cl = false ∧
      ∀ d : Fin 2, t.safe.held[d.val] = s.safe.drive.getLsbD (2 * d.val))) ∧
    (normal → s.safe.aRuns = true → completes .channelAWatchdog s (fun t => t.safe.mode = .resync ∧ t.safe.aReset = true ∧
      t.mono = max s.mono (s.safe.a.gridAt + ms 10))) ∧
    (s.safe.mode = .resync → s.safe.aRuns = true → s.safe.hRuns = true → s.safe.a.tested = true →
      s.differing = Vector.replicate 111 false → completes (.hingeLinkExchange true) s (fun t => t.safe.mode = .normal ∧
        t.safe.clIn = 0 ∧ t.safe.evt.getLsbD 5 = true ∧ (s.safe.expired = false → t.safe.winAt = none) ∧
        t.safe.drive = s.safe.drive)) ∧
    (200 < dev.toInt.natAbs → s.safe.a.clkDev = 1 → normal → completes (.clockCrosscheck .a dev b b) s (fun t =>
      t.safe.mode = .undecided ∧ t.safe.drive = 0 ∧ t.safe.clkflt = true ∧ t.tim.clkmon.fault = true ∧ t.safe.evt.getLsbD 8 = true)) ∧
    (200 < dev.toInt.natAbs → s.safe.a.clkDev = 1 → normal → s.safe.hRuns = true → completes (.clockCrosscheck .a dev true false) s (fun t =>
      t.safe.mode = .degH ∧ t.safe.a.failed = true ∧ t.safe.h.failed = s.safe.h.failed ∧ t.safe.clkflt = true ∧
      t.safe.drive = s.safe.drive)) ∧
    (dev.toInt.natAbs ≤ 200 → s.safe.h.clkDev < 2 → completes (.clockCrosscheck .a dev b b) s (fun t => changesOnly [.tim, .safe] s t ∧
      t.safe.mode = s.safe.mode ∧ t.safe.clkflt = false ∧ t.tim.clkmon.dev = dev))) ∧
  (∀ (s : State) (n : Nat) (ch : SafeCh), s.guarded = true →
    let arb := s.safe.mode = .arbitrating
    (arb → s.safe.hRuns = true → completes (.arbitrationTestComplete false true none) s (fun t => t.safe.mode = .degH ∧
      t.safe.a.failed = true ∧ t.safe.arbOut = 1)) ∧
    (arb → s.safe.aRuns = true → completes (.arbitrationTestComplete true false none) s (fun t => t.safe.mode = .degA ∧
      t.safe.h.failed = true ∧ t.safe.arbOut = 2)) ∧
    (arb → completes (.arbitrationTestComplete true true none) s (fun t => t.safe.mode = .undecided ∧ t.safe.drive = 0 ∧
      t.safe.arbOut = 3)) ∧
    (∀ i : Disputed, arb → completes (.arbitrationTestComplete true true (some i)) s (fun t =>
      t.safe.mode = (if s.safe.linkUp = true then .normal else .linkloss) ∧ t.safe.arbInput = true ∧
      match i with
      | .portal p k => (t.safe.a.portals[p.val]).held.getLsbD k.val = true ∧ (t.safe.h.portals[p.val]).held.getLsbD k.val = true
      | .line k => t.safe.a.zsHeld.getLsbD k.val = true ∧ t.safe.h.zsHeld.getLsbD k.val = true
      | .wheel k => t.safe.a.wpHeld.getLsbD k.val = true ∧ t.safe.h.wpHeld.getLsbD k.val = true)) ∧
    (s.safe.mode = .resync → completes .arsyncExpiry s (fun t => t.safe.mode = .degH ∧ t.safe.drive = s.safe.drive ∧ t.safe.clIn = 0 ∧
      t.mono = max s.mono (s.safe.aGone + sec s.safe.active.arsync.toNat))) ∧
    (s.safe.winAt = some n → s.safe.mode.degraded = true → s.safe.expired = false → completes .degradedWindowExpiry s (fun t =>
      changesOnly [.mono, .safe] s t ∧ t.safe.expired = true ∧ t.safe.evt.getLsbD 6 = true ∧ t.safe.drive = s.safe.drive ∧
      t.safe.mode = s.safe.mode ∧ t.mono = max s.mono (n + sec (60 * s.safe.active.degwin.toNat)) ∧
      ∀ d : Fin 2, s.safe.loop d = false → t.safe.exHold[d.val] = true)) ∧
    (s.safe.mode = .start → s.safe.aReset = false → (s.safe.ch ch).tested = false → (s.safe.ch ch).failed = false →
      completes (.startUpSelfTestComplete ch true 0 0) s (fun t => changesOnly [.safe] s t ∧ (t.safe.ch ch).tested = true ∧
        (t.safe.ch ch).gridAt = s.mono ∧ t.safe.stuck = s.safe.stuck ∧ t.safe.mode = .start) ∧
      completes (.startUpSelfTestComplete ch false 0 0) s (fun t => changesOnly [.safe] s t ∧ (t.safe.ch ch).failed = true ∧
        (t.safe.ch ch).tested = false)) ∧
    (s.safe.aReset = true → completes (.startUpSelfTestComplete .a true 0 0) s (fun t => changesOnly [.fio, .safe, .boot] s t ∧
      t.safe.aReset = false ∧ t.safe.a.tested = true ∧ t.safe.a.gridAt = s.mono ∧ t.safe.mode = s.safe.mode ∧
      t.safe.drive = s.safe.drive)))

/-- R437 to R439: the inputs: CTL low bars starts, 50 ms of it shed every head, and recovery lets the shed heads wait for admission again;
overvoltages, undervoltage, reversal and overcurrent show in their bits and events, and each ends at its voltage, a motor bus back from low
or reversed charging its capacitors for at most 200 ms. R446, R447: head supplies: every 10 ms the front of the queue is admitted where it
fits and waits where it does not, each evaluation shows PCORE; a trip switches one supply off and locks it at the second within 60 s; 5 s
later it waits again; FEL.HCMD.RESET unlocks what it names. The instant at which an event comes, where a clause gives it, is how the model
lets time pass (log 1). The charging of a motor bus for a free time (DEDUCED, log 18; DESIGN CHOICE, log 4) and the bound of 60 s taken as
included (DEDUCED, log 63) are the model's choices. -/
def Obligations.Supplies : Prop :=
  (∀ (s : State) (v : BitVec 12) (b : Bool), s.online = true →
    let r := s.pwr.reg
    let only := fun t : State => changesOnly [.pwr] s t ∧ t.pwr = { s.pwr with reg := t.pwr.reg }
    let charges := fun t : State => changesOnly [.pwr, .freeSeq] s t ∧ s.mono ≤ t.pwr.chargeEnd ∧ t.pwr.chargeEnd ≤ s.mono + ms 200 ∧
      t.pwr = { s.pwr with reg := t.pwr.reg, chargeEnd := t.pwr.chargeEnd }
    (v.toNat < 140 → completes (.ctlLow v) s (fun t => only t ∧ t.pwr.reg.ctl = { r.ctl with v := v, lowmot := true } ∧
      (r.ctl.lowmot = false → t.pwr.reg.evt.lowmot = true))) ∧
    (r.ctl.lowmot = true → completes .headShed s (fun t => changesOnly [.fel, .pwr] s t ∧ t.fel.hstat.on = 0 ∧
      t.pwr.shed = s.pwr.shed ||| s.fel.hstat.on ∧ t.pwr.reg.evt.shed = true)) ∧
    (r.ctl.lowmot = true → 150 ≤ v.toNat → completes (.lowmotClear v) s (fun t => changesOnly [.fel, .pwr] s t ∧
      t.pwr.reg.ctl = { r.ctl with v := v, lowmot := false } ∧ t.pwr.shed = 0 ∧ ∀ p : PortalIx, s.pwr.shed.getLsbD p.val = true →
        (s.portal p).reg.cfg.kerffit = true → s.fel.hflt.lock.getLsbD p.val = false →
        t.fel.hstat.wait.getLsbD p.val = true ∨ t.fel.hstat.on.getLsbD p.val = true)) ∧
    (1375 < v.toNat → completes (.ctlOvervoltage v) s (fun t => only t ∧ t.pwr.reg.ctl = { r.ctl with v := v, ov := true } ∧
      t.pwr.reg.evt.ctlov = true)) ∧
    completes (.mbusFault v true) s (fun t => only t ∧ t.pwr.reg.mbus = { r.mbus with v := 0, rev := true } ∧ t.pwr.reg.evt.mbrev = true) ∧
    (v.toNat < 168 → completes (.mbusFault v false) s (fun t => only t ∧ t.pwr.reg.mbus = { r.mbus with v := v, uv := true } ∧
      t.pwr.reg.evt.mbuv = true)) ∧
    (1540 < v.toNat → completes (.mbusFault v false) s (fun t => only t ∧ t.pwr.reg.mbus = { r.mbus with v := v, ov := true } ∧
      t.pwr.reg.evt.mbov = true)) ∧
    completes .mbusOvercurrent s (fun t => only t ∧ t.pwr.reg = { r with evt := { r.evt with mboc := true } }) ∧
    (v.toNat ≤ 1375 → completes (.supplyFaultEnd .ctlOv v) s (fun t => only t ∧ t.pwr.reg = { r with ctl := { r.ctl with v := v, ov := false } })) ∧
    (168 ≤ v.toNat → completes (.supplyFaultEnd .mbusUv v) s (fun t => charges t ∧
      t.pwr.reg = { r with mbus := { r.mbus with v := v, uv := false } })) ∧
    (v.toNat ≤ 1540 → completes (.supplyFaultEnd .mbusOv v) s (fun t => only t ∧
      t.pwr.reg = { r with mbus := { r.mbus with v := v, ov := false } })) ∧
    completes (.supplyFaultEnd .mbusRev v) s (fun t => charges t ∧ t.pwr.reg = { r with mbus := { r.mbus with v := v, rev := false } }) ∧
    (v.toNat ≤ 1540 → s.lsg.reg.alb.ovw = true → completes (.supplyFaultEnd .albOv v) s (fun t => changesOnly [.tally, .lsg] s t ∧
      t.lsg.reg.alb = { s.lsg.reg.alb with v := v, ovw := false } ∧ (tallyOpen s → newestIs 0x44 t)))) ∧
  (∀ (s : State) (p : PortalIx) (pc : BitVec 12) (w : BitVec 16) (n : Nat), s.online = true →
    let at_ := max s.mono (s.pwr.admAt + ms 10)
    let u : State := { s with mono := at_, fel := { s.fel with hpwr := { s.fel.hpwr with pcore := pc } } }
    let able := (s.portal p).reg.cfg.kerffit = true ∧ s.fel.hflt.lock.getLsbD p.val = false ∧ s.fel.hstat.on.getLsbD p.val = false
    let waits := fun (t : State) (r : PortalIx) => t.fel.hstat.wait.getLsbD r.val = true ∨ t.fel.hstat.on.getLsbD r.val = true
    (s.fel.hstat.wait = 1#16 <<< p.val → u.headFits = true → completes (.headAdmission pc) s (fun t => changesOnly [.mono, .fel, .pwr] s t ∧
      t.mono = at_ ∧ t.fel.hpwr.pcore = pc ∧ t.fel.hstat.on.getLsbD p.val = true ∧ t.fel.hstat.wait = 0 ∧ t.pwr.headAt[p.val] = at_ ∧
      ∀ r : PortalIx, r ≠ p → t.fel.hstat.on.getLsbD r.val = s.fel.hstat.on.getLsbD r.val)) ∧
    (u.headFits = false → completes (.headAdmission pc) s (fun t => changesOnly [.mono, .fel, .pwr] s t ∧ t.mono = at_ ∧ t.fel.hpwr.pcore = pc ∧
      t.fel.hstat = s.fel.hstat ∧ t.fel.hpwr.ppred = satNat 12 u.headLoad)) ∧
    (s.fel.hstat.on.getLsbD p.val = true → completes (.headTrip p) s (fun t => changesOnly [.fel, .pwr] s t ∧
      t.fel.hstat.on.getLsbD p.val = false ∧ t.fel.hflt.trip.getLsbD p.val = true ∧ t.pwr.reg.evt.htrip = true ∧
      (s.pwr.tripAt[p.val] = some n → s.since n ≤ sec 60 → t.fel.hflt.lock.getLsbD p.val = true ∧ t.pwr.retryAt[p.val] = none) ∧
      (s.pwr.tripAt[p.val] = none → t.fel.hflt.lock.getLsbD p.val = s.fel.hflt.lock.getLsbD p.val ∧
        t.pwr.retryAt[p.val] = some s.mono))) ∧
    (s.pwr.retryAt[p.val] = some n → able → completes (.headRetry p) s (fun t => changesOnly [.mono, .fel, .pwr] s t ∧
      t.mono = max s.mono (n + sec 5) ∧ t.pwr.retryAt[p.val] = none ∧ waits t p)) ∧
    completes (.headReset w) s (fun t => changesOnly [.fel, .pwr] s t ∧ t.fel.hflt.lock = s.fel.hflt.lock &&& ~~~w ∧
      (w.getLsbD p.val = true → s.fel.hflt.lock.getLsbD p.val = true → (s.portal p).reg.cfg.kerffit = true → waits t p)))

/-- R440 to R444: an interruption with a healthy half is carried; the power-fail sequence comes 10 ms into it or at the reserve, at once
without a healthy half, and ends in the orderly halt; an interruption ridden through is counted; halves are tested at the start and every 10
min, and isolated, and with none left a flush is asked for every 10 ms. The instant at which an event comes, where a clause gives it, is how
the model lets time pass (log 1). The recharge of exactly 2 s (DEDUCED, log 18), and NONE judged anew at each test and the sequence's time
passing within the command (DEDUCED, log 62), are the model's choices. -/
def Obligations.HoldUpAndPowerFail : Prop := ∀ (s : State) (v : BitVec 12) (len : BitVec 16) (ea eb : BitVec 8) (b : Bool) (n lasted : Nat),
  s.eng.sq = [] → s.boot.down = false →
  let h := s.pwr.reg.hu
  let fails := fun (i : Instr) (from_ : Nat) => completes i s (fun t => haltedWell t ∧ t.boot.asleep = false ∧ t.pwr.intrAt = none ∧
    t.pwr.reg.pf.pfn = satInc s.pwr.reg.pf.pfn ∧ t.pwr.reg.last.pf = len ∧ t.mono = from_ + 40000 * len.toNat)
  (v.toNat < 55 → s.pwr.intrAt = none → h.noHalf = false → completes (.ctlInterruption v len) s (fun t => changesOnly [.pwr] s t ∧
    t.pwr.intrAt = some s.mono ∧ t.pwr.reg.ctl = { s.pwr.reg.ctl with v := v, hu := true })) ∧
  (v.toNat < 55 → s.pwr.intrAt = none → h.noHalf = true → fails (.ctlInterruption v len) s.mono) ∧
  (s.pwr.intrAt = some n → fails (.powerFailStart true len) s.mono ∧ fails (.powerFailStart false len) (max s.mono (n + ms 10))) ∧
  (s.pwr.intrAt = some n → 60 ≤ v.toNat → max s.mono (n + lasted) - n ≤ ms 10 → completes (.interruptionEnd v lasted ea eb) s (fun t =>
    changesOnly [.mono, .pwr] s t ∧ t.pwr.intrAt = none ∧ t.mono = max s.mono (n + lasted) ∧ t.pwr.rechargeAt = t.mono ∧
    t.pwr.reg.ctl.hu = false ∧ t.pwr.reg.evt.intr = true ∧ t.pwr.reg.pf.intrn = satInc s.pwr.reg.pf.intrn)) ∧
  (s.online = true → s.pwr.intrAt = none → 72 ≤ ea.toNat → 72 ≤ eb.toNat → completes (.holdupTest ea eb) s (fun t => changesOnly [.mono, .pwr] s t ∧
    t.mono = max s.mono (max (if s.pwr.startTest then 0 else s.pwr.testAt + sec 600) (if h.chg then s.pwr.rechargeAt + sec 2 else 0)) ∧
    t.pwr.testAt = t.mono ∧ t.pwr.startTest = false ∧ t.pwr.reg.hu.chg = false ∧ t.pwr.reg.hu.noHalf = (h.faila && h.failb) ∧
    t.pwr.reg.hu.ea = (if h.faila then h.ea else ea) ∧ t.pwr.reg.hu.eb = (if h.failb then h.eb else eb) ∧
    t.pwr.reg.hu.faila = h.faila ∧ t.pwr.reg.hu.failb = h.failb)) ∧
  (s.online = true → h.faila = false → h.failb = false → h.noHalf = false → completes (.halfFailure b len) s (fun t => changesOnly [.pwr] s t ∧
    (t.pwr.reg.hu.faila = !b) ∧ t.pwr.reg.hu.failb = b ∧ t.pwr.reg.hu.noHalf = false ∧ t.pwr.reg.evt.hufail = true)) ∧
  (s.online = true → h.faila = true → h.failb = false → s.pwr.intrAt = some n → fails (.halfFailure true len) s.mono) ∧
  (s.online = true → h.noHalf = true → s.tally.flush = none → completes .noHalfFlush s (fun t => changesOnly [.mono, .tally, .pwr] s t ∧
    t.mono = max s.mono (s.pwr.flushAt + ms 10) ∧ t.pwr.flushAt = t.mono ∧ t.tally.flush = some s.tally.seq))

/-- R450 to R453, R457: a sleep request is served at once where its conditions hold and waits where they do not; entry to sleep is the
orderly halt of Table 18-4; a wake input that is enabled starts the module again with the time slept; a retention loss makes the next start
a POWER. The instant at which an event comes, where a clause gives it, is how the model lets time pass (log 1). -/
def Obligations.SleepAndWake : Prop := ∀ (s : State) (src lvl : BitVec 4) (rtc : Nat), s.eng.sq = [] →
  let sleeps := fun (i : Instr) => completes i s (fun t => haltedWell t ∧ t.boot.asleep = true ∧ t.mono = s.mono ∧
    t.pwr.sleepAt = t.mono ∧ t.pwr.reg.slpn = satInc s.pwr.reg.slpn)
  (s.online = true → s.sleepReady = true → sleeps .sleepRequest) ∧
  (s.online = true → s.sleepReady = false → completes .sleepRequest s (fun t => changesOnly [.pwr] s t ∧
    t.pwr.reg = { s.pwr.reg with slpst := { s.pwr.reg.slpst with state := .deferred } })) ∧
  (s.online = true → s.pwr.reg.slpst.state = .deferred → completes .sleepCancel s (fun t => changesOnly [.pwr] s t ∧
    t.pwr.reg = { s.pwr.reg with slpst := { s.pwr.reg.slpst with state := .awake } })) ∧
  (s.online = true → s.pwr.reg.slpst.state = .deferred → s.sleepReady = true → sleeps .sleepEntry) ∧
  (s.online = true → s.pwr.reg.slpcfg.autoslp = true → lvl &&& s.pwr.reg.slpcfg.wakeen = 0 → s.sleepReady = true →
    completes (.autoSleep lvl) s (fun t =>
    haltedWell t ∧ t.boot.asleep = true ∧ t.pwr.reg.slpst.wakelvl = lvl ∧
    t.mono = max s.mono (s.pwr.wakeAt + sec s.pwr.reg.slpcfg.slpdly.toNat))) ∧
  (s.boot.asleep = true → src &&& s.pwr.reg.slpcfg.wakeen ≠ 0 → completes (.wake src lvl rtc) s (fun t =>
    changesOnly [.mono, .cal, .pwr, .boot] s t ∧ t.boot.held = some .wake ∧ t.boot.asleep = false ∧ t.mono = s.mono + 12207 * rtc ∧
    t.pwr.reg.slpst.wakesrc = src &&& s.pwr.reg.slpcfg.wakeen ∧ t.pwr.reg.slpst.wakelvl = lvl ∧
    t.pwr.reg.slpt = satNat 32 (rtc / 32768))) ∧
  (s.boot.down = true → completes .retentionLoss s (fun t => changesOnly [.pwr, .boot] s t ∧ t.boot.held = some .power ∧ t.boot.asleep = false ∧
    t.pwr.reg.temp.preheat = false))

/-- R428, R449, R457 to R459, R462, R463: a reset asserts on the supervisor's watchdog, which leaves Hinge's switches as they are, and waits
below −40 °C, an X variant then for −38 °C, its pre-heater on where CTL is at 16.8 V or above; its release starts the firmware, or RECOVERY
where no bank passes; a start of the retention domain after more than 2 s is a POWER; the module enters RUN once the safety mode and the
start-up calibrations allow. That RUN is entered with the safety mode in START where no switch set is locked (DEDUCED, log 116), what a
start keeps (DEDUCED, log 65) and how a chilled start waits (DEDUCED, log 71) are the model's choices. -/
def Obligations.ResetAndStart : Prop := ∀ (s : State) (b : BootIn) (src : StartSrc) (r : Bool) (k : BitVec 8) (len : BitVec 16),
  let x := s.eng.sys.id.variant == 1
  let from_ := if src = .restart ∧ 65536 < b.rtc then StartSrc.power else src
  (s.boot.held = none → s.boot.down = false → s.safe.mode = .normal → completes .supervisorWatchdog s (fun t =>
    t.boot.held = some .supervisor ∧ t.boot.up = false ∧ t.tru.reg.wdn = satInc s.tru.reg.wdn ∧ t.safe.drive = s.safe.drive ∧
    t.fio.pins = (if s.safe.active.egren = true then s.fio.conduct (s.fio.word &&& 0x3FFF) else s.fio.pins) ∧
      (∀ c : ChanIx, (t.chan c).reg.stat.out = false) ∧ ∀ i : Fin 3, t.tru.sessions[i.val] = none)) ∧
  (s.releases = some src → (if s.boot.chilled then -38 else -40) ≤ b.tcs.toInt → s.tru.restart.chooseBank ≠ none →
    completes (.resetRelease b) s (fun t =>
    t.boot.held = none ∧ t.boot.up = true ∧ t.boot.starting = true ∧ t.boot.recovery = false ∧ t.boot.reg.last.src = from_.code ∧
    t.boot.reg.boot.core = b.coreMs ∧ t.mode = .stop ∧ ∀ i : Fin 3, t.tru.sessions[i.val] = none)) ∧
  (s.releases = some src → (if s.boot.chilled then -38 else -40) ≤ b.tcs.toInt → s.tru.restart.chooseBank = none →
    completes (.resetRelease b) s (fun t =>
    t.boot.held = none ∧ t.boot.up = false ∧ t.boot.recovery = true ∧ t.boot.reg.last.src = from_.code ∧ t.mode = .stop)) ∧
  (s.releases = some src → b.tcs.toInt < (if s.boot.chilled then -38 else -40) → completes (.resetRelease b) s (fun t =>
    changesOnly [.pwr, .boot] s t ∧ t.pwr.reg.temp.tcs = b.tcs ∧ t.boot = { s.boot with
      drives := { s.boot.drives with lines := .low }, chilled := x, heating := x && decide (168 ≤ b.ctl.toNat) })) ∧
  (s.releases = some src → x = true → s.boot.heating = true → -38 ≤ k.toInt → completes (.preheatComplete k len) s (fun t =>
    changesOnly [.pwr, .boot] s t ∧ t.pwr.reg.temp = { tcs := k, preheat := true, pht := len } ∧
    t.boot = { s.boot with heating := false, chilled := false })) ∧
  (s.online = true → s.boot.starting = true → s.mode = .stop → (s.safe.mode ≠ .start ∨ s.safe.locked = none ∧ s.safe.a.tested = true ∧
    s.safe.h.tested = true) → s.startCals = false →
    (s.boot.reg.last.src ≠ 0 ∨ r = true) → completes (.startupRunEntry r) s (fun t => t.mode = .run ∧ t.boot.starting = false ∧
      t.eng.phase = .wait ∧ t.eng.banks = Vector.replicate 5 {} ∧ t.eng.sys.mode.warm = !s.boot.cold ∧ t.mono = s.mono)) ∧
  (s.online = true → s.boot.starting = true → s.mode = .stop → s.safe.mode = .start → s.safe.locked.isSome = true →
    completes (.startupRunEntry r) s (fun t => changesOnly [.boot] s t ∧
    t.boot = { s.boot with calWait := true }))

/-- R379 to R384, R351 to R354: a payload of another protocol is dropped; a telegram fails its checks in their order, each counted; one that
passes and is next on its connection begins the write of its entry, and a duplicate of a written one is acknowledged again; where the
journal is closed, or a power-fail or sleep sequence begins at this tick (R455), every one that passes is refused with a negative
acknowledgement, duplicates and gaps too. That refusal before the sequence is looked at (DEDUCED, log 42), and its cause at the tick of a
sequence's start (DEDUCED, log 62), are the model's choices. -/
def Obligations.Telegrams : Prop := ∀ (s : State) (sg : Bool) (b : List Byte) (l : Word) (n : Nat) (r : Conn), s.online = true →
  let t4 := b.drop 4
  let conn : Word := BitVec.ofNat 32 (beNat (bytesAt t4 0 4))
  let codes := beNat (bytesAt t4 28 4) = codeA conn (t4.take 28) ∧ beNat (bytesAt t4 32 4) = codeH conn (t4.take 28)
  let timely := s.timeOk (beNat (bytesAt t4 8 4)) = true
  let kind : Byte := (bytesAt t4 0x10 1).headD 0
  let c : JCmd := { connid := conn, tseq := BitVec.ofNat 32 (beNat (bytesAt t4 4 4)), kind := kind, target := (bytesAt t4 0x11 1).headD 0,
                    source := if sg then .sg else .tn, arg := BitVec.ofNat 32 (beNat (bytesAt t4 0x14 4)),
                    expms := BitVec.ofNat 32 (beNat (bytesAt t4 0x18 4)) }
  let j := s.net.reg.bwrej
  let counted := fun (t : State) (k : NetBwrej) => changesOnly [.net] s t ∧ t.net = { s.net with reg := { s.net.reg with bwrej := k } }
  let good := b.headD 0 = 0x42 ∧ formatOk sg b = true ∧ codes ∧ timely ∧ reservedKind kind = false
  let run := completes (.telegramReceive sg b) s
  (b.headD 0 ≠ 0x42 → run (fun t => changesOnly [.net] s t ∧ t.net.reg.err2.proto = satInc s.net.reg.err2.proto ∧ t.net.reg.bwrej = j)) ∧
  (b.headD 0 = 0x42 → formatOk sg b = false → run (fun t => counted t { j with format := satInc j.format })) ∧
  (b.headD 0 = 0x42 → formatOk sg b = true → ¬ codes → run (fun t => counted t { j with code := satInc j.code })) ∧
  (b.headD 0 = 0x42 → formatOk sg b = true → codes → ¬ timely → run (fun t => counted t { j with time := satInc j.time })) ∧
  (b.headD 0 = 0x42 → formatOk sg b = true → codes → timely → reservedKind kind = true →
    run (fun t => counted t { j with kind := satInc j.kind })) ∧
  (good → s.jnl.lastSeq conn = some l → c.tseq = l + 1 → s.jnl.closed = false → s.closing = false →
    s.jnl.entries.length + s.jnl.writes.length < 1024 →
    run (fun t => changesOnly [.jnl] s t ∧ t.jnl.writes = s.jnl.writes ++ [{ cmd := c, tacc := s.mono }] ∧
      t.jnl.entries = s.jnl.entries)) ∧
  (good → s.jnl.closed = true ∨ s.closing = true → run (fun t => changesOnly [.jnl, .sent] s t ∧
    t.jnl.writes = s.jnl.writes ∧ t.jnl.reg.nakn.nakn = satInc s.jnl.reg.nakn.nakn ∧ t.sent.length = s.sent.length + 1)) ∧
  (good → s.jnl.closed = false → s.closing = false → s.jnl.writes = [] → s.jnl.conns = [r] → r.id = conn → r.last = c.tseq → r.jseq = [(c.tseq, n)] →
    run (fun t => changesOnly [.jnl, .sent] s t ∧ t.jnl.reg.cnt.dupn = satInc s.jnl.reg.cnt.dupn ∧ t.jnl.entries = s.jnl.entries ∧
      t.jnl.writes = [] ∧ t.sent.length = s.sent.length + 1))

/-- R28, R351, R352, R358 to R361: a confirmed write makes the entry ACCEPTED under the next JSEQ and is acknowledged, a failed one is
refused; TAKE delivers the oldest accepted entry and shows it, or nothing while one is delivered; a result in order gives the outcome and
its report, one without a delivered entry is refused; 60 s without a result refuse it with reason 6; a reported entry is freed after 60 s.
The instant at which an event comes, where a clause gives it, is how the model lets time pass (log 1). -/
def Obligations.JournalEntries : Prop := ∀ (s : State) (w : JWrite) (ws : List JWrite) (e : Entry) (es : List Entry) (r : Word),
  s.online = true → s.fab.lastf.mram0 = false → s.fab.lastf.mram1 = false →
  let j := s.jnl
  let given := fun (t : State) (st : EntState) (why : Byte) => ∃ f ∈ t.jnl.entries, f.jseq = e.jseq ∧ f.cmd = e.cmd ∧ f.state = st ∧
    f.reason = why ∧ f.sent = true
  (j.writes = w :: ws → w.dups = [] → w.cmd.source = .tn →
    completes (.journalWriteComplete true true) s (fun t => changesOnly [.jnl, .sent] s t ∧ t.jnl.writes = ws ∧ t.jnl.jseq = j.jseq + 1 ∧
      t.jnl.entries = j.entries ++ [{ cmd := { w.cmd with expms := if w.cmd.expms = 0 then j.reg.defexp.setWidth 32 else w.cmd.expms },
                                      jseq := j.jseq + 1, tacc := w.tacc, epoch := j.reg.epoch }] ∧
      t.jnl.reg.cnt.accn = satInc j.reg.cnt.accn ∧ t.sent = s.sent ++ [.telegram false
        (s.telegram (w.cmd.connid ^^^ 0x80000000#32) w.cmd.tseq 2 (beBytes 8 (j.jseq + 1)))]) ∧
    completes (.journalWriteComplete false false) s (fun t => t.jnl.writes = ws ∧ t.jnl.entries = j.entries ∧ t.jnl.jseq = j.jseq ∧
      t.fab.lastf.mram0 = true ∧ t.fab.lastf.mram1 = true ∧ t.jnl.reg.nakn.nakn = satInc j.reg.nakn.nakn)) ∧
  (j.entries = e :: es → j.delivered = none → e.state = .accepted → s.takeRefusal e = none → completes .take s (fun t =>
    changesOnly [.jnl] s t ∧ t.jnl.dlv[0] = BitVec.ofNat 32 e.jseq ∧ t.jnl.dlv[2] = e.cmd.arg ∧ t.jnl.dlv[3] = e.cmd.connid ∧
    t.jnl.dlv[4] = e.cmd.tseq ∧ (t.jnl.dlv[1]).getLsbD 31 = true ∧
    ∃ f ∈ t.jnl.entries, f.jseq = e.jseq ∧ f.cmd = e.cmd ∧ f.state = .delivered)) ∧
  (j.delivered = some e → completes .take s (fun t => t = s)) ∧
  (j.delivered = none → completes (.cmjRes r) s (fun t => changesOnly [.jnl] s t ∧ t.jnl = { j with reg := { j.reg with rstat := 2 } })) ∧
  (j.delivered = some e → e.jseq % 65536 = (getF r 16 16).toNat → r.getLsbD 8 = true → getF r 0 8 = 0 → e.cmd.source = .tn →
    completes (.cmjRes r) s (fun t => changesOnly [.jnl, .sent] s t ∧ t.jnl.reg.rstat = 1 ∧ given t .done 0 ∧
      (t.jnl.dlv[1]).getLsbD 31 = false ∧ t.sent.length = s.sent.length + 1)) ∧
  (j.delivered = some e → e.cmd.source = .tn → completes .deliveryTimeout s (fun t => changesOnly [.mono, .jnl, .sent] s t ∧
    t.mono = max s.mono (e.at_ + sec 60) ∧ given t .refused 6)) ∧
  (j.entries.filter (fun q => q.sent) = [e] → completes .entryFree s (fun t => changesOnly [.mono, .jnl] s t ∧
    t.mono = max s.mono (e.at_ + sec 60) ∧ t.jnl.entries = j.entries.filter (fun q => q.jseq != e.jseq)))

/-- R27, R28, R31, R32, R282, R385, Table 10-5: how fabric operations, mirrored writes and STATUS telegrams end: a corrected error is
counted; an error or a timeout is recorded with its source and address, and a failed fetch of a running program stops it with cause MEM, or
a lower one due at that boundary; a failed MRAM device is marked with a record; STATUS goes to SG and TN with the next sequence and the
CODEH that Hinge gave, and stays away while that has not come or a channel is absent. The instant at which an event comes, where a clause
gives it, is how the model lets time pass (log 1). That an error of source 2 in RUN is the failed access that stops the module is the
model's choice (DEDUCED, log 26). -/
def Obligations.FabricAndStatus : Prop := ∀ (s : State) (src : Fin 7) (a h : Word), s.online = true →
  let f := s.fab
  let l := fun (k : BitVec 4) (t : State) => t.fab.lastf.kind = k ∧ t.fab.lastf.source = BitVec.ofNat 4 src.val ∧
    t.fab.lastf.new = true ∧ t.fab.lasta = a
  completes (.fabricOperationComplete src .done a) s (fun t => t = s) ∧
  completes (.fabricOperationComplete src .corrected a) s (fun t => changesOnly [.fab] s t ∧
    t.fab = { f with ecccnt := { f.ecccnt with corr := satInc f.ecccnt.corr } }) ∧
  (src.val ≠ 2 → completes (.fabricOperationComplete src .ecc a) s (fun t => changesOnly [.fab, .tally] s t ∧ l 1 t ∧
      t.fab.ecccnt.uncorr = satInc f.ecccnt.uncorr) ∧
    completes (.fabricOperationComplete src .violation a) s (fun t => changesOnly [.fab] s t ∧ l 3 t) ∧
    completes (.fabricTimeout src a) s (fun t => changesOnly [.fab] s t ∧ l 2 t ∧ t.fab.tocnt = satInc f.tocnt)) ∧
  (src.val = 2 → completes (.fabricOperationComplete src .violation a) s (fun t => changesOnly [.eng] s t ∧
    t.eng.sys.violn = satInc s.eng.sys.violn ∧ t.eng.sys.viola = a)) ∧
  (src.val = 2 → s.mode = .run → s.eng.sq = [] → completes (.fabricTimeout src a) s (fun t => stoppedWith (s.stopCause 7) t ∧ l 2 t)) ∧
  completes (.mramWriteComplete src true true) s (fun t => t = s) ∧
  (f.lastf.mram0 = false → completes (.mramWriteComplete src false true) s (fun t => changesOnly [.fab, .tally, .freeSeq] s t ∧
    t.fab.lastf.kind = 4 ∧ t.fab.lastf.mram0 = true ∧ t.fab.lastf.mram1 = f.lastf.mram1 ∧ (tallyOpen s → newestIs 0x18 t))) ∧
  (s.safe.linkUp = true → s.safe.a.silent = false → s.safe.h.silent = false → s.safe.aReset = false →
    completes (.statusTelegramSend (some h)) s (fun t => changesOnly [.mono, .tally, .net, .sent] s t ∧
      t.mono = max s.mono (s.net.bwAt + ms s.net.reg.bw.sper.toNat) ∧ t.net.bwSeq = s.net.bwSeq + 1 ∧ t.net.bwAt = t.mono ∧
      t.net.reg.bwst.sending = true ∧ ∃ x y : List Byte, t.sent = s.sent ++ [.telegram true x, .telegram false y] ∧ x.take y.length = y ∧
        y.drop (y.length - 4) = beBytes 4 h.toNat) ∧
    completes (.statusTelegramSend none) s (fun t => changesOnly [.mono, .net] s t ∧ t.net.bwSeq = s.net.bwSeq ∧ t.net.bwAt = t.mono)) ∧
  (s.safe.linkUp = false → completes (.statusTelegramSend (some h)) s (fun t => changesOnly [.net] s t ∧ t.net.reg.bwst.sending = false ∧
    t.net.bwSeq = s.net.bwSeq))

/-- R364, R373, R374, R368: redundant frames and paths: an unsupported frame is dropped and counted; a supervision frame brings its path up
with its event and record, a path without one, or without its link, goes down at the check; supervision frames leave on every path that is
up; the first copy of a frame is kept and does what its content does, the second is discarded with all it carries; a head link's change
waits for the next status frame. A chosen master's announce gives the UTC offset (R21). R375, R376, R277, R280: process data and panels: an
output dataset leaves at its period with the image in force; an input datagram of the configured length is taken into its slot, one of
another length is an error; a slot without a valid one for HOLD is emptied and LOST, with a record, once the tick of the expiry is over (the
model's choice, log 125); outside RUN each panel that takes part gets a frame each millisecond. The instant at which an event comes, where a
clause gives it, is how the model lets time pass (log 1). A frame of the wrong LAN counted and kept and a LOST dataset without VALID
(DEDUCED, log 52), TYPE 0x02 without a header (DEDUCED, log 119) and the tick after the hold time (DESIGN CHOICE, log 125) are the model's
choices; the choice of the master is presumed (PRESUMED, log 118). -/
def Obligations.PathsAndData : Prop :=
  (∀ (s : State) (k : Fin 6) (mac m2 : BitVec 48) (q utc dst sp : BitVec 16) (p : PortalIx) (up : Bool)
    (f : PrpKind) (d : Byte) (m : PtpMaster) (w : Word) (b : List Byte), s.online = true →
    let frame := fun (f : PrpKind) => exec (.prpFrameReceive k mac none false f) s
    let carries := match f with
      | .supervision _ => false
      | _ => true
    completes .unsupportedFrame s (fun t => changesOnly [.net] s t ∧ t.net.reg.err2.proto = satInc s.net.reg.err2.proto) ∧
    (s.net.reg.red.getLsbD k.val = false → completes (.prpFrameReceive k mac none false (.supervision m2)) s (fun t =>
      changesOnly [.tally, .net] s t ∧ t.net.reg.red.getLsbD k.val = true ∧ t.net.reg.redevt.getLsbD k.val = true ∧
      t.net.supSeen.getLsbD k.val = true ∧ (tallyOpen s → newestIs 0x61 t))) ∧
    (s.net.seen = [] → completes (.prpFrameReceive k mac (some q) true .other) s (fun t => changesOnly [.net] s t ∧
      t.net.seen = [(k, mac, q, s.mono)] ∧ t.net.reg.err2.wlan = satInc s.net.reg.err2.wlan)) ∧
    (s.duplicateFrame k mac q = true → carries = true → completes (.prpFrameReceive k mac (some q) false f) s (fun t =>
      changesOnly [.net] s t ∧ t.net = { s.net with seen := t.net.seen } ∧ t.net.seen.length = s.net.seen.length ∧
      t.duplicateFrame k mac q = true)) ∧
    (k.val < 2 → s.duplicateFrame k mac q = false → completes (.prpFrameReceive k mac (some q) false (.announce d m utc)) s (fun t =>
      changesOnly [.tim, .net] s t ∧ t.duplicateFrame k mac q = true ∧ (d, m, s.mono) ∈ t.net.masters ∧
      (d = s.net.reg.ptp.domain ∧ t.master = some m → t.tim = { s.tim with utcofs := { seconds := utc, valid := true } }) ∧
      (d ≠ s.net.reg.ptp.domain ∨ t.master ≠ some m → t.tim = s.tim))) ∧
    (k.val = 2 ∨ k.val = 3 → b.take 2 = [0x58, 0x01] → 25 ≤ b.length →
      frame (.porvar b) = exec (.twinHeartbeatReceive (BitVec.ofNat 48 (beNat (bytesAt b 19 6)))) s) ∧
    (k.val = 2 ∨ k.val = 3 → b.take 2 = [0x58, 0x02] → frame (.porvar b) = exec (.mailboxArrival .xl 0 0 0 (b.drop 2)) s) ∧
    (k.val = 4 ∨ k.val = 5 → frame (.porvar b) = exec (.telegramReceive true b) s) ∧
    (k.val < 2 → dst = s.net.reg.bwport → frame (.datagram dst w sp b) = exec (.telegramReceive false b) s) ∧
    (k.val < 2 → dst ≠ s.net.reg.bwport → dst = 20548 → frame (.datagram dst w sp b) = exec (.pdInputReceive b) s) ∧
    (k.val < 2 → dst ≠ s.net.reg.bwport → dst ≠ 20548 →
      frame (.datagram dst w sp b) = exec (.mailboxArrival .udp w dst sp b) s) ∧
    completes .supervisionSend s (fun t => changesOnly [.mono, .net, .sent] s t ∧ t.mono = max s.mono (s.net.supAt + sec 2) ∧
      t.net.supAt = t.mono ∧ t.sent = s.sent ++
        (((List.finRange 6).filter fun i => s.net.lup.getLsbD i.val).map fun i => Output.supervision i.val)) ∧
    (s.net.lup.getLsbD k.val = false ∨ s.net.supSeen.getLsbD k.val = false → completes .pathCheck s (fun t =>
      changesOnly [.mono, .tally, .net] s t ∧ t.mono = max s.mono (s.net.checkAt + sec 2) ∧ t.net.reg.red.getLsbD k.val = false ∧
      t.net.supSeen = 0 ∧ t.net.checkAt = t.mono ∧ (s.net.reg.red.getLsbD k.val = true → t.net.reg.redevt.getLsbD k.val = true))) ∧
    completes (.linkStateChange (.hl p) up) s (fun t => changesOnly [.kerf, .net] s t ∧ t.net.reg.lnk.hl.getLsbD p.val = up ∧
      (t.krf p).status = false ∧ (t.krf p).part = none ∧ t.net.reg.lnk.pl = s.net.reg.lnk.pl) ∧
    completes (.linkStateChange (.path k) up) s (fun t => changesOnly [.net] s t ∧ t.net.lup.getLsbD k.val = up ∧ t.net.reg = s.net.reg)) ∧
  (∀ (s : State) (n : Fin 8) (b : List Byte), s.online = true →
    let c := s.net.reg.pdo[n.val]
    let i := s.net.reg.pdi[n.val]
    let mine := b.getD 0 0 = 0x44 ∧ b.getD 1 0 = 0x01 ∧ i.len ≠ 0 ∧ beNat (bytesAt b 4 2) = i.id.toNat ∧
      ∀ m : Fin 8, m ≠ n → (s.net.reg.pdi[m.val]).len = 0
    (c.len ≠ 0 → completes (.pdOutputSend n) s (fun t => changesOnly [.mono, .net, .sent] s t ∧
      t.mono = max s.mono (s.net.pdoAt[n.val] + ms (10 * c.period.toNat)) ∧ t.net.pdoAt[n.val] = t.mono ∧
      ∃ d : List Byte, t.sent = s.sent ++ [.dataset c.id d] ∧ bytesAt d 2 2 = beBytes 2 c.len.toNat ∧ bytesAt d 4 2 = beBytes 2 c.id.toNat ∧
        d.drop 12 = s.appliedBytes (0x2010 + 0x400 * n.val) c.len.toNat)) ∧
    (mine → beNat (bytesAt b 2 2) = i.len.toNat → 12 + i.len.toNat ≤ b.length → completes (.pdInputReceive b) s (fun t =>
      changesOnly [.net] s t ∧ t.net.pdi[n.val] = { data := bytesAt b 12 i.len.toNat, seq := BitVec.ofNat 32 (beNat (bytesAt b 8 4)),
                                                    at_ := s.mono, valid := true } ∧
      ∀ m : Fin 8, m ≠ n → t.net.pdi[m.val] = s.net.pdi[m.val])) ∧
    (mine → 12 ≤ b.length → beNat (bytesAt b 2 2) ≠ i.len.toNat → completes (.pdInputReceive b) s (fun t => changesOnly [.net] s t ∧
      t.net.pdi[n.val] = { s.net.pdi[n.val] with lenerr := true })) ∧
    (i.len ≠ 0 → (s.net.pdi[n.val]).lost = false → completes (.pdHoldExpiry n) s (fun t => changesOnly [.mono, .tally, .net] s t ∧
      t.mono = max s.mono ((s.net.pdi[n.val]).at_ + ms s.net.reg.hold.toNat + 1) ∧ (t.net.pdi[n.val]).data = [] ∧
      (t.net.pdi[n.val]).lost = true ∧ (t.net.pdi[n.val]).valid = false ∧ (tallyOpen s → newestIs 0x62 t))) ∧
    (s.mode ≠ .run → completes .panelFrameRepeat s (fun t => changesOnly [.mono, .eng, .sent] s t ∧
      t.mono = max s.mono (s.eng.frameAt + ms 1) ∧ t.eng.frameAt = t.mono ∧ t.sent.length = s.sent.length + s.panels.length)))

/-- R22 to R24, R377, R378: calendar time's sources: the 16th Sync message in a row within 1 µs gives PTP, and each is a correction; path B
counts only without path A; one of another domain, or not from the chosen master, is not used; 3 s without Sync, and three missing pulses
once SYNC is lost for more than 3 s, give HOLDOVER, an hour of it FREE; the third valid pulse gives SYNC. The frequency correction that
discipline finds is a free value (log 74). The instant at which an event comes, where a clause gives it, is how the model lets time pass
(log 1). The choice of the master, from IEEE 1588, is presumed (PRESUMED, log 118). -/
def Obligations.CalendarSources : Prop := ∀ (s : State) (m : SyncMsg) (n : Nat) (k : Fin 2), s.online = true →
  let ofs := m.ofs
  let ours := m.domain = s.net.reg.ptp.domain ∧ s.master.map PtpMaster.sender = some m.sender
  let src := s.tim.src
  let slews := fun (t : State) (d : Int) => t.calBase = s.calNow ∧ t.calAt = s.mono ∧ t.slew = d
  let tuned := fun t : State => -50000 ≤ t.calPpb ∧ t.calPpb ≤ 50000
  (¬ ours → completes (.ptpSyncReceive k m) s (fun t => t = s)) ∧
  (ours → ofs.natAbs ≤ 1000 → 15 ≤ s.net.ptpRow → completes (.ptpSyncReceive 0 m) s (fun t =>
    changesOnly [.tim, .cal, .net, .freeSeq] s t ∧ t.tim.src.state = .ptp ∧ tuned t ∧ t.tim.src.valid = true ∧ slews t (-ofs) ∧
      t.net.reg.ptp.path = 1 ∧
    t.net.reg.ptpofs = BitVec.ofInt 32 ofs)) ∧
  (ours → 1000 < ofs.natAbs → ofs.natAbs ≤ 1000000 → completes (.ptpSyncReceive 0 m) s (fun t => changesOnly [.tim, .cal, .net, .freeSeq] s t ∧
    t.tim.src = src ∧ slews t (-ofs) ∧ t.net.ptpRow = 0 ∧ (src.state ≠ .ptp → t.calPpb = s.calPpb))) ∧
  (ours → 1000000 < ofs.natAbs → completes (.ptpSyncReceive 0 m) s (fun t => changesOnly [.tim, .cal, .tally, .net, .freeSeq] s t ∧
    t.tim.src.stepped = true ∧ t.calBase = (s.calNow - ofs).toNat ∧ t.slew = 0 ∧ (tallyOpen s → newestIs 2 t))) ∧
  (ours → s.net.ptpAt[0] = some n → s.since n ≤ sec 3 → completes (.ptpSyncReceive 1 m) s (fun t => changesOnly [.net] s t ∧
    t.net.ptpAt[1] = some s.mono ∧ t.net.reg = s.net.reg)) ∧
  (src.state = .ptp → completes .ptpLoss s (fun t => changesOnly [.mono, .tim, .net] s t ∧ t.tim.src.state = .holdover ∧
    t.tim.src.ptploss = true ∧ t.net.holdAt = t.mono ∧ t.net.reg.ptp.path = 0 ∧
    t.mono = max s.mono (max ((s.net.ptpAt[0]).getD 0) ((s.net.ptpAt[1]).getD 0) + sec 3))) ∧
  (src.state = .sync → s.net.ppsLost = true → completes .ptpLoss s (fun t => changesOnly [.mono, .tim, .net] s t ∧
    t.mono = max s.mono (s.net.ppsGood + sec 3 + 1) ∧ t.tim.src = { src with state := .holdover } ∧ t.net.holdAt = t.mono)) ∧
  (src.state = .holdover → completes .holdoverExpiry s (fun t => changesOnly [.mono, .tim, .cal] s t ∧
    t.mono = max s.mono (s.net.holdAt + sec 3600) ∧ t.tim.src = { src with state := .free } ∧ t.calPpb = 0 ∧ t.calAt = t.mono ∧
    t.calBase = ({ s with mono := t.mono }).calNow)) ∧
  (src.state = .free → s.secondOffset.natAbs ≤ 1000000 → 2 ≤ s.net.ppsRow → completes .syncPulse s (fun t =>
    changesOnly [.tim, .cal, .net, .freeSeq] s t ∧ t.tim.src.state = .sync ∧ tuned t ∧ slews t (-s.secondOffset) ∧ t.net.ppsAt = s.mono)) ∧
  (src.state = .ptp → s.secondOffset.natAbs ≤ 1000000 → completes .syncPulse s (fun t => changesOnly [.net] s t ∧
    t.net.ppsRow = s.net.ppsRow + 1)) ∧
  (src.state = .sync → s.net.ppsBad = 2 → completes .syncPulseMissing s (fun t => changesOnly [.mono, .tim, .net] s t ∧
    t.mono = max s.mono (s.net.ppsAt + sec 1 + ms 1) ∧ t.net.ppsAt = s.net.ppsAt + sec 1 ∧ t.net.ppsLost = true ∧
    t.tim.src.ppsloss = true ∧ (t.mono - s.net.ppsGood ≤ sec 3 → t.tim.src.state = .sync) ∧
    (sec 3 < t.mono - s.net.ppsGood → t.tim.src.state = .holdover ∧ t.net.holdAt = t.mono)))

/-- R387 to R391: the twin and the mailboxes: a heartbeat leaves each 100 ms; the tenth in a row brings the twin up; without one for 300 ms
it is SPLIT or LOST; a message of a link in use is filed in the lowest mailbox that takes it and triggers its call-out, and a full one
overflows; a CAN frame unsent for 100 ms is dropped; a bus-off clears LINK. The instant at which an event comes, where a clause gives it, is
how the model lets time pass (log 1). -/
def Obligations.TwinAndMailboxes : Prop := ∀ (s : State) (mac : BitVec 48) (n u : Nat) (m : Fin 64) (l : MbLink) (w : Word)
  (dst sp : BitVec 16) (b : List Byte) (i : Fin 4) (g : Msg × Nat) (gs : List (Msg × Nat)), s.online = true →
  let box := s.net.mbox[m.val]
  let tw := s.net.reg.twin
  let heard := s.net.twinAt.getD s.boot.relAt
  let first := fun (l : MbLink) (w : Word) => (List.finRange 64).find? (fun k => s.mbMatch k l w dst) = some m
  let filed := fun (t : State) (g : Msg) => changesOnly [.eng, .net] s t ∧ (t.net.mbox[m.val]).queue = box.queue ++ [g] ∧
    (∀ k : Fin 64, k ≠ m → t.net.mbox[k.val] = s.net.mbox[k.val]) ∧
    (s.eng.decl (BitVec.ofNat 16 (0x0C00 + m.val)) = none → t.eng.sys.cocnt.undecl = satInc s.eng.sys.cocnt.undecl)
  (tw.en = true → completes .twinHeartbeatSend s (fun t => changesOnly [.mono, .net, .sent] s t ∧
    t.mono = max s.mono (s.net.twinTx + ms 100) ∧ t.net.twinTx = t.mono ∧ ∃ f : List Byte, t.sent = s.sent ++ [.twin f] ∧ f.length = 25)) ∧
  (tw.en = true → tw.state ≠ .up → s.net.twinAt = some n → s.since n ≤ ms 300 → 9 ≤ s.net.twinRow →
    completes (.twinHeartbeatReceive mac) s (fun t => changesOnly [.tally, .net] s t ∧ t.net.reg.twin.state = .up ∧
      t.net.reg.twin.chg = true ∧ t.net.twinMac = some mac ∧ t.net.twinAt = some s.mono ∧ (tallyOpen s → newestIs 0x63 t))) ∧
  (tw.en = true → tw.state = .up → (∀ e ∈ s.net.sups, s.net.twinMac ≠ some e.1) → completes .twinTimeout s (fun t =>
    changesOnly [.mono, .tally, .net] s t ∧ t.mono = max s.mono (heard + ms 300) ∧ t.net.reg.twin.state = .lost ∧ t.net.twinRow = 0 ∧
    (tallyOpen s → newestIs 0x63 t))) ∧
  (tw.en = true → s.net.twinMac = some mac → (mac, u) ∈ s.net.sups → max s.mono (heard + ms 300) - u ≤ sec 4 →
    completes .twinTimeout s (fun t => t.net.reg.twin.state = .split)) ∧
  (first .udp w → box.queue.length < 16 → completes (.mailboxArrival .udp w dst sp b) s (fun t =>
    filed t { word0 := w, port := sp, data := b })) ∧
  (first .udp w → 16 ≤ box.queue.length → completes (.mailboxArrival .udp w dst sp b) s (fun t => changesOnly [.net] s t ∧
    t.net.mbox[m.val] = { box with ovf := true, dropped := satInc box.dropped })) ∧
  ((∀ k : Fin 64, s.mbMatch k l w dst = false) ∨ s.net.reg.takes l w = false → completes (.mailboxArrival l w dst sp b) s (fun t =>
    changesOnly [.net] s t ∧
    t.net.reg.err2.proto = satInc s.net.reg.err2.proto ∧ t.net.mbox = s.net.mbox)) ∧
  ((s.net.reg.ser[i.val]).en = true → dst = 0 → first (.ser i) 0 → box.queue.length < 16 → completes (.serialMessageEnd i b) s (fun t =>
    filed t { word0 := 0, data := b })) ∧
  (MbLink.ofCode (s.net.reg.mbcfg[m.val]).link = some (.can i) → box.out = g :: gs → completes (.canSendTimeout m) s (fun t =>
    changesOnly [.mono, .net] s t ∧ t.mono = max s.mono (g.2 + ms 100) ∧ t.net.mbox[m.val] = { box with out := gs, txerr := true })) ∧
  (MbLink.ofCode (s.net.reg.mbcfg[m.val]).link = some (.can i) → completes (.canBusOff i) s (fun t => changesOnly [.net] s t ∧
      t.net.linkUp (t.net.reg.mbcfg[m.val]).link = false) ∧
    completes (.canBusOffRecovery i) s (fun t => changesOnly [.net] s t ∧
      t.net.linkUp (t.net.reg.mbcfg[m.val]).link = (s.net.reg.can[i.val]).en))

/-- R421 to R424, R430, Table 17-9: sessions: a handshake a client's certificate carries opens the free service slot with the rights of the
certificate and gives the module's own (R413), and is refused and counted otherwise; ten seconds without a record end a session, in HOLD the
service session's end stops the module with cause 8; NOP is answered OK, a malformed message BADREQ, and one beyond the greatest LEN closes
its session. The instant at which an event comes, where a clause gives it, is how the model lets time pass (log 1). -/
def Obligations.SessionLife : Prop := ∀ (s : State) (c : ClientCert) (i : Fin 3) (e : Session) (tag len : Word) (opc : BitVec 16),
  let up := s.boot.held = none ∧ s.boot.down = false ∧ s.boot.up = true ∧ s.boot.recovery = false
  let others := fun (k : Fin 3) (t : State) => ∀ j : Fin 3, j ≠ k → t.tru.sessions[j.val] = s.tru.sessions[j.val]
  (up → (s.tru.anchors[3]).isSome = true → c.tls = true → c.chains = true → s.tim.src.valid = true → c.notBefore ≤ s.calNow →
    s.calNow ≤ c.notAfter → s.tru.sessions[0] = none → completes (.sessionHandshake .svc c) s (fun t =>
      changesOnly [.jnl, .tru, .sent] s t ∧ others 0 t ∧ t.tru.refn = s.tru.refn ∧
      (∃ r : List Output, t.sent = s.sent ++ .certificate 0 s.tru.identity :: r) ∧ t.tru.opened = s.tru.opened + 1 ∧
      t.tru.sessions[0] = some { num := s.tru.opened, rights := c.rights, serial := c.serial, at_ := s.mono })) ∧
  (up → (s.tru.anchors[3]).isSome = true → (c.tls = false ∨ c.chains = false) → completes (.sessionHandshake .svc c) s (fun t =>
    changesOnly [.tru] s t ∧ t.tru = { s.tru with refn := satInc s.tru.refn })) ∧
  (s.tru.sessions[i.val] = some e → ¬ (i.val = 0 ∧ s.mode = .hold) → completes (.sessionLoss i) s (fun t => t.tru.sessions[i.val] = none ∧
    others i t ∧ t.mono = max s.mono (e.at_ + sec 10) ∧ t.mode = s.mode ∧ t.mem = s.mem)) ∧
  (s.tru.sessions[0] = some e → s.mode = .hold → s.eng.sq = [] → completes (.sessionLoss 0) s (fun t => t.tru.sessions[0] = none ∧
    stoppedWith 8 t)) ∧
  (s.tru.sessions[i.val] = some e → s.owes i = false → completes (.sessionNop i tag) s (fun t => changesOnly [.tru, .sent] s t ∧ heard i s t ∧
    answered i 1 tag .ok [] s t)) ∧
  (s.tru.sessions[i.val] = some e → s.owes i = false → len.toNat ≤ 16777248 → completes (.sessionMalformedMessage i opc tag len) s (fun t =>
    changesOnly [.tru, .sent] s t ∧ heard i s t ∧ answered i opc.toNat tag .badreq [] s t)) ∧
  (16777248 < len.toNat → completes (.sessionMalformedMessage i opc tag len) s (fun t => changesOnly [.eng, .lnd, .tru] s t ∧ others i t ∧
    t.tru.sessions[i.val] = none))

/-- R344, R345, R401, R408, R432, R433, Table 17-10: requests on registers, Tally and forces, each with its right: a word of the data range
is read, a read out of place answers ACCESS, without the right RIGHT; a service session sets the UTC offset and writes no memory; TALLY-READ
answers from the history; COMMISSION acts once; forces are set on a declared tag, listed and released, each change recorded. That a write of
the offset also makes it valid is the model's choice (DEDUCED, log 17), so is RIGHT before any other answer (DEDUCED, log 54), and STATE for
what RECOVERY does not serve (DEDUCED, log 57). -/
def Obligations.SessionAccess : Prop := ∀ (s : State) (i : Fin 3) (e : Session) (tag a n w field : Word) (seq : BitVec 64) (d : TagDecl)
  (f : Force),
  let quiet := fun t : State => changesOnly [.tru, .sent] s t ∧ heard i s t
  let rest := s.eng.forces.filter (fun g => !(g.tag == d.tag && g.field.toNat == field.toNat))
  (openWith s i .read → (i.val = 0 ∨ i.val = 1) → a.toNat % 4 = 0 → inData a.toNat 4 = true → completes (.read i tag a 1) s (fun t =>
    quiet t ∧ answered i 2 tag .ok (s.bytes a.toNat 4) s t)) ∧
  (openWith s i .read → a.toNat % 4 ≠ 0 → 1 ≤ n.toNat → n.toNat ≤ 4096 → completes (.read i tag a n) s (fun t =>
    quiet t ∧ answered i 2 tag .access [] s t)) ∧
  (openWith s i .read → (n = 0 ∨ 4096 < n.toNat) → completes (.read i tag a n) s (fun t => quiet t ∧ answered i 2 tag .badreq [] s t)) ∧
  (s.tru.sessions[i.val] = some e → s.owes i = false → e.has .read = false → completes (.read i tag a n) s (fun t =>
    quiet t ∧ answered i 2 tag .right [] s t)) ∧
  (openWith s 0 .service → completes (.write 0 tag 0xF0001010 [w]) s (fun t => changesOnly [.tim, .tru, .sent] s t ∧
    t.tim = { s.tim with utcofs := { seconds := w.setWidth 16, valid := true } } ∧ heard 0 s t ∧ answered 0 3 tag .ok [] s t)) ∧
  (openWith s 0 .service → inData a.toNat 4 = true → completes (.write 0 tag a [w]) s (fun t => changesOnly [.tru, .sent] s t ∧
    answered 0 3 tag .access [] s t)) ∧
  (openWith s i .read → 65536 ≤ n.toNat → n.toNat ≤ 16777216 → completes (.tallyRead i tag seq n 0) s (fun t =>
    quiet t ∧ answered i 0x40 tag .ok (s.tally.read seq.toNat n.toNat false) s t)) ∧
  (openWith s 0 .service → s.tally.reg.stat.comm = false → tallyOpen s → s.tally.held = [] → s.tally.staging.getLast?.map Rec.type ≠ some 6 →
    completes (.commission 0 tag) s (fun t =>
    changesOnly [.tally, .tru, .sent] s t ∧ t.tally.reg.stat.comm = true ∧ t.tally.commSeq = some s.tally.seq ∧ newestIs 6 t ∧
    t.tally.seq = s.tally.seq + 1 ∧ answered 0 0x41 tag .ok [] s t)) ∧
  (openWith s 0 .service → s.tally.reg.stat.comm = true → completes (.commission 0 tag) s (fun t => changesOnly [.tru, .sent] s t ∧
    answered 0 0x41 tag .refused [] s t)) ∧
  (openWith s 0 .force → s.eng.tags = [d] → d.type = .ton → field = 1 → rest.length < 256 → s.fab.lastf.mram0 = false →
    completes (.forceSet 0 tag (BitVec.ofNat 32 d.tag.toNat) field w true true) s (fun t => changesOnly [.eng, .tally, .tru, .sent] s t ∧
      t.eng = { s.eng with forces := rest ++ [{ tag := d.tag, field := 1, type := .ton, value := w }] } ∧
      (tallyOpen s → newestIs 0x13 t) ∧ answered 0 0x30 tag .ok [] s t)) ∧
  (openWith s 0 .force → s.eng.tags = [] → field = 1 → completes (.forceSet 0 tag a field w true true) s (fun t =>
    changesOnly [.tru, .sent] s t ∧ answered 0 0x30 tag .refused [] s t)) ∧
  (openWith s 0 .force → s.eng.forces = [f] → completes (.forceRelease 0 tag (BitVec.ofNat 32 f.tag.toNat) (BitVec.ofNat 32 f.field.toNat)) s
    (fun t => changesOnly [.eng, .tally, .tru, .sent] s t ∧ t.eng = { s.eng with forces := [] } ∧ (tallyOpen s → newestIs 0x13 t) ∧
      answered 0 0x31 tag .ok [] s t)) ∧
  (openWith s 0 .read → s.eng.forces = [f] → completes (.forceList 0 tag) s (fun t => changesOnly [.tru, .sent] s t ∧
    answered 0 0x32 tag .ok ([1, 0, 0, 0] ++ leBytes 4 f.tag.toNat ++ leBytes 4 f.field.toNat ++ leBytes 4 f.value.toNat) s t))

/-- R278, R280, R434, Table 17-9: MODE, RESET, REREF and REQUEST: RUN is taken in STOP alone, a cold entry, and while a start still waits
for its entry to RUN it makes that entry a cold one; STOP stops with cause 2; HOLD waits for the end of an output phase; RESUME returns to
RUN; without the right mode a command answers STATE; RESET answers, and a SERVICE reset begins; a request answers with its status after it.
What RUN does while a start waits for its entry is the model's choice (DESIGN CHOICE, log 140). -/
def Obligations.SessionModes : Prop := ∀ (s : State) (tag u : Word) (x : AxisIx) (p : PortalIx) (c : ChanIx) (b : Bool),
  let state := fun i : Instr => completes i s (fun t => changesOnly [.tru, .sent] s t ∧ answered 0 0x20 tag .state [] s t)
  let said := fun (n : Nat) (t : State) => answered 0 0x23 tag .ok (leBytes 4 n) s t
  (openWith s 0 .service → s.mode = .stop → s.boot.starting = false → s.eng.sq = [] → completes (.modeRun 0 tag 0) s (fun t => t.mode = .run ∧
    t.eng.sys.mode.warm = false ∧ t.eng.banks = Vector.replicate 5 {} ∧ t.eng.phase = .wait ∧ t.eng.first = true ∧
    t.boot.starting = false ∧ t.mono = s.mono ∧ t.sent.length = s.sent.length + 1)) ∧
  (openWith s 0 .service → s.mode = .stop → s.boot.starting = true → completes (.modeRun 0 tag 0) s (fun t =>
    changesOnly [.eng, .tru, .boot, .sent] s t ∧ t.eng = { s.eng with holdReq := false } ∧ t.boot = { s.boot with cold := true } ∧
    answered 0 0x20 tag .ok (leBytes 4 (t.sysRead 4).toNat) s t)) ∧
  (openWith s 0 .service → s.mode ≠ .stop → state (.modeRun 0 tag 0) ∧ (s.eng.sq = [] → completes (.modeStop 0 tag 0) s (fun t =>
    stoppedWith 2 t ∧ t.mono = s.mono))) ∧
  (openWith s 0 .service → s.mode = .stop → state (.modeStop 0 tag 0)) ∧
  (openWith s 0 .debug → s.mode = .run → completes (.modeHold 0 tag 0) s (fun t => changesOnly [.eng, .tru, .sent] s t ∧
    t.eng = { s.eng with holdReq := true }) ∧ state (.modeResume 0 tag 0) ∧ state (.modeStep 0 tag 1)) ∧
  (openWith s 0 .debug → s.mode = .hold → completes (.modeResume 0 tag 0) s (fun t => changesOnly [.eng, .tru, .sent] s t ∧
    t.mode = .run ∧ t.eng.wdStart = s.mono ∧ t.eng.banks = s.eng.banks) ∧ state (.modeHold 0 tag 0)) ∧
  (openWith s 0 .debug → s.mode = .hold → s.eng.phase = .execute → s.eng.cur = 0 → s.eng.sq = [] → 4 ≤ s.eng.code.length → s.bank.pc = 0 →
    wordAt s.eng.code 0 = 0xE0000000 → s.online = true → completes (.modeStep 0 tag 1) s (fun t => t.mode = .hold ∧ t.bank.pc = 4 ∧ keptRegs s t ∧
      t.mono = s.mono + 1 ∧ t.eng.stepping = false ∧ t.mem = s.mem)) ∧
  (openWith s 0 .service → completes (.reset 0 tag) s (fun t => t.boot.held = some .service ∧ t.boot.up = false ∧
    (∀ i : Fin 3, t.tru.sessions[i.val] = none) ∧ (∀ k : ChanIx, (t.chan k).reg.stat.out = false) ∧
    (∀ a : AxisIx, (t.axis a).bridges = false) ∧ answered 0 0x21 tag .ok [] s t)) ∧
  (openWith s 0 .service → s.fitted x = true →
    ((s.axis x).st = .moving → (s.axis x).landed = false → s.refusal x .reref 0 true = none →
      (s.axis x).reg.cfg.sdo = false ∨ (s.axis x).hasFb = true →
      completes (.reref 0 tag (BitVec.ofNat 32 x.val)) s (fun t => changesOnly [.axes, .portals, .tru, .sent] s t ∧ (t.axis x).st = .halting ∧
        (t.axis x).haltRef = true ∧ answered 0 0x22 tag .ok (leBytes 4 (t.axis x).reg.refuse.toNat) s t)) ∧
    (∀ r, s.refusal x .reref 0 true = some r → completes (.reref 0 tag (BitVec.ofNat 32 x.val)) s (fun t =>
      changesOnly [.axes, .tru, .sent] s t ∧ (t.axis x).reg.refuse = r ∧ (t.axis x).st = (s.axis x).st ∧
      answered 0 0x22 tag .refused (leBytes 4 r.toNat) s t)) ∧
    ((s.axis x).reg.cal.status ≠ .deferred → (s.axis x).reg.cal.status ≠ .running → (s.axis x).calPend = false → s.calReady x = true →
      completes (.requestCalibration 0 tag (BitVec.ofNat 32 x.val)) s (fun t => changesOnly [.axes, .tru, .sent] s t ∧
        (t.axis x).reg.cal.status = .running ∧ said 2 t))) ∧
  (openWith s 0 .service → (s.portal p).fitted = true → (s.krf p).reg.stat.lrn = .idle → s.idleWindow = true →
    completes (.requestRelearn 0 tag (BitVec.ofNat 32 p.val)) s (fun t => changesOnly [.kerf, .tru, .sent] s t ∧
      (t.krf p).reg.stat.lrn = .running ∧ said 2 t)) ∧
  (openWith s 0 .service → (s.portal (chanPortal c)).fitted = true → (s.chan c).reg.stat.olt = .idle → s.oltReady c = true →
    completes (.requestOltest 0 tag (BitVec.ofNat 32 c.val) b) s (fun t => changesOnly [.portals, .ls, .tru, .sent] s t ∧
      (t.chan c).reg.stat.olt = (if b then .shtalb else .running) ∧ said (t.chan c).reg.stat.olt.code.toNat t)) ∧
  (openWith s 0 .service → s.tally.flush = none → completes (.requestFlush 0 tag 0) s (fun t => changesOnly [.tally, .tru, .sent] s t ∧
    t.tally.flush = some s.tally.seq ∧ t.tally.reg.stat.flushing = true ∧ said 1 t)) ∧
  (openWith s 0 .service → 1 ≤ u.toNat → completes (.requestFlush 0 tag u) s (fun t => changesOnly [.tru, .sent] s t ∧
    answered 0 0x23 tag .badreq [] s t))

/-- R333 to R335, R339, R340, R434, Table 13-5: landing: BEGIN empties LANDING, DATA appends in order, VERIFY waits for the end of the
verification, whose result it answers with a record where it is a reject; ACTIVATE asks for the switch, CANCEL empties, PREVIOUS copies; a
switch makes LANDING active and ACTIVE previous, and a Hinge load that fails leaves both. STATE REJECTED after a failed Hinge load (DEDUCED,
log 69) and VERIFY again in REJECTED or VERIFIED (DEDUCED, log 59) are the model's choices. -/
def Obligations.LandingAndSwitch : Prop := ∀ (s : State) (i : Fin 3) (tag n : Word) (b : List Byte) (echo : Bool),
  let l := s.lnd
  let st := fun t : State => t.lnd.reg.stat.state
  let only := fun t : State => changesOnly [.lnd, .tru, .sent] s t ∧ heard i s t ∧ t.lnd.active = l.active ∧ t.lnd.previous = l.previous
  (openWith s i .land → l.verifier = none →
    (n.toNat ≤ 67108864 → completes (.landBegin i tag n) s (fun t => only t ∧ st t = .receiving ∧ t.lnd.landing = [] ∧
      t.lnd.total = n.toNat ∧ t.lnd.owner = some i ∧ answered i 0x10 tag .ok [] s t)) ∧
    (67108864 < n.toNat → completes (.landBegin i tag n) s (fun t => only t ∧ t.lnd = l ∧ answered i 0x10 tag .badreq [] s t)) ∧
    (l.reg.stat.state = .receiving → l.owner = some i → b ≠ [] → b.length ≤ 1048576 → n.toNat = l.landing.length →
      l.landing.length + b.length ≤ l.total → completes (.landData i tag n b) s (fun t => only t ∧
        t.lnd = { l with landing := l.landing ++ b } ∧ answered i 0x11 tag .ok [] s t)) ∧
    (l.reg.stat.state ≠ .receiving → b ≠ [] → b.length ≤ 1048576 → completes (.landData i tag n b) s (fun t => only t ∧ t.lnd = l ∧
      answered i 0x11 tag .state [] s t)) ∧
    (l.reg.stat.state = .receiving ∨ l.reg.stat.state = .rejected ∨ l.reg.stat.state = .verified ∧ l.activate = false →
      l.landing.length = l.total → completes (.landVerify i tag) s (fun t => only t ∧
      st t = .verifying ∧ t.lnd.verifier = some (i, tag) ∧ t.lnd.landing = l.landing ∧ t.sent = s.sent)) ∧
    (l.landing.length ≠ l.total → completes (.landVerify i tag) s (fun t => only t ∧ t.lnd = l ∧ answered i 0x12 tag .state [] s t)) ∧
    (l.reg.stat.state = .verified → l.activate = false → completes (.landActivate i tag) s (fun t => only t ∧
      t.lnd = { l with activate := true, degHeld := s.safe.mode.degraded || s.safe.mode == .undecided } ∧ t.sent.length = s.sent.length + 1)) ∧
    (l.reg.stat.state ≠ .verified → completes (.landActivate i tag) s (fun t => only t ∧ t.lnd = l ∧
      answered i 0x13 tag .state [] s t)) ∧
    completes (.landCancel i tag) s (fun t => only t ∧ st t = .empty ∧ t.lnd.landing = [] ∧ t.lnd.activate = false ∧
      answered i 0x14 tag .ok [] s t) ∧
    completes (.landPrevious i tag) s (fun t => only t ∧ st t = .receiving ∧ t.lnd.landing = l.previous ∧
      t.lnd.total = l.previous.length ∧ answered i 0x15 tag .ok [] s t)) ∧
  (s.online = true → l.reg.stat.state = .verifying → l.activate = false → l.verifier = some (i, tag) →
    (s.verifyCode l.landing = 0 → completes .verificationComplete s (fun t => changesOnly [.lnd, .sent] s t ∧ st t = .verified ∧
      t.lnd.landing = l.landing ∧ t.lnd.verifier = none ∧ answered i 0x12 tag .ok (leBytes 4 t.lnd.reg.stat.toWord.toNat) s t)) ∧
    (l.landing = [] → completes .verificationComplete s (fun t => changesOnly [.tally, .lnd, .sent] s t ∧ st t = .rejected ∧
      t.lnd.reg.stat.reject = 1 ∧ (tallyOpen s → newestIs 0x12 t) ∧ answered i 0x12 tag .ok (leBytes 4 t.lnd.reg.stat.toWord.toNat) s t))) ∧
  ((l.activate = false ∨ s.switchPoint = false ∨ s.holdReasons ≠ 0) → completes (.imageSwitch echo) s (fun t => t = s)) ∧
  (s.online = true → l.activate = true → s.switchPoint = true → s.holdReasons = 0 →
    (s.hingeChange (s.trial l.landing) = false → completes (.imageSwitch echo) s (fun t => t.lnd.active = l.landing ∧
      t.lnd.previous = l.active ∧ t.lnd.landing = [] ∧ st t = .empty ∧ t.lnd.activate = false ∧ t.lnd.reg.swn = satInc l.reg.swn ∧
      t.eng.code = Container.sect l.landing 1 ∧ t.eng.entry = wordAt l.landing 0x10 ∧ t.eng.sys.mode.factory = false ∧
      t.eng.banks = Vector.replicate 5 {} ∧ t.eng.switched = true ∧
      t.mono = s.mono + us 400 + 16 * (tagsOf (Container.sect l.landing 3)).length)) ∧
    (s.hingeChange (s.trial l.landing) = true → completes (.imageSwitch false) s (fun t => changesOnly [.tally, .safe, .lnd] s t ∧
      st t = .rejected ∧ t.lnd.reg.stat.reject = 11 ∧ t.lnd.active = l.active ∧ t.lnd.landing = l.landing ∧ t.lnd.activate = false ∧
      t.safe.par = s.safe.par)))

/-- R414, R415, R418 to R420, R425, R426, R433, R434, Table 17-5: attestation reports of 400 bytes over the nonce and the instant of the
request, one at a time; firmware packages judged at their last byte; certificates and anchors kept for the next reset; rollback counters
that never fall, that of the image after a switch that is due at the same moment; a command for the journal. The bank erased with the first
chunk (DEDUCED, log 58), BADREQ or REFUSED of a certificate and an ADVANCE (DEDUCED, log 61), the signatures and the package format as
functions without a body (DESIGN CHOICE, log 5) and a switch due at the moment of an ADVANCE (DESIGN CHOICE, log 141) are the model's
choices. -/
def Obligations.TrustRequests : Prop := ∀ (s : State) (i : Fin 3) (tag n w : Word) (b : List Byte) (rep : List Byte) (at_ : Nat)
  (k target : Byte) (arg expms : Word),
  let t0 := s.tru
  let only := fun t : State => changesOnly [.tru, .sent] s t ∧ t.tru.anchors = t0.anchors ∧ t.tru.bank = t0.bank
  let no := fun (c : Instr) (op : Nat) (st : Status) => completes c s (fun t => changesOnly [.tru, .sent] s t ∧ heard 0 s t ∧
    answered 0 op tag st [] s t)
  let due := s.lnd.activate = true ∧ s.switchPoint = true ∧ s.holdReasons = 0
  (openWith s i .read → b.length = 32 → t0.attest = none → completes (.attest i tag b) s (fun t => only t ∧ t.sent = s.sent ∧
    ∃ r : List Byte, t.tru.attest = some (i, tag, r, s.mono) ∧ r.length = 400 ∧ r.take 4 = [0x50, 0x41, 0x54, 0x54] ∧
      bytesAt r 8 32 = b ∧ bytesAt r 0x38 8 = leBytes 8 s.mono)) ∧
  (openWith s 0 .read → b.length = 32 → t0.attest.isSome = true → no (.attest 0 tag b) 0x50 .busy) ∧
  (openWith s 0 .read → b.length ≠ 32 → no (.attest 0 tag b) 0x50 .badreq) ∧
  (t0.attest = some (i, tag, rep, at_) → completes .attestationReportReady s (fun t => changesOnly [.tru, .sent] s t ∧
    t.tru = { t0 with attest := none } ∧ answered i 0x50 tag .ok rep s t)) ∧
  (openWith s 0 .service → t0.fwBuf = [] → t0.fwTotal = none → b ≠ [] → b.length ≤ 1048576 →
    (n.toNat = b.length → completes (.fwWrite 0 tag 0 n b) s (fun t => only t ∧ t.tru.fwTotal = none ∧ t.tru.fwBuf = [] ∧
      t.tru.banks[t0.bank.val] = t0.banks[t0.bank.val] ∧
      (Config.fwSigOk b = false → t.tru.banks[t0.idle.val] = [] ∧ answered 0 0x60 tag .ok [1, 0, 0, 0] s t) ∧
      (Config.fwSigOk b = true → (Config.fwRollback b).toNat < t0.rbfw.toNat → t.tru.banks[t0.idle.val] = [] ∧
        answered 0 0x60 tag .ok [2, 0, 0, 0] s t) ∧
      (Config.fwSigOk b = true → t0.rbfw.toNat ≤ (Config.fwRollback b).toNat → Config.fwPart b = 0x6448 →
        t.tru.banks[t0.idle.val] = b ∧ answered 0 0x60 tag .ok [0, 0, 0, 0] s t))) ∧
    (b.length < n.toNat → n.toNat ≤ 33554432 → completes (.fwWrite 0 tag 0 n b) s (fun t => only t ∧ t.tru.fwBuf = b ∧
      t.tru.banks[t0.idle.val] = [] ∧ t.tru.banks[t0.bank.val] = t0.banks[t0.bank.val] ∧ answered 0 0x60 tag .ok [] s t))) ∧
  (openWith s 0 .service → certLayout b = false → no (.envWrite 0 tag b) 0x61 .badreq) ∧
  (openWith s 0 .service → certLayout b = true → certOk t0.anchors[2] t0.rbenv t0.serial b = false → no (.envWrite 0 tag b) 0x61 .refused) ∧
  (openWith s 0 .service → certLayout b = true → certOk t0.anchors[2] t0.rbenv t0.serial b = true → completes (.envWrite 0 tag b) s (fun t =>
    only t ∧ t.tru.env = Vector.replicate 2 b ∧ t.tru.envpend = true ∧ t.tru.envUsed = t0.envUsed ∧ answered 0 0x61 tag .ok [] s t)) ∧
  (openWith s 0 .anchor → b.length = 97 → b.head? = some 4 → ∀ m : Fin 4, completes (.anchorWrite 0 tag (BitVec.ofNat 32 (m.val + 1)) b) s
    (fun t => only t ∧ t.tru.stored[m.val] = some b ∧ t.tru.ancpend = true ∧ (∀ j : Fin 4, j ≠ m → t.tru.stored[j.val] = t0.stored[j.val]) ∧
      answered 0 0x62 tag .ok [] s t)) ∧
  (openWith s 0 .anchor → ∀ m : Fin 4, completes (.anchorWrite 0 tag (BitVec.ofNat 32 (m.val + 1)) (List.replicate 97 0)) s (fun t =>
    only t ∧ t.tru.stored[m.val] = none ∧ t.tru.ancpend = true)) ∧
  (openWith s 0 .anchor → (n = 0 ∨ 4 < n.toNat) → no (.anchorWrite 0 tag n b) 0x62 .badreq) ∧
  (openWith s 0 .service → completes (.advance 0 tag 1) s (fun t => only t ∧
    t.tru.rbfw.toNat = max t0.rbfw.toNat (Config.fwRollback t0.banks[t0.bank.val]).toNat ∧ t.tru.rbimg = t0.rbimg ∧ t.tru.rbenv = t0.rbenv ∧
    answered 0 0x63 tag .ok (leBytes 4 t.tru.rbfw.toNat) s t)) ∧
  (openWith s 0 .service → ¬ due → s.eng.sys.mode.factory = true → no (.advance 0 tag 2) 0x63 .refused) ∧
  (openWith s 0 .service → ¬ due → s.eng.sys.mode.factory = false → completes (.advance 0 tag 2) s (fun t => only t ∧
    t.tru.rbimg.toNat = max t0.rbimg.toNat (Container.rollback s.lnd.active).toNat ∧ t.tru.rbfw = t0.rbfw ∧ t.tru.rbenv = t0.rbenv ∧
    answered 0 0x63 tag .ok (leBytes 4 t.tru.rbimg.toNat) s t)) ∧
  (openWith s 0 .service → due → s.hingeChange (s.trial s.lnd.landing) = false → completes (.advance 0 tag 2) s (fun t =>
    t.lnd.active = s.lnd.landing ∧ t.lnd.previous = s.lnd.active ∧
    t.tru.rbimg.toNat = max t0.rbimg.toNat (Container.rollback s.lnd.landing).toNat ∧
    answered 0 0x63 tag .ok (leBytes 4 t.tru.rbimg.toNat) s t)) ∧
  (openWith s 0 .service → (n = 0 ∨ 3 < n.toNat) → no (.advance 0 tag n) 0x63 .badreq) ∧
  (openWith s 0 .service → reservedKind k = true → no (.command 0 tag n w k target 0 arg expms) 0x70 .badreq) ∧
  (openWith s 0 .service → reservedKind k = false → s.jnl.lastSeq n = some w → s.jnl.closed = false → s.closing = false →
    s.jnl.entries.length + s.jnl.writes.length < 1024 → completes (.command 0 tag n (w + 1) k target 0 arg expms) s (fun t =>
      changesOnly [.jnl, .tru, .sent] s t ∧ t.sent = s.sent ∧ t.jnl.entries = s.jnl.entries ∧ ∃ j : JWrite,
        t.jnl.writes = s.jnl.writes ++ [j] ∧ j.tacc = s.mono ∧ j.cmd.connid = n ∧ j.cmd.tseq = w + 1 ∧ j.cmd.kind = k ∧
        j.cmd.target = target ∧ j.cmd.arg = arg ∧ j.cmd.expms = expms))
end

