-- ==== Sys2Proof/Laws/Frame.lean ====
section
/-! SUPPORT. The frame of an operation: which parts of the state it can change. `State.mask` lets the kept parts stand and blanks the
rest; an operation changes only what `k` blanks where the masks of the states before and after are equal. -/

namespace Sys2Proof.Machine

/-- The state with the parts that `k` does not keep blanked; the queue is always kept. -/
def State.mask (k : Part → Bool) (s : State) : State :=
  { s with
    mono := if k .mono then s.mono else 0
    tim := if k .tim then s.tim else {}
    calBase := if k .cal then s.calBase else 0
    calAt := if k .cal then s.calAt else 0
    slew := if k .cal then s.slew else 0
    calPpb := if k .cal then s.calPpb else 0
    fab := if k .fab then s.fab else {}
    latch := if k .latch then s.latch else []
    mem := if k .mem then s.mem else []
    eng := if k .eng then s.eng else {}
    tally := if k .tally then s.tally else {}
    axes := if k .axes then s.axes else Vector.replicate 64 {}
    portals := if k .portals then s.portals else Vector.replicate 16 {}
    fel := if k .fel then s.fel else {}
    sde := if k .sde then s.sde else Vector.replicate 2 false
    ls := if k .ls then s.ls else Vector.replicate 48 {}
    lsg := if k .lsg then s.lsg else {}
    kerf := if k .kerf then s.kerf else Vector.replicate 16 {}
    fio := if k .fio then s.fio else {}
    safe := if k .safe then s.safe else {}
    jnl := if k .jnl then s.jnl else {}
    net := if k .net then s.net else {}
    lnd := if k .lnd then s.lnd else {}
    tru := if k .tru then s.tru else {}
    pwr := if k .pwr then s.pwr else {}
    boot := if k .boot then s.boot else {}
    sent := if k .sent then s.sent else []
    freeSeq := if k .freeSeq then s.freeSeq else 0 }

theorem changesOnly_of_mask (l : List Part) (s t : State) (h : t.mask (fun p => !l.contains p) = s.mask (fun p => !l.contains p)) :
    changesOnly l s t := by
  simp only [State.mask, State.mk.injEq] at h
  refine ⟨by simp [h], fun p hp => ?_⟩
  have hk : (!l.contains p) = true := by simpa using hp
  cases p <;> simp [Part.same] <;> simp_all

theorem State.mask_with_mono (k : Part → Bool) (s : State) (v) (h : k .mono = false) :
    State.mask k { s with mono := v } = s.mask k := by simp [State.mask, h]

theorem State.mask_with_tim (k : Part → Bool) (s : State) (v) (h : k .tim = false) :
    State.mask k { s with tim := v } = s.mask k := by simp [State.mask, h]

theorem State.mask_with_calBase (k : Part → Bool) (s : State) (v) (h : k .cal = false) :
    State.mask k { s with calBase := v } = s.mask k := by simp [State.mask, h]

theorem State.mask_with_calAt (k : Part → Bool) (s : State) (v) (h : k .cal = false) :
    State.mask k { s with calAt := v } = s.mask k := by simp [State.mask, h]

theorem State.mask_with_slew (k : Part → Bool) (s : State) (v) (h : k .cal = false) :
    State.mask k { s with slew := v } = s.mask k := by simp [State.mask, h]

theorem State.mask_with_calPpb (k : Part → Bool) (s : State) (v) (h : k .cal = false) :
    State.mask k { s with calPpb := v } = s.mask k := by simp [State.mask, h]

theorem State.mask_with_fab (k : Part → Bool) (s : State) (v) (h : k .fab = false) :
    State.mask k { s with fab := v } = s.mask k := by simp [State.mask, h]

theorem State.mask_with_latch (k : Part → Bool) (s : State) (v) (h : k .latch = false) :
    State.mask k { s with latch := v } = s.mask k := by simp [State.mask, h]

theorem State.mask_with_mem (k : Part → Bool) (s : State) (v) (h : k .mem = false) :
    State.mask k { s with mem := v } = s.mask k := by simp [State.mask, h]

theorem State.mask_with_eng (k : Part → Bool) (s : State) (v) (h : k .eng = false) :
    State.mask k { s with eng := v } = s.mask k := by simp [State.mask, h]

theorem State.mask_with_tally (k : Part → Bool) (s : State) (v) (h : k .tally = false) :
    State.mask k { s with tally := v } = s.mask k := by simp [State.mask, h]

theorem State.mask_with_axes (k : Part → Bool) (s : State) (v) (h : k .axes = false) :
    State.mask k { s with axes := v } = s.mask k := by simp [State.mask, h]

theorem State.mask_with_portals (k : Part → Bool) (s : State) (v) (h : k .portals = false) :
    State.mask k { s with portals := v } = s.mask k := by simp [State.mask, h]

theorem State.mask_with_fel (k : Part → Bool) (s : State) (v) (h : k .fel = false) :
    State.mask k { s with fel := v } = s.mask k := by simp [State.mask, h]

theorem State.mask_with_sde (k : Part → Bool) (s : State) (v) (h : k .sde = false) :
    State.mask k { s with sde := v } = s.mask k := by simp [State.mask, h]

theorem State.mask_with_ls (k : Part → Bool) (s : State) (v) (h : k .ls = false) :
    State.mask k { s with ls := v } = s.mask k := by simp [State.mask, h]

theorem State.mask_with_lsg (k : Part → Bool) (s : State) (v) (h : k .lsg = false) :
    State.mask k { s with lsg := v } = s.mask k := by simp [State.mask, h]

theorem State.mask_with_kerf (k : Part → Bool) (s : State) (v) (h : k .kerf = false) :
    State.mask k { s with kerf := v } = s.mask k := by simp [State.mask, h]

theorem State.mask_with_fio (k : Part → Bool) (s : State) (v) (h : k .fio = false) :
    State.mask k { s with fio := v } = s.mask k := by simp [State.mask, h]

theorem State.mask_with_safe (k : Part → Bool) (s : State) (v) (h : k .safe = false) :
    State.mask k { s with safe := v } = s.mask k := by simp [State.mask, h]

theorem State.mask_with_jnl (k : Part → Bool) (s : State) (v) (h : k .jnl = false) :
    State.mask k { s with jnl := v } = s.mask k := by simp [State.mask, h]

theorem State.mask_with_net (k : Part → Bool) (s : State) (v) (h : k .net = false) :
    State.mask k { s with net := v } = s.mask k := by simp [State.mask, h]

theorem State.mask_with_lnd (k : Part → Bool) (s : State) (v) (h : k .lnd = false) :
    State.mask k { s with lnd := v } = s.mask k := by simp [State.mask, h]

theorem State.mask_with_tru (k : Part → Bool) (s : State) (v) (h : k .tru = false) :
    State.mask k { s with tru := v } = s.mask k := by simp [State.mask, h]

theorem State.mask_with_pwr (k : Part → Bool) (s : State) (v) (h : k .pwr = false) :
    State.mask k { s with pwr := v } = s.mask k := by simp [State.mask, h]

theorem State.mask_with_boot (k : Part → Bool) (s : State) (v) (h : k .boot = false) :
    State.mask k { s with boot := v } = s.mask k := by simp [State.mask, h]

theorem State.mask_with_sent (k : Part → Bool) (s : State) (v) (h : k .sent = false) :
    State.mask k { s with sent := v } = s.mask k := by simp [State.mask, h]

theorem State.mask_with_freeSeq (k : Part → Bool) (s : State) (v) (h : k .freeSeq = false) :
    State.mask k { s with freeSeq := v } = s.mask k := by simp [State.mask, h]

theorem State.mask_ite (k : Part → Bool) (c : Prop) [Decidable c] (a b : State) :
    State.mask k (if c then a else b) = if c then a.mask k else b.mask k := by split <;> rfl

theorem State.mask_fst_ite {β : Type} (k : Part → Bool) (c : Prop) [Decidable c] (a b : State × β) :
    State.mask k (if c then a else b).1 = if c then a.1.mask k else b.1.mask k := by split <;> rfl

theorem stateOf_next (s t : State) : stateOf s (.next t) = t := rfl

theorem stateOf_ite (s : State) (c : Prop) [Decidable c] (a b : Out) :
    stateOf s (if c then a else b) = if c then stateOf s a else stateOf s b := by split <;> rfl

theorem State.mask_foldl {ι : Type} (k : Part → Bool) (f : State → ι → State) (h : ∀ s i, (f s i).mask k = s.mask k) :
    ∀ (is : List ι) (s : State), (is.foldl f s).mask k = s.mask k
  | [], _ => rfl
  | i :: is, s => by rw [List.foldl_cons, State.mask_foldl k f h is, h]

theorem State.mask_forAll {ι : Type} (k : Part → Bool) (s : State) (is : List ι) (f : State → ι → State)
    (h : ∀ s i, (f s i).mask k = s.mask k) : (s.forAll is f).mask k = s.mask k := State.mask_foldl k f h is s

end Sys2Proof.Machine
end

