-- ==== Sys2Proof/Laws/FrameOps.lean ====
section
/-! SUPPORT. What each operation of Machine/Ops.lean can change: it keeps every part of the state that it is not named to change. -/

set_option linter.unusedSimpArgs false

namespace Sys2Proof.Machine

theorem State.modAxis_mask (k : Part → Bool) (s : State) (i : AxisIx) (f : Axis → Axis) (h0 : k .axes = false) :
    (State.modAxis s i f).mask k = s.mask k := by
  unfold State.modAxis
  first
    | (simp (maxDischargeDepth := 9) only [↓State.mask_with_axes, ↓State.mask_ite, ite_self, implies_true, h0]; done)
    | ((try dsimp only); (repeat' split) <;> first | (simp (maxDischargeDepth := 9) only [↓State.mask_with_axes, ↓State.mask_ite, ite_self, implies_true, h0]; done) | (simp_all (maxDischargeDepth := 9) only [↓State.mask_with_axes, ↓State.mask_ite, ite_self, implies_true, h0]; done))
    | (simp only [State.mask, Bool.false_eq_true, ↓reduceIte, h0]; done)
    | (simp (maxDischargeDepth := 9) only [↓State.mask_with_axes, ↓State.mask_ite, ite_self, implies_true, h0]; simp only [State.mask, Bool.false_eq_true, ↓reduceIte, h0]; done)

theorem State.modPortal_mask (k : Part → Bool) (s : State) (p : PortalIx) (f : Portal → Portal) (h0 : k .portals = false) :
    (State.modPortal s p f).mask k = s.mask k := by
  unfold State.modPortal
  first
    | (simp (maxDischargeDepth := 9) only [↓State.mask_with_portals, ↓State.mask_ite, ite_self, implies_true, h0]; done)
    | ((try dsimp only); (repeat' split) <;> first | (simp (maxDischargeDepth := 9) only [↓State.mask_with_portals, ↓State.mask_ite, ite_self, implies_true, h0]; done) | (simp_all (maxDischargeDepth := 9) only [↓State.mask_with_portals, ↓State.mask_ite, ite_self, implies_true, h0]; done))
    | (simp only [State.mask, Bool.false_eq_true, ↓reduceIte, h0]; done)
    | (simp (maxDischargeDepth := 9) only [↓State.mask_with_portals, ↓State.mask_ite, ite_self, implies_true, h0]; simp only [State.mask, Bool.false_eq_true, ↓reduceIte, h0]; done)

theorem State.modEng_mask (k : Part → Bool) (s : State) (f : Engine → Engine) (h0 : k .eng = false) :
    (State.modEng s f).mask k = s.mask k := by
  unfold State.modEng
  first
    | (simp (maxDischargeDepth := 9) only [↓State.mask_with_eng, ↓State.mask_ite, ite_self, implies_true, h0]; done)
    | ((try dsimp only); (repeat' split) <;> first | (simp (maxDischargeDepth := 9) only [↓State.mask_with_eng, ↓State.mask_ite, ite_self, implies_true, h0]; done) | (simp_all (maxDischargeDepth := 9) only [↓State.mask_with_eng, ↓State.mask_ite, ite_self, implies_true, h0]; done))
    | (simp only [State.mask, Bool.false_eq_true, ↓reduceIte, h0]; done)
    | (simp (maxDischargeDepth := 9) only [↓State.mask_with_eng, ↓State.mask_ite, ite_self, implies_true, h0]; simp only [State.mask, Bool.false_eq_true, ↓reduceIte, h0]; done)

theorem State.modSys_mask (k : Part → Bool) (s : State) (f : Sys → Sys) (h0 : k .eng = false) :
    (State.modSys s f).mask k = s.mask k := by
  unfold State.modSys
  first
    | (simp (maxDischargeDepth := 9) only [↓State.modEng_mask, ↓State.mask_ite, ite_self, implies_true, h0]; done)
    | ((try dsimp only); (repeat' split) <;> first | (simp (maxDischargeDepth := 9) only [↓State.modEng_mask, ↓State.mask_ite, ite_self, implies_true, h0]; done) | (simp_all (maxDischargeDepth := 9) only [↓State.modEng_mask, ↓State.mask_ite, ite_self, implies_true, h0]; done))

theorem State.modTally_mask (k : Part → Bool) (s : State) (f : Tally → Tally) (h0 : k .tally = false) :
    (State.modTally s f).mask k = s.mask k := by
  unfold State.modTally
  first
    | (simp (maxDischargeDepth := 9) only [↓State.mask_with_tally, ↓State.mask_ite, ite_self, implies_true, h0]; done)
    | ((try dsimp only); (repeat' split) <;> first | (simp (maxDischargeDepth := 9) only [↓State.mask_with_tally, ↓State.mask_ite, ite_self, implies_true, h0]; done) | (simp_all (maxDischargeDepth := 9) only [↓State.mask_with_tally, ↓State.mask_ite, ite_self, implies_true, h0]; done))
    | (simp only [State.mask, Bool.false_eq_true, ↓reduceIte, h0]; done)
    | (simp (maxDischargeDepth := 9) only [↓State.mask_with_tally, ↓State.mask_ite, ite_self, implies_true, h0]; simp only [State.mask, Bool.false_eq_true, ↓reduceIte, h0]; done)

theorem State.modLs_mask (k : Part → Bool) (s : State) (c : ChanIx) (f : LoadCh → LoadCh) (h0 : k .ls = false) :
    (State.modLs s c f).mask k = s.mask k := by
  unfold State.modLs
  first
    | (simp (maxDischargeDepth := 9) only [↓State.mask_with_ls, ↓State.mask_ite, ite_self, implies_true, h0]; done)
    | ((try dsimp only); (repeat' split) <;> first | (simp (maxDischargeDepth := 9) only [↓State.mask_with_ls, ↓State.mask_ite, ite_self, implies_true, h0]; done) | (simp_all (maxDischargeDepth := 9) only [↓State.mask_with_ls, ↓State.mask_ite, ite_self, implies_true, h0]; done))
    | (simp only [State.mask, Bool.false_eq_true, ↓reduceIte, h0]; done)
    | (simp (maxDischargeDepth := 9) only [↓State.mask_with_ls, ↓State.mask_ite, ite_self, implies_true, h0]; simp only [State.mask, Bool.false_eq_true, ↓reduceIte, h0]; done)

theorem State.modKerf_mask (k : Part → Bool) (s : State) (p : PortalIx) (f : Kerf → Kerf) (h0 : k .kerf = false) :
    (State.modKerf s p f).mask k = s.mask k := by
  unfold State.modKerf
  first
    | (simp (maxDischargeDepth := 9) only [↓State.mask_with_kerf, ↓State.mask_ite, ite_self, implies_true, h0]; done)
    | ((try dsimp only); (repeat' split) <;> first | (simp (maxDischargeDepth := 9) only [↓State.mask_with_kerf, ↓State.mask_ite, ite_self, implies_true, h0]; done) | (simp_all (maxDischargeDepth := 9) only [↓State.mask_with_kerf, ↓State.mask_ite, ite_self, implies_true, h0]; done))
    | (simp only [State.mask, Bool.false_eq_true, ↓reduceIte, h0]; done)
    | (simp (maxDischargeDepth := 9) only [↓State.mask_with_kerf, ↓State.mask_ite, ite_self, implies_true, h0]; simp only [State.mask, Bool.false_eq_true, ↓reduceIte, h0]; done)

theorem State.used_mask (k : Part → Bool) (s : State) (h0 : k .freeSeq = false) :
    (State.used s).mask k = s.mask k := by
  unfold State.used
  first
    | (simp (maxDischargeDepth := 9) only [↓State.mask_with_freeSeq, ↓State.mask_ite, ite_self, implies_true, h0]; done)
    | ((try dsimp only); (repeat' split) <;> first | (simp (maxDischargeDepth := 9) only [↓State.mask_with_freeSeq, ↓State.mask_ite, ite_self, implies_true, h0]; done) | (simp_all (maxDischargeDepth := 9) only [↓State.mask_with_freeSeq, ↓State.mask_ite, ite_self, implies_true, h0]; done))
    | (simp only [State.mask, Bool.false_eq_true, ↓reduceIte, h0]; done)
    | (simp (maxDischargeDepth := 9) only [↓State.mask_with_freeSeq, ↓State.mask_ite, ite_self, implies_true, h0]; simp only [State.mask, Bool.false_eq_true, ↓reduceIte, h0]; done)

theorem State.usedN_mask (k : Part → Bool) (s : State) (n : Nat) (h0 : k .freeSeq = false) :
    (State.usedN s n).mask k = s.mask k := by
  unfold State.usedN
  first
    | (simp (maxDischargeDepth := 9) only [↓State.mask_with_freeSeq, ↓State.mask_ite, ite_self, implies_true, h0]; done)
    | ((try dsimp only); (repeat' split) <;> first | (simp (maxDischargeDepth := 9) only [↓State.mask_with_freeSeq, ↓State.mask_ite, ite_self, implies_true, h0]; done) | (simp_all (maxDischargeDepth := 9) only [↓State.mask_with_freeSeq, ↓State.mask_ite, ite_self, implies_true, h0]; done))
    | (simp only [State.mask, Bool.false_eq_true, ↓reduceIte, h0]; done)
    | (simp (maxDischargeDepth := 9) only [↓State.mask_with_freeSeq, ↓State.mask_ite, ite_self, implies_true, h0]; simp only [State.mask, Bool.false_eq_true, ↓reduceIte, h0]; done)

theorem State.setBytes_mask (k : Part → Bool) (s : State) (a : Nat) (bs : List Byte) (h0 : k .mem = false) :
    (State.setBytes s a bs).mask k = s.mask k := by
  unfold State.setBytes
  first
    | (simp (maxDischargeDepth := 9) only [↓State.mask_with_mem, ↓State.mask_ite, ite_self, implies_true, h0]; done)
    | ((try dsimp only); (repeat' split) <;> first | (simp (maxDischargeDepth := 9) only [↓State.mask_with_mem, ↓State.mask_ite, ite_self, implies_true, h0]; done) | (simp_all (maxDischargeDepth := 9) only [↓State.mask_with_mem, ↓State.mask_ite, ite_self, implies_true, h0]; done))
    | (simp only [State.mask, Bool.false_eq_true, ↓reduceIte, h0]; done)
    | (simp (maxDischargeDepth := 9) only [↓State.mask_with_mem, ↓State.mask_ite, ite_self, implies_true, h0]; simp only [State.mask, Bool.false_eq_true, ↓reduceIte, h0]; done)

theorem State.setWord_mask (k : Part → Bool) (s : State) (a : Nat) (w : Word) (h0 : k .mem = false) :
    (State.setWord s a w).mask k = s.mask k := by
  unfold State.setWord
  first
    | (simp (maxDischargeDepth := 9) only [↓State.setBytes_mask, ↓State.mask_ite, ite_self, implies_true, h0]; done)
    | ((try dsimp only); (repeat' split) <;> first | (simp (maxDischargeDepth := 9) only [↓State.setBytes_mask, ↓State.mask_ite, ite_self, implies_true, h0]; done) | (simp_all (maxDischargeDepth := 9) only [↓State.setBytes_mask, ↓State.mask_ite, ite_self, implies_true, h0]; done))

theorem State.scramble_mask (k : Part → Bool) (s : State) (a n : Nat) (h0 : k .mem = false) (h1 : k .freeSeq = false) :
    (State.scramble s a n).mask k = s.mask k := by
  unfold State.scramble
  first
    | (simp (maxDischargeDepth := 9) only [↓State.usedN_mask, ↓State.setBytes_mask, ↓State.mask_ite, ite_self, implies_true, h0, h1]; done)
    | ((try dsimp only); (repeat' split) <;> first | (simp (maxDischargeDepth := 9) only [↓State.usedN_mask, ↓State.setBytes_mask, ↓State.mask_ite, ite_self, implies_true, h0, h1]; done) | (simp_all (maxDischargeDepth := 9) only [↓State.usedN_mask, ↓State.setBytes_mask, ↓State.mask_ite, ite_self, implies_true, h0, h1]; done))

theorem State.upTo_mask (k : Part → Bool) (s : State) (t : Nat) (h0 : k .mono = false) :
    (State.upTo s t).mask k = s.mask k := by
  unfold State.upTo
  first
    | (simp (maxDischargeDepth := 9) only [↓State.mask_with_mono, ↓State.mask_ite, ite_self, implies_true, h0]; done)
    | ((try dsimp only); (repeat' split) <;> first | (simp (maxDischargeDepth := 9) only [↓State.mask_with_mono, ↓State.mask_ite, ite_self, implies_true, h0]; done) | (simp_all (maxDischargeDepth := 9) only [↓State.mask_with_mono, ↓State.mask_ite, ite_self, implies_true, h0]; done))
    | (simp only [State.mask, Bool.false_eq_true, ↓reduceIte, h0]; done)
    | (simp (maxDischargeDepth := 9) only [↓State.mask_with_mono, ↓State.mask_ite, ite_self, implies_true, h0]; simp only [State.mask, Bool.false_eq_true, ↓reduceIte, h0]; done)

theorem State.modPwr_mask (k : Part → Bool) (s : State) (f : Supply → Supply) (h0 : k .pwr = false) :
    (State.modPwr s f).mask k = s.mask k := by
  unfold State.modPwr
  first
    | (simp (maxDischargeDepth := 9) only [↓State.mask_with_pwr, ↓State.mask_ite, ite_self, implies_true, h0]; done)
    | ((try dsimp only); (repeat' split) <;> first | (simp (maxDischargeDepth := 9) only [↓State.mask_with_pwr, ↓State.mask_ite, ite_self, implies_true, h0]; done) | (simp_all (maxDischargeDepth := 9) only [↓State.mask_with_pwr, ↓State.mask_ite, ite_self, implies_true, h0]; done))
    | (simp only [State.mask, Bool.false_eq_true, ↓reduceIte, h0]; done)
    | (simp (maxDischargeDepth := 9) only [↓State.mask_with_pwr, ↓State.mask_ite, ite_self, implies_true, h0]; simp only [State.mask, Bool.false_eq_true, ↓reduceIte, h0]; done)

theorem State.modPwrReg_mask (k : Part → Bool) (s : State) (f : Pwr → Pwr) (h0 : k .pwr = false) :
    (State.modPwrReg s f).mask k = s.mask k := by
  unfold State.modPwrReg
  first
    | (simp (maxDischargeDepth := 9) only [↓State.modPwr_mask, ↓State.mask_ite, ite_self, implies_true, h0]; done)
    | ((try dsimp only); (repeat' split) <;> first | (simp (maxDischargeDepth := 9) only [↓State.modPwr_mask, ↓State.mask_ite, ite_self, implies_true, h0]; done) | (simp_all (maxDischargeDepth := 9) only [↓State.modPwr_mask, ↓State.mask_ite, ite_self, implies_true, h0]; done))

theorem State.modFel_mask (k : Part → Bool) (s : State) (f : Fel → Fel) (h0 : k .fel = false) :
    (State.modFel s f).mask k = s.mask k := by
  unfold State.modFel
  first
    | (simp (maxDischargeDepth := 9) only [↓State.mask_with_fel, ↓State.mask_ite, ite_self, implies_true, h0]; done)
    | ((try dsimp only); (repeat' split) <;> first | (simp (maxDischargeDepth := 9) only [↓State.mask_with_fel, ↓State.mask_ite, ite_self, implies_true, h0]; done) | (simp_all (maxDischargeDepth := 9) only [↓State.mask_with_fel, ↓State.mask_ite, ite_self, implies_true, h0]; done))
    | (simp only [State.mask, Bool.false_eq_true, ↓reduceIte, h0]; done)
    | (simp (maxDischargeDepth := 9) only [↓State.mask_with_fel, ↓State.mask_ite, ite_self, implies_true, h0]; simp only [State.mask, Bool.false_eq_true, ↓reduceIte, h0]; done)

theorem State.pass_mask (k : Part → Bool) (s : State) (n : Nat) (h0 : k .mono = false) :
    (State.pass s n).mask k = s.mask k := by
  unfold State.pass
  first
    | (simp (maxDischargeDepth := 9) only [↓State.mask_with_mono, ↓State.mask_ite, ite_self, implies_true, h0]; done)
    | ((try dsimp only); (repeat' split) <;> first | (simp (maxDischargeDepth := 9) only [↓State.mask_with_mono, ↓State.mask_ite, ite_self, implies_true, h0]; done) | (simp_all (maxDischargeDepth := 9) only [↓State.mask_with_mono, ↓State.mask_ite, ite_self, implies_true, h0]; done))
    | (simp only [State.mask, Bool.false_eq_true, ↓reduceIte, h0]; done)
    | (simp (maxDischargeDepth := 9) only [↓State.mask_with_mono, ↓State.mask_ite, ite_self, implies_true, h0]; simp only [State.mask, Bool.false_eq_true, ↓reduceIte, h0]; done)

theorem State.dropFrame_mask (k : Part → Bool) (s : State) (h0 : k .net = false) :
    (State.dropFrame s).mask k = s.mask k := by
  unfold State.dropFrame
  first
    | (simp (maxDischargeDepth := 9) only [↓State.mask_with_net, ↓State.mask_ite, ite_self, implies_true, h0]; done)
    | ((try dsimp only); (repeat' split) <;> first | (simp (maxDischargeDepth := 9) only [↓State.mask_with_net, ↓State.mask_ite, ite_self, implies_true, h0]; done) | (simp_all (maxDischargeDepth := 9) only [↓State.mask_with_net, ↓State.mask_ite, ite_self, implies_true, h0]; done))
    | (simp only [State.mask, Bool.false_eq_true, ↓reduceIte, h0]; done)
    | (simp (maxDischargeDepth := 9) only [↓State.mask_with_net, ↓State.mask_ite, ite_self, implies_true, h0]; simp only [State.mask, Bool.false_eq_true, ↓reduceIte, h0]; done)

theorem State.latchPut_mask (k : Part → Bool) (s : State) (req addr : Nat) (w : Word) (h0 : k .latch = false) :
    (State.latchPut s req addr w).mask k = s.mask k := by
  unfold State.latchPut
  first
    | (simp (maxDischargeDepth := 9) only [↓State.mask_with_latch, ↓State.mask_ite, ite_self, implies_true, h0]; done)
    | ((try dsimp only); (repeat' split) <;> first | (simp (maxDischargeDepth := 9) only [↓State.mask_with_latch, ↓State.mask_ite, ite_self, implies_true, h0]; done) | (simp_all (maxDischargeDepth := 9) only [↓State.mask_with_latch, ↓State.mask_ite, ite_self, implies_true, h0]; done))
    | (simp only [State.mask, Bool.false_eq_true, ↓reduceIte, h0]; done)
    | (simp (maxDischargeDepth := 9) only [↓State.mask_with_latch, ↓State.mask_ite, ite_self, implies_true, h0]; simp only [State.mask, Bool.false_eq_true, ↓reduceIte, h0]; done)

theorem State.record_mask (k : Part → Bool) (s : State) (type : BitVec 16) (payload : List Byte) (snap : Option (List Byte) := none) (h0 : k .tally = false) :
    (State.record s type payload snap).mask k = s.mask k := by
  unfold State.record
  first
    | (simp (maxDischargeDepth := 9) only [↓State.mask_with_tally, ↓State.mask_ite, ite_self, implies_true, h0]; done)
    | ((try dsimp only); (repeat' split) <;> first | (simp (maxDischargeDepth := 9) only [↓State.mask_with_tally, ↓State.mask_ite, ite_self, implies_true, h0]; done) | (simp_all (maxDischargeDepth := 9) only [↓State.mask_with_tally, ↓State.mask_ite, ite_self, implies_true, h0]; done))
    | (simp only [State.mask, Bool.false_eq_true, ↓reduceIte, h0]; done)
    | (simp (maxDischargeDepth := 9) only [↓State.mask_with_tally, ↓State.mask_ite, ite_self, implies_true, h0]; simp only [State.mask, Bool.false_eq_true, ↓reduceIte, h0]; done)

theorem State.event_mask (k : Part → Bool) (s : State) (type : BitVec 16) (unit code : Nat) (arg0 : Nat := 0) (snap : Option (List Byte) := none) (h0 : k .tally = false) :
    (State.event s type unit code arg0 snap).mask k = s.mask k := by
  unfold State.event
  first
    | (simp (maxDischargeDepth := 9) only [↓State.record_mask, ↓State.mask_ite, ite_self, implies_true, h0]; done)
    | ((try dsimp only); (repeat' split) <;> first | (simp (maxDischargeDepth := 9) only [↓State.record_mask, ↓State.mask_ite, ite_self, implies_true, h0]; done) | (simp_all (maxDischargeDepth := 9) only [↓State.record_mask, ↓State.mask_ite, ite_self, implies_true, h0]; done))

theorem State.flush_mask (k : Part → Bool) (s : State) (h0 : k .tally = false) :
    (State.flush s).mask k = s.mask k := by
  unfold State.flush
  first
    | (simp (maxDischargeDepth := 9) only [↓State.modTally_mask, ↓State.mask_ite, ite_self, implies_true, h0]; done)
    | ((try dsimp only); (repeat' split) <;> first | (simp (maxDischargeDepth := 9) only [↓State.modTally_mask, ↓State.mask_ite, ite_self, implies_true, h0]; done) | (simp_all (maxDischargeDepth := 9) only [↓State.modTally_mask, ↓State.mask_ite, ite_self, implies_true, h0]; done))

theorem State.fabFault_mask (k : Part → Bool) (s : State) (f : FabFault) (src : FabSource) (addr : Word) (h0 : k .fab = false) (h1 : k .tally = false) :
    (State.fabFault s f src addr).mask k = s.mask k := by
  unfold State.fabFault
  first
    | (simp (maxDischargeDepth := 9) only [↓State.flush_mask, ↓State.mask_with_fab, ↓State.mask_with_tally, ↓State.mask_ite, ite_self, implies_true, h0, h1]; done)
    | ((try dsimp only); (repeat' split) <;> first | (simp (maxDischargeDepth := 9) only [↓State.flush_mask, ↓State.mask_with_fab, ↓State.mask_with_tally, ↓State.mask_ite, ite_self, implies_true, h0, h1]; done) | (simp_all (maxDischargeDepth := 9) only [↓State.flush_mask, ↓State.mask_with_fab, ↓State.mask_with_tally, ↓State.mask_ite, ite_self, implies_true, h0, h1]; done))
    | (simp only [State.mask, Bool.false_eq_true, ↓reduceIte, h0, h1]; done)
    | (simp (maxDischargeDepth := 9) only [↓State.flush_mask, ↓State.mask_with_fab, ↓State.mask_with_tally, ↓State.mask_ite, ite_self, implies_true, h0, h1]; simp only [State.mask, Bool.false_eq_true, ↓reduceIte, h0, h1]; done)

theorem State.fabViolation_mask (k : Part → Bool) (s : State) (src : FabSource) (addr : Word) (h0 : k .fab = false) :
    (State.fabViolation s src addr).mask k = s.mask k := by
  unfold State.fabViolation
  first
    | (simp (maxDischargeDepth := 9) only [↓State.mask_with_fab, ↓State.mask_ite, ite_self, implies_true, h0]; done)
    | ((try dsimp only); (repeat' split) <;> first | (simp (maxDischargeDepth := 9) only [↓State.mask_with_fab, ↓State.mask_ite, ite_self, implies_true, h0]; done) | (simp_all (maxDischargeDepth := 9) only [↓State.mask_with_fab, ↓State.mask_ite, ite_self, implies_true, h0]; done))
    | (simp only [State.mask, Bool.false_eq_true, ↓reduceIte, h0]; done)
    | (simp (maxDischargeDepth := 9) only [↓State.mask_with_fab, ↓State.mask_ite, ite_self, implies_true, h0]; simp only [State.mask, Bool.false_eq_true, ↓reduceIte, h0]; done)

theorem State.violation_mask (k : Part → Bool) (s : State) (addr : Word) (h0 : k .eng = false) :
    (State.violation s addr).mask k = s.mask k := by
  unfold State.violation
  first
    | (simp (maxDischargeDepth := 9) only [↓State.modSys_mask, ↓State.mask_ite, ite_self, implies_true, h0]; done)
    | ((try dsimp only); (repeat' split) <;> first | (simp (maxDischargeDepth := 9) only [↓State.modSys_mask, ↓State.mask_ite, ite_self, implies_true, h0]; done) | (simp_all (maxDischargeDepth := 9) only [↓State.modSys_mask, ↓State.mask_ite, ite_self, implies_true, h0]; done))

theorem State.callout_mask (k : Part → Bool) (s : State) (num : BitVec 16) (arg : Word) (gap : Bool := false) (mbox : Bool := false) (h0 : k .eng = false) :
    (State.callout s num arg gap mbox).mask k = s.mask k := by
  unfold State.callout
  first
    | (simp (maxDischargeDepth := 9) only [↓State.modEng_mask, ↓State.mask_ite, ite_self, implies_true, h0]; done)
    | ((try dsimp only); (repeat' split) <;> first | (simp (maxDischargeDepth := 9) only [↓State.modEng_mask, ↓State.mask_ite, ite_self, implies_true, h0]; done) | (simp_all (maxDischargeDepth := 9) only [↓State.modEng_mask, ↓State.mask_ite, ite_self, implies_true, h0]; done))

theorem State.send_mask (k : Part → Bool) (s : State) (o : Output) (h0 : k .sent = false) :
    (State.send s o).mask k = s.mask k := by
  unfold State.send
  first
    | (simp (maxDischargeDepth := 9) only [↓State.mask_with_sent, ↓State.mask_ite, ite_self, implies_true, h0]; done)
    | ((try dsimp only); (repeat' split) <;> first | (simp (maxDischargeDepth := 9) only [↓State.mask_with_sent, ↓State.mask_ite, ite_self, implies_true, h0]; done) | (simp_all (maxDischargeDepth := 9) only [↓State.mask_with_sent, ↓State.mask_ite, ite_self, implies_true, h0]; done))
    | (simp only [State.mask, Bool.false_eq_true, ↓reduceIte, h0]; done)
    | (simp (maxDischargeDepth := 9) only [↓State.mask_with_sent, ↓State.mask_ite, ite_self, implies_true, h0]; simp only [State.mask, Bool.false_eq_true, ↓reduceIte, h0]; done)

end Sys2Proof.Machine
end

