-- ==== Sys2Proof/Laws/FrameJournalOps.lean ====
section
/-! SUPPORT. What each operation of Machine/JournalOps.lean can change: it keeps every part of the state that it is not named to change. -/

set_option linter.unusedSimpArgs false

namespace Sys2Proof.Machine

theorem State.mramWrite_mask (k : Part → Bool) (s : State) (ok0 ok1 : Bool) (src : FabSource) (h0 : k .fab = false) (h1 : k .tally = false) (h2 : k .freeSeq = false) :
    (State.mramWrite s ok0 ok1 src).1.mask k = s.mask k := by
  unfold State.mramWrite
  first
    | (simp (maxDischargeDepth := 9) only [↓State.used_mask, ↓State.event_mask, ↓State.mask_with_fab, ↓State.mask_with_tally, ↓State.mask_with_freeSeq, ↓State.mask_ite, ite_self, implies_true, ↓State.mask_fst_ite, h0, h1, h2]; done)
    | ((try dsimp only); (repeat' split) <;> first | (simp (maxDischargeDepth := 9) only [↓State.used_mask, ↓State.event_mask, ↓State.mask_with_fab, ↓State.mask_with_tally, ↓State.mask_with_freeSeq, ↓State.mask_ite, ite_self, implies_true, ↓State.mask_fst_ite, h0, h1, h2]; done) | (simp_all (maxDischargeDepth := 9) only [↓State.used_mask, ↓State.event_mask, ↓State.mask_with_fab, ↓State.mask_with_tally, ↓State.mask_with_freeSeq, ↓State.mask_ite, ite_self, implies_true, ↓State.mask_fst_ite, h0, h1, h2]; done))
    | (simp only [State.mask, Bool.false_eq_true, ↓reduceIte, h0, h1, h2]; done)
    | (simp (maxDischargeDepth := 9) only [↓State.used_mask, ↓State.event_mask, ↓State.mask_with_fab, ↓State.mask_with_tally, ↓State.mask_with_freeSeq, ↓State.mask_ite, ite_self, implies_true, ↓State.mask_fst_ite, h0, h1, h2]; simp only [State.mask, Bool.false_eq_true, ↓reduceIte, h0, h1, h2]; done)

theorem State.sendTelegram_mask (k : Part → Bool) (s : State) (sg : Bool) (conn seq : Word) (type : Nat) (sdata : List Byte) (codeh : Option Word := none) (h0 : k .sent = false) :
    (State.sendTelegram s sg conn seq type sdata codeh).mask k = s.mask k := by
  unfold State.sendTelegram
  first
    | (simp (maxDischargeDepth := 9) only [↓State.send_mask, ↓State.mask_ite, ite_self, implies_true, h0]; done)
    | ((try dsimp only); (repeat' split) <;> first | (simp (maxDischargeDepth := 9) only [↓State.send_mask, ↓State.mask_ite, ite_self, implies_true, h0]; done) | (simp_all (maxDischargeDepth := 9) only [↓State.send_mask, ↓State.mask_ite, ite_self, implies_true, h0]; done))

theorem State.reply_mask (k : Part → Bool) (s : State) (sg : Bool) (c : JCmd) (type : Nat) (sdata : List Byte) (h0 : k .sent = false) :
    (State.reply s sg c type sdata).mask k = s.mask k := by
  unfold State.reply
  first
    | (simp (maxDischargeDepth := 9) only [↓State.sendTelegram_mask, ↓State.mask_ite, ite_self, implies_true, h0]; done)
    | ((try dsimp only); (repeat' split) <;> first | (simp (maxDischargeDepth := 9) only [↓State.sendTelegram_mask, ↓State.mask_ite, ite_self, implies_true, h0]; done) | (simp_all (maxDischargeDepth := 9) only [↓State.sendTelegram_mask, ↓State.mask_ite, ite_self, implies_true, h0]; done))

theorem State.modJnl_mask (k : Part → Bool) (s : State) (f : Journal → Journal) (h0 : k .jnl = false) :
    (State.modJnl s f).mask k = s.mask k := by
  unfold State.modJnl
  first
    | (simp (maxDischargeDepth := 9) only [↓State.mask_with_jnl, ↓State.mask_ite, ite_self, implies_true, h0]; done)
    | ((try dsimp only); (repeat' split) <;> first | (simp (maxDischargeDepth := 9) only [↓State.mask_with_jnl, ↓State.mask_ite, ite_self, implies_true, h0]; done) | (simp_all (maxDischargeDepth := 9) only [↓State.mask_with_jnl, ↓State.mask_ite, ite_self, implies_true, h0]; done))
    | (simp only [State.mask, Bool.false_eq_true, ↓reduceIte, h0]; done)
    | (simp (maxDischargeDepth := 9) only [↓State.mask_with_jnl, ↓State.mask_ite, ite_self, implies_true, h0]; simp only [State.mask, Bool.false_eq_true, ↓reduceIte, h0]; done)

theorem State.modCmj_mask (k : Part → Bool) (s : State) (f : Cmj → Cmj) (h0 : k .jnl = false) :
    (State.modCmj s f).mask k = s.mask k := by
  unfold State.modCmj
  first
    | (simp (maxDischargeDepth := 9) only [↓State.modJnl_mask, ↓State.mask_ite, ite_self, implies_true, h0]; done)
    | ((try dsimp only); (repeat' split) <;> first | (simp (maxDischargeDepth := 9) only [↓State.modJnl_mask, ↓State.mask_ite, ite_self, implies_true, h0]; done) | (simp_all (maxDischargeDepth := 9) only [↓State.modJnl_mask, ↓State.mask_ite, ite_self, implies_true, h0]; done))

theorem State.cmdResponse_mask (k : Part → Bool) (s : State) (num : Nat) (tag : Word) (status : Nat) (payload : List Byte) (h0 : k .sent = false) :
    (State.cmdResponse s num tag status payload).mask k = s.mask k := by
  unfold State.cmdResponse
  first
    | (simp (maxDischargeDepth := 9) only [↓State.send_mask, ↓State.mask_ite, ite_self, implies_true, h0]; done)
    | ((try dsimp only); (repeat' split) <;> first | (simp (maxDischargeDepth := 9) only [↓State.send_mask, ↓State.mask_ite, ite_self, implies_true, h0]; done) | (simp_all (maxDischargeDepth := 9) only [↓State.send_mask, ↓State.mask_ite, ite_self, implies_true, h0]; done))

theorem State.ack_mask (k : Part → Bool) (s : State) (c : JCmd) (src : CmdSource) (jseq : Nat) (h0 : k .sent = false) :
    (State.ack s c src jseq).mask k = s.mask k := by
  unfold State.ack
  first
    | (simp (maxDischargeDepth := 9) only [↓State.reply_mask, ↓State.cmdResponse_mask, ↓State.mask_ite, ite_self, implies_true, h0]; done)
    | ((try dsimp only); (repeat' split) <;> first | (simp (maxDischargeDepth := 9) only [↓State.reply_mask, ↓State.cmdResponse_mask, ↓State.mask_ite, ite_self, implies_true, h0]; done) | (simp_all (maxDischargeDepth := 9) only [↓State.reply_mask, ↓State.cmdResponse_mask, ↓State.mask_ite, ite_self, implies_true, h0]; done))

theorem State.nak_mask (k : Part → Bool) (s : State) (c : JCmd) (code : Nat) (h0 : k .jnl = false) (h1 : k .sent = false) :
    (State.nak s c code).mask k = s.mask k := by
  unfold State.nak
  first
    | (simp (maxDischargeDepth := 9) only [↓State.reply_mask, ↓State.modCmj_mask, ↓State.cmdResponse_mask, ↓State.mask_ite, ite_self, implies_true, h0, h1]; done)
    | ((try dsimp only); (repeat' split) <;> first | (simp (maxDischargeDepth := 9) only [↓State.reply_mask, ↓State.modCmj_mask, ↓State.cmdResponse_mask, ↓State.mask_ite, ite_self, implies_true, h0, h1]; done) | (simp_all (maxDischargeDepth := 9) only [↓State.reply_mask, ↓State.modCmj_mask, ↓State.cmdResponse_mask, ↓State.mask_ite, ite_self, implies_true, h0, h1]; done))

theorem State.duplicate_mask (k : Part → Bool) (s : State) (c : JCmd) (h0 : k .jnl = false) (h1 : k .sent = false) (h2 : k .freeSeq = false) :
    (State.duplicate s c).mask k = s.mask k := by
  unfold State.duplicate
  first
    | (simp (maxDischargeDepth := 9) only [↓State.used_mask, ↓State.modJnl_mask, ↓State.modCmj_mask, ↓State.ack_mask, ↓State.mask_ite, ite_self, implies_true, h0, h1, h2]; done)
    | ((try dsimp only); (repeat' split) <;> first | (simp (maxDischargeDepth := 9) only [↓State.used_mask, ↓State.modJnl_mask, ↓State.modCmj_mask, ↓State.ack_mask, ↓State.mask_ite, ite_self, implies_true, h0, h1, h2]; done) | (simp_all (maxDischargeDepth := 9) only [↓State.used_mask, ↓State.modJnl_mask, ↓State.modCmj_mask, ↓State.ack_mask, ↓State.mask_ite, ite_self, implies_true, h0, h1, h2]; done))

theorem State.judgeCommand_mask (k : Part → Bool) (s : State) (c : JCmd) (h0 : k .jnl = false) (h1 : k .sent = false) (h2 : k .freeSeq = false) :
    (State.judgeCommand s c).mask k = s.mask k := by
  unfold State.judgeCommand
  first
    | (simp (maxDischargeDepth := 9) only [↓State.modJnl_mask, ↓State.nak_mask, ↓State.duplicate_mask, ↓State.mask_ite, ite_self, implies_true, h0, h1, h2]; done)
    | ((try dsimp only); (repeat' split) <;> first | (simp (maxDischargeDepth := 9) only [↓State.modJnl_mask, ↓State.nak_mask, ↓State.duplicate_mask, ↓State.mask_ite, ite_self, implies_true, h0, h1, h2]; done) | (simp_all (maxDischargeDepth := 9) only [↓State.modJnl_mask, ↓State.nak_mask, ↓State.duplicate_mask, ↓State.mask_ite, ite_self, implies_true, h0, h1, h2]; done))

theorem State.writeEnd_mask (k : Part → Bool) (s : State) (ok : Bool) (h0 : k .jnl = false) (h1 : k .sent = false) :
    (State.writeEnd s ok).mask k = s.mask k := by
  unfold State.writeEnd
  first
    | (simp (maxDischargeDepth := 9) only [↓State.modJnl_mask, ↓State.ack_mask, ↓State.nak_mask, ↓State.mask_ite, ite_self, implies_true, ↓State.mask_foldl, h0, h1]; done)
    | ((try dsimp only); (repeat' split) <;> first | (simp (maxDischargeDepth := 9) only [↓State.modJnl_mask, ↓State.ack_mask, ↓State.nak_mask, ↓State.mask_ite, ite_self, implies_true, ↓State.mask_foldl, h0, h1]; done) | (simp_all (maxDischargeDepth := 9) only [↓State.modJnl_mask, ↓State.ack_mask, ↓State.nak_mask, ↓State.mask_ite, ite_self, implies_true, ↓State.mask_foldl, h0, h1]; done))

theorem State.writeDone_mask (k : Part → Bool) (s : State) (ok0 ok1 : Bool) (h0 : k .fab = false) (h1 : k .tally = false) (h2 : k .jnl = false) (h3 : k .sent = false) (h4 : k .freeSeq = false) :
    (State.writeDone s ok0 ok1).mask k = s.mask k := by
  unfold State.writeDone
  first
    | (simp (maxDischargeDepth := 9) only [↓State.mramWrite_mask, ↓State.writeEnd_mask, ↓State.mask_ite, ite_self, implies_true, h0, h1, h2, h3, h4]; done)
    | ((try dsimp only); (repeat' split) <;> first | (simp (maxDischargeDepth := 9) only [↓State.mramWrite_mask, ↓State.writeEnd_mask, ↓State.mask_ite, ite_self, implies_true, h0, h1, h2, h3, h4]; done) | (simp_all (maxDischargeDepth := 9) only [↓State.mramWrite_mask, ↓State.writeEnd_mask, ↓State.mask_ite, ite_self, implies_true, h0, h1, h2, h3, h4]; done))

theorem State.modEntry_mask (k : Part → Bool) (s : State) (n : Nat) (f : Entry → Entry) (h0 : k .jnl = false) :
    (State.modEntry s n f).mask k = s.mask k := by
  unfold State.modEntry
  first
    | (simp (maxDischargeDepth := 9) only [↓State.modJnl_mask, ↓State.mask_ite, ite_self, implies_true, h0]; done)
    | ((try dsimp only); (repeat' split) <;> first | (simp (maxDischargeDepth := 9) only [↓State.modJnl_mask, ↓State.mask_ite, ite_self, implies_true, h0]; done) | (simp_all (maxDischargeDepth := 9) only [↓State.modJnl_mask, ↓State.mask_ite, ite_self, implies_true, h0]; done))

theorem State.report_mask (k : Part → Bool) (s : State) (e : Entry) (h0 : k .jnl = false) (h1 : k .sent = false) :
    (State.report s e).mask k = s.mask k := by
  unfold State.report
  first
    | (simp (maxDischargeDepth := 9) only [↓State.send_mask, ↓State.reply_mask, ↓State.modEntry_mask, ↓State.mask_ite, ite_self, implies_true, h0, h1]; done)
    | ((try dsimp only); (repeat' split) <;> first | (simp (maxDischargeDepth := 9) only [↓State.send_mask, ↓State.reply_mask, ↓State.modEntry_mask, ↓State.mask_ite, ite_self, implies_true, h0, h1]; done) | (simp_all (maxDischargeDepth := 9) only [↓State.send_mask, ↓State.reply_mask, ↓State.modEntry_mask, ↓State.mask_ite, ite_self, implies_true, h0, h1]; done))

theorem State.outcome_mask (k : Part → Bool) (s : State) (e : Entry) (done : Bool) (reason : Byte) (h0 : k .jnl = false) (h1 : k .sent = false) :
    (State.outcome s e done reason).mask k = s.mask k := by
  unfold State.outcome
  first
    | (simp (maxDischargeDepth := 9) only [↓State.modJnl_mask, ↓State.modEntry_mask, ↓State.report_mask, ↓State.mask_ite, ite_self, implies_true, h0, h1]; done)
    | ((try dsimp only); (repeat' split) <;> first | (simp (maxDischargeDepth := 9) only [↓State.modJnl_mask, ↓State.modEntry_mask, ↓State.report_mask, ↓State.mask_ite, ite_self, implies_true, h0, h1]; done) | (simp_all (maxDischargeDepth := 9) only [↓State.modJnl_mask, ↓State.modEntry_mask, ↓State.report_mask, ↓State.mask_ite, ite_self, implies_true, h0, h1]; done))

theorem State.deliver_mask (k : Part → Bool) (s : State) (e : Entry) (h0 : k .jnl = false) :
    (State.deliver s e).mask k = s.mask k := by
  unfold State.deliver
  first
    | (simp (maxDischargeDepth := 9) only [↓State.modJnl_mask, ↓State.modEntry_mask, ↓State.mask_ite, ite_self, implies_true, h0]; done)
    | ((try dsimp only); (repeat' split) <;> first | (simp (maxDischargeDepth := 9) only [↓State.modJnl_mask, ↓State.modEntry_mask, ↓State.mask_ite, ite_self, implies_true, h0]; done) | (simp_all (maxDischargeDepth := 9) only [↓State.modJnl_mask, ↓State.modEntry_mask, ↓State.mask_ite, ite_self, implies_true, h0]; done))

theorem State.takeFrom_mask (k : Part → Bool) (h0 : k .jnl = false) (h1 : k .sent = false) :
    ∀ (l : List Entry) (s : State), (State.takeFrom s l).mask k = s.mask k
  | [], _ => rfl
  | e :: es, s => by
    unfold State.takeFrom
    split
    · exact State.takeFrom_mask k h0 h1 es s
    · split
      · rw [State.takeFrom_mask k h0 h1 es, State.outcome_mask k _ _ _ _ h0 h1]
      · exact State.deliver_mask k _ _ h0

theorem State.take_mask (k : Part → Bool) (s : State) (h0 : k .jnl = false) (h1 : k .sent = false) :
    (State.take s).mask k = s.mask k := by
  unfold State.take
  first
    | (simp (maxDischargeDepth := 9) only [↓State.takeFrom_mask, ↓State.mask_ite, ite_self, implies_true, h0, h1]; done)
    | ((try dsimp only); (repeat' split) <;> first | (simp (maxDischargeDepth := 9) only [↓State.takeFrom_mask, ↓State.mask_ite, ite_self, implies_true, h0, h1]; done) | (simp_all (maxDischargeDepth := 9) only [↓State.takeFrom_mask, ↓State.mask_ite, ite_self, implies_true, h0, h1]; done))

theorem State.result_mask (k : Part → Bool) (s : State) (w : Word) (h0 : k .jnl = false) (h1 : k .sent = false) :
    (State.result s w).mask k = s.mask k := by
  unfold State.result
  first
    | (simp (maxDischargeDepth := 9) only [↓State.modCmj_mask, ↓State.outcome_mask, ↓State.mask_ite, ite_self, implies_true, h0, h1]; done)
    | ((try dsimp only); (repeat' split) <;> first | (simp (maxDischargeDepth := 9) only [↓State.modCmj_mask, ↓State.outcome_mask, ↓State.mask_ite, ite_self, implies_true, h0, h1]; done) | (simp_all (maxDischargeDepth := 9) only [↓State.modCmj_mask, ↓State.outcome_mask, ↓State.mask_ite, ite_self, implies_true, h0, h1]; done))

theorem State.redeliver_mask (k : Part → Bool) (s : State) (h0 : k .jnl = false) :
    (State.redeliver s).mask k = s.mask k := by
  unfold State.redeliver
  first
    | (simp (maxDischargeDepth := 9) only [↓State.modJnl_mask, ↓State.modEntry_mask, ↓State.mask_ite, ite_self, implies_true, h0]; done)
    | ((try dsimp only); (repeat' split) <;> first | (simp (maxDischargeDepth := 9) only [↓State.modJnl_mask, ↓State.modEntry_mask, ↓State.mask_ite, ite_self, implies_true, h0]; done) | (simp_all (maxDischargeDepth := 9) only [↓State.modJnl_mask, ↓State.modEntry_mask, ↓State.mask_ite, ite_self, implies_true, h0]; done))

theorem State.reportAll_mask (k : Part → Bool) (s : State) (h0 : k .jnl = false) (h1 : k .sent = false) :
    (State.reportAll s).mask k = s.mask k := by
  unfold State.reportAll
  first
    | (simp (maxDischargeDepth := 9) only [↓State.report_mask, ↓State.mask_ite, ite_self, implies_true, ↓State.mask_forAll, h0, h1]; done)
    | ((try dsimp only); (repeat' split) <;> first | (simp (maxDischargeDepth := 9) only [↓State.report_mask, ↓State.mask_ite, ite_self, implies_true, ↓State.mask_forAll, h0, h1]; done) | (simp_all (maxDischargeDepth := 9) only [↓State.report_mask, ↓State.mask_ite, ite_self, implies_true, ↓State.mask_forAll, h0, h1]; done))
    | ((try dsimp only); refine State.mask_forAll _ _ _ _ fun _ _ => ?_; (repeat' split) <;> simp (maxDischargeDepth := 9) only [↓State.report_mask, ↓State.mask_ite, ite_self, implies_true, ↓State.mask_forAll, h0, h1]; done)
    | ((try dsimp only); refine (State.mask_forAll _ _ _ _ fun _ _ => ?_).trans ?_ <;> (repeat' split) <;> simp (maxDischargeDepth := 9) only [↓State.report_mask, ↓State.mask_ite, ite_self, implies_true, ↓State.mask_forAll, h0, h1]; done)

theorem State.reportSession_mask (k : Part → Bool) (s : State) (h0 : k .jnl = false) (h1 : k .sent = false) :
    (State.reportSession s).mask k = s.mask k := by
  unfold State.reportSession
  first
    | (simp (maxDischargeDepth := 9) only [↓State.send_mask, ↓State.modEntry_mask, ↓State.mask_ite, ite_self, implies_true, ↓State.mask_forAll, h0, h1]; done)
    | ((try dsimp only); (repeat' split) <;> first | (simp (maxDischargeDepth := 9) only [↓State.send_mask, ↓State.modEntry_mask, ↓State.mask_ite, ite_self, implies_true, ↓State.mask_forAll, h0, h1]; done) | (simp_all (maxDischargeDepth := 9) only [↓State.send_mask, ↓State.modEntry_mask, ↓State.mask_ite, ite_self, implies_true, ↓State.mask_forAll, h0, h1]; done))
    | ((try dsimp only); refine State.mask_forAll _ _ _ _ fun _ _ => ?_; (repeat' split) <;> simp (maxDischargeDepth := 9) only [↓State.send_mask, ↓State.modEntry_mask, ↓State.mask_ite, ite_self, implies_true, ↓State.mask_forAll, h0, h1]; done)
    | ((try dsimp only); refine (State.mask_forAll _ _ _ _ fun _ _ => ?_).trans ?_ <;> (repeat' split) <;> simp (maxDischargeDepth := 9) only [↓State.send_mask, ↓State.modEntry_mask, ↓State.mask_ite, ite_self, implies_true, ↓State.mask_forAll, h0, h1]; done)

end Sys2Proof.Machine
end

