-- ==== Sys2Proof/Laws/FrameLoadOps.lean ====
section
/-! SUPPORT. What each operation of Machine/LoadOps.lean can change: it keeps every part of the state that it is not named to change. -/

set_option linter.unusedSimpArgs false

namespace Sys2Proof.Machine

theorem State.lsTimers_mask (k : Part → Bool) (s : State) (c : ChanIx) (on : Bool) (h0 : k .portals = false) :
    (State.lsTimers s c on).mask k = s.mask k := by
  unfold State.lsTimers
  first
    | (simp (maxDischargeDepth := 9) only [↓State.modPortal_mask, ↓State.mask_ite, ite_self, implies_true, h0]; done)
    | ((try dsimp only); (repeat' split) <;> first | (simp (maxDischargeDepth := 9) only [↓State.modPortal_mask, ↓State.mask_ite, ite_self, implies_true, h0]; done) | (simp_all (maxDischargeDepth := 9) only [↓State.modPortal_mask, ↓State.mask_ite, ite_self, implies_true, h0]; done))

theorem State.lsEval_mask (k : Part → Bool) (s : State) (c : ChanIx) (h0 : k .portals = false) (h1 : k .ls = false) :
    (State.lsEval s c).mask k = s.mask k := by
  unfold State.lsEval
  first
    | (simp (maxDischargeDepth := 9) only [↓State.modLs_mask, ↓State.lsTimers_mask, ↓State.mask_ite, ite_self, implies_true, h0, h1]; done)
    | ((try dsimp only); (repeat' split) <;> first | (simp (maxDischargeDepth := 9) only [↓State.modLs_mask, ↓State.lsTimers_mask, ↓State.mask_ite, ite_self, implies_true, h0, h1]; done) | (simp_all (maxDischargeDepth := 9) only [↓State.modLs_mask, ↓State.lsTimers_mask, ↓State.mask_ite, ite_self, implies_true, h0, h1]; done))

theorem State.lkAgain_mask (k : Part → Bool) (s : State) (c : ChanIx) (h0 : k .portals = false) :
    (State.lkAgain s c).mask k = s.mask k := by
  unfold State.lkAgain
  first
    | (simp (maxDischargeDepth := 9) only [↓State.modPortal_mask, ↓State.mask_ite, ite_self, implies_true, h0]; done)
    | ((try dsimp only); (repeat' split) <;> first | (simp (maxDischargeDepth := 9) only [↓State.modPortal_mask, ↓State.mask_ite, ite_self, implies_true, h0]; done) | (simp_all (maxDischargeDepth := 9) only [↓State.modPortal_mask, ↓State.mask_ite, ite_self, implies_true, h0]; done))

theorem State.lsSet_mask (k : Part → Bool) (s : State) (c : ChanIx) (on edge : Bool) (h0 : k .portals = false) (h1 : k .ls = false) :
    (State.lsSet s c on edge).mask k = s.mask k := by
  unfold State.lsSet
  first
    | (simp (maxDischargeDepth := 9) only [↓State.modLs_mask, ↓State.lsEval_mask, ↓State.lkAgain_mask, ↓State.mask_ite, ite_self, implies_true, h0, h1]; done)
    | ((try dsimp only); (repeat' split) <;> first | (simp (maxDischargeDepth := 9) only [↓State.modLs_mask, ↓State.lsEval_mask, ↓State.lkAgain_mask, ↓State.mask_ite, ite_self, implies_true, h0, h1]; done) | (simp_all (maxDischargeDepth := 9) only [↓State.modLs_mask, ↓State.lsEval_mask, ↓State.lkAgain_mask, ↓State.mask_ite, ite_self, implies_true, h0, h1]; done))

theorem State.lsCommand_mask (k : Part → Bool) (s : State) (c : ChanIx) (on : Bool) (h0 : k .portals = false) (h1 : k .ls = false) :
    (State.lsCommand s c on).mask k = s.mask k := by
  unfold State.lsCommand
  first
    | (simp (maxDischargeDepth := 9) only [↓State.lsSet_mask, ↓State.mask_ite, ite_self, implies_true, h0, h1]; done)
    | ((try dsimp only); (repeat' split) <;> first | (simp (maxDischargeDepth := 9) only [↓State.lsSet_mask, ↓State.mask_ite, ite_self, implies_true, h0, h1]; done) | (simp_all (maxDischargeDepth := 9) only [↓State.lsSet_mask, ↓State.mask_ite, ite_self, implies_true, h0, h1]; done))

theorem State.lsCommit_mask (k : Part → Bool) (s : State) (c : ChanIx) (h0 : k .portals = false) (h1 : k .ls = false) :
    (State.lsCommit s c).mask k = s.mask k := by
  unfold State.lsCommit
  first
    | (simp (maxDischargeDepth := 9) only [↓State.modLs_mask, ↓State.lsSet_mask, ↓State.mask_ite, ite_self, implies_true, h0, h1]; done)
    | ((try dsimp only); (repeat' split) <;> first | (simp (maxDischargeDepth := 9) only [↓State.modLs_mask, ↓State.lsSet_mask, ↓State.mask_ite, ite_self, implies_true, h0, h1]; done) | (simp_all (maxDischargeDepth := 9) only [↓State.modLs_mask, ↓State.lsSet_mask, ↓State.mask_ite, ite_self, implies_true, h0, h1]; done))

theorem State.lkDrop_mask (k : Part → Bool) (s : State) (p : PortalIx) (h0 : k .portals = false) (h1 : k .ls = false) :
    (State.lkDrop s p).mask k = s.mask k := by
  unfold State.lkDrop
  first
    | (simp (maxDischargeDepth := 9) only [↓State.modLs_mask, ↓State.lsEval_mask, ↓State.mask_ite, ite_self, implies_true, h0, h1]; done)
    | ((try dsimp only); (repeat' split) <;> first | (simp (maxDischargeDepth := 9) only [↓State.modLs_mask, ↓State.lsEval_mask, ↓State.mask_ite, ite_self, implies_true, h0, h1]; done) | (simp_all (maxDischargeDepth := 9) only [↓State.modLs_mask, ↓State.lsEval_mask, ↓State.mask_ite, ite_self, implies_true, h0, h1]; done))

theorem State.oltAbandon_mask (k : Part → Bool) (s : State) (h0 : k .portals = false) (h1 : k .ls = false) :
    (State.oltAbandon s).mask k = s.mask k := by
  unfold State.oltAbandon
  first
    | (simp (maxDischargeDepth := 9) only [↓State.modLs_mask, ↓State.lsEval_mask, ↓State.mask_ite, ite_self, implies_true, ↓State.mask_forAll, h0, h1]; done)
    | ((try dsimp only); (repeat' split) <;> first | (simp (maxDischargeDepth := 9) only [↓State.modLs_mask, ↓State.lsEval_mask, ↓State.mask_ite, ite_self, implies_true, ↓State.mask_forAll, h0, h1]; done) | (simp_all (maxDischargeDepth := 9) only [↓State.modLs_mask, ↓State.lsEval_mask, ↓State.mask_ite, ite_self, implies_true, ↓State.mask_forAll, h0, h1]; done))
    | ((try dsimp only); refine State.mask_forAll _ _ _ _ fun _ _ => ?_; (repeat' split) <;> simp (maxDischargeDepth := 9) only [↓State.modLs_mask, ↓State.lsEval_mask, ↓State.mask_ite, ite_self, implies_true, ↓State.mask_forAll, h0, h1]; done)
    | ((try dsimp only); refine (State.mask_forAll _ _ _ _ fun _ _ => ?_).trans ?_ <;> (repeat' split) <;> simp (maxDischargeDepth := 9) only [↓State.modLs_mask, ↓State.lsEval_mask, ↓State.mask_ite, ite_self, implies_true, ↓State.mask_forAll, h0, h1]; done)

end Sys2Proof.Machine
end

