-- ==== Sys2Proof/Laws/FrameKerfOps.lean ====
section
/-! SUPPORT. What each operation of Machine/KerfOps.lean can change: it keeps every part of the state that it is not named to change. -/

set_option linter.unusedSimpArgs false

namespace Sys2Proof.Machine

theorem State.kcondEval_mask (k : Part → Bool) (s : State) (p : PortalIx) (h0 : k .kerf = false) :
    (State.kcondEval s p).mask k = s.mask k := by
  unfold State.kcondEval
  first
    | (simp (maxDischargeDepth := 9) only [↓State.modKerf_mask, ↓State.mask_ite, ite_self, implies_true, h0]; done)
    | ((try dsimp only); (repeat' split) <;> first | (simp (maxDischargeDepth := 9) only [↓State.modKerf_mask, ↓State.mask_ite, ite_self, implies_true, h0]; done) | (simp_all (maxDischargeDepth := 9) only [↓State.modKerf_mask, ↓State.mask_ite, ite_self, implies_true, h0]; done))

theorem State.setWin_mask (k : Part → Bool) (s : State) (p : PortalIx) (w : KWin) (h0 : k .kerf = false) (h1 : k .sent = false) :
    (State.setWin s p w).mask k = s.mask k := by
  unfold State.setWin
  first
    | (simp (maxDischargeDepth := 9) only [↓State.modKerf_mask, ↓State.send_mask, ↓State.mask_ite, ite_self, implies_true, h0, h1]; done)
    | ((try dsimp only); (repeat' split) <;> first | (simp (maxDischargeDepth := 9) only [↓State.modKerf_mask, ↓State.send_mask, ↓State.mask_ite, ite_self, implies_true, h0, h1]; done) | (simp_all (maxDischargeDepth := 9) only [↓State.modKerf_mask, ↓State.send_mask, ↓State.mask_ite, ite_self, implies_true, h0, h1]; done))

theorem State.kerfClose_mask (k : Part → Bool) (s : State) (p : PortalIx) (h0 : k .tally = false) (h1 : k .kerf = false) (h2 : k .sent = false) :
    (State.kerfClose s p).mask k = s.mask k := by
  unfold State.kerfClose
  first
    | (simp (maxDischargeDepth := 9) only [↓State.modKerf_mask, ↓State.event_mask, ↓State.kcondEval_mask, ↓State.setWin_mask, ↓State.mask_ite, ite_self, implies_true, h0, h1, h2]; done)
    | ((try dsimp only); (repeat' split) <;> first | (simp (maxDischargeDepth := 9) only [↓State.modKerf_mask, ↓State.event_mask, ↓State.kcondEval_mask, ↓State.setWin_mask, ↓State.mask_ite, ite_self, implies_true, h0, h1, h2]; done) | (simp_all (maxDischargeDepth := 9) only [↓State.modKerf_mask, ↓State.event_mask, ↓State.kcondEval_mask, ↓State.setWin_mask, ↓State.mask_ite, ite_self, implies_true, h0, h1, h2]; done))

theorem State.kerfOpen_mask (k : Part → Bool) (s : State) (p : PortalIx) (gw : Int) (h0 : k .kerf = false) (h1 : k .sent = false) :
    (State.kerfOpen s p gw).mask k = s.mask k := by
  unfold State.kerfOpen
  first
    | (simp (maxDischargeDepth := 9) only [↓State.modKerf_mask, ↓State.setWin_mask, ↓State.mask_ite, ite_self, implies_true, h0, h1]; done)
    | ((try dsimp only); (repeat' split) <;> first | (simp (maxDischargeDepth := 9) only [↓State.modKerf_mask, ↓State.setWin_mask, ↓State.mask_ite, ite_self, implies_true, h0, h1]; done) | (simp_all (maxDischargeDepth := 9) only [↓State.modKerf_mask, ↓State.setWin_mask, ↓State.mask_ite, ite_self, implies_true, h0, h1]; done))

theorem State.kerfGap_mask (k : Part → Bool) (s : State) (p : PortalIx) (h0 : k .tally = false) (h1 : k .kerf = false) (h2 : k .sent = false) :
    (State.kerfGap s p).mask k = s.mask k := by
  unfold State.kerfGap
  first
    | (simp (maxDischargeDepth := 9) only [↓State.modKerf_mask, ↓State.kerfClose_mask, ↓State.mask_ite, ite_self, implies_true, h0, h1, h2]; done)
    | ((try dsimp only); (repeat' split) <;> first | (simp (maxDischargeDepth := 9) only [↓State.modKerf_mask, ↓State.kerfClose_mask, ↓State.mask_ite, ite_self, implies_true, h0, h1, h2]; done) | (simp_all (maxDischargeDepth := 9) only [↓State.modKerf_mask, ↓State.kerfClose_mask, ↓State.mask_ite, ite_self, implies_true, h0, h1, h2]; done))

theorem State.kerfCl_mask (k : Part → Bool) (s : State) (p : PortalIx) (cl : Bool) (h0 : k .tally = false) (h1 : k .kerf = false) (h2 : k .sent = false) :
    (State.kerfCl s p cl).mask k = s.mask k := by
  unfold State.kerfCl
  first
    | (simp (maxDischargeDepth := 9) only [↓State.kcondEval_mask, ↓State.setWin_mask, ↓State.kerfClose_mask, ↓State.mask_ite, ite_self, implies_true, h0, h1, h2]; done)
    | ((try dsimp only); (repeat' split) <;> first | (simp (maxDischargeDepth := 9) only [↓State.kcondEval_mask, ↓State.setWin_mask, ↓State.kerfClose_mask, ↓State.mask_ite, ite_self, implies_true, h0, h1, h2]; done) | (simp_all (maxDischargeDepth := 9) only [↓State.kcondEval_mask, ↓State.setWin_mask, ↓State.kerfClose_mask, ↓State.mask_ite, ite_self, implies_true, h0, h1, h2]; done))

theorem State.kerfBreak_mask (k : Part → Bool) (s : State) (p : PortalIx) (h0 : k .kerf = false) :
    (State.kerfBreak s p).mask k = s.mask k := by
  unfold State.kerfBreak
  first
    | (simp (maxDischargeDepth := 9) only [↓State.modKerf_mask, ↓State.kcondEval_mask, ↓State.mask_ite, ite_self, implies_true, h0]; done)
    | ((try dsimp only); (repeat' split) <;> first | (simp (maxDischargeDepth := 9) only [↓State.modKerf_mask, ↓State.kcondEval_mask, ↓State.mask_ite, ite_self, implies_true, h0]; done) | (simp_all (maxDischargeDepth := 9) only [↓State.modKerf_mask, ↓State.kcondEval_mask, ↓State.mask_ite, ite_self, implies_true, h0]; done))

theorem State.kerfGrid_mask (k : Part → Bool) (s : State) (p : PortalIx) (h0 : k .tally = false) (h1 : k .kerf = false) (h2 : k .sent = false) :
    (State.kerfGrid s p).mask k = s.mask k := by
  unfold State.kerfGrid
  first
    | (simp (maxDischargeDepth := 9) only [↓State.modKerf_mask, ↓State.kcondEval_mask, ↓State.kerfClose_mask, ↓State.kerfOpen_mask, ↓State.kerfBreak_mask, ↓State.mask_ite, ite_self, implies_true, h0, h1, h2]; done)
    | ((try dsimp only); (repeat' split) <;> first | (simp (maxDischargeDepth := 9) only [↓State.modKerf_mask, ↓State.kcondEval_mask, ↓State.kerfClose_mask, ↓State.kerfOpen_mask, ↓State.kerfBreak_mask, ↓State.mask_ite, ite_self, implies_true, h0, h1, h2]; done) | (simp_all (maxDischargeDepth := 9) only [↓State.modKerf_mask, ↓State.kcondEval_mask, ↓State.kerfClose_mask, ↓State.kerfOpen_mask, ↓State.kerfBreak_mask, ↓State.mask_ite, ite_self, implies_true, h0, h1, h2]; done))

theorem State.overrideRead_mask (k : Part → Bool) (s : State) (p : PortalIx) (h0 : k .kerf = false) :
    (State.overrideRead s p).mask k = s.mask k := by
  unfold State.overrideRead
  first
    | (simp (maxDischargeDepth := 9) only [↓State.modKerf_mask, ↓State.kcondEval_mask, ↓State.mask_ite, ite_self, implies_true, h0]; done)
    | ((try dsimp only); (repeat' split) <;> first | (simp (maxDischargeDepth := 9) only [↓State.modKerf_mask, ↓State.kcondEval_mask, ↓State.mask_ite, ite_self, implies_true, h0]; done) | (simp_all (maxDischargeDepth := 9) only [↓State.modKerf_mask, ↓State.kcondEval_mask, ↓State.mask_ite, ite_self, implies_true, h0]; done))

theorem State.kerfSync_mask (k : Part → Bool) (s : State) (p : PortalIx) (h0 : k .kerf = false) :
    (State.kerfSync s p).mask k = s.mask k := by
  unfold State.kerfSync
  first
    | (simp (maxDischargeDepth := 9) only [↓State.modKerf_mask, ↓State.overrideRead_mask, ↓State.mask_ite, ite_self, implies_true, h0]; done)
    | ((try dsimp only); (repeat' split) <;> first | (simp (maxDischargeDepth := 9) only [↓State.modKerf_mask, ↓State.overrideRead_mask, ↓State.mask_ite, ite_self, implies_true, h0]; done) | (simp_all (maxDischargeDepth := 9) only [↓State.modKerf_mask, ↓State.overrideRead_mask, ↓State.mask_ite, ite_self, implies_true, h0]; done))

theorem State.judgeFrame_mask (kp : Part → Bool) (s : State) (p : PortalIx) (f : Frame) (inOrder : Bool) (h0 : kp .kerf = false) :
    (State.judgeFrame s p f inOrder).1.mask kp = s.mask kp := by
  rw [← State.kerfSync_mask kp s p h0]
  unfold State.judgeFrame
  generalize s.kerfSync p = t
  extract_lets u k r
  generalize u.band p f.g = b
  obtain ⟨xl, xr⟩ := b
  generalize r.stat.model = mm
  generalize k.inForce = ff
  cases mm <;> cases ff <;> first | rfl | exact State.modKerf_mask kp u p _ h0

theorem State.modelCheck_mask (k : Part → Bool) (s : State) (p : PortalIx) (h0 : k .kerf = false) :
    (State.modelCheck s p).mask k = s.mask k := by
  unfold State.modelCheck
  first
    | (simp (maxDischargeDepth := 9) only [↓State.modKerf_mask, ↓State.mask_ite, ite_self, implies_true, h0]; done)
    | ((try dsimp only); (repeat' split) <;> first | (simp (maxDischargeDepth := 9) only [↓State.modKerf_mask, ↓State.mask_ite, ite_self, implies_true, h0]; done) | (simp_all (maxDischargeDepth := 9) only [↓State.modKerf_mask, ↓State.mask_ite, ite_self, implies_true, h0]; done))

theorem State.modelDrop_mask (k : Part → Bool) (s : State) (p : PortalIx) (h0 : k .kerf = false) :
    (State.modelDrop s p).mask k = s.mask k := by
  unfold State.modelDrop
  first
    | (simp (maxDischargeDepth := 9) only [↓State.modKerf_mask, ↓State.modelCheck_mask, ↓State.mask_ite, ite_self, implies_true, h0]; done)
    | ((try dsimp only); (repeat' split) <;> first | (simp (maxDischargeDepth := 9) only [↓State.modKerf_mask, ↓State.modelCheck_mask, ↓State.mask_ite, ite_self, implies_true, h0]; done) | (simp_all (maxDischargeDepth := 9) only [↓State.modKerf_mask, ↓State.modelCheck_mask, ↓State.mask_ite, ite_self, implies_true, h0]; done))

theorem State.learnAbandon_mask (k : Part → Bool) (s : State) (h0 : k .kerf = false) :
    (State.learnAbandon s).mask k = s.mask k := by
  unfold State.learnAbandon
  first
    | (simp (maxDischargeDepth := 9) only [↓State.modKerf_mask, ↓State.mask_ite, ite_self, implies_true, ↓State.mask_forAll, h0]; done)
    | ((try dsimp only); (repeat' split) <;> first | (simp (maxDischargeDepth := 9) only [↓State.modKerf_mask, ↓State.mask_ite, ite_self, implies_true, ↓State.mask_forAll, h0]; done) | (simp_all (maxDischargeDepth := 9) only [↓State.modKerf_mask, ↓State.mask_ite, ite_self, implies_true, ↓State.mask_forAll, h0]; done))
    | ((try dsimp only); refine State.mask_forAll _ _ _ _ fun _ _ => ?_; (repeat' split) <;> simp (maxDischargeDepth := 9) only [↓State.modKerf_mask, ↓State.mask_ite, ite_self, implies_true, ↓State.mask_forAll, h0]; done)
    | ((try dsimp only); refine (State.mask_forAll _ _ _ _ fun _ _ => ?_).trans ?_ <;> (repeat' split) <;> simp (maxDischargeDepth := 9) only [↓State.modKerf_mask, ↓State.mask_ite, ite_self, implies_true, ↓State.mask_forAll, h0]; done)

theorem State.overrideLine_mask (k : Part → Bool) (s : State) (p : PortalIx) (level : Bool) (h0 : k .tally = false) (h1 : k .kerf = false) :
    (State.overrideLine s p level).mask k = s.mask k := by
  unfold State.overrideLine
  first
    | (simp (maxDischargeDepth := 9) only [↓State.modKerf_mask, ↓State.event_mask, ↓State.kcondEval_mask, ↓State.mask_ite, ite_self, implies_true, h0, h1]; done)
    | ((try dsimp only); (repeat' split) <;> first | (simp (maxDischargeDepth := 9) only [↓State.modKerf_mask, ↓State.event_mask, ↓State.kcondEval_mask, ↓State.mask_ite, ite_self, implies_true, h0, h1]; done) | (simp_all (maxDischargeDepth := 9) only [↓State.modKerf_mask, ↓State.event_mask, ↓State.kcondEval_mask, ↓State.mask_ite, ite_self, implies_true, h0, h1]; done))

theorem State.overrideEdge_mask (k : Part → Bool) (s : State) (n : Nat) (level : Bool) (h0 : k .tally = false) (h1 : k .kerf = false) :
    (State.overrideEdge s n level).mask k = s.mask k := by
  unfold State.overrideEdge
  first
    | (simp (maxDischargeDepth := 9) only [↓State.overrideLine_mask, ↓State.mask_ite, ite_self, implies_true, ↓State.mask_forAll, h0, h1]; done)
    | ((try dsimp only); (repeat' split) <;> first | (simp (maxDischargeDepth := 9) only [↓State.overrideLine_mask, ↓State.mask_ite, ite_self, implies_true, ↓State.mask_forAll, h0, h1]; done) | (simp_all (maxDischargeDepth := 9) only [↓State.overrideLine_mask, ↓State.mask_ite, ite_self, implies_true, ↓State.mask_forAll, h0, h1]; done))
    | ((try dsimp only); refine State.mask_forAll _ _ _ _ fun _ _ => ?_; (repeat' split) <;> simp (maxDischargeDepth := 9) only [↓State.overrideLine_mask, ↓State.mask_ite, ite_self, implies_true, ↓State.mask_forAll, h0, h1]; done)
    | ((try dsimp only); refine (State.mask_forAll _ _ _ _ fun _ _ => ?_).trans ?_ <;> (repeat' split) <;> simp (maxDischargeDepth := 9) only [↓State.overrideLine_mask, ↓State.mask_ite, ite_self, implies_true, ↓State.mask_forAll, h0, h1]; done)

end Sys2Proof.Machine
end

