-- ==== Sys2Proof/Laws/FrameMotionOps.lean ====
section
/-! SUPPORT. What each operation of Machine/MotionOps.lean can change: it keeps every part of the state that it is not named to change. -/

set_option linter.unusedSimpArgs false

namespace Sys2Proof.Machine

theorem State.bridgeEval_mask (k : Part → Bool) (s : State) (a : AxisIx) (h0 : k .axes = false) :
    (State.bridgeEval s a).mask k = s.mask k := by
  unfold State.bridgeEval
  first
    | (simp (maxDischargeDepth := 9) only [↓State.modAxis_mask, ↓State.mask_ite, ite_self, implies_true, h0]; done)
    | ((try dsimp only); (repeat' split) <;> first | (simp (maxDischargeDepth := 9) only [↓State.modAxis_mask, ↓State.mask_ite, ite_self, implies_true, h0]; done) | (simp_all (maxDischargeDepth := 9) only [↓State.modAxis_mask, ↓State.mask_ite, ite_self, implies_true, h0]; done))

theorem State.bridgeEvalPortal_mask (k : Part → Bool) (s : State) (p : PortalIx) (h0 : k .axes = false) :
    (State.bridgeEvalPortal s p).mask k = s.mask k := by
  unfold State.bridgeEvalPortal
  first
    | (simp (maxDischargeDepth := 9) only [↓State.bridgeEval_mask, ↓State.mask_ite, ite_self, implies_true, ↓State.mask_forAll, h0]; done)
    | ((try dsimp only); (repeat' split) <;> first | (simp (maxDischargeDepth := 9) only [↓State.bridgeEval_mask, ↓State.mask_ite, ite_self, implies_true, ↓State.mask_forAll, h0]; done) | (simp_all (maxDischargeDepth := 9) only [↓State.bridgeEval_mask, ↓State.mask_ite, ite_self, implies_true, ↓State.mask_forAll, h0]; done))
    | ((try dsimp only); refine State.mask_forAll _ _ _ _ fun _ _ => ?_; (repeat' split) <;> simp (maxDischargeDepth := 9) only [↓State.bridgeEval_mask, ↓State.mask_ite, ite_self, implies_true, ↓State.mask_forAll, h0]; done)
    | ((try dsimp only); refine (State.mask_forAll _ _ _ _ fun _ _ => ?_).trans ?_ <;> (repeat' split) <;> simp (maxDischargeDepth := 9) only [↓State.bridgeEval_mask, ↓State.mask_ite, ite_self, implies_true, ↓State.mask_forAll, h0]; done)

theorem State.leafStill_mask (k : Part → Bool) (s : State) (a : AxisIx) (h0 : k .portals = false) :
    (State.leafStill s a).mask k = s.mask k := by
  unfold State.leafStill
  first
    | (simp (maxDischargeDepth := 9) only [↓State.modPortal_mask, ↓State.mask_ite, ite_self, implies_true, h0]; done)
    | ((try dsimp only); (repeat' split) <;> first | (simp (maxDischargeDepth := 9) only [↓State.modPortal_mask, ↓State.mask_ite, ite_self, implies_true, h0]; done) | (simp_all (maxDischargeDepth := 9) only [↓State.modPortal_mask, ↓State.mask_ite, ite_self, implies_true, h0]; done))

theorem State.leafEnd_mask (k : Part → Bool) (s : State) (a : AxisIx) (h0 : k .portals = false) :
    (State.leafEnd s a).mask k = s.mask k := by
  unfold State.leafEnd
  first
    | (simp (maxDischargeDepth := 9) only [↓State.leafStill_mask, ↓State.mask_ite, ite_self, implies_true, h0]; done)
    | ((try dsimp only); (repeat' split) <;> first | (simp (maxDischargeDepth := 9) only [↓State.leafStill_mask, ↓State.mask_ite, ite_self, implies_true, h0]; done) | (simp_all (maxDischargeDepth := 9) only [↓State.leafStill_mask, ↓State.mask_ite, ite_self, implies_true, h0]; done))

theorem State.movementEnd_mask (k : Part → Bool) (s : State) (p : PortalIx) (h0 : k .portals = false) :
    (State.movementEnd s p).mask k = s.mask k := by
  unfold State.movementEnd
  first
    | (simp (maxDischargeDepth := 9) only [↓State.leafEnd_mask, ↓State.mask_ite, ite_self, implies_true, h0]; done)
    | ((try dsimp only); (repeat' split) <;> first | (simp (maxDischargeDepth := 9) only [↓State.leafEnd_mask, ↓State.mask_ite, ite_self, implies_true, h0]; done) | (simp_all (maxDischargeDepth := 9) only [↓State.leafEnd_mask, ↓State.mask_ite, ite_self, implies_true, h0]; done))

theorem State.stopAxis_mask (k : Part → Bool) (s : State) (a : AxisIx) (cause : BitVec 4) (h0 : k .axes = false) (h1 : k .portals = false) :
    (State.stopAxis s a cause).mask k = s.mask k := by
  unfold State.stopAxis
  first
    | (simp (maxDischargeDepth := 9) only [↓State.modAxis_mask, ↓State.movementEnd_mask, ↓State.mask_ite, ite_self, implies_true, h0, h1]; done)
    | ((try dsimp only); (repeat' split) <;> first | (simp (maxDischargeDepth := 9) only [↓State.modAxis_mask, ↓State.movementEnd_mask, ↓State.mask_ite, ite_self, implies_true, h0, h1]; done) | (simp_all (maxDischargeDepth := 9) only [↓State.modAxis_mask, ↓State.movementEnd_mask, ↓State.mask_ite, ite_self, implies_true, h0, h1]; done))

theorem State.stopLeaves_mask (k : Part → Bool) (s : State) (p : PortalIx) (cause : BitVec 4) (h0 : k .axes = false) (h1 : k .portals = false) :
    (State.stopLeaves s p cause).mask k = s.mask k := by
  unfold State.stopLeaves
  first
    | (simp (maxDischargeDepth := 9) only [↓State.stopAxis_mask, ↓State.mask_ite, ite_self, implies_true, ↓State.mask_forAll, h0, h1]; done)
    | ((try dsimp only); (repeat' split) <;> first | (simp (maxDischargeDepth := 9) only [↓State.stopAxis_mask, ↓State.mask_ite, ite_self, implies_true, ↓State.mask_forAll, h0, h1]; done) | (simp_all (maxDischargeDepth := 9) only [↓State.stopAxis_mask, ↓State.mask_ite, ite_self, implies_true, ↓State.mask_forAll, h0, h1]; done))
    | ((try dsimp only); refine State.mask_forAll _ _ _ _ fun _ _ => ?_; (repeat' split) <;> simp (maxDischargeDepth := 9) only [↓State.stopAxis_mask, ↓State.mask_ite, ite_self, implies_true, ↓State.mask_forAll, h0, h1]; done)
    | ((try dsimp only); refine (State.mask_forAll _ _ _ _ fun _ _ => ?_).trans ?_ <;> (repeat' split) <;> simp (maxDischargeDepth := 9) only [↓State.stopAxis_mask, ↓State.mask_ite, ite_self, implies_true, ↓State.mask_forAll, h0, h1]; done)

theorem State.cycleEnd_mask (k : Part → Bool) (s : State) (p : PortalIx) (e : CycleEnd) (retry : BitVec 4) (h0 : k .tally = false) (h1 : k .portals = false) :
    (State.cycleEnd s p e retry).mask k = s.mask k := by
  unfold State.cycleEnd
  first
    | (simp (maxDischargeDepth := 9) only [↓State.modPortal_mask, ↓State.record_mask, ↓State.mask_ite, ite_self, implies_true, h0, h1]; done)
    | ((try dsimp only); (repeat' split) <;> first | (simp (maxDischargeDepth := 9) only [↓State.modPortal_mask, ↓State.record_mask, ↓State.mask_ite, ite_self, implies_true, h0, h1]; done) | (simp_all (maxDischargeDepth := 9) only [↓State.modPortal_mask, ↓State.record_mask, ↓State.mask_ite, ite_self, implies_true, h0, h1]; done))

theorem State.cycleStart_mask (k : Part → Bool) (s : State) (p : PortalIx) (h0 : k .portals = false) :
    (State.cycleStart s p).mask k = s.mask k := by
  unfold State.cycleStart
  first
    | (simp (maxDischargeDepth := 9) only [↓State.modPortal_mask, ↓State.mask_ite, ite_self, implies_true, h0]; done)
    | ((try dsimp only); (repeat' split) <;> first | (simp (maxDischargeDepth := 9) only [↓State.modPortal_mask, ↓State.mask_ite, ite_self, implies_true, h0]; done) | (simp_all (maxDischargeDepth := 9) only [↓State.modPortal_mask, ↓State.mask_ite, ite_self, implies_true, h0]; done))

theorem State.latchObs_mask (k : Part → Bool) (s : State) (p : PortalIx) (set : PrtObs → PrtObs) (counts : Bool) (h0 : k .tally = false) (h1 : k .axes = false) (h2 : k .portals = false) :
    (State.latchObs s p set counts).mask k = s.mask k := by
  unfold State.latchObs
  first
    | (simp (maxDischargeDepth := 9) only [↓State.modAxis_mask, ↓State.modPortal_mask, ↓State.cycleEnd_mask, ↓State.mask_ite, ite_self, implies_true, ↓State.mask_forAll, h0, h1, h2]; done)
    | ((try dsimp only); (repeat' split) <;> first | (simp (maxDischargeDepth := 9) only [↓State.modAxis_mask, ↓State.modPortal_mask, ↓State.cycleEnd_mask, ↓State.mask_ite, ite_self, implies_true, ↓State.mask_forAll, h0, h1, h2]; done) | (simp_all (maxDischargeDepth := 9) only [↓State.modAxis_mask, ↓State.modPortal_mask, ↓State.cycleEnd_mask, ↓State.mask_ite, ite_self, implies_true, ↓State.mask_forAll, h0, h1, h2]; done))
    | ((try dsimp only); refine State.mask_forAll _ _ _ _ fun _ _ => ?_; (repeat' split) <;> simp (maxDischargeDepth := 9) only [↓State.modAxis_mask, ↓State.modPortal_mask, ↓State.cycleEnd_mask, ↓State.mask_ite, ite_self, implies_true, ↓State.mask_forAll, h0, h1, h2]; done)
    | ((try dsimp only); refine (State.mask_forAll _ _ _ _ fun _ _ => ?_).trans ?_ <;> (repeat' split) <;> simp (maxDischargeDepth := 9) only [↓State.modAxis_mask, ↓State.modPortal_mask, ↓State.cycleEnd_mask, ↓State.mask_ite, ite_self, implies_true, ↓State.mask_forAll, h0, h1, h2]; done)

theorem State.moveBegin_mask (k : Part → Bool) (s : State) (a : AxisIx) (d : Option Dir) (h0 : k .portals = false) :
    (State.moveBegin s a d).mask k = s.mask k := by
  unfold State.moveBegin
  first
    | (simp (maxDischargeDepth := 9) only [↓State.modPortal_mask, ↓State.cycleStart_mask, ↓State.mask_ite, ite_self, implies_true, h0]; done)
    | ((try dsimp only); (repeat' split) <;> first | (simp (maxDischargeDepth := 9) only [↓State.modPortal_mask, ↓State.cycleStart_mask, ↓State.mask_ite, ite_self, implies_true, h0]; done) | (simp_all (maxDischargeDepth := 9) only [↓State.modPortal_mask, ↓State.cycleStart_mask, ↓State.mask_ite, ite_self, implies_true, h0]; done))

theorem State.edgeLatch_mask (k : Part → Bool) (s : State) (p : PortalIx) (b : Bool) (h0 : k .tally = false) (h1 : k .axes = false) (h2 : k .portals = false) :
    (State.edgeLatch s p b).mask k = s.mask k := by
  unfold State.edgeLatch
  first
    | (simp (maxDischargeDepth := 9) only [↓State.stopLeaves_mask, ↓State.latchObs_mask, ↓State.mask_ite, ite_self, implies_true, h0, h1, h2]; done)
    | ((try dsimp only); (repeat' split) <;> first | (simp (maxDischargeDepth := 9) only [↓State.stopLeaves_mask, ↓State.latchObs_mask, ↓State.mask_ite, ite_self, implies_true, h0, h1, h2]; done) | (simp_all (maxDischargeDepth := 9) only [↓State.stopLeaves_mask, ↓State.latchObs_mask, ↓State.mask_ite, ite_self, implies_true, h0, h1, h2]; done))

theorem State.edgeAtStart_mask (k : Part → Bool) (s : State) (p : PortalIx) (h0 : k .tally = false) (h1 : k .axes = false) (h2 : k .portals = false) :
    (State.edgeAtStart s p).mask k = s.mask k := by
  unfold State.edgeAtStart
  first
    | (simp (maxDischargeDepth := 9) only [↓State.edgeLatch_mask, ↓State.mask_ite, ite_self, implies_true, h0, h1, h2]; done)
    | ((try dsimp only); (repeat' split) <;> first | (simp (maxDischargeDepth := 9) only [↓State.edgeLatch_mask, ↓State.mask_ite, ite_self, implies_true, h0, h1, h2]; done) | (simp_all (maxDischargeDepth := 9) only [↓State.edgeLatch_mask, ↓State.mask_ite, ite_self, implies_true, h0, h1, h2]; done))

theorem State.calAbandon_mask (k : Part → Bool) (s : State) (h0 : k .axes = false) :
    (State.calAbandon s).mask k = s.mask k := by
  unfold State.calAbandon
  first
    | (simp (maxDischargeDepth := 9) only [↓State.mask_with_axes, ↓State.mask_ite, ite_self, implies_true, h0]; done)
    | ((try dsimp only); (repeat' split) <;> first | (simp (maxDischargeDepth := 9) only [↓State.mask_with_axes, ↓State.mask_ite, ite_self, implies_true, h0]; done) | (simp_all (maxDischargeDepth := 9) only [↓State.mask_with_axes, ↓State.mask_ite, ite_self, implies_true, h0]; done))
    | (simp only [State.mask, Bool.false_eq_true, ↓reduceIte, h0]; done)
    | (simp (maxDischargeDepth := 9) only [↓State.mask_with_axes, ↓State.mask_ite, ite_self, implies_true, h0]; simp only [State.mask, Bool.false_eq_true, ↓reduceIte, h0]; done)

theorem State.idleClose_mask (k : Part → Bool) (s : State) (h0 : k .axes = false) (h1 : k .portals = false) (h2 : k .ls = false) (h3 : k .kerf = false) :
    (State.idleClose s).mask k = s.mask k := by
  unfold State.idleClose
  first
    | (simp (maxDischargeDepth := 9) only [↓State.oltAbandon_mask, ↓State.learnAbandon_mask, ↓State.calAbandon_mask, ↓State.mask_ite, ite_self, implies_true, h0, h1, h2, h3]; done)
    | ((try dsimp only); (repeat' split) <;> first | (simp (maxDischargeDepth := 9) only [↓State.oltAbandon_mask, ↓State.learnAbandon_mask, ↓State.calAbandon_mask, ↓State.mask_ite, ite_self, implies_true, h0, h1, h2, h3]; done) | (simp_all (maxDischargeDepth := 9) only [↓State.oltAbandon_mask, ↓State.learnAbandon_mask, ↓State.calAbandon_mask, ↓State.mask_ite, ite_self, implies_true, h0, h1, h2, h3]; done))

theorem State.admitStart_mask (k : Part → Bool) (s : State) (a : AxisIx) (h0 : k .axes = false) (h1 : k .portals = false) (h2 : k .ls = false) (h3 : k .kerf = false) (h4 : k .sent = false) :
    (State.admitStart s a).mask k = s.mask k := by
  unfold State.admitStart
  first
    | (simp (maxDischargeDepth := 9) only [↓State.modAxis_mask, ↓State.kerfOpen_mask, ↓State.moveBegin_mask, ↓State.idleClose_mask, ↓State.mask_ite, ite_self, implies_true, h0, h1, h2, h3, h4]; done)
    | ((try dsimp only); (repeat' split) <;> first | (simp (maxDischargeDepth := 9) only [↓State.modAxis_mask, ↓State.kerfOpen_mask, ↓State.moveBegin_mask, ↓State.idleClose_mask, ↓State.mask_ite, ite_self, implies_true, h0, h1, h2, h3, h4]; done) | (simp_all (maxDischargeDepth := 9) only [↓State.modAxis_mask, ↓State.kerfOpen_mask, ↓State.moveBegin_mask, ↓State.idleClose_mask, ↓State.mask_ite, ite_self, implies_true, h0, h1, h2, h3, h4]; done))

theorem State.admitAll_mask (k : Part → Bool) (s : State) (l : Nat) (x0 : Nat) (h0 : k .tally = false) (h1 : k .axes = false) (h2 : k .portals = false) (h3 : k .ls = false) (h4 : k .kerf = false) (h5 : k .sent = false) :
    (State.admitAll s l x0).1.mask k = s.mask k := by
  induction x0 generalizing s l with
  | zero => unfold State.admitAll; rfl
  | succ n ih =>
    unfold State.admitAll
    (try dsimp only); (repeat' split) <;> first | (simp (maxDischargeDepth := 9) only [↓State.edgeAtStart_mask, ↓State.admitStart_mask, ↓State.mask_ite, ite_self, implies_true, ↓State.mask_fst_ite, ↓State.mask_forAll, h0, h1, h2, h3, h4, h5, ↓ih]; done) | (simp_all (maxDischargeDepth := 9) only [↓State.edgeAtStart_mask, ↓State.admitStart_mask, ↓State.mask_ite, ite_self, implies_true, ↓State.mask_fst_ite, ↓State.mask_forAll, h0, h1, h2, h3, h4, h5, ↓ih]; done)

theorem State.showLoad_mask (k : Part → Bool) (s : State) (l : Nat) (h0 : k .fel = false) :
    (State.showLoad s l).mask k = s.mask k := by
  unfold State.showLoad
  first
    | (simp (maxDischargeDepth := 9) only [↓State.mask_with_fel, ↓State.mask_ite, ite_self, implies_true, h0]; done)
    | ((try dsimp only); (repeat' split) <;> first | (simp (maxDischargeDepth := 9) only [↓State.mask_with_fel, ↓State.mask_ite, ite_self, implies_true, h0]; done) | (simp_all (maxDischargeDepth := 9) only [↓State.mask_with_fel, ↓State.mask_ite, ite_self, implies_true, h0]; done))
    | (simp only [State.mask, Bool.false_eq_true, ↓reduceIte, h0]; done)
    | (simp (maxDischargeDepth := 9) only [↓State.mask_with_fel, ↓State.mask_ite, ite_self, implies_true, h0]; simp only [State.mask, Bool.false_eq_true, ↓reduceIte, h0]; done)

theorem State.starveAll_mask (k : Part → Bool) (s : State) (h0 : k .tally = false) (h1 : k .axes = false) (h2 : k .fel = false) :
    (State.starveAll s).mask k = s.mask k := by
  unfold State.starveAll
  first
    | (simp (maxDischargeDepth := 9) only [↓State.modAxis_mask, ↓State.event_mask, ↓State.mask_with_tally, ↓State.mask_with_axes, ↓State.mask_with_fel, ↓State.mask_ite, ite_self, implies_true, ↓State.mask_forAll, h0, h1, h2]; done)
    | ((try dsimp only); (repeat' split) <;> first | (simp (maxDischargeDepth := 9) only [↓State.modAxis_mask, ↓State.event_mask, ↓State.mask_with_tally, ↓State.mask_with_axes, ↓State.mask_with_fel, ↓State.mask_ite, ite_self, implies_true, ↓State.mask_forAll, h0, h1, h2]; done) | (simp_all (maxDischargeDepth := 9) only [↓State.modAxis_mask, ↓State.event_mask, ↓State.mask_with_tally, ↓State.mask_with_axes, ↓State.mask_with_fel, ↓State.mask_ite, ite_self, implies_true, ↓State.mask_forAll, h0, h1, h2]; done))
    | (simp only [State.mask, Bool.false_eq_true, ↓reduceIte, h0, h1, h2]; done)
    | (simp (maxDischargeDepth := 9) only [↓State.modAxis_mask, ↓State.event_mask, ↓State.mask_with_tally, ↓State.mask_with_axes, ↓State.mask_with_fel, ↓State.mask_ite, ite_self, implies_true, ↓State.mask_forAll, h0, h1, h2]; simp only [State.mask, Bool.false_eq_true, ↓reduceIte, h0, h1, h2]; done)
    | ((try dsimp only); refine State.mask_forAll _ _ _ _ fun _ _ => ?_; (repeat' split) <;> simp (maxDischargeDepth := 9) only [↓State.modAxis_mask, ↓State.event_mask, ↓State.mask_with_tally, ↓State.mask_with_axes, ↓State.mask_with_fel, ↓State.mask_ite, ite_self, implies_true, ↓State.mask_forAll, h0, h1, h2]; done)
    | ((try dsimp only); refine (State.mask_forAll _ _ _ _ fun _ _ => ?_).trans ?_ <;> (repeat' split) <;> simp (maxDischargeDepth := 9) only [↓State.modAxis_mask, ↓State.event_mask, ↓State.mask_with_tally, ↓State.mask_with_axes, ↓State.mask_with_fel, ↓State.mask_ite, ite_self, implies_true, ↓State.mask_forAll, h0, h1, h2]; done)

theorem State.felling_mask (k : Part → Bool) (s : State) (h0 : k .tally = false) (h1 : k .axes = false) (h2 : k .portals = false) (h3 : k .fel = false) (h4 : k .ls = false) (h5 : k .kerf = false) (h6 : k .sent = false) :
    (State.felling s).mask k = s.mask k := by
  unfold State.felling
  first
    | (simp (maxDischargeDepth := 9) only [↓State.admitAll_mask, ↓State.showLoad_mask, ↓State.starveAll_mask, ↓State.mask_ite, ite_self, implies_true, h0, h1, h2, h3, h4, h5, h6]; done)
    | ((try dsimp only); (repeat' split) <;> first | (simp (maxDischargeDepth := 9) only [↓State.admitAll_mask, ↓State.showLoad_mask, ↓State.starveAll_mask, ↓State.mask_ite, ite_self, implies_true, h0, h1, h2, h3, h4, h5, h6]; done) | (simp_all (maxDischargeDepth := 9) only [↓State.admitAll_mask, ↓State.showLoad_mask, ↓State.starveAll_mask, ↓State.mask_ite, ite_self, implies_true, h0, h1, h2, h3, h4, h5, h6]; done))

theorem State.setFinal_mask (k : Part → Bool) (s : State) (p : PortalIx) (on : Bool) (h0 : k .axes = false) :
    (State.setFinal s p on).mask k = s.mask k := by
  unfold State.setFinal
  first
    | (simp (maxDischargeDepth := 9) only [↓State.modAxis_mask, ↓State.mask_ite, ite_self, implies_true, ↓State.mask_forAll, h0]; done)
    | ((try dsimp only); (repeat' split) <;> first | (simp (maxDischargeDepth := 9) only [↓State.modAxis_mask, ↓State.mask_ite, ite_self, implies_true, ↓State.mask_forAll, h0]; done) | (simp_all (maxDischargeDepth := 9) only [↓State.modAxis_mask, ↓State.mask_ite, ite_self, implies_true, ↓State.mask_forAll, h0]; done))
    | ((try dsimp only); refine State.mask_forAll _ _ _ _ fun _ _ => ?_; (repeat' split) <;> simp (maxDischargeDepth := 9) only [↓State.modAxis_mask, ↓State.mask_ite, ite_self, implies_true, ↓State.mask_forAll, h0]; done)
    | ((try dsimp only); refine (State.mask_forAll _ _ _ _ fun _ _ => ?_).trans ?_ <;> (repeat' split) <;> simp (maxDischargeDepth := 9) only [↓State.modAxis_mask, ↓State.mask_ite, ite_self, implies_true, ↓State.mask_forAll, h0]; done)

theorem State.armGaps_mask (k : Part → Bool) (s : State) (p : PortalIx) (h0 : k .axes = false) (h1 : k .portals = false) :
    (State.armGaps s p).mask k = s.mask k := by
  unfold State.armGaps
  first
    | (simp (maxDischargeDepth := 9) only [↓State.modPortal_mask, ↓State.setFinal_mask, ↓State.mask_ite, ite_self, implies_true, ↓State.mask_foldl, h0, h1]; done)
    | ((try dsimp only); (repeat' split) <;> first | (simp (maxDischargeDepth := 9) only [↓State.modPortal_mask, ↓State.setFinal_mask, ↓State.mask_ite, ite_self, implies_true, ↓State.mask_foldl, h0, h1]; done) | (simp_all (maxDischargeDepth := 9) only [↓State.modPortal_mask, ↓State.setFinal_mask, ↓State.mask_ite, ite_self, implies_true, ↓State.mask_foldl, h0, h1]; done))

theorem State.arrived_mask (k : Part → Bool) (s : State) (a : AxisIx) (h0 : k .portals = false) :
    (State.arrived s a).mask k = s.mask k := by
  unfold State.arrived
  first
    | (simp (maxDischargeDepth := 9) only [↓State.modPortal_mask, ↓State.movementEnd_mask, ↓State.mask_ite, ite_self, implies_true, h0]; done)
    | ((try dsimp only); (repeat' split) <;> first | (simp (maxDischargeDepth := 9) only [↓State.modPortal_mask, ↓State.movementEnd_mask, ↓State.mask_ite, ite_self, implies_true, h0]; done) | (simp_all (maxDischargeDepth := 9) only [↓State.modPortal_mask, ↓State.movementEnd_mask, ↓State.mask_ite, ite_self, implies_true, h0]; done))

theorem State.standstill_mask (k : Part → Bool) (s : State) (a : AxisIx) (h0 : k .axes = false) (h1 : k .portals = false) :
    (State.standstill s a).mask k = s.mask k := by
  unfold State.standstill
  first
    | (simp (maxDischargeDepth := 9) only [↓State.modAxis_mask, ↓State.leafStill_mask, ↓State.arrived_mask, ↓State.mask_ite, ite_self, implies_true, h0, h1]; done)
    | ((try dsimp only); (repeat' split) <;> first | (simp (maxDischargeDepth := 9) only [↓State.modAxis_mask, ↓State.leafStill_mask, ↓State.arrived_mask, ↓State.mask_ite, ite_self, implies_true, h0, h1]; done) | (simp_all (maxDischargeDepth := 9) only [↓State.modAxis_mask, ↓State.leafStill_mask, ↓State.arrived_mask, ↓State.mask_ite, ite_self, implies_true, h0, h1]; done))

theorem State.start_mask (k : Part → Bool) (s : State) (a : AxisIx) (kind : StartKind) (t : Int) (more : Bool) (h0 : k .tally = false) (h1 : k .axes = false) (h2 : k .portals = false) (h3 : k .fel = false) (h4 : k .ls = false) (h5 : k .kerf = false) (h6 : k .sent = false) :
    (State.start s a kind t more).mask k = s.mask k := by
  unfold State.start
  first
    | (simp (maxDischargeDepth := 9) only [↓State.modAxis_mask, ↓State.felling_mask, ↓State.mask_ite, ite_self, implies_true, h0, h1, h2, h3, h4, h5, h6]; done)
    | ((try dsimp only); (repeat' split) <;> first | (simp (maxDischargeDepth := 9) only [↓State.modAxis_mask, ↓State.felling_mask, ↓State.mask_ite, ite_self, implies_true, h0, h1, h2, h3, h4, h5, h6]; done) | (simp_all (maxDischargeDepth := 9) only [↓State.modAxis_mask, ↓State.felling_mask, ↓State.mask_ite, ite_self, implies_true, h0, h1, h2, h3, h4, h5, h6]; done))

theorem State.referenced_mask (k : Part → Bool) (s : State) (a : AxisIx) (h0 : k .axes = false) (h1 : k .portals = false) :
    (State.referenced s a).mask k = s.mask k := by
  unfold State.referenced
  first
    | (simp (maxDischargeDepth := 9) only [↓State.modAxis_mask, ↓State.modPortal_mask, ↓State.armGaps_mask, ↓State.mask_ite, ite_self, implies_true, h0, h1]; done)
    | ((try dsimp only); (repeat' split) <;> first | (simp (maxDischargeDepth := 9) only [↓State.modAxis_mask, ↓State.modPortal_mask, ↓State.armGaps_mask, ↓State.mask_ite, ite_self, implies_true, h0, h1]; done) | (simp_all (maxDischargeDepth := 9) only [↓State.modAxis_mask, ↓State.modPortal_mask, ↓State.armGaps_mask, ↓State.mask_ite, ite_self, implies_true, h0, h1]; done))

theorem State.closeAgain_mask (k : Part → Bool) (s : State) (a : AxisIx) (opens : Bool) (h0 : k .portals = false) :
    (State.closeAgain s a opens).mask k = s.mask k := by
  unfold State.closeAgain
  first
    | (simp (maxDischargeDepth := 9) only [↓State.modPortal_mask, ↓State.mask_ite, ite_self, implies_true, h0]; done)
    | ((try dsimp only); (repeat' split) <;> first | (simp (maxDischargeDepth := 9) only [↓State.modPortal_mask, ↓State.mask_ite, ite_self, implies_true, h0]; done) | (simp_all (maxDischargeDepth := 9) only [↓State.modPortal_mask, ↓State.mask_ite, ite_self, implies_true, h0]; done))

theorem State.acceptTarget_mask (k : Part → Bool) (s : State) (a : AxisIx) (t : Int) (more : Bool) (h0 : k .tally = false) (h1 : k .axes = false) (h2 : k .portals = false) (h3 : k .fel = false) (h4 : k .ls = false) (h5 : k .kerf = false) (h6 : k .sent = false) :
    (State.acceptTarget s a t more).mask k = s.mask k := by
  unfold State.acceptTarget
  first
    | (simp (maxDischargeDepth := 9) only [↓State.modAxis_mask, ↓State.modPortal_mask, ↓State.moveBegin_mask, ↓State.edgeAtStart_mask, ↓State.standstill_mask, ↓State.start_mask, ↓State.closeAgain_mask, ↓State.mask_ite, ite_self, implies_true, h0, h1, h2, h3, h4, h5, h6]; done)
    | ((try dsimp only); (repeat' split) <;> first | (simp (maxDischargeDepth := 9) only [↓State.modAxis_mask, ↓State.modPortal_mask, ↓State.moveBegin_mask, ↓State.edgeAtStart_mask, ↓State.standstill_mask, ↓State.start_mask, ↓State.closeAgain_mask, ↓State.mask_ite, ite_self, implies_true, h0, h1, h2, h3, h4, h5, h6]; done) | (simp_all (maxDischargeDepth := 9) only [↓State.modAxis_mask, ↓State.modPortal_mask, ↓State.moveBegin_mask, ↓State.edgeAtStart_mask, ↓State.standstill_mask, ↓State.start_mask, ↓State.closeAgain_mask, ↓State.mask_ite, ite_self, implies_true, h0, h1, h2, h3, h4, h5, h6]; done))

theorem State.acceptReref_mask (k : Part → Bool) (s : State) (a : AxisIx) (more : Bool) (h0 : k .tally = false) (h1 : k .axes = false) (h2 : k .portals = false) (h3 : k .fel = false) (h4 : k .ls = false) (h5 : k .kerf = false) (h6 : k .sent = false) :
    (State.acceptReref s a more).mask k = s.mask k := by
  unfold State.acceptReref
  first
    | (simp (maxDischargeDepth := 9) only [↓State.modAxis_mask, ↓State.movementEnd_mask, ↓State.standstill_mask, ↓State.start_mask, ↓State.referenced_mask, ↓State.closeAgain_mask, ↓State.mask_ite, ite_self, implies_true, h0, h1, h2, h3, h4, h5, h6]; done)
    | ((try dsimp only); (repeat' split) <;> first | (simp (maxDischargeDepth := 9) only [↓State.modAxis_mask, ↓State.movementEnd_mask, ↓State.standstill_mask, ↓State.start_mask, ↓State.referenced_mask, ↓State.closeAgain_mask, ↓State.mask_ite, ite_self, implies_true, h0, h1, h2, h3, h4, h5, h6]; done) | (simp_all (maxDischargeDepth := 9) only [↓State.modAxis_mask, ↓State.movementEnd_mask, ↓State.standstill_mask, ↓State.start_mask, ↓State.referenced_mask, ↓State.closeAgain_mask, ↓State.mask_ite, ite_self, implies_true, h0, h1, h2, h3, h4, h5, h6]; done))

theorem State.request_mask (k : Part → Bool) (s : State) (a : AxisIx) (kind : StartKind) (t : Int) (more : Bool := false) (svc : Bool := false) (h0 : k .tally = false) (h1 : k .axes = false) (h2 : k .portals = false) (h3 : k .fel = false) (h4 : k .ls = false) (h5 : k .kerf = false) (h6 : k .sent = false) (h7 : k .freeSeq = false) :
    (State.request s a kind t more svc).mask k = s.mask k := by
  unfold State.request
  first
    | (simp (maxDischargeDepth := 9) only [↓State.modAxis_mask, ↓State.used_mask, ↓State.calAbandon_mask, ↓State.acceptTarget_mask, ↓State.acceptReref_mask, ↓State.mask_ite, ite_self, implies_true, h0, h1, h2, h3, h4, h5, h6, h7]; done)
    | ((try dsimp only); (repeat' split) <;> first | (simp (maxDischargeDepth := 9) only [↓State.modAxis_mask, ↓State.used_mask, ↓State.calAbandon_mask, ↓State.acceptTarget_mask, ↓State.acceptReref_mask, ↓State.mask_ite, ite_self, implies_true, h0, h1, h2, h3, h4, h5, h6, h7]; done) | (simp_all (maxDischargeDepth := 9) only [↓State.modAxis_mask, ↓State.used_mask, ↓State.calAbandon_mask, ↓State.acceptTarget_mask, ↓State.acceptReref_mask, ↓State.mask_ite, ite_self, implies_true, h0, h1, h2, h3, h4, h5, h6, h7]; done))

theorem State.fellSince_mask (k : Part → Bool) (s s0 : State) (h0 : k .tally = false) (h1 : k .axes = false) (h2 : k .portals = false) (h3 : k .fel = false) (h4 : k .ls = false) (h5 : k .kerf = false) (h6 : k .sent = false) :
    (State.fellSince s s0).mask k = s.mask k := by
  unfold State.fellSince
  first
    | (simp (maxDischargeDepth := 9) only [↓State.felling_mask, ↓State.mask_ite, ite_self, implies_true, h0, h1, h2, h3, h4, h5, h6]; done)
    | ((try dsimp only); (repeat' split) <;> first | (simp (maxDischargeDepth := 9) only [↓State.felling_mask, ↓State.mask_ite, ite_self, implies_true, h0, h1, h2, h3, h4, h5, h6]; done) | (simp_all (maxDischargeDepth := 9) only [↓State.felling_mask, ↓State.mask_ite, ite_self, implies_true, h0, h1, h2, h3, h4, h5, h6]; done))

theorem State.haltAxis_mask (k : Part → Bool) (s : State) (a : AxisIx) (h0 : k .axes = false) (h1 : k .portals = false) :
    (State.haltAxis s a).mask k = s.mask k := by
  unfold State.haltAxis
  first
    | (simp (maxDischargeDepth := 9) only [↓State.modAxis_mask, ↓State.stopAxis_mask, ↓State.mask_ite, ite_self, implies_true, h0, h1]; done)
    | ((try dsimp only); (repeat' split) <;> first | (simp (maxDischargeDepth := 9) only [↓State.modAxis_mask, ↓State.stopAxis_mask, ↓State.mask_ite, ite_self, implies_true, h0, h1]; done) | (simp_all (maxDischargeDepth := 9) only [↓State.modAxis_mask, ↓State.stopAxis_mask, ↓State.mask_ite, ite_self, implies_true, h0, h1]; done))

theorem State.cmdStop_mask (k : Part → Bool) (s : State) (a : AxisIx) (h0 : k .axes = false) (h1 : k .portals = false) :
    (State.cmdStop s a).mask k = s.mask k := by
  unfold State.cmdStop
  first
    | (simp (maxDischargeDepth := 9) only [↓State.stopAxis_mask, ↓State.mask_ite, ite_self, implies_true, h0, h1]; done)
    | ((try dsimp only); (repeat' split) <;> first | (simp (maxDischargeDepth := 9) only [↓State.stopAxis_mask, ↓State.mask_ite, ite_self, implies_true, h0, h1]; done) | (simp_all (maxDischargeDepth := 9) only [↓State.stopAxis_mask, ↓State.mask_ite, ite_self, implies_true, h0, h1]; done))

theorem State.cmdDisable_mask (k : Part → Bool) (s : State) (a : AxisIx) (h0 : k .axes = false) (h1 : k .portals = false) :
    (State.cmdDisable s a).mask k = s.mask k := by
  unfold State.cmdDisable
  first
    | (simp (maxDischargeDepth := 9) only [↓State.modAxis_mask, ↓State.bridgeEval_mask, ↓State.stopAxis_mask, ↓State.mask_ite, ite_self, implies_true, h0, h1]; done)
    | ((try dsimp only); (repeat' split) <;> first | (simp (maxDischargeDepth := 9) only [↓State.modAxis_mask, ↓State.bridgeEval_mask, ↓State.stopAxis_mask, ↓State.mask_ite, ite_self, implies_true, h0, h1]; done) | (simp_all (maxDischargeDepth := 9) only [↓State.modAxis_mask, ↓State.bridgeEval_mask, ↓State.stopAxis_mask, ↓State.mask_ite, ite_self, implies_true, h0, h1]; done))

theorem State.cmdEnable_mask (k : Part → Bool) (s : State) (a : AxisIx) (h0 : k .axes = false) :
    (State.cmdEnable s a).mask k = s.mask k := by
  unfold State.cmdEnable
  first
    | (simp (maxDischargeDepth := 9) only [↓State.modAxis_mask, ↓State.bridgeEval_mask, ↓State.mask_ite, ite_self, implies_true, h0]; done)
    | ((try dsimp only); (repeat' split) <;> first | (simp (maxDischargeDepth := 9) only [↓State.modAxis_mask, ↓State.bridgeEval_mask, ↓State.mask_ite, ite_self, implies_true, h0]; done) | (simp_all (maxDischargeDepth := 9) only [↓State.modAxis_mask, ↓State.bridgeEval_mask, ↓State.mask_ite, ite_self, implies_true, h0]; done))

theorem State.axisCmd_mask (k : Part → Bool) (s : State) (a : AxisIx) (w : Word) (more : Bool := false) (svc : Bool := false) (h0 : k .tally = false) (h1 : k .axes = false) (h2 : k .portals = false) (h3 : k .fel = false) (h4 : k .ls = false) (h5 : k .kerf = false) (h6 : k .sent = false) (h7 : k .freeSeq = false) :
    (State.axisCmd s a w more svc).mask k = s.mask k := by
  unfold State.axisCmd
  first
    | (simp (maxDischargeDepth := 9) only [↓State.request_mask, ↓State.haltAxis_mask, ↓State.cmdStop_mask, ↓State.cmdDisable_mask, ↓State.cmdEnable_mask, ↓State.mask_ite, ite_self, implies_true, h0, h1, h2, h3, h4, h5, h6, h7]; done)
    | ((try dsimp only); (repeat' split) <;> first | (simp (maxDischargeDepth := 9) only [↓State.request_mask, ↓State.haltAxis_mask, ↓State.cmdStop_mask, ↓State.cmdDisable_mask, ↓State.cmdEnable_mask, ↓State.mask_ite, ite_self, implies_true, h0, h1, h2, h3, h4, h5, h6, h7]; done) | (simp_all (maxDischargeDepth := 9) only [↓State.request_mask, ↓State.haltAxis_mask, ↓State.cmdStop_mask, ↓State.cmdDisable_mask, ↓State.cmdEnable_mask, ↓State.mask_ite, ite_self, implies_true, h0, h1, h2, h3, h4, h5, h6, h7]; done))

theorem State.haltEnd_mask (k : Part → Bool) (s : State) (a : AxisIx) (h0 : k .tally = false) (h1 : k .axes = false) (h2 : k .portals = false) (h3 : k .fel = false) (h4 : k .ls = false) (h5 : k .kerf = false) (h6 : k .sent = false) :
    (State.haltEnd s a).mask k = s.mask k := by
  unfold State.haltEnd
  first
    | (simp (maxDischargeDepth := 9) only [↓State.modAxis_mask, ↓State.movementEnd_mask, ↓State.start_mask, ↓State.mask_ite, ite_self, implies_true, h0, h1, h2, h3, h4, h5, h6]; done)
    | ((try dsimp only); (repeat' split) <;> first | (simp (maxDischargeDepth := 9) only [↓State.modAxis_mask, ↓State.movementEnd_mask, ↓State.start_mask, ↓State.mask_ite, ite_self, implies_true, h0, h1, h2, h3, h4, h5, h6]; done) | (simp_all (maxDischargeDepth := 9) only [↓State.modAxis_mask, ↓State.movementEnd_mask, ↓State.start_mask, ↓State.mask_ite, ite_self, implies_true, h0, h1, h2, h3, h4, h5, h6]; done))

theorem State.planPeriod_mask (k : Part → Bool) (s : State) (a : AxisIx) (h0 : k .tally = false) (h1 : k .axes = false) (h2 : k .portals = false) (h3 : k .fel = false) (h4 : k .ls = false) (h5 : k .kerf = false) (h6 : k .sent = false) :
    (State.planPeriod s a).mask k = s.mask k := by
  unfold State.planPeriod
  first
    | (simp (maxDischargeDepth := 9) only [↓State.modAxis_mask, ↓State.haltEnd_mask, ↓State.mask_ite, ite_self, implies_true, h0, h1, h2, h3, h4, h5, h6]; done)
    | ((try dsimp only); (repeat' split) <;> first | (simp (maxDischargeDepth := 9) only [↓State.modAxis_mask, ↓State.haltEnd_mask, ↓State.mask_ite, ite_self, implies_true, h0, h1, h2, h3, h4, h5, h6]; done) | (simp_all (maxDischargeDepth := 9) only [↓State.modAxis_mask, ↓State.haltEnd_mask, ↓State.mask_ite, ite_self, implies_true, h0, h1, h2, h3, h4, h5, h6]; done))

theorem State.blazeTarget_mask (k : Part → Bool) (s : State) (b : AxisIx) (t : Int) (h0 : k .tally = false) (h1 : k .axes = false) (h2 : k .portals = false) (h3 : k .fel = false) (h4 : k .ls = false) (h5 : k .kerf = false) (h6 : k .sent = false) (h7 : k .freeSeq = false) :
    (State.blazeTarget s b t).mask k = s.mask k := by
  unfold State.blazeTarget
  first
    | (simp (maxDischargeDepth := 9) only [↓State.modAxis_mask, ↓State.request_mask, ↓State.mask_ite, ite_self, implies_true, h0, h1, h2, h3, h4, h5, h6, h7]; done)
    | ((try dsimp only); (repeat' split) <;> first | (simp (maxDischargeDepth := 9) only [↓State.modAxis_mask, ↓State.request_mask, ↓State.mask_ite, ite_self, implies_true, h0, h1, h2, h3, h4, h5, h6, h7]; done) | (simp_all (maxDischargeDepth := 9) only [↓State.modAxis_mask, ↓State.request_mask, ↓State.mask_ite, ite_self, implies_true, h0, h1, h2, h3, h4, h5, h6, h7]; done))

theorem State.blazeAct_mask (k : Part → Bool) (s : State) (a : AxisIx) (e : Fin 32) (b : Blaze) (h0 : k .tally = false) (h1 : k .axes = false) (h2 : k .portals = false) (h3 : k .fel = false) (h4 : k .ls = false) (h5 : k .kerf = false) (h6 : k .sent = false) (h7 : k .freeSeq = false) :
    (State.blazeAct s a e b).mask k = s.mask k := by
  unfold State.blazeAct
  first
    | (simp (maxDischargeDepth := 9) only [↓State.modAxis_mask, ↓State.lsCommand_mask, ↓State.kerfOpen_mask, ↓State.blazeTarget_mask, ↓State.mask_ite, ite_self, implies_true, h0, h1, h2, h3, h4, h5, h6, h7]; done)
    | ((try dsimp only); (repeat' split) <;> first | (simp (maxDischargeDepth := 9) only [↓State.modAxis_mask, ↓State.lsCommand_mask, ↓State.kerfOpen_mask, ↓State.blazeTarget_mask, ↓State.mask_ite, ite_self, implies_true, h0, h1, h2, h3, h4, h5, h6, h7]; done) | (simp_all (maxDischargeDepth := 9) only [↓State.modAxis_mask, ↓State.lsCommand_mask, ↓State.kerfOpen_mask, ↓State.blazeTarget_mask, ↓State.mask_ite, ite_self, implies_true, h0, h1, h2, h3, h4, h5, h6, h7]; done))

theorem State.coPrio_mask (k : Part → Bool) (s : State) (a : AxisIx) (e : Fin 32) (b : Blaze) (h0 : k .tally = false) (h1 : k .axes = false) :
    (State.coPrio s a e b).mask k = s.mask k := by
  unfold State.coPrio
  first
    | (simp (maxDischargeDepth := 9) only [↓State.modAxis_mask, ↓State.event_mask, ↓State.mask_ite, ite_self, implies_true, h0, h1]; done)
    | ((try dsimp only); (repeat' split) <;> first | (simp (maxDischargeDepth := 9) only [↓State.modAxis_mask, ↓State.event_mask, ↓State.mask_ite, ite_self, implies_true, h0, h1]; done) | (simp_all (maxDischargeDepth := 9) only [↓State.modAxis_mask, ↓State.event_mask, ↓State.mask_ite, ite_self, implies_true, h0, h1]; done))

theorem State.blazeFire_mask (k : Part → Bool) (s : State) (a : AxisIx) (e : Fin 32) (h0 : k .eng = false) (h1 : k .tally = false) (h2 : k .axes = false) (h3 : k .portals = false) (h4 : k .fel = false) (h5 : k .ls = false) (h6 : k .kerf = false) (h7 : k .sent = false) (h8 : k .freeSeq = false) :
    (State.blazeFire s a e).mask k = s.mask k := by
  unfold State.blazeFire
  first
    | (simp (maxDischargeDepth := 9) only [↓State.modAxis_mask, ↓State.callout_mask, ↓State.blazeAct_mask, ↓State.coPrio_mask, ↓State.mask_ite, ite_self, implies_true, h0, h1, h2, h3, h4, h5, h6, h7, h8]; done)
    | ((try dsimp only); (repeat' split) <;> first | (simp (maxDischargeDepth := 9) only [↓State.modAxis_mask, ↓State.callout_mask, ↓State.blazeAct_mask, ↓State.coPrio_mask, ↓State.mask_ite, ite_self, implies_true, h0, h1, h2, h3, h4, h5, h6, h7, h8]; done) | (simp_all (maxDischargeDepth := 9) only [↓State.modAxis_mask, ↓State.callout_mask, ↓State.blazeAct_mask, ↓State.coPrio_mask, ↓State.mask_ite, ite_self, implies_true, h0, h1, h2, h3, h4, h5, h6, h7, h8]; done))

theorem State.compareAll_mask (k : Part → Bool) (s : State) (a : AxisIx) (h0 : k .portals = false) :
    (State.compareAll s a).mask k = s.mask k := by
  unfold State.compareAll
  first
    | (simp (maxDischargeDepth := 9) only [↓State.modPortal_mask, ↓State.mask_ite, ite_self, implies_true, ↓State.mask_forAll, h0]; done)
    | ((try dsimp only); (repeat' split) <;> first | (simp (maxDischargeDepth := 9) only [↓State.modPortal_mask, ↓State.mask_ite, ite_self, implies_true, ↓State.mask_forAll, h0]; done) | (simp_all (maxDischargeDepth := 9) only [↓State.modPortal_mask, ↓State.mask_ite, ite_self, implies_true, ↓State.mask_forAll, h0]; done))
    | ((try dsimp only); refine State.mask_forAll _ _ _ _ fun _ _ => ?_; (repeat' split) <;> simp (maxDischargeDepth := 9) only [↓State.modPortal_mask, ↓State.mask_ite, ite_self, implies_true, ↓State.mask_forAll, h0]; done)
    | ((try dsimp only); refine (State.mask_forAll _ _ _ _ fun _ _ => ?_).trans ?_ <;> (repeat' split) <;> simp (maxDischargeDepth := 9) only [↓State.modPortal_mask, ↓State.mask_ite, ite_self, implies_true, ↓State.mask_forAll, h0]; done)

theorem State.gapFire_mask (k : Part → Bool) (s : State) (p : PortalIx) (e : Fin 5) (h0 : k .eng = false) (h1 : k .tally = false) (h2 : k .axes = false) (h3 : k .portals = false) (h4 : k .fel = false) (h5 : k .ls = false) (h6 : k .kerf = false) (h7 : k .sent = false) (h8 : k .freeSeq = false) :
    (State.gapFire s p e).mask k = s.mask k := by
  unfold State.gapFire
  first
    | (simp (maxDischargeDepth := 9) only [↓State.modPortal_mask, ↓State.callout_mask, ↓State.lkDrop_mask, ↓State.kerfOpen_mask, ↓State.setFinal_mask, ↓State.request_mask, ↓State.mask_ite, ite_self, implies_true, ↓State.mask_forAll, h0, h1, h2, h3, h4, h5, h6, h7, h8]; done)
    | ((try dsimp only); (repeat' split) <;> first | (simp (maxDischargeDepth := 9) only [↓State.modPortal_mask, ↓State.callout_mask, ↓State.lkDrop_mask, ↓State.kerfOpen_mask, ↓State.setFinal_mask, ↓State.request_mask, ↓State.mask_ite, ite_self, implies_true, ↓State.mask_forAll, h0, h1, h2, h3, h4, h5, h6, h7, h8]; done) | (simp_all (maxDischargeDepth := 9) only [↓State.modPortal_mask, ↓State.callout_mask, ↓State.lkDrop_mask, ↓State.kerfOpen_mask, ↓State.setFinal_mask, ↓State.request_mask, ↓State.mask_ite, ite_self, implies_true, ↓State.mask_forAll, h0, h1, h2, h3, h4, h5, h6, h7, h8]; done))
    | ((try dsimp only); refine State.mask_forAll _ _ _ _ fun _ _ => ?_; (repeat' split) <;> simp (maxDischargeDepth := 9) only [↓State.modPortal_mask, ↓State.callout_mask, ↓State.lkDrop_mask, ↓State.kerfOpen_mask, ↓State.setFinal_mask, ↓State.request_mask, ↓State.mask_ite, ite_self, implies_true, ↓State.mask_forAll, h0, h1, h2, h3, h4, h5, h6, h7, h8]; done)
    | ((try dsimp only); refine (State.mask_forAll _ _ _ _ fun _ _ => ?_).trans ?_ <;> (repeat' split) <;> simp (maxDischargeDepth := 9) only [↓State.modPortal_mask, ↓State.callout_mask, ↓State.lkDrop_mask, ↓State.kerfOpen_mask, ↓State.setFinal_mask, ↓State.request_mask, ↓State.mask_ite, ite_self, implies_true, ↓State.mask_forAll, h0, h1, h2, h3, h4, h5, h6, h7, h8]; done)

theorem State.gapUpdate_mask (k : Part → Bool) (s : State) (p : PortalIx) (h0 : k .eng = false) (h1 : k .tally = false) (h2 : k .axes = false) (h3 : k .portals = false) (h4 : k .fel = false) (h5 : k .ls = false) (h6 : k .kerf = false) (h7 : k .sent = false) (h8 : k .freeSeq = false) :
    (State.gapUpdate s p).mask k = s.mask k := by
  unfold State.gapUpdate
  first
    | (simp (maxDischargeDepth := 9) only [↓State.modPortal_mask, ↓State.kerfGap_mask, ↓State.setFinal_mask, ↓State.gapFire_mask, ↓State.mask_ite, ite_self, implies_true, ↓State.mask_forAll, ↓State.mask_foldl, h0, h1, h2, h3, h4, h5, h6, h7, h8]; done)
    | ((try dsimp only); (repeat' split) <;> first | (simp (maxDischargeDepth := 9) only [↓State.modPortal_mask, ↓State.kerfGap_mask, ↓State.setFinal_mask, ↓State.gapFire_mask, ↓State.mask_ite, ite_self, implies_true, ↓State.mask_forAll, ↓State.mask_foldl, h0, h1, h2, h3, h4, h5, h6, h7, h8]; done) | (simp_all (maxDischargeDepth := 9) only [↓State.modPortal_mask, ↓State.kerfGap_mask, ↓State.setFinal_mask, ↓State.gapFire_mask, ↓State.mask_ite, ite_self, implies_true, ↓State.mask_forAll, ↓State.mask_foldl, h0, h1, h2, h3, h4, h5, h6, h7, h8]; done))
    | ((try dsimp only); refine State.mask_forAll _ _ _ _ fun _ _ => ?_; (repeat' split) <;> simp (maxDischargeDepth := 9) only [↓State.modPortal_mask, ↓State.kerfGap_mask, ↓State.setFinal_mask, ↓State.gapFire_mask, ↓State.mask_ite, ite_self, implies_true, ↓State.mask_forAll, ↓State.mask_foldl, h0, h1, h2, h3, h4, h5, h6, h7, h8]; done)
    | ((try dsimp only); refine (State.mask_forAll _ _ _ _ fun _ _ => ?_).trans ?_ <;> (repeat' split) <;> simp (maxDischargeDepth := 9) only [↓State.modPortal_mask, ↓State.kerfGap_mask, ↓State.setFinal_mask, ↓State.gapFire_mask, ↓State.mask_ite, ite_self, implies_true, ↓State.mask_forAll, ↓State.mask_foldl, h0, h1, h2, h3, h4, h5, h6, h7, h8]; done)

theorem State.homeEval_mask (k : Part → Bool) (s : State) (p : PortalIx) (h0 : k .portals = false) :
    (State.homeEval s p).mask k = s.mask k := by
  unfold State.homeEval
  first
    | (simp (maxDischargeDepth := 9) only [↓State.modPortal_mask, ↓State.mask_ite, ite_self, implies_true, h0]; done)
    | ((try dsimp only); (repeat' split) <;> first | (simp (maxDischargeDepth := 9) only [↓State.modPortal_mask, ↓State.mask_ite, ite_self, implies_true, h0]; done) | (simp_all (maxDischargeDepth := 9) only [↓State.modPortal_mask, ↓State.mask_ite, ite_self, implies_true, h0]; done))

theorem State.saturate_mask (k : Part → Bool) (s : State) (a : AxisIx) (h0 : k .axes = false) (h1 : k .portals = false) :
    (State.saturate s a).mask k = s.mask k := by
  unfold State.saturate
  first
    | (simp (maxDischargeDepth := 9) only [↓State.modAxis_mask, ↓State.stopAxis_mask, ↓State.mask_ite, ite_self, implies_true, h0, h1]; done)
    | ((try dsimp only); (repeat' split) <;> first | (simp (maxDischargeDepth := 9) only [↓State.modAxis_mask, ↓State.stopAxis_mask, ↓State.mask_ite, ite_self, implies_true, h0, h1]; done) | (simp_all (maxDischargeDepth := 9) only [↓State.modAxis_mask, ↓State.stopAxis_mask, ↓State.mask_ite, ite_self, implies_true, h0, h1]; done))

theorem State.axisUpdate_mask (k : Part → Bool) (s : State) (a : AxisIx) (h0 : k .eng = false) (h1 : k .tally = false) (h2 : k .axes = false) (h3 : k .portals = false) (h4 : k .fel = false) (h5 : k .ls = false) (h6 : k .kerf = false) (h7 : k .sent = false) (h8 : k .freeSeq = false) :
    (State.axisUpdate s a).mask k = s.mask k := by
  unfold State.axisUpdate
  first
    | (simp (maxDischargeDepth := 9) only [↓State.modAxis_mask, ↓State.stopAxis_mask, ↓State.fellSince_mask, ↓State.blazeFire_mask, ↓State.compareAll_mask, ↓State.gapUpdate_mask, ↓State.homeEval_mask, ↓State.saturate_mask, ↓State.mask_ite, ite_self, implies_true, ↓State.mask_forAll, h0, h1, h2, h3, h4, h5, h6, h7, h8]; done)
    | ((try dsimp only); (repeat' split) <;> first | (simp (maxDischargeDepth := 9) only [↓State.modAxis_mask, ↓State.stopAxis_mask, ↓State.fellSince_mask, ↓State.blazeFire_mask, ↓State.compareAll_mask, ↓State.gapUpdate_mask, ↓State.homeEval_mask, ↓State.saturate_mask, ↓State.mask_ite, ite_self, implies_true, ↓State.mask_forAll, h0, h1, h2, h3, h4, h5, h6, h7, h8]; done) | (simp_all (maxDischargeDepth := 9) only [↓State.modAxis_mask, ↓State.stopAxis_mask, ↓State.fellSince_mask, ↓State.blazeFire_mask, ↓State.compareAll_mask, ↓State.gapUpdate_mask, ↓State.homeEval_mask, ↓State.saturate_mask, ↓State.mask_ite, ite_self, implies_true, ↓State.mask_forAll, h0, h1, h2, h3, h4, h5, h6, h7, h8]; done))
    | ((try dsimp only); refine State.mask_forAll _ _ _ _ fun _ _ => ?_; (repeat' split) <;> simp (maxDischargeDepth := 9) only [↓State.modAxis_mask, ↓State.stopAxis_mask, ↓State.fellSince_mask, ↓State.blazeFire_mask, ↓State.compareAll_mask, ↓State.gapUpdate_mask, ↓State.homeEval_mask, ↓State.saturate_mask, ↓State.mask_ite, ite_self, implies_true, ↓State.mask_forAll, h0, h1, h2, h3, h4, h5, h6, h7, h8]; done)
    | ((try dsimp only); refine (State.mask_forAll _ _ _ _ fun _ _ => ?_).trans ?_ <;> (repeat' split) <;> simp (maxDischargeDepth := 9) only [↓State.modAxis_mask, ↓State.stopAxis_mask, ↓State.fellSince_mask, ↓State.blazeFire_mask, ↓State.compareAll_mask, ↓State.gapUpdate_mask, ↓State.homeEval_mask, ↓State.saturate_mask, ↓State.mask_ite, ite_self, implies_true, ↓State.mask_forAll, h0, h1, h2, h3, h4, h5, h6, h7, h8]; done)

end Sys2Proof.Machine
end

