-- ==== Sys2Proof/Laws/FrameEngineOps.lean ====
section
/-! SUPPORT. What each operation of Machine/EngineOps.lean can change: it keeps every part of the state that it is not named to change. -/

set_option linter.unusedSimpArgs false

namespace Sys2Proof.Machine

theorem State.modBank_mask (k : Part → Bool) (s : State) (f : Bank → Bank) (h0 : k .eng = false) :
    (State.modBank s f).mask k = s.mask k := by
  unfold State.modBank
  first
    | (simp (maxDischargeDepth := 9) only [↓State.modEng_mask, ↓State.mask_ite, ite_self, implies_true, h0]; done)
    | ((try dsimp only); (repeat' split) <;> first | (simp (maxDischargeDepth := 9) only [↓State.modEng_mask, ↓State.mask_ite, ite_self, implies_true, h0]; done) | (simp_all (maxDischargeDepth := 9) only [↓State.modEng_mask, ↓State.mask_ite, ite_self, implies_true, h0]; done))

theorem State.putR_mask (k : Part → Bool) (s : State) (r : Reg) (w : Word) (h0 : k .eng = false) :
    (State.putR s r w).mask k = s.mask k := by
  unfold State.putR
  first
    | (simp (maxDischargeDepth := 9) only [↓State.modBank_mask, ↓State.mask_ite, ite_self, implies_true, h0]; done)
    | ((try dsimp only); (repeat' split) <;> first | (simp (maxDischargeDepth := 9) only [↓State.modBank_mask, ↓State.mask_ite, ite_self, implies_true, h0]; done) | (simp_all (maxDischargeDepth := 9) only [↓State.modBank_mask, ↓State.mask_ite, ite_self, implies_true, h0]; done))

theorem State.retire_mask (k : Part → Bool) (s : State) (cycles : Nat) (h0 : k .mono = false) (h1 : k .eng = false) :
    (State.retire s cycles).mask k = s.mask k := by
  unfold State.retire
  first
    | (simp (maxDischargeDepth := 9) only [↓State.modEng_mask, ↓State.pass_mask, ↓State.modBank_mask, ↓State.mask_ite, ite_self, implies_true, h0, h1]; done)
    | ((try dsimp only); (repeat' split) <;> first | (simp (maxDischargeDepth := 9) only [↓State.modEng_mask, ↓State.pass_mask, ↓State.modBank_mask, ↓State.mask_ite, ite_self, implies_true, h0, h1]; done) | (simp_all (maxDischargeDepth := 9) only [↓State.modEng_mask, ↓State.pass_mask, ↓State.modBank_mask, ↓State.mask_ite, ite_self, implies_true, h0, h1]; done))

theorem State.insn_mask (k : Part → Bool) (s : State) (cycles : Nat) (f : State → State) (h0 : k .mono = false) (h1 : k .eng = false)
    (hf : ∀ s, (f s).mask k = s.mask k) : (State.insn s cycles f).mask k = s.mask k := by
  unfold State.insn
  split
  · rw [hf, State.retire_mask k _ _ h0 h1]
  · rfl

theorem State.bankOp_mask (k : Part → Bool) (s : State) (cycles : Nat) (f : Bank → Bank) (h0 : k .mono = false) (h1 : k .eng = false) :
    (State.bankOp s cycles f).mask k = s.mask k := by
  unfold State.bankOp
  first
    | (simp (maxDischargeDepth := 9) only [↓State.modBank_mask, ↓State.insn_mask, ↓State.mask_ite, ite_self, implies_true, h0, h1]; done)
    | ((try dsimp only); (repeat' split) <;> first | (simp (maxDischargeDepth := 9) only [↓State.modBank_mask, ↓State.insn_mask, ↓State.mask_ite, ite_self, implies_true, h0, h1]; done) | (simp_all (maxDischargeDepth := 9) only [↓State.modBank_mask, ↓State.insn_mask, ↓State.mask_ite, ite_self, implies_true, h0, h1]; done))
    | ((try dsimp only); refine State.insn_mask _ _ _ _ h0 h1 fun _ => ?_; (try dsimp only); (repeat' split) <;> simp (maxDischargeDepth := 9) only [↓State.modBank_mask, ↓State.insn_mask, ↓State.mask_ite, ite_self, implies_true, h0, h1]; done)

theorem State.setQuad_mask (k : Part → Bool) (s : State) (t : BitVec 14) (q : Quad) (h0 : k .mem = false) :
    (State.setQuad s t q).mask k = s.mask k := by
  unfold State.setQuad
  first
    | (simp (maxDischargeDepth := 9) only [↓State.setWord_mask, ↓State.mask_ite, ite_self, implies_true, h0]; done)
    | ((try dsimp only); (repeat' split) <;> first | (simp (maxDischargeDepth := 9) only [↓State.setWord_mask, ↓State.mask_ite, ite_self, implies_true, h0]; done) | (simp_all (maxDischargeDepth := 9) only [↓State.setWord_mask, ↓State.mask_ite, ite_self, implies_true, h0]; done))

theorem State.modMode_mask (k : Part → Bool) (s : State) (f : SysMode → SysMode) (h0 : k .eng = false) :
    (State.modMode s f).mask k = s.mask k := by
  unfold State.modMode
  first
    | (simp (maxDischargeDepth := 9) only [↓State.modSys_mask, ↓State.mask_ite, ite_self, implies_true, h0]; done)
    | ((try dsimp only); (repeat' split) <;> first | (simp (maxDischargeDepth := 9) only [↓State.modSys_mask, ↓State.mask_ite, ite_self, implies_true, h0]; done) | (simp_all (maxDischargeDepth := 9) only [↓State.modSys_mask, ↓State.mask_ite, ite_self, implies_true, h0]; done))

theorem State.discardStaged_mask (k : Part → Bool) (s : State) (h0 : k .axes = false) (h1 : k .portals = false) (h2 : k .ls = false) (h3 : k .kerf = false) :
    (State.discardStaged s).mask k = s.mask k := by
  unfold State.discardStaged
  first
    | (simp (maxDischargeDepth := 9) only [↓State.mask_with_axes, ↓State.mask_with_portals, ↓State.mask_with_ls, ↓State.mask_with_kerf, ↓State.mask_ite, ite_self, implies_true, h0, h1, h2, h3]; done)
    | ((try dsimp only); (repeat' split) <;> first | (simp (maxDischargeDepth := 9) only [↓State.mask_with_axes, ↓State.mask_with_portals, ↓State.mask_with_ls, ↓State.mask_with_kerf, ↓State.mask_ite, ite_self, implies_true, h0, h1, h2, h3]; done) | (simp_all (maxDischargeDepth := 9) only [↓State.mask_with_axes, ↓State.mask_with_portals, ↓State.mask_with_ls, ↓State.mask_with_kerf, ↓State.mask_ite, ite_self, implies_true, h0, h1, h2, h3]; done))
    | (simp only [State.mask, Bool.false_eq_true, ↓reduceIte, h0, h1, h2, h3]; done)
    | (simp (maxDischargeDepth := 9) only [↓State.mask_with_axes, ↓State.mask_with_portals, ↓State.mask_with_ls, ↓State.mask_with_kerf, ↓State.mask_ite, ite_self, implies_true, h0, h1, h2, h3]; simp only [State.mask, Bool.false_eq_true, ↓reduceIte, h0, h1, h2, h3]; done)

theorem State.abortMoves_mask (k : Part → Bool) (s : State) (h0 : k .mem = false) (h1 : k .eng = false) :
    (State.abortMoves s).mask k = s.mask k := by
  unfold State.abortMoves
  first
    | (simp (maxDischargeDepth := 9) only [↓State.modEng_mask, ↓State.setWord_mask, ↓State.mask_ite, ite_self, implies_true, ↓State.mask_forAll, h0, h1]; done)
    | ((try dsimp only); (repeat' split) <;> first | (simp (maxDischargeDepth := 9) only [↓State.modEng_mask, ↓State.setWord_mask, ↓State.mask_ite, ite_self, implies_true, ↓State.mask_forAll, h0, h1]; done) | (simp_all (maxDischargeDepth := 9) only [↓State.modEng_mask, ↓State.setWord_mask, ↓State.mask_ite, ite_self, implies_true, ↓State.mask_forAll, h0, h1]; done))
    | ((try dsimp only); refine State.mask_forAll _ _ _ _ fun _ _ => ?_; (repeat' split) <;> simp (maxDischargeDepth := 9) only [↓State.modEng_mask, ↓State.setWord_mask, ↓State.mask_ite, ite_self, implies_true, ↓State.mask_forAll, h0, h1]; done)
    | ((try dsimp only); refine (State.mask_forAll _ _ _ _ fun _ _ => ?_).trans ?_ <;> (repeat' split) <;> simp (maxDischargeDepth := 9) only [↓State.modEng_mask, ↓State.setWord_mask, ↓State.mask_ite, ite_self, implies_true, ↓State.mask_forAll, h0, h1]; done)

theorem State.saveRetain_mask (k : Part → Bool) (s : State) (h0 : k .eng = false) :
    (State.saveRetain s).mask k = s.mask k := by
  unfold State.saveRetain
  first
    | (simp (maxDischargeDepth := 9) only [↓State.modEng_mask, ↓State.mask_ite, ite_self, implies_true, h0]; done)
    | ((try dsimp only); (repeat' split) <;> first | (simp (maxDischargeDepth := 9) only [↓State.modEng_mask, ↓State.mask_ite, ite_self, implies_true, h0]; done) | (simp_all (maxDischargeDepth := 9) only [↓State.modEng_mask, ↓State.mask_ite, ite_self, implies_true, h0]; done))

theorem State.enterStop_mask (k : Part → Bool) (s : State) (cause : BitVec 4) (h0 : k .mem = false) (h1 : k .eng = false) (h2 : k .tally = false) (h3 : k .axes = false) (h4 : k .portals = false) (h5 : k .ls = false) (h6 : k .kerf = false) (h7 : k .jnl = false) :
    (State.enterStop s cause).mask k = s.mask k := by
  unfold State.enterStop
  first
    | (simp (maxDischargeDepth := 9) only [↓State.modAxis_mask, ↓State.modEng_mask, ↓State.modLs_mask, ↓State.event_mask, ↓State.flush_mask, ↓State.lsEval_mask, ↓State.stopAxis_mask, ↓State.redeliver_mask, ↓State.discardStaged_mask, ↓State.abortMoves_mask, ↓State.saveRetain_mask, ↓State.mask_ite, ite_self, implies_true, ↓State.mask_forAll, h0, h1, h2, h3, h4, h5, h6, h7]; done)
    | ((try dsimp only); (repeat' split) <;> first | (simp (maxDischargeDepth := 9) only [↓State.modAxis_mask, ↓State.modEng_mask, ↓State.modLs_mask, ↓State.event_mask, ↓State.flush_mask, ↓State.lsEval_mask, ↓State.stopAxis_mask, ↓State.redeliver_mask, ↓State.discardStaged_mask, ↓State.abortMoves_mask, ↓State.saveRetain_mask, ↓State.mask_ite, ite_self, implies_true, ↓State.mask_forAll, h0, h1, h2, h3, h4, h5, h6, h7]; done) | (simp_all (maxDischargeDepth := 9) only [↓State.modAxis_mask, ↓State.modEng_mask, ↓State.modLs_mask, ↓State.event_mask, ↓State.flush_mask, ↓State.lsEval_mask, ↓State.stopAxis_mask, ↓State.redeliver_mask, ↓State.discardStaged_mask, ↓State.abortMoves_mask, ↓State.saveRetain_mask, ↓State.mask_ite, ite_self, implies_true, ↓State.mask_forAll, h0, h1, h2, h3, h4, h5, h6, h7]; done))
    | ((try dsimp only); refine State.mask_forAll _ _ _ _ fun _ _ => ?_; (repeat' split) <;> simp (maxDischargeDepth := 9) only [↓State.modAxis_mask, ↓State.modEng_mask, ↓State.modLs_mask, ↓State.event_mask, ↓State.flush_mask, ↓State.lsEval_mask, ↓State.stopAxis_mask, ↓State.redeliver_mask, ↓State.discardStaged_mask, ↓State.abortMoves_mask, ↓State.saveRetain_mask, ↓State.mask_ite, ite_self, implies_true, ↓State.mask_forAll, h0, h1, h2, h3, h4, h5, h6, h7]; done)
    | ((try dsimp only); refine (State.mask_forAll _ _ _ _ fun _ _ => ?_).trans ?_ <;> (repeat' split) <;> simp (maxDischargeDepth := 9) only [↓State.modAxis_mask, ↓State.modEng_mask, ↓State.modLs_mask, ↓State.event_mask, ↓State.flush_mask, ↓State.lsEval_mask, ↓State.stopAxis_mask, ↓State.redeliver_mask, ↓State.discardStaged_mask, ↓State.abortMoves_mask, ↓State.saveRetain_mask, ↓State.mask_ite, ite_self, implies_true, ↓State.mask_forAll, h0, h1, h2, h3, h4, h5, h6, h7]; done)

theorem State.enterHold_mask (k : Part → Bool) (s : State) (h0 : k .eng = false) (h1 : k .axes = false) (h2 : k .portals = false) :
    (State.enterHold s).mask k = s.mask k := by
  unfold State.enterHold
  first
    | (simp (maxDischargeDepth := 9) only [↓State.modEng_mask, ↓State.haltAxis_mask, ↓State.modMode_mask, ↓State.mask_ite, ite_self, implies_true, ↓State.mask_forAll, h0, h1, h2]; done)
    | ((try dsimp only); (repeat' split) <;> first | (simp (maxDischargeDepth := 9) only [↓State.modEng_mask, ↓State.haltAxis_mask, ↓State.modMode_mask, ↓State.mask_ite, ite_self, implies_true, ↓State.mask_forAll, h0, h1, h2]; done) | (simp_all (maxDischargeDepth := 9) only [↓State.modEng_mask, ↓State.haltAxis_mask, ↓State.modMode_mask, ↓State.mask_ite, ite_self, implies_true, ↓State.mask_forAll, h0, h1, h2]; done))
    | ((try dsimp only); refine State.mask_forAll _ _ _ _ fun _ _ => ?_; (repeat' split) <;> simp (maxDischargeDepth := 9) only [↓State.modEng_mask, ↓State.haltAxis_mask, ↓State.modMode_mask, ↓State.mask_ite, ite_self, implies_true, ↓State.mask_forAll, h0, h1, h2]; done)
    | ((try dsimp only); refine (State.mask_forAll _ _ _ _ fun _ _ => ?_).trans ?_ <;> (repeat' split) <;> simp (maxDischargeDepth := 9) only [↓State.modEng_mask, ↓State.haltAxis_mask, ↓State.modMode_mask, ↓State.mask_ite, ite_self, implies_true, ↓State.mask_forAll, h0, h1, h2]; done)

theorem State.resume_mask (k : Part → Bool) (s : State) (h0 : k .eng = false) :
    (State.resume s).mask k = s.mask k := by
  unfold State.resume
  first
    | (simp (maxDischargeDepth := 9) only [↓State.modEng_mask, ↓State.modMode_mask, ↓State.mask_ite, ite_self, implies_true, h0]; done)
    | ((try dsimp only); (repeat' split) <;> first | (simp (maxDischargeDepth := 9) only [↓State.modEng_mask, ↓State.modMode_mask, ↓State.mask_ite, ite_self, implies_true, h0]; done) | (simp_all (maxDischargeDepth := 9) only [↓State.modEng_mask, ↓State.modMode_mask, ↓State.mask_ite, ite_self, implies_true, h0]; done))

theorem State.coldLoad_mask (k : Part → Bool) (s : State) (h0 : k .mem = false) :
    (State.coldLoad s).mask k = s.mask k := by
  unfold State.coldLoad
  first
    | (simp (maxDischargeDepth := 9) only [↓State.setBytes_mask, ↓State.setQuad_mask, ↓State.mask_with_mem, ↓State.mask_ite, ite_self, implies_true, ↓State.mask_forAll, h0]; done)
    | ((try dsimp only); (repeat' split) <;> first | (simp (maxDischargeDepth := 9) only [↓State.setBytes_mask, ↓State.setQuad_mask, ↓State.mask_with_mem, ↓State.mask_ite, ite_self, implies_true, ↓State.mask_forAll, h0]; done) | (simp_all (maxDischargeDepth := 9) only [↓State.setBytes_mask, ↓State.setQuad_mask, ↓State.mask_with_mem, ↓State.mask_ite, ite_self, implies_true, ↓State.mask_forAll, h0]; done))
    | (simp only [State.mask, Bool.false_eq_true, ↓reduceIte, h0]; done)
    | (simp (maxDischargeDepth := 9) only [↓State.setBytes_mask, ↓State.setQuad_mask, ↓State.mask_with_mem, ↓State.mask_ite, ite_self, implies_true, ↓State.mask_forAll, h0]; simp only [State.mask, Bool.false_eq_true, ↓reduceIte, h0]; done)
    | ((try dsimp only); refine State.mask_forAll _ _ _ _ fun _ _ => ?_; (repeat' split) <;> simp (maxDischargeDepth := 9) only [↓State.setBytes_mask, ↓State.setQuad_mask, ↓State.mask_with_mem, ↓State.mask_ite, ite_self, implies_true, ↓State.mask_forAll, h0]; done)
    | ((try dsimp only); refine (State.mask_forAll _ _ _ _ fun _ _ => ?_).trans ?_ <;> (repeat' split) <;> simp (maxDischargeDepth := 9) only [↓State.setBytes_mask, ↓State.setQuad_mask, ↓State.mask_with_mem, ↓State.mask_ite, ite_self, implies_true, ↓State.mask_forAll, h0]; done)

theorem State.rampLast_mask (k : Part → Bool) (s : State) (h0 : k .mem = false) :
    (State.rampLast s).mask k = s.mask k := by
  unfold State.rampLast
  first
    | (simp (maxDischargeDepth := 9) only [↓State.setQuad_mask, ↓State.mask_ite, ite_self, implies_true, ↓State.mask_forAll, h0]; done)
    | ((try dsimp only); (repeat' split) <;> first | (simp (maxDischargeDepth := 9) only [↓State.setQuad_mask, ↓State.mask_ite, ite_self, implies_true, ↓State.mask_forAll, h0]; done) | (simp_all (maxDischargeDepth := 9) only [↓State.setQuad_mask, ↓State.mask_ite, ite_self, implies_true, ↓State.mask_forAll, h0]; done))
    | ((try dsimp only); refine State.mask_forAll _ _ _ _ fun _ _ => ?_; (repeat' split) <;> simp (maxDischargeDepth := 9) only [↓State.setQuad_mask, ↓State.mask_ite, ite_self, implies_true, ↓State.mask_forAll, h0]; done)
    | ((try dsimp only); refine (State.mask_forAll _ _ _ _ fun _ _ => ?_).trans ?_ <;> (repeat' split) <;> simp (maxDischargeDepth := 9) only [↓State.setQuad_mask, ↓State.mask_ite, ite_self, implies_true, ↓State.mask_forAll, h0]; done)

theorem State.loadSafeOut_mask (k : Part → Bool) (s : State) (h0 : k .mem = false) :
    (State.loadSafeOut s).mask k = s.mask k := by
  unfold State.loadSafeOut
  first
    | (simp (maxDischargeDepth := 9) only [↓State.setBytes_mask, ↓State.mask_with_mem, ↓State.mask_ite, ite_self, implies_true, h0]; done)
    | ((try dsimp only); (repeat' split) <;> first | (simp (maxDischargeDepth := 9) only [↓State.setBytes_mask, ↓State.mask_with_mem, ↓State.mask_ite, ite_self, implies_true, h0]; done) | (simp_all (maxDischargeDepth := 9) only [↓State.setBytes_mask, ↓State.mask_with_mem, ↓State.mask_ite, ite_self, implies_true, h0]; done))
    | (simp only [State.mask, Bool.false_eq_true, ↓reduceIte, h0]; done)
    | (simp (maxDischargeDepth := 9) only [↓State.setBytes_mask, ↓State.mask_with_mem, ↓State.mask_ite, ite_self, implies_true, h0]; simp only [State.mask, Bool.false_eq_true, ↓reduceIte, h0]; done)

theorem State.enterRun_mask (k : Part → Bool) (s : State) (cold : Bool) (h0 : k .mem = false) (h1 : k .eng = false) (h2 : k .axes = false) (h3 : k .portals = false) (h4 : k .ls = false) (h5 : k .fio = false) :
    (State.enterRun s cold).mask k = s.mask k := by
  unfold State.enterRun
  first
    | (simp (maxDischargeDepth := 9) only [↓State.modAxis_mask, ↓State.modEng_mask, ↓State.modLs_mask, ↓State.lsEval_mask, ↓State.bridgeEval_mask, ↓State.coldLoad_mask, ↓State.rampLast_mask, ↓State.loadSafeOut_mask, ↓State.mask_with_mem, ↓State.mask_with_eng, ↓State.mask_with_axes, ↓State.mask_with_portals, ↓State.mask_with_ls, ↓State.mask_with_fio, ↓State.mask_ite, ite_self, implies_true, ↓State.mask_forAll, h0, h1, h2, h3, h4, h5]; done)
    | ((try dsimp only); (repeat' split) <;> first | (simp (maxDischargeDepth := 9) only [↓State.modAxis_mask, ↓State.modEng_mask, ↓State.modLs_mask, ↓State.lsEval_mask, ↓State.bridgeEval_mask, ↓State.coldLoad_mask, ↓State.rampLast_mask, ↓State.loadSafeOut_mask, ↓State.mask_with_mem, ↓State.mask_with_eng, ↓State.mask_with_axes, ↓State.mask_with_portals, ↓State.mask_with_ls, ↓State.mask_with_fio, ↓State.mask_ite, ite_self, implies_true, ↓State.mask_forAll, h0, h1, h2, h3, h4, h5]; done) | (simp_all (maxDischargeDepth := 9) only [↓State.modAxis_mask, ↓State.modEng_mask, ↓State.modLs_mask, ↓State.lsEval_mask, ↓State.bridgeEval_mask, ↓State.coldLoad_mask, ↓State.rampLast_mask, ↓State.loadSafeOut_mask, ↓State.mask_with_mem, ↓State.mask_with_eng, ↓State.mask_with_axes, ↓State.mask_with_portals, ↓State.mask_with_ls, ↓State.mask_with_fio, ↓State.mask_ite, ite_self, implies_true, ↓State.mask_forAll, h0, h1, h2, h3, h4, h5]; done))
    | (simp only [State.mask, Bool.false_eq_true, ↓reduceIte, h0, h1, h2, h3, h4, h5]; done)
    | (simp (maxDischargeDepth := 9) only [↓State.modAxis_mask, ↓State.modEng_mask, ↓State.modLs_mask, ↓State.lsEval_mask, ↓State.bridgeEval_mask, ↓State.coldLoad_mask, ↓State.rampLast_mask, ↓State.loadSafeOut_mask, ↓State.mask_with_mem, ↓State.mask_with_eng, ↓State.mask_with_axes, ↓State.mask_with_portals, ↓State.mask_with_ls, ↓State.mask_with_fio, ↓State.mask_ite, ite_self, implies_true, ↓State.mask_forAll, h0, h1, h2, h3, h4, h5]; simp only [State.mask, Bool.false_eq_true, ↓reduceIte, h0, h1, h2, h3, h4, h5]; done)
    | ((try dsimp only); refine State.mask_forAll _ _ _ _ fun _ _ => ?_; (repeat' split) <;> simp (maxDischargeDepth := 9) only [↓State.modAxis_mask, ↓State.modEng_mask, ↓State.modLs_mask, ↓State.lsEval_mask, ↓State.bridgeEval_mask, ↓State.coldLoad_mask, ↓State.rampLast_mask, ↓State.loadSafeOut_mask, ↓State.mask_with_mem, ↓State.mask_with_eng, ↓State.mask_with_axes, ↓State.mask_with_portals, ↓State.mask_with_ls, ↓State.mask_with_fio, ↓State.mask_ite, ite_self, implies_true, ↓State.mask_forAll, h0, h1, h2, h3, h4, h5]; done)
    | ((try dsimp only); refine (State.mask_forAll _ _ _ _ fun _ _ => ?_).trans ?_ <;> (repeat' split) <;> simp (maxDischargeDepth := 9) only [↓State.modAxis_mask, ↓State.modEng_mask, ↓State.modLs_mask, ↓State.lsEval_mask, ↓State.bridgeEval_mask, ↓State.coldLoad_mask, ↓State.rampLast_mask, ↓State.loadSafeOut_mask, ↓State.mask_with_mem, ↓State.mask_with_eng, ↓State.mask_with_axes, ↓State.mask_with_portals, ↓State.mask_with_ls, ↓State.mask_with_fio, ↓State.mask_ite, ite_self, implies_true, ↓State.mask_forAll, h0, h1, h2, h3, h4, h5]; done)

end Sys2Proof.Machine
end

