-- ==== Sys2Proof/Laws/FrameOperands.lean ====
section
/-! SUPPORT. What each operation of Machine/Operands.lean can change: it keeps every part of the state that it is not named to change. -/

set_option linter.unusedSimpArgs false

namespace Sys2Proof.Machine

theorem State.alu_mask (k : Part → Bool) (s : State) (cycles : Nat) (d a b : Reg) (f : Bank → Word → Word → Alu) (h0 : k .mono = false) (h1 : k .eng = false) :
    (State.alu s cycles d a b f).mask k = s.mask k := by
  unfold State.alu
  first
    | (simp (maxDischargeDepth := 9) only [↓State.bankOp_mask, ↓State.mask_ite, ite_self, implies_true, h0, h1]; done)
    | ((try dsimp only); (repeat' split) <;> first | (simp (maxDischargeDepth := 9) only [↓State.bankOp_mask, ↓State.mask_ite, ite_self, implies_true, h0, h1]; done) | (simp_all (maxDischargeDepth := 9) only [↓State.bankOp_mask, ↓State.mask_ite, ite_self, implies_true, h0, h1]; done))

theorem State.logic_mask (k : Part → Bool) (s : State) (cycles : Nat) (d a b : Reg) (f : Word → Word → Word) (h0 : k .mono = false) (h1 : k .eng = false) :
    (State.logic s cycles d a b f).mask k = s.mask k := by
  unfold State.logic
  first
    | (simp (maxDischargeDepth := 9) only [↓State.bankOp_mask, ↓State.mask_ite, ite_self, implies_true, h0, h1]; done)
    | ((try dsimp only); (repeat' split) <;> first | (simp (maxDischargeDepth := 9) only [↓State.bankOp_mask, ↓State.mask_ite, ite_self, implies_true, h0, h1]; done) | (simp_all (maxDischargeDepth := 9) only [↓State.bankOp_mask, ↓State.mask_ite, ite_self, implies_true, h0, h1]; done))

theorem State.aluV_mask (k : Part → Bool) (s : State) (cycles : Nat) (d a b : Reg) (f : Word → Word → Alu) (h0 : k .mono = false) (h1 : k .eng = false) :
    (State.aluV s cycles d a b f).mask k = s.mask k := by
  unfold State.aluV
  first
    | (simp (maxDischargeDepth := 9) only [↓State.bankOp_mask, ↓State.mask_ite, ite_self, implies_true, h0, h1]; done)
    | ((try dsimp only); (repeat' split) <;> first | (simp (maxDischargeDepth := 9) only [↓State.bankOp_mask, ↓State.mask_ite, ite_self, implies_true, h0, h1]; done) | (simp_all (maxDischargeDepth := 9) only [↓State.bankOp_mask, ↓State.mask_ite, ite_self, implies_true, h0, h1]; done))

theorem State.shiftOp_mask (k : Part → Bool) (s : State) (d a : Reg) (t : Shift) (n : Bank → Nat) (h0 : k .mono = false) (h1 : k .eng = false) :
    (State.shiftOp s d a t n).mask k = s.mask k := by
  unfold State.shiftOp
  first
    | (simp (maxDischargeDepth := 9) only [↓State.bankOp_mask, ↓State.mask_ite, ite_self, implies_true, h0, h1]; done)
    | ((try dsimp only); (repeat' split) <;> first | (simp (maxDischargeDepth := 9) only [↓State.bankOp_mask, ↓State.mask_ite, ite_self, implies_true, h0, h1]; done) | (simp_all (maxDischargeDepth := 9) only [↓State.bankOp_mask, ↓State.mask_ite, ite_self, implies_true, h0, h1]; done))

theorem State.contact_mask (k : Part → Bool) (s : State) (cycles : Nat) (x : Bank → Bool) (f : Bool → Bool → Bool) (h0 : k .mono = false) (h1 : k .eng = false) :
    (State.contact s cycles x f).mask k = s.mask k := by
  unfold State.contact
  first
    | (simp (maxDischargeDepth := 9) only [↓State.bankOp_mask, ↓State.mask_ite, ite_self, implies_true, h0, h1]; done)
    | ((try dsimp only); (repeat' split) <;> first | (simp (maxDischargeDepth := 9) only [↓State.bankOp_mask, ↓State.mask_ite, ite_self, implies_true, h0, h1]; done) | (simp_all (maxDischargeDepth := 9) only [↓State.bankOp_mask, ↓State.mask_ite, ite_self, implies_true, h0, h1]; done))

theorem State.coil_mask (k : Part → Bool) (s : State) (d : Reg) (i : BitIx) (f : Bool → Bool → Bool) (h0 : k .mono = false) (h1 : k .eng = false) :
    (State.coil s d i f).mask k = s.mask k := by
  unfold State.coil
  first
    | (simp (maxDischargeDepth := 9) only [↓State.bankOp_mask, ↓State.mask_ite, ite_self, implies_true, h0, h1]; done)
    | ((try dsimp only); (repeat' split) <;> first | (simp (maxDischargeDepth := 9) only [↓State.bankOp_mask, ↓State.mask_ite, ite_self, implies_true, h0, h1]; done) | (simp_all (maxDischargeDepth := 9) only [↓State.bankOp_mask, ↓State.mask_ite, ite_self, implies_true, h0, h1]; done))

theorem State.putStatus_mask (k : Part → Bool) (s : State) (d : Reg) (w : Word) (h0 : k .eng = false) :
    (State.putStatus s d w).mask k = s.mask k := by
  unfold State.putStatus
  first
    | (simp (maxDischargeDepth := 9) only [↓State.modBank_mask, ↓State.mask_ite, ite_self, implies_true, h0]; done)
    | ((try dsimp only); (repeat' split) <;> first | (simp (maxDischargeDepth := 9) only [↓State.modBank_mask, ↓State.mask_ite, ite_self, implies_true, h0]; done) | (simp_all (maxDischargeDepth := 9) only [↓State.modBank_mask, ↓State.mask_ite, ite_self, implies_true, h0]; done))

end Sys2Proof.Machine
end

