-- ==== Sys2Proof/Laws/State.lean ====
section
/-! SUPPORT. What each update of the state does to each of its fields, and the reads of a unit just written. -/

namespace Sys2Proof.Machine

/-! ### State.modAxis -/

@[simp] theorem State.modAxis_mono (s : State) (i : AxisIx) (f : Axis → Axis) : (s.modAxis i f).mono = s.mono := rfl
@[simp] theorem State.modAxis_tim (s : State) (i : AxisIx) (f : Axis → Axis) : (s.modAxis i f).tim = s.tim := rfl
@[simp] theorem State.modAxis_calBase (s : State) (i : AxisIx) (f : Axis → Axis) : (s.modAxis i f).calBase = s.calBase := rfl
@[simp] theorem State.modAxis_calAt (s : State) (i : AxisIx) (f : Axis → Axis) : (s.modAxis i f).calAt = s.calAt := rfl
@[simp] theorem State.modAxis_slew (s : State) (i : AxisIx) (f : Axis → Axis) : (s.modAxis i f).slew = s.slew := rfl
@[simp] theorem State.modAxis_calPpb (s : State) (i : AxisIx) (f : Axis → Axis) : (s.modAxis i f).calPpb = s.calPpb := rfl
@[simp] theorem State.modAxis_fab (s : State) (i : AxisIx) (f : Axis → Axis) : (s.modAxis i f).fab = s.fab := rfl
@[simp] theorem State.modAxis_latch (s : State) (i : AxisIx) (f : Axis → Axis) : (s.modAxis i f).latch = s.latch := rfl
@[simp] theorem State.modAxis_mem (s : State) (i : AxisIx) (f : Axis → Axis) : (s.modAxis i f).mem = s.mem := rfl
@[simp] theorem State.modAxis_eng (s : State) (i : AxisIx) (f : Axis → Axis) : (s.modAxis i f).eng = s.eng := rfl
@[simp] theorem State.modAxis_tally (s : State) (i : AxisIx) (f : Axis → Axis) : (s.modAxis i f).tally = s.tally := rfl
@[simp] theorem State.modAxis_axes (s : State) (i : AxisIx) (f : Axis → Axis) : (s.modAxis i f).axes = s.axes.set i.val (f (s.axis i)) := rfl
@[simp] theorem State.modAxis_portals (s : State) (i : AxisIx) (f : Axis → Axis) : (s.modAxis i f).portals = s.portals := rfl
@[simp] theorem State.modAxis_fel (s : State) (i : AxisIx) (f : Axis → Axis) : (s.modAxis i f).fel = s.fel := rfl
@[simp] theorem State.modAxis_sde (s : State) (i : AxisIx) (f : Axis → Axis) : (s.modAxis i f).sde = s.sde := rfl
@[simp] theorem State.modAxis_ls (s : State) (i : AxisIx) (f : Axis → Axis) : (s.modAxis i f).ls = s.ls := rfl
@[simp] theorem State.modAxis_lsg (s : State) (i : AxisIx) (f : Axis → Axis) : (s.modAxis i f).lsg = s.lsg := rfl
@[simp] theorem State.modAxis_kerf (s : State) (i : AxisIx) (f : Axis → Axis) : (s.modAxis i f).kerf = s.kerf := rfl
@[simp] theorem State.modAxis_fio (s : State) (i : AxisIx) (f : Axis → Axis) : (s.modAxis i f).fio = s.fio := rfl
@[simp] theorem State.modAxis_safe (s : State) (i : AxisIx) (f : Axis → Axis) : (s.modAxis i f).safe = s.safe := rfl
@[simp] theorem State.modAxis_jnl (s : State) (i : AxisIx) (f : Axis → Axis) : (s.modAxis i f).jnl = s.jnl := rfl
@[simp] theorem State.modAxis_net (s : State) (i : AxisIx) (f : Axis → Axis) : (s.modAxis i f).net = s.net := rfl
@[simp] theorem State.modAxis_lnd (s : State) (i : AxisIx) (f : Axis → Axis) : (s.modAxis i f).lnd = s.lnd := rfl
@[simp] theorem State.modAxis_tru (s : State) (i : AxisIx) (f : Axis → Axis) : (s.modAxis i f).tru = s.tru := rfl
@[simp] theorem State.modAxis_pwr (s : State) (i : AxisIx) (f : Axis → Axis) : (s.modAxis i f).pwr = s.pwr := rfl
@[simp] theorem State.modAxis_boot (s : State) (i : AxisIx) (f : Axis → Axis) : (s.modAxis i f).boot = s.boot := rfl
@[simp] theorem State.modAxis_pending (s : State) (i : AxisIx) (f : Axis → Axis) : (s.modAxis i f).pending = s.pending := rfl
@[simp] theorem State.modAxis_sent (s : State) (i : AxisIx) (f : Axis → Axis) : (s.modAxis i f).sent = s.sent := rfl
@[simp] theorem State.modAxis_freeSeq (s : State) (i : AxisIx) (f : Axis → Axis) : (s.modAxis i f).freeSeq = s.freeSeq := rfl

/-! ### State.modPortal -/

@[simp] theorem State.modPortal_mono (s : State) (p : PortalIx) (f : Portal → Portal) : (s.modPortal p f).mono = s.mono := rfl
@[simp] theorem State.modPortal_tim (s : State) (p : PortalIx) (f : Portal → Portal) : (s.modPortal p f).tim = s.tim := rfl
@[simp] theorem State.modPortal_calBase (s : State) (p : PortalIx) (f : Portal → Portal) : (s.modPortal p f).calBase = s.calBase := rfl
@[simp] theorem State.modPortal_calAt (s : State) (p : PortalIx) (f : Portal → Portal) : (s.modPortal p f).calAt = s.calAt := rfl
@[simp] theorem State.modPortal_slew (s : State) (p : PortalIx) (f : Portal → Portal) : (s.modPortal p f).slew = s.slew := rfl
@[simp] theorem State.modPortal_calPpb (s : State) (p : PortalIx) (f : Portal → Portal) : (s.modPortal p f).calPpb = s.calPpb := rfl
@[simp] theorem State.modPortal_fab (s : State) (p : PortalIx) (f : Portal → Portal) : (s.modPortal p f).fab = s.fab := rfl
@[simp] theorem State.modPortal_latch (s : State) (p : PortalIx) (f : Portal → Portal) : (s.modPortal p f).latch = s.latch := rfl
@[simp] theorem State.modPortal_mem (s : State) (p : PortalIx) (f : Portal → Portal) : (s.modPortal p f).mem = s.mem := rfl
@[simp] theorem State.modPortal_eng (s : State) (p : PortalIx) (f : Portal → Portal) : (s.modPortal p f).eng = s.eng := rfl
@[simp] theorem State.modPortal_tally (s : State) (p : PortalIx) (f : Portal → Portal) : (s.modPortal p f).tally = s.tally := rfl
@[simp] theorem State.modPortal_axes (s : State) (p : PortalIx) (f : Portal → Portal) : (s.modPortal p f).axes = s.axes := rfl
@[simp] theorem State.modPortal_portals (s : State) (p : PortalIx) (f : Portal → Portal) : (s.modPortal p f).portals = s.portals.set p.val (f (s.portal p)) := rfl
@[simp] theorem State.modPortal_fel (s : State) (p : PortalIx) (f : Portal → Portal) : (s.modPortal p f).fel = s.fel := rfl
@[simp] theorem State.modPortal_sde (s : State) (p : PortalIx) (f : Portal → Portal) : (s.modPortal p f).sde = s.sde := rfl
@[simp] theorem State.modPortal_ls (s : State) (p : PortalIx) (f : Portal → Portal) : (s.modPortal p f).ls = s.ls := rfl
@[simp] theorem State.modPortal_lsg (s : State) (p : PortalIx) (f : Portal → Portal) : (s.modPortal p f).lsg = s.lsg := rfl
@[simp] theorem State.modPortal_kerf (s : State) (p : PortalIx) (f : Portal → Portal) : (s.modPortal p f).kerf = s.kerf := rfl
@[simp] theorem State.modPortal_fio (s : State) (p : PortalIx) (f : Portal → Portal) : (s.modPortal p f).fio = s.fio := rfl
@[simp] theorem State.modPortal_safe (s : State) (p : PortalIx) (f : Portal → Portal) : (s.modPortal p f).safe = s.safe := rfl
@[simp] theorem State.modPortal_jnl (s : State) (p : PortalIx) (f : Portal → Portal) : (s.modPortal p f).jnl = s.jnl := rfl
@[simp] theorem State.modPortal_net (s : State) (p : PortalIx) (f : Portal → Portal) : (s.modPortal p f).net = s.net := rfl
@[simp] theorem State.modPortal_lnd (s : State) (p : PortalIx) (f : Portal → Portal) : (s.modPortal p f).lnd = s.lnd := rfl
@[simp] theorem State.modPortal_tru (s : State) (p : PortalIx) (f : Portal → Portal) : (s.modPortal p f).tru = s.tru := rfl
@[simp] theorem State.modPortal_pwr (s : State) (p : PortalIx) (f : Portal → Portal) : (s.modPortal p f).pwr = s.pwr := rfl
@[simp] theorem State.modPortal_boot (s : State) (p : PortalIx) (f : Portal → Portal) : (s.modPortal p f).boot = s.boot := rfl
@[simp] theorem State.modPortal_pending (s : State) (p : PortalIx) (f : Portal → Portal) : (s.modPortal p f).pending = s.pending := rfl
@[simp] theorem State.modPortal_sent (s : State) (p : PortalIx) (f : Portal → Portal) : (s.modPortal p f).sent = s.sent := rfl
@[simp] theorem State.modPortal_freeSeq (s : State) (p : PortalIx) (f : Portal → Portal) : (s.modPortal p f).freeSeq = s.freeSeq := rfl

/-! ### State.modEng -/

@[simp] theorem State.modEng_mono (s : State) (f : Engine → Engine) : (s.modEng f).mono = s.mono := rfl
@[simp] theorem State.modEng_tim (s : State) (f : Engine → Engine) : (s.modEng f).tim = s.tim := rfl
@[simp] theorem State.modEng_calBase (s : State) (f : Engine → Engine) : (s.modEng f).calBase = s.calBase := rfl
@[simp] theorem State.modEng_calAt (s : State) (f : Engine → Engine) : (s.modEng f).calAt = s.calAt := rfl
@[simp] theorem State.modEng_slew (s : State) (f : Engine → Engine) : (s.modEng f).slew = s.slew := rfl
@[simp] theorem State.modEng_calPpb (s : State) (f : Engine → Engine) : (s.modEng f).calPpb = s.calPpb := rfl
@[simp] theorem State.modEng_fab (s : State) (f : Engine → Engine) : (s.modEng f).fab = s.fab := rfl
@[simp] theorem State.modEng_latch (s : State) (f : Engine → Engine) : (s.modEng f).latch = s.latch := rfl
@[simp] theorem State.modEng_mem (s : State) (f : Engine → Engine) : (s.modEng f).mem = s.mem := rfl
@[simp] theorem State.modEng_eng (s : State) (f : Engine → Engine) : (s.modEng f).eng = f s.eng := rfl
@[simp] theorem State.modEng_tally (s : State) (f : Engine → Engine) : (s.modEng f).tally = s.tally := rfl
@[simp] theorem State.modEng_axes (s : State) (f : Engine → Engine) : (s.modEng f).axes = s.axes := rfl
@[simp] theorem State.modEng_portals (s : State) (f : Engine → Engine) : (s.modEng f).portals = s.portals := rfl
@[simp] theorem State.modEng_fel (s : State) (f : Engine → Engine) : (s.modEng f).fel = s.fel := rfl
@[simp] theorem State.modEng_sde (s : State) (f : Engine → Engine) : (s.modEng f).sde = s.sde := rfl
@[simp] theorem State.modEng_ls (s : State) (f : Engine → Engine) : (s.modEng f).ls = s.ls := rfl
@[simp] theorem State.modEng_lsg (s : State) (f : Engine → Engine) : (s.modEng f).lsg = s.lsg := rfl
@[simp] theorem State.modEng_kerf (s : State) (f : Engine → Engine) : (s.modEng f).kerf = s.kerf := rfl
@[simp] theorem State.modEng_fio (s : State) (f : Engine → Engine) : (s.modEng f).fio = s.fio := rfl
@[simp] theorem State.modEng_safe (s : State) (f : Engine → Engine) : (s.modEng f).safe = s.safe := rfl
@[simp] theorem State.modEng_jnl (s : State) (f : Engine → Engine) : (s.modEng f).jnl = s.jnl := rfl
@[simp] theorem State.modEng_net (s : State) (f : Engine → Engine) : (s.modEng f).net = s.net := rfl
@[simp] theorem State.modEng_lnd (s : State) (f : Engine → Engine) : (s.modEng f).lnd = s.lnd := rfl
@[simp] theorem State.modEng_tru (s : State) (f : Engine → Engine) : (s.modEng f).tru = s.tru := rfl
@[simp] theorem State.modEng_pwr (s : State) (f : Engine → Engine) : (s.modEng f).pwr = s.pwr := rfl
@[simp] theorem State.modEng_boot (s : State) (f : Engine → Engine) : (s.modEng f).boot = s.boot := rfl
@[simp] theorem State.modEng_pending (s : State) (f : Engine → Engine) : (s.modEng f).pending = s.pending := rfl
@[simp] theorem State.modEng_sent (s : State) (f : Engine → Engine) : (s.modEng f).sent = s.sent := rfl
@[simp] theorem State.modEng_freeSeq (s : State) (f : Engine → Engine) : (s.modEng f).freeSeq = s.freeSeq := rfl

/-! ### State.modSys -/

@[simp] theorem State.modSys_mono (s : State) (f : Sys → Sys) : (s.modSys f).mono = s.mono := rfl
@[simp] theorem State.modSys_tim (s : State) (f : Sys → Sys) : (s.modSys f).tim = s.tim := rfl
@[simp] theorem State.modSys_calBase (s : State) (f : Sys → Sys) : (s.modSys f).calBase = s.calBase := rfl
@[simp] theorem State.modSys_calAt (s : State) (f : Sys → Sys) : (s.modSys f).calAt = s.calAt := rfl
@[simp] theorem State.modSys_slew (s : State) (f : Sys → Sys) : (s.modSys f).slew = s.slew := rfl
@[simp] theorem State.modSys_calPpb (s : State) (f : Sys → Sys) : (s.modSys f).calPpb = s.calPpb := rfl
@[simp] theorem State.modSys_fab (s : State) (f : Sys → Sys) : (s.modSys f).fab = s.fab := rfl
@[simp] theorem State.modSys_latch (s : State) (f : Sys → Sys) : (s.modSys f).latch = s.latch := rfl
@[simp] theorem State.modSys_mem (s : State) (f : Sys → Sys) : (s.modSys f).mem = s.mem := rfl
@[simp] theorem State.modSys_eng (s : State) (f : Sys → Sys) : (s.modSys f).eng = { s.eng with sys := f s.eng.sys } := rfl
@[simp] theorem State.modSys_tally (s : State) (f : Sys → Sys) : (s.modSys f).tally = s.tally := rfl
@[simp] theorem State.modSys_axes (s : State) (f : Sys → Sys) : (s.modSys f).axes = s.axes := rfl
@[simp] theorem State.modSys_portals (s : State) (f : Sys → Sys) : (s.modSys f).portals = s.portals := rfl
@[simp] theorem State.modSys_fel (s : State) (f : Sys → Sys) : (s.modSys f).fel = s.fel := rfl
@[simp] theorem State.modSys_sde (s : State) (f : Sys → Sys) : (s.modSys f).sde = s.sde := rfl
@[simp] theorem State.modSys_ls (s : State) (f : Sys → Sys) : (s.modSys f).ls = s.ls := rfl
@[simp] theorem State.modSys_lsg (s : State) (f : Sys → Sys) : (s.modSys f).lsg = s.lsg := rfl
@[simp] theorem State.modSys_kerf (s : State) (f : Sys → Sys) : (s.modSys f).kerf = s.kerf := rfl
@[simp] theorem State.modSys_fio (s : State) (f : Sys → Sys) : (s.modSys f).fio = s.fio := rfl
@[simp] theorem State.modSys_safe (s : State) (f : Sys → Sys) : (s.modSys f).safe = s.safe := rfl
@[simp] theorem State.modSys_jnl (s : State) (f : Sys → Sys) : (s.modSys f).jnl = s.jnl := rfl
@[simp] theorem State.modSys_net (s : State) (f : Sys → Sys) : (s.modSys f).net = s.net := rfl
@[simp] theorem State.modSys_lnd (s : State) (f : Sys → Sys) : (s.modSys f).lnd = s.lnd := rfl
@[simp] theorem State.modSys_tru (s : State) (f : Sys → Sys) : (s.modSys f).tru = s.tru := rfl
@[simp] theorem State.modSys_pwr (s : State) (f : Sys → Sys) : (s.modSys f).pwr = s.pwr := rfl
@[simp] theorem State.modSys_boot (s : State) (f : Sys → Sys) : (s.modSys f).boot = s.boot := rfl
@[simp] theorem State.modSys_pending (s : State) (f : Sys → Sys) : (s.modSys f).pending = s.pending := rfl
@[simp] theorem State.modSys_sent (s : State) (f : Sys → Sys) : (s.modSys f).sent = s.sent := rfl
@[simp] theorem State.modSys_freeSeq (s : State) (f : Sys → Sys) : (s.modSys f).freeSeq = s.freeSeq := rfl

/-! ### State.modMode -/

@[simp] theorem State.modMode_mono (s : State) (f : SysMode → SysMode) : (s.modMode f).mono = s.mono := rfl
@[simp] theorem State.modMode_tim (s : State) (f : SysMode → SysMode) : (s.modMode f).tim = s.tim := rfl
@[simp] theorem State.modMode_calBase (s : State) (f : SysMode → SysMode) : (s.modMode f).calBase = s.calBase := rfl
@[simp] theorem State.modMode_calAt (s : State) (f : SysMode → SysMode) : (s.modMode f).calAt = s.calAt := rfl
@[simp] theorem State.modMode_slew (s : State) (f : SysMode → SysMode) : (s.modMode f).slew = s.slew := rfl
@[simp] theorem State.modMode_calPpb (s : State) (f : SysMode → SysMode) : (s.modMode f).calPpb = s.calPpb := rfl
@[simp] theorem State.modMode_fab (s : State) (f : SysMode → SysMode) : (s.modMode f).fab = s.fab := rfl
@[simp] theorem State.modMode_latch (s : State) (f : SysMode → SysMode) : (s.modMode f).latch = s.latch := rfl
@[simp] theorem State.modMode_mem (s : State) (f : SysMode → SysMode) : (s.modMode f).mem = s.mem := rfl
@[simp] theorem State.modMode_eng (s : State) (f : SysMode → SysMode) : (s.modMode f).eng = { s.eng with sys := { s.eng.sys with mode := f s.eng.sys.mode } } := rfl
@[simp] theorem State.modMode_tally (s : State) (f : SysMode → SysMode) : (s.modMode f).tally = s.tally := rfl
@[simp] theorem State.modMode_axes (s : State) (f : SysMode → SysMode) : (s.modMode f).axes = s.axes := rfl
@[simp] theorem State.modMode_portals (s : State) (f : SysMode → SysMode) : (s.modMode f).portals = s.portals := rfl
@[simp] theorem State.modMode_fel (s : State) (f : SysMode → SysMode) : (s.modMode f).fel = s.fel := rfl
@[simp] theorem State.modMode_sde (s : State) (f : SysMode → SysMode) : (s.modMode f).sde = s.sde := rfl
@[simp] theorem State.modMode_ls (s : State) (f : SysMode → SysMode) : (s.modMode f).ls = s.ls := rfl
@[simp] theorem State.modMode_lsg (s : State) (f : SysMode → SysMode) : (s.modMode f).lsg = s.lsg := rfl
@[simp] theorem State.modMode_kerf (s : State) (f : SysMode → SysMode) : (s.modMode f).kerf = s.kerf := rfl
@[simp] theorem State.modMode_fio (s : State) (f : SysMode → SysMode) : (s.modMode f).fio = s.fio := rfl
@[simp] theorem State.modMode_safe (s : State) (f : SysMode → SysMode) : (s.modMode f).safe = s.safe := rfl
@[simp] theorem State.modMode_jnl (s : State) (f : SysMode → SysMode) : (s.modMode f).jnl = s.jnl := rfl
@[simp] theorem State.modMode_net (s : State) (f : SysMode → SysMode) : (s.modMode f).net = s.net := rfl
@[simp] theorem State.modMode_lnd (s : State) (f : SysMode → SysMode) : (s.modMode f).lnd = s.lnd := rfl
@[simp] theorem State.modMode_tru (s : State) (f : SysMode → SysMode) : (s.modMode f).tru = s.tru := rfl
@[simp] theorem State.modMode_pwr (s : State) (f : SysMode → SysMode) : (s.modMode f).pwr = s.pwr := rfl
@[simp] theorem State.modMode_boot (s : State) (f : SysMode → SysMode) : (s.modMode f).boot = s.boot := rfl
@[simp] theorem State.modMode_pending (s : State) (f : SysMode → SysMode) : (s.modMode f).pending = s.pending := rfl
@[simp] theorem State.modMode_sent (s : State) (f : SysMode → SysMode) : (s.modMode f).sent = s.sent := rfl
@[simp] theorem State.modMode_freeSeq (s : State) (f : SysMode → SysMode) : (s.modMode f).freeSeq = s.freeSeq := rfl

/-! ### State.modBank -/

@[simp] theorem State.modBank_mono (s : State) (f : Bank → Bank) : (s.modBank f).mono = s.mono := rfl
@[simp] theorem State.modBank_tim (s : State) (f : Bank → Bank) : (s.modBank f).tim = s.tim := rfl
@[simp] theorem State.modBank_calBase (s : State) (f : Bank → Bank) : (s.modBank f).calBase = s.calBase := rfl
@[simp] theorem State.modBank_calAt (s : State) (f : Bank → Bank) : (s.modBank f).calAt = s.calAt := rfl
@[simp] theorem State.modBank_slew (s : State) (f : Bank → Bank) : (s.modBank f).slew = s.slew := rfl
@[simp] theorem State.modBank_calPpb (s : State) (f : Bank → Bank) : (s.modBank f).calPpb = s.calPpb := rfl
@[simp] theorem State.modBank_fab (s : State) (f : Bank → Bank) : (s.modBank f).fab = s.fab := rfl
@[simp] theorem State.modBank_latch (s : State) (f : Bank → Bank) : (s.modBank f).latch = s.latch := rfl
@[simp] theorem State.modBank_mem (s : State) (f : Bank → Bank) : (s.modBank f).mem = s.mem := rfl
@[simp] theorem State.modBank_eng (s : State) (f : Bank → Bank) : (s.modBank f).eng = { s.eng with banks := s.eng.banks.set s.eng.cur.val (f s.bank) } := rfl
@[simp] theorem State.modBank_tally (s : State) (f : Bank → Bank) : (s.modBank f).tally = s.tally := rfl
@[simp] theorem State.modBank_axes (s : State) (f : Bank → Bank) : (s.modBank f).axes = s.axes := rfl
@[simp] theorem State.modBank_portals (s : State) (f : Bank → Bank) : (s.modBank f).portals = s.portals := rfl
@[simp] theorem State.modBank_fel (s : State) (f : Bank → Bank) : (s.modBank f).fel = s.fel := rfl
@[simp] theorem State.modBank_sde (s : State) (f : Bank → Bank) : (s.modBank f).sde = s.sde := rfl
@[simp] theorem State.modBank_ls (s : State) (f : Bank → Bank) : (s.modBank f).ls = s.ls := rfl
@[simp] theorem State.modBank_lsg (s : State) (f : Bank → Bank) : (s.modBank f).lsg = s.lsg := rfl
@[simp] theorem State.modBank_kerf (s : State) (f : Bank → Bank) : (s.modBank f).kerf = s.kerf := rfl
@[simp] theorem State.modBank_fio (s : State) (f : Bank → Bank) : (s.modBank f).fio = s.fio := rfl
@[simp] theorem State.modBank_safe (s : State) (f : Bank → Bank) : (s.modBank f).safe = s.safe := rfl
@[simp] theorem State.modBank_jnl (s : State) (f : Bank → Bank) : (s.modBank f).jnl = s.jnl := rfl
@[simp] theorem State.modBank_net (s : State) (f : Bank → Bank) : (s.modBank f).net = s.net := rfl
@[simp] theorem State.modBank_lnd (s : State) (f : Bank → Bank) : (s.modBank f).lnd = s.lnd := rfl
@[simp] theorem State.modBank_tru (s : State) (f : Bank → Bank) : (s.modBank f).tru = s.tru := rfl
@[simp] theorem State.modBank_pwr (s : State) (f : Bank → Bank) : (s.modBank f).pwr = s.pwr := rfl
@[simp] theorem State.modBank_boot (s : State) (f : Bank → Bank) : (s.modBank f).boot = s.boot := rfl
@[simp] theorem State.modBank_pending (s : State) (f : Bank → Bank) : (s.modBank f).pending = s.pending := rfl
@[simp] theorem State.modBank_sent (s : State) (f : Bank → Bank) : (s.modBank f).sent = s.sent := rfl
@[simp] theorem State.modBank_freeSeq (s : State) (f : Bank → Bank) : (s.modBank f).freeSeq = s.freeSeq := rfl

/-! ### State.modTally -/

@[simp] theorem State.modTally_mono (s : State) (f : Tally → Tally) : (s.modTally f).mono = s.mono := rfl
@[simp] theorem State.modTally_tim (s : State) (f : Tally → Tally) : (s.modTally f).tim = s.tim := rfl
@[simp] theorem State.modTally_calBase (s : State) (f : Tally → Tally) : (s.modTally f).calBase = s.calBase := rfl
@[simp] theorem State.modTally_calAt (s : State) (f : Tally → Tally) : (s.modTally f).calAt = s.calAt := rfl
@[simp] theorem State.modTally_slew (s : State) (f : Tally → Tally) : (s.modTally f).slew = s.slew := rfl
@[simp] theorem State.modTally_calPpb (s : State) (f : Tally → Tally) : (s.modTally f).calPpb = s.calPpb := rfl
@[simp] theorem State.modTally_fab (s : State) (f : Tally → Tally) : (s.modTally f).fab = s.fab := rfl
@[simp] theorem State.modTally_latch (s : State) (f : Tally → Tally) : (s.modTally f).latch = s.latch := rfl
@[simp] theorem State.modTally_mem (s : State) (f : Tally → Tally) : (s.modTally f).mem = s.mem := rfl
@[simp] theorem State.modTally_eng (s : State) (f : Tally → Tally) : (s.modTally f).eng = s.eng := rfl
@[simp] theorem State.modTally_tally (s : State) (f : Tally → Tally) : (s.modTally f).tally = f s.tally := rfl
@[simp] theorem State.modTally_axes (s : State) (f : Tally → Tally) : (s.modTally f).axes = s.axes := rfl
@[simp] theorem State.modTally_portals (s : State) (f : Tally → Tally) : (s.modTally f).portals = s.portals := rfl
@[simp] theorem State.modTally_fel (s : State) (f : Tally → Tally) : (s.modTally f).fel = s.fel := rfl
@[simp] theorem State.modTally_sde (s : State) (f : Tally → Tally) : (s.modTally f).sde = s.sde := rfl
@[simp] theorem State.modTally_ls (s : State) (f : Tally → Tally) : (s.modTally f).ls = s.ls := rfl
@[simp] theorem State.modTally_lsg (s : State) (f : Tally → Tally) : (s.modTally f).lsg = s.lsg := rfl
@[simp] theorem State.modTally_kerf (s : State) (f : Tally → Tally) : (s.modTally f).kerf = s.kerf := rfl
@[simp] theorem State.modTally_fio (s : State) (f : Tally → Tally) : (s.modTally f).fio = s.fio := rfl
@[simp] theorem State.modTally_safe (s : State) (f : Tally → Tally) : (s.modTally f).safe = s.safe := rfl
@[simp] theorem State.modTally_jnl (s : State) (f : Tally → Tally) : (s.modTally f).jnl = s.jnl := rfl
@[simp] theorem State.modTally_net (s : State) (f : Tally → Tally) : (s.modTally f).net = s.net := rfl
@[simp] theorem State.modTally_lnd (s : State) (f : Tally → Tally) : (s.modTally f).lnd = s.lnd := rfl
@[simp] theorem State.modTally_tru (s : State) (f : Tally → Tally) : (s.modTally f).tru = s.tru := rfl
@[simp] theorem State.modTally_pwr (s : State) (f : Tally → Tally) : (s.modTally f).pwr = s.pwr := rfl
@[simp] theorem State.modTally_boot (s : State) (f : Tally → Tally) : (s.modTally f).boot = s.boot := rfl
@[simp] theorem State.modTally_pending (s : State) (f : Tally → Tally) : (s.modTally f).pending = s.pending := rfl
@[simp] theorem State.modTally_sent (s : State) (f : Tally → Tally) : (s.modTally f).sent = s.sent := rfl
@[simp] theorem State.modTally_freeSeq (s : State) (f : Tally → Tally) : (s.modTally f).freeSeq = s.freeSeq := rfl

/-! ### State.modLs -/

@[simp] theorem State.modLs_mono (s : State) (c : ChanIx) (f : LoadCh → LoadCh) : (s.modLs c f).mono = s.mono := rfl
@[simp] theorem State.modLs_tim (s : State) (c : ChanIx) (f : LoadCh → LoadCh) : (s.modLs c f).tim = s.tim := rfl
@[simp] theorem State.modLs_calBase (s : State) (c : ChanIx) (f : LoadCh → LoadCh) : (s.modLs c f).calBase = s.calBase := rfl
@[simp] theorem State.modLs_calAt (s : State) (c : ChanIx) (f : LoadCh → LoadCh) : (s.modLs c f).calAt = s.calAt := rfl
@[simp] theorem State.modLs_slew (s : State) (c : ChanIx) (f : LoadCh → LoadCh) : (s.modLs c f).slew = s.slew := rfl
@[simp] theorem State.modLs_calPpb (s : State) (c : ChanIx) (f : LoadCh → LoadCh) : (s.modLs c f).calPpb = s.calPpb := rfl
@[simp] theorem State.modLs_fab (s : State) (c : ChanIx) (f : LoadCh → LoadCh) : (s.modLs c f).fab = s.fab := rfl
@[simp] theorem State.modLs_latch (s : State) (c : ChanIx) (f : LoadCh → LoadCh) : (s.modLs c f).latch = s.latch := rfl
@[simp] theorem State.modLs_mem (s : State) (c : ChanIx) (f : LoadCh → LoadCh) : (s.modLs c f).mem = s.mem := rfl
@[simp] theorem State.modLs_eng (s : State) (c : ChanIx) (f : LoadCh → LoadCh) : (s.modLs c f).eng = s.eng := rfl
@[simp] theorem State.modLs_tally (s : State) (c : ChanIx) (f : LoadCh → LoadCh) : (s.modLs c f).tally = s.tally := rfl
@[simp] theorem State.modLs_axes (s : State) (c : ChanIx) (f : LoadCh → LoadCh) : (s.modLs c f).axes = s.axes := rfl
@[simp] theorem State.modLs_portals (s : State) (c : ChanIx) (f : LoadCh → LoadCh) : (s.modLs c f).portals = s.portals := rfl
@[simp] theorem State.modLs_fel (s : State) (c : ChanIx) (f : LoadCh → LoadCh) : (s.modLs c f).fel = s.fel := rfl
@[simp] theorem State.modLs_sde (s : State) (c : ChanIx) (f : LoadCh → LoadCh) : (s.modLs c f).sde = s.sde := rfl
@[simp] theorem State.modLs_ls (s : State) (c : ChanIx) (f : LoadCh → LoadCh) : (s.modLs c f).ls = s.ls.set c.val (f s.ls[c.val]) := rfl
@[simp] theorem State.modLs_lsg (s : State) (c : ChanIx) (f : LoadCh → LoadCh) : (s.modLs c f).lsg = s.lsg := rfl
@[simp] theorem State.modLs_kerf (s : State) (c : ChanIx) (f : LoadCh → LoadCh) : (s.modLs c f).kerf = s.kerf := rfl
@[simp] theorem State.modLs_fio (s : State) (c : ChanIx) (f : LoadCh → LoadCh) : (s.modLs c f).fio = s.fio := rfl
@[simp] theorem State.modLs_safe (s : State) (c : ChanIx) (f : LoadCh → LoadCh) : (s.modLs c f).safe = s.safe := rfl
@[simp] theorem State.modLs_jnl (s : State) (c : ChanIx) (f : LoadCh → LoadCh) : (s.modLs c f).jnl = s.jnl := rfl
@[simp] theorem State.modLs_net (s : State) (c : ChanIx) (f : LoadCh → LoadCh) : (s.modLs c f).net = s.net := rfl
@[simp] theorem State.modLs_lnd (s : State) (c : ChanIx) (f : LoadCh → LoadCh) : (s.modLs c f).lnd = s.lnd := rfl
@[simp] theorem State.modLs_tru (s : State) (c : ChanIx) (f : LoadCh → LoadCh) : (s.modLs c f).tru = s.tru := rfl
@[simp] theorem State.modLs_pwr (s : State) (c : ChanIx) (f : LoadCh → LoadCh) : (s.modLs c f).pwr = s.pwr := rfl
@[simp] theorem State.modLs_boot (s : State) (c : ChanIx) (f : LoadCh → LoadCh) : (s.modLs c f).boot = s.boot := rfl
@[simp] theorem State.modLs_pending (s : State) (c : ChanIx) (f : LoadCh → LoadCh) : (s.modLs c f).pending = s.pending := rfl
@[simp] theorem State.modLs_sent (s : State) (c : ChanIx) (f : LoadCh → LoadCh) : (s.modLs c f).sent = s.sent := rfl
@[simp] theorem State.modLs_freeSeq (s : State) (c : ChanIx) (f : LoadCh → LoadCh) : (s.modLs c f).freeSeq = s.freeSeq := rfl

/-! ### State.modKerf -/

@[simp] theorem State.modKerf_mono (s : State) (p : PortalIx) (f : Kerf → Kerf) : (s.modKerf p f).mono = s.mono := rfl
@[simp] theorem State.modKerf_tim (s : State) (p : PortalIx) (f : Kerf → Kerf) : (s.modKerf p f).tim = s.tim := rfl
@[simp] theorem State.modKerf_calBase (s : State) (p : PortalIx) (f : Kerf → Kerf) : (s.modKerf p f).calBase = s.calBase := rfl
@[simp] theorem State.modKerf_calAt (s : State) (p : PortalIx) (f : Kerf → Kerf) : (s.modKerf p f).calAt = s.calAt := rfl
@[simp] theorem State.modKerf_slew (s : State) (p : PortalIx) (f : Kerf → Kerf) : (s.modKerf p f).slew = s.slew := rfl
@[simp] theorem State.modKerf_calPpb (s : State) (p : PortalIx) (f : Kerf → Kerf) : (s.modKerf p f).calPpb = s.calPpb := rfl
@[simp] theorem State.modKerf_fab (s : State) (p : PortalIx) (f : Kerf → Kerf) : (s.modKerf p f).fab = s.fab := rfl
@[simp] theorem State.modKerf_latch (s : State) (p : PortalIx) (f : Kerf → Kerf) : (s.modKerf p f).latch = s.latch := rfl
@[simp] theorem State.modKerf_mem (s : State) (p : PortalIx) (f : Kerf → Kerf) : (s.modKerf p f).mem = s.mem := rfl
@[simp] theorem State.modKerf_eng (s : State) (p : PortalIx) (f : Kerf → Kerf) : (s.modKerf p f).eng = s.eng := rfl
@[simp] theorem State.modKerf_tally (s : State) (p : PortalIx) (f : Kerf → Kerf) : (s.modKerf p f).tally = s.tally := rfl
@[simp] theorem State.modKerf_axes (s : State) (p : PortalIx) (f : Kerf → Kerf) : (s.modKerf p f).axes = s.axes := rfl
@[simp] theorem State.modKerf_portals (s : State) (p : PortalIx) (f : Kerf → Kerf) : (s.modKerf p f).portals = s.portals := rfl
@[simp] theorem State.modKerf_fel (s : State) (p : PortalIx) (f : Kerf → Kerf) : (s.modKerf p f).fel = s.fel := rfl
@[simp] theorem State.modKerf_sde (s : State) (p : PortalIx) (f : Kerf → Kerf) : (s.modKerf p f).sde = s.sde := rfl
@[simp] theorem State.modKerf_ls (s : State) (p : PortalIx) (f : Kerf → Kerf) : (s.modKerf p f).ls = s.ls := rfl
@[simp] theorem State.modKerf_lsg (s : State) (p : PortalIx) (f : Kerf → Kerf) : (s.modKerf p f).lsg = s.lsg := rfl
@[simp] theorem State.modKerf_kerf (s : State) (p : PortalIx) (f : Kerf → Kerf) : (s.modKerf p f).kerf = s.kerf.set p.val (f s.kerf[p.val]) := rfl
@[simp] theorem State.modKerf_fio (s : State) (p : PortalIx) (f : Kerf → Kerf) : (s.modKerf p f).fio = s.fio := rfl
@[simp] theorem State.modKerf_safe (s : State) (p : PortalIx) (f : Kerf → Kerf) : (s.modKerf p f).safe = s.safe := rfl
@[simp] theorem State.modKerf_jnl (s : State) (p : PortalIx) (f : Kerf → Kerf) : (s.modKerf p f).jnl = s.jnl := rfl
@[simp] theorem State.modKerf_net (s : State) (p : PortalIx) (f : Kerf → Kerf) : (s.modKerf p f).net = s.net := rfl
@[simp] theorem State.modKerf_lnd (s : State) (p : PortalIx) (f : Kerf → Kerf) : (s.modKerf p f).lnd = s.lnd := rfl
@[simp] theorem State.modKerf_tru (s : State) (p : PortalIx) (f : Kerf → Kerf) : (s.modKerf p f).tru = s.tru := rfl
@[simp] theorem State.modKerf_pwr (s : State) (p : PortalIx) (f : Kerf → Kerf) : (s.modKerf p f).pwr = s.pwr := rfl
@[simp] theorem State.modKerf_boot (s : State) (p : PortalIx) (f : Kerf → Kerf) : (s.modKerf p f).boot = s.boot := rfl
@[simp] theorem State.modKerf_pending (s : State) (p : PortalIx) (f : Kerf → Kerf) : (s.modKerf p f).pending = s.pending := rfl
@[simp] theorem State.modKerf_sent (s : State) (p : PortalIx) (f : Kerf → Kerf) : (s.modKerf p f).sent = s.sent := rfl
@[simp] theorem State.modKerf_freeSeq (s : State) (p : PortalIx) (f : Kerf → Kerf) : (s.modKerf p f).freeSeq = s.freeSeq := rfl

/-! ### State.modFel -/

@[simp] theorem State.modFel_mono (s : State) (f : Fel → Fel) : (s.modFel f).mono = s.mono := rfl
@[simp] theorem State.modFel_tim (s : State) (f : Fel → Fel) : (s.modFel f).tim = s.tim := rfl
@[simp] theorem State.modFel_calBase (s : State) (f : Fel → Fel) : (s.modFel f).calBase = s.calBase := rfl
@[simp] theorem State.modFel_calAt (s : State) (f : Fel → Fel) : (s.modFel f).calAt = s.calAt := rfl
@[simp] theorem State.modFel_slew (s : State) (f : Fel → Fel) : (s.modFel f).slew = s.slew := rfl
@[simp] theorem State.modFel_calPpb (s : State) (f : Fel → Fel) : (s.modFel f).calPpb = s.calPpb := rfl
@[simp] theorem State.modFel_fab (s : State) (f : Fel → Fel) : (s.modFel f).fab = s.fab := rfl
@[simp] theorem State.modFel_latch (s : State) (f : Fel → Fel) : (s.modFel f).latch = s.latch := rfl
@[simp] theorem State.modFel_mem (s : State) (f : Fel → Fel) : (s.modFel f).mem = s.mem := rfl
@[simp] theorem State.modFel_eng (s : State) (f : Fel → Fel) : (s.modFel f).eng = s.eng := rfl
@[simp] theorem State.modFel_tally (s : State) (f : Fel → Fel) : (s.modFel f).tally = s.tally := rfl
@[simp] theorem State.modFel_axes (s : State) (f : Fel → Fel) : (s.modFel f).axes = s.axes := rfl
@[simp] theorem State.modFel_portals (s : State) (f : Fel → Fel) : (s.modFel f).portals = s.portals := rfl
@[simp] theorem State.modFel_fel (s : State) (f : Fel → Fel) : (s.modFel f).fel = f s.fel := rfl
@[simp] theorem State.modFel_sde (s : State) (f : Fel → Fel) : (s.modFel f).sde = s.sde := rfl
@[simp] theorem State.modFel_ls (s : State) (f : Fel → Fel) : (s.modFel f).ls = s.ls := rfl
@[simp] theorem State.modFel_lsg (s : State) (f : Fel → Fel) : (s.modFel f).lsg = s.lsg := rfl
@[simp] theorem State.modFel_kerf (s : State) (f : Fel → Fel) : (s.modFel f).kerf = s.kerf := rfl
@[simp] theorem State.modFel_fio (s : State) (f : Fel → Fel) : (s.modFel f).fio = s.fio := rfl
@[simp] theorem State.modFel_safe (s : State) (f : Fel → Fel) : (s.modFel f).safe = s.safe := rfl
@[simp] theorem State.modFel_jnl (s : State) (f : Fel → Fel) : (s.modFel f).jnl = s.jnl := rfl
@[simp] theorem State.modFel_net (s : State) (f : Fel → Fel) : (s.modFel f).net = s.net := rfl
@[simp] theorem State.modFel_lnd (s : State) (f : Fel → Fel) : (s.modFel f).lnd = s.lnd := rfl
@[simp] theorem State.modFel_tru (s : State) (f : Fel → Fel) : (s.modFel f).tru = s.tru := rfl
@[simp] theorem State.modFel_pwr (s : State) (f : Fel → Fel) : (s.modFel f).pwr = s.pwr := rfl
@[simp] theorem State.modFel_boot (s : State) (f : Fel → Fel) : (s.modFel f).boot = s.boot := rfl
@[simp] theorem State.modFel_pending (s : State) (f : Fel → Fel) : (s.modFel f).pending = s.pending := rfl
@[simp] theorem State.modFel_sent (s : State) (f : Fel → Fel) : (s.modFel f).sent = s.sent := rfl
@[simp] theorem State.modFel_freeSeq (s : State) (f : Fel → Fel) : (s.modFel f).freeSeq = s.freeSeq := rfl

/-! ### State.modFio -/

@[simp] theorem State.modFio_mono (s : State) (f : FieldIo → FieldIo) : (s.modFio f).mono = s.mono := rfl
@[simp] theorem State.modFio_tim (s : State) (f : FieldIo → FieldIo) : (s.modFio f).tim = s.tim := rfl
@[simp] theorem State.modFio_calBase (s : State) (f : FieldIo → FieldIo) : (s.modFio f).calBase = s.calBase := rfl
@[simp] theorem State.modFio_calAt (s : State) (f : FieldIo → FieldIo) : (s.modFio f).calAt = s.calAt := rfl
@[simp] theorem State.modFio_slew (s : State) (f : FieldIo → FieldIo) : (s.modFio f).slew = s.slew := rfl
@[simp] theorem State.modFio_calPpb (s : State) (f : FieldIo → FieldIo) : (s.modFio f).calPpb = s.calPpb := rfl
@[simp] theorem State.modFio_fab (s : State) (f : FieldIo → FieldIo) : (s.modFio f).fab = s.fab := rfl
@[simp] theorem State.modFio_latch (s : State) (f : FieldIo → FieldIo) : (s.modFio f).latch = s.latch := rfl
@[simp] theorem State.modFio_mem (s : State) (f : FieldIo → FieldIo) : (s.modFio f).mem = s.mem := rfl
@[simp] theorem State.modFio_eng (s : State) (f : FieldIo → FieldIo) : (s.modFio f).eng = s.eng := rfl
@[simp] theorem State.modFio_tally (s : State) (f : FieldIo → FieldIo) : (s.modFio f).tally = s.tally := rfl
@[simp] theorem State.modFio_axes (s : State) (f : FieldIo → FieldIo) : (s.modFio f).axes = s.axes := rfl
@[simp] theorem State.modFio_portals (s : State) (f : FieldIo → FieldIo) : (s.modFio f).portals = s.portals := rfl
@[simp] theorem State.modFio_fel (s : State) (f : FieldIo → FieldIo) : (s.modFio f).fel = s.fel := rfl
@[simp] theorem State.modFio_sde (s : State) (f : FieldIo → FieldIo) : (s.modFio f).sde = s.sde := rfl
@[simp] theorem State.modFio_ls (s : State) (f : FieldIo → FieldIo) : (s.modFio f).ls = s.ls := rfl
@[simp] theorem State.modFio_lsg (s : State) (f : FieldIo → FieldIo) : (s.modFio f).lsg = s.lsg := rfl
@[simp] theorem State.modFio_kerf (s : State) (f : FieldIo → FieldIo) : (s.modFio f).kerf = s.kerf := rfl
@[simp] theorem State.modFio_fio (s : State) (f : FieldIo → FieldIo) : (s.modFio f).fio = f s.fio := rfl
@[simp] theorem State.modFio_safe (s : State) (f : FieldIo → FieldIo) : (s.modFio f).safe = s.safe := rfl
@[simp] theorem State.modFio_jnl (s : State) (f : FieldIo → FieldIo) : (s.modFio f).jnl = s.jnl := rfl
@[simp] theorem State.modFio_net (s : State) (f : FieldIo → FieldIo) : (s.modFio f).net = s.net := rfl
@[simp] theorem State.modFio_lnd (s : State) (f : FieldIo → FieldIo) : (s.modFio f).lnd = s.lnd := rfl
@[simp] theorem State.modFio_tru (s : State) (f : FieldIo → FieldIo) : (s.modFio f).tru = s.tru := rfl
@[simp] theorem State.modFio_pwr (s : State) (f : FieldIo → FieldIo) : (s.modFio f).pwr = s.pwr := rfl
@[simp] theorem State.modFio_boot (s : State) (f : FieldIo → FieldIo) : (s.modFio f).boot = s.boot := rfl
@[simp] theorem State.modFio_pending (s : State) (f : FieldIo → FieldIo) : (s.modFio f).pending = s.pending := rfl
@[simp] theorem State.modFio_sent (s : State) (f : FieldIo → FieldIo) : (s.modFio f).sent = s.sent := rfl
@[simp] theorem State.modFio_freeSeq (s : State) (f : FieldIo → FieldIo) : (s.modFio f).freeSeq = s.freeSeq := rfl

/-! ### State.modFioReg -/

@[simp] theorem State.modFioReg_mono (s : State) (f : Fio → Fio) : (s.modFioReg f).mono = s.mono := rfl
@[simp] theorem State.modFioReg_tim (s : State) (f : Fio → Fio) : (s.modFioReg f).tim = s.tim := rfl
@[simp] theorem State.modFioReg_calBase (s : State) (f : Fio → Fio) : (s.modFioReg f).calBase = s.calBase := rfl
@[simp] theorem State.modFioReg_calAt (s : State) (f : Fio → Fio) : (s.modFioReg f).calAt = s.calAt := rfl
@[simp] theorem State.modFioReg_slew (s : State) (f : Fio → Fio) : (s.modFioReg f).slew = s.slew := rfl
@[simp] theorem State.modFioReg_calPpb (s : State) (f : Fio → Fio) : (s.modFioReg f).calPpb = s.calPpb := rfl
@[simp] theorem State.modFioReg_fab (s : State) (f : Fio → Fio) : (s.modFioReg f).fab = s.fab := rfl
@[simp] theorem State.modFioReg_latch (s : State) (f : Fio → Fio) : (s.modFioReg f).latch = s.latch := rfl
@[simp] theorem State.modFioReg_mem (s : State) (f : Fio → Fio) : (s.modFioReg f).mem = s.mem := rfl
@[simp] theorem State.modFioReg_eng (s : State) (f : Fio → Fio) : (s.modFioReg f).eng = s.eng := rfl
@[simp] theorem State.modFioReg_tally (s : State) (f : Fio → Fio) : (s.modFioReg f).tally = s.tally := rfl
@[simp] theorem State.modFioReg_axes (s : State) (f : Fio → Fio) : (s.modFioReg f).axes = s.axes := rfl
@[simp] theorem State.modFioReg_portals (s : State) (f : Fio → Fio) : (s.modFioReg f).portals = s.portals := rfl
@[simp] theorem State.modFioReg_fel (s : State) (f : Fio → Fio) : (s.modFioReg f).fel = s.fel := rfl
@[simp] theorem State.modFioReg_sde (s : State) (f : Fio → Fio) : (s.modFioReg f).sde = s.sde := rfl
@[simp] theorem State.modFioReg_ls (s : State) (f : Fio → Fio) : (s.modFioReg f).ls = s.ls := rfl
@[simp] theorem State.modFioReg_lsg (s : State) (f : Fio → Fio) : (s.modFioReg f).lsg = s.lsg := rfl
@[simp] theorem State.modFioReg_kerf (s : State) (f : Fio → Fio) : (s.modFioReg f).kerf = s.kerf := rfl
@[simp] theorem State.modFioReg_fio (s : State) (f : Fio → Fio) : (s.modFioReg f).fio = { s.fio with reg := f s.fio.reg } := rfl
@[simp] theorem State.modFioReg_safe (s : State) (f : Fio → Fio) : (s.modFioReg f).safe = s.safe := rfl
@[simp] theorem State.modFioReg_jnl (s : State) (f : Fio → Fio) : (s.modFioReg f).jnl = s.jnl := rfl
@[simp] theorem State.modFioReg_net (s : State) (f : Fio → Fio) : (s.modFioReg f).net = s.net := rfl
@[simp] theorem State.modFioReg_lnd (s : State) (f : Fio → Fio) : (s.modFioReg f).lnd = s.lnd := rfl
@[simp] theorem State.modFioReg_tru (s : State) (f : Fio → Fio) : (s.modFioReg f).tru = s.tru := rfl
@[simp] theorem State.modFioReg_pwr (s : State) (f : Fio → Fio) : (s.modFioReg f).pwr = s.pwr := rfl
@[simp] theorem State.modFioReg_boot (s : State) (f : Fio → Fio) : (s.modFioReg f).boot = s.boot := rfl
@[simp] theorem State.modFioReg_pending (s : State) (f : Fio → Fio) : (s.modFioReg f).pending = s.pending := rfl
@[simp] theorem State.modFioReg_sent (s : State) (f : Fio → Fio) : (s.modFioReg f).sent = s.sent := rfl
@[simp] theorem State.modFioReg_freeSeq (s : State) (f : Fio → Fio) : (s.modFioReg f).freeSeq = s.freeSeq := rfl

/-! ### State.modSafe -/

@[simp] theorem State.modSafe_mono (s : State) (f : Safety → Safety) : (s.modSafe f).mono = s.mono := rfl
@[simp] theorem State.modSafe_tim (s : State) (f : Safety → Safety) : (s.modSafe f).tim = s.tim := rfl
@[simp] theorem State.modSafe_calBase (s : State) (f : Safety → Safety) : (s.modSafe f).calBase = s.calBase := rfl
@[simp] theorem State.modSafe_calAt (s : State) (f : Safety → Safety) : (s.modSafe f).calAt = s.calAt := rfl
@[simp] theorem State.modSafe_slew (s : State) (f : Safety → Safety) : (s.modSafe f).slew = s.slew := rfl
@[simp] theorem State.modSafe_calPpb (s : State) (f : Safety → Safety) : (s.modSafe f).calPpb = s.calPpb := rfl
@[simp] theorem State.modSafe_fab (s : State) (f : Safety → Safety) : (s.modSafe f).fab = s.fab := rfl
@[simp] theorem State.modSafe_latch (s : State) (f : Safety → Safety) : (s.modSafe f).latch = s.latch := rfl
@[simp] theorem State.modSafe_mem (s : State) (f : Safety → Safety) : (s.modSafe f).mem = s.mem := rfl
@[simp] theorem State.modSafe_eng (s : State) (f : Safety → Safety) : (s.modSafe f).eng = s.eng := rfl
@[simp] theorem State.modSafe_tally (s : State) (f : Safety → Safety) : (s.modSafe f).tally = s.tally := rfl
@[simp] theorem State.modSafe_axes (s : State) (f : Safety → Safety) : (s.modSafe f).axes = s.axes := rfl
@[simp] theorem State.modSafe_portals (s : State) (f : Safety → Safety) : (s.modSafe f).portals = s.portals := rfl
@[simp] theorem State.modSafe_fel (s : State) (f : Safety → Safety) : (s.modSafe f).fel = s.fel := rfl
@[simp] theorem State.modSafe_sde (s : State) (f : Safety → Safety) : (s.modSafe f).sde = s.sde := rfl
@[simp] theorem State.modSafe_ls (s : State) (f : Safety → Safety) : (s.modSafe f).ls = s.ls := rfl
@[simp] theorem State.modSafe_lsg (s : State) (f : Safety → Safety) : (s.modSafe f).lsg = s.lsg := rfl
@[simp] theorem State.modSafe_kerf (s : State) (f : Safety → Safety) : (s.modSafe f).kerf = s.kerf := rfl
@[simp] theorem State.modSafe_fio (s : State) (f : Safety → Safety) : (s.modSafe f).fio = s.fio := rfl
@[simp] theorem State.modSafe_safe (s : State) (f : Safety → Safety) : (s.modSafe f).safe = f s.safe := rfl
@[simp] theorem State.modSafe_jnl (s : State) (f : Safety → Safety) : (s.modSafe f).jnl = s.jnl := rfl
@[simp] theorem State.modSafe_net (s : State) (f : Safety → Safety) : (s.modSafe f).net = s.net := rfl
@[simp] theorem State.modSafe_lnd (s : State) (f : Safety → Safety) : (s.modSafe f).lnd = s.lnd := rfl
@[simp] theorem State.modSafe_tru (s : State) (f : Safety → Safety) : (s.modSafe f).tru = s.tru := rfl
@[simp] theorem State.modSafe_pwr (s : State) (f : Safety → Safety) : (s.modSafe f).pwr = s.pwr := rfl
@[simp] theorem State.modSafe_boot (s : State) (f : Safety → Safety) : (s.modSafe f).boot = s.boot := rfl
@[simp] theorem State.modSafe_pending (s : State) (f : Safety → Safety) : (s.modSafe f).pending = s.pending := rfl
@[simp] theorem State.modSafe_sent (s : State) (f : Safety → Safety) : (s.modSafe f).sent = s.sent := rfl
@[simp] theorem State.modSafe_freeSeq (s : State) (f : Safety → Safety) : (s.modSafe f).freeSeq = s.freeSeq := rfl

/-! ### State.modJnl -/

@[simp] theorem State.modJnl_mono (s : State) (f : Journal → Journal) : (s.modJnl f).mono = s.mono := rfl
@[simp] theorem State.modJnl_tim (s : State) (f : Journal → Journal) : (s.modJnl f).tim = s.tim := rfl
@[simp] theorem State.modJnl_calBase (s : State) (f : Journal → Journal) : (s.modJnl f).calBase = s.calBase := rfl
@[simp] theorem State.modJnl_calAt (s : State) (f : Journal → Journal) : (s.modJnl f).calAt = s.calAt := rfl
@[simp] theorem State.modJnl_slew (s : State) (f : Journal → Journal) : (s.modJnl f).slew = s.slew := rfl
@[simp] theorem State.modJnl_calPpb (s : State) (f : Journal → Journal) : (s.modJnl f).calPpb = s.calPpb := rfl
@[simp] theorem State.modJnl_fab (s : State) (f : Journal → Journal) : (s.modJnl f).fab = s.fab := rfl
@[simp] theorem State.modJnl_latch (s : State) (f : Journal → Journal) : (s.modJnl f).latch = s.latch := rfl
@[simp] theorem State.modJnl_mem (s : State) (f : Journal → Journal) : (s.modJnl f).mem = s.mem := rfl
@[simp] theorem State.modJnl_eng (s : State) (f : Journal → Journal) : (s.modJnl f).eng = s.eng := rfl
@[simp] theorem State.modJnl_tally (s : State) (f : Journal → Journal) : (s.modJnl f).tally = s.tally := rfl
@[simp] theorem State.modJnl_axes (s : State) (f : Journal → Journal) : (s.modJnl f).axes = s.axes := rfl
@[simp] theorem State.modJnl_portals (s : State) (f : Journal → Journal) : (s.modJnl f).portals = s.portals := rfl
@[simp] theorem State.modJnl_fel (s : State) (f : Journal → Journal) : (s.modJnl f).fel = s.fel := rfl
@[simp] theorem State.modJnl_sde (s : State) (f : Journal → Journal) : (s.modJnl f).sde = s.sde := rfl
@[simp] theorem State.modJnl_ls (s : State) (f : Journal → Journal) : (s.modJnl f).ls = s.ls := rfl
@[simp] theorem State.modJnl_lsg (s : State) (f : Journal → Journal) : (s.modJnl f).lsg = s.lsg := rfl
@[simp] theorem State.modJnl_kerf (s : State) (f : Journal → Journal) : (s.modJnl f).kerf = s.kerf := rfl
@[simp] theorem State.modJnl_fio (s : State) (f : Journal → Journal) : (s.modJnl f).fio = s.fio := rfl
@[simp] theorem State.modJnl_safe (s : State) (f : Journal → Journal) : (s.modJnl f).safe = s.safe := rfl
@[simp] theorem State.modJnl_jnl (s : State) (f : Journal → Journal) : (s.modJnl f).jnl = f s.jnl := rfl
@[simp] theorem State.modJnl_net (s : State) (f : Journal → Journal) : (s.modJnl f).net = s.net := rfl
@[simp] theorem State.modJnl_lnd (s : State) (f : Journal → Journal) : (s.modJnl f).lnd = s.lnd := rfl
@[simp] theorem State.modJnl_tru (s : State) (f : Journal → Journal) : (s.modJnl f).tru = s.tru := rfl
@[simp] theorem State.modJnl_pwr (s : State) (f : Journal → Journal) : (s.modJnl f).pwr = s.pwr := rfl
@[simp] theorem State.modJnl_boot (s : State) (f : Journal → Journal) : (s.modJnl f).boot = s.boot := rfl
@[simp] theorem State.modJnl_pending (s : State) (f : Journal → Journal) : (s.modJnl f).pending = s.pending := rfl
@[simp] theorem State.modJnl_sent (s : State) (f : Journal → Journal) : (s.modJnl f).sent = s.sent := rfl
@[simp] theorem State.modJnl_freeSeq (s : State) (f : Journal → Journal) : (s.modJnl f).freeSeq = s.freeSeq := rfl

/-! ### State.modCmj -/

@[simp] theorem State.modCmj_mono (s : State) (f : Cmj → Cmj) : (s.modCmj f).mono = s.mono := rfl
@[simp] theorem State.modCmj_tim (s : State) (f : Cmj → Cmj) : (s.modCmj f).tim = s.tim := rfl
@[simp] theorem State.modCmj_calBase (s : State) (f : Cmj → Cmj) : (s.modCmj f).calBase = s.calBase := rfl
@[simp] theorem State.modCmj_calAt (s : State) (f : Cmj → Cmj) : (s.modCmj f).calAt = s.calAt := rfl
@[simp] theorem State.modCmj_slew (s : State) (f : Cmj → Cmj) : (s.modCmj f).slew = s.slew := rfl
@[simp] theorem State.modCmj_calPpb (s : State) (f : Cmj → Cmj) : (s.modCmj f).calPpb = s.calPpb := rfl
@[simp] theorem State.modCmj_fab (s : State) (f : Cmj → Cmj) : (s.modCmj f).fab = s.fab := rfl
@[simp] theorem State.modCmj_latch (s : State) (f : Cmj → Cmj) : (s.modCmj f).latch = s.latch := rfl
@[simp] theorem State.modCmj_mem (s : State) (f : Cmj → Cmj) : (s.modCmj f).mem = s.mem := rfl
@[simp] theorem State.modCmj_eng (s : State) (f : Cmj → Cmj) : (s.modCmj f).eng = s.eng := rfl
@[simp] theorem State.modCmj_tally (s : State) (f : Cmj → Cmj) : (s.modCmj f).tally = s.tally := rfl
@[simp] theorem State.modCmj_axes (s : State) (f : Cmj → Cmj) : (s.modCmj f).axes = s.axes := rfl
@[simp] theorem State.modCmj_portals (s : State) (f : Cmj → Cmj) : (s.modCmj f).portals = s.portals := rfl
@[simp] theorem State.modCmj_fel (s : State) (f : Cmj → Cmj) : (s.modCmj f).fel = s.fel := rfl
@[simp] theorem State.modCmj_sde (s : State) (f : Cmj → Cmj) : (s.modCmj f).sde = s.sde := rfl
@[simp] theorem State.modCmj_ls (s : State) (f : Cmj → Cmj) : (s.modCmj f).ls = s.ls := rfl
@[simp] theorem State.modCmj_lsg (s : State) (f : Cmj → Cmj) : (s.modCmj f).lsg = s.lsg := rfl
@[simp] theorem State.modCmj_kerf (s : State) (f : Cmj → Cmj) : (s.modCmj f).kerf = s.kerf := rfl
@[simp] theorem State.modCmj_fio (s : State) (f : Cmj → Cmj) : (s.modCmj f).fio = s.fio := rfl
@[simp] theorem State.modCmj_safe (s : State) (f : Cmj → Cmj) : (s.modCmj f).safe = s.safe := rfl
@[simp] theorem State.modCmj_jnl (s : State) (f : Cmj → Cmj) : (s.modCmj f).jnl = { s.jnl with reg := f s.jnl.reg } := rfl
@[simp] theorem State.modCmj_net (s : State) (f : Cmj → Cmj) : (s.modCmj f).net = s.net := rfl
@[simp] theorem State.modCmj_lnd (s : State) (f : Cmj → Cmj) : (s.modCmj f).lnd = s.lnd := rfl
@[simp] theorem State.modCmj_tru (s : State) (f : Cmj → Cmj) : (s.modCmj f).tru = s.tru := rfl
@[simp] theorem State.modCmj_pwr (s : State) (f : Cmj → Cmj) : (s.modCmj f).pwr = s.pwr := rfl
@[simp] theorem State.modCmj_boot (s : State) (f : Cmj → Cmj) : (s.modCmj f).boot = s.boot := rfl
@[simp] theorem State.modCmj_pending (s : State) (f : Cmj → Cmj) : (s.modCmj f).pending = s.pending := rfl
@[simp] theorem State.modCmj_sent (s : State) (f : Cmj → Cmj) : (s.modCmj f).sent = s.sent := rfl
@[simp] theorem State.modCmj_freeSeq (s : State) (f : Cmj → Cmj) : (s.modCmj f).freeSeq = s.freeSeq := rfl

/-! ### State.modNet -/

@[simp] theorem State.modNet_mono (s : State) (f : Network → Network) : (s.modNet f).mono = s.mono := rfl
@[simp] theorem State.modNet_tim (s : State) (f : Network → Network) : (s.modNet f).tim = s.tim := rfl
@[simp] theorem State.modNet_calBase (s : State) (f : Network → Network) : (s.modNet f).calBase = s.calBase := rfl
@[simp] theorem State.modNet_calAt (s : State) (f : Network → Network) : (s.modNet f).calAt = s.calAt := rfl
@[simp] theorem State.modNet_slew (s : State) (f : Network → Network) : (s.modNet f).slew = s.slew := rfl
@[simp] theorem State.modNet_calPpb (s : State) (f : Network → Network) : (s.modNet f).calPpb = s.calPpb := rfl
@[simp] theorem State.modNet_fab (s : State) (f : Network → Network) : (s.modNet f).fab = s.fab := rfl
@[simp] theorem State.modNet_latch (s : State) (f : Network → Network) : (s.modNet f).latch = s.latch := rfl
@[simp] theorem State.modNet_mem (s : State) (f : Network → Network) : (s.modNet f).mem = s.mem := rfl
@[simp] theorem State.modNet_eng (s : State) (f : Network → Network) : (s.modNet f).eng = s.eng := rfl
@[simp] theorem State.modNet_tally (s : State) (f : Network → Network) : (s.modNet f).tally = s.tally := rfl
@[simp] theorem State.modNet_axes (s : State) (f : Network → Network) : (s.modNet f).axes = s.axes := rfl
@[simp] theorem State.modNet_portals (s : State) (f : Network → Network) : (s.modNet f).portals = s.portals := rfl
@[simp] theorem State.modNet_fel (s : State) (f : Network → Network) : (s.modNet f).fel = s.fel := rfl
@[simp] theorem State.modNet_sde (s : State) (f : Network → Network) : (s.modNet f).sde = s.sde := rfl
@[simp] theorem State.modNet_ls (s : State) (f : Network → Network) : (s.modNet f).ls = s.ls := rfl
@[simp] theorem State.modNet_lsg (s : State) (f : Network → Network) : (s.modNet f).lsg = s.lsg := rfl
@[simp] theorem State.modNet_kerf (s : State) (f : Network → Network) : (s.modNet f).kerf = s.kerf := rfl
@[simp] theorem State.modNet_fio (s : State) (f : Network → Network) : (s.modNet f).fio = s.fio := rfl
@[simp] theorem State.modNet_safe (s : State) (f : Network → Network) : (s.modNet f).safe = s.safe := rfl
@[simp] theorem State.modNet_jnl (s : State) (f : Network → Network) : (s.modNet f).jnl = s.jnl := rfl
@[simp] theorem State.modNet_net (s : State) (f : Network → Network) : (s.modNet f).net = f s.net := rfl
@[simp] theorem State.modNet_lnd (s : State) (f : Network → Network) : (s.modNet f).lnd = s.lnd := rfl
@[simp] theorem State.modNet_tru (s : State) (f : Network → Network) : (s.modNet f).tru = s.tru := rfl
@[simp] theorem State.modNet_pwr (s : State) (f : Network → Network) : (s.modNet f).pwr = s.pwr := rfl
@[simp] theorem State.modNet_boot (s : State) (f : Network → Network) : (s.modNet f).boot = s.boot := rfl
@[simp] theorem State.modNet_pending (s : State) (f : Network → Network) : (s.modNet f).pending = s.pending := rfl
@[simp] theorem State.modNet_sent (s : State) (f : Network → Network) : (s.modNet f).sent = s.sent := rfl
@[simp] theorem State.modNet_freeSeq (s : State) (f : Network → Network) : (s.modNet f).freeSeq = s.freeSeq := rfl

/-! ### State.modNetReg -/

@[simp] theorem State.modNetReg_mono (s : State) (f : Net → Net) : (s.modNetReg f).mono = s.mono := rfl
@[simp] theorem State.modNetReg_tim (s : State) (f : Net → Net) : (s.modNetReg f).tim = s.tim := rfl
@[simp] theorem State.modNetReg_calBase (s : State) (f : Net → Net) : (s.modNetReg f).calBase = s.calBase := rfl
@[simp] theorem State.modNetReg_calAt (s : State) (f : Net → Net) : (s.modNetReg f).calAt = s.calAt := rfl
@[simp] theorem State.modNetReg_slew (s : State) (f : Net → Net) : (s.modNetReg f).slew = s.slew := rfl
@[simp] theorem State.modNetReg_calPpb (s : State) (f : Net → Net) : (s.modNetReg f).calPpb = s.calPpb := rfl
@[simp] theorem State.modNetReg_fab (s : State) (f : Net → Net) : (s.modNetReg f).fab = s.fab := rfl
@[simp] theorem State.modNetReg_latch (s : State) (f : Net → Net) : (s.modNetReg f).latch = s.latch := rfl
@[simp] theorem State.modNetReg_mem (s : State) (f : Net → Net) : (s.modNetReg f).mem = s.mem := rfl
@[simp] theorem State.modNetReg_eng (s : State) (f : Net → Net) : (s.modNetReg f).eng = s.eng := rfl
@[simp] theorem State.modNetReg_tally (s : State) (f : Net → Net) : (s.modNetReg f).tally = s.tally := rfl
@[simp] theorem State.modNetReg_axes (s : State) (f : Net → Net) : (s.modNetReg f).axes = s.axes := rfl
@[simp] theorem State.modNetReg_portals (s : State) (f : Net → Net) : (s.modNetReg f).portals = s.portals := rfl
@[simp] theorem State.modNetReg_fel (s : State) (f : Net → Net) : (s.modNetReg f).fel = s.fel := rfl
@[simp] theorem State.modNetReg_sde (s : State) (f : Net → Net) : (s.modNetReg f).sde = s.sde := rfl
@[simp] theorem State.modNetReg_ls (s : State) (f : Net → Net) : (s.modNetReg f).ls = s.ls := rfl
@[simp] theorem State.modNetReg_lsg (s : State) (f : Net → Net) : (s.modNetReg f).lsg = s.lsg := rfl
@[simp] theorem State.modNetReg_kerf (s : State) (f : Net → Net) : (s.modNetReg f).kerf = s.kerf := rfl
@[simp] theorem State.modNetReg_fio (s : State) (f : Net → Net) : (s.modNetReg f).fio = s.fio := rfl
@[simp] theorem State.modNetReg_safe (s : State) (f : Net → Net) : (s.modNetReg f).safe = s.safe := rfl
@[simp] theorem State.modNetReg_jnl (s : State) (f : Net → Net) : (s.modNetReg f).jnl = s.jnl := rfl
@[simp] theorem State.modNetReg_net (s : State) (f : Net → Net) : (s.modNetReg f).net = { s.net with reg := f s.net.reg } := rfl
@[simp] theorem State.modNetReg_lnd (s : State) (f : Net → Net) : (s.modNetReg f).lnd = s.lnd := rfl
@[simp] theorem State.modNetReg_tru (s : State) (f : Net → Net) : (s.modNetReg f).tru = s.tru := rfl
@[simp] theorem State.modNetReg_pwr (s : State) (f : Net → Net) : (s.modNetReg f).pwr = s.pwr := rfl
@[simp] theorem State.modNetReg_boot (s : State) (f : Net → Net) : (s.modNetReg f).boot = s.boot := rfl
@[simp] theorem State.modNetReg_pending (s : State) (f : Net → Net) : (s.modNetReg f).pending = s.pending := rfl
@[simp] theorem State.modNetReg_sent (s : State) (f : Net → Net) : (s.modNetReg f).sent = s.sent := rfl
@[simp] theorem State.modNetReg_freeSeq (s : State) (f : Net → Net) : (s.modNetReg f).freeSeq = s.freeSeq := rfl

/-! ### State.modSrc -/

@[simp] theorem State.modSrc_mono (s : State) (f : TimSrc → TimSrc) : (s.modSrc f).mono = s.mono := rfl
@[simp] theorem State.modSrc_tim (s : State) (f : TimSrc → TimSrc) : (s.modSrc f).tim = { s.tim with src := f s.tim.src } := rfl
@[simp] theorem State.modSrc_calBase (s : State) (f : TimSrc → TimSrc) : (s.modSrc f).calBase = s.calBase := rfl
@[simp] theorem State.modSrc_calAt (s : State) (f : TimSrc → TimSrc) : (s.modSrc f).calAt = s.calAt := rfl
@[simp] theorem State.modSrc_slew (s : State) (f : TimSrc → TimSrc) : (s.modSrc f).slew = s.slew := rfl
@[simp] theorem State.modSrc_calPpb (s : State) (f : TimSrc → TimSrc) : (s.modSrc f).calPpb = s.calPpb := rfl
@[simp] theorem State.modSrc_fab (s : State) (f : TimSrc → TimSrc) : (s.modSrc f).fab = s.fab := rfl
@[simp] theorem State.modSrc_latch (s : State) (f : TimSrc → TimSrc) : (s.modSrc f).latch = s.latch := rfl
@[simp] theorem State.modSrc_mem (s : State) (f : TimSrc → TimSrc) : (s.modSrc f).mem = s.mem := rfl
@[simp] theorem State.modSrc_eng (s : State) (f : TimSrc → TimSrc) : (s.modSrc f).eng = s.eng := rfl
@[simp] theorem State.modSrc_tally (s : State) (f : TimSrc → TimSrc) : (s.modSrc f).tally = s.tally := rfl
@[simp] theorem State.modSrc_axes (s : State) (f : TimSrc → TimSrc) : (s.modSrc f).axes = s.axes := rfl
@[simp] theorem State.modSrc_portals (s : State) (f : TimSrc → TimSrc) : (s.modSrc f).portals = s.portals := rfl
@[simp] theorem State.modSrc_fel (s : State) (f : TimSrc → TimSrc) : (s.modSrc f).fel = s.fel := rfl
@[simp] theorem State.modSrc_sde (s : State) (f : TimSrc → TimSrc) : (s.modSrc f).sde = s.sde := rfl
@[simp] theorem State.modSrc_ls (s : State) (f : TimSrc → TimSrc) : (s.modSrc f).ls = s.ls := rfl
@[simp] theorem State.modSrc_lsg (s : State) (f : TimSrc → TimSrc) : (s.modSrc f).lsg = s.lsg := rfl
@[simp] theorem State.modSrc_kerf (s : State) (f : TimSrc → TimSrc) : (s.modSrc f).kerf = s.kerf := rfl
@[simp] theorem State.modSrc_fio (s : State) (f : TimSrc → TimSrc) : (s.modSrc f).fio = s.fio := rfl
@[simp] theorem State.modSrc_safe (s : State) (f : TimSrc → TimSrc) : (s.modSrc f).safe = s.safe := rfl
@[simp] theorem State.modSrc_jnl (s : State) (f : TimSrc → TimSrc) : (s.modSrc f).jnl = s.jnl := rfl
@[simp] theorem State.modSrc_net (s : State) (f : TimSrc → TimSrc) : (s.modSrc f).net = s.net := rfl
@[simp] theorem State.modSrc_lnd (s : State) (f : TimSrc → TimSrc) : (s.modSrc f).lnd = s.lnd := rfl
@[simp] theorem State.modSrc_tru (s : State) (f : TimSrc → TimSrc) : (s.modSrc f).tru = s.tru := rfl
@[simp] theorem State.modSrc_pwr (s : State) (f : TimSrc → TimSrc) : (s.modSrc f).pwr = s.pwr := rfl
@[simp] theorem State.modSrc_boot (s : State) (f : TimSrc → TimSrc) : (s.modSrc f).boot = s.boot := rfl
@[simp] theorem State.modSrc_pending (s : State) (f : TimSrc → TimSrc) : (s.modSrc f).pending = s.pending := rfl
@[simp] theorem State.modSrc_sent (s : State) (f : TimSrc → TimSrc) : (s.modSrc f).sent = s.sent := rfl
@[simp] theorem State.modSrc_freeSeq (s : State) (f : TimSrc → TimSrc) : (s.modSrc f).freeSeq = s.freeSeq := rfl

/-! ### State.setCal -/

@[simp] theorem State.setCal_mono (s : State) (n : Nat) : (s.setCal n).mono = s.mono := rfl
@[simp] theorem State.setCal_tim (s : State) (n : Nat) : (s.setCal n).tim = s.tim := rfl
@[simp] theorem State.setCal_calBase (s : State) (n : Nat) : (s.setCal n).calBase = n := rfl
@[simp] theorem State.setCal_calAt (s : State) (n : Nat) : (s.setCal n).calAt = s.mono := rfl
@[simp] theorem State.setCal_slew (s : State) (n : Nat) : (s.setCal n).slew = 0 := rfl
@[simp] theorem State.setCal_calPpb (s : State) (n : Nat) : (s.setCal n).calPpb = s.calPpb := rfl
@[simp] theorem State.setCal_fab (s : State) (n : Nat) : (s.setCal n).fab = s.fab := rfl
@[simp] theorem State.setCal_latch (s : State) (n : Nat) : (s.setCal n).latch = s.latch := rfl
@[simp] theorem State.setCal_mem (s : State) (n : Nat) : (s.setCal n).mem = s.mem := rfl
@[simp] theorem State.setCal_eng (s : State) (n : Nat) : (s.setCal n).eng = s.eng := rfl
@[simp] theorem State.setCal_tally (s : State) (n : Nat) : (s.setCal n).tally = s.tally := rfl
@[simp] theorem State.setCal_axes (s : State) (n : Nat) : (s.setCal n).axes = s.axes := rfl
@[simp] theorem State.setCal_portals (s : State) (n : Nat) : (s.setCal n).portals = s.portals := rfl
@[simp] theorem State.setCal_fel (s : State) (n : Nat) : (s.setCal n).fel = s.fel := rfl
@[simp] theorem State.setCal_sde (s : State) (n : Nat) : (s.setCal n).sde = s.sde := rfl
@[simp] theorem State.setCal_ls (s : State) (n : Nat) : (s.setCal n).ls = s.ls := rfl
@[simp] theorem State.setCal_lsg (s : State) (n : Nat) : (s.setCal n).lsg = s.lsg := rfl
@[simp] theorem State.setCal_kerf (s : State) (n : Nat) : (s.setCal n).kerf = s.kerf := rfl
@[simp] theorem State.setCal_fio (s : State) (n : Nat) : (s.setCal n).fio = s.fio := rfl
@[simp] theorem State.setCal_safe (s : State) (n : Nat) : (s.setCal n).safe = s.safe := rfl
@[simp] theorem State.setCal_jnl (s : State) (n : Nat) : (s.setCal n).jnl = s.jnl := rfl
@[simp] theorem State.setCal_net (s : State) (n : Nat) : (s.setCal n).net = s.net := rfl
@[simp] theorem State.setCal_lnd (s : State) (n : Nat) : (s.setCal n).lnd = s.lnd := rfl
@[simp] theorem State.setCal_tru (s : State) (n : Nat) : (s.setCal n).tru = s.tru := rfl
@[simp] theorem State.setCal_pwr (s : State) (n : Nat) : (s.setCal n).pwr = s.pwr := rfl
@[simp] theorem State.setCal_boot (s : State) (n : Nat) : (s.setCal n).boot = s.boot := rfl
@[simp] theorem State.setCal_pending (s : State) (n : Nat) : (s.setCal n).pending = s.pending := rfl
@[simp] theorem State.setCal_sent (s : State) (n : Nat) : (s.setCal n).sent = s.sent := rfl
@[simp] theorem State.setCal_freeSeq (s : State) (n : Nat) : (s.setCal n).freeSeq = s.freeSeq := rfl

/-! ### State.modLnd -/

@[simp] theorem State.modLnd_mono (s : State) (f : Landing → Landing) : (s.modLnd f).mono = s.mono := rfl
@[simp] theorem State.modLnd_tim (s : State) (f : Landing → Landing) : (s.modLnd f).tim = s.tim := rfl
@[simp] theorem State.modLnd_calBase (s : State) (f : Landing → Landing) : (s.modLnd f).calBase = s.calBase := rfl
@[simp] theorem State.modLnd_calAt (s : State) (f : Landing → Landing) : (s.modLnd f).calAt = s.calAt := rfl
@[simp] theorem State.modLnd_slew (s : State) (f : Landing → Landing) : (s.modLnd f).slew = s.slew := rfl
@[simp] theorem State.modLnd_calPpb (s : State) (f : Landing → Landing) : (s.modLnd f).calPpb = s.calPpb := rfl
@[simp] theorem State.modLnd_fab (s : State) (f : Landing → Landing) : (s.modLnd f).fab = s.fab := rfl
@[simp] theorem State.modLnd_latch (s : State) (f : Landing → Landing) : (s.modLnd f).latch = s.latch := rfl
@[simp] theorem State.modLnd_mem (s : State) (f : Landing → Landing) : (s.modLnd f).mem = s.mem := rfl
@[simp] theorem State.modLnd_eng (s : State) (f : Landing → Landing) : (s.modLnd f).eng = s.eng := rfl
@[simp] theorem State.modLnd_tally (s : State) (f : Landing → Landing) : (s.modLnd f).tally = s.tally := rfl
@[simp] theorem State.modLnd_axes (s : State) (f : Landing → Landing) : (s.modLnd f).axes = s.axes := rfl
@[simp] theorem State.modLnd_portals (s : State) (f : Landing → Landing) : (s.modLnd f).portals = s.portals := rfl
@[simp] theorem State.modLnd_fel (s : State) (f : Landing → Landing) : (s.modLnd f).fel = s.fel := rfl
@[simp] theorem State.modLnd_sde (s : State) (f : Landing → Landing) : (s.modLnd f).sde = s.sde := rfl
@[simp] theorem State.modLnd_ls (s : State) (f : Landing → Landing) : (s.modLnd f).ls = s.ls := rfl
@[simp] theorem State.modLnd_lsg (s : State) (f : Landing → Landing) : (s.modLnd f).lsg = s.lsg := rfl
@[simp] theorem State.modLnd_kerf (s : State) (f : Landing → Landing) : (s.modLnd f).kerf = s.kerf := rfl
@[simp] theorem State.modLnd_fio (s : State) (f : Landing → Landing) : (s.modLnd f).fio = s.fio := rfl
@[simp] theorem State.modLnd_safe (s : State) (f : Landing → Landing) : (s.modLnd f).safe = s.safe := rfl
@[simp] theorem State.modLnd_jnl (s : State) (f : Landing → Landing) : (s.modLnd f).jnl = s.jnl := rfl
@[simp] theorem State.modLnd_net (s : State) (f : Landing → Landing) : (s.modLnd f).net = s.net := rfl
@[simp] theorem State.modLnd_lnd (s : State) (f : Landing → Landing) : (s.modLnd f).lnd = f s.lnd := rfl
@[simp] theorem State.modLnd_tru (s : State) (f : Landing → Landing) : (s.modLnd f).tru = s.tru := rfl
@[simp] theorem State.modLnd_pwr (s : State) (f : Landing → Landing) : (s.modLnd f).pwr = s.pwr := rfl
@[simp] theorem State.modLnd_boot (s : State) (f : Landing → Landing) : (s.modLnd f).boot = s.boot := rfl
@[simp] theorem State.modLnd_pending (s : State) (f : Landing → Landing) : (s.modLnd f).pending = s.pending := rfl
@[simp] theorem State.modLnd_sent (s : State) (f : Landing → Landing) : (s.modLnd f).sent = s.sent := rfl
@[simp] theorem State.modLnd_freeSeq (s : State) (f : Landing → Landing) : (s.modLnd f).freeSeq = s.freeSeq := rfl

/-! ### State.modTru -/

@[simp] theorem State.modTru_mono (s : State) (f : Security → Security) : (s.modTru f).mono = s.mono := rfl
@[simp] theorem State.modTru_tim (s : State) (f : Security → Security) : (s.modTru f).tim = s.tim := rfl
@[simp] theorem State.modTru_calBase (s : State) (f : Security → Security) : (s.modTru f).calBase = s.calBase := rfl
@[simp] theorem State.modTru_calAt (s : State) (f : Security → Security) : (s.modTru f).calAt = s.calAt := rfl
@[simp] theorem State.modTru_slew (s : State) (f : Security → Security) : (s.modTru f).slew = s.slew := rfl
@[simp] theorem State.modTru_calPpb (s : State) (f : Security → Security) : (s.modTru f).calPpb = s.calPpb := rfl
@[simp] theorem State.modTru_fab (s : State) (f : Security → Security) : (s.modTru f).fab = s.fab := rfl
@[simp] theorem State.modTru_latch (s : State) (f : Security → Security) : (s.modTru f).latch = s.latch := rfl
@[simp] theorem State.modTru_mem (s : State) (f : Security → Security) : (s.modTru f).mem = s.mem := rfl
@[simp] theorem State.modTru_eng (s : State) (f : Security → Security) : (s.modTru f).eng = s.eng := rfl
@[simp] theorem State.modTru_tally (s : State) (f : Security → Security) : (s.modTru f).tally = s.tally := rfl
@[simp] theorem State.modTru_axes (s : State) (f : Security → Security) : (s.modTru f).axes = s.axes := rfl
@[simp] theorem State.modTru_portals (s : State) (f : Security → Security) : (s.modTru f).portals = s.portals := rfl
@[simp] theorem State.modTru_fel (s : State) (f : Security → Security) : (s.modTru f).fel = s.fel := rfl
@[simp] theorem State.modTru_sde (s : State) (f : Security → Security) : (s.modTru f).sde = s.sde := rfl
@[simp] theorem State.modTru_ls (s : State) (f : Security → Security) : (s.modTru f).ls = s.ls := rfl
@[simp] theorem State.modTru_lsg (s : State) (f : Security → Security) : (s.modTru f).lsg = s.lsg := rfl
@[simp] theorem State.modTru_kerf (s : State) (f : Security → Security) : (s.modTru f).kerf = s.kerf := rfl
@[simp] theorem State.modTru_fio (s : State) (f : Security → Security) : (s.modTru f).fio = s.fio := rfl
@[simp] theorem State.modTru_safe (s : State) (f : Security → Security) : (s.modTru f).safe = s.safe := rfl
@[simp] theorem State.modTru_jnl (s : State) (f : Security → Security) : (s.modTru f).jnl = s.jnl := rfl
@[simp] theorem State.modTru_net (s : State) (f : Security → Security) : (s.modTru f).net = s.net := rfl
@[simp] theorem State.modTru_lnd (s : State) (f : Security → Security) : (s.modTru f).lnd = s.lnd := rfl
@[simp] theorem State.modTru_tru (s : State) (f : Security → Security) : (s.modTru f).tru = f s.tru := rfl
@[simp] theorem State.modTru_pwr (s : State) (f : Security → Security) : (s.modTru f).pwr = s.pwr := rfl
@[simp] theorem State.modTru_boot (s : State) (f : Security → Security) : (s.modTru f).boot = s.boot := rfl
@[simp] theorem State.modTru_pending (s : State) (f : Security → Security) : (s.modTru f).pending = s.pending := rfl
@[simp] theorem State.modTru_sent (s : State) (f : Security → Security) : (s.modTru f).sent = s.sent := rfl
@[simp] theorem State.modTru_freeSeq (s : State) (f : Security → Security) : (s.modTru f).freeSeq = s.freeSeq := rfl

/-! ### State.modPwr -/

@[simp] theorem State.modPwr_mono (s : State) (f : Supply → Supply) : (s.modPwr f).mono = s.mono := rfl
@[simp] theorem State.modPwr_tim (s : State) (f : Supply → Supply) : (s.modPwr f).tim = s.tim := rfl
@[simp] theorem State.modPwr_calBase (s : State) (f : Supply → Supply) : (s.modPwr f).calBase = s.calBase := rfl
@[simp] theorem State.modPwr_calAt (s : State) (f : Supply → Supply) : (s.modPwr f).calAt = s.calAt := rfl
@[simp] theorem State.modPwr_slew (s : State) (f : Supply → Supply) : (s.modPwr f).slew = s.slew := rfl
@[simp] theorem State.modPwr_calPpb (s : State) (f : Supply → Supply) : (s.modPwr f).calPpb = s.calPpb := rfl
@[simp] theorem State.modPwr_fab (s : State) (f : Supply → Supply) : (s.modPwr f).fab = s.fab := rfl
@[simp] theorem State.modPwr_latch (s : State) (f : Supply → Supply) : (s.modPwr f).latch = s.latch := rfl
@[simp] theorem State.modPwr_mem (s : State) (f : Supply → Supply) : (s.modPwr f).mem = s.mem := rfl
@[simp] theorem State.modPwr_eng (s : State) (f : Supply → Supply) : (s.modPwr f).eng = s.eng := rfl
@[simp] theorem State.modPwr_tally (s : State) (f : Supply → Supply) : (s.modPwr f).tally = s.tally := rfl
@[simp] theorem State.modPwr_axes (s : State) (f : Supply → Supply) : (s.modPwr f).axes = s.axes := rfl
@[simp] theorem State.modPwr_portals (s : State) (f : Supply → Supply) : (s.modPwr f).portals = s.portals := rfl
@[simp] theorem State.modPwr_fel (s : State) (f : Supply → Supply) : (s.modPwr f).fel = s.fel := rfl
@[simp] theorem State.modPwr_sde (s : State) (f : Supply → Supply) : (s.modPwr f).sde = s.sde := rfl
@[simp] theorem State.modPwr_ls (s : State) (f : Supply → Supply) : (s.modPwr f).ls = s.ls := rfl
@[simp] theorem State.modPwr_lsg (s : State) (f : Supply → Supply) : (s.modPwr f).lsg = s.lsg := rfl
@[simp] theorem State.modPwr_kerf (s : State) (f : Supply → Supply) : (s.modPwr f).kerf = s.kerf := rfl
@[simp] theorem State.modPwr_fio (s : State) (f : Supply → Supply) : (s.modPwr f).fio = s.fio := rfl
@[simp] theorem State.modPwr_safe (s : State) (f : Supply → Supply) : (s.modPwr f).safe = s.safe := rfl
@[simp] theorem State.modPwr_jnl (s : State) (f : Supply → Supply) : (s.modPwr f).jnl = s.jnl := rfl
@[simp] theorem State.modPwr_net (s : State) (f : Supply → Supply) : (s.modPwr f).net = s.net := rfl
@[simp] theorem State.modPwr_lnd (s : State) (f : Supply → Supply) : (s.modPwr f).lnd = s.lnd := rfl
@[simp] theorem State.modPwr_tru (s : State) (f : Supply → Supply) : (s.modPwr f).tru = s.tru := rfl
@[simp] theorem State.modPwr_pwr (s : State) (f : Supply → Supply) : (s.modPwr f).pwr = f s.pwr := rfl
@[simp] theorem State.modPwr_boot (s : State) (f : Supply → Supply) : (s.modPwr f).boot = s.boot := rfl
@[simp] theorem State.modPwr_pending (s : State) (f : Supply → Supply) : (s.modPwr f).pending = s.pending := rfl
@[simp] theorem State.modPwr_sent (s : State) (f : Supply → Supply) : (s.modPwr f).sent = s.sent := rfl
@[simp] theorem State.modPwr_freeSeq (s : State) (f : Supply → Supply) : (s.modPwr f).freeSeq = s.freeSeq := rfl

/-! ### State.modPwrReg -/

@[simp] theorem State.modPwrReg_mono (s : State) (f : Pwr → Pwr) : (s.modPwrReg f).mono = s.mono := rfl
@[simp] theorem State.modPwrReg_tim (s : State) (f : Pwr → Pwr) : (s.modPwrReg f).tim = s.tim := rfl
@[simp] theorem State.modPwrReg_calBase (s : State) (f : Pwr → Pwr) : (s.modPwrReg f).calBase = s.calBase := rfl
@[simp] theorem State.modPwrReg_calAt (s : State) (f : Pwr → Pwr) : (s.modPwrReg f).calAt = s.calAt := rfl
@[simp] theorem State.modPwrReg_slew (s : State) (f : Pwr → Pwr) : (s.modPwrReg f).slew = s.slew := rfl
@[simp] theorem State.modPwrReg_calPpb (s : State) (f : Pwr → Pwr) : (s.modPwrReg f).calPpb = s.calPpb := rfl
@[simp] theorem State.modPwrReg_fab (s : State) (f : Pwr → Pwr) : (s.modPwrReg f).fab = s.fab := rfl
@[simp] theorem State.modPwrReg_latch (s : State) (f : Pwr → Pwr) : (s.modPwrReg f).latch = s.latch := rfl
@[simp] theorem State.modPwrReg_mem (s : State) (f : Pwr → Pwr) : (s.modPwrReg f).mem = s.mem := rfl
@[simp] theorem State.modPwrReg_eng (s : State) (f : Pwr → Pwr) : (s.modPwrReg f).eng = s.eng := rfl
@[simp] theorem State.modPwrReg_tally (s : State) (f : Pwr → Pwr) : (s.modPwrReg f).tally = s.tally := rfl
@[simp] theorem State.modPwrReg_axes (s : State) (f : Pwr → Pwr) : (s.modPwrReg f).axes = s.axes := rfl
@[simp] theorem State.modPwrReg_portals (s : State) (f : Pwr → Pwr) : (s.modPwrReg f).portals = s.portals := rfl
@[simp] theorem State.modPwrReg_fel (s : State) (f : Pwr → Pwr) : (s.modPwrReg f).fel = s.fel := rfl
@[simp] theorem State.modPwrReg_sde (s : State) (f : Pwr → Pwr) : (s.modPwrReg f).sde = s.sde := rfl
@[simp] theorem State.modPwrReg_ls (s : State) (f : Pwr → Pwr) : (s.modPwrReg f).ls = s.ls := rfl
@[simp] theorem State.modPwrReg_lsg (s : State) (f : Pwr → Pwr) : (s.modPwrReg f).lsg = s.lsg := rfl
@[simp] theorem State.modPwrReg_kerf (s : State) (f : Pwr → Pwr) : (s.modPwrReg f).kerf = s.kerf := rfl
@[simp] theorem State.modPwrReg_fio (s : State) (f : Pwr → Pwr) : (s.modPwrReg f).fio = s.fio := rfl
@[simp] theorem State.modPwrReg_safe (s : State) (f : Pwr → Pwr) : (s.modPwrReg f).safe = s.safe := rfl
@[simp] theorem State.modPwrReg_jnl (s : State) (f : Pwr → Pwr) : (s.modPwrReg f).jnl = s.jnl := rfl
@[simp] theorem State.modPwrReg_net (s : State) (f : Pwr → Pwr) : (s.modPwrReg f).net = s.net := rfl
@[simp] theorem State.modPwrReg_lnd (s : State) (f : Pwr → Pwr) : (s.modPwrReg f).lnd = s.lnd := rfl
@[simp] theorem State.modPwrReg_tru (s : State) (f : Pwr → Pwr) : (s.modPwrReg f).tru = s.tru := rfl
@[simp] theorem State.modPwrReg_pwr (s : State) (f : Pwr → Pwr) : (s.modPwrReg f).pwr = { s.pwr with reg := f s.pwr.reg } := rfl
@[simp] theorem State.modPwrReg_boot (s : State) (f : Pwr → Pwr) : (s.modPwrReg f).boot = s.boot := rfl
@[simp] theorem State.modPwrReg_pending (s : State) (f : Pwr → Pwr) : (s.modPwrReg f).pending = s.pending := rfl
@[simp] theorem State.modPwrReg_sent (s : State) (f : Pwr → Pwr) : (s.modPwrReg f).sent = s.sent := rfl
@[simp] theorem State.modPwrReg_freeSeq (s : State) (f : Pwr → Pwr) : (s.modPwrReg f).freeSeq = s.freeSeq := rfl

/-! ### State.used -/

@[simp] theorem State.used_mono (s : State) : (s.used).mono = s.mono := rfl
@[simp] theorem State.used_tim (s : State) : (s.used).tim = s.tim := rfl
@[simp] theorem State.used_calBase (s : State) : (s.used).calBase = s.calBase := rfl
@[simp] theorem State.used_calAt (s : State) : (s.used).calAt = s.calAt := rfl
@[simp] theorem State.used_slew (s : State) : (s.used).slew = s.slew := rfl
@[simp] theorem State.used_calPpb (s : State) : (s.used).calPpb = s.calPpb := rfl
@[simp] theorem State.used_fab (s : State) : (s.used).fab = s.fab := rfl
@[simp] theorem State.used_latch (s : State) : (s.used).latch = s.latch := rfl
@[simp] theorem State.used_mem (s : State) : (s.used).mem = s.mem := rfl
@[simp] theorem State.used_eng (s : State) : (s.used).eng = s.eng := rfl
@[simp] theorem State.used_tally (s : State) : (s.used).tally = s.tally := rfl
@[simp] theorem State.used_axes (s : State) : (s.used).axes = s.axes := rfl
@[simp] theorem State.used_portals (s : State) : (s.used).portals = s.portals := rfl
@[simp] theorem State.used_fel (s : State) : (s.used).fel = s.fel := rfl
@[simp] theorem State.used_sde (s : State) : (s.used).sde = s.sde := rfl
@[simp] theorem State.used_ls (s : State) : (s.used).ls = s.ls := rfl
@[simp] theorem State.used_lsg (s : State) : (s.used).lsg = s.lsg := rfl
@[simp] theorem State.used_kerf (s : State) : (s.used).kerf = s.kerf := rfl
@[simp] theorem State.used_fio (s : State) : (s.used).fio = s.fio := rfl
@[simp] theorem State.used_safe (s : State) : (s.used).safe = s.safe := rfl
@[simp] theorem State.used_jnl (s : State) : (s.used).jnl = s.jnl := rfl
@[simp] theorem State.used_net (s : State) : (s.used).net = s.net := rfl
@[simp] theorem State.used_lnd (s : State) : (s.used).lnd = s.lnd := rfl
@[simp] theorem State.used_tru (s : State) : (s.used).tru = s.tru := rfl
@[simp] theorem State.used_pwr (s : State) : (s.used).pwr = s.pwr := rfl
@[simp] theorem State.used_boot (s : State) : (s.used).boot = s.boot := rfl
@[simp] theorem State.used_pending (s : State) : (s.used).pending = s.pending := rfl
@[simp] theorem State.used_sent (s : State) : (s.used).sent = s.sent := rfl
@[simp] theorem State.used_freeSeq (s : State) : (s.used).freeSeq = s.freeSeq + 1 := rfl

/-! ### State.usedN -/

@[simp] theorem State.usedN_mono (s : State) (n : Nat) : (s.usedN n).mono = s.mono := rfl
@[simp] theorem State.usedN_tim (s : State) (n : Nat) : (s.usedN n).tim = s.tim := rfl
@[simp] theorem State.usedN_calBase (s : State) (n : Nat) : (s.usedN n).calBase = s.calBase := rfl
@[simp] theorem State.usedN_calAt (s : State) (n : Nat) : (s.usedN n).calAt = s.calAt := rfl
@[simp] theorem State.usedN_slew (s : State) (n : Nat) : (s.usedN n).slew = s.slew := rfl
@[simp] theorem State.usedN_calPpb (s : State) (n : Nat) : (s.usedN n).calPpb = s.calPpb := rfl
@[simp] theorem State.usedN_fab (s : State) (n : Nat) : (s.usedN n).fab = s.fab := rfl
@[simp] theorem State.usedN_latch (s : State) (n : Nat) : (s.usedN n).latch = s.latch := rfl
@[simp] theorem State.usedN_mem (s : State) (n : Nat) : (s.usedN n).mem = s.mem := rfl
@[simp] theorem State.usedN_eng (s : State) (n : Nat) : (s.usedN n).eng = s.eng := rfl
@[simp] theorem State.usedN_tally (s : State) (n : Nat) : (s.usedN n).tally = s.tally := rfl
@[simp] theorem State.usedN_axes (s : State) (n : Nat) : (s.usedN n).axes = s.axes := rfl
@[simp] theorem State.usedN_portals (s : State) (n : Nat) : (s.usedN n).portals = s.portals := rfl
@[simp] theorem State.usedN_fel (s : State) (n : Nat) : (s.usedN n).fel = s.fel := rfl
@[simp] theorem State.usedN_sde (s : State) (n : Nat) : (s.usedN n).sde = s.sde := rfl
@[simp] theorem State.usedN_ls (s : State) (n : Nat) : (s.usedN n).ls = s.ls := rfl
@[simp] theorem State.usedN_lsg (s : State) (n : Nat) : (s.usedN n).lsg = s.lsg := rfl
@[simp] theorem State.usedN_kerf (s : State) (n : Nat) : (s.usedN n).kerf = s.kerf := rfl
@[simp] theorem State.usedN_fio (s : State) (n : Nat) : (s.usedN n).fio = s.fio := rfl
@[simp] theorem State.usedN_safe (s : State) (n : Nat) : (s.usedN n).safe = s.safe := rfl
@[simp] theorem State.usedN_jnl (s : State) (n : Nat) : (s.usedN n).jnl = s.jnl := rfl
@[simp] theorem State.usedN_net (s : State) (n : Nat) : (s.usedN n).net = s.net := rfl
@[simp] theorem State.usedN_lnd (s : State) (n : Nat) : (s.usedN n).lnd = s.lnd := rfl
@[simp] theorem State.usedN_tru (s : State) (n : Nat) : (s.usedN n).tru = s.tru := rfl
@[simp] theorem State.usedN_pwr (s : State) (n : Nat) : (s.usedN n).pwr = s.pwr := rfl
@[simp] theorem State.usedN_boot (s : State) (n : Nat) : (s.usedN n).boot = s.boot := rfl
@[simp] theorem State.usedN_pending (s : State) (n : Nat) : (s.usedN n).pending = s.pending := rfl
@[simp] theorem State.usedN_sent (s : State) (n : Nat) : (s.usedN n).sent = s.sent := rfl
@[simp] theorem State.usedN_freeSeq (s : State) (n : Nat) : (s.usedN n).freeSeq = s.freeSeq + n := rfl

/-! ### State.setBytes -/

@[simp] theorem State.setBytes_mono (s : State) (a : Nat) (b : List Byte) : (s.setBytes a b).mono = s.mono := rfl
@[simp] theorem State.setBytes_tim (s : State) (a : Nat) (b : List Byte) : (s.setBytes a b).tim = s.tim := rfl
@[simp] theorem State.setBytes_calBase (s : State) (a : Nat) (b : List Byte) : (s.setBytes a b).calBase = s.calBase := rfl
@[simp] theorem State.setBytes_calAt (s : State) (a : Nat) (b : List Byte) : (s.setBytes a b).calAt = s.calAt := rfl
@[simp] theorem State.setBytes_slew (s : State) (a : Nat) (b : List Byte) : (s.setBytes a b).slew = s.slew := rfl
@[simp] theorem State.setBytes_calPpb (s : State) (a : Nat) (b : List Byte) : (s.setBytes a b).calPpb = s.calPpb := rfl
@[simp] theorem State.setBytes_fab (s : State) (a : Nat) (b : List Byte) : (s.setBytes a b).fab = s.fab := rfl
@[simp] theorem State.setBytes_latch (s : State) (a : Nat) (b : List Byte) : (s.setBytes a b).latch = s.latch := rfl
@[simp] theorem State.setBytes_mem (s : State) (a : Nat) (b : List Byte) : (s.setBytes a b).mem = Mem.writeList s.mem a b := rfl
@[simp] theorem State.setBytes_eng (s : State) (a : Nat) (b : List Byte) : (s.setBytes a b).eng = s.eng := rfl
@[simp] theorem State.setBytes_tally (s : State) (a : Nat) (b : List Byte) : (s.setBytes a b).tally = s.tally := rfl
@[simp] theorem State.setBytes_axes (s : State) (a : Nat) (b : List Byte) : (s.setBytes a b).axes = s.axes := rfl
@[simp] theorem State.setBytes_portals (s : State) (a : Nat) (b : List Byte) : (s.setBytes a b).portals = s.portals := rfl
@[simp] theorem State.setBytes_fel (s : State) (a : Nat) (b : List Byte) : (s.setBytes a b).fel = s.fel := rfl
@[simp] theorem State.setBytes_sde (s : State) (a : Nat) (b : List Byte) : (s.setBytes a b).sde = s.sde := rfl
@[simp] theorem State.setBytes_ls (s : State) (a : Nat) (b : List Byte) : (s.setBytes a b).ls = s.ls := rfl
@[simp] theorem State.setBytes_lsg (s : State) (a : Nat) (b : List Byte) : (s.setBytes a b).lsg = s.lsg := rfl
@[simp] theorem State.setBytes_kerf (s : State) (a : Nat) (b : List Byte) : (s.setBytes a b).kerf = s.kerf := rfl
@[simp] theorem State.setBytes_fio (s : State) (a : Nat) (b : List Byte) : (s.setBytes a b).fio = s.fio := rfl
@[simp] theorem State.setBytes_safe (s : State) (a : Nat) (b : List Byte) : (s.setBytes a b).safe = s.safe := rfl
@[simp] theorem State.setBytes_jnl (s : State) (a : Nat) (b : List Byte) : (s.setBytes a b).jnl = s.jnl := rfl
@[simp] theorem State.setBytes_net (s : State) (a : Nat) (b : List Byte) : (s.setBytes a b).net = s.net := rfl
@[simp] theorem State.setBytes_lnd (s : State) (a : Nat) (b : List Byte) : (s.setBytes a b).lnd = s.lnd := rfl
@[simp] theorem State.setBytes_tru (s : State) (a : Nat) (b : List Byte) : (s.setBytes a b).tru = s.tru := rfl
@[simp] theorem State.setBytes_pwr (s : State) (a : Nat) (b : List Byte) : (s.setBytes a b).pwr = s.pwr := rfl
@[simp] theorem State.setBytes_boot (s : State) (a : Nat) (b : List Byte) : (s.setBytes a b).boot = s.boot := rfl
@[simp] theorem State.setBytes_pending (s : State) (a : Nat) (b : List Byte) : (s.setBytes a b).pending = s.pending := rfl
@[simp] theorem State.setBytes_sent (s : State) (a : Nat) (b : List Byte) : (s.setBytes a b).sent = s.sent := rfl
@[simp] theorem State.setBytes_freeSeq (s : State) (a : Nat) (b : List Byte) : (s.setBytes a b).freeSeq = s.freeSeq := rfl

/-! ### State.setWord -/

@[simp] theorem State.setWord_mono (s : State) (a : Nat) (w : Word) : (s.setWord a w).mono = s.mono := rfl
@[simp] theorem State.setWord_tim (s : State) (a : Nat) (w : Word) : (s.setWord a w).tim = s.tim := rfl
@[simp] theorem State.setWord_calBase (s : State) (a : Nat) (w : Word) : (s.setWord a w).calBase = s.calBase := rfl
@[simp] theorem State.setWord_calAt (s : State) (a : Nat) (w : Word) : (s.setWord a w).calAt = s.calAt := rfl
@[simp] theorem State.setWord_slew (s : State) (a : Nat) (w : Word) : (s.setWord a w).slew = s.slew := rfl
@[simp] theorem State.setWord_calPpb (s : State) (a : Nat) (w : Word) : (s.setWord a w).calPpb = s.calPpb := rfl
@[simp] theorem State.setWord_fab (s : State) (a : Nat) (w : Word) : (s.setWord a w).fab = s.fab := rfl
@[simp] theorem State.setWord_latch (s : State) (a : Nat) (w : Word) : (s.setWord a w).latch = s.latch := rfl
@[simp] theorem State.setWord_mem (s : State) (a : Nat) (w : Word) : (s.setWord a w).mem = Mem.writeList s.mem a (leBytes 4 w.toNat) := rfl
@[simp] theorem State.setWord_eng (s : State) (a : Nat) (w : Word) : (s.setWord a w).eng = s.eng := rfl
@[simp] theorem State.setWord_tally (s : State) (a : Nat) (w : Word) : (s.setWord a w).tally = s.tally := rfl
@[simp] theorem State.setWord_axes (s : State) (a : Nat) (w : Word) : (s.setWord a w).axes = s.axes := rfl
@[simp] theorem State.setWord_portals (s : State) (a : Nat) (w : Word) : (s.setWord a w).portals = s.portals := rfl
@[simp] theorem State.setWord_fel (s : State) (a : Nat) (w : Word) : (s.setWord a w).fel = s.fel := rfl
@[simp] theorem State.setWord_sde (s : State) (a : Nat) (w : Word) : (s.setWord a w).sde = s.sde := rfl
@[simp] theorem State.setWord_ls (s : State) (a : Nat) (w : Word) : (s.setWord a w).ls = s.ls := rfl
@[simp] theorem State.setWord_lsg (s : State) (a : Nat) (w : Word) : (s.setWord a w).lsg = s.lsg := rfl
@[simp] theorem State.setWord_kerf (s : State) (a : Nat) (w : Word) : (s.setWord a w).kerf = s.kerf := rfl
@[simp] theorem State.setWord_fio (s : State) (a : Nat) (w : Word) : (s.setWord a w).fio = s.fio := rfl
@[simp] theorem State.setWord_safe (s : State) (a : Nat) (w : Word) : (s.setWord a w).safe = s.safe := rfl
@[simp] theorem State.setWord_jnl (s : State) (a : Nat) (w : Word) : (s.setWord a w).jnl = s.jnl := rfl
@[simp] theorem State.setWord_net (s : State) (a : Nat) (w : Word) : (s.setWord a w).net = s.net := rfl
@[simp] theorem State.setWord_lnd (s : State) (a : Nat) (w : Word) : (s.setWord a w).lnd = s.lnd := rfl
@[simp] theorem State.setWord_tru (s : State) (a : Nat) (w : Word) : (s.setWord a w).tru = s.tru := rfl
@[simp] theorem State.setWord_pwr (s : State) (a : Nat) (w : Word) : (s.setWord a w).pwr = s.pwr := rfl
@[simp] theorem State.setWord_boot (s : State) (a : Nat) (w : Word) : (s.setWord a w).boot = s.boot := rfl
@[simp] theorem State.setWord_pending (s : State) (a : Nat) (w : Word) : (s.setWord a w).pending = s.pending := rfl
@[simp] theorem State.setWord_sent (s : State) (a : Nat) (w : Word) : (s.setWord a w).sent = s.sent := rfl
@[simp] theorem State.setWord_freeSeq (s : State) (a : Nat) (w : Word) : (s.setWord a w).freeSeq = s.freeSeq := rfl

/-! ### State.upTo -/

@[simp] theorem State.upTo_mono (s : State) (t : Nat) : (s.upTo t).mono = max s.mono t := rfl
@[simp] theorem State.upTo_tim (s : State) (t : Nat) : (s.upTo t).tim = s.tim := rfl
@[simp] theorem State.upTo_calBase (s : State) (t : Nat) : (s.upTo t).calBase = s.calBase := rfl
@[simp] theorem State.upTo_calAt (s : State) (t : Nat) : (s.upTo t).calAt = s.calAt := rfl
@[simp] theorem State.upTo_slew (s : State) (t : Nat) : (s.upTo t).slew = s.slew := rfl
@[simp] theorem State.upTo_calPpb (s : State) (t : Nat) : (s.upTo t).calPpb = s.calPpb := rfl
@[simp] theorem State.upTo_fab (s : State) (t : Nat) : (s.upTo t).fab = s.fab := rfl
@[simp] theorem State.upTo_latch (s : State) (t : Nat) : (s.upTo t).latch = s.latch := rfl
@[simp] theorem State.upTo_mem (s : State) (t : Nat) : (s.upTo t).mem = s.mem := rfl
@[simp] theorem State.upTo_eng (s : State) (t : Nat) : (s.upTo t).eng = s.eng := rfl
@[simp] theorem State.upTo_tally (s : State) (t : Nat) : (s.upTo t).tally = s.tally := rfl
@[simp] theorem State.upTo_axes (s : State) (t : Nat) : (s.upTo t).axes = s.axes := rfl
@[simp] theorem State.upTo_portals (s : State) (t : Nat) : (s.upTo t).portals = s.portals := rfl
@[simp] theorem State.upTo_fel (s : State) (t : Nat) : (s.upTo t).fel = s.fel := rfl
@[simp] theorem State.upTo_sde (s : State) (t : Nat) : (s.upTo t).sde = s.sde := rfl
@[simp] theorem State.upTo_ls (s : State) (t : Nat) : (s.upTo t).ls = s.ls := rfl
@[simp] theorem State.upTo_lsg (s : State) (t : Nat) : (s.upTo t).lsg = s.lsg := rfl
@[simp] theorem State.upTo_kerf (s : State) (t : Nat) : (s.upTo t).kerf = s.kerf := rfl
@[simp] theorem State.upTo_fio (s : State) (t : Nat) : (s.upTo t).fio = s.fio := rfl
@[simp] theorem State.upTo_safe (s : State) (t : Nat) : (s.upTo t).safe = s.safe := rfl
@[simp] theorem State.upTo_jnl (s : State) (t : Nat) : (s.upTo t).jnl = s.jnl := rfl
@[simp] theorem State.upTo_net (s : State) (t : Nat) : (s.upTo t).net = s.net := rfl
@[simp] theorem State.upTo_lnd (s : State) (t : Nat) : (s.upTo t).lnd = s.lnd := rfl
@[simp] theorem State.upTo_tru (s : State) (t : Nat) : (s.upTo t).tru = s.tru := rfl
@[simp] theorem State.upTo_pwr (s : State) (t : Nat) : (s.upTo t).pwr = s.pwr := rfl
@[simp] theorem State.upTo_boot (s : State) (t : Nat) : (s.upTo t).boot = s.boot := rfl
@[simp] theorem State.upTo_pending (s : State) (t : Nat) : (s.upTo t).pending = s.pending := rfl
@[simp] theorem State.upTo_sent (s : State) (t : Nat) : (s.upTo t).sent = s.sent := rfl
@[simp] theorem State.upTo_freeSeq (s : State) (t : Nat) : (s.upTo t).freeSeq = s.freeSeq := rfl

/-! ### State.pass -/

@[simp] theorem State.pass_mono (s : State) (n : Nat) : (s.pass n).mono = s.mono + n := rfl
@[simp] theorem State.pass_tim (s : State) (n : Nat) : (s.pass n).tim = s.tim := rfl
@[simp] theorem State.pass_calBase (s : State) (n : Nat) : (s.pass n).calBase = s.calBase := rfl
@[simp] theorem State.pass_calAt (s : State) (n : Nat) : (s.pass n).calAt = s.calAt := rfl
@[simp] theorem State.pass_slew (s : State) (n : Nat) : (s.pass n).slew = s.slew := rfl
@[simp] theorem State.pass_calPpb (s : State) (n : Nat) : (s.pass n).calPpb = s.calPpb := rfl
@[simp] theorem State.pass_fab (s : State) (n : Nat) : (s.pass n).fab = s.fab := rfl
@[simp] theorem State.pass_latch (s : State) (n : Nat) : (s.pass n).latch = s.latch := rfl
@[simp] theorem State.pass_mem (s : State) (n : Nat) : (s.pass n).mem = s.mem := rfl
@[simp] theorem State.pass_eng (s : State) (n : Nat) : (s.pass n).eng = s.eng := rfl
@[simp] theorem State.pass_tally (s : State) (n : Nat) : (s.pass n).tally = s.tally := rfl
@[simp] theorem State.pass_axes (s : State) (n : Nat) : (s.pass n).axes = s.axes := rfl
@[simp] theorem State.pass_portals (s : State) (n : Nat) : (s.pass n).portals = s.portals := rfl
@[simp] theorem State.pass_fel (s : State) (n : Nat) : (s.pass n).fel = s.fel := rfl
@[simp] theorem State.pass_sde (s : State) (n : Nat) : (s.pass n).sde = s.sde := rfl
@[simp] theorem State.pass_ls (s : State) (n : Nat) : (s.pass n).ls = s.ls := rfl
@[simp] theorem State.pass_lsg (s : State) (n : Nat) : (s.pass n).lsg = s.lsg := rfl
@[simp] theorem State.pass_kerf (s : State) (n : Nat) : (s.pass n).kerf = s.kerf := rfl
@[simp] theorem State.pass_fio (s : State) (n : Nat) : (s.pass n).fio = s.fio := rfl
@[simp] theorem State.pass_safe (s : State) (n : Nat) : (s.pass n).safe = s.safe := rfl
@[simp] theorem State.pass_jnl (s : State) (n : Nat) : (s.pass n).jnl = s.jnl := rfl
@[simp] theorem State.pass_net (s : State) (n : Nat) : (s.pass n).net = s.net := rfl
@[simp] theorem State.pass_lnd (s : State) (n : Nat) : (s.pass n).lnd = s.lnd := rfl
@[simp] theorem State.pass_tru (s : State) (n : Nat) : (s.pass n).tru = s.tru := rfl
@[simp] theorem State.pass_pwr (s : State) (n : Nat) : (s.pass n).pwr = s.pwr := rfl
@[simp] theorem State.pass_boot (s : State) (n : Nat) : (s.pass n).boot = s.boot := rfl
@[simp] theorem State.pass_pending (s : State) (n : Nat) : (s.pass n).pending = s.pending := rfl
@[simp] theorem State.pass_sent (s : State) (n : Nat) : (s.pass n).sent = s.sent := rfl
@[simp] theorem State.pass_freeSeq (s : State) (n : Nat) : (s.pass n).freeSeq = s.freeSeq := rfl

/-! ### State.latchPut -/

@[simp] theorem State.latchPut_mono (s : State) (r a : Nat) (w : Word) : (s.latchPut r a w).mono = s.mono := rfl
@[simp] theorem State.latchPut_tim (s : State) (r a : Nat) (w : Word) : (s.latchPut r a w).tim = s.tim := rfl
@[simp] theorem State.latchPut_calBase (s : State) (r a : Nat) (w : Word) : (s.latchPut r a w).calBase = s.calBase := rfl
@[simp] theorem State.latchPut_calAt (s : State) (r a : Nat) (w : Word) : (s.latchPut r a w).calAt = s.calAt := rfl
@[simp] theorem State.latchPut_slew (s : State) (r a : Nat) (w : Word) : (s.latchPut r a w).slew = s.slew := rfl
@[simp] theorem State.latchPut_calPpb (s : State) (r a : Nat) (w : Word) : (s.latchPut r a w).calPpb = s.calPpb := rfl
@[simp] theorem State.latchPut_fab (s : State) (r a : Nat) (w : Word) : (s.latchPut r a w).fab = s.fab := rfl
@[simp] theorem State.latchPut_latch (s : State) (r a : Nat) (w : Word) : (s.latchPut r a w).latch = (r, a, w) :: s.latch.filter fun e => !(e.1 == r && e.2.1 == a) := rfl
@[simp] theorem State.latchPut_mem (s : State) (r a : Nat) (w : Word) : (s.latchPut r a w).mem = s.mem := rfl
@[simp] theorem State.latchPut_eng (s : State) (r a : Nat) (w : Word) : (s.latchPut r a w).eng = s.eng := rfl
@[simp] theorem State.latchPut_tally (s : State) (r a : Nat) (w : Word) : (s.latchPut r a w).tally = s.tally := rfl
@[simp] theorem State.latchPut_axes (s : State) (r a : Nat) (w : Word) : (s.latchPut r a w).axes = s.axes := rfl
@[simp] theorem State.latchPut_portals (s : State) (r a : Nat) (w : Word) : (s.latchPut r a w).portals = s.portals := rfl
@[simp] theorem State.latchPut_fel (s : State) (r a : Nat) (w : Word) : (s.latchPut r a w).fel = s.fel := rfl
@[simp] theorem State.latchPut_sde (s : State) (r a : Nat) (w : Word) : (s.latchPut r a w).sde = s.sde := rfl
@[simp] theorem State.latchPut_ls (s : State) (r a : Nat) (w : Word) : (s.latchPut r a w).ls = s.ls := rfl
@[simp] theorem State.latchPut_lsg (s : State) (r a : Nat) (w : Word) : (s.latchPut r a w).lsg = s.lsg := rfl
@[simp] theorem State.latchPut_kerf (s : State) (r a : Nat) (w : Word) : (s.latchPut r a w).kerf = s.kerf := rfl
@[simp] theorem State.latchPut_fio (s : State) (r a : Nat) (w : Word) : (s.latchPut r a w).fio = s.fio := rfl
@[simp] theorem State.latchPut_safe (s : State) (r a : Nat) (w : Word) : (s.latchPut r a w).safe = s.safe := rfl
@[simp] theorem State.latchPut_jnl (s : State) (r a : Nat) (w : Word) : (s.latchPut r a w).jnl = s.jnl := rfl
@[simp] theorem State.latchPut_net (s : State) (r a : Nat) (w : Word) : (s.latchPut r a w).net = s.net := rfl
@[simp] theorem State.latchPut_lnd (s : State) (r a : Nat) (w : Word) : (s.latchPut r a w).lnd = s.lnd := rfl
@[simp] theorem State.latchPut_tru (s : State) (r a : Nat) (w : Word) : (s.latchPut r a w).tru = s.tru := rfl
@[simp] theorem State.latchPut_pwr (s : State) (r a : Nat) (w : Word) : (s.latchPut r a w).pwr = s.pwr := rfl
@[simp] theorem State.latchPut_boot (s : State) (r a : Nat) (w : Word) : (s.latchPut r a w).boot = s.boot := rfl
@[simp] theorem State.latchPut_pending (s : State) (r a : Nat) (w : Word) : (s.latchPut r a w).pending = s.pending := rfl
@[simp] theorem State.latchPut_sent (s : State) (r a : Nat) (w : Word) : (s.latchPut r a w).sent = s.sent := rfl
@[simp] theorem State.latchPut_freeSeq (s : State) (r a : Nat) (w : Word) : (s.latchPut r a w).freeSeq = s.freeSeq := rfl

/-! ### State.send -/

@[simp] theorem State.send_mono (s : State) (o : Output) : (s.send o).mono = s.mono := rfl
@[simp] theorem State.send_tim (s : State) (o : Output) : (s.send o).tim = s.tim := rfl
@[simp] theorem State.send_calBase (s : State) (o : Output) : (s.send o).calBase = s.calBase := rfl
@[simp] theorem State.send_calAt (s : State) (o : Output) : (s.send o).calAt = s.calAt := rfl
@[simp] theorem State.send_slew (s : State) (o : Output) : (s.send o).slew = s.slew := rfl
@[simp] theorem State.send_calPpb (s : State) (o : Output) : (s.send o).calPpb = s.calPpb := rfl
@[simp] theorem State.send_fab (s : State) (o : Output) : (s.send o).fab = s.fab := rfl
@[simp] theorem State.send_latch (s : State) (o : Output) : (s.send o).latch = s.latch := rfl
@[simp] theorem State.send_mem (s : State) (o : Output) : (s.send o).mem = s.mem := rfl
@[simp] theorem State.send_eng (s : State) (o : Output) : (s.send o).eng = s.eng := rfl
@[simp] theorem State.send_tally (s : State) (o : Output) : (s.send o).tally = s.tally := rfl
@[simp] theorem State.send_axes (s : State) (o : Output) : (s.send o).axes = s.axes := rfl
@[simp] theorem State.send_portals (s : State) (o : Output) : (s.send o).portals = s.portals := rfl
@[simp] theorem State.send_fel (s : State) (o : Output) : (s.send o).fel = s.fel := rfl
@[simp] theorem State.send_sde (s : State) (o : Output) : (s.send o).sde = s.sde := rfl
@[simp] theorem State.send_ls (s : State) (o : Output) : (s.send o).ls = s.ls := rfl
@[simp] theorem State.send_lsg (s : State) (o : Output) : (s.send o).lsg = s.lsg := rfl
@[simp] theorem State.send_kerf (s : State) (o : Output) : (s.send o).kerf = s.kerf := rfl
@[simp] theorem State.send_fio (s : State) (o : Output) : (s.send o).fio = s.fio := rfl
@[simp] theorem State.send_safe (s : State) (o : Output) : (s.send o).safe = s.safe := rfl
@[simp] theorem State.send_jnl (s : State) (o : Output) : (s.send o).jnl = s.jnl := rfl
@[simp] theorem State.send_net (s : State) (o : Output) : (s.send o).net = s.net := rfl
@[simp] theorem State.send_lnd (s : State) (o : Output) : (s.send o).lnd = s.lnd := rfl
@[simp] theorem State.send_tru (s : State) (o : Output) : (s.send o).tru = s.tru := rfl
@[simp] theorem State.send_pwr (s : State) (o : Output) : (s.send o).pwr = s.pwr := rfl
@[simp] theorem State.send_boot (s : State) (o : Output) : (s.send o).boot = s.boot := rfl
@[simp] theorem State.send_pending (s : State) (o : Output) : (s.send o).pending = s.pending := rfl
@[simp] theorem State.send_sent (s : State) (o : Output) : (s.send o).sent = s.sent ++ [o] := rfl
@[simp] theorem State.send_freeSeq (s : State) (o : Output) : (s.send o).freeSeq = s.freeSeq := rfl

/-! ### State.violation -/

@[simp] theorem State.violation_mono (s : State) (a : Word) : (s.violation a).mono = s.mono := rfl
@[simp] theorem State.violation_tim (s : State) (a : Word) : (s.violation a).tim = s.tim := rfl
@[simp] theorem State.violation_calBase (s : State) (a : Word) : (s.violation a).calBase = s.calBase := rfl
@[simp] theorem State.violation_calAt (s : State) (a : Word) : (s.violation a).calAt = s.calAt := rfl
@[simp] theorem State.violation_slew (s : State) (a : Word) : (s.violation a).slew = s.slew := rfl
@[simp] theorem State.violation_calPpb (s : State) (a : Word) : (s.violation a).calPpb = s.calPpb := rfl
@[simp] theorem State.violation_fab (s : State) (a : Word) : (s.violation a).fab = s.fab := rfl
@[simp] theorem State.violation_latch (s : State) (a : Word) : (s.violation a).latch = s.latch := rfl
@[simp] theorem State.violation_mem (s : State) (a : Word) : (s.violation a).mem = s.mem := rfl
@[simp] theorem State.violation_eng (s : State) (a : Word) : (s.violation a).eng = { s.eng with sys := { s.eng.sys with violn := satInc s.eng.sys.violn, viola := a } } := rfl
@[simp] theorem State.violation_tally (s : State) (a : Word) : (s.violation a).tally = s.tally := rfl
@[simp] theorem State.violation_axes (s : State) (a : Word) : (s.violation a).axes = s.axes := rfl
@[simp] theorem State.violation_portals (s : State) (a : Word) : (s.violation a).portals = s.portals := rfl
@[simp] theorem State.violation_fel (s : State) (a : Word) : (s.violation a).fel = s.fel := rfl
@[simp] theorem State.violation_sde (s : State) (a : Word) : (s.violation a).sde = s.sde := rfl
@[simp] theorem State.violation_ls (s : State) (a : Word) : (s.violation a).ls = s.ls := rfl
@[simp] theorem State.violation_lsg (s : State) (a : Word) : (s.violation a).lsg = s.lsg := rfl
@[simp] theorem State.violation_kerf (s : State) (a : Word) : (s.violation a).kerf = s.kerf := rfl
@[simp] theorem State.violation_fio (s : State) (a : Word) : (s.violation a).fio = s.fio := rfl
@[simp] theorem State.violation_safe (s : State) (a : Word) : (s.violation a).safe = s.safe := rfl
@[simp] theorem State.violation_jnl (s : State) (a : Word) : (s.violation a).jnl = s.jnl := rfl
@[simp] theorem State.violation_net (s : State) (a : Word) : (s.violation a).net = s.net := rfl
@[simp] theorem State.violation_lnd (s : State) (a : Word) : (s.violation a).lnd = s.lnd := rfl
@[simp] theorem State.violation_tru (s : State) (a : Word) : (s.violation a).tru = s.tru := rfl
@[simp] theorem State.violation_pwr (s : State) (a : Word) : (s.violation a).pwr = s.pwr := rfl
@[simp] theorem State.violation_boot (s : State) (a : Word) : (s.violation a).boot = s.boot := rfl
@[simp] theorem State.violation_pending (s : State) (a : Word) : (s.violation a).pending = s.pending := rfl
@[simp] theorem State.violation_sent (s : State) (a : Word) : (s.violation a).sent = s.sent := rfl
@[simp] theorem State.violation_freeSeq (s : State) (a : Word) : (s.violation a).freeSeq = s.freeSeq := rfl

/-! ### A unit read after it, or another, was written -/

@[simp] theorem State.modAxis_axis (s : State) (i : AxisIx) (f : Axis → Axis) : (s.modAxis i f).axis i = f (s.axis i) := by
  simp [State.axis]

theorem State.modAxis_axis_ne (s : State) (i j : AxisIx) (f : Axis → Axis) (h : i ≠ j) : (s.modAxis i f).axis j = s.axis j := by
  have : i.val ≠ j.val := fun e => h (Fin.ext e)
  simp [State.axis, this]

@[simp] theorem State.modPortal_portal (s : State) (p : PortalIx) (f : Portal → Portal) : (s.modPortal p f).portal p = f (s.portal p) := by
  simp [State.portal]

theorem State.modPortal_portal_ne (s : State) (p q : PortalIx) (f : Portal → Portal) (h : p ≠ q) :
    (s.modPortal p f).portal q = s.portal q := by
  have : p.val ≠ q.val := fun e => h (Fin.ext e)
  simp [State.portal, this]

@[simp] theorem State.modLs_get (s : State) (c : ChanIx) (f : LoadCh → LoadCh) : (s.modLs c f).ls[c.val] = f s.ls[c.val] := by simp

@[simp] theorem State.modKerf_get (s : State) (p : PortalIx) (f : Kerf → Kerf) : (s.modKerf p f).kerf[p.val] = f s.kerf[p.val] := by simp

/-! ### The executing context -/

@[simp] theorem State.modBank_cur (s : State) (f : Bank → Bank) : (s.modBank f).eng.cur = s.eng.cur := rfl

@[simp] theorem State.modBank_bank (s : State) (f : Bank → Bank) : (s.modBank f).bank = f s.bank := by
  simp only [State.bank, State.modBank_cur]
  simp [State.modBank, State.modEng]

@[simp] theorem Bank.put_r (k : Bank) (r : Reg) (w : Word) : (k.put r w).r r = w := by simp [Bank.put, Bank.r]

theorem Bank.put_r_ne (k : Bank) (r q : Reg) (w : Word) (h : r ≠ q) : (k.put r w).r q = k.r q := by
  have : r.val ≠ q.val := fun e => h (Fin.ext e)
  simp [Bank.put, Bank.r, this]

theorem Engine.cur_congr (e f : Engine) (h : ∀ i : Fin 4, e.running[i.val].isSome = f.running[i.val].isSome) : e.cur = f.cur := by
  have h0 := h 0; have h1 := h 1; have h2 := h 2; have h3 := h 3
  simp only [Fin.val_zero, Fin.val_one, Fin.val_two] at h0 h1 h2
  have h3' : e.running[3].isSome = f.running[3].isSome := h3
  simp only [Engine.cur, h0, h1, h2, h3']

@[simp] theorem Engine.counted_cur (e : Engine) : e.counted.cur = e.cur := by
  unfold Engine.counted
  split
  · rfl
  · refine Engine.cur_congr _ _ fun i => ?_
    simp only [vmod]
    split
    · rw [Vector.getElem_set]; split <;> simp_all
    · rfl

@[simp] theorem Engine.counted_banks (e : Engine) : e.counted.banks = e.banks := by unfold Engine.counted; split <;> rfl

/-- The count of a call-out's instructions is all that the count changes. -/
theorem Engine.counted_eq (e : Engine) :
    e.counted = { e with running := e.counted.running, sys := { e.sys with comax := e.counted.sys.comax } } := by
  unfold Engine.counted; split <;> rfl

/-- In the cycle nothing is counted. -/
theorem Engine.counted_cycle (e : Engine) (h : e.cur = 0) : e.counted = e := by simp [Engine.counted, h]

theorem State.bank_modEng (s : State) (f : Engine → Engine) (hc : (f s.eng).cur = s.eng.cur) (hb : (f s.eng).banks = s.eng.banks) :
    (s.modEng f).bank = s.bank := by
  simp only [State.bank, State.modEng_eng, hc, hb]

/-- The retirement of a word leaves the context that executes. -/
@[simp] theorem State.retire_cur (s : State) (n : Nat) : (s.retire n).eng.cur = s.eng.cur := by
  rw [State.retire, State.modEng_eng]; exact (Engine.counted_cur _).trans rfl

/-- The retirement of a word moves its context's program counter on by one word and leaves its registers and flags. -/
@[simp] theorem State.retire_bank (s : State) (n : Nat) : (s.retire n).bank = { s.bank with pc := s.bank.pc + 4 } := by
  rw [State.retire, State.bank_modEng _ _ ?_ ?_, State.modBank_bank]
  · rfl
  · exact Engine.counted_cur _
  · exact Engine.counted_banks _

/-- The other contexts' banks are left. -/
theorem State.retire_banks (s : State) (n : Nat) (c : Fin 5) (h : c ≠ s.eng.cur) : (s.retire n).eng.banks[c.val] = s.eng.banks[c.val] := by
  have hv : s.eng.cur.val ≠ c.val := fun e => h (Fin.ext e.symm)
  simp [State.retire, State.modEng_eng, Engine.counted_banks, hv]

@[simp] theorem State.retire_mono (s : State) (n : Nat) : (s.retire n).mono = s.mono + n := rfl

/-- Where the engine is ready, the word is executed after it has been retired. -/
theorem State.insn_ready (s : State) (n : Nat) (f : State → State) (h : s.ready = true) : s.insn n f = f (s.retire n) := by
  simp [State.insn, h]

/-- Where the engine is not ready, the word is not reached. -/
theorem State.insn_not_ready (s : State) (n : Nat) (f : State → State) (h : s.ready = false) : s.insn n f = s := by
  simp [State.insn, h]

/-- The executing bank after an instruction on it. -/
theorem State.bankOp_bank (s : State) (n : Nat) (f : Bank → Bank) (h : s.ready = true) :
    (s.bankOp n f).bank = f { s.bank with pc := s.bank.pc + 4 } := by
  rw [State.bankOp, State.insn_ready _ _ _ h, State.modBank_bank, State.retire_bank]

end Sys2Proof.Machine
end

