-- ==== Sys2Proof/Laws/Engine.lean ====
section
/-! SUPPORT. What the operations that every Filif word is made of do: an instruction on its context's bank, where it executes and where not. -/

namespace Sys2Proof.Machine

theorem State.retire_eng (s : State) (n : Nat) : (s.retire n).eng =
    { s.eng with banks := (s.retire n).eng.banks, running := (s.retire n).eng.running,
                 sys := { s.eng.sys with comax := (s.retire n).eng.sys.comax }
                 stalled := false } := by
  simp only [State.retire, State.modEng_eng]
  rw [Engine.counted_eq]
  simp

/-- A change of the executing bank after a word has been retired. -/
theorem State.retire_modBank_ran (s : State) (n : Nat) (f : Bank → Bank) : wordRan n s ((s.retire n).modBank f) := by
  refine ⟨changesOnly_of_mask _ _ _ ?_, rfl, State.retire_cur s n, fun c hc => ?_, ?_⟩
  · rw [State.modBank_mask _ _ _ (by decide), State.retire_mask _ _ _ (by decide) (by decide)]
  · have hv : (s.retire n).eng.cur.val ≠ c.val := by rw [State.retire_cur]; exact fun e => hc (Fin.ext e.symm)
    rw [State.modBank_eng]
    simp only [Vector.getElem_set_ne _ _ hv]
    exact State.retire_banks s n c hc
  · exact congrArg (fun e : Engine => { e with banks := ((s.retire n).modBank f).eng.banks }) (State.retire_eng s n)

/-- An instruction on its context's bank touches nothing else. -/
theorem State.bankOp_ran (s : State) (n : Nat) (f : Bank → Bank) (h : s.ready = true) : wordRan n s (s.bankOp n f) := by
  rw [State.bankOp, State.insn_ready _ _ _ h]
  exact State.retire_modBank_ran s n f

@[simp] theorem Bank.put_z (k : Bank) (r : Reg) (w : Word) : (k.put r w).z = k.z := rfl
@[simp] theorem Bank.put_n (k : Bank) (r : Reg) (w : Word) : (k.put r w).n = k.n := rfl
@[simp] theorem Bank.put_c (k : Bank) (r : Reg) (w : Word) : (k.put r w).c = k.c := rfl
@[simp] theorem Bank.put_v (k : Bank) (r : Reg) (w : Word) : (k.put r w).v = k.v := rfl
@[simp] theorem Bank.put_b (k : Bank) (r : Reg) (w : Word) : (k.put r w).b = k.b := rfl
@[simp] theorem Bank.put_pc (k : Bank) (r : Reg) (w : Word) : (k.put r w).pc = k.pc := rfl
@[simp] theorem Bank.zn_r (k : Bank) (w : Word) (q : Reg) : (k.zn w).r q = k.r q := rfl
@[simp] theorem Bank.zn_z (k : Bank) (w : Word) : (k.zn w).z = (w == 0) := rfl
@[simp] theorem Bank.zn_n (k : Bank) (w : Word) : (k.zn w).n = w.getLsbD 31 := rfl
@[simp] theorem Bank.zn_c (k : Bank) (w : Word) : (k.zn w).c = k.c := rfl
@[simp] theorem Bank.zn_v (k : Bank) (w : Word) : (k.zn w).v = k.v := rfl
@[simp] theorem Bank.zn_b (k : Bank) (w : Word) : (k.zn w).b = k.b := rfl
@[simp] theorem Bank.zn_pc (k : Bank) (w : Word) : (k.zn w).pc = k.pc := rfl
@[simp] theorem Bank.zncv_r (k : Bank) (a : Alu) (q : Reg) : (k.zncv a).r q = k.r q := rfl
@[simp] theorem Bank.zncv_z (k : Bank) (a : Alu) : (k.zncv a).z = (a.res == 0) := rfl
@[simp] theorem Bank.zncv_n (k : Bank) (a : Alu) : (k.zncv a).n = a.res.getLsbD 31 := rfl
@[simp] theorem Bank.zncv_c (k : Bank) (a : Alu) : (k.zncv a).c = a.c := rfl
@[simp] theorem Bank.zncv_v (k : Bank) (a : Alu) : (k.zncv a).v = a.v := rfl
@[simp] theorem Bank.zncv_b (k : Bank) (a : Alu) : (k.zncv a).b = k.b := rfl
@[simp] theorem Bank.zncv_pc (k : Bank) (a : Alu) : (k.zncv a).pc = k.pc := rfl
@[simp] theorem Bank.znv_r (k : Bank) (a : Alu) (q : Reg) : (k.znv a).r q = k.r q := rfl
@[simp] theorem Bank.znv_z (k : Bank) (a : Alu) : (k.znv a).z = (a.res == 0) := rfl
@[simp] theorem Bank.znv_n (k : Bank) (a : Alu) : (k.znv a).n = a.res.getLsbD 31 := rfl
@[simp] theorem Bank.znv_c (k : Bank) (a : Alu) : (k.znv a).c = k.c := rfl
@[simp] theorem Bank.znv_v (k : Bank) (a : Alu) : (k.znv a).v = a.v := rfl
@[simp] theorem Bank.znv_b (k : Bank) (a : Alu) : (k.znv a).b = k.b := rfl
@[simp] theorem Bank.znv_pc (k : Bank) (a : Alu) : (k.znv a).pc = k.pc := rfl

end Sys2Proof.Machine
end

