-- ==== Sys2Proof/Laws/FrameSafetyOps.lean ====
section
/-! SUPPORT. What each operation of Machine/SafetyOps.lean can change: it keeps every part of the state that it is not named to change. -/

set_option linter.unusedSimpArgs false

namespace Sys2Proof.Machine

theorem State.modSafe_mask (k : Part → Bool) (s : State) (f : Safety → Safety) (h0 : k .safe = false) :
    (State.modSafe s f).mask k = s.mask k := by
  unfold State.modSafe
  first
    | (simp (maxDischargeDepth := 9) only [↓State.mask_with_safe, ↓State.mask_ite, ite_self, implies_true, h0]; done)
    | ((try dsimp only); (repeat' split) <;> first | (simp (maxDischargeDepth := 9) only [↓State.mask_with_safe, ↓State.mask_ite, ite_self, implies_true, h0]; done) | (simp_all (maxDischargeDepth := 9) only [↓State.mask_with_safe, ↓State.mask_ite, ite_self, implies_true, h0]; done))
    | (simp only [State.mask, Bool.false_eq_true, ↓reduceIte, h0]; done)
    | (simp (maxDischargeDepth := 9) only [↓State.mask_with_safe, ↓State.mask_ite, ite_self, implies_true, h0]; simp only [State.mask, Bool.false_eq_true, ↓reduceIte, h0]; done)

theorem State.zspEval_mask (k : Part → Bool) (s : State) (h0 : k .tally = false) (h1 : k .portals = false) (h2 : k .kerf = false) (h3 : k .sent = false) :
    (State.zspEval s).mask k = s.mask k := by
  unfold State.zspEval
  first
    | (simp (maxDischargeDepth := 9) only [↓State.modPortal_mask, ↓State.event_mask, ↓State.kerfClose_mask, ↓State.mask_ite, ite_self, implies_true, ↓State.mask_forAll, h0, h1, h2, h3]; done)
    | ((try dsimp only); (repeat' split) <;> first | (simp (maxDischargeDepth := 9) only [↓State.modPortal_mask, ↓State.event_mask, ↓State.kerfClose_mask, ↓State.mask_ite, ite_self, implies_true, ↓State.mask_forAll, h0, h1, h2, h3]; done) | (simp_all (maxDischargeDepth := 9) only [↓State.modPortal_mask, ↓State.event_mask, ↓State.kerfClose_mask, ↓State.mask_ite, ite_self, implies_true, ↓State.mask_forAll, h0, h1, h2, h3]; done))
    | ((try dsimp only); refine State.mask_forAll _ _ _ _ fun _ _ => ?_; (repeat' split) <;> simp (maxDischargeDepth := 9) only [↓State.modPortal_mask, ↓State.event_mask, ↓State.kerfClose_mask, ↓State.mask_ite, ite_self, implies_true, ↓State.mask_forAll, h0, h1, h2, h3]; done)
    | ((try dsimp only); refine (State.mask_forAll _ _ _ _ fun _ _ => ?_).trans ?_ <;> (repeat' split) <;> simp (maxDischargeDepth := 9) only [↓State.modPortal_mask, ↓State.event_mask, ↓State.kerfClose_mask, ↓State.mask_ite, ite_self, implies_true, ↓State.mask_forAll, h0, h1, h2, h3]; done)

theorem State.sdeEval_mask (k : Part → Bool) (s : State) (h0 : k .tally = false) (h1 : k .axes = false) (h2 : k .portals = false) (h3 : k .sde = false) (h4 : k .kerf = false) (h5 : k .safe = false) (h6 : k .sent = false) :
    (State.sdeEval s).mask k = s.mask k := by
  unfold State.sdeEval
  first
    | (simp (maxDischargeDepth := 9) only [↓State.bridgeEvalPortal_mask, ↓State.zspEval_mask, ↓State.mask_with_tally, ↓State.mask_with_axes, ↓State.mask_with_portals, ↓State.mask_with_sde, ↓State.mask_with_kerf, ↓State.mask_with_safe, ↓State.mask_with_sent, ↓State.mask_ite, ite_self, implies_true, ↓State.mask_forAll, ↓State.mask_foldl, h0, h1, h2, h3, h4, h5, h6]; done)
    | ((try dsimp only); (repeat' split) <;> first | (simp (maxDischargeDepth := 9) only [↓State.bridgeEvalPortal_mask, ↓State.zspEval_mask, ↓State.mask_with_tally, ↓State.mask_with_axes, ↓State.mask_with_portals, ↓State.mask_with_sde, ↓State.mask_with_kerf, ↓State.mask_with_safe, ↓State.mask_with_sent, ↓State.mask_ite, ite_self, implies_true, ↓State.mask_forAll, ↓State.mask_foldl, h0, h1, h2, h3, h4, h5, h6]; done) | (simp_all (maxDischargeDepth := 9) only [↓State.bridgeEvalPortal_mask, ↓State.zspEval_mask, ↓State.mask_with_tally, ↓State.mask_with_axes, ↓State.mask_with_portals, ↓State.mask_with_sde, ↓State.mask_with_kerf, ↓State.mask_with_safe, ↓State.mask_with_sent, ↓State.mask_ite, ite_self, implies_true, ↓State.mask_forAll, ↓State.mask_foldl, h0, h1, h2, h3, h4, h5, h6]; done))
    | (simp only [State.mask, Bool.false_eq_true, ↓reduceIte, h0, h1, h2, h3, h4, h5, h6]; done)
    | (simp (maxDischargeDepth := 9) only [↓State.bridgeEvalPortal_mask, ↓State.zspEval_mask, ↓State.mask_with_tally, ↓State.mask_with_axes, ↓State.mask_with_portals, ↓State.mask_with_sde, ↓State.mask_with_kerf, ↓State.mask_with_safe, ↓State.mask_with_sent, ↓State.mask_ite, ite_self, implies_true, ↓State.mask_forAll, ↓State.mask_foldl, h0, h1, h2, h3, h4, h5, h6]; simp only [State.mask, Bool.false_eq_true, ↓reduceIte, h0, h1, h2, h3, h4, h5, h6]; done)
    | ((try dsimp only); refine State.mask_forAll _ _ _ _ fun _ _ => ?_; (repeat' split) <;> simp (maxDischargeDepth := 9) only [↓State.bridgeEvalPortal_mask, ↓State.zspEval_mask, ↓State.mask_with_tally, ↓State.mask_with_axes, ↓State.mask_with_portals, ↓State.mask_with_sde, ↓State.mask_with_kerf, ↓State.mask_with_safe, ↓State.mask_with_sent, ↓State.mask_ite, ite_self, implies_true, ↓State.mask_forAll, ↓State.mask_foldl, h0, h1, h2, h3, h4, h5, h6]; done)
    | ((try dsimp only); refine (State.mask_forAll _ _ _ _ fun _ _ => ?_).trans ?_ <;> (repeat' split) <;> simp (maxDischargeDepth := 9) only [↓State.bridgeEvalPortal_mask, ↓State.zspEval_mask, ↓State.mask_with_tally, ↓State.mask_with_axes, ↓State.mask_with_portals, ↓State.mask_with_sde, ↓State.mask_with_kerf, ↓State.mask_with_safe, ↓State.mask_with_sent, ↓State.mask_ite, ite_self, implies_true, ↓State.mask_forAll, ↓State.mask_foldl, h0, h1, h2, h3, h4, h5, h6]; done)

theorem State.setCl_mask (k : Part → Bool) (s : State) (p : PortalIx) (cl : Bool) (h0 : k .tally = false) (h1 : k .axes = false) (h2 : k .portals = false) (h3 : k .ls = false) (h4 : k .kerf = false) (h5 : k .sent = false) :
    (State.setCl s p cl).mask k = s.mask k := by
  unfold State.setCl
  first
    | (simp (maxDischargeDepth := 9) only [↓State.modPortal_mask, ↓State.kerfCl_mask, ↓State.cycleEnd_mask, ↓State.cycleStart_mask, ↓State.idleClose_mask, ↓State.mask_ite, ite_self, implies_true, h0, h1, h2, h3, h4, h5]; done)
    | ((try dsimp only); (repeat' split) <;> first | (simp (maxDischargeDepth := 9) only [↓State.modPortal_mask, ↓State.kerfCl_mask, ↓State.cycleEnd_mask, ↓State.cycleStart_mask, ↓State.idleClose_mask, ↓State.mask_ite, ite_self, implies_true, h0, h1, h2, h3, h4, h5]; done) | (simp_all (maxDischargeDepth := 9) only [↓State.modPortal_mask, ↓State.kerfCl_mask, ↓State.cycleEnd_mask, ↓State.cycleStart_mask, ↓State.idleClose_mask, ↓State.mask_ite, ite_self, implies_true, h0, h1, h2, h3, h4, h5]; done))

theorem State.setEeh_mask (k : Part → Bool) (s : State) (p : PortalIx) (e : Bool) (h0 : k .tally = false) (h1 : k .axes = false) (h2 : k .portals = false) :
    (State.setEeh s p e).mask k = s.mask k := by
  unfold State.setEeh
  first
    | (simp (maxDischargeDepth := 9) only [↓State.modPortal_mask, ↓State.bridgeEvalPortal_mask, ↓State.stopAxis_mask, ↓State.cycleEnd_mask, ↓State.mask_ite, ite_self, implies_true, ↓State.mask_forAll, h0, h1, h2]; done)
    | ((try dsimp only); (repeat' split) <;> first | (simp (maxDischargeDepth := 9) only [↓State.modPortal_mask, ↓State.bridgeEvalPortal_mask, ↓State.stopAxis_mask, ↓State.cycleEnd_mask, ↓State.mask_ite, ite_self, implies_true, ↓State.mask_forAll, h0, h1, h2]; done) | (simp_all (maxDischargeDepth := 9) only [↓State.modPortal_mask, ↓State.bridgeEvalPortal_mask, ↓State.stopAxis_mask, ↓State.cycleEnd_mask, ↓State.mask_ite, ite_self, implies_true, ↓State.mask_forAll, h0, h1, h2]; done))
    | ((try dsimp only); refine State.mask_forAll _ _ _ _ fun _ _ => ?_; (repeat' split) <;> simp (maxDischargeDepth := 9) only [↓State.modPortal_mask, ↓State.bridgeEvalPortal_mask, ↓State.stopAxis_mask, ↓State.cycleEnd_mask, ↓State.mask_ite, ite_self, implies_true, ↓State.mask_forAll, h0, h1, h2]; done)
    | ((try dsimp only); refine (State.mask_forAll _ _ _ _ fun _ _ => ?_).trans ?_ <;> (repeat' split) <;> simp (maxDischargeDepth := 9) only [↓State.modPortal_mask, ↓State.bridgeEvalPortal_mask, ↓State.stopAxis_mask, ↓State.cycleEnd_mask, ↓State.mask_ite, ite_self, implies_true, ↓State.mask_forAll, h0, h1, h2]; done)

theorem State.setIso_mask (k : Part → Bool) (s : State) (p : PortalIx) (i : Bool) (h0 : k .tally = false) (h1 : k .axes = false) (h2 : k .portals = false) (h3 : k .ls = false) :
    (State.setIso s p i).mask k = s.mask k := by
  unfold State.setIso
  first
    | (simp (maxDischargeDepth := 9) only [↓State.modPortal_mask, ↓State.lsEval_mask, ↓State.bridgeEvalPortal_mask, ↓State.cycleEnd_mask, ↓State.mask_ite, ite_self, implies_true, h0, h1, h2, h3]; done)
    | ((try dsimp only); (repeat' split) <;> first | (simp (maxDischargeDepth := 9) only [↓State.modPortal_mask, ↓State.lsEval_mask, ↓State.bridgeEvalPortal_mask, ↓State.cycleEnd_mask, ↓State.mask_ite, ite_self, implies_true, h0, h1, h2, h3]; done) | (simp_all (maxDischargeDepth := 9) only [↓State.modPortal_mask, ↓State.lsEval_mask, ↓State.bridgeEvalPortal_mask, ↓State.cycleEnd_mask, ↓State.mask_ite, ite_self, implies_true, h0, h1, h2, h3]; done))

theorem State.setDcl_mask (k : Part → Bool) (s : State) (p : PortalIx) (d : BitVec 2) (h0 : k .portals = false) :
    (State.setDcl s p d).mask k = s.mask k := by
  unfold State.setDcl
  first
    | (simp (maxDischargeDepth := 9) only [↓State.modPortal_mask, ↓State.mask_ite, ite_self, implies_true, h0]; done)
    | ((try dsimp only); (repeat' split) <;> first | (simp (maxDischargeDepth := 9) only [↓State.modPortal_mask, ↓State.mask_ite, ite_self, implies_true, h0]; done) | (simp_all (maxDischargeDepth := 9) only [↓State.modPortal_mask, ↓State.mask_ite, ite_self, implies_true, h0]; done))

theorem State.judge_mask (k : Part → Bool) (s : State) (p : PortalIx) (h0 : k .tally = false) (h1 : k .axes = false) (h2 : k .portals = false) (h3 : k .ls = false) (h4 : k .kerf = false) (h5 : k .sent = false) :
    (State.judge s p).mask k = s.mask k := by
  unfold State.judge
  first
    | (simp (maxDischargeDepth := 9) only [↓State.kerfGrid_mask, ↓State.homeEval_mask, ↓State.setCl_mask, ↓State.setEeh_mask, ↓State.setIso_mask, ↓State.setDcl_mask, ↓State.mask_ite, ite_self, implies_true, h0, h1, h2, h3, h4, h5]; done)
    | ((try dsimp only); (repeat' split) <;> first | (simp (maxDischargeDepth := 9) only [↓State.kerfGrid_mask, ↓State.homeEval_mask, ↓State.setCl_mask, ↓State.setEeh_mask, ↓State.setIso_mask, ↓State.setDcl_mask, ↓State.mask_ite, ite_self, implies_true, h0, h1, h2, h3, h4, h5]; done) | (simp_all (maxDischargeDepth := 9) only [↓State.kerfGrid_mask, ↓State.homeEval_mask, ↓State.setCl_mask, ↓State.setEeh_mask, ↓State.setIso_mask, ↓State.setDcl_mask, ↓State.mask_ite, ite_self, implies_true, h0, h1, h2, h3, h4, h5]; done))

theorem State.dropCl_mask (k : Part → Bool) (s : State) (h0 : k .tally = false) (h1 : k .axes = false) (h2 : k .portals = false) (h3 : k .ls = false) (h4 : k .kerf = false) (h5 : k .safe = false) (h6 : k .sent = false) :
    (State.dropCl s).mask k = s.mask k := by
  unfold State.dropCl
  first
    | (simp (maxDischargeDepth := 9) only [↓State.modPortal_mask, ↓State.modSafe_mask, ↓State.setCl_mask, ↓State.mask_ite, ite_self, implies_true, ↓State.mask_forAll, h0, h1, h2, h3, h4, h5, h6]; done)
    | ((try dsimp only); (repeat' split) <;> first | (simp (maxDischargeDepth := 9) only [↓State.modPortal_mask, ↓State.modSafe_mask, ↓State.setCl_mask, ↓State.mask_ite, ite_self, implies_true, ↓State.mask_forAll, h0, h1, h2, h3, h4, h5, h6]; done) | (simp_all (maxDischargeDepth := 9) only [↓State.modPortal_mask, ↓State.modSafe_mask, ↓State.setCl_mask, ↓State.mask_ite, ite_self, implies_true, ↓State.mask_forAll, h0, h1, h2, h3, h4, h5, h6]; done))
    | ((try dsimp only); refine State.mask_forAll _ _ _ _ fun _ _ => ?_; (repeat' split) <;> simp (maxDischargeDepth := 9) only [↓State.modPortal_mask, ↓State.modSafe_mask, ↓State.setCl_mask, ↓State.mask_ite, ite_self, implies_true, ↓State.mask_forAll, h0, h1, h2, h3, h4, h5, h6]; done)
    | ((try dsimp only); refine (State.mask_forAll _ _ _ _ fun _ _ => ?_).trans ?_ <;> (repeat' split) <;> simp (maxDischargeDepth := 9) only [↓State.modPortal_mask, ↓State.modSafe_mask, ↓State.setCl_mask, ↓State.mask_ite, ite_self, implies_true, ↓State.mask_forAll, h0, h1, h2, h3, h4, h5, h6]; done)

theorem State.modArst_mask (k : Part → Bool) (s : State) (f : RstArst → RstArst) (h0 : k .boot = false) :
    (State.modArst s f).mask k = s.mask k := by
  unfold State.modArst
  first
    | (simp (maxDischargeDepth := 9) only [↓State.mask_with_boot, ↓State.mask_ite, ite_self, implies_true, h0]; done)
    | ((try dsimp only); (repeat' split) <;> first | (simp (maxDischargeDepth := 9) only [↓State.mask_with_boot, ↓State.mask_ite, ite_self, implies_true, h0]; done) | (simp_all (maxDischargeDepth := 9) only [↓State.mask_with_boot, ↓State.mask_ite, ite_self, implies_true, h0]; done))
    | (simp only [State.mask, Bool.false_eq_true, ↓reduceIte, h0]; done)
    | (simp (maxDischargeDepth := 9) only [↓State.mask_with_boot, ↓State.mask_ite, ite_self, implies_true, h0]; simp only [State.mask, Bool.false_eq_true, ↓reduceIte, h0]; done)

theorem State.absenceEnd_mask (k : Part → Bool) (s : State) (h0 : k .safe = false) (h1 : k .boot = false) :
    (State.absenceEnd s).mask k = s.mask k := by
  unfold State.absenceEnd
  first
    | (simp (maxDischargeDepth := 9) only [↓State.modSafe_mask, ↓State.modArst_mask, ↓State.mask_ite, ite_self, implies_true, h0, h1]; done)
    | ((try dsimp only); (repeat' split) <;> first | (simp (maxDischargeDepth := 9) only [↓State.modSafe_mask, ↓State.modArst_mask, ↓State.mask_ite, ite_self, implies_true, h0, h1]; done) | (simp_all (maxDischargeDepth := 9) only [↓State.modSafe_mask, ↓State.modArst_mask, ↓State.mask_ite, ite_self, implies_true, h0, h1]; done))

theorem State.setMode_mask (k : Part → Bool) (s : State) (m : SMode) (h0 : k .tally = false) (h1 : k .axes = false) (h2 : k .portals = false) (h3 : k .sde = false) (h4 : k .ls = false) (h5 : k .kerf = false) (h6 : k .safe = false) (h7 : k .boot = false) (h8 : k .sent = false) :
    (State.setMode s m).mask k = s.mask k := by
  unfold State.setMode
  first
    | (simp (maxDischargeDepth := 9) only [↓State.modSafe_mask, ↓State.sdeEval_mask, ↓State.dropCl_mask, ↓State.absenceEnd_mask, ↓State.mask_ite, ite_self, implies_true, h0, h1, h2, h3, h4, h5, h6, h7, h8]; done)
    | ((try dsimp only); (repeat' split) <;> first | (simp (maxDischargeDepth := 9) only [↓State.modSafe_mask, ↓State.sdeEval_mask, ↓State.dropCl_mask, ↓State.absenceEnd_mask, ↓State.mask_ite, ite_self, implies_true, h0, h1, h2, h3, h4, h5, h6, h7, h8]; done) | (simp_all (maxDischargeDepth := 9) only [↓State.modSafe_mask, ↓State.sdeEval_mask, ↓State.dropCl_mask, ↓State.absenceEnd_mask, ↓State.mask_ite, ite_self, implies_true, h0, h1, h2, h3, h4, h5, h6, h7, h8]; done))

theorem State.safetyRecord_mask (k : Part → Bool) (s : State) (unit n : Nat) (h0 : k .tally = false) :
    (State.safetyRecord s unit n).mask k = s.mask k := by
  unfold State.safetyRecord
  first
    | (simp (maxDischargeDepth := 9) only [↓State.event_mask, ↓State.mask_ite, ite_self, implies_true, h0]; done)
    | ((try dsimp only); (repeat' split) <;> first | (simp (maxDischargeDepth := 9) only [↓State.event_mask, ↓State.mask_ite, ite_self, implies_true, h0]; done) | (simp_all (maxDischargeDepth := 9) only [↓State.event_mask, ↓State.mask_ite, ite_self, implies_true, h0]; done))

theorem State.arbRecord_mask (k : Part → Bool) (s : State) (h0 : k .tally = false) :
    (State.arbRecord s).mask k = s.mask k := by
  unfold State.arbRecord
  first
    | (simp (maxDischargeDepth := 9) only [↓State.safetyRecord_mask, ↓State.mask_ite, ite_self, implies_true, h0]; done)
    | ((try dsimp only); (repeat' split) <;> first | (simp (maxDischargeDepth := 9) only [↓State.safetyRecord_mask, ↓State.mask_ite, ite_self, implies_true, h0]; done) | (simp_all (maxDischargeDepth := 9) only [↓State.safetyRecord_mask, ↓State.mask_ite, ite_self, implies_true, h0]; done))

theorem State.channelGone_mask (k : Part → Bool) (s : State) (ch : SafeCh) (h0 : k .tally = false) (h1 : k .axes = false) (h2 : k .portals = false) (h3 : k .sde = false) (h4 : k .ls = false) (h5 : k .kerf = false) (h6 : k .safe = false) (h7 : k .boot = false) (h8 : k .sent = false) :
    (State.channelGone s ch).mask k = s.mask k := by
  unfold State.channelGone
  first
    | (simp (maxDischargeDepth := 9) only [↓State.modSafe_mask, ↓State.sdeEval_mask, ↓State.setMode_mask, ↓State.arbRecord_mask, ↓State.mask_ite, ite_self, implies_true, h0, h1, h2, h3, h4, h5, h6, h7, h8]; done)
    | ((try dsimp only); (repeat' split) <;> first | (simp (maxDischargeDepth := 9) only [↓State.modSafe_mask, ↓State.sdeEval_mask, ↓State.setMode_mask, ↓State.arbRecord_mask, ↓State.mask_ite, ite_self, implies_true, h0, h1, h2, h3, h4, h5, h6, h7, h8]; done) | (simp_all (maxDischargeDepth := 9) only [↓State.modSafe_mask, ↓State.sdeEval_mask, ↓State.setMode_mask, ↓State.arbRecord_mask, ↓State.mask_ite, ite_self, implies_true, h0, h1, h2, h3, h4, h5, h6, h7, h8]; done))

theorem State.aResetLine_mask (k : Part → Bool) (s : State) (h0 : k .tally = false) (h1 : k .axes = false) (h2 : k .portals = false) (h3 : k .sde = false) (h4 : k .ls = false) (h5 : k .kerf = false) (h6 : k .safe = false) (h7 : k .boot = false) (h8 : k .sent = false) :
    (State.aResetLine s).mask k = s.mask k := by
  unfold State.aResetLine
  first
    | (simp (maxDischargeDepth := 9) only [↓State.modPortal_mask, ↓State.idleClose_mask, ↓State.modSafe_mask, ↓State.sdeEval_mask, ↓State.dropCl_mask, ↓State.absenceEnd_mask, ↓State.setMode_mask, ↓State.channelGone_mask, ↓State.mask_ite, ite_self, implies_true, ↓State.mask_forAll, ↓State.mask_foldl, h0, h1, h2, h3, h4, h5, h6, h7, h8]; done)
    | ((try dsimp only); (repeat' split) <;> first | (simp (maxDischargeDepth := 9) only [↓State.modPortal_mask, ↓State.idleClose_mask, ↓State.modSafe_mask, ↓State.sdeEval_mask, ↓State.dropCl_mask, ↓State.absenceEnd_mask, ↓State.setMode_mask, ↓State.channelGone_mask, ↓State.mask_ite, ite_self, implies_true, ↓State.mask_forAll, ↓State.mask_foldl, h0, h1, h2, h3, h4, h5, h6, h7, h8]; done) | (simp_all (maxDischargeDepth := 9) only [↓State.modPortal_mask, ↓State.idleClose_mask, ↓State.modSafe_mask, ↓State.sdeEval_mask, ↓State.dropCl_mask, ↓State.absenceEnd_mask, ↓State.setMode_mask, ↓State.channelGone_mask, ↓State.mask_ite, ite_self, implies_true, ↓State.mask_forAll, ↓State.mask_foldl, h0, h1, h2, h3, h4, h5, h6, h7, h8]; done))
    | ((try dsimp only); refine State.mask_forAll _ _ _ _ fun _ _ => ?_; (repeat' split) <;> simp (maxDischargeDepth := 9) only [↓State.modPortal_mask, ↓State.idleClose_mask, ↓State.modSafe_mask, ↓State.sdeEval_mask, ↓State.dropCl_mask, ↓State.absenceEnd_mask, ↓State.setMode_mask, ↓State.channelGone_mask, ↓State.mask_ite, ite_self, implies_true, ↓State.mask_forAll, ↓State.mask_foldl, h0, h1, h2, h3, h4, h5, h6, h7, h8]; done)
    | ((try dsimp only); refine (State.mask_forAll _ _ _ _ fun _ _ => ?_).trans ?_ <;> (repeat' split) <;> simp (maxDischargeDepth := 9) only [↓State.modPortal_mask, ↓State.idleClose_mask, ↓State.modSafe_mask, ↓State.sdeEval_mask, ↓State.dropCl_mask, ↓State.absenceEnd_mask, ↓State.setMode_mask, ↓State.channelGone_mask, ↓State.mask_ite, ite_self, implies_true, ↓State.mask_forAll, ↓State.mask_foldl, h0, h1, h2, h3, h4, h5, h6, h7, h8]; done)

theorem State.aOwnReset_mask (k : Part → Bool) (s : State) (h0 : k .tally = false) (h1 : k .axes = false) (h2 : k .portals = false) (h3 : k .sde = false) (h4 : k .ls = false) (h5 : k .kerf = false) (h6 : k .safe = false) (h7 : k .boot = false) (h8 : k .sent = false) :
    (State.aOwnReset s).mask k = s.mask k := by
  unfold State.aOwnReset
  first
    | (simp (maxDischargeDepth := 9) only [↓State.modSafe_mask, ↓State.modArst_mask, ↓State.aResetLine_mask, ↓State.mask_ite, ite_self, implies_true, h0, h1, h2, h3, h4, h5, h6, h7, h8]; done)
    | ((try dsimp only); (repeat' split) <;> first | (simp (maxDischargeDepth := 9) only [↓State.modSafe_mask, ↓State.modArst_mask, ↓State.aResetLine_mask, ↓State.mask_ite, ite_self, implies_true, h0, h1, h2, h3, h4, h5, h6, h7, h8]; done) | (simp_all (maxDischargeDepth := 9) only [↓State.modSafe_mask, ↓State.modArst_mask, ↓State.aResetLine_mask, ↓State.mask_ite, ite_self, implies_true, h0, h1, h2, h3, h4, h5, h6, h7, h8]; done))

theorem State.switchFault_mask (k : Part → Bool) (s : State) (sw : Fin 4) (stuck : Bool) (h0 : k .tally = false) (h1 : k .safe = false) :
    (State.switchFault s sw stuck).mask k = s.mask k := by
  unfold State.switchFault
  first
    | (simp (maxDischargeDepth := 9) only [↓State.modSafe_mask, ↓State.safetyRecord_mask, ↓State.mask_ite, ite_self, implies_true, h0, h1]; done)
    | ((try dsimp only); (repeat' split) <;> first | (simp (maxDischargeDepth := 9) only [↓State.modSafe_mask, ↓State.safetyRecord_mask, ↓State.mask_ite, ite_self, implies_true, h0, h1]; done) | (simp_all (maxDischargeDepth := 9) only [↓State.modSafe_mask, ↓State.safetyRecord_mask, ↓State.mask_ite, ite_self, implies_true, h0, h1]; done))

theorem State.switchCheck_mask (k : Part → Bool) (s : State) (ch : SafeCh) (rb : BitVec 6) (h0 : k .tally = false) (h1 : k .safe = false) :
    (State.switchCheck s ch rb).mask k = s.mask k := by
  unfold State.switchCheck
  first
    | (simp (maxDischargeDepth := 9) only [↓State.modSafe_mask, ↓State.switchFault_mask, ↓State.mask_ite, ite_self, implies_true, ↓State.mask_forAll, ↓State.mask_foldl, h0, h1]; done)
    | ((try dsimp only); (repeat' split) <;> first | (simp (maxDischargeDepth := 9) only [↓State.modSafe_mask, ↓State.switchFault_mask, ↓State.mask_ite, ite_self, implies_true, ↓State.mask_forAll, ↓State.mask_foldl, h0, h1]; done) | (simp_all (maxDischargeDepth := 9) only [↓State.modSafe_mask, ↓State.switchFault_mask, ↓State.mask_ite, ite_self, implies_true, ↓State.mask_forAll, ↓State.mask_foldl, h0, h1]; done))
    | ((try dsimp only); refine State.mask_forAll _ _ _ _ fun _ _ => ?_; (repeat' split) <;> simp (maxDischargeDepth := 9) only [↓State.modSafe_mask, ↓State.switchFault_mask, ↓State.mask_ite, ite_self, implies_true, ↓State.mask_forAll, ↓State.mask_foldl, h0, h1]; done)
    | ((try dsimp only); refine (State.mask_forAll _ _ _ _ fun _ _ => ?_).trans ?_ <;> (repeat' split) <;> simp (maxDischargeDepth := 9) only [↓State.modSafe_mask, ↓State.switchFault_mask, ↓State.mask_ite, ite_self, implies_true, ↓State.mask_forAll, ↓State.mask_foldl, h0, h1]; done)

theorem State.pulseJudge_mask (k : Part → Bool) (s : State) (h0 : k .tally = false) (h1 : k .safe = false) :
    (State.pulseJudge s).mask k = s.mask k := by
  unfold State.pulseJudge
  first
    | (simp (maxDischargeDepth := 9) only [↓State.modSafe_mask, ↓State.switchFault_mask, ↓State.mask_ite, ite_self, implies_true, h0, h1]; done)
    | ((try dsimp only); (repeat' split) <;> first | (simp (maxDischargeDepth := 9) only [↓State.modSafe_mask, ↓State.switchFault_mask, ↓State.mask_ite, ite_self, implies_true, h0, h1]; done) | (simp_all (maxDischargeDepth := 9) only [↓State.modSafe_mask, ↓State.switchFault_mask, ↓State.mask_ite, ite_self, implies_true, h0, h1]; done))

theorem State.driveLoops_mask (k : Part → Bool) (s : State) (ch : SafeCh) (h0 : k .safe = false) :
    (State.driveLoops s ch).mask k = s.mask k := by
  unfold State.driveLoops
  first
    | (simp (maxDischargeDepth := 9) only [↓State.modSafe_mask, ↓State.mask_ite, ite_self, implies_true, ↓State.mask_forAll, h0]; done)
    | ((try dsimp only); (repeat' split) <;> first | (simp (maxDischargeDepth := 9) only [↓State.modSafe_mask, ↓State.mask_ite, ite_self, implies_true, ↓State.mask_forAll, h0]; done) | (simp_all (maxDischargeDepth := 9) only [↓State.modSafe_mask, ↓State.mask_ite, ite_self, implies_true, ↓State.mask_forAll, h0]; done))
    | ((try dsimp only); refine State.mask_forAll _ _ _ _ fun _ _ => ?_; (repeat' split) <;> simp (maxDischargeDepth := 9) only [↓State.modSafe_mask, ↓State.mask_ite, ite_self, implies_true, ↓State.mask_forAll, h0]; done)
    | ((try dsimp only); refine (State.mask_forAll _ _ _ _ fun _ _ => ?_).trans ?_ <;> (repeat' split) <;> simp (maxDischargeDepth := 9) only [↓State.modSafe_mask, ↓State.mask_ite, ite_self, implies_true, ↓State.mask_forAll, h0]; done)

theorem State.paramLoad_mask (k : Part → Bool) (s : State) (q : SafePar) (echo start : Bool) (m : BitVec 16 × BitVec 16) (h0 : k .tally = false) (h1 : k .safe = false) :
    (State.paramLoad s q echo start m).mask k = s.mask k := by
  unfold State.paramLoad
  first
    | (simp (maxDischargeDepth := 9) only [↓State.modSafe_mask, ↓State.safetyRecord_mask, ↓State.mask_ite, ite_self, implies_true, h0, h1]; done)
    | ((try dsimp only); (repeat' split) <;> first | (simp (maxDischargeDepth := 9) only [↓State.modSafe_mask, ↓State.safetyRecord_mask, ↓State.mask_ite, ite_self, implies_true, h0, h1]; done) | (simp_all (maxDischargeDepth := 9) only [↓State.modSafe_mask, ↓State.safetyRecord_mask, ↓State.mask_ite, ite_self, implies_true, h0, h1]; done))

end Sys2Proof.Machine
end

