-- ==== Sys2Proof/Laws/FrameField.lean ====
section
/-! SUPPORT. What each operation of Machine/Field.lean can change: it keeps every part of the state that it is not named to change. -/

set_option linter.unusedSimpArgs false

namespace Sys2Proof.Machine

theorem State.modFio_mask (k : Part → Bool) (s : State) (f : FieldIo → FieldIo) (h0 : k .fio = false) :
    (State.modFio s f).mask k = s.mask k := by
  unfold State.modFio
  first
    | (simp (maxDischargeDepth := 9) only [↓State.mask_with_fio, ↓State.mask_ite, ite_self, implies_true, h0]; done)
    | ((try dsimp only); (repeat' split) <;> first | (simp (maxDischargeDepth := 9) only [↓State.mask_with_fio, ↓State.mask_ite, ite_self, implies_true, h0]; done) | (simp_all (maxDischargeDepth := 9) only [↓State.mask_with_fio, ↓State.mask_ite, ite_self, implies_true, h0]; done))
    | (simp only [State.mask, Bool.false_eq_true, ↓reduceIte, h0]; done)
    | (simp (maxDischargeDepth := 9) only [↓State.mask_with_fio, ↓State.mask_ite, ite_self, implies_true, h0]; simp only [State.mask, Bool.false_eq_true, ↓reduceIte, h0]; done)

theorem State.modFioReg_mask (k : Part → Bool) (s : State) (f : Fio → Fio) (h0 : k .fio = false) :
    (State.modFioReg s f).mask k = s.mask k := by
  unfold State.modFioReg
  first
    | (simp (maxDischargeDepth := 9) only [↓State.modFio_mask, ↓State.mask_ite, ite_self, implies_true, h0]; done)
    | ((try dsimp only); (repeat' split) <;> first | (simp (maxDischargeDepth := 9) only [↓State.modFio_mask, ↓State.mask_ite, ite_self, implies_true, h0]; done) | (simp_all (maxDischargeDepth := 9) only [↓State.modFio_mask, ↓State.mask_ite, ite_self, implies_true, h0]; done))

theorem State.groupEval_mask (k : Part → Bool) (s : State) (h0 : k .fio = false) :
    (State.groupEval s).mask k = s.mask k := by
  unfold State.groupEval
  first
    | (simp (maxDischargeDepth := 9) only [↓State.modFio_mask, ↓State.mask_ite, ite_self, implies_true, ↓State.mask_foldl, h0]; done)
    | ((try dsimp only); (repeat' split) <;> first | (simp (maxDischargeDepth := 9) only [↓State.modFio_mask, ↓State.mask_ite, ite_self, implies_true, ↓State.mask_foldl, h0]; done) | (simp_all (maxDischargeDepth := 9) only [↓State.modFio_mask, ↓State.mask_ite, ite_self, implies_true, ↓State.mask_foldl, h0]; done))

theorem State.supplyJudge_mask (k : Part → Bool) (s : State) (h0 : k .fio = false) :
    (State.supplyJudge s).mask k = s.mask k := by
  unfold State.supplyJudge
  first
    | (simp (maxDischargeDepth := 9) only [↓State.modFio_mask, ↓State.groupEval_mask, ↓State.mask_ite, ite_self, implies_true, h0]; done)
    | ((try dsimp only); (repeat' split) <;> first | (simp (maxDischargeDepth := 9) only [↓State.modFio_mask, ↓State.groupEval_mask, ↓State.mask_ite, ite_self, implies_true, h0]; done) | (simp_all (maxDischargeDepth := 9) only [↓State.modFio_mask, ↓State.groupEval_mask, ↓State.mask_ite, ite_self, implies_true, h0]; done))

theorem State.egressDrive_mask (k : Part → Bool) (s : State) (h0 : k .fio = false) :
    (State.egressDrive s).mask k = s.mask k := by
  unfold State.egressDrive
  first
    | (simp (maxDischargeDepth := 9) only [↓State.modFio_mask, ↓State.groupEval_mask, ↓State.mask_ite, ite_self, implies_true, h0]; done)
    | ((try dsimp only); (repeat' split) <;> first | (simp (maxDischargeDepth := 9) only [↓State.modFio_mask, ↓State.groupEval_mask, ↓State.mask_ite, ite_self, implies_true, h0]; done) | (simp_all (maxDischargeDepth := 9) only [↓State.modFio_mask, ↓State.groupEval_mask, ↓State.mask_ite, ite_self, implies_true, h0]; done))

theorem State.inputAccept_mask (k : Part → Bool) (s : State) (n : Fin 148) (level : Bool) (c : FioIcfg) (t : Nat) (h0 : k .eng = false) (h1 : k .tally = false) (h2 : k .kerf = false) (h3 : k .fio = false) :
    (State.inputAccept s n level c t).mask k = s.mask k := by
  unfold State.inputAccept
  first
    | (simp (maxDischargeDepth := 9) only [↓State.modEng_mask, ↓State.overrideEdge_mask, ↓State.modFio_mask, ↓State.modFioReg_mask, ↓State.mask_ite, ite_self, implies_true, h0, h1, h2, h3]; done)
    | ((try dsimp only); (repeat' split) <;> first | (simp (maxDischargeDepth := 9) only [↓State.modEng_mask, ↓State.overrideEdge_mask, ↓State.modFio_mask, ↓State.modFioReg_mask, ↓State.mask_ite, ite_self, implies_true, h0, h1, h2, h3]; done) | (simp_all (maxDischargeDepth := 9) only [↓State.modEng_mask, ↓State.overrideEdge_mask, ↓State.modFio_mask, ↓State.modFioReg_mask, ↓State.mask_ite, ite_self, implies_true, h0, h1, h2, h3]; done))

theorem State.inputQuiet_mask (k : Part → Bool) (s : State) (n : Fin 148) (level : Bool) (h0 : k .tally = false) (h1 : k .kerf = false) (h2 : k .fio = false) :
    (State.inputQuiet s n level).mask k = s.mask k := by
  unfold State.inputQuiet
  first
    | (simp (maxDischargeDepth := 9) only [↓State.overrideEdge_mask, ↓State.modFio_mask, ↓State.mask_ite, ite_self, implies_true, h0, h1, h2]; done)
    | ((try dsimp only); (repeat' split) <;> first | (simp (maxDischargeDepth := 9) only [↓State.overrideEdge_mask, ↓State.modFio_mask, ↓State.mask_ite, ite_self, implies_true, h0, h1, h2]; done) | (simp_all (maxDischargeDepth := 9) only [↓State.overrideEdge_mask, ↓State.modFio_mask, ↓State.mask_ite, ite_self, implies_true, h0, h1, h2]; done))

theorem State.inputTake_mask (k : Part → Bool) (s : State) (n : Fin 148) (level : Bool) (c : FioIcfg) (began : Nat) (h0 : k .eng = false) (h1 : k .tally = false) (h2 : k .kerf = false) (h3 : k .fio = false) :
    (State.inputTake s n level c began).mask k = s.mask k := by
  unfold State.inputTake
  first
    | (simp (maxDischargeDepth := 9) only [↓State.inputAccept_mask, ↓State.inputQuiet_mask, ↓State.mask_ite, ite_self, implies_true, h0, h1, h2, h3]; done)
    | ((try dsimp only); (repeat' split) <;> first | (simp (maxDischargeDepth := 9) only [↓State.inputAccept_mask, ↓State.inputQuiet_mask, ↓State.mask_ite, ite_self, implies_true, h0, h1, h2, h3]; done) | (simp_all (maxDischargeDepth := 9) only [↓State.inputAccept_mask, ↓State.inputQuiet_mask, ↓State.mask_ite, ite_self, implies_true, h0, h1, h2, h3]; done))

theorem State.inputChange_mask (k : Part → Bool) (s : State) (n : Fin 148) (level : Bool) (c : FioIcfg) (held : Nat) (h0 : k .eng = false) (h1 : k .tally = false) (h2 : k .kerf = false) (h3 : k .fio = false) :
    (State.inputChange s n level c held).mask k = s.mask k := by
  unfold State.inputChange
  first
    | (simp (maxDischargeDepth := 9) only [↓State.inputTake_mask, ↓State.mask_ite, ite_self, implies_true, h0, h1, h2, h3]; done)
    | ((try dsimp only); (repeat' split) <;> first | (simp (maxDischargeDepth := 9) only [↓State.inputTake_mask, ↓State.mask_ite, ite_self, implies_true, h0, h1, h2, h3]; done) | (simp_all (maxDischargeDepth := 9) only [↓State.inputTake_mask, ↓State.mask_ite, ite_self, implies_true, h0, h1, h2, h3]; done))

theorem execFieldInputEdge_mask (k : Part → Bool) (n : Fin 148) (v : BitVec 12) (held : Nat) (s : State) (h0 : k .eng = false) (h1 : k .tally = false) (h2 : k .kerf = false) (h3 : k .fio = false) (h4 : k .freeSeq = false) :
    (stateOf s (execFieldInputEdge n v held s)).mask k = s.mask k := by
  unfold execFieldInputEdge
  first
    | (simp (maxDischargeDepth := 9) only [↓State.used_mask, ↓State.inputChange_mask, ↓stateOf_next, ↓stateOf_ite, ↓State.mask_ite, ite_self, implies_true, h0, h1, h2, h3, h4]; done)
    | ((try dsimp only); (repeat' split) <;> first | (simp (maxDischargeDepth := 9) only [↓State.used_mask, ↓State.inputChange_mask, ↓stateOf_next, ↓stateOf_ite, ↓State.mask_ite, ite_self, implies_true, h0, h1, h2, h3, h4]; done) | (simp_all (maxDischargeDepth := 9) only [↓State.used_mask, ↓State.inputChange_mask, ↓stateOf_next, ↓stateOf_ite, ↓State.mask_ite, ite_self, implies_true, h0, h1, h2, h3, h4]; done))

theorem State.takeEdge_mask (k : Part → Bool) (s : State) (req : Nat) (h0 : k .latch = false) (h1 : k .fio = false) :
    (State.takeEdge s req).1.mask k = s.mask k := by
  unfold State.takeEdge
  first
    | (simp (maxDischargeDepth := 9) only [↓State.latchPut_mask, ↓State.modFio_mask, ↓State.mask_ite, ite_self, implies_true, ↓State.mask_fst_ite, h0, h1]; done)
    | ((try dsimp only); (repeat' split) <;> first | (simp (maxDischargeDepth := 9) only [↓State.latchPut_mask, ↓State.modFio_mask, ↓State.mask_ite, ite_self, implies_true, ↓State.mask_fst_ite, h0, h1]; done) | (simp_all (maxDischargeDepth := 9) only [↓State.latchPut_mask, ↓State.modFio_mask, ↓State.mask_ite, ite_self, implies_true, ↓State.mask_fst_ite, h0, h1]; done))

theorem execCouplerCheck_mask (k : Part → Bool) (n : Fin 148) (pass : Bool) (s : State) (h0 : k .mono = false) (h1 : k .tally = false) (h2 : k .fio = false) :
    (stateOf s (execCouplerCheck n pass s)).mask k = s.mask k := by
  unfold execCouplerCheck
  first
    | (simp (maxDischargeDepth := 9) only [↓State.upTo_mask, ↓State.event_mask, ↓State.modFio_mask, ↓State.groupEval_mask, ↓stateOf_next, ↓stateOf_ite, ↓State.mask_ite, ite_self, implies_true, h0, h1, h2]; done)
    | ((try dsimp only); (repeat' split) <;> first | (simp (maxDischargeDepth := 9) only [↓State.upTo_mask, ↓State.event_mask, ↓State.modFio_mask, ↓State.groupEval_mask, ↓stateOf_next, ↓stateOf_ite, ↓State.mask_ite, ite_self, implies_true, h0, h1, h2]; done) | (simp_all (maxDischargeDepth := 9) only [↓State.upTo_mask, ↓State.event_mask, ↓State.modFio_mask, ↓State.groupEval_mask, ↓stateOf_next, ↓stateOf_ite, ↓State.mask_ite, ite_self, implies_true, h0, h1, h2]; done))

theorem execWheelPulseCount_mask (k : Part → Bool) (i : Fin 4) (s : State) (h0 : k .tally = false) (h1 : k .fio = false) :
    (stateOf s (execWheelPulseCount i s)).mask k = s.mask k := by
  unfold execWheelPulseCount
  first
    | (simp (maxDischargeDepth := 9) only [↓State.event_mask, ↓State.modFio_mask, ↓stateOf_next, ↓stateOf_ite, ↓State.mask_ite, ite_self, implies_true, h0, h1]; done)
    | ((try dsimp only); (repeat' split) <;> first | (simp (maxDischargeDepth := 9) only [↓State.event_mask, ↓State.modFio_mask, ↓stateOf_next, ↓stateOf_ite, ↓State.mask_ite, ite_self, implies_true, h0, h1]; done) | (simp_all (maxDischargeDepth := 9) only [↓State.event_mask, ↓State.modFio_mask, ↓stateOf_next, ↓stateOf_ite, ↓State.mask_ite, ite_self, implies_true, h0, h1]; done))

theorem execOutputRefresh_mask (k : Part → Bool) (rb : FoRead) (s : State) (h0 : k .fio = false) :
    (stateOf s (execOutputRefresh rb s)).mask k = s.mask k := by
  unfold execOutputRefresh
  first
    | (simp (maxDischargeDepth := 9) only [↓State.modFio_mask, ↓State.groupEval_mask, ↓stateOf_next, ↓stateOf_ite, ↓State.mask_ite, ite_self, implies_true, ↓State.mask_foldl, h0]; done)
    | ((try dsimp only); (repeat' split) <;> first | (simp (maxDischargeDepth := 9) only [↓State.modFio_mask, ↓State.groupEval_mask, ↓stateOf_next, ↓stateOf_ite, ↓State.mask_ite, ite_self, implies_true, ↓State.mask_foldl, h0]; done) | (simp_all (maxDischargeDepth := 9) only [↓State.modFio_mask, ↓State.groupEval_mask, ↓stateOf_next, ↓stateOf_ite, ↓State.mask_ite, ite_self, implies_true, ↓State.mask_foldl, h0]; done))

theorem execRefreshTimeout_mask (k : Part → Bool) (s : State) (h0 : k .mono = false) (h1 : k .fio = false) :
    (stateOf s (execRefreshTimeout s)).mask k = s.mask k := by
  unfold execRefreshTimeout
  first
    | (simp (maxDischargeDepth := 9) only [↓State.upTo_mask, ↓State.modFio_mask, ↓State.groupEval_mask, ↓stateOf_next, ↓stateOf_ite, ↓State.mask_ite, ite_self, implies_true, h0, h1]; done)
    | ((try dsimp only); (repeat' split) <;> first | (simp (maxDischargeDepth := 9) only [↓State.upTo_mask, ↓State.modFio_mask, ↓State.groupEval_mask, ↓stateOf_next, ↓stateOf_ite, ↓State.mask_ite, ite_self, implies_true, h0, h1]; done) | (simp_all (maxDischargeDepth := 9) only [↓State.upTo_mask, ↓State.modFio_mask, ↓State.groupEval_mask, ↓stateOf_next, ↓stateOf_ite, ↓State.mask_ite, ite_self, implies_true, h0, h1]; done))

theorem execReadbackDisagree_mask (k : Part → Bool) (n : Fin 16) (v : BitVec 12) (ilim : Bool) (s : State) (h0 : k .mono = false) (h1 : k .tally = false) (h2 : k .fio = false) :
    (stateOf s (execReadbackDisagree n v ilim s)).mask k = s.mask k := by
  unfold execReadbackDisagree
  first
    | (simp (maxDischargeDepth := 9) only [↓State.upTo_mask, ↓State.event_mask, ↓State.modFio_mask, ↓State.modFioReg_mask, ↓State.groupEval_mask, ↓stateOf_next, ↓stateOf_ite, ↓State.mask_ite, ite_self, implies_true, h0, h1, h2]; done)
    | ((try dsimp only); (repeat' split) <;> first | (simp (maxDischargeDepth := 9) only [↓State.upTo_mask, ↓State.event_mask, ↓State.modFio_mask, ↓State.modFioReg_mask, ↓State.groupEval_mask, ↓stateOf_next, ↓stateOf_ite, ↓State.mask_ite, ite_self, implies_true, h0, h1, h2]; done) | (simp_all (maxDischargeDepth := 9) only [↓State.upTo_mask, ↓State.event_mask, ↓State.modFio_mask, ↓State.modFioReg_mask, ↓State.groupEval_mask, ↓stateOf_next, ↓stateOf_ite, ↓State.mask_ite, ite_self, implies_true, h0, h1, h2]; done))

theorem execFoThermalShutdown_mask (k : Part → Bool) (n : Fin 16) (s : State) (h0 : k .fio = false) :
    (stateOf s (execFoThermalShutdown n s)).mask k = s.mask k := by
  unfold execFoThermalShutdown
  first
    | (simp (maxDischargeDepth := 9) only [↓State.modFio_mask, ↓State.groupEval_mask, ↓stateOf_next, ↓stateOf_ite, ↓State.mask_ite, ite_self, implies_true, h0]; done)
    | ((try dsimp only); (repeat' split) <;> first | (simp (maxDischargeDepth := 9) only [↓State.modFio_mask, ↓State.groupEval_mask, ↓stateOf_next, ↓stateOf_ite, ↓State.mask_ite, ite_self, implies_true, h0]; done) | (simp_all (maxDischargeDepth := 9) only [↓State.modFio_mask, ↓State.groupEval_mask, ↓stateOf_next, ↓stateOf_ite, ↓State.mask_ite, ite_self, implies_true, h0]; done))

theorem State.outputAgain_mask (k : Part → Bool) (s : State) (h0 : k .fio = false) :
    (State.outputAgain s).mask k = s.mask k := by
  unfold State.outputAgain
  first
    | (simp (maxDischargeDepth := 9) only [↓State.modFio_mask, ↓State.mask_ite, ite_self, implies_true, h0]; done)
    | ((try dsimp only); (repeat' split) <;> first | (simp (maxDischargeDepth := 9) only [↓State.modFio_mask, ↓State.mask_ite, ite_self, implies_true, h0]; done) | (simp_all (maxDischargeDepth := 9) only [↓State.modFio_mask, ↓State.mask_ite, ite_self, implies_true, h0]; done))

theorem execFoThermalRestart_mask (k : Part → Bool) (n : Fin 16) (s : State) (h0 : k .fio = false) :
    (stateOf s (execFoThermalRestart n s)).mask k = s.mask k := by
  unfold execFoThermalRestart
  first
    | (simp (maxDischargeDepth := 9) only [↓State.modFio_mask, ↓State.groupEval_mask, ↓State.outputAgain_mask, ↓stateOf_next, ↓stateOf_ite, ↓State.mask_ite, ite_self, implies_true, h0]; done)
    | ((try dsimp only); (repeat' split) <;> first | (simp (maxDischargeDepth := 9) only [↓State.modFio_mask, ↓State.groupEval_mask, ↓State.outputAgain_mask, ↓stateOf_next, ↓stateOf_ite, ↓State.mask_ite, ite_self, implies_true, h0]; done) | (simp_all (maxDischargeDepth := 9) only [↓State.modFio_mask, ↓State.groupEval_mask, ↓State.outputAgain_mask, ↓stateOf_next, ↓stateOf_ite, ↓State.mask_ite, ite_self, implies_true, h0]; done))

theorem execGroupSupplyChange_mask (k : Part → Bool) (g : SupplyGroup) (v : BitVec 12) (s : State) (h0 : k .fio = false) :
    (stateOf s (execGroupSupplyChange g v s)).mask k = s.mask k := by
  unfold execGroupSupplyChange
  first
    | (simp (maxDischargeDepth := 9) only [↓State.modFio_mask, ↓State.groupEval_mask, ↓State.outputAgain_mask, ↓stateOf_next, ↓stateOf_ite, ↓State.mask_ite, ite_self, implies_true, h0]; done)
    | ((try dsimp only); (repeat' split) <;> first | (simp (maxDischargeDepth := 9) only [↓State.modFio_mask, ↓State.groupEval_mask, ↓State.outputAgain_mask, ↓stateOf_next, ↓stateOf_ite, ↓State.mask_ite, ite_self, implies_true, h0]; done) | (simp_all (maxDischargeDepth := 9) only [↓State.modFio_mask, ↓State.groupEval_mask, ↓State.outputAgain_mask, ↓stateOf_next, ↓stateOf_ite, ↓State.mask_ite, ite_self, implies_true, h0]; done))

end Sys2Proof.Machine
end

