-- ==== Sys2Proof/Laws/FrameKerf.lean ====
section
/-! SUPPORT. What each operation of Machine/Kerf.lean can change: it keeps every part of the state that it is not named to change. -/

set_option linter.unusedSimpArgs false

namespace Sys2Proof.Machine

theorem execKrfOpen_mask (k : Part → Bool) (p : PortalIx) (s : State) (h0 : k .kerf = false) (h1 : k .sent = false) :
    (stateOf s (execKrfOpen p s)).mask k = s.mask k := by
  unfold execKrfOpen
  first
    | (simp (maxDischargeDepth := 9) only [↓State.kerfOpen_mask, ↓stateOf_next, ↓stateOf_ite, ↓State.mask_ite, ite_self, implies_true, h0, h1]; done)
    | ((try dsimp only); (repeat' split) <;> first | (simp (maxDischargeDepth := 9) only [↓State.kerfOpen_mask, ↓stateOf_next, ↓stateOf_ite, ↓State.mask_ite, ite_self, implies_true, h0, h1]; done) | (simp_all (maxDischargeDepth := 9) only [↓State.kerfOpen_mask, ↓stateOf_next, ↓stateOf_ite, ↓State.mask_ite, ite_self, implies_true, h0, h1]; done))

theorem State.learnRequest_mask (k : Part → Bool) (s : State) (p : PortalIx) (h0 : k .tally = false) (h1 : k .kerf = false) :
    (State.learnRequest s p).mask k = s.mask k := by
  unfold State.learnRequest
  first
    | (simp (maxDischargeDepth := 9) only [↓State.modKerf_mask, ↓State.event_mask, ↓State.mask_ite, ite_self, implies_true, h0, h1]; done)
    | ((try dsimp only); (repeat' split) <;> first | (simp (maxDischargeDepth := 9) only [↓State.modKerf_mask, ↓State.event_mask, ↓State.mask_ite, ite_self, implies_true, h0, h1]; done) | (simp_all (maxDischargeDepth := 9) only [↓State.modKerf_mask, ↓State.event_mask, ↓State.mask_ite, ite_self, implies_true, h0, h1]; done))

theorem execKrfLearn_mask (k : Part → Bool) (p : PortalIx) (s : State) (h0 : k .tally = false) (h1 : k .kerf = false) :
    (stateOf s (execKrfLearn p s)).mask k = s.mask k := by
  unfold execKrfLearn
  first
    | (simp (maxDischargeDepth := 9) only [↓State.learnRequest_mask, ↓stateOf_next, ↓stateOf_ite, ↓State.mask_ite, ite_self, implies_true, h0, h1]; done)
    | ((try dsimp only); (repeat' split) <;> first | (simp (maxDischargeDepth := 9) only [↓State.learnRequest_mask, ↓stateOf_next, ↓stateOf_ite, ↓State.mask_ite, ite_self, implies_true, h0, h1]; done) | (simp_all (maxDischargeDepth := 9) only [↓State.learnRequest_mask, ↓stateOf_next, ↓stateOf_ite, ↓State.mask_ite, ite_self, implies_true, h0, h1]; done))

theorem execKrfSnap_mask (k : Part → Bool) (p : PortalIx) (s : State) (h0 : k .kerf = false) :
    (stateOf s (execKrfSnap p s)).mask k = s.mask k := by
  unfold execKrfSnap
  first
    | (simp (maxDischargeDepth := 9) only [↓State.modKerf_mask, ↓stateOf_next, ↓stateOf_ite, ↓State.mask_ite, ite_self, implies_true, h0]; done)
    | ((try dsimp only); (repeat' split) <;> first | (simp (maxDischargeDepth := 9) only [↓State.modKerf_mask, ↓stateOf_next, ↓stateOf_ite, ↓State.mask_ite, ite_self, implies_true, h0]; done) | (simp_all (maxDischargeDepth := 9) only [↓State.modKerf_mask, ↓stateOf_next, ↓stateOf_ite, ↓State.mask_ite, ite_self, implies_true, h0]; done))

theorem execKerfLearnStart_mask (k : Part → Bool) (s : State) (h0 : k .kerf = false) :
    (stateOf s (execKerfLearnStart s)).mask k = s.mask k := by
  unfold execKerfLearnStart
  first
    | (simp (maxDischargeDepth := 9) only [↓State.modKerf_mask, ↓stateOf_next, ↓stateOf_ite, ↓State.mask_ite, ite_self, implies_true, ↓State.mask_forAll, h0]; done)
    | ((try dsimp only); (repeat' split) <;> first | (simp (maxDischargeDepth := 9) only [↓State.modKerf_mask, ↓stateOf_next, ↓stateOf_ite, ↓State.mask_ite, ite_self, implies_true, ↓State.mask_forAll, h0]; done) | (simp_all (maxDischargeDepth := 9) only [↓State.modKerf_mask, ↓stateOf_next, ↓stateOf_ite, ↓State.mask_ite, ite_self, implies_true, ↓State.mask_forAll, h0]; done))
    | ((try dsimp only); refine State.mask_forAll _ _ _ _ fun _ _ => ?_; (repeat' split) <;> simp (maxDischargeDepth := 9) only [↓State.modKerf_mask, ↓stateOf_next, ↓stateOf_ite, ↓State.mask_ite, ite_self, implies_true, ↓State.mask_forAll, h0]; done)
    | ((try dsimp only); refine (State.mask_forAll _ _ _ _ fun _ _ => ?_).trans ?_ <;> (repeat' split) <;> simp (maxDischargeDepth := 9) only [↓State.modKerf_mask, ↓stateOf_next, ↓stateOf_ite, ↓State.mask_ite, ite_self, implies_true, ↓State.mask_forAll, h0]; done)

theorem State.hlError_mask (k : Part → Bool) (s : State) (h0 : k .net = false) :
    (State.hlError s).mask k = s.mask k := by
  unfold State.hlError
  first
    | (simp (maxDischargeDepth := 9) only [↓State.mask_with_net, ↓State.mask_ite, ite_self, implies_true, h0]; done)
    | ((try dsimp only); (repeat' split) <;> first | (simp (maxDischargeDepth := 9) only [↓State.mask_with_net, ↓State.mask_ite, ite_self, implies_true, h0]; done) | (simp_all (maxDischargeDepth := 9) only [↓State.mask_with_net, ↓State.mask_ite, ite_self, implies_true, h0]; done))
    | (simp only [State.mask, Bool.false_eq_true, ↓reduceIte, h0]; done)
    | (simp (maxDischargeDepth := 9) only [↓State.mask_with_net, ↓State.mask_ite, ite_self, implies_true, h0]; simp only [State.mask, Bool.false_eq_true, ↓reduceIte, h0]; done)

theorem State.frameMissing_mask (k : Part → Bool) (s : State) (p : PortalIx) (n : Nat) (h0 : k .kerf = false) :
    (State.frameMissing s p n).mask k = s.mask k := by
  unfold State.frameMissing
  first
    | (simp (maxDischargeDepth := 9) only [↓State.modKerf_mask, ↓State.kerfBreak_mask, ↓State.mask_ite, ite_self, implies_true, h0]; done)
    | ((try dsimp only); (repeat' split) <;> first | (simp (maxDischargeDepth := 9) only [↓State.modKerf_mask, ↓State.kerfBreak_mask, ↓State.mask_ite, ite_self, implies_true, h0]; done) | (simp_all (maxDischargeDepth := 9) only [↓State.modKerf_mask, ↓State.kerfBreak_mask, ↓State.mask_ite, ite_self, implies_true, h0]; done))

theorem State.countFrame_mask (k : Part → Bool) (s : State) (p : PortalIx) (fcnt : Word) (h0 : k .tally = false) (h1 : k .kerf = false) :
    (State.countFrame s p fcnt).mask k = s.mask k := by
  unfold State.countFrame
  first
    | (simp (maxDischargeDepth := 9) only [↓State.modKerf_mask, ↓State.event_mask, ↓State.mask_ite, ite_self, implies_true, h0, h1]; done)
    | ((try dsimp only); (repeat' split) <;> first | (simp (maxDischargeDepth := 9) only [↓State.modKerf_mask, ↓State.event_mask, ↓State.mask_ite, ite_self, implies_true, h0, h1]; done) | (simp_all (maxDischargeDepth := 9) only [↓State.modKerf_mask, ↓State.event_mask, ↓State.mask_ite, ite_self, implies_true, h0, h1]; done))

theorem State.frameLost_mask (k : Part → Bool) (s : State) (p : PortalIx) (fcnt : Word) (h0 : k .tally = false) (h1 : k .kerf = false) :
    (State.frameLost s p fcnt).mask k = s.mask k := by
  unfold State.frameLost
  first
    | (simp (maxDischargeDepth := 9) only [↓State.frameMissing_mask, ↓State.countFrame_mask, ↓State.mask_ite, ite_self, implies_true, h0, h1]; done)
    | ((try dsimp only); (repeat' split) <;> first | (simp (maxDischargeDepth := 9) only [↓State.frameMissing_mask, ↓State.countFrame_mask, ↓State.mask_ite, ite_self, implies_true, h0, h1]; done) | (simp_all (maxDischargeDepth := 9) only [↓State.frameMissing_mask, ↓State.countFrame_mask, ↓State.mask_ite, ite_self, implies_true, h0, h1]; done))

theorem State.partError_mask (k : Part → Bool) (s : State) (p : PortalIx) (h0 : k .tally = false) (h1 : k .kerf = false) (h2 : k .net = false) :
    (State.partError s p).mask k = s.mask k := by
  unfold State.partError
  first
    | (simp (maxDischargeDepth := 9) only [↓State.modKerf_mask, ↓State.hlError_mask, ↓State.frameLost_mask, ↓State.mask_ite, ite_self, implies_true, h0, h1, h2]; done)
    | ((try dsimp only); (repeat' split) <;> first | (simp (maxDischargeDepth := 9) only [↓State.modKerf_mask, ↓State.hlError_mask, ↓State.frameLost_mask, ↓State.mask_ite, ite_self, implies_true, h0, h1, h2]; done) | (simp_all (maxDischargeDepth := 9) only [↓State.modKerf_mask, ↓State.hlError_mask, ↓State.frameLost_mask, ↓State.mask_ite, ite_self, implies_true, h0, h1, h2]; done))

theorem State.frameEnd_mask (k : Part → Bool) (s : State) (p : PortalIx) (fcnt : Word) (rows : List (List (BitVec 16))) (h0 : k .kerf = false) :
    (State.frameEnd s p fcnt rows).mask k = s.mask k := by
  unfold State.frameEnd
  first
    | (simp (maxDischargeDepth := 9) only [↓State.modKerf_mask, ↓State.mask_ite, ite_self, implies_true, h0]; done)
    | ((try dsimp only); (repeat' split) <;> first | (simp (maxDischargeDepth := 9) only [↓State.modKerf_mask, ↓State.mask_ite, ite_self, implies_true, h0]; done) | (simp_all (maxDischargeDepth := 9) only [↓State.modKerf_mask, ↓State.mask_ite, ite_self, implies_true, h0]; done))

theorem execDepthSegment_mask (k : Part → Bool) (p : PortalIx) (b : List Byte) (fcs : Bool) (s : State) (h0 : k .tally = false) (h1 : k .kerf = false) (h2 : k .net = false) :
    (stateOf s (execDepthSegment p b fcs s)).mask k = s.mask k := by
  unfold execDepthSegment
  first
    | (simp (maxDischargeDepth := 9) only [↓State.modKerf_mask, ↓State.dropFrame_mask, ↓State.hlError_mask, ↓State.partError_mask, ↓State.frameEnd_mask, ↓stateOf_next, ↓stateOf_ite, ↓State.mask_ite, ite_self, implies_true, h0, h1, h2]; done)
    | ((try dsimp only); (repeat' split) <;> first | (simp (maxDischargeDepth := 9) only [↓State.modKerf_mask, ↓State.dropFrame_mask, ↓State.hlError_mask, ↓State.partError_mask, ↓State.frameEnd_mask, ↓stateOf_next, ↓stateOf_ite, ↓State.mask_ite, ite_self, implies_true, h0, h1, h2]; done) | (simp_all (maxDischargeDepth := 9) only [↓State.modKerf_mask, ↓State.dropFrame_mask, ↓State.hlError_mask, ↓State.partError_mask, ↓State.frameEnd_mask, ↓stateOf_next, ↓stateOf_ite, ↓State.mask_ite, ite_self, implies_true, h0, h1, h2]; done))

theorem execHeadStatusFrame_mask (k : Part → Bool) (p : PortalIx) (id : BitVec 64) (fw : Word) (rate temp : Byte) (s : State) (h0 : k .tally = false) (h1 : k .kerf = false) :
    (stateOf s (execHeadStatusFrame p id fw rate temp s)).mask k = s.mask k := by
  unfold execHeadStatusFrame
  first
    | (simp (maxDischargeDepth := 9) only [↓State.modKerf_mask, ↓State.modelCheck_mask, ↓State.learnRequest_mask, ↓stateOf_next, ↓stateOf_ite, ↓State.mask_ite, ite_self, implies_true, h0, h1]; done)
    | ((try dsimp only); (repeat' split) <;> first | (simp (maxDischargeDepth := 9) only [↓State.modKerf_mask, ↓State.modelCheck_mask, ↓State.learnRequest_mask, ↓stateOf_next, ↓stateOf_ite, ↓State.mask_ite, ite_self, implies_true, h0, h1]; done) | (simp_all (maxDischargeDepth := 9) only [↓State.modKerf_mask, ↓State.modelCheck_mask, ↓State.learnRequest_mask, ↓stateOf_next, ↓stateOf_ite, ↓State.mask_ite, ite_self, implies_true, h0, h1]; done))

theorem execRateCommandRepeat_mask (k : Part → Bool) (p : PortalIx) (s : State) (h0 : k .mono = false) (h1 : k .kerf = false) (h2 : k .net = false) (h3 : k .sent = false) :
    (stateOf s (execRateCommandRepeat p s)).mask k = s.mask k := by
  unfold execRateCommandRepeat
  first
    | (simp (maxDischargeDepth := 9) only [↓State.modKerf_mask, ↓State.upTo_mask, ↓State.send_mask, ↓stateOf_next, ↓stateOf_ite, ↓State.mask_with_mono, ↓State.mask_with_kerf, ↓State.mask_with_net, ↓State.mask_with_sent, ↓State.mask_ite, ite_self, implies_true, h0, h1, h2, h3]; done)
    | ((try dsimp only); (repeat' split) <;> first | (simp (maxDischargeDepth := 9) only [↓State.modKerf_mask, ↓State.upTo_mask, ↓State.send_mask, ↓stateOf_next, ↓stateOf_ite, ↓State.mask_with_mono, ↓State.mask_with_kerf, ↓State.mask_with_net, ↓State.mask_with_sent, ↓State.mask_ite, ite_self, implies_true, h0, h1, h2, h3]; done) | (simp_all (maxDischargeDepth := 9) only [↓State.modKerf_mask, ↓State.upTo_mask, ↓State.send_mask, ↓stateOf_next, ↓stateOf_ite, ↓State.mask_with_mono, ↓State.mask_with_kerf, ↓State.mask_with_net, ↓State.mask_with_sent, ↓State.mask_ite, ite_self, implies_true, h0, h1, h2, h3]; done))
    | (simp only [State.mask, Bool.false_eq_true, ↓reduceIte, h0, h1, h2, h3]; done)
    | (simp (maxDischargeDepth := 9) only [↓State.modKerf_mask, ↓State.upTo_mask, ↓State.send_mask, ↓stateOf_next, ↓stateOf_ite, ↓State.mask_with_mono, ↓State.mask_with_kerf, ↓State.mask_with_net, ↓State.mask_with_sent, ↓State.mask_ite, ite_self, implies_true, h0, h1, h2, h3]; simp only [State.mask, Bool.false_eq_true, ↓reduceIte, h0, h1, h2, h3]; done)

theorem State.learnEnd_mask (k : Part → Bool) (s : State) (p : PortalIx) (h0 : k .tally = false) (h1 : k .kerf = false) :
    (State.learnEnd s p).mask k = s.mask k := by
  unfold State.learnEnd
  first
    | (simp (maxDischargeDepth := 9) only [↓State.modKerf_mask, ↓State.event_mask, ↓State.modelCheck_mask, ↓State.mask_ite, ite_self, implies_true, h0, h1]; done)
    | ((try dsimp only); (repeat' split) <;> first | (simp (maxDischargeDepth := 9) only [↓State.modKerf_mask, ↓State.event_mask, ↓State.modelCheck_mask, ↓State.mask_ite, ite_self, implies_true, h0, h1]; done) | (simp_all (maxDischargeDepth := 9) only [↓State.modKerf_mask, ↓State.event_mask, ↓State.modelCheck_mask, ↓State.mask_ite, ite_self, implies_true, h0, h1]; done))

theorem State.learnFrame_mask (k : Part → Bool) (s : State) (p : PortalIx) (f : Frame) (stuck : Bool) (h0 : k .tally = false) (h1 : k .kerf = false) :
    (State.learnFrame s p f stuck).mask k = s.mask k := by
  unfold State.learnFrame
  first
    | (simp (maxDischargeDepth := 9) only [↓State.modKerf_mask, ↓State.learnAbandon_mask, ↓State.learnEnd_mask, ↓State.mask_ite, ite_self, implies_true, h0, h1]; done)
    | ((try dsimp only); (repeat' split) <;> first | (simp (maxDischargeDepth := 9) only [↓State.modKerf_mask, ↓State.learnAbandon_mask, ↓State.learnEnd_mask, ↓State.mask_ite, ite_self, implies_true, h0, h1]; done) | (simp_all (maxDischargeDepth := 9) only [↓State.modKerf_mask, ↓State.learnAbandon_mask, ↓State.learnEnd_mask, ↓State.mask_ite, ite_self, implies_true, h0, h1]; done))

theorem State.formBand_mask (k : Part → Bool) (s : State) (p : PortalIx) (f : Frame) (h0 : k .kerf = false) :
    (State.formBand s p f).mask k = s.mask k := by
  unfold State.formBand
  first
    | (simp (maxDischargeDepth := 9) only [↓State.modKerf_mask, ↓State.mask_ite, ite_self, implies_true, h0]; done)
    | ((try dsimp only); (repeat' split) <;> first | (simp (maxDischargeDepth := 9) only [↓State.modKerf_mask, ↓State.mask_ite, ite_self, implies_true, h0]; done) | (simp_all (maxDischargeDepth := 9) only [↓State.modKerf_mask, ↓State.mask_ite, ite_self, implies_true, h0]; done))

theorem State.takeFrame_mask (k : Part → Bool) (s : State) (p : PortalIx) (tag : BitVec 8) (f : Frame) (h0 : k .tally = false) (h1 : k .kerf = false) :
    (State.takeFrame s p tag f).mask k = s.mask k := by
  unfold State.takeFrame
  first
    | (simp (maxDischargeDepth := 9) only [↓State.modKerf_mask, ↓State.judgeFrame_mask, ↓State.frameMissing_mask, ↓State.countFrame_mask, ↓State.formBand_mask, ↓State.mask_ite, ite_self, implies_true, h0, h1]; done)
    | ((try dsimp only); (repeat' split) <;> first | (simp (maxDischargeDepth := 9) only [↓State.modKerf_mask, ↓State.judgeFrame_mask, ↓State.frameMissing_mask, ↓State.countFrame_mask, ↓State.formBand_mask, ↓State.mask_ite, ite_self, implies_true, h0, h1]; done) | (simp_all (maxDischargeDepth := 9) only [↓State.modKerf_mask, ↓State.judgeFrame_mask, ↓State.frameMissing_mask, ↓State.countFrame_mask, ↓State.formBand_mask, ↓State.mask_ite, ite_self, implies_true, h0, h1]; done))

theorem State.dmaFault_mask (k : Part → Bool) (s : State) (e : DmaEnd) (addr : Word) (h0 : k .fab = false) (h1 : k .eng = false) (h2 : k .tally = false) :
    (State.dmaFault s e addr).mask k = s.mask k := by
  unfold State.dmaFault
  first
    | (simp (maxDischargeDepth := 9) only [↓State.fabFault_mask, ↓State.fabViolation_mask, ↓State.violation_mask, ↓State.mask_ite, ite_self, implies_true, h0, h1, h2]; done)
    | ((try dsimp only); (repeat' split) <;> first | (simp (maxDischargeDepth := 9) only [↓State.fabFault_mask, ↓State.fabViolation_mask, ↓State.violation_mask, ↓State.mask_ite, ite_self, implies_true, h0, h1, h2]; done) | (simp_all (maxDischargeDepth := 9) only [↓State.fabFault_mask, ↓State.fabViolation_mask, ↓State.violation_mask, ↓State.mask_ite, ite_self, implies_true, h0, h1, h2]; done))

theorem execDmaComplete_mask (k : Part → Bool) (p : PortalIx) (e : DmaEnd) (addr : Word) (s : State) (h0 : k .fab = false) (h1 : k .eng = false) (h2 : k .tally = false) (h3 : k .kerf = false) :
    (stateOf s (execDmaComplete p e addr s)).mask k = s.mask k := by
  unfold execDmaComplete
  first
    | (simp (maxDischargeDepth := 9) only [↓State.modKerf_mask, ↓State.frameLost_mask, ↓State.learnFrame_mask, ↓State.takeFrame_mask, ↓State.dmaFault_mask, ↓stateOf_next, ↓stateOf_ite, ↓State.mask_ite, ite_self, implies_true, h0, h1, h2, h3]; done)
    | ((try dsimp only); (repeat' split) <;> first | (simp (maxDischargeDepth := 9) only [↓State.modKerf_mask, ↓State.frameLost_mask, ↓State.learnFrame_mask, ↓State.takeFrame_mask, ↓State.dmaFault_mask, ↓stateOf_next, ↓stateOf_ite, ↓State.mask_ite, ite_self, implies_true, h0, h1, h2, h3]; done) | (simp_all (maxDischargeDepth := 9) only [↓State.modKerf_mask, ↓State.frameLost_mask, ↓State.learnFrame_mask, ↓State.takeFrame_mask, ↓State.dmaFault_mask, ↓stateOf_next, ↓stateOf_ite, ↓State.mask_ite, ite_self, implies_true, h0, h1, h2, h3]; done))

theorem State.koSet_mask (k : Part → Bool) (s : State) (p : PortalIx) (h0 : k .tally = false) (h1 : k .axes = false) (h2 : k .portals = false) :
    (State.koSet s p).mask k = s.mask k := by
  unfold State.koSet
  first
    | (simp (maxDischargeDepth := 9) only [↓State.latchObs_mask, ↓State.mask_ite, ite_self, implies_true, h0, h1, h2]; done)
    | ((try dsimp only); (repeat' split) <;> first | (simp (maxDischargeDepth := 9) only [↓State.latchObs_mask, ↓State.mask_ite, ite_self, implies_true, h0, h1, h2]; done) | (simp_all (maxDischargeDepth := 9) only [↓State.latchObs_mask, ↓State.mask_ite, ite_self, implies_true, h0, h1, h2]; done))

theorem State.lockoccSet_mask (k : Part → Bool) (s : State) (p : PortalIx) (j : Judged) (h0 : k .tally = false) (h1 : k .kerf = false) :
    (State.lockoccSet s p j).mask k = s.mask k := by
  unfold State.lockoccSet
  first
    | (simp (maxDischargeDepth := 9) only [↓State.modKerf_mask, ↓State.event_mask, ↓State.mask_ite, ite_self, implies_true, h0, h1]; done)
    | ((try dsimp only); (repeat' split) <;> first | (simp (maxDischargeDepth := 9) only [↓State.modKerf_mask, ↓State.event_mask, ↓State.mask_ite, ite_self, implies_true, h0, h1]; done) | (simp_all (maxDischargeDepth := 9) only [↓State.modKerf_mask, ↓State.event_mask, ↓State.mask_ite, ite_self, implies_true, h0, h1]; done))

theorem State.blindBegin_mask (k : Part → Bool) (s : State) (p : PortalIx) (j : Judged) (h0 : k .tally = false) (h1 : k .kerf = false) :
    (State.blindBegin s p j).mask k = s.mask k := by
  unfold State.blindBegin
  first
    | (simp (maxDischargeDepth := 9) only [↓State.modKerf_mask, ↓State.event_mask, ↓State.mask_ite, ite_self, implies_true, h0, h1]; done)
    | ((try dsimp only); (repeat' split) <;> first | (simp (maxDischargeDepth := 9) only [↓State.modKerf_mask, ↓State.event_mask, ↓State.mask_ite, ite_self, implies_true, h0, h1]; done) | (simp_all (maxDischargeDepth := 9) only [↓State.modKerf_mask, ↓State.event_mask, ↓State.mask_ite, ite_self, implies_true, h0, h1]; done))

theorem State.verdictAct_mask (k : Part → Bool) (s : State) (p : PortalIx) (j : Judged) (w : KWin) (before : Verdict) (h0 : k .tally = false) (h1 : k .axes = false) (h2 : k .portals = false) (h3 : k .kerf = false) :
    (State.verdictAct s p j w before).mask k = s.mask k := by
  unfold State.verdictAct
  first
    | (simp (maxDischargeDepth := 9) only [↓State.modKerf_mask, ↓State.event_mask, ↓State.koSet_mask, ↓State.lockoccSet_mask, ↓State.blindBegin_mask, ↓State.mask_ite, ite_self, implies_true, h0, h1, h2, h3]; done)
    | ((try dsimp only); (repeat' split) <;> first | (simp (maxDischargeDepth := 9) only [↓State.modKerf_mask, ↓State.event_mask, ↓State.koSet_mask, ↓State.lockoccSet_mask, ↓State.blindBegin_mask, ↓State.mask_ite, ite_self, implies_true, h0, h1, h2, h3]; done) | (simp_all (maxDischargeDepth := 9) only [↓State.modKerf_mask, ↓State.event_mask, ↓State.koSet_mask, ↓State.lockoccSet_mask, ↓State.blindBegin_mask, ↓State.mask_ite, ite_self, implies_true, h0, h1, h2, h3]; done))

theorem State.snapTake_mask (k : Part → Bool) (s : State) (p : PortalIx) (j : Judged) (h0 : k .tally = false) (h1 : k .kerf = false) :
    (State.snapTake s p j).mask k = s.mask k := by
  unfold State.snapTake
  first
    | (simp (maxDischargeDepth := 9) only [↓State.modKerf_mask, ↓State.event_mask, ↓State.mask_ite, ite_self, implies_true, h0, h1]; done)
    | ((try dsimp only); (repeat' split) <;> first | (simp (maxDischargeDepth := 9) only [↓State.modKerf_mask, ↓State.event_mask, ↓State.mask_ite, ite_self, implies_true, h0, h1]; done) | (simp_all (maxDischargeDepth := 9) only [↓State.modKerf_mask, ↓State.event_mask, ↓State.mask_ite, ite_self, implies_true, h0, h1]; done))

theorem State.verdictEnd_mask (k : Part → Bool) (s : State) (p : PortalIx) (j : Judged) (run : Nat) (h0 : k .tally = false) (h1 : k .kerf = false) :
    (State.verdictEnd s p j run).mask k = s.mask k := by
  unfold State.verdictEnd
  first
    | (simp (maxDischargeDepth := 9) only [↓State.modKerf_mask, ↓State.kcondEval_mask, ↓State.snapTake_mask, ↓State.mask_ite, ite_self, implies_true, h0, h1]; done)
    | ((try dsimp only); (repeat' split) <;> first | (simp (maxDischargeDepth := 9) only [↓State.modKerf_mask, ↓State.kcondEval_mask, ↓State.snapTake_mask, ↓State.mask_ite, ite_self, implies_true, h0, h1]; done) | (simp_all (maxDischargeDepth := 9) only [↓State.modKerf_mask, ↓State.kcondEval_mask, ↓State.snapTake_mask, ↓State.mask_ite, ite_self, implies_true, h0, h1]; done))

theorem State.verdictMissing_mask (k : Part → Bool) (s : State) (p : PortalIx) (h0 : k .kerf = false) :
    (State.verdictMissing s p).mask k = s.mask k := by
  unfold State.verdictMissing
  first
    | (simp (maxDischargeDepth := 9) only [↓State.modKerf_mask, ↓State.frameMissing_mask, ↓State.mask_ite, ite_self, implies_true, h0]; done)
    | ((try dsimp only); (repeat' split) <;> first | (simp (maxDischargeDepth := 9) only [↓State.modKerf_mask, ↓State.frameMissing_mask, ↓State.mask_ite, ite_self, implies_true, h0]; done) | (simp_all (maxDischargeDepth := 9) only [↓State.modKerf_mask, ↓State.frameMissing_mask, ↓State.mask_ite, ite_self, implies_true, h0]; done))

theorem State.issue_mask (k : Part → Bool) (s : State) (p : PortalIx) (j : Judged) (frame reaches : Bool) (h0 : k .tally = false) (h1 : k .axes = false) (h2 : k .portals = false) (h3 : k .kerf = false) :
    (State.issue s p j frame reaches).mask k = s.mask k := by
  unfold State.issue
  first
    | (simp (maxDischargeDepth := 9) only [↓State.modPortal_mask, ↓State.modKerf_mask, ↓State.verdictAct_mask, ↓State.snapTake_mask, ↓State.verdictEnd_mask, ↓State.verdictMissing_mask, ↓State.mask_ite, ite_self, implies_true, h0, h1, h2, h3]; done)
    | ((try dsimp only); (repeat' split) <;> first | (simp (maxDischargeDepth := 9) only [↓State.modPortal_mask, ↓State.modKerf_mask, ↓State.verdictAct_mask, ↓State.snapTake_mask, ↓State.verdictEnd_mask, ↓State.verdictMissing_mask, ↓State.mask_ite, ite_self, implies_true, h0, h1, h2, h3]; done) | (simp_all (maxDischargeDepth := 9) only [↓State.modPortal_mask, ↓State.modKerf_mask, ↓State.verdictAct_mask, ↓State.snapTake_mask, ↓State.verdictEnd_mask, ↓State.verdictMissing_mask, ↓State.mask_ite, ite_self, implies_true, h0, h1, h2, h3]; done))

theorem State.verdictLate_mask (k : Part → Bool) (s : State) (p : PortalIx) (rest : List Judged) (h0 : k .kerf = false) :
    (State.verdictLate s p rest).mask k = s.mask k := by
  unfold State.verdictLate
  first
    | (simp (maxDischargeDepth := 9) only [↓State.modKerf_mask, ↓State.verdictMissing_mask, ↓State.mask_ite, ite_self, implies_true, h0]; done)
    | ((try dsimp only); (repeat' split) <;> first | (simp (maxDischargeDepth := 9) only [↓State.modKerf_mask, ↓State.verdictMissing_mask, ↓State.mask_ite, ite_self, implies_true, h0]; done) | (simp_all (maxDischargeDepth := 9) only [↓State.modKerf_mask, ↓State.verdictMissing_mask, ↓State.mask_ite, ite_self, implies_true, h0]; done))

theorem execVerdictIssue_mask (k : Part → Bool) (v : VerdictTransfer) (s : State) (h0 : k .fab = false) (h1 : k .tally = false) (h2 : k .axes = false) (h3 : k .portals = false) (h4 : k .kerf = false) :
    (stateOf s (execVerdictIssue v s)).mask k = s.mask k := by
  unfold execVerdictIssue
  first
    | (simp (maxDischargeDepth := 9) only [↓State.modKerf_mask, ↓State.fabFault_mask, ↓State.issue_mask, ↓State.verdictLate_mask, ↓stateOf_next, ↓stateOf_ite, ↓State.mask_ite, ite_self, implies_true, h0, h1, h2, h3, h4]; done)
    | ((try dsimp only); (repeat' split) <;> first | (simp (maxDischargeDepth := 9) only [↓State.modKerf_mask, ↓State.fabFault_mask, ↓State.issue_mask, ↓State.verdictLate_mask, ↓stateOf_next, ↓stateOf_ite, ↓State.mask_ite, ite_self, implies_true, h0, h1, h2, h3, h4]; done) | (simp_all (maxDischargeDepth := 9) only [↓State.modKerf_mask, ↓State.fabFault_mask, ↓State.issue_mask, ↓State.verdictLate_mask, ↓stateOf_next, ↓stateOf_ite, ↓State.mask_ite, ite_self, implies_true, h0, h1, h2, h3, h4]; done))

theorem execVerdictLate_mask (k : Part → Bool) (p : PortalIx) (s : State) (h0 : k .mono = false) (h1 : k .kerf = false) :
    (stateOf s (execVerdictLate p s)).mask k = s.mask k := by
  unfold execVerdictLate
  first
    | (simp (maxDischargeDepth := 9) only [↓State.upTo_mask, ↓State.verdictLate_mask, ↓stateOf_next, ↓stateOf_ite, ↓State.mask_ite, ite_self, implies_true, h0, h1]; done)
    | ((try dsimp only); (repeat' split) <;> first | (simp (maxDischargeDepth := 9) only [↓State.upTo_mask, ↓State.verdictLate_mask, ↓stateOf_next, ↓stateOf_ite, ↓State.mask_ite, ite_self, implies_true, h0, h1]; done) | (simp_all (maxDischargeDepth := 9) only [↓State.upTo_mask, ↓State.verdictLate_mask, ↓stateOf_next, ↓stateOf_ite, ↓State.mask_ite, ite_self, implies_true, h0, h1]; done))

theorem execSilentExpiry_mask (k : Part → Bool) (p : PortalIx) (s : State) (h0 : k .mono = false) (h1 : k .tally = false) (h2 : k .axes = false) (h3 : k .portals = false) (h4 : k .kerf = false) :
    (stateOf s (execSilentExpiry p s)).mask k = s.mask k := by
  unfold execSilentExpiry
  first
    | (simp (maxDischargeDepth := 9) only [↓State.modKerf_mask, ↓State.upTo_mask, ↓State.issue_mask, ↓stateOf_next, ↓stateOf_ite, ↓State.mask_ite, ite_self, implies_true, h0, h1, h2, h3, h4]; done)
    | ((try dsimp only); (repeat' split) <;> first | (simp (maxDischargeDepth := 9) only [↓State.modKerf_mask, ↓State.upTo_mask, ↓State.issue_mask, ↓stateOf_next, ↓stateOf_ite, ↓State.mask_ite, ite_self, implies_true, h0, h1, h2, h3, h4]; done) | (simp_all (maxDischargeDepth := 9) only [↓State.modKerf_mask, ↓State.upTo_mask, ↓State.issue_mask, ↓stateOf_next, ↓stateOf_ite, ↓State.mask_ite, ite_self, implies_true, h0, h1, h2, h3, h4]; done))

theorem execOvrmaxExpiry_mask (k : Part → Bool) (p : PortalIx) (s : State) (h0 : k .mono = false) (h1 : k .kerf = false) :
    (stateOf s (execOvrmaxExpiry p s)).mask k = s.mask k := by
  unfold execOvrmaxExpiry
  first
    | (simp (maxDischargeDepth := 9) only [↓State.modKerf_mask, ↓State.upTo_mask, ↓State.kcondEval_mask, ↓stateOf_next, ↓stateOf_ite, ↓State.mask_ite, ite_self, implies_true, h0, h1]; done)
    | ((try dsimp only); (repeat' split) <;> first | (simp (maxDischargeDepth := 9) only [↓State.modKerf_mask, ↓State.upTo_mask, ↓State.kcondEval_mask, ↓stateOf_next, ↓stateOf_ite, ↓State.mask_ite, ite_self, implies_true, h0, h1]; done) | (simp_all (maxDischargeDepth := 9) only [↓State.modKerf_mask, ↓State.upTo_mask, ↓State.kcondEval_mask, ↓stateOf_next, ↓stateOf_ite, ↓State.mask_ite, ite_self, implies_true, h0, h1]; done))

theorem execOvrstuckClear_mask (k : Part → Bool) (p : PortalIx) (s : State) (h0 : k .mono = false) (h1 : k .kerf = false) :
    (stateOf s (execOvrstuckClear p s)).mask k = s.mask k := by
  unfold execOvrstuckClear
  first
    | (simp (maxDischargeDepth := 9) only [↓State.modKerf_mask, ↓State.upTo_mask, ↓State.kcondEval_mask, ↓stateOf_next, ↓stateOf_ite, ↓State.mask_ite, ite_self, implies_true, h0, h1]; done)
    | ((try dsimp only); (repeat' split) <;> first | (simp (maxDischargeDepth := 9) only [↓State.modKerf_mask, ↓State.upTo_mask, ↓State.kcondEval_mask, ↓stateOf_next, ↓stateOf_ite, ↓State.mask_ite, ite_self, implies_true, h0, h1]; done) | (simp_all (maxDischargeDepth := 9) only [↓State.modKerf_mask, ↓State.upTo_mask, ↓State.kcondEval_mask, ↓stateOf_next, ↓stateOf_ite, ↓State.mask_ite, ite_self, implies_true, h0, h1]; done))

end Sys2Proof.Machine
end

