-- ==== Sys2Proof/Laws/FrameLoad.lean ====
section
/-! SUPPORT. What each operation of Machine/Load.lean can change: it keeps every part of the state that it is not named to change. -/

set_option linter.unusedSimpArgs false

namespace Sys2Proof.Machine

theorem State.oltStart_mask (k : Part → Bool) (s : State) (c : ChanIx) (shorted : Bool) (h0 : k .portals = false) (h1 : k .ls = false) :
    (State.oltStart s c shorted).mask k = s.mask k := by
  unfold State.oltStart
  first
    | (simp (maxDischargeDepth := 9) only [↓State.modLs_mask, ↓State.lsEval_mask, ↓State.mask_ite, ite_self, implies_true, h0, h1]; done)
    | ((try dsimp only); (repeat' split) <;> first | (simp (maxDischargeDepth := 9) only [↓State.modLs_mask, ↓State.lsEval_mask, ↓State.mask_ite, ite_self, implies_true, h0, h1]; done) | (simp_all (maxDischargeDepth := 9) only [↓State.modLs_mask, ↓State.lsEval_mask, ↓State.mask_ite, ite_self, implies_true, h0, h1]; done))

theorem State.oltRequest_mask (k : Part → Bool) (s : State) (c : ChanIx) (shorted : Bool) (h0 : k .tally = false) (h1 : k .portals = false) (h2 : k .ls = false) :
    (State.oltRequest s c shorted).mask k = s.mask k := by
  unfold State.oltRequest
  first
    | (simp (maxDischargeDepth := 9) only [↓State.modLs_mask, ↓State.event_mask, ↓State.oltStart_mask, ↓State.mask_ite, ite_self, implies_true, h0, h1, h2]; done)
    | ((try dsimp only); (repeat' split) <;> first | (simp (maxDischargeDepth := 9) only [↓State.modLs_mask, ↓State.event_mask, ↓State.oltStart_mask, ↓State.mask_ite, ite_self, implies_true, h0, h1, h2]; done) | (simp_all (maxDischargeDepth := 9) only [↓State.modLs_mask, ↓State.event_mask, ↓State.oltStart_mask, ↓State.mask_ite, ite_self, implies_true, h0, h1, h2]; done))

theorem execLsbOltest_mask (k : Part → Bool) (c : ChanIx) (shorted : Bool) (s : State) (h0 : k .tally = false) (h1 : k .portals = false) (h2 : k .ls = false) :
    (stateOf s (execLsbOltest c shorted s)).mask k = s.mask k := by
  unfold execLsbOltest
  first
    | (simp (maxDischargeDepth := 9) only [↓State.oltRequest_mask, ↓stateOf_next, ↓stateOf_ite, ↓State.mask_ite, ite_self, implies_true, h0, h1, h2]; done)
    | ((try dsimp only); (repeat' split) <;> first | (simp (maxDischargeDepth := 9) only [↓State.oltRequest_mask, ↓stateOf_next, ↓stateOf_ite, ↓State.mask_ite, ite_self, implies_true, h0, h1, h2]; done) | (simp_all (maxDischargeDepth := 9) only [↓State.oltRequest_mask, ↓stateOf_next, ↓stateOf_ite, ↓State.mask_ite, ite_self, implies_true, h0, h1, h2]; done))

theorem execOltestStart_mask (k : Part → Bool) (c : ChanIx) (shorted : Bool) (s : State) (h0 : k .portals = false) (h1 : k .ls = false) :
    (stateOf s (execOltestStart c shorted s)).mask k = s.mask k := by
  unfold execOltestStart
  first
    | (simp (maxDischargeDepth := 9) only [↓State.oltStart_mask, ↓stateOf_next, ↓stateOf_ite, ↓State.mask_ite, ite_self, implies_true, h0, h1]; done)
    | ((try dsimp only); (repeat' split) <;> first | (simp (maxDischargeDepth := 9) only [↓State.oltStart_mask, ↓stateOf_next, ↓stateOf_ite, ↓State.mask_ite, ite_self, implies_true, h0, h1]; done) | (simp_all (maxDischargeDepth := 9) only [↓State.oltStart_mask, ↓stateOf_next, ↓stateOf_ite, ↓State.mask_ite, ite_self, implies_true, h0, h1]; done))

theorem execOltestComplete_mask (k : Part → Bool) (c : ChanIx) (above : Bool) (s : State) (h0 : k .mono = false) (h1 : k .portals = false) (h2 : k .ls = false) :
    (stateOf s (execOltestComplete c above s)).mask k = s.mask k := by
  unfold execOltestComplete
  first
    | (simp (maxDischargeDepth := 9) only [↓State.modLs_mask, ↓State.upTo_mask, ↓State.lsEval_mask, ↓stateOf_next, ↓stateOf_ite, ↓State.mask_ite, ite_self, implies_true, h0, h1, h2]; done)
    | ((try dsimp only); (repeat' split) <;> first | (simp (maxDischargeDepth := 9) only [↓State.modLs_mask, ↓State.upTo_mask, ↓State.lsEval_mask, ↓stateOf_next, ↓stateOf_ite, ↓State.mask_ite, ite_self, implies_true, h0, h1, h2]; done) | (simp_all (maxDischargeDepth := 9) only [↓State.modLs_mask, ↓State.upTo_mask, ↓State.lsEval_mask, ↓stateOf_next, ↓stateOf_ite, ↓State.mask_ite, ite_self, implies_true, h0, h1, h2]; done))

theorem execLsThermalShutdown_mask (k : Part → Bool) (c : ChanIx) (tj : BitVec 16) (s : State) (h0 : k .tally = false) (h1 : k .portals = false) (h2 : k .ls = false) :
    (stateOf s (execLsThermalShutdown c tj s)).mask k = s.mask k := by
  unfold execLsThermalShutdown
  first
    | (simp (maxDischargeDepth := 9) only [↓State.modLs_mask, ↓State.event_mask, ↓State.lsEval_mask, ↓stateOf_next, ↓stateOf_ite, ↓State.mask_ite, ite_self, implies_true, h0, h1, h2]; done)
    | ((try dsimp only); (repeat' split) <;> first | (simp (maxDischargeDepth := 9) only [↓State.modLs_mask, ↓State.event_mask, ↓State.lsEval_mask, ↓stateOf_next, ↓stateOf_ite, ↓State.mask_ite, ite_self, implies_true, h0, h1, h2]; done) | (simp_all (maxDischargeDepth := 9) only [↓State.modLs_mask, ↓State.event_mask, ↓State.lsEval_mask, ↓stateOf_next, ↓stateOf_ite, ↓State.mask_ite, ite_self, implies_true, h0, h1, h2]; done))

theorem State.lsAttempt_mask (k : Part → Bool) (s : State) (c : ChanIx) (h0 : k .portals = false) (h1 : k .ls = false) :
    (State.lsAttempt s c).mask k = s.mask k := by
  unfold State.lsAttempt
  first
    | (simp (maxDischargeDepth := 9) only [↓State.modLs_mask, ↓State.lsEval_mask, ↓State.mask_ite, ite_self, implies_true, h0, h1]; done)
    | ((try dsimp only); (repeat' split) <;> first | (simp (maxDischargeDepth := 9) only [↓State.modLs_mask, ↓State.lsEval_mask, ↓State.mask_ite, ite_self, implies_true, h0, h1]; done) | (simp_all (maxDischargeDepth := 9) only [↓State.modLs_mask, ↓State.lsEval_mask, ↓State.mask_ite, ite_self, implies_true, h0, h1]; done))

theorem execLsLatchClear_mask (k : Part → Bool) (c : ChanIx) (tj : BitVec 16) (s : State) (h0 : k .portals = false) (h1 : k .ls = false) :
    (stateOf s (execLsLatchClear c tj s)).mask k = s.mask k := by
  unfold execLsLatchClear
  first
    | (simp (maxDischargeDepth := 9) only [↓State.modLs_mask, ↓State.lsEval_mask, ↓State.lsAttempt_mask, ↓stateOf_next, ↓stateOf_ite, ↓State.mask_ite, ite_self, implies_true, h0, h1]; done)
    | ((try dsimp only); (repeat' split) <;> first | (simp (maxDischargeDepth := 9) only [↓State.modLs_mask, ↓State.lsEval_mask, ↓State.lsAttempt_mask, ↓stateOf_next, ↓stateOf_ite, ↓State.mask_ite, ite_self, implies_true, h0, h1]; done) | (simp_all (maxDischargeDepth := 9) only [↓State.modLs_mask, ↓State.lsEval_mask, ↓State.lsAttempt_mask, ↓stateOf_next, ↓stateOf_ite, ↓State.mask_ite, ite_self, implies_true, h0, h1]; done))

theorem execLsRetry_mask (k : Part → Bool) (c : ChanIx) (s : State) (h0 : k .mono = false) (h1 : k .portals = false) (h2 : k .ls = false) :
    (stateOf s (execLsRetry c s)).mask k = s.mask k := by
  unfold execLsRetry
  first
    | (simp (maxDischargeDepth := 9) only [↓State.upTo_mask, ↓State.lsAttempt_mask, ↓stateOf_next, ↓stateOf_ite, ↓State.mask_ite, ite_self, implies_true, h0, h1, h2]; done)
    | ((try dsimp only); (repeat' split) <;> first | (simp (maxDischargeDepth := 9) only [↓State.upTo_mask, ↓State.lsAttempt_mask, ↓stateOf_next, ↓stateOf_ite, ↓State.mask_ite, ite_self, implies_true, h0, h1, h2]; done) | (simp_all (maxDischargeDepth := 9) only [↓State.upTo_mask, ↓State.lsAttempt_mask, ↓stateOf_next, ↓stateOf_ite, ↓State.mask_ite, ite_self, implies_true, h0, h1, h2]; done))

theorem execLsRetryCounterReset_mask (k : Part → Bool) (c : ChanIx) (s : State) (h0 : k .mono = false) (h1 : k .ls = false) :
    (stateOf s (execLsRetryCounterReset c s)).mask k = s.mask k := by
  unfold execLsRetryCounterReset
  first
    | (simp (maxDischargeDepth := 9) only [↓State.modLs_mask, ↓State.upTo_mask, ↓stateOf_next, ↓stateOf_ite, ↓State.mask_ite, ite_self, implies_true, h0, h1]; done)
    | ((try dsimp only); (repeat' split) <;> first | (simp (maxDischargeDepth := 9) only [↓State.modLs_mask, ↓State.upTo_mask, ↓stateOf_next, ↓stateOf_ite, ↓State.mask_ite, ite_self, implies_true, h0, h1]; done) | (simp_all (maxDischargeDepth := 9) only [↓State.modLs_mask, ↓State.upTo_mask, ↓stateOf_next, ↓stateOf_ite, ↓State.mask_ite, ite_self, implies_true, h0, h1]; done))

theorem execOpenLoadDetect_mask (k : Part → Bool) (c : ChanIx) (i : BitVec 16) (s : State) (h0 : k .ls = false) :
    (stateOf s (execOpenLoadDetect c i s)).mask k = s.mask k := by
  unfold execOpenLoadDetect
  first
    | (simp (maxDischargeDepth := 9) only [↓State.modLs_mask, ↓stateOf_next, ↓stateOf_ite, ↓State.mask_ite, ite_self, implies_true, h0]; done)
    | ((try dsimp only); (repeat' split) <;> first | (simp (maxDischargeDepth := 9) only [↓State.modLs_mask, ↓stateOf_next, ↓stateOf_ite, ↓State.mask_ite, ite_self, implies_true, h0]; done) | (simp_all (maxDischargeDepth := 9) only [↓State.modLs_mask, ↓stateOf_next, ↓stateOf_ite, ↓State.mask_ite, ite_self, implies_true, h0]; done))

theorem execClampMeasurementComplete_mask (k : Part → Bool) (c : ChanIx) (energy : Nat) (s : State) (h0 : k .tally = false) (h1 : k .portals = false) (h2 : k .ls = false) :
    (stateOf s (execClampMeasurementComplete c energy s)).mask k = s.mask k := by
  unfold execClampMeasurementComplete
  first
    | (simp (maxDischargeDepth := 9) only [↓State.modLs_mask, ↓State.event_mask, ↓State.lsEval_mask, ↓stateOf_next, ↓stateOf_ite, ↓State.mask_ite, ite_self, implies_true, h0, h1, h2]; done)
    | ((try dsimp only); (repeat' split) <;> first | (simp (maxDischargeDepth := 9) only [↓State.modLs_mask, ↓State.event_mask, ↓State.lsEval_mask, ↓stateOf_next, ↓stateOf_ite, ↓State.mask_ite, ite_self, implies_true, h0, h1, h2]; done) | (simp_all (maxDischargeDepth := 9) only [↓State.modLs_mask, ↓State.event_mask, ↓State.lsEval_mask, ↓stateOf_next, ↓stateOf_ite, ↓State.mask_ite, ite_self, implies_true, h0, h1, h2]; done))

theorem execChokerLeak_mask (k : Part → Bool) (s : State) (h0 : k .mono = false) (h1 : k .ls = false) (h2 : k .lsg = false) :
    (stateOf s (execChokerLeak s)).mask k = s.mask k := by
  unfold execChokerLeak
  first
    | (simp (maxDischargeDepth := 9) only [↓State.modLs_mask, ↓State.upTo_mask, ↓stateOf_next, ↓stateOf_ite, ↓State.mask_with_mono, ↓State.mask_with_ls, ↓State.mask_with_lsg, ↓State.mask_ite, ite_self, implies_true, ↓State.mask_forAll, h0, h1, h2]; done)
    | ((try dsimp only); (repeat' split) <;> first | (simp (maxDischargeDepth := 9) only [↓State.modLs_mask, ↓State.upTo_mask, ↓stateOf_next, ↓stateOf_ite, ↓State.mask_with_mono, ↓State.mask_with_ls, ↓State.mask_with_lsg, ↓State.mask_ite, ite_self, implies_true, ↓State.mask_forAll, h0, h1, h2]; done) | (simp_all (maxDischargeDepth := 9) only [↓State.modLs_mask, ↓State.upTo_mask, ↓stateOf_next, ↓stateOf_ite, ↓State.mask_with_mono, ↓State.mask_with_ls, ↓State.mask_with_lsg, ↓State.mask_ite, ite_self, implies_true, ↓State.mask_forAll, h0, h1, h2]; done))
    | (simp only [State.mask, Bool.false_eq_true, ↓reduceIte, h0, h1, h2]; done)
    | (simp (maxDischargeDepth := 9) only [↓State.modLs_mask, ↓State.upTo_mask, ↓stateOf_next, ↓stateOf_ite, ↓State.mask_with_mono, ↓State.mask_with_ls, ↓State.mask_with_lsg, ↓State.mask_ite, ite_self, implies_true, ↓State.mask_forAll, h0, h1, h2]; simp only [State.mask, Bool.false_eq_true, ↓reduceIte, h0, h1, h2]; done)
    | ((try dsimp only); refine State.mask_forAll _ _ _ _ fun _ _ => ?_; (repeat' split) <;> simp (maxDischargeDepth := 9) only [↓State.modLs_mask, ↓State.upTo_mask, ↓stateOf_next, ↓stateOf_ite, ↓State.mask_with_mono, ↓State.mask_with_ls, ↓State.mask_with_lsg, ↓State.mask_ite, ite_self, implies_true, ↓State.mask_forAll, h0, h1, h2]; done)
    | ((try dsimp only); refine (State.mask_forAll _ _ _ _ fun _ _ => ?_).trans ?_ <;> (repeat' split) <;> simp (maxDischargeDepth := 9) only [↓State.modLs_mask, ↓State.upTo_mask, ↓stateOf_next, ↓stateOf_ite, ↓State.mask_with_mono, ↓State.mask_with_ls, ↓State.mask_with_lsg, ↓State.mask_ite, ite_self, implies_true, ↓State.mask_forAll, h0, h1, h2]; done)

theorem State.modAlb_mask (k : Part → Bool) (s : State) (f : LsgAlb → LsgAlb) (h0 : k .lsg = false) :
    (State.modAlb s f).mask k = s.mask k := by
  unfold State.modAlb
  first
    | (simp (maxDischargeDepth := 9) only [↓State.mask_with_lsg, ↓State.mask_ite, ite_self, implies_true, h0]; done)
    | ((try dsimp only); (repeat' split) <;> first | (simp (maxDischargeDepth := 9) only [↓State.mask_with_lsg, ↓State.mask_ite, ite_self, implies_true, h0]; done) | (simp_all (maxDischargeDepth := 9) only [↓State.mask_with_lsg, ↓State.mask_ite, ite_self, implies_true, h0]; done))
    | (simp only [State.mask, Bool.false_eq_true, ↓reduceIte, h0]; done)
    | (simp (maxDischargeDepth := 9) only [↓State.mask_with_lsg, ↓State.mask_ite, ite_self, implies_true, h0]; simp only [State.mask, Bool.false_eq_true, ↓reduceIte, h0]; done)

theorem State.supplyBegin_mask (k : Part → Bool) (s : State) (i : Nat) (f : LsgAlb → LsgAlb) (h0 : k .tally = false) (h1 : k .portals = false) (h2 : k .ls = false) (h3 : k .lsg = false) :
    (State.supplyBegin s i f).mask k = s.mask k := by
  unfold State.supplyBegin
  first
    | (simp (maxDischargeDepth := 9) only [↓State.event_mask, ↓State.lsEval_mask, ↓State.modAlb_mask, ↓State.mask_with_tally, ↓State.mask_with_portals, ↓State.mask_with_ls, ↓State.mask_with_lsg, ↓State.mask_ite, ite_self, implies_true, ↓State.mask_forAll, h0, h1, h2, h3]; done)
    | ((try dsimp only); (repeat' split) <;> first | (simp (maxDischargeDepth := 9) only [↓State.event_mask, ↓State.lsEval_mask, ↓State.modAlb_mask, ↓State.mask_with_tally, ↓State.mask_with_portals, ↓State.mask_with_ls, ↓State.mask_with_lsg, ↓State.mask_ite, ite_self, implies_true, ↓State.mask_forAll, h0, h1, h2, h3]; done) | (simp_all (maxDischargeDepth := 9) only [↓State.event_mask, ↓State.lsEval_mask, ↓State.modAlb_mask, ↓State.mask_with_tally, ↓State.mask_with_portals, ↓State.mask_with_ls, ↓State.mask_with_lsg, ↓State.mask_ite, ite_self, implies_true, ↓State.mask_forAll, h0, h1, h2, h3]; done))
    | (simp only [State.mask, Bool.false_eq_true, ↓reduceIte, h0, h1, h2, h3]; done)
    | (simp (maxDischargeDepth := 9) only [↓State.event_mask, ↓State.lsEval_mask, ↓State.modAlb_mask, ↓State.mask_with_tally, ↓State.mask_with_portals, ↓State.mask_with_ls, ↓State.mask_with_lsg, ↓State.mask_ite, ite_self, implies_true, ↓State.mask_forAll, h0, h1, h2, h3]; simp only [State.mask, Bool.false_eq_true, ↓reduceIte, h0, h1, h2, h3]; done)
    | ((try dsimp only); refine State.mask_forAll _ _ _ _ fun _ _ => ?_; (repeat' split) <;> simp (maxDischargeDepth := 9) only [↓State.event_mask, ↓State.lsEval_mask, ↓State.modAlb_mask, ↓State.mask_with_tally, ↓State.mask_with_portals, ↓State.mask_with_ls, ↓State.mask_with_lsg, ↓State.mask_ite, ite_self, implies_true, ↓State.mask_forAll, h0, h1, h2, h3]; done)
    | ((try dsimp only); refine (State.mask_forAll _ _ _ _ fun _ _ => ?_).trans ?_ <;> (repeat' split) <;> simp (maxDischargeDepth := 9) only [↓State.event_mask, ↓State.lsEval_mask, ↓State.modAlb_mask, ↓State.mask_with_tally, ↓State.mask_with_portals, ↓State.mask_with_ls, ↓State.mask_with_lsg, ↓State.mask_ite, ite_self, implies_true, ↓State.mask_forAll, h0, h1, h2, h3]; done)

theorem State.supplyEnd_mask (k : Part → Bool) (s : State) (i : Nat) (f : LsgAlb → LsgAlb) (h0 : k .tally = false) (h1 : k .lsg = false) :
    (State.supplyEnd s i f).mask k = s.mask k := by
  unfold State.supplyEnd
  first
    | (simp (maxDischargeDepth := 9) only [↓State.event_mask, ↓State.modAlb_mask, ↓State.mask_ite, ite_self, implies_true, h0, h1]; done)
    | ((try dsimp only); (repeat' split) <;> first | (simp (maxDischargeDepth := 9) only [↓State.event_mask, ↓State.modAlb_mask, ↓State.mask_ite, ite_self, implies_true, h0, h1]; done) | (simp_all (maxDischargeDepth := 9) only [↓State.event_mask, ↓State.modAlb_mask, ↓State.mask_ite, ite_self, implies_true, h0, h1]; done))

theorem execAlbUndervoltage_mask (k : Part → Bool) (v : BitVec 12) (s : State) (h0 : k .tally = false) (h1 : k .portals = false) (h2 : k .ls = false) (h3 : k .lsg = false) :
    (stateOf s (execAlbUndervoltage v s)).mask k = s.mask k := by
  unfold execAlbUndervoltage
  first
    | (simp (maxDischargeDepth := 9) only [↓State.supplyBegin_mask, ↓stateOf_next, ↓stateOf_ite, ↓State.mask_ite, ite_self, implies_true, h0, h1, h2, h3]; done)
    | ((try dsimp only); (repeat' split) <;> first | (simp (maxDischargeDepth := 9) only [↓State.supplyBegin_mask, ↓stateOf_next, ↓stateOf_ite, ↓State.mask_ite, ite_self, implies_true, h0, h1, h2, h3]; done) | (simp_all (maxDischargeDepth := 9) only [↓State.supplyBegin_mask, ↓stateOf_next, ↓stateOf_ite, ↓State.mask_ite, ite_self, implies_true, h0, h1, h2, h3]; done))

theorem execAlbReversed_mask (k : Part → Bool) (s : State) (h0 : k .tally = false) (h1 : k .portals = false) (h2 : k .ls = false) (h3 : k .lsg = false) :
    (stateOf s (execAlbReversed s)).mask k = s.mask k := by
  unfold execAlbReversed
  first
    | (simp (maxDischargeDepth := 9) only [↓State.supplyBegin_mask, ↓stateOf_next, ↓stateOf_ite, ↓State.mask_ite, ite_self, implies_true, h0, h1, h2, h3]; done)
    | ((try dsimp only); (repeat' split) <;> first | (simp (maxDischargeDepth := 9) only [↓State.supplyBegin_mask, ↓stateOf_next, ↓stateOf_ite, ↓State.mask_ite, ite_self, implies_true, h0, h1, h2, h3]; done) | (simp_all (maxDischargeDepth := 9) only [↓State.supplyBegin_mask, ↓stateOf_next, ↓stateOf_ite, ↓State.mask_ite, ite_self, implies_true, h0, h1, h2, h3]; done))

theorem execAlbReturnLoss_mask (k : Part → Bool) (s : State) (h0 : k .tally = false) (h1 : k .portals = false) (h2 : k .ls = false) (h3 : k .lsg = false) :
    (stateOf s (execAlbReturnLoss s)).mask k = s.mask k := by
  unfold execAlbReturnLoss
  first
    | (simp (maxDischargeDepth := 9) only [↓State.supplyBegin_mask, ↓stateOf_next, ↓stateOf_ite, ↓State.mask_ite, ite_self, implies_true, h0, h1, h2, h3]; done)
    | ((try dsimp only); (repeat' split) <;> first | (simp (maxDischargeDepth := 9) only [↓State.supplyBegin_mask, ↓stateOf_next, ↓stateOf_ite, ↓State.mask_ite, ite_self, implies_true, h0, h1, h2, h3]; done) | (simp_all (maxDischargeDepth := 9) only [↓State.supplyBegin_mask, ↓stateOf_next, ↓stateOf_ite, ↓State.mask_ite, ite_self, implies_true, h0, h1, h2, h3]; done))

theorem execAlbOvervoltage_mask (k : Part → Bool) (v : BitVec 12) (s : State) (h0 : k .tally = false) (h1 : k .portals = false) (h2 : k .ls = false) (h3 : k .lsg = false) :
    (stateOf s (execAlbOvervoltage v s)).mask k = s.mask k := by
  unfold execAlbOvervoltage
  first
    | (simp (maxDischargeDepth := 9) only [↓State.supplyBegin_mask, ↓stateOf_next, ↓stateOf_ite, ↓State.mask_ite, ite_self, implies_true, h0, h1, h2, h3]; done)
    | ((try dsimp only); (repeat' split) <;> first | (simp (maxDischargeDepth := 9) only [↓State.supplyBegin_mask, ↓stateOf_next, ↓stateOf_ite, ↓State.mask_ite, ite_self, implies_true, h0, h1, h2, h3]; done) | (simp_all (maxDischargeDepth := 9) only [↓State.supplyBegin_mask, ↓stateOf_next, ↓stateOf_ite, ↓State.mask_ite, ite_self, implies_true, h0, h1, h2, h3]; done))

theorem execSupplyHoldoffEnd_mask (k : Part → Bool) (v : BitVec 12) (s : State) (h0 : k .tally = false) (h1 : k .portals = false) (h2 : k .ls = false) (h3 : k .lsg = false) :
    (stateOf s (execSupplyHoldoffEnd v s)).mask k = s.mask k := by
  unfold execSupplyHoldoffEnd
  first
    | (simp (maxDischargeDepth := 9) only [↓State.lsEval_mask, ↓State.modAlb_mask, ↓State.supplyEnd_mask, ↓stateOf_next, ↓stateOf_ite, ↓State.mask_with_tally, ↓State.mask_with_portals, ↓State.mask_with_ls, ↓State.mask_with_lsg, ↓State.mask_ite, ite_self, implies_true, ↓State.mask_forAll, h0, h1, h2, h3]; done)
    | ((try dsimp only); (repeat' split) <;> first | (simp (maxDischargeDepth := 9) only [↓State.lsEval_mask, ↓State.modAlb_mask, ↓State.supplyEnd_mask, ↓stateOf_next, ↓stateOf_ite, ↓State.mask_with_tally, ↓State.mask_with_portals, ↓State.mask_with_ls, ↓State.mask_with_lsg, ↓State.mask_ite, ite_self, implies_true, ↓State.mask_forAll, h0, h1, h2, h3]; done) | (simp_all (maxDischargeDepth := 9) only [↓State.lsEval_mask, ↓State.modAlb_mask, ↓State.supplyEnd_mask, ↓stateOf_next, ↓stateOf_ite, ↓State.mask_with_tally, ↓State.mask_with_portals, ↓State.mask_with_ls, ↓State.mask_with_lsg, ↓State.mask_ite, ite_self, implies_true, ↓State.mask_forAll, h0, h1, h2, h3]; done))
    | (simp only [State.mask, Bool.false_eq_true, ↓reduceIte, h0, h1, h2, h3]; done)
    | (simp (maxDischargeDepth := 9) only [↓State.lsEval_mask, ↓State.modAlb_mask, ↓State.supplyEnd_mask, ↓stateOf_next, ↓stateOf_ite, ↓State.mask_with_tally, ↓State.mask_with_portals, ↓State.mask_with_ls, ↓State.mask_with_lsg, ↓State.mask_ite, ite_self, implies_true, ↓State.mask_forAll, h0, h1, h2, h3]; simp only [State.mask, Bool.false_eq_true, ↓reduceIte, h0, h1, h2, h3]; done)
    | ((try dsimp only); refine State.mask_forAll _ _ _ _ fun _ _ => ?_; (repeat' split) <;> simp (maxDischargeDepth := 9) only [↓State.lsEval_mask, ↓State.modAlb_mask, ↓State.supplyEnd_mask, ↓stateOf_next, ↓stateOf_ite, ↓State.mask_with_tally, ↓State.mask_with_portals, ↓State.mask_with_ls, ↓State.mask_with_lsg, ↓State.mask_ite, ite_self, implies_true, ↓State.mask_forAll, h0, h1, h2, h3]; done)
    | ((try dsimp only); refine (State.mask_forAll _ _ _ _ fun _ _ => ?_).trans ?_ <;> (repeat' split) <;> simp (maxDischargeDepth := 9) only [↓State.lsEval_mask, ↓State.modAlb_mask, ↓State.supplyEnd_mask, ↓stateOf_next, ↓stateOf_ite, ↓State.mask_with_tally, ↓State.mask_with_portals, ↓State.mask_with_ls, ↓State.mask_with_lsg, ↓State.mask_ite, ite_self, implies_true, ↓State.mask_forAll, h0, h1, h2, h3]; done)

end Sys2Proof.Machine
end

