-- ==== Sys2Proof/Laws/FrameFeedbackOps.lean ====
section
/-! SUPPORT. What each operation of Machine/FeedbackOps.lean can change: it keeps every part of the state that it is not named to change. -/

set_option linter.unusedSimpArgs false

namespace Sys2Proof.Machine

theorem State.fbFault_mask (k : Part → Bool) (s : State) (a : AxisIx) (h0 : k .axes = false) :
    (State.fbFault s a).mask k = s.mask k := by
  unfold State.fbFault
  first
    | (simp (maxDischargeDepth := 9) only [↓State.modAxis_mask, ↓State.bridgeEval_mask, ↓State.mask_ite, ite_self, implies_true, h0]; done)
    | ((try dsimp only); (repeat' split) <;> first | (simp (maxDischargeDepth := 9) only [↓State.modAxis_mask, ↓State.bridgeEval_mask, ↓State.mask_ite, ite_self, implies_true, h0]; done) | (simp_all (maxDischargeDepth := 9) only [↓State.modAxis_mask, ↓State.bridgeEval_mask, ↓State.mask_ite, ite_self, implies_true, h0]; done))

theorem State.fbRelease_mask (k : Part → Bool) (s : State) (a : AxisIx) (h0 : k .axes = false) :
    (State.fbRelease s a).mask k = s.mask k := by
  unfold State.fbRelease
  first
    | (simp (maxDischargeDepth := 9) only [↓State.modAxis_mask, ↓State.bridgeEval_mask, ↓State.mask_ite, ite_self, implies_true, h0]; done)
    | ((try dsimp only); (repeat' split) <;> first | (simp (maxDischargeDepth := 9) only [↓State.modAxis_mask, ↓State.bridgeEval_mask, ↓State.mask_ite, ite_self, implies_true, h0]; done) | (simp_all (maxDischargeDepth := 9) only [↓State.modAxis_mask, ↓State.bridgeEval_mask, ↓State.mask_ite, ite_self, implies_true, h0]; done))

theorem State.setCount_mask (k : Part → Bool) (s : State) (a : AxisIx) (n : Int) (h0 : k .axes = false) (h1 : k .portals = false) :
    (State.setCount s a n).mask k = s.mask k := by
  unfold State.setCount
  first
    | (simp (maxDischargeDepth := 9) only [↓State.modAxis_mask, ↓State.saturate_mask, ↓State.mask_ite, ite_self, implies_true, h0, h1]; done)
    | ((try dsimp only); (repeat' split) <;> first | (simp (maxDischargeDepth := 9) only [↓State.modAxis_mask, ↓State.saturate_mask, ↓State.mask_ite, ite_self, implies_true, h0, h1]; done) | (simp_all (maxDischargeDepth := 9) only [↓State.modAxis_mask, ↓State.saturate_mask, ↓State.mask_ite, ite_self, implies_true, h0, h1]; done))

theorem State.illegalEdge_mask (k : Part → Bool) (s : State) (a : AxisIx) (h0 : k .axes = false) :
    (State.illegalEdge s a).mask k = s.mask k := by
  unfold State.illegalEdge
  first
    | (simp (maxDischargeDepth := 9) only [↓State.modAxis_mask, ↓State.fbFault_mask, ↓State.mask_ite, ite_self, implies_true, h0]; done)
    | ((try dsimp only); (repeat' split) <;> first | (simp (maxDischargeDepth := 9) only [↓State.modAxis_mask, ↓State.fbFault_mask, ↓State.mask_ite, ite_self, implies_true, h0]; done) | (simp_all (maxDischargeDepth := 9) only [↓State.modAxis_mask, ↓State.fbFault_mask, ↓State.mask_ite, ite_self, implies_true, h0]; done))

theorem State.passThrough_mask (k : Part → Bool) (s : State) (a : AxisIx) (hall : Bool) (l : BitVec 3) (h0 : k .portals = false) :
    (State.passThrough s a hall l).mask k = s.mask k := by
  unfold State.passThrough
  first
    | (simp (maxDischargeDepth := 9) only [↓State.modPortal_mask, ↓State.mask_ite, ite_self, implies_true, ↓State.mask_forAll, h0]; done)
    | ((try dsimp only); (repeat' split) <;> first | (simp (maxDischargeDepth := 9) only [↓State.modPortal_mask, ↓State.mask_ite, ite_self, implies_true, ↓State.mask_forAll, h0]; done) | (simp_all (maxDischargeDepth := 9) only [↓State.modPortal_mask, ↓State.mask_ite, ite_self, implies_true, ↓State.mask_forAll, h0]; done))
    | ((try dsimp only); refine State.mask_forAll _ _ _ _ fun _ _ => ?_; (repeat' split) <;> simp (maxDischargeDepth := 9) only [↓State.modPortal_mask, ↓State.mask_ite, ite_self, implies_true, ↓State.mask_forAll, h0]; done)
    | ((try dsimp only); refine (State.mask_forAll _ _ _ _ fun _ _ => ?_).trans ?_ <;> (repeat' split) <;> simp (maxDischargeDepth := 9) only [↓State.modPortal_mask, ↓State.mask_ite, ite_self, implies_true, ↓State.mask_forAll, h0]; done)

theorem State.lineCount_mask (k : Part → Bool) (s : State) (a : AxisIx) (hall : Bool) (old l : BitVec 3) (t : Nat) (h0 : k .axes = false) (h1 : k .portals = false) :
    (State.lineCount s a hall old l t).mask k = s.mask k := by
  unfold State.lineCount
  first
    | (simp (maxDischargeDepth := 9) only [↓State.modAxis_mask, ↓State.fbRelease_mask, ↓State.setCount_mask, ↓State.illegalEdge_mask, ↓State.mask_ite, ite_self, implies_true, h0, h1]; done)
    | ((try dsimp only); (repeat' split) <;> first | (simp (maxDischargeDepth := 9) only [↓State.modAxis_mask, ↓State.fbRelease_mask, ↓State.setCount_mask, ↓State.illegalEdge_mask, ↓State.mask_ite, ite_self, implies_true, h0, h1]; done) | (simp_all (maxDischargeDepth := 9) only [↓State.modAxis_mask, ↓State.fbRelease_mask, ↓State.setCount_mask, ↓State.illegalEdge_mask, ↓State.mask_ite, ite_self, implies_true, h0, h1]; done))

theorem State.lineChange_mask (k : Part → Bool) (s : State) (a : AxisIx) (hall : Bool) (l : BitVec 3) (t : Nat) (h0 : k .axes = false) (h1 : k .portals = false) :
    (State.lineChange s a hall l t).mask k = s.mask k := by
  unfold State.lineChange
  first
    | (simp (maxDischargeDepth := 9) only [↓State.modAxis_mask, ↓State.lineCount_mask, ↓State.mask_ite, ite_self, implies_true, h0, h1]; done)
    | ((try dsimp only); (repeat' split) <;> first | (simp (maxDischargeDepth := 9) only [↓State.modAxis_mask, ↓State.lineCount_mask, ↓State.mask_ite, ite_self, implies_true, h0, h1]; done) | (simp_all (maxDischargeDepth := 9) only [↓State.modAxis_mask, ↓State.lineCount_mask, ↓State.mask_ite, ite_self, implies_true, h0, h1]; done))

theorem State.acceptLines_mask (k : Part → Bool) (s : State) (a : AxisIx) (hall : Bool) (l : PinLevels) (x0 : Nat) (h0 : k .axes = false) (h1 : k .portals = false) :
    (State.acceptLines s a hall l x0).mask k = s.mask k := by
  induction x0 generalizing s a hall l with
  | zero => unfold State.acceptLines; rfl
  | succ n ih =>
    unfold State.acceptLines
    (try dsimp only); (repeat' split) <;> first | (simp (maxDischargeDepth := 9) only [↓State.lineChange_mask, ↓State.mask_ite, ite_self, implies_true, h0, h1, ↓ih]; done) | (simp_all (maxDischargeDepth := 9) only [↓State.lineChange_mask, ↓State.mask_ite, ite_self, implies_true, h0, h1, ↓ih]; done)

theorem State.indexEvent_mask (k : Part → Bool) (s : State) (a : AxisIx) (h0 : k .axes = false) (h1 : k .portals = false) :
    (State.indexEvent s a).mask k = s.mask k := by
  unfold State.indexEvent
  first
    | (simp (maxDischargeDepth := 9) only [↓State.modAxis_mask, ↓State.setCount_mask, ↓State.mask_ite, ite_self, implies_true, h0, h1]; done)
    | ((try dsimp only); (repeat' split) <;> first | (simp (maxDischargeDepth := 9) only [↓State.modAxis_mask, ↓State.setCount_mask, ↓State.mask_ite, ite_self, implies_true, h0, h1]; done) | (simp_all (maxDischargeDepth := 9) only [↓State.modAxis_mask, ↓State.setCount_mask, ↓State.mask_ite, ite_self, implies_true, h0, h1]; done))

theorem State.serialGood_mask (k : Part → Bool) (s : State) (a : AxisIx) (v : Nat) (h0 : k .axes = false) (h1 : k .portals = false) :
    (State.serialGood s a v).mask k = s.mask k := by
  unfold State.serialGood
  first
    | (simp (maxDischargeDepth := 9) only [↓State.modAxis_mask, ↓State.fbRelease_mask, ↓State.setCount_mask, ↓State.mask_ite, ite_self, implies_true, h0, h1]; done)
    | ((try dsimp only); (repeat' split) <;> first | (simp (maxDischargeDepth := 9) only [↓State.modAxis_mask, ↓State.fbRelease_mask, ↓State.setCount_mask, ↓State.mask_ite, ite_self, implies_true, h0, h1]; done) | (simp_all (maxDischargeDepth := 9) only [↓State.modAxis_mask, ↓State.fbRelease_mask, ↓State.setCount_mask, ↓State.mask_ite, ite_self, implies_true, h0, h1]; done))

theorem State.serialBad_mask (k : Part → Bool) (s : State) (a : AxisIx) (b : Bool × Bool × Bool × Bool) (h0 : k .axes = false) :
    (State.serialBad s a b).mask k = s.mask k := by
  unfold State.serialBad
  first
    | (simp (maxDischargeDepth := 9) only [↓State.modAxis_mask, ↓State.fbFault_mask, ↓State.mask_ite, ite_self, implies_true, h0]; done)
    | ((try dsimp only); (repeat' split) <;> first | (simp (maxDischargeDepth := 9) only [↓State.modAxis_mask, ↓State.fbFault_mask, ↓State.mask_ite, ite_self, implies_true, h0]; done) | (simp_all (maxDischargeDepth := 9) only [↓State.modAxis_mask, ↓State.fbFault_mask, ↓State.mask_ite, ite_self, implies_true, h0]; done))

end Sys2Proof.Machine
end

