-- ==== Sys2Proof/Laws/FrameControlOps.lean ====
section
/-! SUPPORT. What each operation of Machine/ControlOps.lean can change: it keeps every part of the state that it is not named to change. -/

set_option linter.unusedSimpArgs false

namespace Sys2Proof.Machine

theorem State.envCut_mask (k : Part → Bool) (s : State) (a : AxisIx) (span : Nat) (bit : AxcEnvst → AxcEnvst) (h0 : k .axes = false) :
    (State.envCut s a span bit).mask k = s.mask k := by
  unfold State.envCut
  first
    | (simp (maxDischargeDepth := 9) only [↓State.modAxis_mask, ↓State.bridgeEval_mask, ↓State.mask_ite, ite_self, implies_true, h0]; done)
    | ((try dsimp only); (repeat' split) <;> first | (simp (maxDischargeDepth := 9) only [↓State.modAxis_mask, ↓State.bridgeEval_mask, ↓State.mask_ite, ite_self, implies_true, h0]; done) | (simp_all (maxDischargeDepth := 9) only [↓State.modAxis_mask, ↓State.bridgeEval_mask, ↓State.mask_ite, ite_self, implies_true, h0]; done))

theorem State.forceObstacle_mask (k : Part → Bool) (s : State) (a : AxisIx) (h0 : k .tally = false) (h1 : k .axes = false) (h2 : k .portals = false) :
    (State.forceObstacle s a).mask k = s.mask k := by
  unfold State.forceObstacle
  first
    | (simp (maxDischargeDepth := 9) only [↓State.stopAxis_mask, ↓State.stopLeaves_mask, ↓State.latchObs_mask, ↓State.mask_ite, ite_self, implies_true, h0, h1, h2]; done)
    | ((try dsimp only); (repeat' split) <;> first | (simp (maxDischargeDepth := 9) only [↓State.stopAxis_mask, ↓State.stopLeaves_mask, ↓State.latchObs_mask, ↓State.mask_ite, ite_self, implies_true, h0, h1, h2]; done) | (simp_all (maxDischargeDepth := 9) only [↓State.stopAxis_mask, ↓State.stopLeaves_mask, ↓State.latchObs_mask, ↓State.mask_ite, ite_self, implies_true, h0, h1, h2]; done))

theorem State.forceCut_mask (k : Part → Bool) (s : State) (a : AxisIx) (h0 : k .tally = false) (h1 : k .axes = false) (h2 : k .portals = false) :
    (State.forceCut s a).mask k = s.mask k := by
  unfold State.forceCut
  first
    | (simp (maxDischargeDepth := 9) only [↓State.envCut_mask, ↓State.forceObstacle_mask, ↓State.mask_ite, ite_self, implies_true, h0, h1, h2]; done)
    | ((try dsimp only); (repeat' split) <;> first | (simp (maxDischargeDepth := 9) only [↓State.envCut_mask, ↓State.forceObstacle_mask, ↓State.mask_ite, ite_self, implies_true, h0, h1, h2]; done) | (simp_all (maxDischargeDepth := 9) only [↓State.envCut_mask, ↓State.forceObstacle_mask, ↓State.mask_ite, ite_self, implies_true, h0, h1, h2]; done))

theorem State.forcePeak_mask (k : Part → Bool) (s : State) (a : AxisIx) (h0 : k .portals = false) :
    (State.forcePeak s a).mask k = s.mask k := by
  unfold State.forcePeak
  first
    | (simp (maxDischargeDepth := 9) only [↓State.modPortal_mask, ↓State.mask_ite, ite_self, implies_true, h0]; done)
    | ((try dsimp only); (repeat' split) <;> first | (simp (maxDischargeDepth := 9) only [↓State.modPortal_mask, ↓State.mask_ite, ite_self, implies_true, h0]; done) | (simp_all (maxDischargeDepth := 9) only [↓State.modPortal_mask, ↓State.mask_ite, ite_self, implies_true, h0]; done))

theorem State.envelope_mask (k : Part → Bool) (s : State) (a : AxisIx) (h0 : k .tally = false) (h1 : k .axes = false) (h2 : k .portals = false) :
    (State.envelope s a).mask k = s.mask k := by
  unfold State.envelope
  first
    | (simp (maxDischargeDepth := 9) only [↓State.modAxis_mask, ↓State.bridgeEval_mask, ↓State.envCut_mask, ↓State.forceCut_mask, ↓State.mask_ite, ite_self, implies_true, h0, h1, h2]; done)
    | ((try dsimp only); (repeat' split) <;> first | (simp (maxDischargeDepth := 9) only [↓State.modAxis_mask, ↓State.bridgeEval_mask, ↓State.envCut_mask, ↓State.forceCut_mask, ↓State.mask_ite, ite_self, implies_true, h0, h1, h2]; done) | (simp_all (maxDischargeDepth := 9) only [↓State.modAxis_mask, ↓State.bridgeEval_mask, ↓State.envCut_mask, ↓State.forceCut_mask, ↓State.mask_ite, ite_self, implies_true, h0, h1, h2]; done))

theorem State.rmsLimit_mask (k : Part → Bool) (s : State) (a : AxisIx) (h0 : k .axes = false) :
    (State.rmsLimit s a).mask k = s.mask k := by
  unfold State.rmsLimit
  first
    | (simp (maxDischargeDepth := 9) only [↓State.modAxis_mask, ↓State.bridgeEval_mask, ↓State.envCut_mask, ↓State.mask_ite, ite_self, implies_true, h0]; done)
    | ((try dsimp only); (repeat' split) <;> first | (simp (maxDischargeDepth := 9) only [↓State.modAxis_mask, ↓State.bridgeEval_mask, ↓State.envCut_mask, ↓State.mask_ite, ite_self, implies_true, h0]; done) | (simp_all (maxDischargeDepth := 9) only [↓State.modAxis_mask, ↓State.bridgeEval_mask, ↓State.envCut_mask, ↓State.mask_ite, ite_self, implies_true, h0]; done))

theorem State.calStart_mask (k : Part → Bool) (s : State) (a : AxisIx) (h0 : k .axes = false) :
    (State.calStart s a).mask k = s.mask k := by
  unfold State.calStart
  first
    | (simp (maxDischargeDepth := 9) only [↓State.modAxis_mask, ↓State.mask_ite, ite_self, implies_true, h0]; done)
    | ((try dsimp only); (repeat' split) <;> first | (simp (maxDischargeDepth := 9) only [↓State.modAxis_mask, ↓State.mask_ite, ite_self, implies_true, h0]; done) | (simp_all (maxDischargeDepth := 9) only [↓State.modAxis_mask, ↓State.mask_ite, ite_self, implies_true, h0]; done))

theorem State.calRequest_mask (k : Part → Bool) (s : State) (a : AxisIx) (h0 : k .tally = false) (h1 : k .axes = false) :
    (State.calRequest s a).mask k = s.mask k := by
  unfold State.calRequest
  first
    | (simp (maxDischargeDepth := 9) only [↓State.modAxis_mask, ↓State.event_mask, ↓State.calStart_mask, ↓State.mask_ite, ite_self, implies_true, h0, h1]; done)
    | ((try dsimp only); (repeat' split) <;> first | (simp (maxDischargeDepth := 9) only [↓State.modAxis_mask, ↓State.event_mask, ↓State.calStart_mask, ↓State.mask_ite, ite_self, implies_true, h0, h1]; done) | (simp_all (maxDischargeDepth := 9) only [↓State.modAxis_mask, ↓State.event_mask, ↓State.calStart_mask, ↓State.mask_ite, ite_self, implies_true, h0, h1]; done))

end Sys2Proof.Machine
end

