-- ==== Sys2Proof/Laws/FrameConfigOps.lean ====
section
/-! SUPPORT. What each operation of Machine/ConfigOps.lean can change: it keeps every part of the state that it is not named to change. -/

set_option linter.unusedSimpArgs false

namespace Sys2Proof.Machine

theorem State.imgWord_mask (k : Part → Bool) (s : State) (a : Nat) (w : Word) (h0 : k .eng = false) (h1 : k .axes = false) (h2 : k .portals = false) (h3 : k .fel = false) (h4 : k .ls = false) (h5 : k .kerf = false) (h6 : k .fio = false) (h7 : k .jnl = false) (h8 : k .net = false) (h9 : k .pwr = false) :
    (State.imgWord s a w).mask k = s.mask k := by
  unfold State.imgWord
  first
    | (simp (maxDischargeDepth := 9) only [↓State.modAxis_mask, ↓State.modPortal_mask, ↓State.modSys_mask, ↓State.modLs_mask, ↓State.modKerf_mask, ↓State.mask_with_eng, ↓State.mask_with_axes, ↓State.mask_with_portals, ↓State.mask_with_fel, ↓State.mask_with_ls, ↓State.mask_with_kerf, ↓State.mask_with_fio, ↓State.mask_with_jnl, ↓State.mask_with_net, ↓State.mask_with_pwr, ↓State.mask_ite, ite_self, implies_true, h0, h1, h2, h3, h4, h5, h6, h7, h8, h9]; done)
    | ((try dsimp only); (repeat' split) <;> first | (simp (maxDischargeDepth := 9) only [↓State.modAxis_mask, ↓State.modPortal_mask, ↓State.modSys_mask, ↓State.modLs_mask, ↓State.modKerf_mask, ↓State.mask_with_eng, ↓State.mask_with_axes, ↓State.mask_with_portals, ↓State.mask_with_fel, ↓State.mask_with_ls, ↓State.mask_with_kerf, ↓State.mask_with_fio, ↓State.mask_with_jnl, ↓State.mask_with_net, ↓State.mask_with_pwr, ↓State.mask_ite, ite_self, implies_true, h0, h1, h2, h3, h4, h5, h6, h7, h8, h9]; done) | (simp_all (maxDischargeDepth := 9) only [↓State.modAxis_mask, ↓State.modPortal_mask, ↓State.modSys_mask, ↓State.modLs_mask, ↓State.modKerf_mask, ↓State.mask_with_eng, ↓State.mask_with_axes, ↓State.mask_with_portals, ↓State.mask_with_fel, ↓State.mask_with_ls, ↓State.mask_with_kerf, ↓State.mask_with_fio, ↓State.mask_with_jnl, ↓State.mask_with_net, ↓State.mask_with_pwr, ↓State.mask_ite, ite_self, implies_true, h0, h1, h2, h3, h4, h5, h6, h7, h8, h9]; done))
    | (simp only [State.mask, Bool.false_eq_true, ↓reduceIte, h0, h1, h2, h3, h4, h5, h6, h7, h8, h9]; done)
    | (simp (maxDischargeDepth := 9) only [↓State.modAxis_mask, ↓State.modPortal_mask, ↓State.modSys_mask, ↓State.modLs_mask, ↓State.modKerf_mask, ↓State.mask_with_eng, ↓State.mask_with_axes, ↓State.mask_with_portals, ↓State.mask_with_fel, ↓State.mask_with_ls, ↓State.mask_with_kerf, ↓State.mask_with_fio, ↓State.mask_with_jnl, ↓State.mask_with_net, ↓State.mask_with_pwr, ↓State.mask_ite, ite_self, implies_true, h0, h1, h2, h3, h4, h5, h6, h7, h8, h9]; simp only [State.mask, Bool.false_eq_true, ↓reduceIte, h0, h1, h2, h3, h4, h5, h6, h7, h8, h9]; done)

theorem State.imgResetUnits_mask (k : Part → Bool) (s : State) (h0 : k .axes = false) (h1 : k .portals = false) (h2 : k .fel = false) (h3 : k .ls = false) (h4 : k .kerf = false) (h5 : k .fio = false) :
    (State.imgResetUnits s).mask k = s.mask k := by
  unfold State.imgResetUnits
  first
    | (simp (maxDischargeDepth := 9) only [↓State.mask_with_axes, ↓State.mask_with_portals, ↓State.mask_with_fel, ↓State.mask_with_ls, ↓State.mask_with_kerf, ↓State.mask_with_fio, ↓State.mask_ite, ite_self, implies_true, h0, h1, h2, h3, h4, h5]; done)
    | ((try dsimp only); (repeat' split) <;> first | (simp (maxDischargeDepth := 9) only [↓State.mask_with_axes, ↓State.mask_with_portals, ↓State.mask_with_fel, ↓State.mask_with_ls, ↓State.mask_with_kerf, ↓State.mask_with_fio, ↓State.mask_ite, ite_self, implies_true, h0, h1, h2, h3, h4, h5]; done) | (simp_all (maxDischargeDepth := 9) only [↓State.mask_with_axes, ↓State.mask_with_portals, ↓State.mask_with_fel, ↓State.mask_with_ls, ↓State.mask_with_kerf, ↓State.mask_with_fio, ↓State.mask_ite, ite_self, implies_true, h0, h1, h2, h3, h4, h5]; done))
    | (simp only [State.mask, Bool.false_eq_true, ↓reduceIte, h0, h1, h2, h3, h4, h5]; done)
    | (simp (maxDischargeDepth := 9) only [↓State.mask_with_axes, ↓State.mask_with_portals, ↓State.mask_with_fel, ↓State.mask_with_ls, ↓State.mask_with_kerf, ↓State.mask_with_fio, ↓State.mask_ite, ite_self, implies_true, h0, h1, h2, h3, h4, h5]; simp only [State.mask, Bool.false_eq_true, ↓reduceIte, h0, h1, h2, h3, h4, h5]; done)

theorem State.imgResetSystem_mask (k : Part → Bool) (s : State) (h0 : k .eng = false) (h1 : k .jnl = false) (h2 : k .net = false) (h3 : k .pwr = false) :
    (State.imgResetSystem s).mask k = s.mask k := by
  unfold State.imgResetSystem
  first
    | (simp (maxDischargeDepth := 9) only [↓State.mask_with_eng, ↓State.mask_with_jnl, ↓State.mask_with_net, ↓State.mask_with_pwr, ↓State.mask_ite, ite_self, implies_true, h0, h1, h2, h3]; done)
    | ((try dsimp only); (repeat' split) <;> first | (simp (maxDischargeDepth := 9) only [↓State.mask_with_eng, ↓State.mask_with_jnl, ↓State.mask_with_net, ↓State.mask_with_pwr, ↓State.mask_ite, ite_self, implies_true, h0, h1, h2, h3]; done) | (simp_all (maxDischargeDepth := 9) only [↓State.mask_with_eng, ↓State.mask_with_jnl, ↓State.mask_with_net, ↓State.mask_with_pwr, ↓State.mask_ite, ite_self, implies_true, h0, h1, h2, h3]; done))
    | (simp only [State.mask, Bool.false_eq_true, ↓reduceIte, h0, h1, h2, h3]; done)
    | (simp (maxDischargeDepth := 9) only [↓State.mask_with_eng, ↓State.mask_with_jnl, ↓State.mask_with_net, ↓State.mask_with_pwr, ↓State.mask_ite, ite_self, implies_true, h0, h1, h2, h3]; simp only [State.mask, Bool.false_eq_true, ↓reduceIte, h0, h1, h2, h3]; done)

theorem State.imgReset_mask (k : Part → Bool) (s : State) (h0 : k .eng = false) (h1 : k .axes = false) (h2 : k .portals = false) (h3 : k .fel = false) (h4 : k .ls = false) (h5 : k .kerf = false) (h6 : k .fio = false) (h7 : k .jnl = false) (h8 : k .net = false) (h9 : k .pwr = false) :
    (State.imgReset s).mask k = s.mask k := by
  unfold State.imgReset
  first
    | (simp (maxDischargeDepth := 9) only [↓State.imgResetUnits_mask, ↓State.imgResetSystem_mask, ↓State.mask_ite, ite_self, implies_true, h0, h1, h2, h3, h4, h5, h6, h7, h8, h9]; done)
    | ((try dsimp only); (repeat' split) <;> first | (simp (maxDischargeDepth := 9) only [↓State.imgResetUnits_mask, ↓State.imgResetSystem_mask, ↓State.mask_ite, ite_self, implies_true, h0, h1, h2, h3, h4, h5, h6, h7, h8, h9]; done) | (simp_all (maxDischargeDepth := 9) only [↓State.imgResetUnits_mask, ↓State.imgResetSystem_mask, ↓State.mask_ite, ite_self, implies_true, h0, h1, h2, h3, h4, h5, h6, h7, h8, h9]; done))

theorem State.loadParam_mask (k : Part → Bool) (s : State) (param : List Byte) (h0 : k .eng = false) (h1 : k .axes = false) (h2 : k .portals = false) (h3 : k .fel = false) (h4 : k .ls = false) (h5 : k .kerf = false) (h6 : k .fio = false) (h7 : k .jnl = false) (h8 : k .net = false) (h9 : k .pwr = false) :
    (State.loadParam s param).mask k = s.mask k := by
  unfold State.loadParam
  first
    | (simp (maxDischargeDepth := 9) only [↓State.modEng_mask, ↓State.imgWord_mask, ↓State.imgReset_mask, ↓State.mask_with_eng, ↓State.mask_with_axes, ↓State.mask_with_portals, ↓State.mask_with_fel, ↓State.mask_with_ls, ↓State.mask_with_kerf, ↓State.mask_with_fio, ↓State.mask_with_jnl, ↓State.mask_with_net, ↓State.mask_with_pwr, ↓State.mask_ite, ite_self, implies_true, ↓State.mask_foldl, h0, h1, h2, h3, h4, h5, h6, h7, h8, h9]; done)
    | ((try dsimp only); (repeat' split) <;> first | (simp (maxDischargeDepth := 9) only [↓State.modEng_mask, ↓State.imgWord_mask, ↓State.imgReset_mask, ↓State.mask_with_eng, ↓State.mask_with_axes, ↓State.mask_with_portals, ↓State.mask_with_fel, ↓State.mask_with_ls, ↓State.mask_with_kerf, ↓State.mask_with_fio, ↓State.mask_with_jnl, ↓State.mask_with_net, ↓State.mask_with_pwr, ↓State.mask_ite, ite_self, implies_true, ↓State.mask_foldl, h0, h1, h2, h3, h4, h5, h6, h7, h8, h9]; done) | (simp_all (maxDischargeDepth := 9) only [↓State.modEng_mask, ↓State.imgWord_mask, ↓State.imgReset_mask, ↓State.mask_with_eng, ↓State.mask_with_axes, ↓State.mask_with_portals, ↓State.mask_with_fel, ↓State.mask_with_ls, ↓State.mask_with_kerf, ↓State.mask_with_fio, ↓State.mask_with_jnl, ↓State.mask_with_net, ↓State.mask_with_pwr, ↓State.mask_ite, ite_self, implies_true, ↓State.mask_foldl, h0, h1, h2, h3, h4, h5, h6, h7, h8, h9]; done))
    | (simp only [State.mask, Bool.false_eq_true, ↓reduceIte, h0, h1, h2, h3, h4, h5, h6, h7, h8, h9]; done)
    | (simp (maxDischargeDepth := 9) only [↓State.modEng_mask, ↓State.imgWord_mask, ↓State.imgReset_mask, ↓State.mask_with_eng, ↓State.mask_with_axes, ↓State.mask_with_portals, ↓State.mask_with_fel, ↓State.mask_with_ls, ↓State.mask_with_kerf, ↓State.mask_with_fio, ↓State.mask_with_jnl, ↓State.mask_with_net, ↓State.mask_with_pwr, ↓State.mask_ite, ite_self, implies_true, ↓State.mask_foldl, h0, h1, h2, h3, h4, h5, h6, h7, h8, h9]; simp only [State.mask, Bool.false_eq_true, ↓reduceIte, h0, h1, h2, h3, h4, h5, h6, h7, h8, h9]; done)

theorem State.trial_mask (k : Part → Bool) (s : State) (c : Container) (h0 : k .eng = false) (h1 : k .axes = false) (h2 : k .portals = false) (h3 : k .fel = false) (h4 : k .ls = false) (h5 : k .kerf = false) (h6 : k .fio = false) (h7 : k .safe = false) (h8 : k .jnl = false) (h9 : k .net = false) (h10 : k .pwr = false) :
    (State.trial s c).mask k = s.mask k := by
  unfold State.trial
  first
    | (simp (maxDischargeDepth := 9) only [↓State.modSafe_mask, ↓State.loadParam_mask, ↓State.mask_ite, ite_self, implies_true, h0, h1, h2, h3, h4, h5, h6, h7, h8, h9, h10]; done)
    | ((try dsimp only); (repeat' split) <;> first | (simp (maxDischargeDepth := 9) only [↓State.modSafe_mask, ↓State.loadParam_mask, ↓State.mask_ite, ite_self, implies_true, h0, h1, h2, h3, h4, h5, h6, h7, h8, h9, h10]; done) | (simp_all (maxDischargeDepth := 9) only [↓State.modSafe_mask, ↓State.loadParam_mask, ↓State.mask_ite, ite_self, implies_true, h0, h1, h2, h3, h4, h5, h6, h7, h8, h9, h10]; done))

end Sys2Proof.Machine
end

