-- ==== Sys2Proof/Laws/FrameSessionOps.lean ====
section
/-! SUPPORT. What each operation of Machine/SessionOps.lean can change: it keeps every part of the state that it is not named to change. -/

set_option linter.unusedSimpArgs false

namespace Sys2Proof.Machine

theorem State.modLnd_mask (k : Part → Bool) (s : State) (f : Landing → Landing) (h0 : k .lnd = false) :
    (State.modLnd s f).mask k = s.mask k := by
  unfold State.modLnd
  first
    | (simp (maxDischargeDepth := 9) only [↓State.mask_with_lnd, ↓State.mask_ite, ite_self, implies_true, h0]; done)
    | ((try dsimp only); (repeat' split) <;> first | (simp (maxDischargeDepth := 9) only [↓State.mask_with_lnd, ↓State.mask_ite, ite_self, implies_true, h0]; done) | (simp_all (maxDischargeDepth := 9) only [↓State.mask_with_lnd, ↓State.mask_ite, ite_self, implies_true, h0]; done))
    | (simp only [State.mask, Bool.false_eq_true, ↓reduceIte, h0]; done)
    | (simp (maxDischargeDepth := 9) only [↓State.mask_with_lnd, ↓State.mask_ite, ite_self, implies_true, h0]; simp only [State.mask, Bool.false_eq_true, ↓reduceIte, h0]; done)

theorem State.modTru_mask (k : Part → Bool) (s : State) (f : Security → Security) (h0 : k .tru = false) :
    (State.modTru s f).mask k = s.mask k := by
  unfold State.modTru
  first
    | (simp (maxDischargeDepth := 9) only [↓State.mask_with_tru, ↓State.mask_ite, ite_self, implies_true, h0]; done)
    | ((try dsimp only); (repeat' split) <;> first | (simp (maxDischargeDepth := 9) only [↓State.mask_with_tru, ↓State.mask_ite, ite_self, implies_true, h0]; done) | (simp_all (maxDischargeDepth := 9) only [↓State.mask_with_tru, ↓State.mask_ite, ite_self, implies_true, h0]; done))
    | (simp only [State.mask, Bool.false_eq_true, ↓reduceIte, h0]; done)
    | (simp (maxDischargeDepth := 9) only [↓State.mask_with_tru, ↓State.mask_ite, ite_self, implies_true, h0]; simp only [State.mask, Bool.false_eq_true, ↓reduceIte, h0]; done)

theorem State.endSession_mask (k : Part → Bool) (s : State) (i : SesIx) (h0 : k .eng = false) (h1 : k .lnd = false) (h2 : k .tru = false) :
    (State.endSession s i).mask k = s.mask k := by
  unfold State.endSession
  first
    | (simp (maxDischargeDepth := 9) only [↓State.modEng_mask, ↓State.modLnd_mask, ↓State.modTru_mask, ↓State.mask_ite, ite_self, implies_true, h0, h1, h2]; done)
    | ((try dsimp only); (repeat' split) <;> first | (simp (maxDischargeDepth := 9) only [↓State.modEng_mask, ↓State.modLnd_mask, ↓State.modTru_mask, ↓State.mask_ite, ite_self, implies_true, h0, h1, h2]; done) | (simp_all (maxDischargeDepth := 9) only [↓State.modEng_mask, ↓State.modLnd_mask, ↓State.modTru_mask, ↓State.mask_ite, ite_self, implies_true, h0, h1, h2]; done))

theorem State.endSessions_mask (k : Part → Bool) (s : State) (h0 : k .eng = false) (h1 : k .lnd = false) (h2 : k .tru = false) :
    (State.endSessions s).mask k = s.mask k := by
  unfold State.endSessions
  first
    | (simp (maxDischargeDepth := 9) only [↓State.endSession_mask, ↓State.mask_ite, ite_self, implies_true, ↓State.mask_forAll, h0, h1, h2]; done)
    | ((try dsimp only); (repeat' split) <;> first | (simp (maxDischargeDepth := 9) only [↓State.endSession_mask, ↓State.mask_ite, ite_self, implies_true, ↓State.mask_forAll, h0, h1, h2]; done) | (simp_all (maxDischargeDepth := 9) only [↓State.endSession_mask, ↓State.mask_ite, ite_self, implies_true, ↓State.mask_forAll, h0, h1, h2]; done))
    | ((try dsimp only); refine State.mask_forAll _ _ _ _ fun _ _ => ?_; (repeat' split) <;> simp (maxDischargeDepth := 9) only [↓State.endSession_mask, ↓State.mask_ite, ite_self, implies_true, ↓State.mask_forAll, h0, h1, h2]; done)
    | ((try dsimp only); refine (State.mask_forAll _ _ _ _ fun _ _ => ?_).trans ?_ <;> (repeat' split) <;> simp (maxDischargeDepth := 9) only [↓State.endSession_mask, ↓State.mask_ite, ite_self, implies_true, ↓State.mask_forAll, h0, h1, h2]; done)

theorem State.respond_mask (k : Part → Bool) (s : State) (i : SesIx) (op : Nat) (tag : Word) (st : Status) (payload : List Byte := []) (h0 : k .sent = false) :
    (State.respond s i op tag st payload).mask k = s.mask k := by
  unfold State.respond
  first
    | (simp (maxDischargeDepth := 9) only [↓State.send_mask, ↓State.mask_ite, ite_self, implies_true, h0]; done)
    | ((try dsimp only); (repeat' split) <;> first | (simp (maxDischargeDepth := 9) only [↓State.send_mask, ↓State.mask_ite, ite_self, implies_true, h0]; done) | (simp_all (maxDischargeDepth := 9) only [↓State.send_mask, ↓State.mask_ite, ite_self, implies_true, h0]; done))

end Sys2Proof.Machine
end

