-- ==== Sys2Proof/Laws/FrameTallyOps.lean ====
section
/-! SUPPORT. What each operation of Machine/TallyOps.lean can change: it keeps every part of the state that it is not named to change. -/

set_option linter.unusedSimpArgs false

namespace Sys2Proof.Machine

theorem State.commission_mask (k : Part → Bool) (s : State) (serial : Word) (h0 : k .tally = false) :
    (State.commission s serial).1.mask k = s.mask k := by
  unfold State.commission
  first
    | (simp (maxDischargeDepth := 9) only [↓State.mask_with_tally, ↓State.mask_ite, ite_self, implies_true, ↓State.mask_fst_ite, h0]; done)
    | ((try dsimp only); (repeat' split) <;> first | (simp (maxDischargeDepth := 9) only [↓State.mask_with_tally, ↓State.mask_ite, ite_self, implies_true, ↓State.mask_fst_ite, h0]; done) | (simp_all (maxDischargeDepth := 9) only [↓State.mask_with_tally, ↓State.mask_ite, ite_self, implies_true, ↓State.mask_fst_ite, h0]; done))
    | (simp only [State.mask, Bool.false_eq_true, ↓reduceIte, h0]; done)
    | (simp (maxDischargeDepth := 9) only [↓State.mask_with_tally, ↓State.mask_ite, ite_self, implies_true, ↓State.mask_fst_ite, h0]; simp only [State.mask, Bool.false_eq_true, ↓reduceIte, h0]; done)

theorem State.emit_mask (k : Part → Bool) (s : State) (subtype : BitVec 8) (payload : List Byte) (h0 : k .tally = false) :
    (State.emit s subtype payload).1.mask k = s.mask k := by
  unfold State.emit
  first
    | (simp (maxDischargeDepth := 9) only [↓State.mask_with_tally, ↓State.mask_ite, ite_self, implies_true, ↓State.mask_fst_ite, h0]; done)
    | ((try dsimp only); (repeat' split) <;> first | (simp (maxDischargeDepth := 9) only [↓State.mask_with_tally, ↓State.mask_ite, ite_self, implies_true, ↓State.mask_fst_ite, h0]; done) | (simp_all (maxDischargeDepth := 9) only [↓State.mask_with_tally, ↓State.mask_ite, ite_self, implies_true, ↓State.mask_fst_ite, h0]; done))
    | (simp only [State.mask, Bool.false_eq_true, ↓reduceIte, h0]; done)
    | (simp (maxDischargeDepth := 9) only [↓State.mask_with_tally, ↓State.mask_ite, ite_self, implies_true, ↓State.mask_fst_ite, h0]; simp only [State.mask, Bool.false_eq_true, ↓reduceIte, h0]; done)

theorem State.emissionGo_mask (k : Part → Bool) (s : State) (ctx : Fin 5) (w : Word) (h0 : k .eng = false) (h1 : k .tally = false) :
    (State.emissionGo s ctx w).mask k = s.mask k := by
  unfold State.emissionGo
  first
    | (simp (maxDischargeDepth := 9) only [↓State.violation_mask, ↓State.emit_mask, ↓State.mask_ite, ite_self, implies_true, h0, h1]; done)
    | ((try dsimp only); (repeat' split) <;> first | (simp (maxDischargeDepth := 9) only [↓State.violation_mask, ↓State.emit_mask, ↓State.mask_ite, ite_self, implies_true, h0, h1]; done) | (simp_all (maxDischargeDepth := 9) only [↓State.violation_mask, ↓State.emit_mask, ↓State.mask_ite, ite_self, implies_true, h0, h1]; done))

end Sys2Proof.Machine
end

