-- ==== Sys2Proof/Laws/FrameSupplyOps.lean ====
section
/-! SUPPORT. What each operation of Machine/SupplyOps.lean can change: it keeps every part of the state that it is not named to change. -/

set_option linter.unusedSimpArgs false

namespace Sys2Proof.Machine

theorem State.headOn_mask (k : Part → Bool) (s : State) (p : PortalIx) (h0 : k .fel = false) (h1 : k .pwr = false) :
    (State.headOn s p).mask k = s.mask k := by
  unfold State.headOn
  first
    | (simp (maxDischargeDepth := 9) only [↓State.modPwr_mask, ↓State.modFel_mask, ↓State.mask_ite, ite_self, implies_true, h0, h1]; done)
    | ((try dsimp only); (repeat' split) <;> first | (simp (maxDischargeDepth := 9) only [↓State.modPwr_mask, ↓State.modFel_mask, ↓State.mask_ite, ite_self, implies_true, h0, h1]; done) | (simp_all (maxDischargeDepth := 9) only [↓State.modPwr_mask, ↓State.modFel_mask, ↓State.mask_ite, ite_self, implies_true, h0, h1]; done))

theorem State.headAdmitGo_mask (k : Part → Bool) (s : State) (x0 : Nat) (h0 : k .fel = false) (h1 : k .pwr = false) :
    (State.headAdmitGo s x0).mask k = s.mask k := by
  induction x0 generalizing s with
  | zero => unfold State.headAdmitGo; rfl
  | succ n ih =>
    unfold State.headAdmitGo
    (try dsimp only); (repeat' split) <;> first | (simp (maxDischargeDepth := 9) only [↓State.headOn_mask, ↓State.mask_ite, ite_self, implies_true, h0, h1, ↓ih]; done) | (simp_all (maxDischargeDepth := 9) only [↓State.headOn_mask, ↓State.mask_ite, ite_self, implies_true, h0, h1, ↓ih]; done)

theorem State.headAdmit_mask (k : Part → Bool) (s : State) (h0 : k .fel = false) (h1 : k .pwr = false) :
    (State.headAdmit s).mask k = s.mask k := by
  unfold State.headAdmit
  first
    | (simp (maxDischargeDepth := 9) only [↓State.modFel_mask, ↓State.headAdmitGo_mask, ↓State.mask_ite, ite_self, implies_true, h0, h1]; done)
    | ((try dsimp only); (repeat' split) <;> first | (simp (maxDischargeDepth := 9) only [↓State.modFel_mask, ↓State.headAdmitGo_mask, ↓State.mask_ite, ite_self, implies_true, h0, h1]; done) | (simp_all (maxDischargeDepth := 9) only [↓State.modFel_mask, ↓State.headAdmitGo_mask, ↓State.mask_ite, ite_self, implies_true, h0, h1]; done))

theorem State.headWait_mask (k : Part → Bool) (s : State) (p : PortalIx) (h0 : k .fel = false) :
    (State.headWait s p).mask k = s.mask k := by
  unfold State.headWait
  first
    | (simp (maxDischargeDepth := 9) only [↓State.modFel_mask, ↓State.mask_ite, ite_self, implies_true, h0]; done)
    | ((try dsimp only); (repeat' split) <;> first | (simp (maxDischargeDepth := 9) only [↓State.modFel_mask, ↓State.mask_ite, ite_self, implies_true, h0]; done) | (simp_all (maxDischargeDepth := 9) only [↓State.modFel_mask, ↓State.mask_ite, ite_self, implies_true, h0]; done))

theorem State.headWaitAll_mask (k : Part → Bool) (s : State) (h0 : k .fel = false) (h1 : k .pwr = false) :
    (State.headWaitAll s).mask k = s.mask k := by
  unfold State.headWaitAll
  first
    | (simp (maxDischargeDepth := 9) only [↓State.headAdmit_mask, ↓State.headWait_mask, ↓State.mask_ite, ite_self, implies_true, ↓State.mask_forAll, h0, h1]; done)
    | ((try dsimp only); (repeat' split) <;> first | (simp (maxDischargeDepth := 9) only [↓State.headAdmit_mask, ↓State.headWait_mask, ↓State.mask_ite, ite_self, implies_true, ↓State.mask_forAll, h0, h1]; done) | (simp_all (maxDischargeDepth := 9) only [↓State.headAdmit_mask, ↓State.headWait_mask, ↓State.mask_ite, ite_self, implies_true, ↓State.mask_forAll, h0, h1]; done))
    | ((try dsimp only); refine State.mask_forAll _ _ _ _ fun _ _ => ?_; (repeat' split) <;> simp (maxDischargeDepth := 9) only [↓State.headAdmit_mask, ↓State.headWait_mask, ↓State.mask_ite, ite_self, implies_true, ↓State.mask_forAll, h0, h1]; done)
    | ((try dsimp only); refine (State.mask_forAll _ _ _ _ fun _ _ => ?_).trans ?_ <;> (repeat' split) <;> simp (maxDischargeDepth := 9) only [↓State.headAdmit_mask, ↓State.headWait_mask, ↓State.mask_ite, ite_self, implies_true, ↓State.mask_forAll, h0, h1]; done)

theorem State.headsOff_mask (k : Part → Bool) (s : State) (h0 : k .fel = false) (h1 : k .pwr = false) :
    (State.headsOff s).mask k = s.mask k := by
  unfold State.headsOff
  first
    | (simp (maxDischargeDepth := 9) only [↓State.modPwr_mask, ↓State.modFel_mask, ↓State.mask_ite, ite_self, implies_true, h0, h1]; done)
    | ((try dsimp only); (repeat' split) <;> first | (simp (maxDischargeDepth := 9) only [↓State.modPwr_mask, ↓State.modFel_mask, ↓State.mask_ite, ite_self, implies_true, h0, h1]; done) | (simp_all (maxDischargeDepth := 9) only [↓State.modPwr_mask, ↓State.modFel_mask, ↓State.mask_ite, ite_self, implies_true, h0, h1]; done))

theorem State.headReset_mask (k : Part → Bool) (s : State) (w : BitVec 16) (h0 : k .fel = false) (h1 : k .pwr = false) :
    (State.headReset s w).mask k = s.mask k := by
  unfold State.headReset
  first
    | (simp (maxDischargeDepth := 9) only [↓State.modFel_mask, ↓State.headAdmit_mask, ↓State.headWait_mask, ↓State.mask_ite, ite_self, implies_true, ↓State.mask_forAll, h0, h1]; done)
    | ((try dsimp only); (repeat' split) <;> first | (simp (maxDischargeDepth := 9) only [↓State.modFel_mask, ↓State.headAdmit_mask, ↓State.headWait_mask, ↓State.mask_ite, ite_self, implies_true, ↓State.mask_forAll, h0, h1]; done) | (simp_all (maxDischargeDepth := 9) only [↓State.modFel_mask, ↓State.headAdmit_mask, ↓State.headWait_mask, ↓State.mask_ite, ite_self, implies_true, ↓State.mask_forAll, h0, h1]; done))
    | ((try dsimp only); refine State.mask_forAll _ _ _ _ fun _ _ => ?_; (repeat' split) <;> simp (maxDischargeDepth := 9) only [↓State.modFel_mask, ↓State.headAdmit_mask, ↓State.headWait_mask, ↓State.mask_ite, ite_self, implies_true, ↓State.mask_forAll, h0, h1]; done)
    | ((try dsimp only); refine (State.mask_forAll _ _ _ _ fun _ _ => ?_).trans ?_ <;> (repeat' split) <;> simp (maxDischargeDepth := 9) only [↓State.modFel_mask, ↓State.headAdmit_mask, ↓State.headWait_mask, ↓State.mask_ite, ite_self, implies_true, ↓State.mask_forAll, h0, h1]; done)

theorem State.mbusCharge_mask (k : Part → Bool) (s : State) (h0 : k .pwr = false) (h1 : k .freeSeq = false) :
    (State.mbusCharge s).mask k = s.mask k := by
  unfold State.mbusCharge
  first
    | (simp (maxDischargeDepth := 9) only [↓State.used_mask, ↓State.modPwr_mask, ↓State.mask_ite, ite_self, implies_true, h0, h1]; done)
    | ((try dsimp only); (repeat' split) <;> first | (simp (maxDischargeDepth := 9) only [↓State.used_mask, ↓State.modPwr_mask, ↓State.mask_ite, ite_self, implies_true, h0, h1]; done) | (simp_all (maxDischargeDepth := 9) only [↓State.used_mask, ↓State.modPwr_mask, ↓State.mask_ite, ite_self, implies_true, h0, h1]; done))

theorem State.bridgesOffAll_mask (k : Part → Bool) (s : State) (cause : BitVec 4) (h0 : k .axes = false) :
    (State.bridgesOffAll s cause).mask k = s.mask k := by
  unfold State.bridgesOffAll
  first
    | (simp (maxDischargeDepth := 9) only [↓State.modAxis_mask, ↓State.mask_ite, ite_self, implies_true, ↓State.mask_forAll, h0]; done)
    | ((try dsimp only); (repeat' split) <;> first | (simp (maxDischargeDepth := 9) only [↓State.modAxis_mask, ↓State.mask_ite, ite_self, implies_true, ↓State.mask_forAll, h0]; done) | (simp_all (maxDischargeDepth := 9) only [↓State.modAxis_mask, ↓State.mask_ite, ite_self, implies_true, ↓State.mask_forAll, h0]; done))
    | ((try dsimp only); refine State.mask_forAll _ _ _ _ fun _ _ => ?_; (repeat' split) <;> simp (maxDischargeDepth := 9) only [↓State.modAxis_mask, ↓State.mask_ite, ite_self, implies_true, ↓State.mask_forAll, h0]; done)
    | ((try dsimp only); refine (State.mask_forAll _ _ _ _ fun _ _ => ?_).trans ?_ <;> (repeat' split) <;> simp (maxDischargeDepth := 9) only [↓State.modAxis_mask, ↓State.mask_ite, ite_self, implies_true, ↓State.mask_forAll, h0]; done)

theorem State.outputsOff_mask (k : Part → Bool) (s : State) (h0 : k .portals = false) (h1 : k .ls = false) (h2 : k .lsg = false) (h3 : k .fio = false) :
    (State.outputsOff s).mask k = s.mask k := by
  unfold State.outputsOff
  first
    | (simp (maxDischargeDepth := 9) only [↓State.lsEval_mask, ↓State.mask_with_portals, ↓State.mask_with_ls, ↓State.mask_with_lsg, ↓State.mask_with_fio, ↓State.mask_ite, ite_self, implies_true, ↓State.mask_forAll, h0, h1, h2, h3]; done)
    | ((try dsimp only); (repeat' split) <;> first | (simp (maxDischargeDepth := 9) only [↓State.lsEval_mask, ↓State.mask_with_portals, ↓State.mask_with_ls, ↓State.mask_with_lsg, ↓State.mask_with_fio, ↓State.mask_ite, ite_self, implies_true, ↓State.mask_forAll, h0, h1, h2, h3]; done) | (simp_all (maxDischargeDepth := 9) only [↓State.lsEval_mask, ↓State.mask_with_portals, ↓State.mask_with_ls, ↓State.mask_with_lsg, ↓State.mask_with_fio, ↓State.mask_ite, ite_self, implies_true, ↓State.mask_forAll, h0, h1, h2, h3]; done))
    | (simp only [State.mask, Bool.false_eq_true, ↓reduceIte, h0, h1, h2, h3]; done)
    | (simp (maxDischargeDepth := 9) only [↓State.lsEval_mask, ↓State.mask_with_portals, ↓State.mask_with_ls, ↓State.mask_with_lsg, ↓State.mask_with_fio, ↓State.mask_ite, ite_self, implies_true, ↓State.mask_forAll, h0, h1, h2, h3]; simp only [State.mask, Bool.false_eq_true, ↓reduceIte, h0, h1, h2, h3]; done)
    | ((try dsimp only); refine State.mask_forAll _ _ _ _ fun _ _ => ?_; (repeat' split) <;> simp (maxDischargeDepth := 9) only [↓State.lsEval_mask, ↓State.mask_with_portals, ↓State.mask_with_ls, ↓State.mask_with_lsg, ↓State.mask_with_fio, ↓State.mask_ite, ite_self, implies_true, ↓State.mask_forAll, h0, h1, h2, h3]; done)
    | ((try dsimp only); refine (State.mask_forAll _ _ _ _ fun _ _ => ?_).trans ?_ <;> (repeat' split) <;> simp (maxDischargeDepth := 9) only [↓State.lsEval_mask, ↓State.mask_with_portals, ↓State.mask_with_ls, ↓State.mask_with_lsg, ↓State.mask_with_fio, ↓State.mask_ite, ite_self, implies_true, ↓State.mask_forAll, h0, h1, h2, h3]; done)

theorem State.runFlushes_mask (k : Part → Bool) (s : State) (n : Nat) (h0 : k .tally = false) :
    (State.runFlushes s n).mask k = s.mask k := by
  unfold State.runFlushes
  first
    | (simp (maxDischargeDepth := 9) only [↓State.modTally_mask, ↓State.mask_ite, ite_self, implies_true, ↓State.mask_forAll, h0]; done)
    | ((try dsimp only); (repeat' split) <;> first | (simp (maxDischargeDepth := 9) only [↓State.modTally_mask, ↓State.mask_ite, ite_self, implies_true, ↓State.mask_forAll, h0]; done) | (simp_all (maxDischargeDepth := 9) only [↓State.modTally_mask, ↓State.mask_ite, ite_self, implies_true, ↓State.mask_forAll, h0]; done))
    | ((try dsimp only); refine State.mask_forAll _ _ _ _ fun _ _ => ?_; (repeat' split) <;> simp (maxDischargeDepth := 9) only [↓State.modTally_mask, ↓State.mask_ite, ite_self, implies_true, ↓State.mask_forAll, h0]; done)
    | ((try dsimp only); refine (State.mask_forAll _ _ _ _ fun _ _ => ?_).trans ?_ <;> (repeat' split) <;> simp (maxDischargeDepth := 9) only [↓State.modTally_mask, ↓State.mask_ite, ite_self, implies_true, ↓State.mask_forAll, h0]; done)

theorem State.finishFlush_mask (k : Part → Bool) (s : State) (h0 : k .tally = false) :
    (State.finishFlush s).mask k = s.mask k := by
  unfold State.finishFlush
  first
    | (simp (maxDischargeDepth := 9) only [↓State.runFlushes_mask, ↓State.mask_ite, ite_self, implies_true, h0]; done)
    | ((try dsimp only); (repeat' split) <;> first | (simp (maxDischargeDepth := 9) only [↓State.runFlushes_mask, ↓State.mask_ite, ite_self, implies_true, h0]; done) | (simp_all (maxDischargeDepth := 9) only [↓State.runFlushes_mask, ↓State.mask_ite, ite_self, implies_true, h0]; done))

theorem State.saveHalt_mask (k : Part → Bool) (s : State) (h0 : k .eng = false) (h1 : k .axes = false) :
    (State.saveHalt s).mask k = s.mask k := by
  unfold State.saveHalt
  first
    | (simp (maxDischargeDepth := 9) only [↓State.saveRetain_mask, ↓State.mask_with_eng, ↓State.mask_with_axes, ↓State.mask_ite, ite_self, implies_true, h0, h1]; done)
    | ((try dsimp only); (repeat' split) <;> first | (simp (maxDischargeDepth := 9) only [↓State.saveRetain_mask, ↓State.mask_with_eng, ↓State.mask_with_axes, ↓State.mask_ite, ite_self, implies_true, h0, h1]; done) | (simp_all (maxDischargeDepth := 9) only [↓State.saveRetain_mask, ↓State.mask_with_eng, ↓State.mask_with_axes, ↓State.mask_ite, ite_self, implies_true, h0, h1]; done))
    | (simp only [State.mask, Bool.false_eq_true, ↓reduceIte, h0, h1]; done)
    | (simp (maxDischargeDepth := 9) only [↓State.saveRetain_mask, ↓State.mask_with_eng, ↓State.mask_with_axes, ↓State.mask_ite, ite_self, implies_true, h0, h1]; simp only [State.mask, Bool.false_eq_true, ↓reduceIte, h0, h1]; done)

theorem State.linesLow_mask (k : Part → Bool) (s : State) (h0 : k .axes = false) (h1 : k .portals = false) :
    (State.linesLow s).mask k = s.mask k := by
  unfold State.linesLow
  first
    | (simp (maxDischargeDepth := 9) only [↓State.mask_with_axes, ↓State.mask_with_portals, ↓State.mask_ite, ite_self, implies_true, h0, h1]; done)
    | ((try dsimp only); (repeat' split) <;> first | (simp (maxDischargeDepth := 9) only [↓State.mask_with_axes, ↓State.mask_with_portals, ↓State.mask_ite, ite_self, implies_true, h0, h1]; done) | (simp_all (maxDischargeDepth := 9) only [↓State.mask_with_axes, ↓State.mask_with_portals, ↓State.mask_ite, ite_self, implies_true, h0, h1]; done))
    | (simp only [State.mask, Bool.false_eq_true, ↓reduceIte, h0, h1]; done)
    | (simp (maxDischargeDepth := 9) only [↓State.mask_with_axes, ↓State.mask_with_portals, ↓State.mask_ite, ite_self, implies_true, h0, h1]; simp only [State.mask, Bool.false_eq_true, ↓reduceIte, h0, h1]; done)

theorem State.undriven_mask (k : Part → Bool) (s : State) (h0 : k .boot = false) :
    (State.undriven s).mask k = s.mask k := by
  unfold State.undriven
  first
    | (simp (maxDischargeDepth := 9) only [↓State.mask_with_boot, ↓State.mask_ite, ite_self, implies_true, h0]; done)
    | ((try dsimp only); (repeat' split) <;> first | (simp (maxDischargeDepth := 9) only [↓State.mask_with_boot, ↓State.mask_ite, ite_self, implies_true, h0]; done) | (simp_all (maxDischargeDepth := 9) only [↓State.mask_with_boot, ↓State.mask_ite, ite_self, implies_true, h0]; done))
    | (simp only [State.mask, Bool.false_eq_true, ↓reduceIte, h0]; done)
    | (simp (maxDischargeDepth := 9) only [↓State.mask_with_boot, ↓State.mask_ite, ite_self, implies_true, h0]; simp only [State.mask, Bool.false_eq_true, ↓reduceIte, h0]; done)

theorem State.safetyStop_mask (k : Part → Bool) (s : State) (h0 : k .sde = false) (h1 : k .safe = false) :
    (State.safetyStop s).mask k = s.mask k := by
  unfold State.safetyStop
  first
    | (simp (maxDischargeDepth := 9) only [↓State.mask_with_sde, ↓State.mask_with_safe, ↓State.mask_ite, ite_self, implies_true, h0, h1]; done)
    | ((try dsimp only); (repeat' split) <;> first | (simp (maxDischargeDepth := 9) only [↓State.mask_with_sde, ↓State.mask_with_safe, ↓State.mask_ite, ite_self, implies_true, h0, h1]; done) | (simp_all (maxDischargeDepth := 9) only [↓State.mask_with_sde, ↓State.mask_with_safe, ↓State.mask_ite, ite_self, implies_true, h0, h1]; done))
    | (simp only [State.mask, Bool.false_eq_true, ↓reduceIte, h0, h1]; done)
    | (simp (maxDischargeDepth := 9) only [↓State.mask_with_sde, ↓State.mask_with_safe, ↓State.mask_ite, ite_self, implies_true, h0, h1]; simp only [State.mask, Bool.false_eq_true, ↓reduceIte, h0, h1]; done)

theorem State.finishWrites_mask (k : Part → Bool) (s : State) (h0 : k .fab = false) (h1 : k .tally = false) (h2 : k .jnl = false) (h3 : k .sent = false) (h4 : k .freeSeq = false) :
    (State.finishWrites s).mask k = s.mask k := by
  unfold State.finishWrites
  first
    | (simp (maxDischargeDepth := 9) only [↓State.writeDone_mask, ↓State.mask_ite, ite_self, implies_true, ↓State.mask_forAll, h0, h1, h2, h3, h4]; done)
    | ((try dsimp only); (repeat' split) <;> first | (simp (maxDischargeDepth := 9) only [↓State.writeDone_mask, ↓State.mask_ite, ite_self, implies_true, ↓State.mask_forAll, h0, h1, h2, h3, h4]; done) | (simp_all (maxDischargeDepth := 9) only [↓State.writeDone_mask, ↓State.mask_ite, ite_self, implies_true, ↓State.mask_forAll, h0, h1, h2, h3, h4]; done))
    | ((try dsimp only); refine State.mask_forAll _ _ _ _ fun _ _ => ?_; (repeat' split) <;> simp (maxDischargeDepth := 9) only [↓State.writeDone_mask, ↓State.mask_ite, ite_self, implies_true, ↓State.mask_forAll, h0, h1, h2, h3, h4]; done)
    | ((try dsimp only); refine (State.mask_forAll _ _ _ _ fun _ _ => ?_).trans ?_ <;> (repeat' split) <;> simp (maxDischargeDepth := 9) only [↓State.writeDone_mask, ↓State.mask_ite, ite_self, implies_true, ↓State.mask_forAll, h0, h1, h2, h3, h4]; done)

theorem State.sleepDown_mask (k : Part → Bool) (s : State) (h0 : k .pwr = false) (h1 : k .boot = false) :
    (State.sleepDown s).mask k = s.mask k := by
  unfold State.sleepDown
  first
    | (simp (maxDischargeDepth := 9) only [↓State.mask_with_pwr, ↓State.mask_with_boot, ↓State.mask_ite, ite_self, implies_true, h0, h1]; done)
    | ((try dsimp only); (repeat' split) <;> first | (simp (maxDischargeDepth := 9) only [↓State.mask_with_pwr, ↓State.mask_with_boot, ↓State.mask_ite, ite_self, implies_true, h0, h1]; done) | (simp_all (maxDischargeDepth := 9) only [↓State.mask_with_pwr, ↓State.mask_with_boot, ↓State.mask_ite, ite_self, implies_true, h0, h1]; done))
    | (simp only [State.mask, Bool.false_eq_true, ↓reduceIte, h0, h1]; done)
    | (simp (maxDischargeDepth := 9) only [↓State.mask_with_pwr, ↓State.mask_with_boot, ↓State.mask_ite, ite_self, implies_true, h0, h1]; simp only [State.mask, Bool.false_eq_true, ↓reduceIte, h0, h1]; done)

theorem State.sleepEnter_mask (k : Part → Bool) (s : State) (h0 : k .fab = false) (h1 : k .mem = false) (h2 : k .eng = false) (h3 : k .tally = false) (h4 : k .axes = false) (h5 : k .portals = false) (h6 : k .fel = false) (h7 : k .sde = false) (h8 : k .ls = false) (h9 : k .lsg = false) (h10 : k .kerf = false) (h11 : k .fio = false) (h12 : k .safe = false) (h13 : k .jnl = false) (h14 : k .lnd = false) (h15 : k .tru = false) (h16 : k .pwr = false) (h17 : k .boot = false) (h18 : k .sent = false) (h19 : k .freeSeq = false) :
    (State.sleepEnter s).mask k = s.mask k := by
  unfold State.sleepEnter
  first
    | (simp (maxDischargeDepth := 9) only [↓State.modPwrReg_mask, ↓State.flush_mask, ↓State.modJnl_mask, ↓State.enterStop_mask, ↓State.endSessions_mask, ↓State.headsOff_mask, ↓State.bridgesOffAll_mask, ↓State.outputsOff_mask, ↓State.finishFlush_mask, ↓State.saveHalt_mask, ↓State.linesLow_mask, ↓State.undriven_mask, ↓State.safetyStop_mask, ↓State.finishWrites_mask, ↓State.sleepDown_mask, ↓State.mask_ite, ite_self, implies_true, h0, h1, h2, h3, h4, h5, h6, h7, h8, h9, h10, h11, h12, h13, h14, h15, h16, h17, h18, h19]; done)
    | ((try dsimp only); (repeat' split) <;> first | (simp (maxDischargeDepth := 9) only [↓State.modPwrReg_mask, ↓State.flush_mask, ↓State.modJnl_mask, ↓State.enterStop_mask, ↓State.endSessions_mask, ↓State.headsOff_mask, ↓State.bridgesOffAll_mask, ↓State.outputsOff_mask, ↓State.finishFlush_mask, ↓State.saveHalt_mask, ↓State.linesLow_mask, ↓State.undriven_mask, ↓State.safetyStop_mask, ↓State.finishWrites_mask, ↓State.sleepDown_mask, ↓State.mask_ite, ite_self, implies_true, h0, h1, h2, h3, h4, h5, h6, h7, h8, h9, h10, h11, h12, h13, h14, h15, h16, h17, h18, h19]; done) | (simp_all (maxDischargeDepth := 9) only [↓State.modPwrReg_mask, ↓State.flush_mask, ↓State.modJnl_mask, ↓State.enterStop_mask, ↓State.endSessions_mask, ↓State.headsOff_mask, ↓State.bridgesOffAll_mask, ↓State.outputsOff_mask, ↓State.finishFlush_mask, ↓State.saveHalt_mask, ↓State.linesLow_mask, ↓State.undriven_mask, ↓State.safetyStop_mask, ↓State.finishWrites_mask, ↓State.sleepDown_mask, ↓State.mask_ite, ite_self, implies_true, h0, h1, h2, h3, h4, h5, h6, h7, h8, h9, h10, h11, h12, h13, h14, h15, h16, h17, h18, h19]; done))

theorem State.commandIn_mask (k : Part → Bool) (s : State) (c : JCmd) (h0 : k .jnl = false) (h1 : k .sent = false) (h2 : k .freeSeq = false) :
    (State.commandIn s c).mask k = s.mask k := by
  unfold State.commandIn
  first
    | (simp (maxDischargeDepth := 9) only [↓State.nak_mask, ↓State.judgeCommand_mask, ↓State.mask_ite, ite_self, implies_true, h0, h1, h2]; done)
    | ((try dsimp only); (repeat' split) <;> first | (simp (maxDischargeDepth := 9) only [↓State.nak_mask, ↓State.judgeCommand_mask, ↓State.mask_ite, ite_self, implies_true, h0, h1, h2]; done) | (simp_all (maxDischargeDepth := 9) only [↓State.nak_mask, ↓State.judgeCommand_mask, ↓State.mask_ite, ite_self, implies_true, h0, h1, h2]; done))

theorem State.sleepRequest_mask (k : Part → Bool) (s : State) (h0 : k .fab = false) (h1 : k .mem = false) (h2 : k .eng = false) (h3 : k .tally = false) (h4 : k .axes = false) (h5 : k .portals = false) (h6 : k .fel = false) (h7 : k .sde = false) (h8 : k .ls = false) (h9 : k .lsg = false) (h10 : k .kerf = false) (h11 : k .fio = false) (h12 : k .safe = false) (h13 : k .jnl = false) (h14 : k .lnd = false) (h15 : k .tru = false) (h16 : k .pwr = false) (h17 : k .boot = false) (h18 : k .sent = false) (h19 : k .freeSeq = false) :
    (State.sleepRequest s).mask k = s.mask k := by
  unfold State.sleepRequest
  first
    | (simp (maxDischargeDepth := 9) only [↓State.modPwrReg_mask, ↓State.sleepEnter_mask, ↓State.mask_ite, ite_self, implies_true, h0, h1, h2, h3, h4, h5, h6, h7, h8, h9, h10, h11, h12, h13, h14, h15, h16, h17, h18, h19]; done)
    | ((try dsimp only); (repeat' split) <;> first | (simp (maxDischargeDepth := 9) only [↓State.modPwrReg_mask, ↓State.sleepEnter_mask, ↓State.mask_ite, ite_self, implies_true, h0, h1, h2, h3, h4, h5, h6, h7, h8, h9, h10, h11, h12, h13, h14, h15, h16, h17, h18, h19]; done) | (simp_all (maxDischargeDepth := 9) only [↓State.modPwrReg_mask, ↓State.sleepEnter_mask, ↓State.mask_ite, ite_self, implies_true, h0, h1, h2, h3, h4, h5, h6, h7, h8, h9, h10, h11, h12, h13, h14, h15, h16, h17, h18, h19]; done))

theorem State.sleepCancel_mask (k : Part → Bool) (s : State) (h0 : k .pwr = false) :
    (State.sleepCancel s).mask k = s.mask k := by
  unfold State.sleepCancel
  first
    | (simp (maxDischargeDepth := 9) only [↓State.modPwrReg_mask, ↓State.mask_ite, ite_self, implies_true, h0]; done)
    | ((try dsimp only); (repeat' split) <;> first | (simp (maxDischargeDepth := 9) only [↓State.modPwrReg_mask, ↓State.mask_ite, ite_self, implies_true, h0]; done) | (simp_all (maxDischargeDepth := 9) only [↓State.modPwrReg_mask, ↓State.mask_ite, ite_self, implies_true, h0]; done))

theorem State.powerFail_mask (k : Part → Bool) (s : State) (len : BitVec 16) (h0 : k .fab = false) (h1 : k .mem = false) (h2 : k .eng = false) (h3 : k .tally = false) (h4 : k .axes = false) (h5 : k .portals = false) (h6 : k .fel = false) (h7 : k .sde = false) (h8 : k .ls = false) (h9 : k .lsg = false) (h10 : k .kerf = false) (h11 : k .fio = false) (h12 : k .safe = false) (h13 : k .jnl = false) (h14 : k .lnd = false) (h15 : k .tru = false) (h16 : k .pwr = false) (h17 : k .boot = false) (h18 : k .sent = false) (h19 : k .freeSeq = false) :
    (State.powerFail s len).mask k = s.mask k := by
  unfold State.powerFail
  first
    | (simp (maxDischargeDepth := 9) only [↓State.modPwr_mask, ↓State.modPwrReg_mask, ↓State.flush_mask, ↓State.stopAxis_mask, ↓State.modJnl_mask, ↓State.enterStop_mask, ↓State.endSessions_mask, ↓State.headsOff_mask, ↓State.bridgesOffAll_mask, ↓State.outputsOff_mask, ↓State.finishFlush_mask, ↓State.saveHalt_mask, ↓State.linesLow_mask, ↓State.undriven_mask, ↓State.safetyStop_mask, ↓State.finishWrites_mask, ↓State.mask_with_fab, ↓State.mask_with_mem, ↓State.mask_with_eng, ↓State.mask_with_tally, ↓State.mask_with_axes, ↓State.mask_with_portals, ↓State.mask_with_fel, ↓State.mask_with_sde, ↓State.mask_with_ls, ↓State.mask_with_lsg, ↓State.mask_with_kerf, ↓State.mask_with_fio, ↓State.mask_with_safe, ↓State.mask_with_jnl, ↓State.mask_with_lnd, ↓State.mask_with_tru, ↓State.mask_with_pwr, ↓State.mask_with_boot, ↓State.mask_with_sent, ↓State.mask_with_freeSeq, ↓State.mask_ite, ite_self, implies_true, ↓State.mask_forAll, h0, h1, h2, h3, h4, h5, h6, h7, h8, h9, h10, h11, h12, h13, h14, h15, h16, h17, h18, h19]; done)
    | ((try dsimp only); (repeat' split) <;> first | (simp (maxDischargeDepth := 9) only [↓State.modPwr_mask, ↓State.modPwrReg_mask, ↓State.flush_mask, ↓State.stopAxis_mask, ↓State.modJnl_mask, ↓State.enterStop_mask, ↓State.endSessions_mask, ↓State.headsOff_mask, ↓State.bridgesOffAll_mask, ↓State.outputsOff_mask, ↓State.finishFlush_mask, ↓State.saveHalt_mask, ↓State.linesLow_mask, ↓State.undriven_mask, ↓State.safetyStop_mask, ↓State.finishWrites_mask, ↓State.mask_with_fab, ↓State.mask_with_mem, ↓State.mask_with_eng, ↓State.mask_with_tally, ↓State.mask_with_axes, ↓State.mask_with_portals, ↓State.mask_with_fel, ↓State.mask_with_sde, ↓State.mask_with_ls, ↓State.mask_with_lsg, ↓State.mask_with_kerf, ↓State.mask_with_fio, ↓State.mask_with_safe, ↓State.mask_with_jnl, ↓State.mask_with_lnd, ↓State.mask_with_tru, ↓State.mask_with_pwr, ↓State.mask_with_boot, ↓State.mask_with_sent, ↓State.mask_with_freeSeq, ↓State.mask_ite, ite_self, implies_true, ↓State.mask_forAll, h0, h1, h2, h3, h4, h5, h6, h7, h8, h9, h10, h11, h12, h13, h14, h15, h16, h17, h18, h19]; done) | (simp_all (maxDischargeDepth := 9) only [↓State.modPwr_mask, ↓State.modPwrReg_mask, ↓State.flush_mask, ↓State.stopAxis_mask, ↓State.modJnl_mask, ↓State.enterStop_mask, ↓State.endSessions_mask, ↓State.headsOff_mask, ↓State.bridgesOffAll_mask, ↓State.outputsOff_mask, ↓State.finishFlush_mask, ↓State.saveHalt_mask, ↓State.linesLow_mask, ↓State.undriven_mask, ↓State.safetyStop_mask, ↓State.finishWrites_mask, ↓State.mask_with_fab, ↓State.mask_with_mem, ↓State.mask_with_eng, ↓State.mask_with_tally, ↓State.mask_with_axes, ↓State.mask_with_portals, ↓State.mask_with_fel, ↓State.mask_with_sde, ↓State.mask_with_ls, ↓State.mask_with_lsg, ↓State.mask_with_kerf, ↓State.mask_with_fio, ↓State.mask_with_safe, ↓State.mask_with_jnl, ↓State.mask_with_lnd, ↓State.mask_with_tru, ↓State.mask_with_pwr, ↓State.mask_with_boot, ↓State.mask_with_sent, ↓State.mask_with_freeSeq, ↓State.mask_ite, ite_self, implies_true, ↓State.mask_forAll, h0, h1, h2, h3, h4, h5, h6, h7, h8, h9, h10, h11, h12, h13, h14, h15, h16, h17, h18, h19]; done))
    | (simp only [State.mask, Bool.false_eq_true, ↓reduceIte, h0, h1, h2, h3, h4, h5, h6, h7, h8, h9, h10, h11, h12, h13, h14, h15, h16, h17, h18, h19]; done)
    | (simp (maxDischargeDepth := 9) only [↓State.modPwr_mask, ↓State.modPwrReg_mask, ↓State.flush_mask, ↓State.stopAxis_mask, ↓State.modJnl_mask, ↓State.enterStop_mask, ↓State.endSessions_mask, ↓State.headsOff_mask, ↓State.bridgesOffAll_mask, ↓State.outputsOff_mask, ↓State.finishFlush_mask, ↓State.saveHalt_mask, ↓State.linesLow_mask, ↓State.undriven_mask, ↓State.safetyStop_mask, ↓State.finishWrites_mask, ↓State.mask_with_fab, ↓State.mask_with_mem, ↓State.mask_with_eng, ↓State.mask_with_tally, ↓State.mask_with_axes, ↓State.mask_with_portals, ↓State.mask_with_fel, ↓State.mask_with_sde, ↓State.mask_with_ls, ↓State.mask_with_lsg, ↓State.mask_with_kerf, ↓State.mask_with_fio, ↓State.mask_with_safe, ↓State.mask_with_jnl, ↓State.mask_with_lnd, ↓State.mask_with_tru, ↓State.mask_with_pwr, ↓State.mask_with_boot, ↓State.mask_with_sent, ↓State.mask_with_freeSeq, ↓State.mask_ite, ite_self, implies_true, ↓State.mask_forAll, h0, h1, h2, h3, h4, h5, h6, h7, h8, h9, h10, h11, h12, h13, h14, h15, h16, h17, h18, h19]; simp only [State.mask, Bool.false_eq_true, ↓reduceIte, h0, h1, h2, h3, h4, h5, h6, h7, h8, h9, h10, h11, h12, h13, h14, h15, h16, h17, h18, h19]; done)
    | ((try dsimp only); refine State.mask_forAll _ _ _ _ fun _ _ => ?_; (repeat' split) <;> simp (maxDischargeDepth := 9) only [↓State.modPwr_mask, ↓State.modPwrReg_mask, ↓State.flush_mask, ↓State.stopAxis_mask, ↓State.modJnl_mask, ↓State.enterStop_mask, ↓State.endSessions_mask, ↓State.headsOff_mask, ↓State.bridgesOffAll_mask, ↓State.outputsOff_mask, ↓State.finishFlush_mask, ↓State.saveHalt_mask, ↓State.linesLow_mask, ↓State.undriven_mask, ↓State.safetyStop_mask, ↓State.finishWrites_mask, ↓State.mask_with_fab, ↓State.mask_with_mem, ↓State.mask_with_eng, ↓State.mask_with_tally, ↓State.mask_with_axes, ↓State.mask_with_portals, ↓State.mask_with_fel, ↓State.mask_with_sde, ↓State.mask_with_ls, ↓State.mask_with_lsg, ↓State.mask_with_kerf, ↓State.mask_with_fio, ↓State.mask_with_safe, ↓State.mask_with_jnl, ↓State.mask_with_lnd, ↓State.mask_with_tru, ↓State.mask_with_pwr, ↓State.mask_with_boot, ↓State.mask_with_sent, ↓State.mask_with_freeSeq, ↓State.mask_ite, ite_self, implies_true, ↓State.mask_forAll, h0, h1, h2, h3, h4, h5, h6, h7, h8, h9, h10, h11, h12, h13, h14, h15, h16, h17, h18, h19]; done)
    | ((try dsimp only); refine (State.mask_forAll _ _ _ _ fun _ _ => ?_).trans ?_ <;> (repeat' split) <;> simp (maxDischargeDepth := 9) only [↓State.modPwr_mask, ↓State.modPwrReg_mask, ↓State.flush_mask, ↓State.stopAxis_mask, ↓State.modJnl_mask, ↓State.enterStop_mask, ↓State.endSessions_mask, ↓State.headsOff_mask, ↓State.bridgesOffAll_mask, ↓State.outputsOff_mask, ↓State.finishFlush_mask, ↓State.saveHalt_mask, ↓State.linesLow_mask, ↓State.undriven_mask, ↓State.safetyStop_mask, ↓State.finishWrites_mask, ↓State.mask_with_fab, ↓State.mask_with_mem, ↓State.mask_with_eng, ↓State.mask_with_tally, ↓State.mask_with_axes, ↓State.mask_with_portals, ↓State.mask_with_fel, ↓State.mask_with_sde, ↓State.mask_with_ls, ↓State.mask_with_lsg, ↓State.mask_with_kerf, ↓State.mask_with_fio, ↓State.mask_with_safe, ↓State.mask_with_jnl, ↓State.mask_with_lnd, ↓State.mask_with_tru, ↓State.mask_with_pwr, ↓State.mask_with_boot, ↓State.mask_with_sent, ↓State.mask_with_freeSeq, ↓State.mask_ite, ite_self, implies_true, ↓State.mask_forAll, h0, h1, h2, h3, h4, h5, h6, h7, h8, h9, h10, h11, h12, h13, h14, h15, h16, h17, h18, h19]; done)

end Sys2Proof.Machine
end

