-- ==== Sys2Proof/Laws/FrameBusRead.lean ====
section
/-! SUPPORT. What each operation of Machine/BusRead.lean can change: it keeps every part of the state that it is not named to change. -/

set_option linter.unusedSimpArgs false

namespace Sys2Proof.Machine

theorem State.modMbox_mask (k : Part → Bool) (s : State) (m : Fin 64) (f : Mailbox → Mailbox) (h0 : k .net = false) :
    (State.modMbox s m f).mask k = s.mask k := by
  unfold State.modMbox
  first
    | (simp (maxDischargeDepth := 9) only [↓State.mask_with_net, ↓State.mask_ite, ite_self, implies_true, h0]; done)
    | ((try dsimp only); (repeat' split) <;> first | (simp (maxDischargeDepth := 9) only [↓State.mask_with_net, ↓State.mask_ite, ite_self, implies_true, h0]; done) | (simp_all (maxDischargeDepth := 9) only [↓State.mask_with_net, ↓State.mask_ite, ite_self, implies_true, h0]; done))
    | (simp only [State.mask, Bool.false_eq_true, ↓reduceIte, h0]; done)
    | (simp (maxDischargeDepth := 9) only [↓State.mask_with_net, ↓State.mask_ite, ite_self, implies_true, h0]; simp only [State.mask, Bool.false_eq_true, ↓reduceIte, h0]; done)

theorem State.touch_mask (k : Part → Bool) (s : State) (req a : Nat) (m : Word) (h0 : k .latch = false) (h1 : k .fio = false) (h2 : k .net = false) (h3 : k .freeSeq = false) :
    (State.touch s req a m).mask k = s.mask k := by
  unfold State.touch
  first
    | (simp (maxDischargeDepth := 9) only [↓State.usedN_mask, ↓State.latchPut_mask, ↓State.takeEdge_mask, ↓State.modMbox_mask, ↓State.mask_ite, ite_self, implies_true, h0, h1, h2, h3]; done)
    | ((try dsimp only); (repeat' split) <;> first | (simp (maxDischargeDepth := 9) only [↓State.usedN_mask, ↓State.latchPut_mask, ↓State.takeEdge_mask, ↓State.modMbox_mask, ↓State.mask_ite, ite_self, implies_true, h0, h1, h2, h3]; done) | (simp_all (maxDischargeDepth := 9) only [↓State.usedN_mask, ↓State.latchPut_mask, ↓State.takeEdge_mask, ↓State.modMbox_mask, ↓State.mask_ite, ite_self, implies_true, h0, h1, h2, h3]; done))

end Sys2Proof.Machine
end

