-- ==== Sys2Proof/Laws/FrameControl.lean ====
section
/-! SUPPORT. What each operation of Machine/Control.lean can change: it keeps every part of the state that it is not named to change. -/

set_option linter.unusedSimpArgs false

namespace Sys2Proof.Machine

theorem State.toStep_mask (k : Part → Bool) (s : State) (x : AxisIx) (n t : Nat) (h0 : k .mono = false) :
    (State.toStep s x n t).mask k = s.mask k := by
  unfold State.toStep
  first
    | (simp (maxDischargeDepth := 9) only [↓State.upTo_mask, ↓State.mask_ite, ite_self, implies_true, h0]; done)
    | ((try dsimp only); (repeat' split) <;> first | (simp (maxDischargeDepth := 9) only [↓State.upTo_mask, ↓State.mask_ite, ite_self, implies_true, h0]; done) | (simp_all (maxDischargeDepth := 9) only [↓State.upTo_mask, ↓State.mask_ite, ite_self, implies_true, h0]; done))

theorem execCurrentLoopStep_mask (k : Part → Bool) (x : AxisIx) (iu iv iw : BitVec 16) (s : State) (h0 : k .mono = false) (h1 : k .axes = false) (h2 : k .freeSeq = false) :
    (stateOf s (execCurrentLoopStep x iu iv iw s)).mask k = s.mask k := by
  unfold execCurrentLoopStep
  first
    | (simp (maxDischargeDepth := 9) only [↓State.modAxis_mask, ↓State.used_mask, ↓State.envCut_mask, ↓State.rmsLimit_mask, ↓State.toStep_mask, ↓stateOf_next, ↓stateOf_ite, ↓State.mask_ite, ite_self, implies_true, h0, h1, h2]; done)
    | ((try dsimp only); (repeat' split) <;> first | (simp (maxDischargeDepth := 9) only [↓State.modAxis_mask, ↓State.used_mask, ↓State.envCut_mask, ↓State.rmsLimit_mask, ↓State.toStep_mask, ↓stateOf_next, ↓stateOf_ite, ↓State.mask_ite, ite_self, implies_true, h0, h1, h2]; done) | (simp_all (maxDischargeDepth := 9) only [↓State.modAxis_mask, ↓State.used_mask, ↓State.envCut_mask, ↓State.rmsLimit_mask, ↓State.toStep_mask, ↓stateOf_next, ↓stateOf_ite, ↓State.mask_ite, ite_self, implies_true, h0, h1, h2]; done))

theorem execSpeedLoopStep_mask (k : Part → Bool) (x : AxisIx) (s : State) (h0 : k .mono = false) (h1 : k .tally = false) (h2 : k .axes = false) (h3 : k .portals = false) :
    (stateOf s (execSpeedLoopStep x s)).mask k = s.mask k := by
  unfold execSpeedLoopStep
  first
    | (simp (maxDischargeDepth := 9) only [↓State.modAxis_mask, ↓State.fbRelease_mask, ↓State.forcePeak_mask, ↓State.envelope_mask, ↓State.toStep_mask, ↓stateOf_next, ↓stateOf_ite, ↓State.mask_ite, ite_self, implies_true, h0, h1, h2, h3]; done)
    | ((try dsimp only); (repeat' split) <;> first | (simp (maxDischargeDepth := 9) only [↓State.modAxis_mask, ↓State.fbRelease_mask, ↓State.forcePeak_mask, ↓State.envelope_mask, ↓State.toStep_mask, ↓stateOf_next, ↓stateOf_ite, ↓State.mask_ite, ite_self, implies_true, h0, h1, h2, h3]; done) | (simp_all (maxDischargeDepth := 9) only [↓State.modAxis_mask, ↓State.fbRelease_mask, ↓State.forcePeak_mask, ↓State.envelope_mask, ↓State.toStep_mask, ↓stateOf_next, ↓stateOf_ite, ↓State.mask_ite, ite_self, implies_true, h0, h1, h2, h3]; done))

theorem execPositionLoopStep_mask (k : Part → Bool) (x : AxisIx) (s : State) (h0 : k .mono = false) (h1 : k .axes = false) (h2 : k .portals = false) :
    (stateOf s (execPositionLoopStep x s)).mask k = s.mask k := by
  unfold execPositionLoopStep
  first
    | (simp (maxDischargeDepth := 9) only [↓State.modAxis_mask, ↓State.stopAxis_mask, ↓State.toStep_mask, ↓stateOf_next, ↓stateOf_ite, ↓State.mask_ite, ite_self, implies_true, h0, h1, h2]; done)
    | ((try dsimp only); (repeat' split) <;> first | (simp (maxDischargeDepth := 9) only [↓State.modAxis_mask, ↓State.stopAxis_mask, ↓State.toStep_mask, ↓stateOf_next, ↓stateOf_ite, ↓State.mask_ite, ite_self, implies_true, h0, h1, h2]; done) | (simp_all (maxDischargeDepth := 9) only [↓State.modAxis_mask, ↓State.stopAxis_mask, ↓State.toStep_mask, ↓stateOf_next, ↓stateOf_ite, ↓State.mask_ite, ite_self, implies_true, h0, h1, h2]; done))

theorem execOvercurrentComparator_mask (k : Part → Bool) (x : AxisIx) (s : State) (h0 : k .axes = false) :
    (stateOf s (execOvercurrentComparator x s)).mask k = s.mask k := by
  unfold execOvercurrentComparator
  first
    | (simp (maxDischargeDepth := 9) only [↓State.envCut_mask, ↓stateOf_next, ↓stateOf_ite, ↓State.mask_ite, ite_self, implies_true, h0]; done)
    | ((try dsimp only); (repeat' split) <;> first | (simp (maxDischargeDepth := 9) only [↓State.envCut_mask, ↓stateOf_next, ↓stateOf_ite, ↓State.mask_ite, ite_self, implies_true, h0]; done) | (simp_all (maxDischargeDepth := 9) only [↓State.envCut_mask, ↓stateOf_next, ↓stateOf_ite, ↓State.mask_ite, ite_self, implies_true, h0]; done))

theorem execStageOvertemp_mask (k : Part → Bool) (x : AxisIx) (t : BitVec 8) (s : State) (h0 : k .axes = false) :
    (stateOf s (execStageOvertemp x t s)).mask k = s.mask k := by
  unfold execStageOvertemp
  first
    | (simp (maxDischargeDepth := 9) only [↓State.modAxis_mask, ↓State.envCut_mask, ↓stateOf_next, ↓stateOf_ite, ↓State.mask_ite, ite_self, implies_true, h0]; done)
    | ((try dsimp only); (repeat' split) <;> first | (simp (maxDischargeDepth := 9) only [↓State.modAxis_mask, ↓State.envCut_mask, ↓stateOf_next, ↓stateOf_ite, ↓State.mask_ite, ite_self, implies_true, h0]; done) | (simp_all (maxDischargeDepth := 9) only [↓State.modAxis_mask, ↓State.envCut_mask, ↓stateOf_next, ↓stateOf_ite, ↓State.mask_ite, ite_self, implies_true, h0]; done))

theorem execCalibrationStart_mask (k : Part → Bool) (s : State) (h0 : k .axes = false) :
    (stateOf s (execCalibrationStart s)).mask k = s.mask k := by
  unfold execCalibrationStart
  first
    | (simp (maxDischargeDepth := 9) only [↓State.calStart_mask, ↓stateOf_next, ↓stateOf_ite, ↓State.mask_ite, ite_self, implies_true, ↓State.mask_forAll, h0]; done)
    | ((try dsimp only); (repeat' split) <;> first | (simp (maxDischargeDepth := 9) only [↓State.calStart_mask, ↓stateOf_next, ↓stateOf_ite, ↓State.mask_ite, ite_self, implies_true, ↓State.mask_forAll, h0]; done) | (simp_all (maxDischargeDepth := 9) only [↓State.calStart_mask, ↓stateOf_next, ↓stateOf_ite, ↓State.mask_ite, ite_self, implies_true, ↓State.mask_forAll, h0]; done))
    | ((try dsimp only); refine State.mask_forAll _ _ _ _ fun _ _ => ?_; (repeat' split) <;> simp (maxDischargeDepth := 9) only [↓State.calStart_mask, ↓stateOf_next, ↓stateOf_ite, ↓State.mask_ite, ite_self, implies_true, ↓State.mask_forAll, h0]; done)
    | ((try dsimp only); refine (State.mask_forAll _ _ _ _ fun _ _ => ?_).trans ?_ <;> (repeat' split) <;> simp (maxDischargeDepth := 9) only [↓State.calStart_mask, ↓stateOf_next, ↓stateOf_ite, ↓State.mask_ite, ite_self, implies_true, ↓State.mask_forAll, h0]; done)

theorem execCalibrationComplete_mask (k : Part → Bool) (x : AxisIx) (mu mv mw : BitVec 16) (s : State) (h0 : k .mono = false) (h1 : k .tally = false) (h2 : k .axes = false) :
    (stateOf s (execCalibrationComplete x mu mv mw s)).mask k = s.mask k := by
  unfold execCalibrationComplete
  first
    | (simp (maxDischargeDepth := 9) only [↓State.modAxis_mask, ↓State.upTo_mask, ↓State.event_mask, ↓State.bridgeEval_mask, ↓stateOf_next, ↓stateOf_ite, ↓State.mask_ite, ite_self, implies_true, h0, h1, h2]; done)
    | ((try dsimp only); (repeat' split) <;> first | (simp (maxDischargeDepth := 9) only [↓State.modAxis_mask, ↓State.upTo_mask, ↓State.event_mask, ↓State.bridgeEval_mask, ↓stateOf_next, ↓stateOf_ite, ↓State.mask_ite, ite_self, implies_true, h0, h1, h2]; done) | (simp_all (maxDischargeDepth := 9) only [↓State.modAxis_mask, ↓State.upTo_mask, ↓State.event_mask, ↓State.bridgeEval_mask, ↓stateOf_next, ↓stateOf_ite, ↓State.mask_ite, ite_self, implies_true, h0, h1, h2]; done))

theorem execFmapClear_mask (k : Part → Bool) (x : AxisIx) (s : State) (h0 : k .axes = false) :
    (stateOf s (execFmapClear x s)).mask k = s.mask k := by
  unfold execFmapClear
  first
    | (simp (maxDischargeDepth := 9) only [↓State.modAxis_mask, ↓stateOf_next, ↓stateOf_ite, ↓State.mask_ite, ite_self, implies_true, h0]; done)
    | ((try dsimp only); (repeat' split) <;> first | (simp (maxDischargeDepth := 9) only [↓State.modAxis_mask, ↓stateOf_next, ↓stateOf_ite, ↓State.mask_ite, ite_self, implies_true, h0]; done) | (simp_all (maxDischargeDepth := 9) only [↓State.modAxis_mask, ↓stateOf_next, ↓stateOf_ite, ↓State.mask_ite, ite_self, implies_true, h0]; done))

theorem execCalReq_mask (k : Part → Bool) (x : AxisIx) (s : State) (h0 : k .tally = false) (h1 : k .axes = false) :
    (stateOf s (execCalReq x s)).mask k = s.mask k := by
  unfold execCalReq
  first
    | (simp (maxDischargeDepth := 9) only [↓State.calRequest_mask, ↓stateOf_next, ↓stateOf_ite, ↓State.mask_ite, ite_self, implies_true, h0, h1]; done)
    | ((try dsimp only); (repeat' split) <;> first | (simp (maxDischargeDepth := 9) only [↓State.calRequest_mask, ↓stateOf_next, ↓stateOf_ite, ↓State.mask_ite, ite_self, implies_true, h0, h1]; done) | (simp_all (maxDischargeDepth := 9) only [↓State.calRequest_mask, ↓stateOf_next, ↓stateOf_ite, ↓State.mask_ite, ite_self, implies_true, h0, h1]; done))

end Sys2Proof.Machine
end

