-- ==== Sys2Proof/Laws/FrameMotion.lean ====
section
/-! SUPPORT. What each operation of Machine/Motion.lean can change: it keeps every part of the state that it is not named to change. -/

set_option linter.unusedSimpArgs false

namespace Sys2Proof.Machine

theorem execAxisUpdate_mask (k : Part → Bool) (x : AxisIx) (s : State) (h0 : k .mono = false) (h1 : k .eng = false) (h2 : k .tally = false) (h3 : k .axes = false) (h4 : k .portals = false) (h5 : k .fel = false) (h6 : k .ls = false) (h7 : k .kerf = false) (h8 : k .sent = false) (h9 : k .freeSeq = false) :
    (stateOf s (execAxisUpdate x s)).mask k = s.mask k := by
  unfold execAxisUpdate
  first
    | (simp (maxDischargeDepth := 9) only [↓State.modAxis_mask, ↓State.upTo_mask, ↓State.movementEnd_mask, ↓State.axisUpdate_mask, ↓stateOf_next, ↓stateOf_ite, ↓State.mask_ite, ite_self, implies_true, h0, h1, h2, h3, h4, h5, h6, h7, h8, h9]; done)
    | ((try dsimp only); (repeat' split) <;> first | (simp (maxDischargeDepth := 9) only [↓State.modAxis_mask, ↓State.upTo_mask, ↓State.movementEnd_mask, ↓State.axisUpdate_mask, ↓stateOf_next, ↓stateOf_ite, ↓State.mask_ite, ite_self, implies_true, h0, h1, h2, h3, h4, h5, h6, h7, h8, h9]; done) | (simp_all (maxDischargeDepth := 9) only [↓State.modAxis_mask, ↓State.upTo_mask, ↓State.movementEnd_mask, ↓State.axisUpdate_mask, ↓stateOf_next, ↓stateOf_ite, ↓State.mask_ite, ite_self, implies_true, h0, h1, h2, h3, h4, h5, h6, h7, h8, h9]; done))

theorem execPlanningPeriod_mask (k : Part → Bool) (x : AxisIx) (s : State) (h0 : k .mono = false) (h1 : k .tally = false) (h2 : k .axes = false) (h3 : k .portals = false) (h4 : k .fel = false) (h5 : k .ls = false) (h6 : k .kerf = false) (h7 : k .sent = false) :
    (stateOf s (execPlanningPeriod x s)).mask k = s.mask k := by
  unfold execPlanningPeriod
  first
    | (simp (maxDischargeDepth := 9) only [↓State.modAxis_mask, ↓State.upTo_mask, ↓State.planPeriod_mask, ↓stateOf_next, ↓stateOf_ite, ↓State.mask_ite, ite_self, implies_true, h0, h1, h2, h3, h4, h5, h6, h7]; done)
    | ((try dsimp only); (repeat' split) <;> first | (simp (maxDischargeDepth := 9) only [↓State.modAxis_mask, ↓State.upTo_mask, ↓State.planPeriod_mask, ↓stateOf_next, ↓stateOf_ite, ↓State.mask_ite, ite_self, implies_true, h0, h1, h2, h3, h4, h5, h6, h7]; done) | (simp_all (maxDischargeDepth := 9) only [↓State.modAxis_mask, ↓State.upTo_mask, ↓State.planPeriod_mask, ↓stateOf_next, ↓stateOf_ite, ↓State.mask_ite, ite_self, implies_true, h0, h1, h2, h3, h4, h5, h6, h7]; done))

theorem execFellingEvaluation_mask (k : Part → Bool) (imeas vbus : BitVec 12) (s : State) (h0 : k .tally = false) (h1 : k .axes = false) (h2 : k .portals = false) (h3 : k .fel = false) (h4 : k .ls = false) (h5 : k .kerf = false) (h6 : k .pwr = false) (h7 : k .sent = false) :
    (stateOf s (execFellingEvaluation imeas vbus s)).mask k = s.mask k := by
  unfold execFellingEvaluation
  first
    | (simp (maxDischargeDepth := 9) only [↓State.modPwrReg_mask, ↓State.modFel_mask, ↓State.felling_mask, ↓stateOf_next, ↓stateOf_ite, ↓State.mask_ite, ite_self, implies_true, h0, h1, h2, h3, h4, h5, h6, h7]; done)
    | ((try dsimp only); (repeat' split) <;> first | (simp (maxDischargeDepth := 9) only [↓State.modPwrReg_mask, ↓State.modFel_mask, ↓State.felling_mask, ↓stateOf_next, ↓stateOf_ite, ↓State.mask_ite, ite_self, implies_true, h0, h1, h2, h3, h4, h5, h6, h7]; done) | (simp_all (maxDischargeDepth := 9) only [↓State.modPwrReg_mask, ↓State.modFel_mask, ↓State.felling_mask, ↓stateOf_next, ↓stateOf_ite, ↓State.mask_ite, ite_self, implies_true, h0, h1, h2, h3, h4, h5, h6, h7]; done))

theorem execStandstillAtTarget_mask (k : Part → Bool) (x : AxisIx) (s : State) (h0 : k .mono = false) (h1 : k .axes = false) (h2 : k .portals = false) :
    (stateOf s (execStandstillAtTarget x s)).mask k = s.mask k := by
  unfold execStandstillAtTarget
  first
    | (simp (maxDischargeDepth := 9) only [↓State.modAxis_mask, ↓State.upTo_mask, ↓State.arrived_mask, ↓stateOf_next, ↓stateOf_ite, ↓State.mask_ite, ite_self, implies_true, h0, h1, h2]; done)
    | ((try dsimp only); (repeat' split) <;> first | (simp (maxDischargeDepth := 9) only [↓State.modAxis_mask, ↓State.upTo_mask, ↓State.arrived_mask, ↓stateOf_next, ↓stateOf_ite, ↓State.mask_ite, ite_self, implies_true, h0, h1, h2]; done) | (simp_all (maxDischargeDepth := 9) only [↓State.modAxis_mask, ↓State.upTo_mask, ↓State.arrived_mask, ↓stateOf_next, ↓stateOf_ite, ↓State.mask_ite, ite_self, implies_true, h0, h1, h2]; done))

theorem execWarnMet_mask (k : Part → Bool) (p : PortalIx) (s : State) (h0 : k .mono = false) (h1 : k .tally = false) (h2 : k .axes = false) (h3 : k .portals = false) (h4 : k .fel = false) (h5 : k .ls = false) (h6 : k .kerf = false) (h7 : k .sent = false) :
    (stateOf s (execWarnMet p s)).mask k = s.mask k := by
  unfold execWarnMet
  first
    | (simp (maxDischargeDepth := 9) only [↓State.modAxis_mask, ↓State.upTo_mask, ↓State.felling_mask, ↓stateOf_next, ↓stateOf_ite, ↓State.mask_ite, ite_self, implies_true, ↓State.mask_forAll, h0, h1, h2, h3, h4, h5, h6, h7]; done)
    | ((try dsimp only); (repeat' split) <;> first | (simp (maxDischargeDepth := 9) only [↓State.modAxis_mask, ↓State.upTo_mask, ↓State.felling_mask, ↓stateOf_next, ↓stateOf_ite, ↓State.mask_ite, ite_self, implies_true, ↓State.mask_forAll, h0, h1, h2, h3, h4, h5, h6, h7]; done) | (simp_all (maxDischargeDepth := 9) only [↓State.modAxis_mask, ↓State.upTo_mask, ↓State.felling_mask, ↓stateOf_next, ↓stateOf_ite, ↓State.mask_ite, ite_self, implies_true, ↓State.mask_forAll, h0, h1, h2, h3, h4, h5, h6, h7]; done))
    | ((try dsimp only); refine State.mask_forAll _ _ _ _ fun _ _ => ?_; (repeat' split) <;> simp (maxDischargeDepth := 9) only [↓State.modAxis_mask, ↓State.upTo_mask, ↓State.felling_mask, ↓stateOf_next, ↓stateOf_ite, ↓State.mask_ite, ite_self, implies_true, ↓State.mask_forAll, h0, h1, h2, h3, h4, h5, h6, h7]; done)
    | ((try dsimp only); refine (State.mask_forAll _ _ _ _ fun _ _ => ?_).trans ?_ <;> (repeat' split) <;> simp (maxDischargeDepth := 9) only [↓State.modAxis_mask, ↓State.upTo_mask, ↓State.felling_mask, ↓stateOf_next, ↓stateOf_ite, ↓State.mask_ite, ite_self, implies_true, ↓State.mask_forAll, h0, h1, h2, h3, h4, h5, h6, h7]; done)

theorem execEndStopFound_mask (k : Part → Bool) (x : AxisIx) (s : State) (h0 : k .mono = false) (h1 : k .axes = false) (h2 : k .portals = false) :
    (stateOf s (execEndStopFound x s)).mask k = s.mask k := by
  unfold execEndStopFound
  first
    | (simp (maxDischargeDepth := 9) only [↓State.modAxis_mask, ↓State.upTo_mask, ↓State.movementEnd_mask, ↓State.referenced_mask, ↓State.homeEval_mask, ↓stateOf_next, ↓stateOf_ite, ↓State.mask_ite, ite_self, implies_true, h0, h1, h2]; done)
    | ((try dsimp only); (repeat' split) <;> first | (simp (maxDischargeDepth := 9) only [↓State.modAxis_mask, ↓State.upTo_mask, ↓State.movementEnd_mask, ↓State.referenced_mask, ↓State.homeEval_mask, ↓stateOf_next, ↓stateOf_ite, ↓State.mask_ite, ite_self, implies_true, h0, h1, h2]; done) | (simp_all (maxDischargeDepth := 9) only [↓State.modAxis_mask, ↓State.upTo_mask, ↓State.movementEnd_mask, ↓State.referenced_mask, ↓State.homeEval_mask, ↓stateOf_next, ↓stateOf_ite, ↓State.mask_ite, ite_self, implies_true, h0, h1, h2]; done))

theorem execReferenceTimeout_mask (k : Part → Bool) (x : AxisIx) (s : State) (h0 : k .mono = false) (h1 : k .axes = false) (h2 : k .portals = false) :
    (stateOf s (execReferenceTimeout x s)).mask k = s.mask k := by
  unfold execReferenceTimeout
  first
    | (simp (maxDischargeDepth := 9) only [↓State.modAxis_mask, ↓State.upTo_mask, ↓State.stopAxis_mask, ↓execEndStopFound_mask, ↓stateOf_next, ↓stateOf_ite, ↓State.mask_ite, ite_self, implies_true, h0, h1, h2]; done)
    | ((try dsimp only); (repeat' split) <;> first | (simp (maxDischargeDepth := 9) only [↓State.modAxis_mask, ↓State.upTo_mask, ↓State.stopAxis_mask, ↓execEndStopFound_mask, ↓stateOf_next, ↓stateOf_ite, ↓State.mask_ite, ite_self, implies_true, h0, h1, h2]; done) | (simp_all (maxDischargeDepth := 9) only [↓State.modAxis_mask, ↓State.upTo_mask, ↓State.stopAxis_mask, ↓execEndStopFound_mask, ↓stateOf_next, ↓stateOf_ite, ↓State.mask_ite, ite_self, implies_true, h0, h1, h2]; done))

theorem execBridgesOffInStop_mask (k : Part → Bool) (x : AxisIx) (s : State) (h0 : k .mono = false) (h1 : k .axes = false) :
    (stateOf s (execBridgesOffInStop x s)).mask k = s.mask k := by
  unfold execBridgesOffInStop
  first
    | (simp (maxDischargeDepth := 9) only [↓State.modAxis_mask, ↓State.upTo_mask, ↓State.bridgeEval_mask, ↓stateOf_next, ↓stateOf_ite, ↓State.mask_ite, ite_self, implies_true, h0, h1]; done)
    | ((try dsimp only); (repeat' split) <;> first | (simp (maxDischargeDepth := 9) only [↓State.modAxis_mask, ↓State.upTo_mask, ↓State.bridgeEval_mask, ↓stateOf_next, ↓stateOf_ite, ↓State.mask_ite, ite_self, implies_true, h0, h1]; done) | (simp_all (maxDischargeDepth := 9) only [↓State.modAxis_mask, ↓State.upTo_mask, ↓State.bridgeEval_mask, ↓stateOf_next, ↓stateOf_ite, ↓State.mask_ite, ite_self, implies_true, h0, h1]; done))

theorem execCmdStop_mask (k : Part → Bool) (x : AxisIx) (s : State) (h0 : k .tally = false) (h1 : k .axes = false) (h2 : k .portals = false) (h3 : k .fel = false) (h4 : k .ls = false) (h5 : k .kerf = false) (h6 : k .sent = false) (h7 : k .freeSeq = false) :
    (stateOf s (execCmdStop x s)).mask k = s.mask k := by
  unfold execCmdStop
  first
    | (simp (maxDischargeDepth := 9) only [↓State.axisCmd_mask, ↓stateOf_next, ↓stateOf_ite, ↓State.mask_ite, ite_self, implies_true, h0, h1, h2, h3, h4, h5, h6, h7]; done)
    | ((try dsimp only); (repeat' split) <;> first | (simp (maxDischargeDepth := 9) only [↓State.axisCmd_mask, ↓stateOf_next, ↓stateOf_ite, ↓State.mask_ite, ite_self, implies_true, h0, h1, h2, h3, h4, h5, h6, h7]; done) | (simp_all (maxDischargeDepth := 9) only [↓State.axisCmd_mask, ↓stateOf_next, ↓stateOf_ite, ↓State.mask_ite, ite_self, implies_true, h0, h1, h2, h3, h4, h5, h6, h7]; done))

theorem execCmdHalt_mask (k : Part → Bool) (x : AxisIx) (s : State) (h0 : k .tally = false) (h1 : k .axes = false) (h2 : k .portals = false) (h3 : k .fel = false) (h4 : k .ls = false) (h5 : k .kerf = false) (h6 : k .sent = false) (h7 : k .freeSeq = false) :
    (stateOf s (execCmdHalt x s)).mask k = s.mask k := by
  unfold execCmdHalt
  first
    | (simp (maxDischargeDepth := 9) only [↓State.axisCmd_mask, ↓stateOf_next, ↓stateOf_ite, ↓State.mask_ite, ite_self, implies_true, h0, h1, h2, h3, h4, h5, h6, h7]; done)
    | ((try dsimp only); (repeat' split) <;> first | (simp (maxDischargeDepth := 9) only [↓State.axisCmd_mask, ↓stateOf_next, ↓stateOf_ite, ↓State.mask_ite, ite_self, implies_true, h0, h1, h2, h3, h4, h5, h6, h7]; done) | (simp_all (maxDischargeDepth := 9) only [↓State.axisCmd_mask, ↓stateOf_next, ↓stateOf_ite, ↓State.mask_ite, ite_self, implies_true, h0, h1, h2, h3, h4, h5, h6, h7]; done))

theorem execCmdReref_mask (k : Part → Bool) (x : AxisIx) (s : State) (h0 : k .tally = false) (h1 : k .axes = false) (h2 : k .portals = false) (h3 : k .fel = false) (h4 : k .ls = false) (h5 : k .kerf = false) (h6 : k .sent = false) (h7 : k .freeSeq = false) :
    (stateOf s (execCmdReref x s)).mask k = s.mask k := by
  unfold execCmdReref
  first
    | (simp (maxDischargeDepth := 9) only [↓State.axisCmd_mask, ↓stateOf_next, ↓stateOf_ite, ↓State.mask_ite, ite_self, implies_true, h0, h1, h2, h3, h4, h5, h6, h7]; done)
    | ((try dsimp only); (repeat' split) <;> first | (simp (maxDischargeDepth := 9) only [↓State.axisCmd_mask, ↓stateOf_next, ↓stateOf_ite, ↓State.mask_ite, ite_self, implies_true, h0, h1, h2, h3, h4, h5, h6, h7]; done) | (simp_all (maxDischargeDepth := 9) only [↓State.axisCmd_mask, ↓stateOf_next, ↓stateOf_ite, ↓State.mask_ite, ite_self, implies_true, h0, h1, h2, h3, h4, h5, h6, h7]; done))

theorem execCmdDisable_mask (k : Part → Bool) (x : AxisIx) (s : State) (h0 : k .tally = false) (h1 : k .axes = false) (h2 : k .portals = false) (h3 : k .fel = false) (h4 : k .ls = false) (h5 : k .kerf = false) (h6 : k .sent = false) (h7 : k .freeSeq = false) :
    (stateOf s (execCmdDisable x s)).mask k = s.mask k := by
  unfold execCmdDisable
  first
    | (simp (maxDischargeDepth := 9) only [↓State.axisCmd_mask, ↓stateOf_next, ↓stateOf_ite, ↓State.mask_ite, ite_self, implies_true, h0, h1, h2, h3, h4, h5, h6, h7]; done)
    | ((try dsimp only); (repeat' split) <;> first | (simp (maxDischargeDepth := 9) only [↓State.axisCmd_mask, ↓stateOf_next, ↓stateOf_ite, ↓State.mask_ite, ite_self, implies_true, h0, h1, h2, h3, h4, h5, h6, h7]; done) | (simp_all (maxDischargeDepth := 9) only [↓State.axisCmd_mask, ↓stateOf_next, ↓stateOf_ite, ↓State.mask_ite, ite_self, implies_true, h0, h1, h2, h3, h4, h5, h6, h7]; done))

theorem execCmdEnable_mask (k : Part → Bool) (x : AxisIx) (s : State) (h0 : k .tally = false) (h1 : k .axes = false) (h2 : k .portals = false) (h3 : k .fel = false) (h4 : k .ls = false) (h5 : k .kerf = false) (h6 : k .sent = false) (h7 : k .freeSeq = false) :
    (stateOf s (execCmdEnable x s)).mask k = s.mask k := by
  unfold execCmdEnable
  first
    | (simp (maxDischargeDepth := 9) only [↓State.axisCmd_mask, ↓stateOf_next, ↓stateOf_ite, ↓State.mask_ite, ite_self, implies_true, h0, h1, h2, h3, h4, h5, h6, h7]; done)
    | ((try dsimp only); (repeat' split) <;> first | (simp (maxDischargeDepth := 9) only [↓State.axisCmd_mask, ↓stateOf_next, ↓stateOf_ite, ↓State.mask_ite, ite_self, implies_true, h0, h1, h2, h3, h4, h5, h6, h7]; done) | (simp_all (maxDischargeDepth := 9) only [↓State.axisCmd_mask, ↓stateOf_next, ↓stateOf_ite, ↓State.mask_ite, ite_self, implies_true, h0, h1, h2, h3, h4, h5, h6, h7]; done))

theorem execBlzrearm_mask (k : Part → Bool) (x : AxisIx) (w : Word) (s : State) (h0 : k .axes = false) :
    (stateOf s (execBlzrearm x w s)).mask k = s.mask k := by
  unfold execBlzrearm
  first
    | (simp (maxDischargeDepth := 9) only [↓State.modAxis_mask, ↓stateOf_next, ↓stateOf_ite, ↓State.mask_ite, ite_self, implies_true, h0]; done)
    | ((try dsimp only); (repeat' split) <;> first | (simp (maxDischargeDepth := 9) only [↓State.modAxis_mask, ↓stateOf_next, ↓stateOf_ite, ↓State.mask_ite, ite_self, implies_true, h0]; done) | (simp_all (maxDischargeDepth := 9) only [↓State.modAxis_mask, ↓stateOf_next, ↓stateOf_ite, ↓State.mask_ite, ite_self, implies_true, h0]; done))

end Sys2Proof.Machine
end

