-- ==== Sys2Proof/Laws/FramePortalCmd.lean ====
section
/-! SUPPORT. What each operation of Machine/PortalCmd.lean can change: it keeps every part of the state that it is not named to change. -/

set_option linter.unusedSimpArgs false

namespace Sys2Proof.Machine

theorem execMoveinhHoldoffEnd_mask (k : Part → Bool) (p : PortalIx) (s : State) (h0 : k .mono = false) (h1 : k .portals = false) :
    (stateOf s (execMoveinhHoldoffEnd p s)).mask k = s.mask k := by
  unfold execMoveinhHoldoffEnd
  first
    | (simp (maxDischargeDepth := 9) only [↓State.modPortal_mask, ↓State.upTo_mask, ↓stateOf_next, ↓stateOf_ite, ↓State.mask_ite, ite_self, implies_true, h0, h1]; done)
    | ((try dsimp only); (repeat' split) <;> first | (simp (maxDischargeDepth := 9) only [↓State.modPortal_mask, ↓State.upTo_mask, ↓stateOf_next, ↓stateOf_ite, ↓State.mask_ite, ite_self, implies_true, h0, h1]; done) | (simp_all (maxDischargeDepth := 9) only [↓State.modPortal_mask, ↓State.upTo_mask, ↓stateOf_next, ↓stateOf_ite, ↓State.mask_ite, ite_self, implies_true, h0, h1]; done))

theorem execMoveTimeout_mask (k : Part → Bool) (p : PortalIx) (s : State) (h0 : k .mono = false) (h1 : k .tally = false) (h2 : k .axes = false) (h3 : k .portals = false) :
    (stateOf s (execMoveTimeout p s)).mask k = s.mask k := by
  unfold execMoveTimeout
  first
    | (simp (maxDischargeDepth := 9) only [↓State.upTo_mask, ↓State.stopLeaves_mask, ↓State.latchObs_mask, ↓stateOf_next, ↓stateOf_ite, ↓State.mask_ite, ite_self, implies_true, h0, h1, h2, h3]; done)
    | ((try dsimp only); (repeat' split) <;> first | (simp (maxDischargeDepth := 9) only [↓State.upTo_mask, ↓State.stopLeaves_mask, ↓State.latchObs_mask, ↓stateOf_next, ↓stateOf_ite, ↓State.mask_ite, ite_self, implies_true, h0, h1, h2, h3]; done) | (simp_all (maxDischargeDepth := 9) only [↓State.upTo_mask, ↓State.stopLeaves_mask, ↓State.latchObs_mask, ↓stateOf_next, ↓stateOf_ite, ↓State.mask_ite, ite_self, implies_true, h0, h1, h2, h3]; done))

theorem execUnlockTimeout_mask (k : Part → Bool) (p : PortalIx) (s : State) (h0 : k .mono = false) (h1 : k .tally = false) (h2 : k .axes = false) (h3 : k .portals = false) :
    (stateOf s (execUnlockTimeout p s)).mask k = s.mask k := by
  unfold execUnlockTimeout
  first
    | (simp (maxDischargeDepth := 9) only [↓State.modPortal_mask, ↓State.upTo_mask, ↓State.latchObs_mask, ↓stateOf_next, ↓stateOf_ite, ↓State.mask_ite, ite_self, implies_true, h0, h1, h2, h3]; done)
    | ((try dsimp only); (repeat' split) <;> first | (simp (maxDischargeDepth := 9) only [↓State.modPortal_mask, ↓State.upTo_mask, ↓State.latchObs_mask, ↓stateOf_next, ↓stateOf_ite, ↓State.mask_ite, ite_self, implies_true, h0, h1, h2, h3]; done) | (simp_all (maxDischargeDepth := 9) only [↓State.modPortal_mask, ↓State.upTo_mask, ↓State.latchObs_mask, ↓stateOf_next, ↓stateOf_ite, ↓State.mask_ite, ite_self, implies_true, h0, h1, h2, h3]; done))

theorem execLockTimeout_mask (k : Part → Bool) (p : PortalIx) (s : State) (h0 : k .mono = false) (h1 : k .tally = false) (h2 : k .axes = false) (h3 : k .portals = false) :
    (stateOf s (execLockTimeout p s)).mask k = s.mask k := by
  unfold execLockTimeout
  first
    | (simp (maxDischargeDepth := 9) only [↓State.modPortal_mask, ↓State.upTo_mask, ↓State.latchObs_mask, ↓stateOf_next, ↓stateOf_ite, ↓State.mask_ite, ite_self, implies_true, h0, h1, h2, h3]; done)
    | ((try dsimp only); (repeat' split) <;> first | (simp (maxDischargeDepth := 9) only [↓State.modPortal_mask, ↓State.upTo_mask, ↓State.latchObs_mask, ↓stateOf_next, ↓stateOf_ite, ↓State.mask_ite, ite_self, implies_true, h0, h1, h2, h3]; done) | (simp_all (maxDischargeDepth := 9) only [↓State.modPortal_mask, ↓State.upTo_mask, ↓State.latchObs_mask, ↓stateOf_next, ↓stateOf_ite, ↓State.mask_ite, ite_self, implies_true, h0, h1, h2, h3]; done))

theorem execObstacleDetectionTime_mask (k : Part → Bool) (x : AxisIx) (s : State) (h0 : k .mono = false) (h1 : k .tally = false) (h2 : k .axes = false) (h3 : k .portals = false) :
    (stateOf s (execObstacleDetectionTime x s)).mask k = s.mask k := by
  unfold execObstacleDetectionTime
  first
    | (simp (maxDischargeDepth := 9) only [↓State.upTo_mask, ↓State.forceObstacle_mask, ↓stateOf_next, ↓stateOf_ite, ↓State.mask_ite, ite_self, implies_true, h0, h1, h2, h3]; done)
    | ((try dsimp only); (repeat' split) <;> first | (simp (maxDischargeDepth := 9) only [↓State.upTo_mask, ↓State.forceObstacle_mask, ↓stateOf_next, ↓stateOf_ite, ↓State.mask_ite, ite_self, implies_true, h0, h1, h2, h3]; done) | (simp_all (maxDischargeDepth := 9) only [↓State.upTo_mask, ↓State.forceObstacle_mask, ↓stateOf_next, ↓stateOf_ite, ↓State.mask_ite, ite_self, implies_true, h0, h1, h2, h3]; done))

theorem execEdgeObstacle_mask (k : Part → Bool) (p : PortalIx) (leafB : Bool) (s : State) (h0 : k .mono = false) (h1 : k .tally = false) (h2 : k .axes = false) (h3 : k .portals = false) :
    (stateOf s (execEdgeObstacle p leafB s)).mask k = s.mask k := by
  unfold execEdgeObstacle
  first
    | (simp (maxDischargeDepth := 9) only [↓State.upTo_mask, ↓State.edgeLatch_mask, ↓stateOf_next, ↓stateOf_ite, ↓State.mask_ite, ite_self, implies_true, h0, h1, h2, h3]; done)
    | ((try dsimp only); (repeat' split) <;> first | (simp (maxDischargeDepth := 9) only [↓State.upTo_mask, ↓State.edgeLatch_mask, ↓stateOf_next, ↓stateOf_ite, ↓State.mask_ite, ite_self, implies_true, h0, h1, h2, h3]; done) | (simp_all (maxDischargeDepth := 9) only [↓State.upTo_mask, ↓State.edgeLatch_mask, ↓stateOf_next, ↓stateOf_ite, ↓State.mask_ite, ite_self, implies_true, h0, h1, h2, h3]; done))

theorem execGiveupClear_mask (k : Part → Bool) (p : PortalIx) (s : State) (h0 : k .portals = false) :
    (stateOf s (execGiveupClear p s)).mask k = s.mask k := by
  unfold execGiveupClear
  first
    | (simp (maxDischargeDepth := 9) only [↓State.modPortal_mask, ↓stateOf_next, ↓stateOf_ite, ↓State.mask_ite, ite_self, implies_true, h0]; done)
    | ((try dsimp only); (repeat' split) <;> first | (simp (maxDischargeDepth := 9) only [↓State.modPortal_mask, ↓stateOf_next, ↓stateOf_ite, ↓State.mask_ite, ite_self, implies_true, h0]; done) | (simp_all (maxDischargeDepth := 9) only [↓State.modPortal_mask, ↓stateOf_next, ↓stateOf_ite, ↓State.mask_ite, ite_self, implies_true, h0]; done))

end Sys2Proof.Machine
end

