-- ==== Sys2Proof/Laws/FrameSafety.lean ====
section
/-! SUPPORT. What each operation of Machine/Safety.lean can change: it keeps every part of the state that it is not named to change. -/

set_option linter.unusedSimpArgs false

namespace Sys2Proof.Machine

theorem State.pairsInstant_mask (k : Part → Bool) (s : State) (ch : SafeCh) (fi : BitVec 96) (zs : BitVec 2) (h0 : k .safe = false) :
    (State.pairsInstant s ch fi zs).mask k = s.mask k := by
  unfold State.pairsInstant
  first
    | (simp (maxDischargeDepth := 9) only [↓State.modSafe_mask, ↓State.mask_ite, ite_self, implies_true, h0]; done)
    | ((try dsimp only); (repeat' split) <;> first | (simp (maxDischargeDepth := 9) only [↓State.modSafe_mask, ↓State.mask_ite, ite_self, implies_true, h0]; done) | (simp_all (maxDischargeDepth := 9) only [↓State.modSafe_mask, ↓State.mask_ite, ite_self, implies_true, h0]; done))

theorem State.windowWrite_mask (k : Part → Bool) (s : State) (h0 : k .safe = false) :
    (State.windowWrite s).mask k = s.mask k := by
  unfold State.windowWrite
  first
    | (simp (maxDischargeDepth := 9) only [↓State.modSafe_mask, ↓State.mask_ite, ite_self, implies_true, h0]; done)
    | ((try dsimp only); (repeat' split) <;> first | (simp (maxDischargeDepth := 9) only [↓State.modSafe_mask, ↓State.mask_ite, ite_self, implies_true, h0]; done) | (simp_all (maxDischargeDepth := 9) only [↓State.modSafe_mask, ↓State.mask_ite, ite_self, implies_true, h0]; done))

theorem State.sdeTest_mask (k : Part → Bool) (s : State) (ch : SafeCh) (h0 : k .tally = false) (h1 : k .safe = false) :
    (State.sdeTest s ch).mask k = s.mask k := by
  unfold State.sdeTest
  first
    | (simp (maxDischargeDepth := 9) only [↓State.modSafe_mask, ↓State.safetyRecord_mask, ↓State.mask_ite, ite_self, implies_true, ↓State.mask_forAll, h0, h1]; done)
    | ((try dsimp only); (repeat' split) <;> first | (simp (maxDischargeDepth := 9) only [↓State.modSafe_mask, ↓State.safetyRecord_mask, ↓State.mask_ite, ite_self, implies_true, ↓State.mask_forAll, h0, h1]; done) | (simp_all (maxDischargeDepth := 9) only [↓State.modSafe_mask, ↓State.safetyRecord_mask, ↓State.mask_ite, ite_self, implies_true, ↓State.mask_forAll, h0, h1]; done))
    | ((try dsimp only); refine State.mask_forAll _ _ _ _ fun _ _ => ?_; (repeat' split) <;> simp (maxDischargeDepth := 9) only [↓State.modSafe_mask, ↓State.safetyRecord_mask, ↓State.mask_ite, ite_self, implies_true, ↓State.mask_forAll, h0, h1]; done)
    | ((try dsimp only); refine (State.mask_forAll _ _ _ _ fun _ _ => ?_).trans ?_ <;> (repeat' split) <;> simp (maxDischargeDepth := 9) only [↓State.modSafe_mask, ↓State.safetyRecord_mask, ↓State.mask_ite, ite_self, implies_true, ↓State.mask_forAll, h0, h1]; done)

theorem execGridInstant_mask (k : Part → Bool) (ch : SafeCh) (fi : BitVec 96) (zs : BitVec 2) (rb : BitVec 6) (s : State) (h0 : k .mono = false) (h1 : k .tally = false) (h2 : k .axes = false) (h3 : k .portals = false) (h4 : k .sde = false) (h5 : k .ls = false) (h6 : k .kerf = false) (h7 : k .fio = false) (h8 : k .safe = false) (h9 : k .sent = false) :
    (stateOf s (execGridInstant ch fi zs rb s)).mask k = s.mask k := by
  unfold execGridInstant
  first
    | (simp (maxDischargeDepth := 9) only [↓State.upTo_mask, ↓State.modSafe_mask, ↓State.sdeEval_mask, ↓State.judge_mask, ↓State.switchCheck_mask, ↓State.pulseJudge_mask, ↓State.driveLoops_mask, ↓State.egressDrive_mask, ↓State.pairsInstant_mask, ↓State.windowWrite_mask, ↓State.sdeTest_mask, ↓stateOf_next, ↓stateOf_ite, ↓State.mask_ite, ite_self, implies_true, ↓State.mask_forAll, ↓State.mask_foldl, h0, h1, h2, h3, h4, h5, h6, h7, h8, h9]; done)
    | ((try dsimp only); (repeat' split) <;> first | (simp (maxDischargeDepth := 9) only [↓State.upTo_mask, ↓State.modSafe_mask, ↓State.sdeEval_mask, ↓State.judge_mask, ↓State.switchCheck_mask, ↓State.pulseJudge_mask, ↓State.driveLoops_mask, ↓State.egressDrive_mask, ↓State.pairsInstant_mask, ↓State.windowWrite_mask, ↓State.sdeTest_mask, ↓stateOf_next, ↓stateOf_ite, ↓State.mask_ite, ite_self, implies_true, ↓State.mask_forAll, ↓State.mask_foldl, h0, h1, h2, h3, h4, h5, h6, h7, h8, h9]; done) | (simp_all (maxDischargeDepth := 9) only [↓State.upTo_mask, ↓State.modSafe_mask, ↓State.sdeEval_mask, ↓State.judge_mask, ↓State.switchCheck_mask, ↓State.pulseJudge_mask, ↓State.driveLoops_mask, ↓State.egressDrive_mask, ↓State.pairsInstant_mask, ↓State.windowWrite_mask, ↓State.sdeTest_mask, ↓stateOf_next, ↓stateOf_ite, ↓State.mask_ite, ite_self, implies_true, ↓State.mask_forAll, ↓State.mask_foldl, h0, h1, h2, h3, h4, h5, h6, h7, h8, h9]; done))
    | ((try dsimp only); refine State.mask_forAll _ _ _ _ fun _ _ => ?_; (repeat' split) <;> simp (maxDischargeDepth := 9) only [↓State.upTo_mask, ↓State.modSafe_mask, ↓State.sdeEval_mask, ↓State.judge_mask, ↓State.switchCheck_mask, ↓State.pulseJudge_mask, ↓State.driveLoops_mask, ↓State.egressDrive_mask, ↓State.pairsInstant_mask, ↓State.windowWrite_mask, ↓State.sdeTest_mask, ↓stateOf_next, ↓stateOf_ite, ↓State.mask_ite, ite_self, implies_true, ↓State.mask_forAll, ↓State.mask_foldl, h0, h1, h2, h3, h4, h5, h6, h7, h8, h9]; done)
    | ((try dsimp only); refine (State.mask_forAll _ _ _ _ fun _ _ => ?_).trans ?_ <;> (repeat' split) <;> simp (maxDischargeDepth := 9) only [↓State.upTo_mask, ↓State.modSafe_mask, ↓State.sdeEval_mask, ↓State.judge_mask, ↓State.switchCheck_mask, ↓State.pulseJudge_mask, ↓State.driveLoops_mask, ↓State.egressDrive_mask, ↓State.pairsInstant_mask, ↓State.windowWrite_mask, ↓State.sdeTest_mask, ↓stateOf_next, ↓stateOf_ite, ↓State.mask_ite, ite_self, implies_true, ↓State.mask_forAll, ↓State.mask_foldl, h0, h1, h2, h3, h4, h5, h6, h7, h8, h9]; done)

theorem State.arbitrate_mask (k : Part → Bool) (s : State) (n : Fin 111) (h0 : k .tally = false) (h1 : k .axes = false) (h2 : k .portals = false) (h3 : k .sde = false) (h4 : k .ls = false) (h5 : k .kerf = false) (h6 : k .safe = false) (h7 : k .boot = false) (h8 : k .sent = false) :
    (State.arbitrate s n).mask k = s.mask k := by
  unfold State.arbitrate
  first
    | (simp (maxDischargeDepth := 9) only [↓State.modSafe_mask, ↓State.setMode_mask, ↓State.mask_ite, ite_self, implies_true, h0, h1, h2, h3, h4, h5, h6, h7, h8]; done)
    | ((try dsimp only); (repeat' split) <;> first | (simp (maxDischargeDepth := 9) only [↓State.modSafe_mask, ↓State.setMode_mask, ↓State.mask_ite, ite_self, implies_true, h0, h1, h2, h3, h4, h5, h6, h7, h8]; done) | (simp_all (maxDischargeDepth := 9) only [↓State.modSafe_mask, ↓State.setMode_mask, ↓State.mask_ite, ite_self, implies_true, h0, h1, h2, h3, h4, h5, h6, h7, h8]; done))

theorem State.rejoin_mask (k : Part → Bool) (s : State) (h0 : k .tally = false) (h1 : k .axes = false) (h2 : k .portals = false) (h3 : k .sde = false) (h4 : k .ls = false) (h5 : k .kerf = false) (h6 : k .safe = false) (h7 : k .boot = false) (h8 : k .sent = false) :
    (State.rejoin s).mask k = s.mask k := by
  unfold State.rejoin
  first
    | (simp (maxDischargeDepth := 9) only [↓State.modPortal_mask, ↓State.event_mask, ↓State.modSafe_mask, ↓State.dropCl_mask, ↓State.setMode_mask, ↓State.mask_ite, ite_self, implies_true, ↓State.mask_forAll, h0, h1, h2, h3, h4, h5, h6, h7, h8]; done)
    | ((try dsimp only); (repeat' split) <;> first | (simp (maxDischargeDepth := 9) only [↓State.modPortal_mask, ↓State.event_mask, ↓State.modSafe_mask, ↓State.dropCl_mask, ↓State.setMode_mask, ↓State.mask_ite, ite_self, implies_true, ↓State.mask_forAll, h0, h1, h2, h3, h4, h5, h6, h7, h8]; done) | (simp_all (maxDischargeDepth := 9) only [↓State.modPortal_mask, ↓State.event_mask, ↓State.modSafe_mask, ↓State.dropCl_mask, ↓State.setMode_mask, ↓State.mask_ite, ite_self, implies_true, ↓State.mask_forAll, h0, h1, h2, h3, h4, h5, h6, h7, h8]; done))
    | ((try dsimp only); refine State.mask_forAll _ _ _ _ fun _ _ => ?_; (repeat' split) <;> simp (maxDischargeDepth := 9) only [↓State.modPortal_mask, ↓State.event_mask, ↓State.modSafe_mask, ↓State.dropCl_mask, ↓State.setMode_mask, ↓State.mask_ite, ite_self, implies_true, ↓State.mask_forAll, h0, h1, h2, h3, h4, h5, h6, h7, h8]; done)
    | ((try dsimp only); refine (State.mask_forAll _ _ _ _ fun _ _ => ?_).trans ?_ <;> (repeat' split) <;> simp (maxDischargeDepth := 9) only [↓State.modPortal_mask, ↓State.event_mask, ↓State.modSafe_mask, ↓State.dropCl_mask, ↓State.setMode_mask, ↓State.mask_ite, ite_self, implies_true, ↓State.mask_forAll, h0, h1, h2, h3, h4, h5, h6, h7, h8]; done)

theorem State.exchanged_mask (kp : Part → Bool) (s : State) (ready : Bool) (h0 : kp .tally = false) (h1 : kp .axes = false) (h2 : kp .portals = false) (h3 : kp .sde = false) (h4 : kp .ls = false) (h5 : kp .kerf = false) (h6 : kp .safe = false) (h7 : kp .boot = false) (h8 : kp .sent = false) :
    (State.exchanged s ready).mask kp = s.mask kp := by
  unfold State.exchanged
  (try dsimp only); cases s.safe.mode <;> dsimp only <;> (repeat' split) <;> simp (maxDischargeDepth := 9) only [↓State.setMode_mask, ↓State.arbitrate_mask, ↓State.rejoin_mask, h0, h1, h2, h3, h4, h5, h6, h7, h8]

theorem execHingeLinkExchange_mask (k : Part → Bool) (good : Bool) (s : State) (h0 : k .tally = false) (h1 : k .axes = false) (h2 : k .portals = false) (h3 : k .sde = false) (h4 : k .ls = false) (h5 : k .kerf = false) (h6 : k .safe = false) (h7 : k .boot = false) (h8 : k .sent = false) :
    (stateOf s (execHingeLinkExchange good s)).mask k = s.mask k := by
  unfold execHingeLinkExchange
  first
    | (simp (maxDischargeDepth := 9) only [↓State.modSafe_mask, ↓State.setMode_mask, ↓State.exchanged_mask, ↓stateOf_next, ↓stateOf_ite, ↓State.mask_ite, ite_self, implies_true, h0, h1, h2, h3, h4, h5, h6, h7, h8]; done)
    | ((try dsimp only); (repeat' split) <;> first | (simp (maxDischargeDepth := 9) only [↓State.modSafe_mask, ↓State.setMode_mask, ↓State.exchanged_mask, ↓stateOf_next, ↓stateOf_ite, ↓State.mask_ite, ite_self, implies_true, h0, h1, h2, h3, h4, h5, h6, h7, h8]; done) | (simp_all (maxDischargeDepth := 9) only [↓State.modSafe_mask, ↓State.setMode_mask, ↓State.exchanged_mask, ↓stateOf_next, ↓stateOf_ite, ↓State.mask_ite, ite_self, implies_true, h0, h1, h2, h3, h4, h5, h6, h7, h8]; done))

theorem execArbitrationTestComplete_mask (k : Part → Bool) (aPass hPass : Bool) (bad : Option Disputed) (s : State) (h0 : k .tally = false) (h1 : k .axes = false) (h2 : k .portals = false) (h3 : k .sde = false) (h4 : k .ls = false) (h5 : k .kerf = false) (h6 : k .fio = false) (h7 : k .safe = false) (h8 : k .boot = false) (h9 : k .sent = false) :
    (stateOf s (execArbitrationTestComplete aPass hPass bad s)).mask k = s.mask k := by
  unfold execArbitrationTestComplete
  first
    | (simp (maxDischargeDepth := 9) only [↓State.modSafe_mask, ↓State.setMode_mask, ↓State.arbRecord_mask, ↓State.channelGone_mask, ↓State.groupEval_mask, ↓stateOf_next, ↓stateOf_ite, ↓State.mask_ite, ite_self, implies_true, h0, h1, h2, h3, h4, h5, h6, h7, h8, h9]; done)
    | ((try dsimp only); (repeat' split) <;> first | (simp (maxDischargeDepth := 9) only [↓State.modSafe_mask, ↓State.setMode_mask, ↓State.arbRecord_mask, ↓State.channelGone_mask, ↓State.groupEval_mask, ↓stateOf_next, ↓stateOf_ite, ↓State.mask_ite, ite_self, implies_true, h0, h1, h2, h3, h4, h5, h6, h7, h8, h9]; done) | (simp_all (maxDischargeDepth := 9) only [↓State.modSafe_mask, ↓State.setMode_mask, ↓State.arbRecord_mask, ↓State.channelGone_mask, ↓State.groupEval_mask, ↓stateOf_next, ↓stateOf_ite, ↓State.mask_ite, ite_self, implies_true, h0, h1, h2, h3, h4, h5, h6, h7, h8, h9]; done))

theorem execHeartbeatAbsent_mask (k : Part → Bool) (ch : SafeCh) (s : State) (h0 : k .tally = false) (h1 : k .axes = false) (h2 : k .portals = false) (h3 : k .sde = false) (h4 : k .ls = false) (h5 : k .kerf = false) (h6 : k .safe = false) (h7 : k .boot = false) (h8 : k .sent = false) :
    (stateOf s (execHeartbeatAbsent ch s)).mask k = s.mask k := by
  unfold execHeartbeatAbsent
  first
    | (simp (maxDischargeDepth := 9) only [↓State.modSafe_mask, ↓State.channelGone_mask, ↓stateOf_next, ↓stateOf_ite, ↓State.mask_ite, ite_self, implies_true, h0, h1, h2, h3, h4, h5, h6, h7, h8]; done)
    | ((try dsimp only); (repeat' split) <;> first | (simp (maxDischargeDepth := 9) only [↓State.modSafe_mask, ↓State.channelGone_mask, ↓stateOf_next, ↓stateOf_ite, ↓State.mask_ite, ite_self, implies_true, h0, h1, h2, h3, h4, h5, h6, h7, h8]; done) | (simp_all (maxDischargeDepth := 9) only [↓State.modSafe_mask, ↓State.channelGone_mask, ↓stateOf_next, ↓stateOf_ite, ↓State.mask_ite, ite_self, implies_true, h0, h1, h2, h3, h4, h5, h6, h7, h8]; done))

theorem execFaultLineAssert_mask (k : Part → Bool) (ch : SafeCh) (s : State) (h0 : k .tally = false) (h1 : k .axes = false) (h2 : k .portals = false) (h3 : k .sde = false) (h4 : k .ls = false) (h5 : k .kerf = false) (h6 : k .safe = false) (h7 : k .boot = false) (h8 : k .sent = false) :
    (stateOf s (execFaultLineAssert ch s)).mask k = s.mask k := by
  unfold execFaultLineAssert
  first
    | (simp (maxDischargeDepth := 9) only [↓State.modSafe_mask, ↓State.channelGone_mask, ↓stateOf_next, ↓stateOf_ite, ↓State.mask_ite, ite_self, implies_true, h0, h1, h2, h3, h4, h5, h6, h7, h8]; done)
    | ((try dsimp only); (repeat' split) <;> first | (simp (maxDischargeDepth := 9) only [↓State.modSafe_mask, ↓State.channelGone_mask, ↓stateOf_next, ↓stateOf_ite, ↓State.mask_ite, ite_self, implies_true, h0, h1, h2, h3, h4, h5, h6, h7, h8]; done) | (simp_all (maxDischargeDepth := 9) only [↓State.modSafe_mask, ↓State.channelGone_mask, ↓stateOf_next, ↓stateOf_ite, ↓State.mask_ite, ite_self, implies_true, h0, h1, h2, h3, h4, h5, h6, h7, h8]; done))

theorem execChannelAResetLine_mask (k : Part → Bool) (s : State) (h0 : k .tally = false) (h1 : k .axes = false) (h2 : k .portals = false) (h3 : k .sde = false) (h4 : k .ls = false) (h5 : k .kerf = false) (h6 : k .safe = false) (h7 : k .boot = false) (h8 : k .sent = false) :
    (stateOf s (execChannelAResetLine s)).mask k = s.mask k := by
  unfold execChannelAResetLine
  first
    | (simp (maxDischargeDepth := 9) only [↓State.aOwnReset_mask, ↓stateOf_next, ↓stateOf_ite, ↓State.mask_ite, ite_self, implies_true, h0, h1, h2, h3, h4, h5, h6, h7, h8]; done)
    | ((try dsimp only); (repeat' split) <;> first | (simp (maxDischargeDepth := 9) only [↓State.aOwnReset_mask, ↓stateOf_next, ↓stateOf_ite, ↓State.mask_ite, ite_self, implies_true, h0, h1, h2, h3, h4, h5, h6, h7, h8]; done) | (simp_all (maxDischargeDepth := 9) only [↓State.aOwnReset_mask, ↓stateOf_next, ↓stateOf_ite, ↓State.mask_ite, ite_self, implies_true, h0, h1, h2, h3, h4, h5, h6, h7, h8]; done))

theorem execChannelAWatchdog_mask (k : Part → Bool) (s : State) (h0 : k .mono = false) (h1 : k .tally = false) (h2 : k .axes = false) (h3 : k .portals = false) (h4 : k .sde = false) (h5 : k .ls = false) (h6 : k .kerf = false) (h7 : k .safe = false) (h8 : k .boot = false) (h9 : k .sent = false) :
    (stateOf s (execChannelAWatchdog s)).mask k = s.mask k := by
  unfold execChannelAWatchdog
  first
    | (simp (maxDischargeDepth := 9) only [↓State.upTo_mask, ↓State.aOwnReset_mask, ↓stateOf_next, ↓stateOf_ite, ↓State.mask_ite, ite_self, implies_true, h0, h1, h2, h3, h4, h5, h6, h7, h8, h9]; done)
    | ((try dsimp only); (repeat' split) <;> first | (simp (maxDischargeDepth := 9) only [↓State.upTo_mask, ↓State.aOwnReset_mask, ↓stateOf_next, ↓stateOf_ite, ↓State.mask_ite, ite_self, implies_true, h0, h1, h2, h3, h4, h5, h6, h7, h8, h9]; done) | (simp_all (maxDischargeDepth := 9) only [↓State.upTo_mask, ↓State.aOwnReset_mask, ↓stateOf_next, ↓stateOf_ite, ↓State.mask_ite, ite_self, implies_true, h0, h1, h2, h3, h4, h5, h6, h7, h8, h9]; done))

theorem execArsyncExpiry_mask (k : Part → Bool) (s : State) (h0 : k .mono = false) (h1 : k .tally = false) (h2 : k .axes = false) (h3 : k .portals = false) (h4 : k .sde = false) (h5 : k .ls = false) (h6 : k .kerf = false) (h7 : k .safe = false) (h8 : k .boot = false) (h9 : k .sent = false) :
    (stateOf s (execArsyncExpiry s)).mask k = s.mask k := by
  unfold execArsyncExpiry
  first
    | (simp (maxDischargeDepth := 9) only [↓State.upTo_mask, ↓State.setMode_mask, ↓State.safetyRecord_mask, ↓stateOf_next, ↓stateOf_ite, ↓State.mask_ite, ite_self, implies_true, h0, h1, h2, h3, h4, h5, h6, h7, h8, h9]; done)
    | ((try dsimp only); (repeat' split) <;> first | (simp (maxDischargeDepth := 9) only [↓State.upTo_mask, ↓State.setMode_mask, ↓State.safetyRecord_mask, ↓stateOf_next, ↓stateOf_ite, ↓State.mask_ite, ite_self, implies_true, h0, h1, h2, h3, h4, h5, h6, h7, h8, h9]; done) | (simp_all (maxDischargeDepth := 9) only [↓State.upTo_mask, ↓State.setMode_mask, ↓State.safetyRecord_mask, ↓stateOf_next, ↓stateOf_ite, ↓State.mask_ite, ite_self, implies_true, h0, h1, h2, h3, h4, h5, h6, h7, h8, h9]; done))

theorem execDegradedWindowExpiry_mask (k : Part → Bool) (s : State) (h0 : k .mono = false) (h1 : k .safe = false) :
    (stateOf s (execDegradedWindowExpiry s)).mask k = s.mask k := by
  unfold execDegradedWindowExpiry
  first
    | (simp (maxDischargeDepth := 9) only [↓State.upTo_mask, ↓State.modSafe_mask, ↓stateOf_next, ↓stateOf_ite, ↓State.mask_ite, ite_self, implies_true, h0, h1]; done)
    | ((try dsimp only); (repeat' split) <;> first | (simp (maxDischargeDepth := 9) only [↓State.upTo_mask, ↓State.modSafe_mask, ↓stateOf_next, ↓stateOf_ite, ↓State.mask_ite, ite_self, implies_true, h0, h1]; done) | (simp_all (maxDischargeDepth := 9) only [↓State.upTo_mask, ↓State.modSafe_mask, ↓stateOf_next, ↓stateOf_ite, ↓State.mask_ite, ite_self, implies_true, h0, h1]; done))

theorem State.clockUndecided_mask (k : Part → Bool) (s : State) (h0 : k .tally = false) (h1 : k .axes = false) (h2 : k .portals = false) (h3 : k .sde = false) (h4 : k .ls = false) (h5 : k .kerf = false) (h6 : k .safe = false) (h7 : k .boot = false) (h8 : k .sent = false) :
    (State.clockUndecided s).mask k = s.mask k := by
  unfold State.clockUndecided
  first
    | (simp (maxDischargeDepth := 9) only [↓State.setMode_mask, ↓State.mask_ite, ite_self, implies_true, h0, h1, h2, h3, h4, h5, h6, h7, h8]; done)
    | ((try dsimp only); (repeat' split) <;> first | (simp (maxDischargeDepth := 9) only [↓State.setMode_mask, ↓State.mask_ite, ite_self, implies_true, h0, h1, h2, h3, h4, h5, h6, h7, h8]; done) | (simp_all (maxDischargeDepth := 9) only [↓State.setMode_mask, ↓State.mask_ite, ite_self, implies_true, h0, h1, h2, h3, h4, h5, h6, h7, h8]; done))

theorem execClockCrosscheck_mask (k : Part → Bool) (ch : SafeCh) (dev : BitVec 16) (aOff hOff : Bool) (s : State) (h0 : k .tim = false) (h1 : k .tally = false) (h2 : k .axes = false) (h3 : k .portals = false) (h4 : k .sde = false) (h5 : k .ls = false) (h6 : k .kerf = false) (h7 : k .safe = false) (h8 : k .boot = false) (h9 : k .sent = false) :
    (stateOf s (execClockCrosscheck ch dev aOff hOff s)).mask k = s.mask k := by
  unfold execClockCrosscheck
  first
    | (simp (maxDischargeDepth := 9) only [↓State.modSafe_mask, ↓State.safetyRecord_mask, ↓State.channelGone_mask, ↓State.clockUndecided_mask, ↓stateOf_next, ↓stateOf_ite, ↓State.mask_with_tim, ↓State.mask_with_tally, ↓State.mask_with_axes, ↓State.mask_with_portals, ↓State.mask_with_sde, ↓State.mask_with_ls, ↓State.mask_with_kerf, ↓State.mask_with_safe, ↓State.mask_with_boot, ↓State.mask_with_sent, ↓State.mask_ite, ite_self, implies_true, h0, h1, h2, h3, h4, h5, h6, h7, h8, h9]; done)
    | ((try dsimp only); (repeat' split) <;> first | (simp (maxDischargeDepth := 9) only [↓State.modSafe_mask, ↓State.safetyRecord_mask, ↓State.channelGone_mask, ↓State.clockUndecided_mask, ↓stateOf_next, ↓stateOf_ite, ↓State.mask_with_tim, ↓State.mask_with_tally, ↓State.mask_with_axes, ↓State.mask_with_portals, ↓State.mask_with_sde, ↓State.mask_with_ls, ↓State.mask_with_kerf, ↓State.mask_with_safe, ↓State.mask_with_boot, ↓State.mask_with_sent, ↓State.mask_ite, ite_self, implies_true, h0, h1, h2, h3, h4, h5, h6, h7, h8, h9]; done) | (simp_all (maxDischargeDepth := 9) only [↓State.modSafe_mask, ↓State.safetyRecord_mask, ↓State.channelGone_mask, ↓State.clockUndecided_mask, ↓stateOf_next, ↓stateOf_ite, ↓State.mask_with_tim, ↓State.mask_with_tally, ↓State.mask_with_axes, ↓State.mask_with_portals, ↓State.mask_with_sde, ↓State.mask_with_ls, ↓State.mask_with_kerf, ↓State.mask_with_safe, ↓State.mask_with_boot, ↓State.mask_with_sent, ↓State.mask_ite, ite_self, implies_true, h0, h1, h2, h3, h4, h5, h6, h7, h8, h9]; done))
    | (simp only [State.mask, Bool.false_eq_true, ↓reduceIte, h0, h1, h2, h3, h4, h5, h6, h7, h8, h9]; done)
    | (simp (maxDischargeDepth := 9) only [↓State.modSafe_mask, ↓State.safetyRecord_mask, ↓State.channelGone_mask, ↓State.clockUndecided_mask, ↓stateOf_next, ↓stateOf_ite, ↓State.mask_with_tim, ↓State.mask_with_tally, ↓State.mask_with_axes, ↓State.mask_with_portals, ↓State.mask_with_sde, ↓State.mask_with_ls, ↓State.mask_with_kerf, ↓State.mask_with_safe, ↓State.mask_with_boot, ↓State.mask_with_sent, ↓State.mask_ite, ite_self, implies_true, h0, h1, h2, h3, h4, h5, h6, h7, h8, h9]; simp only [State.mask, Bool.false_eq_true, ↓reduceIte, h0, h1, h2, h3, h4, h5, h6, h7, h8, h9]; done)

theorem execTestGap_mask (k : Part → Bool) (src : Fin 2) (aDuring aAfter hDuring hAfter : BitVec 96) (s : State) (h0 : k .mono = false) (h1 : k .fio = false) (h2 : k .safe = false) :
    (stateOf s (execTestGap src aDuring aAfter hDuring hAfter s)).mask k = s.mask k := by
  unfold execTestGap
  first
    | (simp (maxDischargeDepth := 9) only [↓State.upTo_mask, ↓State.modSafe_mask, ↓State.modFio_mask, ↓State.groupEval_mask, ↓stateOf_next, ↓stateOf_ite, ↓State.mask_ite, ite_self, implies_true, h0, h1, h2]; done)
    | ((try dsimp only); (repeat' split) <;> first | (simp (maxDischargeDepth := 9) only [↓State.upTo_mask, ↓State.modSafe_mask, ↓State.modFio_mask, ↓State.groupEval_mask, ↓stateOf_next, ↓stateOf_ite, ↓State.mask_ite, ite_self, implies_true, h0, h1, h2]; done) | (simp_all (maxDischargeDepth := 9) only [↓State.upTo_mask, ↓State.modSafe_mask, ↓State.modFio_mask, ↓State.groupEval_mask, ↓stateOf_next, ↓stateOf_ite, ↓State.mask_ite, ite_self, implies_true, h0, h1, h2]; done))

theorem execSwitchTestPulse_mask (k : Part → Bool) (sw : Fin 4) (opened : Bool) (s : State) (h0 : k .mono = false) (h1 : k .tally = false) (h2 : k .safe = false) :
    (stateOf s (execSwitchTestPulse sw opened s)).mask k = s.mask k := by
  unfold execSwitchTestPulse
  first
    | (simp (maxDischargeDepth := 9) only [↓State.upTo_mask, ↓State.modSafe_mask, ↓State.pulseJudge_mask, ↓stateOf_next, ↓stateOf_ite, ↓State.mask_ite, ite_self, implies_true, h0, h1, h2]; done)
    | ((try dsimp only); (repeat' split) <;> first | (simp (maxDischargeDepth := 9) only [↓State.upTo_mask, ↓State.modSafe_mask, ↓State.pulseJudge_mask, ↓stateOf_next, ↓stateOf_ite, ↓State.mask_ite, ite_self, implies_true, h0, h1, h2]; done) | (simp_all (maxDischargeDepth := 9) only [↓State.upTo_mask, ↓State.modSafe_mask, ↓State.pulseJudge_mask, ↓stateOf_next, ↓stateOf_ite, ↓State.mask_ite, ite_self, implies_true, h0, h1, h2]; done))

theorem execWheelPulse_mask (k : Part → Bool) (ch : SafeCh) (i : Fin 4) (s : State) (h0 : k .safe = false) :
    (stateOf s (execWheelPulse ch i s)).mask k = s.mask k := by
  unfold execWheelPulse
  first
    | (simp (maxDischargeDepth := 9) only [↓State.modSafe_mask, ↓stateOf_next, ↓stateOf_ite, ↓State.mask_ite, ite_self, implies_true, h0]; done)
    | ((try dsimp only); (repeat' split) <;> first | (simp (maxDischargeDepth := 9) only [↓State.modSafe_mask, ↓stateOf_next, ↓stateOf_ite, ↓State.mask_ite, ite_self, implies_true, h0]; done) | (simp_all (maxDischargeDepth := 9) only [↓State.modSafe_mask, ↓stateOf_next, ↓stateOf_ite, ↓State.mask_ite, ite_self, implies_true, h0]; done))

theorem execEventAck_mask (k : Part → Bool) (w : Word) (s : State) (h0 : k .safe = false) :
    (stateOf s (execEventAck w s)).mask k = s.mask k := by
  unfold execEventAck
  first
    | (simp (maxDischargeDepth := 9) only [↓State.modSafe_mask, ↓stateOf_next, ↓stateOf_ite, ↓State.mask_ite, ite_self, implies_true, h0]; done)
    | ((try dsimp only); (repeat' split) <;> first | (simp (maxDischargeDepth := 9) only [↓State.modSafe_mask, ↓stateOf_next, ↓stateOf_ite, ↓State.mask_ite, ite_self, implies_true, h0]; done) | (simp_all (maxDischargeDepth := 9) only [↓State.modSafe_mask, ↓stateOf_next, ↓stateOf_ite, ↓State.mask_ite, ite_self, implies_true, h0]; done))

end Sys2Proof.Machine
end

