-- ==== Sys2Proof/Laws/FrameBusWrite.lean ====
section
/-! SUPPORT. What each operation of Machine/BusWrite.lean can change: it keeps every part of the state that it is not named to change. -/

set_option linter.unusedSimpArgs false

namespace Sys2Proof.Machine

theorem State.writeFlt_mask (k : Part → Bool) (s : State) (a : AxisIx) (w m : Word) (h0 : k .axes = false) :
    (State.writeFlt s a w m).mask k = s.mask k := by
  unfold State.writeFlt
  first
    | (simp (maxDischargeDepth := 9) only [↓State.modAxis_mask, ↓State.bridgeEval_mask, ↓State.mask_ite, ite_self, implies_true, h0]; done)
    | ((try dsimp only); (repeat' split) <;> first | (simp (maxDischargeDepth := 9) only [↓State.modAxis_mask, ↓State.bridgeEval_mask, ↓State.mask_ite, ite_self, implies_true, h0]; done) | (simp_all (maxDischargeDepth := 9) only [↓State.modAxis_mask, ↓State.bridgeEval_mask, ↓State.mask_ite, ite_self, implies_true, h0]; done))

theorem State.writeAxis_mask (k : Part → Bool) (s : State) (a : AxisIx) (off : Nat) (w m : Word) (svc : Bool := false) (h0 : k .tally = false) (h1 : k .axes = false) (h2 : k .portals = false) (h3 : k .fel = false) (h4 : k .ls = false) (h5 : k .kerf = false) (h6 : k .sent = false) (h7 : k .freeSeq = false) :
    (State.writeAxis s a off w m svc).mask k = s.mask k := by
  unfold State.writeAxis
  first
    | (simp (maxDischargeDepth := 9) only [↓State.modAxis_mask, ↓State.axisCmd_mask, ↓State.calRequest_mask, ↓State.writeFlt_mask, ↓State.mask_ite, ite_self, implies_true, h0, h1, h2, h3, h4, h5, h6, h7]; done)
    | ((try dsimp only); (repeat' split) <;> first | (simp (maxDischargeDepth := 9) only [↓State.modAxis_mask, ↓State.axisCmd_mask, ↓State.calRequest_mask, ↓State.writeFlt_mask, ↓State.mask_ite, ite_self, implies_true, h0, h1, h2, h3, h4, h5, h6, h7]; done) | (simp_all (maxDischargeDepth := 9) only [↓State.modAxis_mask, ↓State.axisCmd_mask, ↓State.calRequest_mask, ↓State.writeFlt_mask, ↓State.mask_ite, ite_self, implies_true, h0, h1, h2, h3, h4, h5, h6, h7]; done))

theorem State.writeBlaze_mask (k : Part → Bool) (s : State) (a : AxisIx) (off : Nat) (w m : Word) (h0 : k .axes = false) :
    (State.writeBlaze s a off w m).mask k = s.mask k := by
  unfold State.writeBlaze
  first
    | (simp (maxDischargeDepth := 9) only [↓State.modAxis_mask, ↓State.mask_ite, ite_self, implies_true, h0]; done)
    | ((try dsimp only); (repeat' split) <;> first | (simp (maxDischargeDepth := 9) only [↓State.modAxis_mask, ↓State.mask_ite, ite_self, implies_true, h0]; done) | (simp_all (maxDischargeDepth := 9) only [↓State.modAxis_mask, ↓State.mask_ite, ite_self, implies_true, h0]; done))

theorem State.writeLoad_mask (k : Part → Bool) (s : State) (c : ChanIx) (off : Nat) (w m : Word) (h0 : k .tally = false) (h1 : k .portals = false) (h2 : k .ls = false) (h3 : k .freeSeq = false) :
    (State.writeLoad s c off w m).mask k = s.mask k := by
  unfold State.writeLoad
  first
    | (simp (maxDischargeDepth := 9) only [↓State.modLs_mask, ↓State.used_mask, ↓State.oltRequest_mask, ↓State.mask_ite, ite_self, implies_true, h0, h1, h2, h3]; done)
    | ((try dsimp only); (repeat' split) <;> first | (simp (maxDischargeDepth := 9) only [↓State.modLs_mask, ↓State.used_mask, ↓State.oltRequest_mask, ↓State.mask_ite, ite_self, implies_true, h0, h1, h2, h3]; done) | (simp_all (maxDischargeDepth := 9) only [↓State.modLs_mask, ↓State.used_mask, ↓State.oltRequest_mask, ↓State.mask_ite, ite_self, implies_true, h0, h1, h2, h3]; done))

theorem State.writeFeedback_mask (k : Part → Bool) (s : State) (a : AxisIx) (off : Nat) (w m : Word) (h0 : k .axes = false) (h1 : k .portals = false) :
    (State.writeFeedback s a off w m).mask k = s.mask k := by
  unfold State.writeFeedback
  first
    | (simp (maxDischargeDepth := 9) only [↓State.modAxis_mask, ↓State.modPortal_mask, ↓State.mask_ite, ite_self, implies_true, h0, h1]; done)
    | ((try dsimp only); (repeat' split) <;> first | (simp (maxDischargeDepth := 9) only [↓State.modAxis_mask, ↓State.modPortal_mask, ↓State.mask_ite, ite_self, implies_true, h0, h1]; done) | (simp_all (maxDischargeDepth := 9) only [↓State.modAxis_mask, ↓State.modPortal_mask, ↓State.mask_ite, ite_self, implies_true, h0, h1]; done))

theorem State.writeKerf_mask (k : Part → Bool) (s : State) (p : PortalIx) (off : Nat) (w m : Word) (h0 : k .tally = false) (h1 : k .kerf = false) (h2 : k .sent = false) :
    (State.writeKerf s p off w m).mask k = s.mask k := by
  unfold State.writeKerf
  first
    | (simp (maxDischargeDepth := 9) only [↓State.modKerf_mask, ↓State.kerfOpen_mask, ↓State.learnRequest_mask, ↓State.mask_ite, ite_self, implies_true, h0, h1, h2]; done)
    | ((try dsimp only); (repeat' split) <;> first | (simp (maxDischargeDepth := 9) only [↓State.modKerf_mask, ↓State.kerfOpen_mask, ↓State.learnRequest_mask, ↓State.mask_ite, ite_self, implies_true, h0, h1, h2]; done) | (simp_all (maxDischargeDepth := 9) only [↓State.modKerf_mask, ↓State.kerfOpen_mask, ↓State.learnRequest_mask, ↓State.mask_ite, ite_self, implies_true, h0, h1, h2]; done))

theorem State.writePort_mask (k : Part → Bool) (s : State) (ctx : Fin 5) (off : Nat) (w m : Word) (h0 : k .eng = false) (h1 : k .tally = false) :
    (State.writePort s ctx off w m).mask k = s.mask k := by
  unfold State.writePort
  first
    | (simp (maxDischargeDepth := 9) only [↓State.modEng_mask, ↓State.emissionGo_mask, ↓State.mask_ite, ite_self, implies_true, h0, h1]; done)
    | ((try dsimp only); (repeat' split) <;> first | (simp (maxDischargeDepth := 9) only [↓State.modEng_mask, ↓State.emissionGo_mask, ↓State.mask_ite, ite_self, implies_true, h0, h1]; done) | (simp_all (maxDischargeDepth := 9) only [↓State.modEng_mask, ↓State.emissionGo_mask, ↓State.mask_ite, ite_self, implies_true, h0, h1]; done))

theorem State.writeSafety_mask (k : Part → Bool) (s : State) (off : Nat) (w m : Word) (h0 : k .safe = false) :
    (State.writeSafety s off w m).mask k = s.mask k := by
  unfold State.writeSafety
  first
    | (simp (maxDischargeDepth := 9) only [↓State.modSafe_mask, ↓State.mask_ite, ite_self, implies_true, h0]; done)
    | ((try dsimp only); (repeat' split) <;> first | (simp (maxDischargeDepth := 9) only [↓State.modSafe_mask, ↓State.mask_ite, ite_self, implies_true, h0]; done) | (simp_all (maxDischargeDepth := 9) only [↓State.modSafe_mask, ↓State.mask_ite, ite_self, implies_true, h0]; done))

theorem State.writePortal_mask (k : Part → Bool) (s : State) (p : PortalIx) (off : Nat) (w m : Word) (h0 : k .portals = false) :
    (State.writePortal s p off w m).mask k = s.mask k := by
  unfold State.writePortal
  first
    | (simp (maxDischargeDepth := 9) only [↓State.modPortal_mask, ↓State.mask_ite, ite_self, implies_true, h0]; done)
    | ((try dsimp only); (repeat' split) <;> first | (simp (maxDischargeDepth := 9) only [↓State.modPortal_mask, ↓State.mask_ite, ite_self, implies_true, h0]; done) | (simp_all (maxDischargeDepth := 9) only [↓State.modPortal_mask, ↓State.mask_ite, ite_self, implies_true, h0]; done))

theorem State.writeSystem_mask (k : Part → Bool) (s : State) (session : Bool) (off : Nat) (w m : Word) (h0 : k .tim = false) (h1 : k .fab = false) (h2 : k .mem = false) (h3 : k .eng = false) (h4 : k .tally = false) (h5 : k .axes = false) (h6 : k .portals = false) (h7 : k .fel = false) (h8 : k .sde = false) (h9 : k .ls = false) (h10 : k .lsg = false) (h11 : k .kerf = false) (h12 : k .fio = false) (h13 : k .safe = false) (h14 : k .jnl = false) (h15 : k .net = false) (h16 : k .lnd = false) (h17 : k .tru = false) (h18 : k .pwr = false) (h19 : k .boot = false) (h20 : k .sent = false) (h21 : k .freeSeq = false) :
    (State.writeSystem s session off w m).mask k = s.mask k := by
  unfold State.writeSystem
  first
    | (simp (maxDischargeDepth := 9) only [↓State.modSys_mask, ↓State.modTally_mask, ↓State.modPwrReg_mask, ↓State.flush_mask, ↓State.take_mask, ↓State.result_mask, ↓State.enterStop_mask, ↓State.modLnd_mask, ↓State.headReset_mask, ↓State.sleepRequest_mask, ↓State.sleepCancel_mask, ↓State.writePortal_mask, ↓State.mask_with_tim, ↓State.mask_with_fab, ↓State.mask_with_mem, ↓State.mask_with_eng, ↓State.mask_with_tally, ↓State.mask_with_axes, ↓State.mask_with_portals, ↓State.mask_with_fel, ↓State.mask_with_sde, ↓State.mask_with_ls, ↓State.mask_with_lsg, ↓State.mask_with_kerf, ↓State.mask_with_fio, ↓State.mask_with_safe, ↓State.mask_with_jnl, ↓State.mask_with_net, ↓State.mask_with_lnd, ↓State.mask_with_tru, ↓State.mask_with_pwr, ↓State.mask_with_boot, ↓State.mask_with_sent, ↓State.mask_with_freeSeq, ↓State.mask_ite, ite_self, implies_true, h0, h1, h2, h3, h4, h5, h6, h7, h8, h9, h10, h11, h12, h13, h14, h15, h16, h17, h18, h19, h20, h21]; done)
    | ((try dsimp only); (repeat' split) <;> first | (simp (maxDischargeDepth := 9) only [↓State.modSys_mask, ↓State.modTally_mask, ↓State.modPwrReg_mask, ↓State.flush_mask, ↓State.take_mask, ↓State.result_mask, ↓State.enterStop_mask, ↓State.modLnd_mask, ↓State.headReset_mask, ↓State.sleepRequest_mask, ↓State.sleepCancel_mask, ↓State.writePortal_mask, ↓State.mask_with_tim, ↓State.mask_with_fab, ↓State.mask_with_mem, ↓State.mask_with_eng, ↓State.mask_with_tally, ↓State.mask_with_axes, ↓State.mask_with_portals, ↓State.mask_with_fel, ↓State.mask_with_sde, ↓State.mask_with_ls, ↓State.mask_with_lsg, ↓State.mask_with_kerf, ↓State.mask_with_fio, ↓State.mask_with_safe, ↓State.mask_with_jnl, ↓State.mask_with_net, ↓State.mask_with_lnd, ↓State.mask_with_tru, ↓State.mask_with_pwr, ↓State.mask_with_boot, ↓State.mask_with_sent, ↓State.mask_with_freeSeq, ↓State.mask_ite, ite_self, implies_true, h0, h1, h2, h3, h4, h5, h6, h7, h8, h9, h10, h11, h12, h13, h14, h15, h16, h17, h18, h19, h20, h21]; done) | (simp_all (maxDischargeDepth := 9) only [↓State.modSys_mask, ↓State.modTally_mask, ↓State.modPwrReg_mask, ↓State.flush_mask, ↓State.take_mask, ↓State.result_mask, ↓State.enterStop_mask, ↓State.modLnd_mask, ↓State.headReset_mask, ↓State.sleepRequest_mask, ↓State.sleepCancel_mask, ↓State.writePortal_mask, ↓State.mask_with_tim, ↓State.mask_with_fab, ↓State.mask_with_mem, ↓State.mask_with_eng, ↓State.mask_with_tally, ↓State.mask_with_axes, ↓State.mask_with_portals, ↓State.mask_with_fel, ↓State.mask_with_sde, ↓State.mask_with_ls, ↓State.mask_with_lsg, ↓State.mask_with_kerf, ↓State.mask_with_fio, ↓State.mask_with_safe, ↓State.mask_with_jnl, ↓State.mask_with_net, ↓State.mask_with_lnd, ↓State.mask_with_tru, ↓State.mask_with_pwr, ↓State.mask_with_boot, ↓State.mask_with_sent, ↓State.mask_with_freeSeq, ↓State.mask_ite, ite_self, implies_true, h0, h1, h2, h3, h4, h5, h6, h7, h8, h9, h10, h11, h12, h13, h14, h15, h16, h17, h18, h19, h20, h21]; done))
    | (simp only [State.mask, Bool.false_eq_true, ↓reduceIte, h0, h1, h2, h3, h4, h5, h6, h7, h8, h9, h10, h11, h12, h13, h14, h15, h16, h17, h18, h19, h20, h21]; done)
    | (simp (maxDischargeDepth := 9) only [↓State.modSys_mask, ↓State.modTally_mask, ↓State.modPwrReg_mask, ↓State.flush_mask, ↓State.take_mask, ↓State.result_mask, ↓State.enterStop_mask, ↓State.modLnd_mask, ↓State.headReset_mask, ↓State.sleepRequest_mask, ↓State.sleepCancel_mask, ↓State.writePortal_mask, ↓State.mask_with_tim, ↓State.mask_with_fab, ↓State.mask_with_mem, ↓State.mask_with_eng, ↓State.mask_with_tally, ↓State.mask_with_axes, ↓State.mask_with_portals, ↓State.mask_with_fel, ↓State.mask_with_sde, ↓State.mask_with_ls, ↓State.mask_with_lsg, ↓State.mask_with_kerf, ↓State.mask_with_fio, ↓State.mask_with_safe, ↓State.mask_with_jnl, ↓State.mask_with_net, ↓State.mask_with_lnd, ↓State.mask_with_tru, ↓State.mask_with_pwr, ↓State.mask_with_boot, ↓State.mask_with_sent, ↓State.mask_with_freeSeq, ↓State.mask_ite, ite_self, implies_true, h0, h1, h2, h3, h4, h5, h6, h7, h8, h9, h10, h11, h12, h13, h14, h15, h16, h17, h18, h19, h20, h21]; simp only [State.mask, Bool.false_eq_true, ↓reduceIte, h0, h1, h2, h3, h4, h5, h6, h7, h8, h9, h10, h11, h12, h13, h14, h15, h16, h17, h18, h19, h20, h21]; done)

theorem State.poke_mask (k : Part → Bool) (s : State) (ctx : Fin 5) (session : Bool) (a : Nat) (w m : Word) (h0 : k .tim = false) (h1 : k .fab = false) (h2 : k .mem = false) (h3 : k .eng = false) (h4 : k .tally = false) (h5 : k .axes = false) (h6 : k .portals = false) (h7 : k .fel = false) (h8 : k .sde = false) (h9 : k .ls = false) (h10 : k .lsg = false) (h11 : k .kerf = false) (h12 : k .fio = false) (h13 : k .safe = false) (h14 : k .jnl = false) (h15 : k .net = false) (h16 : k .lnd = false) (h17 : k .tru = false) (h18 : k .pwr = false) (h19 : k .boot = false) (h20 : k .sent = false) (h21 : k .freeSeq = false) :
    (State.poke s ctx session a w m).mask k = s.mask k := by
  unfold State.poke
  first
    | (simp (maxDischargeDepth := 9) only [↓State.setWord_mask, ↓State.modFioReg_mask, ↓State.writeAxis_mask, ↓State.writeBlaze_mask, ↓State.writeLoad_mask, ↓State.writeFeedback_mask, ↓State.writeKerf_mask, ↓State.writePort_mask, ↓State.writeSafety_mask, ↓State.writeSystem_mask, ↓State.mask_ite, ite_self, implies_true, h0, h1, h2, h3, h4, h5, h6, h7, h8, h9, h10, h11, h12, h13, h14, h15, h16, h17, h18, h19, h20, h21]; done)
    | ((try dsimp only); (repeat' split) <;> first | (simp (maxDischargeDepth := 9) only [↓State.setWord_mask, ↓State.modFioReg_mask, ↓State.writeAxis_mask, ↓State.writeBlaze_mask, ↓State.writeLoad_mask, ↓State.writeFeedback_mask, ↓State.writeKerf_mask, ↓State.writePort_mask, ↓State.writeSafety_mask, ↓State.writeSystem_mask, ↓State.mask_ite, ite_self, implies_true, h0, h1, h2, h3, h4, h5, h6, h7, h8, h9, h10, h11, h12, h13, h14, h15, h16, h17, h18, h19, h20, h21]; done) | (simp_all (maxDischargeDepth := 9) only [↓State.setWord_mask, ↓State.modFioReg_mask, ↓State.writeAxis_mask, ↓State.writeBlaze_mask, ↓State.writeLoad_mask, ↓State.writeFeedback_mask, ↓State.writeKerf_mask, ↓State.writePort_mask, ↓State.writeSafety_mask, ↓State.writeSystem_mask, ↓State.mask_ite, ite_self, implies_true, h0, h1, h2, h3, h4, h5, h6, h7, h8, h9, h10, h11, h12, h13, h14, h15, h16, h17, h18, h19, h20, h21]; done))

end Sys2Proof.Machine
end

