-- ==== Sys2Proof/Laws/FrameMemOps.lean ====
section
/-! SUPPORT. What each operation of Machine/MemOps.lean can change: it keeps every part of the state that it is not named to change. -/

set_option linter.unusedSimpArgs false

namespace Sys2Proof.Machine

theorem State.hitMoves_mask (k : Part → Bool) (s : State) (a n : Nat) (h0 : k .eng = false) :
    (State.hitMoves s a n).mask k = s.mask k := by
  unfold State.hitMoves
  first
    | (simp (maxDischargeDepth := 9) only [↓State.modEng_mask, ↓State.mask_ite, ite_self, implies_true, h0]; done)
    | ((try dsimp only); (repeat' split) <;> first | (simp (maxDischargeDepth := 9) only [↓State.modEng_mask, ↓State.mask_ite, ite_self, implies_true, h0]; done) | (simp_all (maxDischargeDepth := 9) only [↓State.modEng_mask, ↓State.mask_ite, ite_self, implies_true, h0]; done))

theorem State.applyStore_mask (k : Part → Bool) (s : State) (q : QStore) (h0 : k .tim = false) (h1 : k .fab = false) (h2 : k .mem = false) (h3 : k .eng = false) (h4 : k .tally = false) (h5 : k .axes = false) (h6 : k .portals = false) (h7 : k .fel = false) (h8 : k .sde = false) (h9 : k .ls = false) (h10 : k .lsg = false) (h11 : k .kerf = false) (h12 : k .fio = false) (h13 : k .safe = false) (h14 : k .jnl = false) (h15 : k .net = false) (h16 : k .lnd = false) (h17 : k .tru = false) (h18 : k .pwr = false) (h19 : k .boot = false) (h20 : k .sent = false) (h21 : k .freeSeq = false) :
    (State.applyStore s q).mask k = s.mask k := by
  unfold State.applyStore
  first
    | (simp (maxDischargeDepth := 9) only [↓State.poke_mask, ↓State.hitMoves_mask, ↓State.mask_ite, ite_self, implies_true, h0, h1, h2, h3, h4, h5, h6, h7, h8, h9, h10, h11, h12, h13, h14, h15, h16, h17, h18, h19, h20, h21]; done)
    | ((try dsimp only); (repeat' split) <;> first | (simp (maxDischargeDepth := 9) only [↓State.poke_mask, ↓State.hitMoves_mask, ↓State.mask_ite, ite_self, implies_true, h0, h1, h2, h3, h4, h5, h6, h7, h8, h9, h10, h11, h12, h13, h14, h15, h16, h17, h18, h19, h20, h21]; done) | (simp_all (maxDischargeDepth := 9) only [↓State.poke_mask, ↓State.hitMoves_mask, ↓State.mask_ite, ite_self, implies_true, h0, h1, h2, h3, h4, h5, h6, h7, h8, h9, h10, h11, h12, h13, h14, h15, h16, h17, h18, h19, h20, h21]; done))

theorem State.settleStop_mask (k : Part → Bool) (s : State) (h0 : k .eng = false) (h1 : k .axes = false) (h2 : k .portals = false) (h3 : k .ls = false) (h4 : k .kerf = false) :
    (State.settleStop s).mask k = s.mask k := by
  unfold State.settleStop
  first
    | (simp (maxDischargeDepth := 9) only [↓State.discardStaged_mask, ↓State.saveRetain_mask, ↓State.mask_ite, ite_self, implies_true, h0, h1, h2, h3, h4]; done)
    | ((try dsimp only); (repeat' split) <;> first | (simp (maxDischargeDepth := 9) only [↓State.discardStaged_mask, ↓State.saveRetain_mask, ↓State.mask_ite, ite_self, implies_true, h0, h1, h2, h3, h4]; done) | (simp_all (maxDischargeDepth := 9) only [↓State.discardStaged_mask, ↓State.saveRetain_mask, ↓State.mask_ite, ite_self, implies_true, h0, h1, h2, h3, h4]; done))

theorem State.drainOne_mask (k : Part → Bool) (s : State) (h0 : k .tim = false) (h1 : k .fab = false) (h2 : k .mem = false) (h3 : k .eng = false) (h4 : k .tally = false) (h5 : k .axes = false) (h6 : k .portals = false) (h7 : k .fel = false) (h8 : k .sde = false) (h9 : k .ls = false) (h10 : k .lsg = false) (h11 : k .kerf = false) (h12 : k .fio = false) (h13 : k .safe = false) (h14 : k .jnl = false) (h15 : k .net = false) (h16 : k .lnd = false) (h17 : k .tru = false) (h18 : k .pwr = false) (h19 : k .boot = false) (h20 : k .sent = false) (h21 : k .freeSeq = false) :
    (State.drainOne s).mask k = s.mask k := by
  unfold State.drainOne
  first
    | (simp (maxDischargeDepth := 9) only [↓State.modEng_mask, ↓State.applyStore_mask, ↓State.settleStop_mask, ↓State.mask_ite, ite_self, implies_true, h0, h1, h2, h3, h4, h5, h6, h7, h8, h9, h10, h11, h12, h13, h14, h15, h16, h17, h18, h19, h20, h21]; done)
    | ((try dsimp only); (repeat' split) <;> first | (simp (maxDischargeDepth := 9) only [↓State.modEng_mask, ↓State.applyStore_mask, ↓State.settleStop_mask, ↓State.mask_ite, ite_self, implies_true, h0, h1, h2, h3, h4, h5, h6, h7, h8, h9, h10, h11, h12, h13, h14, h15, h16, h17, h18, h19, h20, h21]; done) | (simp_all (maxDischargeDepth := 9) only [↓State.modEng_mask, ↓State.applyStore_mask, ↓State.settleStop_mask, ↓State.mask_ite, ite_self, implies_true, h0, h1, h2, h3, h4, h5, h6, h7, h8, h9, h10, h11, h12, h13, h14, h15, h16, h17, h18, h19, h20, h21]; done))

theorem State.drain_mask (k : Part → Bool) (s : State) (x0 : Nat) (h0 : k .tim = false) (h1 : k .fab = false) (h2 : k .mem = false) (h3 : k .eng = false) (h4 : k .tally = false) (h5 : k .axes = false) (h6 : k .portals = false) (h7 : k .fel = false) (h8 : k .sde = false) (h9 : k .ls = false) (h10 : k .lsg = false) (h11 : k .kerf = false) (h12 : k .fio = false) (h13 : k .safe = false) (h14 : k .jnl = false) (h15 : k .net = false) (h16 : k .lnd = false) (h17 : k .tru = false) (h18 : k .pwr = false) (h19 : k .boot = false) (h20 : k .sent = false) (h21 : k .freeSeq = false) :
    (State.drain s x0).mask k = s.mask k := by
  induction x0 generalizing s with
  | zero => unfold State.drain; rfl
  | succ n ih =>
    unfold State.drain
    (try dsimp only); (repeat' split) <;> first | (simp (maxDischargeDepth := 9) only [↓State.drainOne_mask, ↓State.mask_ite, ite_self, implies_true, h0, h1, h2, h3, h4, h5, h6, h7, h8, h9, h10, h11, h12, h13, h14, h15, h16, h17, h18, h19, h20, h21, ↓ih]; done) | (simp_all (maxDischargeDepth := 9) only [↓State.drainOne_mask, ↓State.mask_ite, ite_self, implies_true, h0, h1, h2, h3, h4, h5, h6, h7, h8, h9, h10, h11, h12, h13, h14, h15, h16, h17, h18, h19, h20, h21, ↓ih]; done)

theorem State.drainAll_mask (k : Part → Bool) (s : State) (h0 : k .tim = false) (h1 : k .fab = false) (h2 : k .mem = false) (h3 : k .eng = false) (h4 : k .tally = false) (h5 : k .axes = false) (h6 : k .portals = false) (h7 : k .fel = false) (h8 : k .sde = false) (h9 : k .ls = false) (h10 : k .lsg = false) (h11 : k .kerf = false) (h12 : k .fio = false) (h13 : k .safe = false) (h14 : k .jnl = false) (h15 : k .net = false) (h16 : k .lnd = false) (h17 : k .tru = false) (h18 : k .pwr = false) (h19 : k .boot = false) (h20 : k .sent = false) (h21 : k .freeSeq = false) :
    (State.drainAll s).mask k = s.mask k := by
  unfold State.drainAll
  first
    | (simp (maxDischargeDepth := 9) only [↓State.drain_mask, ↓State.mask_ite, ite_self, implies_true, h0, h1, h2, h3, h4, h5, h6, h7, h8, h9, h10, h11, h12, h13, h14, h15, h16, h17, h18, h19, h20, h21]; done)
    | ((try dsimp only); (repeat' split) <;> first | (simp (maxDischargeDepth := 9) only [↓State.drain_mask, ↓State.mask_ite, ite_self, implies_true, h0, h1, h2, h3, h4, h5, h6, h7, h8, h9, h10, h11, h12, h13, h14, h15, h16, h17, h18, h19, h20, h21]; done) | (simp_all (maxDischargeDepth := 9) only [↓State.drain_mask, ↓State.mask_ite, ite_self, implies_true, h0, h1, h2, h3, h4, h5, h6, h7, h8, h9, h10, h11, h12, h13, h14, h15, h16, h17, h18, h19, h20, h21]; done))

theorem State.drainFor_mask (k : Part → Bool) (s : State) (a n : Nat) (h0 : k .tim = false) (h1 : k .fab = false) (h2 : k .mem = false) (h3 : k .eng = false) (h4 : k .tally = false) (h5 : k .axes = false) (h6 : k .portals = false) (h7 : k .fel = false) (h8 : k .sde = false) (h9 : k .ls = false) (h10 : k .lsg = false) (h11 : k .kerf = false) (h12 : k .fio = false) (h13 : k .safe = false) (h14 : k .jnl = false) (h15 : k .net = false) (h16 : k .lnd = false) (h17 : k .tru = false) (h18 : k .pwr = false) (h19 : k .boot = false) (h20 : k .sent = false) (h21 : k .freeSeq = false) :
    (State.drainFor s a n).mask k = s.mask k := by
  unfold State.drainFor
  first
    | (simp (maxDischargeDepth := 9) only [↓State.drain_mask, ↓State.mask_ite, ite_self, implies_true, h0, h1, h2, h3, h4, h5, h6, h7, h8, h9, h10, h11, h12, h13, h14, h15, h16, h17, h18, h19, h20, h21]; done)
    | ((try dsimp only); (repeat' split) <;> first | (simp (maxDischargeDepth := 9) only [↓State.drain_mask, ↓State.mask_ite, ite_self, implies_true, h0, h1, h2, h3, h4, h5, h6, h7, h8, h9, h10, h11, h12, h13, h14, h15, h16, h17, h18, h19, h20, h21]; done) | (simp_all (maxDischargeDepth := 9) only [↓State.drain_mask, ↓State.mask_ite, ite_self, implies_true, h0, h1, h2, h3, h4, h5, h6, h7, h8, h9, h10, h11, h12, h13, h14, h15, h16, h17, h18, h19, h20, h21]; done))

theorem State.store_mask (k : Part → Bool) (s : State) (a : Word) (w : Word) (n : Nat) (h0 : k .tim = false) (h1 : k .fab = false) (h2 : k .mem = false) (h3 : k .eng = false) (h4 : k .tally = false) (h5 : k .axes = false) (h6 : k .portals = false) (h7 : k .fel = false) (h8 : k .sde = false) (h9 : k .ls = false) (h10 : k .lsg = false) (h11 : k .kerf = false) (h12 : k .fio = false) (h13 : k .safe = false) (h14 : k .jnl = false) (h15 : k .net = false) (h16 : k .lnd = false) (h17 : k .tru = false) (h18 : k .pwr = false) (h19 : k .boot = false) (h20 : k .sent = false) (h21 : k .freeSeq = false) :
    (State.store s a w n).mask k = s.mask k := by
  unfold State.store
  first
    | (simp (maxDischargeDepth := 9) only [↓State.modEng_mask, ↓State.violation_mask, ↓State.applyStore_mask, ↓State.drainOne_mask, ↓State.drainAll_mask, ↓State.mask_ite, ite_self, implies_true, h0, h1, h2, h3, h4, h5, h6, h7, h8, h9, h10, h11, h12, h13, h14, h15, h16, h17, h18, h19, h20, h21]; done)
    | ((try dsimp only); (repeat' split) <;> first | (simp (maxDischargeDepth := 9) only [↓State.modEng_mask, ↓State.violation_mask, ↓State.applyStore_mask, ↓State.drainOne_mask, ↓State.drainAll_mask, ↓State.mask_ite, ite_self, implies_true, h0, h1, h2, h3, h4, h5, h6, h7, h8, h9, h10, h11, h12, h13, h14, h15, h16, h17, h18, h19, h20, h21]; done) | (simp_all (maxDischargeDepth := 9) only [↓State.modEng_mask, ↓State.violation_mask, ↓State.applyStore_mask, ↓State.drainOne_mask, ↓State.drainAll_mask, ↓State.mask_ite, ite_self, implies_true, h0, h1, h2, h3, h4, h5, h6, h7, h8, h9, h10, h11, h12, h13, h14, h15, h16, h17, h18, h19, h20, h21]; done))

theorem State.fetch_mask (k : Part → Bool) (s : State) (a : Word) (n : Nat) (flt : FabFault) (h0 : k .tim = false) (h1 : k .fab = false) (h2 : k .latch = false) (h3 : k .mem = false) (h4 : k .eng = false) (h5 : k .tally = false) (h6 : k .axes = false) (h7 : k .portals = false) (h8 : k .fel = false) (h9 : k .sde = false) (h10 : k .ls = false) (h11 : k .lsg = false) (h12 : k .kerf = false) (h13 : k .fio = false) (h14 : k .safe = false) (h15 : k .jnl = false) (h16 : k .net = false) (h17 : k .lnd = false) (h18 : k .tru = false) (h19 : k .pwr = false) (h20 : k .boot = false) (h21 : k .sent = false) (h22 : k .freeSeq = false) :
    (State.fetch s a n flt).1.mask k = s.mask k := by
  unfold State.fetch
  first
    | (simp (maxDischargeDepth := 9) only [↓State.fabFault_mask, ↓State.violation_mask, ↓State.enterStop_mask, ↓State.touch_mask, ↓State.drainAll_mask, ↓State.drainFor_mask, ↓State.mask_ite, ite_self, implies_true, ↓State.mask_fst_ite, h0, h1, h2, h3, h4, h5, h6, h7, h8, h9, h10, h11, h12, h13, h14, h15, h16, h17, h18, h19, h20, h21, h22]; done)
    | ((try dsimp only); (repeat' split) <;> first | (simp (maxDischargeDepth := 9) only [↓State.fabFault_mask, ↓State.violation_mask, ↓State.enterStop_mask, ↓State.touch_mask, ↓State.drainAll_mask, ↓State.drainFor_mask, ↓State.mask_ite, ite_self, implies_true, ↓State.mask_fst_ite, h0, h1, h2, h3, h4, h5, h6, h7, h8, h9, h10, h11, h12, h13, h14, h15, h16, h17, h18, h19, h20, h21, h22]; done) | (simp_all (maxDischargeDepth := 9) only [↓State.fabFault_mask, ↓State.violation_mask, ↓State.enterStop_mask, ↓State.touch_mask, ↓State.drainAll_mask, ↓State.drainFor_mask, ↓State.mask_ite, ite_self, implies_true, ↓State.mask_fst_ite, h0, h1, h2, h3, h4, h5, h6, h7, h8, h9, h10, h11, h12, h13, h14, h15, h16, h17, h18, h19, h20, h21, h22]; done))

theorem State.illop_mask (k : Part → Bool) (s : State) (h0 : k .tim = false) (h1 : k .fab = false) (h2 : k .mem = false) (h3 : k .eng = false) (h4 : k .tally = false) (h5 : k .axes = false) (h6 : k .portals = false) (h7 : k .fel = false) (h8 : k .sde = false) (h9 : k .ls = false) (h10 : k .lsg = false) (h11 : k .kerf = false) (h12 : k .fio = false) (h13 : k .safe = false) (h14 : k .jnl = false) (h15 : k .net = false) (h16 : k .lnd = false) (h17 : k .tru = false) (h18 : k .pwr = false) (h19 : k .boot = false) (h20 : k .sent = false) (h21 : k .freeSeq = false) :
    (State.illop s).mask k = s.mask k := by
  unfold State.illop
  first
    | (simp (maxDischargeDepth := 9) only [↓State.enterStop_mask, ↓State.drainAll_mask, ↓State.mask_ite, ite_self, implies_true, h0, h1, h2, h3, h4, h5, h6, h7, h8, h9, h10, h11, h12, h13, h14, h15, h16, h17, h18, h19, h20, h21]; done)
    | ((try dsimp only); (repeat' split) <;> first | (simp (maxDischargeDepth := 9) only [↓State.enterStop_mask, ↓State.drainAll_mask, ↓State.mask_ite, ite_self, implies_true, h0, h1, h2, h3, h4, h5, h6, h7, h8, h9, h10, h11, h12, h13, h14, h15, h16, h17, h18, h19, h20, h21]; done) | (simp_all (maxDischargeDepth := 9) only [↓State.enterStop_mask, ↓State.drainAll_mask, ↓State.mask_ite, ite_self, implies_true, h0, h1, h2, h3, h4, h5, h6, h7, h8, h9, h10, h11, h12, h13, h14, h15, h16, h17, h18, h19, h20, h21]; done))

theorem State.illegal_mask (k : Part → Bool) (s : State) (h0 : k .tim = false) (h1 : k .fab = false) (h2 : k .mem = false) (h3 : k .eng = false) (h4 : k .tally = false) (h5 : k .axes = false) (h6 : k .portals = false) (h7 : k .fel = false) (h8 : k .sde = false) (h9 : k .ls = false) (h10 : k .lsg = false) (h11 : k .kerf = false) (h12 : k .fio = false) (h13 : k .safe = false) (h14 : k .jnl = false) (h15 : k .net = false) (h16 : k .lnd = false) (h17 : k .tru = false) (h18 : k .pwr = false) (h19 : k .boot = false) (h20 : k .sent = false) (h21 : k .freeSeq = false) :
    (State.illegal s).mask k = s.mask k := by
  unfold State.illegal
  first
    | (simp (maxDischargeDepth := 9) only [↓State.illop_mask, ↓State.mask_ite, ite_self, implies_true, h0, h1, h2, h3, h4, h5, h6, h7, h8, h9, h10, h11, h12, h13, h14, h15, h16, h17, h18, h19, h20, h21]; done)
    | ((try dsimp only); (repeat' split) <;> first | (simp (maxDischargeDepth := 9) only [↓State.illop_mask, ↓State.mask_ite, ite_self, implies_true, h0, h1, h2, h3, h4, h5, h6, h7, h8, h9, h10, h11, h12, h13, h14, h15, h16, h17, h18, h19, h20, h21]; done) | (simp_all (maxDischargeDepth := 9) only [↓State.illop_mask, ↓State.mask_ite, ite_self, implies_true, h0, h1, h2, h3, h4, h5, h6, h7, h8, h9, h10, h11, h12, h13, h14, h15, h16, h17, h18, h19, h20, h21]; done))

theorem State.noRight_mask (k : Part → Bool) (s : State) (a : Nat) (h0 : k .eng = false) :
    (State.noRight s a).mask k = s.mask k := by
  unfold State.noRight
  first
    | (simp (maxDischargeDepth := 9) only [↓State.violation_mask, ↓State.mask_ite, ite_self, implies_true, h0]; done)
    | ((try dsimp only); (repeat' split) <;> first | (simp (maxDischargeDepth := 9) only [↓State.violation_mask, ↓State.mask_ite, ite_self, implies_true, h0]; done) | (simp_all (maxDischargeDepth := 9) only [↓State.violation_mask, ↓State.mask_ite, ite_self, implies_true, h0]; done))

end Sys2Proof.Machine
end

