-- ==== Sys2Proof/Laws/FrameCommitOps.lean ====
section
/-! SUPPORT. What each operation of Machine/CommitOps.lean can change: it keeps every part of the state that it is not named to change. -/

set_option linter.unusedSimpArgs false

namespace Sys2Proof.Machine

theorem State.commitAxis_mask (k : Part → Bool) (s : State) (a : AxisIx) (more : Bool) (h0 : k .tally = false) (h1 : k .axes = false) (h2 : k .portals = false) (h3 : k .fel = false) (h4 : k .ls = false) (h5 : k .kerf = false) (h6 : k .sent = false) (h7 : k .freeSeq = false) :
    (State.commitAxis s a more).mask k = s.mask k := by
  unfold State.commitAxis
  first
    | (simp (maxDischargeDepth := 9) only [↓State.modAxis_mask, ↓State.request_mask, ↓State.mask_ite, ite_self, implies_true, h0, h1, h2, h3, h4, h5, h6, h7]; done)
    | ((try dsimp only); (repeat' split) <;> first | (simp (maxDischargeDepth := 9) only [↓State.modAxis_mask, ↓State.request_mask, ↓State.mask_ite, ite_self, implies_true, h0, h1, h2, h3, h4, h5, h6, h7]; done) | (simp_all (maxDischargeDepth := 9) only [↓State.modAxis_mask, ↓State.request_mask, ↓State.mask_ite, ite_self, implies_true, h0, h1, h2, h3, h4, h5, h6, h7]; done))

theorem State.applyBlock_mask (k : Part → Bool) (s : State) (x0 : Block) (h0 : k .tally = false) (h1 : k .axes = false) (h2 : k .portals = false) (h3 : k .fel = false) (h4 : k .ls = false) (h5 : k .kerf = false) (h6 : k .sent = false) (h7 : k .freeSeq = false) :
    (State.applyBlock s x0).mask k = s.mask k := by
  unfold State.applyBlock
  first
    | (simp (maxDischargeDepth := 9) only [↓State.modAxis_mask, ↓State.modPortal_mask, ↓State.modKerf_mask, ↓State.lsCommit_mask, ↓State.commitAxis_mask, ↓State.mask_ite, ite_self, implies_true, h0, h1, h2, h3, h4, h5, h6, h7]; done)
    | ((try dsimp only); (repeat' split) <;> first | (simp (maxDischargeDepth := 9) only [↓State.modAxis_mask, ↓State.modPortal_mask, ↓State.modKerf_mask, ↓State.lsCommit_mask, ↓State.commitAxis_mask, ↓State.mask_ite, ite_self, implies_true, h0, h1, h2, h3, h4, h5, h6, h7]; done) | (simp_all (maxDischargeDepth := 9) only [↓State.modAxis_mask, ↓State.modPortal_mask, ↓State.modKerf_mask, ↓State.lsCommit_mask, ↓State.commitAxis_mask, ↓State.mask_ite, ite_self, implies_true, h0, h1, h2, h3, h4, h5, h6, h7]; done))

theorem State.copyFault_mask (k : Part → Bool) (s : State) (bs : List Block) (f : FabFault) (h0 : k .fab = false) (h1 : k .tally = false) (h2 : k .freeSeq = false) :
    (State.copyFault s bs f).mask k = s.mask k := by
  unfold State.copyFault
  first
    | (simp (maxDischargeDepth := 9) only [↓State.used_mask, ↓State.fabFault_mask, ↓State.mask_ite, ite_self, implies_true, h0, h1, h2]; done)
    | ((try dsimp only); (repeat' split) <;> first | (simp (maxDischargeDepth := 9) only [↓State.used_mask, ↓State.fabFault_mask, ↓State.mask_ite, ite_self, implies_true, h0, h1, h2]; done) | (simp_all (maxDischargeDepth := 9) only [↓State.used_mask, ↓State.fabFault_mask, ↓State.mask_ite, ite_self, implies_true, h0, h1, h2]; done))

theorem State.commit_mask (k : Part → Bool) (s : State) (b : Block) (f : FabFault) (h0 : k .fab = false) (h1 : k .tally = false) (h2 : k .axes = false) (h3 : k .portals = false) (h4 : k .fel = false) (h5 : k .ls = false) (h6 : k .kerf = false) (h7 : k .sent = false) (h8 : k .freeSeq = false) :
    (State.commit s b f).1.mask k = s.mask k := by
  unfold State.commit
  first
    | (simp (maxDischargeDepth := 9) only [↓State.applyBlock_mask, ↓State.copyFault_mask, ↓State.mask_ite, ite_self, implies_true, ↓State.mask_fst_ite, h0, h1, h2, h3, h4, h5, h6, h7, h8]; done)
    | ((try dsimp only); (repeat' split) <;> first | (simp (maxDischargeDepth := 9) only [↓State.applyBlock_mask, ↓State.copyFault_mask, ↓State.mask_ite, ite_self, implies_true, ↓State.mask_fst_ite, h0, h1, h2, h3, h4, h5, h6, h7, h8]; done) | (simp_all (maxDischargeDepth := 9) only [↓State.applyBlock_mask, ↓State.copyFault_mask, ↓State.mask_ite, ite_self, implies_true, ↓State.mask_fst_ite, h0, h1, h2, h3, h4, h5, h6, h7, h8]; done))

end Sys2Proof.Machine
end

