-- ==== Sys2Proof/Laws/FrameEngineCmd.lean ====
section
/-! SUPPORT. What each operation of Machine/EngineCmd.lean can change: it keeps every part of the state that it is not named to change. -/

set_option linter.unusedSimpArgs false

namespace Sys2Proof.Machine

theorem State.sendPanels_mask (k : Part → Bool) (s : State) (h0 : k .sent = false) :
    (State.sendPanels s).mask k = s.mask k := by
  unfold State.sendPanels
  first
    | (simp (maxDischargeDepth := 9) only [↓State.send_mask, ↓State.mask_ite, ite_self, implies_true, ↓State.mask_forAll, h0]; done)
    | ((try dsimp only); (repeat' split) <;> first | (simp (maxDischargeDepth := 9) only [↓State.send_mask, ↓State.mask_ite, ite_self, implies_true, ↓State.mask_forAll, h0]; done) | (simp_all (maxDischargeDepth := 9) only [↓State.send_mask, ↓State.mask_ite, ite_self, implies_true, ↓State.mask_forAll, h0]; done))
    | ((try dsimp only); refine State.mask_forAll _ _ _ _ fun _ _ => ?_; (repeat' split) <;> simp (maxDischargeDepth := 9) only [↓State.send_mask, ↓State.mask_ite, ite_self, implies_true, ↓State.mask_forAll, h0]; done)
    | ((try dsimp only); refine (State.mask_forAll _ _ _ _ fun _ _ => ?_).trans ?_ <;> (repeat' split) <;> simp (maxDischargeDepth := 9) only [↓State.send_mask, ↓State.mask_ite, ite_self, implies_true, ↓State.mask_forAll, h0]; done)

theorem State.putHeaders_mask (k : Part → Bool) (s : State) (h0 : k .mem = false) :
    (State.putHeaders s).mask k = s.mask k := by
  unfold State.putHeaders
  first
    | (simp (maxDischargeDepth := 9) only [↓State.setBytes_mask, ↓State.mask_ite, ite_self, implies_true, ↓State.mask_forAll, h0]; done)
    | ((try dsimp only); (repeat' split) <;> first | (simp (maxDischargeDepth := 9) only [↓State.setBytes_mask, ↓State.mask_ite, ite_self, implies_true, ↓State.mask_forAll, h0]; done) | (simp_all (maxDischargeDepth := 9) only [↓State.setBytes_mask, ↓State.mask_ite, ite_self, implies_true, ↓State.mask_forAll, h0]; done))
    | ((try dsimp only); refine State.mask_forAll _ _ _ _ fun _ _ => ?_; (repeat' split) <;> simp (maxDischargeDepth := 9) only [↓State.setBytes_mask, ↓State.mask_ite, ite_self, implies_true, ↓State.mask_forAll, h0]; done)
    | ((try dsimp only); refine (State.mask_forAll _ _ _ _ fun _ _ => ?_).trans ?_ <;> (repeat' split) <;> simp (maxDischargeDepth := 9) only [↓State.setBytes_mask, ↓State.mask_ite, ite_self, implies_true, ↓State.mask_forAll, h0]; done)

theorem State.intervalEnd_mask (k : Part → Bool) (s : State) (h0 : k .mem = false) (h1 : k .eng = false) (h2 : k .tally = false) (h3 : k .axes = false) (h4 : k .portals = false) (h5 : k .ls = false) (h6 : k .kerf = false) (h7 : k .jnl = false) :
    (State.intervalEnd s).mask k = s.mask k := by
  unfold State.intervalEnd
  first
    | (simp (maxDischargeDepth := 9) only [↓State.modEng_mask, ↓State.enterStop_mask, ↓State.enterHold_mask, ↓State.mask_ite, ite_self, implies_true, h0, h1, h2, h3, h4, h5, h6, h7]; done)
    | ((try dsimp only); (repeat' split) <;> first | (simp (maxDischargeDepth := 9) only [↓State.modEng_mask, ↓State.enterStop_mask, ↓State.enterHold_mask, ↓State.mask_ite, ite_self, implies_true, h0, h1, h2, h3, h4, h5, h6, h7]; done) | (simp_all (maxDischargeDepth := 9) only [↓State.modEng_mask, ↓State.enterStop_mask, ↓State.enterHold_mask, ↓State.mask_ite, ite_self, implies_true, h0, h1, h2, h3, h4, h5, h6, h7]; done))

theorem State.outputPhase_mask (k : Part → Bool) (s : State) (h0 : k .mono = false) (h1 : k .mem = false) (h2 : k .eng = false) (h3 : k .tally = false) (h4 : k .axes = false) (h5 : k .portals = false) (h6 : k .ls = false) (h7 : k .kerf = false) (h8 : k .fio = false) (h9 : k .jnl = false) (h10 : k .sent = false) (h11 : k .freeSeq = false) :
    (State.outputPhase s).mask k = s.mask k := by
  unfold State.outputPhase
  first
    | (simp (maxDischargeDepth := 9) only [↓State.modEng_mask, ↓State.used_mask, ↓State.pass_mask, ↓State.sendPanels_mask, ↓State.putHeaders_mask, ↓State.intervalEnd_mask, ↓State.mask_with_mono, ↓State.mask_with_mem, ↓State.mask_with_eng, ↓State.mask_with_tally, ↓State.mask_with_axes, ↓State.mask_with_portals, ↓State.mask_with_ls, ↓State.mask_with_kerf, ↓State.mask_with_fio, ↓State.mask_with_jnl, ↓State.mask_with_sent, ↓State.mask_with_freeSeq, ↓State.mask_ite, ite_self, implies_true, h0, h1, h2, h3, h4, h5, h6, h7, h8, h9, h10, h11]; done)
    | ((try dsimp only); (repeat' split) <;> first | (simp (maxDischargeDepth := 9) only [↓State.modEng_mask, ↓State.used_mask, ↓State.pass_mask, ↓State.sendPanels_mask, ↓State.putHeaders_mask, ↓State.intervalEnd_mask, ↓State.mask_with_mono, ↓State.mask_with_mem, ↓State.mask_with_eng, ↓State.mask_with_tally, ↓State.mask_with_axes, ↓State.mask_with_portals, ↓State.mask_with_ls, ↓State.mask_with_kerf, ↓State.mask_with_fio, ↓State.mask_with_jnl, ↓State.mask_with_sent, ↓State.mask_with_freeSeq, ↓State.mask_ite, ite_self, implies_true, h0, h1, h2, h3, h4, h5, h6, h7, h8, h9, h10, h11]; done) | (simp_all (maxDischargeDepth := 9) only [↓State.modEng_mask, ↓State.used_mask, ↓State.pass_mask, ↓State.sendPanels_mask, ↓State.putHeaders_mask, ↓State.intervalEnd_mask, ↓State.mask_with_mono, ↓State.mask_with_mem, ↓State.mask_with_eng, ↓State.mask_with_tally, ↓State.mask_with_axes, ↓State.mask_with_portals, ↓State.mask_with_ls, ↓State.mask_with_kerf, ↓State.mask_with_fio, ↓State.mask_with_jnl, ↓State.mask_with_sent, ↓State.mask_with_freeSeq, ↓State.mask_ite, ite_self, implies_true, h0, h1, h2, h3, h4, h5, h6, h7, h8, h9, h10, h11]; done))
    | (simp only [State.mask, Bool.false_eq_true, ↓reduceIte, h0, h1, h2, h3, h4, h5, h6, h7, h8, h9, h10, h11]; done)
    | (simp (maxDischargeDepth := 9) only [↓State.modEng_mask, ↓State.used_mask, ↓State.pass_mask, ↓State.sendPanels_mask, ↓State.putHeaders_mask, ↓State.intervalEnd_mask, ↓State.mask_with_mono, ↓State.mask_with_mem, ↓State.mask_with_eng, ↓State.mask_with_tally, ↓State.mask_with_axes, ↓State.mask_with_portals, ↓State.mask_with_ls, ↓State.mask_with_kerf, ↓State.mask_with_fio, ↓State.mask_with_jnl, ↓State.mask_with_sent, ↓State.mask_with_freeSeq, ↓State.mask_ite, ite_self, implies_true, h0, h1, h2, h3, h4, h5, h6, h7, h8, h9, h10, h11]; simp only [State.mask, Bool.false_eq_true, ↓reduceIte, h0, h1, h2, h3, h4, h5, h6, h7, h8, h9, h10, h11]; done)

theorem execEoc_mask (k : Part → Bool) (s : State) (h0 : k .mono = false) (h1 : k .tim = false) (h2 : k .fab = false) (h3 : k .mem = false) (h4 : k .eng = false) (h5 : k .tally = false) (h6 : k .axes = false) (h7 : k .portals = false) (h8 : k .fel = false) (h9 : k .sde = false) (h10 : k .ls = false) (h11 : k .lsg = false) (h12 : k .kerf = false) (h13 : k .fio = false) (h14 : k .safe = false) (h15 : k .jnl = false) (h16 : k .net = false) (h17 : k .lnd = false) (h18 : k .tru = false) (h19 : k .pwr = false) (h20 : k .boot = false) (h21 : k .sent = false) (h22 : k .freeSeq = false) :
    (stateOf s (execEoc s)).mask k = s.mask k := by
  unfold execEoc
  first
    | (simp (maxDischargeDepth := 9) only [↓State.insn_mask, ↓State.drainAll_mask, ↓State.illegal_mask, ↓State.outputPhase_mask, ↓stateOf_next, ↓stateOf_ite, ↓State.mask_ite, ite_self, implies_true, h0, h1, h2, h3, h4, h5, h6, h7, h8, h9, h10, h11, h12, h13, h14, h15, h16, h17, h18, h19, h20, h21, h22]; done)
    | ((try dsimp only); (repeat' split) <;> first | (simp (maxDischargeDepth := 9) only [↓State.insn_mask, ↓State.drainAll_mask, ↓State.illegal_mask, ↓State.outputPhase_mask, ↓stateOf_next, ↓stateOf_ite, ↓State.mask_ite, ite_self, implies_true, h0, h1, h2, h3, h4, h5, h6, h7, h8, h9, h10, h11, h12, h13, h14, h15, h16, h17, h18, h19, h20, h21, h22]; done) | (simp_all (maxDischargeDepth := 9) only [↓State.insn_mask, ↓State.drainAll_mask, ↓State.illegal_mask, ↓State.outputPhase_mask, ↓stateOf_next, ↓stateOf_ite, ↓State.mask_ite, ite_self, implies_true, h0, h1, h2, h3, h4, h5, h6, h7, h8, h9, h10, h11, h12, h13, h14, h15, h16, h17, h18, h19, h20, h21, h22]; done))
    | ((try dsimp only); refine State.insn_mask _ _ _ _ h0 h4 fun _ => ?_; (try dsimp only); (repeat' split) <;> simp (maxDischargeDepth := 9) only [↓State.insn_mask, ↓State.drainAll_mask, ↓State.illegal_mask, ↓State.outputPhase_mask, ↓stateOf_next, ↓stateOf_ite, ↓State.mask_ite, ite_self, implies_true, h0, h1, h2, h3, h4, h5, h6, h7, h8, h9, h10, h11, h12, h13, h14, h15, h16, h17, h18, h19, h20, h21, h22]; done)

theorem State.setWords_mask (k : Part → Bool) (s : State) (a : Nat) (ws : List Word) (h0 : k .mem = false) :
    (State.setWords s a ws).mask k = s.mask k := by
  unfold State.setWords
  first
    | (simp (maxDischargeDepth := 9) only [↓State.setBytes_mask, ↓State.mask_ite, ite_self, implies_true, h0]; done)
    | ((try dsimp only); (repeat' split) <;> first | (simp (maxDischargeDepth := 9) only [↓State.setBytes_mask, ↓State.mask_ite, ite_self, implies_true, h0]; done) | (simp_all (maxDischargeDepth := 9) only [↓State.setBytes_mask, ↓State.mask_ite, ite_self, implies_true, h0]; done))

theorem State.copyRegs_mask (k : Part → Bool) (s : State) (off n : Nat) (addr : Nat → Nat) (h0 : k .mem = false) :
    (State.copyRegs s off n addr).mask k = s.mask k := by
  unfold State.copyRegs
  first
    | (simp (maxDischargeDepth := 9) only [↓State.setWords_mask, ↓State.mask_ite, ite_self, implies_true, h0]; done)
    | ((try dsimp only); (repeat' split) <;> first | (simp (maxDischargeDepth := 9) only [↓State.setWords_mask, ↓State.mask_ite, ite_self, implies_true, h0]; done) | (simp_all (maxDischargeDepth := 9) only [↓State.setWords_mask, ↓State.mask_ite, ite_self, implies_true, h0]; done))

theorem State.panelArea_mask (k : Part → Bool) (s : State) (p : PortalIx) (h0 : k .mem = false) :
    (State.panelArea s p).mask k = s.mask k := by
  unfold State.panelArea
  first
    | (simp (maxDischargeDepth := 9) only [↓State.setBytes_mask, ↓State.setWords_mask, ↓State.mask_ite, ite_self, implies_true, h0]; done)
    | ((try dsimp only); (repeat' split) <;> first | (simp (maxDischargeDepth := 9) only [↓State.setBytes_mask, ↓State.setWords_mask, ↓State.mask_ite, ite_self, implies_true, h0]; done) | (simp_all (maxDischargeDepth := 9) only [↓State.setBytes_mask, ↓State.setWords_mask, ↓State.mask_ite, ite_self, implies_true, h0]; done))

theorem State.pdArea_mask (k : Part → Bool) (s : State) (n : Fin 8) (h0 : k .mem = false) :
    (State.pdArea s n).mask k = s.mask k := by
  unfold State.pdArea
  first
    | (simp (maxDischargeDepth := 9) only [↓State.setBytes_mask, ↓State.setWords_mask, ↓State.mask_ite, ite_self, implies_true, h0]; done)
    | ((try dsimp only); (repeat' split) <;> first | (simp (maxDischargeDepth := 9) only [↓State.setBytes_mask, ↓State.setWords_mask, ↓State.mask_ite, ite_self, implies_true, h0]; done) | (simp_all (maxDischargeDepth := 9) only [↓State.setBytes_mask, ↓State.setWords_mask, ↓State.mask_ite, ite_self, implies_true, h0]; done))

theorem State.inputImage_mask (k : Part → Bool) (s : State) (h0 : k .mem = false) :
    (State.inputImage s).mask k = s.mask k := by
  unfold State.inputImage
  first
    | (simp (maxDischargeDepth := 9) only [↓State.setBytes_mask, ↓State.setWords_mask, ↓State.copyRegs_mask, ↓State.panelArea_mask, ↓State.pdArea_mask, ↓State.mask_with_mem, ↓State.mask_ite, ite_self, implies_true, ↓State.mask_forAll, h0]; done)
    | ((try dsimp only); (repeat' split) <;> first | (simp (maxDischargeDepth := 9) only [↓State.setBytes_mask, ↓State.setWords_mask, ↓State.copyRegs_mask, ↓State.panelArea_mask, ↓State.pdArea_mask, ↓State.mask_with_mem, ↓State.mask_ite, ite_self, implies_true, ↓State.mask_forAll, h0]; done) | (simp_all (maxDischargeDepth := 9) only [↓State.setBytes_mask, ↓State.setWords_mask, ↓State.copyRegs_mask, ↓State.panelArea_mask, ↓State.pdArea_mask, ↓State.mask_with_mem, ↓State.mask_ite, ite_self, implies_true, ↓State.mask_forAll, h0]; done))
    | (simp only [State.mask, Bool.false_eq_true, ↓reduceIte, h0]; done)
    | (simp (maxDischargeDepth := 9) only [↓State.setBytes_mask, ↓State.setWords_mask, ↓State.copyRegs_mask, ↓State.panelArea_mask, ↓State.pdArea_mask, ↓State.mask_with_mem, ↓State.mask_ite, ite_self, implies_true, ↓State.mask_forAll, h0]; simp only [State.mask, Bool.false_eq_true, ↓reduceIte, h0]; done)
    | ((try dsimp only); refine State.mask_forAll _ _ _ _ fun _ _ => ?_; (repeat' split) <;> simp (maxDischargeDepth := 9) only [↓State.setBytes_mask, ↓State.setWords_mask, ↓State.copyRegs_mask, ↓State.panelArea_mask, ↓State.pdArea_mask, ↓State.mask_with_mem, ↓State.mask_ite, ite_self, implies_true, ↓State.mask_forAll, h0]; done)
    | ((try dsimp only); refine (State.mask_forAll _ _ _ _ fun _ _ => ?_).trans ?_ <;> (repeat' split) <;> simp (maxDischargeDepth := 9) only [↓State.setBytes_mask, ↓State.setWords_mask, ↓State.copyRegs_mask, ↓State.panelArea_mask, ↓State.pdArea_mask, ↓State.mask_with_mem, ↓State.mask_ite, ite_self, implies_true, ↓State.mask_forAll, h0]; done)

theorem State.panelAges_mask (k : Part → Bool) (s : State) (h0 : k .eng = false) :
    (State.panelAges s).mask k = s.mask k := by
  unfold State.panelAges
  first
    | (simp (maxDischargeDepth := 9) only [↓State.modEng_mask, ↓State.mask_ite, ite_self, implies_true, h0]; done)
    | ((try dsimp only); (repeat' split) <;> first | (simp (maxDischargeDepth := 9) only [↓State.modEng_mask, ↓State.mask_ite, ite_self, implies_true, h0]; done) | (simp_all (maxDischargeDepth := 9) only [↓State.modEng_mask, ↓State.mask_ite, ite_self, implies_true, h0]; done))

theorem execSnapshot_mask (k : Part → Bool) (s : State) (h0 : k .mono = false) (h1 : k .mem = false) (h2 : k .eng = false) (h3 : k .freeSeq = false) :
    (stateOf s (execSnapshot s)).mask k = s.mask k := by
  unfold execSnapshot
  first
    | (simp (maxDischargeDepth := 9) only [↓State.modEng_mask, ↓State.used_mask, ↓State.upTo_mask, ↓State.pass_mask, ↓State.inputImage_mask, ↓State.panelAges_mask, ↓stateOf_next, ↓stateOf_ite, ↓State.mask_ite, ite_self, implies_true, h0, h1, h2, h3]; done)
    | ((try dsimp only); (repeat' split) <;> first | (simp (maxDischargeDepth := 9) only [↓State.modEng_mask, ↓State.used_mask, ↓State.upTo_mask, ↓State.pass_mask, ↓State.inputImage_mask, ↓State.panelAges_mask, ↓stateOf_next, ↓stateOf_ite, ↓State.mask_ite, ite_self, implies_true, h0, h1, h2, h3]; done) | (simp_all (maxDischargeDepth := 9) only [↓State.modEng_mask, ↓State.used_mask, ↓State.upTo_mask, ↓State.pass_mask, ↓State.inputImage_mask, ↓State.panelAges_mask, ↓stateOf_next, ↓stateOf_ite, ↓State.mask_ite, ite_self, implies_true, h0, h1, h2, h3]; done))

theorem execPlwaitExpiry_mask (k : Part → Bool) (s : State) (h0 : k .mono = false) :
    (stateOf s (execPlwaitExpiry s)).mask k = s.mask k := by
  unfold execPlwaitExpiry
  first
    | (simp (maxDischargeDepth := 9) only [↓State.upTo_mask, ↓stateOf_next, ↓stateOf_ite, ↓State.mask_ite, ite_self, implies_true, h0]; done)
    | ((try dsimp only); (repeat' split) <;> first | (simp (maxDischargeDepth := 9) only [↓State.upTo_mask, ↓stateOf_next, ↓stateOf_ite, ↓State.mask_ite, ite_self, implies_true, h0]; done) | (simp_all (maxDischargeDepth := 9) only [↓State.upTo_mask, ↓stateOf_next, ↓stateOf_ite, ↓State.mask_ite, ite_self, implies_true, h0]; done))

theorem execPanelReply_mask (k : Part → Bool) (p : PortalIx) (b : List Byte) (s : State) (h0 : k .eng = false) (h1 : k .net = false) :
    (stateOf s (execPanelReply p b s)).mask k = s.mask k := by
  unfold execPanelReply
  first
    | (simp (maxDischargeDepth := 9) only [↓State.modEng_mask, ↓State.modSys_mask, ↓State.dropFrame_mask, ↓stateOf_next, ↓stateOf_ite, ↓State.mask_with_eng, ↓State.mask_with_net, ↓State.mask_ite, ite_self, implies_true, h0, h1]; done)
    | ((try dsimp only); (repeat' split) <;> first | (simp (maxDischargeDepth := 9) only [↓State.modEng_mask, ↓State.modSys_mask, ↓State.dropFrame_mask, ↓stateOf_next, ↓stateOf_ite, ↓State.mask_with_eng, ↓State.mask_with_net, ↓State.mask_ite, ite_self, implies_true, h0, h1]; done) | (simp_all (maxDischargeDepth := 9) only [↓State.modEng_mask, ↓State.modSys_mask, ↓State.dropFrame_mask, ↓stateOf_next, ↓stateOf_ite, ↓State.mask_with_eng, ↓State.mask_with_net, ↓State.mask_ite, ite_self, implies_true, h0, h1]; done))
    | (simp only [State.mask, Bool.false_eq_true, ↓reduceIte, h0, h1]; done)
    | (simp (maxDischargeDepth := 9) only [↓State.modEng_mask, ↓State.modSys_mask, ↓State.dropFrame_mask, ↓stateOf_next, ↓stateOf_ite, ↓State.mask_with_eng, ↓State.mask_with_net, ↓State.mask_ite, ite_self, implies_true, h0, h1]; simp only [State.mask, Bool.false_eq_true, ↓reduceIte, h0, h1]; done)

theorem execPanelTimeout_mask (k : Part → Bool) (p : PortalIx) (s : State) (h0 : k .mono = false) (h1 : k .eng = false) (h2 : k .tally = false) :
    (stateOf s (execPanelTimeout p s)).mask k = s.mask k := by
  unfold execPanelTimeout
  first
    | (simp (maxDischargeDepth := 9) only [↓State.modEng_mask, ↓State.upTo_mask, ↓State.event_mask, ↓stateOf_next, ↓stateOf_ite, ↓State.mask_ite, ite_self, implies_true, h0, h1, h2]; done)
    | ((try dsimp only); (repeat' split) <;> first | (simp (maxDischargeDepth := 9) only [↓State.modEng_mask, ↓State.upTo_mask, ↓State.event_mask, ↓stateOf_next, ↓stateOf_ite, ↓State.mask_ite, ite_self, implies_true, h0, h1, h2]; done) | (simp_all (maxDischargeDepth := 9) only [↓State.modEng_mask, ↓State.upTo_mask, ↓State.event_mask, ↓stateOf_next, ↓stateOf_ite, ↓State.mask_ite, ite_self, implies_true, h0, h1, h2]; done))

theorem execPanelFrameRepeat_mask (k : Part → Bool) (s : State) (h0 : k .mono = false) (h1 : k .eng = false) (h2 : k .sent = false) :
    (stateOf s (execPanelFrameRepeat s)).mask k = s.mask k := by
  unfold execPanelFrameRepeat
  first
    | (simp (maxDischargeDepth := 9) only [↓State.modEng_mask, ↓State.upTo_mask, ↓State.sendPanels_mask, ↓stateOf_next, ↓stateOf_ite, ↓State.mask_ite, ite_self, implies_true, h0, h1, h2]; done)
    | ((try dsimp only); (repeat' split) <;> first | (simp (maxDischargeDepth := 9) only [↓State.modEng_mask, ↓State.upTo_mask, ↓State.sendPanels_mask, ↓stateOf_next, ↓stateOf_ite, ↓State.mask_ite, ite_self, implies_true, h0, h1, h2]; done) | (simp_all (maxDischargeDepth := 9) only [↓State.modEng_mask, ↓State.upTo_mask, ↓State.sendPanels_mask, ↓stateOf_next, ↓stateOf_ite, ↓State.mask_ite, ite_self, implies_true, h0, h1, h2]; done))

theorem execCalloutStart_mask (k : Part → Bool) (s : State) (h0 : k .mono = false) (h1 : k .eng = false) :
    (stateOf s (execCalloutStart s)).mask k = s.mask k := by
  unfold execCalloutStart
  first
    | (simp (maxDischargeDepth := 9) only [↓State.modEng_mask, ↓State.pass_mask, ↓stateOf_next, ↓stateOf_ite, ↓State.mask_ite, ite_self, implies_true, h0, h1]; done)
    | ((try dsimp only); (repeat' split) <;> first | (simp (maxDischargeDepth := 9) only [↓State.modEng_mask, ↓State.pass_mask, ↓stateOf_next, ↓stateOf_ite, ↓State.mask_ite, ite_self, implies_true, h0, h1]; done) | (simp_all (maxDischargeDepth := 9) only [↓State.modEng_mask, ↓State.pass_mask, ↓stateOf_next, ↓stateOf_ite, ↓State.mask_ite, ite_self, implies_true, h0, h1]; done))

theorem execRetc_mask (k : Part → Bool) (s : State) (h0 : k .mono = false) (h1 : k .tim = false) (h2 : k .fab = false) (h3 : k .mem = false) (h4 : k .eng = false) (h5 : k .tally = false) (h6 : k .axes = false) (h7 : k .portals = false) (h8 : k .fel = false) (h9 : k .sde = false) (h10 : k .ls = false) (h11 : k .lsg = false) (h12 : k .kerf = false) (h13 : k .fio = false) (h14 : k .safe = false) (h15 : k .jnl = false) (h16 : k .net = false) (h17 : k .lnd = false) (h18 : k .tru = false) (h19 : k .pwr = false) (h20 : k .boot = false) (h21 : k .sent = false) (h22 : k .freeSeq = false) :
    (stateOf s (execRetc s)).mask k = s.mask k := by
  unfold execRetc
  first
    | (simp (maxDischargeDepth := 9) only [↓State.modEng_mask, ↓State.insn_mask, ↓State.illegal_mask, ↓stateOf_next, ↓stateOf_ite, ↓State.mask_ite, ite_self, implies_true, h0, h1, h2, h3, h4, h5, h6, h7, h8, h9, h10, h11, h12, h13, h14, h15, h16, h17, h18, h19, h20, h21, h22]; done)
    | ((try dsimp only); (repeat' split) <;> first | (simp (maxDischargeDepth := 9) only [↓State.modEng_mask, ↓State.insn_mask, ↓State.illegal_mask, ↓stateOf_next, ↓stateOf_ite, ↓State.mask_ite, ite_self, implies_true, h0, h1, h2, h3, h4, h5, h6, h7, h8, h9, h10, h11, h12, h13, h14, h15, h16, h17, h18, h19, h20, h21, h22]; done) | (simp_all (maxDischargeDepth := 9) only [↓State.modEng_mask, ↓State.insn_mask, ↓State.illegal_mask, ↓stateOf_next, ↓stateOf_ite, ↓State.mask_ite, ite_self, implies_true, h0, h1, h2, h3, h4, h5, h6, h7, h8, h9, h10, h11, h12, h13, h14, h15, h16, h17, h18, h19, h20, h21, h22]; done))
    | ((try dsimp only); refine State.insn_mask _ _ _ _ h0 h4 fun _ => ?_; (try dsimp only); (repeat' split) <;> simp (maxDischargeDepth := 9) only [↓State.modEng_mask, ↓State.insn_mask, ↓State.illegal_mask, ↓stateOf_next, ↓stateOf_ite, ↓State.mask_ite, ite_self, implies_true, h0, h1, h2, h3, h4, h5, h6, h7, h8, h9, h10, h11, h12, h13, h14, h15, h16, h17, h18, h19, h20, h21, h22]; done)

theorem execCalloutBudgetExpiry_mask (k : Part → Bool) (s : State) (h0 : k .tim = false) (h1 : k .fab = false) (h2 : k .mem = false) (h3 : k .eng = false) (h4 : k .tally = false) (h5 : k .axes = false) (h6 : k .portals = false) (h7 : k .fel = false) (h8 : k .sde = false) (h9 : k .ls = false) (h10 : k .lsg = false) (h11 : k .kerf = false) (h12 : k .fio = false) (h13 : k .safe = false) (h14 : k .jnl = false) (h15 : k .net = false) (h16 : k .lnd = false) (h17 : k .tru = false) (h18 : k .pwr = false) (h19 : k .boot = false) (h20 : k .sent = false) (h21 : k .freeSeq = false) :
    (stateOf s (execCalloutBudgetExpiry s)).mask k = s.mask k := by
  unfold execCalloutBudgetExpiry
  first
    | (simp (maxDischargeDepth := 9) only [↓State.enterStop_mask, ↓State.drainAll_mask, ↓stateOf_next, ↓stateOf_ite, ↓State.mask_ite, ite_self, implies_true, h0, h1, h2, h3, h4, h5, h6, h7, h8, h9, h10, h11, h12, h13, h14, h15, h16, h17, h18, h19, h20, h21]; done)
    | ((try dsimp only); (repeat' split) <;> first | (simp (maxDischargeDepth := 9) only [↓State.enterStop_mask, ↓State.drainAll_mask, ↓stateOf_next, ↓stateOf_ite, ↓State.mask_ite, ite_self, implies_true, h0, h1, h2, h3, h4, h5, h6, h7, h8, h9, h10, h11, h12, h13, h14, h15, h16, h17, h18, h19, h20, h21]; done) | (simp_all (maxDischargeDepth := 9) only [↓State.enterStop_mask, ↓State.drainAll_mask, ↓stateOf_next, ↓stateOf_ite, ↓State.mask_ite, ite_self, implies_true, h0, h1, h2, h3, h4, h5, h6, h7, h8, h9, h10, h11, h12, h13, h14, h15, h16, h17, h18, h19, h20, h21]; done))

theorem execCycleWatchdogExpiry_mask (k : Part → Bool) (s : State) (h0 : k .mono = false) (h1 : k .tim = false) (h2 : k .fab = false) (h3 : k .mem = false) (h4 : k .eng = false) (h5 : k .tally = false) (h6 : k .axes = false) (h7 : k .portals = false) (h8 : k .fel = false) (h9 : k .sde = false) (h10 : k .ls = false) (h11 : k .lsg = false) (h12 : k .kerf = false) (h13 : k .fio = false) (h14 : k .safe = false) (h15 : k .jnl = false) (h16 : k .net = false) (h17 : k .lnd = false) (h18 : k .tru = false) (h19 : k .pwr = false) (h20 : k .boot = false) (h21 : k .sent = false) (h22 : k .freeSeq = false) :
    (stateOf s (execCycleWatchdogExpiry s)).mask k = s.mask k := by
  unfold execCycleWatchdogExpiry
  first
    | (simp (maxDischargeDepth := 9) only [↓State.upTo_mask, ↓State.enterStop_mask, ↓State.drainAll_mask, ↓stateOf_next, ↓stateOf_ite, ↓State.mask_ite, ite_self, implies_true, h0, h1, h2, h3, h4, h5, h6, h7, h8, h9, h10, h11, h12, h13, h14, h15, h16, h17, h18, h19, h20, h21, h22]; done)
    | ((try dsimp only); (repeat' split) <;> first | (simp (maxDischargeDepth := 9) only [↓State.upTo_mask, ↓State.enterStop_mask, ↓State.drainAll_mask, ↓stateOf_next, ↓stateOf_ite, ↓State.mask_ite, ite_self, implies_true, h0, h1, h2, h3, h4, h5, h6, h7, h8, h9, h10, h11, h12, h13, h14, h15, h16, h17, h18, h19, h20, h21, h22]; done) | (simp_all (maxDischargeDepth := 9) only [↓State.upTo_mask, ↓State.enterStop_mask, ↓State.drainAll_mask, ↓stateOf_next, ↓stateOf_ite, ↓State.mask_ite, ite_self, implies_true, h0, h1, h2, h3, h4, h5, h6, h7, h8, h9, h10, h11, h12, h13, h14, h15, h16, h17, h18, h19, h20, h21, h22]; done))

theorem execProgStop_mask (k : Part → Bool) (s : State) (h0 : k .tim = false) (h1 : k .fab = false) (h2 : k .mem = false) (h3 : k .eng = false) (h4 : k .tally = false) (h5 : k .axes = false) (h6 : k .portals = false) (h7 : k .fel = false) (h8 : k .sde = false) (h9 : k .ls = false) (h10 : k .lsg = false) (h11 : k .kerf = false) (h12 : k .fio = false) (h13 : k .safe = false) (h14 : k .jnl = false) (h15 : k .net = false) (h16 : k .lnd = false) (h17 : k .tru = false) (h18 : k .pwr = false) (h19 : k .boot = false) (h20 : k .sent = false) (h21 : k .freeSeq = false) :
    (stateOf s (execProgStop s)).mask k = s.mask k := by
  unfold execProgStop
  first
    | (simp (maxDischargeDepth := 9) only [↓State.enterStop_mask, ↓State.drainAll_mask, ↓stateOf_next, ↓stateOf_ite, ↓State.mask_ite, ite_self, implies_true, h0, h1, h2, h3, h4, h5, h6, h7, h8, h9, h10, h11, h12, h13, h14, h15, h16, h17, h18, h19, h20, h21]; done)
    | ((try dsimp only); (repeat' split) <;> first | (simp (maxDischargeDepth := 9) only [↓State.enterStop_mask, ↓State.drainAll_mask, ↓stateOf_next, ↓stateOf_ite, ↓State.mask_ite, ite_self, implies_true, h0, h1, h2, h3, h4, h5, h6, h7, h8, h9, h10, h11, h12, h13, h14, h15, h16, h17, h18, h19, h20, h21]; done) | (simp_all (maxDischargeDepth := 9) only [↓State.enterStop_mask, ↓State.drainAll_mask, ↓stateOf_next, ↓stateOf_ite, ↓State.mask_ite, ite_self, implies_true, h0, h1, h2, h3, h4, h5, h6, h7, h8, h9, h10, h11, h12, h13, h14, h15, h16, h17, h18, h19, h20, h21]; done))

theorem execIllegalWord_mask (k : Part → Bool) (w : Word) (s : State) (h0 : k .tim = false) (h1 : k .fab = false) (h2 : k .mem = false) (h3 : k .eng = false) (h4 : k .tally = false) (h5 : k .axes = false) (h6 : k .portals = false) (h7 : k .fel = false) (h8 : k .sde = false) (h9 : k .ls = false) (h10 : k .lsg = false) (h11 : k .kerf = false) (h12 : k .fio = false) (h13 : k .safe = false) (h14 : k .jnl = false) (h15 : k .net = false) (h16 : k .lnd = false) (h17 : k .tru = false) (h18 : k .pwr = false) (h19 : k .boot = false) (h20 : k .sent = false) (h21 : k .freeSeq = false) :
    (stateOf s (execIllegalWord w s)).mask k = s.mask k := by
  unfold execIllegalWord
  first
    | (simp (maxDischargeDepth := 9) only [↓State.illegal_mask, ↓stateOf_next, ↓stateOf_ite, ↓State.mask_ite, ite_self, implies_true, h0, h1, h2, h3, h4, h5, h6, h7, h8, h9, h10, h11, h12, h13, h14, h15, h16, h17, h18, h19, h20, h21]; done)
    | ((try dsimp only); (repeat' split) <;> first | (simp (maxDischargeDepth := 9) only [↓State.illegal_mask, ↓stateOf_next, ↓stateOf_ite, ↓State.mask_ite, ite_self, implies_true, h0, h1, h2, h3, h4, h5, h6, h7, h8, h9, h10, h11, h12, h13, h14, h15, h16, h17, h18, h19, h20, h21]; done) | (simp_all (maxDischargeDepth := 9) only [↓State.illegal_mask, ↓stateOf_next, ↓stateOf_ite, ↓State.mask_ite, ite_self, implies_true, h0, h1, h2, h3, h4, h5, h6, h7, h8, h9, h10, h11, h12, h13, h14, h15, h16, h17, h18, h19, h20, h21]; done))

theorem execFetchOutsideCode_mask (k : Part → Bool) (s : State) (h0 : k .tim = false) (h1 : k .fab = false) (h2 : k .mem = false) (h3 : k .eng = false) (h4 : k .tally = false) (h5 : k .axes = false) (h6 : k .portals = false) (h7 : k .fel = false) (h8 : k .sde = false) (h9 : k .ls = false) (h10 : k .lsg = false) (h11 : k .kerf = false) (h12 : k .fio = false) (h13 : k .safe = false) (h14 : k .jnl = false) (h15 : k .net = false) (h16 : k .lnd = false) (h17 : k .tru = false) (h18 : k .pwr = false) (h19 : k .boot = false) (h20 : k .sent = false) (h21 : k .freeSeq = false) :
    (stateOf s (execFetchOutsideCode s)).mask k = s.mask k := by
  unfold execFetchOutsideCode
  first
    | (simp (maxDischargeDepth := 9) only [↓State.enterStop_mask, ↓State.drainAll_mask, ↓stateOf_next, ↓stateOf_ite, ↓State.mask_ite, ite_self, implies_true, h0, h1, h2, h3, h4, h5, h6, h7, h8, h9, h10, h11, h12, h13, h14, h15, h16, h17, h18, h19, h20, h21]; done)
    | ((try dsimp only); (repeat' split) <;> first | (simp (maxDischargeDepth := 9) only [↓State.enterStop_mask, ↓State.drainAll_mask, ↓stateOf_next, ↓stateOf_ite, ↓State.mask_ite, ite_self, implies_true, h0, h1, h2, h3, h4, h5, h6, h7, h8, h9, h10, h11, h12, h13, h14, h15, h16, h17, h18, h19, h20, h21]; done) | (simp_all (maxDischargeDepth := 9) only [↓State.enterStop_mask, ↓State.drainAll_mask, ↓stateOf_next, ↓stateOf_ite, ↓State.mask_ite, ite_self, implies_true, h0, h1, h2, h3, h4, h5, h6, h7, h8, h9, h10, h11, h12, h13, h14, h15, h16, h17, h18, h19, h20, h21]; done))

theorem execAutomaticRestart_mask (k : Part → Bool) (s : State) (h0 : k .mono = false) (h1 : k .tim = false) (h2 : k .fab = false) (h3 : k .mem = false) (h4 : k .eng = false) (h5 : k .tally = false) (h6 : k .axes = false) (h7 : k .portals = false) (h8 : k .fel = false) (h9 : k .sde = false) (h10 : k .ls = false) (h11 : k .lsg = false) (h12 : k .kerf = false) (h13 : k .fio = false) (h14 : k .safe = false) (h15 : k .jnl = false) (h16 : k .net = false) (h17 : k .lnd = false) (h18 : k .tru = false) (h19 : k .pwr = false) (h20 : k .boot = false) (h21 : k .sent = false) (h22 : k .freeSeq = false) :
    (stateOf s (execAutomaticRestart s)).mask k = s.mask k := by
  unfold execAutomaticRestart
  first
    | (simp (maxDischargeDepth := 9) only [↓State.modEng_mask, ↓State.upTo_mask, ↓State.enterRun_mask, ↓State.drainAll_mask, ↓stateOf_next, ↓stateOf_ite, ↓State.mask_ite, ite_self, implies_true, h0, h1, h2, h3, h4, h5, h6, h7, h8, h9, h10, h11, h12, h13, h14, h15, h16, h17, h18, h19, h20, h21, h22]; done)
    | ((try dsimp only); (repeat' split) <;> first | (simp (maxDischargeDepth := 9) only [↓State.modEng_mask, ↓State.upTo_mask, ↓State.enterRun_mask, ↓State.drainAll_mask, ↓stateOf_next, ↓stateOf_ite, ↓State.mask_ite, ite_self, implies_true, h0, h1, h2, h3, h4, h5, h6, h7, h8, h9, h10, h11, h12, h13, h14, h15, h16, h17, h18, h19, h20, h21, h22]; done) | (simp_all (maxDischargeDepth := 9) only [↓State.modEng_mask, ↓State.upTo_mask, ↓State.enterRun_mask, ↓State.drainAll_mask, ↓stateOf_next, ↓stateOf_ite, ↓State.mask_ite, ite_self, implies_true, h0, h1, h2, h3, h4, h5, h6, h7, h8, h9, h10, h11, h12, h13, h14, h15, h16, h17, h18, h19, h20, h21, h22]; done))

theorem execBreakpoint_mask (k : Part → Bool) (s : State) (h0 : k .eng = false) (h1 : k .axes = false) (h2 : k .portals = false) :
    (stateOf s (execBreakpoint s)).mask k = s.mask k := by
  unfold execBreakpoint
  first
    | (simp (maxDischargeDepth := 9) only [↓State.enterHold_mask, ↓stateOf_next, ↓stateOf_ite, ↓State.mask_ite, ite_self, implies_true, h0, h1, h2]; done)
    | ((try dsimp only); (repeat' split) <;> first | (simp (maxDischargeDepth := 9) only [↓State.enterHold_mask, ↓stateOf_next, ↓stateOf_ite, ↓State.mask_ite, ite_self, implies_true, h0, h1, h2]; done) | (simp_all (maxDischargeDepth := 9) only [↓State.enterHold_mask, ↓stateOf_next, ↓stateOf_ite, ↓State.mask_ite, ite_self, implies_true, h0, h1, h2]; done))

end Sys2Proof.Machine
end

