-- ==== Sys2Proof/Laws/FrameFabricCmd.lean ====
section
/-! SUPPORT. What each operation of Machine/FabricCmd.lean can change: it keeps every part of the state that it is not named to change. -/

set_option linter.unusedSimpArgs false

namespace Sys2Proof.Machine

theorem State.fabFail_mask (k : Part → Bool) (s : State) (src : Fin 7) (f : FabFault) (addr : Word) (h0 : k .tim = false) (h1 : k .fab = false) (h2 : k .mem = false) (h3 : k .eng = false) (h4 : k .tally = false) (h5 : k .axes = false) (h6 : k .portals = false) (h7 : k .fel = false) (h8 : k .sde = false) (h9 : k .ls = false) (h10 : k .lsg = false) (h11 : k .kerf = false) (h12 : k .fio = false) (h13 : k .safe = false) (h14 : k .jnl = false) (h15 : k .net = false) (h16 : k .lnd = false) (h17 : k .tru = false) (h18 : k .pwr = false) (h19 : k .boot = false) (h20 : k .sent = false) (h21 : k .freeSeq = false) :
    (State.fabFail s src f addr).mask k = s.mask k := by
  unfold State.fabFail
  first
    | (simp (maxDischargeDepth := 9) only [↓State.fabFault_mask, ↓State.enterStop_mask, ↓State.drainAll_mask, ↓State.mask_ite, ite_self, implies_true, h0, h1, h2, h3, h4, h5, h6, h7, h8, h9, h10, h11, h12, h13, h14, h15, h16, h17, h18, h19, h20, h21]; done)
    | ((try dsimp only); (repeat' split) <;> first | (simp (maxDischargeDepth := 9) only [↓State.fabFault_mask, ↓State.enterStop_mask, ↓State.drainAll_mask, ↓State.mask_ite, ite_self, implies_true, h0, h1, h2, h3, h4, h5, h6, h7, h8, h9, h10, h11, h12, h13, h14, h15, h16, h17, h18, h19, h20, h21]; done) | (simp_all (maxDischargeDepth := 9) only [↓State.fabFault_mask, ↓State.enterStop_mask, ↓State.drainAll_mask, ↓State.mask_ite, ite_self, implies_true, h0, h1, h2, h3, h4, h5, h6, h7, h8, h9, h10, h11, h12, h13, h14, h15, h16, h17, h18, h19, h20, h21]; done))

theorem execFabricOperationComplete_mask (k : Part → Bool) (src : Fin 7) (e : FabEnd) (addr : Word) (s : State) (h0 : k .tim = false) (h1 : k .fab = false) (h2 : k .mem = false) (h3 : k .eng = false) (h4 : k .tally = false) (h5 : k .axes = false) (h6 : k .portals = false) (h7 : k .fel = false) (h8 : k .sde = false) (h9 : k .ls = false) (h10 : k .lsg = false) (h11 : k .kerf = false) (h12 : k .fio = false) (h13 : k .safe = false) (h14 : k .jnl = false) (h15 : k .net = false) (h16 : k .lnd = false) (h17 : k .tru = false) (h18 : k .pwr = false) (h19 : k .boot = false) (h20 : k .sent = false) (h21 : k .freeSeq = false) :
    (stateOf s (execFabricOperationComplete src e addr s)).mask k = s.mask k := by
  unfold execFabricOperationComplete
  first
    | (simp (maxDischargeDepth := 9) only [↓State.fabViolation_mask, ↓State.violation_mask, ↓State.fabFail_mask, ↓stateOf_next, ↓stateOf_ite, ↓State.mask_with_tim, ↓State.mask_with_fab, ↓State.mask_with_mem, ↓State.mask_with_eng, ↓State.mask_with_tally, ↓State.mask_with_axes, ↓State.mask_with_portals, ↓State.mask_with_fel, ↓State.mask_with_sde, ↓State.mask_with_ls, ↓State.mask_with_lsg, ↓State.mask_with_kerf, ↓State.mask_with_fio, ↓State.mask_with_safe, ↓State.mask_with_jnl, ↓State.mask_with_net, ↓State.mask_with_lnd, ↓State.mask_with_tru, ↓State.mask_with_pwr, ↓State.mask_with_boot, ↓State.mask_with_sent, ↓State.mask_with_freeSeq, ↓State.mask_ite, ite_self, implies_true, h0, h1, h2, h3, h4, h5, h6, h7, h8, h9, h10, h11, h12, h13, h14, h15, h16, h17, h18, h19, h20, h21]; done)
    | ((try dsimp only); (repeat' split) <;> first | (simp (maxDischargeDepth := 9) only [↓State.fabViolation_mask, ↓State.violation_mask, ↓State.fabFail_mask, ↓stateOf_next, ↓stateOf_ite, ↓State.mask_with_tim, ↓State.mask_with_fab, ↓State.mask_with_mem, ↓State.mask_with_eng, ↓State.mask_with_tally, ↓State.mask_with_axes, ↓State.mask_with_portals, ↓State.mask_with_fel, ↓State.mask_with_sde, ↓State.mask_with_ls, ↓State.mask_with_lsg, ↓State.mask_with_kerf, ↓State.mask_with_fio, ↓State.mask_with_safe, ↓State.mask_with_jnl, ↓State.mask_with_net, ↓State.mask_with_lnd, ↓State.mask_with_tru, ↓State.mask_with_pwr, ↓State.mask_with_boot, ↓State.mask_with_sent, ↓State.mask_with_freeSeq, ↓State.mask_ite, ite_self, implies_true, h0, h1, h2, h3, h4, h5, h6, h7, h8, h9, h10, h11, h12, h13, h14, h15, h16, h17, h18, h19, h20, h21]; done) | (simp_all (maxDischargeDepth := 9) only [↓State.fabViolation_mask, ↓State.violation_mask, ↓State.fabFail_mask, ↓stateOf_next, ↓stateOf_ite, ↓State.mask_with_tim, ↓State.mask_with_fab, ↓State.mask_with_mem, ↓State.mask_with_eng, ↓State.mask_with_tally, ↓State.mask_with_axes, ↓State.mask_with_portals, ↓State.mask_with_fel, ↓State.mask_with_sde, ↓State.mask_with_ls, ↓State.mask_with_lsg, ↓State.mask_with_kerf, ↓State.mask_with_fio, ↓State.mask_with_safe, ↓State.mask_with_jnl, ↓State.mask_with_net, ↓State.mask_with_lnd, ↓State.mask_with_tru, ↓State.mask_with_pwr, ↓State.mask_with_boot, ↓State.mask_with_sent, ↓State.mask_with_freeSeq, ↓State.mask_ite, ite_self, implies_true, h0, h1, h2, h3, h4, h5, h6, h7, h8, h9, h10, h11, h12, h13, h14, h15, h16, h17, h18, h19, h20, h21]; done))
    | (simp only [State.mask, Bool.false_eq_true, ↓reduceIte, h0, h1, h2, h3, h4, h5, h6, h7, h8, h9, h10, h11, h12, h13, h14, h15, h16, h17, h18, h19, h20, h21]; done)
    | (simp (maxDischargeDepth := 9) only [↓State.fabViolation_mask, ↓State.violation_mask, ↓State.fabFail_mask, ↓stateOf_next, ↓stateOf_ite, ↓State.mask_with_tim, ↓State.mask_with_fab, ↓State.mask_with_mem, ↓State.mask_with_eng, ↓State.mask_with_tally, ↓State.mask_with_axes, ↓State.mask_with_portals, ↓State.mask_with_fel, ↓State.mask_with_sde, ↓State.mask_with_ls, ↓State.mask_with_lsg, ↓State.mask_with_kerf, ↓State.mask_with_fio, ↓State.mask_with_safe, ↓State.mask_with_jnl, ↓State.mask_with_net, ↓State.mask_with_lnd, ↓State.mask_with_tru, ↓State.mask_with_pwr, ↓State.mask_with_boot, ↓State.mask_with_sent, ↓State.mask_with_freeSeq, ↓State.mask_ite, ite_self, implies_true, h0, h1, h2, h3, h4, h5, h6, h7, h8, h9, h10, h11, h12, h13, h14, h15, h16, h17, h18, h19, h20, h21]; simp only [State.mask, Bool.false_eq_true, ↓reduceIte, h0, h1, h2, h3, h4, h5, h6, h7, h8, h9, h10, h11, h12, h13, h14, h15, h16, h17, h18, h19, h20, h21]; done)

theorem execFabricTimeout_mask (k : Part → Bool) (src : Fin 7) (addr : Word) (s : State) (h0 : k .tim = false) (h1 : k .fab = false) (h2 : k .mem = false) (h3 : k .eng = false) (h4 : k .tally = false) (h5 : k .axes = false) (h6 : k .portals = false) (h7 : k .fel = false) (h8 : k .sde = false) (h9 : k .ls = false) (h10 : k .lsg = false) (h11 : k .kerf = false) (h12 : k .fio = false) (h13 : k .safe = false) (h14 : k .jnl = false) (h15 : k .net = false) (h16 : k .lnd = false) (h17 : k .tru = false) (h18 : k .pwr = false) (h19 : k .boot = false) (h20 : k .sent = false) (h21 : k .freeSeq = false) :
    (stateOf s (execFabricTimeout src addr s)).mask k = s.mask k := by
  unfold execFabricTimeout
  first
    | (simp (maxDischargeDepth := 9) only [↓State.fabFail_mask, ↓stateOf_next, ↓stateOf_ite, ↓State.mask_ite, ite_self, implies_true, h0, h1, h2, h3, h4, h5, h6, h7, h8, h9, h10, h11, h12, h13, h14, h15, h16, h17, h18, h19, h20, h21]; done)
    | ((try dsimp only); (repeat' split) <;> first | (simp (maxDischargeDepth := 9) only [↓State.fabFail_mask, ↓stateOf_next, ↓stateOf_ite, ↓State.mask_ite, ite_self, implies_true, h0, h1, h2, h3, h4, h5, h6, h7, h8, h9, h10, h11, h12, h13, h14, h15, h16, h17, h18, h19, h20, h21]; done) | (simp_all (maxDischargeDepth := 9) only [↓State.fabFail_mask, ↓stateOf_next, ↓stateOf_ite, ↓State.mask_ite, ite_self, implies_true, h0, h1, h2, h3, h4, h5, h6, h7, h8, h9, h10, h11, h12, h13, h14, h15, h16, h17, h18, h19, h20, h21]; done))

theorem execMramWriteComplete_mask (k : Part → Bool) (src : Fin 7) (ok0 ok1 : Bool) (s : State) (h0 : k .fab = false) (h1 : k .tally = false) (h2 : k .freeSeq = false) :
    (stateOf s (execMramWriteComplete src ok0 ok1 s)).mask k = s.mask k := by
  unfold execMramWriteComplete
  first
    | (simp (maxDischargeDepth := 9) only [↓State.mramWrite_mask, ↓stateOf_next, ↓stateOf_ite, ↓State.mask_ite, ite_self, implies_true, h0, h1, h2]; done)
    | ((try dsimp only); (repeat' split) <;> first | (simp (maxDischargeDepth := 9) only [↓State.mramWrite_mask, ↓stateOf_next, ↓stateOf_ite, ↓State.mask_ite, ite_self, implies_true, h0, h1, h2]; done) | (simp_all (maxDischargeDepth := 9) only [↓State.mramWrite_mask, ↓stateOf_next, ↓stateOf_ite, ↓State.mask_ite, ite_self, implies_true, h0, h1, h2]; done))

end Sys2Proof.Machine
end

