-- ==== Sys2Proof/Laws/FrameFeedback.lean ====
section
/-! SUPPORT. What each operation of Machine/Feedback.lean can change: it keeps every part of the state that it is not named to change. -/

set_option linter.unusedSimpArgs false

namespace Sys2Proof.Machine

theorem execFeedbackEdge_mask (k : Part → Bool) (x : AxisIx) (hall : Bool) (l : PinLevels) (s : State) (h0 : k .axes = false) (h1 : k .portals = false) :
    (stateOf s (execFeedbackEdge x hall l s)).mask k = s.mask k := by
  unfold execFeedbackEdge
  first
    | (simp (maxDischargeDepth := 9) only [↓State.modAxis_mask, ↓State.passThrough_mask, ↓State.acceptLines_mask, ↓stateOf_next, ↓stateOf_ite, ↓State.mask_ite, ite_self, implies_true, h0, h1]; done)
    | ((try dsimp only); (repeat' split) <;> first | (simp (maxDischargeDepth := 9) only [↓State.modAxis_mask, ↓State.passThrough_mask, ↓State.acceptLines_mask, ↓stateOf_next, ↓stateOf_ite, ↓State.mask_ite, ite_self, implies_true, h0, h1]; done) | (simp_all (maxDischargeDepth := 9) only [↓State.modAxis_mask, ↓State.passThrough_mask, ↓State.acceptLines_mask, ↓stateOf_next, ↓stateOf_ite, ↓State.mask_ite, ite_self, implies_true, h0, h1]; done))

theorem execIndexEvent_mask (k : Part → Bool) (x : AxisIx) (illegal : Bool) (s : State) (h0 : k .axes = false) (h1 : k .portals = false) :
    (stateOf s (execIndexEvent x illegal s)).mask k = s.mask k := by
  unfold execIndexEvent
  first
    | (simp (maxDischargeDepth := 9) only [↓State.modAxis_mask, ↓State.indexEvent_mask, ↓stateOf_next, ↓stateOf_ite, ↓State.mask_ite, ite_self, implies_true, h0, h1]; done)
    | ((try dsimp only); (repeat' split) <;> first | (simp (maxDischargeDepth := 9) only [↓State.modAxis_mask, ↓State.indexEvent_mask, ↓stateOf_next, ↓stateOf_ite, ↓State.mask_ite, ite_self, implies_true, h0, h1]; done) | (simp_all (maxDischargeDepth := 9) only [↓State.modAxis_mask, ↓State.indexEvent_mask, ↓stateOf_next, ↓stateOf_ite, ↓State.mask_ite, ite_self, implies_true, h0, h1]; done))

theorem execSerialRequest_mask (k : Part → Bool) (x : AxisIx) (s : State) (h0 : k .mono = false) (h1 : k .axes = false) :
    (stateOf s (execSerialRequest x s)).mask k = s.mask k := by
  unfold execSerialRequest
  first
    | (simp (maxDischargeDepth := 9) only [↓State.modAxis_mask, ↓State.upTo_mask, ↓stateOf_next, ↓stateOf_ite, ↓State.mask_ite, ite_self, implies_true, h0, h1]; done)
    | ((try dsimp only); (repeat' split) <;> first | (simp (maxDischargeDepth := 9) only [↓State.modAxis_mask, ↓State.upTo_mask, ↓stateOf_next, ↓stateOf_ite, ↓State.mask_ite, ite_self, implies_true, h0, h1]; done) | (simp_all (maxDischargeDepth := 9) only [↓State.modAxis_mask, ↓State.upTo_mask, ↓stateOf_next, ↓stateOf_ite, ↓State.mask_ite, ite_self, implies_true, h0, h1]; done))

theorem execSerialWord_mask (k : Part → Bool) (x : AxisIx) (raw : BitVec 40) (crc : BitVec 16) (err warn : Bool) (ans : AnswerStart) (delay : BitVec 16) (s : State) (h0 : k .axes = false) (h1 : k .portals = false) :
    (stateOf s (execSerialWord x raw crc err warn ans delay s)).mask k = s.mask k := by
  unfold execSerialWord
  first
    | (simp (maxDischargeDepth := 9) only [↓State.modAxis_mask, ↓State.serialGood_mask, ↓State.serialBad_mask, ↓stateOf_next, ↓stateOf_ite, ↓State.mask_ite, ite_self, implies_true, h0, h1]; done)
    | ((try dsimp only); (repeat' split) <;> first | (simp (maxDischargeDepth := 9) only [↓State.modAxis_mask, ↓State.serialGood_mask, ↓State.serialBad_mask, ↓stateOf_next, ↓stateOf_ite, ↓State.mask_ite, ite_self, implies_true, h0, h1]; done) | (simp_all (maxDischargeDepth := 9) only [↓State.modAxis_mask, ↓State.serialGood_mask, ↓State.serialBad_mask, ↓stateOf_next, ↓stateOf_ite, ↓State.mask_ite, ite_self, implies_true, h0, h1]; done))

theorem execFeedbackStandstill_mask (k : Part → Bool) (x : AxisIx) (s : State) (h0 : k .mono = false) (h1 : k .axes = false) (h2 : k .portals = false) :
    (stateOf s (execFeedbackStandstill x s)).mask k = s.mask k := by
  unfold execFeedbackStandstill
  first
    | (simp (maxDischargeDepth := 9) only [↓State.modAxis_mask, ↓State.upTo_mask, ↓State.standstill_mask, ↓stateOf_next, ↓stateOf_ite, ↓State.mask_ite, ite_self, implies_true, h0, h1, h2]; done)
    | ((try dsimp only); (repeat' split) <;> first | (simp (maxDischargeDepth := 9) only [↓State.modAxis_mask, ↓State.upTo_mask, ↓State.standstill_mask, ↓stateOf_next, ↓stateOf_ite, ↓State.mask_ite, ite_self, implies_true, h0, h1, h2]; done) | (simp_all (maxDischargeDepth := 9) only [↓State.modAxis_mask, ↓State.upTo_mask, ↓State.standstill_mask, ↓stateOf_next, ↓stateOf_ite, ↓State.mask_ite, ite_self, implies_true, h0, h1, h2]; done))

theorem execComparePulseEnd_mask (k : Part → Bool) (p : PortalIx) (s : State) (h0 : k .mono = false) (h1 : k .portals = false) :
    (stateOf s (execComparePulseEnd p s)).mask k = s.mask k := by
  unfold execComparePulseEnd
  first
    | (simp (maxDischargeDepth := 9) only [↓State.modPortal_mask, ↓State.upTo_mask, ↓stateOf_next, ↓stateOf_ite, ↓State.mask_ite, ite_self, implies_true, h0, h1]; done)
    | ((try dsimp only); (repeat' split) <;> first | (simp (maxDischargeDepth := 9) only [↓State.modPortal_mask, ↓State.upTo_mask, ↓stateOf_next, ↓stateOf_ite, ↓State.mask_ite, ite_self, implies_true, h0, h1]; done) | (simp_all (maxDischargeDepth := 9) only [↓State.modPortal_mask, ↓State.upTo_mask, ↓stateOf_next, ↓stateOf_ite, ↓State.mask_ite, ite_self, implies_true, h0, h1]; done))

end Sys2Proof.Machine
end

