-- ==== Sys2Proof/Laws/FrameFilifAlu.lean ====
section
/-! SUPPORT. What each operation of Machine/FilifAlu.lean can change: it keeps every part of the state that it is not named to change. -/

set_option linter.unusedSimpArgs false

namespace Sys2Proof.Machine

theorem execAdd_mask (k : Part → Bool) (d a b : Reg) (s : State) (h0 : k .mono = false) (h1 : k .eng = false) :
    (stateOf s (execAdd d a b s)).mask k = s.mask k := by
  unfold execAdd
  first
    | (simp (maxDischargeDepth := 9) only [↓State.alu_mask, ↓stateOf_next, ↓stateOf_ite, ↓State.mask_ite, ite_self, implies_true, h0, h1]; done)
    | ((try dsimp only); (repeat' split) <;> first | (simp (maxDischargeDepth := 9) only [↓State.alu_mask, ↓stateOf_next, ↓stateOf_ite, ↓State.mask_ite, ite_self, implies_true, h0, h1]; done) | (simp_all (maxDischargeDepth := 9) only [↓State.alu_mask, ↓stateOf_next, ↓stateOf_ite, ↓State.mask_ite, ite_self, implies_true, h0, h1]; done))

theorem execAdc_mask (k : Part → Bool) (d a b : Reg) (s : State) (h0 : k .mono = false) (h1 : k .eng = false) :
    (stateOf s (execAdc d a b s)).mask k = s.mask k := by
  unfold execAdc
  first
    | (simp (maxDischargeDepth := 9) only [↓State.alu_mask, ↓stateOf_next, ↓stateOf_ite, ↓State.mask_ite, ite_self, implies_true, h0, h1]; done)
    | ((try dsimp only); (repeat' split) <;> first | (simp (maxDischargeDepth := 9) only [↓State.alu_mask, ↓stateOf_next, ↓stateOf_ite, ↓State.mask_ite, ite_self, implies_true, h0, h1]; done) | (simp_all (maxDischargeDepth := 9) only [↓State.alu_mask, ↓stateOf_next, ↓stateOf_ite, ↓State.mask_ite, ite_self, implies_true, h0, h1]; done))

theorem execSub_mask (k : Part → Bool) (d a b : Reg) (s : State) (h0 : k .mono = false) (h1 : k .eng = false) :
    (stateOf s (execSub d a b s)).mask k = s.mask k := by
  unfold execSub
  first
    | (simp (maxDischargeDepth := 9) only [↓State.alu_mask, ↓stateOf_next, ↓stateOf_ite, ↓State.mask_ite, ite_self, implies_true, h0, h1]; done)
    | ((try dsimp only); (repeat' split) <;> first | (simp (maxDischargeDepth := 9) only [↓State.alu_mask, ↓stateOf_next, ↓stateOf_ite, ↓State.mask_ite, ite_self, implies_true, h0, h1]; done) | (simp_all (maxDischargeDepth := 9) only [↓State.alu_mask, ↓stateOf_next, ↓stateOf_ite, ↓State.mask_ite, ite_self, implies_true, h0, h1]; done))

theorem execSbc_mask (k : Part → Bool) (d a b : Reg) (s : State) (h0 : k .mono = false) (h1 : k .eng = false) :
    (stateOf s (execSbc d a b s)).mask k = s.mask k := by
  unfold execSbc
  first
    | (simp (maxDischargeDepth := 9) only [↓State.alu_mask, ↓stateOf_next, ↓stateOf_ite, ↓State.mask_ite, ite_self, implies_true, h0, h1]; done)
    | ((try dsimp only); (repeat' split) <;> first | (simp (maxDischargeDepth := 9) only [↓State.alu_mask, ↓stateOf_next, ↓stateOf_ite, ↓State.mask_ite, ite_self, implies_true, h0, h1]; done) | (simp_all (maxDischargeDepth := 9) only [↓State.alu_mask, ↓stateOf_next, ↓stateOf_ite, ↓State.mask_ite, ite_self, implies_true, h0, h1]; done))

theorem execCmp_mask (k : Part → Bool) (a b : Reg) (s : State) (h0 : k .mono = false) (h1 : k .eng = false) :
    (stateOf s (execCmp a b s)).mask k = s.mask k := by
  unfold execCmp
  first
    | (simp (maxDischargeDepth := 9) only [↓State.bankOp_mask, ↓stateOf_next, ↓stateOf_ite, ↓State.mask_ite, ite_self, implies_true, h0, h1]; done)
    | ((try dsimp only); (repeat' split) <;> first | (simp (maxDischargeDepth := 9) only [↓State.bankOp_mask, ↓stateOf_next, ↓stateOf_ite, ↓State.mask_ite, ite_self, implies_true, h0, h1]; done) | (simp_all (maxDischargeDepth := 9) only [↓State.bankOp_mask, ↓stateOf_next, ↓stateOf_ite, ↓State.mask_ite, ite_self, implies_true, h0, h1]; done))

theorem execNeg_mask (k : Part → Bool) (d a : Reg) (s : State) (h0 : k .mono = false) (h1 : k .eng = false) :
    (stateOf s (execNeg d a s)).mask k = s.mask k := by
  unfold execNeg
  first
    | (simp (maxDischargeDepth := 9) only [↓State.bankOp_mask, ↓stateOf_next, ↓stateOf_ite, ↓State.mask_ite, ite_self, implies_true, h0, h1]; done)
    | ((try dsimp only); (repeat' split) <;> first | (simp (maxDischargeDepth := 9) only [↓State.bankOp_mask, ↓stateOf_next, ↓stateOf_ite, ↓State.mask_ite, ite_self, implies_true, h0, h1]; done) | (simp_all (maxDischargeDepth := 9) only [↓State.bankOp_mask, ↓stateOf_next, ↓stateOf_ite, ↓State.mask_ite, ite_self, implies_true, h0, h1]; done))

theorem execAnd_mask (k : Part → Bool) (d a b : Reg) (s : State) (h0 : k .mono = false) (h1 : k .eng = false) :
    (stateOf s (execAnd d a b s)).mask k = s.mask k := by
  unfold execAnd
  first
    | (simp (maxDischargeDepth := 9) only [↓State.logic_mask, ↓stateOf_next, ↓stateOf_ite, ↓State.mask_ite, ite_self, implies_true, h0, h1]; done)
    | ((try dsimp only); (repeat' split) <;> first | (simp (maxDischargeDepth := 9) only [↓State.logic_mask, ↓stateOf_next, ↓stateOf_ite, ↓State.mask_ite, ite_self, implies_true, h0, h1]; done) | (simp_all (maxDischargeDepth := 9) only [↓State.logic_mask, ↓stateOf_next, ↓stateOf_ite, ↓State.mask_ite, ite_self, implies_true, h0, h1]; done))

theorem execOr_mask (k : Part → Bool) (d a b : Reg) (s : State) (h0 : k .mono = false) (h1 : k .eng = false) :
    (stateOf s (execOr d a b s)).mask k = s.mask k := by
  unfold execOr
  first
    | (simp (maxDischargeDepth := 9) only [↓State.logic_mask, ↓stateOf_next, ↓stateOf_ite, ↓State.mask_ite, ite_self, implies_true, h0, h1]; done)
    | ((try dsimp only); (repeat' split) <;> first | (simp (maxDischargeDepth := 9) only [↓State.logic_mask, ↓stateOf_next, ↓stateOf_ite, ↓State.mask_ite, ite_self, implies_true, h0, h1]; done) | (simp_all (maxDischargeDepth := 9) only [↓State.logic_mask, ↓stateOf_next, ↓stateOf_ite, ↓State.mask_ite, ite_self, implies_true, h0, h1]; done))

theorem execXor_mask (k : Part → Bool) (d a b : Reg) (s : State) (h0 : k .mono = false) (h1 : k .eng = false) :
    (stateOf s (execXor d a b s)).mask k = s.mask k := by
  unfold execXor
  first
    | (simp (maxDischargeDepth := 9) only [↓State.logic_mask, ↓stateOf_next, ↓stateOf_ite, ↓State.mask_ite, ite_self, implies_true, h0, h1]; done)
    | ((try dsimp only); (repeat' split) <;> first | (simp (maxDischargeDepth := 9) only [↓State.logic_mask, ↓stateOf_next, ↓stateOf_ite, ↓State.mask_ite, ite_self, implies_true, h0, h1]; done) | (simp_all (maxDischargeDepth := 9) only [↓State.logic_mask, ↓stateOf_next, ↓stateOf_ite, ↓State.mask_ite, ite_self, implies_true, h0, h1]; done))

theorem execAndn_mask (k : Part → Bool) (d a b : Reg) (s : State) (h0 : k .mono = false) (h1 : k .eng = false) :
    (stateOf s (execAndn d a b s)).mask k = s.mask k := by
  unfold execAndn
  first
    | (simp (maxDischargeDepth := 9) only [↓State.logic_mask, ↓stateOf_next, ↓stateOf_ite, ↓State.mask_ite, ite_self, implies_true, h0, h1]; done)
    | ((try dsimp only); (repeat' split) <;> first | (simp (maxDischargeDepth := 9) only [↓State.logic_mask, ↓stateOf_next, ↓stateOf_ite, ↓State.mask_ite, ite_self, implies_true, h0, h1]; done) | (simp_all (maxDischargeDepth := 9) only [↓State.logic_mask, ↓stateOf_next, ↓stateOf_ite, ↓State.mask_ite, ite_self, implies_true, h0, h1]; done))

theorem execTst_mask (k : Part → Bool) (a b : Reg) (s : State) (h0 : k .mono = false) (h1 : k .eng = false) :
    (stateOf s (execTst a b s)).mask k = s.mask k := by
  unfold execTst
  first
    | (simp (maxDischargeDepth := 9) only [↓State.bankOp_mask, ↓stateOf_next, ↓stateOf_ite, ↓State.mask_ite, ite_self, implies_true, h0, h1]; done)
    | ((try dsimp only); (repeat' split) <;> first | (simp (maxDischargeDepth := 9) only [↓State.bankOp_mask, ↓stateOf_next, ↓stateOf_ite, ↓State.mask_ite, ite_self, implies_true, h0, h1]; done) | (simp_all (maxDischargeDepth := 9) only [↓State.bankOp_mask, ↓stateOf_next, ↓stateOf_ite, ↓State.mask_ite, ite_self, implies_true, h0, h1]; done))

theorem execNot_mask (k : Part → Bool) (d a : Reg) (s : State) (h0 : k .mono = false) (h1 : k .eng = false) :
    (stateOf s (execNot d a s)).mask k = s.mask k := by
  unfold execNot
  first
    | (simp (maxDischargeDepth := 9) only [↓State.bankOp_mask, ↓stateOf_next, ↓stateOf_ite, ↓State.mask_ite, ite_self, implies_true, h0, h1]; done)
    | ((try dsimp only); (repeat' split) <;> first | (simp (maxDischargeDepth := 9) only [↓State.bankOp_mask, ↓stateOf_next, ↓stateOf_ite, ↓State.mask_ite, ite_self, implies_true, h0, h1]; done) | (simp_all (maxDischargeDepth := 9) only [↓State.bankOp_mask, ↓stateOf_next, ↓stateOf_ite, ↓State.mask_ite, ite_self, implies_true, h0, h1]; done))

theorem execMov_mask (k : Part → Bool) (d a : Reg) (s : State) (h0 : k .mono = false) (h1 : k .eng = false) :
    (stateOf s (execMov d a s)).mask k = s.mask k := by
  unfold execMov
  first
    | (simp (maxDischargeDepth := 9) only [↓State.bankOp_mask, ↓stateOf_next, ↓stateOf_ite, ↓State.mask_ite, ite_self, implies_true, h0, h1]; done)
    | ((try dsimp only); (repeat' split) <;> first | (simp (maxDischargeDepth := 9) only [↓State.bankOp_mask, ↓stateOf_next, ↓stateOf_ite, ↓State.mask_ite, ite_self, implies_true, h0, h1]; done) | (simp_all (maxDischargeDepth := 9) only [↓State.bankOp_mask, ↓stateOf_next, ↓stateOf_ite, ↓State.mask_ite, ite_self, implies_true, h0, h1]; done))

theorem execSel_mask (k : Part → Bool) (d a b : Reg) (s : State) (h0 : k .mono = false) (h1 : k .eng = false) :
    (stateOf s (execSel d a b s)).mask k = s.mask k := by
  unfold execSel
  first
    | (simp (maxDischargeDepth := 9) only [↓State.bankOp_mask, ↓stateOf_next, ↓stateOf_ite, ↓State.mask_ite, ite_self, implies_true, h0, h1]; done)
    | ((try dsimp only); (repeat' split) <;> first | (simp (maxDischargeDepth := 9) only [↓State.bankOp_mask, ↓stateOf_next, ↓stateOf_ite, ↓State.mask_ite, ite_self, implies_true, h0, h1]; done) | (simp_all (maxDischargeDepth := 9) only [↓State.bankOp_mask, ↓stateOf_next, ↓stateOf_ite, ↓State.mask_ite, ite_self, implies_true, h0, h1]; done))

theorem execShl_mask (k : Part → Bool) (d a b : Reg) (s : State) (h0 : k .mono = false) (h1 : k .eng = false) :
    (stateOf s (execShl d a b s)).mask k = s.mask k := by
  unfold execShl
  first
    | (simp (maxDischargeDepth := 9) only [↓State.shiftOp_mask, ↓stateOf_next, ↓stateOf_ite, ↓State.mask_ite, ite_self, implies_true, h0, h1]; done)
    | ((try dsimp only); (repeat' split) <;> first | (simp (maxDischargeDepth := 9) only [↓State.shiftOp_mask, ↓stateOf_next, ↓stateOf_ite, ↓State.mask_ite, ite_self, implies_true, h0, h1]; done) | (simp_all (maxDischargeDepth := 9) only [↓State.shiftOp_mask, ↓stateOf_next, ↓stateOf_ite, ↓State.mask_ite, ite_self, implies_true, h0, h1]; done))

theorem execShr_mask (k : Part → Bool) (d a b : Reg) (s : State) (h0 : k .mono = false) (h1 : k .eng = false) :
    (stateOf s (execShr d a b s)).mask k = s.mask k := by
  unfold execShr
  first
    | (simp (maxDischargeDepth := 9) only [↓State.shiftOp_mask, ↓stateOf_next, ↓stateOf_ite, ↓State.mask_ite, ite_self, implies_true, h0, h1]; done)
    | ((try dsimp only); (repeat' split) <;> first | (simp (maxDischargeDepth := 9) only [↓State.shiftOp_mask, ↓stateOf_next, ↓stateOf_ite, ↓State.mask_ite, ite_self, implies_true, h0, h1]; done) | (simp_all (maxDischargeDepth := 9) only [↓State.shiftOp_mask, ↓stateOf_next, ↓stateOf_ite, ↓State.mask_ite, ite_self, implies_true, h0, h1]; done))

theorem execSar_mask (k : Part → Bool) (d a b : Reg) (s : State) (h0 : k .mono = false) (h1 : k .eng = false) :
    (stateOf s (execSar d a b s)).mask k = s.mask k := by
  unfold execSar
  first
    | (simp (maxDischargeDepth := 9) only [↓State.shiftOp_mask, ↓stateOf_next, ↓stateOf_ite, ↓State.mask_ite, ite_self, implies_true, h0, h1]; done)
    | ((try dsimp only); (repeat' split) <;> first | (simp (maxDischargeDepth := 9) only [↓State.shiftOp_mask, ↓stateOf_next, ↓stateOf_ite, ↓State.mask_ite, ite_self, implies_true, h0, h1]; done) | (simp_all (maxDischargeDepth := 9) only [↓State.shiftOp_mask, ↓stateOf_next, ↓stateOf_ite, ↓State.mask_ite, ite_self, implies_true, h0, h1]; done))

theorem execRor_mask (k : Part → Bool) (d a b : Reg) (s : State) (h0 : k .mono = false) (h1 : k .eng = false) :
    (stateOf s (execRor d a b s)).mask k = s.mask k := by
  unfold execRor
  first
    | (simp (maxDischargeDepth := 9) only [↓State.shiftOp_mask, ↓stateOf_next, ↓stateOf_ite, ↓State.mask_ite, ite_self, implies_true, h0, h1]; done)
    | ((try dsimp only); (repeat' split) <;> first | (simp (maxDischargeDepth := 9) only [↓State.shiftOp_mask, ↓stateOf_next, ↓stateOf_ite, ↓State.mask_ite, ite_self, implies_true, h0, h1]; done) | (simp_all (maxDischargeDepth := 9) only [↓State.shiftOp_mask, ↓stateOf_next, ↓stateOf_ite, ↓State.mask_ite, ite_self, implies_true, h0, h1]; done))

theorem execMins_mask (k : Part → Bool) (d a b : Reg) (s : State) (h0 : k .mono = false) (h1 : k .eng = false) :
    (stateOf s (execMins d a b s)).mask k = s.mask k := by
  unfold execMins
  first
    | (simp (maxDischargeDepth := 9) only [↓State.logic_mask, ↓stateOf_next, ↓stateOf_ite, ↓State.mask_ite, ite_self, implies_true, h0, h1]; done)
    | ((try dsimp only); (repeat' split) <;> first | (simp (maxDischargeDepth := 9) only [↓State.logic_mask, ↓stateOf_next, ↓stateOf_ite, ↓State.mask_ite, ite_self, implies_true, h0, h1]; done) | (simp_all (maxDischargeDepth := 9) only [↓State.logic_mask, ↓stateOf_next, ↓stateOf_ite, ↓State.mask_ite, ite_self, implies_true, h0, h1]; done))

theorem execMaxs_mask (k : Part → Bool) (d a b : Reg) (s : State) (h0 : k .mono = false) (h1 : k .eng = false) :
    (stateOf s (execMaxs d a b s)).mask k = s.mask k := by
  unfold execMaxs
  first
    | (simp (maxDischargeDepth := 9) only [↓State.logic_mask, ↓stateOf_next, ↓stateOf_ite, ↓State.mask_ite, ite_self, implies_true, h0, h1]; done)
    | ((try dsimp only); (repeat' split) <;> first | (simp (maxDischargeDepth := 9) only [↓State.logic_mask, ↓stateOf_next, ↓stateOf_ite, ↓State.mask_ite, ite_self, implies_true, h0, h1]; done) | (simp_all (maxDischargeDepth := 9) only [↓State.logic_mask, ↓stateOf_next, ↓stateOf_ite, ↓State.mask_ite, ite_self, implies_true, h0, h1]; done))

theorem execMinu_mask (k : Part → Bool) (d a b : Reg) (s : State) (h0 : k .mono = false) (h1 : k .eng = false) :
    (stateOf s (execMinu d a b s)).mask k = s.mask k := by
  unfold execMinu
  first
    | (simp (maxDischargeDepth := 9) only [↓State.logic_mask, ↓stateOf_next, ↓stateOf_ite, ↓State.mask_ite, ite_self, implies_true, h0, h1]; done)
    | ((try dsimp only); (repeat' split) <;> first | (simp (maxDischargeDepth := 9) only [↓State.logic_mask, ↓stateOf_next, ↓stateOf_ite, ↓State.mask_ite, ite_self, implies_true, h0, h1]; done) | (simp_all (maxDischargeDepth := 9) only [↓State.logic_mask, ↓stateOf_next, ↓stateOf_ite, ↓State.mask_ite, ite_self, implies_true, h0, h1]; done))

theorem execMaxu_mask (k : Part → Bool) (d a b : Reg) (s : State) (h0 : k .mono = false) (h1 : k .eng = false) :
    (stateOf s (execMaxu d a b s)).mask k = s.mask k := by
  unfold execMaxu
  first
    | (simp (maxDischargeDepth := 9) only [↓State.logic_mask, ↓stateOf_next, ↓stateOf_ite, ↓State.mask_ite, ite_self, implies_true, h0, h1]; done)
    | ((try dsimp only); (repeat' split) <;> first | (simp (maxDischargeDepth := 9) only [↓State.logic_mask, ↓stateOf_next, ↓stateOf_ite, ↓State.mask_ite, ite_self, implies_true, h0, h1]; done) | (simp_all (maxDischargeDepth := 9) only [↓State.logic_mask, ↓stateOf_next, ↓stateOf_ite, ↓State.mask_ite, ite_self, implies_true, h0, h1]; done))

theorem execAdds_mask (k : Part → Bool) (d a b : Reg) (s : State) (h0 : k .mono = false) (h1 : k .eng = false) :
    (stateOf s (execAdds d a b s)).mask k = s.mask k := by
  unfold execAdds
  first
    | (simp (maxDischargeDepth := 9) only [↓State.aluV_mask, ↓stateOf_next, ↓stateOf_ite, ↓State.mask_ite, ite_self, implies_true, h0, h1]; done)
    | ((try dsimp only); (repeat' split) <;> first | (simp (maxDischargeDepth := 9) only [↓State.aluV_mask, ↓stateOf_next, ↓stateOf_ite, ↓State.mask_ite, ite_self, implies_true, h0, h1]; done) | (simp_all (maxDischargeDepth := 9) only [↓State.aluV_mask, ↓stateOf_next, ↓stateOf_ite, ↓State.mask_ite, ite_self, implies_true, h0, h1]; done))

theorem execSubs_mask (k : Part → Bool) (d a b : Reg) (s : State) (h0 : k .mono = false) (h1 : k .eng = false) :
    (stateOf s (execSubs d a b s)).mask k = s.mask k := by
  unfold execSubs
  first
    | (simp (maxDischargeDepth := 9) only [↓State.aluV_mask, ↓stateOf_next, ↓stateOf_ite, ↓State.mask_ite, ite_self, implies_true, h0, h1]; done)
    | ((try dsimp only); (repeat' split) <;> first | (simp (maxDischargeDepth := 9) only [↓State.aluV_mask, ↓stateOf_next, ↓stateOf_ite, ↓State.mask_ite, ite_self, implies_true, h0, h1]; done) | (simp_all (maxDischargeDepth := 9) only [↓State.aluV_mask, ↓stateOf_next, ↓stateOf_ite, ↓State.mask_ite, ite_self, implies_true, h0, h1]; done))

theorem execMul_mask (k : Part → Bool) (d a b : Reg) (s : State) (h0 : k .mono = false) (h1 : k .eng = false) :
    (stateOf s (execMul d a b s)).mask k = s.mask k := by
  unfold execMul
  first
    | (simp (maxDischargeDepth := 9) only [↓State.aluV_mask, ↓stateOf_next, ↓stateOf_ite, ↓State.mask_ite, ite_self, implies_true, h0, h1]; done)
    | ((try dsimp only); (repeat' split) <;> first | (simp (maxDischargeDepth := 9) only [↓State.aluV_mask, ↓stateOf_next, ↓stateOf_ite, ↓State.mask_ite, ite_self, implies_true, h0, h1]; done) | (simp_all (maxDischargeDepth := 9) only [↓State.aluV_mask, ↓stateOf_next, ↓stateOf_ite, ↓State.mask_ite, ite_self, implies_true, h0, h1]; done))

theorem execMulh_mask (k : Part → Bool) (d a b : Reg) (s : State) (h0 : k .mono = false) (h1 : k .eng = false) :
    (stateOf s (execMulh d a b s)).mask k = s.mask k := by
  unfold execMulh
  first
    | (simp (maxDischargeDepth := 9) only [↓State.logic_mask, ↓stateOf_next, ↓stateOf_ite, ↓State.mask_ite, ite_self, implies_true, h0, h1]; done)
    | ((try dsimp only); (repeat' split) <;> first | (simp (maxDischargeDepth := 9) only [↓State.logic_mask, ↓stateOf_next, ↓stateOf_ite, ↓State.mask_ite, ite_self, implies_true, h0, h1]; done) | (simp_all (maxDischargeDepth := 9) only [↓State.logic_mask, ↓stateOf_next, ↓stateOf_ite, ↓State.mask_ite, ite_self, implies_true, h0, h1]; done))

theorem execMulhu_mask (k : Part → Bool) (d a b : Reg) (s : State) (h0 : k .mono = false) (h1 : k .eng = false) :
    (stateOf s (execMulhu d a b s)).mask k = s.mask k := by
  unfold execMulhu
  first
    | (simp (maxDischargeDepth := 9) only [↓State.logic_mask, ↓stateOf_next, ↓stateOf_ite, ↓State.mask_ite, ite_self, implies_true, h0, h1]; done)
    | ((try dsimp only); (repeat' split) <;> first | (simp (maxDischargeDepth := 9) only [↓State.logic_mask, ↓stateOf_next, ↓stateOf_ite, ↓State.mask_ite, ite_self, implies_true, h0, h1]; done) | (simp_all (maxDischargeDepth := 9) only [↓State.logic_mask, ↓stateOf_next, ↓stateOf_ite, ↓State.mask_ite, ite_self, implies_true, h0, h1]; done))

theorem execDiv_mask (k : Part → Bool) (d a b : Reg) (s : State) (h0 : k .mono = false) (h1 : k .eng = false) :
    (stateOf s (execDiv d a b s)).mask k = s.mask k := by
  unfold execDiv
  first
    | (simp (maxDischargeDepth := 9) only [↓State.aluV_mask, ↓stateOf_next, ↓stateOf_ite, ↓State.mask_ite, ite_self, implies_true, h0, h1]; done)
    | ((try dsimp only); (repeat' split) <;> first | (simp (maxDischargeDepth := 9) only [↓State.aluV_mask, ↓stateOf_next, ↓stateOf_ite, ↓State.mask_ite, ite_self, implies_true, h0, h1]; done) | (simp_all (maxDischargeDepth := 9) only [↓State.aluV_mask, ↓stateOf_next, ↓stateOf_ite, ↓State.mask_ite, ite_self, implies_true, h0, h1]; done))

theorem execDivu_mask (k : Part → Bool) (d a b : Reg) (s : State) (h0 : k .mono = false) (h1 : k .eng = false) :
    (stateOf s (execDivu d a b s)).mask k = s.mask k := by
  unfold execDivu
  first
    | (simp (maxDischargeDepth := 9) only [↓State.aluV_mask, ↓stateOf_next, ↓stateOf_ite, ↓State.mask_ite, ite_self, implies_true, h0, h1]; done)
    | ((try dsimp only); (repeat' split) <;> first | (simp (maxDischargeDepth := 9) only [↓State.aluV_mask, ↓stateOf_next, ↓stateOf_ite, ↓State.mask_ite, ite_self, implies_true, h0, h1]; done) | (simp_all (maxDischargeDepth := 9) only [↓State.aluV_mask, ↓stateOf_next, ↓stateOf_ite, ↓State.mask_ite, ite_self, implies_true, h0, h1]; done))

theorem execRem_mask (k : Part → Bool) (d a b : Reg) (s : State) (h0 : k .mono = false) (h1 : k .eng = false) :
    (stateOf s (execRem d a b s)).mask k = s.mask k := by
  unfold execRem
  first
    | (simp (maxDischargeDepth := 9) only [↓State.aluV_mask, ↓stateOf_next, ↓stateOf_ite, ↓State.mask_ite, ite_self, implies_true, h0, h1]; done)
    | ((try dsimp only); (repeat' split) <;> first | (simp (maxDischargeDepth := 9) only [↓State.aluV_mask, ↓stateOf_next, ↓stateOf_ite, ↓State.mask_ite, ite_self, implies_true, h0, h1]; done) | (simp_all (maxDischargeDepth := 9) only [↓State.aluV_mask, ↓stateOf_next, ↓stateOf_ite, ↓State.mask_ite, ite_self, implies_true, h0, h1]; done))

theorem execRemu_mask (k : Part → Bool) (d a b : Reg) (s : State) (h0 : k .mono = false) (h1 : k .eng = false) :
    (stateOf s (execRemu d a b s)).mask k = s.mask k := by
  unfold execRemu
  first
    | (simp (maxDischargeDepth := 9) only [↓State.aluV_mask, ↓stateOf_next, ↓stateOf_ite, ↓State.mask_ite, ite_self, implies_true, h0, h1]; done)
    | ((try dsimp only); (repeat' split) <;> first | (simp (maxDischargeDepth := 9) only [↓State.aluV_mask, ↓stateOf_next, ↓stateOf_ite, ↓State.mask_ite, ite_self, implies_true, h0, h1]; done) | (simp_all (maxDischargeDepth := 9) only [↓State.aluV_mask, ↓stateOf_next, ↓stateOf_ite, ↓State.mask_ite, ite_self, implies_true, h0, h1]; done))

theorem execAddi_mask (k : Part → Bool) (d a : Reg) (imm : BitVec 16) (s : State) (h0 : k .mono = false) (h1 : k .eng = false) :
    (stateOf s (execAddi d a imm s)).mask k = s.mask k := by
  unfold execAddi
  first
    | (simp (maxDischargeDepth := 9) only [↓State.bankOp_mask, ↓stateOf_next, ↓stateOf_ite, ↓State.mask_ite, ite_self, implies_true, h0, h1]; done)
    | ((try dsimp only); (repeat' split) <;> first | (simp (maxDischargeDepth := 9) only [↓State.bankOp_mask, ↓stateOf_next, ↓stateOf_ite, ↓State.mask_ite, ite_self, implies_true, h0, h1]; done) | (simp_all (maxDischargeDepth := 9) only [↓State.bankOp_mask, ↓stateOf_next, ↓stateOf_ite, ↓State.mask_ite, ite_self, implies_true, h0, h1]; done))

theorem execCmpi_mask (k : Part → Bool) (a : Reg) (imm : BitVec 16) (s : State) (h0 : k .mono = false) (h1 : k .eng = false) :
    (stateOf s (execCmpi a imm s)).mask k = s.mask k := by
  unfold execCmpi
  first
    | (simp (maxDischargeDepth := 9) only [↓State.bankOp_mask, ↓stateOf_next, ↓stateOf_ite, ↓State.mask_ite, ite_self, implies_true, h0, h1]; done)
    | ((try dsimp only); (repeat' split) <;> first | (simp (maxDischargeDepth := 9) only [↓State.bankOp_mask, ↓stateOf_next, ↓stateOf_ite, ↓State.mask_ite, ite_self, implies_true, h0, h1]; done) | (simp_all (maxDischargeDepth := 9) only [↓State.bankOp_mask, ↓stateOf_next, ↓stateOf_ite, ↓State.mask_ite, ite_self, implies_true, h0, h1]; done))

theorem execAndi_mask (k : Part → Bool) (d a : Reg) (imm : BitVec 16) (s : State) (h0 : k .mono = false) (h1 : k .eng = false) :
    (stateOf s (execAndi d a imm s)).mask k = s.mask k := by
  unfold execAndi
  first
    | (simp (maxDischargeDepth := 9) only [↓State.bankOp_mask, ↓stateOf_next, ↓stateOf_ite, ↓State.mask_ite, ite_self, implies_true, h0, h1]; done)
    | ((try dsimp only); (repeat' split) <;> first | (simp (maxDischargeDepth := 9) only [↓State.bankOp_mask, ↓stateOf_next, ↓stateOf_ite, ↓State.mask_ite, ite_self, implies_true, h0, h1]; done) | (simp_all (maxDischargeDepth := 9) only [↓State.bankOp_mask, ↓stateOf_next, ↓stateOf_ite, ↓State.mask_ite, ite_self, implies_true, h0, h1]; done))

theorem execOri_mask (k : Part → Bool) (d a : Reg) (imm : BitVec 16) (s : State) (h0 : k .mono = false) (h1 : k .eng = false) :
    (stateOf s (execOri d a imm s)).mask k = s.mask k := by
  unfold execOri
  first
    | (simp (maxDischargeDepth := 9) only [↓State.bankOp_mask, ↓stateOf_next, ↓stateOf_ite, ↓State.mask_ite, ite_self, implies_true, h0, h1]; done)
    | ((try dsimp only); (repeat' split) <;> first | (simp (maxDischargeDepth := 9) only [↓State.bankOp_mask, ↓stateOf_next, ↓stateOf_ite, ↓State.mask_ite, ite_self, implies_true, h0, h1]; done) | (simp_all (maxDischargeDepth := 9) only [↓State.bankOp_mask, ↓stateOf_next, ↓stateOf_ite, ↓State.mask_ite, ite_self, implies_true, h0, h1]; done))

theorem execXori_mask (k : Part → Bool) (d a : Reg) (imm : BitVec 16) (s : State) (h0 : k .mono = false) (h1 : k .eng = false) :
    (stateOf s (execXori d a imm s)).mask k = s.mask k := by
  unfold execXori
  first
    | (simp (maxDischargeDepth := 9) only [↓State.bankOp_mask, ↓stateOf_next, ↓stateOf_ite, ↓State.mask_ite, ite_self, implies_true, h0, h1]; done)
    | ((try dsimp only); (repeat' split) <;> first | (simp (maxDischargeDepth := 9) only [↓State.bankOp_mask, ↓stateOf_next, ↓stateOf_ite, ↓State.mask_ite, ite_self, implies_true, h0, h1]; done) | (simp_all (maxDischargeDepth := 9) only [↓State.bankOp_mask, ↓stateOf_next, ↓stateOf_ite, ↓State.mask_ite, ite_self, implies_true, h0, h1]; done))

theorem execLui_mask (k : Part → Bool) (d : Reg) (imm : BitVec 16) (s : State) (h0 : k .mono = false) (h1 : k .eng = false) :
    (stateOf s (execLui d imm s)).mask k = s.mask k := by
  unfold execLui
  first
    | (simp (maxDischargeDepth := 9) only [↓State.bankOp_mask, ↓stateOf_next, ↓stateOf_ite, ↓State.mask_ite, ite_self, implies_true, h0, h1]; done)
    | ((try dsimp only); (repeat' split) <;> first | (simp (maxDischargeDepth := 9) only [↓State.bankOp_mask, ↓stateOf_next, ↓stateOf_ite, ↓State.mask_ite, ite_self, implies_true, h0, h1]; done) | (simp_all (maxDischargeDepth := 9) only [↓State.bankOp_mask, ↓stateOf_next, ↓stateOf_ite, ↓State.mask_ite, ite_self, implies_true, h0, h1]; done))

theorem execShi_mask (k : Part → Bool) (d a : Reg) (imm : BitVec 16) (s : State) (h0 : k .mono = false) (h1 : k .tim = false) (h2 : k .fab = false) (h3 : k .mem = false) (h4 : k .eng = false) (h5 : k .tally = false) (h6 : k .axes = false) (h7 : k .portals = false) (h8 : k .fel = false) (h9 : k .sde = false) (h10 : k .ls = false) (h11 : k .lsg = false) (h12 : k .kerf = false) (h13 : k .fio = false) (h14 : k .safe = false) (h15 : k .jnl = false) (h16 : k .net = false) (h17 : k .lnd = false) (h18 : k .tru = false) (h19 : k .pwr = false) (h20 : k .boot = false) (h21 : k .sent = false) (h22 : k .freeSeq = false) :
    (stateOf s (execShi d a imm s)).mask k = s.mask k := by
  unfold execShi
  first
    | (simp (maxDischargeDepth := 9) only [↓State.shiftOp_mask, ↓State.illegal_mask, ↓stateOf_next, ↓stateOf_ite, ↓State.mask_ite, ite_self, implies_true, h0, h1, h2, h3, h4, h5, h6, h7, h8, h9, h10, h11, h12, h13, h14, h15, h16, h17, h18, h19, h20, h21, h22]; done)
    | ((try dsimp only); (repeat' split) <;> first | (simp (maxDischargeDepth := 9) only [↓State.shiftOp_mask, ↓State.illegal_mask, ↓stateOf_next, ↓stateOf_ite, ↓State.mask_ite, ite_self, implies_true, h0, h1, h2, h3, h4, h5, h6, h7, h8, h9, h10, h11, h12, h13, h14, h15, h16, h17, h18, h19, h20, h21, h22]; done) | (simp_all (maxDischargeDepth := 9) only [↓State.shiftOp_mask, ↓State.illegal_mask, ↓stateOf_next, ↓stateOf_ite, ↓State.mask_ite, ite_self, implies_true, h0, h1, h2, h3, h4, h5, h6, h7, h8, h9, h10, h11, h12, h13, h14, h15, h16, h17, h18, h19, h20, h21, h22]; done))

theorem execTsti_mask (k : Part → Bool) (a : Reg) (imm : BitVec 16) (s : State) (h0 : k .mono = false) (h1 : k .eng = false) :
    (stateOf s (execTsti a imm s)).mask k = s.mask k := by
  unfold execTsti
  first
    | (simp (maxDischargeDepth := 9) only [↓State.bankOp_mask, ↓stateOf_next, ↓stateOf_ite, ↓State.mask_ite, ite_self, implies_true, h0, h1]; done)
    | ((try dsimp only); (repeat' split) <;> first | (simp (maxDischargeDepth := 9) only [↓State.bankOp_mask, ↓stateOf_next, ↓stateOf_ite, ↓State.mask_ite, ite_self, implies_true, h0, h1]; done) | (simp_all (maxDischargeDepth := 9) only [↓State.bankOp_mask, ↓stateOf_next, ↓stateOf_ite, ↓State.mask_ite, ite_self, implies_true, h0, h1]; done))

end Sys2Proof.Machine
end

