-- ==== Sys2Proof/Laws/FrameFilifBits.lean ====
section
/-! SUPPORT. What each operation of Machine/FilifBits.lean can change: it keeps every part of the state that it is not named to change. -/

set_option linter.unusedSimpArgs false

namespace Sys2Proof.Machine

theorem execRld_mask (k : Part → Bool) (a : Reg) (bit : BitIx) (s : State) (h0 : k .mono = false) (h1 : k .eng = false) :
    (stateOf s (execRld a bit s)).mask k = s.mask k := by
  unfold execRld
  first
    | (simp (maxDischargeDepth := 9) only [↓State.contact_mask, ↓stateOf_next, ↓stateOf_ite, ↓State.mask_ite, ite_self, implies_true, h0, h1]; done)
    | ((try dsimp only); (repeat' split) <;> first | (simp (maxDischargeDepth := 9) only [↓State.contact_mask, ↓stateOf_next, ↓stateOf_ite, ↓State.mask_ite, ite_self, implies_true, h0, h1]; done) | (simp_all (maxDischargeDepth := 9) only [↓State.contact_mask, ↓stateOf_next, ↓stateOf_ite, ↓State.mask_ite, ite_self, implies_true, h0, h1]; done))

theorem execRldn_mask (k : Part → Bool) (a : Reg) (bit : BitIx) (s : State) (h0 : k .mono = false) (h1 : k .eng = false) :
    (stateOf s (execRldn a bit s)).mask k = s.mask k := by
  unfold execRldn
  first
    | (simp (maxDischargeDepth := 9) only [↓State.contact_mask, ↓stateOf_next, ↓stateOf_ite, ↓State.mask_ite, ite_self, implies_true, h0, h1]; done)
    | ((try dsimp only); (repeat' split) <;> first | (simp (maxDischargeDepth := 9) only [↓State.contact_mask, ↓stateOf_next, ↓stateOf_ite, ↓State.mask_ite, ite_self, implies_true, h0, h1]; done) | (simp_all (maxDischargeDepth := 9) only [↓State.contact_mask, ↓stateOf_next, ↓stateOf_ite, ↓State.mask_ite, ite_self, implies_true, h0, h1]; done))

theorem execRand_mask (k : Part → Bool) (a : Reg) (bit : BitIx) (s : State) (h0 : k .mono = false) (h1 : k .eng = false) :
    (stateOf s (execRand a bit s)).mask k = s.mask k := by
  unfold execRand
  first
    | (simp (maxDischargeDepth := 9) only [↓State.contact_mask, ↓stateOf_next, ↓stateOf_ite, ↓State.mask_ite, ite_self, implies_true, h0, h1]; done)
    | ((try dsimp only); (repeat' split) <;> first | (simp (maxDischargeDepth := 9) only [↓State.contact_mask, ↓stateOf_next, ↓stateOf_ite, ↓State.mask_ite, ite_self, implies_true, h0, h1]; done) | (simp_all (maxDischargeDepth := 9) only [↓State.contact_mask, ↓stateOf_next, ↓stateOf_ite, ↓State.mask_ite, ite_self, implies_true, h0, h1]; done))

theorem execRandn_mask (k : Part → Bool) (a : Reg) (bit : BitIx) (s : State) (h0 : k .mono = false) (h1 : k .eng = false) :
    (stateOf s (execRandn a bit s)).mask k = s.mask k := by
  unfold execRandn
  first
    | (simp (maxDischargeDepth := 9) only [↓State.contact_mask, ↓stateOf_next, ↓stateOf_ite, ↓State.mask_ite, ite_self, implies_true, h0, h1]; done)
    | ((try dsimp only); (repeat' split) <;> first | (simp (maxDischargeDepth := 9) only [↓State.contact_mask, ↓stateOf_next, ↓stateOf_ite, ↓State.mask_ite, ite_self, implies_true, h0, h1]; done) | (simp_all (maxDischargeDepth := 9) only [↓State.contact_mask, ↓stateOf_next, ↓stateOf_ite, ↓State.mask_ite, ite_self, implies_true, h0, h1]; done))

theorem execRorContact_mask (k : Part → Bool) (a : Reg) (bit : BitIx) (s : State) (h0 : k .mono = false) (h1 : k .eng = false) :
    (stateOf s (execRorContact a bit s)).mask k = s.mask k := by
  unfold execRorContact
  first
    | (simp (maxDischargeDepth := 9) only [↓State.contact_mask, ↓stateOf_next, ↓stateOf_ite, ↓State.mask_ite, ite_self, implies_true, h0, h1]; done)
    | ((try dsimp only); (repeat' split) <;> first | (simp (maxDischargeDepth := 9) only [↓State.contact_mask, ↓stateOf_next, ↓stateOf_ite, ↓State.mask_ite, ite_self, implies_true, h0, h1]; done) | (simp_all (maxDischargeDepth := 9) only [↓State.contact_mask, ↓stateOf_next, ↓stateOf_ite, ↓State.mask_ite, ite_self, implies_true, h0, h1]; done))

theorem execRorn_mask (k : Part → Bool) (a : Reg) (bit : BitIx) (s : State) (h0 : k .mono = false) (h1 : k .eng = false) :
    (stateOf s (execRorn a bit s)).mask k = s.mask k := by
  unfold execRorn
  first
    | (simp (maxDischargeDepth := 9) only [↓State.contact_mask, ↓stateOf_next, ↓stateOf_ite, ↓State.mask_ite, ite_self, implies_true, h0, h1]; done)
    | ((try dsimp only); (repeat' split) <;> first | (simp (maxDischargeDepth := 9) only [↓State.contact_mask, ↓stateOf_next, ↓stateOf_ite, ↓State.mask_ite, ite_self, implies_true, h0, h1]; done) | (simp_all (maxDischargeDepth := 9) only [↓State.contact_mask, ↓stateOf_next, ↓stateOf_ite, ↓State.mask_ite, ite_self, implies_true, h0, h1]; done))

theorem execRxor_mask (k : Part → Bool) (a : Reg) (bit : BitIx) (s : State) (h0 : k .mono = false) (h1 : k .eng = false) :
    (stateOf s (execRxor a bit s)).mask k = s.mask k := by
  unfold execRxor
  first
    | (simp (maxDischargeDepth := 9) only [↓State.contact_mask, ↓stateOf_next, ↓stateOf_ite, ↓State.mask_ite, ite_self, implies_true, h0, h1]; done)
    | ((try dsimp only); (repeat' split) <;> first | (simp (maxDischargeDepth := 9) only [↓State.contact_mask, ↓stateOf_next, ↓stateOf_ite, ↓State.mask_ite, ite_self, implies_true, h0, h1]; done) | (simp_all (maxDischargeDepth := 9) only [↓State.contact_mask, ↓stateOf_next, ↓stateOf_ite, ↓State.mask_ite, ite_self, implies_true, h0, h1]; done))

theorem execRst_mask (k : Part → Bool) (d : Reg) (bit : BitIx) (s : State) (h0 : k .mono = false) (h1 : k .eng = false) :
    (stateOf s (execRst d bit s)).mask k = s.mask k := by
  unfold execRst
  first
    | (simp (maxDischargeDepth := 9) only [↓State.coil_mask, ↓stateOf_next, ↓stateOf_ite, ↓State.mask_ite, ite_self, implies_true, h0, h1]; done)
    | ((try dsimp only); (repeat' split) <;> first | (simp (maxDischargeDepth := 9) only [↓State.coil_mask, ↓stateOf_next, ↓stateOf_ite, ↓State.mask_ite, ite_self, implies_true, h0, h1]; done) | (simp_all (maxDischargeDepth := 9) only [↓State.coil_mask, ↓stateOf_next, ↓stateOf_ite, ↓State.mask_ite, ite_self, implies_true, h0, h1]; done))

theorem execRstn_mask (k : Part → Bool) (d : Reg) (bit : BitIx) (s : State) (h0 : k .mono = false) (h1 : k .eng = false) :
    (stateOf s (execRstn d bit s)).mask k = s.mask k := by
  unfold execRstn
  first
    | (simp (maxDischargeDepth := 9) only [↓State.coil_mask, ↓stateOf_next, ↓stateOf_ite, ↓State.mask_ite, ite_self, implies_true, h0, h1]; done)
    | ((try dsimp only); (repeat' split) <;> first | (simp (maxDischargeDepth := 9) only [↓State.coil_mask, ↓stateOf_next, ↓stateOf_ite, ↓State.mask_ite, ite_self, implies_true, h0, h1]; done) | (simp_all (maxDischargeDepth := 9) only [↓State.coil_mask, ↓stateOf_next, ↓stateOf_ite, ↓State.mask_ite, ite_self, implies_true, h0, h1]; done))

theorem execRset_mask (k : Part → Bool) (d : Reg) (bit : BitIx) (s : State) (h0 : k .mono = false) (h1 : k .eng = false) :
    (stateOf s (execRset d bit s)).mask k = s.mask k := by
  unfold execRset
  first
    | (simp (maxDischargeDepth := 9) only [↓State.coil_mask, ↓stateOf_next, ↓stateOf_ite, ↓State.mask_ite, ite_self, implies_true, h0, h1]; done)
    | ((try dsimp only); (repeat' split) <;> first | (simp (maxDischargeDepth := 9) only [↓State.coil_mask, ↓stateOf_next, ↓stateOf_ite, ↓State.mask_ite, ite_self, implies_true, h0, h1]; done) | (simp_all (maxDischargeDepth := 9) only [↓State.coil_mask, ↓stateOf_next, ↓stateOf_ite, ↓State.mask_ite, ite_self, implies_true, h0, h1]; done))

theorem execRrst_mask (k : Part → Bool) (d : Reg) (bit : BitIx) (s : State) (h0 : k .mono = false) (h1 : k .eng = false) :
    (stateOf s (execRrst d bit s)).mask k = s.mask k := by
  unfold execRrst
  first
    | (simp (maxDischargeDepth := 9) only [↓State.coil_mask, ↓stateOf_next, ↓stateOf_ite, ↓State.mask_ite, ite_self, implies_true, h0, h1]; done)
    | ((try dsimp only); (repeat' split) <;> first | (simp (maxDischargeDepth := 9) only [↓State.coil_mask, ↓stateOf_next, ↓stateOf_ite, ↓State.mask_ite, ite_self, implies_true, h0, h1]; done) | (simp_all (maxDischargeDepth := 9) only [↓State.coil_mask, ↓stateOf_next, ↓stateOf_ite, ↓State.mask_ite, ite_self, implies_true, h0, h1]; done))

theorem execBnot_mask (k : Part → Bool) (s : State) (h0 : k .mono = false) (h1 : k .eng = false) :
    (stateOf s (execBnot s)).mask k = s.mask k := by
  unfold execBnot
  first
    | (simp (maxDischargeDepth := 9) only [↓State.bankOp_mask, ↓stateOf_next, ↓stateOf_ite, ↓State.mask_ite, ite_self, implies_true, h0, h1]; done)
    | ((try dsimp only); (repeat' split) <;> first | (simp (maxDischargeDepth := 9) only [↓State.bankOp_mask, ↓stateOf_next, ↓stateOf_ite, ↓State.mask_ite, ite_self, implies_true, h0, h1]; done) | (simp_all (maxDischargeDepth := 9) only [↓State.bankOp_mask, ↓stateOf_next, ↓stateOf_ite, ↓State.mask_ite, ite_self, implies_true, h0, h1]; done))

theorem execBone_mask (k : Part → Bool) (s : State) (h0 : k .mono = false) (h1 : k .eng = false) :
    (stateOf s (execBone s)).mask k = s.mask k := by
  unfold execBone
  first
    | (simp (maxDischargeDepth := 9) only [↓State.bankOp_mask, ↓stateOf_next, ↓stateOf_ite, ↓State.mask_ite, ite_self, implies_true, h0, h1]; done)
    | ((try dsimp only); (repeat' split) <;> first | (simp (maxDischargeDepth := 9) only [↓State.bankOp_mask, ↓stateOf_next, ↓stateOf_ite, ↓State.mask_ite, ite_self, implies_true, h0, h1]; done) | (simp_all (maxDischargeDepth := 9) only [↓State.bankOp_mask, ↓stateOf_next, ↓stateOf_ite, ↓State.mask_ite, ite_self, implies_true, h0, h1]; done))

theorem execBzero_mask (k : Part → Bool) (s : State) (h0 : k .mono = false) (h1 : k .eng = false) :
    (stateOf s (execBzero s)).mask k = s.mask k := by
  unfold execBzero
  first
    | (simp (maxDischargeDepth := 9) only [↓State.bankOp_mask, ↓stateOf_next, ↓stateOf_ite, ↓State.mask_ite, ite_self, implies_true, h0, h1]; done)
    | ((try dsimp only); (repeat' split) <;> first | (simp (maxDischargeDepth := 9) only [↓State.bankOp_mask, ↓stateOf_next, ↓stateOf_ite, ↓State.mask_ite, ite_self, implies_true, h0, h1]; done) | (simp_all (maxDischargeDepth := 9) only [↓State.bankOp_mask, ↓stateOf_next, ↓stateOf_ite, ↓State.mask_ite, ite_self, implies_true, h0, h1]; done))

theorem execBcc_mask (k : Part → Bool) (cond : BitVec 5) (s : State) (h0 : k .mono = false) (h1 : k .tim = false) (h2 : k .fab = false) (h3 : k .mem = false) (h4 : k .eng = false) (h5 : k .tally = false) (h6 : k .axes = false) (h7 : k .portals = false) (h8 : k .fel = false) (h9 : k .sde = false) (h10 : k .ls = false) (h11 : k .lsg = false) (h12 : k .kerf = false) (h13 : k .fio = false) (h14 : k .safe = false) (h15 : k .jnl = false) (h16 : k .net = false) (h17 : k .lnd = false) (h18 : k .tru = false) (h19 : k .pwr = false) (h20 : k .boot = false) (h21 : k .sent = false) (h22 : k .freeSeq = false) :
    (stateOf s (execBcc cond s)).mask k = s.mask k := by
  unfold execBcc
  first
    | (simp (maxDischargeDepth := 9) only [↓State.bankOp_mask, ↓State.illegal_mask, ↓stateOf_next, ↓stateOf_ite, ↓State.mask_ite, ite_self, implies_true, h0, h1, h2, h3, h4, h5, h6, h7, h8, h9, h10, h11, h12, h13, h14, h15, h16, h17, h18, h19, h20, h21, h22]; done)
    | ((try dsimp only); (repeat' split) <;> first | (simp (maxDischargeDepth := 9) only [↓State.bankOp_mask, ↓State.illegal_mask, ↓stateOf_next, ↓stateOf_ite, ↓State.mask_ite, ite_self, implies_true, h0, h1, h2, h3, h4, h5, h6, h7, h8, h9, h10, h11, h12, h13, h14, h15, h16, h17, h18, h19, h20, h21, h22]; done) | (simp_all (maxDischargeDepth := 9) only [↓State.bankOp_mask, ↓State.illegal_mask, ↓stateOf_next, ↓stateOf_ite, ↓State.mask_ite, ite_self, implies_true, h0, h1, h2, h3, h4, h5, h6, h7, h8, h9, h10, h11, h12, h13, h14, h15, h16, h17, h18, h19, h20, h21, h22]; done))

theorem execBget_mask (k : Part → Bool) (d : Reg) (s : State) (h0 : k .mono = false) (h1 : k .eng = false) :
    (stateOf s (execBget d s)).mask k = s.mask k := by
  unfold execBget
  first
    | (simp (maxDischargeDepth := 9) only [↓State.bankOp_mask, ↓stateOf_next, ↓stateOf_ite, ↓State.mask_ite, ite_self, implies_true, h0, h1]; done)
    | ((try dsimp only); (repeat' split) <;> first | (simp (maxDischargeDepth := 9) only [↓State.bankOp_mask, ↓stateOf_next, ↓stateOf_ite, ↓State.mask_ite, ite_self, implies_true, h0, h1]; done) | (simp_all (maxDischargeDepth := 9) only [↓State.bankOp_mask, ↓stateOf_next, ↓stateOf_ite, ↓State.mask_ite, ite_self, implies_true, h0, h1]; done))

theorem execBput_mask (k : Part → Bool) (a : Reg) (s : State) (h0 : k .mono = false) (h1 : k .eng = false) :
    (stateOf s (execBput a s)).mask k = s.mask k := by
  unfold execBput
  first
    | (simp (maxDischargeDepth := 9) only [↓State.bankOp_mask, ↓stateOf_next, ↓stateOf_ite, ↓State.mask_ite, ite_self, implies_true, h0, h1]; done)
    | ((try dsimp only); (repeat' split) <;> first | (simp (maxDischargeDepth := 9) only [↓State.bankOp_mask, ↓stateOf_next, ↓stateOf_ite, ↓State.mask_ite, ite_self, implies_true, h0, h1]; done) | (simp_all (maxDischargeDepth := 9) only [↓State.bankOp_mask, ↓stateOf_next, ↓stateOf_ite, ↓State.mask_ite, ite_self, implies_true, h0, h1]; done))

theorem State.branch_mask (k : Part → Bool) (s : State) (cond : BitVec 5) (ofs : BitVec 21) (link : Bool) (h0 : k .mono = false) (h1 : k .tim = false) (h2 : k .fab = false) (h3 : k .mem = false) (h4 : k .eng = false) (h5 : k .tally = false) (h6 : k .axes = false) (h7 : k .portals = false) (h8 : k .fel = false) (h9 : k .sde = false) (h10 : k .ls = false) (h11 : k .lsg = false) (h12 : k .kerf = false) (h13 : k .fio = false) (h14 : k .safe = false) (h15 : k .jnl = false) (h16 : k .net = false) (h17 : k .lnd = false) (h18 : k .tru = false) (h19 : k .pwr = false) (h20 : k .boot = false) (h21 : k .sent = false) (h22 : k .freeSeq = false) :
    (State.branch s cond ofs link).mask k = s.mask k := by
  unfold State.branch
  first
    | (simp (maxDischargeDepth := 9) only [↓State.bankOp_mask, ↓State.illegal_mask, ↓State.mask_ite, ite_self, implies_true, h0, h1, h2, h3, h4, h5, h6, h7, h8, h9, h10, h11, h12, h13, h14, h15, h16, h17, h18, h19, h20, h21, h22]; done)
    | ((try dsimp only); (repeat' split) <;> first | (simp (maxDischargeDepth := 9) only [↓State.bankOp_mask, ↓State.illegal_mask, ↓State.mask_ite, ite_self, implies_true, h0, h1, h2, h3, h4, h5, h6, h7, h8, h9, h10, h11, h12, h13, h14, h15, h16, h17, h18, h19, h20, h21, h22]; done) | (simp_all (maxDischargeDepth := 9) only [↓State.bankOp_mask, ↓State.illegal_mask, ↓State.mask_ite, ite_self, implies_true, h0, h1, h2, h3, h4, h5, h6, h7, h8, h9, h10, h11, h12, h13, h14, h15, h16, h17, h18, h19, h20, h21, h22]; done))

theorem execBr_mask (k : Part → Bool) (cond : BitVec 5) (ofs : BitVec 21) (s : State) (h0 : k .mono = false) (h1 : k .tim = false) (h2 : k .fab = false) (h3 : k .mem = false) (h4 : k .eng = false) (h5 : k .tally = false) (h6 : k .axes = false) (h7 : k .portals = false) (h8 : k .fel = false) (h9 : k .sde = false) (h10 : k .ls = false) (h11 : k .lsg = false) (h12 : k .kerf = false) (h13 : k .fio = false) (h14 : k .safe = false) (h15 : k .jnl = false) (h16 : k .net = false) (h17 : k .lnd = false) (h18 : k .tru = false) (h19 : k .pwr = false) (h20 : k .boot = false) (h21 : k .sent = false) (h22 : k .freeSeq = false) :
    (stateOf s (execBr cond ofs s)).mask k = s.mask k := by
  unfold execBr
  first
    | (simp (maxDischargeDepth := 9) only [↓State.branch_mask, ↓stateOf_next, ↓stateOf_ite, ↓State.mask_ite, ite_self, implies_true, h0, h1, h2, h3, h4, h5, h6, h7, h8, h9, h10, h11, h12, h13, h14, h15, h16, h17, h18, h19, h20, h21, h22]; done)
    | ((try dsimp only); (repeat' split) <;> first | (simp (maxDischargeDepth := 9) only [↓State.branch_mask, ↓stateOf_next, ↓stateOf_ite, ↓State.mask_ite, ite_self, implies_true, h0, h1, h2, h3, h4, h5, h6, h7, h8, h9, h10, h11, h12, h13, h14, h15, h16, h17, h18, h19, h20, h21, h22]; done) | (simp_all (maxDischargeDepth := 9) only [↓State.branch_mask, ↓stateOf_next, ↓stateOf_ite, ↓State.mask_ite, ite_self, implies_true, h0, h1, h2, h3, h4, h5, h6, h7, h8, h9, h10, h11, h12, h13, h14, h15, h16, h17, h18, h19, h20, h21, h22]; done))

theorem execBrl_mask (k : Part → Bool) (cond : BitVec 5) (ofs : BitVec 21) (s : State) (h0 : k .mono = false) (h1 : k .tim = false) (h2 : k .fab = false) (h3 : k .mem = false) (h4 : k .eng = false) (h5 : k .tally = false) (h6 : k .axes = false) (h7 : k .portals = false) (h8 : k .fel = false) (h9 : k .sde = false) (h10 : k .ls = false) (h11 : k .lsg = false) (h12 : k .kerf = false) (h13 : k .fio = false) (h14 : k .safe = false) (h15 : k .jnl = false) (h16 : k .net = false) (h17 : k .lnd = false) (h18 : k .tru = false) (h19 : k .pwr = false) (h20 : k .boot = false) (h21 : k .sent = false) (h22 : k .freeSeq = false) :
    (stateOf s (execBrl cond ofs s)).mask k = s.mask k := by
  unfold execBrl
  first
    | (simp (maxDischargeDepth := 9) only [↓State.branch_mask, ↓stateOf_next, ↓stateOf_ite, ↓State.mask_ite, ite_self, implies_true, h0, h1, h2, h3, h4, h5, h6, h7, h8, h9, h10, h11, h12, h13, h14, h15, h16, h17, h18, h19, h20, h21, h22]; done)
    | ((try dsimp only); (repeat' split) <;> first | (simp (maxDischargeDepth := 9) only [↓State.branch_mask, ↓stateOf_next, ↓stateOf_ite, ↓State.mask_ite, ite_self, implies_true, h0, h1, h2, h3, h4, h5, h6, h7, h8, h9, h10, h11, h12, h13, h14, h15, h16, h17, h18, h19, h20, h21, h22]; done) | (simp_all (maxDischargeDepth := 9) only [↓State.branch_mask, ↓stateOf_next, ↓stateOf_ite, ↓State.mask_ite, ite_self, implies_true, h0, h1, h2, h3, h4, h5, h6, h7, h8, h9, h10, h11, h12, h13, h14, h15, h16, h17, h18, h19, h20, h21, h22]; done))

theorem execJr_mask (k : Part → Bool) (a : Reg) (s : State) (h0 : k .mono = false) (h1 : k .eng = false) :
    (stateOf s (execJr a s)).mask k = s.mask k := by
  unfold execJr
  first
    | (simp (maxDischargeDepth := 9) only [↓State.bankOp_mask, ↓stateOf_next, ↓stateOf_ite, ↓State.mask_ite, ite_self, implies_true, h0, h1]; done)
    | ((try dsimp only); (repeat' split) <;> first | (simp (maxDischargeDepth := 9) only [↓State.bankOp_mask, ↓stateOf_next, ↓stateOf_ite, ↓State.mask_ite, ite_self, implies_true, h0, h1]; done) | (simp_all (maxDischargeDepth := 9) only [↓State.bankOp_mask, ↓stateOf_next, ↓stateOf_ite, ↓State.mask_ite, ite_self, implies_true, h0, h1]; done))

theorem execJrl_mask (k : Part → Bool) (d a : Reg) (s : State) (h0 : k .mono = false) (h1 : k .eng = false) :
    (stateOf s (execJrl d a s)).mask k = s.mask k := by
  unfold execJrl
  first
    | (simp (maxDischargeDepth := 9) only [↓State.bankOp_mask, ↓stateOf_next, ↓stateOf_ite, ↓State.mask_ite, ite_self, implies_true, h0, h1]; done)
    | ((try dsimp only); (repeat' split) <;> first | (simp (maxDischargeDepth := 9) only [↓State.bankOp_mask, ↓stateOf_next, ↓stateOf_ite, ↓State.mask_ite, ite_self, implies_true, h0, h1]; done) | (simp_all (maxDischargeDepth := 9) only [↓State.bankOp_mask, ↓stateOf_next, ↓stateOf_ite, ↓State.mask_ite, ite_self, implies_true, h0, h1]; done))

theorem execNop_mask (k : Part → Bool) (s : State) (h0 : k .mono = false) (h1 : k .eng = false) :
    (stateOf s (execNop s)).mask k = s.mask k := by
  unfold execNop
  first
    | (simp (maxDischargeDepth := 9) only [↓State.bankOp_mask, ↓stateOf_next, ↓stateOf_ite, ↓State.mask_ite, ite_self, implies_true, h0, h1]; done)
    | ((try dsimp only); (repeat' split) <;> first | (simp (maxDischargeDepth := 9) only [↓State.bankOp_mask, ↓stateOf_next, ↓stateOf_ite, ↓State.mask_ite, ite_self, implies_true, h0, h1]; done) | (simp_all (maxDischargeDepth := 9) only [↓State.bankOp_mask, ↓stateOf_next, ↓stateOf_ite, ↓State.mask_ite, ite_self, implies_true, h0, h1]; done))

theorem execRdf_mask (k : Part → Bool) (d : Reg) (s : State) (h0 : k .mono = false) (h1 : k .eng = false) :
    (stateOf s (execRdf d s)).mask k = s.mask k := by
  unfold execRdf
  first
    | (simp (maxDischargeDepth := 9) only [↓State.bankOp_mask, ↓stateOf_next, ↓stateOf_ite, ↓State.mask_ite, ite_self, implies_true, h0, h1]; done)
    | ((try dsimp only); (repeat' split) <;> first | (simp (maxDischargeDepth := 9) only [↓State.bankOp_mask, ↓stateOf_next, ↓stateOf_ite, ↓State.mask_ite, ite_self, implies_true, h0, h1]; done) | (simp_all (maxDischargeDepth := 9) only [↓State.bankOp_mask, ↓stateOf_next, ↓stateOf_ite, ↓State.mask_ite, ite_self, implies_true, h0, h1]; done))

theorem execWrf_mask (k : Part → Bool) (a : Reg) (s : State) (h0 : k .mono = false) (h1 : k .eng = false) :
    (stateOf s (execWrf a s)).mask k = s.mask k := by
  unfold execWrf
  first
    | (simp (maxDischargeDepth := 9) only [↓State.bankOp_mask, ↓stateOf_next, ↓stateOf_ite, ↓State.mask_ite, ite_self, implies_true, h0, h1]; done)
    | ((try dsimp only); (repeat' split) <;> first | (simp (maxDischargeDepth := 9) only [↓State.bankOp_mask, ↓stateOf_next, ↓stateOf_ite, ↓State.mask_ite, ite_self, implies_true, h0, h1]; done) | (simp_all (maxDischargeDepth := 9) only [↓State.bankOp_mask, ↓stateOf_next, ↓stateOf_ite, ↓State.mask_ite, ite_self, implies_true, h0, h1]; done))

end Sys2Proof.Machine
end

