-- ==== Sys2Proof/Laws/FrameFilifEmit.lean ====
section
/-! SUPPORT. What each operation of Machine/FilifEmit.lean can change: it keeps every part of the state that it is not named to change. -/

set_option linter.unusedSimpArgs false

namespace Sys2Proof.Machine

theorem State.emitTo_mask (kp : Part → Bool) (s : State) (d : Reg) (k : BitVec 8) (payload : List Byte) (h0 : kp .eng = false) (h1 : kp .tally = false) :
    (State.emitTo s d k payload).mask kp = s.mask kp := by
  unfold State.emitTo
  first
    | (simp (maxDischargeDepth := 9) only [↓State.putStatus_mask, ↓State.emit_mask, ↓State.mask_ite, ite_self, implies_true, h0, h1]; done)
    | ((try dsimp only); (repeat' split) <;> first | (simp (maxDischargeDepth := 9) only [↓State.putStatus_mask, ↓State.emit_mask, ↓State.mask_ite, ite_self, implies_true, h0, h1]; done) | (simp_all (maxDischargeDepth := 9) only [↓State.putStatus_mask, ↓State.emit_mask, ↓State.mask_ite, ite_self, implies_true, h0, h1]; done))

theorem State.emitBad_mask (k : Part → Bool) (s : State) (d : Reg) (a : Word) (h0 : k .eng = false) :
    (State.emitBad s d a).mask k = s.mask k := by
  unfold State.emitBad
  first
    | (simp (maxDischargeDepth := 9) only [↓State.violation_mask, ↓State.putStatus_mask, ↓State.mask_ite, ite_self, implies_true, h0]; done)
    | ((try dsimp only); (repeat' split) <;> first | (simp (maxDischargeDepth := 9) only [↓State.violation_mask, ↓State.putStatus_mask, ↓State.mask_ite, ite_self, implies_true, h0]; done) | (simp_all (maxDischargeDepth := 9) only [↓State.violation_mask, ↓State.putStatus_mask, ↓State.mask_ite, ite_self, implies_true, h0]; done))

theorem execTrec_mask (kp : Part → Bool) (d a : Reg) (k : BitVec 8) (s : State) (h0 : kp .mono = false) (h1 : kp .tim = false) (h2 : kp .fab = false) (h3 : kp .mem = false) (h4 : kp .eng = false) (h5 : kp .tally = false) (h6 : kp .axes = false) (h7 : kp .portals = false) (h8 : kp .fel = false) (h9 : kp .sde = false) (h10 : kp .ls = false) (h11 : kp .lsg = false) (h12 : kp .kerf = false) (h13 : kp .fio = false) (h14 : kp .safe = false) (h15 : kp .jnl = false) (h16 : kp .net = false) (h17 : kp .lnd = false) (h18 : kp .tru = false) (h19 : kp .pwr = false) (h20 : kp .boot = false) (h21 : kp .sent = false) (h22 : kp .freeSeq = false) :
    (stateOf s (execTrec d a k s)).mask kp = s.mask kp := by
  unfold execTrec
  first
    | (simp (maxDischargeDepth := 9) only [↓State.insn_mask, ↓State.drainAll_mask, ↓State.illegal_mask, ↓State.emitTo_mask, ↓State.emitBad_mask, ↓stateOf_next, ↓stateOf_ite, ↓State.mask_ite, ite_self, implies_true, h0, h1, h2, h3, h4, h5, h6, h7, h8, h9, h10, h11, h12, h13, h14, h15, h16, h17, h18, h19, h20, h21, h22]; done)
    | ((try dsimp only); (repeat' split) <;> first | (simp (maxDischargeDepth := 9) only [↓State.insn_mask, ↓State.drainAll_mask, ↓State.illegal_mask, ↓State.emitTo_mask, ↓State.emitBad_mask, ↓stateOf_next, ↓stateOf_ite, ↓State.mask_ite, ite_self, implies_true, h0, h1, h2, h3, h4, h5, h6, h7, h8, h9, h10, h11, h12, h13, h14, h15, h16, h17, h18, h19, h20, h21, h22]; done) | (simp_all (maxDischargeDepth := 9) only [↓State.insn_mask, ↓State.drainAll_mask, ↓State.illegal_mask, ↓State.emitTo_mask, ↓State.emitBad_mask, ↓stateOf_next, ↓stateOf_ite, ↓State.mask_ite, ite_self, implies_true, h0, h1, h2, h3, h4, h5, h6, h7, h8, h9, h10, h11, h12, h13, h14, h15, h16, h17, h18, h19, h20, h21, h22]; done))
    | ((try dsimp only); refine State.insn_mask _ _ _ _ h0 h4 fun _ => ?_; (try dsimp only); (repeat' split) <;> simp (maxDischargeDepth := 9) only [↓State.insn_mask, ↓State.drainAll_mask, ↓State.illegal_mask, ↓State.emitTo_mask, ↓State.emitBad_mask, ↓stateOf_next, ↓stateOf_ite, ↓State.mask_ite, ite_self, implies_true, h0, h1, h2, h3, h4, h5, h6, h7, h8, h9, h10, h11, h12, h13, h14, h15, h16, h17, h18, h19, h20, h21, h22]; done)

theorem execTword_mask (kp : Part → Bool) (d a : Reg) (k : BitVec 8) (s : State) (h0 : kp .mono = false) (h1 : kp .tim = false) (h2 : kp .fab = false) (h3 : kp .mem = false) (h4 : kp .eng = false) (h5 : kp .tally = false) (h6 : kp .axes = false) (h7 : kp .portals = false) (h8 : kp .fel = false) (h9 : kp .sde = false) (h10 : kp .ls = false) (h11 : kp .lsg = false) (h12 : kp .kerf = false) (h13 : kp .fio = false) (h14 : kp .safe = false) (h15 : kp .jnl = false) (h16 : kp .net = false) (h17 : kp .lnd = false) (h18 : kp .tru = false) (h19 : kp .pwr = false) (h20 : kp .boot = false) (h21 : kp .sent = false) (h22 : kp .freeSeq = false) :
    (stateOf s (execTword d a k s)).mask kp = s.mask kp := by
  unfold execTword
  first
    | (simp (maxDischargeDepth := 9) only [↓State.insn_mask, ↓State.drainAll_mask, ↓State.illegal_mask, ↓State.emitTo_mask, ↓stateOf_next, ↓stateOf_ite, ↓State.mask_ite, ite_self, implies_true, h0, h1, h2, h3, h4, h5, h6, h7, h8, h9, h10, h11, h12, h13, h14, h15, h16, h17, h18, h19, h20, h21, h22]; done)
    | ((try dsimp only); (repeat' split) <;> first | (simp (maxDischargeDepth := 9) only [↓State.insn_mask, ↓State.drainAll_mask, ↓State.illegal_mask, ↓State.emitTo_mask, ↓stateOf_next, ↓stateOf_ite, ↓State.mask_ite, ite_self, implies_true, h0, h1, h2, h3, h4, h5, h6, h7, h8, h9, h10, h11, h12, h13, h14, h15, h16, h17, h18, h19, h20, h21, h22]; done) | (simp_all (maxDischargeDepth := 9) only [↓State.insn_mask, ↓State.drainAll_mask, ↓State.illegal_mask, ↓State.emitTo_mask, ↓stateOf_next, ↓stateOf_ite, ↓State.mask_ite, ite_self, implies_true, h0, h1, h2, h3, h4, h5, h6, h7, h8, h9, h10, h11, h12, h13, h14, h15, h16, h17, h18, h19, h20, h21, h22]; done))
    | ((try dsimp only); refine State.insn_mask _ _ _ _ h0 h4 fun _ => ?_; (try dsimp only); (repeat' split) <;> simp (maxDischargeDepth := 9) only [↓State.insn_mask, ↓State.drainAll_mask, ↓State.illegal_mask, ↓State.emitTo_mask, ↓stateOf_next, ↓stateOf_ite, ↓State.mask_ite, ite_self, implies_true, h0, h1, h2, h3, h4, h5, h6, h7, h8, h9, h10, h11, h12, h13, h14, h15, h16, h17, h18, h19, h20, h21, h22]; done)

theorem State.mbSend_mask (k : Part → Bool) (s : State) (m : Fin 64) (a n : Nat) (h0 : k .net = false) (h1 : k .freeSeq = false) :
    (State.mbSend s m a n).1.mask k = s.mask k := by
  unfold State.mbSend
  first
    | (simp (maxDischargeDepth := 9) only [↓State.used_mask, ↓State.modMbox_mask, ↓State.mask_ite, ite_self, implies_true, ↓State.mask_fst_ite, h0, h1]; done)
    | ((try dsimp only); (repeat' split) <;> first | (simp (maxDischargeDepth := 9) only [↓State.used_mask, ↓State.modMbox_mask, ↓State.mask_ite, ite_self, implies_true, ↓State.mask_fst_ite, h0, h1]; done) | (simp_all (maxDischargeDepth := 9) only [↓State.used_mask, ↓State.modMbox_mask, ↓State.mask_ite, ite_self, implies_true, ↓State.mask_fst_ite, h0, h1]; done))

theorem execMbsend_mask (kp : Part → Bool) (d a : Reg) (k : BitVec 8) (s : State) (h0 : kp .mono = false) (h1 : kp .tim = false) (h2 : kp .fab = false) (h3 : kp .mem = false) (h4 : kp .eng = false) (h5 : kp .tally = false) (h6 : kp .axes = false) (h7 : kp .portals = false) (h8 : kp .fel = false) (h9 : kp .sde = false) (h10 : kp .ls = false) (h11 : kp .lsg = false) (h12 : kp .kerf = false) (h13 : kp .fio = false) (h14 : kp .safe = false) (h15 : kp .jnl = false) (h16 : kp .net = false) (h17 : kp .lnd = false) (h18 : kp .tru = false) (h19 : kp .pwr = false) (h20 : kp .boot = false) (h21 : kp .sent = false) (h22 : kp .freeSeq = false) :
    (stateOf s (execMbsend d a k s)).mask kp = s.mask kp := by
  unfold execMbsend
  first
    | (simp (maxDischargeDepth := 9) only [↓State.insn_mask, ↓State.putStatus_mask, ↓State.drainAll_mask, ↓State.illegal_mask, ↓State.emitBad_mask, ↓State.mbSend_mask, ↓stateOf_next, ↓stateOf_ite, ↓State.mask_ite, ite_self, implies_true, h0, h1, h2, h3, h4, h5, h6, h7, h8, h9, h10, h11, h12, h13, h14, h15, h16, h17, h18, h19, h20, h21, h22]; done)
    | ((try dsimp only); (repeat' split) <;> first | (simp (maxDischargeDepth := 9) only [↓State.insn_mask, ↓State.putStatus_mask, ↓State.drainAll_mask, ↓State.illegal_mask, ↓State.emitBad_mask, ↓State.mbSend_mask, ↓stateOf_next, ↓stateOf_ite, ↓State.mask_ite, ite_self, implies_true, h0, h1, h2, h3, h4, h5, h6, h7, h8, h9, h10, h11, h12, h13, h14, h15, h16, h17, h18, h19, h20, h21, h22]; done) | (simp_all (maxDischargeDepth := 9) only [↓State.insn_mask, ↓State.putStatus_mask, ↓State.drainAll_mask, ↓State.illegal_mask, ↓State.emitBad_mask, ↓State.mbSend_mask, ↓stateOf_next, ↓stateOf_ite, ↓State.mask_ite, ite_self, implies_true, h0, h1, h2, h3, h4, h5, h6, h7, h8, h9, h10, h11, h12, h13, h14, h15, h16, h17, h18, h19, h20, h21, h22]; done))
    | ((try dsimp only); refine State.insn_mask _ _ _ _ h0 h4 fun _ => ?_; (try dsimp only); (repeat' split) <;> simp (maxDischargeDepth := 9) only [↓State.insn_mask, ↓State.putStatus_mask, ↓State.drainAll_mask, ↓State.illegal_mask, ↓State.emitBad_mask, ↓State.mbSend_mask, ↓stateOf_next, ↓stateOf_ite, ↓State.mask_ite, ite_self, implies_true, h0, h1, h2, h3, h4, h5, h6, h7, h8, h9, h10, h11, h12, h13, h14, h15, h16, h17, h18, h19, h20, h21, h22]; done)

theorem State.putTaken_mask (k : Part → Bool) (s : State) (d : Reg) (w : Word) (h0 : k .eng = false) :
    (State.putTaken s d w).mask k = s.mask k := by
  unfold State.putTaken
  first
    | (simp (maxDischargeDepth := 9) only [↓State.modBank_mask, ↓State.mask_ite, ite_self, implies_true, h0]; done)
    | ((try dsimp only); (repeat' split) <;> first | (simp (maxDischargeDepth := 9) only [↓State.modBank_mask, ↓State.mask_ite, ite_self, implies_true, h0]; done) | (simp_all (maxDischargeDepth := 9) only [↓State.modBank_mask, ↓State.mask_ite, ite_self, implies_true, h0]; done))

theorem State.mbRecv_mask (k : Part → Bool) (s : State) (d : Reg) (m : Fin 64) (ad cap : Nat) (h0 : k .mem = false) (h1 : k .eng = false) (h2 : k .net = false) :
    (State.mbRecv s d m ad cap).mask k = s.mask k := by
  unfold State.mbRecv
  first
    | (simp (maxDischargeDepth := 9) only [↓State.setBytes_mask, ↓State.modMbox_mask, ↓State.hitMoves_mask, ↓State.putTaken_mask, ↓State.mask_ite, ite_self, implies_true, h0, h1, h2]; done)
    | ((try dsimp only); (repeat' split) <;> first | (simp (maxDischargeDepth := 9) only [↓State.setBytes_mask, ↓State.modMbox_mask, ↓State.hitMoves_mask, ↓State.putTaken_mask, ↓State.mask_ite, ite_self, implies_true, h0, h1, h2]; done) | (simp_all (maxDischargeDepth := 9) only [↓State.setBytes_mask, ↓State.modMbox_mask, ↓State.hitMoves_mask, ↓State.putTaken_mask, ↓State.mask_ite, ite_self, implies_true, h0, h1, h2]; done))

theorem execMbrecv_mask (kp : Part → Bool) (d a : Reg) (k : BitVec 8) (s : State) (h0 : kp .mono = false) (h1 : kp .tim = false) (h2 : kp .fab = false) (h3 : kp .mem = false) (h4 : kp .eng = false) (h5 : kp .tally = false) (h6 : kp .axes = false) (h7 : kp .portals = false) (h8 : kp .fel = false) (h9 : kp .sde = false) (h10 : kp .ls = false) (h11 : kp .lsg = false) (h12 : kp .kerf = false) (h13 : kp .fio = false) (h14 : kp .safe = false) (h15 : kp .jnl = false) (h16 : kp .net = false) (h17 : kp .lnd = false) (h18 : kp .tru = false) (h19 : kp .pwr = false) (h20 : kp .boot = false) (h21 : kp .sent = false) (h22 : kp .freeSeq = false) :
    (stateOf s (execMbrecv d a k s)).mask kp = s.mask kp := by
  unfold execMbrecv
  first
    | (simp (maxDischargeDepth := 9) only [↓State.used_mask, ↓State.violation_mask, ↓State.insn_mask, ↓State.drainAll_mask, ↓State.illegal_mask, ↓State.putTaken_mask, ↓State.mbRecv_mask, ↓stateOf_next, ↓stateOf_ite, ↓State.mask_ite, ite_self, implies_true, h0, h1, h2, h3, h4, h5, h6, h7, h8, h9, h10, h11, h12, h13, h14, h15, h16, h17, h18, h19, h20, h21, h22]; done)
    | ((try dsimp only); (repeat' split) <;> first | (simp (maxDischargeDepth := 9) only [↓State.used_mask, ↓State.violation_mask, ↓State.insn_mask, ↓State.drainAll_mask, ↓State.illegal_mask, ↓State.putTaken_mask, ↓State.mbRecv_mask, ↓stateOf_next, ↓stateOf_ite, ↓State.mask_ite, ite_self, implies_true, h0, h1, h2, h3, h4, h5, h6, h7, h8, h9, h10, h11, h12, h13, h14, h15, h16, h17, h18, h19, h20, h21, h22]; done) | (simp_all (maxDischargeDepth := 9) only [↓State.used_mask, ↓State.violation_mask, ↓State.insn_mask, ↓State.drainAll_mask, ↓State.illegal_mask, ↓State.putTaken_mask, ↓State.mbRecv_mask, ↓stateOf_next, ↓stateOf_ite, ↓State.mask_ite, ite_self, implies_true, h0, h1, h2, h3, h4, h5, h6, h7, h8, h9, h10, h11, h12, h13, h14, h15, h16, h17, h18, h19, h20, h21, h22]; done))
    | ((try dsimp only); refine State.insn_mask _ _ _ _ h0 h4 fun _ => ?_; (try dsimp only); (repeat' split) <;> simp (maxDischargeDepth := 9) only [↓State.used_mask, ↓State.violation_mask, ↓State.insn_mask, ↓State.drainAll_mask, ↓State.illegal_mask, ↓State.putTaken_mask, ↓State.mbRecv_mask, ↓stateOf_next, ↓stateOf_ite, ↓State.mask_ite, ite_self, implies_true, h0, h1, h2, h3, h4, h5, h6, h7, h8, h9, h10, h11, h12, h13, h14, h15, h16, h17, h18, h19, h20, h21, h22]; done)

theorem execMbstat_mask (kp : Part → Bool) (d : Reg) (k : BitVec 8) (s : State) (h0 : kp .mono = false) (h1 : kp .tim = false) (h2 : kp .fab = false) (h3 : kp .latch = false) (h4 : kp .mem = false) (h5 : kp .eng = false) (h6 : kp .tally = false) (h7 : kp .axes = false) (h8 : kp .portals = false) (h9 : kp .fel = false) (h10 : kp .sde = false) (h11 : kp .ls = false) (h12 : kp .lsg = false) (h13 : kp .kerf = false) (h14 : kp .fio = false) (h15 : kp .safe = false) (h16 : kp .jnl = false) (h17 : kp .net = false) (h18 : kp .lnd = false) (h19 : kp .tru = false) (h20 : kp .pwr = false) (h21 : kp .boot = false) (h22 : kp .sent = false) (h23 : kp .freeSeq = false) :
    (stateOf s (execMbstat d k s)).mask kp = s.mask kp := by
  unfold execMbstat
  first
    | (simp (maxDischargeDepth := 9) only [↓State.putR_mask, ↓State.insn_mask, ↓State.touch_mask, ↓State.drainAll_mask, ↓State.illegal_mask, ↓stateOf_next, ↓stateOf_ite, ↓State.mask_ite, ite_self, implies_true, h0, h1, h2, h3, h4, h5, h6, h7, h8, h9, h10, h11, h12, h13, h14, h15, h16, h17, h18, h19, h20, h21, h22, h23]; done)
    | ((try dsimp only); (repeat' split) <;> first | (simp (maxDischargeDepth := 9) only [↓State.putR_mask, ↓State.insn_mask, ↓State.touch_mask, ↓State.drainAll_mask, ↓State.illegal_mask, ↓stateOf_next, ↓stateOf_ite, ↓State.mask_ite, ite_self, implies_true, h0, h1, h2, h3, h4, h5, h6, h7, h8, h9, h10, h11, h12, h13, h14, h15, h16, h17, h18, h19, h20, h21, h22, h23]; done) | (simp_all (maxDischargeDepth := 9) only [↓State.putR_mask, ↓State.insn_mask, ↓State.touch_mask, ↓State.drainAll_mask, ↓State.illegal_mask, ↓stateOf_next, ↓stateOf_ite, ↓State.mask_ite, ite_self, implies_true, h0, h1, h2, h3, h4, h5, h6, h7, h8, h9, h10, h11, h12, h13, h14, h15, h16, h17, h18, h19, h20, h21, h22, h23]; done))
    | ((try dsimp only); refine State.insn_mask _ _ _ _ h0 h5 fun _ => ?_; (try dsimp only); (repeat' split) <;> simp (maxDischargeDepth := 9) only [↓State.putR_mask, ↓State.insn_mask, ↓State.touch_mask, ↓State.drainAll_mask, ↓State.illegal_mask, ↓stateOf_next, ↓stateOf_ite, ↓State.mask_ite, ite_self, implies_true, h0, h1, h2, h3, h4, h5, h6, h7, h8, h9, h10, h11, h12, h13, h14, h15, h16, h17, h18, h19, h20, h21, h22, h23]; done)

end Sys2Proof.Machine
end

