-- ==== Sys2Proof/Laws/FrameFilifMem.lean ====
section
/-! SUPPORT. What each operation of Machine/FilifMem.lean can change: it keeps every part of the state that it is not named to change. -/

set_option linter.unusedSimpArgs false

namespace Sys2Proof.Machine

theorem State.loadOp_mask (k : Part → Bool) (s : State) (d a : Reg) (imm : BitVec 16) (flt : FabFault) (n : Nat) (ext : Word → Word) (h0 : k .mono = false) (h1 : k .tim = false) (h2 : k .fab = false) (h3 : k .latch = false) (h4 : k .mem = false) (h5 : k .eng = false) (h6 : k .tally = false) (h7 : k .axes = false) (h8 : k .portals = false) (h9 : k .fel = false) (h10 : k .sde = false) (h11 : k .ls = false) (h12 : k .lsg = false) (h13 : k .kerf = false) (h14 : k .fio = false) (h15 : k .safe = false) (h16 : k .jnl = false) (h17 : k .net = false) (h18 : k .lnd = false) (h19 : k .tru = false) (h20 : k .pwr = false) (h21 : k .boot = false) (h22 : k .sent = false) (h23 : k .freeSeq = false) :
    (State.loadOp s d a imm flt n ext).mask k = s.mask k := by
  unfold State.loadOp
  first
    | (simp (maxDischargeDepth := 9) only [↓State.putR_mask, ↓State.insn_mask, ↓State.fetch_mask, ↓State.mask_ite, ite_self, implies_true, h0, h1, h2, h3, h4, h5, h6, h7, h8, h9, h10, h11, h12, h13, h14, h15, h16, h17, h18, h19, h20, h21, h22, h23]; done)
    | ((try dsimp only); (repeat' split) <;> first | (simp (maxDischargeDepth := 9) only [↓State.putR_mask, ↓State.insn_mask, ↓State.fetch_mask, ↓State.mask_ite, ite_self, implies_true, h0, h1, h2, h3, h4, h5, h6, h7, h8, h9, h10, h11, h12, h13, h14, h15, h16, h17, h18, h19, h20, h21, h22, h23]; done) | (simp_all (maxDischargeDepth := 9) only [↓State.putR_mask, ↓State.insn_mask, ↓State.fetch_mask, ↓State.mask_ite, ite_self, implies_true, h0, h1, h2, h3, h4, h5, h6, h7, h8, h9, h10, h11, h12, h13, h14, h15, h16, h17, h18, h19, h20, h21, h22, h23]; done))
    | ((try dsimp only); refine State.insn_mask _ _ _ _ h0 h5 fun _ => ?_; (try dsimp only); (repeat' split) <;> simp (maxDischargeDepth := 9) only [↓State.putR_mask, ↓State.insn_mask, ↓State.fetch_mask, ↓State.mask_ite, ite_self, implies_true, h0, h1, h2, h3, h4, h5, h6, h7, h8, h9, h10, h11, h12, h13, h14, h15, h16, h17, h18, h19, h20, h21, h22, h23]; done)

theorem State.storeOp_mask (k : Part → Bool) (s : State) (d a : Reg) (imm : BitVec 16) (n : Nat) (h0 : k .mono = false) (h1 : k .tim = false) (h2 : k .fab = false) (h3 : k .mem = false) (h4 : k .eng = false) (h5 : k .tally = false) (h6 : k .axes = false) (h7 : k .portals = false) (h8 : k .fel = false) (h9 : k .sde = false) (h10 : k .ls = false) (h11 : k .lsg = false) (h12 : k .kerf = false) (h13 : k .fio = false) (h14 : k .safe = false) (h15 : k .jnl = false) (h16 : k .net = false) (h17 : k .lnd = false) (h18 : k .tru = false) (h19 : k .pwr = false) (h20 : k .boot = false) (h21 : k .sent = false) (h22 : k .freeSeq = false) :
    (State.storeOp s d a imm n).mask k = s.mask k := by
  unfold State.storeOp
  first
    | (simp (maxDischargeDepth := 9) only [↓State.insn_mask, ↓State.store_mask, ↓State.mask_ite, ite_self, implies_true, h0, h1, h2, h3, h4, h5, h6, h7, h8, h9, h10, h11, h12, h13, h14, h15, h16, h17, h18, h19, h20, h21, h22]; done)
    | ((try dsimp only); (repeat' split) <;> first | (simp (maxDischargeDepth := 9) only [↓State.insn_mask, ↓State.store_mask, ↓State.mask_ite, ite_self, implies_true, h0, h1, h2, h3, h4, h5, h6, h7, h8, h9, h10, h11, h12, h13, h14, h15, h16, h17, h18, h19, h20, h21, h22]; done) | (simp_all (maxDischargeDepth := 9) only [↓State.insn_mask, ↓State.store_mask, ↓State.mask_ite, ite_self, implies_true, h0, h1, h2, h3, h4, h5, h6, h7, h8, h9, h10, h11, h12, h13, h14, h15, h16, h17, h18, h19, h20, h21, h22]; done))
    | ((try dsimp only); refine State.insn_mask _ _ _ _ h0 h4 fun _ => ?_; (try dsimp only); (repeat' split) <;> simp (maxDischargeDepth := 9) only [↓State.insn_mask, ↓State.store_mask, ↓State.mask_ite, ite_self, implies_true, h0, h1, h2, h3, h4, h5, h6, h7, h8, h9, h10, h11, h12, h13, h14, h15, h16, h17, h18, h19, h20, h21, h22]; done)

theorem execLdw_mask (k : Part → Bool) (d a : Reg) (imm : BitVec 16) (flt : FabFault) (s : State) (h0 : k .mono = false) (h1 : k .tim = false) (h2 : k .fab = false) (h3 : k .latch = false) (h4 : k .mem = false) (h5 : k .eng = false) (h6 : k .tally = false) (h7 : k .axes = false) (h8 : k .portals = false) (h9 : k .fel = false) (h10 : k .sde = false) (h11 : k .ls = false) (h12 : k .lsg = false) (h13 : k .kerf = false) (h14 : k .fio = false) (h15 : k .safe = false) (h16 : k .jnl = false) (h17 : k .net = false) (h18 : k .lnd = false) (h19 : k .tru = false) (h20 : k .pwr = false) (h21 : k .boot = false) (h22 : k .sent = false) (h23 : k .freeSeq = false) :
    (stateOf s (execLdw d a imm flt s)).mask k = s.mask k := by
  unfold execLdw
  first
    | (simp (maxDischargeDepth := 9) only [↓State.loadOp_mask, ↓stateOf_next, ↓stateOf_ite, ↓State.mask_ite, ite_self, implies_true, h0, h1, h2, h3, h4, h5, h6, h7, h8, h9, h10, h11, h12, h13, h14, h15, h16, h17, h18, h19, h20, h21, h22, h23]; done)
    | ((try dsimp only); (repeat' split) <;> first | (simp (maxDischargeDepth := 9) only [↓State.loadOp_mask, ↓stateOf_next, ↓stateOf_ite, ↓State.mask_ite, ite_self, implies_true, h0, h1, h2, h3, h4, h5, h6, h7, h8, h9, h10, h11, h12, h13, h14, h15, h16, h17, h18, h19, h20, h21, h22, h23]; done) | (simp_all (maxDischargeDepth := 9) only [↓State.loadOp_mask, ↓stateOf_next, ↓stateOf_ite, ↓State.mask_ite, ite_self, implies_true, h0, h1, h2, h3, h4, h5, h6, h7, h8, h9, h10, h11, h12, h13, h14, h15, h16, h17, h18, h19, h20, h21, h22, h23]; done))

theorem execLdh_mask (k : Part → Bool) (d a : Reg) (imm : BitVec 16) (flt : FabFault) (s : State) (h0 : k .mono = false) (h1 : k .tim = false) (h2 : k .fab = false) (h3 : k .latch = false) (h4 : k .mem = false) (h5 : k .eng = false) (h6 : k .tally = false) (h7 : k .axes = false) (h8 : k .portals = false) (h9 : k .fel = false) (h10 : k .sde = false) (h11 : k .ls = false) (h12 : k .lsg = false) (h13 : k .kerf = false) (h14 : k .fio = false) (h15 : k .safe = false) (h16 : k .jnl = false) (h17 : k .net = false) (h18 : k .lnd = false) (h19 : k .tru = false) (h20 : k .pwr = false) (h21 : k .boot = false) (h22 : k .sent = false) (h23 : k .freeSeq = false) :
    (stateOf s (execLdh d a imm flt s)).mask k = s.mask k := by
  unfold execLdh
  first
    | (simp (maxDischargeDepth := 9) only [↓State.loadOp_mask, ↓stateOf_next, ↓stateOf_ite, ↓State.mask_ite, ite_self, implies_true, h0, h1, h2, h3, h4, h5, h6, h7, h8, h9, h10, h11, h12, h13, h14, h15, h16, h17, h18, h19, h20, h21, h22, h23]; done)
    | ((try dsimp only); (repeat' split) <;> first | (simp (maxDischargeDepth := 9) only [↓State.loadOp_mask, ↓stateOf_next, ↓stateOf_ite, ↓State.mask_ite, ite_self, implies_true, h0, h1, h2, h3, h4, h5, h6, h7, h8, h9, h10, h11, h12, h13, h14, h15, h16, h17, h18, h19, h20, h21, h22, h23]; done) | (simp_all (maxDischargeDepth := 9) only [↓State.loadOp_mask, ↓stateOf_next, ↓stateOf_ite, ↓State.mask_ite, ite_self, implies_true, h0, h1, h2, h3, h4, h5, h6, h7, h8, h9, h10, h11, h12, h13, h14, h15, h16, h17, h18, h19, h20, h21, h22, h23]; done))

theorem execLdhu_mask (k : Part → Bool) (d a : Reg) (imm : BitVec 16) (flt : FabFault) (s : State) (h0 : k .mono = false) (h1 : k .tim = false) (h2 : k .fab = false) (h3 : k .latch = false) (h4 : k .mem = false) (h5 : k .eng = false) (h6 : k .tally = false) (h7 : k .axes = false) (h8 : k .portals = false) (h9 : k .fel = false) (h10 : k .sde = false) (h11 : k .ls = false) (h12 : k .lsg = false) (h13 : k .kerf = false) (h14 : k .fio = false) (h15 : k .safe = false) (h16 : k .jnl = false) (h17 : k .net = false) (h18 : k .lnd = false) (h19 : k .tru = false) (h20 : k .pwr = false) (h21 : k .boot = false) (h22 : k .sent = false) (h23 : k .freeSeq = false) :
    (stateOf s (execLdhu d a imm flt s)).mask k = s.mask k := by
  unfold execLdhu
  first
    | (simp (maxDischargeDepth := 9) only [↓State.loadOp_mask, ↓stateOf_next, ↓stateOf_ite, ↓State.mask_ite, ite_self, implies_true, h0, h1, h2, h3, h4, h5, h6, h7, h8, h9, h10, h11, h12, h13, h14, h15, h16, h17, h18, h19, h20, h21, h22, h23]; done)
    | ((try dsimp only); (repeat' split) <;> first | (simp (maxDischargeDepth := 9) only [↓State.loadOp_mask, ↓stateOf_next, ↓stateOf_ite, ↓State.mask_ite, ite_self, implies_true, h0, h1, h2, h3, h4, h5, h6, h7, h8, h9, h10, h11, h12, h13, h14, h15, h16, h17, h18, h19, h20, h21, h22, h23]; done) | (simp_all (maxDischargeDepth := 9) only [↓State.loadOp_mask, ↓stateOf_next, ↓stateOf_ite, ↓State.mask_ite, ite_self, implies_true, h0, h1, h2, h3, h4, h5, h6, h7, h8, h9, h10, h11, h12, h13, h14, h15, h16, h17, h18, h19, h20, h21, h22, h23]; done))

theorem execLdb_mask (k : Part → Bool) (d a : Reg) (imm : BitVec 16) (flt : FabFault) (s : State) (h0 : k .mono = false) (h1 : k .tim = false) (h2 : k .fab = false) (h3 : k .latch = false) (h4 : k .mem = false) (h5 : k .eng = false) (h6 : k .tally = false) (h7 : k .axes = false) (h8 : k .portals = false) (h9 : k .fel = false) (h10 : k .sde = false) (h11 : k .ls = false) (h12 : k .lsg = false) (h13 : k .kerf = false) (h14 : k .fio = false) (h15 : k .safe = false) (h16 : k .jnl = false) (h17 : k .net = false) (h18 : k .lnd = false) (h19 : k .tru = false) (h20 : k .pwr = false) (h21 : k .boot = false) (h22 : k .sent = false) (h23 : k .freeSeq = false) :
    (stateOf s (execLdb d a imm flt s)).mask k = s.mask k := by
  unfold execLdb
  first
    | (simp (maxDischargeDepth := 9) only [↓State.loadOp_mask, ↓stateOf_next, ↓stateOf_ite, ↓State.mask_ite, ite_self, implies_true, h0, h1, h2, h3, h4, h5, h6, h7, h8, h9, h10, h11, h12, h13, h14, h15, h16, h17, h18, h19, h20, h21, h22, h23]; done)
    | ((try dsimp only); (repeat' split) <;> first | (simp (maxDischargeDepth := 9) only [↓State.loadOp_mask, ↓stateOf_next, ↓stateOf_ite, ↓State.mask_ite, ite_self, implies_true, h0, h1, h2, h3, h4, h5, h6, h7, h8, h9, h10, h11, h12, h13, h14, h15, h16, h17, h18, h19, h20, h21, h22, h23]; done) | (simp_all (maxDischargeDepth := 9) only [↓State.loadOp_mask, ↓stateOf_next, ↓stateOf_ite, ↓State.mask_ite, ite_self, implies_true, h0, h1, h2, h3, h4, h5, h6, h7, h8, h9, h10, h11, h12, h13, h14, h15, h16, h17, h18, h19, h20, h21, h22, h23]; done))

theorem execLdbu_mask (k : Part → Bool) (d a : Reg) (imm : BitVec 16) (flt : FabFault) (s : State) (h0 : k .mono = false) (h1 : k .tim = false) (h2 : k .fab = false) (h3 : k .latch = false) (h4 : k .mem = false) (h5 : k .eng = false) (h6 : k .tally = false) (h7 : k .axes = false) (h8 : k .portals = false) (h9 : k .fel = false) (h10 : k .sde = false) (h11 : k .ls = false) (h12 : k .lsg = false) (h13 : k .kerf = false) (h14 : k .fio = false) (h15 : k .safe = false) (h16 : k .jnl = false) (h17 : k .net = false) (h18 : k .lnd = false) (h19 : k .tru = false) (h20 : k .pwr = false) (h21 : k .boot = false) (h22 : k .sent = false) (h23 : k .freeSeq = false) :
    (stateOf s (execLdbu d a imm flt s)).mask k = s.mask k := by
  unfold execLdbu
  first
    | (simp (maxDischargeDepth := 9) only [↓State.loadOp_mask, ↓stateOf_next, ↓stateOf_ite, ↓State.mask_ite, ite_self, implies_true, h0, h1, h2, h3, h4, h5, h6, h7, h8, h9, h10, h11, h12, h13, h14, h15, h16, h17, h18, h19, h20, h21, h22, h23]; done)
    | ((try dsimp only); (repeat' split) <;> first | (simp (maxDischargeDepth := 9) only [↓State.loadOp_mask, ↓stateOf_next, ↓stateOf_ite, ↓State.mask_ite, ite_self, implies_true, h0, h1, h2, h3, h4, h5, h6, h7, h8, h9, h10, h11, h12, h13, h14, h15, h16, h17, h18, h19, h20, h21, h22, h23]; done) | (simp_all (maxDischargeDepth := 9) only [↓State.loadOp_mask, ↓stateOf_next, ↓stateOf_ite, ↓State.mask_ite, ite_self, implies_true, h0, h1, h2, h3, h4, h5, h6, h7, h8, h9, h10, h11, h12, h13, h14, h15, h16, h17, h18, h19, h20, h21, h22, h23]; done))

theorem execStw_mask (k : Part → Bool) (d a : Reg) (imm : BitVec 16) (s : State) (h0 : k .mono = false) (h1 : k .tim = false) (h2 : k .fab = false) (h3 : k .mem = false) (h4 : k .eng = false) (h5 : k .tally = false) (h6 : k .axes = false) (h7 : k .portals = false) (h8 : k .fel = false) (h9 : k .sde = false) (h10 : k .ls = false) (h11 : k .lsg = false) (h12 : k .kerf = false) (h13 : k .fio = false) (h14 : k .safe = false) (h15 : k .jnl = false) (h16 : k .net = false) (h17 : k .lnd = false) (h18 : k .tru = false) (h19 : k .pwr = false) (h20 : k .boot = false) (h21 : k .sent = false) (h22 : k .freeSeq = false) :
    (stateOf s (execStw d a imm s)).mask k = s.mask k := by
  unfold execStw
  first
    | (simp (maxDischargeDepth := 9) only [↓State.storeOp_mask, ↓stateOf_next, ↓stateOf_ite, ↓State.mask_ite, ite_self, implies_true, h0, h1, h2, h3, h4, h5, h6, h7, h8, h9, h10, h11, h12, h13, h14, h15, h16, h17, h18, h19, h20, h21, h22]; done)
    | ((try dsimp only); (repeat' split) <;> first | (simp (maxDischargeDepth := 9) only [↓State.storeOp_mask, ↓stateOf_next, ↓stateOf_ite, ↓State.mask_ite, ite_self, implies_true, h0, h1, h2, h3, h4, h5, h6, h7, h8, h9, h10, h11, h12, h13, h14, h15, h16, h17, h18, h19, h20, h21, h22]; done) | (simp_all (maxDischargeDepth := 9) only [↓State.storeOp_mask, ↓stateOf_next, ↓stateOf_ite, ↓State.mask_ite, ite_self, implies_true, h0, h1, h2, h3, h4, h5, h6, h7, h8, h9, h10, h11, h12, h13, h14, h15, h16, h17, h18, h19, h20, h21, h22]; done))

theorem execSth_mask (k : Part → Bool) (d a : Reg) (imm : BitVec 16) (s : State) (h0 : k .mono = false) (h1 : k .tim = false) (h2 : k .fab = false) (h3 : k .mem = false) (h4 : k .eng = false) (h5 : k .tally = false) (h6 : k .axes = false) (h7 : k .portals = false) (h8 : k .fel = false) (h9 : k .sde = false) (h10 : k .ls = false) (h11 : k .lsg = false) (h12 : k .kerf = false) (h13 : k .fio = false) (h14 : k .safe = false) (h15 : k .jnl = false) (h16 : k .net = false) (h17 : k .lnd = false) (h18 : k .tru = false) (h19 : k .pwr = false) (h20 : k .boot = false) (h21 : k .sent = false) (h22 : k .freeSeq = false) :
    (stateOf s (execSth d a imm s)).mask k = s.mask k := by
  unfold execSth
  first
    | (simp (maxDischargeDepth := 9) only [↓State.storeOp_mask, ↓stateOf_next, ↓stateOf_ite, ↓State.mask_ite, ite_self, implies_true, h0, h1, h2, h3, h4, h5, h6, h7, h8, h9, h10, h11, h12, h13, h14, h15, h16, h17, h18, h19, h20, h21, h22]; done)
    | ((try dsimp only); (repeat' split) <;> first | (simp (maxDischargeDepth := 9) only [↓State.storeOp_mask, ↓stateOf_next, ↓stateOf_ite, ↓State.mask_ite, ite_self, implies_true, h0, h1, h2, h3, h4, h5, h6, h7, h8, h9, h10, h11, h12, h13, h14, h15, h16, h17, h18, h19, h20, h21, h22]; done) | (simp_all (maxDischargeDepth := 9) only [↓State.storeOp_mask, ↓stateOf_next, ↓stateOf_ite, ↓State.mask_ite, ite_self, implies_true, h0, h1, h2, h3, h4, h5, h6, h7, h8, h9, h10, h11, h12, h13, h14, h15, h16, h17, h18, h19, h20, h21, h22]; done))

theorem execStb_mask (k : Part → Bool) (d a : Reg) (imm : BitVec 16) (s : State) (h0 : k .mono = false) (h1 : k .tim = false) (h2 : k .fab = false) (h3 : k .mem = false) (h4 : k .eng = false) (h5 : k .tally = false) (h6 : k .axes = false) (h7 : k .portals = false) (h8 : k .fel = false) (h9 : k .sde = false) (h10 : k .ls = false) (h11 : k .lsg = false) (h12 : k .kerf = false) (h13 : k .fio = false) (h14 : k .safe = false) (h15 : k .jnl = false) (h16 : k .net = false) (h17 : k .lnd = false) (h18 : k .tru = false) (h19 : k .pwr = false) (h20 : k .boot = false) (h21 : k .sent = false) (h22 : k .freeSeq = false) :
    (stateOf s (execStb d a imm s)).mask k = s.mask k := by
  unfold execStb
  first
    | (simp (maxDischargeDepth := 9) only [↓State.storeOp_mask, ↓stateOf_next, ↓stateOf_ite, ↓State.mask_ite, ite_self, implies_true, h0, h1, h2, h3, h4, h5, h6, h7, h8, h9, h10, h11, h12, h13, h14, h15, h16, h17, h18, h19, h20, h21, h22]; done)
    | ((try dsimp only); (repeat' split) <;> first | (simp (maxDischargeDepth := 9) only [↓State.storeOp_mask, ↓stateOf_next, ↓stateOf_ite, ↓State.mask_ite, ite_self, implies_true, h0, h1, h2, h3, h4, h5, h6, h7, h8, h9, h10, h11, h12, h13, h14, h15, h16, h17, h18, h19, h20, h21, h22]; done) | (simp_all (maxDischargeDepth := 9) only [↓State.storeOp_mask, ↓stateOf_next, ↓stateOf_ite, ↓State.mask_ite, ite_self, implies_true, h0, h1, h2, h3, h4, h5, h6, h7, h8, h9, h10, h11, h12, h13, h14, h15, h16, h17, h18, h19, h20, h21, h22]; done))

theorem execStoreDrain_mask (k : Part → Bool) (flt : FabFault) (s : State) (h0 : k .tim = false) (h1 : k .fab = false) (h2 : k .mem = false) (h3 : k .eng = false) (h4 : k .tally = false) (h5 : k .axes = false) (h6 : k .portals = false) (h7 : k .fel = false) (h8 : k .sde = false) (h9 : k .ls = false) (h10 : k .lsg = false) (h11 : k .kerf = false) (h12 : k .fio = false) (h13 : k .safe = false) (h14 : k .jnl = false) (h15 : k .net = false) (h16 : k .lnd = false) (h17 : k .tru = false) (h18 : k .pwr = false) (h19 : k .boot = false) (h20 : k .sent = false) (h21 : k .freeSeq = false) :
    (stateOf s (execStoreDrain flt s)).mask k = s.mask k := by
  unfold execStoreDrain
  first
    | (simp (maxDischargeDepth := 9) only [↓State.modEng_mask, ↓State.fabFault_mask, ↓State.enterStop_mask, ↓State.drainOne_mask, ↓stateOf_next, ↓stateOf_ite, ↓State.mask_ite, ite_self, implies_true, h0, h1, h2, h3, h4, h5, h6, h7, h8, h9, h10, h11, h12, h13, h14, h15, h16, h17, h18, h19, h20, h21]; done)
    | ((try dsimp only); (repeat' split) <;> first | (simp (maxDischargeDepth := 9) only [↓State.modEng_mask, ↓State.fabFault_mask, ↓State.enterStop_mask, ↓State.drainOne_mask, ↓stateOf_next, ↓stateOf_ite, ↓State.mask_ite, ite_self, implies_true, h0, h1, h2, h3, h4, h5, h6, h7, h8, h9, h10, h11, h12, h13, h14, h15, h16, h17, h18, h19, h20, h21]; done) | (simp_all (maxDischargeDepth := 9) only [↓State.modEng_mask, ↓State.fabFault_mask, ↓State.enterStop_mask, ↓State.drainOne_mask, ↓stateOf_next, ↓stateOf_ite, ↓State.mask_ite, ite_self, implies_true, h0, h1, h2, h3, h4, h5, h6, h7, h8, h9, h10, h11, h12, h13, h14, h15, h16, h17, h18, h19, h20, h21]; done))

theorem State.memContact_mask (k : Part → Bool) (s : State) (bit : BitIx) (a : Reg) (imm : BitVec 16) (flt : FabFault) (f : Bool → Bool → Bool) (h0 : k .mono = false) (h1 : k .tim = false) (h2 : k .fab = false) (h3 : k .latch = false) (h4 : k .mem = false) (h5 : k .eng = false) (h6 : k .tally = false) (h7 : k .axes = false) (h8 : k .portals = false) (h9 : k .fel = false) (h10 : k .sde = false) (h11 : k .ls = false) (h12 : k .lsg = false) (h13 : k .kerf = false) (h14 : k .fio = false) (h15 : k .safe = false) (h16 : k .jnl = false) (h17 : k .net = false) (h18 : k .lnd = false) (h19 : k .tru = false) (h20 : k .pwr = false) (h21 : k .boot = false) (h22 : k .sent = false) (h23 : k .freeSeq = false) :
    (State.memContact s bit a imm flt f).mask k = s.mask k := by
  unfold State.memContact
  first
    | (simp (maxDischargeDepth := 9) only [↓State.modBank_mask, ↓State.insn_mask, ↓State.fetch_mask, ↓State.mask_ite, ite_self, implies_true, h0, h1, h2, h3, h4, h5, h6, h7, h8, h9, h10, h11, h12, h13, h14, h15, h16, h17, h18, h19, h20, h21, h22, h23]; done)
    | ((try dsimp only); (repeat' split) <;> first | (simp (maxDischargeDepth := 9) only [↓State.modBank_mask, ↓State.insn_mask, ↓State.fetch_mask, ↓State.mask_ite, ite_self, implies_true, h0, h1, h2, h3, h4, h5, h6, h7, h8, h9, h10, h11, h12, h13, h14, h15, h16, h17, h18, h19, h20, h21, h22, h23]; done) | (simp_all (maxDischargeDepth := 9) only [↓State.modBank_mask, ↓State.insn_mask, ↓State.fetch_mask, ↓State.mask_ite, ite_self, implies_true, h0, h1, h2, h3, h4, h5, h6, h7, h8, h9, h10, h11, h12, h13, h14, h15, h16, h17, h18, h19, h20, h21, h22, h23]; done))
    | ((try dsimp only); refine State.insn_mask _ _ _ _ h0 h5 fun _ => ?_; (try dsimp only); (repeat' split) <;> simp (maxDischargeDepth := 9) only [↓State.modBank_mask, ↓State.insn_mask, ↓State.fetch_mask, ↓State.mask_ite, ite_self, implies_true, h0, h1, h2, h3, h4, h5, h6, h7, h8, h9, h10, h11, h12, h13, h14, h15, h16, h17, h18, h19, h20, h21, h22, h23]; done)

theorem State.memCoil_mask (k : Part → Bool) (s : State) (bit : BitIx) (a : Reg) (imm : BitVec 16) (flt : FabFault) (f : Bool → Bool → Bool) (h0 : k .mono = false) (h1 : k .tim = false) (h2 : k .fab = false) (h3 : k .latch = false) (h4 : k .mem = false) (h5 : k .eng = false) (h6 : k .tally = false) (h7 : k .axes = false) (h8 : k .portals = false) (h9 : k .fel = false) (h10 : k .sde = false) (h11 : k .ls = false) (h12 : k .lsg = false) (h13 : k .kerf = false) (h14 : k .fio = false) (h15 : k .safe = false) (h16 : k .jnl = false) (h17 : k .net = false) (h18 : k .lnd = false) (h19 : k .tru = false) (h20 : k .pwr = false) (h21 : k .boot = false) (h22 : k .sent = false) (h23 : k .freeSeq = false) :
    (State.memCoil s bit a imm flt f).mask k = s.mask k := by
  unfold State.memCoil
  first
    | (simp (maxDischargeDepth := 9) only [↓State.setWord_mask, ↓State.violation_mask, ↓State.insn_mask, ↓State.hitMoves_mask, ↓State.drainAll_mask, ↓State.fetch_mask, ↓State.mask_ite, ite_self, implies_true, h0, h1, h2, h3, h4, h5, h6, h7, h8, h9, h10, h11, h12, h13, h14, h15, h16, h17, h18, h19, h20, h21, h22, h23]; done)
    | ((try dsimp only); (repeat' split) <;> first | (simp (maxDischargeDepth := 9) only [↓State.setWord_mask, ↓State.violation_mask, ↓State.insn_mask, ↓State.hitMoves_mask, ↓State.drainAll_mask, ↓State.fetch_mask, ↓State.mask_ite, ite_self, implies_true, h0, h1, h2, h3, h4, h5, h6, h7, h8, h9, h10, h11, h12, h13, h14, h15, h16, h17, h18, h19, h20, h21, h22, h23]; done) | (simp_all (maxDischargeDepth := 9) only [↓State.setWord_mask, ↓State.violation_mask, ↓State.insn_mask, ↓State.hitMoves_mask, ↓State.drainAll_mask, ↓State.fetch_mask, ↓State.mask_ite, ite_self, implies_true, h0, h1, h2, h3, h4, h5, h6, h7, h8, h9, h10, h11, h12, h13, h14, h15, h16, h17, h18, h19, h20, h21, h22, h23]; done))
    | ((try dsimp only); refine State.insn_mask _ _ _ _ h0 h5 fun _ => ?_; (try dsimp only); (repeat' split) <;> simp (maxDischargeDepth := 9) only [↓State.setWord_mask, ↓State.violation_mask, ↓State.insn_mask, ↓State.hitMoves_mask, ↓State.drainAll_mask, ↓State.fetch_mask, ↓State.mask_ite, ite_self, implies_true, h0, h1, h2, h3, h4, h5, h6, h7, h8, h9, h10, h11, h12, h13, h14, h15, h16, h17, h18, h19, h20, h21, h22, h23]; done)

theorem execCld_mask (k : Part → Bool) (bit : BitIx) (a : Reg) (imm : BitVec 16) (flt : FabFault) (s : State) (h0 : k .mono = false) (h1 : k .tim = false) (h2 : k .fab = false) (h3 : k .latch = false) (h4 : k .mem = false) (h5 : k .eng = false) (h6 : k .tally = false) (h7 : k .axes = false) (h8 : k .portals = false) (h9 : k .fel = false) (h10 : k .sde = false) (h11 : k .ls = false) (h12 : k .lsg = false) (h13 : k .kerf = false) (h14 : k .fio = false) (h15 : k .safe = false) (h16 : k .jnl = false) (h17 : k .net = false) (h18 : k .lnd = false) (h19 : k .tru = false) (h20 : k .pwr = false) (h21 : k .boot = false) (h22 : k .sent = false) (h23 : k .freeSeq = false) :
    (stateOf s (execCld bit a imm flt s)).mask k = s.mask k := by
  unfold execCld
  first
    | (simp (maxDischargeDepth := 9) only [↓State.memContact_mask, ↓stateOf_next, ↓stateOf_ite, ↓State.mask_ite, ite_self, implies_true, h0, h1, h2, h3, h4, h5, h6, h7, h8, h9, h10, h11, h12, h13, h14, h15, h16, h17, h18, h19, h20, h21, h22, h23]; done)
    | ((try dsimp only); (repeat' split) <;> first | (simp (maxDischargeDepth := 9) only [↓State.memContact_mask, ↓stateOf_next, ↓stateOf_ite, ↓State.mask_ite, ite_self, implies_true, h0, h1, h2, h3, h4, h5, h6, h7, h8, h9, h10, h11, h12, h13, h14, h15, h16, h17, h18, h19, h20, h21, h22, h23]; done) | (simp_all (maxDischargeDepth := 9) only [↓State.memContact_mask, ↓stateOf_next, ↓stateOf_ite, ↓State.mask_ite, ite_self, implies_true, h0, h1, h2, h3, h4, h5, h6, h7, h8, h9, h10, h11, h12, h13, h14, h15, h16, h17, h18, h19, h20, h21, h22, h23]; done))

theorem execCldn_mask (k : Part → Bool) (bit : BitIx) (a : Reg) (imm : BitVec 16) (flt : FabFault) (s : State) (h0 : k .mono = false) (h1 : k .tim = false) (h2 : k .fab = false) (h3 : k .latch = false) (h4 : k .mem = false) (h5 : k .eng = false) (h6 : k .tally = false) (h7 : k .axes = false) (h8 : k .portals = false) (h9 : k .fel = false) (h10 : k .sde = false) (h11 : k .ls = false) (h12 : k .lsg = false) (h13 : k .kerf = false) (h14 : k .fio = false) (h15 : k .safe = false) (h16 : k .jnl = false) (h17 : k .net = false) (h18 : k .lnd = false) (h19 : k .tru = false) (h20 : k .pwr = false) (h21 : k .boot = false) (h22 : k .sent = false) (h23 : k .freeSeq = false) :
    (stateOf s (execCldn bit a imm flt s)).mask k = s.mask k := by
  unfold execCldn
  first
    | (simp (maxDischargeDepth := 9) only [↓State.memContact_mask, ↓stateOf_next, ↓stateOf_ite, ↓State.mask_ite, ite_self, implies_true, h0, h1, h2, h3, h4, h5, h6, h7, h8, h9, h10, h11, h12, h13, h14, h15, h16, h17, h18, h19, h20, h21, h22, h23]; done)
    | ((try dsimp only); (repeat' split) <;> first | (simp (maxDischargeDepth := 9) only [↓State.memContact_mask, ↓stateOf_next, ↓stateOf_ite, ↓State.mask_ite, ite_self, implies_true, h0, h1, h2, h3, h4, h5, h6, h7, h8, h9, h10, h11, h12, h13, h14, h15, h16, h17, h18, h19, h20, h21, h22, h23]; done) | (simp_all (maxDischargeDepth := 9) only [↓State.memContact_mask, ↓stateOf_next, ↓stateOf_ite, ↓State.mask_ite, ite_self, implies_true, h0, h1, h2, h3, h4, h5, h6, h7, h8, h9, h10, h11, h12, h13, h14, h15, h16, h17, h18, h19, h20, h21, h22, h23]; done))

theorem execCand_mask (k : Part → Bool) (bit : BitIx) (a : Reg) (imm : BitVec 16) (flt : FabFault) (s : State) (h0 : k .mono = false) (h1 : k .tim = false) (h2 : k .fab = false) (h3 : k .latch = false) (h4 : k .mem = false) (h5 : k .eng = false) (h6 : k .tally = false) (h7 : k .axes = false) (h8 : k .portals = false) (h9 : k .fel = false) (h10 : k .sde = false) (h11 : k .ls = false) (h12 : k .lsg = false) (h13 : k .kerf = false) (h14 : k .fio = false) (h15 : k .safe = false) (h16 : k .jnl = false) (h17 : k .net = false) (h18 : k .lnd = false) (h19 : k .tru = false) (h20 : k .pwr = false) (h21 : k .boot = false) (h22 : k .sent = false) (h23 : k .freeSeq = false) :
    (stateOf s (execCand bit a imm flt s)).mask k = s.mask k := by
  unfold execCand
  first
    | (simp (maxDischargeDepth := 9) only [↓State.memContact_mask, ↓stateOf_next, ↓stateOf_ite, ↓State.mask_ite, ite_self, implies_true, h0, h1, h2, h3, h4, h5, h6, h7, h8, h9, h10, h11, h12, h13, h14, h15, h16, h17, h18, h19, h20, h21, h22, h23]; done)
    | ((try dsimp only); (repeat' split) <;> first | (simp (maxDischargeDepth := 9) only [↓State.memContact_mask, ↓stateOf_next, ↓stateOf_ite, ↓State.mask_ite, ite_self, implies_true, h0, h1, h2, h3, h4, h5, h6, h7, h8, h9, h10, h11, h12, h13, h14, h15, h16, h17, h18, h19, h20, h21, h22, h23]; done) | (simp_all (maxDischargeDepth := 9) only [↓State.memContact_mask, ↓stateOf_next, ↓stateOf_ite, ↓State.mask_ite, ite_self, implies_true, h0, h1, h2, h3, h4, h5, h6, h7, h8, h9, h10, h11, h12, h13, h14, h15, h16, h17, h18, h19, h20, h21, h22, h23]; done))

theorem execCandn_mask (k : Part → Bool) (bit : BitIx) (a : Reg) (imm : BitVec 16) (flt : FabFault) (s : State) (h0 : k .mono = false) (h1 : k .tim = false) (h2 : k .fab = false) (h3 : k .latch = false) (h4 : k .mem = false) (h5 : k .eng = false) (h6 : k .tally = false) (h7 : k .axes = false) (h8 : k .portals = false) (h9 : k .fel = false) (h10 : k .sde = false) (h11 : k .ls = false) (h12 : k .lsg = false) (h13 : k .kerf = false) (h14 : k .fio = false) (h15 : k .safe = false) (h16 : k .jnl = false) (h17 : k .net = false) (h18 : k .lnd = false) (h19 : k .tru = false) (h20 : k .pwr = false) (h21 : k .boot = false) (h22 : k .sent = false) (h23 : k .freeSeq = false) :
    (stateOf s (execCandn bit a imm flt s)).mask k = s.mask k := by
  unfold execCandn
  first
    | (simp (maxDischargeDepth := 9) only [↓State.memContact_mask, ↓stateOf_next, ↓stateOf_ite, ↓State.mask_ite, ite_self, implies_true, h0, h1, h2, h3, h4, h5, h6, h7, h8, h9, h10, h11, h12, h13, h14, h15, h16, h17, h18, h19, h20, h21, h22, h23]; done)
    | ((try dsimp only); (repeat' split) <;> first | (simp (maxDischargeDepth := 9) only [↓State.memContact_mask, ↓stateOf_next, ↓stateOf_ite, ↓State.mask_ite, ite_self, implies_true, h0, h1, h2, h3, h4, h5, h6, h7, h8, h9, h10, h11, h12, h13, h14, h15, h16, h17, h18, h19, h20, h21, h22, h23]; done) | (simp_all (maxDischargeDepth := 9) only [↓State.memContact_mask, ↓stateOf_next, ↓stateOf_ite, ↓State.mask_ite, ite_self, implies_true, h0, h1, h2, h3, h4, h5, h6, h7, h8, h9, h10, h11, h12, h13, h14, h15, h16, h17, h18, h19, h20, h21, h22, h23]; done))

theorem execCor_mask (k : Part → Bool) (bit : BitIx) (a : Reg) (imm : BitVec 16) (flt : FabFault) (s : State) (h0 : k .mono = false) (h1 : k .tim = false) (h2 : k .fab = false) (h3 : k .latch = false) (h4 : k .mem = false) (h5 : k .eng = false) (h6 : k .tally = false) (h7 : k .axes = false) (h8 : k .portals = false) (h9 : k .fel = false) (h10 : k .sde = false) (h11 : k .ls = false) (h12 : k .lsg = false) (h13 : k .kerf = false) (h14 : k .fio = false) (h15 : k .safe = false) (h16 : k .jnl = false) (h17 : k .net = false) (h18 : k .lnd = false) (h19 : k .tru = false) (h20 : k .pwr = false) (h21 : k .boot = false) (h22 : k .sent = false) (h23 : k .freeSeq = false) :
    (stateOf s (execCor bit a imm flt s)).mask k = s.mask k := by
  unfold execCor
  first
    | (simp (maxDischargeDepth := 9) only [↓State.memContact_mask, ↓stateOf_next, ↓stateOf_ite, ↓State.mask_ite, ite_self, implies_true, h0, h1, h2, h3, h4, h5, h6, h7, h8, h9, h10, h11, h12, h13, h14, h15, h16, h17, h18, h19, h20, h21, h22, h23]; done)
    | ((try dsimp only); (repeat' split) <;> first | (simp (maxDischargeDepth := 9) only [↓State.memContact_mask, ↓stateOf_next, ↓stateOf_ite, ↓State.mask_ite, ite_self, implies_true, h0, h1, h2, h3, h4, h5, h6, h7, h8, h9, h10, h11, h12, h13, h14, h15, h16, h17, h18, h19, h20, h21, h22, h23]; done) | (simp_all (maxDischargeDepth := 9) only [↓State.memContact_mask, ↓stateOf_next, ↓stateOf_ite, ↓State.mask_ite, ite_self, implies_true, h0, h1, h2, h3, h4, h5, h6, h7, h8, h9, h10, h11, h12, h13, h14, h15, h16, h17, h18, h19, h20, h21, h22, h23]; done))

theorem execCorn_mask (k : Part → Bool) (bit : BitIx) (a : Reg) (imm : BitVec 16) (flt : FabFault) (s : State) (h0 : k .mono = false) (h1 : k .tim = false) (h2 : k .fab = false) (h3 : k .latch = false) (h4 : k .mem = false) (h5 : k .eng = false) (h6 : k .tally = false) (h7 : k .axes = false) (h8 : k .portals = false) (h9 : k .fel = false) (h10 : k .sde = false) (h11 : k .ls = false) (h12 : k .lsg = false) (h13 : k .kerf = false) (h14 : k .fio = false) (h15 : k .safe = false) (h16 : k .jnl = false) (h17 : k .net = false) (h18 : k .lnd = false) (h19 : k .tru = false) (h20 : k .pwr = false) (h21 : k .boot = false) (h22 : k .sent = false) (h23 : k .freeSeq = false) :
    (stateOf s (execCorn bit a imm flt s)).mask k = s.mask k := by
  unfold execCorn
  first
    | (simp (maxDischargeDepth := 9) only [↓State.memContact_mask, ↓stateOf_next, ↓stateOf_ite, ↓State.mask_ite, ite_self, implies_true, h0, h1, h2, h3, h4, h5, h6, h7, h8, h9, h10, h11, h12, h13, h14, h15, h16, h17, h18, h19, h20, h21, h22, h23]; done)
    | ((try dsimp only); (repeat' split) <;> first | (simp (maxDischargeDepth := 9) only [↓State.memContact_mask, ↓stateOf_next, ↓stateOf_ite, ↓State.mask_ite, ite_self, implies_true, h0, h1, h2, h3, h4, h5, h6, h7, h8, h9, h10, h11, h12, h13, h14, h15, h16, h17, h18, h19, h20, h21, h22, h23]; done) | (simp_all (maxDischargeDepth := 9) only [↓State.memContact_mask, ↓stateOf_next, ↓stateOf_ite, ↓State.mask_ite, ite_self, implies_true, h0, h1, h2, h3, h4, h5, h6, h7, h8, h9, h10, h11, h12, h13, h14, h15, h16, h17, h18, h19, h20, h21, h22, h23]; done))

theorem execCxor_mask (k : Part → Bool) (bit : BitIx) (a : Reg) (imm : BitVec 16) (flt : FabFault) (s : State) (h0 : k .mono = false) (h1 : k .tim = false) (h2 : k .fab = false) (h3 : k .latch = false) (h4 : k .mem = false) (h5 : k .eng = false) (h6 : k .tally = false) (h7 : k .axes = false) (h8 : k .portals = false) (h9 : k .fel = false) (h10 : k .sde = false) (h11 : k .ls = false) (h12 : k .lsg = false) (h13 : k .kerf = false) (h14 : k .fio = false) (h15 : k .safe = false) (h16 : k .jnl = false) (h17 : k .net = false) (h18 : k .lnd = false) (h19 : k .tru = false) (h20 : k .pwr = false) (h21 : k .boot = false) (h22 : k .sent = false) (h23 : k .freeSeq = false) :
    (stateOf s (execCxor bit a imm flt s)).mask k = s.mask k := by
  unfold execCxor
  first
    | (simp (maxDischargeDepth := 9) only [↓State.memContact_mask, ↓stateOf_next, ↓stateOf_ite, ↓State.mask_ite, ite_self, implies_true, h0, h1, h2, h3, h4, h5, h6, h7, h8, h9, h10, h11, h12, h13, h14, h15, h16, h17, h18, h19, h20, h21, h22, h23]; done)
    | ((try dsimp only); (repeat' split) <;> first | (simp (maxDischargeDepth := 9) only [↓State.memContact_mask, ↓stateOf_next, ↓stateOf_ite, ↓State.mask_ite, ite_self, implies_true, h0, h1, h2, h3, h4, h5, h6, h7, h8, h9, h10, h11, h12, h13, h14, h15, h16, h17, h18, h19, h20, h21, h22, h23]; done) | (simp_all (maxDischargeDepth := 9) only [↓State.memContact_mask, ↓stateOf_next, ↓stateOf_ite, ↓State.mask_ite, ite_self, implies_true, h0, h1, h2, h3, h4, h5, h6, h7, h8, h9, h10, h11, h12, h13, h14, h15, h16, h17, h18, h19, h20, h21, h22, h23]; done))

theorem execCst_mask (k : Part → Bool) (bit : BitIx) (a : Reg) (imm : BitVec 16) (flt : FabFault) (s : State) (h0 : k .mono = false) (h1 : k .tim = false) (h2 : k .fab = false) (h3 : k .latch = false) (h4 : k .mem = false) (h5 : k .eng = false) (h6 : k .tally = false) (h7 : k .axes = false) (h8 : k .portals = false) (h9 : k .fel = false) (h10 : k .sde = false) (h11 : k .ls = false) (h12 : k .lsg = false) (h13 : k .kerf = false) (h14 : k .fio = false) (h15 : k .safe = false) (h16 : k .jnl = false) (h17 : k .net = false) (h18 : k .lnd = false) (h19 : k .tru = false) (h20 : k .pwr = false) (h21 : k .boot = false) (h22 : k .sent = false) (h23 : k .freeSeq = false) :
    (stateOf s (execCst bit a imm flt s)).mask k = s.mask k := by
  unfold execCst
  first
    | (simp (maxDischargeDepth := 9) only [↓State.memCoil_mask, ↓stateOf_next, ↓stateOf_ite, ↓State.mask_ite, ite_self, implies_true, h0, h1, h2, h3, h4, h5, h6, h7, h8, h9, h10, h11, h12, h13, h14, h15, h16, h17, h18, h19, h20, h21, h22, h23]; done)
    | ((try dsimp only); (repeat' split) <;> first | (simp (maxDischargeDepth := 9) only [↓State.memCoil_mask, ↓stateOf_next, ↓stateOf_ite, ↓State.mask_ite, ite_self, implies_true, h0, h1, h2, h3, h4, h5, h6, h7, h8, h9, h10, h11, h12, h13, h14, h15, h16, h17, h18, h19, h20, h21, h22, h23]; done) | (simp_all (maxDischargeDepth := 9) only [↓State.memCoil_mask, ↓stateOf_next, ↓stateOf_ite, ↓State.mask_ite, ite_self, implies_true, h0, h1, h2, h3, h4, h5, h6, h7, h8, h9, h10, h11, h12, h13, h14, h15, h16, h17, h18, h19, h20, h21, h22, h23]; done))

theorem execCstn_mask (k : Part → Bool) (bit : BitIx) (a : Reg) (imm : BitVec 16) (flt : FabFault) (s : State) (h0 : k .mono = false) (h1 : k .tim = false) (h2 : k .fab = false) (h3 : k .latch = false) (h4 : k .mem = false) (h5 : k .eng = false) (h6 : k .tally = false) (h7 : k .axes = false) (h8 : k .portals = false) (h9 : k .fel = false) (h10 : k .sde = false) (h11 : k .ls = false) (h12 : k .lsg = false) (h13 : k .kerf = false) (h14 : k .fio = false) (h15 : k .safe = false) (h16 : k .jnl = false) (h17 : k .net = false) (h18 : k .lnd = false) (h19 : k .tru = false) (h20 : k .pwr = false) (h21 : k .boot = false) (h22 : k .sent = false) (h23 : k .freeSeq = false) :
    (stateOf s (execCstn bit a imm flt s)).mask k = s.mask k := by
  unfold execCstn
  first
    | (simp (maxDischargeDepth := 9) only [↓State.memCoil_mask, ↓stateOf_next, ↓stateOf_ite, ↓State.mask_ite, ite_self, implies_true, h0, h1, h2, h3, h4, h5, h6, h7, h8, h9, h10, h11, h12, h13, h14, h15, h16, h17, h18, h19, h20, h21, h22, h23]; done)
    | ((try dsimp only); (repeat' split) <;> first | (simp (maxDischargeDepth := 9) only [↓State.memCoil_mask, ↓stateOf_next, ↓stateOf_ite, ↓State.mask_ite, ite_self, implies_true, h0, h1, h2, h3, h4, h5, h6, h7, h8, h9, h10, h11, h12, h13, h14, h15, h16, h17, h18, h19, h20, h21, h22, h23]; done) | (simp_all (maxDischargeDepth := 9) only [↓State.memCoil_mask, ↓stateOf_next, ↓stateOf_ite, ↓State.mask_ite, ite_self, implies_true, h0, h1, h2, h3, h4, h5, h6, h7, h8, h9, h10, h11, h12, h13, h14, h15, h16, h17, h18, h19, h20, h21, h22, h23]; done))

theorem execCset_mask (k : Part → Bool) (bit : BitIx) (a : Reg) (imm : BitVec 16) (flt : FabFault) (s : State) (h0 : k .mono = false) (h1 : k .tim = false) (h2 : k .fab = false) (h3 : k .latch = false) (h4 : k .mem = false) (h5 : k .eng = false) (h6 : k .tally = false) (h7 : k .axes = false) (h8 : k .portals = false) (h9 : k .fel = false) (h10 : k .sde = false) (h11 : k .ls = false) (h12 : k .lsg = false) (h13 : k .kerf = false) (h14 : k .fio = false) (h15 : k .safe = false) (h16 : k .jnl = false) (h17 : k .net = false) (h18 : k .lnd = false) (h19 : k .tru = false) (h20 : k .pwr = false) (h21 : k .boot = false) (h22 : k .sent = false) (h23 : k .freeSeq = false) :
    (stateOf s (execCset bit a imm flt s)).mask k = s.mask k := by
  unfold execCset
  first
    | (simp (maxDischargeDepth := 9) only [↓State.memCoil_mask, ↓stateOf_next, ↓stateOf_ite, ↓State.mask_ite, ite_self, implies_true, h0, h1, h2, h3, h4, h5, h6, h7, h8, h9, h10, h11, h12, h13, h14, h15, h16, h17, h18, h19, h20, h21, h22, h23]; done)
    | ((try dsimp only); (repeat' split) <;> first | (simp (maxDischargeDepth := 9) only [↓State.memCoil_mask, ↓stateOf_next, ↓stateOf_ite, ↓State.mask_ite, ite_self, implies_true, h0, h1, h2, h3, h4, h5, h6, h7, h8, h9, h10, h11, h12, h13, h14, h15, h16, h17, h18, h19, h20, h21, h22, h23]; done) | (simp_all (maxDischargeDepth := 9) only [↓State.memCoil_mask, ↓stateOf_next, ↓stateOf_ite, ↓State.mask_ite, ite_self, implies_true, h0, h1, h2, h3, h4, h5, h6, h7, h8, h9, h10, h11, h12, h13, h14, h15, h16, h17, h18, h19, h20, h21, h22, h23]; done))

theorem execCrst_mask (k : Part → Bool) (bit : BitIx) (a : Reg) (imm : BitVec 16) (flt : FabFault) (s : State) (h0 : k .mono = false) (h1 : k .tim = false) (h2 : k .fab = false) (h3 : k .latch = false) (h4 : k .mem = false) (h5 : k .eng = false) (h6 : k .tally = false) (h7 : k .axes = false) (h8 : k .portals = false) (h9 : k .fel = false) (h10 : k .sde = false) (h11 : k .ls = false) (h12 : k .lsg = false) (h13 : k .kerf = false) (h14 : k .fio = false) (h15 : k .safe = false) (h16 : k .jnl = false) (h17 : k .net = false) (h18 : k .lnd = false) (h19 : k .tru = false) (h20 : k .pwr = false) (h21 : k .boot = false) (h22 : k .sent = false) (h23 : k .freeSeq = false) :
    (stateOf s (execCrst bit a imm flt s)).mask k = s.mask k := by
  unfold execCrst
  first
    | (simp (maxDischargeDepth := 9) only [↓State.memCoil_mask, ↓stateOf_next, ↓stateOf_ite, ↓State.mask_ite, ite_self, implies_true, h0, h1, h2, h3, h4, h5, h6, h7, h8, h9, h10, h11, h12, h13, h14, h15, h16, h17, h18, h19, h20, h21, h22, h23]; done)
    | ((try dsimp only); (repeat' split) <;> first | (simp (maxDischargeDepth := 9) only [↓State.memCoil_mask, ↓stateOf_next, ↓stateOf_ite, ↓State.mask_ite, ite_self, implies_true, h0, h1, h2, h3, h4, h5, h6, h7, h8, h9, h10, h11, h12, h13, h14, h15, h16, h17, h18, h19, h20, h21, h22, h23]; done) | (simp_all (maxDischargeDepth := 9) only [↓State.memCoil_mask, ↓stateOf_next, ↓stateOf_ite, ↓State.mask_ite, ite_self, implies_true, h0, h1, h2, h3, h4, h5, h6, h7, h8, h9, h10, h11, h12, h13, h14, h15, h16, h17, h18, h19, h20, h21, h22, h23]; done))

end Sys2Proof.Machine
end

