-- ==== Sys2Proof/Laws/FrameFilifMot.lean ====
section
/-! SUPPORT. What each operation of Machine/FilifMot.lean can change: it keeps every part of the state that it is not named to change. -/

set_option linter.unusedSimpArgs false

namespace Sys2Proof.Machine

theorem execFence_mask (k : Part → Bool) (s : State) (h0 : k .mono = false) (h1 : k .tim = false) (h2 : k .fab = false) (h3 : k .mem = false) (h4 : k .eng = false) (h5 : k .tally = false) (h6 : k .axes = false) (h7 : k .portals = false) (h8 : k .fel = false) (h9 : k .sde = false) (h10 : k .ls = false) (h11 : k .lsg = false) (h12 : k .kerf = false) (h13 : k .fio = false) (h14 : k .safe = false) (h15 : k .jnl = false) (h16 : k .net = false) (h17 : k .lnd = false) (h18 : k .tru = false) (h19 : k .pwr = false) (h20 : k .boot = false) (h21 : k .sent = false) (h22 : k .freeSeq = false) :
    (stateOf s (execFence s)).mask k = s.mask k := by
  unfold execFence
  first
    | (simp (maxDischargeDepth := 9) only [↓State.insn_mask, ↓State.drainAll_mask, ↓stateOf_next, ↓stateOf_ite, ↓State.mask_ite, ite_self, implies_true, h0, h1, h2, h3, h4, h5, h6, h7, h8, h9, h10, h11, h12, h13, h14, h15, h16, h17, h18, h19, h20, h21, h22]; done)
    | ((try dsimp only); (repeat' split) <;> first | (simp (maxDischargeDepth := 9) only [↓State.insn_mask, ↓State.drainAll_mask, ↓stateOf_next, ↓stateOf_ite, ↓State.mask_ite, ite_self, implies_true, h0, h1, h2, h3, h4, h5, h6, h7, h8, h9, h10, h11, h12, h13, h14, h15, h16, h17, h18, h19, h20, h21, h22]; done) | (simp_all (maxDischargeDepth := 9) only [↓State.insn_mask, ↓State.drainAll_mask, ↓stateOf_next, ↓stateOf_ite, ↓State.mask_ite, ite_self, implies_true, h0, h1, h2, h3, h4, h5, h6, h7, h8, h9, h10, h11, h12, h13, h14, h15, h16, h17, h18, h19, h20, h21, h22]; done))
    | ((try dsimp only); refine State.insn_mask _ _ _ _ h0 h4 fun _ => ?_; (try dsimp only); (repeat' split) <;> simp (maxDischargeDepth := 9) only [↓State.insn_mask, ↓State.drainAll_mask, ↓stateOf_next, ↓stateOf_ite, ↓State.mask_ite, ite_self, implies_true, h0, h1, h2, h3, h4, h5, h6, h7, h8, h9, h10, h11, h12, h13, h14, h15, h16, h17, h18, h19, h20, h21, h22]; done)

theorem execCommit_mask (k : Part → Bool) (d a : Reg) (flt : FabFault) (s : State) (h0 : k .mono = false) (h1 : k .tim = false) (h2 : k .fab = false) (h3 : k .mem = false) (h4 : k .eng = false) (h5 : k .tally = false) (h6 : k .axes = false) (h7 : k .portals = false) (h8 : k .fel = false) (h9 : k .sde = false) (h10 : k .ls = false) (h11 : k .lsg = false) (h12 : k .kerf = false) (h13 : k .fio = false) (h14 : k .safe = false) (h15 : k .jnl = false) (h16 : k .net = false) (h17 : k .lnd = false) (h18 : k .tru = false) (h19 : k .pwr = false) (h20 : k .boot = false) (h21 : k .sent = false) (h22 : k .freeSeq = false) :
    (stateOf s (execCommit d a flt s)).mask k = s.mask k := by
  unfold execCommit
  first
    | (simp (maxDischargeDepth := 9) only [↓State.insn_mask, ↓State.putStatus_mask, ↓State.drainAll_mask, ↓State.commit_mask, ↓stateOf_next, ↓stateOf_ite, ↓State.mask_ite, ite_self, implies_true, h0, h1, h2, h3, h4, h5, h6, h7, h8, h9, h10, h11, h12, h13, h14, h15, h16, h17, h18, h19, h20, h21, h22]; done)
    | ((try dsimp only); (repeat' split) <;> first | (simp (maxDischargeDepth := 9) only [↓State.insn_mask, ↓State.putStatus_mask, ↓State.drainAll_mask, ↓State.commit_mask, ↓stateOf_next, ↓stateOf_ite, ↓State.mask_ite, ite_self, implies_true, h0, h1, h2, h3, h4, h5, h6, h7, h8, h9, h10, h11, h12, h13, h14, h15, h16, h17, h18, h19, h20, h21, h22]; done) | (simp_all (maxDischargeDepth := 9) only [↓State.insn_mask, ↓State.putStatus_mask, ↓State.drainAll_mask, ↓State.commit_mask, ↓stateOf_next, ↓stateOf_ite, ↓State.mask_ite, ite_self, implies_true, h0, h1, h2, h3, h4, h5, h6, h7, h8, h9, h10, h11, h12, h13, h14, h15, h16, h17, h18, h19, h20, h21, h22]; done))
    | ((try dsimp only); refine State.insn_mask _ _ _ _ h0 h4 fun _ => ?_; (try dsimp only); (repeat' split) <;> simp (maxDischargeDepth := 9) only [↓State.insn_mask, ↓State.putStatus_mask, ↓State.drainAll_mask, ↓State.commit_mask, ↓stateOf_next, ↓stateOf_ite, ↓State.mask_ite, ite_self, implies_true, h0, h1, h2, h3, h4, h5, h6, h7, h8, h9, h10, h11, h12, h13, h14, h15, h16, h17, h18, h19, h20, h21, h22]; done)

theorem State.motOp_mask (kp : Part → Bool) (s : State) (cycles n : Nat) (d : Reg) (k : BitVec 8) (none_ : Word) (flag : Bool)
    (addr : Nat → Nat) (f : State → Nat → State) (h0 : kp .mono = false) (h1 : kp .tim = false) (h2 : kp .fab = false) (h3 : kp .mem = false) (h4 : kp .eng = false) (h5 : kp .tally = false) (h6 : kp .axes = false) (h7 : kp .portals = false) (h8 : kp .fel = false) (h9 : kp .sde = false) (h10 : kp .ls = false) (h11 : kp .lsg = false) (h12 : kp .kerf = false) (h13 : kp .fio = false) (h14 : kp .safe = false) (h15 : kp .jnl = false) (h16 : kp .net = false) (h17 : kp .lnd = false) (h18 : kp .tru = false) (h19 : kp .pwr = false) (h20 : kp .boot = false) (h21 : kp .sent = false) (h22 : kp .freeSeq = false) (hf : ∀ s i, (f s i).mask kp = s.mask kp) :
    (State.motOp s cycles n d k none_ flag addr f).mask kp = s.mask kp := by
  unfold State.motOp
  split
  · simp only [State.illegal_mask, h0, h1, h2, h3, h4, h5, h6, h7, h8, h9, h10, h11, h12, h13, h14, h15, h16, h17, h18, h19, h20, h21, h22]
  · exact State.insn_mask _ _ _ _ h0 h4 fun s => hf s _
  · refine State.insn_mask _ _ _ _ h0 h4 fun s => ?_
    dsimp only
    split <;> simp only [↓State.putStatus_mask, ↓State.putR_mask, ↓State.noRight_mask, ↓State.drainAll_mask, h0, h1, h2, h3, h4, h5, h6, h7, h8, h9, h10, h11, h12, h13, h14, h15, h16, h17, h18, h19, h20, h21, h22]

theorem execMtgt_mask (kp : Part → Bool) (d a : Reg) (k : BitVec 8) (flt : FabFault) (s : State) (h0 : kp .mono = false) (h1 : kp .tim = false) (h2 : kp .fab = false) (h3 : kp .mem = false) (h4 : kp .eng = false) (h5 : kp .tally = false) (h6 : kp .axes = false) (h7 : kp .portals = false) (h8 : kp .fel = false) (h9 : kp .sde = false) (h10 : kp .ls = false) (h11 : kp .lsg = false) (h12 : kp .kerf = false) (h13 : kp .fio = false) (h14 : kp .safe = false) (h15 : kp .jnl = false) (h16 : kp .net = false) (h17 : kp .lnd = false) (h18 : kp .tru = false) (h19 : kp .pwr = false) (h20 : kp .boot = false) (h21 : kp .sent = false) (h22 : kp .freeSeq = false) :
    (stateOf s (execMtgt d a k flt s)).mask kp = s.mask kp := by
  unfold execMtgt
  first
    | (simp (maxDischargeDepth := 9) only [↓State.putStatus_mask, ↓State.writeAxis_mask, ↓State.drainAll_mask, ↓State.commit_mask, ↓State.motOp_mask, ↓stateOf_next, ↓stateOf_ite, ↓State.mask_ite, ite_self, implies_true, h0, h1, h2, h3, h4, h5, h6, h7, h8, h9, h10, h11, h12, h13, h14, h15, h16, h17, h18, h19, h20, h21, h22]; done)
    | ((try dsimp only); (repeat' split) <;> first | (simp (maxDischargeDepth := 9) only [↓State.putStatus_mask, ↓State.writeAxis_mask, ↓State.drainAll_mask, ↓State.commit_mask, ↓State.motOp_mask, ↓stateOf_next, ↓stateOf_ite, ↓State.mask_ite, ite_self, implies_true, h0, h1, h2, h3, h4, h5, h6, h7, h8, h9, h10, h11, h12, h13, h14, h15, h16, h17, h18, h19, h20, h21, h22]; done) | (simp_all (maxDischargeDepth := 9) only [↓State.putStatus_mask, ↓State.writeAxis_mask, ↓State.drainAll_mask, ↓State.commit_mask, ↓State.motOp_mask, ↓stateOf_next, ↓stateOf_ite, ↓State.mask_ite, ite_self, implies_true, h0, h1, h2, h3, h4, h5, h6, h7, h8, h9, h10, h11, h12, h13, h14, h15, h16, h17, h18, h19, h20, h21, h22]; done))

theorem State.commitLeaves_mask (k : Part → Bool) (s : State) (p : PortalIx) (f : FabFault) (h0 : k .fab = false) (h1 : k .tally = false) (h2 : k .axes = false) (h3 : k .portals = false) (h4 : k .fel = false) (h5 : k .ls = false) (h6 : k .kerf = false) (h7 : k .sent = false) (h8 : k .freeSeq = false) :
    (State.commitLeaves s p f).1.mask k = s.mask k := by
  unfold State.commitLeaves
  first
    | (simp (maxDischargeDepth := 9) only [↓State.fellSince_mask, ↓State.commitAxis_mask, ↓State.copyFault_mask, ↓State.commit_mask, ↓State.mask_ite, ite_self, implies_true, ↓State.mask_fst_ite, h0, h1, h2, h3, h4, h5, h6, h7, h8]; done)
    | ((try dsimp only); (repeat' split) <;> first | (simp (maxDischargeDepth := 9) only [↓State.fellSince_mask, ↓State.commitAxis_mask, ↓State.copyFault_mask, ↓State.commit_mask, ↓State.mask_ite, ite_self, implies_true, ↓State.mask_fst_ite, h0, h1, h2, h3, h4, h5, h6, h7, h8]; done) | (simp_all (maxDischargeDepth := 9) only [↓State.fellSince_mask, ↓State.commitAxis_mask, ↓State.copyFault_mask, ↓State.commit_mask, ↓State.mask_ite, ite_self, implies_true, ↓State.mask_fst_ite, h0, h1, h2, h3, h4, h5, h6, h7, h8]; done))

theorem execMleaf_mask (kp : Part → Bool) (d a : Reg) (k : BitVec 8) (flt : FabFault) (s : State) (h0 : kp .mono = false) (h1 : kp .tim = false) (h2 : kp .fab = false) (h3 : kp .mem = false) (h4 : kp .eng = false) (h5 : kp .tally = false) (h6 : kp .axes = false) (h7 : kp .portals = false) (h8 : kp .fel = false) (h9 : kp .sde = false) (h10 : kp .ls = false) (h11 : kp .lsg = false) (h12 : kp .kerf = false) (h13 : kp .fio = false) (h14 : kp .safe = false) (h15 : kp .jnl = false) (h16 : kp .net = false) (h17 : kp .lnd = false) (h18 : kp .tru = false) (h19 : kp .pwr = false) (h20 : kp .boot = false) (h21 : kp .sent = false) (h22 : kp .freeSeq = false) :
    (stateOf s (execMleaf d a k flt s)).mask kp = s.mask kp := by
  unfold execMleaf
  first
    | (simp (maxDischargeDepth := 9) only [↓State.insn_mask, ↓State.putStatus_mask, ↓State.writeAxis_mask, ↓State.drainAll_mask, ↓State.illegal_mask, ↓State.commitLeaves_mask, ↓stateOf_next, ↓stateOf_ite, ↓State.mask_ite, ite_self, implies_true, h0, h1, h2, h3, h4, h5, h6, h7, h8, h9, h10, h11, h12, h13, h14, h15, h16, h17, h18, h19, h20, h21, h22]; done)
    | ((try dsimp only); (repeat' split) <;> first | (simp (maxDischargeDepth := 9) only [↓State.insn_mask, ↓State.putStatus_mask, ↓State.writeAxis_mask, ↓State.drainAll_mask, ↓State.illegal_mask, ↓State.commitLeaves_mask, ↓stateOf_next, ↓stateOf_ite, ↓State.mask_ite, ite_self, implies_true, h0, h1, h2, h3, h4, h5, h6, h7, h8, h9, h10, h11, h12, h13, h14, h15, h16, h17, h18, h19, h20, h21, h22]; done) | (simp_all (maxDischargeDepth := 9) only [↓State.insn_mask, ↓State.putStatus_mask, ↓State.writeAxis_mask, ↓State.drainAll_mask, ↓State.illegal_mask, ↓State.commitLeaves_mask, ↓stateOf_next, ↓stateOf_ite, ↓State.mask_ite, ite_self, implies_true, h0, h1, h2, h3, h4, h5, h6, h7, h8, h9, h10, h11, h12, h13, h14, h15, h16, h17, h18, h19, h20, h21, h22]; done))
    | ((try dsimp only); refine State.insn_mask _ _ _ _ h0 h4 fun _ => ?_; (try dsimp only); (repeat' split) <;> simp (maxDischargeDepth := 9) only [↓State.insn_mask, ↓State.putStatus_mask, ↓State.writeAxis_mask, ↓State.drainAll_mask, ↓State.illegal_mask, ↓State.commitLeaves_mask, ↓stateOf_next, ↓stateOf_ite, ↓State.mask_ite, ite_self, implies_true, h0, h1, h2, h3, h4, h5, h6, h7, h8, h9, h10, h11, h12, h13, h14, h15, h16, h17, h18, h19, h20, h21, h22]; done)

theorem execMvlim_mask (kp : Part → Bool) (d a : Reg) (k : BitVec 8) (s : State) (h0 : kp .mono = false) (h1 : kp .tim = false) (h2 : kp .fab = false) (h3 : kp .mem = false) (h4 : kp .eng = false) (h5 : kp .tally = false) (h6 : kp .axes = false) (h7 : kp .portals = false) (h8 : kp .fel = false) (h9 : kp .sde = false) (h10 : kp .ls = false) (h11 : kp .lsg = false) (h12 : kp .kerf = false) (h13 : kp .fio = false) (h14 : kp .safe = false) (h15 : kp .jnl = false) (h16 : kp .net = false) (h17 : kp .lnd = false) (h18 : kp .tru = false) (h19 : kp .pwr = false) (h20 : kp .boot = false) (h21 : kp .sent = false) (h22 : kp .freeSeq = false) :
    (stateOf s (execMvlim d a k s)).mask kp = s.mask kp := by
  unfold execMvlim
  first
    | (simp (maxDischargeDepth := 9) only [↓State.writeAxis_mask, ↓State.drainAll_mask, ↓State.motOp_mask, ↓stateOf_next, ↓stateOf_ite, ↓State.mask_ite, ite_self, implies_true, h0, h1, h2, h3, h4, h5, h6, h7, h8, h9, h10, h11, h12, h13, h14, h15, h16, h17, h18, h19, h20, h21, h22]; done)
    | ((try dsimp only); (repeat' split) <;> first | (simp (maxDischargeDepth := 9) only [↓State.writeAxis_mask, ↓State.drainAll_mask, ↓State.motOp_mask, ↓stateOf_next, ↓stateOf_ite, ↓State.mask_ite, ite_self, implies_true, h0, h1, h2, h3, h4, h5, h6, h7, h8, h9, h10, h11, h12, h13, h14, h15, h16, h17, h18, h19, h20, h21, h22]; done) | (simp_all (maxDischargeDepth := 9) only [↓State.writeAxis_mask, ↓State.drainAll_mask, ↓State.motOp_mask, ↓stateOf_next, ↓stateOf_ite, ↓State.mask_ite, ite_self, implies_true, h0, h1, h2, h3, h4, h5, h6, h7, h8, h9, h10, h11, h12, h13, h14, h15, h16, h17, h18, h19, h20, h21, h22]; done))

theorem execMcmd_mask (kp : Part → Bool) (d a : Reg) (k : BitVec 8) (s : State) (h0 : kp .mono = false) (h1 : kp .tim = false) (h2 : kp .fab = false) (h3 : kp .mem = false) (h4 : kp .eng = false) (h5 : kp .tally = false) (h6 : kp .axes = false) (h7 : kp .portals = false) (h8 : kp .fel = false) (h9 : kp .sde = false) (h10 : kp .ls = false) (h11 : kp .lsg = false) (h12 : kp .kerf = false) (h13 : kp .fio = false) (h14 : kp .safe = false) (h15 : kp .jnl = false) (h16 : kp .net = false) (h17 : kp .lnd = false) (h18 : kp .tru = false) (h19 : kp .pwr = false) (h20 : kp .boot = false) (h21 : kp .sent = false) (h22 : kp .freeSeq = false) :
    (stateOf s (execMcmd d a k s)).mask kp = s.mask kp := by
  unfold execMcmd
  first
    | (simp (maxDischargeDepth := 9) only [↓State.writeAxis_mask, ↓State.drainAll_mask, ↓State.motOp_mask, ↓stateOf_next, ↓stateOf_ite, ↓State.mask_ite, ite_self, implies_true, h0, h1, h2, h3, h4, h5, h6, h7, h8, h9, h10, h11, h12, h13, h14, h15, h16, h17, h18, h19, h20, h21, h22]; done)
    | ((try dsimp only); (repeat' split) <;> first | (simp (maxDischargeDepth := 9) only [↓State.writeAxis_mask, ↓State.drainAll_mask, ↓State.motOp_mask, ↓stateOf_next, ↓stateOf_ite, ↓State.mask_ite, ite_self, implies_true, h0, h1, h2, h3, h4, h5, h6, h7, h8, h9, h10, h11, h12, h13, h14, h15, h16, h17, h18, h19, h20, h21, h22]; done) | (simp_all (maxDischargeDepth := 9) only [↓State.writeAxis_mask, ↓State.drainAll_mask, ↓State.motOp_mask, ↓stateOf_next, ↓stateOf_ite, ↓State.mask_ite, ite_self, implies_true, h0, h1, h2, h3, h4, h5, h6, h7, h8, h9, h10, h11, h12, h13, h14, h15, h16, h17, h18, h19, h20, h21, h22]; done))

theorem execPcmd_mask (kp : Part → Bool) (d a : Reg) (k : BitVec 8) (s : State) (h0 : kp .mono = false) (h1 : kp .tim = false) (h2 : kp .fab = false) (h3 : kp .mem = false) (h4 : kp .eng = false) (h5 : kp .tally = false) (h6 : kp .axes = false) (h7 : kp .portals = false) (h8 : kp .fel = false) (h9 : kp .sde = false) (h10 : kp .ls = false) (h11 : kp .lsg = false) (h12 : kp .kerf = false) (h13 : kp .fio = false) (h14 : kp .safe = false) (h15 : kp .jnl = false) (h16 : kp .net = false) (h17 : kp .lnd = false) (h18 : kp .tru = false) (h19 : kp .pwr = false) (h20 : kp .boot = false) (h21 : kp .sent = false) (h22 : kp .freeSeq = false) :
    (stateOf s (execPcmd d a k s)).mask kp = s.mask kp := by
  unfold execPcmd
  first
    | (simp (maxDischargeDepth := 9) only [↓State.fellSince_mask, ↓State.axisCmd_mask, ↓State.drainAll_mask, ↓State.motOp_mask, ↓stateOf_next, ↓stateOf_ite, ↓State.mask_ite, ite_self, implies_true, ↓State.mask_forAll, h0, h1, h2, h3, h4, h5, h6, h7, h8, h9, h10, h11, h12, h13, h14, h15, h16, h17, h18, h19, h20, h21, h22]; done)
    | ((try dsimp only); (repeat' split) <;> first | (simp (maxDischargeDepth := 9) only [↓State.fellSince_mask, ↓State.axisCmd_mask, ↓State.drainAll_mask, ↓State.motOp_mask, ↓stateOf_next, ↓stateOf_ite, ↓State.mask_ite, ite_self, implies_true, ↓State.mask_forAll, h0, h1, h2, h3, h4, h5, h6, h7, h8, h9, h10, h11, h12, h13, h14, h15, h16, h17, h18, h19, h20, h21, h22]; done) | (simp_all (maxDischargeDepth := 9) only [↓State.fellSince_mask, ↓State.axisCmd_mask, ↓State.drainAll_mask, ↓State.motOp_mask, ↓stateOf_next, ↓stateOf_ite, ↓State.mask_ite, ite_self, implies_true, ↓State.mask_forAll, h0, h1, h2, h3, h4, h5, h6, h7, h8, h9, h10, h11, h12, h13, h14, h15, h16, h17, h18, h19, h20, h21, h22]; done))
    | ((try dsimp only); refine State.mask_forAll _ _ _ _ fun _ _ => ?_; (repeat' split) <;> simp (maxDischargeDepth := 9) only [↓State.fellSince_mask, ↓State.axisCmd_mask, ↓State.drainAll_mask, ↓State.motOp_mask, ↓stateOf_next, ↓stateOf_ite, ↓State.mask_ite, ite_self, implies_true, ↓State.mask_forAll, h0, h1, h2, h3, h4, h5, h6, h7, h8, h9, h10, h11, h12, h13, h14, h15, h16, h17, h18, h19, h20, h21, h22]; done)
    | ((try dsimp only); refine (State.mask_forAll _ _ _ _ fun _ _ => ?_).trans ?_ <;> (repeat' split) <;> simp (maxDischargeDepth := 9) only [↓State.fellSince_mask, ↓State.axisCmd_mask, ↓State.drainAll_mask, ↓State.motOp_mask, ↓stateOf_next, ↓stateOf_ite, ↓State.mask_ite, ite_self, implies_true, ↓State.mask_forAll, h0, h1, h2, h3, h4, h5, h6, h7, h8, h9, h10, h11, h12, h13, h14, h15, h16, h17, h18, h19, h20, h21, h22]; done)

theorem execMstat_mask (kp : Part → Bool) (d : Reg) (k : BitVec 8) (s : State) (h0 : kp .mono = false) (h1 : kp .tim = false) (h2 : kp .fab = false) (h3 : kp .mem = false) (h4 : kp .eng = false) (h5 : kp .tally = false) (h6 : kp .axes = false) (h7 : kp .portals = false) (h8 : kp .fel = false) (h9 : kp .sde = false) (h10 : kp .ls = false) (h11 : kp .lsg = false) (h12 : kp .kerf = false) (h13 : kp .fio = false) (h14 : kp .safe = false) (h15 : kp .jnl = false) (h16 : kp .net = false) (h17 : kp .lnd = false) (h18 : kp .tru = false) (h19 : kp .pwr = false) (h20 : kp .boot = false) (h21 : kp .sent = false) (h22 : kp .freeSeq = false) :
    (stateOf s (execMstat d k s)).mask kp = s.mask kp := by
  unfold execMstat
  first
    | (simp (maxDischargeDepth := 9) only [↓State.putR_mask, ↓State.motOp_mask, ↓stateOf_next, ↓stateOf_ite, ↓State.mask_ite, ite_self, implies_true, h0, h1, h2, h3, h4, h5, h6, h7, h8, h9, h10, h11, h12, h13, h14, h15, h16, h17, h18, h19, h20, h21, h22]; done)
    | ((try dsimp only); (repeat' split) <;> first | (simp (maxDischargeDepth := 9) only [↓State.putR_mask, ↓State.motOp_mask, ↓stateOf_next, ↓stateOf_ite, ↓State.mask_ite, ite_self, implies_true, h0, h1, h2, h3, h4, h5, h6, h7, h8, h9, h10, h11, h12, h13, h14, h15, h16, h17, h18, h19, h20, h21, h22]; done) | (simp_all (maxDischargeDepth := 9) only [↓State.putR_mask, ↓State.motOp_mask, ↓stateOf_next, ↓stateOf_ite, ↓State.mask_ite, ite_self, implies_true, h0, h1, h2, h3, h4, h5, h6, h7, h8, h9, h10, h11, h12, h13, h14, h15, h16, h17, h18, h19, h20, h21, h22]; done))

theorem execMpos_mask (kp : Part → Bool) (d : Reg) (k : BitVec 8) (s : State) (h0 : kp .mono = false) (h1 : kp .tim = false) (h2 : kp .fab = false) (h3 : kp .mem = false) (h4 : kp .eng = false) (h5 : kp .tally = false) (h6 : kp .axes = false) (h7 : kp .portals = false) (h8 : kp .fel = false) (h9 : kp .sde = false) (h10 : kp .ls = false) (h11 : kp .lsg = false) (h12 : kp .kerf = false) (h13 : kp .fio = false) (h14 : kp .safe = false) (h15 : kp .jnl = false) (h16 : kp .net = false) (h17 : kp .lnd = false) (h18 : kp .tru = false) (h19 : kp .pwr = false) (h20 : kp .boot = false) (h21 : kp .sent = false) (h22 : kp .freeSeq = false) :
    (stateOf s (execMpos d k s)).mask kp = s.mask kp := by
  unfold execMpos
  first
    | (simp (maxDischargeDepth := 9) only [↓State.putR_mask, ↓State.motOp_mask, ↓stateOf_next, ↓stateOf_ite, ↓State.mask_ite, ite_self, implies_true, h0, h1, h2, h3, h4, h5, h6, h7, h8, h9, h10, h11, h12, h13, h14, h15, h16, h17, h18, h19, h20, h21, h22]; done)
    | ((try dsimp only); (repeat' split) <;> first | (simp (maxDischargeDepth := 9) only [↓State.putR_mask, ↓State.motOp_mask, ↓stateOf_next, ↓stateOf_ite, ↓State.mask_ite, ite_self, implies_true, h0, h1, h2, h3, h4, h5, h6, h7, h8, h9, h10, h11, h12, h13, h14, h15, h16, h17, h18, h19, h20, h21, h22]; done) | (simp_all (maxDischargeDepth := 9) only [↓State.putR_mask, ↓State.motOp_mask, ↓stateOf_next, ↓stateOf_ite, ↓State.mask_ite, ite_self, implies_true, h0, h1, h2, h3, h4, h5, h6, h7, h8, h9, h10, h11, h12, h13, h14, h15, h16, h17, h18, h19, h20, h21, h22]; done))

theorem execBhit_mask (kp : Part → Bool) (d : Reg) (k : BitVec 8) (s : State) (h0 : kp .mono = false) (h1 : kp .tim = false) (h2 : kp .fab = false) (h3 : kp .mem = false) (h4 : kp .eng = false) (h5 : kp .tally = false) (h6 : kp .axes = false) (h7 : kp .portals = false) (h8 : kp .fel = false) (h9 : kp .sde = false) (h10 : kp .ls = false) (h11 : kp .lsg = false) (h12 : kp .kerf = false) (h13 : kp .fio = false) (h14 : kp .safe = false) (h15 : kp .jnl = false) (h16 : kp .net = false) (h17 : kp .lnd = false) (h18 : kp .tru = false) (h19 : kp .pwr = false) (h20 : kp .boot = false) (h21 : kp .sent = false) (h22 : kp .freeSeq = false) :
    (stateOf s (execBhit d k s)).mask kp = s.mask kp := by
  unfold execBhit
  first
    | (simp (maxDischargeDepth := 9) only [↓State.putStatus_mask, ↓State.writeAxis_mask, ↓State.drainAll_mask, ↓State.motOp_mask, ↓stateOf_next, ↓stateOf_ite, ↓State.mask_ite, ite_self, implies_true, h0, h1, h2, h3, h4, h5, h6, h7, h8, h9, h10, h11, h12, h13, h14, h15, h16, h17, h18, h19, h20, h21, h22]; done)
    | ((try dsimp only); (repeat' split) <;> first | (simp (maxDischargeDepth := 9) only [↓State.putStatus_mask, ↓State.writeAxis_mask, ↓State.drainAll_mask, ↓State.motOp_mask, ↓stateOf_next, ↓stateOf_ite, ↓State.mask_ite, ite_self, implies_true, h0, h1, h2, h3, h4, h5, h6, h7, h8, h9, h10, h11, h12, h13, h14, h15, h16, h17, h18, h19, h20, h21, h22]; done) | (simp_all (maxDischargeDepth := 9) only [↓State.putStatus_mask, ↓State.writeAxis_mask, ↓State.drainAll_mask, ↓State.motOp_mask, ↓stateOf_next, ↓stateOf_ite, ↓State.mask_ite, ite_self, implies_true, h0, h1, h2, h3, h4, h5, h6, h7, h8, h9, h10, h11, h12, h13, h14, h15, h16, h17, h18, h19, h20, h21, h22]; done))

theorem execBrearm_mask (kp : Part → Bool) (d a : Reg) (k : BitVec 8) (s : State) (h0 : kp .mono = false) (h1 : kp .tim = false) (h2 : kp .fab = false) (h3 : kp .mem = false) (h4 : kp .eng = false) (h5 : kp .tally = false) (h6 : kp .axes = false) (h7 : kp .portals = false) (h8 : kp .fel = false) (h9 : kp .sde = false) (h10 : kp .ls = false) (h11 : kp .lsg = false) (h12 : kp .kerf = false) (h13 : kp .fio = false) (h14 : kp .safe = false) (h15 : kp .jnl = false) (h16 : kp .net = false) (h17 : kp .lnd = false) (h18 : kp .tru = false) (h19 : kp .pwr = false) (h20 : kp .boot = false) (h21 : kp .sent = false) (h22 : kp .freeSeq = false) :
    (stateOf s (execBrearm d a k s)).mask kp = s.mask kp := by
  unfold execBrearm
  first
    | (simp (maxDischargeDepth := 9) only [↓State.writeAxis_mask, ↓State.drainAll_mask, ↓State.motOp_mask, ↓stateOf_next, ↓stateOf_ite, ↓State.mask_ite, ite_self, implies_true, h0, h1, h2, h3, h4, h5, h6, h7, h8, h9, h10, h11, h12, h13, h14, h15, h16, h17, h18, h19, h20, h21, h22]; done)
    | ((try dsimp only); (repeat' split) <;> first | (simp (maxDischargeDepth := 9) only [↓State.writeAxis_mask, ↓State.drainAll_mask, ↓State.motOp_mask, ↓stateOf_next, ↓stateOf_ite, ↓State.mask_ite, ite_self, implies_true, h0, h1, h2, h3, h4, h5, h6, h7, h8, h9, h10, h11, h12, h13, h14, h15, h16, h17, h18, h19, h20, h21, h22]; done) | (simp_all (maxDischargeDepth := 9) only [↓State.writeAxis_mask, ↓State.drainAll_mask, ↓State.motOp_mask, ↓stateOf_next, ↓stateOf_ite, ↓State.mask_ite, ite_self, implies_true, h0, h1, h2, h3, h4, h5, h6, h7, h8, h9, h10, h11, h12, h13, h14, h15, h16, h17, h18, h19, h20, h21, h22]; done))

theorem State.lsw_mask (kp : Part → Bool) (s : State) (d : Reg) (k : BitVec 8) (flt : FabFault) (on : State → Bool) (h0 : kp .mono = false) (h1 : kp .tim = false) (h2 : kp .fab = false) (h3 : kp .mem = false) (h4 : kp .eng = false) (h5 : kp .tally = false) (h6 : kp .axes = false) (h7 : kp .portals = false) (h8 : kp .fel = false) (h9 : kp .sde = false) (h10 : kp .ls = false) (h11 : kp .lsg = false) (h12 : kp .kerf = false) (h13 : kp .fio = false) (h14 : kp .safe = false) (h15 : kp .jnl = false) (h16 : kp .net = false) (h17 : kp .lnd = false) (h18 : kp .tru = false) (h19 : kp .pwr = false) (h20 : kp .boot = false) (h21 : kp .sent = false) (h22 : kp .freeSeq = false) :
    (State.lsw s d k flt on).mask kp = s.mask kp := by
  unfold State.lsw
  first
    | (simp (maxDischargeDepth := 9) only [↓State.putStatus_mask, ↓State.writeLoad_mask, ↓State.drainAll_mask, ↓State.commit_mask, ↓State.motOp_mask, ↓State.mask_ite, ite_self, implies_true, h0, h1, h2, h3, h4, h5, h6, h7, h8, h9, h10, h11, h12, h13, h14, h15, h16, h17, h18, h19, h20, h21, h22]; done)
    | ((try dsimp only); (repeat' split) <;> first | (simp (maxDischargeDepth := 9) only [↓State.putStatus_mask, ↓State.writeLoad_mask, ↓State.drainAll_mask, ↓State.commit_mask, ↓State.motOp_mask, ↓State.mask_ite, ite_self, implies_true, h0, h1, h2, h3, h4, h5, h6, h7, h8, h9, h10, h11, h12, h13, h14, h15, h16, h17, h18, h19, h20, h21, h22]; done) | (simp_all (maxDischargeDepth := 9) only [↓State.putStatus_mask, ↓State.writeLoad_mask, ↓State.drainAll_mask, ↓State.commit_mask, ↓State.motOp_mask, ↓State.mask_ite, ite_self, implies_true, h0, h1, h2, h3, h4, h5, h6, h7, h8, h9, h10, h11, h12, h13, h14, h15, h16, h17, h18, h19, h20, h21, h22]; done))

theorem execLsw_mask (kp : Part → Bool) (d a : Reg) (k : BitVec 8) (flt : FabFault) (s : State) (h0 : kp .mono = false) (h1 : kp .tim = false) (h2 : kp .fab = false) (h3 : kp .mem = false) (h4 : kp .eng = false) (h5 : kp .tally = false) (h6 : kp .axes = false) (h7 : kp .portals = false) (h8 : kp .fel = false) (h9 : kp .sde = false) (h10 : kp .ls = false) (h11 : kp .lsg = false) (h12 : kp .kerf = false) (h13 : kp .fio = false) (h14 : kp .safe = false) (h15 : kp .jnl = false) (h16 : kp .net = false) (h17 : kp .lnd = false) (h18 : kp .tru = false) (h19 : kp .pwr = false) (h20 : kp .boot = false) (h21 : kp .sent = false) (h22 : kp .freeSeq = false) :
    (stateOf s (execLsw d a k flt s)).mask kp = s.mask kp := by
  unfold execLsw
  first
    | (simp (maxDischargeDepth := 9) only [↓State.lsw_mask, ↓stateOf_next, ↓stateOf_ite, ↓State.mask_ite, ite_self, implies_true, h0, h1, h2, h3, h4, h5, h6, h7, h8, h9, h10, h11, h12, h13, h14, h15, h16, h17, h18, h19, h20, h21, h22]; done)
    | ((try dsimp only); (repeat' split) <;> first | (simp (maxDischargeDepth := 9) only [↓State.lsw_mask, ↓stateOf_next, ↓stateOf_ite, ↓State.mask_ite, ite_self, implies_true, h0, h1, h2, h3, h4, h5, h6, h7, h8, h9, h10, h11, h12, h13, h14, h15, h16, h17, h18, h19, h20, h21, h22]; done) | (simp_all (maxDischargeDepth := 9) only [↓State.lsw_mask, ↓stateOf_next, ↓stateOf_ite, ↓State.mask_ite, ite_self, implies_true, h0, h1, h2, h3, h4, h5, h6, h7, h8, h9, h10, h11, h12, h13, h14, h15, h16, h17, h18, h19, h20, h21, h22]; done))

theorem execLswb_mask (kp : Part → Bool) (d : Reg) (k : BitVec 8) (flt : FabFault) (s : State) (h0 : kp .mono = false) (h1 : kp .tim = false) (h2 : kp .fab = false) (h3 : kp .mem = false) (h4 : kp .eng = false) (h5 : kp .tally = false) (h6 : kp .axes = false) (h7 : kp .portals = false) (h8 : kp .fel = false) (h9 : kp .sde = false) (h10 : kp .ls = false) (h11 : kp .lsg = false) (h12 : kp .kerf = false) (h13 : kp .fio = false) (h14 : kp .safe = false) (h15 : kp .jnl = false) (h16 : kp .net = false) (h17 : kp .lnd = false) (h18 : kp .tru = false) (h19 : kp .pwr = false) (h20 : kp .boot = false) (h21 : kp .sent = false) (h22 : kp .freeSeq = false) :
    (stateOf s (execLswb d k flt s)).mask kp = s.mask kp := by
  unfold execLswb
  first
    | (simp (maxDischargeDepth := 9) only [↓State.lsw_mask, ↓stateOf_next, ↓stateOf_ite, ↓State.mask_ite, ite_self, implies_true, h0, h1, h2, h3, h4, h5, h6, h7, h8, h9, h10, h11, h12, h13, h14, h15, h16, h17, h18, h19, h20, h21, h22]; done)
    | ((try dsimp only); (repeat' split) <;> first | (simp (maxDischargeDepth := 9) only [↓State.lsw_mask, ↓stateOf_next, ↓stateOf_ite, ↓State.mask_ite, ite_self, implies_true, h0, h1, h2, h3, h4, h5, h6, h7, h8, h9, h10, h11, h12, h13, h14, h15, h16, h17, h18, h19, h20, h21, h22]; done) | (simp_all (maxDischargeDepth := 9) only [↓State.lsw_mask, ↓stateOf_next, ↓stateOf_ite, ↓State.mask_ite, ite_self, implies_true, h0, h1, h2, h3, h4, h5, h6, h7, h8, h9, h10, h11, h12, h13, h14, h15, h16, h17, h18, h19, h20, h21, h22]; done))

end Sys2Proof.Machine
end

