-- ==== Sys2Proof/Laws/FrameFilifMove.lean ====
section
/-! SUPPORT. What each operation of Machine/FilifMove.lean can change: it keeps every part of the state that it is not named to change. -/

set_option linter.unusedSimpArgs false

namespace Sys2Proof.Machine

theorem State.moveError_mask (k : Part → Bool) (s : State) (h0 : k .eng = false) :
    (State.moveError s).mask k = s.mask k := by
  unfold State.moveError
  first
    | (simp (maxDischargeDepth := 9) only [↓State.modSys_mask, ↓State.mask_ite, ite_self, implies_true, h0]; done)
    | ((try dsimp only); (repeat' split) <;> first | (simp (maxDischargeDepth := 9) only [↓State.modSys_mask, ↓State.mask_ite, ite_self, implies_true, h0]; done) | (simp_all (maxDischargeDepth := 9) only [↓State.modSys_mask, ↓State.mask_ite, ite_self, implies_true, h0]; done))

theorem State.moveStart_mask (k : Part → Bool) (s : State) (i : Fin 4) (src dst len cw : Nat) (h0 : k .mem = false) (h1 : k .eng = false) (h2 : k .freeSeq = false) :
    (State.moveStart s i src dst len cw).mask k = s.mask k := by
  unfold State.moveStart
  first
    | (simp (maxDischargeDepth := 9) only [↓State.modEng_mask, ↓State.setWord_mask, ↓State.scramble_mask, ↓State.noRight_mask, ↓State.moveError_mask, ↓State.mask_ite, ite_self, implies_true, h0, h1, h2]; done)
    | ((try dsimp only); (repeat' split) <;> first | (simp (maxDischargeDepth := 9) only [↓State.modEng_mask, ↓State.setWord_mask, ↓State.scramble_mask, ↓State.noRight_mask, ↓State.moveError_mask, ↓State.mask_ite, ite_self, implies_true, h0, h1, h2]; done) | (simp_all (maxDischargeDepth := 9) only [↓State.modEng_mask, ↓State.setWord_mask, ↓State.scramble_mask, ↓State.noRight_mask, ↓State.moveError_mask, ↓State.mask_ite, ite_self, implies_true, h0, h1, h2]; done))

theorem execBmove_mask (k : Part → Bool) (d a : Reg) (s : State) (h0 : k .mono = false) (h1 : k .tim = false) (h2 : k .fab = false) (h3 : k .mem = false) (h4 : k .eng = false) (h5 : k .tally = false) (h6 : k .axes = false) (h7 : k .portals = false) (h8 : k .fel = false) (h9 : k .sde = false) (h10 : k .ls = false) (h11 : k .lsg = false) (h12 : k .kerf = false) (h13 : k .fio = false) (h14 : k .safe = false) (h15 : k .jnl = false) (h16 : k .net = false) (h17 : k .lnd = false) (h18 : k .tru = false) (h19 : k .pwr = false) (h20 : k .boot = false) (h21 : k .sent = false) (h22 : k .freeSeq = false) :
    (stateOf s (execBmove d a s)).mask k = s.mask k := by
  unfold execBmove
  first
    | (simp (maxDischargeDepth := 9) only [↓State.modEng_mask, ↓State.modBank_mask, ↓State.insn_mask, ↓State.drainAll_mask, ↓State.moveStart_mask, ↓stateOf_next, ↓stateOf_ite, ↓State.mask_ite, ite_self, implies_true, h0, h1, h2, h3, h4, h5, h6, h7, h8, h9, h10, h11, h12, h13, h14, h15, h16, h17, h18, h19, h20, h21, h22]; done)
    | ((try dsimp only); (repeat' split) <;> first | (simp (maxDischargeDepth := 9) only [↓State.modEng_mask, ↓State.modBank_mask, ↓State.insn_mask, ↓State.drainAll_mask, ↓State.moveStart_mask, ↓stateOf_next, ↓stateOf_ite, ↓State.mask_ite, ite_self, implies_true, h0, h1, h2, h3, h4, h5, h6, h7, h8, h9, h10, h11, h12, h13, h14, h15, h16, h17, h18, h19, h20, h21, h22]; done) | (simp_all (maxDischargeDepth := 9) only [↓State.modEng_mask, ↓State.modBank_mask, ↓State.insn_mask, ↓State.drainAll_mask, ↓State.moveStart_mask, ↓stateOf_next, ↓stateOf_ite, ↓State.mask_ite, ite_self, implies_true, h0, h1, h2, h3, h4, h5, h6, h7, h8, h9, h10, h11, h12, h13, h14, h15, h16, h17, h18, h19, h20, h21, h22]; done))
    | ((try dsimp only); refine State.insn_mask _ _ _ _ h0 h4 fun _ => ?_; (try dsimp only); (repeat' split) <;> simp (maxDischargeDepth := 9) only [↓State.modEng_mask, ↓State.modBank_mask, ↓State.insn_mask, ↓State.drainAll_mask, ↓State.moveStart_mask, ↓stateOf_next, ↓stateOf_ite, ↓State.mask_ite, ite_self, implies_true, h0, h1, h2, h3, h4, h5, h6, h7, h8, h9, h10, h11, h12, h13, h14, h15, h16, h17, h18, h19, h20, h21, h22]; done)

theorem State.moveRead_mask (k : Part → Bool) (s : State) (req a : Nat) (x0 : Nat) (h0 : k .latch = false) (h1 : k .fio = false) (h2 : k .net = false) (h3 : k .freeSeq = false) :
    (State.moveRead s req a x0).1.mask k = s.mask k := by
  induction x0 generalizing s req a with
  | zero => unfold State.moveRead; rfl
  | succ n ih =>
    unfold State.moveRead
    (try dsimp only); (repeat' split) <;> first | (simp (maxDischargeDepth := 9) only [↓State.touch_mask, ↓State.mask_ite, ite_self, implies_true, ↓State.mask_fst_ite, h0, h1, h2, h3, ↓ih]; done) | (simp_all (maxDischargeDepth := 9) only [↓State.touch_mask, ↓State.mask_ite, ite_self, implies_true, ↓State.mask_fst_ite, h0, h1, h2, h3, ↓ih]; done)

theorem execBlockMoveComplete_mask (k : Part → Bool) (i : Fin 4) (flt : FabFault) (s : State) (h0 : k .fab = false) (h1 : k .latch = false) (h2 : k .mem = false) (h3 : k .eng = false) (h4 : k .tally = false) (h5 : k .fio = false) (h6 : k .net = false) (h7 : k .freeSeq = false) :
    (stateOf s (execBlockMoveComplete i flt s)).mask k = s.mask k := by
  unfold execBlockMoveComplete
  first
    | (simp (maxDischargeDepth := 9) only [↓State.modEng_mask, ↓State.used_mask, ↓State.setBytes_mask, ↓State.setWord_mask, ↓State.scramble_mask, ↓State.fabFault_mask, ↓State.moveError_mask, ↓State.moveRead_mask, ↓stateOf_next, ↓stateOf_ite, ↓State.mask_ite, ite_self, implies_true, ↓State.mask_forAll, h0, h1, h2, h3, h4, h5, h6, h7]; done)
    | ((try dsimp only); (repeat' split) <;> first | (simp (maxDischargeDepth := 9) only [↓State.modEng_mask, ↓State.used_mask, ↓State.setBytes_mask, ↓State.setWord_mask, ↓State.scramble_mask, ↓State.fabFault_mask, ↓State.moveError_mask, ↓State.moveRead_mask, ↓stateOf_next, ↓stateOf_ite, ↓State.mask_ite, ite_self, implies_true, ↓State.mask_forAll, h0, h1, h2, h3, h4, h5, h6, h7]; done) | (simp_all (maxDischargeDepth := 9) only [↓State.modEng_mask, ↓State.used_mask, ↓State.setBytes_mask, ↓State.setWord_mask, ↓State.scramble_mask, ↓State.fabFault_mask, ↓State.moveError_mask, ↓State.moveRead_mask, ↓stateOf_next, ↓stateOf_ite, ↓State.mask_ite, ite_self, implies_true, ↓State.mask_forAll, h0, h1, h2, h3, h4, h5, h6, h7]; done))
    | ((try dsimp only); refine State.mask_forAll _ _ _ _ fun _ _ => ?_; (repeat' split) <;> simp (maxDischargeDepth := 9) only [↓State.modEng_mask, ↓State.used_mask, ↓State.setBytes_mask, ↓State.setWord_mask, ↓State.scramble_mask, ↓State.fabFault_mask, ↓State.moveError_mask, ↓State.moveRead_mask, ↓stateOf_next, ↓stateOf_ite, ↓State.mask_ite, ite_self, implies_true, ↓State.mask_forAll, h0, h1, h2, h3, h4, h5, h6, h7]; done)
    | ((try dsimp only); refine (State.mask_forAll _ _ _ _ fun _ _ => ?_).trans ?_ <;> (repeat' split) <;> simp (maxDischargeDepth := 9) only [↓State.modEng_mask, ↓State.used_mask, ↓State.setBytes_mask, ↓State.setWord_mask, ↓State.scramble_mask, ↓State.fabFault_mask, ↓State.moveError_mask, ↓State.moveRead_mask, ↓stateOf_next, ↓stateOf_ite, ↓State.mask_ite, ite_self, implies_true, ↓State.mask_forAll, h0, h1, h2, h3, h4, h5, h6, h7]; done)

end Sys2Proof.Machine
end

