-- ==== Sys2Proof/Laws/FrameFilifStep.lean ====
section
/-! SUPPORT. What each operation of Machine/FilifStep.lean can change: it keeps every part of the state that it is not named to change. -/

set_option linter.unusedSimpArgs false

namespace Sys2Proof.Machine

theorem State.runInsn_mask (kp : Part → Bool) (s : State) (i : Instr) (h0 : kp .mono = false) (h1 : kp .tim = false) (h2 : kp .fab = false) (h3 : kp .latch = false) (h4 : kp .mem = false) (h5 : kp .eng = false) (h6 : kp .tally = false) (h7 : kp .axes = false) (h8 : kp .portals = false) (h9 : kp .fel = false) (h10 : kp .sde = false) (h11 : kp .ls = false) (h12 : kp .lsg = false) (h13 : kp .kerf = false) (h14 : kp .fio = false) (h15 : kp .safe = false) (h16 : kp .jnl = false) (h17 : kp .net = false) (h18 : kp .lnd = false) (h19 : kp .tru = false) (h20 : kp .pwr = false) (h21 : kp .boot = false) (h22 : kp .sent = false) (h23 : kp .freeSeq = false) :
    (State.runInsn s i).mask kp = s.mask kp := by
  cases i
  case add => exact execAdd_mask _ _ _ _ _ h0 h5
  case adc => exact execAdc_mask _ _ _ _ _ h0 h5
  case sub => exact execSub_mask _ _ _ _ _ h0 h5
  case sbc => exact execSbc_mask _ _ _ _ _ h0 h5
  case cmp => exact execCmp_mask _ _ _ _ h0 h5
  case neg => exact execNeg_mask _ _ _ _ h0 h5
  case and_ => exact execAnd_mask _ _ _ _ _ h0 h5
  case or_ => exact execOr_mask _ _ _ _ _ h0 h5
  case xor_ => exact execXor_mask _ _ _ _ _ h0 h5
  case andn => exact execAndn_mask _ _ _ _ _ h0 h5
  case tst => exact execTst_mask _ _ _ _ h0 h5
  case not_ => exact execNot_mask _ _ _ _ h0 h5
  case mov => exact execMov_mask _ _ _ _ h0 h5
  case sel => exact execSel_mask _ _ _ _ _ h0 h5
  case shl => exact execShl_mask _ _ _ _ _ h0 h5
  case shr => exact execShr_mask _ _ _ _ _ h0 h5
  case sar => exact execSar_mask _ _ _ _ _ h0 h5
  case ror => exact execRor_mask _ _ _ _ _ h0 h5
  case mins => exact execMins_mask _ _ _ _ _ h0 h5
  case maxs => exact execMaxs_mask _ _ _ _ _ h0 h5
  case minu => exact execMinu_mask _ _ _ _ _ h0 h5
  case maxu => exact execMaxu_mask _ _ _ _ _ h0 h5
  case adds => exact execAdds_mask _ _ _ _ _ h0 h5
  case subs => exact execSubs_mask _ _ _ _ _ h0 h5
  case mul => exact execMul_mask _ _ _ _ _ h0 h5
  case mulh => exact execMulh_mask _ _ _ _ _ h0 h5
  case mulhu => exact execMulhu_mask _ _ _ _ _ h0 h5
  case div => exact execDiv_mask _ _ _ _ _ h0 h5
  case divu => exact execDivu_mask _ _ _ _ _ h0 h5
  case rem => exact execRem_mask _ _ _ _ _ h0 h5
  case remu => exact execRemu_mask _ _ _ _ _ h0 h5
  case addi => exact execAddi_mask _ _ _ _ _ h0 h5
  case cmpi => exact execCmpi_mask _ _ _ _ h0 h5
  case andi => exact execAndi_mask _ _ _ _ _ h0 h5
  case ori => exact execOri_mask _ _ _ _ _ h0 h5
  case xori => exact execXori_mask _ _ _ _ _ h0 h5
  case lui => exact execLui_mask _ _ _ _ h0 h5
  case shi => exact execShi_mask _ _ _ _ _ h0 h1 h2 h4 h5 h6 h7 h8 h9 h10 h11 h12 h13 h14 h15 h16 h17 h18 h19 h20 h21 h22 h23
  case tsti => exact execTsti_mask _ _ _ _ h0 h5
  case ldw => exact execLdw_mask _ _ _ _ _ _ h0 h1 h2 h3 h4 h5 h6 h7 h8 h9 h10 h11 h12 h13 h14 h15 h16 h17 h18 h19 h20 h21 h22 h23
  case ldh => exact execLdh_mask _ _ _ _ _ _ h0 h1 h2 h3 h4 h5 h6 h7 h8 h9 h10 h11 h12 h13 h14 h15 h16 h17 h18 h19 h20 h21 h22 h23
  case ldhu => exact execLdhu_mask _ _ _ _ _ _ h0 h1 h2 h3 h4 h5 h6 h7 h8 h9 h10 h11 h12 h13 h14 h15 h16 h17 h18 h19 h20 h21 h22 h23
  case ldb => exact execLdb_mask _ _ _ _ _ _ h0 h1 h2 h3 h4 h5 h6 h7 h8 h9 h10 h11 h12 h13 h14 h15 h16 h17 h18 h19 h20 h21 h22 h23
  case ldbu => exact execLdbu_mask _ _ _ _ _ _ h0 h1 h2 h3 h4 h5 h6 h7 h8 h9 h10 h11 h12 h13 h14 h15 h16 h17 h18 h19 h20 h21 h22 h23
  case stw => exact execStw_mask _ _ _ _ _ h0 h1 h2 h4 h5 h6 h7 h8 h9 h10 h11 h12 h13 h14 h15 h16 h17 h18 h19 h20 h21 h22 h23
  case sth => exact execSth_mask _ _ _ _ _ h0 h1 h2 h4 h5 h6 h7 h8 h9 h10 h11 h12 h13 h14 h15 h16 h17 h18 h19 h20 h21 h22 h23
  case stb => exact execStb_mask _ _ _ _ _ h0 h1 h2 h4 h5 h6 h7 h8 h9 h10 h11 h12 h13 h14 h15 h16 h17 h18 h19 h20 h21 h22 h23
  case cld => exact execCld_mask _ _ _ _ _ _ h0 h1 h2 h3 h4 h5 h6 h7 h8 h9 h10 h11 h12 h13 h14 h15 h16 h17 h18 h19 h20 h21 h22 h23
  case cldn => exact execCldn_mask _ _ _ _ _ _ h0 h1 h2 h3 h4 h5 h6 h7 h8 h9 h10 h11 h12 h13 h14 h15 h16 h17 h18 h19 h20 h21 h22 h23
  case cand => exact execCand_mask _ _ _ _ _ _ h0 h1 h2 h3 h4 h5 h6 h7 h8 h9 h10 h11 h12 h13 h14 h15 h16 h17 h18 h19 h20 h21 h22 h23
  case candn => exact execCandn_mask _ _ _ _ _ _ h0 h1 h2 h3 h4 h5 h6 h7 h8 h9 h10 h11 h12 h13 h14 h15 h16 h17 h18 h19 h20 h21 h22 h23
  case cor => exact execCor_mask _ _ _ _ _ _ h0 h1 h2 h3 h4 h5 h6 h7 h8 h9 h10 h11 h12 h13 h14 h15 h16 h17 h18 h19 h20 h21 h22 h23
  case corn => exact execCorn_mask _ _ _ _ _ _ h0 h1 h2 h3 h4 h5 h6 h7 h8 h9 h10 h11 h12 h13 h14 h15 h16 h17 h18 h19 h20 h21 h22 h23
  case cxor => exact execCxor_mask _ _ _ _ _ _ h0 h1 h2 h3 h4 h5 h6 h7 h8 h9 h10 h11 h12 h13 h14 h15 h16 h17 h18 h19 h20 h21 h22 h23
  case cst => exact execCst_mask _ _ _ _ _ _ h0 h1 h2 h3 h4 h5 h6 h7 h8 h9 h10 h11 h12 h13 h14 h15 h16 h17 h18 h19 h20 h21 h22 h23
  case cstn => exact execCstn_mask _ _ _ _ _ _ h0 h1 h2 h3 h4 h5 h6 h7 h8 h9 h10 h11 h12 h13 h14 h15 h16 h17 h18 h19 h20 h21 h22 h23
  case cset => exact execCset_mask _ _ _ _ _ _ h0 h1 h2 h3 h4 h5 h6 h7 h8 h9 h10 h11 h12 h13 h14 h15 h16 h17 h18 h19 h20 h21 h22 h23
  case crst => exact execCrst_mask _ _ _ _ _ _ h0 h1 h2 h3 h4 h5 h6 h7 h8 h9 h10 h11 h12 h13 h14 h15 h16 h17 h18 h19 h20 h21 h22 h23
  case rld => exact execRld_mask _ _ _ _ h0 h5
  case rldn => exact execRldn_mask _ _ _ _ h0 h5
  case rand => exact execRand_mask _ _ _ _ h0 h5
  case randn => exact execRandn_mask _ _ _ _ h0 h5
  case rorContact => exact execRorContact_mask _ _ _ _ h0 h5
  case rorn => exact execRorn_mask _ _ _ _ h0 h5
  case rxor => exact execRxor_mask _ _ _ _ h0 h5
  case rst => exact execRst_mask _ _ _ _ h0 h5
  case rstn => exact execRstn_mask _ _ _ _ h0 h5
  case rset => exact execRset_mask _ _ _ _ h0 h5
  case rrst => exact execRrst_mask _ _ _ _ h0 h5
  case bnot => exact execBnot_mask _ _ h0 h5
  case bone => exact execBone_mask _ _ h0 h5
  case bzero => exact execBzero_mask _ _ h0 h5
  case bcc => exact execBcc_mask _ _ _ h0 h1 h2 h4 h5 h6 h7 h8 h9 h10 h11 h12 h13 h14 h15 h16 h17 h18 h19 h20 h21 h22 h23
  case bget => exact execBget_mask _ _ _ h0 h5
  case bput => exact execBput_mask _ _ _ h0 h5
  case br => exact execBr_mask _ _ _ _ h0 h1 h2 h4 h5 h6 h7 h8 h9 h10 h11 h12 h13 h14 h15 h16 h17 h18 h19 h20 h21 h22 h23
  case brl => exact execBrl_mask _ _ _ _ h0 h1 h2 h4 h5 h6 h7 h8 h9 h10 h11 h12 h13 h14 h15 h16 h17 h18 h19 h20 h21 h22 h23
  case jr => exact execJr_mask _ _ _ h0 h5
  case jrl => exact execJrl_mask _ _ _ _ h0 h5
  case nop => exact execNop_mask _ _ h0 h5
  case eoc => exact execEoc_mask _ _ h0 h1 h2 h4 h5 h6 h7 h8 h9 h10 h11 h12 h13 h14 h15 h16 h17 h18 h19 h20 h21 h22 h23
  case retc => exact execRetc_mask _ _ h0 h1 h2 h4 h5 h6 h7 h8 h9 h10 h11 h12 h13 h14 h15 h16 h17 h18 h19 h20 h21 h22 h23
  case rdf => exact execRdf_mask _ _ _ h0 h5
  case wrf => exact execWrf_mask _ _ _ h0 h5
  case fence => exact execFence_mask _ _ h0 h1 h2 h4 h5 h6 h7 h8 h9 h10 h11 h12 h13 h14 h15 h16 h17 h18 h19 h20 h21 h22 h23
  case commit => exact execCommit_mask _ _ _ _ _ h0 h1 h2 h4 h5 h6 h7 h8 h9 h10 h11 h12 h13 h14 h15 h16 h17 h18 h19 h20 h21 h22 h23
  case bmove => exact execBmove_mask _ _ _ _ h0 h1 h2 h4 h5 h6 h7 h8 h9 h10 h11 h12 h13 h14 h15 h16 h17 h18 h19 h20 h21 h22 h23
  case trun => exact execTrun_mask _ _ _ _ h0 h1 h2 h4 h5 h6 h7 h8 h9 h10 h11 h12 h13 h14 h15 h16 h17 h18 h19 h20 h21 h22 h23
  case tpre => exact execTpre_mask _ _ _ _ h0 h1 h2 h4 h5 h6 h7 h8 h9 h10 h11 h12 h13 h14 h15 h16 h17 h18 h19 h20 h21 h22 h23
  case tres => exact execTres_mask _ _ _ h0 h1 h2 h4 h5 h6 h7 h8 h9 h10 h11 h12 h13 h14 h15 h16 h17 h18 h19 h20 h21 h22 h23
  case edr => exact execEdr_mask _ _ _ h0 h1 h2 h4 h5 h6 h7 h8 h9 h10 h11 h12 h13 h14 h15 h16 h17 h18 h19 h20 h21 h22 h23
  case edf => exact execEdf_mask _ _ _ h0 h1 h2 h4 h5 h6 h7 h8 h9 h10 h11 h12 h13 h14 h15 h16 h17 h18 h19 h20 h21 h22 h23
  case edlf => exact execEdlf_mask _ _ _ h0 h1 h2 h4 h5 h6 h7 h8 h9 h10 h11 h12 h13 h14 h15 h16 h17 h18 h19 h20 h21 h22 h23
  case ccu => exact execCcu_mask _ _ _ _ h0 h1 h2 h4 h5 h6 h7 h8 h9 h10 h11 h12 h13 h14 h15 h16 h17 h18 h19 h20 h21 h22 h23
  case ccd => exact execCcd_mask _ _ _ _ h0 h1 h2 h4 h5 h6 h7 h8 h9 h10 h11 h12 h13 h14 h15 h16 h17 h18 h19 h20 h21 h22 h23
  case cload => exact execCload_mask _ _ _ _ h0 h1 h2 h4 h5 h6 h7 h8 h9 h10 h11 h12 h13 h14 h15 h16 h17 h18 h19 h20 h21 h22 h23
  case cres => exact execCres_mask _ _ _ _ h0 h1 h2 h4 h5 h6 h7 h8 h9 h10 h11 h12 h13 h14 h15 h16 h17 h18 h19 h20 h21 h22 h23
  case cpre => exact execCpre_mask _ _ _ _ h0 h1 h2 h4 h5 h6 h7 h8 h9 h10 h11 h12 h13 h14 h15 h16 h17 h18 h19 h20 h21 h22 h23
  case lev => exact execLev_mask _ _ _ _ h0 h1 h2 h4 h5 h6 h7 h8 h9 h10 h11 h12 h13 h14 h15 h16 h17 h18 h19 h20 h21 h22 h23
  case rtgt => exact execRtgt_mask _ _ _ _ h0 h1 h2 h4 h5 h6 h7 h8 h9 h10 h11 h12 h13 h14 h15 h16 h17 h18 h19 h20 h21 h22 h23
  case rrate => exact execRrate_mask _ _ _ _ h0 h1 h2 h4 h5 h6 h7 h8 h9 h10 h11 h12 h13 h14 h15 h16 h17 h18 h19 h20 h21 h22 h23
  case rrun => exact execRrun_mask _ _ _ _ h0 h1 h2 h4 h5 h6 h7 h8 h9 h10 h11 h12 h13 h14 h15 h16 h17 h18 h19 h20 h21 h22 h23
  case rampRset => exact execRampRset_mask _ _ _ _ h0 h1 h2 h4 h5 h6 h7 h8 h9 h10 h11 h12 h13 h14 h15 h16 h17 h18 h19 h20 h21 h22 h23
  case tadr => exact execTadr_mask _ _ _ _ h0 h1 h2 h4 h5 h6 h7 h8 h9 h10 h11 h12 h13 h14 h15 h16 h17 h18 h19 h20 h21 h22 h23
  case mtgt => exact execMtgt_mask _ _ _ _ _ _ h0 h1 h2 h4 h5 h6 h7 h8 h9 h10 h11 h12 h13 h14 h15 h16 h17 h18 h19 h20 h21 h22 h23
  case mleaf => exact execMleaf_mask _ _ _ _ _ _ h0 h1 h2 h4 h5 h6 h7 h8 h9 h10 h11 h12 h13 h14 h15 h16 h17 h18 h19 h20 h21 h22 h23
  case mvlim => exact execMvlim_mask _ _ _ _ _ h0 h1 h2 h4 h5 h6 h7 h8 h9 h10 h11 h12 h13 h14 h15 h16 h17 h18 h19 h20 h21 h22 h23
  case mcmd => exact execMcmd_mask _ _ _ _ _ h0 h1 h2 h4 h5 h6 h7 h8 h9 h10 h11 h12 h13 h14 h15 h16 h17 h18 h19 h20 h21 h22 h23
  case pcmd => exact execPcmd_mask _ _ _ _ _ h0 h1 h2 h4 h5 h6 h7 h8 h9 h10 h11 h12 h13 h14 h15 h16 h17 h18 h19 h20 h21 h22 h23
  case mstat => exact execMstat_mask _ _ _ _ h0 h1 h2 h4 h5 h6 h7 h8 h9 h10 h11 h12 h13 h14 h15 h16 h17 h18 h19 h20 h21 h22 h23
  case mpos => exact execMpos_mask _ _ _ _ h0 h1 h2 h4 h5 h6 h7 h8 h9 h10 h11 h12 h13 h14 h15 h16 h17 h18 h19 h20 h21 h22 h23
  case bhit => exact execBhit_mask _ _ _ _ h0 h1 h2 h4 h5 h6 h7 h8 h9 h10 h11 h12 h13 h14 h15 h16 h17 h18 h19 h20 h21 h22 h23
  case brearm => exact execBrearm_mask _ _ _ _ _ h0 h1 h2 h4 h5 h6 h7 h8 h9 h10 h11 h12 h13 h14 h15 h16 h17 h18 h19 h20 h21 h22 h23
  case lsw => exact execLsw_mask _ _ _ _ _ _ h0 h1 h2 h4 h5 h6 h7 h8 h9 h10 h11 h12 h13 h14 h15 h16 h17 h18 h19 h20 h21 h22 h23
  case lswb => exact execLswb_mask _ _ _ _ _ h0 h1 h2 h4 h5 h6 h7 h8 h9 h10 h11 h12 h13 h14 h15 h16 h17 h18 h19 h20 h21 h22 h23
  case trec => exact execTrec_mask _ _ _ _ _ h0 h1 h2 h4 h5 h6 h7 h8 h9 h10 h11 h12 h13 h14 h15 h16 h17 h18 h19 h20 h21 h22 h23
  case tword => exact execTword_mask _ _ _ _ _ h0 h1 h2 h4 h5 h6 h7 h8 h9 h10 h11 h12 h13 h14 h15 h16 h17 h18 h19 h20 h21 h22 h23
  case mbsend => exact execMbsend_mask _ _ _ _ _ h0 h1 h2 h4 h5 h6 h7 h8 h9 h10 h11 h12 h13 h14 h15 h16 h17 h18 h19 h20 h21 h22 h23
  case mbrecv => exact execMbrecv_mask _ _ _ _ _ h0 h1 h2 h4 h5 h6 h7 h8 h9 h10 h11 h12 h13 h14 h15 h16 h17 h18 h19 h20 h21 h22 h23
  case mbstat => exact execMbstat_mask _ _ _ _ h0 h1 h2 h3 h4 h5 h6 h7 h8 h9 h10 h11 h12 h13 h14 h15 h16 h17 h18 h19 h20 h21 h22 h23
  all_goals rfl

theorem State.stepSpent_mask (k : Part → Bool) (s : State) (h0 : k .tim = false) (h1 : k .fab = false) (h2 : k .mem = false) (h3 : k .eng = false) (h4 : k .tally = false) (h5 : k .axes = false) (h6 : k .portals = false) (h7 : k .fel = false) (h8 : k .sde = false) (h9 : k .ls = false) (h10 : k .lsg = false) (h11 : k .kerf = false) (h12 : k .fio = false) (h13 : k .safe = false) (h14 : k .jnl = false) (h15 : k .net = false) (h16 : k .lnd = false) (h17 : k .tru = false) (h18 : k .pwr = false) (h19 : k .boot = false) (h20 : k .sent = false) (h21 : k .freeSeq = false) :
    (State.stepSpent s).mask k = s.mask k := by
  unfold State.stepSpent
  first
    | (simp (maxDischargeDepth := 9) only [↓State.enterStop_mask, ↓State.drainAll_mask, ↓State.mask_ite, ite_self, implies_true, h0, h1, h2, h3, h4, h5, h6, h7, h8, h9, h10, h11, h12, h13, h14, h15, h16, h17, h18, h19, h20, h21]; done)
    | ((try dsimp only); (repeat' split) <;> first | (simp (maxDischargeDepth := 9) only [↓State.enterStop_mask, ↓State.drainAll_mask, ↓State.mask_ite, ite_self, implies_true, h0, h1, h2, h3, h4, h5, h6, h7, h8, h9, h10, h11, h12, h13, h14, h15, h16, h17, h18, h19, h20, h21]; done) | (simp_all (maxDischargeDepth := 9) only [↓State.enterStop_mask, ↓State.drainAll_mask, ↓State.mask_ite, ite_self, implies_true, h0, h1, h2, h3, h4, h5, h6, h7, h8, h9, h10, h11, h12, h13, h14, h15, h16, h17, h18, h19, h20, h21]; done))

theorem State.stepOnce_mask (k : Part → Bool) (s : State) (h0 : k .mono = false) (h1 : k .tim = false) (h2 : k .fab = false) (h3 : k .latch = false) (h4 : k .mem = false) (h5 : k .eng = false) (h6 : k .tally = false) (h7 : k .axes = false) (h8 : k .portals = false) (h9 : k .fel = false) (h10 : k .sde = false) (h11 : k .ls = false) (h12 : k .lsg = false) (h13 : k .kerf = false) (h14 : k .fio = false) (h15 : k .safe = false) (h16 : k .jnl = false) (h17 : k .net = false) (h18 : k .lnd = false) (h19 : k .tru = false) (h20 : k .pwr = false) (h21 : k .boot = false) (h22 : k .sent = false) (h23 : k .freeSeq = false) :
    (State.stepOnce s).mask k = s.mask k := by
  unfold State.stepOnce
  first
    | (simp (maxDischargeDepth := 9) only [↓State.enterStop_mask, ↓State.drainAll_mask, ↓State.illegal_mask, ↓State.runInsn_mask, ↓State.stepSpent_mask, ↓State.mask_ite, ite_self, implies_true, h0, h1, h2, h3, h4, h5, h6, h7, h8, h9, h10, h11, h12, h13, h14, h15, h16, h17, h18, h19, h20, h21, h22, h23]; done)
    | ((try dsimp only); (repeat' split) <;> first | (simp (maxDischargeDepth := 9) only [↓State.enterStop_mask, ↓State.drainAll_mask, ↓State.illegal_mask, ↓State.runInsn_mask, ↓State.stepSpent_mask, ↓State.mask_ite, ite_self, implies_true, h0, h1, h2, h3, h4, h5, h6, h7, h8, h9, h10, h11, h12, h13, h14, h15, h16, h17, h18, h19, h20, h21, h22, h23]; done) | (simp_all (maxDischargeDepth := 9) only [↓State.enterStop_mask, ↓State.drainAll_mask, ↓State.illegal_mask, ↓State.runInsn_mask, ↓State.stepSpent_mask, ↓State.mask_ite, ite_self, implies_true, h0, h1, h2, h3, h4, h5, h6, h7, h8, h9, h10, h11, h12, h13, h14, h15, h16, h17, h18, h19, h20, h21, h22, h23]; done))

theorem State.steps_mask (k : Part → Bool) (s : State) (x0 : Nat) (h0 : k .mono = false) (h1 : k .tim = false) (h2 : k .fab = false) (h3 : k .latch = false) (h4 : k .mem = false) (h5 : k .eng = false) (h6 : k .tally = false) (h7 : k .axes = false) (h8 : k .portals = false) (h9 : k .fel = false) (h10 : k .sde = false) (h11 : k .ls = false) (h12 : k .lsg = false) (h13 : k .kerf = false) (h14 : k .fio = false) (h15 : k .safe = false) (h16 : k .jnl = false) (h17 : k .net = false) (h18 : k .lnd = false) (h19 : k .tru = false) (h20 : k .pwr = false) (h21 : k .boot = false) (h22 : k .sent = false) (h23 : k .freeSeq = false) :
    (State.steps s x0).mask k = s.mask k := by
  induction x0 generalizing s with
  | zero => unfold State.steps; rfl
  | succ n ih =>
    unfold State.steps
    (try dsimp only); (repeat' split) <;> first | (simp (maxDischargeDepth := 9) only [↓State.stepOnce_mask, ↓State.mask_ite, ite_self, implies_true, h0, h1, h2, h3, h4, h5, h6, h7, h8, h9, h10, h11, h12, h13, h14, h15, h16, h17, h18, h19, h20, h21, h22, h23, ↓ih]; done) | (simp_all (maxDischargeDepth := 9) only [↓State.stepOnce_mask, ↓State.mask_ite, ite_self, implies_true, h0, h1, h2, h3, h4, h5, h6, h7, h8, h9, h10, h11, h12, h13, h14, h15, h16, h17, h18, h19, h20, h21, h22, h23, ↓ih]; done)

theorem State.stepHold_mask (k : Part → Bool) (s : State) (n : Nat) (h0 : k .mono = false) (h1 : k .tim = false) (h2 : k .fab = false) (h3 : k .latch = false) (h4 : k .mem = false) (h5 : k .eng = false) (h6 : k .tally = false) (h7 : k .axes = false) (h8 : k .portals = false) (h9 : k .fel = false) (h10 : k .sde = false) (h11 : k .ls = false) (h12 : k .lsg = false) (h13 : k .kerf = false) (h14 : k .fio = false) (h15 : k .safe = false) (h16 : k .jnl = false) (h17 : k .net = false) (h18 : k .lnd = false) (h19 : k .tru = false) (h20 : k .pwr = false) (h21 : k .boot = false) (h22 : k .sent = false) (h23 : k .freeSeq = false) :
    (State.stepHold s n).mask k = s.mask k := by
  unfold State.stepHold
  first
    | (simp (maxDischargeDepth := 9) only [↓State.modEng_mask, ↓State.steps_mask, ↓State.mask_ite, ite_self, implies_true, h0, h1, h2, h3, h4, h5, h6, h7, h8, h9, h10, h11, h12, h13, h14, h15, h16, h17, h18, h19, h20, h21, h22, h23]; done)
    | ((try dsimp only); (repeat' split) <;> first | (simp (maxDischargeDepth := 9) only [↓State.modEng_mask, ↓State.steps_mask, ↓State.mask_ite, ite_self, implies_true, h0, h1, h2, h3, h4, h5, h6, h7, h8, h9, h10, h11, h12, h13, h14, h15, h16, h17, h18, h19, h20, h21, h22, h23]; done) | (simp_all (maxDischargeDepth := 9) only [↓State.modEng_mask, ↓State.steps_mask, ↓State.mask_ite, ite_self, implies_true, h0, h1, h2, h3, h4, h5, h6, h7, h8, h9, h10, h11, h12, h13, h14, h15, h16, h17, h18, h19, h20, h21, h22, h23]; done))

end Sys2Proof.Machine
end

