-- ==== Sys2Proof/Laws/FrameNetOps.lean ====
section
/-! SUPPORT. What each operation of Machine/NetOps.lean can change: it keeps every part of the state that it is not named to change. -/

set_option linter.unusedSimpArgs false

namespace Sys2Proof.Machine

theorem State.modNet_mask (k : Part → Bool) (s : State) (f : Network → Network) (h0 : k .net = false) :
    (State.modNet s f).mask k = s.mask k := by
  unfold State.modNet
  first
    | (simp (maxDischargeDepth := 9) only [↓State.mask_with_net, ↓State.mask_ite, ite_self, implies_true, h0]; done)
    | ((try dsimp only); (repeat' split) <;> first | (simp (maxDischargeDepth := 9) only [↓State.mask_with_net, ↓State.mask_ite, ite_self, implies_true, h0]; done) | (simp_all (maxDischargeDepth := 9) only [↓State.mask_with_net, ↓State.mask_ite, ite_self, implies_true, h0]; done))
    | (simp only [State.mask, Bool.false_eq_true, ↓reduceIte, h0]; done)
    | (simp (maxDischargeDepth := 9) only [↓State.mask_with_net, ↓State.mask_ite, ite_self, implies_true, h0]; simp only [State.mask, Bool.false_eq_true, ↓reduceIte, h0]; done)

theorem State.modNetReg_mask (k : Part → Bool) (s : State) (f : Net → Net) (h0 : k .net = false) :
    (State.modNetReg s f).mask k = s.mask k := by
  unfold State.modNetReg
  first
    | (simp (maxDischargeDepth := 9) only [↓State.modNet_mask, ↓State.mask_ite, ite_self, implies_true, h0]; done)
    | ((try dsimp only); (repeat' split) <;> first | (simp (maxDischargeDepth := 9) only [↓State.modNet_mask, ↓State.mask_ite, ite_self, implies_true, h0]; done) | (simp_all (maxDischargeDepth := 9) only [↓State.modNet_mask, ↓State.mask_ite, ite_self, implies_true, h0]; done))

theorem State.modSrc_mask (k : Part → Bool) (s : State) (f : TimSrc → TimSrc) (h0 : k .tim = false) :
    (State.modSrc s f).mask k = s.mask k := by
  unfold State.modSrc
  first
    | (simp (maxDischargeDepth := 9) only [↓State.mask_with_tim, ↓State.mask_ite, ite_self, implies_true, h0]; done)
    | ((try dsimp only); (repeat' split) <;> first | (simp (maxDischargeDepth := 9) only [↓State.mask_with_tim, ↓State.mask_ite, ite_self, implies_true, h0]; done) | (simp_all (maxDischargeDepth := 9) only [↓State.mask_with_tim, ↓State.mask_ite, ite_self, implies_true, h0]; done))
    | (simp only [State.mask, Bool.false_eq_true, ↓reduceIte, h0]; done)
    | (simp (maxDischargeDepth := 9) only [↓State.mask_with_tim, ↓State.mask_ite, ite_self, implies_true, h0]; simp only [State.mask, Bool.false_eq_true, ↓reduceIte, h0]; done)

theorem State.setCal_mask (k : Part → Bool) (s : State) (new : Nat) (h0 : k .cal = false) :
    (State.setCal s new).mask k = s.mask k := by
  unfold State.setCal
  first
    | (simp (maxDischargeDepth := 9) only [↓State.mask_with_calBase, ↓State.mask_with_calAt, ↓State.mask_with_slew, ↓State.mask_with_calPpb, ↓State.mask_ite, ite_self, implies_true, h0]; done)
    | ((try dsimp only); (repeat' split) <;> first | (simp (maxDischargeDepth := 9) only [↓State.mask_with_calBase, ↓State.mask_with_calAt, ↓State.mask_with_slew, ↓State.mask_with_calPpb, ↓State.mask_ite, ite_self, implies_true, h0]; done) | (simp_all (maxDischargeDepth := 9) only [↓State.mask_with_calBase, ↓State.mask_with_calAt, ↓State.mask_with_slew, ↓State.mask_with_calPpb, ↓State.mask_ite, ite_self, implies_true, h0]; done))
    | (simp only [State.mask, Bool.false_eq_true, ↓reduceIte, h0]; done)
    | (simp (maxDischargeDepth := 9) only [↓State.mask_with_calBase, ↓State.mask_with_calAt, ↓State.mask_with_slew, ↓State.mask_with_calPpb, ↓State.mask_ite, ite_self, implies_true, h0]; simp only [State.mask, Bool.false_eq_true, ↓reduceIte, h0]; done)

theorem State.stepCal_mask (k : Part → Bool) (s : State) (new : Nat) (h0 : k .tim = false) (h1 : k .cal = false) (h2 : k .tally = false) :
    (State.stepCal s new).mask k = s.mask k := by
  unfold State.stepCal
  first
    | (simp (maxDischargeDepth := 9) only [↓State.record_mask, ↓State.modSrc_mask, ↓State.setCal_mask, ↓State.mask_ite, ite_self, implies_true, h0, h1, h2]; done)
    | ((try dsimp only); (repeat' split) <;> first | (simp (maxDischargeDepth := 9) only [↓State.record_mask, ↓State.modSrc_mask, ↓State.setCal_mask, ↓State.mask_ite, ite_self, implies_true, h0, h1, h2]; done) | (simp_all (maxDischargeDepth := 9) only [↓State.record_mask, ↓State.modSrc_mask, ↓State.setCal_mask, ↓State.mask_ite, ite_self, implies_true, h0, h1, h2]; done))

theorem State.correctCal_mask (k : Part → Bool) (s : State) (d : Int) (h0 : k .tim = false) (h1 : k .cal = false) (h2 : k .tally = false) :
    (State.correctCal s d).mask k = s.mask k := by
  unfold State.correctCal
  first
    | (simp (maxDischargeDepth := 9) only [↓State.setCal_mask, ↓State.stepCal_mask, ↓State.mask_with_tim, ↓State.mask_with_calBase, ↓State.mask_with_calAt, ↓State.mask_with_slew, ↓State.mask_with_calPpb, ↓State.mask_with_tally, ↓State.mask_ite, ite_self, implies_true, h0, h1, h2]; done)
    | ((try dsimp only); (repeat' split) <;> first | (simp (maxDischargeDepth := 9) only [↓State.setCal_mask, ↓State.stepCal_mask, ↓State.mask_with_tim, ↓State.mask_with_calBase, ↓State.mask_with_calAt, ↓State.mask_with_slew, ↓State.mask_with_calPpb, ↓State.mask_with_tally, ↓State.mask_ite, ite_self, implies_true, h0, h1, h2]; done) | (simp_all (maxDischargeDepth := 9) only [↓State.setCal_mask, ↓State.stepCal_mask, ↓State.mask_with_tim, ↓State.mask_with_calBase, ↓State.mask_with_calAt, ↓State.mask_with_slew, ↓State.mask_with_calPpb, ↓State.mask_with_tally, ↓State.mask_ite, ite_self, implies_true, h0, h1, h2]; done))
    | (simp only [State.mask, Bool.false_eq_true, ↓reduceIte, h0, h1, h2]; done)
    | (simp (maxDischargeDepth := 9) only [↓State.setCal_mask, ↓State.stepCal_mask, ↓State.mask_with_tim, ↓State.mask_with_calBase, ↓State.mask_with_calAt, ↓State.mask_with_slew, ↓State.mask_with_calPpb, ↓State.mask_with_tally, ↓State.mask_ite, ite_self, implies_true, h0, h1, h2]; simp only [State.mask, Bool.false_eq_true, ↓reduceIte, h0, h1, h2]; done)

theorem State.tune_mask (k : Part → Bool) (s : State) (h0 : k .cal = false) (h1 : k .freeSeq = false) :
    (State.tune s).mask k = s.mask k := by
  unfold State.tune
  first
    | (simp (maxDischargeDepth := 9) only [↓State.used_mask, ↓State.mask_with_calBase, ↓State.mask_with_calAt, ↓State.mask_with_slew, ↓State.mask_with_calPpb, ↓State.mask_with_freeSeq, ↓State.mask_ite, ite_self, implies_true, h0, h1]; done)
    | ((try dsimp only); (repeat' split) <;> first | (simp (maxDischargeDepth := 9) only [↓State.used_mask, ↓State.mask_with_calBase, ↓State.mask_with_calAt, ↓State.mask_with_slew, ↓State.mask_with_calPpb, ↓State.mask_with_freeSeq, ↓State.mask_ite, ite_self, implies_true, h0, h1]; done) | (simp_all (maxDischargeDepth := 9) only [↓State.used_mask, ↓State.mask_with_calBase, ↓State.mask_with_calAt, ↓State.mask_with_slew, ↓State.mask_with_calPpb, ↓State.mask_with_freeSeq, ↓State.mask_ite, ite_self, implies_true, h0, h1]; done))
    | (simp only [State.mask, Bool.false_eq_true, ↓reduceIte, h0, h1]; done)
    | (simp (maxDischargeDepth := 9) only [↓State.used_mask, ↓State.mask_with_calBase, ↓State.mask_with_calAt, ↓State.mask_with_slew, ↓State.mask_with_calPpb, ↓State.mask_with_freeSeq, ↓State.mask_ite, ite_self, implies_true, h0, h1]; simp only [State.mask, Bool.false_eq_true, ↓reduceIte, h0, h1]; done)

theorem State.runFree_mask (k : Part → Bool) (s : State) (h0 : k .cal = false) :
    (State.runFree s).mask k = s.mask k := by
  unfold State.runFree
  first
    | (simp (maxDischargeDepth := 9) only [↓State.mask_with_calBase, ↓State.mask_with_calAt, ↓State.mask_with_slew, ↓State.mask_with_calPpb, ↓State.mask_ite, ite_self, implies_true, h0]; done)
    | ((try dsimp only); (repeat' split) <;> first | (simp (maxDischargeDepth := 9) only [↓State.mask_with_calBase, ↓State.mask_with_calAt, ↓State.mask_with_slew, ↓State.mask_with_calPpb, ↓State.mask_ite, ite_self, implies_true, h0]; done) | (simp_all (maxDischargeDepth := 9) only [↓State.mask_with_calBase, ↓State.mask_with_calAt, ↓State.mask_with_slew, ↓State.mask_with_calPpb, ↓State.mask_ite, ite_self, implies_true, h0]; done))
    | (simp only [State.mask, Bool.false_eq_true, ↓reduceIte, h0]; done)
    | (simp (maxDischargeDepth := 9) only [↓State.mask_with_calBase, ↓State.mask_with_calAt, ↓State.mask_with_slew, ↓State.mask_with_calPpb, ↓State.mask_ite, ite_self, implies_true, h0]; simp only [State.mask, Bool.false_eq_true, ↓reduceIte, h0]; done)

theorem State.holdover_mask (k : Part → Bool) (s : State) (h0 : k .tim = false) (h1 : k .net = false) :
    (State.holdover s).mask k = s.mask k := by
  unfold State.holdover
  first
    | (simp (maxDischargeDepth := 9) only [↓State.modNet_mask, ↓State.modSrc_mask, ↓State.mask_ite, ite_self, implies_true, h0, h1]; done)
    | ((try dsimp only); (repeat' split) <;> first | (simp (maxDischargeDepth := 9) only [↓State.modNet_mask, ↓State.modSrc_mask, ↓State.mask_ite, ite_self, implies_true, h0, h1]; done) | (simp_all (maxDischargeDepth := 9) only [↓State.modNet_mask, ↓State.modSrc_mask, ↓State.mask_ite, ite_self, implies_true, h0, h1]; done))

theorem State.pathSet_mask (kp : Part → Bool) (s : State) (k : Fin 6) (up : Bool) (h0 : kp .tally = false) (h1 : kp .net = false) :
    (State.pathSet s k up).mask kp = s.mask kp := by
  unfold State.pathSet
  first
    | (simp (maxDischargeDepth := 9) only [↓State.event_mask, ↓State.modNetReg_mask, ↓State.mask_ite, ite_self, implies_true, h0, h1]; done)
    | ((try dsimp only); (repeat' split) <;> first | (simp (maxDischargeDepth := 9) only [↓State.event_mask, ↓State.modNetReg_mask, ↓State.mask_ite, ite_self, implies_true, h0, h1]; done) | (simp_all (maxDischargeDepth := 9) only [↓State.event_mask, ↓State.modNetReg_mask, ↓State.mask_ite, ite_self, implies_true, h0, h1]; done))

theorem State.keepFrame_mask (kp : Part → Bool) (s : State) (k : Fin 6) (mac : BitVec 48) (seq : BitVec 16) (h0 : kp .net = false) :
    (State.keepFrame s k mac seq).mask kp = s.mask kp := by
  unfold State.keepFrame
  first
    | (simp (maxDischargeDepth := 9) only [↓State.modNet_mask, ↓State.mask_ite, ite_self, implies_true, h0]; done)
    | ((try dsimp only); (repeat' split) <;> first | (simp (maxDischargeDepth := 9) only [↓State.modNet_mask, ↓State.mask_ite, ite_self, implies_true, h0]; done) | (simp_all (maxDischargeDepth := 9) only [↓State.modNet_mask, ↓State.mask_ite, ite_self, implies_true, h0]; done))

theorem State.announced_mask (k : Part → Bool) (s : State) (domain : Byte) (m : PtpMaster) (utc : BitVec 16) (h0 : k .tim = false) (h1 : k .net = false) :
    (State.announced s domain m utc).mask k = s.mask k := by
  unfold State.announced
  first
    | (simp (maxDischargeDepth := 9) only [↓State.modNet_mask, ↓State.mask_with_tim, ↓State.mask_with_net, ↓State.mask_ite, ite_self, implies_true, h0, h1]; done)
    | ((try dsimp only); (repeat' split) <;> first | (simp (maxDischargeDepth := 9) only [↓State.modNet_mask, ↓State.mask_with_tim, ↓State.mask_with_net, ↓State.mask_ite, ite_self, implies_true, h0, h1]; done) | (simp_all (maxDischargeDepth := 9) only [↓State.modNet_mask, ↓State.mask_with_tim, ↓State.mask_with_net, ↓State.mask_ite, ite_self, implies_true, h0, h1]; done))
    | (simp only [State.mask, Bool.false_eq_true, ↓reduceIte, h0, h1]; done)
    | (simp (maxDischargeDepth := 9) only [↓State.modNet_mask, ↓State.mask_with_tim, ↓State.mask_with_net, ↓State.mask_ite, ite_self, implies_true, h0, h1]; simp only [State.mask, Bool.false_eq_true, ↓reduceIte, h0, h1]; done)

theorem State.twinSet_mask (k : Part → Bool) (s : State) (t : TwinState) (h0 : k .tally = false) (h1 : k .net = false) :
    (State.twinSet s t).mask k = s.mask k := by
  unfold State.twinSet
  first
    | (simp (maxDischargeDepth := 9) only [↓State.event_mask, ↓State.modNetReg_mask, ↓State.mask_ite, ite_self, implies_true, h0, h1]; done)
    | ((try dsimp only); (repeat' split) <;> first | (simp (maxDischargeDepth := 9) only [↓State.event_mask, ↓State.modNetReg_mask, ↓State.mask_ite, ite_self, implies_true, h0, h1]; done) | (simp_all (maxDischargeDepth := 9) only [↓State.event_mask, ↓State.modNetReg_mask, ↓State.mask_ite, ite_self, implies_true, h0, h1]; done))

theorem State.mbArrive_mask (k : Part → Bool) (s : State) (l : MbLink) (dst : BitVec 16) (g : Msg) (h0 : k .eng = false) (h1 : k .net = false) :
    (State.mbArrive s l dst g).mask k = s.mask k := by
  unfold State.mbArrive
  first
    | (simp (maxDischargeDepth := 9) only [↓State.dropFrame_mask, ↓State.callout_mask, ↓State.modMbox_mask, ↓State.mask_ite, ite_self, implies_true, h0, h1]; done)
    | ((try dsimp only); (repeat' split) <;> first | (simp (maxDischargeDepth := 9) only [↓State.dropFrame_mask, ↓State.callout_mask, ↓State.modMbox_mask, ↓State.mask_ite, ite_self, implies_true, h0, h1]; done) | (simp_all (maxDischargeDepth := 9) only [↓State.dropFrame_mask, ↓State.callout_mask, ↓State.modMbox_mask, ↓State.mask_ite, ite_self, implies_true, h0, h1]; done))

theorem State.messageIn_mask (k : Part → Bool) (s : State) (l : MbLink) (word0 : Word) (dst src : BitVec 16) (b : List Byte) (h0 : k .eng = false) (h1 : k .net = false) :
    (State.messageIn s l word0 dst src b).mask k = s.mask k := by
  unfold State.messageIn
  first
    | (simp (maxDischargeDepth := 9) only [↓State.dropFrame_mask, ↓State.mbArrive_mask, ↓State.mask_ite, ite_self, implies_true, h0, h1]; done)
    | ((try dsimp only); (repeat' split) <;> first | (simp (maxDischargeDepth := 9) only [↓State.dropFrame_mask, ↓State.mbArrive_mask, ↓State.mask_ite, ite_self, implies_true, h0, h1]; done) | (simp_all (maxDischargeDepth := 9) only [↓State.dropFrame_mask, ↓State.mbArrive_mask, ↓State.mask_ite, ite_self, implies_true, h0, h1]; done))

theorem State.mbTick_mask (k : Part → Bool) (s : State) (h0 : k .net = false) (h1 : k .sent = false) :
    (State.mbTick s).mask k = s.mask k := by
  unfold State.mbTick
  first
    | (simp (maxDischargeDepth := 9) only [↓State.send_mask, ↓State.modMbox_mask, ↓State.mask_ite, ite_self, implies_true, ↓State.mask_forAll, h0, h1]; done)
    | ((try dsimp only); (repeat' split) <;> first | (simp (maxDischargeDepth := 9) only [↓State.send_mask, ↓State.modMbox_mask, ↓State.mask_ite, ite_self, implies_true, ↓State.mask_forAll, h0, h1]; done) | (simp_all (maxDischargeDepth := 9) only [↓State.send_mask, ↓State.modMbox_mask, ↓State.mask_ite, ite_self, implies_true, ↓State.mask_forAll, h0, h1]; done))
    | ((try dsimp only); refine State.mask_forAll _ _ _ _ fun _ _ => ?_; (repeat' split) <;> simp (maxDischargeDepth := 9) only [↓State.send_mask, ↓State.modMbox_mask, ↓State.mask_ite, ite_self, implies_true, ↓State.mask_forAll, h0, h1]; done)
    | ((try dsimp only); refine (State.mask_forAll _ _ _ _ fun _ _ => ?_).trans ?_ <;> (repeat' split) <;> simp (maxDischargeDepth := 9) only [↓State.send_mask, ↓State.modMbox_mask, ↓State.mask_ite, ite_self, implies_true, ↓State.mask_forAll, h0, h1]; done)

end Sys2Proof.Machine
end

