-- ==== Sys2Proof/Laws/FrameIdle.lean ====
section
/-! SUPPORT. What each operation of Machine/Idle.lean can change: it keeps every part of the state that it is not named to change. -/

set_option linter.unusedSimpArgs false

namespace Sys2Proof.Machine

theorem State.idle_mask (k : Part → Bool) (s : State) (h0 : k .mono = false) (h1 : k .net = false) (h2 : k .sent = false) :
    (State.idle s).mask k = s.mask k := by
  unfold State.idle
  first
    | (simp (maxDischargeDepth := 9) only [↓State.pass_mask, ↓State.mbTick_mask, ↓State.mask_ite, ite_self, implies_true, h0, h1, h2]; done)
    | ((try dsimp only); (repeat' split) <;> first | (simp (maxDischargeDepth := 9) only [↓State.pass_mask, ↓State.mbTick_mask, ↓State.mask_ite, ite_self, implies_true, h0, h1, h2]; done) | (simp_all (maxDischargeDepth := 9) only [↓State.pass_mask, ↓State.mbTick_mask, ↓State.mask_ite, ite_self, implies_true, h0, h1, h2]; done))

end Sys2Proof.Machine
end

