-- ==== Sys2Proof/Laws/FrameJournalCmd.lean ====
section
/-! SUPPORT. What each operation of Machine/JournalCmd.lean can change: it keeps every part of the state that it is not named to change. -/

set_option linter.unusedSimpArgs false

namespace Sys2Proof.Machine

theorem execTake_mask (k : Part → Bool) (s : State) (h0 : k .jnl = false) (h1 : k .sent = false) :
    (stateOf s (execTake s)).mask k = s.mask k := by
  unfold execTake
  first
    | (simp (maxDischargeDepth := 9) only [↓State.take_mask, ↓stateOf_next, ↓stateOf_ite, ↓State.mask_ite, ite_self, implies_true, h0, h1]; done)
    | ((try dsimp only); (repeat' split) <;> first | (simp (maxDischargeDepth := 9) only [↓State.take_mask, ↓stateOf_next, ↓stateOf_ite, ↓State.mask_ite, ite_self, implies_true, h0, h1]; done) | (simp_all (maxDischargeDepth := 9) only [↓State.take_mask, ↓stateOf_next, ↓stateOf_ite, ↓State.mask_ite, ite_self, implies_true, h0, h1]; done))

theorem execCmjRes_mask (k : Part → Bool) (w : Word) (s : State) (h0 : k .jnl = false) (h1 : k .sent = false) :
    (stateOf s (execCmjRes w s)).mask k = s.mask k := by
  unfold execCmjRes
  first
    | (simp (maxDischargeDepth := 9) only [↓State.result_mask, ↓stateOf_next, ↓stateOf_ite, ↓State.mask_ite, ite_self, implies_true, h0, h1]; done)
    | ((try dsimp only); (repeat' split) <;> first | (simp (maxDischargeDepth := 9) only [↓State.result_mask, ↓stateOf_next, ↓stateOf_ite, ↓State.mask_ite, ite_self, implies_true, h0, h1]; done) | (simp_all (maxDischargeDepth := 9) only [↓State.result_mask, ↓stateOf_next, ↓stateOf_ite, ↓State.mask_ite, ite_self, implies_true, h0, h1]; done))

theorem State.bwReject_mask (k : Part → Bool) (s : State) (f : NetBwrej → NetBwrej) (h0 : k .net = false) :
    (State.bwReject s f).mask k = s.mask k := by
  unfold State.bwReject
  first
    | (simp (maxDischargeDepth := 9) only [↓State.mask_with_net, ↓State.mask_ite, ite_self, implies_true, h0]; done)
    | ((try dsimp only); (repeat' split) <;> first | (simp (maxDischargeDepth := 9) only [↓State.mask_with_net, ↓State.mask_ite, ite_self, implies_true, h0]; done) | (simp_all (maxDischargeDepth := 9) only [↓State.mask_with_net, ↓State.mask_ite, ite_self, implies_true, h0]; done))
    | (simp only [State.mask, Bool.false_eq_true, ↓reduceIte, h0]; done)
    | (simp (maxDischargeDepth := 9) only [↓State.mask_with_net, ↓State.mask_ite, ite_self, implies_true, h0]; simp only [State.mask, Bool.false_eq_true, ↓reduceIte, h0]; done)

theorem State.telegramIn_mask (k : Part → Bool) (s : State) (sg : Bool) (b : List Byte) (h0 : k .jnl = false) (h1 : k .net = false) (h2 : k .sent = false) (h3 : k .freeSeq = false) :
    (State.telegramIn s sg b).mask k = s.mask k := by
  unfold State.telegramIn
  first
    | (simp (maxDischargeDepth := 9) only [↓State.dropFrame_mask, ↓State.take_mask, ↓State.commandIn_mask, ↓State.bwReject_mask, ↓State.mask_ite, ite_self, implies_true, ↓State.mask_fst_ite, h0, h1, h2, h3]; done)
    | ((try dsimp only); (repeat' split) <;> first | (simp (maxDischargeDepth := 9) only [↓State.dropFrame_mask, ↓State.take_mask, ↓State.commandIn_mask, ↓State.bwReject_mask, ↓State.mask_ite, ite_self, implies_true, ↓State.mask_fst_ite, h0, h1, h2, h3]; done) | (simp_all (maxDischargeDepth := 9) only [↓State.dropFrame_mask, ↓State.take_mask, ↓State.commandIn_mask, ↓State.bwReject_mask, ↓State.mask_ite, ite_self, implies_true, ↓State.mask_fst_ite, h0, h1, h2, h3]; done))

theorem execTelegramReceive_mask (k : Part → Bool) (sg : Bool) (b : List Byte) (s : State) (h0 : k .jnl = false) (h1 : k .net = false) (h2 : k .sent = false) (h3 : k .freeSeq = false) :
    (stateOf s (execTelegramReceive sg b s)).mask k = s.mask k := by
  unfold execTelegramReceive
  first
    | (simp (maxDischargeDepth := 9) only [↓State.telegramIn_mask, ↓stateOf_next, ↓stateOf_ite, ↓State.mask_ite, ite_self, implies_true, h0, h1, h2, h3]; done)
    | ((try dsimp only); (repeat' split) <;> first | (simp (maxDischargeDepth := 9) only [↓State.telegramIn_mask, ↓stateOf_next, ↓stateOf_ite, ↓State.mask_ite, ite_self, implies_true, h0, h1, h2, h3]; done) | (simp_all (maxDischargeDepth := 9) only [↓State.telegramIn_mask, ↓stateOf_next, ↓stateOf_ite, ↓State.mask_ite, ite_self, implies_true, h0, h1, h2, h3]; done))

theorem execJournalWriteComplete_mask (k : Part → Bool) (ok0 ok1 : Bool) (s : State) (h0 : k .fab = false) (h1 : k .tally = false) (h2 : k .jnl = false) (h3 : k .sent = false) (h4 : k .freeSeq = false) :
    (stateOf s (execJournalWriteComplete ok0 ok1 s)).mask k = s.mask k := by
  unfold execJournalWriteComplete
  first
    | (simp (maxDischargeDepth := 9) only [↓State.writeDone_mask, ↓stateOf_next, ↓stateOf_ite, ↓State.mask_ite, ite_self, implies_true, h0, h1, h2, h3, h4]; done)
    | ((try dsimp only); (repeat' split) <;> first | (simp (maxDischargeDepth := 9) only [↓State.writeDone_mask, ↓stateOf_next, ↓stateOf_ite, ↓State.mask_ite, ite_self, implies_true, h0, h1, h2, h3, h4]; done) | (simp_all (maxDischargeDepth := 9) only [↓State.writeDone_mask, ↓stateOf_next, ↓stateOf_ite, ↓State.mask_ite, ite_self, implies_true, h0, h1, h2, h3, h4]; done))

theorem execDeliveryTimeout_mask (k : Part → Bool) (s : State) (h0 : k .mono = false) (h1 : k .jnl = false) (h2 : k .sent = false) :
    (stateOf s (execDeliveryTimeout s)).mask k = s.mask k := by
  unfold execDeliveryTimeout
  first
    | (simp (maxDischargeDepth := 9) only [↓State.upTo_mask, ↓State.outcome_mask, ↓stateOf_next, ↓stateOf_ite, ↓State.mask_ite, ite_self, implies_true, h0, h1, h2]; done)
    | ((try dsimp only); (repeat' split) <;> first | (simp (maxDischargeDepth := 9) only [↓State.upTo_mask, ↓State.outcome_mask, ↓stateOf_next, ↓stateOf_ite, ↓State.mask_ite, ite_self, implies_true, h0, h1, h2]; done) | (simp_all (maxDischargeDepth := 9) only [↓State.upTo_mask, ↓State.outcome_mask, ↓stateOf_next, ↓stateOf_ite, ↓State.mask_ite, ite_self, implies_true, h0, h1, h2]; done))

theorem execEntryFree_mask (k : Part → Bool) (s : State) (h0 : k .mono = false) (h1 : k .jnl = false) :
    (stateOf s (execEntryFree s)).mask k = s.mask k := by
  unfold execEntryFree
  first
    | (simp (maxDischargeDepth := 9) only [↓State.upTo_mask, ↓State.modJnl_mask, ↓stateOf_next, ↓stateOf_ite, ↓State.mask_ite, ite_self, implies_true, h0, h1]; done)
    | ((try dsimp only); (repeat' split) <;> first | (simp (maxDischargeDepth := 9) only [↓State.upTo_mask, ↓State.modJnl_mask, ↓stateOf_next, ↓stateOf_ite, ↓State.mask_ite, ite_self, implies_true, h0, h1]; done) | (simp_all (maxDischargeDepth := 9) only [↓State.upTo_mask, ↓State.modJnl_mask, ↓stateOf_next, ↓stateOf_ite, ↓State.mask_ite, ite_self, implies_true, h0, h1]; done))

theorem execStatusTelegramSend_mask (k : Part → Bool) (codeh : Option Word) (s : State) (h0 : k .mono = false) (h1 : k .tally = false) (h2 : k .net = false) (h3 : k .sent = false) :
    (stateOf s (execStatusTelegramSend codeh s)).mask k = s.mask k := by
  unfold execStatusTelegramSend
  first
    | (simp (maxDischargeDepth := 9) only [↓State.upTo_mask, ↓State.event_mask, ↓State.sendTelegram_mask, ↓stateOf_next, ↓stateOf_ite, ↓State.mask_with_mono, ↓State.mask_with_tally, ↓State.mask_with_net, ↓State.mask_with_sent, ↓State.mask_ite, ite_self, implies_true, h0, h1, h2, h3]; done)
    | ((try dsimp only); (repeat' split) <;> first | (simp (maxDischargeDepth := 9) only [↓State.upTo_mask, ↓State.event_mask, ↓State.sendTelegram_mask, ↓stateOf_next, ↓stateOf_ite, ↓State.mask_with_mono, ↓State.mask_with_tally, ↓State.mask_with_net, ↓State.mask_with_sent, ↓State.mask_ite, ite_self, implies_true, h0, h1, h2, h3]; done) | (simp_all (maxDischargeDepth := 9) only [↓State.upTo_mask, ↓State.event_mask, ↓State.sendTelegram_mask, ↓stateOf_next, ↓stateOf_ite, ↓State.mask_with_mono, ↓State.mask_with_tally, ↓State.mask_with_net, ↓State.mask_with_sent, ↓State.mask_ite, ite_self, implies_true, h0, h1, h2, h3]; done))
    | (simp only [State.mask, Bool.false_eq_true, ↓reduceIte, h0, h1, h2, h3]; done)
    | (simp (maxDischargeDepth := 9) only [↓State.upTo_mask, ↓State.event_mask, ↓State.sendTelegram_mask, ↓stateOf_next, ↓stateOf_ite, ↓State.mask_with_mono, ↓State.mask_with_tally, ↓State.mask_with_net, ↓State.mask_with_sent, ↓State.mask_ite, ite_self, implies_true, h0, h1, h2, h3]; simp only [State.mask, Bool.false_eq_true, ↓reduceIte, h0, h1, h2, h3]; done)

end Sys2Proof.Machine
end

