-- ==== Sys2Proof/Laws/FrameLandOps.lean ====
section
/-! SUPPORT. What each operation of Machine/LandOps.lean can change: it keeps every part of the state that it is not named to change. -/

set_option linter.unusedSimpArgs false

namespace Sys2Proof.Machine

theorem State.holdSafe_mask (k : Part → Bool) (s : State) (h0 : k .fio = false) :
    (State.holdSafe s).mask k = s.mask k := by
  unfold State.holdSafe
  first
    | (simp (maxDischargeDepth := 9) only [↓State.mask_with_fio, ↓State.mask_ite, ite_self, implies_true, h0]; done)
    | ((try dsimp only); (repeat' split) <;> first | (simp (maxDischargeDepth := 9) only [↓State.mask_with_fio, ↓State.mask_ite, ite_self, implies_true, h0]; done) | (simp_all (maxDischargeDepth := 9) only [↓State.mask_with_fio, ↓State.mask_ite, ite_self, implies_true, h0]; done))
    | (simp only [State.mask, Bool.false_eq_true, ↓reduceIte, h0]; done)
    | (simp (maxDischargeDepth := 9) only [↓State.mask_with_fio, ↓State.mask_ite, ite_self, implies_true, h0]; simp only [State.mask, Bool.false_eq_true, ↓reduceIte, h0]; done)

theorem State.switchData_mask (k : Part → Bool) (s : State) (old : List TagDecl) (keep : Bool) (h0 : k .mem = false) (h1 : k .eng = false) :
    (State.switchData s old keep).mask k = s.mask k := by
  unfold State.switchData
  first
    | (simp (maxDischargeDepth := 9) only [↓State.modEng_mask, ↓State.setBytes_mask, ↓State.setQuad_mask, ↓State.mask_with_mem, ↓State.mask_with_eng, ↓State.mask_ite, ite_self, implies_true, ↓State.mask_forAll, h0, h1]; done)
    | ((try dsimp only); (repeat' split) <;> first | (simp (maxDischargeDepth := 9) only [↓State.modEng_mask, ↓State.setBytes_mask, ↓State.setQuad_mask, ↓State.mask_with_mem, ↓State.mask_with_eng, ↓State.mask_ite, ite_self, implies_true, ↓State.mask_forAll, h0, h1]; done) | (simp_all (maxDischargeDepth := 9) only [↓State.modEng_mask, ↓State.setBytes_mask, ↓State.setQuad_mask, ↓State.mask_with_mem, ↓State.mask_with_eng, ↓State.mask_ite, ite_self, implies_true, ↓State.mask_forAll, h0, h1]; done))
    | (simp only [State.mask, Bool.false_eq_true, ↓reduceIte, h0, h1]; done)
    | (simp (maxDischargeDepth := 9) only [↓State.modEng_mask, ↓State.setBytes_mask, ↓State.setQuad_mask, ↓State.mask_with_mem, ↓State.mask_with_eng, ↓State.mask_ite, ite_self, implies_true, ↓State.mask_forAll, h0, h1]; simp only [State.mask, Bool.false_eq_true, ↓reduceIte, h0, h1]; done)
    | ((try dsimp only); refine State.mask_forAll _ _ _ _ fun _ _ => ?_; (repeat' split) <;> simp (maxDischargeDepth := 9) only [↓State.modEng_mask, ↓State.setBytes_mask, ↓State.setQuad_mask, ↓State.mask_with_mem, ↓State.mask_with_eng, ↓State.mask_ite, ite_self, implies_true, ↓State.mask_forAll, h0, h1]; done)
    | ((try dsimp only); refine (State.mask_forAll _ _ _ _ fun _ _ => ?_).trans ?_ <;> (repeat' split) <;> simp (maxDischargeDepth := 9) only [↓State.modEng_mask, ↓State.setBytes_mask, ↓State.setQuad_mask, ↓State.mask_with_mem, ↓State.mask_with_eng, ↓State.mask_ite, ite_self, implies_true, ↓State.mask_forAll, h0, h1]; done)

theorem State.dropForces_mask (k : Part → Bool) (s : State) (h0 : k .eng = false) (h1 : k .tally = false) (h2 : k .lnd = false) :
    (State.dropForces s).mask k = s.mask k := by
  unfold State.dropForces
  first
    | (simp (maxDischargeDepth := 9) only [↓State.modEng_mask, ↓State.event_mask, ↓State.modLnd_mask, ↓State.mask_ite, ite_self, implies_true, ↓State.mask_forAll, h0, h1, h2]; done)
    | ((try dsimp only); (repeat' split) <;> first | (simp (maxDischargeDepth := 9) only [↓State.modEng_mask, ↓State.event_mask, ↓State.modLnd_mask, ↓State.mask_ite, ite_self, implies_true, ↓State.mask_forAll, h0, h1, h2]; done) | (simp_all (maxDischargeDepth := 9) only [↓State.modEng_mask, ↓State.event_mask, ↓State.modLnd_mask, ↓State.mask_ite, ite_self, implies_true, ↓State.mask_forAll, h0, h1, h2]; done))
    | ((try dsimp only); refine State.mask_forAll _ _ _ _ fun _ _ => ?_; (repeat' split) <;> simp (maxDischargeDepth := 9) only [↓State.modEng_mask, ↓State.event_mask, ↓State.modLnd_mask, ↓State.mask_ite, ite_self, implies_true, ↓State.mask_forAll, h0, h1, h2]; done)
    | ((try dsimp only); refine (State.mask_forAll _ _ _ _ fun _ _ => ?_).trans ?_ <;> (repeat' split) <;> simp (maxDischargeDepth := 9) only [↓State.modEng_mask, ↓State.event_mask, ↓State.modLnd_mask, ↓State.mask_ite, ite_self, implies_true, ↓State.mask_forAll, h0, h1, h2]; done)

theorem State.outputSet_mask (k : Part → Bool) (s : State) (p : PortalIx) (same : Bool) (h0 : k .portals = false) :
    (State.outputSet s p same).mask k = s.mask k := by
  unfold State.outputSet
  first
    | (simp (maxDischargeDepth := 9) only [↓State.modPortal_mask, ↓State.mask_ite, ite_self, implies_true, h0]; done)
    | ((try dsimp only); (repeat' split) <;> first | (simp (maxDischargeDepth := 9) only [↓State.modPortal_mask, ↓State.mask_ite, ite_self, implies_true, h0]; done) | (simp_all (maxDischargeDepth := 9) only [↓State.modPortal_mask, ↓State.mask_ite, ite_self, implies_true, h0]; done))

theorem State.outputLines_mask (k : Part → Bool) (s : State) (p : PortalIx) (h0 : k .portals = false) :
    (State.outputLines s p).mask k = s.mask k := by
  unfold State.outputLines
  first
    | (simp (maxDischargeDepth := 9) only [↓State.outputSet_mask, ↓State.mask_ite, ite_self, implies_true, h0]; done)
    | ((try dsimp only); (repeat' split) <;> first | (simp (maxDischargeDepth := 9) only [↓State.outputSet_mask, ↓State.mask_ite, ite_self, implies_true, h0]; done) | (simp_all (maxDischargeDepth := 9) only [↓State.outputSet_mask, ↓State.mask_ite, ite_self, implies_true, h0]; done))

theorem State.reconfigurePortal_mask (k : Part → Bool) (o s : State) (p : PortalIx) (h0 : k .tally = false) (h1 : k .axes = false) (h2 : k .portals = false) (h3 : k .fel = false) (h4 : k .kerf = false) (h5 : k .pwr = false) (h6 : k .sent = false) :
    (State.reconfigurePortal o s p).mask k = s.mask k := by
  unfold State.reconfigurePortal
  first
    | (simp (maxDischargeDepth := 9) only [↓State.modPortal_mask, ↓State.modKerf_mask, ↓State.modPwr_mask, ↓State.modFel_mask, ↓State.kerfClose_mask, ↓State.kerfOpen_mask, ↓State.kerfSync_mask, ↓State.modelCheck_mask, ↓State.modelDrop_mask, ↓State.armGaps_mask, ↓State.headWait_mask, ↓State.learnRequest_mask, ↓State.mask_ite, ite_self, implies_true, h0, h1, h2, h3, h4, h5, h6]; done)
    | ((try dsimp only); (repeat' split) <;> first | (simp (maxDischargeDepth := 9) only [↓State.modPortal_mask, ↓State.modKerf_mask, ↓State.modPwr_mask, ↓State.modFel_mask, ↓State.kerfClose_mask, ↓State.kerfOpen_mask, ↓State.kerfSync_mask, ↓State.modelCheck_mask, ↓State.modelDrop_mask, ↓State.armGaps_mask, ↓State.headWait_mask, ↓State.learnRequest_mask, ↓State.mask_ite, ite_self, implies_true, h0, h1, h2, h3, h4, h5, h6]; done) | (simp_all (maxDischargeDepth := 9) only [↓State.modPortal_mask, ↓State.modKerf_mask, ↓State.modPwr_mask, ↓State.modFel_mask, ↓State.kerfClose_mask, ↓State.kerfOpen_mask, ↓State.kerfSync_mask, ↓State.modelCheck_mask, ↓State.modelDrop_mask, ↓State.armGaps_mask, ↓State.headWait_mask, ↓State.learnRequest_mask, ↓State.mask_ite, ite_self, implies_true, h0, h1, h2, h3, h4, h5, h6]; done))

theorem State.dropRequests_mask (k : Part → Bool) (s : State) (h0 : k .axes = false) (h1 : k .ls = false) (h2 : k .kerf = false) :
    (State.dropRequests s).mask k = s.mask k := by
  unfold State.dropRequests
  first
    | (simp (maxDischargeDepth := 9) only [↓State.modAxis_mask, ↓State.modLs_mask, ↓State.modKerf_mask, ↓State.mask_ite, ite_self, implies_true, ↓State.mask_forAll, h0, h1, h2]; done)
    | ((try dsimp only); (repeat' split) <;> first | (simp (maxDischargeDepth := 9) only [↓State.modAxis_mask, ↓State.modLs_mask, ↓State.modKerf_mask, ↓State.mask_ite, ite_self, implies_true, ↓State.mask_forAll, h0, h1, h2]; done) | (simp_all (maxDischargeDepth := 9) only [↓State.modAxis_mask, ↓State.modLs_mask, ↓State.modKerf_mask, ↓State.mask_ite, ite_self, implies_true, ↓State.mask_forAll, h0, h1, h2]; done))
    | ((try dsimp only); refine State.mask_forAll _ _ _ _ fun _ _ => ?_; (repeat' split) <;> simp (maxDischargeDepth := 9) only [↓State.modAxis_mask, ↓State.modLs_mask, ↓State.modKerf_mask, ↓State.mask_ite, ite_self, implies_true, ↓State.mask_forAll, h0, h1, h2]; done)
    | ((try dsimp only); refine (State.mask_forAll _ _ _ _ fun _ _ => ?_).trans ?_ <;> (repeat' split) <;> simp (maxDischargeDepth := 9) only [↓State.modAxis_mask, ↓State.modLs_mask, ↓State.modKerf_mask, ↓State.mask_ite, ite_self, implies_true, ↓State.mask_forAll, h0, h1, h2]; done)

theorem State.twinOff_mask (k : Part → Bool) (s : State) (h0 : k .net = false) :
    (State.twinOff s).mask k = s.mask k := by
  unfold State.twinOff
  first
    | (simp (maxDischargeDepth := 9) only [↓State.modNet_mask, ↓State.mask_ite, ite_self, implies_true, h0]; done)
    | ((try dsimp only); (repeat' split) <;> first | (simp (maxDischargeDepth := 9) only [↓State.modNet_mask, ↓State.mask_ite, ite_self, implies_true, h0]; done) | (simp_all (maxDischargeDepth := 9) only [↓State.modNet_mask, ↓State.mask_ite, ite_self, implies_true, h0]; done))

theorem State.rebind_mask (k : Part → Bool) (s o : State) (h0 : k .net = false) :
    (State.rebind s o).mask k = s.mask k := by
  unfold State.rebind
  first
    | (simp (maxDischargeDepth := 9) only [↓State.modMbox_mask, ↓State.modNet_mask, ↓State.mask_ite, ite_self, implies_true, ↓State.mask_forAll, h0]; done)
    | ((try dsimp only); (repeat' split) <;> first | (simp (maxDischargeDepth := 9) only [↓State.modMbox_mask, ↓State.modNet_mask, ↓State.mask_ite, ite_self, implies_true, ↓State.mask_forAll, h0]; done) | (simp_all (maxDischargeDepth := 9) only [↓State.modMbox_mask, ↓State.modNet_mask, ↓State.mask_ite, ite_self, implies_true, ↓State.mask_forAll, h0]; done))
    | ((try dsimp only); refine State.mask_forAll _ _ _ _ fun _ _ => ?_; (repeat' split) <;> simp (maxDischargeDepth := 9) only [↓State.modMbox_mask, ↓State.modNet_mask, ↓State.mask_ite, ite_self, implies_true, ↓State.mask_forAll, h0]; done)
    | ((try dsimp only); refine (State.mask_forAll _ _ _ _ fun _ _ => ?_).trans ?_ <;> (repeat' split) <;> simp (maxDischargeDepth := 9) only [↓State.modMbox_mask, ↓State.modNet_mask, ↓State.mask_ite, ite_self, implies_true, ↓State.mask_forAll, h0]; done)

theorem State.newPanels_mask (k : Part → Bool) (s o : State) (h0 : k .eng = false) :
    (State.newPanels s o).mask k = s.mask k := by
  unfold State.newPanels
  first
    | (simp (maxDischargeDepth := 9) only [↓State.modEng_mask, ↓State.mask_ite, ite_self, implies_true, h0]; done)
    | ((try dsimp only); (repeat' split) <;> first | (simp (maxDischargeDepth := 9) only [↓State.modEng_mask, ↓State.mask_ite, ite_self, implies_true, h0]; done) | (simp_all (maxDischargeDepth := 9) only [↓State.modEng_mask, ↓State.mask_ite, ite_self, implies_true, h0]; done))

theorem State.newInputs_mask (k : Part → Bool) (s o : State) (h0 : k .fio = false) :
    (State.newInputs s o).mask k = s.mask k := by
  unfold State.newInputs
  first
    | (simp (maxDischargeDepth := 9) only [↓State.mask_with_fio, ↓State.mask_ite, ite_self, implies_true, h0]; done)
    | ((try dsimp only); (repeat' split) <;> first | (simp (maxDischargeDepth := 9) only [↓State.mask_with_fio, ↓State.mask_ite, ite_self, implies_true, h0]; done) | (simp_all (maxDischargeDepth := 9) only [↓State.mask_with_fio, ↓State.mask_ite, ite_self, implies_true, h0]; done))
    | (simp only [State.mask, Bool.false_eq_true, ↓reduceIte, h0]; done)
    | (simp (maxDischargeDepth := 9) only [↓State.mask_with_fio, ↓State.mask_ite, ite_self, implies_true, h0]; simp only [State.mask, Bool.false_eq_true, ↓reduceIte, h0]; done)

theorem State.reconfigure_mask (k : Part → Bool) (s o : State) (h0 : k .eng = false) (h1 : k .tally = false) (h2 : k .axes = false) (h3 : k .portals = false) (h4 : k .fel = false) (h5 : k .sde = false) (h6 : k .ls = false) (h7 : k .kerf = false) (h8 : k .fio = false) (h9 : k .safe = false) (h10 : k .net = false) (h11 : k .pwr = false) (h12 : k .sent = false) :
    (State.reconfigure s o).mask k = s.mask k := by
  unfold State.reconfigure
  first
    | (simp (maxDischargeDepth := 9) only [↓State.modAxis_mask, ↓State.lsEval_mask, ↓State.bridgeEval_mask, ↓State.movementEnd_mask, ↓State.idleClose_mask, ↓State.zspEval_mask, ↓State.sdeEval_mask, ↓State.headAdmit_mask, ↓State.supplyJudge_mask, ↓State.outputSet_mask, ↓State.reconfigurePortal_mask, ↓State.dropRequests_mask, ↓State.twinOff_mask, ↓State.rebind_mask, ↓State.newPanels_mask, ↓State.newInputs_mask, ↓State.mask_ite, ite_self, implies_true, ↓State.mask_forAll, h0, h1, h2, h3, h4, h5, h6, h7, h8, h9, h10, h11, h12]; done)
    | ((try dsimp only); (repeat' split) <;> first | (simp (maxDischargeDepth := 9) only [↓State.modAxis_mask, ↓State.lsEval_mask, ↓State.bridgeEval_mask, ↓State.movementEnd_mask, ↓State.idleClose_mask, ↓State.zspEval_mask, ↓State.sdeEval_mask, ↓State.headAdmit_mask, ↓State.supplyJudge_mask, ↓State.outputSet_mask, ↓State.reconfigurePortal_mask, ↓State.dropRequests_mask, ↓State.twinOff_mask, ↓State.rebind_mask, ↓State.newPanels_mask, ↓State.newInputs_mask, ↓State.mask_ite, ite_self, implies_true, ↓State.mask_forAll, h0, h1, h2, h3, h4, h5, h6, h7, h8, h9, h10, h11, h12]; done) | (simp_all (maxDischargeDepth := 9) only [↓State.modAxis_mask, ↓State.lsEval_mask, ↓State.bridgeEval_mask, ↓State.movementEnd_mask, ↓State.idleClose_mask, ↓State.zspEval_mask, ↓State.sdeEval_mask, ↓State.headAdmit_mask, ↓State.supplyJudge_mask, ↓State.outputSet_mask, ↓State.reconfigurePortal_mask, ↓State.dropRequests_mask, ↓State.twinOff_mask, ↓State.rebind_mask, ↓State.newPanels_mask, ↓State.newInputs_mask, ↓State.mask_ite, ite_self, implies_true, ↓State.mask_forAll, h0, h1, h2, h3, h4, h5, h6, h7, h8, h9, h10, h11, h12]; done))
    | ((try dsimp only); refine State.mask_forAll _ _ _ _ fun _ _ => ?_; (repeat' split) <;> simp (maxDischargeDepth := 9) only [↓State.modAxis_mask, ↓State.lsEval_mask, ↓State.bridgeEval_mask, ↓State.movementEnd_mask, ↓State.idleClose_mask, ↓State.zspEval_mask, ↓State.sdeEval_mask, ↓State.headAdmit_mask, ↓State.supplyJudge_mask, ↓State.outputSet_mask, ↓State.reconfigurePortal_mask, ↓State.dropRequests_mask, ↓State.twinOff_mask, ↓State.rebind_mask, ↓State.newPanels_mask, ↓State.newInputs_mask, ↓State.mask_ite, ite_self, implies_true, ↓State.mask_forAll, h0, h1, h2, h3, h4, h5, h6, h7, h8, h9, h10, h11, h12]; done)
    | ((try dsimp only); refine (State.mask_forAll _ _ _ _ fun _ _ => ?_).trans ?_ <;> (repeat' split) <;> simp (maxDischargeDepth := 9) only [↓State.modAxis_mask, ↓State.lsEval_mask, ↓State.bridgeEval_mask, ↓State.movementEnd_mask, ↓State.idleClose_mask, ↓State.zspEval_mask, ↓State.sdeEval_mask, ↓State.headAdmit_mask, ↓State.supplyJudge_mask, ↓State.outputSet_mask, ↓State.reconfigurePortal_mask, ↓State.dropRequests_mask, ↓State.twinOff_mask, ↓State.rebind_mask, ↓State.newPanels_mask, ↓State.newInputs_mask, ↓State.mask_ite, ite_self, implies_true, ↓State.mask_forAll, h0, h1, h2, h3, h4, h5, h6, h7, h8, h9, h10, h11, h12]; done)

theorem State.hingeReject_mask (k : Part → Bool) (s : State) (h0 : k .lnd = false) :
    (State.hingeReject s).mask k = s.mask k := by
  unfold State.hingeReject
  first
    | (simp (maxDischargeDepth := 9) only [↓State.modLnd_mask, ↓State.mask_ite, ite_self, implies_true, h0]; done)
    | ((try dsimp only); (repeat' split) <;> first | (simp (maxDischargeDepth := 9) only [↓State.modLnd_mask, ↓State.mask_ite, ite_self, implies_true, h0]; done) | (simp_all (maxDischargeDepth := 9) only [↓State.modLnd_mask, ↓State.mask_ite, ite_self, implies_true, h0]; done))

theorem State.switch_mask (k : Part → Bool) (s : State) (echo : Bool) (h0 : k .mono = false) (h1 : k .mem = false) (h2 : k .eng = false) (h3 : k .tally = false) (h4 : k .axes = false) (h5 : k .portals = false) (h6 : k .fel = false) (h7 : k .sde = false) (h8 : k .ls = false) (h9 : k .kerf = false) (h10 : k .fio = false) (h11 : k .safe = false) (h12 : k .jnl = false) (h13 : k .net = false) (h14 : k .lnd = false) (h15 : k .pwr = false) (h16 : k .sent = false) :
    (State.switch s echo).mask k = s.mask k := by
  unfold State.switch
  first
    | (simp (maxDischargeDepth := 9) only [↓State.modEng_mask, ↓State.pass_mask, ↓State.modMode_mask, ↓State.discardStaged_mask, ↓State.coldLoad_mask, ↓State.enterRun_mask, ↓State.modLnd_mask, ↓State.paramLoad_mask, ↓State.loadParam_mask, ↓State.trial_mask, ↓State.holdSafe_mask, ↓State.switchData_mask, ↓State.dropForces_mask, ↓State.reconfigure_mask, ↓State.hingeReject_mask, ↓State.mask_ite, ite_self, implies_true, h0, h1, h2, h3, h4, h5, h6, h7, h8, h9, h10, h11, h12, h13, h14, h15, h16]; done)
    | ((try dsimp only); (repeat' split) <;> first | (simp (maxDischargeDepth := 9) only [↓State.modEng_mask, ↓State.pass_mask, ↓State.modMode_mask, ↓State.discardStaged_mask, ↓State.coldLoad_mask, ↓State.enterRun_mask, ↓State.modLnd_mask, ↓State.paramLoad_mask, ↓State.loadParam_mask, ↓State.trial_mask, ↓State.holdSafe_mask, ↓State.switchData_mask, ↓State.dropForces_mask, ↓State.reconfigure_mask, ↓State.hingeReject_mask, ↓State.mask_ite, ite_self, implies_true, h0, h1, h2, h3, h4, h5, h6, h7, h8, h9, h10, h11, h12, h13, h14, h15, h16]; done) | (simp_all (maxDischargeDepth := 9) only [↓State.modEng_mask, ↓State.pass_mask, ↓State.modMode_mask, ↓State.discardStaged_mask, ↓State.coldLoad_mask, ↓State.enterRun_mask, ↓State.modLnd_mask, ↓State.paramLoad_mask, ↓State.loadParam_mask, ↓State.trial_mask, ↓State.holdSafe_mask, ↓State.switchData_mask, ↓State.dropForces_mask, ↓State.reconfigure_mask, ↓State.hingeReject_mask, ↓State.mask_ite, ite_self, implies_true, h0, h1, h2, h3, h4, h5, h6, h7, h8, h9, h10, h11, h12, h13, h14, h15, h16]; done))

end Sys2Proof.Machine
end

