-- ==== Sys2Proof/Laws/FrameLandCmd.lean ====
section
/-! SUPPORT. What each operation of Machine/LandCmd.lean can change: it keeps every part of the state that it is not named to change. -/

set_option linter.unusedSimpArgs false

namespace Sys2Proof.Machine

theorem State.verified_mask (k : Part → Bool) (s : State) (h0 : k .tally = false) (h1 : k .lnd = false) (h2 : k .sent = false) :
    (State.verified s).mask k = s.mask k := by
  unfold State.verified
  first
    | (simp (maxDischargeDepth := 9) only [↓State.event_mask, ↓State.modLnd_mask, ↓State.respond_mask, ↓State.mask_ite, ite_self, implies_true, h0, h1, h2]; done)
    | ((try dsimp only); (repeat' split) <;> first | (simp (maxDischargeDepth := 9) only [↓State.event_mask, ↓State.modLnd_mask, ↓State.respond_mask, ↓State.mask_ite, ite_self, implies_true, h0, h1, h2]; done) | (simp_all (maxDischargeDepth := 9) only [↓State.event_mask, ↓State.modLnd_mask, ↓State.respond_mask, ↓State.mask_ite, ite_self, implies_true, h0, h1, h2]; done))

theorem execVerificationComplete_mask (k : Part → Bool) (s : State) (h0 : k .tally = false) (h1 : k .lnd = false) (h2 : k .sent = false) :
    (stateOf s (execVerificationComplete s)).mask k = s.mask k := by
  unfold execVerificationComplete
  first
    | (simp (maxDischargeDepth := 9) only [↓State.verified_mask, ↓stateOf_next, ↓stateOf_ite, ↓State.mask_ite, ite_self, implies_true, h0, h1, h2]; done)
    | ((try dsimp only); (repeat' split) <;> first | (simp (maxDischargeDepth := 9) only [↓State.verified_mask, ↓stateOf_next, ↓stateOf_ite, ↓State.mask_ite, ite_self, implies_true, h0, h1, h2]; done) | (simp_all (maxDischargeDepth := 9) only [↓State.verified_mask, ↓stateOf_next, ↓stateOf_ite, ↓State.mask_ite, ite_self, implies_true, h0, h1, h2]; done))

theorem execImageSwitch_mask (k : Part → Bool) (echo : Bool) (s : State) (h0 : k .mono = false) (h1 : k .mem = false) (h2 : k .eng = false) (h3 : k .tally = false) (h4 : k .axes = false) (h5 : k .portals = false) (h6 : k .fel = false) (h7 : k .sde = false) (h8 : k .ls = false) (h9 : k .kerf = false) (h10 : k .fio = false) (h11 : k .safe = false) (h12 : k .jnl = false) (h13 : k .net = false) (h14 : k .lnd = false) (h15 : k .pwr = false) (h16 : k .sent = false) :
    (stateOf s (execImageSwitch echo s)).mask k = s.mask k := by
  unfold execImageSwitch
  first
    | (simp (maxDischargeDepth := 9) only [↓State.switch_mask, ↓stateOf_next, ↓stateOf_ite, ↓State.mask_ite, ite_self, implies_true, h0, h1, h2, h3, h4, h5, h6, h7, h8, h9, h10, h11, h12, h13, h14, h15, h16]; done)
    | ((try dsimp only); (repeat' split) <;> first | (simp (maxDischargeDepth := 9) only [↓State.switch_mask, ↓stateOf_next, ↓stateOf_ite, ↓State.mask_ite, ite_self, implies_true, h0, h1, h2, h3, h4, h5, h6, h7, h8, h9, h10, h11, h12, h13, h14, h15, h16]; done) | (simp_all (maxDischargeDepth := 9) only [↓State.switch_mask, ↓stateOf_next, ↓stateOf_ite, ↓State.mask_ite, ite_self, implies_true, h0, h1, h2, h3, h4, h5, h6, h7, h8, h9, h10, h11, h12, h13, h14, h15, h16]; done))

end Sys2Proof.Machine
end

