-- ==== Sys2Proof/Laws/FrameNetCmd.lean ====
section
/-! SUPPORT. What each operation of Machine/NetCmd.lean can change: it keeps every part of the state that it is not named to change. -/

set_option linter.unusedSimpArgs false

namespace Sys2Proof.Machine

theorem execUnsupportedFrame_mask (k : Part → Bool) (s : State) (h0 : k .net = false) :
    (stateOf s (execUnsupportedFrame s)).mask k = s.mask k := by
  unfold execUnsupportedFrame
  first
    | (simp (maxDischargeDepth := 9) only [↓State.dropFrame_mask, ↓stateOf_next, ↓stateOf_ite, ↓State.mask_ite, ite_self, implies_true, h0]; done)
    | ((try dsimp only); (repeat' split) <;> first | (simp (maxDischargeDepth := 9) only [↓State.dropFrame_mask, ↓stateOf_next, ↓stateOf_ite, ↓State.mask_ite, ite_self, implies_true, h0]; done) | (simp_all (maxDischargeDepth := 9) only [↓State.dropFrame_mask, ↓stateOf_next, ↓stateOf_ite, ↓State.mask_ite, ite_self, implies_true, h0]; done))

theorem State.datasetIn_mask (k : Part → Bool) (s : State) (b : List Byte) (h0 : k .net = false) :
    (State.datasetIn s b).mask k = s.mask k := by
  unfold State.datasetIn
  first
    | (simp (maxDischargeDepth := 9) only [↓State.dropFrame_mask, ↓State.modNet_mask, ↓State.mask_ite, ite_self, implies_true, h0]; done)
    | ((try dsimp only); (repeat' split) <;> first | (simp (maxDischargeDepth := 9) only [↓State.dropFrame_mask, ↓State.modNet_mask, ↓State.mask_ite, ite_self, implies_true, h0]; done) | (simp_all (maxDischargeDepth := 9) only [↓State.dropFrame_mask, ↓State.modNet_mask, ↓State.mask_ite, ite_self, implies_true, h0]; done))

theorem State.heartbeatIn_mask (k : Part → Bool) (s : State) (mac : BitVec 48) (h0 : k .tally = false) (h1 : k .net = false) :
    (State.heartbeatIn s mac).mask k = s.mask k := by
  unfold State.heartbeatIn
  first
    | (simp (maxDischargeDepth := 9) only [↓State.modNet_mask, ↓State.twinSet_mask, ↓State.mask_ite, ite_self, implies_true, h0, h1]; done)
    | ((try dsimp only); (repeat' split) <;> first | (simp (maxDischargeDepth := 9) only [↓State.modNet_mask, ↓State.twinSet_mask, ↓State.mask_ite, ite_self, implies_true, h0, h1]; done) | (simp_all (maxDischargeDepth := 9) only [↓State.modNet_mask, ↓State.twinSet_mask, ↓State.mask_ite, ite_self, implies_true, h0, h1]; done))

theorem State.twinFrame_mask (k : Part → Bool) (s : State) (b : List Byte) (h0 : k .eng = false) (h1 : k .tally = false) (h2 : k .net = false) :
    (State.twinFrame s b).mask k = s.mask k := by
  unfold State.twinFrame
  first
    | (simp (maxDischargeDepth := 9) only [↓State.dropFrame_mask, ↓State.messageIn_mask, ↓State.heartbeatIn_mask, ↓State.mask_ite, ite_self, implies_true, h0, h1, h2]; done)
    | ((try dsimp only); (repeat' split) <;> first | (simp (maxDischargeDepth := 9) only [↓State.dropFrame_mask, ↓State.messageIn_mask, ↓State.heartbeatIn_mask, ↓State.mask_ite, ite_self, implies_true, h0, h1, h2]; done) | (simp_all (maxDischargeDepth := 9) only [↓State.dropFrame_mask, ↓State.messageIn_mask, ↓State.heartbeatIn_mask, ↓State.mask_ite, ite_self, implies_true, h0, h1, h2]; done))

theorem State.datagramIn_mask (k : Part → Bool) (s : State) (dst : BitVec 16) (src : Word) (port : BitVec 16) (b : List Byte) (h0 : k .eng = false) (h1 : k .jnl = false) (h2 : k .net = false) (h3 : k .sent = false) (h4 : k .freeSeq = false) :
    (State.datagramIn s dst src port b).mask k = s.mask k := by
  unfold State.datagramIn
  first
    | (simp (maxDischargeDepth := 9) only [↓State.telegramIn_mask, ↓State.messageIn_mask, ↓State.datasetIn_mask, ↓State.mask_ite, ite_self, implies_true, h0, h1, h2, h3, h4]; done)
    | ((try dsimp only); (repeat' split) <;> first | (simp (maxDischargeDepth := 9) only [↓State.telegramIn_mask, ↓State.messageIn_mask, ↓State.datasetIn_mask, ↓State.mask_ite, ite_self, implies_true, h0, h1, h2, h3, h4]; done) | (simp_all (maxDischargeDepth := 9) only [↓State.telegramIn_mask, ↓State.messageIn_mask, ↓State.datasetIn_mask, ↓State.mask_ite, ite_self, implies_true, h0, h1, h2, h3, h4]; done))

theorem State.frameIn_mask (kp : Part → Bool) (s : State) (k : Fin 6) (f : PrpKind) (h0 : kp .tim = false) (h1 : kp .eng = false) (h2 : kp .tally = false) (h3 : kp .jnl = false) (h4 : kp .net = false) (h5 : kp .sent = false) (h6 : kp .freeSeq = false) :
    (State.frameIn s k f).mask kp = s.mask kp := by
  unfold State.frameIn
  first
    | (simp (maxDischargeDepth := 9) only [↓State.dropFrame_mask, ↓State.telegramIn_mask, ↓State.announced_mask, ↓State.twinFrame_mask, ↓State.datagramIn_mask, ↓State.mask_ite, ite_self, implies_true, h0, h1, h2, h3, h4, h5, h6]; done)
    | ((try dsimp only); (repeat' split) <;> first | (simp (maxDischargeDepth := 9) only [↓State.dropFrame_mask, ↓State.telegramIn_mask, ↓State.announced_mask, ↓State.twinFrame_mask, ↓State.datagramIn_mask, ↓State.mask_ite, ite_self, implies_true, h0, h1, h2, h3, h4, h5, h6]; done) | (simp_all (maxDischargeDepth := 9) only [↓State.dropFrame_mask, ↓State.telegramIn_mask, ↓State.announced_mask, ↓State.twinFrame_mask, ↓State.datagramIn_mask, ↓State.mask_ite, ite_self, implies_true, h0, h1, h2, h3, h4, h5, h6]; done))

theorem execPrpFrameReceive_mask (kp : Part → Bool) (k : Fin 6) (mac : BitVec 48) (seq : Option (BitVec 16)) (wlan : Bool) (f : PrpKind) (s : State) (h0 : kp .tim = false) (h1 : kp .eng = false) (h2 : kp .tally = false) (h3 : kp .jnl = false) (h4 : kp .net = false) (h5 : kp .sent = false) (h6 : kp .freeSeq = false) :
    (stateOf s (execPrpFrameReceive k mac seq wlan f s)).mask kp = s.mask kp := by
  unfold execPrpFrameReceive
  first
    | (simp (maxDischargeDepth := 9) only [↓State.modNet_mask, ↓State.modNetReg_mask, ↓State.pathSet_mask, ↓State.keepFrame_mask, ↓State.frameIn_mask, ↓stateOf_next, ↓stateOf_ite, ↓State.mask_ite, ite_self, implies_true, h0, h1, h2, h3, h4, h5, h6]; done)
    | ((try dsimp only); (repeat' split) <;> first | (simp (maxDischargeDepth := 9) only [↓State.modNet_mask, ↓State.modNetReg_mask, ↓State.pathSet_mask, ↓State.keepFrame_mask, ↓State.frameIn_mask, ↓stateOf_next, ↓stateOf_ite, ↓State.mask_ite, ite_self, implies_true, h0, h1, h2, h3, h4, h5, h6]; done) | (simp_all (maxDischargeDepth := 9) only [↓State.modNet_mask, ↓State.modNetReg_mask, ↓State.pathSet_mask, ↓State.keepFrame_mask, ↓State.frameIn_mask, ↓stateOf_next, ↓stateOf_ite, ↓State.mask_ite, ite_self, implies_true, h0, h1, h2, h3, h4, h5, h6]; done))

theorem execSupervisionSend_mask (k : Part → Bool) (s : State) (h0 : k .mono = false) (h1 : k .net = false) (h2 : k .sent = false) :
    (stateOf s (execSupervisionSend s)).mask k = s.mask k := by
  unfold execSupervisionSend
  first
    | (simp (maxDischargeDepth := 9) only [↓State.upTo_mask, ↓State.send_mask, ↓State.modNet_mask, ↓stateOf_next, ↓stateOf_ite, ↓State.mask_ite, ite_self, implies_true, ↓State.mask_forAll, h0, h1, h2]; done)
    | ((try dsimp only); (repeat' split) <;> first | (simp (maxDischargeDepth := 9) only [↓State.upTo_mask, ↓State.send_mask, ↓State.modNet_mask, ↓stateOf_next, ↓stateOf_ite, ↓State.mask_ite, ite_self, implies_true, ↓State.mask_forAll, h0, h1, h2]; done) | (simp_all (maxDischargeDepth := 9) only [↓State.upTo_mask, ↓State.send_mask, ↓State.modNet_mask, ↓stateOf_next, ↓stateOf_ite, ↓State.mask_ite, ite_self, implies_true, ↓State.mask_forAll, h0, h1, h2]; done))
    | ((try dsimp only); refine State.mask_forAll _ _ _ _ fun _ _ => ?_; (repeat' split) <;> simp (maxDischargeDepth := 9) only [↓State.upTo_mask, ↓State.send_mask, ↓State.modNet_mask, ↓stateOf_next, ↓stateOf_ite, ↓State.mask_ite, ite_self, implies_true, ↓State.mask_forAll, h0, h1, h2]; done)
    | ((try dsimp only); refine (State.mask_forAll _ _ _ _ fun _ _ => ?_).trans ?_ <;> (repeat' split) <;> simp (maxDischargeDepth := 9) only [↓State.upTo_mask, ↓State.send_mask, ↓State.modNet_mask, ↓stateOf_next, ↓stateOf_ite, ↓State.mask_ite, ite_self, implies_true, ↓State.mask_forAll, h0, h1, h2]; done)

theorem execPathCheck_mask (k : Part → Bool) (s : State) (h0 : k .mono = false) (h1 : k .tally = false) (h2 : k .net = false) :
    (stateOf s (execPathCheck s)).mask k = s.mask k := by
  unfold execPathCheck
  first
    | (simp (maxDischargeDepth := 9) only [↓State.upTo_mask, ↓State.modNet_mask, ↓State.pathSet_mask, ↓stateOf_next, ↓stateOf_ite, ↓State.mask_ite, ite_self, implies_true, ↓State.mask_forAll, h0, h1, h2]; done)
    | ((try dsimp only); (repeat' split) <;> first | (simp (maxDischargeDepth := 9) only [↓State.upTo_mask, ↓State.modNet_mask, ↓State.pathSet_mask, ↓stateOf_next, ↓stateOf_ite, ↓State.mask_ite, ite_self, implies_true, ↓State.mask_forAll, h0, h1, h2]; done) | (simp_all (maxDischargeDepth := 9) only [↓State.upTo_mask, ↓State.modNet_mask, ↓State.pathSet_mask, ↓stateOf_next, ↓stateOf_ite, ↓State.mask_ite, ite_self, implies_true, ↓State.mask_forAll, h0, h1, h2]; done))
    | ((try dsimp only); refine State.mask_forAll _ _ _ _ fun _ _ => ?_; (repeat' split) <;> simp (maxDischargeDepth := 9) only [↓State.upTo_mask, ↓State.modNet_mask, ↓State.pathSet_mask, ↓stateOf_next, ↓stateOf_ite, ↓State.mask_ite, ite_self, implies_true, ↓State.mask_forAll, h0, h1, h2]; done)
    | ((try dsimp only); refine (State.mask_forAll _ _ _ _ fun _ _ => ?_).trans ?_ <;> (repeat' split) <;> simp (maxDischargeDepth := 9) only [↓State.upTo_mask, ↓State.modNet_mask, ↓State.pathSet_mask, ↓stateOf_next, ↓stateOf_ite, ↓State.mask_ite, ite_self, implies_true, ↓State.mask_forAll, h0, h1, h2]; done)

theorem execLinkStateChange_mask (k : Part → Bool) (l : EthLink) (up : Bool) (s : State) (h0 : k .kerf = false) (h1 : k .net = false) :
    (stateOf s (execLinkStateChange l up s)).mask k = s.mask k := by
  unfold execLinkStateChange
  first
    | (simp (maxDischargeDepth := 9) only [↓State.modKerf_mask, ↓State.modNet_mask, ↓State.modNetReg_mask, ↓stateOf_next, ↓stateOf_ite, ↓State.mask_ite, ite_self, implies_true, h0, h1]; done)
    | ((try dsimp only); (repeat' split) <;> first | (simp (maxDischargeDepth := 9) only [↓State.modKerf_mask, ↓State.modNet_mask, ↓State.modNetReg_mask, ↓stateOf_next, ↓stateOf_ite, ↓State.mask_ite, ite_self, implies_true, h0, h1]; done) | (simp_all (maxDischargeDepth := 9) only [↓State.modKerf_mask, ↓State.modNet_mask, ↓State.modNetReg_mask, ↓stateOf_next, ↓stateOf_ite, ↓State.mask_ite, ite_self, implies_true, h0, h1]; done))

theorem execPdOutputSend_mask (k : Part → Bool) (n : Fin 8) (s : State) (h0 : k .mono = false) (h1 : k .net = false) (h2 : k .sent = false) :
    (stateOf s (execPdOutputSend n s)).mask k = s.mask k := by
  unfold execPdOutputSend
  first
    | (simp (maxDischargeDepth := 9) only [↓State.upTo_mask, ↓State.send_mask, ↓State.modNet_mask, ↓stateOf_next, ↓stateOf_ite, ↓State.mask_ite, ite_self, implies_true, h0, h1, h2]; done)
    | ((try dsimp only); (repeat' split) <;> first | (simp (maxDischargeDepth := 9) only [↓State.upTo_mask, ↓State.send_mask, ↓State.modNet_mask, ↓stateOf_next, ↓stateOf_ite, ↓State.mask_ite, ite_self, implies_true, h0, h1, h2]; done) | (simp_all (maxDischargeDepth := 9) only [↓State.upTo_mask, ↓State.send_mask, ↓State.modNet_mask, ↓stateOf_next, ↓stateOf_ite, ↓State.mask_ite, ite_self, implies_true, h0, h1, h2]; done))

theorem execPdInputReceive_mask (k : Part → Bool) (b : List Byte) (s : State) (h0 : k .net = false) :
    (stateOf s (execPdInputReceive b s)).mask k = s.mask k := by
  unfold execPdInputReceive
  first
    | (simp (maxDischargeDepth := 9) only [↓State.datasetIn_mask, ↓stateOf_next, ↓stateOf_ite, ↓State.mask_ite, ite_self, implies_true, h0]; done)
    | ((try dsimp only); (repeat' split) <;> first | (simp (maxDischargeDepth := 9) only [↓State.datasetIn_mask, ↓stateOf_next, ↓stateOf_ite, ↓State.mask_ite, ite_self, implies_true, h0]; done) | (simp_all (maxDischargeDepth := 9) only [↓State.datasetIn_mask, ↓stateOf_next, ↓stateOf_ite, ↓State.mask_ite, ite_self, implies_true, h0]; done))

theorem execPdHoldExpiry_mask (k : Part → Bool) (n : Fin 8) (s : State) (h0 : k .mono = false) (h1 : k .tally = false) (h2 : k .net = false) :
    (stateOf s (execPdHoldExpiry n s)).mask k = s.mask k := by
  unfold execPdHoldExpiry
  first
    | (simp (maxDischargeDepth := 9) only [↓State.upTo_mask, ↓State.event_mask, ↓State.modNet_mask, ↓stateOf_next, ↓stateOf_ite, ↓State.mask_ite, ite_self, implies_true, h0, h1, h2]; done)
    | ((try dsimp only); (repeat' split) <;> first | (simp (maxDischargeDepth := 9) only [↓State.upTo_mask, ↓State.event_mask, ↓State.modNet_mask, ↓stateOf_next, ↓stateOf_ite, ↓State.mask_ite, ite_self, implies_true, h0, h1, h2]; done) | (simp_all (maxDischargeDepth := 9) only [↓State.upTo_mask, ↓State.event_mask, ↓State.modNet_mask, ↓stateOf_next, ↓stateOf_ite, ↓State.mask_ite, ite_self, implies_true, h0, h1, h2]; done))

theorem execPtpSyncReceive_mask (kp : Part → Bool) (k : Fin 2) (m : SyncMsg) (s : State) (h0 : kp .tim = false) (h1 : kp .cal = false) (h2 : kp .tally = false) (h3 : kp .net = false) (h4 : kp .freeSeq = false) :
    (stateOf s (execPtpSyncReceive k m s)).mask kp = s.mask kp := by
  unfold execPtpSyncReceive
  first
    | (simp (maxDischargeDepth := 9) only [↓State.modNet_mask, ↓State.modNetReg_mask, ↓State.modSrc_mask, ↓State.correctCal_mask, ↓State.tune_mask, ↓stateOf_next, ↓stateOf_ite, ↓State.mask_ite, ite_self, implies_true, h0, h1, h2, h3, h4]; done)
    | ((try dsimp only); (repeat' split) <;> first | (simp (maxDischargeDepth := 9) only [↓State.modNet_mask, ↓State.modNetReg_mask, ↓State.modSrc_mask, ↓State.correctCal_mask, ↓State.tune_mask, ↓stateOf_next, ↓stateOf_ite, ↓State.mask_ite, ite_self, implies_true, h0, h1, h2, h3, h4]; done) | (simp_all (maxDischargeDepth := 9) only [↓State.modNet_mask, ↓State.modNetReg_mask, ↓State.modSrc_mask, ↓State.correctCal_mask, ↓State.tune_mask, ↓stateOf_next, ↓stateOf_ite, ↓State.mask_ite, ite_self, implies_true, h0, h1, h2, h3, h4]; done))

theorem State.ppsHoldover_mask (k : Part → Bool) (s : State) (h0 : k .tim = false) (h1 : k .net = false) :
    (State.ppsHoldover s).mask k = s.mask k := by
  unfold State.ppsHoldover
  first
    | (simp (maxDischargeDepth := 9) only [↓State.holdover_mask, ↓State.mask_ite, ite_self, implies_true, h0, h1]; done)
    | ((try dsimp only); (repeat' split) <;> first | (simp (maxDischargeDepth := 9) only [↓State.holdover_mask, ↓State.mask_ite, ite_self, implies_true, h0, h1]; done) | (simp_all (maxDischargeDepth := 9) only [↓State.holdover_mask, ↓State.mask_ite, ite_self, implies_true, h0, h1]; done))

theorem execPtpLoss_mask (k : Part → Bool) (s : State) (h0 : k .mono = false) (h1 : k .tim = false) (h2 : k .net = false) :
    (stateOf s (execPtpLoss s)).mask k = s.mask k := by
  unfold execPtpLoss
  first
    | (simp (maxDischargeDepth := 9) only [↓State.upTo_mask, ↓State.modNet_mask, ↓State.modSrc_mask, ↓State.holdover_mask, ↓State.ppsHoldover_mask, ↓stateOf_next, ↓stateOf_ite, ↓State.mask_ite, ite_self, implies_true, h0, h1, h2]; done)
    | ((try dsimp only); (repeat' split) <;> first | (simp (maxDischargeDepth := 9) only [↓State.upTo_mask, ↓State.modNet_mask, ↓State.modSrc_mask, ↓State.holdover_mask, ↓State.ppsHoldover_mask, ↓stateOf_next, ↓stateOf_ite, ↓State.mask_ite, ite_self, implies_true, h0, h1, h2]; done) | (simp_all (maxDischargeDepth := 9) only [↓State.upTo_mask, ↓State.modNet_mask, ↓State.modSrc_mask, ↓State.holdover_mask, ↓State.ppsHoldover_mask, ↓stateOf_next, ↓stateOf_ite, ↓State.mask_ite, ite_self, implies_true, h0, h1, h2]; done))

theorem execHoldoverExpiry_mask (k : Part → Bool) (s : State) (h0 : k .mono = false) (h1 : k .tim = false) (h2 : k .cal = false) (h3 : k .net = false) :
    (stateOf s (execHoldoverExpiry s)).mask k = s.mask k := by
  unfold execHoldoverExpiry
  first
    | (simp (maxDischargeDepth := 9) only [↓State.upTo_mask, ↓State.modSrc_mask, ↓State.runFree_mask, ↓State.holdover_mask, ↓stateOf_next, ↓stateOf_ite, ↓State.mask_ite, ite_self, implies_true, h0, h1, h2, h3]; done)
    | ((try dsimp only); (repeat' split) <;> first | (simp (maxDischargeDepth := 9) only [↓State.upTo_mask, ↓State.modSrc_mask, ↓State.runFree_mask, ↓State.holdover_mask, ↓stateOf_next, ↓stateOf_ite, ↓State.mask_ite, ite_self, implies_true, h0, h1, h2, h3]; done) | (simp_all (maxDischargeDepth := 9) only [↓State.upTo_mask, ↓State.modSrc_mask, ↓State.runFree_mask, ↓State.holdover_mask, ↓stateOf_next, ↓stateOf_ite, ↓State.mask_ite, ite_self, implies_true, h0, h1, h2, h3]; done))

theorem State.ppsBad_mask (k : Part → Bool) (s : State) (h0 : k .tim = false) (h1 : k .net = false) :
    (State.ppsBad s).mask k = s.mask k := by
  unfold State.ppsBad
  first
    | (simp (maxDischargeDepth := 9) only [↓State.modNet_mask, ↓State.modSrc_mask, ↓State.ppsHoldover_mask, ↓State.mask_ite, ite_self, implies_true, h0, h1]; done)
    | ((try dsimp only); (repeat' split) <;> first | (simp (maxDischargeDepth := 9) only [↓State.modNet_mask, ↓State.modSrc_mask, ↓State.ppsHoldover_mask, ↓State.mask_ite, ite_self, implies_true, h0, h1]; done) | (simp_all (maxDischargeDepth := 9) only [↓State.modNet_mask, ↓State.modSrc_mask, ↓State.ppsHoldover_mask, ↓State.mask_ite, ite_self, implies_true, h0, h1]; done))

theorem execSyncPulse_mask (k : Part → Bool) (s : State) (h0 : k .tim = false) (h1 : k .cal = false) (h2 : k .tally = false) (h3 : k .net = false) (h4 : k .freeSeq = false) :
    (stateOf s (execSyncPulse s)).mask k = s.mask k := by
  unfold execSyncPulse
  first
    | (simp (maxDischargeDepth := 9) only [↓State.modNet_mask, ↓State.modSrc_mask, ↓State.correctCal_mask, ↓State.tune_mask, ↓State.ppsBad_mask, ↓stateOf_next, ↓stateOf_ite, ↓State.mask_ite, ite_self, implies_true, h0, h1, h2, h3, h4]; done)
    | ((try dsimp only); (repeat' split) <;> first | (simp (maxDischargeDepth := 9) only [↓State.modNet_mask, ↓State.modSrc_mask, ↓State.correctCal_mask, ↓State.tune_mask, ↓State.ppsBad_mask, ↓stateOf_next, ↓stateOf_ite, ↓State.mask_ite, ite_self, implies_true, h0, h1, h2, h3, h4]; done) | (simp_all (maxDischargeDepth := 9) only [↓State.modNet_mask, ↓State.modSrc_mask, ↓State.correctCal_mask, ↓State.tune_mask, ↓State.ppsBad_mask, ↓stateOf_next, ↓stateOf_ite, ↓State.mask_ite, ite_self, implies_true, h0, h1, h2, h3, h4]; done))

theorem execSyncPulseMissing_mask (k : Part → Bool) (s : State) (h0 : k .mono = false) (h1 : k .tim = false) (h2 : k .net = false) :
    (stateOf s (execSyncPulseMissing s)).mask k = s.mask k := by
  unfold execSyncPulseMissing
  first
    | (simp (maxDischargeDepth := 9) only [↓State.upTo_mask, ↓State.modNet_mask, ↓State.ppsBad_mask, ↓stateOf_next, ↓stateOf_ite, ↓State.mask_ite, ite_self, implies_true, h0, h1, h2]; done)
    | ((try dsimp only); (repeat' split) <;> first | (simp (maxDischargeDepth := 9) only [↓State.upTo_mask, ↓State.modNet_mask, ↓State.ppsBad_mask, ↓stateOf_next, ↓stateOf_ite, ↓State.mask_ite, ite_self, implies_true, h0, h1, h2]; done) | (simp_all (maxDischargeDepth := 9) only [↓State.upTo_mask, ↓State.modNet_mask, ↓State.ppsBad_mask, ↓stateOf_next, ↓stateOf_ite, ↓State.mask_ite, ite_self, implies_true, h0, h1, h2]; done))

theorem execTwinHeartbeatSend_mask (k : Part → Bool) (s : State) (h0 : k .mono = false) (h1 : k .net = false) (h2 : k .sent = false) :
    (stateOf s (execTwinHeartbeatSend s)).mask k = s.mask k := by
  unfold execTwinHeartbeatSend
  first
    | (simp (maxDischargeDepth := 9) only [↓State.upTo_mask, ↓State.send_mask, ↓State.modNet_mask, ↓stateOf_next, ↓stateOf_ite, ↓State.mask_ite, ite_self, implies_true, h0, h1, h2]; done)
    | ((try dsimp only); (repeat' split) <;> first | (simp (maxDischargeDepth := 9) only [↓State.upTo_mask, ↓State.send_mask, ↓State.modNet_mask, ↓stateOf_next, ↓stateOf_ite, ↓State.mask_ite, ite_self, implies_true, h0, h1, h2]; done) | (simp_all (maxDischargeDepth := 9) only [↓State.upTo_mask, ↓State.send_mask, ↓State.modNet_mask, ↓stateOf_next, ↓stateOf_ite, ↓State.mask_ite, ite_self, implies_true, h0, h1, h2]; done))

theorem execTwinHeartbeatReceive_mask (k : Part → Bool) (mac : BitVec 48) (s : State) (h0 : k .tally = false) (h1 : k .net = false) :
    (stateOf s (execTwinHeartbeatReceive mac s)).mask k = s.mask k := by
  unfold execTwinHeartbeatReceive
  first
    | (simp (maxDischargeDepth := 9) only [↓State.heartbeatIn_mask, ↓stateOf_next, ↓stateOf_ite, ↓State.mask_ite, ite_self, implies_true, h0, h1]; done)
    | ((try dsimp only); (repeat' split) <;> first | (simp (maxDischargeDepth := 9) only [↓State.heartbeatIn_mask, ↓stateOf_next, ↓stateOf_ite, ↓State.mask_ite, ite_self, implies_true, h0, h1]; done) | (simp_all (maxDischargeDepth := 9) only [↓State.heartbeatIn_mask, ↓stateOf_next, ↓stateOf_ite, ↓State.mask_ite, ite_self, implies_true, h0, h1]; done))

theorem execTwinTimeout_mask (k : Part → Bool) (s : State) (h0 : k .mono = false) (h1 : k .tally = false) (h2 : k .net = false) :
    (stateOf s (execTwinTimeout s)).mask k = s.mask k := by
  unfold execTwinTimeout
  first
    | (simp (maxDischargeDepth := 9) only [↓State.upTo_mask, ↓State.modNet_mask, ↓State.twinSet_mask, ↓stateOf_next, ↓stateOf_ite, ↓State.mask_ite, ite_self, implies_true, h0, h1, h2]; done)
    | ((try dsimp only); (repeat' split) <;> first | (simp (maxDischargeDepth := 9) only [↓State.upTo_mask, ↓State.modNet_mask, ↓State.twinSet_mask, ↓stateOf_next, ↓stateOf_ite, ↓State.mask_ite, ite_self, implies_true, h0, h1, h2]; done) | (simp_all (maxDischargeDepth := 9) only [↓State.upTo_mask, ↓State.modNet_mask, ↓State.twinSet_mask, ↓stateOf_next, ↓stateOf_ite, ↓State.mask_ite, ite_self, implies_true, h0, h1, h2]; done))

theorem execMailboxArrival_mask (k : Part → Bool) (l : MbLink) (word0 : Word) (dst src : BitVec 16) (b : List Byte) (s : State) (h0 : k .eng = false) (h1 : k .net = false) :
    (stateOf s (execMailboxArrival l word0 dst src b s)).mask k = s.mask k := by
  unfold execMailboxArrival
  first
    | (simp (maxDischargeDepth := 9) only [↓State.messageIn_mask, ↓stateOf_next, ↓stateOf_ite, ↓State.mask_ite, ite_self, implies_true, h0, h1]; done)
    | ((try dsimp only); (repeat' split) <;> first | (simp (maxDischargeDepth := 9) only [↓State.messageIn_mask, ↓stateOf_next, ↓stateOf_ite, ↓State.mask_ite, ite_self, implies_true, h0, h1]; done) | (simp_all (maxDischargeDepth := 9) only [↓State.messageIn_mask, ↓stateOf_next, ↓stateOf_ite, ↓State.mask_ite, ite_self, implies_true, h0, h1]; done))

theorem execSerialMessageEnd_mask (k : Part → Bool) (i : Fin 4) (b : List Byte) (s : State) (h0 : k .eng = false) (h1 : k .net = false) :
    (stateOf s (execSerialMessageEnd i b s)).mask k = s.mask k := by
  unfold execSerialMessageEnd
  first
    | (simp (maxDischargeDepth := 9) only [↓State.mbArrive_mask, ↓stateOf_next, ↓stateOf_ite, ↓State.mask_ite, ite_self, implies_true, h0, h1]; done)
    | ((try dsimp only); (repeat' split) <;> first | (simp (maxDischargeDepth := 9) only [↓State.mbArrive_mask, ↓stateOf_next, ↓stateOf_ite, ↓State.mask_ite, ite_self, implies_true, h0, h1]; done) | (simp_all (maxDischargeDepth := 9) only [↓State.mbArrive_mask, ↓stateOf_next, ↓stateOf_ite, ↓State.mask_ite, ite_self, implies_true, h0, h1]; done))

theorem execCanSendTimeout_mask (k : Part → Bool) (m : Fin 64) (s : State) (h0 : k .mono = false) (h1 : k .net = false) :
    (stateOf s (execCanSendTimeout m s)).mask k = s.mask k := by
  unfold execCanSendTimeout
  first
    | (simp (maxDischargeDepth := 9) only [↓State.upTo_mask, ↓State.modMbox_mask, ↓stateOf_next, ↓stateOf_ite, ↓State.mask_ite, ite_self, implies_true, h0, h1]; done)
    | ((try dsimp only); (repeat' split) <;> first | (simp (maxDischargeDepth := 9) only [↓State.upTo_mask, ↓State.modMbox_mask, ↓stateOf_next, ↓stateOf_ite, ↓State.mask_ite, ite_self, implies_true, h0, h1]; done) | (simp_all (maxDischargeDepth := 9) only [↓State.upTo_mask, ↓State.modMbox_mask, ↓stateOf_next, ↓stateOf_ite, ↓State.mask_ite, ite_self, implies_true, h0, h1]; done))

theorem execCanBusOff_mask (k : Part → Bool) (i : Fin 4) (s : State) (h0 : k .net = false) :
    (stateOf s (execCanBusOff i s)).mask k = s.mask k := by
  unfold execCanBusOff
  first
    | (simp (maxDischargeDepth := 9) only [↓State.modNet_mask, ↓stateOf_next, ↓stateOf_ite, ↓State.mask_ite, ite_self, implies_true, h0]; done)
    | ((try dsimp only); (repeat' split) <;> first | (simp (maxDischargeDepth := 9) only [↓State.modNet_mask, ↓stateOf_next, ↓stateOf_ite, ↓State.mask_ite, ite_self, implies_true, h0]; done) | (simp_all (maxDischargeDepth := 9) only [↓State.modNet_mask, ↓stateOf_next, ↓stateOf_ite, ↓State.mask_ite, ite_self, implies_true, h0]; done))

theorem execCanBusOffRecovery_mask (k : Part → Bool) (i : Fin 4) (s : State) (h0 : k .net = false) :
    (stateOf s (execCanBusOffRecovery i s)).mask k = s.mask k := by
  unfold execCanBusOffRecovery
  first
    | (simp (maxDischargeDepth := 9) only [↓State.modNet_mask, ↓stateOf_next, ↓stateOf_ite, ↓State.mask_ite, ite_self, implies_true, h0]; done)
    | ((try dsimp only); (repeat' split) <;> first | (simp (maxDischargeDepth := 9) only [↓State.modNet_mask, ↓stateOf_next, ↓stateOf_ite, ↓State.mask_ite, ite_self, implies_true, h0]; done) | (simp_all (maxDischargeDepth := 9) only [↓State.modNet_mask, ↓stateOf_next, ↓stateOf_ite, ↓State.mask_ite, ite_self, implies_true, h0]; done))

end Sys2Proof.Machine
end

