-- ==== Sys2Proof/Laws/FrameSessionCmd.lean ====
section
/-! SUPPORT. What each operation of Machine/SessionCmd.lean can change: it keeps every part of the state that it is not named to change. -/

set_option linter.unusedSimpArgs false

namespace Sys2Proof.Machine

theorem State.attestDone_mask (k : Part → Bool) (s : State) (h0 : k .tru = false) (h1 : k .sent = false) :
    (State.attestDone s).mask k = s.mask k := by
  unfold State.attestDone
  first
    | (simp (maxDischargeDepth := 9) only [↓State.modTru_mask, ↓State.respond_mask, ↓State.mask_ite, ite_self, implies_true, h0, h1]; done)
    | ((try dsimp only); (repeat' split) <;> first | (simp (maxDischargeDepth := 9) only [↓State.modTru_mask, ↓State.respond_mask, ↓State.mask_ite, ite_self, implies_true, h0, h1]; done) | (simp_all (maxDischargeDepth := 9) only [↓State.modTru_mask, ↓State.respond_mask, ↓State.mask_ite, ite_self, implies_true, h0, h1]; done))

theorem State.answerFirst_mask (k : Part → Bool) (s : State) (i : SesIx) (h0 : k .fab = false) (h1 : k .tally = false) (h2 : k .jnl = false) (h3 : k .lnd = false) (h4 : k .tru = false) (h5 : k .sent = false) (h6 : k .freeSeq = false) :
    (State.answerFirst s i).mask k = s.mask k := by
  unfold State.answerFirst
  first
    | (simp (maxDischargeDepth := 9) only [↓State.writeDone_mask, ↓State.verified_mask, ↓State.attestDone_mask, ↓State.mask_ite, ite_self, implies_true, ↓State.mask_forAll, h0, h1, h2, h3, h4, h5, h6]; done)
    | ((try dsimp only); (repeat' split) <;> first | (simp (maxDischargeDepth := 9) only [↓State.writeDone_mask, ↓State.verified_mask, ↓State.attestDone_mask, ↓State.mask_ite, ite_self, implies_true, ↓State.mask_forAll, h0, h1, h2, h3, h4, h5, h6]; done) | (simp_all (maxDischargeDepth := 9) only [↓State.writeDone_mask, ↓State.verified_mask, ↓State.attestDone_mask, ↓State.mask_ite, ite_self, implies_true, ↓State.mask_forAll, h0, h1, h2, h3, h4, h5, h6]; done))
    | ((try dsimp only); refine State.mask_forAll _ _ _ _ fun _ _ => ?_; (repeat' split) <;> simp (maxDischargeDepth := 9) only [↓State.writeDone_mask, ↓State.verified_mask, ↓State.attestDone_mask, ↓State.mask_ite, ite_self, implies_true, ↓State.mask_forAll, h0, h1, h2, h3, h4, h5, h6]; done)
    | ((try dsimp only); refine (State.mask_forAll _ _ _ _ fun _ _ => ?_).trans ?_ <;> (repeat' split) <;> simp (maxDischargeDepth := 9) only [↓State.writeDone_mask, ↓State.verified_mask, ↓State.attestDone_mask, ↓State.mask_ite, ite_self, implies_true, ↓State.mask_forAll, h0, h1, h2, h3, h4, h5, h6]; done)

theorem State.serve_mask (kp : Part → Bool) (s : State) (i : SesIx) (op : Nat) (tag : Word) (need : Option Right) (onTn inRecovery : Bool)
    (f : State → State × Answer) (h0 : kp .fab = false) (h1 : kp .tally = false) (h2 : kp .jnl = false) (h3 : kp .lnd = false) (h4 : kp .tru = false) (h5 : kp .sent = false) (h6 : kp .freeSeq = false) (hf : ∀ s, (f s).1.mask kp = s.mask kp) :
    (State.serve s i op tag need onTn inRecovery f).mask kp = s.mask kp := by
  unfold State.serve
  dsimp only
  split
  · rfl
  · repeat' split
    all_goals simp only [↓State.respond_mask, ↓hf, ↓State.modTru_mask, ↓State.answerFirst_mask, h0, h1, h2, h3, h4, h5, h6]

theorem execSessionHandshake_mask (k : Part → Bool) (link : SesLink) (c : ClientCert) (s : State) (h0 : k .jnl = false) (h1 : k .tru = false) (h2 : k .sent = false) :
    (stateOf s (execSessionHandshake link c s)).mask k = s.mask k := by
  unfold execSessionHandshake
  first
    | (simp (maxDischargeDepth := 9) only [↓State.send_mask, ↓State.reportSession_mask, ↓State.modTru_mask, ↓stateOf_next, ↓stateOf_ite, ↓State.mask_ite, ite_self, implies_true, h0, h1, h2]; done)
    | ((try dsimp only); (repeat' split) <;> first | (simp (maxDischargeDepth := 9) only [↓State.send_mask, ↓State.reportSession_mask, ↓State.modTru_mask, ↓stateOf_next, ↓stateOf_ite, ↓State.mask_ite, ite_self, implies_true, h0, h1, h2]; done) | (simp_all (maxDischargeDepth := 9) only [↓State.send_mask, ↓State.reportSession_mask, ↓State.modTru_mask, ↓stateOf_next, ↓stateOf_ite, ↓State.mask_ite, ite_self, implies_true, h0, h1, h2]; done))

theorem execSessionLoss_mask (k : Part → Bool) (i : Fin 3) (s : State) (h0 : k .mono = false) (h1 : k .tim = false) (h2 : k .fab = false) (h3 : k .mem = false) (h4 : k .eng = false) (h5 : k .tally = false) (h6 : k .axes = false) (h7 : k .portals = false) (h8 : k .fel = false) (h9 : k .sde = false) (h10 : k .ls = false) (h11 : k .lsg = false) (h12 : k .kerf = false) (h13 : k .fio = false) (h14 : k .safe = false) (h15 : k .jnl = false) (h16 : k .net = false) (h17 : k .lnd = false) (h18 : k .tru = false) (h19 : k .pwr = false) (h20 : k .boot = false) (h21 : k .sent = false) (h22 : k .freeSeq = false) :
    (stateOf s (execSessionLoss i s)).mask k = s.mask k := by
  unfold execSessionLoss
  first
    | (simp (maxDischargeDepth := 9) only [↓State.upTo_mask, ↓State.enterStop_mask, ↓State.endSession_mask, ↓State.drainAll_mask, ↓stateOf_next, ↓stateOf_ite, ↓State.mask_ite, ite_self, implies_true, h0, h1, h2, h3, h4, h5, h6, h7, h8, h9, h10, h11, h12, h13, h14, h15, h16, h17, h18, h19, h20, h21, h22]; done)
    | ((try dsimp only); (repeat' split) <;> first | (simp (maxDischargeDepth := 9) only [↓State.upTo_mask, ↓State.enterStop_mask, ↓State.endSession_mask, ↓State.drainAll_mask, ↓stateOf_next, ↓stateOf_ite, ↓State.mask_ite, ite_self, implies_true, h0, h1, h2, h3, h4, h5, h6, h7, h8, h9, h10, h11, h12, h13, h14, h15, h16, h17, h18, h19, h20, h21, h22]; done) | (simp_all (maxDischargeDepth := 9) only [↓State.upTo_mask, ↓State.enterStop_mask, ↓State.endSession_mask, ↓State.drainAll_mask, ↓stateOf_next, ↓stateOf_ite, ↓State.mask_ite, ite_self, implies_true, h0, h1, h2, h3, h4, h5, h6, h7, h8, h9, h10, h11, h12, h13, h14, h15, h16, h17, h18, h19, h20, h21, h22]; done))

theorem execSessionNop_mask (k : Part → Bool) (i : Fin 3) (tag : Word) (s : State) (h0 : k .fab = false) (h1 : k .tally = false) (h2 : k .jnl = false) (h3 : k .lnd = false) (h4 : k .tru = false) (h5 : k .sent = false) (h6 : k .freeSeq = false) :
    (stateOf s (execSessionNop i tag s)).mask k = s.mask k := by
  unfold execSessionNop
  first
    | (simp (maxDischargeDepth := 9) only [↓State.serve_mask, ↓stateOf_next, ↓stateOf_ite, ↓State.mask_ite, ite_self, implies_true, ↓State.mask_fst_ite, h0, h1, h2, h3, h4, h5, h6]; done)
    | ((try dsimp only); (repeat' split) <;> first | (simp (maxDischargeDepth := 9) only [↓State.serve_mask, ↓stateOf_next, ↓stateOf_ite, ↓State.mask_ite, ite_self, implies_true, ↓State.mask_fst_ite, h0, h1, h2, h3, h4, h5, h6]; done) | (simp_all (maxDischargeDepth := 9) only [↓State.serve_mask, ↓stateOf_next, ↓stateOf_ite, ↓State.mask_ite, ite_self, implies_true, ↓State.mask_fst_ite, h0, h1, h2, h3, h4, h5, h6]; done))
    | (simp only [↓stateOf_next, ↓stateOf_ite]; (try dsimp only); refine State.serve_mask _ _ _ _ _ _ _ _ _ h0 h1 h2 h3 h4 h5 h6 fun _ => ?_; (try dsimp only); (repeat' split) <;> simp (maxDischargeDepth := 9) only [↓State.serve_mask, ↓stateOf_next, ↓stateOf_ite, ↓State.mask_ite, ite_self, implies_true, ↓State.mask_fst_ite, h0, h1, h2, h3, h4, h5, h6]; done)
    | ((try dsimp only); split <;> simp only [↓stateOf_next, ↓stateOf_ite]; (try dsimp only) <;> first | (simp (maxDischargeDepth := 9) only [↓State.serve_mask, ↓stateOf_next, ↓stateOf_ite, ↓State.mask_ite, ite_self, implies_true, ↓State.mask_fst_ite, h0, h1, h2, h3, h4, h5, h6]; done) | (refine State.serve_mask _ _ _ _ _ _ _ _ _ h0 h1 h2 h3 h4 h5 h6 fun _ => ?_; (try dsimp only); (repeat' split) <;> simp (maxDischargeDepth := 9) only [↓State.serve_mask, ↓stateOf_next, ↓stateOf_ite, ↓State.mask_ite, ite_self, implies_true, ↓State.mask_fst_ite, h0, h1, h2, h3, h4, h5, h6]; done))

theorem execSessionMalformedMessage_mask (k : Part → Bool) (i : Fin 3) (opc : BitVec 16) (tag len : Word) (s : State) (h0 : k .fab = false) (h1 : k .eng = false) (h2 : k .tally = false) (h3 : k .jnl = false) (h4 : k .lnd = false) (h5 : k .tru = false) (h6 : k .sent = false) (h7 : k .freeSeq = false) :
    (stateOf s (execSessionMalformedMessage i opc tag len s)).mask k = s.mask k := by
  unfold execSessionMalformedMessage
  first
    | (simp (maxDischargeDepth := 9) only [↓State.endSession_mask, ↓State.serve_mask, ↓stateOf_next, ↓stateOf_ite, ↓State.mask_ite, ite_self, implies_true, ↓State.mask_fst_ite, h0, h1, h2, h3, h4, h5, h6, h7]; done)
    | ((try dsimp only); (repeat' split) <;> first | (simp (maxDischargeDepth := 9) only [↓State.endSession_mask, ↓State.serve_mask, ↓stateOf_next, ↓stateOf_ite, ↓State.mask_ite, ite_self, implies_true, ↓State.mask_fst_ite, h0, h1, h2, h3, h4, h5, h6, h7]; done) | (simp_all (maxDischargeDepth := 9) only [↓State.endSession_mask, ↓State.serve_mask, ↓stateOf_next, ↓stateOf_ite, ↓State.mask_ite, ite_self, implies_true, ↓State.mask_fst_ite, h0, h1, h2, h3, h4, h5, h6, h7]; done))
    | (simp only [↓stateOf_next, ↓stateOf_ite]; (try dsimp only); refine State.serve_mask _ _ _ _ _ _ _ _ _ h0 h2 h3 h4 h5 h6 h7 fun _ => ?_; (try dsimp only); (repeat' split) <;> simp (maxDischargeDepth := 9) only [↓State.endSession_mask, ↓State.serve_mask, ↓stateOf_next, ↓stateOf_ite, ↓State.mask_ite, ite_self, implies_true, ↓State.mask_fst_ite, h0, h1, h2, h3, h4, h5, h6, h7]; done)
    | ((try dsimp only); split <;> simp only [↓stateOf_next, ↓stateOf_ite]; (try dsimp only) <;> first | (simp (maxDischargeDepth := 9) only [↓State.endSession_mask, ↓State.serve_mask, ↓stateOf_next, ↓stateOf_ite, ↓State.mask_ite, ite_self, implies_true, ↓State.mask_fst_ite, h0, h1, h2, h3, h4, h5, h6, h7]; done) | (refine State.serve_mask _ _ _ _ _ _ _ _ _ h0 h2 h3 h4 h5 h6 h7 fun _ => ?_; (try dsimp only); (repeat' split) <;> simp (maxDischargeDepth := 9) only [↓State.endSession_mask, ↓State.serve_mask, ↓stateOf_next, ↓stateOf_ite, ↓State.mask_ite, ite_self, implies_true, ↓State.mask_fst_ite, h0, h1, h2, h3, h4, h5, h6, h7]; done))

theorem State.observe_mask (k : Part → Bool) (s : State) (req a : Nat) (h0 : k .latch = false) (h1 : k .freeSeq = false) :
    (State.observe s req a).mask k = s.mask k := by
  unfold State.observe
  first
    | (simp (maxDischargeDepth := 9) only [↓State.usedN_mask, ↓State.latchPut_mask, ↓State.mask_ite, ite_self, implies_true, h0, h1]; done)
    | ((try dsimp only); (repeat' split) <;> first | (simp (maxDischargeDepth := 9) only [↓State.usedN_mask, ↓State.latchPut_mask, ↓State.mask_ite, ite_self, implies_true, h0, h1]; done) | (simp_all (maxDischargeDepth := 9) only [↓State.usedN_mask, ↓State.latchPut_mask, ↓State.mask_ite, ite_self, implies_true, h0, h1]; done))

theorem State.readWords_mask (k : Part → Bool) (s : State) (req a : Nat) (x0 : Nat) (h0 : k .latch = false) (h1 : k .freeSeq = false) :
    (State.readWords s req a x0).1.mask k = s.mask k := by
  induction x0 generalizing s req a with
  | zero => unfold State.readWords; rfl
  | succ n ih =>
    unfold State.readWords
    (try dsimp only); (repeat' split) <;> first | (simp (maxDischargeDepth := 9) only [↓State.observe_mask, ↓State.mask_ite, ite_self, implies_true, ↓State.mask_fst_ite, h0, h1, ↓ih]; done) | (simp_all (maxDischargeDepth := 9) only [↓State.observe_mask, ↓State.mask_ite, ite_self, implies_true, ↓State.mask_fst_ite, h0, h1, ↓ih]; done)

theorem execRead_mask (k : Part → Bool) (i : Fin 3) (tag addr count : Word) (s : State) (h0 : k .fab = false) (h1 : k .latch = false) (h2 : k .tally = false) (h3 : k .jnl = false) (h4 : k .lnd = false) (h5 : k .tru = false) (h6 : k .sent = false) (h7 : k .freeSeq = false) :
    (stateOf s (execRead i tag addr count s)).mask k = s.mask k := by
  unfold execRead
  first
    | (simp (maxDischargeDepth := 9) only [↓State.serve_mask, ↓State.readWords_mask, ↓stateOf_next, ↓stateOf_ite, ↓State.mask_ite, ite_self, implies_true, ↓State.mask_fst_ite, h0, h1, h2, h3, h4, h5, h6, h7]; done)
    | ((try dsimp only); (repeat' split) <;> first | (simp (maxDischargeDepth := 9) only [↓State.serve_mask, ↓State.readWords_mask, ↓stateOf_next, ↓stateOf_ite, ↓State.mask_ite, ite_self, implies_true, ↓State.mask_fst_ite, h0, h1, h2, h3, h4, h5, h6, h7]; done) | (simp_all (maxDischargeDepth := 9) only [↓State.serve_mask, ↓State.readWords_mask, ↓stateOf_next, ↓stateOf_ite, ↓State.mask_ite, ite_self, implies_true, ↓State.mask_fst_ite, h0, h1, h2, h3, h4, h5, h6, h7]; done))
    | (simp only [↓stateOf_next, ↓stateOf_ite]; (try dsimp only); refine State.serve_mask _ _ _ _ _ _ _ _ _ h0 h2 h3 h4 h5 h6 h7 fun _ => ?_; (try dsimp only); (repeat' split) <;> simp (maxDischargeDepth := 9) only [↓State.serve_mask, ↓State.readWords_mask, ↓stateOf_next, ↓stateOf_ite, ↓State.mask_ite, ite_self, implies_true, ↓State.mask_fst_ite, h0, h1, h2, h3, h4, h5, h6, h7]; done)
    | ((try dsimp only); split <;> simp only [↓stateOf_next, ↓stateOf_ite]; (try dsimp only) <;> first | (simp (maxDischargeDepth := 9) only [↓State.serve_mask, ↓State.readWords_mask, ↓stateOf_next, ↓stateOf_ite, ↓State.mask_ite, ite_self, implies_true, ↓State.mask_fst_ite, h0, h1, h2, h3, h4, h5, h6, h7]; done) | (refine State.serve_mask _ _ _ _ _ _ _ _ _ h0 h2 h3 h4 h5 h6 h7 fun _ => ?_; (try dsimp only); (repeat' split) <;> simp (maxDischargeDepth := 9) only [↓State.serve_mask, ↓State.readWords_mask, ↓stateOf_next, ↓stateOf_ite, ↓State.mask_ite, ite_self, implies_true, ↓State.mask_fst_ite, h0, h1, h2, h3, h4, h5, h6, h7]; done))

theorem State.sessionPoke_mask (k : Part → Bool) (s : State) (a : Nat) (w : Word) (h0 : k .tim = false) (h1 : k .fab = false) (h2 : k .mem = false) (h3 : k .eng = false) (h4 : k .tally = false) (h5 : k .axes = false) (h6 : k .portals = false) (h7 : k .fel = false) (h8 : k .sde = false) (h9 : k .ls = false) (h10 : k .lsg = false) (h11 : k .kerf = false) (h12 : k .fio = false) (h13 : k .safe = false) (h14 : k .jnl = false) (h15 : k .net = false) (h16 : k .lnd = false) (h17 : k .tru = false) (h18 : k .pwr = false) (h19 : k .boot = false) (h20 : k .sent = false) (h21 : k .freeSeq = false) :
    (State.sessionPoke s a w).mask k = s.mask k := by
  unfold State.sessionPoke
  first
    | (simp (maxDischargeDepth := 9) only [↓State.poke_mask, ↓State.mask_ite, ite_self, implies_true, h0, h1, h2, h3, h4, h5, h6, h7, h8, h9, h10, h11, h12, h13, h14, h15, h16, h17, h18, h19, h20, h21]; done)
    | ((try dsimp only); (repeat' split) <;> first | (simp (maxDischargeDepth := 9) only [↓State.poke_mask, ↓State.mask_ite, ite_self, implies_true, h0, h1, h2, h3, h4, h5, h6, h7, h8, h9, h10, h11, h12, h13, h14, h15, h16, h17, h18, h19, h20, h21]; done) | (simp_all (maxDischargeDepth := 9) only [↓State.poke_mask, ↓State.mask_ite, ite_self, implies_true, h0, h1, h2, h3, h4, h5, h6, h7, h8, h9, h10, h11, h12, h13, h14, h15, h16, h17, h18, h19, h20, h21]; done))

theorem State.setTime_mask (k : Part → Bool) (s : State) (ws : List (Nat × Word)) (h0 : k .tim = false) (h1 : k .cal = false) (h2 : k .tally = false) :
    (State.setTime s ws).mask k = s.mask k := by
  unfold State.setTime
  first
    | (simp (maxDischargeDepth := 9) only [↓State.modSrc_mask, ↓State.correctCal_mask, ↓State.mask_with_tim, ↓State.mask_with_calBase, ↓State.mask_with_calAt, ↓State.mask_with_slew, ↓State.mask_with_calPpb, ↓State.mask_with_tally, ↓State.mask_ite, ite_self, implies_true, h0, h1, h2]; done)
    | ((try dsimp only); (repeat' split) <;> first | (simp (maxDischargeDepth := 9) only [↓State.modSrc_mask, ↓State.correctCal_mask, ↓State.mask_with_tim, ↓State.mask_with_calBase, ↓State.mask_with_calAt, ↓State.mask_with_slew, ↓State.mask_with_calPpb, ↓State.mask_with_tally, ↓State.mask_ite, ite_self, implies_true, h0, h1, h2]; done) | (simp_all (maxDischargeDepth := 9) only [↓State.modSrc_mask, ↓State.correctCal_mask, ↓State.mask_with_tim, ↓State.mask_with_calBase, ↓State.mask_with_calAt, ↓State.mask_with_slew, ↓State.mask_with_calPpb, ↓State.mask_with_tally, ↓State.mask_ite, ite_self, implies_true, h0, h1, h2]; done))
    | (simp only [State.mask, Bool.false_eq_true, ↓reduceIte, h0, h1, h2]; done)
    | (simp (maxDischargeDepth := 9) only [↓State.modSrc_mask, ↓State.correctCal_mask, ↓State.mask_with_tim, ↓State.mask_with_calBase, ↓State.mask_with_calAt, ↓State.mask_with_slew, ↓State.mask_with_calPpb, ↓State.mask_with_tally, ↓State.mask_ite, ite_self, implies_true, h0, h1, h2]; simp only [State.mask, Bool.false_eq_true, ↓reduceIte, h0, h1, h2]; done)

theorem execWrite_mask (k : Part → Bool) (i : Fin 3) (tag addr : Word) (ws : List Word) (s : State) (h0 : k .tim = false) (h1 : k .cal = false) (h2 : k .fab = false) (h3 : k .mem = false) (h4 : k .eng = false) (h5 : k .tally = false) (h6 : k .axes = false) (h7 : k .portals = false) (h8 : k .fel = false) (h9 : k .sde = false) (h10 : k .ls = false) (h11 : k .lsg = false) (h12 : k .kerf = false) (h13 : k .fio = false) (h14 : k .safe = false) (h15 : k .jnl = false) (h16 : k .net = false) (h17 : k .lnd = false) (h18 : k .tru = false) (h19 : k .pwr = false) (h20 : k .boot = false) (h21 : k .sent = false) (h22 : k .freeSeq = false) :
    (stateOf s (execWrite i tag addr ws s)).mask k = s.mask k := by
  unfold execWrite
  first
    | (simp (maxDischargeDepth := 9) only [↓State.serve_mask, ↓State.sessionPoke_mask, ↓State.setTime_mask, ↓stateOf_next, ↓stateOf_ite, ↓State.mask_ite, ite_self, implies_true, ↓State.mask_fst_ite, ↓State.mask_foldl, h0, h1, h2, h3, h4, h5, h6, h7, h8, h9, h10, h11, h12, h13, h14, h15, h16, h17, h18, h19, h20, h21, h22]; done)
    | ((try dsimp only); (repeat' split) <;> first | (simp (maxDischargeDepth := 9) only [↓State.serve_mask, ↓State.sessionPoke_mask, ↓State.setTime_mask, ↓stateOf_next, ↓stateOf_ite, ↓State.mask_ite, ite_self, implies_true, ↓State.mask_fst_ite, ↓State.mask_foldl, h0, h1, h2, h3, h4, h5, h6, h7, h8, h9, h10, h11, h12, h13, h14, h15, h16, h17, h18, h19, h20, h21, h22]; done) | (simp_all (maxDischargeDepth := 9) only [↓State.serve_mask, ↓State.sessionPoke_mask, ↓State.setTime_mask, ↓stateOf_next, ↓stateOf_ite, ↓State.mask_ite, ite_self, implies_true, ↓State.mask_fst_ite, ↓State.mask_foldl, h0, h1, h2, h3, h4, h5, h6, h7, h8, h9, h10, h11, h12, h13, h14, h15, h16, h17, h18, h19, h20, h21, h22]; done))
    | (simp only [↓stateOf_next, ↓stateOf_ite]; (try dsimp only); refine State.serve_mask _ _ _ _ _ _ _ _ _ h2 h5 h15 h17 h18 h21 h22 fun _ => ?_; (try dsimp only); (repeat' split) <;> simp (maxDischargeDepth := 9) only [↓State.serve_mask, ↓State.sessionPoke_mask, ↓State.setTime_mask, ↓stateOf_next, ↓stateOf_ite, ↓State.mask_ite, ite_self, implies_true, ↓State.mask_fst_ite, ↓State.mask_foldl, h0, h1, h2, h3, h4, h5, h6, h7, h8, h9, h10, h11, h12, h13, h14, h15, h16, h17, h18, h19, h20, h21, h22]; done)
    | ((try dsimp only); split <;> simp only [↓stateOf_next, ↓stateOf_ite]; (try dsimp only) <;> first | (simp (maxDischargeDepth := 9) only [↓State.serve_mask, ↓State.sessionPoke_mask, ↓State.setTime_mask, ↓stateOf_next, ↓stateOf_ite, ↓State.mask_ite, ite_self, implies_true, ↓State.mask_fst_ite, ↓State.mask_foldl, h0, h1, h2, h3, h4, h5, h6, h7, h8, h9, h10, h11, h12, h13, h14, h15, h16, h17, h18, h19, h20, h21, h22]; done) | (refine State.serve_mask _ _ _ _ _ _ _ _ _ h2 h5 h15 h17 h18 h21 h22 fun _ => ?_; (try dsimp only); (repeat' split) <;> simp (maxDischargeDepth := 9) only [↓State.serve_mask, ↓State.sessionPoke_mask, ↓State.setTime_mask, ↓stateOf_next, ↓stateOf_ite, ↓State.mask_ite, ite_self, implies_true, ↓State.mask_fst_ite, ↓State.mask_foldl, h0, h1, h2, h3, h4, h5, h6, h7, h8, h9, h10, h11, h12, h13, h14, h15, h16, h17, h18, h19, h20, h21, h22]; done))

theorem State.dropVerifier_mask (k : Part → Bool) (s : State) (h0 : k .lnd = false) (h1 : k .sent = false) :
    (State.dropVerifier s).mask k = s.mask k := by
  unfold State.dropVerifier
  first
    | (simp (maxDischargeDepth := 9) only [↓State.modLnd_mask, ↓State.respond_mask, ↓State.mask_ite, ite_self, implies_true, h0, h1]; done)
    | ((try dsimp only); (repeat' split) <;> first | (simp (maxDischargeDepth := 9) only [↓State.modLnd_mask, ↓State.respond_mask, ↓State.mask_ite, ite_self, implies_true, h0, h1]; done) | (simp_all (maxDischargeDepth := 9) only [↓State.modLnd_mask, ↓State.respond_mask, ↓State.mask_ite, ite_self, implies_true, h0, h1]; done))

theorem State.cancelLanding_mask (k : Part → Bool) (s : State) (h0 : k .lnd = false) (h1 : k .sent = false) :
    (State.cancelLanding s).mask k = s.mask k := by
  unfold State.cancelLanding
  first
    | (simp (maxDischargeDepth := 9) only [↓State.modLnd_mask, ↓State.dropVerifier_mask, ↓State.mask_ite, ite_self, implies_true, h0, h1]; done)
    | ((try dsimp only); (repeat' split) <;> first | (simp (maxDischargeDepth := 9) only [↓State.modLnd_mask, ↓State.dropVerifier_mask, ↓State.mask_ite, ite_self, implies_true, h0, h1]; done) | (simp_all (maxDischargeDepth := 9) only [↓State.modLnd_mask, ↓State.dropVerifier_mask, ↓State.mask_ite, ite_self, implies_true, h0, h1]; done))

theorem execLandBegin_mask (k : Part → Bool) (i : Fin 3) (tag total : Word) (s : State) (h0 : k .fab = false) (h1 : k .tally = false) (h2 : k .jnl = false) (h3 : k .lnd = false) (h4 : k .tru = false) (h5 : k .sent = false) (h6 : k .freeSeq = false) :
    (stateOf s (execLandBegin i tag total s)).mask k = s.mask k := by
  unfold execLandBegin
  first
    | (simp (maxDischargeDepth := 9) only [↓State.modLnd_mask, ↓State.serve_mask, ↓State.cancelLanding_mask, ↓stateOf_next, ↓stateOf_ite, ↓State.mask_ite, ite_self, implies_true, ↓State.mask_fst_ite, h0, h1, h2, h3, h4, h5, h6]; done)
    | ((try dsimp only); (repeat' split) <;> first | (simp (maxDischargeDepth := 9) only [↓State.modLnd_mask, ↓State.serve_mask, ↓State.cancelLanding_mask, ↓stateOf_next, ↓stateOf_ite, ↓State.mask_ite, ite_self, implies_true, ↓State.mask_fst_ite, h0, h1, h2, h3, h4, h5, h6]; done) | (simp_all (maxDischargeDepth := 9) only [↓State.modLnd_mask, ↓State.serve_mask, ↓State.cancelLanding_mask, ↓stateOf_next, ↓stateOf_ite, ↓State.mask_ite, ite_self, implies_true, ↓State.mask_fst_ite, h0, h1, h2, h3, h4, h5, h6]; done))
    | (simp only [↓stateOf_next, ↓stateOf_ite]; (try dsimp only); refine State.serve_mask _ _ _ _ _ _ _ _ _ h0 h1 h2 h3 h4 h5 h6 fun _ => ?_; (try dsimp only); (repeat' split) <;> simp (maxDischargeDepth := 9) only [↓State.modLnd_mask, ↓State.serve_mask, ↓State.cancelLanding_mask, ↓stateOf_next, ↓stateOf_ite, ↓State.mask_ite, ite_self, implies_true, ↓State.mask_fst_ite, h0, h1, h2, h3, h4, h5, h6]; done)
    | ((try dsimp only); split <;> simp only [↓stateOf_next, ↓stateOf_ite]; (try dsimp only) <;> first | (simp (maxDischargeDepth := 9) only [↓State.modLnd_mask, ↓State.serve_mask, ↓State.cancelLanding_mask, ↓stateOf_next, ↓stateOf_ite, ↓State.mask_ite, ite_self, implies_true, ↓State.mask_fst_ite, h0, h1, h2, h3, h4, h5, h6]; done) | (refine State.serve_mask _ _ _ _ _ _ _ _ _ h0 h1 h2 h3 h4 h5 h6 fun _ => ?_; (try dsimp only); (repeat' split) <;> simp (maxDischargeDepth := 9) only [↓State.modLnd_mask, ↓State.serve_mask, ↓State.cancelLanding_mask, ↓stateOf_next, ↓stateOf_ite, ↓State.mask_ite, ite_self, implies_true, ↓State.mask_fst_ite, h0, h1, h2, h3, h4, h5, h6]; done))

theorem execLandData_mask (k : Part → Bool) (i : Fin 3) (tag ofs : Word) (b : List Byte) (s : State) (h0 : k .fab = false) (h1 : k .tally = false) (h2 : k .jnl = false) (h3 : k .lnd = false) (h4 : k .tru = false) (h5 : k .sent = false) (h6 : k .freeSeq = false) :
    (stateOf s (execLandData i tag ofs b s)).mask k = s.mask k := by
  unfold execLandData
  first
    | (simp (maxDischargeDepth := 9) only [↓State.modLnd_mask, ↓State.serve_mask, ↓stateOf_next, ↓stateOf_ite, ↓State.mask_ite, ite_self, implies_true, ↓State.mask_fst_ite, h0, h1, h2, h3, h4, h5, h6]; done)
    | ((try dsimp only); (repeat' split) <;> first | (simp (maxDischargeDepth := 9) only [↓State.modLnd_mask, ↓State.serve_mask, ↓stateOf_next, ↓stateOf_ite, ↓State.mask_ite, ite_self, implies_true, ↓State.mask_fst_ite, h0, h1, h2, h3, h4, h5, h6]; done) | (simp_all (maxDischargeDepth := 9) only [↓State.modLnd_mask, ↓State.serve_mask, ↓stateOf_next, ↓stateOf_ite, ↓State.mask_ite, ite_self, implies_true, ↓State.mask_fst_ite, h0, h1, h2, h3, h4, h5, h6]; done))
    | (simp only [↓stateOf_next, ↓stateOf_ite]; (try dsimp only); refine State.serve_mask _ _ _ _ _ _ _ _ _ h0 h1 h2 h3 h4 h5 h6 fun _ => ?_; (try dsimp only); (repeat' split) <;> simp (maxDischargeDepth := 9) only [↓State.modLnd_mask, ↓State.serve_mask, ↓stateOf_next, ↓stateOf_ite, ↓State.mask_ite, ite_self, implies_true, ↓State.mask_fst_ite, h0, h1, h2, h3, h4, h5, h6]; done)
    | ((try dsimp only); split <;> simp only [↓stateOf_next, ↓stateOf_ite]; (try dsimp only) <;> first | (simp (maxDischargeDepth := 9) only [↓State.modLnd_mask, ↓State.serve_mask, ↓stateOf_next, ↓stateOf_ite, ↓State.mask_ite, ite_self, implies_true, ↓State.mask_fst_ite, h0, h1, h2, h3, h4, h5, h6]; done) | (refine State.serve_mask _ _ _ _ _ _ _ _ _ h0 h1 h2 h3 h4 h5 h6 fun _ => ?_; (try dsimp only); (repeat' split) <;> simp (maxDischargeDepth := 9) only [↓State.modLnd_mask, ↓State.serve_mask, ↓stateOf_next, ↓stateOf_ite, ↓State.mask_ite, ite_self, implies_true, ↓State.mask_fst_ite, h0, h1, h2, h3, h4, h5, h6]; done))

theorem execLandVerify_mask (k : Part → Bool) (i : Fin 3) (tag : Word) (s : State) (h0 : k .fab = false) (h1 : k .tally = false) (h2 : k .jnl = false) (h3 : k .lnd = false) (h4 : k .tru = false) (h5 : k .sent = false) (h6 : k .freeSeq = false) :
    (stateOf s (execLandVerify i tag s)).mask k = s.mask k := by
  unfold execLandVerify
  first
    | (simp (maxDischargeDepth := 9) only [↓State.modLnd_mask, ↓State.verified_mask, ↓State.serve_mask, ↓stateOf_next, ↓stateOf_ite, ↓State.mask_ite, ite_self, implies_true, ↓State.mask_fst_ite, h0, h1, h2, h3, h4, h5, h6]; done)
    | ((try dsimp only); (repeat' split) <;> first | (simp (maxDischargeDepth := 9) only [↓State.modLnd_mask, ↓State.verified_mask, ↓State.serve_mask, ↓stateOf_next, ↓stateOf_ite, ↓State.mask_ite, ite_self, implies_true, ↓State.mask_fst_ite, h0, h1, h2, h3, h4, h5, h6]; done) | (simp_all (maxDischargeDepth := 9) only [↓State.modLnd_mask, ↓State.verified_mask, ↓State.serve_mask, ↓stateOf_next, ↓stateOf_ite, ↓State.mask_ite, ite_self, implies_true, ↓State.mask_fst_ite, h0, h1, h2, h3, h4, h5, h6]; done))
    | (simp only [↓stateOf_next, ↓stateOf_ite]; (try dsimp only); refine State.serve_mask _ _ _ _ _ _ _ _ _ h0 h1 h2 h3 h4 h5 h6 fun _ => ?_; (try dsimp only); (repeat' split) <;> simp (maxDischargeDepth := 9) only [↓State.modLnd_mask, ↓State.verified_mask, ↓State.serve_mask, ↓stateOf_next, ↓stateOf_ite, ↓State.mask_ite, ite_self, implies_true, ↓State.mask_fst_ite, h0, h1, h2, h3, h4, h5, h6]; done)
    | ((try dsimp only); split <;> simp only [↓stateOf_next, ↓stateOf_ite]; (try dsimp only) <;> first | (simp (maxDischargeDepth := 9) only [↓State.modLnd_mask, ↓State.verified_mask, ↓State.serve_mask, ↓stateOf_next, ↓stateOf_ite, ↓State.mask_ite, ite_self, implies_true, ↓State.mask_fst_ite, h0, h1, h2, h3, h4, h5, h6]; done) | (refine State.serve_mask _ _ _ _ _ _ _ _ _ h0 h1 h2 h3 h4 h5 h6 fun _ => ?_; (try dsimp only); (repeat' split) <;> simp (maxDischargeDepth := 9) only [↓State.modLnd_mask, ↓State.verified_mask, ↓State.serve_mask, ↓stateOf_next, ↓stateOf_ite, ↓State.mask_ite, ite_self, implies_true, ↓State.mask_fst_ite, h0, h1, h2, h3, h4, h5, h6]; done))

theorem execLandActivate_mask (k : Part → Bool) (i : Fin 3) (tag : Word) (s : State) (h0 : k .fab = false) (h1 : k .tally = false) (h2 : k .jnl = false) (h3 : k .lnd = false) (h4 : k .tru = false) (h5 : k .sent = false) (h6 : k .freeSeq = false) :
    (stateOf s (execLandActivate i tag s)).mask k = s.mask k := by
  unfold execLandActivate
  first
    | (simp (maxDischargeDepth := 9) only [↓State.modLnd_mask, ↓State.verified_mask, ↓State.serve_mask, ↓stateOf_next, ↓stateOf_ite, ↓State.mask_ite, ite_self, implies_true, ↓State.mask_fst_ite, h0, h1, h2, h3, h4, h5, h6]; done)
    | ((try dsimp only); (repeat' split) <;> first | (simp (maxDischargeDepth := 9) only [↓State.modLnd_mask, ↓State.verified_mask, ↓State.serve_mask, ↓stateOf_next, ↓stateOf_ite, ↓State.mask_ite, ite_self, implies_true, ↓State.mask_fst_ite, h0, h1, h2, h3, h4, h5, h6]; done) | (simp_all (maxDischargeDepth := 9) only [↓State.modLnd_mask, ↓State.verified_mask, ↓State.serve_mask, ↓stateOf_next, ↓stateOf_ite, ↓State.mask_ite, ite_self, implies_true, ↓State.mask_fst_ite, h0, h1, h2, h3, h4, h5, h6]; done))
    | (simp only [↓stateOf_next, ↓stateOf_ite]; (try dsimp only); refine State.serve_mask _ _ _ _ _ _ _ _ _ h0 h1 h2 h3 h4 h5 h6 fun _ => ?_; (try dsimp only); (repeat' split) <;> simp (maxDischargeDepth := 9) only [↓State.modLnd_mask, ↓State.verified_mask, ↓State.serve_mask, ↓stateOf_next, ↓stateOf_ite, ↓State.mask_ite, ite_self, implies_true, ↓State.mask_fst_ite, h0, h1, h2, h3, h4, h5, h6]; done)
    | ((try dsimp only); split <;> simp only [↓stateOf_next, ↓stateOf_ite]; (try dsimp only) <;> first | (simp (maxDischargeDepth := 9) only [↓State.modLnd_mask, ↓State.verified_mask, ↓State.serve_mask, ↓stateOf_next, ↓stateOf_ite, ↓State.mask_ite, ite_self, implies_true, ↓State.mask_fst_ite, h0, h1, h2, h3, h4, h5, h6]; done) | (refine State.serve_mask _ _ _ _ _ _ _ _ _ h0 h1 h2 h3 h4 h5 h6 fun _ => ?_; (try dsimp only); (repeat' split) <;> simp (maxDischargeDepth := 9) only [↓State.modLnd_mask, ↓State.verified_mask, ↓State.serve_mask, ↓stateOf_next, ↓stateOf_ite, ↓State.mask_ite, ite_self, implies_true, ↓State.mask_fst_ite, h0, h1, h2, h3, h4, h5, h6]; done))

theorem execLandCancel_mask (k : Part → Bool) (i : Fin 3) (tag : Word) (s : State) (h0 : k .fab = false) (h1 : k .tally = false) (h2 : k .jnl = false) (h3 : k .lnd = false) (h4 : k .tru = false) (h5 : k .sent = false) (h6 : k .freeSeq = false) :
    (stateOf s (execLandCancel i tag s)).mask k = s.mask k := by
  unfold execLandCancel
  first
    | (simp (maxDischargeDepth := 9) only [↓State.serve_mask, ↓State.cancelLanding_mask, ↓stateOf_next, ↓stateOf_ite, ↓State.mask_ite, ite_self, implies_true, ↓State.mask_fst_ite, h0, h1, h2, h3, h4, h5, h6]; done)
    | ((try dsimp only); (repeat' split) <;> first | (simp (maxDischargeDepth := 9) only [↓State.serve_mask, ↓State.cancelLanding_mask, ↓stateOf_next, ↓stateOf_ite, ↓State.mask_ite, ite_self, implies_true, ↓State.mask_fst_ite, h0, h1, h2, h3, h4, h5, h6]; done) | (simp_all (maxDischargeDepth := 9) only [↓State.serve_mask, ↓State.cancelLanding_mask, ↓stateOf_next, ↓stateOf_ite, ↓State.mask_ite, ite_self, implies_true, ↓State.mask_fst_ite, h0, h1, h2, h3, h4, h5, h6]; done))
    | (simp only [↓stateOf_next, ↓stateOf_ite]; (try dsimp only); refine State.serve_mask _ _ _ _ _ _ _ _ _ h0 h1 h2 h3 h4 h5 h6 fun _ => ?_; (try dsimp only); (repeat' split) <;> simp (maxDischargeDepth := 9) only [↓State.serve_mask, ↓State.cancelLanding_mask, ↓stateOf_next, ↓stateOf_ite, ↓State.mask_ite, ite_self, implies_true, ↓State.mask_fst_ite, h0, h1, h2, h3, h4, h5, h6]; done)
    | ((try dsimp only); split <;> simp only [↓stateOf_next, ↓stateOf_ite]; (try dsimp only) <;> first | (simp (maxDischargeDepth := 9) only [↓State.serve_mask, ↓State.cancelLanding_mask, ↓stateOf_next, ↓stateOf_ite, ↓State.mask_ite, ite_self, implies_true, ↓State.mask_fst_ite, h0, h1, h2, h3, h4, h5, h6]; done) | (refine State.serve_mask _ _ _ _ _ _ _ _ _ h0 h1 h2 h3 h4 h5 h6 fun _ => ?_; (try dsimp only); (repeat' split) <;> simp (maxDischargeDepth := 9) only [↓State.serve_mask, ↓State.cancelLanding_mask, ↓stateOf_next, ↓stateOf_ite, ↓State.mask_ite, ite_self, implies_true, ↓State.mask_fst_ite, h0, h1, h2, h3, h4, h5, h6]; done))

theorem execLandPrevious_mask (k : Part → Bool) (i : Fin 3) (tag : Word) (s : State) (h0 : k .fab = false) (h1 : k .tally = false) (h2 : k .jnl = false) (h3 : k .lnd = false) (h4 : k .tru = false) (h5 : k .sent = false) (h6 : k .freeSeq = false) :
    (stateOf s (execLandPrevious i tag s)).mask k = s.mask k := by
  unfold execLandPrevious
  first
    | (simp (maxDischargeDepth := 9) only [↓State.modLnd_mask, ↓State.serve_mask, ↓State.cancelLanding_mask, ↓stateOf_next, ↓stateOf_ite, ↓State.mask_ite, ite_self, implies_true, ↓State.mask_fst_ite, h0, h1, h2, h3, h4, h5, h6]; done)
    | ((try dsimp only); (repeat' split) <;> first | (simp (maxDischargeDepth := 9) only [↓State.modLnd_mask, ↓State.serve_mask, ↓State.cancelLanding_mask, ↓stateOf_next, ↓stateOf_ite, ↓State.mask_ite, ite_self, implies_true, ↓State.mask_fst_ite, h0, h1, h2, h3, h4, h5, h6]; done) | (simp_all (maxDischargeDepth := 9) only [↓State.modLnd_mask, ↓State.serve_mask, ↓State.cancelLanding_mask, ↓stateOf_next, ↓stateOf_ite, ↓State.mask_ite, ite_self, implies_true, ↓State.mask_fst_ite, h0, h1, h2, h3, h4, h5, h6]; done))
    | (simp only [↓stateOf_next, ↓stateOf_ite]; (try dsimp only); refine State.serve_mask _ _ _ _ _ _ _ _ _ h0 h1 h2 h3 h4 h5 h6 fun _ => ?_; (try dsimp only); (repeat' split) <;> simp (maxDischargeDepth := 9) only [↓State.modLnd_mask, ↓State.serve_mask, ↓State.cancelLanding_mask, ↓stateOf_next, ↓stateOf_ite, ↓State.mask_ite, ite_self, implies_true, ↓State.mask_fst_ite, h0, h1, h2, h3, h4, h5, h6]; done)
    | ((try dsimp only); split <;> simp only [↓stateOf_next, ↓stateOf_ite]; (try dsimp only) <;> first | (simp (maxDischargeDepth := 9) only [↓State.modLnd_mask, ↓State.serve_mask, ↓State.cancelLanding_mask, ↓stateOf_next, ↓stateOf_ite, ↓State.mask_ite, ite_self, implies_true, ↓State.mask_fst_ite, h0, h1, h2, h3, h4, h5, h6]; done) | (refine State.serve_mask _ _ _ _ _ _ _ _ _ h0 h1 h2 h3 h4 h5 h6 fun _ => ?_; (try dsimp only); (repeat' split) <;> simp (maxDischargeDepth := 9) only [↓State.modLnd_mask, ↓State.serve_mask, ↓State.cancelLanding_mask, ↓stateOf_next, ↓stateOf_ite, ↓State.mask_ite, ite_self, implies_true, ↓State.mask_fst_ite, h0, h1, h2, h3, h4, h5, h6]; done))

theorem State.serveMode_mask (k : Part → Bool) (s : State) (i : SesIx) (tag : Word) (need : Right) (argOk : Bool) (ok : State → Bool) (f : State → State) (h0 : k .fab = false) (h1 : k .tally = false) (h2 : k .jnl = false) (h3 : k .lnd = false) (h4 : k .tru = false) (h5 : k .sent = false) (h6 : k .freeSeq = false) (g0 : ∀ s, (f s).mask k = s.mask k) :
    (State.serveMode s i tag need argOk ok f).mask k = s.mask k := by
  unfold State.serveMode
  first
    | (simp (maxDischargeDepth := 9) only [↓State.serve_mask, ↓State.mask_ite, ite_self, implies_true, ↓State.mask_fst_ite, h0, h1, h2, h3, h4, h5, h6, g0]; done)
    | ((try dsimp only); (repeat' split) <;> first | (simp (maxDischargeDepth := 9) only [↓State.serve_mask, ↓State.mask_ite, ite_self, implies_true, ↓State.mask_fst_ite, h0, h1, h2, h3, h4, h5, h6, g0]; done) | (simp_all (maxDischargeDepth := 9) only [↓State.serve_mask, ↓State.mask_ite, ite_self, implies_true, ↓State.mask_fst_ite, h0, h1, h2, h3, h4, h5, h6, g0]; done))
    | ((try dsimp only); refine State.serve_mask _ _ _ _ _ _ _ _ _ h0 h1 h2 h3 h4 h5 h6 fun _ => ?_; (try dsimp only); (repeat' split) <;> simp (maxDischargeDepth := 9) only [↓State.serve_mask, ↓State.mask_ite, ite_self, implies_true, ↓State.mask_fst_ite, h0, h1, h2, h3, h4, h5, h6, g0]; done)
    | ((try dsimp only); split <;> (try dsimp only) <;> first | (simp (maxDischargeDepth := 9) only [↓State.serve_mask, ↓State.mask_ite, ite_self, implies_true, ↓State.mask_fst_ite, h0, h1, h2, h3, h4, h5, h6, g0]; done) | (refine State.serve_mask _ _ _ _ _ _ _ _ _ h0 h1 h2 h3 h4 h5 h6 fun _ => ?_; (try dsimp only); (repeat' split) <;> simp (maxDischargeDepth := 9) only [↓State.serve_mask, ↓State.mask_ite, ite_self, implies_true, ↓State.mask_fst_ite, h0, h1, h2, h3, h4, h5, h6, g0]; done))

theorem execModeRun_mask (k : Part → Bool) (i : Fin 3) (tag n : Word) (s : State) (h0 : k .tim = false) (h1 : k .fab = false) (h2 : k .mem = false) (h3 : k .eng = false) (h4 : k .tally = false) (h5 : k .axes = false) (h6 : k .portals = false) (h7 : k .fel = false) (h8 : k .sde = false) (h9 : k .ls = false) (h10 : k .lsg = false) (h11 : k .kerf = false) (h12 : k .fio = false) (h13 : k .safe = false) (h14 : k .jnl = false) (h15 : k .net = false) (h16 : k .lnd = false) (h17 : k .tru = false) (h18 : k .pwr = false) (h19 : k .boot = false) (h20 : k .sent = false) (h21 : k .freeSeq = false) :
    (stateOf s (execModeRun i tag n s)).mask k = s.mask k := by
  unfold execModeRun
  first
    | (simp (maxDischargeDepth := 9) only [↓State.modEng_mask, ↓State.enterRun_mask, ↓State.drainAll_mask, ↓State.serveMode_mask, ↓stateOf_next, ↓stateOf_ite, ↓State.mask_with_tim, ↓State.mask_with_fab, ↓State.mask_with_mem, ↓State.mask_with_eng, ↓State.mask_with_tally, ↓State.mask_with_axes, ↓State.mask_with_portals, ↓State.mask_with_fel, ↓State.mask_with_sde, ↓State.mask_with_ls, ↓State.mask_with_lsg, ↓State.mask_with_kerf, ↓State.mask_with_fio, ↓State.mask_with_safe, ↓State.mask_with_jnl, ↓State.mask_with_net, ↓State.mask_with_lnd, ↓State.mask_with_tru, ↓State.mask_with_pwr, ↓State.mask_with_boot, ↓State.mask_with_sent, ↓State.mask_with_freeSeq, ↓State.mask_ite, ite_self, implies_true, ↓State.mask_fst_ite, h0, h1, h2, h3, h4, h5, h6, h7, h8, h9, h10, h11, h12, h13, h14, h15, h16, h17, h18, h19, h20, h21]; done)
    | ((try dsimp only); (repeat' split) <;> first | (simp (maxDischargeDepth := 9) only [↓State.modEng_mask, ↓State.enterRun_mask, ↓State.drainAll_mask, ↓State.serveMode_mask, ↓stateOf_next, ↓stateOf_ite, ↓State.mask_with_tim, ↓State.mask_with_fab, ↓State.mask_with_mem, ↓State.mask_with_eng, ↓State.mask_with_tally, ↓State.mask_with_axes, ↓State.mask_with_portals, ↓State.mask_with_fel, ↓State.mask_with_sde, ↓State.mask_with_ls, ↓State.mask_with_lsg, ↓State.mask_with_kerf, ↓State.mask_with_fio, ↓State.mask_with_safe, ↓State.mask_with_jnl, ↓State.mask_with_net, ↓State.mask_with_lnd, ↓State.mask_with_tru, ↓State.mask_with_pwr, ↓State.mask_with_boot, ↓State.mask_with_sent, ↓State.mask_with_freeSeq, ↓State.mask_ite, ite_self, implies_true, ↓State.mask_fst_ite, h0, h1, h2, h3, h4, h5, h6, h7, h8, h9, h10, h11, h12, h13, h14, h15, h16, h17, h18, h19, h20, h21]; done) | (simp_all (maxDischargeDepth := 9) only [↓State.modEng_mask, ↓State.enterRun_mask, ↓State.drainAll_mask, ↓State.serveMode_mask, ↓stateOf_next, ↓stateOf_ite, ↓State.mask_with_tim, ↓State.mask_with_fab, ↓State.mask_with_mem, ↓State.mask_with_eng, ↓State.mask_with_tally, ↓State.mask_with_axes, ↓State.mask_with_portals, ↓State.mask_with_fel, ↓State.mask_with_sde, ↓State.mask_with_ls, ↓State.mask_with_lsg, ↓State.mask_with_kerf, ↓State.mask_with_fio, ↓State.mask_with_safe, ↓State.mask_with_jnl, ↓State.mask_with_net, ↓State.mask_with_lnd, ↓State.mask_with_tru, ↓State.mask_with_pwr, ↓State.mask_with_boot, ↓State.mask_with_sent, ↓State.mask_with_freeSeq, ↓State.mask_ite, ite_self, implies_true, ↓State.mask_fst_ite, h0, h1, h2, h3, h4, h5, h6, h7, h8, h9, h10, h11, h12, h13, h14, h15, h16, h17, h18, h19, h20, h21]; done))
    | (simp only [State.mask, Bool.false_eq_true, ↓reduceIte, h0, h1, h2, h3, h4, h5, h6, h7, h8, h9, h10, h11, h12, h13, h14, h15, h16, h17, h18, h19, h20, h21]; done)
    | (simp (maxDischargeDepth := 9) only [↓State.modEng_mask, ↓State.enterRun_mask, ↓State.drainAll_mask, ↓State.serveMode_mask, ↓stateOf_next, ↓stateOf_ite, ↓State.mask_with_tim, ↓State.mask_with_fab, ↓State.mask_with_mem, ↓State.mask_with_eng, ↓State.mask_with_tally, ↓State.mask_with_axes, ↓State.mask_with_portals, ↓State.mask_with_fel, ↓State.mask_with_sde, ↓State.mask_with_ls, ↓State.mask_with_lsg, ↓State.mask_with_kerf, ↓State.mask_with_fio, ↓State.mask_with_safe, ↓State.mask_with_jnl, ↓State.mask_with_net, ↓State.mask_with_lnd, ↓State.mask_with_tru, ↓State.mask_with_pwr, ↓State.mask_with_boot, ↓State.mask_with_sent, ↓State.mask_with_freeSeq, ↓State.mask_ite, ite_self, implies_true, ↓State.mask_fst_ite, h0, h1, h2, h3, h4, h5, h6, h7, h8, h9, h10, h11, h12, h13, h14, h15, h16, h17, h18, h19, h20, h21]; simp only [State.mask, Bool.false_eq_true, ↓reduceIte, h0, h1, h2, h3, h4, h5, h6, h7, h8, h9, h10, h11, h12, h13, h14, h15, h16, h17, h18, h19, h20, h21]; done)

theorem execModeStop_mask (k : Part → Bool) (i : Fin 3) (tag n : Word) (s : State) (h0 : k .tim = false) (h1 : k .fab = false) (h2 : k .mem = false) (h3 : k .eng = false) (h4 : k .tally = false) (h5 : k .axes = false) (h6 : k .portals = false) (h7 : k .fel = false) (h8 : k .sde = false) (h9 : k .ls = false) (h10 : k .lsg = false) (h11 : k .kerf = false) (h12 : k .fio = false) (h13 : k .safe = false) (h14 : k .jnl = false) (h15 : k .net = false) (h16 : k .lnd = false) (h17 : k .tru = false) (h18 : k .pwr = false) (h19 : k .boot = false) (h20 : k .sent = false) (h21 : k .freeSeq = false) :
    (stateOf s (execModeStop i tag n s)).mask k = s.mask k := by
  unfold execModeStop
  first
    | (simp (maxDischargeDepth := 9) only [↓State.enterStop_mask, ↓State.drainAll_mask, ↓State.serveMode_mask, ↓stateOf_next, ↓stateOf_ite, ↓State.mask_ite, ite_self, implies_true, ↓State.mask_fst_ite, h0, h1, h2, h3, h4, h5, h6, h7, h8, h9, h10, h11, h12, h13, h14, h15, h16, h17, h18, h19, h20, h21]; done)
    | ((try dsimp only); (repeat' split) <;> first | (simp (maxDischargeDepth := 9) only [↓State.enterStop_mask, ↓State.drainAll_mask, ↓State.serveMode_mask, ↓stateOf_next, ↓stateOf_ite, ↓State.mask_ite, ite_self, implies_true, ↓State.mask_fst_ite, h0, h1, h2, h3, h4, h5, h6, h7, h8, h9, h10, h11, h12, h13, h14, h15, h16, h17, h18, h19, h20, h21]; done) | (simp_all (maxDischargeDepth := 9) only [↓State.enterStop_mask, ↓State.drainAll_mask, ↓State.serveMode_mask, ↓stateOf_next, ↓stateOf_ite, ↓State.mask_ite, ite_self, implies_true, ↓State.mask_fst_ite, h0, h1, h2, h3, h4, h5, h6, h7, h8, h9, h10, h11, h12, h13, h14, h15, h16, h17, h18, h19, h20, h21]; done))

theorem execModeHold_mask (k : Part → Bool) (i : Fin 3) (tag n : Word) (s : State) (h0 : k .fab = false) (h1 : k .eng = false) (h2 : k .tally = false) (h3 : k .jnl = false) (h4 : k .lnd = false) (h5 : k .tru = false) (h6 : k .sent = false) (h7 : k .freeSeq = false) :
    (stateOf s (execModeHold i tag n s)).mask k = s.mask k := by
  unfold execModeHold
  first
    | (simp (maxDischargeDepth := 9) only [↓State.modEng_mask, ↓State.serveMode_mask, ↓stateOf_next, ↓stateOf_ite, ↓State.mask_ite, ite_self, implies_true, ↓State.mask_fst_ite, h0, h1, h2, h3, h4, h5, h6, h7]; done)
    | ((try dsimp only); (repeat' split) <;> first | (simp (maxDischargeDepth := 9) only [↓State.modEng_mask, ↓State.serveMode_mask, ↓stateOf_next, ↓stateOf_ite, ↓State.mask_ite, ite_self, implies_true, ↓State.mask_fst_ite, h0, h1, h2, h3, h4, h5, h6, h7]; done) | (simp_all (maxDischargeDepth := 9) only [↓State.modEng_mask, ↓State.serveMode_mask, ↓stateOf_next, ↓stateOf_ite, ↓State.mask_ite, ite_self, implies_true, ↓State.mask_fst_ite, h0, h1, h2, h3, h4, h5, h6, h7]; done))

theorem execModeResume_mask (k : Part → Bool) (i : Fin 3) (tag n : Word) (s : State) (h0 : k .fab = false) (h1 : k .eng = false) (h2 : k .tally = false) (h3 : k .jnl = false) (h4 : k .lnd = false) (h5 : k .tru = false) (h6 : k .sent = false) (h7 : k .freeSeq = false) :
    (stateOf s (execModeResume i tag n s)).mask k = s.mask k := by
  unfold execModeResume
  first
    | (simp (maxDischargeDepth := 9) only [↓State.resume_mask, ↓State.serveMode_mask, ↓stateOf_next, ↓stateOf_ite, ↓State.mask_ite, ite_self, implies_true, ↓State.mask_fst_ite, h0, h1, h2, h3, h4, h5, h6, h7]; done)
    | ((try dsimp only); (repeat' split) <;> first | (simp (maxDischargeDepth := 9) only [↓State.resume_mask, ↓State.serveMode_mask, ↓stateOf_next, ↓stateOf_ite, ↓State.mask_ite, ite_self, implies_true, ↓State.mask_fst_ite, h0, h1, h2, h3, h4, h5, h6, h7]; done) | (simp_all (maxDischargeDepth := 9) only [↓State.resume_mask, ↓State.serveMode_mask, ↓stateOf_next, ↓stateOf_ite, ↓State.mask_ite, ite_self, implies_true, ↓State.mask_fst_ite, h0, h1, h2, h3, h4, h5, h6, h7]; done))

theorem execModeStep_mask (k : Part → Bool) (i : Fin 3) (tag n : Word) (s : State) (h0 : k .mono = false) (h1 : k .tim = false) (h2 : k .fab = false) (h3 : k .latch = false) (h4 : k .mem = false) (h5 : k .eng = false) (h6 : k .tally = false) (h7 : k .axes = false) (h8 : k .portals = false) (h9 : k .fel = false) (h10 : k .sde = false) (h11 : k .ls = false) (h12 : k .lsg = false) (h13 : k .kerf = false) (h14 : k .fio = false) (h15 : k .safe = false) (h16 : k .jnl = false) (h17 : k .net = false) (h18 : k .lnd = false) (h19 : k .tru = false) (h20 : k .pwr = false) (h21 : k .boot = false) (h22 : k .sent = false) (h23 : k .freeSeq = false) :
    (stateOf s (execModeStep i tag n s)).mask k = s.mask k := by
  unfold execModeStep
  first
    | (simp (maxDischargeDepth := 9) only [↓State.stepHold_mask, ↓State.serveMode_mask, ↓stateOf_next, ↓stateOf_ite, ↓State.mask_ite, ite_self, implies_true, ↓State.mask_fst_ite, h0, h1, h2, h3, h4, h5, h6, h7, h8, h9, h10, h11, h12, h13, h14, h15, h16, h17, h18, h19, h20, h21, h22, h23]; done)
    | ((try dsimp only); (repeat' split) <;> first | (simp (maxDischargeDepth := 9) only [↓State.stepHold_mask, ↓State.serveMode_mask, ↓stateOf_next, ↓stateOf_ite, ↓State.mask_ite, ite_self, implies_true, ↓State.mask_fst_ite, h0, h1, h2, h3, h4, h5, h6, h7, h8, h9, h10, h11, h12, h13, h14, h15, h16, h17, h18, h19, h20, h21, h22, h23]; done) | (simp_all (maxDischargeDepth := 9) only [↓State.stepHold_mask, ↓State.serveMode_mask, ↓stateOf_next, ↓stateOf_ite, ↓State.mask_ite, ite_self, implies_true, ↓State.mask_fst_ite, h0, h1, h2, h3, h4, h5, h6, h7, h8, h9, h10, h11, h12, h13, h14, h15, h16, h17, h18, h19, h20, h21, h22, h23]; done))

theorem State.serveRequest_mask (k : Part → Bool) (s : State) (i : SesIx) (tag u : Word) (n : Nat) (f : State → State) (status : State → Nat) (h0 : k .fab = false) (h1 : k .tally = false) (h2 : k .jnl = false) (h3 : k .lnd = false) (h4 : k .tru = false) (h5 : k .sent = false) (h6 : k .freeSeq = false) (g0 : ∀ s, (f s).mask k = s.mask k) :
    (State.serveRequest s i tag u n f status).mask k = s.mask k := by
  unfold State.serveRequest
  first
    | (simp (maxDischargeDepth := 9) only [↓State.serve_mask, ↓State.mask_ite, ite_self, implies_true, ↓State.mask_fst_ite, h0, h1, h2, h3, h4, h5, h6, g0]; done)
    | ((try dsimp only); (repeat' split) <;> first | (simp (maxDischargeDepth := 9) only [↓State.serve_mask, ↓State.mask_ite, ite_self, implies_true, ↓State.mask_fst_ite, h0, h1, h2, h3, h4, h5, h6, g0]; done) | (simp_all (maxDischargeDepth := 9) only [↓State.serve_mask, ↓State.mask_ite, ite_self, implies_true, ↓State.mask_fst_ite, h0, h1, h2, h3, h4, h5, h6, g0]; done))
    | ((try dsimp only); refine State.serve_mask _ _ _ _ _ _ _ _ _ h0 h1 h2 h3 h4 h5 h6 fun _ => ?_; (try dsimp only); (repeat' split) <;> simp (maxDischargeDepth := 9) only [↓State.serve_mask, ↓State.mask_ite, ite_self, implies_true, ↓State.mask_fst_ite, h0, h1, h2, h3, h4, h5, h6, g0]; done)
    | ((try dsimp only); split <;> (try dsimp only) <;> first | (simp (maxDischargeDepth := 9) only [↓State.serve_mask, ↓State.mask_ite, ite_self, implies_true, ↓State.mask_fst_ite, h0, h1, h2, h3, h4, h5, h6, g0]; done) | (refine State.serve_mask _ _ _ _ _ _ _ _ _ h0 h1 h2 h3 h4 h5 h6 fun _ => ?_; (try dsimp only); (repeat' split) <;> simp (maxDischargeDepth := 9) only [↓State.serve_mask, ↓State.mask_ite, ite_self, implies_true, ↓State.mask_fst_ite, h0, h1, h2, h3, h4, h5, h6, g0]; done))

theorem execReref_mask (k : Part → Bool) (i : Fin 3) (tag axis : Word) (s : State) (h0 : k .fab = false) (h1 : k .tally = false) (h2 : k .axes = false) (h3 : k .portals = false) (h4 : k .fel = false) (h5 : k .ls = false) (h6 : k .kerf = false) (h7 : k .jnl = false) (h8 : k .lnd = false) (h9 : k .tru = false) (h10 : k .sent = false) (h11 : k .freeSeq = false) :
    (stateOf s (execReref i tag axis s)).mask k = s.mask k := by
  unfold execReref
  first
    | (simp (maxDischargeDepth := 9) only [↓State.axisCmd_mask, ↓State.serve_mask, ↓stateOf_next, ↓stateOf_ite, ↓State.mask_ite, ite_self, implies_true, ↓State.mask_fst_ite, h0, h1, h2, h3, h4, h5, h6, h7, h8, h9, h10, h11]; done)
    | ((try dsimp only); (repeat' split) <;> first | (simp (maxDischargeDepth := 9) only [↓State.axisCmd_mask, ↓State.serve_mask, ↓stateOf_next, ↓stateOf_ite, ↓State.mask_ite, ite_self, implies_true, ↓State.mask_fst_ite, h0, h1, h2, h3, h4, h5, h6, h7, h8, h9, h10, h11]; done) | (simp_all (maxDischargeDepth := 9) only [↓State.axisCmd_mask, ↓State.serve_mask, ↓stateOf_next, ↓stateOf_ite, ↓State.mask_ite, ite_self, implies_true, ↓State.mask_fst_ite, h0, h1, h2, h3, h4, h5, h6, h7, h8, h9, h10, h11]; done))
    | (simp only [↓stateOf_next, ↓stateOf_ite]; (try dsimp only); refine State.serve_mask _ _ _ _ _ _ _ _ _ h0 h1 h7 h8 h9 h10 h11 fun _ => ?_; (try dsimp only); (repeat' split) <;> simp (maxDischargeDepth := 9) only [↓State.axisCmd_mask, ↓State.serve_mask, ↓stateOf_next, ↓stateOf_ite, ↓State.mask_ite, ite_self, implies_true, ↓State.mask_fst_ite, h0, h1, h2, h3, h4, h5, h6, h7, h8, h9, h10, h11]; done)
    | ((try dsimp only); split <;> simp only [↓stateOf_next, ↓stateOf_ite]; (try dsimp only) <;> first | (simp (maxDischargeDepth := 9) only [↓State.axisCmd_mask, ↓State.serve_mask, ↓stateOf_next, ↓stateOf_ite, ↓State.mask_ite, ite_self, implies_true, ↓State.mask_fst_ite, h0, h1, h2, h3, h4, h5, h6, h7, h8, h9, h10, h11]; done) | (refine State.serve_mask _ _ _ _ _ _ _ _ _ h0 h1 h7 h8 h9 h10 h11 fun _ => ?_; (try dsimp only); (repeat' split) <;> simp (maxDischargeDepth := 9) only [↓State.axisCmd_mask, ↓State.serve_mask, ↓stateOf_next, ↓stateOf_ite, ↓State.mask_ite, ite_self, implies_true, ↓State.mask_fst_ite, h0, h1, h2, h3, h4, h5, h6, h7, h8, h9, h10, h11]; done))

theorem execRequestCalibration_mask (k : Part → Bool) (i : Fin 3) (tag unit : Word) (s : State) (h0 : k .fab = false) (h1 : k .tally = false) (h2 : k .axes = false) (h3 : k .portals = false) (h4 : k .fel = false) (h5 : k .ls = false) (h6 : k .kerf = false) (h7 : k .jnl = false) (h8 : k .lnd = false) (h9 : k .tru = false) (h10 : k .sent = false) (h11 : k .freeSeq = false) :
    (stateOf s (execRequestCalibration i tag unit s)).mask k = s.mask k := by
  unfold execRequestCalibration
  first
    | (simp (maxDischargeDepth := 9) only [↓State.writeAxis_mask, ↓State.serveRequest_mask, ↓stateOf_next, ↓stateOf_ite, ↓State.mask_ite, ite_self, implies_true, ↓State.mask_fst_ite, h0, h1, h2, h3, h4, h5, h6, h7, h8, h9, h10, h11]; done)
    | ((try dsimp only); (repeat' split) <;> first | (simp (maxDischargeDepth := 9) only [↓State.writeAxis_mask, ↓State.serveRequest_mask, ↓stateOf_next, ↓stateOf_ite, ↓State.mask_ite, ite_self, implies_true, ↓State.mask_fst_ite, h0, h1, h2, h3, h4, h5, h6, h7, h8, h9, h10, h11]; done) | (simp_all (maxDischargeDepth := 9) only [↓State.writeAxis_mask, ↓State.serveRequest_mask, ↓stateOf_next, ↓stateOf_ite, ↓State.mask_ite, ite_self, implies_true, ↓State.mask_fst_ite, h0, h1, h2, h3, h4, h5, h6, h7, h8, h9, h10, h11]; done))

theorem execRequestRelearn_mask (k : Part → Bool) (i : Fin 3) (tag unit : Word) (s : State) (h0 : k .fab = false) (h1 : k .tally = false) (h2 : k .kerf = false) (h3 : k .jnl = false) (h4 : k .lnd = false) (h5 : k .tru = false) (h6 : k .sent = false) (h7 : k .freeSeq = false) :
    (stateOf s (execRequestRelearn i tag unit s)).mask k = s.mask k := by
  unfold execRequestRelearn
  first
    | (simp (maxDischargeDepth := 9) only [↓State.learnRequest_mask, ↓State.serveRequest_mask, ↓stateOf_next, ↓stateOf_ite, ↓State.mask_ite, ite_self, implies_true, ↓State.mask_fst_ite, h0, h1, h2, h3, h4, h5, h6, h7]; done)
    | ((try dsimp only); (repeat' split) <;> first | (simp (maxDischargeDepth := 9) only [↓State.learnRequest_mask, ↓State.serveRequest_mask, ↓stateOf_next, ↓stateOf_ite, ↓State.mask_ite, ite_self, implies_true, ↓State.mask_fst_ite, h0, h1, h2, h3, h4, h5, h6, h7]; done) | (simp_all (maxDischargeDepth := 9) only [↓State.learnRequest_mask, ↓State.serveRequest_mask, ↓stateOf_next, ↓stateOf_ite, ↓State.mask_ite, ite_self, implies_true, ↓State.mask_fst_ite, h0, h1, h2, h3, h4, h5, h6, h7]; done))

theorem execRequestOltest_mask (k : Part → Bool) (i : Fin 3) (tag unit : Word) (shorted : Bool) (s : State) (h0 : k .fab = false) (h1 : k .tally = false) (h2 : k .portals = false) (h3 : k .ls = false) (h4 : k .jnl = false) (h5 : k .lnd = false) (h6 : k .tru = false) (h7 : k .sent = false) (h8 : k .freeSeq = false) :
    (stateOf s (execRequestOltest i tag unit shorted s)).mask k = s.mask k := by
  unfold execRequestOltest
  first
    | (simp (maxDischargeDepth := 9) only [↓State.oltRequest_mask, ↓State.serveRequest_mask, ↓stateOf_next, ↓stateOf_ite, ↓State.mask_ite, ite_self, implies_true, ↓State.mask_fst_ite, h0, h1, h2, h3, h4, h5, h6, h7, h8]; done)
    | ((try dsimp only); (repeat' split) <;> first | (simp (maxDischargeDepth := 9) only [↓State.oltRequest_mask, ↓State.serveRequest_mask, ↓stateOf_next, ↓stateOf_ite, ↓State.mask_ite, ite_self, implies_true, ↓State.mask_fst_ite, h0, h1, h2, h3, h4, h5, h6, h7, h8]; done) | (simp_all (maxDischargeDepth := 9) only [↓State.oltRequest_mask, ↓State.serveRequest_mask, ↓stateOf_next, ↓stateOf_ite, ↓State.mask_ite, ite_self, implies_true, ↓State.mask_fst_ite, h0, h1, h2, h3, h4, h5, h6, h7, h8]; done))

theorem execRequestFlush_mask (k : Part → Bool) (i : Fin 3) (tag unit : Word) (s : State) (h0 : k .fab = false) (h1 : k .tally = false) (h2 : k .jnl = false) (h3 : k .lnd = false) (h4 : k .tru = false) (h5 : k .sent = false) (h6 : k .freeSeq = false) :
    (stateOf s (execRequestFlush i tag unit s)).mask k = s.mask k := by
  unfold execRequestFlush
  first
    | (simp (maxDischargeDepth := 9) only [↓State.flush_mask, ↓State.serveRequest_mask, ↓stateOf_next, ↓stateOf_ite, ↓State.mask_ite, ite_self, implies_true, ↓State.mask_fst_ite, h0, h1, h2, h3, h4, h5, h6]; done)
    | ((try dsimp only); (repeat' split) <;> first | (simp (maxDischargeDepth := 9) only [↓State.flush_mask, ↓State.serveRequest_mask, ↓stateOf_next, ↓stateOf_ite, ↓State.mask_ite, ite_self, implies_true, ↓State.mask_fst_ite, h0, h1, h2, h3, h4, h5, h6]; done) | (simp_all (maxDischargeDepth := 9) only [↓State.flush_mask, ↓State.serveRequest_mask, ↓stateOf_next, ↓stateOf_ite, ↓State.mask_ite, ite_self, implies_true, ↓State.mask_fst_ite, h0, h1, h2, h3, h4, h5, h6]; done))

theorem execForceSet_mask (k : Part → Bool) (i : Fin 3) (tag t field value : Word) (ok0 ok1 : Bool) (s : State) (h0 : k .fab = false) (h1 : k .eng = false) (h2 : k .tally = false) (h3 : k .jnl = false) (h4 : k .lnd = false) (h5 : k .tru = false) (h6 : k .sent = false) (h7 : k .freeSeq = false) :
    (stateOf s (execForceSet i tag t field value ok0 ok1 s)).mask k = s.mask k := by
  unfold execForceSet
  first
    | (simp (maxDischargeDepth := 9) only [↓State.modEng_mask, ↓State.event_mask, ↓State.mramWrite_mask, ↓State.serve_mask, ↓stateOf_next, ↓stateOf_ite, ↓State.mask_ite, ite_self, implies_true, ↓State.mask_fst_ite, h0, h1, h2, h3, h4, h5, h6, h7]; done)
    | ((try dsimp only); (repeat' split) <;> first | (simp (maxDischargeDepth := 9) only [↓State.modEng_mask, ↓State.event_mask, ↓State.mramWrite_mask, ↓State.serve_mask, ↓stateOf_next, ↓stateOf_ite, ↓State.mask_ite, ite_self, implies_true, ↓State.mask_fst_ite, h0, h1, h2, h3, h4, h5, h6, h7]; done) | (simp_all (maxDischargeDepth := 9) only [↓State.modEng_mask, ↓State.event_mask, ↓State.mramWrite_mask, ↓State.serve_mask, ↓stateOf_next, ↓stateOf_ite, ↓State.mask_ite, ite_self, implies_true, ↓State.mask_fst_ite, h0, h1, h2, h3, h4, h5, h6, h7]; done))
    | (simp only [↓stateOf_next, ↓stateOf_ite]; (try dsimp only); refine State.serve_mask _ _ _ _ _ _ _ _ _ h0 h2 h3 h4 h5 h6 h7 fun _ => ?_; (try dsimp only); (repeat' split) <;> simp (maxDischargeDepth := 9) only [↓State.modEng_mask, ↓State.event_mask, ↓State.mramWrite_mask, ↓State.serve_mask, ↓stateOf_next, ↓stateOf_ite, ↓State.mask_ite, ite_self, implies_true, ↓State.mask_fst_ite, h0, h1, h2, h3, h4, h5, h6, h7]; done)
    | ((try dsimp only); split <;> simp only [↓stateOf_next, ↓stateOf_ite]; (try dsimp only) <;> first | (simp (maxDischargeDepth := 9) only [↓State.modEng_mask, ↓State.event_mask, ↓State.mramWrite_mask, ↓State.serve_mask, ↓stateOf_next, ↓stateOf_ite, ↓State.mask_ite, ite_self, implies_true, ↓State.mask_fst_ite, h0, h1, h2, h3, h4, h5, h6, h7]; done) | (refine State.serve_mask _ _ _ _ _ _ _ _ _ h0 h2 h3 h4 h5 h6 h7 fun _ => ?_; (try dsimp only); (repeat' split) <;> simp (maxDischargeDepth := 9) only [↓State.modEng_mask, ↓State.event_mask, ↓State.mramWrite_mask, ↓State.serve_mask, ↓stateOf_next, ↓stateOf_ite, ↓State.mask_ite, ite_self, implies_true, ↓State.mask_fst_ite, h0, h1, h2, h3, h4, h5, h6, h7]; done))

theorem execForceRelease_mask (k : Part → Bool) (i : Fin 3) (tag t field : Word) (s : State) (h0 : k .fab = false) (h1 : k .eng = false) (h2 : k .tally = false) (h3 : k .jnl = false) (h4 : k .lnd = false) (h5 : k .tru = false) (h6 : k .sent = false) (h7 : k .freeSeq = false) :
    (stateOf s (execForceRelease i tag t field s)).mask k = s.mask k := by
  unfold execForceRelease
  first
    | (simp (maxDischargeDepth := 9) only [↓State.modEng_mask, ↓State.event_mask, ↓State.serve_mask, ↓stateOf_next, ↓stateOf_ite, ↓State.mask_ite, ite_self, implies_true, ↓State.mask_fst_ite, h0, h1, h2, h3, h4, h5, h6, h7]; done)
    | ((try dsimp only); (repeat' split) <;> first | (simp (maxDischargeDepth := 9) only [↓State.modEng_mask, ↓State.event_mask, ↓State.serve_mask, ↓stateOf_next, ↓stateOf_ite, ↓State.mask_ite, ite_self, implies_true, ↓State.mask_fst_ite, h0, h1, h2, h3, h4, h5, h6, h7]; done) | (simp_all (maxDischargeDepth := 9) only [↓State.modEng_mask, ↓State.event_mask, ↓State.serve_mask, ↓stateOf_next, ↓stateOf_ite, ↓State.mask_ite, ite_self, implies_true, ↓State.mask_fst_ite, h0, h1, h2, h3, h4, h5, h6, h7]; done))
    | (simp only [↓stateOf_next, ↓stateOf_ite]; (try dsimp only); refine State.serve_mask _ _ _ _ _ _ _ _ _ h0 h2 h3 h4 h5 h6 h7 fun _ => ?_; (try dsimp only); (repeat' split) <;> simp (maxDischargeDepth := 9) only [↓State.modEng_mask, ↓State.event_mask, ↓State.serve_mask, ↓stateOf_next, ↓stateOf_ite, ↓State.mask_ite, ite_self, implies_true, ↓State.mask_fst_ite, h0, h1, h2, h3, h4, h5, h6, h7]; done)
    | ((try dsimp only); split <;> simp only [↓stateOf_next, ↓stateOf_ite]; (try dsimp only) <;> first | (simp (maxDischargeDepth := 9) only [↓State.modEng_mask, ↓State.event_mask, ↓State.serve_mask, ↓stateOf_next, ↓stateOf_ite, ↓State.mask_ite, ite_self, implies_true, ↓State.mask_fst_ite, h0, h1, h2, h3, h4, h5, h6, h7]; done) | (refine State.serve_mask _ _ _ _ _ _ _ _ _ h0 h2 h3 h4 h5 h6 h7 fun _ => ?_; (try dsimp only); (repeat' split) <;> simp (maxDischargeDepth := 9) only [↓State.modEng_mask, ↓State.event_mask, ↓State.serve_mask, ↓stateOf_next, ↓stateOf_ite, ↓State.mask_ite, ite_self, implies_true, ↓State.mask_fst_ite, h0, h1, h2, h3, h4, h5, h6, h7]; done))

theorem execForceList_mask (k : Part → Bool) (i : Fin 3) (tag : Word) (s : State) (h0 : k .fab = false) (h1 : k .tally = false) (h2 : k .jnl = false) (h3 : k .lnd = false) (h4 : k .tru = false) (h5 : k .sent = false) (h6 : k .freeSeq = false) :
    (stateOf s (execForceList i tag s)).mask k = s.mask k := by
  unfold execForceList
  first
    | (simp (maxDischargeDepth := 9) only [↓State.serve_mask, ↓stateOf_next, ↓stateOf_ite, ↓State.mask_ite, ite_self, implies_true, ↓State.mask_fst_ite, h0, h1, h2, h3, h4, h5, h6]; done)
    | ((try dsimp only); (repeat' split) <;> first | (simp (maxDischargeDepth := 9) only [↓State.serve_mask, ↓stateOf_next, ↓stateOf_ite, ↓State.mask_ite, ite_self, implies_true, ↓State.mask_fst_ite, h0, h1, h2, h3, h4, h5, h6]; done) | (simp_all (maxDischargeDepth := 9) only [↓State.serve_mask, ↓stateOf_next, ↓stateOf_ite, ↓State.mask_ite, ite_self, implies_true, ↓State.mask_fst_ite, h0, h1, h2, h3, h4, h5, h6]; done))
    | (simp only [↓stateOf_next, ↓stateOf_ite]; (try dsimp only); refine State.serve_mask _ _ _ _ _ _ _ _ _ h0 h1 h2 h3 h4 h5 h6 fun _ => ?_; (try dsimp only); (repeat' split) <;> simp (maxDischargeDepth := 9) only [↓State.serve_mask, ↓stateOf_next, ↓stateOf_ite, ↓State.mask_ite, ite_self, implies_true, ↓State.mask_fst_ite, h0, h1, h2, h3, h4, h5, h6]; done)
    | ((try dsimp only); split <;> simp only [↓stateOf_next, ↓stateOf_ite]; (try dsimp only) <;> first | (simp (maxDischargeDepth := 9) only [↓State.serve_mask, ↓stateOf_next, ↓stateOf_ite, ↓State.mask_ite, ite_self, implies_true, ↓State.mask_fst_ite, h0, h1, h2, h3, h4, h5, h6]; done) | (refine State.serve_mask _ _ _ _ _ _ _ _ _ h0 h1 h2 h3 h4 h5 h6 fun _ => ?_; (try dsimp only); (repeat' split) <;> simp (maxDischargeDepth := 9) only [↓State.serve_mask, ↓stateOf_next, ↓stateOf_ite, ↓State.mask_ite, ite_self, implies_true, ↓State.mask_fst_ite, h0, h1, h2, h3, h4, h5, h6]; done))

theorem execTallyRead_mask (k : Part → Bool) (i : Fin 3) (tag : Word) (seq : BitVec 64) (maxlen flags : Word) (s : State) (h0 : k .fab = false) (h1 : k .tally = false) (h2 : k .jnl = false) (h3 : k .lnd = false) (h4 : k .tru = false) (h5 : k .sent = false) (h6 : k .freeSeq = false) :
    (stateOf s (execTallyRead i tag seq maxlen flags s)).mask k = s.mask k := by
  unfold execTallyRead
  first
    | (simp (maxDischargeDepth := 9) only [↓State.serve_mask, ↓stateOf_next, ↓stateOf_ite, ↓State.mask_ite, ite_self, implies_true, ↓State.mask_fst_ite, h0, h1, h2, h3, h4, h5, h6]; done)
    | ((try dsimp only); (repeat' split) <;> first | (simp (maxDischargeDepth := 9) only [↓State.serve_mask, ↓stateOf_next, ↓stateOf_ite, ↓State.mask_ite, ite_self, implies_true, ↓State.mask_fst_ite, h0, h1, h2, h3, h4, h5, h6]; done) | (simp_all (maxDischargeDepth := 9) only [↓State.serve_mask, ↓stateOf_next, ↓stateOf_ite, ↓State.mask_ite, ite_self, implies_true, ↓State.mask_fst_ite, h0, h1, h2, h3, h4, h5, h6]; done))
    | (simp only [↓stateOf_next, ↓stateOf_ite]; (try dsimp only); refine State.serve_mask _ _ _ _ _ _ _ _ _ h0 h1 h2 h3 h4 h5 h6 fun _ => ?_; (try dsimp only); (repeat' split) <;> simp (maxDischargeDepth := 9) only [↓State.serve_mask, ↓stateOf_next, ↓stateOf_ite, ↓State.mask_ite, ite_self, implies_true, ↓State.mask_fst_ite, h0, h1, h2, h3, h4, h5, h6]; done)
    | ((try dsimp only); split <;> simp only [↓stateOf_next, ↓stateOf_ite]; (try dsimp only) <;> first | (simp (maxDischargeDepth := 9) only [↓State.serve_mask, ↓stateOf_next, ↓stateOf_ite, ↓State.mask_ite, ite_self, implies_true, ↓State.mask_fst_ite, h0, h1, h2, h3, h4, h5, h6]; done) | (refine State.serve_mask _ _ _ _ _ _ _ _ _ h0 h1 h2 h3 h4 h5 h6 fun _ => ?_; (try dsimp only); (repeat' split) <;> simp (maxDischargeDepth := 9) only [↓State.serve_mask, ↓stateOf_next, ↓stateOf_ite, ↓State.mask_ite, ite_self, implies_true, ↓State.mask_fst_ite, h0, h1, h2, h3, h4, h5, h6]; done))

theorem execCommission_mask (k : Part → Bool) (i : Fin 3) (tag : Word) (s : State) (h0 : k .fab = false) (h1 : k .tally = false) (h2 : k .jnl = false) (h3 : k .lnd = false) (h4 : k .tru = false) (h5 : k .sent = false) (h6 : k .freeSeq = false) :
    (stateOf s (execCommission i tag s)).mask k = s.mask k := by
  unfold execCommission
  first
    | (simp (maxDischargeDepth := 9) only [↓State.commission_mask, ↓State.serve_mask, ↓stateOf_next, ↓stateOf_ite, ↓State.mask_ite, ite_self, implies_true, ↓State.mask_fst_ite, h0, h1, h2, h3, h4, h5, h6]; done)
    | ((try dsimp only); (repeat' split) <;> first | (simp (maxDischargeDepth := 9) only [↓State.commission_mask, ↓State.serve_mask, ↓stateOf_next, ↓stateOf_ite, ↓State.mask_ite, ite_self, implies_true, ↓State.mask_fst_ite, h0, h1, h2, h3, h4, h5, h6]; done) | (simp_all (maxDischargeDepth := 9) only [↓State.commission_mask, ↓State.serve_mask, ↓stateOf_next, ↓stateOf_ite, ↓State.mask_ite, ite_self, implies_true, ↓State.mask_fst_ite, h0, h1, h2, h3, h4, h5, h6]; done))
    | (simp only [↓stateOf_next, ↓stateOf_ite]; (try dsimp only); refine State.serve_mask _ _ _ _ _ _ _ _ _ h0 h1 h2 h3 h4 h5 h6 fun _ => ?_; (try dsimp only); (repeat' split) <;> simp (maxDischargeDepth := 9) only [↓State.commission_mask, ↓State.serve_mask, ↓stateOf_next, ↓stateOf_ite, ↓State.mask_ite, ite_self, implies_true, ↓State.mask_fst_ite, h0, h1, h2, h3, h4, h5, h6]; done)
    | ((try dsimp only); split <;> simp only [↓stateOf_next, ↓stateOf_ite]; (try dsimp only) <;> first | (simp (maxDischargeDepth := 9) only [↓State.commission_mask, ↓State.serve_mask, ↓stateOf_next, ↓stateOf_ite, ↓State.mask_ite, ite_self, implies_true, ↓State.mask_fst_ite, h0, h1, h2, h3, h4, h5, h6]; done) | (refine State.serve_mask _ _ _ _ _ _ _ _ _ h0 h1 h2 h3 h4 h5 h6 fun _ => ?_; (try dsimp only); (repeat' split) <;> simp (maxDischargeDepth := 9) only [↓State.commission_mask, ↓State.serve_mask, ↓stateOf_next, ↓stateOf_ite, ↓State.mask_ite, ite_self, implies_true, ↓State.mask_fst_ite, h0, h1, h2, h3, h4, h5, h6]; done))

theorem execCommand_mask (k : Part → Bool) (i : Fin 3) (tag connid tseq : Word) (kind target : Byte) (pad : BitVec 16) (arg expms : Word) (s : State) (h0 : k .fab = false) (h1 : k .tally = false) (h2 : k .jnl = false) (h3 : k .lnd = false) (h4 : k .tru = false) (h5 : k .sent = false) (h6 : k .freeSeq = false) :
    (stateOf s (execCommand i tag connid tseq kind target pad arg expms s)).mask k = s.mask k := by
  unfold execCommand
  first
    | (simp (maxDischargeDepth := 9) only [↓State.commandIn_mask, ↓State.serve_mask, ↓stateOf_next, ↓stateOf_ite, ↓State.mask_ite, ite_self, implies_true, ↓State.mask_fst_ite, h0, h1, h2, h3, h4, h5, h6]; done)
    | ((try dsimp only); (repeat' split) <;> first | (simp (maxDischargeDepth := 9) only [↓State.commandIn_mask, ↓State.serve_mask, ↓stateOf_next, ↓stateOf_ite, ↓State.mask_ite, ite_self, implies_true, ↓State.mask_fst_ite, h0, h1, h2, h3, h4, h5, h6]; done) | (simp_all (maxDischargeDepth := 9) only [↓State.commandIn_mask, ↓State.serve_mask, ↓stateOf_next, ↓stateOf_ite, ↓State.mask_ite, ite_self, implies_true, ↓State.mask_fst_ite, h0, h1, h2, h3, h4, h5, h6]; done))
    | (simp only [↓stateOf_next, ↓stateOf_ite]; (try dsimp only); refine State.serve_mask _ _ _ _ _ _ _ _ _ h0 h1 h2 h3 h4 h5 h6 fun _ => ?_; (try dsimp only); (repeat' split) <;> simp (maxDischargeDepth := 9) only [↓State.commandIn_mask, ↓State.serve_mask, ↓stateOf_next, ↓stateOf_ite, ↓State.mask_ite, ite_self, implies_true, ↓State.mask_fst_ite, h0, h1, h2, h3, h4, h5, h6]; done)
    | ((try dsimp only); split <;> simp only [↓stateOf_next, ↓stateOf_ite]; (try dsimp only) <;> first | (simp (maxDischargeDepth := 9) only [↓State.commandIn_mask, ↓State.serve_mask, ↓stateOf_next, ↓stateOf_ite, ↓State.mask_ite, ite_self, implies_true, ↓State.mask_fst_ite, h0, h1, h2, h3, h4, h5, h6]; done) | (refine State.serve_mask _ _ _ _ _ _ _ _ _ h0 h1 h2 h3 h4 h5 h6 fun _ => ?_; (try dsimp only); (repeat' split) <;> simp (maxDischargeDepth := 9) only [↓State.commandIn_mask, ↓State.serve_mask, ↓stateOf_next, ↓stateOf_ite, ↓State.mask_ite, ite_self, implies_true, ↓State.mask_fst_ite, h0, h1, h2, h3, h4, h5, h6]; done))

end Sys2Proof.Machine
end

