-- ==== Sys2Proof/Laws/FrameTrustCmd.lean ====
section
/-! SUPPORT. What each operation of Machine/TrustCmd.lean can change: it keeps every part of the state that it is not named to change. -/

set_option linter.unusedSimpArgs false

namespace Sys2Proof.Machine

theorem execAttest_mask (k : Part → Bool) (i : Fin 3) (tag : Word) (nonce : List Byte) (s : State) (h0 : k .fab = false) (h1 : k .tally = false) (h2 : k .jnl = false) (h3 : k .lnd = false) (h4 : k .tru = false) (h5 : k .sent = false) (h6 : k .freeSeq = false) :
    (stateOf s (execAttest i tag nonce s)).mask k = s.mask k := by
  unfold execAttest
  first
    | (simp (maxDischargeDepth := 9) only [↓State.modTru_mask, ↓State.serve_mask, ↓stateOf_next, ↓stateOf_ite, ↓State.mask_ite, ite_self, implies_true, ↓State.mask_fst_ite, h0, h1, h2, h3, h4, h5, h6]; done)
    | ((try dsimp only); (repeat' split) <;> first | (simp (maxDischargeDepth := 9) only [↓State.modTru_mask, ↓State.serve_mask, ↓stateOf_next, ↓stateOf_ite, ↓State.mask_ite, ite_self, implies_true, ↓State.mask_fst_ite, h0, h1, h2, h3, h4, h5, h6]; done) | (simp_all (maxDischargeDepth := 9) only [↓State.modTru_mask, ↓State.serve_mask, ↓stateOf_next, ↓stateOf_ite, ↓State.mask_ite, ite_self, implies_true, ↓State.mask_fst_ite, h0, h1, h2, h3, h4, h5, h6]; done))
    | (simp only [↓stateOf_next, ↓stateOf_ite]; (try dsimp only); refine State.serve_mask _ _ _ _ _ _ _ _ _ h0 h1 h2 h3 h4 h5 h6 fun _ => ?_; (try dsimp only); (repeat' split) <;> simp (maxDischargeDepth := 9) only [↓State.modTru_mask, ↓State.serve_mask, ↓stateOf_next, ↓stateOf_ite, ↓State.mask_ite, ite_self, implies_true, ↓State.mask_fst_ite, h0, h1, h2, h3, h4, h5, h6]; done)
    | ((try dsimp only); split <;> simp only [↓stateOf_next, ↓stateOf_ite]; (try dsimp only) <;> first | (simp (maxDischargeDepth := 9) only [↓State.modTru_mask, ↓State.serve_mask, ↓stateOf_next, ↓stateOf_ite, ↓State.mask_ite, ite_self, implies_true, ↓State.mask_fst_ite, h0, h1, h2, h3, h4, h5, h6]; done) | (refine State.serve_mask _ _ _ _ _ _ _ _ _ h0 h1 h2 h3 h4 h5 h6 fun _ => ?_; (try dsimp only); (repeat' split) <;> simp (maxDischargeDepth := 9) only [↓State.modTru_mask, ↓State.serve_mask, ↓stateOf_next, ↓stateOf_ite, ↓State.mask_ite, ite_self, implies_true, ↓State.mask_fst_ite, h0, h1, h2, h3, h4, h5, h6]; done))

theorem execAttestationReportReady_mask (k : Part → Bool) (s : State) (h0 : k .tru = false) (h1 : k .sent = false) :
    (stateOf s (execAttestationReportReady s)).mask k = s.mask k := by
  unfold execAttestationReportReady
  first
    | (simp (maxDischargeDepth := 9) only [↓State.attestDone_mask, ↓stateOf_next, ↓stateOf_ite, ↓State.mask_ite, ite_self, implies_true, h0, h1]; done)
    | ((try dsimp only); (repeat' split) <;> first | (simp (maxDischargeDepth := 9) only [↓State.attestDone_mask, ↓stateOf_next, ↓stateOf_ite, ↓State.mask_ite, ite_self, implies_true, h0, h1]; done) | (simp_all (maxDischargeDepth := 9) only [↓State.attestDone_mask, ↓stateOf_next, ↓stateOf_ite, ↓State.mask_ite, ite_self, implies_true, h0, h1]; done))

theorem State.fwChunk_mask (k : Part → Bool) (s : State) (i : Fin 3) (ofs total : Word) (b : List Byte) (h0 : k .tru = false) :
    (State.fwChunk s i ofs total b).1.mask k = s.mask k := by
  unfold State.fwChunk
  first
    | (simp (maxDischargeDepth := 9) only [↓State.modTru_mask, ↓State.mask_ite, ite_self, implies_true, ↓State.mask_fst_ite, h0]; done)
    | ((try dsimp only); (repeat' split) <;> first | (simp (maxDischargeDepth := 9) only [↓State.modTru_mask, ↓State.mask_ite, ite_self, implies_true, ↓State.mask_fst_ite, h0]; done) | (simp_all (maxDischargeDepth := 9) only [↓State.modTru_mask, ↓State.mask_ite, ite_self, implies_true, ↓State.mask_fst_ite, h0]; done))

theorem execFwWrite_mask (k : Part → Bool) (i : Fin 3) (tag ofs total : Word) (b : List Byte) (s : State) (h0 : k .fab = false) (h1 : k .tally = false) (h2 : k .jnl = false) (h3 : k .lnd = false) (h4 : k .tru = false) (h5 : k .sent = false) (h6 : k .freeSeq = false) :
    (stateOf s (execFwWrite i tag ofs total b s)).mask k = s.mask k := by
  unfold execFwWrite
  first
    | (simp (maxDischargeDepth := 9) only [↓State.serve_mask, ↓State.fwChunk_mask, ↓stateOf_next, ↓stateOf_ite, ↓State.mask_ite, ite_self, implies_true, ↓State.mask_fst_ite, h0, h1, h2, h3, h4, h5, h6]; done)
    | ((try dsimp only); (repeat' split) <;> first | (simp (maxDischargeDepth := 9) only [↓State.serve_mask, ↓State.fwChunk_mask, ↓stateOf_next, ↓stateOf_ite, ↓State.mask_ite, ite_self, implies_true, ↓State.mask_fst_ite, h0, h1, h2, h3, h4, h5, h6]; done) | (simp_all (maxDischargeDepth := 9) only [↓State.serve_mask, ↓State.fwChunk_mask, ↓stateOf_next, ↓stateOf_ite, ↓State.mask_ite, ite_self, implies_true, ↓State.mask_fst_ite, h0, h1, h2, h3, h4, h5, h6]; done))
    | (simp only [↓stateOf_next, ↓stateOf_ite]; (try dsimp only); refine State.serve_mask _ _ _ _ _ _ _ _ _ h0 h1 h2 h3 h4 h5 h6 fun _ => ?_; (try dsimp only); (repeat' split) <;> simp (maxDischargeDepth := 9) only [↓State.serve_mask, ↓State.fwChunk_mask, ↓stateOf_next, ↓stateOf_ite, ↓State.mask_ite, ite_self, implies_true, ↓State.mask_fst_ite, h0, h1, h2, h3, h4, h5, h6]; done)
    | ((try dsimp only); split <;> simp only [↓stateOf_next, ↓stateOf_ite]; (try dsimp only) <;> first | (simp (maxDischargeDepth := 9) only [↓State.serve_mask, ↓State.fwChunk_mask, ↓stateOf_next, ↓stateOf_ite, ↓State.mask_ite, ite_self, implies_true, ↓State.mask_fst_ite, h0, h1, h2, h3, h4, h5, h6]; done) | (refine State.serve_mask _ _ _ _ _ _ _ _ _ h0 h1 h2 h3 h4 h5 h6 fun _ => ?_; (try dsimp only); (repeat' split) <;> simp (maxDischargeDepth := 9) only [↓State.serve_mask, ↓State.fwChunk_mask, ↓stateOf_next, ↓stateOf_ite, ↓State.mask_ite, ite_self, implies_true, ↓State.mask_fst_ite, h0, h1, h2, h3, h4, h5, h6]; done))

theorem execEnvWrite_mask (k : Part → Bool) (i : Fin 3) (tag : Word) (cert : List Byte) (s : State) (h0 : k .fab = false) (h1 : k .tally = false) (h2 : k .jnl = false) (h3 : k .lnd = false) (h4 : k .tru = false) (h5 : k .sent = false) (h6 : k .freeSeq = false) :
    (stateOf s (execEnvWrite i tag cert s)).mask k = s.mask k := by
  unfold execEnvWrite
  first
    | (simp (maxDischargeDepth := 9) only [↓State.modTru_mask, ↓State.serve_mask, ↓stateOf_next, ↓stateOf_ite, ↓State.mask_ite, ite_self, implies_true, ↓State.mask_fst_ite, h0, h1, h2, h3, h4, h5, h6]; done)
    | ((try dsimp only); (repeat' split) <;> first | (simp (maxDischargeDepth := 9) only [↓State.modTru_mask, ↓State.serve_mask, ↓stateOf_next, ↓stateOf_ite, ↓State.mask_ite, ite_self, implies_true, ↓State.mask_fst_ite, h0, h1, h2, h3, h4, h5, h6]; done) | (simp_all (maxDischargeDepth := 9) only [↓State.modTru_mask, ↓State.serve_mask, ↓stateOf_next, ↓stateOf_ite, ↓State.mask_ite, ite_self, implies_true, ↓State.mask_fst_ite, h0, h1, h2, h3, h4, h5, h6]; done))
    | (simp only [↓stateOf_next, ↓stateOf_ite]; (try dsimp only); refine State.serve_mask _ _ _ _ _ _ _ _ _ h0 h1 h2 h3 h4 h5 h6 fun _ => ?_; (try dsimp only); (repeat' split) <;> simp (maxDischargeDepth := 9) only [↓State.modTru_mask, ↓State.serve_mask, ↓stateOf_next, ↓stateOf_ite, ↓State.mask_ite, ite_self, implies_true, ↓State.mask_fst_ite, h0, h1, h2, h3, h4, h5, h6]; done)
    | ((try dsimp only); split <;> simp only [↓stateOf_next, ↓stateOf_ite]; (try dsimp only) <;> first | (simp (maxDischargeDepth := 9) only [↓State.modTru_mask, ↓State.serve_mask, ↓stateOf_next, ↓stateOf_ite, ↓State.mask_ite, ite_self, implies_true, ↓State.mask_fst_ite, h0, h1, h2, h3, h4, h5, h6]; done) | (refine State.serve_mask _ _ _ _ _ _ _ _ _ h0 h1 h2 h3 h4 h5 h6 fun _ => ?_; (try dsimp only); (repeat' split) <;> simp (maxDischargeDepth := 9) only [↓State.modTru_mask, ↓State.serve_mask, ↓stateOf_next, ↓stateOf_ite, ↓State.mask_ite, ite_self, implies_true, ↓State.mask_fst_ite, h0, h1, h2, h3, h4, h5, h6]; done))

theorem execAnchorWrite_mask (k : Part → Bool) (i : Fin 3) (tag slot : Word) (key : List Byte) (s : State) (h0 : k .fab = false) (h1 : k .tally = false) (h2 : k .jnl = false) (h3 : k .lnd = false) (h4 : k .tru = false) (h5 : k .sent = false) (h6 : k .freeSeq = false) :
    (stateOf s (execAnchorWrite i tag slot key s)).mask k = s.mask k := by
  unfold execAnchorWrite
  first
    | (simp (maxDischargeDepth := 9) only [↓State.modTru_mask, ↓State.serve_mask, ↓stateOf_next, ↓stateOf_ite, ↓State.mask_ite, ite_self, implies_true, ↓State.mask_fst_ite, h0, h1, h2, h3, h4, h5, h6]; done)
    | ((try dsimp only); (repeat' split) <;> first | (simp (maxDischargeDepth := 9) only [↓State.modTru_mask, ↓State.serve_mask, ↓stateOf_next, ↓stateOf_ite, ↓State.mask_ite, ite_self, implies_true, ↓State.mask_fst_ite, h0, h1, h2, h3, h4, h5, h6]; done) | (simp_all (maxDischargeDepth := 9) only [↓State.modTru_mask, ↓State.serve_mask, ↓stateOf_next, ↓stateOf_ite, ↓State.mask_ite, ite_self, implies_true, ↓State.mask_fst_ite, h0, h1, h2, h3, h4, h5, h6]; done))
    | (simp only [↓stateOf_next, ↓stateOf_ite]; (try dsimp only); refine State.serve_mask _ _ _ _ _ _ _ _ _ h0 h1 h2 h3 h4 h5 h6 fun _ => ?_; (try dsimp only); (repeat' split) <;> simp (maxDischargeDepth := 9) only [↓State.modTru_mask, ↓State.serve_mask, ↓stateOf_next, ↓stateOf_ite, ↓State.mask_ite, ite_self, implies_true, ↓State.mask_fst_ite, h0, h1, h2, h3, h4, h5, h6]; done)
    | ((try dsimp only); split <;> simp only [↓stateOf_next, ↓stateOf_ite]; (try dsimp only) <;> first | (simp (maxDischargeDepth := 9) only [↓State.modTru_mask, ↓State.serve_mask, ↓stateOf_next, ↓stateOf_ite, ↓State.mask_ite, ite_self, implies_true, ↓State.mask_fst_ite, h0, h1, h2, h3, h4, h5, h6]; done) | (refine State.serve_mask _ _ _ _ _ _ _ _ _ h0 h1 h2 h3 h4 h5 h6 fun _ => ?_; (try dsimp only); (repeat' split) <;> simp (maxDischargeDepth := 9) only [↓State.modTru_mask, ↓State.serve_mask, ↓stateOf_next, ↓stateOf_ite, ↓State.mask_ite, ite_self, implies_true, ↓State.mask_fst_ite, h0, h1, h2, h3, h4, h5, h6]; done))

theorem State.dueSwitch_mask (k : Part → Bool) (s : State) (h0 : k .mono = false) (h1 : k .mem = false) (h2 : k .eng = false) (h3 : k .tally = false) (h4 : k .axes = false) (h5 : k .portals = false) (h6 : k .fel = false) (h7 : k .sde = false) (h8 : k .ls = false) (h9 : k .kerf = false) (h10 : k .fio = false) (h11 : k .safe = false) (h12 : k .jnl = false) (h13 : k .net = false) (h14 : k .lnd = false) (h15 : k .pwr = false) (h16 : k .sent = false) :
    (State.dueSwitch s).mask k = s.mask k := by
  unfold State.dueSwitch
  first
    | (simp (maxDischargeDepth := 9) only [↓State.switch_mask, ↓State.mask_ite, ite_self, implies_true, h0, h1, h2, h3, h4, h5, h6, h7, h8, h9, h10, h11, h12, h13, h14, h15, h16]; done)
    | ((try dsimp only); (repeat' split) <;> first | (simp (maxDischargeDepth := 9) only [↓State.switch_mask, ↓State.mask_ite, ite_self, implies_true, h0, h1, h2, h3, h4, h5, h6, h7, h8, h9, h10, h11, h12, h13, h14, h15, h16]; done) | (simp_all (maxDischargeDepth := 9) only [↓State.switch_mask, ↓State.mask_ite, ite_self, implies_true, h0, h1, h2, h3, h4, h5, h6, h7, h8, h9, h10, h11, h12, h13, h14, h15, h16]; done))

theorem State.raiseRbimg_mask (k : Part → Bool) (s : State) (h0 : k .tru = false) :
    (State.raiseRbimg s).1.mask k = s.mask k := by
  unfold State.raiseRbimg
  first
    | (simp (maxDischargeDepth := 9) only [↓State.modTru_mask, ↓State.mask_ite, ite_self, implies_true, ↓State.mask_fst_ite, h0]; done)
    | ((try dsimp only); (repeat' split) <;> first | (simp (maxDischargeDepth := 9) only [↓State.modTru_mask, ↓State.mask_ite, ite_self, implies_true, ↓State.mask_fst_ite, h0]; done) | (simp_all (maxDischargeDepth := 9) only [↓State.modTru_mask, ↓State.mask_ite, ite_self, implies_true, ↓State.mask_fst_ite, h0]; done))

theorem execAdvance_mask (k : Part → Bool) (i : Fin 3) (tag counter : Word) (s : State) (h0 : k .mono = false) (h1 : k .fab = false) (h2 : k .mem = false) (h3 : k .eng = false) (h4 : k .tally = false) (h5 : k .axes = false) (h6 : k .portals = false) (h7 : k .fel = false) (h8 : k .sde = false) (h9 : k .ls = false) (h10 : k .kerf = false) (h11 : k .fio = false) (h12 : k .safe = false) (h13 : k .jnl = false) (h14 : k .net = false) (h15 : k .lnd = false) (h16 : k .tru = false) (h17 : k .pwr = false) (h18 : k .sent = false) (h19 : k .freeSeq = false) :
    (stateOf s (execAdvance i tag counter s)).mask k = s.mask k := by
  unfold execAdvance
  first
    | (simp (maxDischargeDepth := 9) only [↓State.modTru_mask, ↓State.serve_mask, ↓State.dueSwitch_mask, ↓State.raiseRbimg_mask, ↓stateOf_next, ↓stateOf_ite, ↓State.mask_ite, ite_self, implies_true, ↓State.mask_fst_ite, h0, h1, h2, h3, h4, h5, h6, h7, h8, h9, h10, h11, h12, h13, h14, h15, h16, h17, h18, h19]; done)
    | ((try dsimp only); (repeat' split) <;> first | (simp (maxDischargeDepth := 9) only [↓State.modTru_mask, ↓State.serve_mask, ↓State.dueSwitch_mask, ↓State.raiseRbimg_mask, ↓stateOf_next, ↓stateOf_ite, ↓State.mask_ite, ite_self, implies_true, ↓State.mask_fst_ite, h0, h1, h2, h3, h4, h5, h6, h7, h8, h9, h10, h11, h12, h13, h14, h15, h16, h17, h18, h19]; done) | (simp_all (maxDischargeDepth := 9) only [↓State.modTru_mask, ↓State.serve_mask, ↓State.dueSwitch_mask, ↓State.raiseRbimg_mask, ↓stateOf_next, ↓stateOf_ite, ↓State.mask_ite, ite_self, implies_true, ↓State.mask_fst_ite, h0, h1, h2, h3, h4, h5, h6, h7, h8, h9, h10, h11, h12, h13, h14, h15, h16, h17, h18, h19]; done))
    | (simp only [↓stateOf_next, ↓stateOf_ite]; (try dsimp only); refine State.serve_mask _ _ _ _ _ _ _ _ _ h1 h4 h13 h15 h16 h18 h19 fun _ => ?_; (try dsimp only); (repeat' split) <;> simp (maxDischargeDepth := 9) only [↓State.modTru_mask, ↓State.serve_mask, ↓State.dueSwitch_mask, ↓State.raiseRbimg_mask, ↓stateOf_next, ↓stateOf_ite, ↓State.mask_ite, ite_self, implies_true, ↓State.mask_fst_ite, h0, h1, h2, h3, h4, h5, h6, h7, h8, h9, h10, h11, h12, h13, h14, h15, h16, h17, h18, h19]; done)
    | ((try dsimp only); split <;> simp only [↓stateOf_next, ↓stateOf_ite]; (try dsimp only) <;> first | (simp (maxDischargeDepth := 9) only [↓State.modTru_mask, ↓State.serve_mask, ↓State.dueSwitch_mask, ↓State.raiseRbimg_mask, ↓stateOf_next, ↓stateOf_ite, ↓State.mask_ite, ite_self, implies_true, ↓State.mask_fst_ite, h0, h1, h2, h3, h4, h5, h6, h7, h8, h9, h10, h11, h12, h13, h14, h15, h16, h17, h18, h19]; done) | (refine State.serve_mask _ _ _ _ _ _ _ _ _ h1 h4 h13 h15 h16 h18 h19 fun _ => ?_; (try dsimp only); (repeat' split) <;> simp (maxDischargeDepth := 9) only [↓State.modTru_mask, ↓State.serve_mask, ↓State.dueSwitch_mask, ↓State.raiseRbimg_mask, ↓stateOf_next, ↓stateOf_ite, ↓State.mask_ite, ite_self, implies_true, ↓State.mask_fst_ite, h0, h1, h2, h3, h4, h5, h6, h7, h8, h9, h10, h11, h12, h13, h14, h15, h16, h17, h18, h19]; done))

end Sys2Proof.Machine
end

