-- ==== Sys2Proof/Laws/FrameStartOps.lean ====
section
/-! SUPPORT. What each operation of Machine/StartOps.lean can change: it keeps every part of the state that it is not named to change. -/

set_option linter.unusedSimpArgs false

namespace Sys2Proof.Machine

theorem State.assertReset_mask (k : Part → Bool) (s : State) (src : StartSrc) (h0 : k .eng = false) (h1 : k .tally = false) (h2 : k .axes = false) (h3 : k .portals = false) (h4 : k .fel = false) (h5 : k .sde = false) (h6 : k .ls = false) (h7 : k .lsg = false) (h8 : k .kerf = false) (h9 : k .fio = false) (h10 : k .safe = false) (h11 : k .lnd = false) (h12 : k .tru = false) (h13 : k .pwr = false) (h14 : k .boot = false) (h15 : k .sent = false) :
    (State.assertReset s src).mask k = s.mask k := by
  unfold State.assertReset
  first
    | (simp (maxDischargeDepth := 9) only [↓State.modPwrReg_mask, ↓State.endSessions_mask, ↓State.aResetLine_mask, ↓State.headsOff_mask, ↓State.bridgesOffAll_mask, ↓State.outputsOff_mask, ↓State.linesLow_mask, ↓State.safetyStop_mask, ↓State.egressDrive_mask, ↓State.mask_with_eng, ↓State.mask_with_tally, ↓State.mask_with_axes, ↓State.mask_with_portals, ↓State.mask_with_fel, ↓State.mask_with_sde, ↓State.mask_with_ls, ↓State.mask_with_lsg, ↓State.mask_with_kerf, ↓State.mask_with_fio, ↓State.mask_with_safe, ↓State.mask_with_lnd, ↓State.mask_with_tru, ↓State.mask_with_pwr, ↓State.mask_with_boot, ↓State.mask_with_sent, ↓State.mask_ite, ite_self, implies_true, h0, h1, h2, h3, h4, h5, h6, h7, h8, h9, h10, h11, h12, h13, h14, h15]; done)
    | ((try dsimp only); (repeat' split) <;> first | (simp (maxDischargeDepth := 9) only [↓State.modPwrReg_mask, ↓State.endSessions_mask, ↓State.aResetLine_mask, ↓State.headsOff_mask, ↓State.bridgesOffAll_mask, ↓State.outputsOff_mask, ↓State.linesLow_mask, ↓State.safetyStop_mask, ↓State.egressDrive_mask, ↓State.mask_with_eng, ↓State.mask_with_tally, ↓State.mask_with_axes, ↓State.mask_with_portals, ↓State.mask_with_fel, ↓State.mask_with_sde, ↓State.mask_with_ls, ↓State.mask_with_lsg, ↓State.mask_with_kerf, ↓State.mask_with_fio, ↓State.mask_with_safe, ↓State.mask_with_lnd, ↓State.mask_with_tru, ↓State.mask_with_pwr, ↓State.mask_with_boot, ↓State.mask_with_sent, ↓State.mask_ite, ite_self, implies_true, h0, h1, h2, h3, h4, h5, h6, h7, h8, h9, h10, h11, h12, h13, h14, h15]; done) | (simp_all (maxDischargeDepth := 9) only [↓State.modPwrReg_mask, ↓State.endSessions_mask, ↓State.aResetLine_mask, ↓State.headsOff_mask, ↓State.bridgesOffAll_mask, ↓State.outputsOff_mask, ↓State.linesLow_mask, ↓State.safetyStop_mask, ↓State.egressDrive_mask, ↓State.mask_with_eng, ↓State.mask_with_tally, ↓State.mask_with_axes, ↓State.mask_with_portals, ↓State.mask_with_fel, ↓State.mask_with_sde, ↓State.mask_with_ls, ↓State.mask_with_lsg, ↓State.mask_with_kerf, ↓State.mask_with_fio, ↓State.mask_with_safe, ↓State.mask_with_lnd, ↓State.mask_with_tru, ↓State.mask_with_pwr, ↓State.mask_with_boot, ↓State.mask_with_sent, ↓State.mask_ite, ite_self, implies_true, h0, h1, h2, h3, h4, h5, h6, h7, h8, h9, h10, h11, h12, h13, h14, h15]; done))
    | (simp only [State.mask, Bool.false_eq_true, ↓reduceIte, h0, h1, h2, h3, h4, h5, h6, h7, h8, h9, h10, h11, h12, h13, h14, h15]; done)
    | (simp (maxDischargeDepth := 9) only [↓State.modPwrReg_mask, ↓State.endSessions_mask, ↓State.aResetLine_mask, ↓State.headsOff_mask, ↓State.bridgesOffAll_mask, ↓State.outputsOff_mask, ↓State.linesLow_mask, ↓State.safetyStop_mask, ↓State.egressDrive_mask, ↓State.mask_with_eng, ↓State.mask_with_tally, ↓State.mask_with_axes, ↓State.mask_with_portals, ↓State.mask_with_fel, ↓State.mask_with_sde, ↓State.mask_with_ls, ↓State.mask_with_lsg, ↓State.mask_with_kerf, ↓State.mask_with_fio, ↓State.mask_with_safe, ↓State.mask_with_lnd, ↓State.mask_with_tru, ↓State.mask_with_pwr, ↓State.mask_with_boot, ↓State.mask_with_sent, ↓State.mask_ite, ite_self, implies_true, h0, h1, h2, h3, h4, h5, h6, h7, h8, h9, h10, h11, h12, h13, h14, h15]; simp only [State.mask, Bool.false_eq_true, ↓reduceIte, h0, h1, h2, h3, h4, h5, h6, h7, h8, h9, h10, h11, h12, h13, h14, h15]; done)

theorem State.mramLost_mask (k : Part → Bool) (s : State) (h0 : k .tim = false) (h1 : k .eng = false) (h2 : k .axes = false) (h3 : k .portals = false) (h4 : k .ls = false) (h5 : k .kerf = false) (h6 : k .jnl = false) (h7 : k .lnd = false) (h8 : k .tru = false) (h9 : k .pwr = false) (h10 : k .boot = false) :
    (State.mramLost s).mask k = s.mask k := by
  unfold State.mramLost
  first
    | (simp (maxDischargeDepth := 9) only [↓State.mask_with_tim, ↓State.mask_with_eng, ↓State.mask_with_axes, ↓State.mask_with_portals, ↓State.mask_with_ls, ↓State.mask_with_kerf, ↓State.mask_with_jnl, ↓State.mask_with_lnd, ↓State.mask_with_tru, ↓State.mask_with_pwr, ↓State.mask_with_boot, ↓State.mask_ite, ite_self, implies_true, h0, h1, h2, h3, h4, h5, h6, h7, h8, h9, h10]; done)
    | ((try dsimp only); (repeat' split) <;> first | (simp (maxDischargeDepth := 9) only [↓State.mask_with_tim, ↓State.mask_with_eng, ↓State.mask_with_axes, ↓State.mask_with_portals, ↓State.mask_with_ls, ↓State.mask_with_kerf, ↓State.mask_with_jnl, ↓State.mask_with_lnd, ↓State.mask_with_tru, ↓State.mask_with_pwr, ↓State.mask_with_boot, ↓State.mask_ite, ite_self, implies_true, h0, h1, h2, h3, h4, h5, h6, h7, h8, h9, h10]; done) | (simp_all (maxDischargeDepth := 9) only [↓State.mask_with_tim, ↓State.mask_with_eng, ↓State.mask_with_axes, ↓State.mask_with_portals, ↓State.mask_with_ls, ↓State.mask_with_kerf, ↓State.mask_with_jnl, ↓State.mask_with_lnd, ↓State.mask_with_tru, ↓State.mask_with_pwr, ↓State.mask_with_boot, ↓State.mask_ite, ite_self, implies_true, h0, h1, h2, h3, h4, h5, h6, h7, h8, h9, h10]; done))
    | (simp only [State.mask, Bool.false_eq_true, ↓reduceIte, h0, h1, h2, h3, h4, h5, h6, h7, h8, h9, h10]; done)
    | (simp (maxDischargeDepth := 9) only [↓State.mask_with_tim, ↓State.mask_with_eng, ↓State.mask_with_axes, ↓State.mask_with_portals, ↓State.mask_with_ls, ↓State.mask_with_kerf, ↓State.mask_with_jnl, ↓State.mask_with_lnd, ↓State.mask_with_tru, ↓State.mask_with_pwr, ↓State.mask_with_boot, ↓State.mask_ite, ite_self, implies_true, h0, h1, h2, h3, h4, h5, h6, h7, h8, h9, h10]; simp only [State.mask, Bool.false_eq_true, ↓reduceIte, h0, h1, h2, h3, h4, h5, h6, h7, h8, h9, h10]; done)

theorem State.restart_mask (kp : Part → Bool) (o : State) (src : StartSrc) (b : BootIn) (h0 : kp .mono = false) (h1 : kp .tim = false) (h2 : kp .cal = false) (h3 : kp .fab = false) (h4 : kp .latch = false) (h5 : kp .mem = false) (h6 : kp .eng = false) (h7 : kp .tally = false) (h8 : kp .axes = false) (h9 : kp .portals = false) (h10 : kp .fel = false) (h11 : kp .sde = false) (h12 : kp .ls = false) (h13 : kp .lsg = false) (h14 : kp .kerf = false) (h15 : kp .fio = false) (h16 : kp .safe = false) (h17 : kp .jnl = false) (h18 : kp .net = false) (h19 : kp .lnd = false) (h20 : kp .tru = false) (h21 : kp .pwr = false) (h22 : kp .boot = false) :
    (State.restart o src b).mask kp = o.mask kp := by
  unfold State.restart
  simp only [State.mask, Bool.false_eq_true, ↓reduceIte, h0, h1, h2, h3, h4, h5, h6, h7, h8, h9, h10, h11, h12, h13, h14, h15, h16, h17, h18, h19, h20, h21, h22]
  done

theorem State.mramCheck_mask (k : Part → Bool) (s : State) (b : BootIn) (h0 : k .tim = false) (h1 : k .fab = false) (h2 : k .eng = false) (h3 : k .tally = false) (h4 : k .axes = false) (h5 : k .portals = false) (h6 : k .ls = false) (h7 : k .kerf = false) (h8 : k .jnl = false) (h9 : k .lnd = false) (h10 : k .tru = false) (h11 : k .pwr = false) (h12 : k .boot = false) (h13 : k .freeSeq = false) :
    (State.mramCheck s b).mask k = s.mask k := by
  unfold State.mramCheck
  first
    | (simp (maxDischargeDepth := 9) only [↓State.mramWrite_mask, ↓State.mramLost_mask, ↓State.mask_ite, ite_self, implies_true, h0, h1, h2, h3, h4, h5, h6, h7, h8, h9, h10, h11, h12, h13]; done)
    | ((try dsimp only); (repeat' split) <;> first | (simp (maxDischargeDepth := 9) only [↓State.mramWrite_mask, ↓State.mramLost_mask, ↓State.mask_ite, ite_self, implies_true, h0, h1, h2, h3, h4, h5, h6, h7, h8, h9, h10, h11, h12, h13]; done) | (simp_all (maxDischargeDepth := 9) only [↓State.mramWrite_mask, ↓State.mramLost_mask, ↓State.mask_ite, ite_self, implies_true, h0, h1, h2, h3, h4, h5, h6, h7, h8, h9, h10, h11, h12, h13]; done))

theorem State.loadEnvelope_mask (k : Part → Bool) (s : State) (h0 : k .axes = false) :
    (State.loadEnvelope s).mask k = s.mask k := by
  unfold State.loadEnvelope
  first
    | (simp (maxDischargeDepth := 9) only [↓State.modAxis_mask, ↓State.mask_ite, ite_self, implies_true, ↓State.mask_forAll, h0]; done)
    | ((try dsimp only); (repeat' split) <;> first | (simp (maxDischargeDepth := 9) only [↓State.modAxis_mask, ↓State.mask_ite, ite_self, implies_true, ↓State.mask_forAll, h0]; done) | (simp_all (maxDischargeDepth := 9) only [↓State.modAxis_mask, ↓State.mask_ite, ite_self, implies_true, ↓State.mask_forAll, h0]; done))
    | ((try dsimp only); refine State.mask_forAll _ _ _ _ fun _ _ => ?_; (repeat' split) <;> simp (maxDischargeDepth := 9) only [↓State.modAxis_mask, ↓State.mask_ite, ite_self, implies_true, ↓State.mask_forAll, h0]; done)
    | ((try dsimp only); refine (State.mask_forAll _ _ _ _ fun _ _ => ?_).trans ?_ <;> (repeat' split) <;> simp (maxDischargeDepth := 9) only [↓State.modAxis_mask, ↓State.mask_ite, ite_self, implies_true, ↓State.mask_forAll, h0]; done)

theorem State.loadActive_mask (k : Part → Bool) (s : State) (holdingOk : Bool) (h0 : k .eng = false) (h1 : k .tally = false) (h2 : k .lnd = false) :
    (State.loadActive s holdingOk).1.mask k = s.mask k := by
  unfold State.loadActive
  first
    | (simp (maxDischargeDepth := 9) only [↓State.modEng_mask, ↓State.event_mask, ↓State.modMode_mask, ↓State.modLnd_mask, ↓State.mask_ite, ite_self, implies_true, ↓State.mask_fst_ite, h0, h1, h2]; done)
    | ((try dsimp only); (repeat' split) <;> first | (simp (maxDischargeDepth := 9) only [↓State.modEng_mask, ↓State.event_mask, ↓State.modMode_mask, ↓State.modLnd_mask, ↓State.mask_ite, ite_self, implies_true, ↓State.mask_fst_ite, h0, h1, h2]; done) | (simp_all (maxDischargeDepth := 9) only [↓State.modEng_mask, ↓State.event_mask, ↓State.modMode_mask, ↓State.modLnd_mask, ↓State.mask_ite, ite_self, implies_true, ↓State.mask_fst_ite, h0, h1, h2]; done))

theorem State.noHolding_mask (k : Part → Bool) (s : State) (h0 : k .sde = false) (h1 : k .safe = false) :
    (State.noHolding s).mask k = s.mask k := by
  unfold State.noHolding
  first
    | (simp (maxDischargeDepth := 9) only [↓State.modSafe_mask, ↓State.safetyStop_mask, ↓State.mask_ite, ite_self, implies_true, h0, h1]; done)
    | ((try dsimp only); (repeat' split) <;> first | (simp (maxDischargeDepth := 9) only [↓State.modSafe_mask, ↓State.safetyStop_mask, ↓State.mask_ite, ite_self, implies_true, h0, h1]; done) | (simp_all (maxDischargeDepth := 9) only [↓State.modSafe_mask, ↓State.safetyStop_mask, ↓State.mask_ite, ite_self, implies_true, h0, h1]; done))

theorem State.configure_mask (k : Part → Bool) (s : State) (cfg : Option (List Byte × List Byte)) (hinge echo : Bool) (h0 : k .eng = false) (h1 : k .tally = false) (h2 : k .axes = false) (h3 : k .portals = false) (h4 : k .fel = false) (h5 : k .sde = false) (h6 : k .ls = false) (h7 : k .kerf = false) (h8 : k .fio = false) (h9 : k .safe = false) (h10 : k .jnl = false) (h11 : k .net = false) (h12 : k .pwr = false) :
    (State.configure s cfg hinge echo).mask k = s.mask k := by
  unfold State.configure
  first
    | (simp (maxDischargeDepth := 9) only [↓State.modSafe_mask, ↓State.paramLoad_mask, ↓State.imgReset_mask, ↓State.loadParam_mask, ↓State.modFio_mask, ↓State.holdSafe_mask, ↓State.noHolding_mask, ↓State.mask_ite, ite_self, implies_true, h0, h1, h2, h3, h4, h5, h6, h7, h8, h9, h10, h11, h12]; done)
    | ((try dsimp only); (repeat' split) <;> first | (simp (maxDischargeDepth := 9) only [↓State.modSafe_mask, ↓State.paramLoad_mask, ↓State.imgReset_mask, ↓State.loadParam_mask, ↓State.modFio_mask, ↓State.holdSafe_mask, ↓State.noHolding_mask, ↓State.mask_ite, ite_self, implies_true, h0, h1, h2, h3, h4, h5, h6, h7, h8, h9, h10, h11, h12]; done) | (simp_all (maxDischargeDepth := 9) only [↓State.modSafe_mask, ↓State.paramLoad_mask, ↓State.imgReset_mask, ↓State.loadParam_mask, ↓State.modFio_mask, ↓State.holdSafe_mask, ↓State.noHolding_mask, ↓State.mask_ite, ite_self, implies_true, h0, h1, h2, h3, h4, h5, h6, h7, h8, h9, h10, h11, h12]; done))

theorem State.tallyStart_mask (k : Part → Bool) (s : State) (bad : List Nat) (h0 : k .tally = false) :
    (State.tallyStart s bad).mask k = s.mask k := by
  unfold State.tallyStart
  first
    | (simp (maxDischargeDepth := 9) only [↓State.modTally_mask, ↓State.mask_ite, ite_self, implies_true, h0]; done)
    | ((try dsimp only); (repeat' split) <;> first | (simp (maxDischargeDepth := 9) only [↓State.modTally_mask, ↓State.mask_ite, ite_self, implies_true, h0]; done) | (simp_all (maxDischargeDepth := 9) only [↓State.modTally_mask, ↓State.mask_ite, ite_self, implies_true, h0]; done))

theorem State.portalStart_mask (k : Part → Bool) (s : State) (p : PortalIx) (h0 : k .axes = false) (h1 : k .portals = false) (h2 : k .kerf = false) :
    (State.portalStart s p).mask k = s.mask k := by
  unfold State.portalStart
  first
    | (simp (maxDischargeDepth := 9) only [↓State.modPortal_mask, ↓State.modKerf_mask, ↓State.kerfSync_mask, ↓State.modelCheck_mask, ↓State.armGaps_mask, ↓State.mask_ite, ite_self, implies_true, h0, h1, h2]; done)
    | ((try dsimp only); (repeat' split) <;> first | (simp (maxDischargeDepth := 9) only [↓State.modPortal_mask, ↓State.modKerf_mask, ↓State.kerfSync_mask, ↓State.modelCheck_mask, ↓State.armGaps_mask, ↓State.mask_ite, ite_self, implies_true, h0, h1, h2]; done) | (simp_all (maxDischargeDepth := 9) only [↓State.modPortal_mask, ↓State.modKerf_mask, ↓State.kerfSync_mask, ↓State.modelCheck_mask, ↓State.armGaps_mask, ↓State.mask_ite, ite_self, implies_true, h0, h1, h2]; done))

theorem State.startCal_mask (k : Part → Bool) (s : State) (a : AxisIx) (h0 : k .axes = false) :
    (State.startCal s a).mask k = s.mask k := by
  unfold State.startCal
  first
    | (simp (maxDischargeDepth := 9) only [↓State.modAxis_mask, ↓State.calStart_mask, ↓State.mask_ite, ite_self, implies_true, h0]; done)
    | ((try dsimp only); (repeat' split) <;> first | (simp (maxDischargeDepth := 9) only [↓State.modAxis_mask, ↓State.calStart_mask, ↓State.mask_ite, ite_self, implies_true, h0]; done) | (simp_all (maxDischargeDepth := 9) only [↓State.modAxis_mask, ↓State.calStart_mask, ↓State.mask_ite, ite_self, implies_true, h0]; done))

theorem State.bootUp_mask (k : Part → Bool) (o : State) (src : StartSrc) (b : BootIn) (h0 : k .mono = false) (h1 : k .tim = false) (h2 : k .cal = false) (h3 : k .fab = false) (h4 : k .latch = false) (h5 : k .mem = false) (h6 : k .eng = false) (h7 : k .tally = false) (h8 : k .axes = false) (h9 : k .portals = false) (h10 : k .fel = false) (h11 : k .sde = false) (h12 : k .ls = false) (h13 : k .lsg = false) (h14 : k .kerf = false) (h15 : k .fio = false) (h16 : k .safe = false) (h17 : k .jnl = false) (h18 : k .net = false) (h19 : k .lnd = false) (h20 : k .tru = false) (h21 : k .pwr = false) (h22 : k .boot = false) (h23 : k .sent = false) (h24 : k .freeSeq = false) :
    (State.bootUp o src b).mask k = o.mask k := by
  unfold State.bootUp
  first
    | (simp (maxDischargeDepth := 9) only [↓State.modSys_mask, ↓State.modPwrReg_mask, ↓State.modFel_mask, ↓State.pass_mask, ↓State.lsEval_mask, ↓State.bridgeEval_mask, ↓State.redeliver_mask, ↓State.reportAll_mask, ↓State.zspEval_mask, ↓State.sdeEval_mask, ↓State.headWaitAll_mask, ↓State.mbusCharge_mask, ↓State.safetyStop_mask, ↓State.groupEval_mask, ↓State.outputLines_mask, ↓State.dropRequests_mask, ↓State.restart_mask, ↓State.mramCheck_mask, ↓State.loadEnvelope_mask, ↓State.loadActive_mask, ↓State.configure_mask, ↓State.tallyStart_mask, ↓State.portalStart_mask, ↓State.startCal_mask, ↓State.mask_with_mono, ↓State.mask_with_tim, ↓State.mask_with_calBase, ↓State.mask_with_calAt, ↓State.mask_with_slew, ↓State.mask_with_calPpb, ↓State.mask_with_fab, ↓State.mask_with_latch, ↓State.mask_with_mem, ↓State.mask_with_eng, ↓State.mask_with_tally, ↓State.mask_with_axes, ↓State.mask_with_portals, ↓State.mask_with_fel, ↓State.mask_with_sde, ↓State.mask_with_ls, ↓State.mask_with_lsg, ↓State.mask_with_kerf, ↓State.mask_with_fio, ↓State.mask_with_safe, ↓State.mask_with_jnl, ↓State.mask_with_net, ↓State.mask_with_lnd, ↓State.mask_with_tru, ↓State.mask_with_pwr, ↓State.mask_with_boot, ↓State.mask_with_sent, ↓State.mask_with_freeSeq, ↓State.mask_ite, ite_self, implies_true, ↓State.mask_forAll, h0, h1, h2, h3, h4, h5, h6, h7, h8, h9, h10, h11, h12, h13, h14, h15, h16, h17, h18, h19, h20, h21, h22, h23, h24]; done)
    | ((try dsimp only); (repeat' split) <;> first | (simp (maxDischargeDepth := 9) only [↓State.modSys_mask, ↓State.modPwrReg_mask, ↓State.modFel_mask, ↓State.pass_mask, ↓State.lsEval_mask, ↓State.bridgeEval_mask, ↓State.redeliver_mask, ↓State.reportAll_mask, ↓State.zspEval_mask, ↓State.sdeEval_mask, ↓State.headWaitAll_mask, ↓State.mbusCharge_mask, ↓State.safetyStop_mask, ↓State.groupEval_mask, ↓State.outputLines_mask, ↓State.dropRequests_mask, ↓State.restart_mask, ↓State.mramCheck_mask, ↓State.loadEnvelope_mask, ↓State.loadActive_mask, ↓State.configure_mask, ↓State.tallyStart_mask, ↓State.portalStart_mask, ↓State.startCal_mask, ↓State.mask_with_mono, ↓State.mask_with_tim, ↓State.mask_with_calBase, ↓State.mask_with_calAt, ↓State.mask_with_slew, ↓State.mask_with_calPpb, ↓State.mask_with_fab, ↓State.mask_with_latch, ↓State.mask_with_mem, ↓State.mask_with_eng, ↓State.mask_with_tally, ↓State.mask_with_axes, ↓State.mask_with_portals, ↓State.mask_with_fel, ↓State.mask_with_sde, ↓State.mask_with_ls, ↓State.mask_with_lsg, ↓State.mask_with_kerf, ↓State.mask_with_fio, ↓State.mask_with_safe, ↓State.mask_with_jnl, ↓State.mask_with_net, ↓State.mask_with_lnd, ↓State.mask_with_tru, ↓State.mask_with_pwr, ↓State.mask_with_boot, ↓State.mask_with_sent, ↓State.mask_with_freeSeq, ↓State.mask_ite, ite_self, implies_true, ↓State.mask_forAll, h0, h1, h2, h3, h4, h5, h6, h7, h8, h9, h10, h11, h12, h13, h14, h15, h16, h17, h18, h19, h20, h21, h22, h23, h24]; done) | (simp_all (maxDischargeDepth := 9) only [↓State.modSys_mask, ↓State.modPwrReg_mask, ↓State.modFel_mask, ↓State.pass_mask, ↓State.lsEval_mask, ↓State.bridgeEval_mask, ↓State.redeliver_mask, ↓State.reportAll_mask, ↓State.zspEval_mask, ↓State.sdeEval_mask, ↓State.headWaitAll_mask, ↓State.mbusCharge_mask, ↓State.safetyStop_mask, ↓State.groupEval_mask, ↓State.outputLines_mask, ↓State.dropRequests_mask, ↓State.restart_mask, ↓State.mramCheck_mask, ↓State.loadEnvelope_mask, ↓State.loadActive_mask, ↓State.configure_mask, ↓State.tallyStart_mask, ↓State.portalStart_mask, ↓State.startCal_mask, ↓State.mask_with_mono, ↓State.mask_with_tim, ↓State.mask_with_calBase, ↓State.mask_with_calAt, ↓State.mask_with_slew, ↓State.mask_with_calPpb, ↓State.mask_with_fab, ↓State.mask_with_latch, ↓State.mask_with_mem, ↓State.mask_with_eng, ↓State.mask_with_tally, ↓State.mask_with_axes, ↓State.mask_with_portals, ↓State.mask_with_fel, ↓State.mask_with_sde, ↓State.mask_with_ls, ↓State.mask_with_lsg, ↓State.mask_with_kerf, ↓State.mask_with_fio, ↓State.mask_with_safe, ↓State.mask_with_jnl, ↓State.mask_with_net, ↓State.mask_with_lnd, ↓State.mask_with_tru, ↓State.mask_with_pwr, ↓State.mask_with_boot, ↓State.mask_with_sent, ↓State.mask_with_freeSeq, ↓State.mask_ite, ite_self, implies_true, ↓State.mask_forAll, h0, h1, h2, h3, h4, h5, h6, h7, h8, h9, h10, h11, h12, h13, h14, h15, h16, h17, h18, h19, h20, h21, h22, h23, h24]; done))
    | (simp only [State.mask, Bool.false_eq_true, ↓reduceIte, h0, h1, h2, h3, h4, h5, h6, h7, h8, h9, h10, h11, h12, h13, h14, h15, h16, h17, h18, h19, h20, h21, h22, h23, h24]; done)
    | (simp (maxDischargeDepth := 9) only [↓State.modSys_mask, ↓State.modPwrReg_mask, ↓State.modFel_mask, ↓State.pass_mask, ↓State.lsEval_mask, ↓State.bridgeEval_mask, ↓State.redeliver_mask, ↓State.reportAll_mask, ↓State.zspEval_mask, ↓State.sdeEval_mask, ↓State.headWaitAll_mask, ↓State.mbusCharge_mask, ↓State.safetyStop_mask, ↓State.groupEval_mask, ↓State.outputLines_mask, ↓State.dropRequests_mask, ↓State.restart_mask, ↓State.mramCheck_mask, ↓State.loadEnvelope_mask, ↓State.loadActive_mask, ↓State.configure_mask, ↓State.tallyStart_mask, ↓State.portalStart_mask, ↓State.startCal_mask, ↓State.mask_with_mono, ↓State.mask_with_tim, ↓State.mask_with_calBase, ↓State.mask_with_calAt, ↓State.mask_with_slew, ↓State.mask_with_calPpb, ↓State.mask_with_fab, ↓State.mask_with_latch, ↓State.mask_with_mem, ↓State.mask_with_eng, ↓State.mask_with_tally, ↓State.mask_with_axes, ↓State.mask_with_portals, ↓State.mask_with_fel, ↓State.mask_with_sde, ↓State.mask_with_ls, ↓State.mask_with_lsg, ↓State.mask_with_kerf, ↓State.mask_with_fio, ↓State.mask_with_safe, ↓State.mask_with_jnl, ↓State.mask_with_net, ↓State.mask_with_lnd, ↓State.mask_with_tru, ↓State.mask_with_pwr, ↓State.mask_with_boot, ↓State.mask_with_sent, ↓State.mask_with_freeSeq, ↓State.mask_ite, ite_self, implies_true, ↓State.mask_forAll, h0, h1, h2, h3, h4, h5, h6, h7, h8, h9, h10, h11, h12, h13, h14, h15, h16, h17, h18, h19, h20, h21, h22, h23, h24]; simp only [State.mask, Bool.false_eq_true, ↓reduceIte, h0, h1, h2, h3, h4, h5, h6, h7, h8, h9, h10, h11, h12, h13, h14, h15, h16, h17, h18, h19, h20, h21, h22, h23, h24]; done)
    | ((try dsimp only); refine State.mask_forAll _ _ _ _ fun _ _ => ?_; (repeat' split) <;> simp (maxDischargeDepth := 9) only [↓State.modSys_mask, ↓State.modPwrReg_mask, ↓State.modFel_mask, ↓State.pass_mask, ↓State.lsEval_mask, ↓State.bridgeEval_mask, ↓State.redeliver_mask, ↓State.reportAll_mask, ↓State.zspEval_mask, ↓State.sdeEval_mask, ↓State.headWaitAll_mask, ↓State.mbusCharge_mask, ↓State.safetyStop_mask, ↓State.groupEval_mask, ↓State.outputLines_mask, ↓State.dropRequests_mask, ↓State.restart_mask, ↓State.mramCheck_mask, ↓State.loadEnvelope_mask, ↓State.loadActive_mask, ↓State.configure_mask, ↓State.tallyStart_mask, ↓State.portalStart_mask, ↓State.startCal_mask, ↓State.mask_with_mono, ↓State.mask_with_tim, ↓State.mask_with_calBase, ↓State.mask_with_calAt, ↓State.mask_with_slew, ↓State.mask_with_calPpb, ↓State.mask_with_fab, ↓State.mask_with_latch, ↓State.mask_with_mem, ↓State.mask_with_eng, ↓State.mask_with_tally, ↓State.mask_with_axes, ↓State.mask_with_portals, ↓State.mask_with_fel, ↓State.mask_with_sde, ↓State.mask_with_ls, ↓State.mask_with_lsg, ↓State.mask_with_kerf, ↓State.mask_with_fio, ↓State.mask_with_safe, ↓State.mask_with_jnl, ↓State.mask_with_net, ↓State.mask_with_lnd, ↓State.mask_with_tru, ↓State.mask_with_pwr, ↓State.mask_with_boot, ↓State.mask_with_sent, ↓State.mask_with_freeSeq, ↓State.mask_ite, ite_self, implies_true, ↓State.mask_forAll, h0, h1, h2, h3, h4, h5, h6, h7, h8, h9, h10, h11, h12, h13, h14, h15, h16, h17, h18, h19, h20, h21, h22, h23, h24]; done)
    | ((try dsimp only); refine (State.mask_forAll _ _ _ _ fun _ _ => ?_).trans ?_ <;> (repeat' split) <;> simp (maxDischargeDepth := 9) only [↓State.modSys_mask, ↓State.modPwrReg_mask, ↓State.modFel_mask, ↓State.pass_mask, ↓State.lsEval_mask, ↓State.bridgeEval_mask, ↓State.redeliver_mask, ↓State.reportAll_mask, ↓State.zspEval_mask, ↓State.sdeEval_mask, ↓State.headWaitAll_mask, ↓State.mbusCharge_mask, ↓State.safetyStop_mask, ↓State.groupEval_mask, ↓State.outputLines_mask, ↓State.dropRequests_mask, ↓State.restart_mask, ↓State.mramCheck_mask, ↓State.loadEnvelope_mask, ↓State.loadActive_mask, ↓State.configure_mask, ↓State.tallyStart_mask, ↓State.portalStart_mask, ↓State.startCal_mask, ↓State.mask_with_mono, ↓State.mask_with_tim, ↓State.mask_with_calBase, ↓State.mask_with_calAt, ↓State.mask_with_slew, ↓State.mask_with_calPpb, ↓State.mask_with_fab, ↓State.mask_with_latch, ↓State.mask_with_mem, ↓State.mask_with_eng, ↓State.mask_with_tally, ↓State.mask_with_axes, ↓State.mask_with_portals, ↓State.mask_with_fel, ↓State.mask_with_sde, ↓State.mask_with_ls, ↓State.mask_with_lsg, ↓State.mask_with_kerf, ↓State.mask_with_fio, ↓State.mask_with_safe, ↓State.mask_with_jnl, ↓State.mask_with_net, ↓State.mask_with_lnd, ↓State.mask_with_tru, ↓State.mask_with_pwr, ↓State.mask_with_boot, ↓State.mask_with_sent, ↓State.mask_with_freeSeq, ↓State.mask_ite, ite_self, implies_true, ↓State.mask_forAll, h0, h1, h2, h3, h4, h5, h6, h7, h8, h9, h10, h11, h12, h13, h14, h15, h16, h17, h18, h19, h20, h21, h22, h23, h24]; done)

end Sys2Proof.Machine
end

