-- ==== Sys2Proof/Laws/FrameSupplyCmd.lean ====
section
/-! SUPPORT. What each operation of Machine/SupplyCmd.lean can change: it keeps every part of the state that it is not named to change. -/

set_option linter.unusedSimpArgs false

namespace Sys2Proof.Machine

theorem execCtlLow_mask (k : Part → Bool) (v : BitVec 12) (s : State) (h0 : k .pwr = false) :
    (stateOf s (execCtlLow v s)).mask k = s.mask k := by
  unfold execCtlLow
  first
    | (simp (maxDischargeDepth := 9) only [↓State.modPwrReg_mask, ↓stateOf_next, ↓stateOf_ite, ↓State.mask_ite, ite_self, implies_true, h0]; done)
    | ((try dsimp only); (repeat' split) <;> first | (simp (maxDischargeDepth := 9) only [↓State.modPwrReg_mask, ↓stateOf_next, ↓stateOf_ite, ↓State.mask_ite, ite_self, implies_true, h0]; done) | (simp_all (maxDischargeDepth := 9) only [↓State.modPwrReg_mask, ↓stateOf_next, ↓stateOf_ite, ↓State.mask_ite, ite_self, implies_true, h0]; done))

theorem execHeadShed_mask (k : Part → Bool) (s : State) (h0 : k .fel = false) (h1 : k .pwr = false) :
    (stateOf s (execHeadShed s)).mask k = s.mask k := by
  unfold execHeadShed
  first
    | (simp (maxDischargeDepth := 9) only [↓State.modPwr_mask, ↓State.modPwrReg_mask, ↓State.modFel_mask, ↓stateOf_next, ↓stateOf_ite, ↓State.mask_ite, ite_self, implies_true, h0, h1]; done)
    | ((try dsimp only); (repeat' split) <;> first | (simp (maxDischargeDepth := 9) only [↓State.modPwr_mask, ↓State.modPwrReg_mask, ↓State.modFel_mask, ↓stateOf_next, ↓stateOf_ite, ↓State.mask_ite, ite_self, implies_true, h0, h1]; done) | (simp_all (maxDischargeDepth := 9) only [↓State.modPwr_mask, ↓State.modPwrReg_mask, ↓State.modFel_mask, ↓stateOf_next, ↓stateOf_ite, ↓State.mask_ite, ite_self, implies_true, h0, h1]; done))

theorem execLowmotClear_mask (k : Part → Bool) (v : BitVec 12) (s : State) (h0 : k .fel = false) (h1 : k .pwr = false) :
    (stateOf s (execLowmotClear v s)).mask k = s.mask k := by
  unfold execLowmotClear
  first
    | (simp (maxDischargeDepth := 9) only [↓State.modPwr_mask, ↓State.modPwrReg_mask, ↓State.headAdmit_mask, ↓State.headWait_mask, ↓stateOf_next, ↓stateOf_ite, ↓State.mask_ite, ite_self, implies_true, ↓State.mask_forAll, h0, h1]; done)
    | ((try dsimp only); (repeat' split) <;> first | (simp (maxDischargeDepth := 9) only [↓State.modPwr_mask, ↓State.modPwrReg_mask, ↓State.headAdmit_mask, ↓State.headWait_mask, ↓stateOf_next, ↓stateOf_ite, ↓State.mask_ite, ite_self, implies_true, ↓State.mask_forAll, h0, h1]; done) | (simp_all (maxDischargeDepth := 9) only [↓State.modPwr_mask, ↓State.modPwrReg_mask, ↓State.headAdmit_mask, ↓State.headWait_mask, ↓stateOf_next, ↓stateOf_ite, ↓State.mask_ite, ite_self, implies_true, ↓State.mask_forAll, h0, h1]; done))
    | ((try dsimp only); refine State.mask_forAll _ _ _ _ fun _ _ => ?_; (repeat' split) <;> simp (maxDischargeDepth := 9) only [↓State.modPwr_mask, ↓State.modPwrReg_mask, ↓State.headAdmit_mask, ↓State.headWait_mask, ↓stateOf_next, ↓stateOf_ite, ↓State.mask_ite, ite_self, implies_true, ↓State.mask_forAll, h0, h1]; done)
    | ((try dsimp only); refine (State.mask_forAll _ _ _ _ fun _ _ => ?_).trans ?_ <;> (repeat' split) <;> simp (maxDischargeDepth := 9) only [↓State.modPwr_mask, ↓State.modPwrReg_mask, ↓State.headAdmit_mask, ↓State.headWait_mask, ↓stateOf_next, ↓stateOf_ite, ↓State.mask_ite, ite_self, implies_true, ↓State.mask_forAll, h0, h1]; done)

theorem execCtlOvervoltage_mask (k : Part → Bool) (v : BitVec 12) (s : State) (h0 : k .pwr = false) :
    (stateOf s (execCtlOvervoltage v s)).mask k = s.mask k := by
  unfold execCtlOvervoltage
  first
    | (simp (maxDischargeDepth := 9) only [↓State.modPwrReg_mask, ↓stateOf_next, ↓stateOf_ite, ↓State.mask_ite, ite_self, implies_true, h0]; done)
    | ((try dsimp only); (repeat' split) <;> first | (simp (maxDischargeDepth := 9) only [↓State.modPwrReg_mask, ↓stateOf_next, ↓stateOf_ite, ↓State.mask_ite, ite_self, implies_true, h0]; done) | (simp_all (maxDischargeDepth := 9) only [↓State.modPwrReg_mask, ↓stateOf_next, ↓stateOf_ite, ↓State.mask_ite, ite_self, implies_true, h0]; done))

theorem execMbusFault_mask (k : Part → Bool) (v : BitVec 12) (rev : Bool) (s : State) (h0 : k .pwr = false) :
    (stateOf s (execMbusFault v rev s)).mask k = s.mask k := by
  unfold execMbusFault
  first
    | (simp (maxDischargeDepth := 9) only [↓State.modPwrReg_mask, ↓stateOf_next, ↓stateOf_ite, ↓State.mask_ite, ite_self, implies_true, h0]; done)
    | ((try dsimp only); (repeat' split) <;> first | (simp (maxDischargeDepth := 9) only [↓State.modPwrReg_mask, ↓stateOf_next, ↓stateOf_ite, ↓State.mask_ite, ite_self, implies_true, h0]; done) | (simp_all (maxDischargeDepth := 9) only [↓State.modPwrReg_mask, ↓stateOf_next, ↓stateOf_ite, ↓State.mask_ite, ite_self, implies_true, h0]; done))

theorem execMbusOvercurrent_mask (k : Part → Bool) (s : State) (h0 : k .pwr = false) :
    (stateOf s (execMbusOvercurrent s)).mask k = s.mask k := by
  unfold execMbusOvercurrent
  first
    | (simp (maxDischargeDepth := 9) only [↓State.modPwrReg_mask, ↓stateOf_next, ↓stateOf_ite, ↓State.mask_ite, ite_self, implies_true, h0]; done)
    | ((try dsimp only); (repeat' split) <;> first | (simp (maxDischargeDepth := 9) only [↓State.modPwrReg_mask, ↓stateOf_next, ↓stateOf_ite, ↓State.mask_ite, ite_self, implies_true, h0]; done) | (simp_all (maxDischargeDepth := 9) only [↓State.modPwrReg_mask, ↓stateOf_next, ↓stateOf_ite, ↓State.mask_ite, ite_self, implies_true, h0]; done))

theorem execSupplyFaultEnd_mask (k : Part → Bool) (f : SupplyFault) (v : BitVec 12) (s : State) (h0 : k .tally = false) (h1 : k .lsg = false) (h2 : k .pwr = false) (h3 : k .freeSeq = false) :
    (stateOf s (execSupplyFaultEnd f v s)).mask k = s.mask k := by
  unfold execSupplyFaultEnd
  first
    | (simp (maxDischargeDepth := 9) only [↓State.modPwrReg_mask, ↓State.mbusCharge_mask, ↓State.supplyEnd_mask, ↓stateOf_next, ↓stateOf_ite, ↓State.mask_ite, ite_self, implies_true, h0, h1, h2, h3]; done)
    | ((try dsimp only); (repeat' split) <;> first | (simp (maxDischargeDepth := 9) only [↓State.modPwrReg_mask, ↓State.mbusCharge_mask, ↓State.supplyEnd_mask, ↓stateOf_next, ↓stateOf_ite, ↓State.mask_ite, ite_self, implies_true, h0, h1, h2, h3]; done) | (simp_all (maxDischargeDepth := 9) only [↓State.modPwrReg_mask, ↓State.mbusCharge_mask, ↓State.supplyEnd_mask, ↓stateOf_next, ↓stateOf_ite, ↓State.mask_ite, ite_self, implies_true, h0, h1, h2, h3]; done))

theorem State.powerFailNow_mask (k : Part → Bool) (s : State) (len : BitVec 16) (h0 : k .mono = false) (h1 : k .tim = false) (h2 : k .fab = false) (h3 : k .mem = false) (h4 : k .eng = false) (h5 : k .tally = false) (h6 : k .axes = false) (h7 : k .portals = false) (h8 : k .fel = false) (h9 : k .sde = false) (h10 : k .ls = false) (h11 : k .lsg = false) (h12 : k .kerf = false) (h13 : k .fio = false) (h14 : k .safe = false) (h15 : k .jnl = false) (h16 : k .net = false) (h17 : k .lnd = false) (h18 : k .tru = false) (h19 : k .pwr = false) (h20 : k .boot = false) (h21 : k .sent = false) (h22 : k .freeSeq = false) :
    (State.powerFailNow s len).mask k = s.mask k := by
  unfold State.powerFailNow
  first
    | (simp (maxDischargeDepth := 9) only [↓State.modPwr_mask, ↓State.pass_mask, ↓State.powerFail_mask, ↓State.drainAll_mask, ↓State.mask_ite, ite_self, implies_true, h0, h1, h2, h3, h4, h5, h6, h7, h8, h9, h10, h11, h12, h13, h14, h15, h16, h17, h18, h19, h20, h21, h22]; done)
    | ((try dsimp only); (repeat' split) <;> first | (simp (maxDischargeDepth := 9) only [↓State.modPwr_mask, ↓State.pass_mask, ↓State.powerFail_mask, ↓State.drainAll_mask, ↓State.mask_ite, ite_self, implies_true, h0, h1, h2, h3, h4, h5, h6, h7, h8, h9, h10, h11, h12, h13, h14, h15, h16, h17, h18, h19, h20, h21, h22]; done) | (simp_all (maxDischargeDepth := 9) only [↓State.modPwr_mask, ↓State.pass_mask, ↓State.powerFail_mask, ↓State.drainAll_mask, ↓State.mask_ite, ite_self, implies_true, h0, h1, h2, h3, h4, h5, h6, h7, h8, h9, h10, h11, h12, h13, h14, h15, h16, h17, h18, h19, h20, h21, h22]; done))

theorem execCtlInterruption_mask (k : Part → Bool) (v : BitVec 12) (len : BitVec 16) (s : State) (h0 : k .mono = false) (h1 : k .tim = false) (h2 : k .fab = false) (h3 : k .mem = false) (h4 : k .eng = false) (h5 : k .tally = false) (h6 : k .axes = false) (h7 : k .portals = false) (h8 : k .fel = false) (h9 : k .sde = false) (h10 : k .ls = false) (h11 : k .lsg = false) (h12 : k .kerf = false) (h13 : k .fio = false) (h14 : k .safe = false) (h15 : k .jnl = false) (h16 : k .net = false) (h17 : k .lnd = false) (h18 : k .tru = false) (h19 : k .pwr = false) (h20 : k .boot = false) (h21 : k .sent = false) (h22 : k .freeSeq = false) :
    (stateOf s (execCtlInterruption v len s)).mask k = s.mask k := by
  unfold execCtlInterruption
  first
    | (simp (maxDischargeDepth := 9) only [↓State.modPwr_mask, ↓State.modPwrReg_mask, ↓State.powerFailNow_mask, ↓stateOf_next, ↓stateOf_ite, ↓State.mask_ite, ite_self, implies_true, h0, h1, h2, h3, h4, h5, h6, h7, h8, h9, h10, h11, h12, h13, h14, h15, h16, h17, h18, h19, h20, h21, h22]; done)
    | ((try dsimp only); (repeat' split) <;> first | (simp (maxDischargeDepth := 9) only [↓State.modPwr_mask, ↓State.modPwrReg_mask, ↓State.powerFailNow_mask, ↓stateOf_next, ↓stateOf_ite, ↓State.mask_ite, ite_self, implies_true, h0, h1, h2, h3, h4, h5, h6, h7, h8, h9, h10, h11, h12, h13, h14, h15, h16, h17, h18, h19, h20, h21, h22]; done) | (simp_all (maxDischargeDepth := 9) only [↓State.modPwr_mask, ↓State.modPwrReg_mask, ↓State.powerFailNow_mask, ↓stateOf_next, ↓stateOf_ite, ↓State.mask_ite, ite_self, implies_true, h0, h1, h2, h3, h4, h5, h6, h7, h8, h9, h10, h11, h12, h13, h14, h15, h16, h17, h18, h19, h20, h21, h22]; done))

theorem execInterruptionEnd_mask (k : Part → Bool) (v : BitVec 12) (lasted : Nat) (ea eb : BitVec 8) (s : State) (h0 : k .mono = false) (h1 : k .pwr = false) :
    (stateOf s (execInterruptionEnd v lasted ea eb s)).mask k = s.mask k := by
  unfold execInterruptionEnd
  first
    | (simp (maxDischargeDepth := 9) only [↓State.upTo_mask, ↓State.modPwr_mask, ↓State.modPwrReg_mask, ↓stateOf_next, ↓stateOf_ite, ↓State.mask_ite, ite_self, implies_true, h0, h1]; done)
    | ((try dsimp only); (repeat' split) <;> first | (simp (maxDischargeDepth := 9) only [↓State.upTo_mask, ↓State.modPwr_mask, ↓State.modPwrReg_mask, ↓stateOf_next, ↓stateOf_ite, ↓State.mask_ite, ite_self, implies_true, h0, h1]; done) | (simp_all (maxDischargeDepth := 9) only [↓State.upTo_mask, ↓State.modPwr_mask, ↓State.modPwrReg_mask, ↓stateOf_next, ↓stateOf_ite, ↓State.mask_ite, ite_self, implies_true, h0, h1]; done))

theorem execPowerFailStart_mask (k : Part → Bool) (reserve : Bool) (len : BitVec 16) (s : State) (h0 : k .mono = false) (h1 : k .tim = false) (h2 : k .fab = false) (h3 : k .mem = false) (h4 : k .eng = false) (h5 : k .tally = false) (h6 : k .axes = false) (h7 : k .portals = false) (h8 : k .fel = false) (h9 : k .sde = false) (h10 : k .ls = false) (h11 : k .lsg = false) (h12 : k .kerf = false) (h13 : k .fio = false) (h14 : k .safe = false) (h15 : k .jnl = false) (h16 : k .net = false) (h17 : k .lnd = false) (h18 : k .tru = false) (h19 : k .pwr = false) (h20 : k .boot = false) (h21 : k .sent = false) (h22 : k .freeSeq = false) :
    (stateOf s (execPowerFailStart reserve len s)).mask k = s.mask k := by
  unfold execPowerFailStart
  first
    | (simp (maxDischargeDepth := 9) only [↓State.upTo_mask, ↓State.powerFailNow_mask, ↓stateOf_next, ↓stateOf_ite, ↓State.mask_ite, ite_self, implies_true, ↓State.mask_fst_ite, h0, h1, h2, h3, h4, h5, h6, h7, h8, h9, h10, h11, h12, h13, h14, h15, h16, h17, h18, h19, h20, h21, h22]; done)
    | ((try dsimp only); (repeat' split) <;> first | (simp (maxDischargeDepth := 9) only [↓State.upTo_mask, ↓State.powerFailNow_mask, ↓stateOf_next, ↓stateOf_ite, ↓State.mask_ite, ite_self, implies_true, ↓State.mask_fst_ite, h0, h1, h2, h3, h4, h5, h6, h7, h8, h9, h10, h11, h12, h13, h14, h15, h16, h17, h18, h19, h20, h21, h22]; done) | (simp_all (maxDischargeDepth := 9) only [↓State.upTo_mask, ↓State.powerFailNow_mask, ↓stateOf_next, ↓stateOf_ite, ↓State.mask_ite, ite_self, implies_true, ↓State.mask_fst_ite, h0, h1, h2, h3, h4, h5, h6, h7, h8, h9, h10, h11, h12, h13, h14, h15, h16, h17, h18, h19, h20, h21, h22]; done))

theorem State.failHalf_mask (k : Part → Bool) (s : State) (b : Bool) (h0 : k .pwr = false) :
    (State.failHalf s b).mask k = s.mask k := by
  unfold State.failHalf
  first
    | (simp (maxDischargeDepth := 9) only [↓State.modPwr_mask, ↓State.modPwrReg_mask, ↓State.mask_ite, ite_self, implies_true, h0]; done)
    | ((try dsimp only); (repeat' split) <;> first | (simp (maxDischargeDepth := 9) only [↓State.modPwr_mask, ↓State.modPwrReg_mask, ↓State.mask_ite, ite_self, implies_true, h0]; done) | (simp_all (maxDischargeDepth := 9) only [↓State.modPwr_mask, ↓State.modPwrReg_mask, ↓State.mask_ite, ite_self, implies_true, h0]; done))

theorem execHoldupTest_mask (k : Part → Bool) (ea eb : BitVec 8) (s : State) (h0 : k .mono = false) (h1 : k .pwr = false) :
    (stateOf s (execHoldupTest ea eb s)).mask k = s.mask k := by
  unfold execHoldupTest
  first
    | (simp (maxDischargeDepth := 9) only [↓State.upTo_mask, ↓State.modPwr_mask, ↓State.modPwrReg_mask, ↓State.failHalf_mask, ↓stateOf_next, ↓stateOf_ite, ↓State.mask_ite, ite_self, implies_true, h0, h1]; done)
    | ((try dsimp only); (repeat' split) <;> first | (simp (maxDischargeDepth := 9) only [↓State.upTo_mask, ↓State.modPwr_mask, ↓State.modPwrReg_mask, ↓State.failHalf_mask, ↓stateOf_next, ↓stateOf_ite, ↓State.mask_ite, ite_self, implies_true, h0, h1]; done) | (simp_all (maxDischargeDepth := 9) only [↓State.upTo_mask, ↓State.modPwr_mask, ↓State.modPwrReg_mask, ↓State.failHalf_mask, ↓stateOf_next, ↓stateOf_ite, ↓State.mask_ite, ite_self, implies_true, h0, h1]; done))

theorem execHalfFailure_mask (k : Part → Bool) (hub : Bool) (len : BitVec 16) (s : State) (h0 : k .mono = false) (h1 : k .tim = false) (h2 : k .fab = false) (h3 : k .mem = false) (h4 : k .eng = false) (h5 : k .tally = false) (h6 : k .axes = false) (h7 : k .portals = false) (h8 : k .fel = false) (h9 : k .sde = false) (h10 : k .ls = false) (h11 : k .lsg = false) (h12 : k .kerf = false) (h13 : k .fio = false) (h14 : k .safe = false) (h15 : k .jnl = false) (h16 : k .net = false) (h17 : k .lnd = false) (h18 : k .tru = false) (h19 : k .pwr = false) (h20 : k .boot = false) (h21 : k .sent = false) (h22 : k .freeSeq = false) :
    (stateOf s (execHalfFailure hub len s)).mask k = s.mask k := by
  unfold execHalfFailure
  first
    | (simp (maxDischargeDepth := 9) only [↓State.powerFailNow_mask, ↓State.failHalf_mask, ↓stateOf_next, ↓stateOf_ite, ↓State.mask_ite, ite_self, implies_true, h0, h1, h2, h3, h4, h5, h6, h7, h8, h9, h10, h11, h12, h13, h14, h15, h16, h17, h18, h19, h20, h21, h22]; done)
    | ((try dsimp only); (repeat' split) <;> first | (simp (maxDischargeDepth := 9) only [↓State.powerFailNow_mask, ↓State.failHalf_mask, ↓stateOf_next, ↓stateOf_ite, ↓State.mask_ite, ite_self, implies_true, h0, h1, h2, h3, h4, h5, h6, h7, h8, h9, h10, h11, h12, h13, h14, h15, h16, h17, h18, h19, h20, h21, h22]; done) | (simp_all (maxDischargeDepth := 9) only [↓State.powerFailNow_mask, ↓State.failHalf_mask, ↓stateOf_next, ↓stateOf_ite, ↓State.mask_ite, ite_self, implies_true, h0, h1, h2, h3, h4, h5, h6, h7, h8, h9, h10, h11, h12, h13, h14, h15, h16, h17, h18, h19, h20, h21, h22]; done))

theorem execNoHalfFlush_mask (k : Part → Bool) (s : State) (h0 : k .mono = false) (h1 : k .tally = false) (h2 : k .pwr = false) :
    (stateOf s (execNoHalfFlush s)).mask k = s.mask k := by
  unfold execNoHalfFlush
  first
    | (simp (maxDischargeDepth := 9) only [↓State.upTo_mask, ↓State.modPwr_mask, ↓State.flush_mask, ↓stateOf_next, ↓stateOf_ite, ↓State.mask_ite, ite_self, implies_true, h0, h1, h2]; done)
    | ((try dsimp only); (repeat' split) <;> first | (simp (maxDischargeDepth := 9) only [↓State.upTo_mask, ↓State.modPwr_mask, ↓State.flush_mask, ↓stateOf_next, ↓stateOf_ite, ↓State.mask_ite, ite_self, implies_true, h0, h1, h2]; done) | (simp_all (maxDischargeDepth := 9) only [↓State.upTo_mask, ↓State.modPwr_mask, ↓State.flush_mask, ↓stateOf_next, ↓stateOf_ite, ↓State.mask_ite, ite_self, implies_true, h0, h1, h2]; done))

theorem execHeadAdmission_mask (k : Part → Bool) (pcore : BitVec 12) (s : State) (h0 : k .mono = false) (h1 : k .fel = false) (h2 : k .pwr = false) :
    (stateOf s (execHeadAdmission pcore s)).mask k = s.mask k := by
  unfold execHeadAdmission
  first
    | (simp (maxDischargeDepth := 9) only [↓State.upTo_mask, ↓State.modPwr_mask, ↓State.modFel_mask, ↓State.headAdmit_mask, ↓stateOf_next, ↓stateOf_ite, ↓State.mask_ite, ite_self, implies_true, h0, h1, h2]; done)
    | ((try dsimp only); (repeat' split) <;> first | (simp (maxDischargeDepth := 9) only [↓State.upTo_mask, ↓State.modPwr_mask, ↓State.modFel_mask, ↓State.headAdmit_mask, ↓stateOf_next, ↓stateOf_ite, ↓State.mask_ite, ite_self, implies_true, h0, h1, h2]; done) | (simp_all (maxDischargeDepth := 9) only [↓State.upTo_mask, ↓State.modPwr_mask, ↓State.modFel_mask, ↓State.headAdmit_mask, ↓stateOf_next, ↓stateOf_ite, ↓State.mask_ite, ite_self, implies_true, h0, h1, h2]; done))

theorem execHeadTrip_mask (k : Part → Bool) (p : PortalIx) (s : State) (h0 : k .fel = false) (h1 : k .pwr = false) :
    (stateOf s (execHeadTrip p s)).mask k = s.mask k := by
  unfold execHeadTrip
  first
    | (simp (maxDischargeDepth := 9) only [↓State.modPwr_mask, ↓State.modPwrReg_mask, ↓State.modFel_mask, ↓stateOf_next, ↓stateOf_ite, ↓State.mask_ite, ite_self, implies_true, h0, h1]; done)
    | ((try dsimp only); (repeat' split) <;> first | (simp (maxDischargeDepth := 9) only [↓State.modPwr_mask, ↓State.modPwrReg_mask, ↓State.modFel_mask, ↓stateOf_next, ↓stateOf_ite, ↓State.mask_ite, ite_self, implies_true, h0, h1]; done) | (simp_all (maxDischargeDepth := 9) only [↓State.modPwr_mask, ↓State.modPwrReg_mask, ↓State.modFel_mask, ↓stateOf_next, ↓stateOf_ite, ↓State.mask_ite, ite_self, implies_true, h0, h1]; done))

theorem execHeadRetry_mask (k : Part → Bool) (p : PortalIx) (s : State) (h0 : k .mono = false) (h1 : k .fel = false) (h2 : k .pwr = false) :
    (stateOf s (execHeadRetry p s)).mask k = s.mask k := by
  unfold execHeadRetry
  first
    | (simp (maxDischargeDepth := 9) only [↓State.upTo_mask, ↓State.modPwr_mask, ↓State.headAdmit_mask, ↓State.headWait_mask, ↓stateOf_next, ↓stateOf_ite, ↓State.mask_ite, ite_self, implies_true, h0, h1, h2]; done)
    | ((try dsimp only); (repeat' split) <;> first | (simp (maxDischargeDepth := 9) only [↓State.upTo_mask, ↓State.modPwr_mask, ↓State.headAdmit_mask, ↓State.headWait_mask, ↓stateOf_next, ↓stateOf_ite, ↓State.mask_ite, ite_self, implies_true, h0, h1, h2]; done) | (simp_all (maxDischargeDepth := 9) only [↓State.upTo_mask, ↓State.modPwr_mask, ↓State.headAdmit_mask, ↓State.headWait_mask, ↓stateOf_next, ↓stateOf_ite, ↓State.mask_ite, ite_self, implies_true, h0, h1, h2]; done))

theorem execPreheatComplete_mask (k : Part → Bool) (tcs : BitVec 8) (len : BitVec 16) (s : State) (h0 : k .pwr = false) (h1 : k .boot = false) :
    (stateOf s (execPreheatComplete tcs len s)).mask k = s.mask k := by
  unfold execPreheatComplete
  first
    | (simp (maxDischargeDepth := 9) only [↓State.modPwrReg_mask, ↓stateOf_next, ↓stateOf_ite, ↓State.mask_with_pwr, ↓State.mask_with_boot, ↓State.mask_ite, ite_self, implies_true, h0, h1]; done)
    | ((try dsimp only); (repeat' split) <;> first | (simp (maxDischargeDepth := 9) only [↓State.modPwrReg_mask, ↓stateOf_next, ↓stateOf_ite, ↓State.mask_with_pwr, ↓State.mask_with_boot, ↓State.mask_ite, ite_self, implies_true, h0, h1]; done) | (simp_all (maxDischargeDepth := 9) only [↓State.modPwrReg_mask, ↓stateOf_next, ↓stateOf_ite, ↓State.mask_with_pwr, ↓State.mask_with_boot, ↓State.mask_ite, ite_self, implies_true, h0, h1]; done))
    | (simp only [State.mask, Bool.false_eq_true, ↓reduceIte, h0, h1]; done)
    | (simp (maxDischargeDepth := 9) only [↓State.modPwrReg_mask, ↓stateOf_next, ↓stateOf_ite, ↓State.mask_with_pwr, ↓State.mask_with_boot, ↓State.mask_ite, ite_self, implies_true, h0, h1]; simp only [State.mask, Bool.false_eq_true, ↓reduceIte, h0, h1]; done)

theorem execAutoSleep_mask (k : Part → Bool) (lvl : BitVec 4) (s : State) (h0 : k .mono = false) (h1 : k .tim = false) (h2 : k .fab = false) (h3 : k .mem = false) (h4 : k .eng = false) (h5 : k .tally = false) (h6 : k .axes = false) (h7 : k .portals = false) (h8 : k .fel = false) (h9 : k .sde = false) (h10 : k .ls = false) (h11 : k .lsg = false) (h12 : k .kerf = false) (h13 : k .fio = false) (h14 : k .safe = false) (h15 : k .jnl = false) (h16 : k .net = false) (h17 : k .lnd = false) (h18 : k .tru = false) (h19 : k .pwr = false) (h20 : k .boot = false) (h21 : k .sent = false) (h22 : k .freeSeq = false) :
    (stateOf s (execAutoSleep lvl s)).mask k = s.mask k := by
  unfold execAutoSleep
  first
    | (simp (maxDischargeDepth := 9) only [↓State.upTo_mask, ↓State.modPwrReg_mask, ↓State.sleepRequest_mask, ↓State.drainAll_mask, ↓stateOf_next, ↓stateOf_ite, ↓State.mask_ite, ite_self, implies_true, h0, h1, h2, h3, h4, h5, h6, h7, h8, h9, h10, h11, h12, h13, h14, h15, h16, h17, h18, h19, h20, h21, h22]; done)
    | ((try dsimp only); (repeat' split) <;> first | (simp (maxDischargeDepth := 9) only [↓State.upTo_mask, ↓State.modPwrReg_mask, ↓State.sleepRequest_mask, ↓State.drainAll_mask, ↓stateOf_next, ↓stateOf_ite, ↓State.mask_ite, ite_self, implies_true, h0, h1, h2, h3, h4, h5, h6, h7, h8, h9, h10, h11, h12, h13, h14, h15, h16, h17, h18, h19, h20, h21, h22]; done) | (simp_all (maxDischargeDepth := 9) only [↓State.upTo_mask, ↓State.modPwrReg_mask, ↓State.sleepRequest_mask, ↓State.drainAll_mask, ↓stateOf_next, ↓stateOf_ite, ↓State.mask_ite, ite_self, implies_true, h0, h1, h2, h3, h4, h5, h6, h7, h8, h9, h10, h11, h12, h13, h14, h15, h16, h17, h18, h19, h20, h21, h22]; done))

theorem execSleepEntry_mask (k : Part → Bool) (s : State) (h0 : k .tim = false) (h1 : k .fab = false) (h2 : k .mem = false) (h3 : k .eng = false) (h4 : k .tally = false) (h5 : k .axes = false) (h6 : k .portals = false) (h7 : k .fel = false) (h8 : k .sde = false) (h9 : k .ls = false) (h10 : k .lsg = false) (h11 : k .kerf = false) (h12 : k .fio = false) (h13 : k .safe = false) (h14 : k .jnl = false) (h15 : k .net = false) (h16 : k .lnd = false) (h17 : k .tru = false) (h18 : k .pwr = false) (h19 : k .boot = false) (h20 : k .sent = false) (h21 : k .freeSeq = false) :
    (stateOf s (execSleepEntry s)).mask k = s.mask k := by
  unfold execSleepEntry
  first
    | (simp (maxDischargeDepth := 9) only [↓State.sleepEnter_mask, ↓State.drainAll_mask, ↓stateOf_next, ↓stateOf_ite, ↓State.mask_ite, ite_self, implies_true, h0, h1, h2, h3, h4, h5, h6, h7, h8, h9, h10, h11, h12, h13, h14, h15, h16, h17, h18, h19, h20, h21]; done)
    | ((try dsimp only); (repeat' split) <;> first | (simp (maxDischargeDepth := 9) only [↓State.sleepEnter_mask, ↓State.drainAll_mask, ↓stateOf_next, ↓stateOf_ite, ↓State.mask_ite, ite_self, implies_true, h0, h1, h2, h3, h4, h5, h6, h7, h8, h9, h10, h11, h12, h13, h14, h15, h16, h17, h18, h19, h20, h21]; done) | (simp_all (maxDischargeDepth := 9) only [↓State.sleepEnter_mask, ↓State.drainAll_mask, ↓stateOf_next, ↓stateOf_ite, ↓State.mask_ite, ite_self, implies_true, h0, h1, h2, h3, h4, h5, h6, h7, h8, h9, h10, h11, h12, h13, h14, h15, h16, h17, h18, h19, h20, h21]; done))

theorem execWake_mask (k : Part → Bool) (src lvl : BitVec 4) (rtc : Nat) (s : State) (h0 : k .mono = false) (h1 : k .cal = false) (h2 : k .pwr = false) (h3 : k .boot = false) :
    (stateOf s (execWake src lvl rtc s)).mask k = s.mask k := by
  unfold execWake
  first
    | (simp (maxDischargeDepth := 9) only [↓State.modPwr_mask, ↓State.modPwrReg_mask, ↓State.pass_mask, ↓State.runFree_mask, ↓stateOf_next, ↓stateOf_ite, ↓State.mask_with_mono, ↓State.mask_with_calBase, ↓State.mask_with_calAt, ↓State.mask_with_slew, ↓State.mask_with_calPpb, ↓State.mask_with_pwr, ↓State.mask_with_boot, ↓State.mask_ite, ite_self, implies_true, h0, h1, h2, h3]; done)
    | ((try dsimp only); (repeat' split) <;> first | (simp (maxDischargeDepth := 9) only [↓State.modPwr_mask, ↓State.modPwrReg_mask, ↓State.pass_mask, ↓State.runFree_mask, ↓stateOf_next, ↓stateOf_ite, ↓State.mask_with_mono, ↓State.mask_with_calBase, ↓State.mask_with_calAt, ↓State.mask_with_slew, ↓State.mask_with_calPpb, ↓State.mask_with_pwr, ↓State.mask_with_boot, ↓State.mask_ite, ite_self, implies_true, h0, h1, h2, h3]; done) | (simp_all (maxDischargeDepth := 9) only [↓State.modPwr_mask, ↓State.modPwrReg_mask, ↓State.pass_mask, ↓State.runFree_mask, ↓stateOf_next, ↓stateOf_ite, ↓State.mask_with_mono, ↓State.mask_with_calBase, ↓State.mask_with_calAt, ↓State.mask_with_slew, ↓State.mask_with_calPpb, ↓State.mask_with_pwr, ↓State.mask_with_boot, ↓State.mask_ite, ite_self, implies_true, h0, h1, h2, h3]; done))
    | (simp only [State.mask, Bool.false_eq_true, ↓reduceIte, h0, h1, h2, h3]; done)
    | (simp (maxDischargeDepth := 9) only [↓State.modPwr_mask, ↓State.modPwrReg_mask, ↓State.pass_mask, ↓State.runFree_mask, ↓stateOf_next, ↓stateOf_ite, ↓State.mask_with_mono, ↓State.mask_with_calBase, ↓State.mask_with_calAt, ↓State.mask_with_slew, ↓State.mask_with_calPpb, ↓State.mask_with_pwr, ↓State.mask_with_boot, ↓State.mask_ite, ite_self, implies_true, h0, h1, h2, h3]; simp only [State.mask, Bool.false_eq_true, ↓reduceIte, h0, h1, h2, h3]; done)

theorem execRetentionLoss_mask (k : Part → Bool) (s : State) (h0 : k .pwr = false) (h1 : k .boot = false) :
    (stateOf s (execRetentionLoss s)).mask k = s.mask k := by
  unfold execRetentionLoss
  first
    | (simp (maxDischargeDepth := 9) only [↓State.modPwrReg_mask, ↓stateOf_next, ↓stateOf_ite, ↓State.mask_with_pwr, ↓State.mask_with_boot, ↓State.mask_ite, ite_self, implies_true, h0, h1]; done)
    | ((try dsimp only); (repeat' split) <;> first | (simp (maxDischargeDepth := 9) only [↓State.modPwrReg_mask, ↓stateOf_next, ↓stateOf_ite, ↓State.mask_with_pwr, ↓State.mask_with_boot, ↓State.mask_ite, ite_self, implies_true, h0, h1]; done) | (simp_all (maxDischargeDepth := 9) only [↓State.modPwrReg_mask, ↓stateOf_next, ↓stateOf_ite, ↓State.mask_with_pwr, ↓State.mask_with_boot, ↓State.mask_ite, ite_self, implies_true, h0, h1]; done))
    | (simp only [State.mask, Bool.false_eq_true, ↓reduceIte, h0, h1]; done)
    | (simp (maxDischargeDepth := 9) only [↓State.modPwrReg_mask, ↓stateOf_next, ↓stateOf_ite, ↓State.mask_with_pwr, ↓State.mask_with_boot, ↓State.mask_ite, ite_self, implies_true, h0, h1]; simp only [State.mask, Bool.false_eq_true, ↓reduceIte, h0, h1]; done)

end Sys2Proof.Machine
end

