-- ==== Sys2Proof/Laws/FrameStartCmd.lean ====
section
/-! SUPPORT. What each operation of Machine/StartCmd.lean can change: it keeps every part of the state that it is not named to change. -/

set_option linter.unusedSimpArgs false

namespace Sys2Proof.Machine

theorem execReset_mask (k : Part → Bool) (i : Fin 3) (tag : Word) (s : State) (h0 : k .fab = false) (h1 : k .eng = false) (h2 : k .tally = false) (h3 : k .axes = false) (h4 : k .portals = false) (h5 : k .fel = false) (h6 : k .sde = false) (h7 : k .ls = false) (h8 : k .lsg = false) (h9 : k .kerf = false) (h10 : k .fio = false) (h11 : k .safe = false) (h12 : k .jnl = false) (h13 : k .lnd = false) (h14 : k .tru = false) (h15 : k .pwr = false) (h16 : k .boot = false) (h17 : k .sent = false) (h18 : k .freeSeq = false) :
    (stateOf s (execReset i tag s)).mask k = s.mask k := by
  unfold execReset
  first
    | (simp (maxDischargeDepth := 9) only [↓State.endSession_mask, ↓State.serve_mask, ↓State.assertReset_mask, ↓stateOf_next, ↓stateOf_ite, ↓State.mask_ite, ite_self, implies_true, ↓State.mask_fst_ite, h0, h1, h2, h3, h4, h5, h6, h7, h8, h9, h10, h11, h12, h13, h14, h15, h16, h17, h18]; done)
    | ((try dsimp only); (repeat' split) <;> first | (simp (maxDischargeDepth := 9) only [↓State.endSession_mask, ↓State.serve_mask, ↓State.assertReset_mask, ↓stateOf_next, ↓stateOf_ite, ↓State.mask_ite, ite_self, implies_true, ↓State.mask_fst_ite, h0, h1, h2, h3, h4, h5, h6, h7, h8, h9, h10, h11, h12, h13, h14, h15, h16, h17, h18]; done) | (simp_all (maxDischargeDepth := 9) only [↓State.endSession_mask, ↓State.serve_mask, ↓State.assertReset_mask, ↓stateOf_next, ↓stateOf_ite, ↓State.mask_ite, ite_self, implies_true, ↓State.mask_fst_ite, h0, h1, h2, h3, h4, h5, h6, h7, h8, h9, h10, h11, h12, h13, h14, h15, h16, h17, h18]; done))
    | (simp only [↓stateOf_next, ↓stateOf_ite]; (try dsimp only); refine State.serve_mask _ _ _ _ _ _ _ _ _ h0 h2 h12 h13 h14 h17 h18 fun _ => ?_; (try dsimp only); (repeat' split) <;> simp (maxDischargeDepth := 9) only [↓State.endSession_mask, ↓State.serve_mask, ↓State.assertReset_mask, ↓stateOf_next, ↓stateOf_ite, ↓State.mask_ite, ite_self, implies_true, ↓State.mask_fst_ite, h0, h1, h2, h3, h4, h5, h6, h7, h8, h9, h10, h11, h12, h13, h14, h15, h16, h17, h18]; done)
    | ((try dsimp only); split <;> simp only [↓stateOf_next, ↓stateOf_ite]; (try dsimp only) <;> first | (simp (maxDischargeDepth := 9) only [↓State.endSession_mask, ↓State.serve_mask, ↓State.assertReset_mask, ↓stateOf_next, ↓stateOf_ite, ↓State.mask_ite, ite_self, implies_true, ↓State.mask_fst_ite, h0, h1, h2, h3, h4, h5, h6, h7, h8, h9, h10, h11, h12, h13, h14, h15, h16, h17, h18]; done) | (refine State.serve_mask _ _ _ _ _ _ _ _ _ h0 h2 h12 h13 h14 h17 h18 fun _ => ?_; (try dsimp only); (repeat' split) <;> simp (maxDischargeDepth := 9) only [↓State.endSession_mask, ↓State.serve_mask, ↓State.assertReset_mask, ↓stateOf_next, ↓stateOf_ite, ↓State.mask_ite, ite_self, implies_true, ↓State.mask_fst_ite, h0, h1, h2, h3, h4, h5, h6, h7, h8, h9, h10, h11, h12, h13, h14, h15, h16, h17, h18]; done))

theorem execSupervisorWatchdog_mask (k : Part → Bool) (s : State) (h0 : k .eng = false) (h1 : k .tally = false) (h2 : k .axes = false) (h3 : k .portals = false) (h4 : k .fel = false) (h5 : k .sde = false) (h6 : k .ls = false) (h7 : k .lsg = false) (h8 : k .kerf = false) (h9 : k .fio = false) (h10 : k .safe = false) (h11 : k .lnd = false) (h12 : k .tru = false) (h13 : k .pwr = false) (h14 : k .boot = false) (h15 : k .sent = false) :
    (stateOf s (execSupervisorWatchdog s)).mask k = s.mask k := by
  unfold execSupervisorWatchdog
  first
    | (simp (maxDischargeDepth := 9) only [↓State.modTru_mask, ↓State.assertReset_mask, ↓stateOf_next, ↓stateOf_ite, ↓State.mask_with_eng, ↓State.mask_with_tally, ↓State.mask_with_axes, ↓State.mask_with_portals, ↓State.mask_with_fel, ↓State.mask_with_sde, ↓State.mask_with_ls, ↓State.mask_with_lsg, ↓State.mask_with_kerf, ↓State.mask_with_fio, ↓State.mask_with_safe, ↓State.mask_with_lnd, ↓State.mask_with_tru, ↓State.mask_with_pwr, ↓State.mask_with_boot, ↓State.mask_with_sent, ↓State.mask_ite, ite_self, implies_true, h0, h1, h2, h3, h4, h5, h6, h7, h8, h9, h10, h11, h12, h13, h14, h15]; done)
    | ((try dsimp only); (repeat' split) <;> first | (simp (maxDischargeDepth := 9) only [↓State.modTru_mask, ↓State.assertReset_mask, ↓stateOf_next, ↓stateOf_ite, ↓State.mask_with_eng, ↓State.mask_with_tally, ↓State.mask_with_axes, ↓State.mask_with_portals, ↓State.mask_with_fel, ↓State.mask_with_sde, ↓State.mask_with_ls, ↓State.mask_with_lsg, ↓State.mask_with_kerf, ↓State.mask_with_fio, ↓State.mask_with_safe, ↓State.mask_with_lnd, ↓State.mask_with_tru, ↓State.mask_with_pwr, ↓State.mask_with_boot, ↓State.mask_with_sent, ↓State.mask_ite, ite_self, implies_true, h0, h1, h2, h3, h4, h5, h6, h7, h8, h9, h10, h11, h12, h13, h14, h15]; done) | (simp_all (maxDischargeDepth := 9) only [↓State.modTru_mask, ↓State.assertReset_mask, ↓stateOf_next, ↓stateOf_ite, ↓State.mask_with_eng, ↓State.mask_with_tally, ↓State.mask_with_axes, ↓State.mask_with_portals, ↓State.mask_with_fel, ↓State.mask_with_sde, ↓State.mask_with_ls, ↓State.mask_with_lsg, ↓State.mask_with_kerf, ↓State.mask_with_fio, ↓State.mask_with_safe, ↓State.mask_with_lnd, ↓State.mask_with_tru, ↓State.mask_with_pwr, ↓State.mask_with_boot, ↓State.mask_with_sent, ↓State.mask_ite, ite_self, implies_true, h0, h1, h2, h3, h4, h5, h6, h7, h8, h9, h10, h11, h12, h13, h14, h15]; done))
    | (simp only [State.mask, Bool.false_eq_true, ↓reduceIte, h0, h1, h2, h3, h4, h5, h6, h7, h8, h9, h10, h11, h12, h13, h14, h15]; done)
    | (simp (maxDischargeDepth := 9) only [↓State.modTru_mask, ↓State.assertReset_mask, ↓stateOf_next, ↓stateOf_ite, ↓State.mask_with_eng, ↓State.mask_with_tally, ↓State.mask_with_axes, ↓State.mask_with_portals, ↓State.mask_with_fel, ↓State.mask_with_sde, ↓State.mask_with_ls, ↓State.mask_with_lsg, ↓State.mask_with_kerf, ↓State.mask_with_fio, ↓State.mask_with_safe, ↓State.mask_with_lnd, ↓State.mask_with_tru, ↓State.mask_with_pwr, ↓State.mask_with_boot, ↓State.mask_with_sent, ↓State.mask_ite, ite_self, implies_true, h0, h1, h2, h3, h4, h5, h6, h7, h8, h9, h10, h11, h12, h13, h14, h15]; simp only [State.mask, Bool.false_eq_true, ↓reduceIte, h0, h1, h2, h3, h4, h5, h6, h7, h8, h9, h10, h11, h12, h13, h14, h15]; done)

theorem execResetRelease_mask (k : Part → Bool) (b : BootIn) (s : State) (h0 : k .mono = false) (h1 : k .tim = false) (h2 : k .cal = false) (h3 : k .fab = false) (h4 : k .latch = false) (h5 : k .mem = false) (h6 : k .eng = false) (h7 : k .tally = false) (h8 : k .axes = false) (h9 : k .portals = false) (h10 : k .fel = false) (h11 : k .sde = false) (h12 : k .ls = false) (h13 : k .lsg = false) (h14 : k .kerf = false) (h15 : k .fio = false) (h16 : k .safe = false) (h17 : k .jnl = false) (h18 : k .net = false) (h19 : k .lnd = false) (h20 : k .tru = false) (h21 : k .pwr = false) (h22 : k .boot = false) (h23 : k .sent = false) (h24 : k .freeSeq = false) :
    (stateOf s (execResetRelease b s)).mask k = s.mask k := by
  unfold execResetRelease
  first
    | (simp (maxDischargeDepth := 9) only [↓State.modPwrReg_mask, ↓State.pass_mask, ↓State.runFree_mask, ↓State.bootUp_mask, ↓stateOf_next, ↓stateOf_ite, ↓State.mask_with_mono, ↓State.mask_with_tim, ↓State.mask_with_calBase, ↓State.mask_with_calAt, ↓State.mask_with_slew, ↓State.mask_with_calPpb, ↓State.mask_with_fab, ↓State.mask_with_latch, ↓State.mask_with_mem, ↓State.mask_with_eng, ↓State.mask_with_tally, ↓State.mask_with_axes, ↓State.mask_with_portals, ↓State.mask_with_fel, ↓State.mask_with_sde, ↓State.mask_with_ls, ↓State.mask_with_lsg, ↓State.mask_with_kerf, ↓State.mask_with_fio, ↓State.mask_with_safe, ↓State.mask_with_jnl, ↓State.mask_with_net, ↓State.mask_with_lnd, ↓State.mask_with_tru, ↓State.mask_with_pwr, ↓State.mask_with_boot, ↓State.mask_with_sent, ↓State.mask_with_freeSeq, ↓State.mask_ite, ite_self, implies_true, h0, h1, h2, h3, h4, h5, h6, h7, h8, h9, h10, h11, h12, h13, h14, h15, h16, h17, h18, h19, h20, h21, h22, h23, h24]; done)
    | ((try dsimp only); (repeat' split) <;> first | (simp (maxDischargeDepth := 9) only [↓State.modPwrReg_mask, ↓State.pass_mask, ↓State.runFree_mask, ↓State.bootUp_mask, ↓stateOf_next, ↓stateOf_ite, ↓State.mask_with_mono, ↓State.mask_with_tim, ↓State.mask_with_calBase, ↓State.mask_with_calAt, ↓State.mask_with_slew, ↓State.mask_with_calPpb, ↓State.mask_with_fab, ↓State.mask_with_latch, ↓State.mask_with_mem, ↓State.mask_with_eng, ↓State.mask_with_tally, ↓State.mask_with_axes, ↓State.mask_with_portals, ↓State.mask_with_fel, ↓State.mask_with_sde, ↓State.mask_with_ls, ↓State.mask_with_lsg, ↓State.mask_with_kerf, ↓State.mask_with_fio, ↓State.mask_with_safe, ↓State.mask_with_jnl, ↓State.mask_with_net, ↓State.mask_with_lnd, ↓State.mask_with_tru, ↓State.mask_with_pwr, ↓State.mask_with_boot, ↓State.mask_with_sent, ↓State.mask_with_freeSeq, ↓State.mask_ite, ite_self, implies_true, h0, h1, h2, h3, h4, h5, h6, h7, h8, h9, h10, h11, h12, h13, h14, h15, h16, h17, h18, h19, h20, h21, h22, h23, h24]; done) | (simp_all (maxDischargeDepth := 9) only [↓State.modPwrReg_mask, ↓State.pass_mask, ↓State.runFree_mask, ↓State.bootUp_mask, ↓stateOf_next, ↓stateOf_ite, ↓State.mask_with_mono, ↓State.mask_with_tim, ↓State.mask_with_calBase, ↓State.mask_with_calAt, ↓State.mask_with_slew, ↓State.mask_with_calPpb, ↓State.mask_with_fab, ↓State.mask_with_latch, ↓State.mask_with_mem, ↓State.mask_with_eng, ↓State.mask_with_tally, ↓State.mask_with_axes, ↓State.mask_with_portals, ↓State.mask_with_fel, ↓State.mask_with_sde, ↓State.mask_with_ls, ↓State.mask_with_lsg, ↓State.mask_with_kerf, ↓State.mask_with_fio, ↓State.mask_with_safe, ↓State.mask_with_jnl, ↓State.mask_with_net, ↓State.mask_with_lnd, ↓State.mask_with_tru, ↓State.mask_with_pwr, ↓State.mask_with_boot, ↓State.mask_with_sent, ↓State.mask_with_freeSeq, ↓State.mask_ite, ite_self, implies_true, h0, h1, h2, h3, h4, h5, h6, h7, h8, h9, h10, h11, h12, h13, h14, h15, h16, h17, h18, h19, h20, h21, h22, h23, h24]; done))
    | (simp only [State.mask, Bool.false_eq_true, ↓reduceIte, h0, h1, h2, h3, h4, h5, h6, h7, h8, h9, h10, h11, h12, h13, h14, h15, h16, h17, h18, h19, h20, h21, h22, h23, h24]; done)
    | (simp (maxDischargeDepth := 9) only [↓State.modPwrReg_mask, ↓State.pass_mask, ↓State.runFree_mask, ↓State.bootUp_mask, ↓stateOf_next, ↓stateOf_ite, ↓State.mask_with_mono, ↓State.mask_with_tim, ↓State.mask_with_calBase, ↓State.mask_with_calAt, ↓State.mask_with_slew, ↓State.mask_with_calPpb, ↓State.mask_with_fab, ↓State.mask_with_latch, ↓State.mask_with_mem, ↓State.mask_with_eng, ↓State.mask_with_tally, ↓State.mask_with_axes, ↓State.mask_with_portals, ↓State.mask_with_fel, ↓State.mask_with_sde, ↓State.mask_with_ls, ↓State.mask_with_lsg, ↓State.mask_with_kerf, ↓State.mask_with_fio, ↓State.mask_with_safe, ↓State.mask_with_jnl, ↓State.mask_with_net, ↓State.mask_with_lnd, ↓State.mask_with_tru, ↓State.mask_with_pwr, ↓State.mask_with_boot, ↓State.mask_with_sent, ↓State.mask_with_freeSeq, ↓State.mask_ite, ite_self, implies_true, h0, h1, h2, h3, h4, h5, h6, h7, h8, h9, h10, h11, h12, h13, h14, h15, h16, h17, h18, h19, h20, h21, h22, h23, h24]; simp only [State.mask, Bool.false_eq_true, ↓reduceIte, h0, h1, h2, h3, h4, h5, h6, h7, h8, h9, h10, h11, h12, h13, h14, h15, h16, h17, h18, h19, h20, h21, h22, h23, h24]; done)

theorem execStartupRunEntry_mask (k : Part → Bool) (reserve : Bool) (s : State) (h0 : k .mem = false) (h1 : k .eng = false) (h2 : k .axes = false) (h3 : k .portals = false) (h4 : k .ls = false) (h5 : k .fio = false) (h6 : k .pwr = false) (h7 : k .boot = false) :
    (stateOf s (execStartupRunEntry reserve s)).mask k = s.mask k := by
  unfold execStartupRunEntry
  first
    | (simp (maxDischargeDepth := 9) only [↓State.modPwr_mask, ↓State.modPwrReg_mask, ↓State.enterRun_mask, ↓stateOf_next, ↓stateOf_ite, ↓State.mask_with_mem, ↓State.mask_with_eng, ↓State.mask_with_axes, ↓State.mask_with_portals, ↓State.mask_with_ls, ↓State.mask_with_fio, ↓State.mask_with_pwr, ↓State.mask_with_boot, ↓State.mask_ite, ite_self, implies_true, ↓State.mask_fst_ite, h0, h1, h2, h3, h4, h5, h6, h7]; done)
    | ((try dsimp only); (repeat' split) <;> first | (simp (maxDischargeDepth := 9) only [↓State.modPwr_mask, ↓State.modPwrReg_mask, ↓State.enterRun_mask, ↓stateOf_next, ↓stateOf_ite, ↓State.mask_with_mem, ↓State.mask_with_eng, ↓State.mask_with_axes, ↓State.mask_with_portals, ↓State.mask_with_ls, ↓State.mask_with_fio, ↓State.mask_with_pwr, ↓State.mask_with_boot, ↓State.mask_ite, ite_self, implies_true, ↓State.mask_fst_ite, h0, h1, h2, h3, h4, h5, h6, h7]; done) | (simp_all (maxDischargeDepth := 9) only [↓State.modPwr_mask, ↓State.modPwrReg_mask, ↓State.enterRun_mask, ↓stateOf_next, ↓stateOf_ite, ↓State.mask_with_mem, ↓State.mask_with_eng, ↓State.mask_with_axes, ↓State.mask_with_portals, ↓State.mask_with_ls, ↓State.mask_with_fio, ↓State.mask_with_pwr, ↓State.mask_with_boot, ↓State.mask_ite, ite_self, implies_true, ↓State.mask_fst_ite, h0, h1, h2, h3, h4, h5, h6, h7]; done))
    | (simp only [State.mask, Bool.false_eq_true, ↓reduceIte, h0, h1, h2, h3, h4, h5, h6, h7]; done)
    | (simp (maxDischargeDepth := 9) only [↓State.modPwr_mask, ↓State.modPwrReg_mask, ↓State.enterRun_mask, ↓stateOf_next, ↓stateOf_ite, ↓State.mask_with_mem, ↓State.mask_with_eng, ↓State.mask_with_axes, ↓State.mask_with_portals, ↓State.mask_with_ls, ↓State.mask_with_fio, ↓State.mask_with_pwr, ↓State.mask_with_boot, ↓State.mask_ite, ite_self, implies_true, ↓State.mask_fst_ite, h0, h1, h2, h3, h4, h5, h6, h7]; simp only [State.mask, Bool.false_eq_true, ↓reduceIte, h0, h1, h2, h3, h4, h5, h6, h7]; done)

theorem State.switchTests_mask (k : Part → Bool) (s : State) (ch : SafeCh) (stuck noclose : BitVec 6) (h0 : k .tally = false) (h1 : k .safe = false) :
    (State.switchTests s ch stuck noclose).mask k = s.mask k := by
  unfold State.switchTests
  first
    | (simp (maxDischargeDepth := 9) only [↓State.modSafe_mask, ↓State.switchFault_mask, ↓State.sdeTest_mask, ↓State.mask_ite, ite_self, implies_true, ↓State.mask_forAll, h0, h1]; done)
    | ((try dsimp only); (repeat' split) <;> first | (simp (maxDischargeDepth := 9) only [↓State.modSafe_mask, ↓State.switchFault_mask, ↓State.sdeTest_mask, ↓State.mask_ite, ite_self, implies_true, ↓State.mask_forAll, h0, h1]; done) | (simp_all (maxDischargeDepth := 9) only [↓State.modSafe_mask, ↓State.switchFault_mask, ↓State.sdeTest_mask, ↓State.mask_ite, ite_self, implies_true, ↓State.mask_forAll, h0, h1]; done))
    | ((try dsimp only); refine State.mask_forAll _ _ _ _ fun _ _ => ?_; (repeat' split) <;> simp (maxDischargeDepth := 9) only [↓State.modSafe_mask, ↓State.switchFault_mask, ↓State.sdeTest_mask, ↓State.mask_ite, ite_self, implies_true, ↓State.mask_forAll, h0, h1]; done)
    | ((try dsimp only); refine (State.mask_forAll _ _ _ _ fun _ _ => ?_).trans ?_ <;> (repeat' split) <;> simp (maxDischargeDepth := 9) only [↓State.modSafe_mask, ↓State.switchFault_mask, ↓State.sdeTest_mask, ↓State.mask_ite, ite_self, implies_true, ↓State.mask_forAll, h0, h1]; done)

theorem execStartUpSelfTestComplete_mask (k : Part → Bool) (ch : SafeCh) (pass : Bool) (stuck noclose : BitVec 6) (s : State) (h0 : k .tally = false) (h1 : k .axes = false) (h2 : k .portals = false) (h3 : k .sde = false) (h4 : k .ls = false) (h5 : k .kerf = false) (h6 : k .fio = false) (h7 : k .safe = false) (h8 : k .boot = false) (h9 : k .sent = false) :
    (stateOf s (execStartUpSelfTestComplete ch pass stuck noclose s)).mask k = s.mask k := by
  unfold execStartUpSelfTestComplete
  first
    | (simp (maxDischargeDepth := 9) only [↓State.modSafe_mask, ↓State.absenceEnd_mask, ↓State.channelGone_mask, ↓State.groupEval_mask, ↓State.switchTests_mask, ↓stateOf_next, ↓stateOf_ite, ↓State.mask_ite, ite_self, implies_true, h0, h1, h2, h3, h4, h5, h6, h7, h8, h9]; done)
    | ((try dsimp only); (repeat' split) <;> first | (simp (maxDischargeDepth := 9) only [↓State.modSafe_mask, ↓State.absenceEnd_mask, ↓State.channelGone_mask, ↓State.groupEval_mask, ↓State.switchTests_mask, ↓stateOf_next, ↓stateOf_ite, ↓State.mask_ite, ite_self, implies_true, h0, h1, h2, h3, h4, h5, h6, h7, h8, h9]; done) | (simp_all (maxDischargeDepth := 9) only [↓State.modSafe_mask, ↓State.absenceEnd_mask, ↓State.channelGone_mask, ↓State.groupEval_mask, ↓State.switchTests_mask, ↓stateOf_next, ↓stateOf_ite, ↓State.mask_ite, ite_self, implies_true, h0, h1, h2, h3, h4, h5, h6, h7, h8, h9]; done))

end Sys2Proof.Machine
end

