-- ==== Sys2Proof/Laws/FrameTallyCmd.lean ====
section
/-! SUPPORT. What each operation of Machine/TallyCmd.lean can change: it keeps every part of the state that it is not named to change. -/

set_option linter.unusedSimpArgs false

namespace Sys2Proof.Machine

theorem execTalFlush_mask (k : Part → Bool) (s : State) (h0 : k .tally = false) :
    (stateOf s (execTalFlush s)).mask k = s.mask k := by
  unfold execTalFlush
  first
    | (simp (maxDischargeDepth := 9) only [↓State.flush_mask, ↓stateOf_next, ↓stateOf_ite, ↓State.mask_ite, ite_self, implies_true, h0]; done)
    | ((try dsimp only); (repeat' split) <;> first | (simp (maxDischargeDepth := 9) only [↓State.flush_mask, ↓stateOf_next, ↓stateOf_ite, ↓State.mask_ite, ite_self, implies_true, h0]; done) | (simp_all (maxDischargeDepth := 9) only [↓State.flush_mask, ↓stateOf_next, ↓stateOf_ite, ↓State.mask_ite, ite_self, implies_true, h0]; done))

theorem execTallyFlushComplete_mask (k : Part → Bool) (wear : FlushWear) (s : State) (h0 : k .tally = false) :
    (stateOf s (execTallyFlushComplete wear s)).mask k = s.mask k := by
  unfold execTallyFlushComplete
  first
    | (simp (maxDischargeDepth := 9) only [↓State.modTally_mask, ↓stateOf_next, ↓stateOf_ite, ↓State.mask_ite, ite_self, implies_true, h0]; done)
    | ((try dsimp only); (repeat' split) <;> first | (simp (maxDischargeDepth := 9) only [↓State.modTally_mask, ↓stateOf_next, ↓stateOf_ite, ↓State.mask_ite, ite_self, implies_true, h0]; done) | (simp_all (maxDischargeDepth := 9) only [↓State.modTally_mask, ↓stateOf_next, ↓stateOf_ite, ↓State.mask_ite, ite_self, implies_true, h0]; done))

theorem execEmissionGo_mask (k : Part → Bool) (w : Word) (s : State) (h0 : k .eng = false) (h1 : k .tally = false) :
    (stateOf s (execEmissionGo w s)).mask k = s.mask k := by
  unfold execEmissionGo
  first
    | (simp (maxDischargeDepth := 9) only [↓State.emissionGo_mask, ↓stateOf_next, ↓stateOf_ite, ↓State.mask_ite, ite_self, implies_true, h0, h1]; done)
    | ((try dsimp only); (repeat' split) <;> first | (simp (maxDischargeDepth := 9) only [↓State.emissionGo_mask, ↓stateOf_next, ↓stateOf_ite, ↓State.mask_ite, ite_self, implies_true, h0, h1]; done) | (simp_all (maxDischargeDepth := 9) only [↓State.emissionGo_mask, ↓stateOf_next, ↓stateOf_ite, ↓State.mask_ite, ite_self, implies_true, h0, h1]; done))

end Sys2Proof.Machine
end

