-- ==== Sys2Proof/Laws/Memory.lean ====
section
/-! SUPPORT. Memory: every operation on it keeps its canonical form; a byte read after a write is the byte written, and every other
address reads as before. -/

namespace Sys2Proof.Machine

theorem Mem.mem_write {m : List Host.Cell} {a : Nat} {b : Byte} {c : Host.Cell} (h : c ∈ Mem.write m a b) :
    (c ∈ m ∧ c.1 ≠ a) ∨ (c = (a, b) ∧ b ≠ 0) ∨ c ∈ m := by
  induction m with
  | nil => simp only [Mem.write] at h; split at h <;> simp_all
  | cons d m ih =>
    simp only [Mem.write] at h
    split at h
    · rcases List.mem_cons.1 h with rfl | h
      · simp
      · rcases ih h with h | h | h <;> simp_all
    · split at h
      · split at h <;> simp_all
        rcases h with rfl | h <;> simp_all
      · split at h
        · exact .inr (.inr h)
        · rcases List.mem_cons.1 h with rfl | h <;> simp_all

theorem Mem.write_wf {m : List Host.Cell} (a : Nat) (b : Byte) (h : Memory.wf m) : Memory.wf (Mem.write m a b) := by
  refine ⟨?_, fun c hc => ?_⟩
  · obtain ⟨h, -⟩ := h
    induction m with
    | nil => simp only [Mem.write]; split <;> simp
    | cons d m ih =>
      obtain ⟨hd, hm⟩ := List.pairwise_cons.1 h
      simp only [Mem.write]
      split
      · refine List.pairwise_cons.2 ⟨fun c hc => ?_, ih hm⟩
        rcases Mem.mem_write hc with hc | hc | hc
        · exact hd c hc.1
        · rw [hc.1]; assumption
        · exact hd c hc
      · split
        · split
          · exact hm
          · refine List.pairwise_cons.2 ⟨fun c hc => ?_, hm⟩
            have := hd c hc
            simp_all
        · split
          · exact h
          · refine List.pairwise_cons.2 ⟨fun c hc => ?_, h⟩
            rcases List.mem_cons.1 hc with rfl | hc
            · simp; omega
            · have := hd c hc
              simp; omega
  · rcases Mem.mem_write hc with hc | hc | hc
    · exact h.2 c hc.1
    · rw [hc.1]; exact hc.2
    · exact h.2 c hc

theorem Mem.writeList_wf {m : List Host.Cell} (a : Nat) (bs : List Byte) (h : Memory.wf m) : Memory.wf (Mem.writeList m a bs) := by
  induction bs generalizing m a with
  | nil => exact h
  | cons b bs ih => exact ih _ (Mem.write_wf a b h)

theorem Mem.clear_wf {m : List Host.Cell} (lo hi : Nat) (h : Memory.wf m) : Memory.wf (Mem.clear m lo hi) :=
  ⟨h.1.filter _, fun c hc => h.2 c ((List.mem_filter.1 hc).1)⟩

/-- Below every listed address a byte reads as an unlisted one. -/
theorem Mem.read_lt {m : List Host.Cell} {a : Nat} (h : ∀ c ∈ m, a < c.1) : Mem.read m a = 0 := by
  induction m with
  | nil => rfl
  | cons d m ih =>
    have := h d (by simp)
    simp only [Mem.read, if_neg (by omega : d.1 ≠ a)]
    exact ih fun c hc => h c (by simp [hc])

/-- A byte read back after it was written. -/
theorem Mem.read_write {m : List Host.Cell} (a : Nat) (b : Byte) (h : Memory.wf m) : Mem.read (Mem.write m a b) a = b := by
  obtain ⟨h, -⟩ := h
  induction m with
  | nil => simp only [Mem.write]; split <;> simp_all [Mem.read]
  | cons d m ih =>
    obtain ⟨hd, hm⟩ := List.pairwise_cons.1 h
    simp only [Mem.write]
    split
    · simp only [Mem.read, if_neg (by omega : d.1 ≠ a)]
      exact ih hm
    · split
      · split
        · next e hb => rw [hb]; exact Mem.read_lt fun c hc => e ▸ hd c hc
        · simp [Mem.read]
      · split
        · next hb =>
          rw [hb, Mem.read, if_neg (by assumption)]
          exact Mem.read_lt fun c hc => by have := hd c hc; omega
        · simp [Mem.read]

/-- Every other address reads as before. -/
theorem Mem.read_write_ne {m : List Host.Cell} (a x : Nat) (b : Byte) (hx : x ≠ a) : Mem.read (Mem.write m a b) x = Mem.read m x := by
  induction m with
  | nil => simp only [Mem.write]; split <;> simp [Mem.read, Ne.symm hx]
  | cons d m ih =>
    simp only [Mem.write]
    split
    · simp only [Mem.read, ih]
    · split
      · next e =>
        have : d.1 ≠ x := by omega
        split <;> simp [Mem.read, Ne.symm hx, this]
      · split
        · rfl
        · simp [Mem.read, Ne.symm hx]

theorem Mem.read_writeList_out {m : List Host.Cell} (a x : Nat) (bs : List Byte) (hx : x < a ∨ a + bs.length ≤ x) :
    Mem.read (Mem.writeList m a bs) x = Mem.read m x := by
  induction bs generalizing m a with
  | nil => rfl
  | cons b bs ih =>
    simp only [List.length_cons] at hx
    rw [Mem.writeList, ih _ (by omega), Mem.read_write_ne _ _ _ (by omega)]

theorem Mem.read_writeList_in {m : List Host.Cell} (a : Nat) (bs : List Byte) (i : Nat) (hi : i < bs.length) (h : Memory.wf m) :
    Mem.read (Mem.writeList m a bs) (a + i) = bs[i] := by
  induction bs generalizing m a i with
  | nil => simp at hi
  | cons b bs ih =>
    cases i with
    | zero => rw [Mem.writeList, Mem.read_writeList_out _ _ _ (by omega)]; exact Mem.read_write _ _ h
    | succ i =>
      have := ih (a + 1) i (by simpa using hi) (Mem.write_wf a b h)
      simpa [Mem.writeList, Nat.add_assoc, Nat.add_comm 1 i] using this

theorem State.setBytes_memOk {s : State} (a : Nat) (bs : List Byte) (h : s.memOk) : (s.setBytes a bs).memOk := Mem.writeList_wf a bs h

/-- Equal masks with memory kept: the memory is the same. -/
theorem State.mem_of_mask {s t : State} (h : t.mask (· == .mem) = s.mask (· == .mem)) : t.mem = s.mem := by
  have := congrArg State.mem h
  simpa [State.mask] using this

end Sys2Proof.Machine
end

