-- ==== Sys2Proof/Laws/MemKept.lean ====
section
/-! SUPPORT. Every operation that can write memory keeps its canonical form. -/

set_option linter.unusedSimpArgs false

namespace Sys2Proof.Machine

theorem State.memOk_mask {s t : State} (h : t.mask (· == .mem) = s.mask (· == .mem)) : t.memOk ↔ s.memOk := by
  simp only [State.memOk, State.mem_of_mask h]

theorem State.memOk_mk (xmono xtim xcalBase xcalAt xslew xcalPpb xfab xlatch xmem xeng xtally xaxes xportals xfel xsde xls xlsg xkerf xfio xsafe xjnl xnet xlnd xtru xpwr xboot xpending xsent xfreeSeq) :
    (State.mk xmono xtim xcalBase xcalAt xslew xcalPpb xfab xlatch xmem xeng xtally xaxes xportals xfel xsde xls xlsg xkerf xfio xsafe xjnl xnet xlnd xtru xpwr xboot xpending xsent xfreeSeq).memOk ↔ Memory.wf xmem := Iff.rfl

theorem State.memOk_fold (s : State) : Memory.wf s.mem ↔ s.memOk := Iff.rfl

theorem State.memOk_ite (c : Prop) [Decidable c] (s t : State) : (if c then s else t).memOk ↔ if c then s.memOk else t.memOk := by split <;> rfl

theorem State.memOk_foldl {ι : Type} (is : List ι) (f : State → ι → State) (s : State) (hf : ∀ s i, s.memOk → (f s i).memOk) (h : s.memOk) :
    (is.foldl f s).memOk := by
  induction is generalizing s with
  | nil => exact h
  | cons i is ih => exact ih _ (hf _ _ h)

theorem State.memOk_forAll {ι : Type} (is : List ι) (f : State → ι → State) (s : State) (hf : ∀ s i, s.memOk → (f s i).memOk) (h : s.memOk) :
    (s.forAll is f).memOk := State.memOk_foldl is f s hf h

theorem State.modAxis_memOk (s : State) (i : AxisIx) (f : Axis → Axis) (h : s.memOk) :
    (State.modAxis s i f).memOk :=
  (State.memOk_mask (State.modAxis_mask _ _ _ _ rfl)).2 h

theorem State.modEng_memOk (s : State) (f : Engine → Engine) (h : s.memOk) :
    (State.modEng s f).memOk :=
  (State.memOk_mask (State.modEng_mask _ _ _ rfl)).2 h

theorem State.modSys_memOk (s : State) (f : Sys → Sys) (h : s.memOk) :
    (State.modSys s f).memOk :=
  (State.memOk_mask (State.modSys_mask _ _ _ rfl)).2 h

theorem State.modTally_memOk (s : State) (f : Tally → Tally) (h : s.memOk) :
    (State.modTally s f).memOk :=
  (State.memOk_mask (State.modTally_mask _ _ _ rfl)).2 h

theorem State.modLs_memOk (s : State) (c : ChanIx) (f : LoadCh → LoadCh) (h : s.memOk) :
    (State.modLs s c f).memOk :=
  (State.memOk_mask (State.modLs_mask _ _ _ _ rfl)).2 h

theorem State.used_memOk (s : State) (h : s.memOk) :
    (State.used s).memOk :=
  (State.memOk_mask (State.used_mask _ _ rfl)).2 h

theorem State.usedN_memOk (s : State) (n : Nat) (h : s.memOk) :
    (State.usedN s n).memOk :=
  (State.memOk_mask (State.usedN_mask _ _ _ rfl)).2 h

theorem State.setWord_memOk (s : State) (a : Nat) (w : Word) (h : s.memOk) :
    (State.setWord s a w).memOk := by
  unfold State.setWord
  first
    | (simp (maxDischargeDepth := 30) +contextual only [State.setBytes_memOk, State.memOk_forAll, State.memOk_foldl, State.memOk_ite, ite_self, implies_true, h]; done)
    | ((try dsimp only); (repeat' split) <;> first | (simp (maxDischargeDepth := 30) +contextual only [State.setBytes_memOk, State.memOk_forAll, State.memOk_foldl, State.memOk_ite, ite_self, implies_true, h]; done) | (simp_all (maxDischargeDepth := 30) only [State.setBytes_memOk, State.memOk_forAll, State.memOk_foldl, State.memOk_ite, ite_self, implies_true, h]; done))

theorem State.scramble_memOk (s : State) (a n : Nat) (h : s.memOk) :
    (State.scramble s a n).memOk := by
  unfold State.scramble
  first
    | (simp (maxDischargeDepth := 30) +contextual only [State.usedN_memOk, State.setBytes_memOk, State.memOk_forAll, State.memOk_foldl, State.memOk_ite, ite_self, implies_true, h]; done)
    | ((try dsimp only); (repeat' split) <;> first | (simp (maxDischargeDepth := 30) +contextual only [State.usedN_memOk, State.setBytes_memOk, State.memOk_forAll, State.memOk_foldl, State.memOk_ite, ite_self, implies_true, h]; done) | (simp_all (maxDischargeDepth := 30) only [State.usedN_memOk, State.setBytes_memOk, State.memOk_forAll, State.memOk_foldl, State.memOk_ite, ite_self, implies_true, h]; done))

theorem State.upTo_memOk (s : State) (t : Nat) (h : s.memOk) :
    (State.upTo s t).memOk :=
  (State.memOk_mask (State.upTo_mask _ _ _ rfl)).2 h

theorem State.modPwr_memOk (s : State) (f : Supply → Supply) (h : s.memOk) :
    (State.modPwr s f).memOk :=
  (State.memOk_mask (State.modPwr_mask _ _ _ rfl)).2 h

theorem State.modPwrReg_memOk (s : State) (f : Pwr → Pwr) (h : s.memOk) :
    (State.modPwrReg s f).memOk :=
  (State.memOk_mask (State.modPwrReg_mask _ _ _ rfl)).2 h

theorem State.modFel_memOk (s : State) (f : Fel → Fel) (h : s.memOk) :
    (State.modFel s f).memOk :=
  (State.memOk_mask (State.modFel_mask _ _ _ rfl)).2 h

theorem State.pass_memOk (s : State) (n : Nat) (h : s.memOk) :
    (State.pass s n).memOk :=
  (State.memOk_mask (State.pass_mask _ _ _ rfl)).2 h

theorem State.event_memOk (s : State) (type : BitVec 16) (unit code : Nat) (arg0 : Nat := 0) (snap : Option (List Byte) := none) (h : s.memOk) :
    (State.event s type unit code arg0 snap).memOk :=
  (State.memOk_mask (State.event_mask _ _ _ _ _ _ _ rfl)).2 h

theorem State.flush_memOk (s : State) (h : s.memOk) :
    (State.flush s).memOk :=
  (State.memOk_mask (State.flush_mask _ _ rfl)).2 h

theorem State.fabFault_memOk (s : State) (f : FabFault) (src : FabSource) (addr : Word) (h : s.memOk) :
    (State.fabFault s f src addr).memOk :=
  (State.memOk_mask (State.fabFault_mask _ _ _ _ _ rfl rfl)).2 h

theorem State.fabViolation_memOk (s : State) (src : FabSource) (addr : Word) (h : s.memOk) :
    (State.fabViolation s src addr).memOk :=
  (State.memOk_mask (State.fabViolation_mask _ _ _ _ rfl)).2 h

theorem State.violation_memOk (s : State) (addr : Word) (h : s.memOk) :
    (State.violation s addr).memOk :=
  (State.memOk_mask (State.violation_mask _ _ _ rfl)).2 h

theorem State.send_memOk (s : State) (o : Output) (h : s.memOk) :
    (State.send s o).memOk :=
  (State.memOk_mask (State.send_mask _ _ _ rfl)).2 h

theorem State.lsEval_memOk (s : State) (c : ChanIx) (h : s.memOk) :
    (State.lsEval s c).memOk :=
  (State.memOk_mask (State.lsEval_mask _ _ _ rfl rfl)).2 h

theorem State.bridgeEval_memOk (s : State) (a : AxisIx) (h : s.memOk) :
    (State.bridgeEval s a).memOk :=
  (State.memOk_mask (State.bridgeEval_mask _ _ _ rfl)).2 h

theorem State.stopAxis_memOk (s : State) (a : AxisIx) (cause : BitVec 4) (h : s.memOk) :
    (State.stopAxis s a cause).memOk :=
  (State.memOk_mask (State.stopAxis_mask _ _ _ _ rfl rfl)).2 h

theorem State.fellSince_memOk (s s0 : State) (h : s.memOk) :
    (State.fellSince s s0).memOk :=
  (State.memOk_mask (State.fellSince_mask _ _ _ rfl rfl rfl rfl rfl rfl rfl)).2 h

theorem State.axisCmd_memOk (s : State) (a : AxisIx) (w : Word) (more : Bool := false) (svc : Bool := false) (h : s.memOk) :
    (State.axisCmd s a w more svc).memOk :=
  (State.memOk_mask (State.axisCmd_mask _ _ _ _ _ _ rfl rfl rfl rfl rfl rfl rfl rfl)).2 h

theorem State.modJnl_memOk (s : State) (f : Journal → Journal) (h : s.memOk) :
    (State.modJnl s f).memOk :=
  (State.memOk_mask (State.modJnl_mask _ _ _ rfl)).2 h

theorem State.take_memOk (s : State) (h : s.memOk) :
    (State.take s).memOk :=
  (State.memOk_mask (State.take_mask _ _ rfl rfl)).2 h

theorem State.result_memOk (s : State) (w : Word) (h : s.memOk) :
    (State.result s w).memOk :=
  (State.memOk_mask (State.result_mask _ _ _ rfl rfl)).2 h

theorem State.redeliver_memOk (s : State) (h : s.memOk) :
    (State.redeliver s).memOk :=
  (State.memOk_mask (State.redeliver_mask _ _ rfl)).2 h

theorem State.reportAll_memOk (s : State) (h : s.memOk) :
    (State.reportAll s).memOk :=
  (State.memOk_mask (State.reportAll_mask _ _ rfl rfl)).2 h

theorem State.modBank_memOk (s : State) (f : Bank → Bank) (h : s.memOk) :
    (State.modBank s f).memOk :=
  (State.memOk_mask (State.modBank_mask _ _ _ rfl)).2 h

theorem State.putR_memOk (s : State) (r : Reg) (w : Word) (h : s.memOk) :
    (State.putR s r w).memOk :=
  (State.memOk_mask (State.putR_mask _ _ _ _ rfl)).2 h

theorem State.retire_memOk (s : State) (cycles : Nat) (h : s.memOk) :
    (State.retire s cycles).memOk :=
  (State.memOk_mask (State.retire_mask _ _ _ rfl rfl)).2 h

theorem State.insn_memOk (s : State) (cycles : Nat) (f : State → State) (g0 : ∀ s, s.memOk → (f s).memOk) (h : s.memOk) :
    (State.insn s cycles f).memOk := by
  unfold State.insn
  first
    | (simp (maxDischargeDepth := 30) +contextual only [State.retire_memOk, State.memOk_forAll, State.memOk_foldl, State.memOk_ite, ite_self, implies_true, h, g0]; done)
    | ((try dsimp only); (repeat' split) <;> first | (simp (maxDischargeDepth := 30) +contextual only [State.retire_memOk, State.memOk_forAll, State.memOk_foldl, State.memOk_ite, ite_self, implies_true, h, g0]; done) | (simp_all (maxDischargeDepth := 30) only [State.retire_memOk, State.memOk_forAll, State.memOk_foldl, State.memOk_ite, ite_self, implies_true, h, g0]; done))

theorem State.bankOp_memOk (s : State) (cycles : Nat) (f : Bank → Bank) (h : s.memOk) :
    (State.bankOp s cycles f).memOk :=
  (State.memOk_mask (State.bankOp_mask _ _ _ _ rfl rfl)).2 h

theorem State.setQuad_memOk (s : State) (t : BitVec 14) (q : Quad) (h : s.memOk) :
    (State.setQuad s t q).memOk := by
  unfold State.setQuad
  first
    | (simp (maxDischargeDepth := 30) +contextual only [State.setWord_memOk, State.memOk_forAll, State.memOk_foldl, State.memOk_ite, ite_self, implies_true, h]; done)
    | ((try dsimp only); (repeat' split) <;> first | (simp (maxDischargeDepth := 30) +contextual only [State.setWord_memOk, State.memOk_forAll, State.memOk_foldl, State.memOk_ite, ite_self, implies_true, h]; done) | (simp_all (maxDischargeDepth := 30) only [State.setWord_memOk, State.memOk_forAll, State.memOk_foldl, State.memOk_ite, ite_self, implies_true, h]; done))

theorem State.modMode_memOk (s : State) (f : SysMode → SysMode) (h : s.memOk) :
    (State.modMode s f).memOk :=
  (State.memOk_mask (State.modMode_mask _ _ _ rfl)).2 h

theorem State.discardStaged_memOk (s : State) (h : s.memOk) :
    (State.discardStaged s).memOk :=
  (State.memOk_mask (State.discardStaged_mask _ _ rfl rfl rfl rfl)).2 h

theorem State.abortMoves_memOk (s : State) (h : s.memOk) :
    (State.abortMoves s).memOk := by
  unfold State.abortMoves
  first
    | (simp (maxDischargeDepth := 30) +contextual only [State.modEng_memOk, State.setWord_memOk, State.memOk_forAll, State.memOk_foldl, State.memOk_ite, ite_self, implies_true, h]; done)
    | ((try dsimp only); (repeat' split) <;> first | (simp (maxDischargeDepth := 30) +contextual only [State.modEng_memOk, State.setWord_memOk, State.memOk_forAll, State.memOk_foldl, State.memOk_ite, ite_self, implies_true, h]; done) | (simp_all (maxDischargeDepth := 30) only [State.modEng_memOk, State.setWord_memOk, State.memOk_forAll, State.memOk_foldl, State.memOk_ite, ite_self, implies_true, h]; done))

theorem State.saveRetain_memOk (s : State) (h : s.memOk) :
    (State.saveRetain s).memOk :=
  (State.memOk_mask (State.saveRetain_mask _ _ rfl)).2 h

theorem State.enterStop_memOk (s : State) (cause : BitVec 4) (h : s.memOk) :
    (State.enterStop s cause).memOk := by
  unfold State.enterStop
  first
    | (simp (maxDischargeDepth := 30) +contextual only [State.modAxis_memOk, State.modEng_memOk, State.modLs_memOk, State.event_memOk, State.flush_memOk, State.lsEval_memOk, State.stopAxis_memOk, State.redeliver_memOk, State.discardStaged_memOk, State.abortMoves_memOk, State.saveRetain_memOk, State.memOk_forAll, State.memOk_foldl, State.memOk_ite, ite_self, implies_true, h]; done)
    | ((try dsimp only); (repeat' split) <;> first | (simp (maxDischargeDepth := 30) +contextual only [State.modAxis_memOk, State.modEng_memOk, State.modLs_memOk, State.event_memOk, State.flush_memOk, State.lsEval_memOk, State.stopAxis_memOk, State.redeliver_memOk, State.discardStaged_memOk, State.abortMoves_memOk, State.saveRetain_memOk, State.memOk_forAll, State.memOk_foldl, State.memOk_ite, ite_self, implies_true, h]; done) | (simp_all (maxDischargeDepth := 30) only [State.modAxis_memOk, State.modEng_memOk, State.modLs_memOk, State.event_memOk, State.flush_memOk, State.lsEval_memOk, State.stopAxis_memOk, State.redeliver_memOk, State.discardStaged_memOk, State.abortMoves_memOk, State.saveRetain_memOk, State.memOk_forAll, State.memOk_foldl, State.memOk_ite, ite_self, implies_true, h]; done))

theorem State.enterHold_memOk (s : State) (h : s.memOk) :
    (State.enterHold s).memOk :=
  (State.memOk_mask (State.enterHold_mask _ _ rfl rfl rfl)).2 h

theorem State.coldLoad_memOk (s : State) (h : s.memOk) : (State.coldLoad s).memOk :=
  State.memOk_forAll _ _ _ (fun _ _ h => State.setQuad_memOk _ _ _ h) (State.setBytes_memOk _ _ (Mem.clear_wf _ _ h))

theorem State.rampLast_memOk (s : State) (h : s.memOk) :
    (State.rampLast s).memOk := by
  unfold State.rampLast
  first
    | (simp (maxDischargeDepth := 30) +contextual only [State.setQuad_memOk, State.memOk_forAll, State.memOk_foldl, State.memOk_ite, ite_self, implies_true, h]; done)
    | ((try dsimp only); (repeat' split) <;> first | (simp (maxDischargeDepth := 30) +contextual only [State.setQuad_memOk, State.memOk_forAll, State.memOk_foldl, State.memOk_ite, ite_self, implies_true, h]; done) | (simp_all (maxDischargeDepth := 30) only [State.setQuad_memOk, State.memOk_forAll, State.memOk_foldl, State.memOk_ite, ite_self, implies_true, h]; done))

theorem State.loadSafeOut_memOk (s : State) (h : s.memOk) : (State.loadSafeOut s).memOk :=
  State.setBytes_memOk _ _ (Mem.clear_wf _ _ h)

theorem State.enterRun_memOk (s : State) (cold : Bool) (h : s.memOk) :
    (State.enterRun s cold).memOk := by
  unfold State.enterRun
  first
    | (simp (maxDischargeDepth := 30) +contextual only [State.modAxis_memOk, State.modEng_memOk, State.modLs_memOk, State.lsEval_memOk, State.bridgeEval_memOk, State.coldLoad_memOk, State.rampLast_memOk, State.loadSafeOut_memOk, State.memOk_mk, State.memOk_fold, Mem.clear_wf, State.memOk_forAll, State.memOk_foldl, State.memOk_ite, ite_self, implies_true, h]; done)
    | ((try dsimp only); (repeat' split) <;> first | (simp (maxDischargeDepth := 30) +contextual only [State.modAxis_memOk, State.modEng_memOk, State.modLs_memOk, State.lsEval_memOk, State.bridgeEval_memOk, State.coldLoad_memOk, State.rampLast_memOk, State.loadSafeOut_memOk, State.memOk_mk, State.memOk_fold, Mem.clear_wf, State.memOk_forAll, State.memOk_foldl, State.memOk_ite, ite_self, implies_true, h]; done) | (simp_all (maxDischargeDepth := 30) only [State.modAxis_memOk, State.modEng_memOk, State.modLs_memOk, State.lsEval_memOk, State.bridgeEval_memOk, State.coldLoad_memOk, State.rampLast_memOk, State.loadSafeOut_memOk, State.memOk_mk, State.memOk_fold, Mem.clear_wf, State.memOk_forAll, State.memOk_foldl, State.memOk_ite, ite_self, implies_true, h]; done))

theorem State.shiftOp_memOk (s : State) (d a : Reg) (t : Shift) (n : Bank → Nat) (h : s.memOk) :
    (State.shiftOp s d a t n).memOk :=
  (State.memOk_mask (State.shiftOp_mask _ _ _ _ _ _ rfl rfl)).2 h

theorem State.putStatus_memOk (s : State) (d : Reg) (w : Word) (h : s.memOk) :
    (State.putStatus s d w).memOk :=
  (State.memOk_mask (State.putStatus_mask _ _ _ _ rfl)).2 h

theorem State.modLnd_memOk (s : State) (f : Landing → Landing) (h : s.memOk) :
    (State.modLnd s f).memOk :=
  (State.memOk_mask (State.modLnd_mask _ _ _ rfl)).2 h

theorem State.modTru_memOk (s : State) (f : Security → Security) (h : s.memOk) :
    (State.modTru s f).memOk :=
  (State.memOk_mask (State.modTru_mask _ _ _ rfl)).2 h

theorem State.endSession_memOk (s : State) (i : SesIx) (h : s.memOk) :
    (State.endSession s i).memOk :=
  (State.memOk_mask (State.endSession_mask _ _ _ rfl rfl rfl)).2 h

theorem State.endSessions_memOk (s : State) (h : s.memOk) :
    (State.endSessions s).memOk :=
  (State.memOk_mask (State.endSessions_mask _ _ rfl rfl rfl)).2 h

theorem State.respond_memOk (s : State) (i : SesIx) (op : Nat) (tag : Word) (st : Status) (payload : List Byte := []) (h : s.memOk) :
    (State.respond s i op tag st payload).memOk :=
  (State.memOk_mask (State.respond_mask _ _ _ _ _ _ _ rfl)).2 h

theorem State.zspEval_memOk (s : State) (h : s.memOk) :
    (State.zspEval s).memOk :=
  (State.memOk_mask (State.zspEval_mask _ _ rfl rfl rfl rfl)).2 h

theorem State.sdeEval_memOk (s : State) (h : s.memOk) :
    (State.sdeEval s).memOk :=
  (State.memOk_mask (State.sdeEval_mask _ _ rfl rfl rfl rfl rfl rfl rfl)).2 h

theorem State.paramLoad_memOk (s : State) (q : SafePar) (echo start : Bool) (m : BitVec 16 × BitVec 16) (h : s.memOk) :
    (State.paramLoad s q echo start m).memOk :=
  (State.memOk_mask (State.paramLoad_mask _ _ _ _ _ _ rfl rfl)).2 h

theorem State.loadParam_memOk (s : State) (param : List Byte) (h : s.memOk) :
    (State.loadParam s param).memOk :=
  (State.memOk_mask (State.loadParam_mask _ _ _ rfl rfl rfl rfl rfl rfl rfl rfl rfl rfl)).2 h

theorem State.trial_memOk (s : State) (c : Container) (h : s.memOk) :
    (State.trial s c).memOk :=
  (State.memOk_mask (State.trial_mask _ _ _ rfl rfl rfl rfl rfl rfl rfl rfl rfl rfl rfl)).2 h

theorem State.headWaitAll_memOk (s : State) (h : s.memOk) :
    (State.headWaitAll s).memOk :=
  (State.memOk_mask (State.headWaitAll_mask _ _ rfl rfl)).2 h

theorem State.headsOff_memOk (s : State) (h : s.memOk) :
    (State.headsOff s).memOk :=
  (State.memOk_mask (State.headsOff_mask _ _ rfl rfl)).2 h

theorem State.headReset_memOk (s : State) (w : BitVec 16) (h : s.memOk) :
    (State.headReset s w).memOk :=
  (State.memOk_mask (State.headReset_mask _ _ _ rfl rfl)).2 h

theorem State.mbusCharge_memOk (s : State) (h : s.memOk) :
    (State.mbusCharge s).memOk :=
  (State.memOk_mask (State.mbusCharge_mask _ _ rfl rfl)).2 h

theorem State.bridgesOffAll_memOk (s : State) (cause : BitVec 4) (h : s.memOk) :
    (State.bridgesOffAll s cause).memOk :=
  (State.memOk_mask (State.bridgesOffAll_mask _ _ _ rfl)).2 h

theorem State.outputsOff_memOk (s : State) (h : s.memOk) :
    (State.outputsOff s).memOk :=
  (State.memOk_mask (State.outputsOff_mask _ _ rfl rfl rfl rfl)).2 h

theorem State.finishFlush_memOk (s : State) (h : s.memOk) :
    (State.finishFlush s).memOk :=
  (State.memOk_mask (State.finishFlush_mask _ _ rfl)).2 h

theorem State.saveHalt_memOk (s : State) (h : s.memOk) :
    (State.saveHalt s).memOk :=
  (State.memOk_mask (State.saveHalt_mask _ _ rfl rfl)).2 h

theorem State.linesLow_memOk (s : State) (h : s.memOk) :
    (State.linesLow s).memOk :=
  (State.memOk_mask (State.linesLow_mask _ _ rfl rfl)).2 h

theorem State.undriven_memOk (s : State) (h : s.memOk) :
    (State.undriven s).memOk :=
  (State.memOk_mask (State.undriven_mask _ _ rfl)).2 h

theorem State.safetyStop_memOk (s : State) (h : s.memOk) :
    (State.safetyStop s).memOk :=
  (State.memOk_mask (State.safetyStop_mask _ _ rfl rfl)).2 h

theorem State.finishWrites_memOk (s : State) (h : s.memOk) :
    (State.finishWrites s).memOk :=
  (State.memOk_mask (State.finishWrites_mask _ _ rfl rfl rfl rfl rfl)).2 h

theorem State.sleepDown_memOk (s : State) (h : s.memOk) :
    (State.sleepDown s).memOk :=
  (State.memOk_mask (State.sleepDown_mask _ _ rfl rfl)).2 h

theorem State.sleepEnter_memOk (s : State) (h : s.memOk) :
    (State.sleepEnter s).memOk := by
  unfold State.sleepEnter
  first
    | (simp (maxDischargeDepth := 30) +contextual only [State.modPwrReg_memOk, State.flush_memOk, State.modJnl_memOk, State.enterStop_memOk, State.endSessions_memOk, State.headsOff_memOk, State.bridgesOffAll_memOk, State.outputsOff_memOk, State.finishFlush_memOk, State.saveHalt_memOk, State.linesLow_memOk, State.undriven_memOk, State.safetyStop_memOk, State.finishWrites_memOk, State.sleepDown_memOk, State.memOk_forAll, State.memOk_foldl, State.memOk_ite, ite_self, implies_true, h]; done)
    | ((try dsimp only); (repeat' split) <;> first | (simp (maxDischargeDepth := 30) +contextual only [State.modPwrReg_memOk, State.flush_memOk, State.modJnl_memOk, State.enterStop_memOk, State.endSessions_memOk, State.headsOff_memOk, State.bridgesOffAll_memOk, State.outputsOff_memOk, State.finishFlush_memOk, State.saveHalt_memOk, State.linesLow_memOk, State.undriven_memOk, State.safetyStop_memOk, State.finishWrites_memOk, State.sleepDown_memOk, State.memOk_forAll, State.memOk_foldl, State.memOk_ite, ite_self, implies_true, h]; done) | (simp_all (maxDischargeDepth := 30) only [State.modPwrReg_memOk, State.flush_memOk, State.modJnl_memOk, State.enterStop_memOk, State.endSessions_memOk, State.headsOff_memOk, State.bridgesOffAll_memOk, State.outputsOff_memOk, State.finishFlush_memOk, State.saveHalt_memOk, State.linesLow_memOk, State.undriven_memOk, State.safetyStop_memOk, State.finishWrites_memOk, State.sleepDown_memOk, State.memOk_forAll, State.memOk_foldl, State.memOk_ite, ite_self, implies_true, h]; done))

theorem State.sleepRequest_memOk (s : State) (h : s.memOk) :
    (State.sleepRequest s).memOk := by
  unfold State.sleepRequest
  first
    | (simp (maxDischargeDepth := 30) +contextual only [State.modPwrReg_memOk, State.sleepEnter_memOk, State.memOk_forAll, State.memOk_foldl, State.memOk_ite, ite_self, implies_true, h]; done)
    | ((try dsimp only); (repeat' split) <;> first | (simp (maxDischargeDepth := 30) +contextual only [State.modPwrReg_memOk, State.sleepEnter_memOk, State.memOk_forAll, State.memOk_foldl, State.memOk_ite, ite_self, implies_true, h]; done) | (simp_all (maxDischargeDepth := 30) only [State.modPwrReg_memOk, State.sleepEnter_memOk, State.memOk_forAll, State.memOk_foldl, State.memOk_ite, ite_self, implies_true, h]; done))

theorem State.sleepCancel_memOk (s : State) (h : s.memOk) :
    (State.sleepCancel s).memOk :=
  (State.memOk_mask (State.sleepCancel_mask _ _ rfl)).2 h

theorem State.powerFail_memOk (s : State) (len : BitVec 16) (h : s.memOk) :
    (State.powerFail s len).memOk := by
  unfold State.powerFail
  first
    | (simp (maxDischargeDepth := 30) +contextual only [State.modPwr_memOk, State.modPwrReg_memOk, State.flush_memOk, State.stopAxis_memOk, State.modJnl_memOk, State.enterStop_memOk, State.endSessions_memOk, State.headsOff_memOk, State.bridgesOffAll_memOk, State.outputsOff_memOk, State.finishFlush_memOk, State.saveHalt_memOk, State.linesLow_memOk, State.undriven_memOk, State.safetyStop_memOk, State.finishWrites_memOk, State.memOk_mk, State.memOk_fold, Mem.clear_wf, State.memOk_forAll, State.memOk_foldl, State.memOk_ite, ite_self, implies_true, h]; done)
    | ((try dsimp only); (repeat' split) <;> first | (simp (maxDischargeDepth := 30) +contextual only [State.modPwr_memOk, State.modPwrReg_memOk, State.flush_memOk, State.stopAxis_memOk, State.modJnl_memOk, State.enterStop_memOk, State.endSessions_memOk, State.headsOff_memOk, State.bridgesOffAll_memOk, State.outputsOff_memOk, State.finishFlush_memOk, State.saveHalt_memOk, State.linesLow_memOk, State.undriven_memOk, State.safetyStop_memOk, State.finishWrites_memOk, State.memOk_mk, State.memOk_fold, Mem.clear_wf, State.memOk_forAll, State.memOk_foldl, State.memOk_ite, ite_self, implies_true, h]; done) | (simp_all (maxDischargeDepth := 30) only [State.modPwr_memOk, State.modPwrReg_memOk, State.flush_memOk, State.stopAxis_memOk, State.modJnl_memOk, State.enterStop_memOk, State.endSessions_memOk, State.headsOff_memOk, State.bridgesOffAll_memOk, State.outputsOff_memOk, State.finishFlush_memOk, State.saveHalt_memOk, State.linesLow_memOk, State.undriven_memOk, State.safetyStop_memOk, State.finishWrites_memOk, State.memOk_mk, State.memOk_fold, Mem.clear_wf, State.memOk_forAll, State.memOk_foldl, State.memOk_ite, ite_self, implies_true, h]; done))

theorem State.modFioReg_memOk (s : State) (f : Fio → Fio) (h : s.memOk) :
    (State.modFioReg s f).memOk :=
  (State.memOk_mask (State.modFioReg_mask _ _ _ rfl)).2 h

theorem State.groupEval_memOk (s : State) (h : s.memOk) :
    (State.groupEval s).memOk :=
  (State.memOk_mask (State.groupEval_mask _ _ rfl)).2 h

theorem State.modMbox_memOk (s : State) (m : Fin 64) (f : Mailbox → Mailbox) (h : s.memOk) :
    (State.modMbox s m f).memOk :=
  (State.memOk_mask (State.modMbox_mask _ _ _ _ rfl)).2 h

theorem State.touch_memOk (s : State) (req a : Nat) (m : Word) (h : s.memOk) :
    (State.touch s req a m).memOk :=
  (State.memOk_mask (State.touch_mask _ _ _ _ _ rfl rfl rfl rfl)).2 h

theorem State.writeAxis_memOk (s : State) (a : AxisIx) (off : Nat) (w m : Word) (svc : Bool := false) (h : s.memOk) :
    (State.writeAxis s a off w m svc).memOk :=
  (State.memOk_mask (State.writeAxis_mask _ _ _ _ _ _ _ rfl rfl rfl rfl rfl rfl rfl rfl)).2 h

theorem State.writeBlaze_memOk (s : State) (a : AxisIx) (off : Nat) (w m : Word) (h : s.memOk) :
    (State.writeBlaze s a off w m).memOk :=
  (State.memOk_mask (State.writeBlaze_mask _ _ _ _ _ _ rfl)).2 h

theorem State.writeLoad_memOk (s : State) (c : ChanIx) (off : Nat) (w m : Word) (h : s.memOk) :
    (State.writeLoad s c off w m).memOk :=
  (State.memOk_mask (State.writeLoad_mask _ _ _ _ _ _ rfl rfl rfl rfl)).2 h

theorem State.writeFeedback_memOk (s : State) (a : AxisIx) (off : Nat) (w m : Word) (h : s.memOk) :
    (State.writeFeedback s a off w m).memOk :=
  (State.memOk_mask (State.writeFeedback_mask _ _ _ _ _ _ rfl rfl)).2 h

theorem State.writeKerf_memOk (s : State) (p : PortalIx) (off : Nat) (w m : Word) (h : s.memOk) :
    (State.writeKerf s p off w m).memOk :=
  (State.memOk_mask (State.writeKerf_mask _ _ _ _ _ _ rfl rfl rfl)).2 h

theorem State.writePort_memOk (s : State) (ctx : Fin 5) (off : Nat) (w m : Word) (h : s.memOk) :
    (State.writePort s ctx off w m).memOk :=
  (State.memOk_mask (State.writePort_mask _ _ _ _ _ _ rfl rfl)).2 h

theorem State.writeSafety_memOk (s : State) (off : Nat) (w m : Word) (h : s.memOk) :
    (State.writeSafety s off w m).memOk :=
  (State.memOk_mask (State.writeSafety_mask _ _ _ _ _ rfl)).2 h

theorem State.writePortal_memOk (s : State) (p : PortalIx) (off : Nat) (w m : Word) (h : s.memOk) :
    (State.writePortal s p off w m).memOk :=
  (State.memOk_mask (State.writePortal_mask _ _ _ _ _ _ rfl)).2 h

theorem State.writeSystem_memOk (s : State) (session : Bool) (off : Nat) (w m : Word) (h : s.memOk) :
    (State.writeSystem s session off w m).memOk := by
  unfold State.writeSystem
  first
    | (simp (maxDischargeDepth := 30) +contextual only [State.modSys_memOk, State.modTally_memOk, State.modPwrReg_memOk, State.flush_memOk, State.take_memOk, State.result_memOk, State.enterStop_memOk, State.modLnd_memOk, State.headReset_memOk, State.sleepRequest_memOk, State.sleepCancel_memOk, State.writePortal_memOk, State.memOk_mk, State.memOk_fold, Mem.clear_wf, State.memOk_forAll, State.memOk_foldl, State.memOk_ite, ite_self, implies_true, h]; done)
    | ((try dsimp only); (repeat' split) <;> first | (simp (maxDischargeDepth := 30) +contextual only [State.modSys_memOk, State.modTally_memOk, State.modPwrReg_memOk, State.flush_memOk, State.take_memOk, State.result_memOk, State.enterStop_memOk, State.modLnd_memOk, State.headReset_memOk, State.sleepRequest_memOk, State.sleepCancel_memOk, State.writePortal_memOk, State.memOk_mk, State.memOk_fold, Mem.clear_wf, State.memOk_forAll, State.memOk_foldl, State.memOk_ite, ite_self, implies_true, h]; done) | (simp_all (maxDischargeDepth := 30) only [State.modSys_memOk, State.modTally_memOk, State.modPwrReg_memOk, State.flush_memOk, State.take_memOk, State.result_memOk, State.enterStop_memOk, State.modLnd_memOk, State.headReset_memOk, State.sleepRequest_memOk, State.sleepCancel_memOk, State.writePortal_memOk, State.memOk_mk, State.memOk_fold, Mem.clear_wf, State.memOk_forAll, State.memOk_foldl, State.memOk_ite, ite_self, implies_true, h]; done))

theorem State.poke_memOk (s : State) (ctx : Fin 5) (session : Bool) (a : Nat) (w m : Word) (h : s.memOk) :
    (State.poke s ctx session a w m).memOk := by
  unfold State.poke
  first
    | (simp (maxDischargeDepth := 30) +contextual only [State.setWord_memOk, State.modFioReg_memOk, State.writeAxis_memOk, State.writeBlaze_memOk, State.writeLoad_memOk, State.writeFeedback_memOk, State.writeKerf_memOk, State.writePort_memOk, State.writeSafety_memOk, State.writeSystem_memOk, State.memOk_forAll, State.memOk_foldl, State.memOk_ite, ite_self, implies_true, h]; done)
    | ((try dsimp only); (repeat' split) <;> first | (simp (maxDischargeDepth := 30) +contextual only [State.setWord_memOk, State.modFioReg_memOk, State.writeAxis_memOk, State.writeBlaze_memOk, State.writeLoad_memOk, State.writeFeedback_memOk, State.writeKerf_memOk, State.writePort_memOk, State.writeSafety_memOk, State.writeSystem_memOk, State.memOk_forAll, State.memOk_foldl, State.memOk_ite, ite_self, implies_true, h]; done) | (simp_all (maxDischargeDepth := 30) only [State.setWord_memOk, State.modFioReg_memOk, State.writeAxis_memOk, State.writeBlaze_memOk, State.writeLoad_memOk, State.writeFeedback_memOk, State.writeKerf_memOk, State.writePort_memOk, State.writeSafety_memOk, State.writeSystem_memOk, State.memOk_forAll, State.memOk_foldl, State.memOk_ite, ite_self, implies_true, h]; done))

theorem State.hitMoves_memOk (s : State) (a n : Nat) (h : s.memOk) :
    (State.hitMoves s a n).memOk :=
  (State.memOk_mask (State.hitMoves_mask _ _ _ _ rfl)).2 h

theorem State.applyStore_memOk (s : State) (q : QStore) (h : s.memOk) :
    (State.applyStore s q).memOk := by
  unfold State.applyStore
  first
    | (simp (maxDischargeDepth := 30) +contextual only [State.poke_memOk, State.hitMoves_memOk, State.memOk_forAll, State.memOk_foldl, State.memOk_ite, ite_self, implies_true, h]; done)
    | ((try dsimp only); (repeat' split) <;> first | (simp (maxDischargeDepth := 30) +contextual only [State.poke_memOk, State.hitMoves_memOk, State.memOk_forAll, State.memOk_foldl, State.memOk_ite, ite_self, implies_true, h]; done) | (simp_all (maxDischargeDepth := 30) only [State.poke_memOk, State.hitMoves_memOk, State.memOk_forAll, State.memOk_foldl, State.memOk_ite, ite_self, implies_true, h]; done))

theorem State.settleStop_memOk (s : State) (h : s.memOk) :
    (State.settleStop s).memOk :=
  (State.memOk_mask (State.settleStop_mask _ _ rfl rfl rfl rfl rfl)).2 h

theorem State.drainOne_memOk (s : State) (h : s.memOk) :
    (State.drainOne s).memOk := by
  unfold State.drainOne
  first
    | (simp (maxDischargeDepth := 30) +contextual only [State.modEng_memOk, State.applyStore_memOk, State.settleStop_memOk, State.memOk_forAll, State.memOk_foldl, State.memOk_ite, ite_self, implies_true, h]; done)
    | ((try dsimp only); (repeat' split) <;> first | (simp (maxDischargeDepth := 30) +contextual only [State.modEng_memOk, State.applyStore_memOk, State.settleStop_memOk, State.memOk_forAll, State.memOk_foldl, State.memOk_ite, ite_self, implies_true, h]; done) | (simp_all (maxDischargeDepth := 30) only [State.modEng_memOk, State.applyStore_memOk, State.settleStop_memOk, State.memOk_forAll, State.memOk_foldl, State.memOk_ite, ite_self, implies_true, h]; done))

theorem State.drain_memOk (s : State) (x0 : Nat) (h : s.memOk) :
    (State.drain s x0).memOk := by
  induction x0 generalizing s with
  | zero => unfold State.drain; exact h
  | succ n ih =>
    unfold State.drain
    (try dsimp only); (repeat' split) <;> simp (maxDischargeDepth := 30) +contextual only [State.drainOne_memOk, State.memOk_forAll, State.memOk_foldl, State.memOk_ite, ite_self, implies_true, h, ih]

theorem State.drainAll_memOk (s : State) (h : s.memOk) :
    (State.drainAll s).memOk := by
  unfold State.drainAll
  first
    | (simp (maxDischargeDepth := 30) +contextual only [State.drain_memOk, State.memOk_forAll, State.memOk_foldl, State.memOk_ite, ite_self, implies_true, h]; done)
    | ((try dsimp only); (repeat' split) <;> first | (simp (maxDischargeDepth := 30) +contextual only [State.drain_memOk, State.memOk_forAll, State.memOk_foldl, State.memOk_ite, ite_self, implies_true, h]; done) | (simp_all (maxDischargeDepth := 30) only [State.drain_memOk, State.memOk_forAll, State.memOk_foldl, State.memOk_ite, ite_self, implies_true, h]; done))

theorem State.drainFor_memOk (s : State) (a n : Nat) (h : s.memOk) :
    (State.drainFor s a n).memOk := by
  unfold State.drainFor
  first
    | (simp (maxDischargeDepth := 30) +contextual only [State.drain_memOk, State.memOk_forAll, State.memOk_foldl, State.memOk_ite, ite_self, implies_true, h]; done)
    | ((try dsimp only); (repeat' split) <;> first | (simp (maxDischargeDepth := 30) +contextual only [State.drain_memOk, State.memOk_forAll, State.memOk_foldl, State.memOk_ite, ite_self, implies_true, h]; done) | (simp_all (maxDischargeDepth := 30) only [State.drain_memOk, State.memOk_forAll, State.memOk_foldl, State.memOk_ite, ite_self, implies_true, h]; done))

theorem State.store_memOk (s : State) (a : Word) (w : Word) (n : Nat) (h : s.memOk) :
    (State.store s a w n).memOk := by
  unfold State.store
  first
    | (simp (maxDischargeDepth := 30) +contextual only [State.modEng_memOk, State.violation_memOk, State.applyStore_memOk, State.drainOne_memOk, State.drainAll_memOk, State.memOk_forAll, State.memOk_foldl, State.memOk_ite, ite_self, implies_true, h]; done)
    | ((try dsimp only); (repeat' split) <;> first | (simp (maxDischargeDepth := 30) +contextual only [State.modEng_memOk, State.violation_memOk, State.applyStore_memOk, State.drainOne_memOk, State.drainAll_memOk, State.memOk_forAll, State.memOk_foldl, State.memOk_ite, ite_self, implies_true, h]; done) | (simp_all (maxDischargeDepth := 30) only [State.modEng_memOk, State.violation_memOk, State.applyStore_memOk, State.drainOne_memOk, State.drainAll_memOk, State.memOk_forAll, State.memOk_foldl, State.memOk_ite, ite_self, implies_true, h]; done))

theorem State.fetch_memOk (s : State) (a : Word) (n : Nat) (flt : FabFault) (h : s.memOk) :
    (State.fetch s a n flt).1.memOk := by
  unfold State.fetch
  first
    | (simp (maxDischargeDepth := 30) +contextual only [State.fabFault_memOk, State.violation_memOk, State.enterStop_memOk, State.touch_memOk, State.drainAll_memOk, State.drainFor_memOk, State.memOk_forAll, State.memOk_foldl, State.memOk_ite, ite_self, implies_true, h]; done)
    | ((try dsimp only); (repeat' split) <;> first | (simp (maxDischargeDepth := 30) +contextual only [State.fabFault_memOk, State.violation_memOk, State.enterStop_memOk, State.touch_memOk, State.drainAll_memOk, State.drainFor_memOk, State.memOk_forAll, State.memOk_foldl, State.memOk_ite, ite_self, implies_true, h]; done) | (simp_all (maxDischargeDepth := 30) only [State.fabFault_memOk, State.violation_memOk, State.enterStop_memOk, State.touch_memOk, State.drainAll_memOk, State.drainFor_memOk, State.memOk_forAll, State.memOk_foldl, State.memOk_ite, ite_self, implies_true, h]; done))

theorem State.illop_memOk (s : State) (h : s.memOk) :
    (State.illop s).memOk := by
  unfold State.illop
  first
    | (simp (maxDischargeDepth := 30) +contextual only [State.enterStop_memOk, State.drainAll_memOk, State.memOk_forAll, State.memOk_foldl, State.memOk_ite, ite_self, implies_true, h]; done)
    | ((try dsimp only); (repeat' split) <;> first | (simp (maxDischargeDepth := 30) +contextual only [State.enterStop_memOk, State.drainAll_memOk, State.memOk_forAll, State.memOk_foldl, State.memOk_ite, ite_self, implies_true, h]; done) | (simp_all (maxDischargeDepth := 30) only [State.enterStop_memOk, State.drainAll_memOk, State.memOk_forAll, State.memOk_foldl, State.memOk_ite, ite_self, implies_true, h]; done))

theorem State.illegal_memOk (s : State) (h : s.memOk) :
    (State.illegal s).memOk := by
  unfold State.illegal
  first
    | (simp (maxDischargeDepth := 30) +contextual only [State.illop_memOk, State.memOk_forAll, State.memOk_foldl, State.memOk_ite, ite_self, implies_true, h]; done)
    | ((try dsimp only); (repeat' split) <;> first | (simp (maxDischargeDepth := 30) +contextual only [State.illop_memOk, State.memOk_forAll, State.memOk_foldl, State.memOk_ite, ite_self, implies_true, h]; done) | (simp_all (maxDischargeDepth := 30) only [State.illop_memOk, State.memOk_forAll, State.memOk_foldl, State.memOk_ite, ite_self, implies_true, h]; done))

theorem State.noRight_memOk (s : State) (a : Nat) (h : s.memOk) :
    (State.noRight s a).memOk :=
  (State.memOk_mask (State.noRight_mask _ _ _ rfl)).2 h

theorem State.commit_memOk (s : State) (b : Block) (f : FabFault) (h : s.memOk) :
    (State.commit s b f).1.memOk :=
  (State.memOk_mask (State.commit_mask _ _ _ _ rfl rfl rfl rfl rfl rfl rfl rfl rfl)).2 h

theorem State.sendPanels_memOk (s : State) (h : s.memOk) :
    (State.sendPanels s).memOk :=
  (State.memOk_mask (State.sendPanels_mask _ _ rfl)).2 h

theorem State.putHeaders_memOk (s : State) (h : s.memOk) :
    (State.putHeaders s).memOk := by
  unfold State.putHeaders
  first
    | (simp (maxDischargeDepth := 30) +contextual only [State.setBytes_memOk, State.memOk_forAll, State.memOk_foldl, State.memOk_ite, ite_self, implies_true, h]; done)
    | ((try dsimp only); (repeat' split) <;> first | (simp (maxDischargeDepth := 30) +contextual only [State.setBytes_memOk, State.memOk_forAll, State.memOk_foldl, State.memOk_ite, ite_self, implies_true, h]; done) | (simp_all (maxDischargeDepth := 30) only [State.setBytes_memOk, State.memOk_forAll, State.memOk_foldl, State.memOk_ite, ite_self, implies_true, h]; done))

theorem State.intervalEnd_memOk (s : State) (h : s.memOk) :
    (State.intervalEnd s).memOk := by
  unfold State.intervalEnd
  first
    | (simp (maxDischargeDepth := 30) +contextual only [State.modEng_memOk, State.enterStop_memOk, State.enterHold_memOk, State.memOk_forAll, State.memOk_foldl, State.memOk_ite, ite_self, implies_true, h]; done)
    | ((try dsimp only); (repeat' split) <;> first | (simp (maxDischargeDepth := 30) +contextual only [State.modEng_memOk, State.enterStop_memOk, State.enterHold_memOk, State.memOk_forAll, State.memOk_foldl, State.memOk_ite, ite_self, implies_true, h]; done) | (simp_all (maxDischargeDepth := 30) only [State.modEng_memOk, State.enterStop_memOk, State.enterHold_memOk, State.memOk_forAll, State.memOk_foldl, State.memOk_ite, ite_self, implies_true, h]; done))

theorem State.outputPhase_memOk (s : State) (h : s.memOk) :
    (State.outputPhase s).memOk := by
  unfold State.outputPhase
  first
    | (simp (maxDischargeDepth := 30) +contextual only [State.modEng_memOk, State.used_memOk, State.pass_memOk, State.sendPanels_memOk, State.putHeaders_memOk, State.intervalEnd_memOk, State.memOk_mk, State.memOk_fold, Mem.clear_wf, State.memOk_forAll, State.memOk_foldl, State.memOk_ite, ite_self, implies_true, h]; done)
    | ((try dsimp only); (repeat' split) <;> first | (simp (maxDischargeDepth := 30) +contextual only [State.modEng_memOk, State.used_memOk, State.pass_memOk, State.sendPanels_memOk, State.putHeaders_memOk, State.intervalEnd_memOk, State.memOk_mk, State.memOk_fold, Mem.clear_wf, State.memOk_forAll, State.memOk_foldl, State.memOk_ite, ite_self, implies_true, h]; done) | (simp_all (maxDischargeDepth := 30) only [State.modEng_memOk, State.used_memOk, State.pass_memOk, State.sendPanels_memOk, State.putHeaders_memOk, State.intervalEnd_memOk, State.memOk_mk, State.memOk_fold, Mem.clear_wf, State.memOk_forAll, State.memOk_foldl, State.memOk_ite, ite_self, implies_true, h]; done))

theorem execEoc_memOk (s : State) (h : s.memOk) :
    (stateOf s (execEoc s)).memOk := by
  unfold execEoc
  first
    | (simp (maxDischargeDepth := 30) +contextual only [State.insn_memOk, State.drainAll_memOk, State.illegal_memOk, State.outputPhase_memOk, stateOf_next, stateOf_ite, State.memOk_forAll, State.memOk_foldl, State.memOk_ite, ite_self, implies_true, h]; done)
    | ((try dsimp only); (repeat' split) <;> first | (simp (maxDischargeDepth := 30) +contextual only [State.insn_memOk, State.drainAll_memOk, State.illegal_memOk, State.outputPhase_memOk, stateOf_next, stateOf_ite, State.memOk_forAll, State.memOk_foldl, State.memOk_ite, ite_self, implies_true, h]; done) | (simp_all (maxDischargeDepth := 30) only [State.insn_memOk, State.drainAll_memOk, State.illegal_memOk, State.outputPhase_memOk, stateOf_next, stateOf_ite, State.memOk_forAll, State.memOk_foldl, State.memOk_ite, ite_self, implies_true, h]; done))

theorem State.setWords_memOk (s : State) (a : Nat) (ws : List Word) (h : s.memOk) :
    (State.setWords s a ws).memOk := by
  unfold State.setWords
  first
    | (simp (maxDischargeDepth := 30) +contextual only [State.setBytes_memOk, State.memOk_forAll, State.memOk_foldl, State.memOk_ite, ite_self, implies_true, h]; done)
    | ((try dsimp only); (repeat' split) <;> first | (simp (maxDischargeDepth := 30) +contextual only [State.setBytes_memOk, State.memOk_forAll, State.memOk_foldl, State.memOk_ite, ite_self, implies_true, h]; done) | (simp_all (maxDischargeDepth := 30) only [State.setBytes_memOk, State.memOk_forAll, State.memOk_foldl, State.memOk_ite, ite_self, implies_true, h]; done))

theorem State.copyRegs_memOk (s : State) (off n : Nat) (addr : Nat → Nat) (h : s.memOk) :
    (State.copyRegs s off n addr).memOk := by
  unfold State.copyRegs
  first
    | (simp (maxDischargeDepth := 30) +contextual only [State.setWords_memOk, State.memOk_forAll, State.memOk_foldl, State.memOk_ite, ite_self, implies_true, h]; done)
    | ((try dsimp only); (repeat' split) <;> first | (simp (maxDischargeDepth := 30) +contextual only [State.setWords_memOk, State.memOk_forAll, State.memOk_foldl, State.memOk_ite, ite_self, implies_true, h]; done) | (simp_all (maxDischargeDepth := 30) only [State.setWords_memOk, State.memOk_forAll, State.memOk_foldl, State.memOk_ite, ite_self, implies_true, h]; done))

theorem State.panelArea_memOk (s : State) (p : PortalIx) (h : s.memOk) :
    (State.panelArea s p).memOk := by
  unfold State.panelArea
  first
    | (simp (maxDischargeDepth := 30) +contextual only [State.setBytes_memOk, State.setWords_memOk, State.memOk_forAll, State.memOk_foldl, State.memOk_ite, ite_self, implies_true, h]; done)
    | ((try dsimp only); (repeat' split) <;> first | (simp (maxDischargeDepth := 30) +contextual only [State.setBytes_memOk, State.setWords_memOk, State.memOk_forAll, State.memOk_foldl, State.memOk_ite, ite_self, implies_true, h]; done) | (simp_all (maxDischargeDepth := 30) only [State.setBytes_memOk, State.setWords_memOk, State.memOk_forAll, State.memOk_foldl, State.memOk_ite, ite_self, implies_true, h]; done))

theorem State.pdArea_memOk (s : State) (n : Fin 8) (h : s.memOk) :
    (State.pdArea s n).memOk := by
  unfold State.pdArea
  first
    | (simp (maxDischargeDepth := 30) +contextual only [State.setBytes_memOk, State.setWords_memOk, State.memOk_forAll, State.memOk_foldl, State.memOk_ite, ite_self, implies_true, h]; done)
    | ((try dsimp only); (repeat' split) <;> first | (simp (maxDischargeDepth := 30) +contextual only [State.setBytes_memOk, State.setWords_memOk, State.memOk_forAll, State.memOk_foldl, State.memOk_ite, ite_self, implies_true, h]; done) | (simp_all (maxDischargeDepth := 30) only [State.setBytes_memOk, State.setWords_memOk, State.memOk_forAll, State.memOk_foldl, State.memOk_ite, ite_self, implies_true, h]; done))

theorem State.inputImage_memOk (s : State) (h : s.memOk) : (State.inputImage s).memOk := by
  unfold State.inputImage
  dsimp only
  refine State.memOk_forAll _ _ _ (fun s p h => State.pdArea_memOk s p h) ?_
  refine State.memOk_forAll _ _ _ (fun s p h => State.panelArea_memOk s p h) ?_
  iterate 3 refine State.copyRegs_memOk _ _ _ _ ?_
  refine State.memOk_forAll _ _ _ (fun s p h => State.copyRegs_memOk _ _ _ _ h) ?_
  iterate 8 refine State.copyRegs_memOk _ _ _ _ ?_
  exact State.setBytes_memOk _ _ (State.setWords_memOk _ _ _ (State.setBytes_memOk _ _ (Mem.clear_wf _ _ h)))

theorem State.panelAges_memOk (s : State) (h : s.memOk) :
    (State.panelAges s).memOk :=
  (State.memOk_mask (State.panelAges_mask _ _ rfl)).2 h

theorem execSnapshot_memOk (s : State) (h : s.memOk) :
    (stateOf s (execSnapshot s)).memOk := by
  unfold execSnapshot
  first
    | (simp (maxDischargeDepth := 30) +contextual only [State.modEng_memOk, State.used_memOk, State.upTo_memOk, State.pass_memOk, State.inputImage_memOk, State.panelAges_memOk, stateOf_next, stateOf_ite, State.memOk_forAll, State.memOk_foldl, State.memOk_ite, ite_self, implies_true, h]; done)
    | ((try dsimp only); (repeat' split) <;> first | (simp (maxDischargeDepth := 30) +contextual only [State.modEng_memOk, State.used_memOk, State.upTo_memOk, State.pass_memOk, State.inputImage_memOk, State.panelAges_memOk, stateOf_next, stateOf_ite, State.memOk_forAll, State.memOk_foldl, State.memOk_ite, ite_self, implies_true, h]; done) | (simp_all (maxDischargeDepth := 30) only [State.modEng_memOk, State.used_memOk, State.upTo_memOk, State.pass_memOk, State.inputImage_memOk, State.panelAges_memOk, stateOf_next, stateOf_ite, State.memOk_forAll, State.memOk_foldl, State.memOk_ite, ite_self, implies_true, h]; done))

theorem execRetc_memOk (s : State) (h : s.memOk) :
    (stateOf s (execRetc s)).memOk := by
  unfold execRetc
  first
    | (simp (maxDischargeDepth := 30) +contextual only [State.modEng_memOk, State.insn_memOk, State.illegal_memOk, stateOf_next, stateOf_ite, State.memOk_forAll, State.memOk_foldl, State.memOk_ite, ite_self, implies_true, h]; done)
    | ((try dsimp only); (repeat' split) <;> first | (simp (maxDischargeDepth := 30) +contextual only [State.modEng_memOk, State.insn_memOk, State.illegal_memOk, stateOf_next, stateOf_ite, State.memOk_forAll, State.memOk_foldl, State.memOk_ite, ite_self, implies_true, h]; done) | (simp_all (maxDischargeDepth := 30) only [State.modEng_memOk, State.insn_memOk, State.illegal_memOk, stateOf_next, stateOf_ite, State.memOk_forAll, State.memOk_foldl, State.memOk_ite, ite_self, implies_true, h]; done))

theorem execCalloutBudgetExpiry_memOk (s : State) (h : s.memOk) :
    (stateOf s (execCalloutBudgetExpiry s)).memOk := by
  unfold execCalloutBudgetExpiry
  first
    | (simp (maxDischargeDepth := 30) +contextual only [State.enterStop_memOk, State.drainAll_memOk, stateOf_next, stateOf_ite, State.memOk_forAll, State.memOk_foldl, State.memOk_ite, ite_self, implies_true, h]; done)
    | ((try dsimp only); (repeat' split) <;> first | (simp (maxDischargeDepth := 30) +contextual only [State.enterStop_memOk, State.drainAll_memOk, stateOf_next, stateOf_ite, State.memOk_forAll, State.memOk_foldl, State.memOk_ite, ite_self, implies_true, h]; done) | (simp_all (maxDischargeDepth := 30) only [State.enterStop_memOk, State.drainAll_memOk, stateOf_next, stateOf_ite, State.memOk_forAll, State.memOk_foldl, State.memOk_ite, ite_self, implies_true, h]; done))

theorem execCycleWatchdogExpiry_memOk (s : State) (h : s.memOk) :
    (stateOf s (execCycleWatchdogExpiry s)).memOk := by
  unfold execCycleWatchdogExpiry
  first
    | (simp (maxDischargeDepth := 30) +contextual only [State.upTo_memOk, State.enterStop_memOk, State.drainAll_memOk, stateOf_next, stateOf_ite, State.memOk_forAll, State.memOk_foldl, State.memOk_ite, ite_self, implies_true, h]; done)
    | ((try dsimp only); (repeat' split) <;> first | (simp (maxDischargeDepth := 30) +contextual only [State.upTo_memOk, State.enterStop_memOk, State.drainAll_memOk, stateOf_next, stateOf_ite, State.memOk_forAll, State.memOk_foldl, State.memOk_ite, ite_self, implies_true, h]; done) | (simp_all (maxDischargeDepth := 30) only [State.upTo_memOk, State.enterStop_memOk, State.drainAll_memOk, stateOf_next, stateOf_ite, State.memOk_forAll, State.memOk_foldl, State.memOk_ite, ite_self, implies_true, h]; done))

theorem execProgStop_memOk (s : State) (h : s.memOk) :
    (stateOf s (execProgStop s)).memOk := by
  unfold execProgStop
  first
    | (simp (maxDischargeDepth := 30) +contextual only [State.enterStop_memOk, State.drainAll_memOk, stateOf_next, stateOf_ite, State.memOk_forAll, State.memOk_foldl, State.memOk_ite, ite_self, implies_true, h]; done)
    | ((try dsimp only); (repeat' split) <;> first | (simp (maxDischargeDepth := 30) +contextual only [State.enterStop_memOk, State.drainAll_memOk, stateOf_next, stateOf_ite, State.memOk_forAll, State.memOk_foldl, State.memOk_ite, ite_self, implies_true, h]; done) | (simp_all (maxDischargeDepth := 30) only [State.enterStop_memOk, State.drainAll_memOk, stateOf_next, stateOf_ite, State.memOk_forAll, State.memOk_foldl, State.memOk_ite, ite_self, implies_true, h]; done))

theorem execIllegalWord_memOk (w : Word) (s : State) (h : s.memOk) :
    (stateOf s (execIllegalWord w s)).memOk := by
  unfold execIllegalWord
  first
    | (simp (maxDischargeDepth := 30) +contextual only [State.illegal_memOk, stateOf_next, stateOf_ite, State.memOk_forAll, State.memOk_foldl, State.memOk_ite, ite_self, implies_true, h]; done)
    | ((try dsimp only); (repeat' split) <;> first | (simp (maxDischargeDepth := 30) +contextual only [State.illegal_memOk, stateOf_next, stateOf_ite, State.memOk_forAll, State.memOk_foldl, State.memOk_ite, ite_self, implies_true, h]; done) | (simp_all (maxDischargeDepth := 30) only [State.illegal_memOk, stateOf_next, stateOf_ite, State.memOk_forAll, State.memOk_foldl, State.memOk_ite, ite_self, implies_true, h]; done))

theorem execFetchOutsideCode_memOk (s : State) (h : s.memOk) :
    (stateOf s (execFetchOutsideCode s)).memOk := by
  unfold execFetchOutsideCode
  first
    | (simp (maxDischargeDepth := 30) +contextual only [State.enterStop_memOk, State.drainAll_memOk, stateOf_next, stateOf_ite, State.memOk_forAll, State.memOk_foldl, State.memOk_ite, ite_self, implies_true, h]; done)
    | ((try dsimp only); (repeat' split) <;> first | (simp (maxDischargeDepth := 30) +contextual only [State.enterStop_memOk, State.drainAll_memOk, stateOf_next, stateOf_ite, State.memOk_forAll, State.memOk_foldl, State.memOk_ite, ite_self, implies_true, h]; done) | (simp_all (maxDischargeDepth := 30) only [State.enterStop_memOk, State.drainAll_memOk, stateOf_next, stateOf_ite, State.memOk_forAll, State.memOk_foldl, State.memOk_ite, ite_self, implies_true, h]; done))

theorem execAutomaticRestart_memOk (s : State) (h : s.memOk) :
    (stateOf s (execAutomaticRestart s)).memOk := by
  unfold execAutomaticRestart
  first
    | (simp (maxDischargeDepth := 30) +contextual only [State.modEng_memOk, State.upTo_memOk, State.enterRun_memOk, State.drainAll_memOk, stateOf_next, stateOf_ite, State.memOk_forAll, State.memOk_foldl, State.memOk_ite, ite_self, implies_true, h]; done)
    | ((try dsimp only); (repeat' split) <;> first | (simp (maxDischargeDepth := 30) +contextual only [State.modEng_memOk, State.upTo_memOk, State.enterRun_memOk, State.drainAll_memOk, stateOf_next, stateOf_ite, State.memOk_forAll, State.memOk_foldl, State.memOk_ite, ite_self, implies_true, h]; done) | (simp_all (maxDischargeDepth := 30) only [State.modEng_memOk, State.upTo_memOk, State.enterRun_memOk, State.drainAll_memOk, stateOf_next, stateOf_ite, State.memOk_forAll, State.memOk_foldl, State.memOk_ite, ite_self, implies_true, h]; done))

theorem State.fabFail_memOk (s : State) (src : Fin 7) (f : FabFault) (addr : Word) (h : s.memOk) :
    (State.fabFail s src f addr).memOk := by
  unfold State.fabFail
  first
    | (simp (maxDischargeDepth := 30) +contextual only [State.fabFault_memOk, State.enterStop_memOk, State.drainAll_memOk, State.memOk_forAll, State.memOk_foldl, State.memOk_ite, ite_self, implies_true, h]; done)
    | ((try dsimp only); (repeat' split) <;> first | (simp (maxDischargeDepth := 30) +contextual only [State.fabFault_memOk, State.enterStop_memOk, State.drainAll_memOk, State.memOk_forAll, State.memOk_foldl, State.memOk_ite, ite_self, implies_true, h]; done) | (simp_all (maxDischargeDepth := 30) only [State.fabFault_memOk, State.enterStop_memOk, State.drainAll_memOk, State.memOk_forAll, State.memOk_foldl, State.memOk_ite, ite_self, implies_true, h]; done))

theorem execFabricOperationComplete_memOk (src : Fin 7) (e : FabEnd) (addr : Word) (s : State) (h : s.memOk) :
    (stateOf s (execFabricOperationComplete src e addr s)).memOk := by
  unfold execFabricOperationComplete
  first
    | (simp (maxDischargeDepth := 30) +contextual only [State.fabViolation_memOk, State.violation_memOk, State.fabFail_memOk, stateOf_next, stateOf_ite, State.memOk_mk, State.memOk_fold, Mem.clear_wf, State.memOk_forAll, State.memOk_foldl, State.memOk_ite, ite_self, implies_true, h]; done)
    | ((try dsimp only); (repeat' split) <;> first | (simp (maxDischargeDepth := 30) +contextual only [State.fabViolation_memOk, State.violation_memOk, State.fabFail_memOk, stateOf_next, stateOf_ite, State.memOk_mk, State.memOk_fold, Mem.clear_wf, State.memOk_forAll, State.memOk_foldl, State.memOk_ite, ite_self, implies_true, h]; done) | (simp_all (maxDischargeDepth := 30) only [State.fabViolation_memOk, State.violation_memOk, State.fabFail_memOk, stateOf_next, stateOf_ite, State.memOk_mk, State.memOk_fold, Mem.clear_wf, State.memOk_forAll, State.memOk_foldl, State.memOk_ite, ite_self, implies_true, h]; done))

theorem execFabricTimeout_memOk (src : Fin 7) (addr : Word) (s : State) (h : s.memOk) :
    (stateOf s (execFabricTimeout src addr s)).memOk := by
  unfold execFabricTimeout
  first
    | (simp (maxDischargeDepth := 30) +contextual only [State.fabFail_memOk, stateOf_next, stateOf_ite, State.memOk_forAll, State.memOk_foldl, State.memOk_ite, ite_self, implies_true, h]; done)
    | ((try dsimp only); (repeat' split) <;> first | (simp (maxDischargeDepth := 30) +contextual only [State.fabFail_memOk, stateOf_next, stateOf_ite, State.memOk_forAll, State.memOk_foldl, State.memOk_ite, ite_self, implies_true, h]; done) | (simp_all (maxDischargeDepth := 30) only [State.fabFail_memOk, stateOf_next, stateOf_ite, State.memOk_forAll, State.memOk_foldl, State.memOk_ite, ite_self, implies_true, h]; done))

theorem execAdd_memOk (d a b : Reg) (s : State) (h : s.memOk) :
    (stateOf s (execAdd d a b s)).memOk :=
  (State.memOk_mask (execAdd_mask _ _ _ _ _ rfl rfl)).2 h

theorem execAdc_memOk (d a b : Reg) (s : State) (h : s.memOk) :
    (stateOf s (execAdc d a b s)).memOk :=
  (State.memOk_mask (execAdc_mask _ _ _ _ _ rfl rfl)).2 h

theorem execSub_memOk (d a b : Reg) (s : State) (h : s.memOk) :
    (stateOf s (execSub d a b s)).memOk :=
  (State.memOk_mask (execSub_mask _ _ _ _ _ rfl rfl)).2 h

theorem execSbc_memOk (d a b : Reg) (s : State) (h : s.memOk) :
    (stateOf s (execSbc d a b s)).memOk :=
  (State.memOk_mask (execSbc_mask _ _ _ _ _ rfl rfl)).2 h

theorem execCmp_memOk (a b : Reg) (s : State) (h : s.memOk) :
    (stateOf s (execCmp a b s)).memOk :=
  (State.memOk_mask (execCmp_mask _ _ _ _ rfl rfl)).2 h

theorem execNeg_memOk (d a : Reg) (s : State) (h : s.memOk) :
    (stateOf s (execNeg d a s)).memOk :=
  (State.memOk_mask (execNeg_mask _ _ _ _ rfl rfl)).2 h

theorem execAnd_memOk (d a b : Reg) (s : State) (h : s.memOk) :
    (stateOf s (execAnd d a b s)).memOk :=
  (State.memOk_mask (execAnd_mask _ _ _ _ _ rfl rfl)).2 h

theorem execOr_memOk (d a b : Reg) (s : State) (h : s.memOk) :
    (stateOf s (execOr d a b s)).memOk :=
  (State.memOk_mask (execOr_mask _ _ _ _ _ rfl rfl)).2 h

theorem execXor_memOk (d a b : Reg) (s : State) (h : s.memOk) :
    (stateOf s (execXor d a b s)).memOk :=
  (State.memOk_mask (execXor_mask _ _ _ _ _ rfl rfl)).2 h

theorem execAndn_memOk (d a b : Reg) (s : State) (h : s.memOk) :
    (stateOf s (execAndn d a b s)).memOk :=
  (State.memOk_mask (execAndn_mask _ _ _ _ _ rfl rfl)).2 h

theorem execTst_memOk (a b : Reg) (s : State) (h : s.memOk) :
    (stateOf s (execTst a b s)).memOk :=
  (State.memOk_mask (execTst_mask _ _ _ _ rfl rfl)).2 h

theorem execNot_memOk (d a : Reg) (s : State) (h : s.memOk) :
    (stateOf s (execNot d a s)).memOk :=
  (State.memOk_mask (execNot_mask _ _ _ _ rfl rfl)).2 h

theorem execMov_memOk (d a : Reg) (s : State) (h : s.memOk) :
    (stateOf s (execMov d a s)).memOk :=
  (State.memOk_mask (execMov_mask _ _ _ _ rfl rfl)).2 h

theorem execSel_memOk (d a b : Reg) (s : State) (h : s.memOk) :
    (stateOf s (execSel d a b s)).memOk :=
  (State.memOk_mask (execSel_mask _ _ _ _ _ rfl rfl)).2 h

theorem execShl_memOk (d a b : Reg) (s : State) (h : s.memOk) :
    (stateOf s (execShl d a b s)).memOk :=
  (State.memOk_mask (execShl_mask _ _ _ _ _ rfl rfl)).2 h

theorem execShr_memOk (d a b : Reg) (s : State) (h : s.memOk) :
    (stateOf s (execShr d a b s)).memOk :=
  (State.memOk_mask (execShr_mask _ _ _ _ _ rfl rfl)).2 h

theorem execSar_memOk (d a b : Reg) (s : State) (h : s.memOk) :
    (stateOf s (execSar d a b s)).memOk :=
  (State.memOk_mask (execSar_mask _ _ _ _ _ rfl rfl)).2 h

theorem execRor_memOk (d a b : Reg) (s : State) (h : s.memOk) :
    (stateOf s (execRor d a b s)).memOk :=
  (State.memOk_mask (execRor_mask _ _ _ _ _ rfl rfl)).2 h

theorem execMins_memOk (d a b : Reg) (s : State) (h : s.memOk) :
    (stateOf s (execMins d a b s)).memOk :=
  (State.memOk_mask (execMins_mask _ _ _ _ _ rfl rfl)).2 h

theorem execMaxs_memOk (d a b : Reg) (s : State) (h : s.memOk) :
    (stateOf s (execMaxs d a b s)).memOk :=
  (State.memOk_mask (execMaxs_mask _ _ _ _ _ rfl rfl)).2 h

theorem execMinu_memOk (d a b : Reg) (s : State) (h : s.memOk) :
    (stateOf s (execMinu d a b s)).memOk :=
  (State.memOk_mask (execMinu_mask _ _ _ _ _ rfl rfl)).2 h

theorem execMaxu_memOk (d a b : Reg) (s : State) (h : s.memOk) :
    (stateOf s (execMaxu d a b s)).memOk :=
  (State.memOk_mask (execMaxu_mask _ _ _ _ _ rfl rfl)).2 h

theorem execAdds_memOk (d a b : Reg) (s : State) (h : s.memOk) :
    (stateOf s (execAdds d a b s)).memOk :=
  (State.memOk_mask (execAdds_mask _ _ _ _ _ rfl rfl)).2 h

theorem execSubs_memOk (d a b : Reg) (s : State) (h : s.memOk) :
    (stateOf s (execSubs d a b s)).memOk :=
  (State.memOk_mask (execSubs_mask _ _ _ _ _ rfl rfl)).2 h

theorem execMul_memOk (d a b : Reg) (s : State) (h : s.memOk) :
    (stateOf s (execMul d a b s)).memOk :=
  (State.memOk_mask (execMul_mask _ _ _ _ _ rfl rfl)).2 h

theorem execMulh_memOk (d a b : Reg) (s : State) (h : s.memOk) :
    (stateOf s (execMulh d a b s)).memOk :=
  (State.memOk_mask (execMulh_mask _ _ _ _ _ rfl rfl)).2 h

theorem execMulhu_memOk (d a b : Reg) (s : State) (h : s.memOk) :
    (stateOf s (execMulhu d a b s)).memOk :=
  (State.memOk_mask (execMulhu_mask _ _ _ _ _ rfl rfl)).2 h

theorem execDiv_memOk (d a b : Reg) (s : State) (h : s.memOk) :
    (stateOf s (execDiv d a b s)).memOk :=
  (State.memOk_mask (execDiv_mask _ _ _ _ _ rfl rfl)).2 h

theorem execDivu_memOk (d a b : Reg) (s : State) (h : s.memOk) :
    (stateOf s (execDivu d a b s)).memOk :=
  (State.memOk_mask (execDivu_mask _ _ _ _ _ rfl rfl)).2 h

theorem execRem_memOk (d a b : Reg) (s : State) (h : s.memOk) :
    (stateOf s (execRem d a b s)).memOk :=
  (State.memOk_mask (execRem_mask _ _ _ _ _ rfl rfl)).2 h

theorem execRemu_memOk (d a b : Reg) (s : State) (h : s.memOk) :
    (stateOf s (execRemu d a b s)).memOk :=
  (State.memOk_mask (execRemu_mask _ _ _ _ _ rfl rfl)).2 h

theorem execAddi_memOk (d a : Reg) (imm : BitVec 16) (s : State) (h : s.memOk) :
    (stateOf s (execAddi d a imm s)).memOk :=
  (State.memOk_mask (execAddi_mask _ _ _ _ _ rfl rfl)).2 h

theorem execCmpi_memOk (a : Reg) (imm : BitVec 16) (s : State) (h : s.memOk) :
    (stateOf s (execCmpi a imm s)).memOk :=
  (State.memOk_mask (execCmpi_mask _ _ _ _ rfl rfl)).2 h

theorem execAndi_memOk (d a : Reg) (imm : BitVec 16) (s : State) (h : s.memOk) :
    (stateOf s (execAndi d a imm s)).memOk :=
  (State.memOk_mask (execAndi_mask _ _ _ _ _ rfl rfl)).2 h

theorem execOri_memOk (d a : Reg) (imm : BitVec 16) (s : State) (h : s.memOk) :
    (stateOf s (execOri d a imm s)).memOk :=
  (State.memOk_mask (execOri_mask _ _ _ _ _ rfl rfl)).2 h

theorem execXori_memOk (d a : Reg) (imm : BitVec 16) (s : State) (h : s.memOk) :
    (stateOf s (execXori d a imm s)).memOk :=
  (State.memOk_mask (execXori_mask _ _ _ _ _ rfl rfl)).2 h

theorem execLui_memOk (d : Reg) (imm : BitVec 16) (s : State) (h : s.memOk) :
    (stateOf s (execLui d imm s)).memOk :=
  (State.memOk_mask (execLui_mask _ _ _ _ rfl rfl)).2 h

theorem execShi_memOk (d a : Reg) (imm : BitVec 16) (s : State) (h : s.memOk) :
    (stateOf s (execShi d a imm s)).memOk := by
  unfold execShi
  first
    | (simp (maxDischargeDepth := 30) +contextual only [State.shiftOp_memOk, State.illegal_memOk, stateOf_next, stateOf_ite, State.memOk_forAll, State.memOk_foldl, State.memOk_ite, ite_self, implies_true, h]; done)
    | ((try dsimp only); (repeat' split) <;> first | (simp (maxDischargeDepth := 30) +contextual only [State.shiftOp_memOk, State.illegal_memOk, stateOf_next, stateOf_ite, State.memOk_forAll, State.memOk_foldl, State.memOk_ite, ite_self, implies_true, h]; done) | (simp_all (maxDischargeDepth := 30) only [State.shiftOp_memOk, State.illegal_memOk, stateOf_next, stateOf_ite, State.memOk_forAll, State.memOk_foldl, State.memOk_ite, ite_self, implies_true, h]; done))

theorem execTsti_memOk (a : Reg) (imm : BitVec 16) (s : State) (h : s.memOk) :
    (stateOf s (execTsti a imm s)).memOk :=
  (State.memOk_mask (execTsti_mask _ _ _ _ rfl rfl)).2 h

theorem execRld_memOk (a : Reg) (bit : BitIx) (s : State) (h : s.memOk) :
    (stateOf s (execRld a bit s)).memOk :=
  (State.memOk_mask (execRld_mask _ _ _ _ rfl rfl)).2 h

theorem execRldn_memOk (a : Reg) (bit : BitIx) (s : State) (h : s.memOk) :
    (stateOf s (execRldn a bit s)).memOk :=
  (State.memOk_mask (execRldn_mask _ _ _ _ rfl rfl)).2 h

theorem execRand_memOk (a : Reg) (bit : BitIx) (s : State) (h : s.memOk) :
    (stateOf s (execRand a bit s)).memOk :=
  (State.memOk_mask (execRand_mask _ _ _ _ rfl rfl)).2 h

theorem execRandn_memOk (a : Reg) (bit : BitIx) (s : State) (h : s.memOk) :
    (stateOf s (execRandn a bit s)).memOk :=
  (State.memOk_mask (execRandn_mask _ _ _ _ rfl rfl)).2 h

theorem execRorContact_memOk (a : Reg) (bit : BitIx) (s : State) (h : s.memOk) :
    (stateOf s (execRorContact a bit s)).memOk :=
  (State.memOk_mask (execRorContact_mask _ _ _ _ rfl rfl)).2 h

theorem execRorn_memOk (a : Reg) (bit : BitIx) (s : State) (h : s.memOk) :
    (stateOf s (execRorn a bit s)).memOk :=
  (State.memOk_mask (execRorn_mask _ _ _ _ rfl rfl)).2 h

theorem execRxor_memOk (a : Reg) (bit : BitIx) (s : State) (h : s.memOk) :
    (stateOf s (execRxor a bit s)).memOk :=
  (State.memOk_mask (execRxor_mask _ _ _ _ rfl rfl)).2 h

theorem execRst_memOk (d : Reg) (bit : BitIx) (s : State) (h : s.memOk) :
    (stateOf s (execRst d bit s)).memOk :=
  (State.memOk_mask (execRst_mask _ _ _ _ rfl rfl)).2 h

theorem execRstn_memOk (d : Reg) (bit : BitIx) (s : State) (h : s.memOk) :
    (stateOf s (execRstn d bit s)).memOk :=
  (State.memOk_mask (execRstn_mask _ _ _ _ rfl rfl)).2 h

theorem execRset_memOk (d : Reg) (bit : BitIx) (s : State) (h : s.memOk) :
    (stateOf s (execRset d bit s)).memOk :=
  (State.memOk_mask (execRset_mask _ _ _ _ rfl rfl)).2 h

theorem execRrst_memOk (d : Reg) (bit : BitIx) (s : State) (h : s.memOk) :
    (stateOf s (execRrst d bit s)).memOk :=
  (State.memOk_mask (execRrst_mask _ _ _ _ rfl rfl)).2 h

theorem execBnot_memOk (s : State) (h : s.memOk) :
    (stateOf s (execBnot s)).memOk :=
  (State.memOk_mask (execBnot_mask _ _ rfl rfl)).2 h

theorem execBone_memOk (s : State) (h : s.memOk) :
    (stateOf s (execBone s)).memOk :=
  (State.memOk_mask (execBone_mask _ _ rfl rfl)).2 h

theorem execBzero_memOk (s : State) (h : s.memOk) :
    (stateOf s (execBzero s)).memOk :=
  (State.memOk_mask (execBzero_mask _ _ rfl rfl)).2 h

theorem execBcc_memOk (cond : BitVec 5) (s : State) (h : s.memOk) :
    (stateOf s (execBcc cond s)).memOk := by
  unfold execBcc
  first
    | (simp (maxDischargeDepth := 30) +contextual only [State.bankOp_memOk, State.illegal_memOk, stateOf_next, stateOf_ite, State.memOk_forAll, State.memOk_foldl, State.memOk_ite, ite_self, implies_true, h]; done)
    | ((try dsimp only); (repeat' split) <;> first | (simp (maxDischargeDepth := 30) +contextual only [State.bankOp_memOk, State.illegal_memOk, stateOf_next, stateOf_ite, State.memOk_forAll, State.memOk_foldl, State.memOk_ite, ite_self, implies_true, h]; done) | (simp_all (maxDischargeDepth := 30) only [State.bankOp_memOk, State.illegal_memOk, stateOf_next, stateOf_ite, State.memOk_forAll, State.memOk_foldl, State.memOk_ite, ite_self, implies_true, h]; done))

theorem execBget_memOk (d : Reg) (s : State) (h : s.memOk) :
    (stateOf s (execBget d s)).memOk :=
  (State.memOk_mask (execBget_mask _ _ _ rfl rfl)).2 h

theorem execBput_memOk (a : Reg) (s : State) (h : s.memOk) :
    (stateOf s (execBput a s)).memOk :=
  (State.memOk_mask (execBput_mask _ _ _ rfl rfl)).2 h

theorem State.branch_memOk (s : State) (cond : BitVec 5) (ofs : BitVec 21) (link : Bool) (h : s.memOk) :
    (State.branch s cond ofs link).memOk := by
  unfold State.branch
  first
    | (simp (maxDischargeDepth := 30) +contextual only [State.bankOp_memOk, State.illegal_memOk, State.memOk_forAll, State.memOk_foldl, State.memOk_ite, ite_self, implies_true, h]; done)
    | ((try dsimp only); (repeat' split) <;> first | (simp (maxDischargeDepth := 30) +contextual only [State.bankOp_memOk, State.illegal_memOk, State.memOk_forAll, State.memOk_foldl, State.memOk_ite, ite_self, implies_true, h]; done) | (simp_all (maxDischargeDepth := 30) only [State.bankOp_memOk, State.illegal_memOk, State.memOk_forAll, State.memOk_foldl, State.memOk_ite, ite_self, implies_true, h]; done))

theorem execBr_memOk (cond : BitVec 5) (ofs : BitVec 21) (s : State) (h : s.memOk) :
    (stateOf s (execBr cond ofs s)).memOk := by
  unfold execBr
  first
    | (simp (maxDischargeDepth := 30) +contextual only [State.branch_memOk, stateOf_next, stateOf_ite, State.memOk_forAll, State.memOk_foldl, State.memOk_ite, ite_self, implies_true, h]; done)
    | ((try dsimp only); (repeat' split) <;> first | (simp (maxDischargeDepth := 30) +contextual only [State.branch_memOk, stateOf_next, stateOf_ite, State.memOk_forAll, State.memOk_foldl, State.memOk_ite, ite_self, implies_true, h]; done) | (simp_all (maxDischargeDepth := 30) only [State.branch_memOk, stateOf_next, stateOf_ite, State.memOk_forAll, State.memOk_foldl, State.memOk_ite, ite_self, implies_true, h]; done))

theorem execBrl_memOk (cond : BitVec 5) (ofs : BitVec 21) (s : State) (h : s.memOk) :
    (stateOf s (execBrl cond ofs s)).memOk := by
  unfold execBrl
  first
    | (simp (maxDischargeDepth := 30) +contextual only [State.branch_memOk, stateOf_next, stateOf_ite, State.memOk_forAll, State.memOk_foldl, State.memOk_ite, ite_self, implies_true, h]; done)
    | ((try dsimp only); (repeat' split) <;> first | (simp (maxDischargeDepth := 30) +contextual only [State.branch_memOk, stateOf_next, stateOf_ite, State.memOk_forAll, State.memOk_foldl, State.memOk_ite, ite_self, implies_true, h]; done) | (simp_all (maxDischargeDepth := 30) only [State.branch_memOk, stateOf_next, stateOf_ite, State.memOk_forAll, State.memOk_foldl, State.memOk_ite, ite_self, implies_true, h]; done))

theorem execJr_memOk (a : Reg) (s : State) (h : s.memOk) :
    (stateOf s (execJr a s)).memOk :=
  (State.memOk_mask (execJr_mask _ _ _ rfl rfl)).2 h

theorem execJrl_memOk (d a : Reg) (s : State) (h : s.memOk) :
    (stateOf s (execJrl d a s)).memOk :=
  (State.memOk_mask (execJrl_mask _ _ _ _ rfl rfl)).2 h

theorem execNop_memOk (s : State) (h : s.memOk) :
    (stateOf s (execNop s)).memOk :=
  (State.memOk_mask (execNop_mask _ _ rfl rfl)).2 h

theorem execRdf_memOk (d : Reg) (s : State) (h : s.memOk) :
    (stateOf s (execRdf d s)).memOk :=
  (State.memOk_mask (execRdf_mask _ _ _ rfl rfl)).2 h

theorem execWrf_memOk (a : Reg) (s : State) (h : s.memOk) :
    (stateOf s (execWrf a s)).memOk :=
  (State.memOk_mask (execWrf_mask _ _ _ rfl rfl)).2 h

theorem State.emitTo_memOk (s : State) (d : Reg) (k : BitVec 8) (payload : List Byte) (h : s.memOk) :
    (State.emitTo s d k payload).memOk :=
  (State.memOk_mask (State.emitTo_mask _ _ _ _ _ rfl rfl)).2 h

theorem State.emitBad_memOk (s : State) (d : Reg) (a : Word) (h : s.memOk) :
    (State.emitBad s d a).memOk :=
  (State.memOk_mask (State.emitBad_mask _ _ _ _ rfl)).2 h

theorem execTrec_memOk (d a : Reg) (k : BitVec 8) (s : State) (h : s.memOk) :
    (stateOf s (execTrec d a k s)).memOk := by
  unfold execTrec
  first
    | (simp (maxDischargeDepth := 30) +contextual only [State.insn_memOk, State.drainAll_memOk, State.illegal_memOk, State.emitTo_memOk, State.emitBad_memOk, stateOf_next, stateOf_ite, State.memOk_forAll, State.memOk_foldl, State.memOk_ite, ite_self, implies_true, h]; done)
    | ((try dsimp only); (repeat' split) <;> first | (simp (maxDischargeDepth := 30) +contextual only [State.insn_memOk, State.drainAll_memOk, State.illegal_memOk, State.emitTo_memOk, State.emitBad_memOk, stateOf_next, stateOf_ite, State.memOk_forAll, State.memOk_foldl, State.memOk_ite, ite_self, implies_true, h]; done) | (simp_all (maxDischargeDepth := 30) only [State.insn_memOk, State.drainAll_memOk, State.illegal_memOk, State.emitTo_memOk, State.emitBad_memOk, stateOf_next, stateOf_ite, State.memOk_forAll, State.memOk_foldl, State.memOk_ite, ite_self, implies_true, h]; done))

theorem execTword_memOk (d a : Reg) (k : BitVec 8) (s : State) (h : s.memOk) :
    (stateOf s (execTword d a k s)).memOk := by
  unfold execTword
  first
    | (simp (maxDischargeDepth := 30) +contextual only [State.insn_memOk, State.drainAll_memOk, State.illegal_memOk, State.emitTo_memOk, stateOf_next, stateOf_ite, State.memOk_forAll, State.memOk_foldl, State.memOk_ite, ite_self, implies_true, h]; done)
    | ((try dsimp only); (repeat' split) <;> first | (simp (maxDischargeDepth := 30) +contextual only [State.insn_memOk, State.drainAll_memOk, State.illegal_memOk, State.emitTo_memOk, stateOf_next, stateOf_ite, State.memOk_forAll, State.memOk_foldl, State.memOk_ite, ite_self, implies_true, h]; done) | (simp_all (maxDischargeDepth := 30) only [State.insn_memOk, State.drainAll_memOk, State.illegal_memOk, State.emitTo_memOk, stateOf_next, stateOf_ite, State.memOk_forAll, State.memOk_foldl, State.memOk_ite, ite_self, implies_true, h]; done))

theorem State.mbSend_memOk (s : State) (m : Fin 64) (a n : Nat) (h : s.memOk) :
    (State.mbSend s m a n).1.memOk :=
  (State.memOk_mask (State.mbSend_mask _ _ _ _ _ rfl rfl)).2 h

theorem execMbsend_memOk (d a : Reg) (k : BitVec 8) (s : State) (h : s.memOk) :
    (stateOf s (execMbsend d a k s)).memOk := by
  unfold execMbsend
  first
    | (simp (maxDischargeDepth := 30) +contextual only [State.insn_memOk, State.putStatus_memOk, State.drainAll_memOk, State.illegal_memOk, State.emitBad_memOk, State.mbSend_memOk, stateOf_next, stateOf_ite, State.memOk_forAll, State.memOk_foldl, State.memOk_ite, ite_self, implies_true, h]; done)
    | ((try dsimp only); (repeat' split) <;> first | (simp (maxDischargeDepth := 30) +contextual only [State.insn_memOk, State.putStatus_memOk, State.drainAll_memOk, State.illegal_memOk, State.emitBad_memOk, State.mbSend_memOk, stateOf_next, stateOf_ite, State.memOk_forAll, State.memOk_foldl, State.memOk_ite, ite_self, implies_true, h]; done) | (simp_all (maxDischargeDepth := 30) only [State.insn_memOk, State.putStatus_memOk, State.drainAll_memOk, State.illegal_memOk, State.emitBad_memOk, State.mbSend_memOk, stateOf_next, stateOf_ite, State.memOk_forAll, State.memOk_foldl, State.memOk_ite, ite_self, implies_true, h]; done))

theorem State.putTaken_memOk (s : State) (d : Reg) (w : Word) (h : s.memOk) :
    (State.putTaken s d w).memOk :=
  (State.memOk_mask (State.putTaken_mask _ _ _ _ rfl)).2 h

theorem State.mbRecv_memOk (s : State) (d : Reg) (m : Fin 64) (ad cap : Nat) (h : s.memOk) :
    (State.mbRecv s d m ad cap).memOk := by
  unfold State.mbRecv
  first
    | (simp (maxDischargeDepth := 30) +contextual only [State.setBytes_memOk, State.modMbox_memOk, State.hitMoves_memOk, State.putTaken_memOk, State.memOk_forAll, State.memOk_foldl, State.memOk_ite, ite_self, implies_true, h]; done)
    | ((try dsimp only); (repeat' split) <;> first | (simp (maxDischargeDepth := 30) +contextual only [State.setBytes_memOk, State.modMbox_memOk, State.hitMoves_memOk, State.putTaken_memOk, State.memOk_forAll, State.memOk_foldl, State.memOk_ite, ite_self, implies_true, h]; done) | (simp_all (maxDischargeDepth := 30) only [State.setBytes_memOk, State.modMbox_memOk, State.hitMoves_memOk, State.putTaken_memOk, State.memOk_forAll, State.memOk_foldl, State.memOk_ite, ite_self, implies_true, h]; done))

theorem execMbrecv_memOk (d a : Reg) (k : BitVec 8) (s : State) (h : s.memOk) :
    (stateOf s (execMbrecv d a k s)).memOk := by
  unfold execMbrecv
  first
    | (simp (maxDischargeDepth := 30) +contextual only [State.used_memOk, State.violation_memOk, State.insn_memOk, State.drainAll_memOk, State.illegal_memOk, State.putTaken_memOk, State.mbRecv_memOk, stateOf_next, stateOf_ite, State.memOk_forAll, State.memOk_foldl, State.memOk_ite, ite_self, implies_true, h]; done)
    | ((try dsimp only); (repeat' split) <;> first | (simp (maxDischargeDepth := 30) +contextual only [State.used_memOk, State.violation_memOk, State.insn_memOk, State.drainAll_memOk, State.illegal_memOk, State.putTaken_memOk, State.mbRecv_memOk, stateOf_next, stateOf_ite, State.memOk_forAll, State.memOk_foldl, State.memOk_ite, ite_self, implies_true, h]; done) | (simp_all (maxDischargeDepth := 30) only [State.used_memOk, State.violation_memOk, State.insn_memOk, State.drainAll_memOk, State.illegal_memOk, State.putTaken_memOk, State.mbRecv_memOk, stateOf_next, stateOf_ite, State.memOk_forAll, State.memOk_foldl, State.memOk_ite, ite_self, implies_true, h]; done))

theorem execMbstat_memOk (d : Reg) (k : BitVec 8) (s : State) (h : s.memOk) :
    (stateOf s (execMbstat d k s)).memOk := by
  unfold execMbstat
  first
    | (simp (maxDischargeDepth := 30) +contextual only [State.putR_memOk, State.insn_memOk, State.touch_memOk, State.drainAll_memOk, State.illegal_memOk, stateOf_next, stateOf_ite, State.memOk_forAll, State.memOk_foldl, State.memOk_ite, ite_self, implies_true, h]; done)
    | ((try dsimp only); (repeat' split) <;> first | (simp (maxDischargeDepth := 30) +contextual only [State.putR_memOk, State.insn_memOk, State.touch_memOk, State.drainAll_memOk, State.illegal_memOk, stateOf_next, stateOf_ite, State.memOk_forAll, State.memOk_foldl, State.memOk_ite, ite_self, implies_true, h]; done) | (simp_all (maxDischargeDepth := 30) only [State.putR_memOk, State.insn_memOk, State.touch_memOk, State.drainAll_memOk, State.illegal_memOk, stateOf_next, stateOf_ite, State.memOk_forAll, State.memOk_foldl, State.memOk_ite, ite_self, implies_true, h]; done))

theorem State.loadOp_memOk (s : State) (d a : Reg) (imm : BitVec 16) (flt : FabFault) (n : Nat) (ext : Word → Word) (h : s.memOk) :
    (State.loadOp s d a imm flt n ext).memOk := by
  refine State.insn_memOk _ _ _ (fun s h => ?_) h
  dsimp only
  split <;> simp only [State.putR_memOk, State.fetch_memOk, h]

theorem State.storeOp_memOk (s : State) (d a : Reg) (imm : BitVec 16) (n : Nat) (h : s.memOk) :
    (State.storeOp s d a imm n).memOk := by
  unfold State.storeOp
  first
    | (simp (maxDischargeDepth := 30) +contextual only [State.insn_memOk, State.store_memOk, State.memOk_forAll, State.memOk_foldl, State.memOk_ite, ite_self, implies_true, h]; done)
    | ((try dsimp only); (repeat' split) <;> first | (simp (maxDischargeDepth := 30) +contextual only [State.insn_memOk, State.store_memOk, State.memOk_forAll, State.memOk_foldl, State.memOk_ite, ite_self, implies_true, h]; done) | (simp_all (maxDischargeDepth := 30) only [State.insn_memOk, State.store_memOk, State.memOk_forAll, State.memOk_foldl, State.memOk_ite, ite_self, implies_true, h]; done))

theorem execLdw_memOk (d a : Reg) (imm : BitVec 16) (flt : FabFault) (s : State) (h : s.memOk) :
    (stateOf s (execLdw d a imm flt s)).memOk := by
  unfold execLdw
  first
    | (simp (maxDischargeDepth := 30) +contextual only [State.loadOp_memOk, stateOf_next, stateOf_ite, State.memOk_forAll, State.memOk_foldl, State.memOk_ite, ite_self, implies_true, h]; done)
    | ((try dsimp only); (repeat' split) <;> first | (simp (maxDischargeDepth := 30) +contextual only [State.loadOp_memOk, stateOf_next, stateOf_ite, State.memOk_forAll, State.memOk_foldl, State.memOk_ite, ite_self, implies_true, h]; done) | (simp_all (maxDischargeDepth := 30) only [State.loadOp_memOk, stateOf_next, stateOf_ite, State.memOk_forAll, State.memOk_foldl, State.memOk_ite, ite_self, implies_true, h]; done))

theorem execLdh_memOk (d a : Reg) (imm : BitVec 16) (flt : FabFault) (s : State) (h : s.memOk) :
    (stateOf s (execLdh d a imm flt s)).memOk := by
  unfold execLdh
  first
    | (simp (maxDischargeDepth := 30) +contextual only [State.loadOp_memOk, stateOf_next, stateOf_ite, State.memOk_forAll, State.memOk_foldl, State.memOk_ite, ite_self, implies_true, h]; done)
    | ((try dsimp only); (repeat' split) <;> first | (simp (maxDischargeDepth := 30) +contextual only [State.loadOp_memOk, stateOf_next, stateOf_ite, State.memOk_forAll, State.memOk_foldl, State.memOk_ite, ite_self, implies_true, h]; done) | (simp_all (maxDischargeDepth := 30) only [State.loadOp_memOk, stateOf_next, stateOf_ite, State.memOk_forAll, State.memOk_foldl, State.memOk_ite, ite_self, implies_true, h]; done))

theorem execLdhu_memOk (d a : Reg) (imm : BitVec 16) (flt : FabFault) (s : State) (h : s.memOk) :
    (stateOf s (execLdhu d a imm flt s)).memOk := by
  unfold execLdhu
  first
    | (simp (maxDischargeDepth := 30) +contextual only [State.loadOp_memOk, stateOf_next, stateOf_ite, State.memOk_forAll, State.memOk_foldl, State.memOk_ite, ite_self, implies_true, h]; done)
    | ((try dsimp only); (repeat' split) <;> first | (simp (maxDischargeDepth := 30) +contextual only [State.loadOp_memOk, stateOf_next, stateOf_ite, State.memOk_forAll, State.memOk_foldl, State.memOk_ite, ite_self, implies_true, h]; done) | (simp_all (maxDischargeDepth := 30) only [State.loadOp_memOk, stateOf_next, stateOf_ite, State.memOk_forAll, State.memOk_foldl, State.memOk_ite, ite_self, implies_true, h]; done))

theorem execLdb_memOk (d a : Reg) (imm : BitVec 16) (flt : FabFault) (s : State) (h : s.memOk) :
    (stateOf s (execLdb d a imm flt s)).memOk := by
  unfold execLdb
  first
    | (simp (maxDischargeDepth := 30) +contextual only [State.loadOp_memOk, stateOf_next, stateOf_ite, State.memOk_forAll, State.memOk_foldl, State.memOk_ite, ite_self, implies_true, h]; done)
    | ((try dsimp only); (repeat' split) <;> first | (simp (maxDischargeDepth := 30) +contextual only [State.loadOp_memOk, stateOf_next, stateOf_ite, State.memOk_forAll, State.memOk_foldl, State.memOk_ite, ite_self, implies_true, h]; done) | (simp_all (maxDischargeDepth := 30) only [State.loadOp_memOk, stateOf_next, stateOf_ite, State.memOk_forAll, State.memOk_foldl, State.memOk_ite, ite_self, implies_true, h]; done))

theorem execLdbu_memOk (d a : Reg) (imm : BitVec 16) (flt : FabFault) (s : State) (h : s.memOk) :
    (stateOf s (execLdbu d a imm flt s)).memOk := by
  unfold execLdbu
  first
    | (simp (maxDischargeDepth := 30) +contextual only [State.loadOp_memOk, stateOf_next, stateOf_ite, State.memOk_forAll, State.memOk_foldl, State.memOk_ite, ite_self, implies_true, h]; done)
    | ((try dsimp only); (repeat' split) <;> first | (simp (maxDischargeDepth := 30) +contextual only [State.loadOp_memOk, stateOf_next, stateOf_ite, State.memOk_forAll, State.memOk_foldl, State.memOk_ite, ite_self, implies_true, h]; done) | (simp_all (maxDischargeDepth := 30) only [State.loadOp_memOk, stateOf_next, stateOf_ite, State.memOk_forAll, State.memOk_foldl, State.memOk_ite, ite_self, implies_true, h]; done))

theorem execStw_memOk (d a : Reg) (imm : BitVec 16) (s : State) (h : s.memOk) :
    (stateOf s (execStw d a imm s)).memOk := by
  unfold execStw
  first
    | (simp (maxDischargeDepth := 30) +contextual only [State.storeOp_memOk, stateOf_next, stateOf_ite, State.memOk_forAll, State.memOk_foldl, State.memOk_ite, ite_self, implies_true, h]; done)
    | ((try dsimp only); (repeat' split) <;> first | (simp (maxDischargeDepth := 30) +contextual only [State.storeOp_memOk, stateOf_next, stateOf_ite, State.memOk_forAll, State.memOk_foldl, State.memOk_ite, ite_self, implies_true, h]; done) | (simp_all (maxDischargeDepth := 30) only [State.storeOp_memOk, stateOf_next, stateOf_ite, State.memOk_forAll, State.memOk_foldl, State.memOk_ite, ite_self, implies_true, h]; done))

theorem execSth_memOk (d a : Reg) (imm : BitVec 16) (s : State) (h : s.memOk) :
    (stateOf s (execSth d a imm s)).memOk := by
  unfold execSth
  first
    | (simp (maxDischargeDepth := 30) +contextual only [State.storeOp_memOk, stateOf_next, stateOf_ite, State.memOk_forAll, State.memOk_foldl, State.memOk_ite, ite_self, implies_true, h]; done)
    | ((try dsimp only); (repeat' split) <;> first | (simp (maxDischargeDepth := 30) +contextual only [State.storeOp_memOk, stateOf_next, stateOf_ite, State.memOk_forAll, State.memOk_foldl, State.memOk_ite, ite_self, implies_true, h]; done) | (simp_all (maxDischargeDepth := 30) only [State.storeOp_memOk, stateOf_next, stateOf_ite, State.memOk_forAll, State.memOk_foldl, State.memOk_ite, ite_self, implies_true, h]; done))

theorem execStb_memOk (d a : Reg) (imm : BitVec 16) (s : State) (h : s.memOk) :
    (stateOf s (execStb d a imm s)).memOk := by
  unfold execStb
  first
    | (simp (maxDischargeDepth := 30) +contextual only [State.storeOp_memOk, stateOf_next, stateOf_ite, State.memOk_forAll, State.memOk_foldl, State.memOk_ite, ite_self, implies_true, h]; done)
    | ((try dsimp only); (repeat' split) <;> first | (simp (maxDischargeDepth := 30) +contextual only [State.storeOp_memOk, stateOf_next, stateOf_ite, State.memOk_forAll, State.memOk_foldl, State.memOk_ite, ite_self, implies_true, h]; done) | (simp_all (maxDischargeDepth := 30) only [State.storeOp_memOk, stateOf_next, stateOf_ite, State.memOk_forAll, State.memOk_foldl, State.memOk_ite, ite_self, implies_true, h]; done))

theorem execStoreDrain_memOk (flt : FabFault) (s : State) (h : s.memOk) :
    (stateOf s (execStoreDrain flt s)).memOk := by
  unfold execStoreDrain
  first
    | (simp (maxDischargeDepth := 30) +contextual only [State.modEng_memOk, State.fabFault_memOk, State.enterStop_memOk, State.drainOne_memOk, stateOf_next, stateOf_ite, State.memOk_forAll, State.memOk_foldl, State.memOk_ite, ite_self, implies_true, h]; done)
    | ((try dsimp only); (repeat' split) <;> first | (simp (maxDischargeDepth := 30) +contextual only [State.modEng_memOk, State.fabFault_memOk, State.enterStop_memOk, State.drainOne_memOk, stateOf_next, stateOf_ite, State.memOk_forAll, State.memOk_foldl, State.memOk_ite, ite_self, implies_true, h]; done) | (simp_all (maxDischargeDepth := 30) only [State.modEng_memOk, State.fabFault_memOk, State.enterStop_memOk, State.drainOne_memOk, stateOf_next, stateOf_ite, State.memOk_forAll, State.memOk_foldl, State.memOk_ite, ite_self, implies_true, h]; done))

theorem State.memContact_memOk (s : State) (bit : BitIx) (a : Reg) (imm : BitVec 16) (flt : FabFault) (f : Bool → Bool → Bool) (h : s.memOk) :
    (State.memContact s bit a imm flt f).memOk := by
  refine State.insn_memOk _ _ _ (fun s h => ?_) h
  dsimp only
  split
  · exact State.modBank_memOk _ _ (State.fetch_memOk _ _ _ _ h)
  · exact State.fetch_memOk _ _ _ _ h

theorem State.memCoil_memOk (s : State) (bit : BitIx) (a : Reg) (imm : BitVec 16) (flt : FabFault) (f : Bool → Bool → Bool) (h : s.memOk) :
    (State.memCoil s bit a imm flt f).memOk := by
  refine State.insn_memOk _ _ _ (fun s h => ?_) h
  dsimp only
  repeat' split
  all_goals first
    | exact State.violation_memOk _ _ (State.drainAll_memOk _ h)
    | exact State.setWord_memOk _ _ _ (State.hitMoves_memOk _ _ _ (State.fetch_memOk _ _ _ _ (State.drainAll_memOk _ h)))
    | exact State.fetch_memOk _ _ _ _ (State.drainAll_memOk _ h)

theorem execCld_memOk (bit : BitIx) (a : Reg) (imm : BitVec 16) (flt : FabFault) (s : State) (h : s.memOk) :
    (stateOf s (execCld bit a imm flt s)).memOk := by
  unfold execCld
  first
    | (simp (maxDischargeDepth := 30) +contextual only [State.memContact_memOk, stateOf_next, stateOf_ite, State.memOk_forAll, State.memOk_foldl, State.memOk_ite, ite_self, implies_true, h]; done)
    | ((try dsimp only); (repeat' split) <;> first | (simp (maxDischargeDepth := 30) +contextual only [State.memContact_memOk, stateOf_next, stateOf_ite, State.memOk_forAll, State.memOk_foldl, State.memOk_ite, ite_self, implies_true, h]; done) | (simp_all (maxDischargeDepth := 30) only [State.memContact_memOk, stateOf_next, stateOf_ite, State.memOk_forAll, State.memOk_foldl, State.memOk_ite, ite_self, implies_true, h]; done))

theorem execCldn_memOk (bit : BitIx) (a : Reg) (imm : BitVec 16) (flt : FabFault) (s : State) (h : s.memOk) :
    (stateOf s (execCldn bit a imm flt s)).memOk := by
  unfold execCldn
  first
    | (simp (maxDischargeDepth := 30) +contextual only [State.memContact_memOk, stateOf_next, stateOf_ite, State.memOk_forAll, State.memOk_foldl, State.memOk_ite, ite_self, implies_true, h]; done)
    | ((try dsimp only); (repeat' split) <;> first | (simp (maxDischargeDepth := 30) +contextual only [State.memContact_memOk, stateOf_next, stateOf_ite, State.memOk_forAll, State.memOk_foldl, State.memOk_ite, ite_self, implies_true, h]; done) | (simp_all (maxDischargeDepth := 30) only [State.memContact_memOk, stateOf_next, stateOf_ite, State.memOk_forAll, State.memOk_foldl, State.memOk_ite, ite_self, implies_true, h]; done))

theorem execCand_memOk (bit : BitIx) (a : Reg) (imm : BitVec 16) (flt : FabFault) (s : State) (h : s.memOk) :
    (stateOf s (execCand bit a imm flt s)).memOk := by
  unfold execCand
  first
    | (simp (maxDischargeDepth := 30) +contextual only [State.memContact_memOk, stateOf_next, stateOf_ite, State.memOk_forAll, State.memOk_foldl, State.memOk_ite, ite_self, implies_true, h]; done)
    | ((try dsimp only); (repeat' split) <;> first | (simp (maxDischargeDepth := 30) +contextual only [State.memContact_memOk, stateOf_next, stateOf_ite, State.memOk_forAll, State.memOk_foldl, State.memOk_ite, ite_self, implies_true, h]; done) | (simp_all (maxDischargeDepth := 30) only [State.memContact_memOk, stateOf_next, stateOf_ite, State.memOk_forAll, State.memOk_foldl, State.memOk_ite, ite_self, implies_true, h]; done))

theorem execCandn_memOk (bit : BitIx) (a : Reg) (imm : BitVec 16) (flt : FabFault) (s : State) (h : s.memOk) :
    (stateOf s (execCandn bit a imm flt s)).memOk := by
  unfold execCandn
  first
    | (simp (maxDischargeDepth := 30) +contextual only [State.memContact_memOk, stateOf_next, stateOf_ite, State.memOk_forAll, State.memOk_foldl, State.memOk_ite, ite_self, implies_true, h]; done)
    | ((try dsimp only); (repeat' split) <;> first | (simp (maxDischargeDepth := 30) +contextual only [State.memContact_memOk, stateOf_next, stateOf_ite, State.memOk_forAll, State.memOk_foldl, State.memOk_ite, ite_self, implies_true, h]; done) | (simp_all (maxDischargeDepth := 30) only [State.memContact_memOk, stateOf_next, stateOf_ite, State.memOk_forAll, State.memOk_foldl, State.memOk_ite, ite_self, implies_true, h]; done))

theorem execCor_memOk (bit : BitIx) (a : Reg) (imm : BitVec 16) (flt : FabFault) (s : State) (h : s.memOk) :
    (stateOf s (execCor bit a imm flt s)).memOk := by
  unfold execCor
  first
    | (simp (maxDischargeDepth := 30) +contextual only [State.memContact_memOk, stateOf_next, stateOf_ite, State.memOk_forAll, State.memOk_foldl, State.memOk_ite, ite_self, implies_true, h]; done)
    | ((try dsimp only); (repeat' split) <;> first | (simp (maxDischargeDepth := 30) +contextual only [State.memContact_memOk, stateOf_next, stateOf_ite, State.memOk_forAll, State.memOk_foldl, State.memOk_ite, ite_self, implies_true, h]; done) | (simp_all (maxDischargeDepth := 30) only [State.memContact_memOk, stateOf_next, stateOf_ite, State.memOk_forAll, State.memOk_foldl, State.memOk_ite, ite_self, implies_true, h]; done))

theorem execCorn_memOk (bit : BitIx) (a : Reg) (imm : BitVec 16) (flt : FabFault) (s : State) (h : s.memOk) :
    (stateOf s (execCorn bit a imm flt s)).memOk := by
  unfold execCorn
  first
    | (simp (maxDischargeDepth := 30) +contextual only [State.memContact_memOk, stateOf_next, stateOf_ite, State.memOk_forAll, State.memOk_foldl, State.memOk_ite, ite_self, implies_true, h]; done)
    | ((try dsimp only); (repeat' split) <;> first | (simp (maxDischargeDepth := 30) +contextual only [State.memContact_memOk, stateOf_next, stateOf_ite, State.memOk_forAll, State.memOk_foldl, State.memOk_ite, ite_self, implies_true, h]; done) | (simp_all (maxDischargeDepth := 30) only [State.memContact_memOk, stateOf_next, stateOf_ite, State.memOk_forAll, State.memOk_foldl, State.memOk_ite, ite_self, implies_true, h]; done))

theorem execCxor_memOk (bit : BitIx) (a : Reg) (imm : BitVec 16) (flt : FabFault) (s : State) (h : s.memOk) :
    (stateOf s (execCxor bit a imm flt s)).memOk := by
  unfold execCxor
  first
    | (simp (maxDischargeDepth := 30) +contextual only [State.memContact_memOk, stateOf_next, stateOf_ite, State.memOk_forAll, State.memOk_foldl, State.memOk_ite, ite_self, implies_true, h]; done)
    | ((try dsimp only); (repeat' split) <;> first | (simp (maxDischargeDepth := 30) +contextual only [State.memContact_memOk, stateOf_next, stateOf_ite, State.memOk_forAll, State.memOk_foldl, State.memOk_ite, ite_self, implies_true, h]; done) | (simp_all (maxDischargeDepth := 30) only [State.memContact_memOk, stateOf_next, stateOf_ite, State.memOk_forAll, State.memOk_foldl, State.memOk_ite, ite_self, implies_true, h]; done))

theorem execCst_memOk (bit : BitIx) (a : Reg) (imm : BitVec 16) (flt : FabFault) (s : State) (h : s.memOk) :
    (stateOf s (execCst bit a imm flt s)).memOk := by
  unfold execCst
  first
    | (simp (maxDischargeDepth := 30) +contextual only [State.memCoil_memOk, stateOf_next, stateOf_ite, State.memOk_forAll, State.memOk_foldl, State.memOk_ite, ite_self, implies_true, h]; done)
    | ((try dsimp only); (repeat' split) <;> first | (simp (maxDischargeDepth := 30) +contextual only [State.memCoil_memOk, stateOf_next, stateOf_ite, State.memOk_forAll, State.memOk_foldl, State.memOk_ite, ite_self, implies_true, h]; done) | (simp_all (maxDischargeDepth := 30) only [State.memCoil_memOk, stateOf_next, stateOf_ite, State.memOk_forAll, State.memOk_foldl, State.memOk_ite, ite_self, implies_true, h]; done))

theorem execCstn_memOk (bit : BitIx) (a : Reg) (imm : BitVec 16) (flt : FabFault) (s : State) (h : s.memOk) :
    (stateOf s (execCstn bit a imm flt s)).memOk := by
  unfold execCstn
  first
    | (simp (maxDischargeDepth := 30) +contextual only [State.memCoil_memOk, stateOf_next, stateOf_ite, State.memOk_forAll, State.memOk_foldl, State.memOk_ite, ite_self, implies_true, h]; done)
    | ((try dsimp only); (repeat' split) <;> first | (simp (maxDischargeDepth := 30) +contextual only [State.memCoil_memOk, stateOf_next, stateOf_ite, State.memOk_forAll, State.memOk_foldl, State.memOk_ite, ite_self, implies_true, h]; done) | (simp_all (maxDischargeDepth := 30) only [State.memCoil_memOk, stateOf_next, stateOf_ite, State.memOk_forAll, State.memOk_foldl, State.memOk_ite, ite_self, implies_true, h]; done))

theorem execCset_memOk (bit : BitIx) (a : Reg) (imm : BitVec 16) (flt : FabFault) (s : State) (h : s.memOk) :
    (stateOf s (execCset bit a imm flt s)).memOk := by
  unfold execCset
  first
    | (simp (maxDischargeDepth := 30) +contextual only [State.memCoil_memOk, stateOf_next, stateOf_ite, State.memOk_forAll, State.memOk_foldl, State.memOk_ite, ite_self, implies_true, h]; done)
    | ((try dsimp only); (repeat' split) <;> first | (simp (maxDischargeDepth := 30) +contextual only [State.memCoil_memOk, stateOf_next, stateOf_ite, State.memOk_forAll, State.memOk_foldl, State.memOk_ite, ite_self, implies_true, h]; done) | (simp_all (maxDischargeDepth := 30) only [State.memCoil_memOk, stateOf_next, stateOf_ite, State.memOk_forAll, State.memOk_foldl, State.memOk_ite, ite_self, implies_true, h]; done))

theorem execCrst_memOk (bit : BitIx) (a : Reg) (imm : BitVec 16) (flt : FabFault) (s : State) (h : s.memOk) :
    (stateOf s (execCrst bit a imm flt s)).memOk := by
  unfold execCrst
  first
    | (simp (maxDischargeDepth := 30) +contextual only [State.memCoil_memOk, stateOf_next, stateOf_ite, State.memOk_forAll, State.memOk_foldl, State.memOk_ite, ite_self, implies_true, h]; done)
    | ((try dsimp only); (repeat' split) <;> first | (simp (maxDischargeDepth := 30) +contextual only [State.memCoil_memOk, stateOf_next, stateOf_ite, State.memOk_forAll, State.memOk_foldl, State.memOk_ite, ite_self, implies_true, h]; done) | (simp_all (maxDischargeDepth := 30) only [State.memCoil_memOk, stateOf_next, stateOf_ite, State.memOk_forAll, State.memOk_foldl, State.memOk_ite, ite_self, implies_true, h]; done))

theorem execFence_memOk (s : State) (h : s.memOk) :
    (stateOf s (execFence s)).memOk := by
  unfold execFence
  first
    | (simp (maxDischargeDepth := 30) +contextual only [State.insn_memOk, State.drainAll_memOk, stateOf_next, stateOf_ite, State.memOk_forAll, State.memOk_foldl, State.memOk_ite, ite_self, implies_true, h]; done)
    | ((try dsimp only); (repeat' split) <;> first | (simp (maxDischargeDepth := 30) +contextual only [State.insn_memOk, State.drainAll_memOk, stateOf_next, stateOf_ite, State.memOk_forAll, State.memOk_foldl, State.memOk_ite, ite_self, implies_true, h]; done) | (simp_all (maxDischargeDepth := 30) only [State.insn_memOk, State.drainAll_memOk, stateOf_next, stateOf_ite, State.memOk_forAll, State.memOk_foldl, State.memOk_ite, ite_self, implies_true, h]; done))

theorem execCommit_memOk (d a : Reg) (flt : FabFault) (s : State) (h : s.memOk) :
    (stateOf s (execCommit d a flt s)).memOk := by
  unfold execCommit
  first
    | (simp (maxDischargeDepth := 30) +contextual only [State.insn_memOk, State.putStatus_memOk, State.drainAll_memOk, State.commit_memOk, stateOf_next, stateOf_ite, State.memOk_forAll, State.memOk_foldl, State.memOk_ite, ite_self, implies_true, h]; done)
    | ((try dsimp only); (repeat' split) <;> first | (simp (maxDischargeDepth := 30) +contextual only [State.insn_memOk, State.putStatus_memOk, State.drainAll_memOk, State.commit_memOk, stateOf_next, stateOf_ite, State.memOk_forAll, State.memOk_foldl, State.memOk_ite, ite_self, implies_true, h]; done) | (simp_all (maxDischargeDepth := 30) only [State.insn_memOk, State.putStatus_memOk, State.drainAll_memOk, State.commit_memOk, stateOf_next, stateOf_ite, State.memOk_forAll, State.memOk_foldl, State.memOk_ite, ite_self, implies_true, h]; done))

theorem State.motOp_memOk (s : State) (cycles n : Nat) (d : Reg) (k : BitVec 8) (none_ : Word) (flag : Bool) (addr : Nat → Nat)
    (f : State → Nat → State) (g0 : ∀ s n, s.memOk → (f s n).memOk) (h : s.memOk) : (State.motOp s cycles n d k none_ flag addr f).memOk := by
  unfold State.motOp
  split
  · simp only [State.illegal_memOk, h]
  · exact State.insn_memOk _ _ _ (fun s h => g0 s _ h) h
  · refine State.insn_memOk _ _ _ (fun s h => ?_) h
    dsimp only
    split <;> simp (maxDischargeDepth := 30) only [State.putStatus_memOk, State.putR_memOk, State.noRight_memOk, State.drainAll_memOk, h]

theorem execMtgt_memOk (d a : Reg) (k : BitVec 8) (flt : FabFault) (s : State) (h : s.memOk) :
    (stateOf s (execMtgt d a k flt s)).memOk := by
  unfold execMtgt
  first
    | (simp (maxDischargeDepth := 30) +contextual only [State.putStatus_memOk, State.writeAxis_memOk, State.drainAll_memOk, State.commit_memOk, State.motOp_memOk, stateOf_next, stateOf_ite, State.memOk_forAll, State.memOk_foldl, State.memOk_ite, ite_self, implies_true, h]; done)
    | ((try dsimp only); (repeat' split) <;> first | (simp (maxDischargeDepth := 30) +contextual only [State.putStatus_memOk, State.writeAxis_memOk, State.drainAll_memOk, State.commit_memOk, State.motOp_memOk, stateOf_next, stateOf_ite, State.memOk_forAll, State.memOk_foldl, State.memOk_ite, ite_self, implies_true, h]; done) | (simp_all (maxDischargeDepth := 30) only [State.putStatus_memOk, State.writeAxis_memOk, State.drainAll_memOk, State.commit_memOk, State.motOp_memOk, stateOf_next, stateOf_ite, State.memOk_forAll, State.memOk_foldl, State.memOk_ite, ite_self, implies_true, h]; done))

theorem State.commitLeaves_memOk (s : State) (p : PortalIx) (f : FabFault) (h : s.memOk) :
    (State.commitLeaves s p f).1.memOk :=
  (State.memOk_mask (State.commitLeaves_mask _ _ _ _ rfl rfl rfl rfl rfl rfl rfl rfl rfl)).2 h

theorem execMleaf_memOk (d a : Reg) (k : BitVec 8) (flt : FabFault) (s : State) (h : s.memOk) :
    (stateOf s (execMleaf d a k flt s)).memOk := by
  unfold execMleaf
  first
    | (simp (maxDischargeDepth := 30) +contextual only [State.insn_memOk, State.putStatus_memOk, State.writeAxis_memOk, State.drainAll_memOk, State.illegal_memOk, State.commitLeaves_memOk, stateOf_next, stateOf_ite, State.memOk_forAll, State.memOk_foldl, State.memOk_ite, ite_self, implies_true, h]; done)
    | ((try dsimp only); (repeat' split) <;> first | (simp (maxDischargeDepth := 30) +contextual only [State.insn_memOk, State.putStatus_memOk, State.writeAxis_memOk, State.drainAll_memOk, State.illegal_memOk, State.commitLeaves_memOk, stateOf_next, stateOf_ite, State.memOk_forAll, State.memOk_foldl, State.memOk_ite, ite_self, implies_true, h]; done) | (simp_all (maxDischargeDepth := 30) only [State.insn_memOk, State.putStatus_memOk, State.writeAxis_memOk, State.drainAll_memOk, State.illegal_memOk, State.commitLeaves_memOk, stateOf_next, stateOf_ite, State.memOk_forAll, State.memOk_foldl, State.memOk_ite, ite_self, implies_true, h]; done))

theorem execMvlim_memOk (d a : Reg) (k : BitVec 8) (s : State) (h : s.memOk) :
    (stateOf s (execMvlim d a k s)).memOk := by
  unfold execMvlim
  first
    | (simp (maxDischargeDepth := 30) +contextual only [State.writeAxis_memOk, State.drainAll_memOk, State.motOp_memOk, stateOf_next, stateOf_ite, State.memOk_forAll, State.memOk_foldl, State.memOk_ite, ite_self, implies_true, h]; done)
    | ((try dsimp only); (repeat' split) <;> first | (simp (maxDischargeDepth := 30) +contextual only [State.writeAxis_memOk, State.drainAll_memOk, State.motOp_memOk, stateOf_next, stateOf_ite, State.memOk_forAll, State.memOk_foldl, State.memOk_ite, ite_self, implies_true, h]; done) | (simp_all (maxDischargeDepth := 30) only [State.writeAxis_memOk, State.drainAll_memOk, State.motOp_memOk, stateOf_next, stateOf_ite, State.memOk_forAll, State.memOk_foldl, State.memOk_ite, ite_self, implies_true, h]; done))

theorem execMcmd_memOk (d a : Reg) (k : BitVec 8) (s : State) (h : s.memOk) :
    (stateOf s (execMcmd d a k s)).memOk := by
  unfold execMcmd
  first
    | (simp (maxDischargeDepth := 30) +contextual only [State.writeAxis_memOk, State.drainAll_memOk, State.motOp_memOk, stateOf_next, stateOf_ite, State.memOk_forAll, State.memOk_foldl, State.memOk_ite, ite_self, implies_true, h]; done)
    | ((try dsimp only); (repeat' split) <;> first | (simp (maxDischargeDepth := 30) +contextual only [State.writeAxis_memOk, State.drainAll_memOk, State.motOp_memOk, stateOf_next, stateOf_ite, State.memOk_forAll, State.memOk_foldl, State.memOk_ite, ite_self, implies_true, h]; done) | (simp_all (maxDischargeDepth := 30) only [State.writeAxis_memOk, State.drainAll_memOk, State.motOp_memOk, stateOf_next, stateOf_ite, State.memOk_forAll, State.memOk_foldl, State.memOk_ite, ite_self, implies_true, h]; done))

theorem execPcmd_memOk (d a : Reg) (k : BitVec 8) (s : State) (h : s.memOk) :
    (stateOf s (execPcmd d a k s)).memOk := by
  unfold execPcmd
  first
    | (simp (maxDischargeDepth := 30) +contextual only [State.fellSince_memOk, State.axisCmd_memOk, State.drainAll_memOk, State.motOp_memOk, stateOf_next, stateOf_ite, State.memOk_forAll, State.memOk_foldl, State.memOk_ite, ite_self, implies_true, h]; done)
    | ((try dsimp only); (repeat' split) <;> first | (simp (maxDischargeDepth := 30) +contextual only [State.fellSince_memOk, State.axisCmd_memOk, State.drainAll_memOk, State.motOp_memOk, stateOf_next, stateOf_ite, State.memOk_forAll, State.memOk_foldl, State.memOk_ite, ite_self, implies_true, h]; done) | (simp_all (maxDischargeDepth := 30) only [State.fellSince_memOk, State.axisCmd_memOk, State.drainAll_memOk, State.motOp_memOk, stateOf_next, stateOf_ite, State.memOk_forAll, State.memOk_foldl, State.memOk_ite, ite_self, implies_true, h]; done))

theorem execMstat_memOk (d : Reg) (k : BitVec 8) (s : State) (h : s.memOk) :
    (stateOf s (execMstat d k s)).memOk := by
  unfold execMstat
  first
    | (simp (maxDischargeDepth := 30) +contextual only [State.putR_memOk, State.motOp_memOk, stateOf_next, stateOf_ite, State.memOk_forAll, State.memOk_foldl, State.memOk_ite, ite_self, implies_true, h]; done)
    | ((try dsimp only); (repeat' split) <;> first | (simp (maxDischargeDepth := 30) +contextual only [State.putR_memOk, State.motOp_memOk, stateOf_next, stateOf_ite, State.memOk_forAll, State.memOk_foldl, State.memOk_ite, ite_self, implies_true, h]; done) | (simp_all (maxDischargeDepth := 30) only [State.putR_memOk, State.motOp_memOk, stateOf_next, stateOf_ite, State.memOk_forAll, State.memOk_foldl, State.memOk_ite, ite_self, implies_true, h]; done))

theorem execMpos_memOk (d : Reg) (k : BitVec 8) (s : State) (h : s.memOk) :
    (stateOf s (execMpos d k s)).memOk := by
  unfold execMpos
  first
    | (simp (maxDischargeDepth := 30) +contextual only [State.putR_memOk, State.motOp_memOk, stateOf_next, stateOf_ite, State.memOk_forAll, State.memOk_foldl, State.memOk_ite, ite_self, implies_true, h]; done)
    | ((try dsimp only); (repeat' split) <;> first | (simp (maxDischargeDepth := 30) +contextual only [State.putR_memOk, State.motOp_memOk, stateOf_next, stateOf_ite, State.memOk_forAll, State.memOk_foldl, State.memOk_ite, ite_self, implies_true, h]; done) | (simp_all (maxDischargeDepth := 30) only [State.putR_memOk, State.motOp_memOk, stateOf_next, stateOf_ite, State.memOk_forAll, State.memOk_foldl, State.memOk_ite, ite_self, implies_true, h]; done))

theorem execBhit_memOk (d : Reg) (k : BitVec 8) (s : State) (h : s.memOk) :
    (stateOf s (execBhit d k s)).memOk := by
  unfold execBhit
  first
    | (simp (maxDischargeDepth := 30) +contextual only [State.putStatus_memOk, State.writeAxis_memOk, State.drainAll_memOk, State.motOp_memOk, stateOf_next, stateOf_ite, State.memOk_forAll, State.memOk_foldl, State.memOk_ite, ite_self, implies_true, h]; done)
    | ((try dsimp only); (repeat' split) <;> first | (simp (maxDischargeDepth := 30) +contextual only [State.putStatus_memOk, State.writeAxis_memOk, State.drainAll_memOk, State.motOp_memOk, stateOf_next, stateOf_ite, State.memOk_forAll, State.memOk_foldl, State.memOk_ite, ite_self, implies_true, h]; done) | (simp_all (maxDischargeDepth := 30) only [State.putStatus_memOk, State.writeAxis_memOk, State.drainAll_memOk, State.motOp_memOk, stateOf_next, stateOf_ite, State.memOk_forAll, State.memOk_foldl, State.memOk_ite, ite_self, implies_true, h]; done))

theorem execBrearm_memOk (d a : Reg) (k : BitVec 8) (s : State) (h : s.memOk) :
    (stateOf s (execBrearm d a k s)).memOk := by
  unfold execBrearm
  first
    | (simp (maxDischargeDepth := 30) +contextual only [State.writeAxis_memOk, State.drainAll_memOk, State.motOp_memOk, stateOf_next, stateOf_ite, State.memOk_forAll, State.memOk_foldl, State.memOk_ite, ite_self, implies_true, h]; done)
    | ((try dsimp only); (repeat' split) <;> first | (simp (maxDischargeDepth := 30) +contextual only [State.writeAxis_memOk, State.drainAll_memOk, State.motOp_memOk, stateOf_next, stateOf_ite, State.memOk_forAll, State.memOk_foldl, State.memOk_ite, ite_self, implies_true, h]; done) | (simp_all (maxDischargeDepth := 30) only [State.writeAxis_memOk, State.drainAll_memOk, State.motOp_memOk, stateOf_next, stateOf_ite, State.memOk_forAll, State.memOk_foldl, State.memOk_ite, ite_self, implies_true, h]; done))

theorem State.lsw_memOk (s : State) (d : Reg) (k : BitVec 8) (flt : FabFault) (on : State → Bool) (h : s.memOk) :
    (State.lsw s d k flt on).memOk := by
  unfold State.lsw
  first
    | (simp (maxDischargeDepth := 30) +contextual only [State.putStatus_memOk, State.writeLoad_memOk, State.drainAll_memOk, State.commit_memOk, State.motOp_memOk, State.memOk_forAll, State.memOk_foldl, State.memOk_ite, ite_self, implies_true, h]; done)
    | ((try dsimp only); (repeat' split) <;> first | (simp (maxDischargeDepth := 30) +contextual only [State.putStatus_memOk, State.writeLoad_memOk, State.drainAll_memOk, State.commit_memOk, State.motOp_memOk, State.memOk_forAll, State.memOk_foldl, State.memOk_ite, ite_self, implies_true, h]; done) | (simp_all (maxDischargeDepth := 30) only [State.putStatus_memOk, State.writeLoad_memOk, State.drainAll_memOk, State.commit_memOk, State.motOp_memOk, State.memOk_forAll, State.memOk_foldl, State.memOk_ite, ite_self, implies_true, h]; done))

theorem execLsw_memOk (d a : Reg) (k : BitVec 8) (flt : FabFault) (s : State) (h : s.memOk) :
    (stateOf s (execLsw d a k flt s)).memOk := by
  unfold execLsw
  first
    | (simp (maxDischargeDepth := 30) +contextual only [State.lsw_memOk, stateOf_next, stateOf_ite, State.memOk_forAll, State.memOk_foldl, State.memOk_ite, ite_self, implies_true, h]; done)
    | ((try dsimp only); (repeat' split) <;> first | (simp (maxDischargeDepth := 30) +contextual only [State.lsw_memOk, stateOf_next, stateOf_ite, State.memOk_forAll, State.memOk_foldl, State.memOk_ite, ite_self, implies_true, h]; done) | (simp_all (maxDischargeDepth := 30) only [State.lsw_memOk, stateOf_next, stateOf_ite, State.memOk_forAll, State.memOk_foldl, State.memOk_ite, ite_self, implies_true, h]; done))

theorem execLswb_memOk (d : Reg) (k : BitVec 8) (flt : FabFault) (s : State) (h : s.memOk) :
    (stateOf s (execLswb d k flt s)).memOk := by
  unfold execLswb
  first
    | (simp (maxDischargeDepth := 30) +contextual only [State.lsw_memOk, stateOf_next, stateOf_ite, State.memOk_forAll, State.memOk_foldl, State.memOk_ite, ite_self, implies_true, h]; done)
    | ((try dsimp only); (repeat' split) <;> first | (simp (maxDischargeDepth := 30) +contextual only [State.lsw_memOk, stateOf_next, stateOf_ite, State.memOk_forAll, State.memOk_foldl, State.memOk_ite, ite_self, implies_true, h]; done) | (simp_all (maxDischargeDepth := 30) only [State.lsw_memOk, stateOf_next, stateOf_ite, State.memOk_forAll, State.memOk_foldl, State.memOk_ite, ite_self, implies_true, h]; done))

theorem State.moveError_memOk (s : State) (h : s.memOk) :
    (State.moveError s).memOk :=
  (State.memOk_mask (State.moveError_mask _ _ rfl)).2 h

theorem State.moveStart_memOk (s : State) (i : Fin 4) (src dst len cw : Nat) (h : s.memOk) :
    (State.moveStart s i src dst len cw).memOk := by
  unfold State.moveStart
  first
    | (simp (maxDischargeDepth := 30) +contextual only [State.modEng_memOk, State.setWord_memOk, State.scramble_memOk, State.noRight_memOk, State.moveError_memOk, State.memOk_forAll, State.memOk_foldl, State.memOk_ite, ite_self, implies_true, h]; done)
    | ((try dsimp only); (repeat' split) <;> first | (simp (maxDischargeDepth := 30) +contextual only [State.modEng_memOk, State.setWord_memOk, State.scramble_memOk, State.noRight_memOk, State.moveError_memOk, State.memOk_forAll, State.memOk_foldl, State.memOk_ite, ite_self, implies_true, h]; done) | (simp_all (maxDischargeDepth := 30) only [State.modEng_memOk, State.setWord_memOk, State.scramble_memOk, State.noRight_memOk, State.moveError_memOk, State.memOk_forAll, State.memOk_foldl, State.memOk_ite, ite_self, implies_true, h]; done))

theorem execBmove_memOk (d a : Reg) (s : State) (h : s.memOk) :
    (stateOf s (execBmove d a s)).memOk := by
  unfold execBmove
  first
    | (simp (maxDischargeDepth := 30) +contextual only [State.modEng_memOk, State.modBank_memOk, State.insn_memOk, State.drainAll_memOk, State.moveStart_memOk, stateOf_next, stateOf_ite, State.memOk_forAll, State.memOk_foldl, State.memOk_ite, ite_self, implies_true, h]; done)
    | ((try dsimp only); (repeat' split) <;> first | (simp (maxDischargeDepth := 30) +contextual only [State.modEng_memOk, State.modBank_memOk, State.insn_memOk, State.drainAll_memOk, State.moveStart_memOk, stateOf_next, stateOf_ite, State.memOk_forAll, State.memOk_foldl, State.memOk_ite, ite_self, implies_true, h]; done) | (simp_all (maxDischargeDepth := 30) only [State.modEng_memOk, State.modBank_memOk, State.insn_memOk, State.drainAll_memOk, State.moveStart_memOk, stateOf_next, stateOf_ite, State.memOk_forAll, State.memOk_foldl, State.memOk_ite, ite_self, implies_true, h]; done))

theorem State.moveRead_memOk (s : State) (req a : Nat) (x0 : Nat) (h : s.memOk) :
    (State.moveRead s req a x0).1.memOk :=
  (State.memOk_mask (State.moveRead_mask _ _ _ _ _ rfl rfl rfl rfl)).2 h

theorem execBlockMoveComplete_memOk (i : Fin 4) (flt : FabFault) (s : State) (h : s.memOk) :
    (stateOf s (execBlockMoveComplete i flt s)).memOk := by
  unfold execBlockMoveComplete
  first
    | (simp (maxDischargeDepth := 30) +contextual only [State.modEng_memOk, State.used_memOk, State.setBytes_memOk, State.setWord_memOk, State.scramble_memOk, State.fabFault_memOk, State.moveError_memOk, State.moveRead_memOk, stateOf_next, stateOf_ite, State.memOk_forAll, State.memOk_foldl, State.memOk_ite, ite_self, implies_true, h]; done)
    | ((try dsimp only); (repeat' split) <;> first | (simp (maxDischargeDepth := 30) +contextual only [State.modEng_memOk, State.used_memOk, State.setBytes_memOk, State.setWord_memOk, State.scramble_memOk, State.fabFault_memOk, State.moveError_memOk, State.moveRead_memOk, stateOf_next, stateOf_ite, State.memOk_forAll, State.memOk_foldl, State.memOk_ite, ite_self, implies_true, h]; done) | (simp_all (maxDischargeDepth := 30) only [State.modEng_memOk, State.used_memOk, State.setBytes_memOk, State.setWord_memOk, State.scramble_memOk, State.fabFault_memOk, State.moveError_memOk, State.moveRead_memOk, stateOf_next, stateOf_ite, State.memOk_forAll, State.memOk_foldl, State.memOk_ite, ite_self, implies_true, h]; done))

theorem State.tagOp_memOk (s : State) (t : BitVec 14) (accepts : TagType → Bool) (f : TagType → State → Quad → Quad) (g : State → Quad → Bank → Bank) (h : s.memOk) :
    (State.tagOp s t accepts f g).memOk := by
  unfold State.tagOp
  first
    | (simp (maxDischargeDepth := 30) +contextual only [State.modBank_memOk, State.insn_memOk, State.setQuad_memOk, State.hitMoves_memOk, State.drainAll_memOk, State.illegal_memOk, State.memOk_forAll, State.memOk_foldl, State.memOk_ite, ite_self, implies_true, h]; done)
    | ((try dsimp only); (repeat' split) <;> first | (simp (maxDischargeDepth := 30) +contextual only [State.modBank_memOk, State.insn_memOk, State.setQuad_memOk, State.hitMoves_memOk, State.drainAll_memOk, State.illegal_memOk, State.memOk_forAll, State.memOk_foldl, State.memOk_ite, ite_self, implies_true, h]; done) | (simp_all (maxDischargeDepth := 30) only [State.modBank_memOk, State.insn_memOk, State.setQuad_memOk, State.hitMoves_memOk, State.drainAll_memOk, State.illegal_memOk, State.memOk_forAll, State.memOk_foldl, State.memOk_ite, ite_self, implies_true, h]; done))

theorem execTrun_memOk (d : Reg) (tag : BitVec 14) (s : State) (h : s.memOk) :
    (stateOf s (execTrun d tag s)).memOk := by
  unfold execTrun
  first
    | (simp (maxDischargeDepth := 30) +contextual only [State.tagOp_memOk, stateOf_next, stateOf_ite, State.memOk_forAll, State.memOk_foldl, State.memOk_ite, ite_self, implies_true, h]; done)
    | ((try dsimp only); (repeat' split) <;> first | (simp (maxDischargeDepth := 30) +contextual only [State.tagOp_memOk, stateOf_next, stateOf_ite, State.memOk_forAll, State.memOk_foldl, State.memOk_ite, ite_self, implies_true, h]; done) | (simp_all (maxDischargeDepth := 30) only [State.tagOp_memOk, stateOf_next, stateOf_ite, State.memOk_forAll, State.memOk_foldl, State.memOk_ite, ite_self, implies_true, h]; done))

theorem execTpre_memOk (d : Reg) (tag : BitVec 14) (s : State) (h : s.memOk) :
    (stateOf s (execTpre d tag s)).memOk := by
  unfold execTpre
  first
    | (simp (maxDischargeDepth := 30) +contextual only [State.tagOp_memOk, stateOf_next, stateOf_ite, State.memOk_forAll, State.memOk_foldl, State.memOk_ite, ite_self, implies_true, h]; done)
    | ((try dsimp only); (repeat' split) <;> first | (simp (maxDischargeDepth := 30) +contextual only [State.tagOp_memOk, stateOf_next, stateOf_ite, State.memOk_forAll, State.memOk_foldl, State.memOk_ite, ite_self, implies_true, h]; done) | (simp_all (maxDischargeDepth := 30) only [State.tagOp_memOk, stateOf_next, stateOf_ite, State.memOk_forAll, State.memOk_foldl, State.memOk_ite, ite_self, implies_true, h]; done))

theorem execTres_memOk (tag : BitVec 14) (s : State) (h : s.memOk) :
    (stateOf s (execTres tag s)).memOk := by
  unfold execTres
  first
    | (simp (maxDischargeDepth := 30) +contextual only [State.tagOp_memOk, stateOf_next, stateOf_ite, State.memOk_forAll, State.memOk_foldl, State.memOk_ite, ite_self, implies_true, h]; done)
    | ((try dsimp only); (repeat' split) <;> first | (simp (maxDischargeDepth := 30) +contextual only [State.tagOp_memOk, stateOf_next, stateOf_ite, State.memOk_forAll, State.memOk_foldl, State.memOk_ite, ite_self, implies_true, h]; done) | (simp_all (maxDischargeDepth := 30) only [State.tagOp_memOk, stateOf_next, stateOf_ite, State.memOk_forAll, State.memOk_foldl, State.memOk_ite, ite_self, implies_true, h]; done))

theorem execEdr_memOk (tag : BitVec 14) (s : State) (h : s.memOk) :
    (stateOf s (execEdr tag s)).memOk := by
  unfold execEdr
  first
    | (simp (maxDischargeDepth := 30) +contextual only [State.tagOp_memOk, stateOf_next, stateOf_ite, State.memOk_forAll, State.memOk_foldl, State.memOk_ite, ite_self, implies_true, h]; done)
    | ((try dsimp only); (repeat' split) <;> first | (simp (maxDischargeDepth := 30) +contextual only [State.tagOp_memOk, stateOf_next, stateOf_ite, State.memOk_forAll, State.memOk_foldl, State.memOk_ite, ite_self, implies_true, h]; done) | (simp_all (maxDischargeDepth := 30) only [State.tagOp_memOk, stateOf_next, stateOf_ite, State.memOk_forAll, State.memOk_foldl, State.memOk_ite, ite_self, implies_true, h]; done))

theorem execEdf_memOk (tag : BitVec 14) (s : State) (h : s.memOk) :
    (stateOf s (execEdf tag s)).memOk := by
  unfold execEdf
  first
    | (simp (maxDischargeDepth := 30) +contextual only [State.tagOp_memOk, stateOf_next, stateOf_ite, State.memOk_forAll, State.memOk_foldl, State.memOk_ite, ite_self, implies_true, h]; done)
    | ((try dsimp only); (repeat' split) <;> first | (simp (maxDischargeDepth := 30) +contextual only [State.tagOp_memOk, stateOf_next, stateOf_ite, State.memOk_forAll, State.memOk_foldl, State.memOk_ite, ite_self, implies_true, h]; done) | (simp_all (maxDischargeDepth := 30) only [State.tagOp_memOk, stateOf_next, stateOf_ite, State.memOk_forAll, State.memOk_foldl, State.memOk_ite, ite_self, implies_true, h]; done))

theorem execEdlf_memOk (tag : BitVec 14) (s : State) (h : s.memOk) :
    (stateOf s (execEdlf tag s)).memOk := by
  unfold execEdlf
  first
    | (simp (maxDischargeDepth := 30) +contextual only [State.tagOp_memOk, stateOf_next, stateOf_ite, State.memOk_forAll, State.memOk_foldl, State.memOk_ite, ite_self, implies_true, h]; done)
    | ((try dsimp only); (repeat' split) <;> first | (simp (maxDischargeDepth := 30) +contextual only [State.tagOp_memOk, stateOf_next, stateOf_ite, State.memOk_forAll, State.memOk_foldl, State.memOk_ite, ite_self, implies_true, h]; done) | (simp_all (maxDischargeDepth := 30) only [State.tagOp_memOk, stateOf_next, stateOf_ite, State.memOk_forAll, State.memOk_foldl, State.memOk_ite, ite_self, implies_true, h]; done))

theorem State.counterOp_memOk (s : State) (d : Reg) (tag : BitVec 14) (f : Bool → Counter → Counter) (b : Option (Counter → Bool)) (h : s.memOk) :
    (State.counterOp s d tag f b).memOk := by
  unfold State.counterOp
  first
    | (simp (maxDischargeDepth := 30) +contextual only [State.tagOp_memOk, State.memOk_forAll, State.memOk_foldl, State.memOk_ite, ite_self, implies_true, h]; done)
    | ((try dsimp only); (repeat' split) <;> first | (simp (maxDischargeDepth := 30) +contextual only [State.tagOp_memOk, State.memOk_forAll, State.memOk_foldl, State.memOk_ite, ite_self, implies_true, h]; done) | (simp_all (maxDischargeDepth := 30) only [State.tagOp_memOk, State.memOk_forAll, State.memOk_foldl, State.memOk_ite, ite_self, implies_true, h]; done))

theorem execCcu_memOk (d : Reg) (tag : BitVec 14) (s : State) (h : s.memOk) :
    (stateOf s (execCcu d tag s)).memOk := by
  unfold execCcu
  first
    | (simp (maxDischargeDepth := 30) +contextual only [State.counterOp_memOk, stateOf_next, stateOf_ite, State.memOk_forAll, State.memOk_foldl, State.memOk_ite, ite_self, implies_true, h]; done)
    | ((try dsimp only); (repeat' split) <;> first | (simp (maxDischargeDepth := 30) +contextual only [State.counterOp_memOk, stateOf_next, stateOf_ite, State.memOk_forAll, State.memOk_foldl, State.memOk_ite, ite_self, implies_true, h]; done) | (simp_all (maxDischargeDepth := 30) only [State.counterOp_memOk, stateOf_next, stateOf_ite, State.memOk_forAll, State.memOk_foldl, State.memOk_ite, ite_self, implies_true, h]; done))

theorem execCcd_memOk (d : Reg) (tag : BitVec 14) (s : State) (h : s.memOk) :
    (stateOf s (execCcd d tag s)).memOk := by
  unfold execCcd
  first
    | (simp (maxDischargeDepth := 30) +contextual only [State.counterOp_memOk, stateOf_next, stateOf_ite, State.memOk_forAll, State.memOk_foldl, State.memOk_ite, ite_self, implies_true, h]; done)
    | ((try dsimp only); (repeat' split) <;> first | (simp (maxDischargeDepth := 30) +contextual only [State.counterOp_memOk, stateOf_next, stateOf_ite, State.memOk_forAll, State.memOk_foldl, State.memOk_ite, ite_self, implies_true, h]; done) | (simp_all (maxDischargeDepth := 30) only [State.counterOp_memOk, stateOf_next, stateOf_ite, State.memOk_forAll, State.memOk_foldl, State.memOk_ite, ite_self, implies_true, h]; done))

theorem execCload_memOk (d : Reg) (tag : BitVec 14) (s : State) (h : s.memOk) :
    (stateOf s (execCload d tag s)).memOk := by
  unfold execCload
  first
    | (simp (maxDischargeDepth := 30) +contextual only [State.counterOp_memOk, stateOf_next, stateOf_ite, State.memOk_forAll, State.memOk_foldl, State.memOk_ite, ite_self, implies_true, h]; done)
    | ((try dsimp only); (repeat' split) <;> first | (simp (maxDischargeDepth := 30) +contextual only [State.counterOp_memOk, stateOf_next, stateOf_ite, State.memOk_forAll, State.memOk_foldl, State.memOk_ite, ite_self, implies_true, h]; done) | (simp_all (maxDischargeDepth := 30) only [State.counterOp_memOk, stateOf_next, stateOf_ite, State.memOk_forAll, State.memOk_foldl, State.memOk_ite, ite_self, implies_true, h]; done))

theorem execCres_memOk (d : Reg) (tag : BitVec 14) (s : State) (h : s.memOk) :
    (stateOf s (execCres d tag s)).memOk := by
  unfold execCres
  first
    | (simp (maxDischargeDepth := 30) +contextual only [State.counterOp_memOk, stateOf_next, stateOf_ite, State.memOk_forAll, State.memOk_foldl, State.memOk_ite, ite_self, implies_true, h]; done)
    | ((try dsimp only); (repeat' split) <;> first | (simp (maxDischargeDepth := 30) +contextual only [State.counterOp_memOk, stateOf_next, stateOf_ite, State.memOk_forAll, State.memOk_foldl, State.memOk_ite, ite_self, implies_true, h]; done) | (simp_all (maxDischargeDepth := 30) only [State.counterOp_memOk, stateOf_next, stateOf_ite, State.memOk_forAll, State.memOk_foldl, State.memOk_ite, ite_self, implies_true, h]; done))

theorem execCpre_memOk (d : Reg) (tag : BitVec 14) (s : State) (h : s.memOk) :
    (stateOf s (execCpre d tag s)).memOk := by
  unfold execCpre
  first
    | (simp (maxDischargeDepth := 30) +contextual only [State.tagOp_memOk, stateOf_next, stateOf_ite, State.memOk_forAll, State.memOk_foldl, State.memOk_ite, ite_self, implies_true, h]; done)
    | ((try dsimp only); (repeat' split) <;> first | (simp (maxDischargeDepth := 30) +contextual only [State.tagOp_memOk, stateOf_next, stateOf_ite, State.memOk_forAll, State.memOk_foldl, State.memOk_ite, ite_self, implies_true, h]; done) | (simp_all (maxDischargeDepth := 30) only [State.tagOp_memOk, stateOf_next, stateOf_ite, State.memOk_forAll, State.memOk_foldl, State.memOk_ite, ite_self, implies_true, h]; done))

theorem execLev_memOk (d : Reg) (tag : BitVec 14) (s : State) (h : s.memOk) :
    (stateOf s (execLev d tag s)).memOk := by
  unfold execLev
  first
    | (simp (maxDischargeDepth := 30) +contextual only [State.tagOp_memOk, stateOf_next, stateOf_ite, State.memOk_forAll, State.memOk_foldl, State.memOk_ite, ite_self, implies_true, h]; done)
    | ((try dsimp only); (repeat' split) <;> first | (simp (maxDischargeDepth := 30) +contextual only [State.tagOp_memOk, stateOf_next, stateOf_ite, State.memOk_forAll, State.memOk_foldl, State.memOk_ite, ite_self, implies_true, h]; done) | (simp_all (maxDischargeDepth := 30) only [State.tagOp_memOk, stateOf_next, stateOf_ite, State.memOk_forAll, State.memOk_foldl, State.memOk_ite, ite_self, implies_true, h]; done))

theorem execRtgt_memOk (d : Reg) (tag : BitVec 14) (s : State) (h : s.memOk) :
    (stateOf s (execRtgt d tag s)).memOk := by
  unfold execRtgt
  first
    | (simp (maxDischargeDepth := 30) +contextual only [State.tagOp_memOk, stateOf_next, stateOf_ite, State.memOk_forAll, State.memOk_foldl, State.memOk_ite, ite_self, implies_true, h]; done)
    | ((try dsimp only); (repeat' split) <;> first | (simp (maxDischargeDepth := 30) +contextual only [State.tagOp_memOk, stateOf_next, stateOf_ite, State.memOk_forAll, State.memOk_foldl, State.memOk_ite, ite_self, implies_true, h]; done) | (simp_all (maxDischargeDepth := 30) only [State.tagOp_memOk, stateOf_next, stateOf_ite, State.memOk_forAll, State.memOk_foldl, State.memOk_ite, ite_self, implies_true, h]; done))

theorem execRrate_memOk (d : Reg) (tag : BitVec 14) (s : State) (h : s.memOk) :
    (stateOf s (execRrate d tag s)).memOk := by
  unfold execRrate
  first
    | (simp (maxDischargeDepth := 30) +contextual only [State.tagOp_memOk, stateOf_next, stateOf_ite, State.memOk_forAll, State.memOk_foldl, State.memOk_ite, ite_self, implies_true, h]; done)
    | ((try dsimp only); (repeat' split) <;> first | (simp (maxDischargeDepth := 30) +contextual only [State.tagOp_memOk, stateOf_next, stateOf_ite, State.memOk_forAll, State.memOk_foldl, State.memOk_ite, ite_self, implies_true, h]; done) | (simp_all (maxDischargeDepth := 30) only [State.tagOp_memOk, stateOf_next, stateOf_ite, State.memOk_forAll, State.memOk_foldl, State.memOk_ite, ite_self, implies_true, h]; done))

theorem execRrun_memOk (d : Reg) (tag : BitVec 14) (s : State) (h : s.memOk) :
    (stateOf s (execRrun d tag s)).memOk := by
  unfold execRrun
  first
    | (simp (maxDischargeDepth := 30) +contextual only [State.tagOp_memOk, stateOf_next, stateOf_ite, State.memOk_forAll, State.memOk_foldl, State.memOk_ite, ite_self, implies_true, h]; done)
    | ((try dsimp only); (repeat' split) <;> first | (simp (maxDischargeDepth := 30) +contextual only [State.tagOp_memOk, stateOf_next, stateOf_ite, State.memOk_forAll, State.memOk_foldl, State.memOk_ite, ite_self, implies_true, h]; done) | (simp_all (maxDischargeDepth := 30) only [State.tagOp_memOk, stateOf_next, stateOf_ite, State.memOk_forAll, State.memOk_foldl, State.memOk_ite, ite_self, implies_true, h]; done))

theorem execRampRset_memOk (d : Reg) (tag : BitVec 14) (s : State) (h : s.memOk) :
    (stateOf s (execRampRset d tag s)).memOk := by
  unfold execRampRset
  first
    | (simp (maxDischargeDepth := 30) +contextual only [State.tagOp_memOk, stateOf_next, stateOf_ite, State.memOk_forAll, State.memOk_foldl, State.memOk_ite, ite_self, implies_true, h]; done)
    | ((try dsimp only); (repeat' split) <;> first | (simp (maxDischargeDepth := 30) +contextual only [State.tagOp_memOk, stateOf_next, stateOf_ite, State.memOk_forAll, State.memOk_foldl, State.memOk_ite, ite_self, implies_true, h]; done) | (simp_all (maxDischargeDepth := 30) only [State.tagOp_memOk, stateOf_next, stateOf_ite, State.memOk_forAll, State.memOk_foldl, State.memOk_ite, ite_self, implies_true, h]; done))

theorem execTadr_memOk (d : Reg) (tag : BitVec 14) (s : State) (h : s.memOk) :
    (stateOf s (execTadr d tag s)).memOk := by
  unfold execTadr
  first
    | (simp (maxDischargeDepth := 30) +contextual only [State.bankOp_memOk, State.illegal_memOk, stateOf_next, stateOf_ite, State.memOk_forAll, State.memOk_foldl, State.memOk_ite, ite_self, implies_true, h]; done)
    | ((try dsimp only); (repeat' split) <;> first | (simp (maxDischargeDepth := 30) +contextual only [State.bankOp_memOk, State.illegal_memOk, stateOf_next, stateOf_ite, State.memOk_forAll, State.memOk_foldl, State.memOk_ite, ite_self, implies_true, h]; done) | (simp_all (maxDischargeDepth := 30) only [State.bankOp_memOk, State.illegal_memOk, stateOf_next, stateOf_ite, State.memOk_forAll, State.memOk_foldl, State.memOk_ite, ite_self, implies_true, h]; done))

theorem State.runFree_memOk (s : State) (h : s.memOk) :
    (State.runFree s).memOk :=
  (State.memOk_mask (State.runFree_mask _ _ rfl)).2 h

theorem State.holdSafe_memOk (s : State) (h : s.memOk) :
    (State.holdSafe s).memOk :=
  (State.memOk_mask (State.holdSafe_mask _ _ rfl)).2 h

theorem State.switchData_memOk (s : State) (old : List TagDecl) (keep : Bool) (h : s.memOk) : (State.switchData s old keep).memOk := by
  unfold State.switchData
  dsimp only
  refine State.modEng_memOk _ _ (State.memOk_forAll _ _ _ (fun _ _ h => State.setQuad_memOk _ _ _ h) ?_)
  split
  · exact h
  · exact State.setBytes_memOk _ _ (Mem.clear_wf _ _ h)

theorem State.dropForces_memOk (s : State) (h : s.memOk) :
    (State.dropForces s).memOk :=
  (State.memOk_mask (State.dropForces_mask _ _ rfl rfl rfl)).2 h

theorem State.outputLines_memOk (s : State) (p : PortalIx) (h : s.memOk) :
    (State.outputLines s p).memOk :=
  (State.memOk_mask (State.outputLines_mask _ _ _ rfl)).2 h

theorem State.dropRequests_memOk (s : State) (h : s.memOk) :
    (State.dropRequests s).memOk :=
  (State.memOk_mask (State.dropRequests_mask _ _ rfl rfl rfl)).2 h

theorem State.reconfigure_memOk (s o : State) (h : s.memOk) :
    (State.reconfigure s o).memOk :=
  (State.memOk_mask (State.reconfigure_mask _ _ _ rfl rfl rfl rfl rfl rfl rfl rfl rfl rfl rfl rfl rfl)).2 h

theorem State.hingeReject_memOk (s : State) (h : s.memOk) :
    (State.hingeReject s).memOk :=
  (State.memOk_mask (State.hingeReject_mask _ _ rfl)).2 h

theorem State.switch_memOk (s : State) (echo : Bool) (h : s.memOk) :
    (State.switch s echo).memOk := by
  unfold State.switch
  first
    | (simp (maxDischargeDepth := 30) +contextual only [State.modEng_memOk, State.pass_memOk, State.modMode_memOk, State.discardStaged_memOk, State.coldLoad_memOk, State.enterRun_memOk, State.modLnd_memOk, State.paramLoad_memOk, State.loadParam_memOk, State.trial_memOk, State.holdSafe_memOk, State.switchData_memOk, State.dropForces_memOk, State.reconfigure_memOk, State.hingeReject_memOk, State.memOk_forAll, State.memOk_foldl, State.memOk_ite, ite_self, implies_true, h]; done)
    | ((try dsimp only); (repeat' split) <;> first | (simp (maxDischargeDepth := 30) +contextual only [State.modEng_memOk, State.pass_memOk, State.modMode_memOk, State.discardStaged_memOk, State.coldLoad_memOk, State.enterRun_memOk, State.modLnd_memOk, State.paramLoad_memOk, State.loadParam_memOk, State.trial_memOk, State.holdSafe_memOk, State.switchData_memOk, State.dropForces_memOk, State.reconfigure_memOk, State.hingeReject_memOk, State.memOk_forAll, State.memOk_foldl, State.memOk_ite, ite_self, implies_true, h]; done) | (simp_all (maxDischargeDepth := 30) only [State.modEng_memOk, State.pass_memOk, State.modMode_memOk, State.discardStaged_memOk, State.coldLoad_memOk, State.enterRun_memOk, State.modLnd_memOk, State.paramLoad_memOk, State.loadParam_memOk, State.trial_memOk, State.holdSafe_memOk, State.switchData_memOk, State.dropForces_memOk, State.reconfigure_memOk, State.hingeReject_memOk, State.memOk_forAll, State.memOk_foldl, State.memOk_ite, ite_self, implies_true, h]; done))

theorem execImageSwitch_memOk (echo : Bool) (s : State) (h : s.memOk) :
    (stateOf s (execImageSwitch echo s)).memOk := by
  unfold execImageSwitch
  first
    | (simp (maxDischargeDepth := 30) +contextual only [State.switch_memOk, stateOf_next, stateOf_ite, State.memOk_forAll, State.memOk_foldl, State.memOk_ite, ite_self, implies_true, h]; done)
    | ((try dsimp only); (repeat' split) <;> first | (simp (maxDischargeDepth := 30) +contextual only [State.switch_memOk, stateOf_next, stateOf_ite, State.memOk_forAll, State.memOk_foldl, State.memOk_ite, ite_self, implies_true, h]; done) | (simp_all (maxDischargeDepth := 30) only [State.switch_memOk, stateOf_next, stateOf_ite, State.memOk_forAll, State.memOk_foldl, State.memOk_ite, ite_self, implies_true, h]; done))

theorem State.busRead_memOk (s : State) (ctx : Fin 5) (a : Word) (h : s.memOk) :
    (State.busRead s ctx a).memOk := by
  unfold State.busRead
  first
    | (simp (maxDischargeDepth := 30) +contextual only [State.violation_memOk, State.send_memOk, State.touch_memOk, State.drainFor_memOk, State.memOk_forAll, State.memOk_foldl, State.memOk_ite, ite_self, implies_true, h]; done)
    | ((try dsimp only); (repeat' split) <;> first | (simp (maxDischargeDepth := 30) +contextual only [State.violation_memOk, State.send_memOk, State.touch_memOk, State.drainFor_memOk, State.memOk_forAll, State.memOk_foldl, State.memOk_ite, ite_self, implies_true, h]; done) | (simp_all (maxDischargeDepth := 30) only [State.violation_memOk, State.send_memOk, State.touch_memOk, State.drainFor_memOk, State.memOk_forAll, State.memOk_foldl, State.memOk_ite, ite_self, implies_true, h]; done))

theorem execRegisterWrite_memOk (ctx : Fin 5) (a w : Word) (s : State) (h : s.memOk) :
    (stateOf s (execRegisterWrite ctx a w s)).memOk := by
  unfold execRegisterWrite
  first
    | (simp (maxDischargeDepth := 30) +contextual only [State.violation_memOk, State.poke_memOk, State.drainAll_memOk, stateOf_next, stateOf_ite, State.memOk_forAll, State.memOk_foldl, State.memOk_ite, ite_self, implies_true, h]; done)
    | ((try dsimp only); (repeat' split) <;> first | (simp (maxDischargeDepth := 30) +contextual only [State.violation_memOk, State.poke_memOk, State.drainAll_memOk, stateOf_next, stateOf_ite, State.memOk_forAll, State.memOk_foldl, State.memOk_ite, ite_self, implies_true, h]; done) | (simp_all (maxDischargeDepth := 30) only [State.violation_memOk, State.poke_memOk, State.drainAll_memOk, stateOf_next, stateOf_ite, State.memOk_forAll, State.memOk_foldl, State.memOk_ite, ite_self, implies_true, h]; done))

theorem execLoHalfRead_memOk (ctx : Fin 5) (a : Word) (s : State) (h : s.memOk) :
    (stateOf s (execLoHalfRead ctx a s)).memOk := by
  unfold execLoHalfRead
  first
    | (simp (maxDischargeDepth := 30) +contextual only [State.busRead_memOk, stateOf_next, stateOf_ite, State.memOk_forAll, State.memOk_foldl, State.memOk_ite, ite_self, implies_true, h]; done)
    | ((try dsimp only); (repeat' split) <;> first | (simp (maxDischargeDepth := 30) +contextual only [State.busRead_memOk, stateOf_next, stateOf_ite, State.memOk_forAll, State.memOk_foldl, State.memOk_ite, ite_self, implies_true, h]; done) | (simp_all (maxDischargeDepth := 30) only [State.busRead_memOk, stateOf_next, stateOf_ite, State.memOk_forAll, State.memOk_foldl, State.memOk_ite, ite_self, implies_true, h]; done))

theorem execRcFieldRead_memOk (ctx : Fin 5) (a : Word) (s : State) (h : s.memOk) :
    (stateOf s (execRcFieldRead ctx a s)).memOk := by
  unfold execRcFieldRead
  first
    | (simp (maxDischargeDepth := 30) +contextual only [State.busRead_memOk, stateOf_next, stateOf_ite, State.memOk_forAll, State.memOk_foldl, State.memOk_ite, ite_self, implies_true, h]; done)
    | ((try dsimp only); (repeat' split) <;> first | (simp (maxDischargeDepth := 30) +contextual only [State.busRead_memOk, stateOf_next, stateOf_ite, State.memOk_forAll, State.memOk_foldl, State.memOk_ite, ite_self, implies_true, h]; done) | (simp_all (maxDischargeDepth := 30) only [State.busRead_memOk, stateOf_next, stateOf_ite, State.memOk_forAll, State.memOk_foldl, State.memOk_ite, ite_self, implies_true, h]; done))

theorem execEdgeQueueRead_memOk (ctx : Fin 5) (s : State) (h : s.memOk) :
    (stateOf s (execEdgeQueueRead ctx s)).memOk := by
  unfold execEdgeQueueRead
  first
    | (simp (maxDischargeDepth := 30) +contextual only [State.busRead_memOk, stateOf_next, stateOf_ite, State.memOk_forAll, State.memOk_foldl, State.memOk_ite, ite_self, implies_true, h]; done)
    | ((try dsimp only); (repeat' split) <;> first | (simp (maxDischargeDepth := 30) +contextual only [State.busRead_memOk, stateOf_next, stateOf_ite, State.memOk_forAll, State.memOk_foldl, State.memOk_ite, ite_self, implies_true, h]; done) | (simp_all (maxDischargeDepth := 30) only [State.busRead_memOk, stateOf_next, stateOf_ite, State.memOk_forAll, State.memOk_foldl, State.memOk_ite, ite_self, implies_true, h]; done))

theorem execSleepRequest_memOk (s : State) (h : s.memOk) :
    (stateOf s (execSleepRequest s)).memOk := by
  unfold execSleepRequest
  first
    | (simp (maxDischargeDepth := 30) +contextual only [State.sleepRequest_memOk, State.drainAll_memOk, stateOf_next, stateOf_ite, State.memOk_forAll, State.memOk_foldl, State.memOk_ite, ite_self, implies_true, h]; done)
    | ((try dsimp only); (repeat' split) <;> first | (simp (maxDischargeDepth := 30) +contextual only [State.sleepRequest_memOk, State.drainAll_memOk, stateOf_next, stateOf_ite, State.memOk_forAll, State.memOk_foldl, State.memOk_ite, ite_self, implies_true, h]; done) | (simp_all (maxDischargeDepth := 30) only [State.sleepRequest_memOk, State.drainAll_memOk, stateOf_next, stateOf_ite, State.memOk_forAll, State.memOk_foldl, State.memOk_ite, ite_self, implies_true, h]; done))

theorem State.runInsn_memOk (s : State) (i : Instr) (h : s.memOk) : (State.runInsn s i).memOk := by
  cases i
  case add => exact execAdd_memOk _ _ _ _ h
  case adc => exact execAdc_memOk _ _ _ _ h
  case sub => exact execSub_memOk _ _ _ _ h
  case sbc => exact execSbc_memOk _ _ _ _ h
  case cmp => exact execCmp_memOk _ _ _ h
  case neg => exact execNeg_memOk _ _ _ h
  case and_ => exact execAnd_memOk _ _ _ _ h
  case or_ => exact execOr_memOk _ _ _ _ h
  case xor_ => exact execXor_memOk _ _ _ _ h
  case andn => exact execAndn_memOk _ _ _ _ h
  case tst => exact execTst_memOk _ _ _ h
  case not_ => exact execNot_memOk _ _ _ h
  case mov => exact execMov_memOk _ _ _ h
  case sel => exact execSel_memOk _ _ _ _ h
  case shl => exact execShl_memOk _ _ _ _ h
  case shr => exact execShr_memOk _ _ _ _ h
  case sar => exact execSar_memOk _ _ _ _ h
  case ror => exact execRor_memOk _ _ _ _ h
  case mins => exact execMins_memOk _ _ _ _ h
  case maxs => exact execMaxs_memOk _ _ _ _ h
  case minu => exact execMinu_memOk _ _ _ _ h
  case maxu => exact execMaxu_memOk _ _ _ _ h
  case adds => exact execAdds_memOk _ _ _ _ h
  case subs => exact execSubs_memOk _ _ _ _ h
  case mul => exact execMul_memOk _ _ _ _ h
  case mulh => exact execMulh_memOk _ _ _ _ h
  case mulhu => exact execMulhu_memOk _ _ _ _ h
  case div => exact execDiv_memOk _ _ _ _ h
  case divu => exact execDivu_memOk _ _ _ _ h
  case rem => exact execRem_memOk _ _ _ _ h
  case remu => exact execRemu_memOk _ _ _ _ h
  case addi => exact execAddi_memOk _ _ _ _ h
  case cmpi => exact execCmpi_memOk _ _ _ h
  case andi => exact execAndi_memOk _ _ _ _ h
  case ori => exact execOri_memOk _ _ _ _ h
  case xori => exact execXori_memOk _ _ _ _ h
  case lui => exact execLui_memOk _ _ _ h
  case shi => exact execShi_memOk _ _ _ _ h
  case tsti => exact execTsti_memOk _ _ _ h
  case ldw => exact execLdw_memOk _ _ _ _ _ h
  case ldh => exact execLdh_memOk _ _ _ _ _ h
  case ldhu => exact execLdhu_memOk _ _ _ _ _ h
  case ldb => exact execLdb_memOk _ _ _ _ _ h
  case ldbu => exact execLdbu_memOk _ _ _ _ _ h
  case stw => exact execStw_memOk _ _ _ _ h
  case sth => exact execSth_memOk _ _ _ _ h
  case stb => exact execStb_memOk _ _ _ _ h
  case cld => exact execCld_memOk _ _ _ _ _ h
  case cldn => exact execCldn_memOk _ _ _ _ _ h
  case cand => exact execCand_memOk _ _ _ _ _ h
  case candn => exact execCandn_memOk _ _ _ _ _ h
  case cor => exact execCor_memOk _ _ _ _ _ h
  case corn => exact execCorn_memOk _ _ _ _ _ h
  case cxor => exact execCxor_memOk _ _ _ _ _ h
  case cst => exact execCst_memOk _ _ _ _ _ h
  case cstn => exact execCstn_memOk _ _ _ _ _ h
  case cset => exact execCset_memOk _ _ _ _ _ h
  case crst => exact execCrst_memOk _ _ _ _ _ h
  case rld => exact execRld_memOk _ _ _ h
  case rldn => exact execRldn_memOk _ _ _ h
  case rand => exact execRand_memOk _ _ _ h
  case randn => exact execRandn_memOk _ _ _ h
  case rorContact => exact execRorContact_memOk _ _ _ h
  case rorn => exact execRorn_memOk _ _ _ h
  case rxor => exact execRxor_memOk _ _ _ h
  case rst => exact execRst_memOk _ _ _ h
  case rstn => exact execRstn_memOk _ _ _ h
  case rset => exact execRset_memOk _ _ _ h
  case rrst => exact execRrst_memOk _ _ _ h
  case bnot => exact execBnot_memOk _ h
  case bone => exact execBone_memOk _ h
  case bzero => exact execBzero_memOk _ h
  case bcc => exact execBcc_memOk _ _ h
  case bget => exact execBget_memOk _ _ h
  case bput => exact execBput_memOk _ _ h
  case br => exact execBr_memOk _ _ _ h
  case brl => exact execBrl_memOk _ _ _ h
  case jr => exact execJr_memOk _ _ h
  case jrl => exact execJrl_memOk _ _ _ h
  case nop => exact execNop_memOk _ h
  case eoc => exact execEoc_memOk _ h
  case retc => exact execRetc_memOk _ h
  case rdf => exact execRdf_memOk _ _ h
  case wrf => exact execWrf_memOk _ _ h
  case fence => exact execFence_memOk _ h
  case commit => exact execCommit_memOk _ _ _ _ h
  case bmove => exact execBmove_memOk _ _ _ h
  case trun => exact execTrun_memOk _ _ _ h
  case tpre => exact execTpre_memOk _ _ _ h
  case tres => exact execTres_memOk _ _ h
  case edr => exact execEdr_memOk _ _ h
  case edf => exact execEdf_memOk _ _ h
  case edlf => exact execEdlf_memOk _ _ h
  case ccu => exact execCcu_memOk _ _ _ h
  case ccd => exact execCcd_memOk _ _ _ h
  case cload => exact execCload_memOk _ _ _ h
  case cres => exact execCres_memOk _ _ _ h
  case cpre => exact execCpre_memOk _ _ _ h
  case lev => exact execLev_memOk _ _ _ h
  case rtgt => exact execRtgt_memOk _ _ _ h
  case rrate => exact execRrate_memOk _ _ _ h
  case rrun => exact execRrun_memOk _ _ _ h
  case rampRset => exact execRampRset_memOk _ _ _ h
  case tadr => exact execTadr_memOk _ _ _ h
  case mtgt => exact execMtgt_memOk _ _ _ _ _ h
  case mleaf => exact execMleaf_memOk _ _ _ _ _ h
  case mvlim => exact execMvlim_memOk _ _ _ _ h
  case mcmd => exact execMcmd_memOk _ _ _ _ h
  case pcmd => exact execPcmd_memOk _ _ _ _ h
  case mstat => exact execMstat_memOk _ _ _ h
  case mpos => exact execMpos_memOk _ _ _ h
  case bhit => exact execBhit_memOk _ _ _ h
  case brearm => exact execBrearm_memOk _ _ _ _ h
  case lsw => exact execLsw_memOk _ _ _ _ _ h
  case lswb => exact execLswb_memOk _ _ _ _ h
  case trec => exact execTrec_memOk _ _ _ _ h
  case tword => exact execTword_memOk _ _ _ _ h
  case mbsend => exact execMbsend_memOk _ _ _ _ h
  case mbrecv => exact execMbrecv_memOk _ _ _ _ h
  case mbstat => exact execMbstat_memOk _ _ _ h
  all_goals exact h

theorem State.stepSpent_memOk (s : State) (h : s.memOk) :
    (State.stepSpent s).memOk := by
  unfold State.stepSpent
  first
    | (simp (maxDischargeDepth := 30) +contextual only [State.enterStop_memOk, State.drainAll_memOk, State.memOk_forAll, State.memOk_foldl, State.memOk_ite, ite_self, implies_true, h]; done)
    | ((try dsimp only); (repeat' split) <;> first | (simp (maxDischargeDepth := 30) +contextual only [State.enterStop_memOk, State.drainAll_memOk, State.memOk_forAll, State.memOk_foldl, State.memOk_ite, ite_self, implies_true, h]; done) | (simp_all (maxDischargeDepth := 30) only [State.enterStop_memOk, State.drainAll_memOk, State.memOk_forAll, State.memOk_foldl, State.memOk_ite, ite_self, implies_true, h]; done))

theorem State.stepOnce_memOk (s : State) (h : s.memOk) :
    (State.stepOnce s).memOk := by
  unfold State.stepOnce
  first
    | (simp (maxDischargeDepth := 30) +contextual only [State.enterStop_memOk, State.drainAll_memOk, State.illegal_memOk, State.runInsn_memOk, State.stepSpent_memOk, State.memOk_forAll, State.memOk_foldl, State.memOk_ite, ite_self, implies_true, h]; done)
    | ((try dsimp only); (repeat' split) <;> first | (simp (maxDischargeDepth := 30) +contextual only [State.enterStop_memOk, State.drainAll_memOk, State.illegal_memOk, State.runInsn_memOk, State.stepSpent_memOk, State.memOk_forAll, State.memOk_foldl, State.memOk_ite, ite_self, implies_true, h]; done) | (simp_all (maxDischargeDepth := 30) only [State.enterStop_memOk, State.drainAll_memOk, State.illegal_memOk, State.runInsn_memOk, State.stepSpent_memOk, State.memOk_forAll, State.memOk_foldl, State.memOk_ite, ite_self, implies_true, h]; done))

theorem State.steps_memOk (s : State) (x0 : Nat) (h : s.memOk) :
    (State.steps s x0).memOk := by
  induction x0 generalizing s with
  | zero => unfold State.steps; exact h
  | succ n ih =>
    unfold State.steps
    (try dsimp only); (repeat' split) <;> simp (maxDischargeDepth := 30) +contextual only [State.stepOnce_memOk, State.memOk_forAll, State.memOk_foldl, State.memOk_ite, ite_self, implies_true, h, ih]

theorem State.stepHold_memOk (s : State) (n : Nat) (h : s.memOk) :
    (State.stepHold s n).memOk := by
  unfold State.stepHold
  first
    | (simp (maxDischargeDepth := 30) +contextual only [State.modEng_memOk, State.steps_memOk, State.memOk_forAll, State.memOk_foldl, State.memOk_ite, ite_self, implies_true, h]; done)
    | ((try dsimp only); (repeat' split) <;> first | (simp (maxDischargeDepth := 30) +contextual only [State.modEng_memOk, State.steps_memOk, State.memOk_forAll, State.memOk_foldl, State.memOk_ite, ite_self, implies_true, h]; done) | (simp_all (maxDischargeDepth := 30) only [State.modEng_memOk, State.steps_memOk, State.memOk_forAll, State.memOk_foldl, State.memOk_ite, ite_self, implies_true, h]; done))

theorem State.answerFirst_memOk (s : State) (i : SesIx) (h : s.memOk) :
    (State.answerFirst s i).memOk :=
  (State.memOk_mask (State.answerFirst_mask _ _ _ rfl rfl rfl rfl rfl rfl rfl)).2 h

theorem State.serve_memOk (s : State) (i : SesIx) (op : Nat) (tag : Word) (need : Option Right) (onTn inRecovery : Bool) (f : State → State × Answer) (g0 : ∀ s, s.memOk → (f s).1.memOk) (h : s.memOk) :
    (State.serve s i op tag need onTn inRecovery f).memOk := by
  unfold State.serve
  first
    | (simp (maxDischargeDepth := 30) +contextual only [State.modTru_memOk, State.respond_memOk, State.answerFirst_memOk, State.memOk_forAll, State.memOk_foldl, State.memOk_ite, ite_self, implies_true, h, g0]; done)
    | ((try dsimp only); (repeat' split) <;> first | (simp (maxDischargeDepth := 30) +contextual only [State.modTru_memOk, State.respond_memOk, State.answerFirst_memOk, State.memOk_forAll, State.memOk_foldl, State.memOk_ite, ite_self, implies_true, h, g0]; done) | (simp_all (maxDischargeDepth := 30) only [State.modTru_memOk, State.respond_memOk, State.answerFirst_memOk, State.memOk_forAll, State.memOk_foldl, State.memOk_ite, ite_self, implies_true, h, g0]; done))

theorem execSessionLoss_memOk (i : Fin 3) (s : State) (h : s.memOk) :
    (stateOf s (execSessionLoss i s)).memOk := by
  unfold execSessionLoss
  first
    | (simp (maxDischargeDepth := 30) +contextual only [State.upTo_memOk, State.enterStop_memOk, State.endSession_memOk, State.drainAll_memOk, stateOf_next, stateOf_ite, State.memOk_forAll, State.memOk_foldl, State.memOk_ite, ite_self, implies_true, h]; done)
    | ((try dsimp only); (repeat' split) <;> first | (simp (maxDischargeDepth := 30) +contextual only [State.upTo_memOk, State.enterStop_memOk, State.endSession_memOk, State.drainAll_memOk, stateOf_next, stateOf_ite, State.memOk_forAll, State.memOk_foldl, State.memOk_ite, ite_self, implies_true, h]; done) | (simp_all (maxDischargeDepth := 30) only [State.upTo_memOk, State.enterStop_memOk, State.endSession_memOk, State.drainAll_memOk, stateOf_next, stateOf_ite, State.memOk_forAll, State.memOk_foldl, State.memOk_ite, ite_self, implies_true, h]; done))

theorem State.sessionPoke_memOk (s : State) (a : Nat) (w : Word) (h : s.memOk) :
    (State.sessionPoke s a w).memOk := by
  unfold State.sessionPoke
  first
    | (simp (maxDischargeDepth := 30) +contextual only [State.poke_memOk, State.memOk_forAll, State.memOk_foldl, State.memOk_ite, ite_self, implies_true, h]; done)
    | ((try dsimp only); (repeat' split) <;> first | (simp (maxDischargeDepth := 30) +contextual only [State.poke_memOk, State.memOk_forAll, State.memOk_foldl, State.memOk_ite, ite_self, implies_true, h]; done) | (simp_all (maxDischargeDepth := 30) only [State.poke_memOk, State.memOk_forAll, State.memOk_foldl, State.memOk_ite, ite_self, implies_true, h]; done))

theorem State.setTime_memOk (s : State) (ws : List (Nat × Word)) (h : s.memOk) :
    (State.setTime s ws).memOk :=
  (State.memOk_mask (State.setTime_mask _ _ _ rfl rfl rfl)).2 h

theorem execWrite_memOk (i : Fin 3) (tag addr : Word) (ws : List Word) (s : State) (h : s.memOk) : (stateOf s (execWrite i tag addr ws s)).memOk := by
  unfold execWrite
  rw [stateOf_next]
  refine State.serve_memOk _ _ _ _ _ _ _ _ (fun s h => ?_) h
  dsimp only
  repeat' split
  all_goals first
    | exact h
    | exact State.setTime_memOk _ _ (State.memOk_foldl _ _ _ (fun _ _ h => State.sessionPoke_memOk _ _ _ h) h)

theorem State.serveMode_memOk (s : State) (i : SesIx) (tag : Word) (need : Right) (argOk : Bool) (ok : State → Bool) (f : State → State)
    (g0 : ∀ s, s.memOk → (f s).memOk) (h : s.memOk) : (State.serveMode s i tag need argOk ok f).memOk := by
  refine State.serve_memOk _ _ _ _ _ _ _ _ (fun s h => ?_) h
  dsimp only
  split
  · exact h
  · split
    · exact h
    · exact g0 s h

theorem execModeRun_memOk (i : Fin 3) (tag n : Word) (s : State) (h : s.memOk) :
    (stateOf s (execModeRun i tag n s)).memOk := by
  unfold execModeRun
  first
    | (simp (maxDischargeDepth := 30) +contextual only [State.modEng_memOk, State.enterRun_memOk, State.drainAll_memOk, State.serveMode_memOk, stateOf_next, stateOf_ite, State.memOk_mk, State.memOk_fold, Mem.clear_wf, State.memOk_forAll, State.memOk_foldl, State.memOk_ite, ite_self, implies_true, h]; done)
    | ((try dsimp only); (repeat' split) <;> first | (simp (maxDischargeDepth := 30) +contextual only [State.modEng_memOk, State.enterRun_memOk, State.drainAll_memOk, State.serveMode_memOk, stateOf_next, stateOf_ite, State.memOk_mk, State.memOk_fold, Mem.clear_wf, State.memOk_forAll, State.memOk_foldl, State.memOk_ite, ite_self, implies_true, h]; done) | (simp_all (maxDischargeDepth := 30) only [State.modEng_memOk, State.enterRun_memOk, State.drainAll_memOk, State.serveMode_memOk, stateOf_next, stateOf_ite, State.memOk_mk, State.memOk_fold, Mem.clear_wf, State.memOk_forAll, State.memOk_foldl, State.memOk_ite, ite_self, implies_true, h]; done))

theorem execModeStop_memOk (i : Fin 3) (tag n : Word) (s : State) (h : s.memOk) :
    (stateOf s (execModeStop i tag n s)).memOk := by
  unfold execModeStop
  first
    | (simp (maxDischargeDepth := 30) +contextual only [State.enterStop_memOk, State.drainAll_memOk, State.serveMode_memOk, stateOf_next, stateOf_ite, State.memOk_forAll, State.memOk_foldl, State.memOk_ite, ite_self, implies_true, h]; done)
    | ((try dsimp only); (repeat' split) <;> first | (simp (maxDischargeDepth := 30) +contextual only [State.enterStop_memOk, State.drainAll_memOk, State.serveMode_memOk, stateOf_next, stateOf_ite, State.memOk_forAll, State.memOk_foldl, State.memOk_ite, ite_self, implies_true, h]; done) | (simp_all (maxDischargeDepth := 30) only [State.enterStop_memOk, State.drainAll_memOk, State.serveMode_memOk, stateOf_next, stateOf_ite, State.memOk_forAll, State.memOk_foldl, State.memOk_ite, ite_self, implies_true, h]; done))

theorem execModeStep_memOk (i : Fin 3) (tag n : Word) (s : State) (h : s.memOk) :
    (stateOf s (execModeStep i tag n s)).memOk := by
  unfold execModeStep
  first
    | (simp (maxDischargeDepth := 30) +contextual only [State.stepHold_memOk, State.serveMode_memOk, stateOf_next, stateOf_ite, State.memOk_forAll, State.memOk_foldl, State.memOk_ite, ite_self, implies_true, h]; done)
    | ((try dsimp only); (repeat' split) <;> first | (simp (maxDischargeDepth := 30) +contextual only [State.stepHold_memOk, State.serveMode_memOk, stateOf_next, stateOf_ite, State.memOk_forAll, State.memOk_foldl, State.memOk_ite, ite_self, implies_true, h]; done) | (simp_all (maxDischargeDepth := 30) only [State.stepHold_memOk, State.serveMode_memOk, stateOf_next, stateOf_ite, State.memOk_forAll, State.memOk_foldl, State.memOk_ite, ite_self, implies_true, h]; done))

theorem State.dueSwitch_memOk (s : State) (h : s.memOk) :
    (State.dueSwitch s).memOk := by
  unfold State.dueSwitch
  first
    | (simp (maxDischargeDepth := 30) +contextual only [State.switch_memOk, State.memOk_forAll, State.memOk_foldl, State.memOk_ite, ite_self, implies_true, h]; done)
    | ((try dsimp only); (repeat' split) <;> first | (simp (maxDischargeDepth := 30) +contextual only [State.switch_memOk, State.memOk_forAll, State.memOk_foldl, State.memOk_ite, ite_self, implies_true, h]; done) | (simp_all (maxDischargeDepth := 30) only [State.switch_memOk, State.memOk_forAll, State.memOk_foldl, State.memOk_ite, ite_self, implies_true, h]; done))

theorem State.raiseRbimg_memOk (s : State) (h : s.memOk) :
    (State.raiseRbimg s).1.memOk :=
  (State.memOk_mask (State.raiseRbimg_mask _ _ rfl)).2 h

theorem execAdvance_memOk (i : Fin 3) (tag counter : Word) (s : State) (h : s.memOk) :
    (stateOf s (execAdvance i tag counter s)).memOk := by
  unfold execAdvance
  first
    | (simp (maxDischargeDepth := 30) +contextual only [State.modTru_memOk, State.serve_memOk, State.dueSwitch_memOk, State.raiseRbimg_memOk, stateOf_next, stateOf_ite, State.memOk_forAll, State.memOk_foldl, State.memOk_ite, ite_self, implies_true, h]; done)
    | ((try dsimp only); (repeat' split) <;> first | (simp (maxDischargeDepth := 30) +contextual only [State.modTru_memOk, State.serve_memOk, State.dueSwitch_memOk, State.raiseRbimg_memOk, stateOf_next, stateOf_ite, State.memOk_forAll, State.memOk_foldl, State.memOk_ite, ite_self, implies_true, h]; done) | (simp_all (maxDischargeDepth := 30) only [State.modTru_memOk, State.serve_memOk, State.dueSwitch_memOk, State.raiseRbimg_memOk, stateOf_next, stateOf_ite, State.memOk_forAll, State.memOk_foldl, State.memOk_ite, ite_self, implies_true, h]; done))

theorem State.restart_memOk (o : State) (src : StartSrc) (b : BootIn) (h : o.memOk) : (State.restart o src b).memOk := by
  unfold State.restart State.memOk
  dsimp only
  split
  · exact ⟨List.Pairwise.nil, fun c hc => absurd hc List.not_mem_nil⟩
  · exact h

theorem State.mramCheck_memOk (s : State) (b : BootIn) (h : s.memOk) :
    (State.mramCheck s b).memOk :=
  (State.memOk_mask (State.mramCheck_mask _ _ _ rfl rfl rfl rfl rfl rfl rfl rfl rfl rfl rfl rfl rfl rfl)).2 h

theorem State.loadEnvelope_memOk (s : State) (h : s.memOk) :
    (State.loadEnvelope s).memOk :=
  (State.memOk_mask (State.loadEnvelope_mask _ _ rfl)).2 h

theorem State.loadActive_memOk (s : State) (holdingOk : Bool) (h : s.memOk) :
    (State.loadActive s holdingOk).1.memOk :=
  (State.memOk_mask (State.loadActive_mask _ _ _ rfl rfl rfl)).2 h

theorem State.configure_memOk (s : State) (cfg : Option (List Byte × List Byte)) (hinge echo : Bool) (h : s.memOk) :
    (State.configure s cfg hinge echo).memOk :=
  (State.memOk_mask (State.configure_mask _ _ _ _ _ rfl rfl rfl rfl rfl rfl rfl rfl rfl rfl rfl rfl rfl)).2 h

theorem State.tallyStart_memOk (s : State) (bad : List Nat) (h : s.memOk) :
    (State.tallyStart s bad).memOk :=
  (State.memOk_mask (State.tallyStart_mask _ _ _ rfl)).2 h

theorem State.portalStart_memOk (s : State) (p : PortalIx) (h : s.memOk) :
    (State.portalStart s p).memOk :=
  (State.memOk_mask (State.portalStart_mask _ _ _ rfl rfl rfl)).2 h

theorem State.startCal_memOk (s : State) (a : AxisIx) (h : s.memOk) :
    (State.startCal s a).memOk :=
  (State.memOk_mask (State.startCal_mask _ _ _ rfl)).2 h

theorem State.bootUp_memOk (o : State) (src : StartSrc) (b : BootIn) (h : o.memOk) :
    (State.bootUp o src b).memOk := by
  unfold State.bootUp
  first
    | (simp (maxDischargeDepth := 30) +contextual only [State.modSys_memOk, State.modPwrReg_memOk, State.modFel_memOk, State.pass_memOk, State.lsEval_memOk, State.bridgeEval_memOk, State.redeliver_memOk, State.reportAll_memOk, State.zspEval_memOk, State.sdeEval_memOk, State.headWaitAll_memOk, State.mbusCharge_memOk, State.safetyStop_memOk, State.groupEval_memOk, State.outputLines_memOk, State.dropRequests_memOk, State.restart_memOk, State.mramCheck_memOk, State.loadEnvelope_memOk, State.loadActive_memOk, State.configure_memOk, State.tallyStart_memOk, State.portalStart_memOk, State.startCal_memOk, State.memOk_mk, State.memOk_fold, Mem.clear_wf, State.memOk_forAll, State.memOk_foldl, State.memOk_ite, ite_self, implies_true, h]; done)
    | ((try dsimp only); (repeat' split) <;> first | (simp (maxDischargeDepth := 30) +contextual only [State.modSys_memOk, State.modPwrReg_memOk, State.modFel_memOk, State.pass_memOk, State.lsEval_memOk, State.bridgeEval_memOk, State.redeliver_memOk, State.reportAll_memOk, State.zspEval_memOk, State.sdeEval_memOk, State.headWaitAll_memOk, State.mbusCharge_memOk, State.safetyStop_memOk, State.groupEval_memOk, State.outputLines_memOk, State.dropRequests_memOk, State.restart_memOk, State.mramCheck_memOk, State.loadEnvelope_memOk, State.loadActive_memOk, State.configure_memOk, State.tallyStart_memOk, State.portalStart_memOk, State.startCal_memOk, State.memOk_mk, State.memOk_fold, Mem.clear_wf, State.memOk_forAll, State.memOk_foldl, State.memOk_ite, ite_self, implies_true, h]; done) | (simp_all (maxDischargeDepth := 30) only [State.modSys_memOk, State.modPwrReg_memOk, State.modFel_memOk, State.pass_memOk, State.lsEval_memOk, State.bridgeEval_memOk, State.redeliver_memOk, State.reportAll_memOk, State.zspEval_memOk, State.sdeEval_memOk, State.headWaitAll_memOk, State.mbusCharge_memOk, State.safetyStop_memOk, State.groupEval_memOk, State.outputLines_memOk, State.dropRequests_memOk, State.restart_memOk, State.mramCheck_memOk, State.loadEnvelope_memOk, State.loadActive_memOk, State.configure_memOk, State.tallyStart_memOk, State.portalStart_memOk, State.startCal_memOk, State.memOk_mk, State.memOk_fold, Mem.clear_wf, State.memOk_forAll, State.memOk_foldl, State.memOk_ite, ite_self, implies_true, h]; done))

theorem State.powerFailNow_memOk (s : State) (len : BitVec 16) (h : s.memOk) :
    (State.powerFailNow s len).memOk := by
  unfold State.powerFailNow
  first
    | (simp (maxDischargeDepth := 30) +contextual only [State.modPwr_memOk, State.pass_memOk, State.powerFail_memOk, State.drainAll_memOk, State.memOk_forAll, State.memOk_foldl, State.memOk_ite, ite_self, implies_true, h]; done)
    | ((try dsimp only); (repeat' split) <;> first | (simp (maxDischargeDepth := 30) +contextual only [State.modPwr_memOk, State.pass_memOk, State.powerFail_memOk, State.drainAll_memOk, State.memOk_forAll, State.memOk_foldl, State.memOk_ite, ite_self, implies_true, h]; done) | (simp_all (maxDischargeDepth := 30) only [State.modPwr_memOk, State.pass_memOk, State.powerFail_memOk, State.drainAll_memOk, State.memOk_forAll, State.memOk_foldl, State.memOk_ite, ite_self, implies_true, h]; done))

theorem execCtlInterruption_memOk (v : BitVec 12) (len : BitVec 16) (s : State) (h : s.memOk) :
    (stateOf s (execCtlInterruption v len s)).memOk := by
  unfold execCtlInterruption
  first
    | (simp (maxDischargeDepth := 30) +contextual only [State.modPwr_memOk, State.modPwrReg_memOk, State.powerFailNow_memOk, stateOf_next, stateOf_ite, State.memOk_forAll, State.memOk_foldl, State.memOk_ite, ite_self, implies_true, h]; done)
    | ((try dsimp only); (repeat' split) <;> first | (simp (maxDischargeDepth := 30) +contextual only [State.modPwr_memOk, State.modPwrReg_memOk, State.powerFailNow_memOk, stateOf_next, stateOf_ite, State.memOk_forAll, State.memOk_foldl, State.memOk_ite, ite_self, implies_true, h]; done) | (simp_all (maxDischargeDepth := 30) only [State.modPwr_memOk, State.modPwrReg_memOk, State.powerFailNow_memOk, stateOf_next, stateOf_ite, State.memOk_forAll, State.memOk_foldl, State.memOk_ite, ite_self, implies_true, h]; done))

theorem execPowerFailStart_memOk (reserve : Bool) (len : BitVec 16) (s : State) (h : s.memOk) :
    (stateOf s (execPowerFailStart reserve len s)).memOk := by
  unfold execPowerFailStart
  first
    | (simp (maxDischargeDepth := 30) +contextual only [State.upTo_memOk, State.powerFailNow_memOk, stateOf_next, stateOf_ite, State.memOk_forAll, State.memOk_foldl, State.memOk_ite, ite_self, implies_true, h]; done)
    | ((try dsimp only); (repeat' split) <;> first | (simp (maxDischargeDepth := 30) +contextual only [State.upTo_memOk, State.powerFailNow_memOk, stateOf_next, stateOf_ite, State.memOk_forAll, State.memOk_foldl, State.memOk_ite, ite_self, implies_true, h]; done) | (simp_all (maxDischargeDepth := 30) only [State.upTo_memOk, State.powerFailNow_memOk, stateOf_next, stateOf_ite, State.memOk_forAll, State.memOk_foldl, State.memOk_ite, ite_self, implies_true, h]; done))

theorem State.failHalf_memOk (s : State) (b : Bool) (h : s.memOk) :
    (State.failHalf s b).memOk :=
  (State.memOk_mask (State.failHalf_mask _ _ _ rfl)).2 h

theorem execHalfFailure_memOk (hub : Bool) (len : BitVec 16) (s : State) (h : s.memOk) :
    (stateOf s (execHalfFailure hub len s)).memOk := by
  unfold execHalfFailure
  first
    | (simp (maxDischargeDepth := 30) +contextual only [State.powerFailNow_memOk, State.failHalf_memOk, stateOf_next, stateOf_ite, State.memOk_forAll, State.memOk_foldl, State.memOk_ite, ite_self, implies_true, h]; done)
    | ((try dsimp only); (repeat' split) <;> first | (simp (maxDischargeDepth := 30) +contextual only [State.powerFailNow_memOk, State.failHalf_memOk, stateOf_next, stateOf_ite, State.memOk_forAll, State.memOk_foldl, State.memOk_ite, ite_self, implies_true, h]; done) | (simp_all (maxDischargeDepth := 30) only [State.powerFailNow_memOk, State.failHalf_memOk, stateOf_next, stateOf_ite, State.memOk_forAll, State.memOk_foldl, State.memOk_ite, ite_self, implies_true, h]; done))

theorem execAutoSleep_memOk (lvl : BitVec 4) (s : State) (h : s.memOk) :
    (stateOf s (execAutoSleep lvl s)).memOk := by
  unfold execAutoSleep
  first
    | (simp (maxDischargeDepth := 30) +contextual only [State.upTo_memOk, State.modPwrReg_memOk, State.sleepRequest_memOk, State.drainAll_memOk, stateOf_next, stateOf_ite, State.memOk_forAll, State.memOk_foldl, State.memOk_ite, ite_self, implies_true, h]; done)
    | ((try dsimp only); (repeat' split) <;> first | (simp (maxDischargeDepth := 30) +contextual only [State.upTo_memOk, State.modPwrReg_memOk, State.sleepRequest_memOk, State.drainAll_memOk, stateOf_next, stateOf_ite, State.memOk_forAll, State.memOk_foldl, State.memOk_ite, ite_self, implies_true, h]; done) | (simp_all (maxDischargeDepth := 30) only [State.upTo_memOk, State.modPwrReg_memOk, State.sleepRequest_memOk, State.drainAll_memOk, stateOf_next, stateOf_ite, State.memOk_forAll, State.memOk_foldl, State.memOk_ite, ite_self, implies_true, h]; done))

theorem execSleepEntry_memOk (s : State) (h : s.memOk) :
    (stateOf s (execSleepEntry s)).memOk := by
  unfold execSleepEntry
  first
    | (simp (maxDischargeDepth := 30) +contextual only [State.sleepEnter_memOk, State.drainAll_memOk, stateOf_next, stateOf_ite, State.memOk_forAll, State.memOk_foldl, State.memOk_ite, ite_self, implies_true, h]; done)
    | ((try dsimp only); (repeat' split) <;> first | (simp (maxDischargeDepth := 30) +contextual only [State.sleepEnter_memOk, State.drainAll_memOk, stateOf_next, stateOf_ite, State.memOk_forAll, State.memOk_foldl, State.memOk_ite, ite_self, implies_true, h]; done) | (simp_all (maxDischargeDepth := 30) only [State.sleepEnter_memOk, State.drainAll_memOk, stateOf_next, stateOf_ite, State.memOk_forAll, State.memOk_foldl, State.memOk_ite, ite_self, implies_true, h]; done))

theorem execResetRelease_memOk (b : BootIn) (s : State) (h : s.memOk) :
    (stateOf s (execResetRelease b s)).memOk := by
  unfold execResetRelease
  first
    | (simp (maxDischargeDepth := 30) +contextual only [State.modPwrReg_memOk, State.pass_memOk, State.runFree_memOk, State.bootUp_memOk, stateOf_next, stateOf_ite, State.memOk_mk, State.memOk_fold, Mem.clear_wf, State.memOk_forAll, State.memOk_foldl, State.memOk_ite, ite_self, implies_true, h]; done)
    | ((try dsimp only); (repeat' split) <;> first | (simp (maxDischargeDepth := 30) +contextual only [State.modPwrReg_memOk, State.pass_memOk, State.runFree_memOk, State.bootUp_memOk, stateOf_next, stateOf_ite, State.memOk_mk, State.memOk_fold, Mem.clear_wf, State.memOk_forAll, State.memOk_foldl, State.memOk_ite, ite_self, implies_true, h]; done) | (simp_all (maxDischargeDepth := 30) only [State.modPwrReg_memOk, State.pass_memOk, State.runFree_memOk, State.bootUp_memOk, stateOf_next, stateOf_ite, State.memOk_mk, State.memOk_fold, Mem.clear_wf, State.memOk_forAll, State.memOk_foldl, State.memOk_ite, ite_self, implies_true, h]; done))

theorem execStartupRunEntry_memOk (reserve : Bool) (s : State) (h : s.memOk) :
    (stateOf s (execStartupRunEntry reserve s)).memOk := by
  unfold execStartupRunEntry
  first
    | (simp (maxDischargeDepth := 30) +contextual only [State.modPwr_memOk, State.modPwrReg_memOk, State.enterRun_memOk, stateOf_next, stateOf_ite, State.memOk_mk, State.memOk_fold, Mem.clear_wf, State.memOk_forAll, State.memOk_foldl, State.memOk_ite, ite_self, implies_true, h]; done)
    | ((try dsimp only); (repeat' split) <;> first | (simp (maxDischargeDepth := 30) +contextual only [State.modPwr_memOk, State.modPwrReg_memOk, State.enterRun_memOk, stateOf_next, stateOf_ite, State.memOk_mk, State.memOk_fold, Mem.clear_wf, State.memOk_forAll, State.memOk_foldl, State.memOk_ite, ite_self, implies_true, h]; done) | (simp_all (maxDischargeDepth := 30) only [State.modPwr_memOk, State.modPwrReg_memOk, State.enterRun_memOk, stateOf_next, stateOf_ite, State.memOk_mk, State.memOk_fold, Mem.clear_wf, State.memOk_forAll, State.memOk_foldl, State.memOk_ite, ite_self, implies_true, h]; done))

end Sys2Proof.Machine
end

