-- ==== Sys2Proof/Laws/Stores.lean ====
section
/-! SUPPORT. What the stores that wait in the store queue do where they go to memory (R297, R298). -/

namespace Sys2Proof.Machine

/-- A store to the data range or the output image lies in a word of memory. -/
theorem placeOf_memory {a n : Nat} (h : inData a n = true ∨ inOutput a n = true) (hn : 0 < n) : placeOf (wordOf a) = .memory := by
  simp [inData, inOutput, dataBase, dataEnd, outBase, outEnd] at h
  unfold placeOf wordOf
  obtain ⟨h, k⟩ | ⟨h, k⟩ := h <;> replace h := of_decide_eq_true h <;> replace k := of_decide_eq_true k <;>
    rw [if_neg (by omega), if_pos (by simp only [dataBase, dataEnd, inBase, outEnd]; omega)]

/-- A store to memory changes one word of it, and marks the moves in flight to its bytes. -/
theorem State.applyStore_memory (s : State) (q : QStore) (hn : 0 < q.size)
    (h : inData q.addr.toNat q.size = true ∨ inOutput q.addr.toNat q.size = true) :
    s.applyStore q = (s.hitMoves q.addr.toNat q.size).setWord (wordOf q.addr.toNat)
      (fmix (s.memWord (wordOf q.addr.toNat)) (q.val <<< (8 * (q.addr.toNat % 4))) (laneMask q.addr.toNat q.size)) := by
  unfold State.applyStore State.poke
  dsimp only
  rw [placeOf_memory h hn]
  rfl

/-- The stores that wait go to memory: draining them changes memory, empties the queue, and marks the moves that they met. -/
theorem State.drain_memory (n : Nat) (s : State) (hn : s.eng.sq.length = n) (hm : s.mode ≠ .stop) (h : storesToMemory s) :
    ∃ m mv, s.drain n = { s with mem := m, eng := { s.eng with sq := [], moves := mv } } := by
  induction n generalizing s with
  | zero => exact ⟨s.mem, s.eng.moves, by rw [State.drain, ← List.eq_nil_of_length_eq_zero hn]⟩
  | succ n ih =>
    cases e : s.eng.sq with
    | nil => simp [e] at hn
    | cons q qs =>
      have hq := h q (by simp [e])
      have hd : ∃ m mv, s.drainOne = { s with mem := m, eng := { s.eng with sq := qs, moves := mv } } := by
        unfold State.drainOne
        rw [e]
        dsimp only
        rw [State.applyStore_memory _ _ (by omega) hq.2.2]
        unfold State.settleStop
        rw [if_neg (by exact hm)]
        exact ⟨_, _, rfl⟩
      obtain ⟨m, mv, hd⟩ := hd
      rw [State.drain, hd]
      obtain ⟨m', mv', h'⟩ := ih { s with mem := m, eng := { s.eng with sq := qs, moves := mv } } (by simpa [e] using hn) hm
        (fun x hx => h x (by rw [e]; exact .tail _ hx))
      exact ⟨m', mv', h'⟩

/-- The same for the whole queue. -/
theorem State.drainAll_memory (s : State) (hm : s.mode ≠ .stop) (h : storesToMemory s) :
    ∃ m mv, s.drainAll = { s with mem := m, eng := { s.eng with sq := [], moves := mv } } := State.drain_memory _ s rfl hm h

/-- The engine executes nothing in STOP. -/
theorem State.ready_mode {s : State} (h : s.ready = true) : s.mode ≠ .stop := by
  intro e
  simp [State.ready, show s.eng.sys.mode.mode = .stop from e] at h

end Sys2Proof.Machine
end

