-- ==== Sys2Proof/Laws/TimeKept.lean ====
section
/-! SUPPORT. No operation but a power-on start takes monotonic time back (R19, R20). -/

set_option linter.unusedSimpArgs false

namespace Sys2Proof.Machine

theorem State.mono_of_mask {s t : State} (h : t.mask (· == .mono) = s.mask (· == .mono)) : t.mono = s.mono := by
  have := congrArg State.mono h
  simpa [State.mask] using this

theorem State.notBefore_mask (n0 : Nat) {s t : State} (h : t.mask (· == .mono) = s.mask (· == .mono)) : t.notBefore n0 ↔ s.notBefore n0 := by
  simp only [State.notBefore, State.mono_of_mask h]

theorem State.notBefore_mk (n0 : Nat) (xmono xtim xcalBase xcalAt xslew xcalPpb xfab xlatch xmem xeng xtally xaxes xportals xfel xsde xls xlsg xkerf xfio xsafe xjnl xnet xlnd xtru xpwr xboot xpending xsent xfreeSeq) :
    (State.mk xmono xtim xcalBase xcalAt xslew xcalPpb xfab xlatch xmem xeng xtally xaxes xportals xfel xsde xls xlsg xkerf xfio xsafe xjnl xnet xlnd xtru xpwr xboot xpending xsent xfreeSeq).notBefore n0 ↔ n0 ≤ xmono := Iff.rfl

theorem State.notBefore_fold (n0 : Nat) (s : State) : n0 ≤ s.mono ↔ s.notBefore n0 := Iff.rfl

theorem State.notBefore_ite (n0 : Nat) (c : Prop) [Decidable c] (s t : State) :
    (if c then s else t).notBefore n0 ↔ if c then s.notBefore n0 else t.notBefore n0 := by split <;> rfl

theorem State.notBefore_foldl (n0 : Nat) {ι : Type} (is : List ι) (f : State → ι → State) (s : State)
    (hf : ∀ s i, s.notBefore n0 → (f s i).notBefore n0) (h : s.notBefore n0) : (is.foldl f s).notBefore n0 := by
  induction is generalizing s with
  | nil => exact h
  | cons i is ih => exact ih _ (hf _ _ h)

theorem State.notBefore_forAll (n0 : Nat) {ι : Type} (is : List ι) (f : State → ι → State) (s : State)
    (hf : ∀ s i, s.notBefore n0 → (f s i).notBefore n0) (h : s.notBefore n0) : (s.forAll is f).notBefore n0 :=
  State.notBefore_foldl n0 is f s hf h

theorem State.modAxis_notBefore (n0 : Nat) (s : State) (i : AxisIx) (f : Axis → Axis) (h : s.notBefore n0) :
    (State.modAxis s i f).notBefore n0 :=
  (State.notBefore_mask n0 (State.modAxis_mask _ _ _ _ rfl)).2 h

theorem State.modPortal_notBefore (n0 : Nat) (s : State) (p : PortalIx) (f : Portal → Portal) (h : s.notBefore n0) :
    (State.modPortal s p f).notBefore n0 :=
  (State.notBefore_mask n0 (State.modPortal_mask _ _ _ _ rfl)).2 h

theorem State.modEng_notBefore (n0 : Nat) (s : State) (f : Engine → Engine) (h : s.notBefore n0) :
    (State.modEng s f).notBefore n0 :=
  (State.notBefore_mask n0 (State.modEng_mask _ _ _ rfl)).2 h

theorem State.modSys_notBefore (n0 : Nat) (s : State) (f : Sys → Sys) (h : s.notBefore n0) :
    (State.modSys s f).notBefore n0 :=
  (State.notBefore_mask n0 (State.modSys_mask _ _ _ rfl)).2 h

theorem State.modLs_notBefore (n0 : Nat) (s : State) (c : ChanIx) (f : LoadCh → LoadCh) (h : s.notBefore n0) :
    (State.modLs s c f).notBefore n0 :=
  (State.notBefore_mask n0 (State.modLs_mask _ _ _ _ rfl)).2 h

theorem State.modKerf_notBefore (n0 : Nat) (s : State) (p : PortalIx) (f : Kerf → Kerf) (h : s.notBefore n0) :
    (State.modKerf s p f).notBefore n0 :=
  (State.notBefore_mask n0 (State.modKerf_mask _ _ _ _ rfl)).2 h

theorem State.used_notBefore (n0 : Nat) (s : State) (h : s.notBefore n0) :
    (State.used s).notBefore n0 :=
  (State.notBefore_mask n0 (State.used_mask _ _ rfl)).2 h

theorem State.setWord_notBefore (n0 : Nat) (s : State) (a : Nat) (w : Word) (h : s.notBefore n0) :
    (State.setWord s a w).notBefore n0 :=
  (State.notBefore_mask n0 (State.setWord_mask _ _ _ _ rfl)).2 h

theorem State.upTo_notBefore (n0 : Nat) (s : State) (t : Nat) (h : s.notBefore n0) : (s.upTo t).notBefore n0 := Nat.le_trans h (Nat.le_max_left _ _)

theorem State.modPwr_notBefore (n0 : Nat) (s : State) (f : Supply → Supply) (h : s.notBefore n0) :
    (State.modPwr s f).notBefore n0 :=
  (State.notBefore_mask n0 (State.modPwr_mask _ _ _ rfl)).2 h

theorem State.modPwrReg_notBefore (n0 : Nat) (s : State) (f : Pwr → Pwr) (h : s.notBefore n0) :
    (State.modPwrReg s f).notBefore n0 :=
  (State.notBefore_mask n0 (State.modPwrReg_mask _ _ _ rfl)).2 h

theorem State.modFel_notBefore (n0 : Nat) (s : State) (f : Fel → Fel) (h : s.notBefore n0) :
    (State.modFel s f).notBefore n0 :=
  (State.notBefore_mask n0 (State.modFel_mask _ _ _ rfl)).2 h

theorem State.pass_notBefore (n0 : Nat) (s : State) (n : Nat) (h : s.notBefore n0) : (s.pass n).notBefore n0 := Nat.le_trans h (Nat.le_add_right _ _)

theorem State.event_notBefore (n0 : Nat) (s : State) (type : BitVec 16) (unit code : Nat) (arg0 : Nat := 0) (snap : Option (List Byte) := none) (h : s.notBefore n0) :
    (State.event s type unit code arg0 snap).notBefore n0 :=
  (State.notBefore_mask n0 (State.event_mask _ _ _ _ _ _ _ rfl)).2 h

theorem State.flush_notBefore (n0 : Nat) (s : State) (h : s.notBefore n0) :
    (State.flush s).notBefore n0 :=
  (State.notBefore_mask n0 (State.flush_mask _ _ rfl)).2 h

theorem State.violation_notBefore (n0 : Nat) (s : State) (addr : Word) (h : s.notBefore n0) :
    (State.violation s addr).notBefore n0 :=
  (State.notBefore_mask n0 (State.violation_mask _ _ _ rfl)).2 h

theorem State.send_notBefore (n0 : Nat) (s : State) (o : Output) (h : s.notBefore n0) :
    (State.send s o).notBefore n0 :=
  (State.notBefore_mask n0 (State.send_mask _ _ _ rfl)).2 h

theorem State.lsEval_notBefore (n0 : Nat) (s : State) (c : ChanIx) (h : s.notBefore n0) :
    (State.lsEval s c).notBefore n0 :=
  (State.notBefore_mask n0 (State.lsEval_mask _ _ _ rfl rfl)).2 h

theorem State.kcondEval_notBefore (n0 : Nat) (s : State) (p : PortalIx) (h : s.notBefore n0) :
    (State.kcondEval s p).notBefore n0 :=
  (State.notBefore_mask n0 (State.kcondEval_mask _ _ _ rfl)).2 h

theorem State.bridgeEval_notBefore (n0 : Nat) (s : State) (a : AxisIx) (h : s.notBefore n0) :
    (State.bridgeEval s a).notBefore n0 :=
  (State.notBefore_mask n0 (State.bridgeEval_mask _ _ _ rfl)).2 h

theorem State.movementEnd_notBefore (n0 : Nat) (s : State) (p : PortalIx) (h : s.notBefore n0) :
    (State.movementEnd s p).notBefore n0 :=
  (State.notBefore_mask n0 (State.movementEnd_mask _ _ _ rfl)).2 h

theorem State.stopAxis_notBefore (n0 : Nat) (s : State) (a : AxisIx) (cause : BitVec 4) (h : s.notBefore n0) :
    (State.stopAxis s a cause).notBefore n0 :=
  (State.notBefore_mask n0 (State.stopAxis_mask _ _ _ _ rfl rfl)).2 h

theorem State.stopLeaves_notBefore (n0 : Nat) (s : State) (p : PortalIx) (cause : BitVec 4) (h : s.notBefore n0) :
    (State.stopLeaves s p cause).notBefore n0 :=
  (State.notBefore_mask n0 (State.stopLeaves_mask _ _ _ _ rfl rfl)).2 h

theorem State.latchObs_notBefore (n0 : Nat) (s : State) (p : PortalIx) (set : PrtObs → PrtObs) (counts : Bool) (h : s.notBefore n0) :
    (State.latchObs s p set counts).notBefore n0 :=
  (State.notBefore_mask n0 (State.latchObs_mask _ _ _ _ _ rfl rfl rfl)).2 h

theorem State.edgeLatch_notBefore (n0 : Nat) (s : State) (p : PortalIx) (b : Bool) (h : s.notBefore n0) :
    (State.edgeLatch s p b).notBefore n0 :=
  (State.notBefore_mask n0 (State.edgeLatch_mask _ _ _ _ rfl rfl rfl)).2 h

theorem State.felling_notBefore (n0 : Nat) (s : State) (h : s.notBefore n0) :
    (State.felling s).notBefore n0 :=
  (State.notBefore_mask n0 (State.felling_mask _ _ rfl rfl rfl rfl rfl rfl rfl)).2 h

theorem State.arrived_notBefore (n0 : Nat) (s : State) (a : AxisIx) (h : s.notBefore n0) :
    (State.arrived s a).notBefore n0 :=
  (State.notBefore_mask n0 (State.arrived_mask _ _ _ rfl)).2 h

theorem State.standstill_notBefore (n0 : Nat) (s : State) (a : AxisIx) (h : s.notBefore n0) :
    (State.standstill s a).notBefore n0 :=
  (State.notBefore_mask n0 (State.standstill_mask _ _ _ rfl rfl)).2 h

theorem State.referenced_notBefore (n0 : Nat) (s : State) (a : AxisIx) (h : s.notBefore n0) :
    (State.referenced s a).notBefore n0 :=
  (State.notBefore_mask n0 (State.referenced_mask _ _ _ rfl rfl)).2 h

theorem State.fellSince_notBefore (n0 : Nat) (s s0 : State) (h : s.notBefore n0) :
    (State.fellSince s s0).notBefore n0 :=
  (State.notBefore_mask n0 (State.fellSince_mask _ _ _ rfl rfl rfl rfl rfl rfl rfl)).2 h

theorem State.axisCmd_notBefore (n0 : Nat) (s : State) (a : AxisIx) (w : Word) (more : Bool := false) (svc : Bool := false) (h : s.notBefore n0) :
    (State.axisCmd s a w more svc).notBefore n0 :=
  (State.notBefore_mask n0 (State.axisCmd_mask _ _ _ _ _ _ rfl rfl rfl rfl rfl rfl rfl rfl)).2 h

theorem State.planPeriod_notBefore (n0 : Nat) (s : State) (a : AxisIx) (h : s.notBefore n0) :
    (State.planPeriod s a).notBefore n0 :=
  (State.notBefore_mask n0 (State.planPeriod_mask _ _ _ rfl rfl rfl rfl rfl rfl rfl)).2 h

theorem State.homeEval_notBefore (n0 : Nat) (s : State) (p : PortalIx) (h : s.notBefore n0) :
    (State.homeEval s p).notBefore n0 :=
  (State.notBefore_mask n0 (State.homeEval_mask _ _ _ rfl)).2 h

theorem State.axisUpdate_notBefore (n0 : Nat) (s : State) (a : AxisIx) (h : s.notBefore n0) :
    (State.axisUpdate s a).notBefore n0 :=
  (State.notBefore_mask n0 (State.axisUpdate_mask _ _ _ rfl rfl rfl rfl rfl rfl rfl rfl rfl)).2 h

theorem State.fbRelease_notBefore (n0 : Nat) (s : State) (a : AxisIx) (h : s.notBefore n0) :
    (State.fbRelease s a).notBefore n0 :=
  (State.notBefore_mask n0 (State.fbRelease_mask _ _ _ rfl)).2 h

theorem State.envCut_notBefore (n0 : Nat) (s : State) (a : AxisIx) (span : Nat) (bit : AxcEnvst → AxcEnvst) (h : s.notBefore n0) :
    (State.envCut s a span bit).notBefore n0 :=
  (State.notBefore_mask n0 (State.envCut_mask _ _ _ _ _ rfl)).2 h

theorem State.forceObstacle_notBefore (n0 : Nat) (s : State) (a : AxisIx) (h : s.notBefore n0) :
    (State.forceObstacle s a).notBefore n0 :=
  (State.notBefore_mask n0 (State.forceObstacle_mask _ _ _ rfl rfl rfl)).2 h

theorem State.forcePeak_notBefore (n0 : Nat) (s : State) (a : AxisIx) (h : s.notBefore n0) :
    (State.forcePeak s a).notBefore n0 :=
  (State.notBefore_mask n0 (State.forcePeak_mask _ _ _ rfl)).2 h

theorem State.envelope_notBefore (n0 : Nat) (s : State) (a : AxisIx) (h : s.notBefore n0) :
    (State.envelope s a).notBefore n0 :=
  (State.notBefore_mask n0 (State.envelope_mask _ _ _ rfl rfl rfl)).2 h

theorem State.rmsLimit_notBefore (n0 : Nat) (s : State) (a : AxisIx) (h : s.notBefore n0) :
    (State.rmsLimit s a).notBefore n0 :=
  (State.notBefore_mask n0 (State.rmsLimit_mask _ _ _ rfl)).2 h

theorem State.toStep_notBefore (n0 : Nat) (s : State) (x : AxisIx) (n t : Nat) (h : s.notBefore n0) :
    (State.toStep s x n t).notBefore n0 := by
  unfold State.toStep
  first
    | (simp (maxDischargeDepth := 30) +contextual only [State.upTo_notBefore, State.notBefore_forAll, State.notBefore_foldl, State.notBefore_ite, ite_self, implies_true, h]; done)
    | ((try dsimp only); (repeat' split) <;> first | (simp (maxDischargeDepth := 30) +contextual only [State.upTo_notBefore, State.notBefore_forAll, State.notBefore_foldl, State.notBefore_ite, ite_self, implies_true, h]; done) | (simp_all (maxDischargeDepth := 30) only [State.upTo_notBefore, State.notBefore_forAll, State.notBefore_foldl, State.notBefore_ite, ite_self, implies_true, h]; done))

theorem execCurrentLoopStep_notBefore (n0 : Nat) (x : AxisIx) (iu iv iw : BitVec 16) (s : State) (h : s.notBefore n0) :
    (stateOf s (execCurrentLoopStep x iu iv iw s)).notBefore n0 := by
  unfold execCurrentLoopStep
  first
    | (simp (maxDischargeDepth := 30) +contextual only [State.modAxis_notBefore, State.used_notBefore, State.envCut_notBefore, State.rmsLimit_notBefore, State.toStep_notBefore, stateOf_next, stateOf_ite, State.notBefore_forAll, State.notBefore_foldl, State.notBefore_ite, ite_self, implies_true, h]; done)
    | ((try dsimp only); (repeat' split) <;> first | (simp (maxDischargeDepth := 30) +contextual only [State.modAxis_notBefore, State.used_notBefore, State.envCut_notBefore, State.rmsLimit_notBefore, State.toStep_notBefore, stateOf_next, stateOf_ite, State.notBefore_forAll, State.notBefore_foldl, State.notBefore_ite, ite_self, implies_true, h]; done) | (simp_all (maxDischargeDepth := 30) only [State.modAxis_notBefore, State.used_notBefore, State.envCut_notBefore, State.rmsLimit_notBefore, State.toStep_notBefore, stateOf_next, stateOf_ite, State.notBefore_forAll, State.notBefore_foldl, State.notBefore_ite, ite_self, implies_true, h]; done))

theorem execSpeedLoopStep_notBefore (n0 : Nat) (x : AxisIx) (s : State) (h : s.notBefore n0) :
    (stateOf s (execSpeedLoopStep x s)).notBefore n0 := by
  unfold execSpeedLoopStep
  first
    | (simp (maxDischargeDepth := 30) +contextual only [State.modAxis_notBefore, State.fbRelease_notBefore, State.forcePeak_notBefore, State.envelope_notBefore, State.toStep_notBefore, stateOf_next, stateOf_ite, State.notBefore_forAll, State.notBefore_foldl, State.notBefore_ite, ite_self, implies_true, h]; done)
    | ((try dsimp only); (repeat' split) <;> first | (simp (maxDischargeDepth := 30) +contextual only [State.modAxis_notBefore, State.fbRelease_notBefore, State.forcePeak_notBefore, State.envelope_notBefore, State.toStep_notBefore, stateOf_next, stateOf_ite, State.notBefore_forAll, State.notBefore_foldl, State.notBefore_ite, ite_self, implies_true, h]; done) | (simp_all (maxDischargeDepth := 30) only [State.modAxis_notBefore, State.fbRelease_notBefore, State.forcePeak_notBefore, State.envelope_notBefore, State.toStep_notBefore, stateOf_next, stateOf_ite, State.notBefore_forAll, State.notBefore_foldl, State.notBefore_ite, ite_self, implies_true, h]; done))

theorem execPositionLoopStep_notBefore (n0 : Nat) (x : AxisIx) (s : State) (h : s.notBefore n0) :
    (stateOf s (execPositionLoopStep x s)).notBefore n0 := by
  unfold execPositionLoopStep
  first
    | (simp (maxDischargeDepth := 30) +contextual only [State.modAxis_notBefore, State.stopAxis_notBefore, State.toStep_notBefore, stateOf_next, stateOf_ite, State.notBefore_forAll, State.notBefore_foldl, State.notBefore_ite, ite_self, implies_true, h]; done)
    | ((try dsimp only); (repeat' split) <;> first | (simp (maxDischargeDepth := 30) +contextual only [State.modAxis_notBefore, State.stopAxis_notBefore, State.toStep_notBefore, stateOf_next, stateOf_ite, State.notBefore_forAll, State.notBefore_foldl, State.notBefore_ite, ite_self, implies_true, h]; done) | (simp_all (maxDischargeDepth := 30) only [State.modAxis_notBefore, State.stopAxis_notBefore, State.toStep_notBefore, stateOf_next, stateOf_ite, State.notBefore_forAll, State.notBefore_foldl, State.notBefore_ite, ite_self, implies_true, h]; done))

theorem execCalibrationComplete_notBefore (n0 : Nat) (x : AxisIx) (mu mv mw : BitVec 16) (s : State) (h : s.notBefore n0) :
    (stateOf s (execCalibrationComplete x mu mv mw s)).notBefore n0 := by
  unfold execCalibrationComplete
  first
    | (simp (maxDischargeDepth := 30) +contextual only [State.modAxis_notBefore, State.upTo_notBefore, State.event_notBefore, State.bridgeEval_notBefore, stateOf_next, stateOf_ite, State.notBefore_forAll, State.notBefore_foldl, State.notBefore_ite, ite_self, implies_true, h]; done)
    | ((try dsimp only); (repeat' split) <;> first | (simp (maxDischargeDepth := 30) +contextual only [State.modAxis_notBefore, State.upTo_notBefore, State.event_notBefore, State.bridgeEval_notBefore, stateOf_next, stateOf_ite, State.notBefore_forAll, State.notBefore_foldl, State.notBefore_ite, ite_self, implies_true, h]; done) | (simp_all (maxDischargeDepth := 30) only [State.modAxis_notBefore, State.upTo_notBefore, State.event_notBefore, State.bridgeEval_notBefore, stateOf_next, stateOf_ite, State.notBefore_forAll, State.notBefore_foldl, State.notBefore_ite, ite_self, implies_true, h]; done))

theorem State.sendTelegram_notBefore (n0 : Nat) (s : State) (sg : Bool) (conn seq : Word) (type : Nat) (sdata : List Byte) (codeh : Option Word := none) (h : s.notBefore n0) :
    (State.sendTelegram s sg conn seq type sdata codeh).notBefore n0 :=
  (State.notBefore_mask n0 (State.sendTelegram_mask _ _ _ _ _ _ _ _ rfl)).2 h

theorem State.modJnl_notBefore (n0 : Nat) (s : State) (f : Journal → Journal) (h : s.notBefore n0) :
    (State.modJnl s f).notBefore n0 :=
  (State.notBefore_mask n0 (State.modJnl_mask _ _ _ rfl)).2 h

theorem State.outcome_notBefore (n0 : Nat) (s : State) (e : Entry) (done : Bool) (reason : Byte) (h : s.notBefore n0) :
    (State.outcome s e done reason).notBefore n0 :=
  (State.notBefore_mask n0 (State.outcome_mask _ _ _ _ _ rfl rfl)).2 h

theorem State.redeliver_notBefore (n0 : Nat) (s : State) (h : s.notBefore n0) :
    (State.redeliver s).notBefore n0 :=
  (State.notBefore_mask n0 (State.redeliver_mask _ _ rfl)).2 h

theorem State.reportAll_notBefore (n0 : Nat) (s : State) (h : s.notBefore n0) :
    (State.reportAll s).notBefore n0 :=
  (State.notBefore_mask n0 (State.reportAll_mask _ _ rfl rfl)).2 h

theorem State.modBank_notBefore (n0 : Nat) (s : State) (f : Bank → Bank) (h : s.notBefore n0) :
    (State.modBank s f).notBefore n0 :=
  (State.notBefore_mask n0 (State.modBank_mask _ _ _ rfl)).2 h

theorem State.putR_notBefore (n0 : Nat) (s : State) (r : Reg) (w : Word) (h : s.notBefore n0) :
    (State.putR s r w).notBefore n0 :=
  (State.notBefore_mask n0 (State.putR_mask _ _ _ _ rfl)).2 h

theorem State.retire_notBefore (n0 : Nat) (s : State) (cycles : Nat) (h : s.notBefore n0) :
    (State.retire s cycles).notBefore n0 := by
  unfold State.retire
  first
    | (simp (maxDischargeDepth := 30) +contextual only [State.modEng_notBefore, State.pass_notBefore, State.modBank_notBefore, State.notBefore_forAll, State.notBefore_foldl, State.notBefore_ite, ite_self, implies_true, h]; done)
    | ((try dsimp only); (repeat' split) <;> first | (simp (maxDischargeDepth := 30) +contextual only [State.modEng_notBefore, State.pass_notBefore, State.modBank_notBefore, State.notBefore_forAll, State.notBefore_foldl, State.notBefore_ite, ite_self, implies_true, h]; done) | (simp_all (maxDischargeDepth := 30) only [State.modEng_notBefore, State.pass_notBefore, State.modBank_notBefore, State.notBefore_forAll, State.notBefore_foldl, State.notBefore_ite, ite_self, implies_true, h]; done))

theorem State.insn_notBefore (n0 : Nat) (s : State) (cycles : Nat) (f : State → State) (g0 : ∀ s, s.notBefore n0 → (f s).notBefore n0) (h : s.notBefore n0) :
    (State.insn s cycles f).notBefore n0 := by
  unfold State.insn
  first
    | (simp (maxDischargeDepth := 30) +contextual only [State.retire_notBefore, State.notBefore_forAll, State.notBefore_foldl, State.notBefore_ite, ite_self, implies_true, h, g0]; done)
    | ((try dsimp only); (repeat' split) <;> first | (simp (maxDischargeDepth := 30) +contextual only [State.retire_notBefore, State.notBefore_forAll, State.notBefore_foldl, State.notBefore_ite, ite_self, implies_true, h, g0]; done) | (simp_all (maxDischargeDepth := 30) only [State.retire_notBefore, State.notBefore_forAll, State.notBefore_foldl, State.notBefore_ite, ite_self, implies_true, h, g0]; done))

theorem State.bankOp_notBefore (n0 : Nat) (s : State) (cycles : Nat) (f : Bank → Bank) (h : s.notBefore n0) :
    (State.bankOp s cycles f).notBefore n0 := by
  unfold State.bankOp
  first
    | (simp (maxDischargeDepth := 30) +contextual only [State.modBank_notBefore, State.insn_notBefore, State.notBefore_forAll, State.notBefore_foldl, State.notBefore_ite, ite_self, implies_true, h]; done)
    | ((try dsimp only); (repeat' split) <;> first | (simp (maxDischargeDepth := 30) +contextual only [State.modBank_notBefore, State.insn_notBefore, State.notBefore_forAll, State.notBefore_foldl, State.notBefore_ite, ite_self, implies_true, h]; done) | (simp_all (maxDischargeDepth := 30) only [State.modBank_notBefore, State.insn_notBefore, State.notBefore_forAll, State.notBefore_foldl, State.notBefore_ite, ite_self, implies_true, h]; done))

theorem State.setQuad_notBefore (n0 : Nat) (s : State) (t : BitVec 14) (q : Quad) (h : s.notBefore n0) :
    (State.setQuad s t q).notBefore n0 :=
  (State.notBefore_mask n0 (State.setQuad_mask _ _ _ _ rfl)).2 h

theorem State.modMode_notBefore (n0 : Nat) (s : State) (f : SysMode → SysMode) (h : s.notBefore n0) :
    (State.modMode s f).notBefore n0 :=
  (State.notBefore_mask n0 (State.modMode_mask _ _ _ rfl)).2 h

theorem State.discardStaged_notBefore (n0 : Nat) (s : State) (h : s.notBefore n0) :
    (State.discardStaged s).notBefore n0 :=
  (State.notBefore_mask n0 (State.discardStaged_mask _ _ rfl rfl rfl rfl)).2 h

theorem State.enterStop_notBefore (n0 : Nat) (s : State) (cause : BitVec 4) (h : s.notBefore n0) :
    (State.enterStop s cause).notBefore n0 :=
  (State.notBefore_mask n0 (State.enterStop_mask _ _ _ rfl rfl rfl rfl rfl rfl rfl rfl)).2 h

theorem State.coldLoad_notBefore (n0 : Nat) (s : State) (h : s.notBefore n0) :
    (State.coldLoad s).notBefore n0 :=
  (State.notBefore_mask n0 (State.coldLoad_mask _ _ rfl)).2 h

theorem State.enterRun_notBefore (n0 : Nat) (s : State) (cold : Bool) (h : s.notBefore n0) :
    (State.enterRun s cold).notBefore n0 :=
  (State.notBefore_mask n0 (State.enterRun_mask _ _ _ rfl rfl rfl rfl rfl rfl)).2 h

theorem State.alu_notBefore (n0 : Nat) (s : State) (cycles : Nat) (d a b : Reg) (f : Bank → Word → Word → Alu) (h : s.notBefore n0) :
    (State.alu s cycles d a b f).notBefore n0 := by
  unfold State.alu
  first
    | (simp (maxDischargeDepth := 30) +contextual only [State.bankOp_notBefore, State.notBefore_forAll, State.notBefore_foldl, State.notBefore_ite, ite_self, implies_true, h]; done)
    | ((try dsimp only); (repeat' split) <;> first | (simp (maxDischargeDepth := 30) +contextual only [State.bankOp_notBefore, State.notBefore_forAll, State.notBefore_foldl, State.notBefore_ite, ite_self, implies_true, h]; done) | (simp_all (maxDischargeDepth := 30) only [State.bankOp_notBefore, State.notBefore_forAll, State.notBefore_foldl, State.notBefore_ite, ite_self, implies_true, h]; done))

theorem State.logic_notBefore (n0 : Nat) (s : State) (cycles : Nat) (d a b : Reg) (f : Word → Word → Word) (h : s.notBefore n0) :
    (State.logic s cycles d a b f).notBefore n0 := by
  unfold State.logic
  first
    | (simp (maxDischargeDepth := 30) +contextual only [State.bankOp_notBefore, State.notBefore_forAll, State.notBefore_foldl, State.notBefore_ite, ite_self, implies_true, h]; done)
    | ((try dsimp only); (repeat' split) <;> first | (simp (maxDischargeDepth := 30) +contextual only [State.bankOp_notBefore, State.notBefore_forAll, State.notBefore_foldl, State.notBefore_ite, ite_self, implies_true, h]; done) | (simp_all (maxDischargeDepth := 30) only [State.bankOp_notBefore, State.notBefore_forAll, State.notBefore_foldl, State.notBefore_ite, ite_self, implies_true, h]; done))

theorem State.aluV_notBefore (n0 : Nat) (s : State) (cycles : Nat) (d a b : Reg) (f : Word → Word → Alu) (h : s.notBefore n0) :
    (State.aluV s cycles d a b f).notBefore n0 := by
  unfold State.aluV
  first
    | (simp (maxDischargeDepth := 30) +contextual only [State.bankOp_notBefore, State.notBefore_forAll, State.notBefore_foldl, State.notBefore_ite, ite_self, implies_true, h]; done)
    | ((try dsimp only); (repeat' split) <;> first | (simp (maxDischargeDepth := 30) +contextual only [State.bankOp_notBefore, State.notBefore_forAll, State.notBefore_foldl, State.notBefore_ite, ite_self, implies_true, h]; done) | (simp_all (maxDischargeDepth := 30) only [State.bankOp_notBefore, State.notBefore_forAll, State.notBefore_foldl, State.notBefore_ite, ite_self, implies_true, h]; done))

theorem State.shiftOp_notBefore (n0 : Nat) (s : State) (d a : Reg) (t : Shift) (n : Bank → Nat) (h : s.notBefore n0) :
    (State.shiftOp s d a t n).notBefore n0 := by
  unfold State.shiftOp
  first
    | (simp (maxDischargeDepth := 30) +contextual only [State.bankOp_notBefore, State.notBefore_forAll, State.notBefore_foldl, State.notBefore_ite, ite_self, implies_true, h]; done)
    | ((try dsimp only); (repeat' split) <;> first | (simp (maxDischargeDepth := 30) +contextual only [State.bankOp_notBefore, State.notBefore_forAll, State.notBefore_foldl, State.notBefore_ite, ite_self, implies_true, h]; done) | (simp_all (maxDischargeDepth := 30) only [State.bankOp_notBefore, State.notBefore_forAll, State.notBefore_foldl, State.notBefore_ite, ite_self, implies_true, h]; done))

theorem State.contact_notBefore (n0 : Nat) (s : State) (cycles : Nat) (x : Bank → Bool) (f : Bool → Bool → Bool) (h : s.notBefore n0) :
    (State.contact s cycles x f).notBefore n0 := by
  unfold State.contact
  first
    | (simp (maxDischargeDepth := 30) +contextual only [State.bankOp_notBefore, State.notBefore_forAll, State.notBefore_foldl, State.notBefore_ite, ite_self, implies_true, h]; done)
    | ((try dsimp only); (repeat' split) <;> first | (simp (maxDischargeDepth := 30) +contextual only [State.bankOp_notBefore, State.notBefore_forAll, State.notBefore_foldl, State.notBefore_ite, ite_self, implies_true, h]; done) | (simp_all (maxDischargeDepth := 30) only [State.bankOp_notBefore, State.notBefore_forAll, State.notBefore_foldl, State.notBefore_ite, ite_self, implies_true, h]; done))

theorem State.coil_notBefore (n0 : Nat) (s : State) (d : Reg) (i : BitIx) (f : Bool → Bool → Bool) (h : s.notBefore n0) :
    (State.coil s d i f).notBefore n0 := by
  unfold State.coil
  first
    | (simp (maxDischargeDepth := 30) +contextual only [State.bankOp_notBefore, State.notBefore_forAll, State.notBefore_foldl, State.notBefore_ite, ite_self, implies_true, h]; done)
    | ((try dsimp only); (repeat' split) <;> first | (simp (maxDischargeDepth := 30) +contextual only [State.bankOp_notBefore, State.notBefore_forAll, State.notBefore_foldl, State.notBefore_ite, ite_self, implies_true, h]; done) | (simp_all (maxDischargeDepth := 30) only [State.bankOp_notBefore, State.notBefore_forAll, State.notBefore_foldl, State.notBefore_ite, ite_self, implies_true, h]; done))

theorem State.putStatus_notBefore (n0 : Nat) (s : State) (d : Reg) (w : Word) (h : s.notBefore n0) :
    (State.putStatus s d w).notBefore n0 :=
  (State.notBefore_mask n0 (State.putStatus_mask _ _ _ _ rfl)).2 h

theorem State.modLnd_notBefore (n0 : Nat) (s : State) (f : Landing → Landing) (h : s.notBefore n0) :
    (State.modLnd s f).notBefore n0 :=
  (State.notBefore_mask n0 (State.modLnd_mask _ _ _ rfl)).2 h

theorem State.modTru_notBefore (n0 : Nat) (s : State) (f : Security → Security) (h : s.notBefore n0) :
    (State.modTru s f).notBefore n0 :=
  (State.notBefore_mask n0 (State.modTru_mask _ _ _ rfl)).2 h

theorem State.endSession_notBefore (n0 : Nat) (s : State) (i : SesIx) (h : s.notBefore n0) :
    (State.endSession s i).notBefore n0 :=
  (State.notBefore_mask n0 (State.endSession_mask _ _ _ rfl rfl rfl)).2 h

theorem State.respond_notBefore (n0 : Nat) (s : State) (i : SesIx) (op : Nat) (tag : Word) (st : Status) (payload : List Byte := []) (h : s.notBefore n0) :
    (State.respond s i op tag st payload).notBefore n0 :=
  (State.notBefore_mask n0 (State.respond_mask _ _ _ _ _ _ _ rfl)).2 h

theorem State.modSafe_notBefore (n0 : Nat) (s : State) (f : Safety → Safety) (h : s.notBefore n0) :
    (State.modSafe s f).notBefore n0 :=
  (State.notBefore_mask n0 (State.modSafe_mask _ _ _ rfl)).2 h

theorem State.zspEval_notBefore (n0 : Nat) (s : State) (h : s.notBefore n0) :
    (State.zspEval s).notBefore n0 :=
  (State.notBefore_mask n0 (State.zspEval_mask _ _ rfl rfl rfl rfl)).2 h

theorem State.sdeEval_notBefore (n0 : Nat) (s : State) (h : s.notBefore n0) :
    (State.sdeEval s).notBefore n0 :=
  (State.notBefore_mask n0 (State.sdeEval_mask _ _ rfl rfl rfl rfl rfl rfl rfl)).2 h

theorem State.judge_notBefore (n0 : Nat) (s : State) (p : PortalIx) (h : s.notBefore n0) :
    (State.judge s p).notBefore n0 :=
  (State.notBefore_mask n0 (State.judge_mask _ _ _ rfl rfl rfl rfl rfl rfl)).2 h

theorem State.setMode_notBefore (n0 : Nat) (s : State) (m : SMode) (h : s.notBefore n0) :
    (State.setMode s m).notBefore n0 :=
  (State.notBefore_mask n0 (State.setMode_mask _ _ _ rfl rfl rfl rfl rfl rfl rfl rfl rfl)).2 h

theorem State.safetyRecord_notBefore (n0 : Nat) (s : State) (unit n : Nat) (h : s.notBefore n0) :
    (State.safetyRecord s unit n).notBefore n0 :=
  (State.notBefore_mask n0 (State.safetyRecord_mask _ _ _ _ rfl)).2 h

theorem State.aOwnReset_notBefore (n0 : Nat) (s : State) (h : s.notBefore n0) :
    (State.aOwnReset s).notBefore n0 :=
  (State.notBefore_mask n0 (State.aOwnReset_mask _ _ rfl rfl rfl rfl rfl rfl rfl rfl rfl)).2 h

theorem State.switchCheck_notBefore (n0 : Nat) (s : State) (ch : SafeCh) (rb : BitVec 6) (h : s.notBefore n0) :
    (State.switchCheck s ch rb).notBefore n0 :=
  (State.notBefore_mask n0 (State.switchCheck_mask _ _ _ _ rfl rfl)).2 h

theorem State.pulseJudge_notBefore (n0 : Nat) (s : State) (h : s.notBefore n0) :
    (State.pulseJudge s).notBefore n0 :=
  (State.notBefore_mask n0 (State.pulseJudge_mask _ _ rfl rfl)).2 h

theorem State.driveLoops_notBefore (n0 : Nat) (s : State) (ch : SafeCh) (h : s.notBefore n0) :
    (State.driveLoops s ch).notBefore n0 :=
  (State.notBefore_mask n0 (State.driveLoops_mask _ _ _ rfl)).2 h

theorem State.paramLoad_notBefore (n0 : Nat) (s : State) (q : SafePar) (echo start : Bool) (m : BitVec 16 × BitVec 16) (h : s.notBefore n0) :
    (State.paramLoad s q echo start m).notBefore n0 :=
  (State.notBefore_mask n0 (State.paramLoad_mask _ _ _ _ _ _ rfl rfl)).2 h

theorem State.loadParam_notBefore (n0 : Nat) (s : State) (param : List Byte) (h : s.notBefore n0) :
    (State.loadParam s param).notBefore n0 :=
  (State.notBefore_mask n0 (State.loadParam_mask _ _ _ rfl rfl rfl rfl rfl rfl rfl rfl rfl rfl)).2 h

theorem State.trial_notBefore (n0 : Nat) (s : State) (c : Container) (h : s.notBefore n0) :
    (State.trial s c).notBefore n0 :=
  (State.notBefore_mask n0 (State.trial_mask _ _ _ rfl rfl rfl rfl rfl rfl rfl rfl rfl rfl rfl)).2 h

theorem State.headAdmit_notBefore (n0 : Nat) (s : State) (h : s.notBefore n0) :
    (State.headAdmit s).notBefore n0 :=
  (State.notBefore_mask n0 (State.headAdmit_mask _ _ rfl rfl)).2 h

theorem State.headWait_notBefore (n0 : Nat) (s : State) (p : PortalIx) (h : s.notBefore n0) :
    (State.headWait s p).notBefore n0 :=
  (State.notBefore_mask n0 (State.headWait_mask _ _ _ rfl)).2 h

theorem State.headWaitAll_notBefore (n0 : Nat) (s : State) (h : s.notBefore n0) :
    (State.headWaitAll s).notBefore n0 :=
  (State.notBefore_mask n0 (State.headWaitAll_mask _ _ rfl rfl)).2 h

theorem State.mbusCharge_notBefore (n0 : Nat) (s : State) (h : s.notBefore n0) :
    (State.mbusCharge s).notBefore n0 :=
  (State.notBefore_mask n0 (State.mbusCharge_mask _ _ rfl rfl)).2 h

theorem State.safetyStop_notBefore (n0 : Nat) (s : State) (h : s.notBefore n0) :
    (State.safetyStop s).notBefore n0 :=
  (State.notBefore_mask n0 (State.safetyStop_mask _ _ rfl rfl)).2 h

theorem State.sleepRequest_notBefore (n0 : Nat) (s : State) (h : s.notBefore n0) :
    (State.sleepRequest s).notBefore n0 :=
  (State.notBefore_mask n0 (State.sleepRequest_mask _ _ rfl rfl rfl rfl rfl rfl rfl rfl rfl rfl rfl rfl rfl rfl rfl rfl rfl rfl rfl rfl)).2 h

theorem State.powerFail_notBefore (n0 : Nat) (s : State) (len : BitVec 16) (h : s.notBefore n0) :
    (State.powerFail s len).notBefore n0 :=
  (State.notBefore_mask n0 (State.powerFail_mask _ _ _ rfl rfl rfl rfl rfl rfl rfl rfl rfl rfl rfl rfl rfl rfl rfl rfl rfl rfl rfl rfl)).2 h

theorem State.modFio_notBefore (n0 : Nat) (s : State) (f : FieldIo → FieldIo) (h : s.notBefore n0) :
    (State.modFio s f).notBefore n0 :=
  (State.notBefore_mask n0 (State.modFio_mask _ _ _ rfl)).2 h

theorem State.modFioReg_notBefore (n0 : Nat) (s : State) (f : Fio → Fio) (h : s.notBefore n0) :
    (State.modFioReg s f).notBefore n0 :=
  (State.notBefore_mask n0 (State.modFioReg_mask _ _ _ rfl)).2 h

theorem State.groupEval_notBefore (n0 : Nat) (s : State) (h : s.notBefore n0) :
    (State.groupEval s).notBefore n0 :=
  (State.notBefore_mask n0 (State.groupEval_mask _ _ rfl)).2 h

theorem State.egressDrive_notBefore (n0 : Nat) (s : State) (h : s.notBefore n0) :
    (State.egressDrive s).notBefore n0 :=
  (State.notBefore_mask n0 (State.egressDrive_mask _ _ rfl)).2 h

theorem execCouplerCheck_notBefore (n0 : Nat) (n : Fin 148) (pass : Bool) (s : State) (h : s.notBefore n0) :
    (stateOf s (execCouplerCheck n pass s)).notBefore n0 := by
  unfold execCouplerCheck
  first
    | (simp (maxDischargeDepth := 30) +contextual only [State.upTo_notBefore, State.event_notBefore, State.modFio_notBefore, State.groupEval_notBefore, stateOf_next, stateOf_ite, State.notBefore_forAll, State.notBefore_foldl, State.notBefore_ite, ite_self, implies_true, h]; done)
    | ((try dsimp only); (repeat' split) <;> first | (simp (maxDischargeDepth := 30) +contextual only [State.upTo_notBefore, State.event_notBefore, State.modFio_notBefore, State.groupEval_notBefore, stateOf_next, stateOf_ite, State.notBefore_forAll, State.notBefore_foldl, State.notBefore_ite, ite_self, implies_true, h]; done) | (simp_all (maxDischargeDepth := 30) only [State.upTo_notBefore, State.event_notBefore, State.modFio_notBefore, State.groupEval_notBefore, stateOf_next, stateOf_ite, State.notBefore_forAll, State.notBefore_foldl, State.notBefore_ite, ite_self, implies_true, h]; done))

theorem execRefreshTimeout_notBefore (n0 : Nat) (s : State) (h : s.notBefore n0) :
    (stateOf s (execRefreshTimeout s)).notBefore n0 := by
  unfold execRefreshTimeout
  first
    | (simp (maxDischargeDepth := 30) +contextual only [State.upTo_notBefore, State.modFio_notBefore, State.groupEval_notBefore, stateOf_next, stateOf_ite, State.notBefore_forAll, State.notBefore_foldl, State.notBefore_ite, ite_self, implies_true, h]; done)
    | ((try dsimp only); (repeat' split) <;> first | (simp (maxDischargeDepth := 30) +contextual only [State.upTo_notBefore, State.modFio_notBefore, State.groupEval_notBefore, stateOf_next, stateOf_ite, State.notBefore_forAll, State.notBefore_foldl, State.notBefore_ite, ite_self, implies_true, h]; done) | (simp_all (maxDischargeDepth := 30) only [State.upTo_notBefore, State.modFio_notBefore, State.groupEval_notBefore, stateOf_next, stateOf_ite, State.notBefore_forAll, State.notBefore_foldl, State.notBefore_ite, ite_self, implies_true, h]; done))

theorem execReadbackDisagree_notBefore (n0 : Nat) (n : Fin 16) (v : BitVec 12) (ilim : Bool) (s : State) (h : s.notBefore n0) :
    (stateOf s (execReadbackDisagree n v ilim s)).notBefore n0 := by
  unfold execReadbackDisagree
  first
    | (simp (maxDischargeDepth := 30) +contextual only [State.upTo_notBefore, State.event_notBefore, State.modFio_notBefore, State.modFioReg_notBefore, State.groupEval_notBefore, stateOf_next, stateOf_ite, State.notBefore_forAll, State.notBefore_foldl, State.notBefore_ite, ite_self, implies_true, h]; done)
    | ((try dsimp only); (repeat' split) <;> first | (simp (maxDischargeDepth := 30) +contextual only [State.upTo_notBefore, State.event_notBefore, State.modFio_notBefore, State.modFioReg_notBefore, State.groupEval_notBefore, stateOf_next, stateOf_ite, State.notBefore_forAll, State.notBefore_foldl, State.notBefore_ite, ite_self, implies_true, h]; done) | (simp_all (maxDischargeDepth := 30) only [State.upTo_notBefore, State.event_notBefore, State.modFio_notBefore, State.modFioReg_notBefore, State.groupEval_notBefore, stateOf_next, stateOf_ite, State.notBefore_forAll, State.notBefore_foldl, State.notBefore_ite, ite_self, implies_true, h]; done))

theorem execRateCommandRepeat_notBefore (n0 : Nat) (p : PortalIx) (s : State) (h : s.notBefore n0) :
    (stateOf s (execRateCommandRepeat p s)).notBefore n0 := by
  unfold execRateCommandRepeat
  first
    | (simp (maxDischargeDepth := 30) +contextual only [State.modKerf_notBefore, State.upTo_notBefore, State.send_notBefore, stateOf_next, stateOf_ite, State.notBefore_mk, State.notBefore_fold, State.notBefore_forAll, State.notBefore_foldl, State.notBefore_ite, ite_self, implies_true, h]; done)
    | ((try dsimp only); (repeat' split) <;> first | (simp (maxDischargeDepth := 30) +contextual only [State.modKerf_notBefore, State.upTo_notBefore, State.send_notBefore, stateOf_next, stateOf_ite, State.notBefore_mk, State.notBefore_fold, State.notBefore_forAll, State.notBefore_foldl, State.notBefore_ite, ite_self, implies_true, h]; done) | (simp_all (maxDischargeDepth := 30) only [State.modKerf_notBefore, State.upTo_notBefore, State.send_notBefore, stateOf_next, stateOf_ite, State.notBefore_mk, State.notBefore_fold, State.notBefore_forAll, State.notBefore_foldl, State.notBefore_ite, ite_self, implies_true, h]; done))

theorem State.issue_notBefore (n0 : Nat) (s : State) (p : PortalIx) (j : Judged) (frame reaches : Bool) (h : s.notBefore n0) :
    (State.issue s p j frame reaches).notBefore n0 :=
  (State.notBefore_mask n0 (State.issue_mask _ _ _ _ _ _ rfl rfl rfl rfl)).2 h

theorem State.verdictLate_notBefore (n0 : Nat) (s : State) (p : PortalIx) (rest : List Judged) (h : s.notBefore n0) :
    (State.verdictLate s p rest).notBefore n0 :=
  (State.notBefore_mask n0 (State.verdictLate_mask _ _ _ _ rfl)).2 h

theorem execVerdictLate_notBefore (n0 : Nat) (p : PortalIx) (s : State) (h : s.notBefore n0) :
    (stateOf s (execVerdictLate p s)).notBefore n0 := by
  unfold execVerdictLate
  first
    | (simp (maxDischargeDepth := 30) +contextual only [State.upTo_notBefore, State.verdictLate_notBefore, stateOf_next, stateOf_ite, State.notBefore_forAll, State.notBefore_foldl, State.notBefore_ite, ite_self, implies_true, h]; done)
    | ((try dsimp only); (repeat' split) <;> first | (simp (maxDischargeDepth := 30) +contextual only [State.upTo_notBefore, State.verdictLate_notBefore, stateOf_next, stateOf_ite, State.notBefore_forAll, State.notBefore_foldl, State.notBefore_ite, ite_self, implies_true, h]; done) | (simp_all (maxDischargeDepth := 30) only [State.upTo_notBefore, State.verdictLate_notBefore, stateOf_next, stateOf_ite, State.notBefore_forAll, State.notBefore_foldl, State.notBefore_ite, ite_self, implies_true, h]; done))

theorem execSilentExpiry_notBefore (n0 : Nat) (p : PortalIx) (s : State) (h : s.notBefore n0) :
    (stateOf s (execSilentExpiry p s)).notBefore n0 := by
  unfold execSilentExpiry
  first
    | (simp (maxDischargeDepth := 30) +contextual only [State.modKerf_notBefore, State.upTo_notBefore, State.issue_notBefore, stateOf_next, stateOf_ite, State.notBefore_forAll, State.notBefore_foldl, State.notBefore_ite, ite_self, implies_true, h]; done)
    | ((try dsimp only); (repeat' split) <;> first | (simp (maxDischargeDepth := 30) +contextual only [State.modKerf_notBefore, State.upTo_notBefore, State.issue_notBefore, stateOf_next, stateOf_ite, State.notBefore_forAll, State.notBefore_foldl, State.notBefore_ite, ite_self, implies_true, h]; done) | (simp_all (maxDischargeDepth := 30) only [State.modKerf_notBefore, State.upTo_notBefore, State.issue_notBefore, stateOf_next, stateOf_ite, State.notBefore_forAll, State.notBefore_foldl, State.notBefore_ite, ite_self, implies_true, h]; done))

theorem execOvrmaxExpiry_notBefore (n0 : Nat) (p : PortalIx) (s : State) (h : s.notBefore n0) :
    (stateOf s (execOvrmaxExpiry p s)).notBefore n0 := by
  unfold execOvrmaxExpiry
  first
    | (simp (maxDischargeDepth := 30) +contextual only [State.modKerf_notBefore, State.upTo_notBefore, State.kcondEval_notBefore, stateOf_next, stateOf_ite, State.notBefore_forAll, State.notBefore_foldl, State.notBefore_ite, ite_self, implies_true, h]; done)
    | ((try dsimp only); (repeat' split) <;> first | (simp (maxDischargeDepth := 30) +contextual only [State.modKerf_notBefore, State.upTo_notBefore, State.kcondEval_notBefore, stateOf_next, stateOf_ite, State.notBefore_forAll, State.notBefore_foldl, State.notBefore_ite, ite_self, implies_true, h]; done) | (simp_all (maxDischargeDepth := 30) only [State.modKerf_notBefore, State.upTo_notBefore, State.kcondEval_notBefore, stateOf_next, stateOf_ite, State.notBefore_forAll, State.notBefore_foldl, State.notBefore_ite, ite_self, implies_true, h]; done))

theorem execOvrstuckClear_notBefore (n0 : Nat) (p : PortalIx) (s : State) (h : s.notBefore n0) :
    (stateOf s (execOvrstuckClear p s)).notBefore n0 := by
  unfold execOvrstuckClear
  first
    | (simp (maxDischargeDepth := 30) +contextual only [State.modKerf_notBefore, State.upTo_notBefore, State.kcondEval_notBefore, stateOf_next, stateOf_ite, State.notBefore_forAll, State.notBefore_foldl, State.notBefore_ite, ite_self, implies_true, h]; done)
    | ((try dsimp only); (repeat' split) <;> first | (simp (maxDischargeDepth := 30) +contextual only [State.modKerf_notBefore, State.upTo_notBefore, State.kcondEval_notBefore, stateOf_next, stateOf_ite, State.notBefore_forAll, State.notBefore_foldl, State.notBefore_ite, ite_self, implies_true, h]; done) | (simp_all (maxDischargeDepth := 30) only [State.modKerf_notBefore, State.upTo_notBefore, State.kcondEval_notBefore, stateOf_next, stateOf_ite, State.notBefore_forAll, State.notBefore_foldl, State.notBefore_ite, ite_self, implies_true, h]; done))

theorem execOltestComplete_notBefore (n0 : Nat) (c : ChanIx) (above : Bool) (s : State) (h : s.notBefore n0) :
    (stateOf s (execOltestComplete c above s)).notBefore n0 := by
  unfold execOltestComplete
  first
    | (simp (maxDischargeDepth := 30) +contextual only [State.modLs_notBefore, State.upTo_notBefore, State.lsEval_notBefore, stateOf_next, stateOf_ite, State.notBefore_forAll, State.notBefore_foldl, State.notBefore_ite, ite_self, implies_true, h]; done)
    | ((try dsimp only); (repeat' split) <;> first | (simp (maxDischargeDepth := 30) +contextual only [State.modLs_notBefore, State.upTo_notBefore, State.lsEval_notBefore, stateOf_next, stateOf_ite, State.notBefore_forAll, State.notBefore_foldl, State.notBefore_ite, ite_self, implies_true, h]; done) | (simp_all (maxDischargeDepth := 30) only [State.modLs_notBefore, State.upTo_notBefore, State.lsEval_notBefore, stateOf_next, stateOf_ite, State.notBefore_forAll, State.notBefore_foldl, State.notBefore_ite, ite_self, implies_true, h]; done))

theorem State.lsAttempt_notBefore (n0 : Nat) (s : State) (c : ChanIx) (h : s.notBefore n0) :
    (State.lsAttempt s c).notBefore n0 :=
  (State.notBefore_mask n0 (State.lsAttempt_mask _ _ _ rfl rfl)).2 h

theorem execLsRetry_notBefore (n0 : Nat) (c : ChanIx) (s : State) (h : s.notBefore n0) :
    (stateOf s (execLsRetry c s)).notBefore n0 := by
  unfold execLsRetry
  first
    | (simp (maxDischargeDepth := 30) +contextual only [State.upTo_notBefore, State.lsAttempt_notBefore, stateOf_next, stateOf_ite, State.notBefore_forAll, State.notBefore_foldl, State.notBefore_ite, ite_self, implies_true, h]; done)
    | ((try dsimp only); (repeat' split) <;> first | (simp (maxDischargeDepth := 30) +contextual only [State.upTo_notBefore, State.lsAttempt_notBefore, stateOf_next, stateOf_ite, State.notBefore_forAll, State.notBefore_foldl, State.notBefore_ite, ite_self, implies_true, h]; done) | (simp_all (maxDischargeDepth := 30) only [State.upTo_notBefore, State.lsAttempt_notBefore, stateOf_next, stateOf_ite, State.notBefore_forAll, State.notBefore_foldl, State.notBefore_ite, ite_self, implies_true, h]; done))

theorem execLsRetryCounterReset_notBefore (n0 : Nat) (c : ChanIx) (s : State) (h : s.notBefore n0) :
    (stateOf s (execLsRetryCounterReset c s)).notBefore n0 := by
  unfold execLsRetryCounterReset
  first
    | (simp (maxDischargeDepth := 30) +contextual only [State.modLs_notBefore, State.upTo_notBefore, stateOf_next, stateOf_ite, State.notBefore_forAll, State.notBefore_foldl, State.notBefore_ite, ite_self, implies_true, h]; done)
    | ((try dsimp only); (repeat' split) <;> first | (simp (maxDischargeDepth := 30) +contextual only [State.modLs_notBefore, State.upTo_notBefore, stateOf_next, stateOf_ite, State.notBefore_forAll, State.notBefore_foldl, State.notBefore_ite, ite_self, implies_true, h]; done) | (simp_all (maxDischargeDepth := 30) only [State.modLs_notBefore, State.upTo_notBefore, stateOf_next, stateOf_ite, State.notBefore_forAll, State.notBefore_foldl, State.notBefore_ite, ite_self, implies_true, h]; done))

theorem execChokerLeak_notBefore (n0 : Nat) (s : State) (h : s.notBefore n0) :
    (stateOf s (execChokerLeak s)).notBefore n0 := by
  unfold execChokerLeak
  first
    | (simp (maxDischargeDepth := 30) +contextual only [State.modLs_notBefore, State.upTo_notBefore, stateOf_next, stateOf_ite, State.notBefore_mk, State.notBefore_fold, State.notBefore_forAll, State.notBefore_foldl, State.notBefore_ite, ite_self, implies_true, h]; done)
    | ((try dsimp only); (repeat' split) <;> first | (simp (maxDischargeDepth := 30) +contextual only [State.modLs_notBefore, State.upTo_notBefore, stateOf_next, stateOf_ite, State.notBefore_mk, State.notBefore_fold, State.notBefore_forAll, State.notBefore_foldl, State.notBefore_ite, ite_self, implies_true, h]; done) | (simp_all (maxDischargeDepth := 30) only [State.modLs_notBefore, State.upTo_notBefore, stateOf_next, stateOf_ite, State.notBefore_mk, State.notBefore_fold, State.notBefore_forAll, State.notBefore_foldl, State.notBefore_ite, ite_self, implies_true, h]; done))

theorem State.modMbox_notBefore (n0 : Nat) (s : State) (m : Fin 64) (f : Mailbox → Mailbox) (h : s.notBefore n0) :
    (State.modMbox s m f).notBefore n0 :=
  (State.notBefore_mask n0 (State.modMbox_mask _ _ _ _ rfl)).2 h

theorem State.touch_notBefore (n0 : Nat) (s : State) (req a : Nat) (m : Word) (h : s.notBefore n0) :
    (State.touch s req a m).notBefore n0 :=
  (State.notBefore_mask n0 (State.touch_mask _ _ _ _ _ rfl rfl rfl rfl)).2 h

theorem execAxisUpdate_notBefore (n0 : Nat) (x : AxisIx) (s : State) (h : s.notBefore n0) :
    (stateOf s (execAxisUpdate x s)).notBefore n0 := by
  unfold execAxisUpdate
  first
    | (simp (maxDischargeDepth := 30) +contextual only [State.modAxis_notBefore, State.upTo_notBefore, State.movementEnd_notBefore, State.axisUpdate_notBefore, stateOf_next, stateOf_ite, State.notBefore_forAll, State.notBefore_foldl, State.notBefore_ite, ite_self, implies_true, h]; done)
    | ((try dsimp only); (repeat' split) <;> first | (simp (maxDischargeDepth := 30) +contextual only [State.modAxis_notBefore, State.upTo_notBefore, State.movementEnd_notBefore, State.axisUpdate_notBefore, stateOf_next, stateOf_ite, State.notBefore_forAll, State.notBefore_foldl, State.notBefore_ite, ite_self, implies_true, h]; done) | (simp_all (maxDischargeDepth := 30) only [State.modAxis_notBefore, State.upTo_notBefore, State.movementEnd_notBefore, State.axisUpdate_notBefore, stateOf_next, stateOf_ite, State.notBefore_forAll, State.notBefore_foldl, State.notBefore_ite, ite_self, implies_true, h]; done))

theorem execPlanningPeriod_notBefore (n0 : Nat) (x : AxisIx) (s : State) (h : s.notBefore n0) :
    (stateOf s (execPlanningPeriod x s)).notBefore n0 := by
  unfold execPlanningPeriod
  first
    | (simp (maxDischargeDepth := 30) +contextual only [State.modAxis_notBefore, State.upTo_notBefore, State.planPeriod_notBefore, stateOf_next, stateOf_ite, State.notBefore_forAll, State.notBefore_foldl, State.notBefore_ite, ite_self, implies_true, h]; done)
    | ((try dsimp only); (repeat' split) <;> first | (simp (maxDischargeDepth := 30) +contextual only [State.modAxis_notBefore, State.upTo_notBefore, State.planPeriod_notBefore, stateOf_next, stateOf_ite, State.notBefore_forAll, State.notBefore_foldl, State.notBefore_ite, ite_self, implies_true, h]; done) | (simp_all (maxDischargeDepth := 30) only [State.modAxis_notBefore, State.upTo_notBefore, State.planPeriod_notBefore, stateOf_next, stateOf_ite, State.notBefore_forAll, State.notBefore_foldl, State.notBefore_ite, ite_self, implies_true, h]; done))

theorem execStandstillAtTarget_notBefore (n0 : Nat) (x : AxisIx) (s : State) (h : s.notBefore n0) :
    (stateOf s (execStandstillAtTarget x s)).notBefore n0 := by
  unfold execStandstillAtTarget
  first
    | (simp (maxDischargeDepth := 30) +contextual only [State.modAxis_notBefore, State.upTo_notBefore, State.arrived_notBefore, stateOf_next, stateOf_ite, State.notBefore_forAll, State.notBefore_foldl, State.notBefore_ite, ite_self, implies_true, h]; done)
    | ((try dsimp only); (repeat' split) <;> first | (simp (maxDischargeDepth := 30) +contextual only [State.modAxis_notBefore, State.upTo_notBefore, State.arrived_notBefore, stateOf_next, stateOf_ite, State.notBefore_forAll, State.notBefore_foldl, State.notBefore_ite, ite_self, implies_true, h]; done) | (simp_all (maxDischargeDepth := 30) only [State.modAxis_notBefore, State.upTo_notBefore, State.arrived_notBefore, stateOf_next, stateOf_ite, State.notBefore_forAll, State.notBefore_foldl, State.notBefore_ite, ite_self, implies_true, h]; done))

theorem execWarnMet_notBefore (n0 : Nat) (p : PortalIx) (s : State) (h : s.notBefore n0) :
    (stateOf s (execWarnMet p s)).notBefore n0 := by
  unfold execWarnMet
  first
    | (simp (maxDischargeDepth := 30) +contextual only [State.modAxis_notBefore, State.upTo_notBefore, State.felling_notBefore, stateOf_next, stateOf_ite, State.notBefore_forAll, State.notBefore_foldl, State.notBefore_ite, ite_self, implies_true, h]; done)
    | ((try dsimp only); (repeat' split) <;> first | (simp (maxDischargeDepth := 30) +contextual only [State.modAxis_notBefore, State.upTo_notBefore, State.felling_notBefore, stateOf_next, stateOf_ite, State.notBefore_forAll, State.notBefore_foldl, State.notBefore_ite, ite_self, implies_true, h]; done) | (simp_all (maxDischargeDepth := 30) only [State.modAxis_notBefore, State.upTo_notBefore, State.felling_notBefore, stateOf_next, stateOf_ite, State.notBefore_forAll, State.notBefore_foldl, State.notBefore_ite, ite_self, implies_true, h]; done))

theorem execEndStopFound_notBefore (n0 : Nat) (x : AxisIx) (s : State) (h : s.notBefore n0) :
    (stateOf s (execEndStopFound x s)).notBefore n0 := by
  unfold execEndStopFound
  first
    | (simp (maxDischargeDepth := 30) +contextual only [State.modAxis_notBefore, State.upTo_notBefore, State.movementEnd_notBefore, State.referenced_notBefore, State.homeEval_notBefore, stateOf_next, stateOf_ite, State.notBefore_forAll, State.notBefore_foldl, State.notBefore_ite, ite_self, implies_true, h]; done)
    | ((try dsimp only); (repeat' split) <;> first | (simp (maxDischargeDepth := 30) +contextual only [State.modAxis_notBefore, State.upTo_notBefore, State.movementEnd_notBefore, State.referenced_notBefore, State.homeEval_notBefore, stateOf_next, stateOf_ite, State.notBefore_forAll, State.notBefore_foldl, State.notBefore_ite, ite_self, implies_true, h]; done) | (simp_all (maxDischargeDepth := 30) only [State.modAxis_notBefore, State.upTo_notBefore, State.movementEnd_notBefore, State.referenced_notBefore, State.homeEval_notBefore, stateOf_next, stateOf_ite, State.notBefore_forAll, State.notBefore_foldl, State.notBefore_ite, ite_self, implies_true, h]; done))

theorem execReferenceTimeout_notBefore (n0 : Nat) (x : AxisIx) (s : State) (h : s.notBefore n0) :
    (stateOf s (execReferenceTimeout x s)).notBefore n0 := by
  unfold execReferenceTimeout
  first
    | (simp (maxDischargeDepth := 30) +contextual only [State.modAxis_notBefore, State.upTo_notBefore, State.stopAxis_notBefore, execEndStopFound_notBefore, stateOf_next, stateOf_ite, State.notBefore_forAll, State.notBefore_foldl, State.notBefore_ite, ite_self, implies_true, h]; done)
    | ((try dsimp only); (repeat' split) <;> first | (simp (maxDischargeDepth := 30) +contextual only [State.modAxis_notBefore, State.upTo_notBefore, State.stopAxis_notBefore, execEndStopFound_notBefore, stateOf_next, stateOf_ite, State.notBefore_forAll, State.notBefore_foldl, State.notBefore_ite, ite_self, implies_true, h]; done) | (simp_all (maxDischargeDepth := 30) only [State.modAxis_notBefore, State.upTo_notBefore, State.stopAxis_notBefore, execEndStopFound_notBefore, stateOf_next, stateOf_ite, State.notBefore_forAll, State.notBefore_foldl, State.notBefore_ite, ite_self, implies_true, h]; done))

theorem execBridgesOffInStop_notBefore (n0 : Nat) (x : AxisIx) (s : State) (h : s.notBefore n0) :
    (stateOf s (execBridgesOffInStop x s)).notBefore n0 := by
  unfold execBridgesOffInStop
  first
    | (simp (maxDischargeDepth := 30) +contextual only [State.modAxis_notBefore, State.upTo_notBefore, State.bridgeEval_notBefore, stateOf_next, stateOf_ite, State.notBefore_forAll, State.notBefore_foldl, State.notBefore_ite, ite_self, implies_true, h]; done)
    | ((try dsimp only); (repeat' split) <;> first | (simp (maxDischargeDepth := 30) +contextual only [State.modAxis_notBefore, State.upTo_notBefore, State.bridgeEval_notBefore, stateOf_next, stateOf_ite, State.notBefore_forAll, State.notBefore_foldl, State.notBefore_ite, ite_self, implies_true, h]; done) | (simp_all (maxDischargeDepth := 30) only [State.modAxis_notBefore, State.upTo_notBefore, State.bridgeEval_notBefore, stateOf_next, stateOf_ite, State.notBefore_forAll, State.notBefore_foldl, State.notBefore_ite, ite_self, implies_true, h]; done))

theorem execMoveinhHoldoffEnd_notBefore (n0 : Nat) (p : PortalIx) (s : State) (h : s.notBefore n0) :
    (stateOf s (execMoveinhHoldoffEnd p s)).notBefore n0 := by
  unfold execMoveinhHoldoffEnd
  first
    | (simp (maxDischargeDepth := 30) +contextual only [State.modPortal_notBefore, State.upTo_notBefore, stateOf_next, stateOf_ite, State.notBefore_forAll, State.notBefore_foldl, State.notBefore_ite, ite_self, implies_true, h]; done)
    | ((try dsimp only); (repeat' split) <;> first | (simp (maxDischargeDepth := 30) +contextual only [State.modPortal_notBefore, State.upTo_notBefore, stateOf_next, stateOf_ite, State.notBefore_forAll, State.notBefore_foldl, State.notBefore_ite, ite_self, implies_true, h]; done) | (simp_all (maxDischargeDepth := 30) only [State.modPortal_notBefore, State.upTo_notBefore, stateOf_next, stateOf_ite, State.notBefore_forAll, State.notBefore_foldl, State.notBefore_ite, ite_self, implies_true, h]; done))

theorem execMoveTimeout_notBefore (n0 : Nat) (p : PortalIx) (s : State) (h : s.notBefore n0) :
    (stateOf s (execMoveTimeout p s)).notBefore n0 := by
  unfold execMoveTimeout
  first
    | (simp (maxDischargeDepth := 30) +contextual only [State.upTo_notBefore, State.stopLeaves_notBefore, State.latchObs_notBefore, stateOf_next, stateOf_ite, State.notBefore_forAll, State.notBefore_foldl, State.notBefore_ite, ite_self, implies_true, h]; done)
    | ((try dsimp only); (repeat' split) <;> first | (simp (maxDischargeDepth := 30) +contextual only [State.upTo_notBefore, State.stopLeaves_notBefore, State.latchObs_notBefore, stateOf_next, stateOf_ite, State.notBefore_forAll, State.notBefore_foldl, State.notBefore_ite, ite_self, implies_true, h]; done) | (simp_all (maxDischargeDepth := 30) only [State.upTo_notBefore, State.stopLeaves_notBefore, State.latchObs_notBefore, stateOf_next, stateOf_ite, State.notBefore_forAll, State.notBefore_foldl, State.notBefore_ite, ite_self, implies_true, h]; done))

theorem execUnlockTimeout_notBefore (n0 : Nat) (p : PortalIx) (s : State) (h : s.notBefore n0) :
    (stateOf s (execUnlockTimeout p s)).notBefore n0 := by
  unfold execUnlockTimeout
  first
    | (simp (maxDischargeDepth := 30) +contextual only [State.modPortal_notBefore, State.upTo_notBefore, State.latchObs_notBefore, stateOf_next, stateOf_ite, State.notBefore_forAll, State.notBefore_foldl, State.notBefore_ite, ite_self, implies_true, h]; done)
    | ((try dsimp only); (repeat' split) <;> first | (simp (maxDischargeDepth := 30) +contextual only [State.modPortal_notBefore, State.upTo_notBefore, State.latchObs_notBefore, stateOf_next, stateOf_ite, State.notBefore_forAll, State.notBefore_foldl, State.notBefore_ite, ite_self, implies_true, h]; done) | (simp_all (maxDischargeDepth := 30) only [State.modPortal_notBefore, State.upTo_notBefore, State.latchObs_notBefore, stateOf_next, stateOf_ite, State.notBefore_forAll, State.notBefore_foldl, State.notBefore_ite, ite_self, implies_true, h]; done))

theorem execLockTimeout_notBefore (n0 : Nat) (p : PortalIx) (s : State) (h : s.notBefore n0) :
    (stateOf s (execLockTimeout p s)).notBefore n0 := by
  unfold execLockTimeout
  first
    | (simp (maxDischargeDepth := 30) +contextual only [State.modPortal_notBefore, State.upTo_notBefore, State.latchObs_notBefore, stateOf_next, stateOf_ite, State.notBefore_forAll, State.notBefore_foldl, State.notBefore_ite, ite_self, implies_true, h]; done)
    | ((try dsimp only); (repeat' split) <;> first | (simp (maxDischargeDepth := 30) +contextual only [State.modPortal_notBefore, State.upTo_notBefore, State.latchObs_notBefore, stateOf_next, stateOf_ite, State.notBefore_forAll, State.notBefore_foldl, State.notBefore_ite, ite_self, implies_true, h]; done) | (simp_all (maxDischargeDepth := 30) only [State.modPortal_notBefore, State.upTo_notBefore, State.latchObs_notBefore, stateOf_next, stateOf_ite, State.notBefore_forAll, State.notBefore_foldl, State.notBefore_ite, ite_self, implies_true, h]; done))

theorem execObstacleDetectionTime_notBefore (n0 : Nat) (x : AxisIx) (s : State) (h : s.notBefore n0) :
    (stateOf s (execObstacleDetectionTime x s)).notBefore n0 := by
  unfold execObstacleDetectionTime
  first
    | (simp (maxDischargeDepth := 30) +contextual only [State.upTo_notBefore, State.forceObstacle_notBefore, stateOf_next, stateOf_ite, State.notBefore_forAll, State.notBefore_foldl, State.notBefore_ite, ite_self, implies_true, h]; done)
    | ((try dsimp only); (repeat' split) <;> first | (simp (maxDischargeDepth := 30) +contextual only [State.upTo_notBefore, State.forceObstacle_notBefore, stateOf_next, stateOf_ite, State.notBefore_forAll, State.notBefore_foldl, State.notBefore_ite, ite_self, implies_true, h]; done) | (simp_all (maxDischargeDepth := 30) only [State.upTo_notBefore, State.forceObstacle_notBefore, stateOf_next, stateOf_ite, State.notBefore_forAll, State.notBefore_foldl, State.notBefore_ite, ite_self, implies_true, h]; done))

theorem execEdgeObstacle_notBefore (n0 : Nat) (p : PortalIx) (leafB : Bool) (s : State) (h : s.notBefore n0) :
    (stateOf s (execEdgeObstacle p leafB s)).notBefore n0 := by
  unfold execEdgeObstacle
  first
    | (simp (maxDischargeDepth := 30) +contextual only [State.upTo_notBefore, State.edgeLatch_notBefore, stateOf_next, stateOf_ite, State.notBefore_forAll, State.notBefore_foldl, State.notBefore_ite, ite_self, implies_true, h]; done)
    | ((try dsimp only); (repeat' split) <;> first | (simp (maxDischargeDepth := 30) +contextual only [State.upTo_notBefore, State.edgeLatch_notBefore, stateOf_next, stateOf_ite, State.notBefore_forAll, State.notBefore_foldl, State.notBefore_ite, ite_self, implies_true, h]; done) | (simp_all (maxDischargeDepth := 30) only [State.upTo_notBefore, State.edgeLatch_notBefore, stateOf_next, stateOf_ite, State.notBefore_forAll, State.notBefore_foldl, State.notBefore_ite, ite_self, implies_true, h]; done))

theorem State.pairsInstant_notBefore (n0 : Nat) (s : State) (ch : SafeCh) (fi : BitVec 96) (zs : BitVec 2) (h : s.notBefore n0) :
    (State.pairsInstant s ch fi zs).notBefore n0 :=
  (State.notBefore_mask n0 (State.pairsInstant_mask _ _ _ _ _ rfl)).2 h

theorem State.windowWrite_notBefore (n0 : Nat) (s : State) (h : s.notBefore n0) :
    (State.windowWrite s).notBefore n0 :=
  (State.notBefore_mask n0 (State.windowWrite_mask _ _ rfl)).2 h

theorem State.sdeTest_notBefore (n0 : Nat) (s : State) (ch : SafeCh) (h : s.notBefore n0) :
    (State.sdeTest s ch).notBefore n0 :=
  (State.notBefore_mask n0 (State.sdeTest_mask _ _ _ rfl rfl)).2 h

theorem execGridInstant_notBefore (n0 : Nat) (ch : SafeCh) (fi : BitVec 96) (zs : BitVec 2) (rb : BitVec 6) (s : State) (h : s.notBefore n0) :
    (stateOf s (execGridInstant ch fi zs rb s)).notBefore n0 := by
  unfold execGridInstant
  first
    | (simp (maxDischargeDepth := 30) +contextual only [State.upTo_notBefore, State.modSafe_notBefore, State.sdeEval_notBefore, State.judge_notBefore, State.switchCheck_notBefore, State.pulseJudge_notBefore, State.driveLoops_notBefore, State.egressDrive_notBefore, State.pairsInstant_notBefore, State.windowWrite_notBefore, State.sdeTest_notBefore, stateOf_next, stateOf_ite, State.notBefore_forAll, State.notBefore_foldl, State.notBefore_ite, ite_self, implies_true, h]; done)
    | ((try dsimp only); (repeat' split) <;> first | (simp (maxDischargeDepth := 30) +contextual only [State.upTo_notBefore, State.modSafe_notBefore, State.sdeEval_notBefore, State.judge_notBefore, State.switchCheck_notBefore, State.pulseJudge_notBefore, State.driveLoops_notBefore, State.egressDrive_notBefore, State.pairsInstant_notBefore, State.windowWrite_notBefore, State.sdeTest_notBefore, stateOf_next, stateOf_ite, State.notBefore_forAll, State.notBefore_foldl, State.notBefore_ite, ite_self, implies_true, h]; done) | (simp_all (maxDischargeDepth := 30) only [State.upTo_notBefore, State.modSafe_notBefore, State.sdeEval_notBefore, State.judge_notBefore, State.switchCheck_notBefore, State.pulseJudge_notBefore, State.driveLoops_notBefore, State.egressDrive_notBefore, State.pairsInstant_notBefore, State.windowWrite_notBefore, State.sdeTest_notBefore, stateOf_next, stateOf_ite, State.notBefore_forAll, State.notBefore_foldl, State.notBefore_ite, ite_self, implies_true, h]; done))

theorem execChannelAWatchdog_notBefore (n0 : Nat) (s : State) (h : s.notBefore n0) :
    (stateOf s (execChannelAWatchdog s)).notBefore n0 := by
  unfold execChannelAWatchdog
  first
    | (simp (maxDischargeDepth := 30) +contextual only [State.upTo_notBefore, State.aOwnReset_notBefore, stateOf_next, stateOf_ite, State.notBefore_forAll, State.notBefore_foldl, State.notBefore_ite, ite_self, implies_true, h]; done)
    | ((try dsimp only); (repeat' split) <;> first | (simp (maxDischargeDepth := 30) +contextual only [State.upTo_notBefore, State.aOwnReset_notBefore, stateOf_next, stateOf_ite, State.notBefore_forAll, State.notBefore_foldl, State.notBefore_ite, ite_self, implies_true, h]; done) | (simp_all (maxDischargeDepth := 30) only [State.upTo_notBefore, State.aOwnReset_notBefore, stateOf_next, stateOf_ite, State.notBefore_forAll, State.notBefore_foldl, State.notBefore_ite, ite_self, implies_true, h]; done))

theorem execArsyncExpiry_notBefore (n0 : Nat) (s : State) (h : s.notBefore n0) :
    (stateOf s (execArsyncExpiry s)).notBefore n0 := by
  unfold execArsyncExpiry
  first
    | (simp (maxDischargeDepth := 30) +contextual only [State.upTo_notBefore, State.setMode_notBefore, State.safetyRecord_notBefore, stateOf_next, stateOf_ite, State.notBefore_forAll, State.notBefore_foldl, State.notBefore_ite, ite_self, implies_true, h]; done)
    | ((try dsimp only); (repeat' split) <;> first | (simp (maxDischargeDepth := 30) +contextual only [State.upTo_notBefore, State.setMode_notBefore, State.safetyRecord_notBefore, stateOf_next, stateOf_ite, State.notBefore_forAll, State.notBefore_foldl, State.notBefore_ite, ite_self, implies_true, h]; done) | (simp_all (maxDischargeDepth := 30) only [State.upTo_notBefore, State.setMode_notBefore, State.safetyRecord_notBefore, stateOf_next, stateOf_ite, State.notBefore_forAll, State.notBefore_foldl, State.notBefore_ite, ite_self, implies_true, h]; done))

theorem execDegradedWindowExpiry_notBefore (n0 : Nat) (s : State) (h : s.notBefore n0) :
    (stateOf s (execDegradedWindowExpiry s)).notBefore n0 := by
  unfold execDegradedWindowExpiry
  first
    | (simp (maxDischargeDepth := 30) +contextual only [State.upTo_notBefore, State.modSafe_notBefore, stateOf_next, stateOf_ite, State.notBefore_forAll, State.notBefore_foldl, State.notBefore_ite, ite_self, implies_true, h]; done)
    | ((try dsimp only); (repeat' split) <;> first | (simp (maxDischargeDepth := 30) +contextual only [State.upTo_notBefore, State.modSafe_notBefore, stateOf_next, stateOf_ite, State.notBefore_forAll, State.notBefore_foldl, State.notBefore_ite, ite_self, implies_true, h]; done) | (simp_all (maxDischargeDepth := 30) only [State.upTo_notBefore, State.modSafe_notBefore, stateOf_next, stateOf_ite, State.notBefore_forAll, State.notBefore_foldl, State.notBefore_ite, ite_self, implies_true, h]; done))

theorem execTestGap_notBefore (n0 : Nat) (src : Fin 2) (aDuring aAfter hDuring hAfter : BitVec 96) (s : State) (h : s.notBefore n0) :
    (stateOf s (execTestGap src aDuring aAfter hDuring hAfter s)).notBefore n0 := by
  unfold execTestGap
  first
    | (simp (maxDischargeDepth := 30) +contextual only [State.upTo_notBefore, State.modSafe_notBefore, State.modFio_notBefore, State.groupEval_notBefore, stateOf_next, stateOf_ite, State.notBefore_forAll, State.notBefore_foldl, State.notBefore_ite, ite_self, implies_true, h]; done)
    | ((try dsimp only); (repeat' split) <;> first | (simp (maxDischargeDepth := 30) +contextual only [State.upTo_notBefore, State.modSafe_notBefore, State.modFio_notBefore, State.groupEval_notBefore, stateOf_next, stateOf_ite, State.notBefore_forAll, State.notBefore_foldl, State.notBefore_ite, ite_self, implies_true, h]; done) | (simp_all (maxDischargeDepth := 30) only [State.upTo_notBefore, State.modSafe_notBefore, State.modFio_notBefore, State.groupEval_notBefore, stateOf_next, stateOf_ite, State.notBefore_forAll, State.notBefore_foldl, State.notBefore_ite, ite_self, implies_true, h]; done))

theorem execSwitchTestPulse_notBefore (n0 : Nat) (sw : Fin 4) (opened : Bool) (s : State) (h : s.notBefore n0) :
    (stateOf s (execSwitchTestPulse sw opened s)).notBefore n0 := by
  unfold execSwitchTestPulse
  first
    | (simp (maxDischargeDepth := 30) +contextual only [State.upTo_notBefore, State.modSafe_notBefore, State.pulseJudge_notBefore, stateOf_next, stateOf_ite, State.notBefore_forAll, State.notBefore_foldl, State.notBefore_ite, ite_self, implies_true, h]; done)
    | ((try dsimp only); (repeat' split) <;> first | (simp (maxDischargeDepth := 30) +contextual only [State.upTo_notBefore, State.modSafe_notBefore, State.pulseJudge_notBefore, stateOf_next, stateOf_ite, State.notBefore_forAll, State.notBefore_foldl, State.notBefore_ite, ite_self, implies_true, h]; done) | (simp_all (maxDischargeDepth := 30) only [State.upTo_notBefore, State.modSafe_notBefore, State.pulseJudge_notBefore, stateOf_next, stateOf_ite, State.notBefore_forAll, State.notBefore_foldl, State.notBefore_ite, ite_self, implies_true, h]; done))

theorem State.writeAxis_notBefore (n0 : Nat) (s : State) (a : AxisIx) (off : Nat) (w m : Word) (svc : Bool := false) (h : s.notBefore n0) :
    (State.writeAxis s a off w m svc).notBefore n0 :=
  (State.notBefore_mask n0 (State.writeAxis_mask _ _ _ _ _ _ _ rfl rfl rfl rfl rfl rfl rfl rfl)).2 h

theorem State.writeLoad_notBefore (n0 : Nat) (s : State) (c : ChanIx) (off : Nat) (w m : Word) (h : s.notBefore n0) :
    (State.writeLoad s c off w m).notBefore n0 :=
  (State.notBefore_mask n0 (State.writeLoad_mask _ _ _ _ _ _ rfl rfl rfl rfl)).2 h

theorem State.hitMoves_notBefore (n0 : Nat) (s : State) (a n : Nat) (h : s.notBefore n0) :
    (State.hitMoves s a n).notBefore n0 :=
  (State.notBefore_mask n0 (State.hitMoves_mask _ _ _ _ rfl)).2 h

theorem State.drainAll_notBefore (n0 : Nat) (s : State) (h : s.notBefore n0) :
    (State.drainAll s).notBefore n0 :=
  (State.notBefore_mask n0 (State.drainAll_mask _ _ rfl rfl rfl rfl rfl rfl rfl rfl rfl rfl rfl rfl rfl rfl rfl rfl rfl rfl rfl rfl rfl rfl)).2 h

theorem State.store_notBefore (n0 : Nat) (s : State) (a : Word) (w : Word) (n : Nat) (h : s.notBefore n0) :
    (State.store s a w n).notBefore n0 :=
  (State.notBefore_mask n0 (State.store_mask _ _ _ _ _ rfl rfl rfl rfl rfl rfl rfl rfl rfl rfl rfl rfl rfl rfl rfl rfl rfl rfl rfl rfl rfl rfl)).2 h

theorem State.fetch_notBefore (n0 : Nat) (s : State) (a : Word) (n : Nat) (flt : FabFault) (h : s.notBefore n0) :
    (State.fetch s a n flt).1.notBefore n0 :=
  (State.notBefore_mask n0 (State.fetch_mask _ _ _ _ _ rfl rfl rfl rfl rfl rfl rfl rfl rfl rfl rfl rfl rfl rfl rfl rfl rfl rfl rfl rfl rfl rfl rfl)).2 h

theorem State.illegal_notBefore (n0 : Nat) (s : State) (h : s.notBefore n0) :
    (State.illegal s).notBefore n0 :=
  (State.notBefore_mask n0 (State.illegal_mask _ _ rfl rfl rfl rfl rfl rfl rfl rfl rfl rfl rfl rfl rfl rfl rfl rfl rfl rfl rfl rfl rfl rfl)).2 h

theorem State.noRight_notBefore (n0 : Nat) (s : State) (a : Nat) (h : s.notBefore n0) :
    (State.noRight s a).notBefore n0 :=
  (State.notBefore_mask n0 (State.noRight_mask _ _ _ rfl)).2 h

theorem State.commit_notBefore (n0 : Nat) (s : State) (b : Block) (f : FabFault) (h : s.notBefore n0) :
    (State.commit s b f).1.notBefore n0 :=
  (State.notBefore_mask n0 (State.commit_mask _ _ _ _ rfl rfl rfl rfl rfl rfl rfl rfl rfl)).2 h

theorem State.sendPanels_notBefore (n0 : Nat) (s : State) (h : s.notBefore n0) :
    (State.sendPanels s).notBefore n0 :=
  (State.notBefore_mask n0 (State.sendPanels_mask _ _ rfl)).2 h

theorem State.putHeaders_notBefore (n0 : Nat) (s : State) (h : s.notBefore n0) :
    (State.putHeaders s).notBefore n0 :=
  (State.notBefore_mask n0 (State.putHeaders_mask _ _ rfl)).2 h

theorem State.intervalEnd_notBefore (n0 : Nat) (s : State) (h : s.notBefore n0) :
    (State.intervalEnd s).notBefore n0 :=
  (State.notBefore_mask n0 (State.intervalEnd_mask _ _ rfl rfl rfl rfl rfl rfl rfl rfl)).2 h

theorem State.outputPhase_notBefore (n0 : Nat) (s : State) (h : s.notBefore n0) :
    (State.outputPhase s).notBefore n0 := by
  unfold State.outputPhase
  first
    | (simp (maxDischargeDepth := 30) +contextual only [State.modEng_notBefore, State.used_notBefore, State.pass_notBefore, State.sendPanels_notBefore, State.putHeaders_notBefore, State.intervalEnd_notBefore, State.notBefore_mk, State.notBefore_fold, State.notBefore_forAll, State.notBefore_foldl, State.notBefore_ite, ite_self, implies_true, h]; done)
    | ((try dsimp only); (repeat' split) <;> first | (simp (maxDischargeDepth := 30) +contextual only [State.modEng_notBefore, State.used_notBefore, State.pass_notBefore, State.sendPanels_notBefore, State.putHeaders_notBefore, State.intervalEnd_notBefore, State.notBefore_mk, State.notBefore_fold, State.notBefore_forAll, State.notBefore_foldl, State.notBefore_ite, ite_self, implies_true, h]; done) | (simp_all (maxDischargeDepth := 30) only [State.modEng_notBefore, State.used_notBefore, State.pass_notBefore, State.sendPanels_notBefore, State.putHeaders_notBefore, State.intervalEnd_notBefore, State.notBefore_mk, State.notBefore_fold, State.notBefore_forAll, State.notBefore_foldl, State.notBefore_ite, ite_self, implies_true, h]; done))

theorem execEoc_notBefore (n0 : Nat) (s : State) (h : s.notBefore n0) :
    (stateOf s (execEoc s)).notBefore n0 := by
  unfold execEoc
  first
    | (simp (maxDischargeDepth := 30) +contextual only [State.insn_notBefore, State.drainAll_notBefore, State.illegal_notBefore, State.outputPhase_notBefore, stateOf_next, stateOf_ite, State.notBefore_forAll, State.notBefore_foldl, State.notBefore_ite, ite_self, implies_true, h]; done)
    | ((try dsimp only); (repeat' split) <;> first | (simp (maxDischargeDepth := 30) +contextual only [State.insn_notBefore, State.drainAll_notBefore, State.illegal_notBefore, State.outputPhase_notBefore, stateOf_next, stateOf_ite, State.notBefore_forAll, State.notBefore_foldl, State.notBefore_ite, ite_self, implies_true, h]; done) | (simp_all (maxDischargeDepth := 30) only [State.insn_notBefore, State.drainAll_notBefore, State.illegal_notBefore, State.outputPhase_notBefore, stateOf_next, stateOf_ite, State.notBefore_forAll, State.notBefore_foldl, State.notBefore_ite, ite_self, implies_true, h]; done))

theorem State.inputImage_notBefore (n0 : Nat) (s : State) (h : s.notBefore n0) :
    (State.inputImage s).notBefore n0 :=
  (State.notBefore_mask n0 (State.inputImage_mask _ _ rfl)).2 h

theorem State.panelAges_notBefore (n0 : Nat) (s : State) (h : s.notBefore n0) :
    (State.panelAges s).notBefore n0 :=
  (State.notBefore_mask n0 (State.panelAges_mask _ _ rfl)).2 h

theorem execSnapshot_notBefore (n0 : Nat) (s : State) (h : s.notBefore n0) :
    (stateOf s (execSnapshot s)).notBefore n0 := by
  unfold execSnapshot
  first
    | (simp (maxDischargeDepth := 30) +contextual only [State.modEng_notBefore, State.used_notBefore, State.upTo_notBefore, State.pass_notBefore, State.inputImage_notBefore, State.panelAges_notBefore, stateOf_next, stateOf_ite, State.notBefore_forAll, State.notBefore_foldl, State.notBefore_ite, ite_self, implies_true, h]; done)
    | ((try dsimp only); (repeat' split) <;> first | (simp (maxDischargeDepth := 30) +contextual only [State.modEng_notBefore, State.used_notBefore, State.upTo_notBefore, State.pass_notBefore, State.inputImage_notBefore, State.panelAges_notBefore, stateOf_next, stateOf_ite, State.notBefore_forAll, State.notBefore_foldl, State.notBefore_ite, ite_self, implies_true, h]; done) | (simp_all (maxDischargeDepth := 30) only [State.modEng_notBefore, State.used_notBefore, State.upTo_notBefore, State.pass_notBefore, State.inputImage_notBefore, State.panelAges_notBefore, stateOf_next, stateOf_ite, State.notBefore_forAll, State.notBefore_foldl, State.notBefore_ite, ite_self, implies_true, h]; done))

theorem execPlwaitExpiry_notBefore (n0 : Nat) (s : State) (h : s.notBefore n0) :
    (stateOf s (execPlwaitExpiry s)).notBefore n0 := by
  unfold execPlwaitExpiry
  first
    | (simp (maxDischargeDepth := 30) +contextual only [State.upTo_notBefore, stateOf_next, stateOf_ite, State.notBefore_forAll, State.notBefore_foldl, State.notBefore_ite, ite_self, implies_true, h]; done)
    | ((try dsimp only); (repeat' split) <;> first | (simp (maxDischargeDepth := 30) +contextual only [State.upTo_notBefore, stateOf_next, stateOf_ite, State.notBefore_forAll, State.notBefore_foldl, State.notBefore_ite, ite_self, implies_true, h]; done) | (simp_all (maxDischargeDepth := 30) only [State.upTo_notBefore, stateOf_next, stateOf_ite, State.notBefore_forAll, State.notBefore_foldl, State.notBefore_ite, ite_self, implies_true, h]; done))

theorem execPanelTimeout_notBefore (n0 : Nat) (p : PortalIx) (s : State) (h : s.notBefore n0) :
    (stateOf s (execPanelTimeout p s)).notBefore n0 := by
  unfold execPanelTimeout
  first
    | (simp (maxDischargeDepth := 30) +contextual only [State.modEng_notBefore, State.upTo_notBefore, State.event_notBefore, stateOf_next, stateOf_ite, State.notBefore_forAll, State.notBefore_foldl, State.notBefore_ite, ite_self, implies_true, h]; done)
    | ((try dsimp only); (repeat' split) <;> first | (simp (maxDischargeDepth := 30) +contextual only [State.modEng_notBefore, State.upTo_notBefore, State.event_notBefore, stateOf_next, stateOf_ite, State.notBefore_forAll, State.notBefore_foldl, State.notBefore_ite, ite_self, implies_true, h]; done) | (simp_all (maxDischargeDepth := 30) only [State.modEng_notBefore, State.upTo_notBefore, State.event_notBefore, stateOf_next, stateOf_ite, State.notBefore_forAll, State.notBefore_foldl, State.notBefore_ite, ite_self, implies_true, h]; done))

theorem execPanelFrameRepeat_notBefore (n0 : Nat) (s : State) (h : s.notBefore n0) :
    (stateOf s (execPanelFrameRepeat s)).notBefore n0 := by
  unfold execPanelFrameRepeat
  first
    | (simp (maxDischargeDepth := 30) +contextual only [State.modEng_notBefore, State.upTo_notBefore, State.sendPanels_notBefore, stateOf_next, stateOf_ite, State.notBefore_forAll, State.notBefore_foldl, State.notBefore_ite, ite_self, implies_true, h]; done)
    | ((try dsimp only); (repeat' split) <;> first | (simp (maxDischargeDepth := 30) +contextual only [State.modEng_notBefore, State.upTo_notBefore, State.sendPanels_notBefore, stateOf_next, stateOf_ite, State.notBefore_forAll, State.notBefore_foldl, State.notBefore_ite, ite_self, implies_true, h]; done) | (simp_all (maxDischargeDepth := 30) only [State.modEng_notBefore, State.upTo_notBefore, State.sendPanels_notBefore, stateOf_next, stateOf_ite, State.notBefore_forAll, State.notBefore_foldl, State.notBefore_ite, ite_self, implies_true, h]; done))

theorem execCalloutStart_notBefore (n0 : Nat) (s : State) (h : s.notBefore n0) :
    (stateOf s (execCalloutStart s)).notBefore n0 := by
  unfold execCalloutStart
  first
    | (simp (maxDischargeDepth := 30) +contextual only [State.modEng_notBefore, State.pass_notBefore, stateOf_next, stateOf_ite, State.notBefore_forAll, State.notBefore_foldl, State.notBefore_ite, ite_self, implies_true, h]; done)
    | ((try dsimp only); (repeat' split) <;> first | (simp (maxDischargeDepth := 30) +contextual only [State.modEng_notBefore, State.pass_notBefore, stateOf_next, stateOf_ite, State.notBefore_forAll, State.notBefore_foldl, State.notBefore_ite, ite_self, implies_true, h]; done) | (simp_all (maxDischargeDepth := 30) only [State.modEng_notBefore, State.pass_notBefore, stateOf_next, stateOf_ite, State.notBefore_forAll, State.notBefore_foldl, State.notBefore_ite, ite_self, implies_true, h]; done))

theorem execRetc_notBefore (n0 : Nat) (s : State) (h : s.notBefore n0) :
    (stateOf s (execRetc s)).notBefore n0 := by
  unfold execRetc
  first
    | (simp (maxDischargeDepth := 30) +contextual only [State.modEng_notBefore, State.insn_notBefore, State.illegal_notBefore, stateOf_next, stateOf_ite, State.notBefore_forAll, State.notBefore_foldl, State.notBefore_ite, ite_self, implies_true, h]; done)
    | ((try dsimp only); (repeat' split) <;> first | (simp (maxDischargeDepth := 30) +contextual only [State.modEng_notBefore, State.insn_notBefore, State.illegal_notBefore, stateOf_next, stateOf_ite, State.notBefore_forAll, State.notBefore_foldl, State.notBefore_ite, ite_self, implies_true, h]; done) | (simp_all (maxDischargeDepth := 30) only [State.modEng_notBefore, State.insn_notBefore, State.illegal_notBefore, stateOf_next, stateOf_ite, State.notBefore_forAll, State.notBefore_foldl, State.notBefore_ite, ite_self, implies_true, h]; done))

theorem execCycleWatchdogExpiry_notBefore (n0 : Nat) (s : State) (h : s.notBefore n0) :
    (stateOf s (execCycleWatchdogExpiry s)).notBefore n0 := by
  unfold execCycleWatchdogExpiry
  first
    | (simp (maxDischargeDepth := 30) +contextual only [State.upTo_notBefore, State.enterStop_notBefore, State.drainAll_notBefore, stateOf_next, stateOf_ite, State.notBefore_forAll, State.notBefore_foldl, State.notBefore_ite, ite_self, implies_true, h]; done)
    | ((try dsimp only); (repeat' split) <;> first | (simp (maxDischargeDepth := 30) +contextual only [State.upTo_notBefore, State.enterStop_notBefore, State.drainAll_notBefore, stateOf_next, stateOf_ite, State.notBefore_forAll, State.notBefore_foldl, State.notBefore_ite, ite_self, implies_true, h]; done) | (simp_all (maxDischargeDepth := 30) only [State.upTo_notBefore, State.enterStop_notBefore, State.drainAll_notBefore, stateOf_next, stateOf_ite, State.notBefore_forAll, State.notBefore_foldl, State.notBefore_ite, ite_self, implies_true, h]; done))

theorem execAutomaticRestart_notBefore (n0 : Nat) (s : State) (h : s.notBefore n0) :
    (stateOf s (execAutomaticRestart s)).notBefore n0 := by
  unfold execAutomaticRestart
  first
    | (simp (maxDischargeDepth := 30) +contextual only [State.modEng_notBefore, State.upTo_notBefore, State.enterRun_notBefore, State.drainAll_notBefore, stateOf_next, stateOf_ite, State.notBefore_forAll, State.notBefore_foldl, State.notBefore_ite, ite_self, implies_true, h]; done)
    | ((try dsimp only); (repeat' split) <;> first | (simp (maxDischargeDepth := 30) +contextual only [State.modEng_notBefore, State.upTo_notBefore, State.enterRun_notBefore, State.drainAll_notBefore, stateOf_next, stateOf_ite, State.notBefore_forAll, State.notBefore_foldl, State.notBefore_ite, ite_self, implies_true, h]; done) | (simp_all (maxDischargeDepth := 30) only [State.modEng_notBefore, State.upTo_notBefore, State.enterRun_notBefore, State.drainAll_notBefore, stateOf_next, stateOf_ite, State.notBefore_forAll, State.notBefore_foldl, State.notBefore_ite, ite_self, implies_true, h]; done))

theorem execSerialRequest_notBefore (n0 : Nat) (x : AxisIx) (s : State) (h : s.notBefore n0) :
    (stateOf s (execSerialRequest x s)).notBefore n0 := by
  unfold execSerialRequest
  first
    | (simp (maxDischargeDepth := 30) +contextual only [State.modAxis_notBefore, State.upTo_notBefore, stateOf_next, stateOf_ite, State.notBefore_forAll, State.notBefore_foldl, State.notBefore_ite, ite_self, implies_true, h]; done)
    | ((try dsimp only); (repeat' split) <;> first | (simp (maxDischargeDepth := 30) +contextual only [State.modAxis_notBefore, State.upTo_notBefore, stateOf_next, stateOf_ite, State.notBefore_forAll, State.notBefore_foldl, State.notBefore_ite, ite_self, implies_true, h]; done) | (simp_all (maxDischargeDepth := 30) only [State.modAxis_notBefore, State.upTo_notBefore, stateOf_next, stateOf_ite, State.notBefore_forAll, State.notBefore_foldl, State.notBefore_ite, ite_self, implies_true, h]; done))

theorem execFeedbackStandstill_notBefore (n0 : Nat) (x : AxisIx) (s : State) (h : s.notBefore n0) :
    (stateOf s (execFeedbackStandstill x s)).notBefore n0 := by
  unfold execFeedbackStandstill
  first
    | (simp (maxDischargeDepth := 30) +contextual only [State.modAxis_notBefore, State.upTo_notBefore, State.standstill_notBefore, stateOf_next, stateOf_ite, State.notBefore_forAll, State.notBefore_foldl, State.notBefore_ite, ite_self, implies_true, h]; done)
    | ((try dsimp only); (repeat' split) <;> first | (simp (maxDischargeDepth := 30) +contextual only [State.modAxis_notBefore, State.upTo_notBefore, State.standstill_notBefore, stateOf_next, stateOf_ite, State.notBefore_forAll, State.notBefore_foldl, State.notBefore_ite, ite_self, implies_true, h]; done) | (simp_all (maxDischargeDepth := 30) only [State.modAxis_notBefore, State.upTo_notBefore, State.standstill_notBefore, stateOf_next, stateOf_ite, State.notBefore_forAll, State.notBefore_foldl, State.notBefore_ite, ite_self, implies_true, h]; done))

theorem execComparePulseEnd_notBefore (n0 : Nat) (p : PortalIx) (s : State) (h : s.notBefore n0) :
    (stateOf s (execComparePulseEnd p s)).notBefore n0 := by
  unfold execComparePulseEnd
  first
    | (simp (maxDischargeDepth := 30) +contextual only [State.modPortal_notBefore, State.upTo_notBefore, stateOf_next, stateOf_ite, State.notBefore_forAll, State.notBefore_foldl, State.notBefore_ite, ite_self, implies_true, h]; done)
    | ((try dsimp only); (repeat' split) <;> first | (simp (maxDischargeDepth := 30) +contextual only [State.modPortal_notBefore, State.upTo_notBefore, stateOf_next, stateOf_ite, State.notBefore_forAll, State.notBefore_foldl, State.notBefore_ite, ite_self, implies_true, h]; done) | (simp_all (maxDischargeDepth := 30) only [State.modPortal_notBefore, State.upTo_notBefore, stateOf_next, stateOf_ite, State.notBefore_forAll, State.notBefore_foldl, State.notBefore_ite, ite_self, implies_true, h]; done))

theorem execAdd_notBefore (n0 : Nat) (d a b : Reg) (s : State) (h : s.notBefore n0) :
    (stateOf s (execAdd d a b s)).notBefore n0 := by
  unfold execAdd
  first
    | (simp (maxDischargeDepth := 30) +contextual only [State.alu_notBefore, stateOf_next, stateOf_ite, State.notBefore_forAll, State.notBefore_foldl, State.notBefore_ite, ite_self, implies_true, h]; done)
    | ((try dsimp only); (repeat' split) <;> first | (simp (maxDischargeDepth := 30) +contextual only [State.alu_notBefore, stateOf_next, stateOf_ite, State.notBefore_forAll, State.notBefore_foldl, State.notBefore_ite, ite_self, implies_true, h]; done) | (simp_all (maxDischargeDepth := 30) only [State.alu_notBefore, stateOf_next, stateOf_ite, State.notBefore_forAll, State.notBefore_foldl, State.notBefore_ite, ite_self, implies_true, h]; done))

theorem execAdc_notBefore (n0 : Nat) (d a b : Reg) (s : State) (h : s.notBefore n0) :
    (stateOf s (execAdc d a b s)).notBefore n0 := by
  unfold execAdc
  first
    | (simp (maxDischargeDepth := 30) +contextual only [State.alu_notBefore, stateOf_next, stateOf_ite, State.notBefore_forAll, State.notBefore_foldl, State.notBefore_ite, ite_self, implies_true, h]; done)
    | ((try dsimp only); (repeat' split) <;> first | (simp (maxDischargeDepth := 30) +contextual only [State.alu_notBefore, stateOf_next, stateOf_ite, State.notBefore_forAll, State.notBefore_foldl, State.notBefore_ite, ite_self, implies_true, h]; done) | (simp_all (maxDischargeDepth := 30) only [State.alu_notBefore, stateOf_next, stateOf_ite, State.notBefore_forAll, State.notBefore_foldl, State.notBefore_ite, ite_self, implies_true, h]; done))

theorem execSub_notBefore (n0 : Nat) (d a b : Reg) (s : State) (h : s.notBefore n0) :
    (stateOf s (execSub d a b s)).notBefore n0 := by
  unfold execSub
  first
    | (simp (maxDischargeDepth := 30) +contextual only [State.alu_notBefore, stateOf_next, stateOf_ite, State.notBefore_forAll, State.notBefore_foldl, State.notBefore_ite, ite_self, implies_true, h]; done)
    | ((try dsimp only); (repeat' split) <;> first | (simp (maxDischargeDepth := 30) +contextual only [State.alu_notBefore, stateOf_next, stateOf_ite, State.notBefore_forAll, State.notBefore_foldl, State.notBefore_ite, ite_self, implies_true, h]; done) | (simp_all (maxDischargeDepth := 30) only [State.alu_notBefore, stateOf_next, stateOf_ite, State.notBefore_forAll, State.notBefore_foldl, State.notBefore_ite, ite_self, implies_true, h]; done))

theorem execSbc_notBefore (n0 : Nat) (d a b : Reg) (s : State) (h : s.notBefore n0) :
    (stateOf s (execSbc d a b s)).notBefore n0 := by
  unfold execSbc
  first
    | (simp (maxDischargeDepth := 30) +contextual only [State.alu_notBefore, stateOf_next, stateOf_ite, State.notBefore_forAll, State.notBefore_foldl, State.notBefore_ite, ite_self, implies_true, h]; done)
    | ((try dsimp only); (repeat' split) <;> first | (simp (maxDischargeDepth := 30) +contextual only [State.alu_notBefore, stateOf_next, stateOf_ite, State.notBefore_forAll, State.notBefore_foldl, State.notBefore_ite, ite_self, implies_true, h]; done) | (simp_all (maxDischargeDepth := 30) only [State.alu_notBefore, stateOf_next, stateOf_ite, State.notBefore_forAll, State.notBefore_foldl, State.notBefore_ite, ite_self, implies_true, h]; done))

theorem execCmp_notBefore (n0 : Nat) (a b : Reg) (s : State) (h : s.notBefore n0) :
    (stateOf s (execCmp a b s)).notBefore n0 := by
  unfold execCmp
  first
    | (simp (maxDischargeDepth := 30) +contextual only [State.bankOp_notBefore, stateOf_next, stateOf_ite, State.notBefore_forAll, State.notBefore_foldl, State.notBefore_ite, ite_self, implies_true, h]; done)
    | ((try dsimp only); (repeat' split) <;> first | (simp (maxDischargeDepth := 30) +contextual only [State.bankOp_notBefore, stateOf_next, stateOf_ite, State.notBefore_forAll, State.notBefore_foldl, State.notBefore_ite, ite_self, implies_true, h]; done) | (simp_all (maxDischargeDepth := 30) only [State.bankOp_notBefore, stateOf_next, stateOf_ite, State.notBefore_forAll, State.notBefore_foldl, State.notBefore_ite, ite_self, implies_true, h]; done))

theorem execNeg_notBefore (n0 : Nat) (d a : Reg) (s : State) (h : s.notBefore n0) :
    (stateOf s (execNeg d a s)).notBefore n0 := by
  unfold execNeg
  first
    | (simp (maxDischargeDepth := 30) +contextual only [State.bankOp_notBefore, stateOf_next, stateOf_ite, State.notBefore_forAll, State.notBefore_foldl, State.notBefore_ite, ite_self, implies_true, h]; done)
    | ((try dsimp only); (repeat' split) <;> first | (simp (maxDischargeDepth := 30) +contextual only [State.bankOp_notBefore, stateOf_next, stateOf_ite, State.notBefore_forAll, State.notBefore_foldl, State.notBefore_ite, ite_self, implies_true, h]; done) | (simp_all (maxDischargeDepth := 30) only [State.bankOp_notBefore, stateOf_next, stateOf_ite, State.notBefore_forAll, State.notBefore_foldl, State.notBefore_ite, ite_self, implies_true, h]; done))

theorem execAnd_notBefore (n0 : Nat) (d a b : Reg) (s : State) (h : s.notBefore n0) :
    (stateOf s (execAnd d a b s)).notBefore n0 := by
  unfold execAnd
  first
    | (simp (maxDischargeDepth := 30) +contextual only [State.logic_notBefore, stateOf_next, stateOf_ite, State.notBefore_forAll, State.notBefore_foldl, State.notBefore_ite, ite_self, implies_true, h]; done)
    | ((try dsimp only); (repeat' split) <;> first | (simp (maxDischargeDepth := 30) +contextual only [State.logic_notBefore, stateOf_next, stateOf_ite, State.notBefore_forAll, State.notBefore_foldl, State.notBefore_ite, ite_self, implies_true, h]; done) | (simp_all (maxDischargeDepth := 30) only [State.logic_notBefore, stateOf_next, stateOf_ite, State.notBefore_forAll, State.notBefore_foldl, State.notBefore_ite, ite_self, implies_true, h]; done))

theorem execOr_notBefore (n0 : Nat) (d a b : Reg) (s : State) (h : s.notBefore n0) :
    (stateOf s (execOr d a b s)).notBefore n0 := by
  unfold execOr
  first
    | (simp (maxDischargeDepth := 30) +contextual only [State.logic_notBefore, stateOf_next, stateOf_ite, State.notBefore_forAll, State.notBefore_foldl, State.notBefore_ite, ite_self, implies_true, h]; done)
    | ((try dsimp only); (repeat' split) <;> first | (simp (maxDischargeDepth := 30) +contextual only [State.logic_notBefore, stateOf_next, stateOf_ite, State.notBefore_forAll, State.notBefore_foldl, State.notBefore_ite, ite_self, implies_true, h]; done) | (simp_all (maxDischargeDepth := 30) only [State.logic_notBefore, stateOf_next, stateOf_ite, State.notBefore_forAll, State.notBefore_foldl, State.notBefore_ite, ite_self, implies_true, h]; done))

theorem execXor_notBefore (n0 : Nat) (d a b : Reg) (s : State) (h : s.notBefore n0) :
    (stateOf s (execXor d a b s)).notBefore n0 := by
  unfold execXor
  first
    | (simp (maxDischargeDepth := 30) +contextual only [State.logic_notBefore, stateOf_next, stateOf_ite, State.notBefore_forAll, State.notBefore_foldl, State.notBefore_ite, ite_self, implies_true, h]; done)
    | ((try dsimp only); (repeat' split) <;> first | (simp (maxDischargeDepth := 30) +contextual only [State.logic_notBefore, stateOf_next, stateOf_ite, State.notBefore_forAll, State.notBefore_foldl, State.notBefore_ite, ite_self, implies_true, h]; done) | (simp_all (maxDischargeDepth := 30) only [State.logic_notBefore, stateOf_next, stateOf_ite, State.notBefore_forAll, State.notBefore_foldl, State.notBefore_ite, ite_self, implies_true, h]; done))

theorem execAndn_notBefore (n0 : Nat) (d a b : Reg) (s : State) (h : s.notBefore n0) :
    (stateOf s (execAndn d a b s)).notBefore n0 := by
  unfold execAndn
  first
    | (simp (maxDischargeDepth := 30) +contextual only [State.logic_notBefore, stateOf_next, stateOf_ite, State.notBefore_forAll, State.notBefore_foldl, State.notBefore_ite, ite_self, implies_true, h]; done)
    | ((try dsimp only); (repeat' split) <;> first | (simp (maxDischargeDepth := 30) +contextual only [State.logic_notBefore, stateOf_next, stateOf_ite, State.notBefore_forAll, State.notBefore_foldl, State.notBefore_ite, ite_self, implies_true, h]; done) | (simp_all (maxDischargeDepth := 30) only [State.logic_notBefore, stateOf_next, stateOf_ite, State.notBefore_forAll, State.notBefore_foldl, State.notBefore_ite, ite_self, implies_true, h]; done))

theorem execTst_notBefore (n0 : Nat) (a b : Reg) (s : State) (h : s.notBefore n0) :
    (stateOf s (execTst a b s)).notBefore n0 := by
  unfold execTst
  first
    | (simp (maxDischargeDepth := 30) +contextual only [State.bankOp_notBefore, stateOf_next, stateOf_ite, State.notBefore_forAll, State.notBefore_foldl, State.notBefore_ite, ite_self, implies_true, h]; done)
    | ((try dsimp only); (repeat' split) <;> first | (simp (maxDischargeDepth := 30) +contextual only [State.bankOp_notBefore, stateOf_next, stateOf_ite, State.notBefore_forAll, State.notBefore_foldl, State.notBefore_ite, ite_self, implies_true, h]; done) | (simp_all (maxDischargeDepth := 30) only [State.bankOp_notBefore, stateOf_next, stateOf_ite, State.notBefore_forAll, State.notBefore_foldl, State.notBefore_ite, ite_self, implies_true, h]; done))

theorem execNot_notBefore (n0 : Nat) (d a : Reg) (s : State) (h : s.notBefore n0) :
    (stateOf s (execNot d a s)).notBefore n0 := by
  unfold execNot
  first
    | (simp (maxDischargeDepth := 30) +contextual only [State.bankOp_notBefore, stateOf_next, stateOf_ite, State.notBefore_forAll, State.notBefore_foldl, State.notBefore_ite, ite_self, implies_true, h]; done)
    | ((try dsimp only); (repeat' split) <;> first | (simp (maxDischargeDepth := 30) +contextual only [State.bankOp_notBefore, stateOf_next, stateOf_ite, State.notBefore_forAll, State.notBefore_foldl, State.notBefore_ite, ite_self, implies_true, h]; done) | (simp_all (maxDischargeDepth := 30) only [State.bankOp_notBefore, stateOf_next, stateOf_ite, State.notBefore_forAll, State.notBefore_foldl, State.notBefore_ite, ite_self, implies_true, h]; done))

theorem execMov_notBefore (n0 : Nat) (d a : Reg) (s : State) (h : s.notBefore n0) :
    (stateOf s (execMov d a s)).notBefore n0 := by
  unfold execMov
  first
    | (simp (maxDischargeDepth := 30) +contextual only [State.bankOp_notBefore, stateOf_next, stateOf_ite, State.notBefore_forAll, State.notBefore_foldl, State.notBefore_ite, ite_self, implies_true, h]; done)
    | ((try dsimp only); (repeat' split) <;> first | (simp (maxDischargeDepth := 30) +contextual only [State.bankOp_notBefore, stateOf_next, stateOf_ite, State.notBefore_forAll, State.notBefore_foldl, State.notBefore_ite, ite_self, implies_true, h]; done) | (simp_all (maxDischargeDepth := 30) only [State.bankOp_notBefore, stateOf_next, stateOf_ite, State.notBefore_forAll, State.notBefore_foldl, State.notBefore_ite, ite_self, implies_true, h]; done))

theorem execSel_notBefore (n0 : Nat) (d a b : Reg) (s : State) (h : s.notBefore n0) :
    (stateOf s (execSel d a b s)).notBefore n0 := by
  unfold execSel
  first
    | (simp (maxDischargeDepth := 30) +contextual only [State.bankOp_notBefore, stateOf_next, stateOf_ite, State.notBefore_forAll, State.notBefore_foldl, State.notBefore_ite, ite_self, implies_true, h]; done)
    | ((try dsimp only); (repeat' split) <;> first | (simp (maxDischargeDepth := 30) +contextual only [State.bankOp_notBefore, stateOf_next, stateOf_ite, State.notBefore_forAll, State.notBefore_foldl, State.notBefore_ite, ite_self, implies_true, h]; done) | (simp_all (maxDischargeDepth := 30) only [State.bankOp_notBefore, stateOf_next, stateOf_ite, State.notBefore_forAll, State.notBefore_foldl, State.notBefore_ite, ite_self, implies_true, h]; done))

theorem execShl_notBefore (n0 : Nat) (d a b : Reg) (s : State) (h : s.notBefore n0) :
    (stateOf s (execShl d a b s)).notBefore n0 := by
  unfold execShl
  first
    | (simp (maxDischargeDepth := 30) +contextual only [State.shiftOp_notBefore, stateOf_next, stateOf_ite, State.notBefore_forAll, State.notBefore_foldl, State.notBefore_ite, ite_self, implies_true, h]; done)
    | ((try dsimp only); (repeat' split) <;> first | (simp (maxDischargeDepth := 30) +contextual only [State.shiftOp_notBefore, stateOf_next, stateOf_ite, State.notBefore_forAll, State.notBefore_foldl, State.notBefore_ite, ite_self, implies_true, h]; done) | (simp_all (maxDischargeDepth := 30) only [State.shiftOp_notBefore, stateOf_next, stateOf_ite, State.notBefore_forAll, State.notBefore_foldl, State.notBefore_ite, ite_self, implies_true, h]; done))

theorem execShr_notBefore (n0 : Nat) (d a b : Reg) (s : State) (h : s.notBefore n0) :
    (stateOf s (execShr d a b s)).notBefore n0 := by
  unfold execShr
  first
    | (simp (maxDischargeDepth := 30) +contextual only [State.shiftOp_notBefore, stateOf_next, stateOf_ite, State.notBefore_forAll, State.notBefore_foldl, State.notBefore_ite, ite_self, implies_true, h]; done)
    | ((try dsimp only); (repeat' split) <;> first | (simp (maxDischargeDepth := 30) +contextual only [State.shiftOp_notBefore, stateOf_next, stateOf_ite, State.notBefore_forAll, State.notBefore_foldl, State.notBefore_ite, ite_self, implies_true, h]; done) | (simp_all (maxDischargeDepth := 30) only [State.shiftOp_notBefore, stateOf_next, stateOf_ite, State.notBefore_forAll, State.notBefore_foldl, State.notBefore_ite, ite_self, implies_true, h]; done))

theorem execSar_notBefore (n0 : Nat) (d a b : Reg) (s : State) (h : s.notBefore n0) :
    (stateOf s (execSar d a b s)).notBefore n0 := by
  unfold execSar
  first
    | (simp (maxDischargeDepth := 30) +contextual only [State.shiftOp_notBefore, stateOf_next, stateOf_ite, State.notBefore_forAll, State.notBefore_foldl, State.notBefore_ite, ite_self, implies_true, h]; done)
    | ((try dsimp only); (repeat' split) <;> first | (simp (maxDischargeDepth := 30) +contextual only [State.shiftOp_notBefore, stateOf_next, stateOf_ite, State.notBefore_forAll, State.notBefore_foldl, State.notBefore_ite, ite_self, implies_true, h]; done) | (simp_all (maxDischargeDepth := 30) only [State.shiftOp_notBefore, stateOf_next, stateOf_ite, State.notBefore_forAll, State.notBefore_foldl, State.notBefore_ite, ite_self, implies_true, h]; done))

theorem execRor_notBefore (n0 : Nat) (d a b : Reg) (s : State) (h : s.notBefore n0) :
    (stateOf s (execRor d a b s)).notBefore n0 := by
  unfold execRor
  first
    | (simp (maxDischargeDepth := 30) +contextual only [State.shiftOp_notBefore, stateOf_next, stateOf_ite, State.notBefore_forAll, State.notBefore_foldl, State.notBefore_ite, ite_self, implies_true, h]; done)
    | ((try dsimp only); (repeat' split) <;> first | (simp (maxDischargeDepth := 30) +contextual only [State.shiftOp_notBefore, stateOf_next, stateOf_ite, State.notBefore_forAll, State.notBefore_foldl, State.notBefore_ite, ite_self, implies_true, h]; done) | (simp_all (maxDischargeDepth := 30) only [State.shiftOp_notBefore, stateOf_next, stateOf_ite, State.notBefore_forAll, State.notBefore_foldl, State.notBefore_ite, ite_self, implies_true, h]; done))

theorem execMins_notBefore (n0 : Nat) (d a b : Reg) (s : State) (h : s.notBefore n0) :
    (stateOf s (execMins d a b s)).notBefore n0 := by
  unfold execMins
  first
    | (simp (maxDischargeDepth := 30) +contextual only [State.logic_notBefore, stateOf_next, stateOf_ite, State.notBefore_forAll, State.notBefore_foldl, State.notBefore_ite, ite_self, implies_true, h]; done)
    | ((try dsimp only); (repeat' split) <;> first | (simp (maxDischargeDepth := 30) +contextual only [State.logic_notBefore, stateOf_next, stateOf_ite, State.notBefore_forAll, State.notBefore_foldl, State.notBefore_ite, ite_self, implies_true, h]; done) | (simp_all (maxDischargeDepth := 30) only [State.logic_notBefore, stateOf_next, stateOf_ite, State.notBefore_forAll, State.notBefore_foldl, State.notBefore_ite, ite_self, implies_true, h]; done))

theorem execMaxs_notBefore (n0 : Nat) (d a b : Reg) (s : State) (h : s.notBefore n0) :
    (stateOf s (execMaxs d a b s)).notBefore n0 := by
  unfold execMaxs
  first
    | (simp (maxDischargeDepth := 30) +contextual only [State.logic_notBefore, stateOf_next, stateOf_ite, State.notBefore_forAll, State.notBefore_foldl, State.notBefore_ite, ite_self, implies_true, h]; done)
    | ((try dsimp only); (repeat' split) <;> first | (simp (maxDischargeDepth := 30) +contextual only [State.logic_notBefore, stateOf_next, stateOf_ite, State.notBefore_forAll, State.notBefore_foldl, State.notBefore_ite, ite_self, implies_true, h]; done) | (simp_all (maxDischargeDepth := 30) only [State.logic_notBefore, stateOf_next, stateOf_ite, State.notBefore_forAll, State.notBefore_foldl, State.notBefore_ite, ite_self, implies_true, h]; done))

theorem execMinu_notBefore (n0 : Nat) (d a b : Reg) (s : State) (h : s.notBefore n0) :
    (stateOf s (execMinu d a b s)).notBefore n0 := by
  unfold execMinu
  first
    | (simp (maxDischargeDepth := 30) +contextual only [State.logic_notBefore, stateOf_next, stateOf_ite, State.notBefore_forAll, State.notBefore_foldl, State.notBefore_ite, ite_self, implies_true, h]; done)
    | ((try dsimp only); (repeat' split) <;> first | (simp (maxDischargeDepth := 30) +contextual only [State.logic_notBefore, stateOf_next, stateOf_ite, State.notBefore_forAll, State.notBefore_foldl, State.notBefore_ite, ite_self, implies_true, h]; done) | (simp_all (maxDischargeDepth := 30) only [State.logic_notBefore, stateOf_next, stateOf_ite, State.notBefore_forAll, State.notBefore_foldl, State.notBefore_ite, ite_self, implies_true, h]; done))

theorem execMaxu_notBefore (n0 : Nat) (d a b : Reg) (s : State) (h : s.notBefore n0) :
    (stateOf s (execMaxu d a b s)).notBefore n0 := by
  unfold execMaxu
  first
    | (simp (maxDischargeDepth := 30) +contextual only [State.logic_notBefore, stateOf_next, stateOf_ite, State.notBefore_forAll, State.notBefore_foldl, State.notBefore_ite, ite_self, implies_true, h]; done)
    | ((try dsimp only); (repeat' split) <;> first | (simp (maxDischargeDepth := 30) +contextual only [State.logic_notBefore, stateOf_next, stateOf_ite, State.notBefore_forAll, State.notBefore_foldl, State.notBefore_ite, ite_self, implies_true, h]; done) | (simp_all (maxDischargeDepth := 30) only [State.logic_notBefore, stateOf_next, stateOf_ite, State.notBefore_forAll, State.notBefore_foldl, State.notBefore_ite, ite_self, implies_true, h]; done))

theorem execAdds_notBefore (n0 : Nat) (d a b : Reg) (s : State) (h : s.notBefore n0) :
    (stateOf s (execAdds d a b s)).notBefore n0 := by
  unfold execAdds
  first
    | (simp (maxDischargeDepth := 30) +contextual only [State.aluV_notBefore, stateOf_next, stateOf_ite, State.notBefore_forAll, State.notBefore_foldl, State.notBefore_ite, ite_self, implies_true, h]; done)
    | ((try dsimp only); (repeat' split) <;> first | (simp (maxDischargeDepth := 30) +contextual only [State.aluV_notBefore, stateOf_next, stateOf_ite, State.notBefore_forAll, State.notBefore_foldl, State.notBefore_ite, ite_self, implies_true, h]; done) | (simp_all (maxDischargeDepth := 30) only [State.aluV_notBefore, stateOf_next, stateOf_ite, State.notBefore_forAll, State.notBefore_foldl, State.notBefore_ite, ite_self, implies_true, h]; done))

theorem execSubs_notBefore (n0 : Nat) (d a b : Reg) (s : State) (h : s.notBefore n0) :
    (stateOf s (execSubs d a b s)).notBefore n0 := by
  unfold execSubs
  first
    | (simp (maxDischargeDepth := 30) +contextual only [State.aluV_notBefore, stateOf_next, stateOf_ite, State.notBefore_forAll, State.notBefore_foldl, State.notBefore_ite, ite_self, implies_true, h]; done)
    | ((try dsimp only); (repeat' split) <;> first | (simp (maxDischargeDepth := 30) +contextual only [State.aluV_notBefore, stateOf_next, stateOf_ite, State.notBefore_forAll, State.notBefore_foldl, State.notBefore_ite, ite_self, implies_true, h]; done) | (simp_all (maxDischargeDepth := 30) only [State.aluV_notBefore, stateOf_next, stateOf_ite, State.notBefore_forAll, State.notBefore_foldl, State.notBefore_ite, ite_self, implies_true, h]; done))

theorem execMul_notBefore (n0 : Nat) (d a b : Reg) (s : State) (h : s.notBefore n0) :
    (stateOf s (execMul d a b s)).notBefore n0 := by
  unfold execMul
  first
    | (simp (maxDischargeDepth := 30) +contextual only [State.aluV_notBefore, stateOf_next, stateOf_ite, State.notBefore_forAll, State.notBefore_foldl, State.notBefore_ite, ite_self, implies_true, h]; done)
    | ((try dsimp only); (repeat' split) <;> first | (simp (maxDischargeDepth := 30) +contextual only [State.aluV_notBefore, stateOf_next, stateOf_ite, State.notBefore_forAll, State.notBefore_foldl, State.notBefore_ite, ite_self, implies_true, h]; done) | (simp_all (maxDischargeDepth := 30) only [State.aluV_notBefore, stateOf_next, stateOf_ite, State.notBefore_forAll, State.notBefore_foldl, State.notBefore_ite, ite_self, implies_true, h]; done))

theorem execMulh_notBefore (n0 : Nat) (d a b : Reg) (s : State) (h : s.notBefore n0) :
    (stateOf s (execMulh d a b s)).notBefore n0 := by
  unfold execMulh
  first
    | (simp (maxDischargeDepth := 30) +contextual only [State.logic_notBefore, stateOf_next, stateOf_ite, State.notBefore_forAll, State.notBefore_foldl, State.notBefore_ite, ite_self, implies_true, h]; done)
    | ((try dsimp only); (repeat' split) <;> first | (simp (maxDischargeDepth := 30) +contextual only [State.logic_notBefore, stateOf_next, stateOf_ite, State.notBefore_forAll, State.notBefore_foldl, State.notBefore_ite, ite_self, implies_true, h]; done) | (simp_all (maxDischargeDepth := 30) only [State.logic_notBefore, stateOf_next, stateOf_ite, State.notBefore_forAll, State.notBefore_foldl, State.notBefore_ite, ite_self, implies_true, h]; done))

theorem execMulhu_notBefore (n0 : Nat) (d a b : Reg) (s : State) (h : s.notBefore n0) :
    (stateOf s (execMulhu d a b s)).notBefore n0 := by
  unfold execMulhu
  first
    | (simp (maxDischargeDepth := 30) +contextual only [State.logic_notBefore, stateOf_next, stateOf_ite, State.notBefore_forAll, State.notBefore_foldl, State.notBefore_ite, ite_self, implies_true, h]; done)
    | ((try dsimp only); (repeat' split) <;> first | (simp (maxDischargeDepth := 30) +contextual only [State.logic_notBefore, stateOf_next, stateOf_ite, State.notBefore_forAll, State.notBefore_foldl, State.notBefore_ite, ite_self, implies_true, h]; done) | (simp_all (maxDischargeDepth := 30) only [State.logic_notBefore, stateOf_next, stateOf_ite, State.notBefore_forAll, State.notBefore_foldl, State.notBefore_ite, ite_self, implies_true, h]; done))

theorem execDiv_notBefore (n0 : Nat) (d a b : Reg) (s : State) (h : s.notBefore n0) :
    (stateOf s (execDiv d a b s)).notBefore n0 := by
  unfold execDiv
  first
    | (simp (maxDischargeDepth := 30) +contextual only [State.aluV_notBefore, stateOf_next, stateOf_ite, State.notBefore_forAll, State.notBefore_foldl, State.notBefore_ite, ite_self, implies_true, h]; done)
    | ((try dsimp only); (repeat' split) <;> first | (simp (maxDischargeDepth := 30) +contextual only [State.aluV_notBefore, stateOf_next, stateOf_ite, State.notBefore_forAll, State.notBefore_foldl, State.notBefore_ite, ite_self, implies_true, h]; done) | (simp_all (maxDischargeDepth := 30) only [State.aluV_notBefore, stateOf_next, stateOf_ite, State.notBefore_forAll, State.notBefore_foldl, State.notBefore_ite, ite_self, implies_true, h]; done))

theorem execDivu_notBefore (n0 : Nat) (d a b : Reg) (s : State) (h : s.notBefore n0) :
    (stateOf s (execDivu d a b s)).notBefore n0 := by
  unfold execDivu
  first
    | (simp (maxDischargeDepth := 30) +contextual only [State.aluV_notBefore, stateOf_next, stateOf_ite, State.notBefore_forAll, State.notBefore_foldl, State.notBefore_ite, ite_self, implies_true, h]; done)
    | ((try dsimp only); (repeat' split) <;> first | (simp (maxDischargeDepth := 30) +contextual only [State.aluV_notBefore, stateOf_next, stateOf_ite, State.notBefore_forAll, State.notBefore_foldl, State.notBefore_ite, ite_self, implies_true, h]; done) | (simp_all (maxDischargeDepth := 30) only [State.aluV_notBefore, stateOf_next, stateOf_ite, State.notBefore_forAll, State.notBefore_foldl, State.notBefore_ite, ite_self, implies_true, h]; done))

theorem execRem_notBefore (n0 : Nat) (d a b : Reg) (s : State) (h : s.notBefore n0) :
    (stateOf s (execRem d a b s)).notBefore n0 := by
  unfold execRem
  first
    | (simp (maxDischargeDepth := 30) +contextual only [State.aluV_notBefore, stateOf_next, stateOf_ite, State.notBefore_forAll, State.notBefore_foldl, State.notBefore_ite, ite_self, implies_true, h]; done)
    | ((try dsimp only); (repeat' split) <;> first | (simp (maxDischargeDepth := 30) +contextual only [State.aluV_notBefore, stateOf_next, stateOf_ite, State.notBefore_forAll, State.notBefore_foldl, State.notBefore_ite, ite_self, implies_true, h]; done) | (simp_all (maxDischargeDepth := 30) only [State.aluV_notBefore, stateOf_next, stateOf_ite, State.notBefore_forAll, State.notBefore_foldl, State.notBefore_ite, ite_self, implies_true, h]; done))

theorem execRemu_notBefore (n0 : Nat) (d a b : Reg) (s : State) (h : s.notBefore n0) :
    (stateOf s (execRemu d a b s)).notBefore n0 := by
  unfold execRemu
  first
    | (simp (maxDischargeDepth := 30) +contextual only [State.aluV_notBefore, stateOf_next, stateOf_ite, State.notBefore_forAll, State.notBefore_foldl, State.notBefore_ite, ite_self, implies_true, h]; done)
    | ((try dsimp only); (repeat' split) <;> first | (simp (maxDischargeDepth := 30) +contextual only [State.aluV_notBefore, stateOf_next, stateOf_ite, State.notBefore_forAll, State.notBefore_foldl, State.notBefore_ite, ite_self, implies_true, h]; done) | (simp_all (maxDischargeDepth := 30) only [State.aluV_notBefore, stateOf_next, stateOf_ite, State.notBefore_forAll, State.notBefore_foldl, State.notBefore_ite, ite_self, implies_true, h]; done))

theorem execAddi_notBefore (n0 : Nat) (d a : Reg) (imm : BitVec 16) (s : State) (h : s.notBefore n0) :
    (stateOf s (execAddi d a imm s)).notBefore n0 := by
  unfold execAddi
  first
    | (simp (maxDischargeDepth := 30) +contextual only [State.bankOp_notBefore, stateOf_next, stateOf_ite, State.notBefore_forAll, State.notBefore_foldl, State.notBefore_ite, ite_self, implies_true, h]; done)
    | ((try dsimp only); (repeat' split) <;> first | (simp (maxDischargeDepth := 30) +contextual only [State.bankOp_notBefore, stateOf_next, stateOf_ite, State.notBefore_forAll, State.notBefore_foldl, State.notBefore_ite, ite_self, implies_true, h]; done) | (simp_all (maxDischargeDepth := 30) only [State.bankOp_notBefore, stateOf_next, stateOf_ite, State.notBefore_forAll, State.notBefore_foldl, State.notBefore_ite, ite_self, implies_true, h]; done))

theorem execCmpi_notBefore (n0 : Nat) (a : Reg) (imm : BitVec 16) (s : State) (h : s.notBefore n0) :
    (stateOf s (execCmpi a imm s)).notBefore n0 := by
  unfold execCmpi
  first
    | (simp (maxDischargeDepth := 30) +contextual only [State.bankOp_notBefore, stateOf_next, stateOf_ite, State.notBefore_forAll, State.notBefore_foldl, State.notBefore_ite, ite_self, implies_true, h]; done)
    | ((try dsimp only); (repeat' split) <;> first | (simp (maxDischargeDepth := 30) +contextual only [State.bankOp_notBefore, stateOf_next, stateOf_ite, State.notBefore_forAll, State.notBefore_foldl, State.notBefore_ite, ite_self, implies_true, h]; done) | (simp_all (maxDischargeDepth := 30) only [State.bankOp_notBefore, stateOf_next, stateOf_ite, State.notBefore_forAll, State.notBefore_foldl, State.notBefore_ite, ite_self, implies_true, h]; done))

theorem execAndi_notBefore (n0 : Nat) (d a : Reg) (imm : BitVec 16) (s : State) (h : s.notBefore n0) :
    (stateOf s (execAndi d a imm s)).notBefore n0 := by
  unfold execAndi
  first
    | (simp (maxDischargeDepth := 30) +contextual only [State.bankOp_notBefore, stateOf_next, stateOf_ite, State.notBefore_forAll, State.notBefore_foldl, State.notBefore_ite, ite_self, implies_true, h]; done)
    | ((try dsimp only); (repeat' split) <;> first | (simp (maxDischargeDepth := 30) +contextual only [State.bankOp_notBefore, stateOf_next, stateOf_ite, State.notBefore_forAll, State.notBefore_foldl, State.notBefore_ite, ite_self, implies_true, h]; done) | (simp_all (maxDischargeDepth := 30) only [State.bankOp_notBefore, stateOf_next, stateOf_ite, State.notBefore_forAll, State.notBefore_foldl, State.notBefore_ite, ite_self, implies_true, h]; done))

theorem execOri_notBefore (n0 : Nat) (d a : Reg) (imm : BitVec 16) (s : State) (h : s.notBefore n0) :
    (stateOf s (execOri d a imm s)).notBefore n0 := by
  unfold execOri
  first
    | (simp (maxDischargeDepth := 30) +contextual only [State.bankOp_notBefore, stateOf_next, stateOf_ite, State.notBefore_forAll, State.notBefore_foldl, State.notBefore_ite, ite_self, implies_true, h]; done)
    | ((try dsimp only); (repeat' split) <;> first | (simp (maxDischargeDepth := 30) +contextual only [State.bankOp_notBefore, stateOf_next, stateOf_ite, State.notBefore_forAll, State.notBefore_foldl, State.notBefore_ite, ite_self, implies_true, h]; done) | (simp_all (maxDischargeDepth := 30) only [State.bankOp_notBefore, stateOf_next, stateOf_ite, State.notBefore_forAll, State.notBefore_foldl, State.notBefore_ite, ite_self, implies_true, h]; done))

theorem execXori_notBefore (n0 : Nat) (d a : Reg) (imm : BitVec 16) (s : State) (h : s.notBefore n0) :
    (stateOf s (execXori d a imm s)).notBefore n0 := by
  unfold execXori
  first
    | (simp (maxDischargeDepth := 30) +contextual only [State.bankOp_notBefore, stateOf_next, stateOf_ite, State.notBefore_forAll, State.notBefore_foldl, State.notBefore_ite, ite_self, implies_true, h]; done)
    | ((try dsimp only); (repeat' split) <;> first | (simp (maxDischargeDepth := 30) +contextual only [State.bankOp_notBefore, stateOf_next, stateOf_ite, State.notBefore_forAll, State.notBefore_foldl, State.notBefore_ite, ite_self, implies_true, h]; done) | (simp_all (maxDischargeDepth := 30) only [State.bankOp_notBefore, stateOf_next, stateOf_ite, State.notBefore_forAll, State.notBefore_foldl, State.notBefore_ite, ite_self, implies_true, h]; done))

theorem execLui_notBefore (n0 : Nat) (d : Reg) (imm : BitVec 16) (s : State) (h : s.notBefore n0) :
    (stateOf s (execLui d imm s)).notBefore n0 := by
  unfold execLui
  first
    | (simp (maxDischargeDepth := 30) +contextual only [State.bankOp_notBefore, stateOf_next, stateOf_ite, State.notBefore_forAll, State.notBefore_foldl, State.notBefore_ite, ite_self, implies_true, h]; done)
    | ((try dsimp only); (repeat' split) <;> first | (simp (maxDischargeDepth := 30) +contextual only [State.bankOp_notBefore, stateOf_next, stateOf_ite, State.notBefore_forAll, State.notBefore_foldl, State.notBefore_ite, ite_self, implies_true, h]; done) | (simp_all (maxDischargeDepth := 30) only [State.bankOp_notBefore, stateOf_next, stateOf_ite, State.notBefore_forAll, State.notBefore_foldl, State.notBefore_ite, ite_self, implies_true, h]; done))

theorem execShi_notBefore (n0 : Nat) (d a : Reg) (imm : BitVec 16) (s : State) (h : s.notBefore n0) :
    (stateOf s (execShi d a imm s)).notBefore n0 := by
  unfold execShi
  first
    | (simp (maxDischargeDepth := 30) +contextual only [State.shiftOp_notBefore, State.illegal_notBefore, stateOf_next, stateOf_ite, State.notBefore_forAll, State.notBefore_foldl, State.notBefore_ite, ite_self, implies_true, h]; done)
    | ((try dsimp only); (repeat' split) <;> first | (simp (maxDischargeDepth := 30) +contextual only [State.shiftOp_notBefore, State.illegal_notBefore, stateOf_next, stateOf_ite, State.notBefore_forAll, State.notBefore_foldl, State.notBefore_ite, ite_self, implies_true, h]; done) | (simp_all (maxDischargeDepth := 30) only [State.shiftOp_notBefore, State.illegal_notBefore, stateOf_next, stateOf_ite, State.notBefore_forAll, State.notBefore_foldl, State.notBefore_ite, ite_self, implies_true, h]; done))

theorem execTsti_notBefore (n0 : Nat) (a : Reg) (imm : BitVec 16) (s : State) (h : s.notBefore n0) :
    (stateOf s (execTsti a imm s)).notBefore n0 := by
  unfold execTsti
  first
    | (simp (maxDischargeDepth := 30) +contextual only [State.bankOp_notBefore, stateOf_next, stateOf_ite, State.notBefore_forAll, State.notBefore_foldl, State.notBefore_ite, ite_self, implies_true, h]; done)
    | ((try dsimp only); (repeat' split) <;> first | (simp (maxDischargeDepth := 30) +contextual only [State.bankOp_notBefore, stateOf_next, stateOf_ite, State.notBefore_forAll, State.notBefore_foldl, State.notBefore_ite, ite_self, implies_true, h]; done) | (simp_all (maxDischargeDepth := 30) only [State.bankOp_notBefore, stateOf_next, stateOf_ite, State.notBefore_forAll, State.notBefore_foldl, State.notBefore_ite, ite_self, implies_true, h]; done))

theorem execRld_notBefore (n0 : Nat) (a : Reg) (bit : BitIx) (s : State) (h : s.notBefore n0) :
    (stateOf s (execRld a bit s)).notBefore n0 := by
  unfold execRld
  first
    | (simp (maxDischargeDepth := 30) +contextual only [State.contact_notBefore, stateOf_next, stateOf_ite, State.notBefore_forAll, State.notBefore_foldl, State.notBefore_ite, ite_self, implies_true, h]; done)
    | ((try dsimp only); (repeat' split) <;> first | (simp (maxDischargeDepth := 30) +contextual only [State.contact_notBefore, stateOf_next, stateOf_ite, State.notBefore_forAll, State.notBefore_foldl, State.notBefore_ite, ite_self, implies_true, h]; done) | (simp_all (maxDischargeDepth := 30) only [State.contact_notBefore, stateOf_next, stateOf_ite, State.notBefore_forAll, State.notBefore_foldl, State.notBefore_ite, ite_self, implies_true, h]; done))

theorem execRldn_notBefore (n0 : Nat) (a : Reg) (bit : BitIx) (s : State) (h : s.notBefore n0) :
    (stateOf s (execRldn a bit s)).notBefore n0 := by
  unfold execRldn
  first
    | (simp (maxDischargeDepth := 30) +contextual only [State.contact_notBefore, stateOf_next, stateOf_ite, State.notBefore_forAll, State.notBefore_foldl, State.notBefore_ite, ite_self, implies_true, h]; done)
    | ((try dsimp only); (repeat' split) <;> first | (simp (maxDischargeDepth := 30) +contextual only [State.contact_notBefore, stateOf_next, stateOf_ite, State.notBefore_forAll, State.notBefore_foldl, State.notBefore_ite, ite_self, implies_true, h]; done) | (simp_all (maxDischargeDepth := 30) only [State.contact_notBefore, stateOf_next, stateOf_ite, State.notBefore_forAll, State.notBefore_foldl, State.notBefore_ite, ite_self, implies_true, h]; done))

theorem execRand_notBefore (n0 : Nat) (a : Reg) (bit : BitIx) (s : State) (h : s.notBefore n0) :
    (stateOf s (execRand a bit s)).notBefore n0 := by
  unfold execRand
  first
    | (simp (maxDischargeDepth := 30) +contextual only [State.contact_notBefore, stateOf_next, stateOf_ite, State.notBefore_forAll, State.notBefore_foldl, State.notBefore_ite, ite_self, implies_true, h]; done)
    | ((try dsimp only); (repeat' split) <;> first | (simp (maxDischargeDepth := 30) +contextual only [State.contact_notBefore, stateOf_next, stateOf_ite, State.notBefore_forAll, State.notBefore_foldl, State.notBefore_ite, ite_self, implies_true, h]; done) | (simp_all (maxDischargeDepth := 30) only [State.contact_notBefore, stateOf_next, stateOf_ite, State.notBefore_forAll, State.notBefore_foldl, State.notBefore_ite, ite_self, implies_true, h]; done))

theorem execRandn_notBefore (n0 : Nat) (a : Reg) (bit : BitIx) (s : State) (h : s.notBefore n0) :
    (stateOf s (execRandn a bit s)).notBefore n0 := by
  unfold execRandn
  first
    | (simp (maxDischargeDepth := 30) +contextual only [State.contact_notBefore, stateOf_next, stateOf_ite, State.notBefore_forAll, State.notBefore_foldl, State.notBefore_ite, ite_self, implies_true, h]; done)
    | ((try dsimp only); (repeat' split) <;> first | (simp (maxDischargeDepth := 30) +contextual only [State.contact_notBefore, stateOf_next, stateOf_ite, State.notBefore_forAll, State.notBefore_foldl, State.notBefore_ite, ite_self, implies_true, h]; done) | (simp_all (maxDischargeDepth := 30) only [State.contact_notBefore, stateOf_next, stateOf_ite, State.notBefore_forAll, State.notBefore_foldl, State.notBefore_ite, ite_self, implies_true, h]; done))

theorem execRorContact_notBefore (n0 : Nat) (a : Reg) (bit : BitIx) (s : State) (h : s.notBefore n0) :
    (stateOf s (execRorContact a bit s)).notBefore n0 := by
  unfold execRorContact
  first
    | (simp (maxDischargeDepth := 30) +contextual only [State.contact_notBefore, stateOf_next, stateOf_ite, State.notBefore_forAll, State.notBefore_foldl, State.notBefore_ite, ite_self, implies_true, h]; done)
    | ((try dsimp only); (repeat' split) <;> first | (simp (maxDischargeDepth := 30) +contextual only [State.contact_notBefore, stateOf_next, stateOf_ite, State.notBefore_forAll, State.notBefore_foldl, State.notBefore_ite, ite_self, implies_true, h]; done) | (simp_all (maxDischargeDepth := 30) only [State.contact_notBefore, stateOf_next, stateOf_ite, State.notBefore_forAll, State.notBefore_foldl, State.notBefore_ite, ite_self, implies_true, h]; done))

theorem execRorn_notBefore (n0 : Nat) (a : Reg) (bit : BitIx) (s : State) (h : s.notBefore n0) :
    (stateOf s (execRorn a bit s)).notBefore n0 := by
  unfold execRorn
  first
    | (simp (maxDischargeDepth := 30) +contextual only [State.contact_notBefore, stateOf_next, stateOf_ite, State.notBefore_forAll, State.notBefore_foldl, State.notBefore_ite, ite_self, implies_true, h]; done)
    | ((try dsimp only); (repeat' split) <;> first | (simp (maxDischargeDepth := 30) +contextual only [State.contact_notBefore, stateOf_next, stateOf_ite, State.notBefore_forAll, State.notBefore_foldl, State.notBefore_ite, ite_self, implies_true, h]; done) | (simp_all (maxDischargeDepth := 30) only [State.contact_notBefore, stateOf_next, stateOf_ite, State.notBefore_forAll, State.notBefore_foldl, State.notBefore_ite, ite_self, implies_true, h]; done))

theorem execRxor_notBefore (n0 : Nat) (a : Reg) (bit : BitIx) (s : State) (h : s.notBefore n0) :
    (stateOf s (execRxor a bit s)).notBefore n0 := by
  unfold execRxor
  first
    | (simp (maxDischargeDepth := 30) +contextual only [State.contact_notBefore, stateOf_next, stateOf_ite, State.notBefore_forAll, State.notBefore_foldl, State.notBefore_ite, ite_self, implies_true, h]; done)
    | ((try dsimp only); (repeat' split) <;> first | (simp (maxDischargeDepth := 30) +contextual only [State.contact_notBefore, stateOf_next, stateOf_ite, State.notBefore_forAll, State.notBefore_foldl, State.notBefore_ite, ite_self, implies_true, h]; done) | (simp_all (maxDischargeDepth := 30) only [State.contact_notBefore, stateOf_next, stateOf_ite, State.notBefore_forAll, State.notBefore_foldl, State.notBefore_ite, ite_self, implies_true, h]; done))

theorem execRst_notBefore (n0 : Nat) (d : Reg) (bit : BitIx) (s : State) (h : s.notBefore n0) :
    (stateOf s (execRst d bit s)).notBefore n0 := by
  unfold execRst
  first
    | (simp (maxDischargeDepth := 30) +contextual only [State.coil_notBefore, stateOf_next, stateOf_ite, State.notBefore_forAll, State.notBefore_foldl, State.notBefore_ite, ite_self, implies_true, h]; done)
    | ((try dsimp only); (repeat' split) <;> first | (simp (maxDischargeDepth := 30) +contextual only [State.coil_notBefore, stateOf_next, stateOf_ite, State.notBefore_forAll, State.notBefore_foldl, State.notBefore_ite, ite_self, implies_true, h]; done) | (simp_all (maxDischargeDepth := 30) only [State.coil_notBefore, stateOf_next, stateOf_ite, State.notBefore_forAll, State.notBefore_foldl, State.notBefore_ite, ite_self, implies_true, h]; done))

theorem execRstn_notBefore (n0 : Nat) (d : Reg) (bit : BitIx) (s : State) (h : s.notBefore n0) :
    (stateOf s (execRstn d bit s)).notBefore n0 := by
  unfold execRstn
  first
    | (simp (maxDischargeDepth := 30) +contextual only [State.coil_notBefore, stateOf_next, stateOf_ite, State.notBefore_forAll, State.notBefore_foldl, State.notBefore_ite, ite_self, implies_true, h]; done)
    | ((try dsimp only); (repeat' split) <;> first | (simp (maxDischargeDepth := 30) +contextual only [State.coil_notBefore, stateOf_next, stateOf_ite, State.notBefore_forAll, State.notBefore_foldl, State.notBefore_ite, ite_self, implies_true, h]; done) | (simp_all (maxDischargeDepth := 30) only [State.coil_notBefore, stateOf_next, stateOf_ite, State.notBefore_forAll, State.notBefore_foldl, State.notBefore_ite, ite_self, implies_true, h]; done))

theorem execRset_notBefore (n0 : Nat) (d : Reg) (bit : BitIx) (s : State) (h : s.notBefore n0) :
    (stateOf s (execRset d bit s)).notBefore n0 := by
  unfold execRset
  first
    | (simp (maxDischargeDepth := 30) +contextual only [State.coil_notBefore, stateOf_next, stateOf_ite, State.notBefore_forAll, State.notBefore_foldl, State.notBefore_ite, ite_self, implies_true, h]; done)
    | ((try dsimp only); (repeat' split) <;> first | (simp (maxDischargeDepth := 30) +contextual only [State.coil_notBefore, stateOf_next, stateOf_ite, State.notBefore_forAll, State.notBefore_foldl, State.notBefore_ite, ite_self, implies_true, h]; done) | (simp_all (maxDischargeDepth := 30) only [State.coil_notBefore, stateOf_next, stateOf_ite, State.notBefore_forAll, State.notBefore_foldl, State.notBefore_ite, ite_self, implies_true, h]; done))

theorem execRrst_notBefore (n0 : Nat) (d : Reg) (bit : BitIx) (s : State) (h : s.notBefore n0) :
    (stateOf s (execRrst d bit s)).notBefore n0 := by
  unfold execRrst
  first
    | (simp (maxDischargeDepth := 30) +contextual only [State.coil_notBefore, stateOf_next, stateOf_ite, State.notBefore_forAll, State.notBefore_foldl, State.notBefore_ite, ite_self, implies_true, h]; done)
    | ((try dsimp only); (repeat' split) <;> first | (simp (maxDischargeDepth := 30) +contextual only [State.coil_notBefore, stateOf_next, stateOf_ite, State.notBefore_forAll, State.notBefore_foldl, State.notBefore_ite, ite_self, implies_true, h]; done) | (simp_all (maxDischargeDepth := 30) only [State.coil_notBefore, stateOf_next, stateOf_ite, State.notBefore_forAll, State.notBefore_foldl, State.notBefore_ite, ite_self, implies_true, h]; done))

theorem execBnot_notBefore (n0 : Nat) (s : State) (h : s.notBefore n0) :
    (stateOf s (execBnot s)).notBefore n0 := by
  unfold execBnot
  first
    | (simp (maxDischargeDepth := 30) +contextual only [State.bankOp_notBefore, stateOf_next, stateOf_ite, State.notBefore_forAll, State.notBefore_foldl, State.notBefore_ite, ite_self, implies_true, h]; done)
    | ((try dsimp only); (repeat' split) <;> first | (simp (maxDischargeDepth := 30) +contextual only [State.bankOp_notBefore, stateOf_next, stateOf_ite, State.notBefore_forAll, State.notBefore_foldl, State.notBefore_ite, ite_self, implies_true, h]; done) | (simp_all (maxDischargeDepth := 30) only [State.bankOp_notBefore, stateOf_next, stateOf_ite, State.notBefore_forAll, State.notBefore_foldl, State.notBefore_ite, ite_self, implies_true, h]; done))

theorem execBone_notBefore (n0 : Nat) (s : State) (h : s.notBefore n0) :
    (stateOf s (execBone s)).notBefore n0 := by
  unfold execBone
  first
    | (simp (maxDischargeDepth := 30) +contextual only [State.bankOp_notBefore, stateOf_next, stateOf_ite, State.notBefore_forAll, State.notBefore_foldl, State.notBefore_ite, ite_self, implies_true, h]; done)
    | ((try dsimp only); (repeat' split) <;> first | (simp (maxDischargeDepth := 30) +contextual only [State.bankOp_notBefore, stateOf_next, stateOf_ite, State.notBefore_forAll, State.notBefore_foldl, State.notBefore_ite, ite_self, implies_true, h]; done) | (simp_all (maxDischargeDepth := 30) only [State.bankOp_notBefore, stateOf_next, stateOf_ite, State.notBefore_forAll, State.notBefore_foldl, State.notBefore_ite, ite_self, implies_true, h]; done))

theorem execBzero_notBefore (n0 : Nat) (s : State) (h : s.notBefore n0) :
    (stateOf s (execBzero s)).notBefore n0 := by
  unfold execBzero
  first
    | (simp (maxDischargeDepth := 30) +contextual only [State.bankOp_notBefore, stateOf_next, stateOf_ite, State.notBefore_forAll, State.notBefore_foldl, State.notBefore_ite, ite_self, implies_true, h]; done)
    | ((try dsimp only); (repeat' split) <;> first | (simp (maxDischargeDepth := 30) +contextual only [State.bankOp_notBefore, stateOf_next, stateOf_ite, State.notBefore_forAll, State.notBefore_foldl, State.notBefore_ite, ite_self, implies_true, h]; done) | (simp_all (maxDischargeDepth := 30) only [State.bankOp_notBefore, stateOf_next, stateOf_ite, State.notBefore_forAll, State.notBefore_foldl, State.notBefore_ite, ite_self, implies_true, h]; done))

theorem execBcc_notBefore (n0 : Nat) (cond : BitVec 5) (s : State) (h : s.notBefore n0) :
    (stateOf s (execBcc cond s)).notBefore n0 := by
  unfold execBcc
  first
    | (simp (maxDischargeDepth := 30) +contextual only [State.bankOp_notBefore, State.illegal_notBefore, stateOf_next, stateOf_ite, State.notBefore_forAll, State.notBefore_foldl, State.notBefore_ite, ite_self, implies_true, h]; done)
    | ((try dsimp only); (repeat' split) <;> first | (simp (maxDischargeDepth := 30) +contextual only [State.bankOp_notBefore, State.illegal_notBefore, stateOf_next, stateOf_ite, State.notBefore_forAll, State.notBefore_foldl, State.notBefore_ite, ite_self, implies_true, h]; done) | (simp_all (maxDischargeDepth := 30) only [State.bankOp_notBefore, State.illegal_notBefore, stateOf_next, stateOf_ite, State.notBefore_forAll, State.notBefore_foldl, State.notBefore_ite, ite_self, implies_true, h]; done))

theorem execBget_notBefore (n0 : Nat) (d : Reg) (s : State) (h : s.notBefore n0) :
    (stateOf s (execBget d s)).notBefore n0 := by
  unfold execBget
  first
    | (simp (maxDischargeDepth := 30) +contextual only [State.bankOp_notBefore, stateOf_next, stateOf_ite, State.notBefore_forAll, State.notBefore_foldl, State.notBefore_ite, ite_self, implies_true, h]; done)
    | ((try dsimp only); (repeat' split) <;> first | (simp (maxDischargeDepth := 30) +contextual only [State.bankOp_notBefore, stateOf_next, stateOf_ite, State.notBefore_forAll, State.notBefore_foldl, State.notBefore_ite, ite_self, implies_true, h]; done) | (simp_all (maxDischargeDepth := 30) only [State.bankOp_notBefore, stateOf_next, stateOf_ite, State.notBefore_forAll, State.notBefore_foldl, State.notBefore_ite, ite_self, implies_true, h]; done))

theorem execBput_notBefore (n0 : Nat) (a : Reg) (s : State) (h : s.notBefore n0) :
    (stateOf s (execBput a s)).notBefore n0 := by
  unfold execBput
  first
    | (simp (maxDischargeDepth := 30) +contextual only [State.bankOp_notBefore, stateOf_next, stateOf_ite, State.notBefore_forAll, State.notBefore_foldl, State.notBefore_ite, ite_self, implies_true, h]; done)
    | ((try dsimp only); (repeat' split) <;> first | (simp (maxDischargeDepth := 30) +contextual only [State.bankOp_notBefore, stateOf_next, stateOf_ite, State.notBefore_forAll, State.notBefore_foldl, State.notBefore_ite, ite_self, implies_true, h]; done) | (simp_all (maxDischargeDepth := 30) only [State.bankOp_notBefore, stateOf_next, stateOf_ite, State.notBefore_forAll, State.notBefore_foldl, State.notBefore_ite, ite_self, implies_true, h]; done))

theorem State.branch_notBefore (n0 : Nat) (s : State) (cond : BitVec 5) (ofs : BitVec 21) (link : Bool) (h : s.notBefore n0) :
    (State.branch s cond ofs link).notBefore n0 := by
  unfold State.branch
  first
    | (simp (maxDischargeDepth := 30) +contextual only [State.bankOp_notBefore, State.illegal_notBefore, State.notBefore_forAll, State.notBefore_foldl, State.notBefore_ite, ite_self, implies_true, h]; done)
    | ((try dsimp only); (repeat' split) <;> first | (simp (maxDischargeDepth := 30) +contextual only [State.bankOp_notBefore, State.illegal_notBefore, State.notBefore_forAll, State.notBefore_foldl, State.notBefore_ite, ite_self, implies_true, h]; done) | (simp_all (maxDischargeDepth := 30) only [State.bankOp_notBefore, State.illegal_notBefore, State.notBefore_forAll, State.notBefore_foldl, State.notBefore_ite, ite_self, implies_true, h]; done))

theorem execBr_notBefore (n0 : Nat) (cond : BitVec 5) (ofs : BitVec 21) (s : State) (h : s.notBefore n0) :
    (stateOf s (execBr cond ofs s)).notBefore n0 := by
  unfold execBr
  first
    | (simp (maxDischargeDepth := 30) +contextual only [State.branch_notBefore, stateOf_next, stateOf_ite, State.notBefore_forAll, State.notBefore_foldl, State.notBefore_ite, ite_self, implies_true, h]; done)
    | ((try dsimp only); (repeat' split) <;> first | (simp (maxDischargeDepth := 30) +contextual only [State.branch_notBefore, stateOf_next, stateOf_ite, State.notBefore_forAll, State.notBefore_foldl, State.notBefore_ite, ite_self, implies_true, h]; done) | (simp_all (maxDischargeDepth := 30) only [State.branch_notBefore, stateOf_next, stateOf_ite, State.notBefore_forAll, State.notBefore_foldl, State.notBefore_ite, ite_self, implies_true, h]; done))

theorem execBrl_notBefore (n0 : Nat) (cond : BitVec 5) (ofs : BitVec 21) (s : State) (h : s.notBefore n0) :
    (stateOf s (execBrl cond ofs s)).notBefore n0 := by
  unfold execBrl
  first
    | (simp (maxDischargeDepth := 30) +contextual only [State.branch_notBefore, stateOf_next, stateOf_ite, State.notBefore_forAll, State.notBefore_foldl, State.notBefore_ite, ite_self, implies_true, h]; done)
    | ((try dsimp only); (repeat' split) <;> first | (simp (maxDischargeDepth := 30) +contextual only [State.branch_notBefore, stateOf_next, stateOf_ite, State.notBefore_forAll, State.notBefore_foldl, State.notBefore_ite, ite_self, implies_true, h]; done) | (simp_all (maxDischargeDepth := 30) only [State.branch_notBefore, stateOf_next, stateOf_ite, State.notBefore_forAll, State.notBefore_foldl, State.notBefore_ite, ite_self, implies_true, h]; done))

theorem execJr_notBefore (n0 : Nat) (a : Reg) (s : State) (h : s.notBefore n0) :
    (stateOf s (execJr a s)).notBefore n0 := by
  unfold execJr
  first
    | (simp (maxDischargeDepth := 30) +contextual only [State.bankOp_notBefore, stateOf_next, stateOf_ite, State.notBefore_forAll, State.notBefore_foldl, State.notBefore_ite, ite_self, implies_true, h]; done)
    | ((try dsimp only); (repeat' split) <;> first | (simp (maxDischargeDepth := 30) +contextual only [State.bankOp_notBefore, stateOf_next, stateOf_ite, State.notBefore_forAll, State.notBefore_foldl, State.notBefore_ite, ite_self, implies_true, h]; done) | (simp_all (maxDischargeDepth := 30) only [State.bankOp_notBefore, stateOf_next, stateOf_ite, State.notBefore_forAll, State.notBefore_foldl, State.notBefore_ite, ite_self, implies_true, h]; done))

theorem execJrl_notBefore (n0 : Nat) (d a : Reg) (s : State) (h : s.notBefore n0) :
    (stateOf s (execJrl d a s)).notBefore n0 := by
  unfold execJrl
  first
    | (simp (maxDischargeDepth := 30) +contextual only [State.bankOp_notBefore, stateOf_next, stateOf_ite, State.notBefore_forAll, State.notBefore_foldl, State.notBefore_ite, ite_self, implies_true, h]; done)
    | ((try dsimp only); (repeat' split) <;> first | (simp (maxDischargeDepth := 30) +contextual only [State.bankOp_notBefore, stateOf_next, stateOf_ite, State.notBefore_forAll, State.notBefore_foldl, State.notBefore_ite, ite_self, implies_true, h]; done) | (simp_all (maxDischargeDepth := 30) only [State.bankOp_notBefore, stateOf_next, stateOf_ite, State.notBefore_forAll, State.notBefore_foldl, State.notBefore_ite, ite_self, implies_true, h]; done))

theorem execNop_notBefore (n0 : Nat) (s : State) (h : s.notBefore n0) :
    (stateOf s (execNop s)).notBefore n0 := by
  unfold execNop
  first
    | (simp (maxDischargeDepth := 30) +contextual only [State.bankOp_notBefore, stateOf_next, stateOf_ite, State.notBefore_forAll, State.notBefore_foldl, State.notBefore_ite, ite_self, implies_true, h]; done)
    | ((try dsimp only); (repeat' split) <;> first | (simp (maxDischargeDepth := 30) +contextual only [State.bankOp_notBefore, stateOf_next, stateOf_ite, State.notBefore_forAll, State.notBefore_foldl, State.notBefore_ite, ite_self, implies_true, h]; done) | (simp_all (maxDischargeDepth := 30) only [State.bankOp_notBefore, stateOf_next, stateOf_ite, State.notBefore_forAll, State.notBefore_foldl, State.notBefore_ite, ite_self, implies_true, h]; done))

theorem execRdf_notBefore (n0 : Nat) (d : Reg) (s : State) (h : s.notBefore n0) :
    (stateOf s (execRdf d s)).notBefore n0 := by
  unfold execRdf
  first
    | (simp (maxDischargeDepth := 30) +contextual only [State.bankOp_notBefore, stateOf_next, stateOf_ite, State.notBefore_forAll, State.notBefore_foldl, State.notBefore_ite, ite_self, implies_true, h]; done)
    | ((try dsimp only); (repeat' split) <;> first | (simp (maxDischargeDepth := 30) +contextual only [State.bankOp_notBefore, stateOf_next, stateOf_ite, State.notBefore_forAll, State.notBefore_foldl, State.notBefore_ite, ite_self, implies_true, h]; done) | (simp_all (maxDischargeDepth := 30) only [State.bankOp_notBefore, stateOf_next, stateOf_ite, State.notBefore_forAll, State.notBefore_foldl, State.notBefore_ite, ite_self, implies_true, h]; done))

theorem execWrf_notBefore (n0 : Nat) (a : Reg) (s : State) (h : s.notBefore n0) :
    (stateOf s (execWrf a s)).notBefore n0 := by
  unfold execWrf
  first
    | (simp (maxDischargeDepth := 30) +contextual only [State.bankOp_notBefore, stateOf_next, stateOf_ite, State.notBefore_forAll, State.notBefore_foldl, State.notBefore_ite, ite_self, implies_true, h]; done)
    | ((try dsimp only); (repeat' split) <;> first | (simp (maxDischargeDepth := 30) +contextual only [State.bankOp_notBefore, stateOf_next, stateOf_ite, State.notBefore_forAll, State.notBefore_foldl, State.notBefore_ite, ite_self, implies_true, h]; done) | (simp_all (maxDischargeDepth := 30) only [State.bankOp_notBefore, stateOf_next, stateOf_ite, State.notBefore_forAll, State.notBefore_foldl, State.notBefore_ite, ite_self, implies_true, h]; done))

theorem State.emitTo_notBefore (n0 : Nat) (s : State) (d : Reg) (k : BitVec 8) (payload : List Byte) (h : s.notBefore n0) :
    (State.emitTo s d k payload).notBefore n0 :=
  (State.notBefore_mask n0 (State.emitTo_mask _ _ _ _ _ rfl rfl)).2 h

theorem State.emitBad_notBefore (n0 : Nat) (s : State) (d : Reg) (a : Word) (h : s.notBefore n0) :
    (State.emitBad s d a).notBefore n0 :=
  (State.notBefore_mask n0 (State.emitBad_mask _ _ _ _ rfl)).2 h

theorem execTrec_notBefore (n0 : Nat) (d a : Reg) (k : BitVec 8) (s : State) (h : s.notBefore n0) :
    (stateOf s (execTrec d a k s)).notBefore n0 := by
  unfold execTrec
  first
    | (simp (maxDischargeDepth := 30) +contextual only [State.insn_notBefore, State.drainAll_notBefore, State.illegal_notBefore, State.emitTo_notBefore, State.emitBad_notBefore, stateOf_next, stateOf_ite, State.notBefore_forAll, State.notBefore_foldl, State.notBefore_ite, ite_self, implies_true, h]; done)
    | ((try dsimp only); (repeat' split) <;> first | (simp (maxDischargeDepth := 30) +contextual only [State.insn_notBefore, State.drainAll_notBefore, State.illegal_notBefore, State.emitTo_notBefore, State.emitBad_notBefore, stateOf_next, stateOf_ite, State.notBefore_forAll, State.notBefore_foldl, State.notBefore_ite, ite_self, implies_true, h]; done) | (simp_all (maxDischargeDepth := 30) only [State.insn_notBefore, State.drainAll_notBefore, State.illegal_notBefore, State.emitTo_notBefore, State.emitBad_notBefore, stateOf_next, stateOf_ite, State.notBefore_forAll, State.notBefore_foldl, State.notBefore_ite, ite_self, implies_true, h]; done))

theorem execTword_notBefore (n0 : Nat) (d a : Reg) (k : BitVec 8) (s : State) (h : s.notBefore n0) :
    (stateOf s (execTword d a k s)).notBefore n0 := by
  unfold execTword
  first
    | (simp (maxDischargeDepth := 30) +contextual only [State.insn_notBefore, State.drainAll_notBefore, State.illegal_notBefore, State.emitTo_notBefore, stateOf_next, stateOf_ite, State.notBefore_forAll, State.notBefore_foldl, State.notBefore_ite, ite_self, implies_true, h]; done)
    | ((try dsimp only); (repeat' split) <;> first | (simp (maxDischargeDepth := 30) +contextual only [State.insn_notBefore, State.drainAll_notBefore, State.illegal_notBefore, State.emitTo_notBefore, stateOf_next, stateOf_ite, State.notBefore_forAll, State.notBefore_foldl, State.notBefore_ite, ite_self, implies_true, h]; done) | (simp_all (maxDischargeDepth := 30) only [State.insn_notBefore, State.drainAll_notBefore, State.illegal_notBefore, State.emitTo_notBefore, stateOf_next, stateOf_ite, State.notBefore_forAll, State.notBefore_foldl, State.notBefore_ite, ite_self, implies_true, h]; done))

theorem State.mbSend_notBefore (n0 : Nat) (s : State) (m : Fin 64) (a n : Nat) (h : s.notBefore n0) :
    (State.mbSend s m a n).1.notBefore n0 :=
  (State.notBefore_mask n0 (State.mbSend_mask _ _ _ _ _ rfl rfl)).2 h

theorem execMbsend_notBefore (n0 : Nat) (d a : Reg) (k : BitVec 8) (s : State) (h : s.notBefore n0) :
    (stateOf s (execMbsend d a k s)).notBefore n0 := by
  unfold execMbsend
  first
    | (simp (maxDischargeDepth := 30) +contextual only [State.insn_notBefore, State.putStatus_notBefore, State.drainAll_notBefore, State.illegal_notBefore, State.emitBad_notBefore, State.mbSend_notBefore, stateOf_next, stateOf_ite, State.notBefore_forAll, State.notBefore_foldl, State.notBefore_ite, ite_self, implies_true, h]; done)
    | ((try dsimp only); (repeat' split) <;> first | (simp (maxDischargeDepth := 30) +contextual only [State.insn_notBefore, State.putStatus_notBefore, State.drainAll_notBefore, State.illegal_notBefore, State.emitBad_notBefore, State.mbSend_notBefore, stateOf_next, stateOf_ite, State.notBefore_forAll, State.notBefore_foldl, State.notBefore_ite, ite_self, implies_true, h]; done) | (simp_all (maxDischargeDepth := 30) only [State.insn_notBefore, State.putStatus_notBefore, State.drainAll_notBefore, State.illegal_notBefore, State.emitBad_notBefore, State.mbSend_notBefore, stateOf_next, stateOf_ite, State.notBefore_forAll, State.notBefore_foldl, State.notBefore_ite, ite_self, implies_true, h]; done))

theorem State.putTaken_notBefore (n0 : Nat) (s : State) (d : Reg) (w : Word) (h : s.notBefore n0) :
    (State.putTaken s d w).notBefore n0 :=
  (State.notBefore_mask n0 (State.putTaken_mask _ _ _ _ rfl)).2 h

theorem State.mbRecv_notBefore (n0 : Nat) (s : State) (d : Reg) (m : Fin 64) (ad cap : Nat) (h : s.notBefore n0) :
    (State.mbRecv s d m ad cap).notBefore n0 :=
  (State.notBefore_mask n0 (State.mbRecv_mask _ _ _ _ _ _ rfl rfl rfl)).2 h

theorem execMbrecv_notBefore (n0 : Nat) (d a : Reg) (k : BitVec 8) (s : State) (h : s.notBefore n0) :
    (stateOf s (execMbrecv d a k s)).notBefore n0 := by
  unfold execMbrecv
  first
    | (simp (maxDischargeDepth := 30) +contextual only [State.used_notBefore, State.violation_notBefore, State.insn_notBefore, State.drainAll_notBefore, State.illegal_notBefore, State.putTaken_notBefore, State.mbRecv_notBefore, stateOf_next, stateOf_ite, State.notBefore_forAll, State.notBefore_foldl, State.notBefore_ite, ite_self, implies_true, h]; done)
    | ((try dsimp only); (repeat' split) <;> first | (simp (maxDischargeDepth := 30) +contextual only [State.used_notBefore, State.violation_notBefore, State.insn_notBefore, State.drainAll_notBefore, State.illegal_notBefore, State.putTaken_notBefore, State.mbRecv_notBefore, stateOf_next, stateOf_ite, State.notBefore_forAll, State.notBefore_foldl, State.notBefore_ite, ite_self, implies_true, h]; done) | (simp_all (maxDischargeDepth := 30) only [State.used_notBefore, State.violation_notBefore, State.insn_notBefore, State.drainAll_notBefore, State.illegal_notBefore, State.putTaken_notBefore, State.mbRecv_notBefore, stateOf_next, stateOf_ite, State.notBefore_forAll, State.notBefore_foldl, State.notBefore_ite, ite_self, implies_true, h]; done))

theorem execMbstat_notBefore (n0 : Nat) (d : Reg) (k : BitVec 8) (s : State) (h : s.notBefore n0) :
    (stateOf s (execMbstat d k s)).notBefore n0 := by
  unfold execMbstat
  first
    | (simp (maxDischargeDepth := 30) +contextual only [State.putR_notBefore, State.insn_notBefore, State.touch_notBefore, State.drainAll_notBefore, State.illegal_notBefore, stateOf_next, stateOf_ite, State.notBefore_forAll, State.notBefore_foldl, State.notBefore_ite, ite_self, implies_true, h]; done)
    | ((try dsimp only); (repeat' split) <;> first | (simp (maxDischargeDepth := 30) +contextual only [State.putR_notBefore, State.insn_notBefore, State.touch_notBefore, State.drainAll_notBefore, State.illegal_notBefore, stateOf_next, stateOf_ite, State.notBefore_forAll, State.notBefore_foldl, State.notBefore_ite, ite_self, implies_true, h]; done) | (simp_all (maxDischargeDepth := 30) only [State.putR_notBefore, State.insn_notBefore, State.touch_notBefore, State.drainAll_notBefore, State.illegal_notBefore, stateOf_next, stateOf_ite, State.notBefore_forAll, State.notBefore_foldl, State.notBefore_ite, ite_self, implies_true, h]; done))

theorem State.loadOp_notBefore (n0 : Nat) (s : State) (d a : Reg) (imm : BitVec 16) (flt : FabFault) (n : Nat) (ext : Word → Word) (h : s.notBefore n0) :
    (State.loadOp s d a imm flt n ext).notBefore n0 := by
  refine State.insn_notBefore n0 _ _ _ (fun s h => ?_) h
  dsimp only
  split <;> simp only [State.putR_notBefore, State.fetch_notBefore, h]

theorem State.storeOp_notBefore (n0 : Nat) (s : State) (d a : Reg) (imm : BitVec 16) (n : Nat) (h : s.notBefore n0) :
    (State.storeOp s d a imm n).notBefore n0 := by
  unfold State.storeOp
  first
    | (simp (maxDischargeDepth := 30) +contextual only [State.insn_notBefore, State.store_notBefore, State.notBefore_forAll, State.notBefore_foldl, State.notBefore_ite, ite_self, implies_true, h]; done)
    | ((try dsimp only); (repeat' split) <;> first | (simp (maxDischargeDepth := 30) +contextual only [State.insn_notBefore, State.store_notBefore, State.notBefore_forAll, State.notBefore_foldl, State.notBefore_ite, ite_self, implies_true, h]; done) | (simp_all (maxDischargeDepth := 30) only [State.insn_notBefore, State.store_notBefore, State.notBefore_forAll, State.notBefore_foldl, State.notBefore_ite, ite_self, implies_true, h]; done))

theorem execLdw_notBefore (n0 : Nat) (d a : Reg) (imm : BitVec 16) (flt : FabFault) (s : State) (h : s.notBefore n0) :
    (stateOf s (execLdw d a imm flt s)).notBefore n0 := by
  unfold execLdw
  first
    | (simp (maxDischargeDepth := 30) +contextual only [State.loadOp_notBefore, stateOf_next, stateOf_ite, State.notBefore_forAll, State.notBefore_foldl, State.notBefore_ite, ite_self, implies_true, h]; done)
    | ((try dsimp only); (repeat' split) <;> first | (simp (maxDischargeDepth := 30) +contextual only [State.loadOp_notBefore, stateOf_next, stateOf_ite, State.notBefore_forAll, State.notBefore_foldl, State.notBefore_ite, ite_self, implies_true, h]; done) | (simp_all (maxDischargeDepth := 30) only [State.loadOp_notBefore, stateOf_next, stateOf_ite, State.notBefore_forAll, State.notBefore_foldl, State.notBefore_ite, ite_self, implies_true, h]; done))

theorem execLdh_notBefore (n0 : Nat) (d a : Reg) (imm : BitVec 16) (flt : FabFault) (s : State) (h : s.notBefore n0) :
    (stateOf s (execLdh d a imm flt s)).notBefore n0 := by
  unfold execLdh
  first
    | (simp (maxDischargeDepth := 30) +contextual only [State.loadOp_notBefore, stateOf_next, stateOf_ite, State.notBefore_forAll, State.notBefore_foldl, State.notBefore_ite, ite_self, implies_true, h]; done)
    | ((try dsimp only); (repeat' split) <;> first | (simp (maxDischargeDepth := 30) +contextual only [State.loadOp_notBefore, stateOf_next, stateOf_ite, State.notBefore_forAll, State.notBefore_foldl, State.notBefore_ite, ite_self, implies_true, h]; done) | (simp_all (maxDischargeDepth := 30) only [State.loadOp_notBefore, stateOf_next, stateOf_ite, State.notBefore_forAll, State.notBefore_foldl, State.notBefore_ite, ite_self, implies_true, h]; done))

theorem execLdhu_notBefore (n0 : Nat) (d a : Reg) (imm : BitVec 16) (flt : FabFault) (s : State) (h : s.notBefore n0) :
    (stateOf s (execLdhu d a imm flt s)).notBefore n0 := by
  unfold execLdhu
  first
    | (simp (maxDischargeDepth := 30) +contextual only [State.loadOp_notBefore, stateOf_next, stateOf_ite, State.notBefore_forAll, State.notBefore_foldl, State.notBefore_ite, ite_self, implies_true, h]; done)
    | ((try dsimp only); (repeat' split) <;> first | (simp (maxDischargeDepth := 30) +contextual only [State.loadOp_notBefore, stateOf_next, stateOf_ite, State.notBefore_forAll, State.notBefore_foldl, State.notBefore_ite, ite_self, implies_true, h]; done) | (simp_all (maxDischargeDepth := 30) only [State.loadOp_notBefore, stateOf_next, stateOf_ite, State.notBefore_forAll, State.notBefore_foldl, State.notBefore_ite, ite_self, implies_true, h]; done))

theorem execLdb_notBefore (n0 : Nat) (d a : Reg) (imm : BitVec 16) (flt : FabFault) (s : State) (h : s.notBefore n0) :
    (stateOf s (execLdb d a imm flt s)).notBefore n0 := by
  unfold execLdb
  first
    | (simp (maxDischargeDepth := 30) +contextual only [State.loadOp_notBefore, stateOf_next, stateOf_ite, State.notBefore_forAll, State.notBefore_foldl, State.notBefore_ite, ite_self, implies_true, h]; done)
    | ((try dsimp only); (repeat' split) <;> first | (simp (maxDischargeDepth := 30) +contextual only [State.loadOp_notBefore, stateOf_next, stateOf_ite, State.notBefore_forAll, State.notBefore_foldl, State.notBefore_ite, ite_self, implies_true, h]; done) | (simp_all (maxDischargeDepth := 30) only [State.loadOp_notBefore, stateOf_next, stateOf_ite, State.notBefore_forAll, State.notBefore_foldl, State.notBefore_ite, ite_self, implies_true, h]; done))

theorem execLdbu_notBefore (n0 : Nat) (d a : Reg) (imm : BitVec 16) (flt : FabFault) (s : State) (h : s.notBefore n0) :
    (stateOf s (execLdbu d a imm flt s)).notBefore n0 := by
  unfold execLdbu
  first
    | (simp (maxDischargeDepth := 30) +contextual only [State.loadOp_notBefore, stateOf_next, stateOf_ite, State.notBefore_forAll, State.notBefore_foldl, State.notBefore_ite, ite_self, implies_true, h]; done)
    | ((try dsimp only); (repeat' split) <;> first | (simp (maxDischargeDepth := 30) +contextual only [State.loadOp_notBefore, stateOf_next, stateOf_ite, State.notBefore_forAll, State.notBefore_foldl, State.notBefore_ite, ite_self, implies_true, h]; done) | (simp_all (maxDischargeDepth := 30) only [State.loadOp_notBefore, stateOf_next, stateOf_ite, State.notBefore_forAll, State.notBefore_foldl, State.notBefore_ite, ite_self, implies_true, h]; done))

theorem execStw_notBefore (n0 : Nat) (d a : Reg) (imm : BitVec 16) (s : State) (h : s.notBefore n0) :
    (stateOf s (execStw d a imm s)).notBefore n0 := by
  unfold execStw
  first
    | (simp (maxDischargeDepth := 30) +contextual only [State.storeOp_notBefore, stateOf_next, stateOf_ite, State.notBefore_forAll, State.notBefore_foldl, State.notBefore_ite, ite_self, implies_true, h]; done)
    | ((try dsimp only); (repeat' split) <;> first | (simp (maxDischargeDepth := 30) +contextual only [State.storeOp_notBefore, stateOf_next, stateOf_ite, State.notBefore_forAll, State.notBefore_foldl, State.notBefore_ite, ite_self, implies_true, h]; done) | (simp_all (maxDischargeDepth := 30) only [State.storeOp_notBefore, stateOf_next, stateOf_ite, State.notBefore_forAll, State.notBefore_foldl, State.notBefore_ite, ite_self, implies_true, h]; done))

theorem execSth_notBefore (n0 : Nat) (d a : Reg) (imm : BitVec 16) (s : State) (h : s.notBefore n0) :
    (stateOf s (execSth d a imm s)).notBefore n0 := by
  unfold execSth
  first
    | (simp (maxDischargeDepth := 30) +contextual only [State.storeOp_notBefore, stateOf_next, stateOf_ite, State.notBefore_forAll, State.notBefore_foldl, State.notBefore_ite, ite_self, implies_true, h]; done)
    | ((try dsimp only); (repeat' split) <;> first | (simp (maxDischargeDepth := 30) +contextual only [State.storeOp_notBefore, stateOf_next, stateOf_ite, State.notBefore_forAll, State.notBefore_foldl, State.notBefore_ite, ite_self, implies_true, h]; done) | (simp_all (maxDischargeDepth := 30) only [State.storeOp_notBefore, stateOf_next, stateOf_ite, State.notBefore_forAll, State.notBefore_foldl, State.notBefore_ite, ite_self, implies_true, h]; done))

theorem execStb_notBefore (n0 : Nat) (d a : Reg) (imm : BitVec 16) (s : State) (h : s.notBefore n0) :
    (stateOf s (execStb d a imm s)).notBefore n0 := by
  unfold execStb
  first
    | (simp (maxDischargeDepth := 30) +contextual only [State.storeOp_notBefore, stateOf_next, stateOf_ite, State.notBefore_forAll, State.notBefore_foldl, State.notBefore_ite, ite_self, implies_true, h]; done)
    | ((try dsimp only); (repeat' split) <;> first | (simp (maxDischargeDepth := 30) +contextual only [State.storeOp_notBefore, stateOf_next, stateOf_ite, State.notBefore_forAll, State.notBefore_foldl, State.notBefore_ite, ite_self, implies_true, h]; done) | (simp_all (maxDischargeDepth := 30) only [State.storeOp_notBefore, stateOf_next, stateOf_ite, State.notBefore_forAll, State.notBefore_foldl, State.notBefore_ite, ite_self, implies_true, h]; done))

theorem State.memContact_notBefore (n0 : Nat) (s : State) (bit : BitIx) (a : Reg) (imm : BitVec 16) (flt : FabFault) (f : Bool → Bool → Bool) (h : s.notBefore n0) :
    (State.memContact s bit a imm flt f).notBefore n0 := by
  refine State.insn_notBefore n0 _ _ _ (fun s h => ?_) h
  dsimp only
  split
  · exact State.modBank_notBefore n0 _ _ (State.fetch_notBefore n0 _ _ _ _ h)
  · exact State.fetch_notBefore n0 _ _ _ _ h

theorem State.memCoil_notBefore (n0 : Nat) (s : State) (bit : BitIx) (a : Reg) (imm : BitVec 16) (flt : FabFault) (f : Bool → Bool → Bool) (h : s.notBefore n0) :
    (State.memCoil s bit a imm flt f).notBefore n0 := by
  refine State.insn_notBefore n0 _ _ _ (fun s h => ?_) h
  dsimp only
  repeat' split
  all_goals first
    | exact State.violation_notBefore n0 _ _ (State.drainAll_notBefore n0 _ h)
    | exact State.setWord_notBefore n0 _ _ _ (State.hitMoves_notBefore n0 _ _ _ (State.fetch_notBefore n0 _ _ _ _ (State.drainAll_notBefore n0 _ h)))
    | exact State.fetch_notBefore n0 _ _ _ _ (State.drainAll_notBefore n0 _ h)

theorem execCld_notBefore (n0 : Nat) (bit : BitIx) (a : Reg) (imm : BitVec 16) (flt : FabFault) (s : State) (h : s.notBefore n0) :
    (stateOf s (execCld bit a imm flt s)).notBefore n0 := by
  unfold execCld
  first
    | (simp (maxDischargeDepth := 30) +contextual only [State.memContact_notBefore, stateOf_next, stateOf_ite, State.notBefore_forAll, State.notBefore_foldl, State.notBefore_ite, ite_self, implies_true, h]; done)
    | ((try dsimp only); (repeat' split) <;> first | (simp (maxDischargeDepth := 30) +contextual only [State.memContact_notBefore, stateOf_next, stateOf_ite, State.notBefore_forAll, State.notBefore_foldl, State.notBefore_ite, ite_self, implies_true, h]; done) | (simp_all (maxDischargeDepth := 30) only [State.memContact_notBefore, stateOf_next, stateOf_ite, State.notBefore_forAll, State.notBefore_foldl, State.notBefore_ite, ite_self, implies_true, h]; done))

theorem execCldn_notBefore (n0 : Nat) (bit : BitIx) (a : Reg) (imm : BitVec 16) (flt : FabFault) (s : State) (h : s.notBefore n0) :
    (stateOf s (execCldn bit a imm flt s)).notBefore n0 := by
  unfold execCldn
  first
    | (simp (maxDischargeDepth := 30) +contextual only [State.memContact_notBefore, stateOf_next, stateOf_ite, State.notBefore_forAll, State.notBefore_foldl, State.notBefore_ite, ite_self, implies_true, h]; done)
    | ((try dsimp only); (repeat' split) <;> first | (simp (maxDischargeDepth := 30) +contextual only [State.memContact_notBefore, stateOf_next, stateOf_ite, State.notBefore_forAll, State.notBefore_foldl, State.notBefore_ite, ite_self, implies_true, h]; done) | (simp_all (maxDischargeDepth := 30) only [State.memContact_notBefore, stateOf_next, stateOf_ite, State.notBefore_forAll, State.notBefore_foldl, State.notBefore_ite, ite_self, implies_true, h]; done))

theorem execCand_notBefore (n0 : Nat) (bit : BitIx) (a : Reg) (imm : BitVec 16) (flt : FabFault) (s : State) (h : s.notBefore n0) :
    (stateOf s (execCand bit a imm flt s)).notBefore n0 := by
  unfold execCand
  first
    | (simp (maxDischargeDepth := 30) +contextual only [State.memContact_notBefore, stateOf_next, stateOf_ite, State.notBefore_forAll, State.notBefore_foldl, State.notBefore_ite, ite_self, implies_true, h]; done)
    | ((try dsimp only); (repeat' split) <;> first | (simp (maxDischargeDepth := 30) +contextual only [State.memContact_notBefore, stateOf_next, stateOf_ite, State.notBefore_forAll, State.notBefore_foldl, State.notBefore_ite, ite_self, implies_true, h]; done) | (simp_all (maxDischargeDepth := 30) only [State.memContact_notBefore, stateOf_next, stateOf_ite, State.notBefore_forAll, State.notBefore_foldl, State.notBefore_ite, ite_self, implies_true, h]; done))

theorem execCandn_notBefore (n0 : Nat) (bit : BitIx) (a : Reg) (imm : BitVec 16) (flt : FabFault) (s : State) (h : s.notBefore n0) :
    (stateOf s (execCandn bit a imm flt s)).notBefore n0 := by
  unfold execCandn
  first
    | (simp (maxDischargeDepth := 30) +contextual only [State.memContact_notBefore, stateOf_next, stateOf_ite, State.notBefore_forAll, State.notBefore_foldl, State.notBefore_ite, ite_self, implies_true, h]; done)
    | ((try dsimp only); (repeat' split) <;> first | (simp (maxDischargeDepth := 30) +contextual only [State.memContact_notBefore, stateOf_next, stateOf_ite, State.notBefore_forAll, State.notBefore_foldl, State.notBefore_ite, ite_self, implies_true, h]; done) | (simp_all (maxDischargeDepth := 30) only [State.memContact_notBefore, stateOf_next, stateOf_ite, State.notBefore_forAll, State.notBefore_foldl, State.notBefore_ite, ite_self, implies_true, h]; done))

theorem execCor_notBefore (n0 : Nat) (bit : BitIx) (a : Reg) (imm : BitVec 16) (flt : FabFault) (s : State) (h : s.notBefore n0) :
    (stateOf s (execCor bit a imm flt s)).notBefore n0 := by
  unfold execCor
  first
    | (simp (maxDischargeDepth := 30) +contextual only [State.memContact_notBefore, stateOf_next, stateOf_ite, State.notBefore_forAll, State.notBefore_foldl, State.notBefore_ite, ite_self, implies_true, h]; done)
    | ((try dsimp only); (repeat' split) <;> first | (simp (maxDischargeDepth := 30) +contextual only [State.memContact_notBefore, stateOf_next, stateOf_ite, State.notBefore_forAll, State.notBefore_foldl, State.notBefore_ite, ite_self, implies_true, h]; done) | (simp_all (maxDischargeDepth := 30) only [State.memContact_notBefore, stateOf_next, stateOf_ite, State.notBefore_forAll, State.notBefore_foldl, State.notBefore_ite, ite_self, implies_true, h]; done))

theorem execCorn_notBefore (n0 : Nat) (bit : BitIx) (a : Reg) (imm : BitVec 16) (flt : FabFault) (s : State) (h : s.notBefore n0) :
    (stateOf s (execCorn bit a imm flt s)).notBefore n0 := by
  unfold execCorn
  first
    | (simp (maxDischargeDepth := 30) +contextual only [State.memContact_notBefore, stateOf_next, stateOf_ite, State.notBefore_forAll, State.notBefore_foldl, State.notBefore_ite, ite_self, implies_true, h]; done)
    | ((try dsimp only); (repeat' split) <;> first | (simp (maxDischargeDepth := 30) +contextual only [State.memContact_notBefore, stateOf_next, stateOf_ite, State.notBefore_forAll, State.notBefore_foldl, State.notBefore_ite, ite_self, implies_true, h]; done) | (simp_all (maxDischargeDepth := 30) only [State.memContact_notBefore, stateOf_next, stateOf_ite, State.notBefore_forAll, State.notBefore_foldl, State.notBefore_ite, ite_self, implies_true, h]; done))

theorem execCxor_notBefore (n0 : Nat) (bit : BitIx) (a : Reg) (imm : BitVec 16) (flt : FabFault) (s : State) (h : s.notBefore n0) :
    (stateOf s (execCxor bit a imm flt s)).notBefore n0 := by
  unfold execCxor
  first
    | (simp (maxDischargeDepth := 30) +contextual only [State.memContact_notBefore, stateOf_next, stateOf_ite, State.notBefore_forAll, State.notBefore_foldl, State.notBefore_ite, ite_self, implies_true, h]; done)
    | ((try dsimp only); (repeat' split) <;> first | (simp (maxDischargeDepth := 30) +contextual only [State.memContact_notBefore, stateOf_next, stateOf_ite, State.notBefore_forAll, State.notBefore_foldl, State.notBefore_ite, ite_self, implies_true, h]; done) | (simp_all (maxDischargeDepth := 30) only [State.memContact_notBefore, stateOf_next, stateOf_ite, State.notBefore_forAll, State.notBefore_foldl, State.notBefore_ite, ite_self, implies_true, h]; done))

theorem execCst_notBefore (n0 : Nat) (bit : BitIx) (a : Reg) (imm : BitVec 16) (flt : FabFault) (s : State) (h : s.notBefore n0) :
    (stateOf s (execCst bit a imm flt s)).notBefore n0 := by
  unfold execCst
  first
    | (simp (maxDischargeDepth := 30) +contextual only [State.memCoil_notBefore, stateOf_next, stateOf_ite, State.notBefore_forAll, State.notBefore_foldl, State.notBefore_ite, ite_self, implies_true, h]; done)
    | ((try dsimp only); (repeat' split) <;> first | (simp (maxDischargeDepth := 30) +contextual only [State.memCoil_notBefore, stateOf_next, stateOf_ite, State.notBefore_forAll, State.notBefore_foldl, State.notBefore_ite, ite_self, implies_true, h]; done) | (simp_all (maxDischargeDepth := 30) only [State.memCoil_notBefore, stateOf_next, stateOf_ite, State.notBefore_forAll, State.notBefore_foldl, State.notBefore_ite, ite_self, implies_true, h]; done))

theorem execCstn_notBefore (n0 : Nat) (bit : BitIx) (a : Reg) (imm : BitVec 16) (flt : FabFault) (s : State) (h : s.notBefore n0) :
    (stateOf s (execCstn bit a imm flt s)).notBefore n0 := by
  unfold execCstn
  first
    | (simp (maxDischargeDepth := 30) +contextual only [State.memCoil_notBefore, stateOf_next, stateOf_ite, State.notBefore_forAll, State.notBefore_foldl, State.notBefore_ite, ite_self, implies_true, h]; done)
    | ((try dsimp only); (repeat' split) <;> first | (simp (maxDischargeDepth := 30) +contextual only [State.memCoil_notBefore, stateOf_next, stateOf_ite, State.notBefore_forAll, State.notBefore_foldl, State.notBefore_ite, ite_self, implies_true, h]; done) | (simp_all (maxDischargeDepth := 30) only [State.memCoil_notBefore, stateOf_next, stateOf_ite, State.notBefore_forAll, State.notBefore_foldl, State.notBefore_ite, ite_self, implies_true, h]; done))

theorem execCset_notBefore (n0 : Nat) (bit : BitIx) (a : Reg) (imm : BitVec 16) (flt : FabFault) (s : State) (h : s.notBefore n0) :
    (stateOf s (execCset bit a imm flt s)).notBefore n0 := by
  unfold execCset
  first
    | (simp (maxDischargeDepth := 30) +contextual only [State.memCoil_notBefore, stateOf_next, stateOf_ite, State.notBefore_forAll, State.notBefore_foldl, State.notBefore_ite, ite_self, implies_true, h]; done)
    | ((try dsimp only); (repeat' split) <;> first | (simp (maxDischargeDepth := 30) +contextual only [State.memCoil_notBefore, stateOf_next, stateOf_ite, State.notBefore_forAll, State.notBefore_foldl, State.notBefore_ite, ite_self, implies_true, h]; done) | (simp_all (maxDischargeDepth := 30) only [State.memCoil_notBefore, stateOf_next, stateOf_ite, State.notBefore_forAll, State.notBefore_foldl, State.notBefore_ite, ite_self, implies_true, h]; done))

theorem execCrst_notBefore (n0 : Nat) (bit : BitIx) (a : Reg) (imm : BitVec 16) (flt : FabFault) (s : State) (h : s.notBefore n0) :
    (stateOf s (execCrst bit a imm flt s)).notBefore n0 := by
  unfold execCrst
  first
    | (simp (maxDischargeDepth := 30) +contextual only [State.memCoil_notBefore, stateOf_next, stateOf_ite, State.notBefore_forAll, State.notBefore_foldl, State.notBefore_ite, ite_self, implies_true, h]; done)
    | ((try dsimp only); (repeat' split) <;> first | (simp (maxDischargeDepth := 30) +contextual only [State.memCoil_notBefore, stateOf_next, stateOf_ite, State.notBefore_forAll, State.notBefore_foldl, State.notBefore_ite, ite_self, implies_true, h]; done) | (simp_all (maxDischargeDepth := 30) only [State.memCoil_notBefore, stateOf_next, stateOf_ite, State.notBefore_forAll, State.notBefore_foldl, State.notBefore_ite, ite_self, implies_true, h]; done))

theorem execFence_notBefore (n0 : Nat) (s : State) (h : s.notBefore n0) :
    (stateOf s (execFence s)).notBefore n0 := by
  unfold execFence
  first
    | (simp (maxDischargeDepth := 30) +contextual only [State.insn_notBefore, State.drainAll_notBefore, stateOf_next, stateOf_ite, State.notBefore_forAll, State.notBefore_foldl, State.notBefore_ite, ite_self, implies_true, h]; done)
    | ((try dsimp only); (repeat' split) <;> first | (simp (maxDischargeDepth := 30) +contextual only [State.insn_notBefore, State.drainAll_notBefore, stateOf_next, stateOf_ite, State.notBefore_forAll, State.notBefore_foldl, State.notBefore_ite, ite_self, implies_true, h]; done) | (simp_all (maxDischargeDepth := 30) only [State.insn_notBefore, State.drainAll_notBefore, stateOf_next, stateOf_ite, State.notBefore_forAll, State.notBefore_foldl, State.notBefore_ite, ite_self, implies_true, h]; done))

theorem execCommit_notBefore (n0 : Nat) (d a : Reg) (flt : FabFault) (s : State) (h : s.notBefore n0) :
    (stateOf s (execCommit d a flt s)).notBefore n0 := by
  unfold execCommit
  first
    | (simp (maxDischargeDepth := 30) +contextual only [State.insn_notBefore, State.putStatus_notBefore, State.drainAll_notBefore, State.commit_notBefore, stateOf_next, stateOf_ite, State.notBefore_forAll, State.notBefore_foldl, State.notBefore_ite, ite_self, implies_true, h]; done)
    | ((try dsimp only); (repeat' split) <;> first | (simp (maxDischargeDepth := 30) +contextual only [State.insn_notBefore, State.putStatus_notBefore, State.drainAll_notBefore, State.commit_notBefore, stateOf_next, stateOf_ite, State.notBefore_forAll, State.notBefore_foldl, State.notBefore_ite, ite_self, implies_true, h]; done) | (simp_all (maxDischargeDepth := 30) only [State.insn_notBefore, State.putStatus_notBefore, State.drainAll_notBefore, State.commit_notBefore, stateOf_next, stateOf_ite, State.notBefore_forAll, State.notBefore_foldl, State.notBefore_ite, ite_self, implies_true, h]; done))

theorem State.motOp_notBefore (n0 : Nat) (s : State) (cycles n : Nat) (d : Reg) (k : BitVec 8) (none_ : Word) (flag : Bool) (addr : Nat → Nat)
    (f : State → Nat → State) (g0 : ∀ s n, s.notBefore n0 → (f s n).notBefore n0) (h : s.notBefore n0) : (State.motOp s cycles n d k none_ flag addr f).notBefore n0 := by
  unfold State.motOp
  split
  · simp only [State.illegal_notBefore, h]
  · exact State.insn_notBefore n0 _ _ _ (fun s h => g0 s _ h) h
  · refine State.insn_notBefore n0 _ _ _ (fun s h => ?_) h
    dsimp only
    split <;> simp (maxDischargeDepth := 30) only [State.putStatus_notBefore, State.putR_notBefore, State.noRight_notBefore, State.drainAll_notBefore, h]

theorem execMtgt_notBefore (n0 : Nat) (d a : Reg) (k : BitVec 8) (flt : FabFault) (s : State) (h : s.notBefore n0) :
    (stateOf s (execMtgt d a k flt s)).notBefore n0 := by
  unfold execMtgt
  first
    | (simp (maxDischargeDepth := 30) +contextual only [State.putStatus_notBefore, State.writeAxis_notBefore, State.drainAll_notBefore, State.commit_notBefore, State.motOp_notBefore, stateOf_next, stateOf_ite, State.notBefore_forAll, State.notBefore_foldl, State.notBefore_ite, ite_self, implies_true, h]; done)
    | ((try dsimp only); (repeat' split) <;> first | (simp (maxDischargeDepth := 30) +contextual only [State.putStatus_notBefore, State.writeAxis_notBefore, State.drainAll_notBefore, State.commit_notBefore, State.motOp_notBefore, stateOf_next, stateOf_ite, State.notBefore_forAll, State.notBefore_foldl, State.notBefore_ite, ite_self, implies_true, h]; done) | (simp_all (maxDischargeDepth := 30) only [State.putStatus_notBefore, State.writeAxis_notBefore, State.drainAll_notBefore, State.commit_notBefore, State.motOp_notBefore, stateOf_next, stateOf_ite, State.notBefore_forAll, State.notBefore_foldl, State.notBefore_ite, ite_self, implies_true, h]; done))

theorem State.commitLeaves_notBefore (n0 : Nat) (s : State) (p : PortalIx) (f : FabFault) (h : s.notBefore n0) :
    (State.commitLeaves s p f).1.notBefore n0 :=
  (State.notBefore_mask n0 (State.commitLeaves_mask _ _ _ _ rfl rfl rfl rfl rfl rfl rfl rfl rfl)).2 h

theorem execMleaf_notBefore (n0 : Nat) (d a : Reg) (k : BitVec 8) (flt : FabFault) (s : State) (h : s.notBefore n0) :
    (stateOf s (execMleaf d a k flt s)).notBefore n0 := by
  unfold execMleaf
  first
    | (simp (maxDischargeDepth := 30) +contextual only [State.insn_notBefore, State.putStatus_notBefore, State.writeAxis_notBefore, State.drainAll_notBefore, State.illegal_notBefore, State.commitLeaves_notBefore, stateOf_next, stateOf_ite, State.notBefore_forAll, State.notBefore_foldl, State.notBefore_ite, ite_self, implies_true, h]; done)
    | ((try dsimp only); (repeat' split) <;> first | (simp (maxDischargeDepth := 30) +contextual only [State.insn_notBefore, State.putStatus_notBefore, State.writeAxis_notBefore, State.drainAll_notBefore, State.illegal_notBefore, State.commitLeaves_notBefore, stateOf_next, stateOf_ite, State.notBefore_forAll, State.notBefore_foldl, State.notBefore_ite, ite_self, implies_true, h]; done) | (simp_all (maxDischargeDepth := 30) only [State.insn_notBefore, State.putStatus_notBefore, State.writeAxis_notBefore, State.drainAll_notBefore, State.illegal_notBefore, State.commitLeaves_notBefore, stateOf_next, stateOf_ite, State.notBefore_forAll, State.notBefore_foldl, State.notBefore_ite, ite_self, implies_true, h]; done))

theorem execMvlim_notBefore (n0 : Nat) (d a : Reg) (k : BitVec 8) (s : State) (h : s.notBefore n0) :
    (stateOf s (execMvlim d a k s)).notBefore n0 := by
  unfold execMvlim
  first
    | (simp (maxDischargeDepth := 30) +contextual only [State.writeAxis_notBefore, State.drainAll_notBefore, State.motOp_notBefore, stateOf_next, stateOf_ite, State.notBefore_forAll, State.notBefore_foldl, State.notBefore_ite, ite_self, implies_true, h]; done)
    | ((try dsimp only); (repeat' split) <;> first | (simp (maxDischargeDepth := 30) +contextual only [State.writeAxis_notBefore, State.drainAll_notBefore, State.motOp_notBefore, stateOf_next, stateOf_ite, State.notBefore_forAll, State.notBefore_foldl, State.notBefore_ite, ite_self, implies_true, h]; done) | (simp_all (maxDischargeDepth := 30) only [State.writeAxis_notBefore, State.drainAll_notBefore, State.motOp_notBefore, stateOf_next, stateOf_ite, State.notBefore_forAll, State.notBefore_foldl, State.notBefore_ite, ite_self, implies_true, h]; done))

theorem execMcmd_notBefore (n0 : Nat) (d a : Reg) (k : BitVec 8) (s : State) (h : s.notBefore n0) :
    (stateOf s (execMcmd d a k s)).notBefore n0 := by
  unfold execMcmd
  first
    | (simp (maxDischargeDepth := 30) +contextual only [State.writeAxis_notBefore, State.drainAll_notBefore, State.motOp_notBefore, stateOf_next, stateOf_ite, State.notBefore_forAll, State.notBefore_foldl, State.notBefore_ite, ite_self, implies_true, h]; done)
    | ((try dsimp only); (repeat' split) <;> first | (simp (maxDischargeDepth := 30) +contextual only [State.writeAxis_notBefore, State.drainAll_notBefore, State.motOp_notBefore, stateOf_next, stateOf_ite, State.notBefore_forAll, State.notBefore_foldl, State.notBefore_ite, ite_self, implies_true, h]; done) | (simp_all (maxDischargeDepth := 30) only [State.writeAxis_notBefore, State.drainAll_notBefore, State.motOp_notBefore, stateOf_next, stateOf_ite, State.notBefore_forAll, State.notBefore_foldl, State.notBefore_ite, ite_self, implies_true, h]; done))

theorem execPcmd_notBefore (n0 : Nat) (d a : Reg) (k : BitVec 8) (s : State) (h : s.notBefore n0) :
    (stateOf s (execPcmd d a k s)).notBefore n0 := by
  unfold execPcmd
  first
    | (simp (maxDischargeDepth := 30) +contextual only [State.fellSince_notBefore, State.axisCmd_notBefore, State.drainAll_notBefore, State.motOp_notBefore, stateOf_next, stateOf_ite, State.notBefore_forAll, State.notBefore_foldl, State.notBefore_ite, ite_self, implies_true, h]; done)
    | ((try dsimp only); (repeat' split) <;> first | (simp (maxDischargeDepth := 30) +contextual only [State.fellSince_notBefore, State.axisCmd_notBefore, State.drainAll_notBefore, State.motOp_notBefore, stateOf_next, stateOf_ite, State.notBefore_forAll, State.notBefore_foldl, State.notBefore_ite, ite_self, implies_true, h]; done) | (simp_all (maxDischargeDepth := 30) only [State.fellSince_notBefore, State.axisCmd_notBefore, State.drainAll_notBefore, State.motOp_notBefore, stateOf_next, stateOf_ite, State.notBefore_forAll, State.notBefore_foldl, State.notBefore_ite, ite_self, implies_true, h]; done))

theorem execMstat_notBefore (n0 : Nat) (d : Reg) (k : BitVec 8) (s : State) (h : s.notBefore n0) :
    (stateOf s (execMstat d k s)).notBefore n0 := by
  unfold execMstat
  first
    | (simp (maxDischargeDepth := 30) +contextual only [State.putR_notBefore, State.motOp_notBefore, stateOf_next, stateOf_ite, State.notBefore_forAll, State.notBefore_foldl, State.notBefore_ite, ite_self, implies_true, h]; done)
    | ((try dsimp only); (repeat' split) <;> first | (simp (maxDischargeDepth := 30) +contextual only [State.putR_notBefore, State.motOp_notBefore, stateOf_next, stateOf_ite, State.notBefore_forAll, State.notBefore_foldl, State.notBefore_ite, ite_self, implies_true, h]; done) | (simp_all (maxDischargeDepth := 30) only [State.putR_notBefore, State.motOp_notBefore, stateOf_next, stateOf_ite, State.notBefore_forAll, State.notBefore_foldl, State.notBefore_ite, ite_self, implies_true, h]; done))

theorem execMpos_notBefore (n0 : Nat) (d : Reg) (k : BitVec 8) (s : State) (h : s.notBefore n0) :
    (stateOf s (execMpos d k s)).notBefore n0 := by
  unfold execMpos
  first
    | (simp (maxDischargeDepth := 30) +contextual only [State.putR_notBefore, State.motOp_notBefore, stateOf_next, stateOf_ite, State.notBefore_forAll, State.notBefore_foldl, State.notBefore_ite, ite_self, implies_true, h]; done)
    | ((try dsimp only); (repeat' split) <;> first | (simp (maxDischargeDepth := 30) +contextual only [State.putR_notBefore, State.motOp_notBefore, stateOf_next, stateOf_ite, State.notBefore_forAll, State.notBefore_foldl, State.notBefore_ite, ite_self, implies_true, h]; done) | (simp_all (maxDischargeDepth := 30) only [State.putR_notBefore, State.motOp_notBefore, stateOf_next, stateOf_ite, State.notBefore_forAll, State.notBefore_foldl, State.notBefore_ite, ite_self, implies_true, h]; done))

theorem execBhit_notBefore (n0 : Nat) (d : Reg) (k : BitVec 8) (s : State) (h : s.notBefore n0) :
    (stateOf s (execBhit d k s)).notBefore n0 := by
  unfold execBhit
  first
    | (simp (maxDischargeDepth := 30) +contextual only [State.putStatus_notBefore, State.writeAxis_notBefore, State.drainAll_notBefore, State.motOp_notBefore, stateOf_next, stateOf_ite, State.notBefore_forAll, State.notBefore_foldl, State.notBefore_ite, ite_self, implies_true, h]; done)
    | ((try dsimp only); (repeat' split) <;> first | (simp (maxDischargeDepth := 30) +contextual only [State.putStatus_notBefore, State.writeAxis_notBefore, State.drainAll_notBefore, State.motOp_notBefore, stateOf_next, stateOf_ite, State.notBefore_forAll, State.notBefore_foldl, State.notBefore_ite, ite_self, implies_true, h]; done) | (simp_all (maxDischargeDepth := 30) only [State.putStatus_notBefore, State.writeAxis_notBefore, State.drainAll_notBefore, State.motOp_notBefore, stateOf_next, stateOf_ite, State.notBefore_forAll, State.notBefore_foldl, State.notBefore_ite, ite_self, implies_true, h]; done))

theorem execBrearm_notBefore (n0 : Nat) (d a : Reg) (k : BitVec 8) (s : State) (h : s.notBefore n0) :
    (stateOf s (execBrearm d a k s)).notBefore n0 := by
  unfold execBrearm
  first
    | (simp (maxDischargeDepth := 30) +contextual only [State.writeAxis_notBefore, State.drainAll_notBefore, State.motOp_notBefore, stateOf_next, stateOf_ite, State.notBefore_forAll, State.notBefore_foldl, State.notBefore_ite, ite_self, implies_true, h]; done)
    | ((try dsimp only); (repeat' split) <;> first | (simp (maxDischargeDepth := 30) +contextual only [State.writeAxis_notBefore, State.drainAll_notBefore, State.motOp_notBefore, stateOf_next, stateOf_ite, State.notBefore_forAll, State.notBefore_foldl, State.notBefore_ite, ite_self, implies_true, h]; done) | (simp_all (maxDischargeDepth := 30) only [State.writeAxis_notBefore, State.drainAll_notBefore, State.motOp_notBefore, stateOf_next, stateOf_ite, State.notBefore_forAll, State.notBefore_foldl, State.notBefore_ite, ite_self, implies_true, h]; done))

theorem State.lsw_notBefore (n0 : Nat) (s : State) (d : Reg) (k : BitVec 8) (flt : FabFault) (on : State → Bool) (h : s.notBefore n0) :
    (State.lsw s d k flt on).notBefore n0 := by
  unfold State.lsw
  first
    | (simp (maxDischargeDepth := 30) +contextual only [State.putStatus_notBefore, State.writeLoad_notBefore, State.drainAll_notBefore, State.commit_notBefore, State.motOp_notBefore, State.notBefore_forAll, State.notBefore_foldl, State.notBefore_ite, ite_self, implies_true, h]; done)
    | ((try dsimp only); (repeat' split) <;> first | (simp (maxDischargeDepth := 30) +contextual only [State.putStatus_notBefore, State.writeLoad_notBefore, State.drainAll_notBefore, State.commit_notBefore, State.motOp_notBefore, State.notBefore_forAll, State.notBefore_foldl, State.notBefore_ite, ite_self, implies_true, h]; done) | (simp_all (maxDischargeDepth := 30) only [State.putStatus_notBefore, State.writeLoad_notBefore, State.drainAll_notBefore, State.commit_notBefore, State.motOp_notBefore, State.notBefore_forAll, State.notBefore_foldl, State.notBefore_ite, ite_self, implies_true, h]; done))

theorem execLsw_notBefore (n0 : Nat) (d a : Reg) (k : BitVec 8) (flt : FabFault) (s : State) (h : s.notBefore n0) :
    (stateOf s (execLsw d a k flt s)).notBefore n0 := by
  unfold execLsw
  first
    | (simp (maxDischargeDepth := 30) +contextual only [State.lsw_notBefore, stateOf_next, stateOf_ite, State.notBefore_forAll, State.notBefore_foldl, State.notBefore_ite, ite_self, implies_true, h]; done)
    | ((try dsimp only); (repeat' split) <;> first | (simp (maxDischargeDepth := 30) +contextual only [State.lsw_notBefore, stateOf_next, stateOf_ite, State.notBefore_forAll, State.notBefore_foldl, State.notBefore_ite, ite_self, implies_true, h]; done) | (simp_all (maxDischargeDepth := 30) only [State.lsw_notBefore, stateOf_next, stateOf_ite, State.notBefore_forAll, State.notBefore_foldl, State.notBefore_ite, ite_self, implies_true, h]; done))

theorem execLswb_notBefore (n0 : Nat) (d : Reg) (k : BitVec 8) (flt : FabFault) (s : State) (h : s.notBefore n0) :
    (stateOf s (execLswb d k flt s)).notBefore n0 := by
  unfold execLswb
  first
    | (simp (maxDischargeDepth := 30) +contextual only [State.lsw_notBefore, stateOf_next, stateOf_ite, State.notBefore_forAll, State.notBefore_foldl, State.notBefore_ite, ite_self, implies_true, h]; done)
    | ((try dsimp only); (repeat' split) <;> first | (simp (maxDischargeDepth := 30) +contextual only [State.lsw_notBefore, stateOf_next, stateOf_ite, State.notBefore_forAll, State.notBefore_foldl, State.notBefore_ite, ite_self, implies_true, h]; done) | (simp_all (maxDischargeDepth := 30) only [State.lsw_notBefore, stateOf_next, stateOf_ite, State.notBefore_forAll, State.notBefore_foldl, State.notBefore_ite, ite_self, implies_true, h]; done))

theorem State.moveStart_notBefore (n0 : Nat) (s : State) (i : Fin 4) (src dst len cw : Nat) (h : s.notBefore n0) :
    (State.moveStart s i src dst len cw).notBefore n0 :=
  (State.notBefore_mask n0 (State.moveStart_mask _ _ _ _ _ _ _ rfl rfl rfl)).2 h

theorem execBmove_notBefore (n0 : Nat) (d a : Reg) (s : State) (h : s.notBefore n0) :
    (stateOf s (execBmove d a s)).notBefore n0 := by
  unfold execBmove
  first
    | (simp (maxDischargeDepth := 30) +contextual only [State.modEng_notBefore, State.modBank_notBefore, State.insn_notBefore, State.drainAll_notBefore, State.moveStart_notBefore, stateOf_next, stateOf_ite, State.notBefore_forAll, State.notBefore_foldl, State.notBefore_ite, ite_self, implies_true, h]; done)
    | ((try dsimp only); (repeat' split) <;> first | (simp (maxDischargeDepth := 30) +contextual only [State.modEng_notBefore, State.modBank_notBefore, State.insn_notBefore, State.drainAll_notBefore, State.moveStart_notBefore, stateOf_next, stateOf_ite, State.notBefore_forAll, State.notBefore_foldl, State.notBefore_ite, ite_self, implies_true, h]; done) | (simp_all (maxDischargeDepth := 30) only [State.modEng_notBefore, State.modBank_notBefore, State.insn_notBefore, State.drainAll_notBefore, State.moveStart_notBefore, stateOf_next, stateOf_ite, State.notBefore_forAll, State.notBefore_foldl, State.notBefore_ite, ite_self, implies_true, h]; done))

theorem State.tagOp_notBefore (n0 : Nat) (s : State) (t : BitVec 14) (accepts : TagType → Bool) (f : TagType → State → Quad → Quad) (g : State → Quad → Bank → Bank) (h : s.notBefore n0) :
    (State.tagOp s t accepts f g).notBefore n0 := by
  unfold State.tagOp
  first
    | (simp (maxDischargeDepth := 30) +contextual only [State.modBank_notBefore, State.insn_notBefore, State.setQuad_notBefore, State.hitMoves_notBefore, State.drainAll_notBefore, State.illegal_notBefore, State.notBefore_forAll, State.notBefore_foldl, State.notBefore_ite, ite_self, implies_true, h]; done)
    | ((try dsimp only); (repeat' split) <;> first | (simp (maxDischargeDepth := 30) +contextual only [State.modBank_notBefore, State.insn_notBefore, State.setQuad_notBefore, State.hitMoves_notBefore, State.drainAll_notBefore, State.illegal_notBefore, State.notBefore_forAll, State.notBefore_foldl, State.notBefore_ite, ite_self, implies_true, h]; done) | (simp_all (maxDischargeDepth := 30) only [State.modBank_notBefore, State.insn_notBefore, State.setQuad_notBefore, State.hitMoves_notBefore, State.drainAll_notBefore, State.illegal_notBefore, State.notBefore_forAll, State.notBefore_foldl, State.notBefore_ite, ite_self, implies_true, h]; done))

theorem execTrun_notBefore (n0 : Nat) (d : Reg) (tag : BitVec 14) (s : State) (h : s.notBefore n0) :
    (stateOf s (execTrun d tag s)).notBefore n0 := by
  unfold execTrun
  first
    | (simp (maxDischargeDepth := 30) +contextual only [State.tagOp_notBefore, stateOf_next, stateOf_ite, State.notBefore_forAll, State.notBefore_foldl, State.notBefore_ite, ite_self, implies_true, h]; done)
    | ((try dsimp only); (repeat' split) <;> first | (simp (maxDischargeDepth := 30) +contextual only [State.tagOp_notBefore, stateOf_next, stateOf_ite, State.notBefore_forAll, State.notBefore_foldl, State.notBefore_ite, ite_self, implies_true, h]; done) | (simp_all (maxDischargeDepth := 30) only [State.tagOp_notBefore, stateOf_next, stateOf_ite, State.notBefore_forAll, State.notBefore_foldl, State.notBefore_ite, ite_self, implies_true, h]; done))

theorem execTpre_notBefore (n0 : Nat) (d : Reg) (tag : BitVec 14) (s : State) (h : s.notBefore n0) :
    (stateOf s (execTpre d tag s)).notBefore n0 := by
  unfold execTpre
  first
    | (simp (maxDischargeDepth := 30) +contextual only [State.tagOp_notBefore, stateOf_next, stateOf_ite, State.notBefore_forAll, State.notBefore_foldl, State.notBefore_ite, ite_self, implies_true, h]; done)
    | ((try dsimp only); (repeat' split) <;> first | (simp (maxDischargeDepth := 30) +contextual only [State.tagOp_notBefore, stateOf_next, stateOf_ite, State.notBefore_forAll, State.notBefore_foldl, State.notBefore_ite, ite_self, implies_true, h]; done) | (simp_all (maxDischargeDepth := 30) only [State.tagOp_notBefore, stateOf_next, stateOf_ite, State.notBefore_forAll, State.notBefore_foldl, State.notBefore_ite, ite_self, implies_true, h]; done))

theorem execTres_notBefore (n0 : Nat) (tag : BitVec 14) (s : State) (h : s.notBefore n0) :
    (stateOf s (execTres tag s)).notBefore n0 := by
  unfold execTres
  first
    | (simp (maxDischargeDepth := 30) +contextual only [State.tagOp_notBefore, stateOf_next, stateOf_ite, State.notBefore_forAll, State.notBefore_foldl, State.notBefore_ite, ite_self, implies_true, h]; done)
    | ((try dsimp only); (repeat' split) <;> first | (simp (maxDischargeDepth := 30) +contextual only [State.tagOp_notBefore, stateOf_next, stateOf_ite, State.notBefore_forAll, State.notBefore_foldl, State.notBefore_ite, ite_self, implies_true, h]; done) | (simp_all (maxDischargeDepth := 30) only [State.tagOp_notBefore, stateOf_next, stateOf_ite, State.notBefore_forAll, State.notBefore_foldl, State.notBefore_ite, ite_self, implies_true, h]; done))

theorem execEdr_notBefore (n0 : Nat) (tag : BitVec 14) (s : State) (h : s.notBefore n0) :
    (stateOf s (execEdr tag s)).notBefore n0 := by
  unfold execEdr
  first
    | (simp (maxDischargeDepth := 30) +contextual only [State.tagOp_notBefore, stateOf_next, stateOf_ite, State.notBefore_forAll, State.notBefore_foldl, State.notBefore_ite, ite_self, implies_true, h]; done)
    | ((try dsimp only); (repeat' split) <;> first | (simp (maxDischargeDepth := 30) +contextual only [State.tagOp_notBefore, stateOf_next, stateOf_ite, State.notBefore_forAll, State.notBefore_foldl, State.notBefore_ite, ite_self, implies_true, h]; done) | (simp_all (maxDischargeDepth := 30) only [State.tagOp_notBefore, stateOf_next, stateOf_ite, State.notBefore_forAll, State.notBefore_foldl, State.notBefore_ite, ite_self, implies_true, h]; done))

theorem execEdf_notBefore (n0 : Nat) (tag : BitVec 14) (s : State) (h : s.notBefore n0) :
    (stateOf s (execEdf tag s)).notBefore n0 := by
  unfold execEdf
  first
    | (simp (maxDischargeDepth := 30) +contextual only [State.tagOp_notBefore, stateOf_next, stateOf_ite, State.notBefore_forAll, State.notBefore_foldl, State.notBefore_ite, ite_self, implies_true, h]; done)
    | ((try dsimp only); (repeat' split) <;> first | (simp (maxDischargeDepth := 30) +contextual only [State.tagOp_notBefore, stateOf_next, stateOf_ite, State.notBefore_forAll, State.notBefore_foldl, State.notBefore_ite, ite_self, implies_true, h]; done) | (simp_all (maxDischargeDepth := 30) only [State.tagOp_notBefore, stateOf_next, stateOf_ite, State.notBefore_forAll, State.notBefore_foldl, State.notBefore_ite, ite_self, implies_true, h]; done))

theorem execEdlf_notBefore (n0 : Nat) (tag : BitVec 14) (s : State) (h : s.notBefore n0) :
    (stateOf s (execEdlf tag s)).notBefore n0 := by
  unfold execEdlf
  first
    | (simp (maxDischargeDepth := 30) +contextual only [State.tagOp_notBefore, stateOf_next, stateOf_ite, State.notBefore_forAll, State.notBefore_foldl, State.notBefore_ite, ite_self, implies_true, h]; done)
    | ((try dsimp only); (repeat' split) <;> first | (simp (maxDischargeDepth := 30) +contextual only [State.tagOp_notBefore, stateOf_next, stateOf_ite, State.notBefore_forAll, State.notBefore_foldl, State.notBefore_ite, ite_self, implies_true, h]; done) | (simp_all (maxDischargeDepth := 30) only [State.tagOp_notBefore, stateOf_next, stateOf_ite, State.notBefore_forAll, State.notBefore_foldl, State.notBefore_ite, ite_self, implies_true, h]; done))

theorem State.counterOp_notBefore (n0 : Nat) (s : State) (d : Reg) (tag : BitVec 14) (f : Bool → Counter → Counter) (b : Option (Counter → Bool)) (h : s.notBefore n0) :
    (State.counterOp s d tag f b).notBefore n0 := by
  unfold State.counterOp
  first
    | (simp (maxDischargeDepth := 30) +contextual only [State.tagOp_notBefore, State.notBefore_forAll, State.notBefore_foldl, State.notBefore_ite, ite_self, implies_true, h]; done)
    | ((try dsimp only); (repeat' split) <;> first | (simp (maxDischargeDepth := 30) +contextual only [State.tagOp_notBefore, State.notBefore_forAll, State.notBefore_foldl, State.notBefore_ite, ite_self, implies_true, h]; done) | (simp_all (maxDischargeDepth := 30) only [State.tagOp_notBefore, State.notBefore_forAll, State.notBefore_foldl, State.notBefore_ite, ite_self, implies_true, h]; done))

theorem execCcu_notBefore (n0 : Nat) (d : Reg) (tag : BitVec 14) (s : State) (h : s.notBefore n0) :
    (stateOf s (execCcu d tag s)).notBefore n0 := by
  unfold execCcu
  first
    | (simp (maxDischargeDepth := 30) +contextual only [State.counterOp_notBefore, stateOf_next, stateOf_ite, State.notBefore_forAll, State.notBefore_foldl, State.notBefore_ite, ite_self, implies_true, h]; done)
    | ((try dsimp only); (repeat' split) <;> first | (simp (maxDischargeDepth := 30) +contextual only [State.counterOp_notBefore, stateOf_next, stateOf_ite, State.notBefore_forAll, State.notBefore_foldl, State.notBefore_ite, ite_self, implies_true, h]; done) | (simp_all (maxDischargeDepth := 30) only [State.counterOp_notBefore, stateOf_next, stateOf_ite, State.notBefore_forAll, State.notBefore_foldl, State.notBefore_ite, ite_self, implies_true, h]; done))

theorem execCcd_notBefore (n0 : Nat) (d : Reg) (tag : BitVec 14) (s : State) (h : s.notBefore n0) :
    (stateOf s (execCcd d tag s)).notBefore n0 := by
  unfold execCcd
  first
    | (simp (maxDischargeDepth := 30) +contextual only [State.counterOp_notBefore, stateOf_next, stateOf_ite, State.notBefore_forAll, State.notBefore_foldl, State.notBefore_ite, ite_self, implies_true, h]; done)
    | ((try dsimp only); (repeat' split) <;> first | (simp (maxDischargeDepth := 30) +contextual only [State.counterOp_notBefore, stateOf_next, stateOf_ite, State.notBefore_forAll, State.notBefore_foldl, State.notBefore_ite, ite_self, implies_true, h]; done) | (simp_all (maxDischargeDepth := 30) only [State.counterOp_notBefore, stateOf_next, stateOf_ite, State.notBefore_forAll, State.notBefore_foldl, State.notBefore_ite, ite_self, implies_true, h]; done))

theorem execCload_notBefore (n0 : Nat) (d : Reg) (tag : BitVec 14) (s : State) (h : s.notBefore n0) :
    (stateOf s (execCload d tag s)).notBefore n0 := by
  unfold execCload
  first
    | (simp (maxDischargeDepth := 30) +contextual only [State.counterOp_notBefore, stateOf_next, stateOf_ite, State.notBefore_forAll, State.notBefore_foldl, State.notBefore_ite, ite_self, implies_true, h]; done)
    | ((try dsimp only); (repeat' split) <;> first | (simp (maxDischargeDepth := 30) +contextual only [State.counterOp_notBefore, stateOf_next, stateOf_ite, State.notBefore_forAll, State.notBefore_foldl, State.notBefore_ite, ite_self, implies_true, h]; done) | (simp_all (maxDischargeDepth := 30) only [State.counterOp_notBefore, stateOf_next, stateOf_ite, State.notBefore_forAll, State.notBefore_foldl, State.notBefore_ite, ite_self, implies_true, h]; done))

theorem execCres_notBefore (n0 : Nat) (d : Reg) (tag : BitVec 14) (s : State) (h : s.notBefore n0) :
    (stateOf s (execCres d tag s)).notBefore n0 := by
  unfold execCres
  first
    | (simp (maxDischargeDepth := 30) +contextual only [State.counterOp_notBefore, stateOf_next, stateOf_ite, State.notBefore_forAll, State.notBefore_foldl, State.notBefore_ite, ite_self, implies_true, h]; done)
    | ((try dsimp only); (repeat' split) <;> first | (simp (maxDischargeDepth := 30) +contextual only [State.counterOp_notBefore, stateOf_next, stateOf_ite, State.notBefore_forAll, State.notBefore_foldl, State.notBefore_ite, ite_self, implies_true, h]; done) | (simp_all (maxDischargeDepth := 30) only [State.counterOp_notBefore, stateOf_next, stateOf_ite, State.notBefore_forAll, State.notBefore_foldl, State.notBefore_ite, ite_self, implies_true, h]; done))

theorem execCpre_notBefore (n0 : Nat) (d : Reg) (tag : BitVec 14) (s : State) (h : s.notBefore n0) :
    (stateOf s (execCpre d tag s)).notBefore n0 := by
  unfold execCpre
  first
    | (simp (maxDischargeDepth := 30) +contextual only [State.tagOp_notBefore, stateOf_next, stateOf_ite, State.notBefore_forAll, State.notBefore_foldl, State.notBefore_ite, ite_self, implies_true, h]; done)
    | ((try dsimp only); (repeat' split) <;> first | (simp (maxDischargeDepth := 30) +contextual only [State.tagOp_notBefore, stateOf_next, stateOf_ite, State.notBefore_forAll, State.notBefore_foldl, State.notBefore_ite, ite_self, implies_true, h]; done) | (simp_all (maxDischargeDepth := 30) only [State.tagOp_notBefore, stateOf_next, stateOf_ite, State.notBefore_forAll, State.notBefore_foldl, State.notBefore_ite, ite_self, implies_true, h]; done))

theorem execLev_notBefore (n0 : Nat) (d : Reg) (tag : BitVec 14) (s : State) (h : s.notBefore n0) :
    (stateOf s (execLev d tag s)).notBefore n0 := by
  unfold execLev
  first
    | (simp (maxDischargeDepth := 30) +contextual only [State.tagOp_notBefore, stateOf_next, stateOf_ite, State.notBefore_forAll, State.notBefore_foldl, State.notBefore_ite, ite_self, implies_true, h]; done)
    | ((try dsimp only); (repeat' split) <;> first | (simp (maxDischargeDepth := 30) +contextual only [State.tagOp_notBefore, stateOf_next, stateOf_ite, State.notBefore_forAll, State.notBefore_foldl, State.notBefore_ite, ite_self, implies_true, h]; done) | (simp_all (maxDischargeDepth := 30) only [State.tagOp_notBefore, stateOf_next, stateOf_ite, State.notBefore_forAll, State.notBefore_foldl, State.notBefore_ite, ite_self, implies_true, h]; done))

theorem execRtgt_notBefore (n0 : Nat) (d : Reg) (tag : BitVec 14) (s : State) (h : s.notBefore n0) :
    (stateOf s (execRtgt d tag s)).notBefore n0 := by
  unfold execRtgt
  first
    | (simp (maxDischargeDepth := 30) +contextual only [State.tagOp_notBefore, stateOf_next, stateOf_ite, State.notBefore_forAll, State.notBefore_foldl, State.notBefore_ite, ite_self, implies_true, h]; done)
    | ((try dsimp only); (repeat' split) <;> first | (simp (maxDischargeDepth := 30) +contextual only [State.tagOp_notBefore, stateOf_next, stateOf_ite, State.notBefore_forAll, State.notBefore_foldl, State.notBefore_ite, ite_self, implies_true, h]; done) | (simp_all (maxDischargeDepth := 30) only [State.tagOp_notBefore, stateOf_next, stateOf_ite, State.notBefore_forAll, State.notBefore_foldl, State.notBefore_ite, ite_self, implies_true, h]; done))

theorem execRrate_notBefore (n0 : Nat) (d : Reg) (tag : BitVec 14) (s : State) (h : s.notBefore n0) :
    (stateOf s (execRrate d tag s)).notBefore n0 := by
  unfold execRrate
  first
    | (simp (maxDischargeDepth := 30) +contextual only [State.tagOp_notBefore, stateOf_next, stateOf_ite, State.notBefore_forAll, State.notBefore_foldl, State.notBefore_ite, ite_self, implies_true, h]; done)
    | ((try dsimp only); (repeat' split) <;> first | (simp (maxDischargeDepth := 30) +contextual only [State.tagOp_notBefore, stateOf_next, stateOf_ite, State.notBefore_forAll, State.notBefore_foldl, State.notBefore_ite, ite_self, implies_true, h]; done) | (simp_all (maxDischargeDepth := 30) only [State.tagOp_notBefore, stateOf_next, stateOf_ite, State.notBefore_forAll, State.notBefore_foldl, State.notBefore_ite, ite_self, implies_true, h]; done))

theorem execRrun_notBefore (n0 : Nat) (d : Reg) (tag : BitVec 14) (s : State) (h : s.notBefore n0) :
    (stateOf s (execRrun d tag s)).notBefore n0 := by
  unfold execRrun
  first
    | (simp (maxDischargeDepth := 30) +contextual only [State.tagOp_notBefore, stateOf_next, stateOf_ite, State.notBefore_forAll, State.notBefore_foldl, State.notBefore_ite, ite_self, implies_true, h]; done)
    | ((try dsimp only); (repeat' split) <;> first | (simp (maxDischargeDepth := 30) +contextual only [State.tagOp_notBefore, stateOf_next, stateOf_ite, State.notBefore_forAll, State.notBefore_foldl, State.notBefore_ite, ite_self, implies_true, h]; done) | (simp_all (maxDischargeDepth := 30) only [State.tagOp_notBefore, stateOf_next, stateOf_ite, State.notBefore_forAll, State.notBefore_foldl, State.notBefore_ite, ite_self, implies_true, h]; done))

theorem execRampRset_notBefore (n0 : Nat) (d : Reg) (tag : BitVec 14) (s : State) (h : s.notBefore n0) :
    (stateOf s (execRampRset d tag s)).notBefore n0 := by
  unfold execRampRset
  first
    | (simp (maxDischargeDepth := 30) +contextual only [State.tagOp_notBefore, stateOf_next, stateOf_ite, State.notBefore_forAll, State.notBefore_foldl, State.notBefore_ite, ite_self, implies_true, h]; done)
    | ((try dsimp only); (repeat' split) <;> first | (simp (maxDischargeDepth := 30) +contextual only [State.tagOp_notBefore, stateOf_next, stateOf_ite, State.notBefore_forAll, State.notBefore_foldl, State.notBefore_ite, ite_self, implies_true, h]; done) | (simp_all (maxDischargeDepth := 30) only [State.tagOp_notBefore, stateOf_next, stateOf_ite, State.notBefore_forAll, State.notBefore_foldl, State.notBefore_ite, ite_self, implies_true, h]; done))

theorem execTadr_notBefore (n0 : Nat) (d : Reg) (tag : BitVec 14) (s : State) (h : s.notBefore n0) :
    (stateOf s (execTadr d tag s)).notBefore n0 := by
  unfold execTadr
  first
    | (simp (maxDischargeDepth := 30) +contextual only [State.bankOp_notBefore, State.illegal_notBefore, stateOf_next, stateOf_ite, State.notBefore_forAll, State.notBefore_foldl, State.notBefore_ite, ite_self, implies_true, h]; done)
    | ((try dsimp only); (repeat' split) <;> first | (simp (maxDischargeDepth := 30) +contextual only [State.bankOp_notBefore, State.illegal_notBefore, stateOf_next, stateOf_ite, State.notBefore_forAll, State.notBefore_foldl, State.notBefore_ite, ite_self, implies_true, h]; done) | (simp_all (maxDischargeDepth := 30) only [State.bankOp_notBefore, State.illegal_notBefore, stateOf_next, stateOf_ite, State.notBefore_forAll, State.notBefore_foldl, State.notBefore_ite, ite_self, implies_true, h]; done))

theorem execDeliveryTimeout_notBefore (n0 : Nat) (s : State) (h : s.notBefore n0) :
    (stateOf s (execDeliveryTimeout s)).notBefore n0 := by
  unfold execDeliveryTimeout
  first
    | (simp (maxDischargeDepth := 30) +contextual only [State.upTo_notBefore, State.outcome_notBefore, stateOf_next, stateOf_ite, State.notBefore_forAll, State.notBefore_foldl, State.notBefore_ite, ite_self, implies_true, h]; done)
    | ((try dsimp only); (repeat' split) <;> first | (simp (maxDischargeDepth := 30) +contextual only [State.upTo_notBefore, State.outcome_notBefore, stateOf_next, stateOf_ite, State.notBefore_forAll, State.notBefore_foldl, State.notBefore_ite, ite_self, implies_true, h]; done) | (simp_all (maxDischargeDepth := 30) only [State.upTo_notBefore, State.outcome_notBefore, stateOf_next, stateOf_ite, State.notBefore_forAll, State.notBefore_foldl, State.notBefore_ite, ite_self, implies_true, h]; done))

theorem execEntryFree_notBefore (n0 : Nat) (s : State) (h : s.notBefore n0) :
    (stateOf s (execEntryFree s)).notBefore n0 := by
  unfold execEntryFree
  first
    | (simp (maxDischargeDepth := 30) +contextual only [State.upTo_notBefore, State.modJnl_notBefore, stateOf_next, stateOf_ite, State.notBefore_forAll, State.notBefore_foldl, State.notBefore_ite, ite_self, implies_true, h]; done)
    | ((try dsimp only); (repeat' split) <;> first | (simp (maxDischargeDepth := 30) +contextual only [State.upTo_notBefore, State.modJnl_notBefore, stateOf_next, stateOf_ite, State.notBefore_forAll, State.notBefore_foldl, State.notBefore_ite, ite_self, implies_true, h]; done) | (simp_all (maxDischargeDepth := 30) only [State.upTo_notBefore, State.modJnl_notBefore, stateOf_next, stateOf_ite, State.notBefore_forAll, State.notBefore_foldl, State.notBefore_ite, ite_self, implies_true, h]; done))

theorem execStatusTelegramSend_notBefore (n0 : Nat) (codeh : Option Word) (s : State) (h : s.notBefore n0) :
    (stateOf s (execStatusTelegramSend codeh s)).notBefore n0 := by
  unfold execStatusTelegramSend
  first
    | (simp (maxDischargeDepth := 30) +contextual only [State.upTo_notBefore, State.event_notBefore, State.sendTelegram_notBefore, stateOf_next, stateOf_ite, State.notBefore_mk, State.notBefore_fold, State.notBefore_forAll, State.notBefore_foldl, State.notBefore_ite, ite_self, implies_true, h]; done)
    | ((try dsimp only); (repeat' split) <;> first | (simp (maxDischargeDepth := 30) +contextual only [State.upTo_notBefore, State.event_notBefore, State.sendTelegram_notBefore, stateOf_next, stateOf_ite, State.notBefore_mk, State.notBefore_fold, State.notBefore_forAll, State.notBefore_foldl, State.notBefore_ite, ite_self, implies_true, h]; done) | (simp_all (maxDischargeDepth := 30) only [State.upTo_notBefore, State.event_notBefore, State.sendTelegram_notBefore, stateOf_next, stateOf_ite, State.notBefore_mk, State.notBefore_fold, State.notBefore_forAll, State.notBefore_foldl, State.notBefore_ite, ite_self, implies_true, h]; done))

theorem State.modNet_notBefore (n0 : Nat) (s : State) (f : Network → Network) (h : s.notBefore n0) :
    (State.modNet s f).notBefore n0 :=
  (State.notBefore_mask n0 (State.modNet_mask _ _ _ rfl)).2 h

theorem State.modSrc_notBefore (n0 : Nat) (s : State) (f : TimSrc → TimSrc) (h : s.notBefore n0) :
    (State.modSrc s f).notBefore n0 :=
  (State.notBefore_mask n0 (State.modSrc_mask _ _ _ rfl)).2 h

theorem State.runFree_notBefore (n0 : Nat) (s : State) (h : s.notBefore n0) :
    (State.runFree s).notBefore n0 :=
  (State.notBefore_mask n0 (State.runFree_mask _ _ rfl)).2 h

theorem State.holdover_notBefore (n0 : Nat) (s : State) (h : s.notBefore n0) :
    (State.holdover s).notBefore n0 :=
  (State.notBefore_mask n0 (State.holdover_mask _ _ rfl rfl)).2 h

theorem State.pathSet_notBefore (n0 : Nat) (s : State) (k : Fin 6) (up : Bool) (h : s.notBefore n0) :
    (State.pathSet s k up).notBefore n0 :=
  (State.notBefore_mask n0 (State.pathSet_mask _ _ _ _ rfl rfl)).2 h

theorem State.twinSet_notBefore (n0 : Nat) (s : State) (t : TwinState) (h : s.notBefore n0) :
    (State.twinSet s t).notBefore n0 :=
  (State.notBefore_mask n0 (State.twinSet_mask _ _ _ rfl rfl)).2 h

theorem State.mbTick_notBefore (n0 : Nat) (s : State) (h : s.notBefore n0) :
    (State.mbTick s).notBefore n0 :=
  (State.notBefore_mask n0 (State.mbTick_mask _ _ rfl rfl)).2 h

theorem State.holdSafe_notBefore (n0 : Nat) (s : State) (h : s.notBefore n0) :
    (State.holdSafe s).notBefore n0 :=
  (State.notBefore_mask n0 (State.holdSafe_mask _ _ rfl)).2 h

theorem State.switchData_notBefore (n0 : Nat) (s : State) (old : List TagDecl) (keep : Bool) (h : s.notBefore n0) :
    (State.switchData s old keep).notBefore n0 :=
  (State.notBefore_mask n0 (State.switchData_mask _ _ _ _ rfl rfl)).2 h

theorem State.dropForces_notBefore (n0 : Nat) (s : State) (h : s.notBefore n0) :
    (State.dropForces s).notBefore n0 :=
  (State.notBefore_mask n0 (State.dropForces_mask _ _ rfl rfl rfl)).2 h

theorem State.outputLines_notBefore (n0 : Nat) (s : State) (p : PortalIx) (h : s.notBefore n0) :
    (State.outputLines s p).notBefore n0 :=
  (State.notBefore_mask n0 (State.outputLines_mask _ _ _ rfl)).2 h

theorem State.dropRequests_notBefore (n0 : Nat) (s : State) (h : s.notBefore n0) :
    (State.dropRequests s).notBefore n0 :=
  (State.notBefore_mask n0 (State.dropRequests_mask _ _ rfl rfl rfl)).2 h

theorem State.reconfigure_notBefore (n0 : Nat) (s o : State) (h : s.notBefore n0) :
    (State.reconfigure s o).notBefore n0 :=
  (State.notBefore_mask n0 (State.reconfigure_mask _ _ _ rfl rfl rfl rfl rfl rfl rfl rfl rfl rfl rfl rfl rfl)).2 h

theorem State.hingeReject_notBefore (n0 : Nat) (s : State) (h : s.notBefore n0) :
    (State.hingeReject s).notBefore n0 :=
  (State.notBefore_mask n0 (State.hingeReject_mask _ _ rfl)).2 h

theorem State.switch_notBefore (n0 : Nat) (s : State) (echo : Bool) (h : s.notBefore n0) :
    (State.switch s echo).notBefore n0 := by
  unfold State.switch
  first
    | (simp (maxDischargeDepth := 30) +contextual only [State.modEng_notBefore, State.pass_notBefore, State.modMode_notBefore, State.discardStaged_notBefore, State.coldLoad_notBefore, State.enterRun_notBefore, State.modLnd_notBefore, State.paramLoad_notBefore, State.loadParam_notBefore, State.trial_notBefore, State.holdSafe_notBefore, State.switchData_notBefore, State.dropForces_notBefore, State.reconfigure_notBefore, State.hingeReject_notBefore, State.notBefore_forAll, State.notBefore_foldl, State.notBefore_ite, ite_self, implies_true, h]; done)
    | ((try dsimp only); (repeat' split) <;> first | (simp (maxDischargeDepth := 30) +contextual only [State.modEng_notBefore, State.pass_notBefore, State.modMode_notBefore, State.discardStaged_notBefore, State.coldLoad_notBefore, State.enterRun_notBefore, State.modLnd_notBefore, State.paramLoad_notBefore, State.loadParam_notBefore, State.trial_notBefore, State.holdSafe_notBefore, State.switchData_notBefore, State.dropForces_notBefore, State.reconfigure_notBefore, State.hingeReject_notBefore, State.notBefore_forAll, State.notBefore_foldl, State.notBefore_ite, ite_self, implies_true, h]; done) | (simp_all (maxDischargeDepth := 30) only [State.modEng_notBefore, State.pass_notBefore, State.modMode_notBefore, State.discardStaged_notBefore, State.coldLoad_notBefore, State.enterRun_notBefore, State.modLnd_notBefore, State.paramLoad_notBefore, State.loadParam_notBefore, State.trial_notBefore, State.holdSafe_notBefore, State.switchData_notBefore, State.dropForces_notBefore, State.reconfigure_notBefore, State.hingeReject_notBefore, State.notBefore_forAll, State.notBefore_foldl, State.notBefore_ite, ite_self, implies_true, h]; done))

theorem execImageSwitch_notBefore (n0 : Nat) (echo : Bool) (s : State) (h : s.notBefore n0) :
    (stateOf s (execImageSwitch echo s)).notBefore n0 := by
  unfold execImageSwitch
  first
    | (simp (maxDischargeDepth := 30) +contextual only [State.switch_notBefore, stateOf_next, stateOf_ite, State.notBefore_forAll, State.notBefore_foldl, State.notBefore_ite, ite_self, implies_true, h]; done)
    | ((try dsimp only); (repeat' split) <;> first | (simp (maxDischargeDepth := 30) +contextual only [State.switch_notBefore, stateOf_next, stateOf_ite, State.notBefore_forAll, State.notBefore_foldl, State.notBefore_ite, ite_self, implies_true, h]; done) | (simp_all (maxDischargeDepth := 30) only [State.switch_notBefore, stateOf_next, stateOf_ite, State.notBefore_forAll, State.notBefore_foldl, State.notBefore_ite, ite_self, implies_true, h]; done))

theorem execSupervisionSend_notBefore (n0 : Nat) (s : State) (h : s.notBefore n0) :
    (stateOf s (execSupervisionSend s)).notBefore n0 := by
  unfold execSupervisionSend
  first
    | (simp (maxDischargeDepth := 30) +contextual only [State.upTo_notBefore, State.send_notBefore, State.modNet_notBefore, stateOf_next, stateOf_ite, State.notBefore_forAll, State.notBefore_foldl, State.notBefore_ite, ite_self, implies_true, h]; done)
    | ((try dsimp only); (repeat' split) <;> first | (simp (maxDischargeDepth := 30) +contextual only [State.upTo_notBefore, State.send_notBefore, State.modNet_notBefore, stateOf_next, stateOf_ite, State.notBefore_forAll, State.notBefore_foldl, State.notBefore_ite, ite_self, implies_true, h]; done) | (simp_all (maxDischargeDepth := 30) only [State.upTo_notBefore, State.send_notBefore, State.modNet_notBefore, stateOf_next, stateOf_ite, State.notBefore_forAll, State.notBefore_foldl, State.notBefore_ite, ite_self, implies_true, h]; done))

theorem execPathCheck_notBefore (n0 : Nat) (s : State) (h : s.notBefore n0) :
    (stateOf s (execPathCheck s)).notBefore n0 := by
  unfold execPathCheck
  first
    | (simp (maxDischargeDepth := 30) +contextual only [State.upTo_notBefore, State.modNet_notBefore, State.pathSet_notBefore, stateOf_next, stateOf_ite, State.notBefore_forAll, State.notBefore_foldl, State.notBefore_ite, ite_self, implies_true, h]; done)
    | ((try dsimp only); (repeat' split) <;> first | (simp (maxDischargeDepth := 30) +contextual only [State.upTo_notBefore, State.modNet_notBefore, State.pathSet_notBefore, stateOf_next, stateOf_ite, State.notBefore_forAll, State.notBefore_foldl, State.notBefore_ite, ite_self, implies_true, h]; done) | (simp_all (maxDischargeDepth := 30) only [State.upTo_notBefore, State.modNet_notBefore, State.pathSet_notBefore, stateOf_next, stateOf_ite, State.notBefore_forAll, State.notBefore_foldl, State.notBefore_ite, ite_self, implies_true, h]; done))

theorem execPdOutputSend_notBefore (n0 : Nat) (n : Fin 8) (s : State) (h : s.notBefore n0) :
    (stateOf s (execPdOutputSend n s)).notBefore n0 := by
  unfold execPdOutputSend
  first
    | (simp (maxDischargeDepth := 30) +contextual only [State.upTo_notBefore, State.send_notBefore, State.modNet_notBefore, stateOf_next, stateOf_ite, State.notBefore_forAll, State.notBefore_foldl, State.notBefore_ite, ite_self, implies_true, h]; done)
    | ((try dsimp only); (repeat' split) <;> first | (simp (maxDischargeDepth := 30) +contextual only [State.upTo_notBefore, State.send_notBefore, State.modNet_notBefore, stateOf_next, stateOf_ite, State.notBefore_forAll, State.notBefore_foldl, State.notBefore_ite, ite_self, implies_true, h]; done) | (simp_all (maxDischargeDepth := 30) only [State.upTo_notBefore, State.send_notBefore, State.modNet_notBefore, stateOf_next, stateOf_ite, State.notBefore_forAll, State.notBefore_foldl, State.notBefore_ite, ite_self, implies_true, h]; done))

theorem execPdHoldExpiry_notBefore (n0 : Nat) (n : Fin 8) (s : State) (h : s.notBefore n0) :
    (stateOf s (execPdHoldExpiry n s)).notBefore n0 := by
  unfold execPdHoldExpiry
  first
    | (simp (maxDischargeDepth := 30) +contextual only [State.upTo_notBefore, State.event_notBefore, State.modNet_notBefore, stateOf_next, stateOf_ite, State.notBefore_forAll, State.notBefore_foldl, State.notBefore_ite, ite_self, implies_true, h]; done)
    | ((try dsimp only); (repeat' split) <;> first | (simp (maxDischargeDepth := 30) +contextual only [State.upTo_notBefore, State.event_notBefore, State.modNet_notBefore, stateOf_next, stateOf_ite, State.notBefore_forAll, State.notBefore_foldl, State.notBefore_ite, ite_self, implies_true, h]; done) | (simp_all (maxDischargeDepth := 30) only [State.upTo_notBefore, State.event_notBefore, State.modNet_notBefore, stateOf_next, stateOf_ite, State.notBefore_forAll, State.notBefore_foldl, State.notBefore_ite, ite_self, implies_true, h]; done))

theorem State.ppsHoldover_notBefore (n0 : Nat) (s : State) (h : s.notBefore n0) :
    (State.ppsHoldover s).notBefore n0 :=
  (State.notBefore_mask n0 (State.ppsHoldover_mask _ _ rfl rfl)).2 h

theorem execPtpLoss_notBefore (n0 : Nat) (s : State) (h : s.notBefore n0) :
    (stateOf s (execPtpLoss s)).notBefore n0 := by
  unfold execPtpLoss
  first
    | (simp (maxDischargeDepth := 30) +contextual only [State.upTo_notBefore, State.modNet_notBefore, State.modSrc_notBefore, State.holdover_notBefore, State.ppsHoldover_notBefore, stateOf_next, stateOf_ite, State.notBefore_forAll, State.notBefore_foldl, State.notBefore_ite, ite_self, implies_true, h]; done)
    | ((try dsimp only); (repeat' split) <;> first | (simp (maxDischargeDepth := 30) +contextual only [State.upTo_notBefore, State.modNet_notBefore, State.modSrc_notBefore, State.holdover_notBefore, State.ppsHoldover_notBefore, stateOf_next, stateOf_ite, State.notBefore_forAll, State.notBefore_foldl, State.notBefore_ite, ite_self, implies_true, h]; done) | (simp_all (maxDischargeDepth := 30) only [State.upTo_notBefore, State.modNet_notBefore, State.modSrc_notBefore, State.holdover_notBefore, State.ppsHoldover_notBefore, stateOf_next, stateOf_ite, State.notBefore_forAll, State.notBefore_foldl, State.notBefore_ite, ite_self, implies_true, h]; done))

theorem execHoldoverExpiry_notBefore (n0 : Nat) (s : State) (h : s.notBefore n0) :
    (stateOf s (execHoldoverExpiry s)).notBefore n0 := by
  unfold execHoldoverExpiry
  first
    | (simp (maxDischargeDepth := 30) +contextual only [State.upTo_notBefore, State.modSrc_notBefore, State.runFree_notBefore, State.holdover_notBefore, stateOf_next, stateOf_ite, State.notBefore_forAll, State.notBefore_foldl, State.notBefore_ite, ite_self, implies_true, h]; done)
    | ((try dsimp only); (repeat' split) <;> first | (simp (maxDischargeDepth := 30) +contextual only [State.upTo_notBefore, State.modSrc_notBefore, State.runFree_notBefore, State.holdover_notBefore, stateOf_next, stateOf_ite, State.notBefore_forAll, State.notBefore_foldl, State.notBefore_ite, ite_self, implies_true, h]; done) | (simp_all (maxDischargeDepth := 30) only [State.upTo_notBefore, State.modSrc_notBefore, State.runFree_notBefore, State.holdover_notBefore, stateOf_next, stateOf_ite, State.notBefore_forAll, State.notBefore_foldl, State.notBefore_ite, ite_self, implies_true, h]; done))

theorem State.ppsBad_notBefore (n0 : Nat) (s : State) (h : s.notBefore n0) :
    (State.ppsBad s).notBefore n0 :=
  (State.notBefore_mask n0 (State.ppsBad_mask _ _ rfl rfl)).2 h

theorem execSyncPulseMissing_notBefore (n0 : Nat) (s : State) (h : s.notBefore n0) :
    (stateOf s (execSyncPulseMissing s)).notBefore n0 := by
  unfold execSyncPulseMissing
  first
    | (simp (maxDischargeDepth := 30) +contextual only [State.upTo_notBefore, State.modNet_notBefore, State.ppsBad_notBefore, stateOf_next, stateOf_ite, State.notBefore_forAll, State.notBefore_foldl, State.notBefore_ite, ite_self, implies_true, h]; done)
    | ((try dsimp only); (repeat' split) <;> first | (simp (maxDischargeDepth := 30) +contextual only [State.upTo_notBefore, State.modNet_notBefore, State.ppsBad_notBefore, stateOf_next, stateOf_ite, State.notBefore_forAll, State.notBefore_foldl, State.notBefore_ite, ite_self, implies_true, h]; done) | (simp_all (maxDischargeDepth := 30) only [State.upTo_notBefore, State.modNet_notBefore, State.ppsBad_notBefore, stateOf_next, stateOf_ite, State.notBefore_forAll, State.notBefore_foldl, State.notBefore_ite, ite_self, implies_true, h]; done))

theorem execTwinHeartbeatSend_notBefore (n0 : Nat) (s : State) (h : s.notBefore n0) :
    (stateOf s (execTwinHeartbeatSend s)).notBefore n0 := by
  unfold execTwinHeartbeatSend
  first
    | (simp (maxDischargeDepth := 30) +contextual only [State.upTo_notBefore, State.send_notBefore, State.modNet_notBefore, stateOf_next, stateOf_ite, State.notBefore_forAll, State.notBefore_foldl, State.notBefore_ite, ite_self, implies_true, h]; done)
    | ((try dsimp only); (repeat' split) <;> first | (simp (maxDischargeDepth := 30) +contextual only [State.upTo_notBefore, State.send_notBefore, State.modNet_notBefore, stateOf_next, stateOf_ite, State.notBefore_forAll, State.notBefore_foldl, State.notBefore_ite, ite_self, implies_true, h]; done) | (simp_all (maxDischargeDepth := 30) only [State.upTo_notBefore, State.send_notBefore, State.modNet_notBefore, stateOf_next, stateOf_ite, State.notBefore_forAll, State.notBefore_foldl, State.notBefore_ite, ite_self, implies_true, h]; done))

theorem execTwinTimeout_notBefore (n0 : Nat) (s : State) (h : s.notBefore n0) :
    (stateOf s (execTwinTimeout s)).notBefore n0 := by
  unfold execTwinTimeout
  first
    | (simp (maxDischargeDepth := 30) +contextual only [State.upTo_notBefore, State.modNet_notBefore, State.twinSet_notBefore, stateOf_next, stateOf_ite, State.notBefore_forAll, State.notBefore_foldl, State.notBefore_ite, ite_self, implies_true, h]; done)
    | ((try dsimp only); (repeat' split) <;> first | (simp (maxDischargeDepth := 30) +contextual only [State.upTo_notBefore, State.modNet_notBefore, State.twinSet_notBefore, stateOf_next, stateOf_ite, State.notBefore_forAll, State.notBefore_foldl, State.notBefore_ite, ite_self, implies_true, h]; done) | (simp_all (maxDischargeDepth := 30) only [State.upTo_notBefore, State.modNet_notBefore, State.twinSet_notBefore, stateOf_next, stateOf_ite, State.notBefore_forAll, State.notBefore_foldl, State.notBefore_ite, ite_self, implies_true, h]; done))

theorem execCanSendTimeout_notBefore (n0 : Nat) (m : Fin 64) (s : State) (h : s.notBefore n0) :
    (stateOf s (execCanSendTimeout m s)).notBefore n0 := by
  unfold execCanSendTimeout
  first
    | (simp (maxDischargeDepth := 30) +contextual only [State.upTo_notBefore, State.modMbox_notBefore, stateOf_next, stateOf_ite, State.notBefore_forAll, State.notBefore_foldl, State.notBefore_ite, ite_self, implies_true, h]; done)
    | ((try dsimp only); (repeat' split) <;> first | (simp (maxDischargeDepth := 30) +contextual only [State.upTo_notBefore, State.modMbox_notBefore, stateOf_next, stateOf_ite, State.notBefore_forAll, State.notBefore_foldl, State.notBefore_ite, ite_self, implies_true, h]; done) | (simp_all (maxDischargeDepth := 30) only [State.upTo_notBefore, State.modMbox_notBefore, stateOf_next, stateOf_ite, State.notBefore_forAll, State.notBefore_foldl, State.notBefore_ite, ite_self, implies_true, h]; done))

theorem State.runInsn_notBefore (n0 : Nat) (s : State) (i : Instr) (h : s.notBefore n0) : (State.runInsn s i).notBefore n0 := by
  cases i
  case add => exact execAdd_notBefore _ _ _ _ _ h
  case adc => exact execAdc_notBefore _ _ _ _ _ h
  case sub => exact execSub_notBefore _ _ _ _ _ h
  case sbc => exact execSbc_notBefore _ _ _ _ _ h
  case cmp => exact execCmp_notBefore _ _ _ _ h
  case neg => exact execNeg_notBefore _ _ _ _ h
  case and_ => exact execAnd_notBefore _ _ _ _ _ h
  case or_ => exact execOr_notBefore _ _ _ _ _ h
  case xor_ => exact execXor_notBefore _ _ _ _ _ h
  case andn => exact execAndn_notBefore _ _ _ _ _ h
  case tst => exact execTst_notBefore _ _ _ _ h
  case not_ => exact execNot_notBefore _ _ _ _ h
  case mov => exact execMov_notBefore _ _ _ _ h
  case sel => exact execSel_notBefore _ _ _ _ _ h
  case shl => exact execShl_notBefore _ _ _ _ _ h
  case shr => exact execShr_notBefore _ _ _ _ _ h
  case sar => exact execSar_notBefore _ _ _ _ _ h
  case ror => exact execRor_notBefore _ _ _ _ _ h
  case mins => exact execMins_notBefore _ _ _ _ _ h
  case maxs => exact execMaxs_notBefore _ _ _ _ _ h
  case minu => exact execMinu_notBefore _ _ _ _ _ h
  case maxu => exact execMaxu_notBefore _ _ _ _ _ h
  case adds => exact execAdds_notBefore _ _ _ _ _ h
  case subs => exact execSubs_notBefore _ _ _ _ _ h
  case mul => exact execMul_notBefore _ _ _ _ _ h
  case mulh => exact execMulh_notBefore _ _ _ _ _ h
  case mulhu => exact execMulhu_notBefore _ _ _ _ _ h
  case div => exact execDiv_notBefore _ _ _ _ _ h
  case divu => exact execDivu_notBefore _ _ _ _ _ h
  case rem => exact execRem_notBefore _ _ _ _ _ h
  case remu => exact execRemu_notBefore _ _ _ _ _ h
  case addi => exact execAddi_notBefore _ _ _ _ _ h
  case cmpi => exact execCmpi_notBefore _ _ _ _ h
  case andi => exact execAndi_notBefore _ _ _ _ _ h
  case ori => exact execOri_notBefore _ _ _ _ _ h
  case xori => exact execXori_notBefore _ _ _ _ _ h
  case lui => exact execLui_notBefore _ _ _ _ h
  case shi => exact execShi_notBefore _ _ _ _ _ h
  case tsti => exact execTsti_notBefore _ _ _ _ h
  case ldw => exact execLdw_notBefore _ _ _ _ _ _ h
  case ldh => exact execLdh_notBefore _ _ _ _ _ _ h
  case ldhu => exact execLdhu_notBefore _ _ _ _ _ _ h
  case ldb => exact execLdb_notBefore _ _ _ _ _ _ h
  case ldbu => exact execLdbu_notBefore _ _ _ _ _ _ h
  case stw => exact execStw_notBefore _ _ _ _ _ h
  case sth => exact execSth_notBefore _ _ _ _ _ h
  case stb => exact execStb_notBefore _ _ _ _ _ h
  case cld => exact execCld_notBefore _ _ _ _ _ _ h
  case cldn => exact execCldn_notBefore _ _ _ _ _ _ h
  case cand => exact execCand_notBefore _ _ _ _ _ _ h
  case candn => exact execCandn_notBefore _ _ _ _ _ _ h
  case cor => exact execCor_notBefore _ _ _ _ _ _ h
  case corn => exact execCorn_notBefore _ _ _ _ _ _ h
  case cxor => exact execCxor_notBefore _ _ _ _ _ _ h
  case cst => exact execCst_notBefore _ _ _ _ _ _ h
  case cstn => exact execCstn_notBefore _ _ _ _ _ _ h
  case cset => exact execCset_notBefore _ _ _ _ _ _ h
  case crst => exact execCrst_notBefore _ _ _ _ _ _ h
  case rld => exact execRld_notBefore _ _ _ _ h
  case rldn => exact execRldn_notBefore _ _ _ _ h
  case rand => exact execRand_notBefore _ _ _ _ h
  case randn => exact execRandn_notBefore _ _ _ _ h
  case rorContact => exact execRorContact_notBefore _ _ _ _ h
  case rorn => exact execRorn_notBefore _ _ _ _ h
  case rxor => exact execRxor_notBefore _ _ _ _ h
  case rst => exact execRst_notBefore _ _ _ _ h
  case rstn => exact execRstn_notBefore _ _ _ _ h
  case rset => exact execRset_notBefore _ _ _ _ h
  case rrst => exact execRrst_notBefore _ _ _ _ h
  case bnot => exact execBnot_notBefore _ _ h
  case bone => exact execBone_notBefore _ _ h
  case bzero => exact execBzero_notBefore _ _ h
  case bcc => exact execBcc_notBefore _ _ _ h
  case bget => exact execBget_notBefore _ _ _ h
  case bput => exact execBput_notBefore _ _ _ h
  case br => exact execBr_notBefore _ _ _ _ h
  case brl => exact execBrl_notBefore _ _ _ _ h
  case jr => exact execJr_notBefore _ _ _ h
  case jrl => exact execJrl_notBefore _ _ _ _ h
  case nop => exact execNop_notBefore _ _ h
  case eoc => exact execEoc_notBefore _ _ h
  case retc => exact execRetc_notBefore _ _ h
  case rdf => exact execRdf_notBefore _ _ _ h
  case wrf => exact execWrf_notBefore _ _ _ h
  case fence => exact execFence_notBefore _ _ h
  case commit => exact execCommit_notBefore _ _ _ _ _ h
  case bmove => exact execBmove_notBefore _ _ _ _ h
  case trun => exact execTrun_notBefore _ _ _ _ h
  case tpre => exact execTpre_notBefore _ _ _ _ h
  case tres => exact execTres_notBefore _ _ _ h
  case edr => exact execEdr_notBefore _ _ _ h
  case edf => exact execEdf_notBefore _ _ _ h
  case edlf => exact execEdlf_notBefore _ _ _ h
  case ccu => exact execCcu_notBefore _ _ _ _ h
  case ccd => exact execCcd_notBefore _ _ _ _ h
  case cload => exact execCload_notBefore _ _ _ _ h
  case cres => exact execCres_notBefore _ _ _ _ h
  case cpre => exact execCpre_notBefore _ _ _ _ h
  case lev => exact execLev_notBefore _ _ _ _ h
  case rtgt => exact execRtgt_notBefore _ _ _ _ h
  case rrate => exact execRrate_notBefore _ _ _ _ h
  case rrun => exact execRrun_notBefore _ _ _ _ h
  case rampRset => exact execRampRset_notBefore _ _ _ _ h
  case tadr => exact execTadr_notBefore _ _ _ _ h
  case mtgt => exact execMtgt_notBefore _ _ _ _ _ _ h
  case mleaf => exact execMleaf_notBefore _ _ _ _ _ _ h
  case mvlim => exact execMvlim_notBefore _ _ _ _ _ h
  case mcmd => exact execMcmd_notBefore _ _ _ _ _ h
  case pcmd => exact execPcmd_notBefore _ _ _ _ _ h
  case mstat => exact execMstat_notBefore _ _ _ _ h
  case mpos => exact execMpos_notBefore _ _ _ _ h
  case bhit => exact execBhit_notBefore _ _ _ _ h
  case brearm => exact execBrearm_notBefore _ _ _ _ _ h
  case lsw => exact execLsw_notBefore _ _ _ _ _ _ h
  case lswb => exact execLswb_notBefore _ _ _ _ _ h
  case trec => exact execTrec_notBefore _ _ _ _ _ h
  case tword => exact execTword_notBefore _ _ _ _ _ h
  case mbsend => exact execMbsend_notBefore _ _ _ _ _ h
  case mbrecv => exact execMbrecv_notBefore _ _ _ _ _ h
  case mbstat => exact execMbstat_notBefore _ _ _ _ h
  all_goals exact h

theorem State.stepSpent_notBefore (n0 : Nat) (s : State) (h : s.notBefore n0) :
    (State.stepSpent s).notBefore n0 :=
  (State.notBefore_mask n0 (State.stepSpent_mask _ _ rfl rfl rfl rfl rfl rfl rfl rfl rfl rfl rfl rfl rfl rfl rfl rfl rfl rfl rfl rfl rfl rfl)).2 h

theorem State.stepOnce_notBefore (n0 : Nat) (s : State) (h : s.notBefore n0) :
    (State.stepOnce s).notBefore n0 := by
  unfold State.stepOnce
  first
    | (simp (maxDischargeDepth := 30) +contextual only [State.enterStop_notBefore, State.drainAll_notBefore, State.illegal_notBefore, State.runInsn_notBefore, State.stepSpent_notBefore, State.notBefore_forAll, State.notBefore_foldl, State.notBefore_ite, ite_self, implies_true, h]; done)
    | ((try dsimp only); (repeat' split) <;> first | (simp (maxDischargeDepth := 30) +contextual only [State.enterStop_notBefore, State.drainAll_notBefore, State.illegal_notBefore, State.runInsn_notBefore, State.stepSpent_notBefore, State.notBefore_forAll, State.notBefore_foldl, State.notBefore_ite, ite_self, implies_true, h]; done) | (simp_all (maxDischargeDepth := 30) only [State.enterStop_notBefore, State.drainAll_notBefore, State.illegal_notBefore, State.runInsn_notBefore, State.stepSpent_notBefore, State.notBefore_forAll, State.notBefore_foldl, State.notBefore_ite, ite_self, implies_true, h]; done))

theorem State.steps_notBefore (n0 : Nat) (s : State) (x0 : Nat) (h : s.notBefore n0) :
    (State.steps s x0).notBefore n0 := by
  induction x0 generalizing s with
  | zero => unfold State.steps; exact h
  | succ n ih =>
    unfold State.steps
    (try dsimp only); (repeat' split) <;> simp (maxDischargeDepth := 30) +contextual only [State.stepOnce_notBefore, State.notBefore_forAll, State.notBefore_foldl, State.notBefore_ite, ite_self, implies_true, h, ih]

theorem State.stepHold_notBefore (n0 : Nat) (s : State) (n : Nat) (h : s.notBefore n0) :
    (State.stepHold s n).notBefore n0 := by
  unfold State.stepHold
  first
    | (simp (maxDischargeDepth := 30) +contextual only [State.modEng_notBefore, State.steps_notBefore, State.notBefore_forAll, State.notBefore_foldl, State.notBefore_ite, ite_self, implies_true, h]; done)
    | ((try dsimp only); (repeat' split) <;> first | (simp (maxDischargeDepth := 30) +contextual only [State.modEng_notBefore, State.steps_notBefore, State.notBefore_forAll, State.notBefore_foldl, State.notBefore_ite, ite_self, implies_true, h]; done) | (simp_all (maxDischargeDepth := 30) only [State.modEng_notBefore, State.steps_notBefore, State.notBefore_forAll, State.notBefore_foldl, State.notBefore_ite, ite_self, implies_true, h]; done))

theorem State.answerFirst_notBefore (n0 : Nat) (s : State) (i : SesIx) (h : s.notBefore n0) :
    (State.answerFirst s i).notBefore n0 :=
  (State.notBefore_mask n0 (State.answerFirst_mask _ _ _ rfl rfl rfl rfl rfl rfl rfl)).2 h

theorem State.serve_notBefore (n0 : Nat) (s : State) (i : SesIx) (op : Nat) (tag : Word) (need : Option Right) (onTn inRecovery : Bool) (f : State → State × Answer) (g0 : ∀ s, s.notBefore n0 → (f s).1.notBefore n0) (h : s.notBefore n0) :
    (State.serve s i op tag need onTn inRecovery f).notBefore n0 := by
  unfold State.serve
  first
    | (simp (maxDischargeDepth := 30) +contextual only [State.modTru_notBefore, State.respond_notBefore, State.answerFirst_notBefore, State.notBefore_forAll, State.notBefore_foldl, State.notBefore_ite, ite_self, implies_true, h, g0]; done)
    | ((try dsimp only); (repeat' split) <;> first | (simp (maxDischargeDepth := 30) +contextual only [State.modTru_notBefore, State.respond_notBefore, State.answerFirst_notBefore, State.notBefore_forAll, State.notBefore_foldl, State.notBefore_ite, ite_self, implies_true, h, g0]; done) | (simp_all (maxDischargeDepth := 30) only [State.modTru_notBefore, State.respond_notBefore, State.answerFirst_notBefore, State.notBefore_forAll, State.notBefore_foldl, State.notBefore_ite, ite_self, implies_true, h, g0]; done))

theorem execSessionLoss_notBefore (n0 : Nat) (i : Fin 3) (s : State) (h : s.notBefore n0) :
    (stateOf s (execSessionLoss i s)).notBefore n0 := by
  unfold execSessionLoss
  first
    | (simp (maxDischargeDepth := 30) +contextual only [State.upTo_notBefore, State.enterStop_notBefore, State.endSession_notBefore, State.drainAll_notBefore, stateOf_next, stateOf_ite, State.notBefore_forAll, State.notBefore_foldl, State.notBefore_ite, ite_self, implies_true, h]; done)
    | ((try dsimp only); (repeat' split) <;> first | (simp (maxDischargeDepth := 30) +contextual only [State.upTo_notBefore, State.enterStop_notBefore, State.endSession_notBefore, State.drainAll_notBefore, stateOf_next, stateOf_ite, State.notBefore_forAll, State.notBefore_foldl, State.notBefore_ite, ite_self, implies_true, h]; done) | (simp_all (maxDischargeDepth := 30) only [State.upTo_notBefore, State.enterStop_notBefore, State.endSession_notBefore, State.drainAll_notBefore, stateOf_next, stateOf_ite, State.notBefore_forAll, State.notBefore_foldl, State.notBefore_ite, ite_self, implies_true, h]; done))

theorem State.serveMode_notBefore (n0 : Nat) (s : State) (i : SesIx) (tag : Word) (need : Right) (argOk : Bool) (ok : State → Bool) (f : State → State)
    (g0 : ∀ s, s.notBefore n0 → (f s).notBefore n0) (h : s.notBefore n0) : (State.serveMode s i tag need argOk ok f).notBefore n0 := by
  refine State.serve_notBefore n0 _ _ _ _ _ _ _ _ (fun s h => ?_) h
  dsimp only
  split
  · exact h
  · split
    · exact h
    · exact g0 s h

theorem execModeStep_notBefore (n0 : Nat) (i : Fin 3) (tag n : Word) (s : State) (h : s.notBefore n0) :
    (stateOf s (execModeStep i tag n s)).notBefore n0 := by
  unfold execModeStep
  first
    | (simp (maxDischargeDepth := 30) +contextual only [State.stepHold_notBefore, State.serveMode_notBefore, stateOf_next, stateOf_ite, State.notBefore_forAll, State.notBefore_foldl, State.notBefore_ite, ite_self, implies_true, h]; done)
    | ((try dsimp only); (repeat' split) <;> first | (simp (maxDischargeDepth := 30) +contextual only [State.stepHold_notBefore, State.serveMode_notBefore, stateOf_next, stateOf_ite, State.notBefore_forAll, State.notBefore_foldl, State.notBefore_ite, ite_self, implies_true, h]; done) | (simp_all (maxDischargeDepth := 30) only [State.stepHold_notBefore, State.serveMode_notBefore, stateOf_next, stateOf_ite, State.notBefore_forAll, State.notBefore_foldl, State.notBefore_ite, ite_self, implies_true, h]; done))

theorem State.dueSwitch_notBefore (n0 : Nat) (s : State) (h : s.notBefore n0) :
    (State.dueSwitch s).notBefore n0 := by
  unfold State.dueSwitch
  first
    | (simp (maxDischargeDepth := 30) +contextual only [State.switch_notBefore, State.notBefore_forAll, State.notBefore_foldl, State.notBefore_ite, ite_self, implies_true, h]; done)
    | ((try dsimp only); (repeat' split) <;> first | (simp (maxDischargeDepth := 30) +contextual only [State.switch_notBefore, State.notBefore_forAll, State.notBefore_foldl, State.notBefore_ite, ite_self, implies_true, h]; done) | (simp_all (maxDischargeDepth := 30) only [State.switch_notBefore, State.notBefore_forAll, State.notBefore_foldl, State.notBefore_ite, ite_self, implies_true, h]; done))

theorem State.raiseRbimg_notBefore (n0 : Nat) (s : State) (h : s.notBefore n0) :
    (State.raiseRbimg s).1.notBefore n0 :=
  (State.notBefore_mask n0 (State.raiseRbimg_mask _ _ rfl)).2 h

theorem execAdvance_notBefore (n0 : Nat) (i : Fin 3) (tag counter : Word) (s : State) (h : s.notBefore n0) :
    (stateOf s (execAdvance i tag counter s)).notBefore n0 := by
  unfold execAdvance
  first
    | (simp (maxDischargeDepth := 30) +contextual only [State.modTru_notBefore, State.serve_notBefore, State.dueSwitch_notBefore, State.raiseRbimg_notBefore, stateOf_next, stateOf_ite, State.notBefore_forAll, State.notBefore_foldl, State.notBefore_ite, ite_self, implies_true, h]; done)
    | ((try dsimp only); (repeat' split) <;> first | (simp (maxDischargeDepth := 30) +contextual only [State.modTru_notBefore, State.serve_notBefore, State.dueSwitch_notBefore, State.raiseRbimg_notBefore, stateOf_next, stateOf_ite, State.notBefore_forAll, State.notBefore_foldl, State.notBefore_ite, ite_self, implies_true, h]; done) | (simp_all (maxDischargeDepth := 30) only [State.modTru_notBefore, State.serve_notBefore, State.dueSwitch_notBefore, State.raiseRbimg_notBefore, stateOf_next, stateOf_ite, State.notBefore_forAll, State.notBefore_foldl, State.notBefore_ite, ite_self, implies_true, h]; done))

theorem State.restart_notBefore (n0 : Nat) (o : State) (src : StartSrc) (b : BootIn) (hs : src ≠ .power) (h : o.notBefore n0) :
    (State.restart o src b).notBefore n0 := by
  have : (src == StartSrc.power) = false := by simpa using hs
  unfold State.restart State.notBefore
  simpa [this, State.notBefore] using h

theorem State.mramCheck_notBefore (n0 : Nat) (s : State) (b : BootIn) (h : s.notBefore n0) :
    (State.mramCheck s b).notBefore n0 :=
  (State.notBefore_mask n0 (State.mramCheck_mask _ _ _ rfl rfl rfl rfl rfl rfl rfl rfl rfl rfl rfl rfl rfl rfl)).2 h

theorem State.loadEnvelope_notBefore (n0 : Nat) (s : State) (h : s.notBefore n0) :
    (State.loadEnvelope s).notBefore n0 :=
  (State.notBefore_mask n0 (State.loadEnvelope_mask _ _ rfl)).2 h

theorem State.loadActive_notBefore (n0 : Nat) (s : State) (holdingOk : Bool) (h : s.notBefore n0) :
    (State.loadActive s holdingOk).1.notBefore n0 :=
  (State.notBefore_mask n0 (State.loadActive_mask _ _ _ rfl rfl rfl)).2 h

theorem State.configure_notBefore (n0 : Nat) (s : State) (cfg : Option (List Byte × List Byte)) (hinge echo : Bool) (h : s.notBefore n0) :
    (State.configure s cfg hinge echo).notBefore n0 :=
  (State.notBefore_mask n0 (State.configure_mask _ _ _ _ _ rfl rfl rfl rfl rfl rfl rfl rfl rfl rfl rfl rfl rfl)).2 h

theorem State.tallyStart_notBefore (n0 : Nat) (s : State) (bad : List Nat) (h : s.notBefore n0) :
    (State.tallyStart s bad).notBefore n0 :=
  (State.notBefore_mask n0 (State.tallyStart_mask _ _ _ rfl)).2 h

theorem State.portalStart_notBefore (n0 : Nat) (s : State) (p : PortalIx) (h : s.notBefore n0) :
    (State.portalStart s p).notBefore n0 :=
  (State.notBefore_mask n0 (State.portalStart_mask _ _ _ rfl rfl rfl)).2 h

theorem State.startCal_notBefore (n0 : Nat) (s : State) (a : AxisIx) (h : s.notBefore n0) :
    (State.startCal s a).notBefore n0 :=
  (State.notBefore_mask n0 (State.startCal_mask _ _ _ rfl)).2 h

theorem State.bootUp_notBefore (n0 : Nat) (o : State) (src : StartSrc) (b : BootIn) (hs : src ≠ .power) (h : o.notBefore n0) :
    (State.bootUp o src b).notBefore n0 := by
  unfold State.bootUp
  simp (maxDischargeDepth := 30) (maxSteps := 2000000) +contextual only [State.modFel_notBefore, State.mbusCharge_notBefore, State.safetyStop_notBefore, State.modSys_notBefore, State.pass_notBefore, State.lsEval_notBefore, State.groupEval_notBefore, State.bridgeEval_notBefore, State.outputLines_notBefore, State.redeliver_notBefore, State.reportAll_notBefore, State.zspEval_notBefore, State.sdeEval_notBefore, State.modPwrReg_notBefore, State.headWaitAll_notBefore, State.dropRequests_notBefore, State.restart_notBefore n0 _ _ _ hs, State.mramCheck_notBefore, State.loadEnvelope_notBefore, State.loadActive_notBefore, State.configure_notBefore, State.tallyStart_notBefore, State.portalStart_notBefore, State.startCal_notBefore, State.notBefore_mk, State.notBefore_fold, State.notBefore_forAll, State.notBefore_foldl, State.notBefore_ite, ite_self, implies_true, h]

theorem State.powerFailNow_notBefore (n0 : Nat) (s : State) (len : BitVec 16) (h : s.notBefore n0) :
    (State.powerFailNow s len).notBefore n0 := by
  unfold State.powerFailNow
  first
    | (simp (maxDischargeDepth := 30) +contextual only [State.modPwr_notBefore, State.pass_notBefore, State.powerFail_notBefore, State.drainAll_notBefore, State.notBefore_forAll, State.notBefore_foldl, State.notBefore_ite, ite_self, implies_true, h]; done)
    | ((try dsimp only); (repeat' split) <;> first | (simp (maxDischargeDepth := 30) +contextual only [State.modPwr_notBefore, State.pass_notBefore, State.powerFail_notBefore, State.drainAll_notBefore, State.notBefore_forAll, State.notBefore_foldl, State.notBefore_ite, ite_self, implies_true, h]; done) | (simp_all (maxDischargeDepth := 30) only [State.modPwr_notBefore, State.pass_notBefore, State.powerFail_notBefore, State.drainAll_notBefore, State.notBefore_forAll, State.notBefore_foldl, State.notBefore_ite, ite_self, implies_true, h]; done))

theorem execCtlInterruption_notBefore (n0 : Nat) (v : BitVec 12) (len : BitVec 16) (s : State) (h : s.notBefore n0) :
    (stateOf s (execCtlInterruption v len s)).notBefore n0 := by
  unfold execCtlInterruption
  first
    | (simp (maxDischargeDepth := 30) +contextual only [State.modPwr_notBefore, State.modPwrReg_notBefore, State.powerFailNow_notBefore, stateOf_next, stateOf_ite, State.notBefore_forAll, State.notBefore_foldl, State.notBefore_ite, ite_self, implies_true, h]; done)
    | ((try dsimp only); (repeat' split) <;> first | (simp (maxDischargeDepth := 30) +contextual only [State.modPwr_notBefore, State.modPwrReg_notBefore, State.powerFailNow_notBefore, stateOf_next, stateOf_ite, State.notBefore_forAll, State.notBefore_foldl, State.notBefore_ite, ite_self, implies_true, h]; done) | (simp_all (maxDischargeDepth := 30) only [State.modPwr_notBefore, State.modPwrReg_notBefore, State.powerFailNow_notBefore, stateOf_next, stateOf_ite, State.notBefore_forAll, State.notBefore_foldl, State.notBefore_ite, ite_self, implies_true, h]; done))

theorem execInterruptionEnd_notBefore (n0 : Nat) (v : BitVec 12) (lasted : Nat) (ea eb : BitVec 8) (s : State) (h : s.notBefore n0) :
    (stateOf s (execInterruptionEnd v lasted ea eb s)).notBefore n0 := by
  unfold execInterruptionEnd
  first
    | (simp (maxDischargeDepth := 30) +contextual only [State.upTo_notBefore, State.modPwr_notBefore, State.modPwrReg_notBefore, stateOf_next, stateOf_ite, State.notBefore_forAll, State.notBefore_foldl, State.notBefore_ite, ite_self, implies_true, h]; done)
    | ((try dsimp only); (repeat' split) <;> first | (simp (maxDischargeDepth := 30) +contextual only [State.upTo_notBefore, State.modPwr_notBefore, State.modPwrReg_notBefore, stateOf_next, stateOf_ite, State.notBefore_forAll, State.notBefore_foldl, State.notBefore_ite, ite_self, implies_true, h]; done) | (simp_all (maxDischargeDepth := 30) only [State.upTo_notBefore, State.modPwr_notBefore, State.modPwrReg_notBefore, stateOf_next, stateOf_ite, State.notBefore_forAll, State.notBefore_foldl, State.notBefore_ite, ite_self, implies_true, h]; done))

theorem execPowerFailStart_notBefore (n0 : Nat) (reserve : Bool) (len : BitVec 16) (s : State) (h : s.notBefore n0) :
    (stateOf s (execPowerFailStart reserve len s)).notBefore n0 := by
  unfold execPowerFailStart
  first
    | (simp (maxDischargeDepth := 30) +contextual only [State.upTo_notBefore, State.powerFailNow_notBefore, stateOf_next, stateOf_ite, State.notBefore_forAll, State.notBefore_foldl, State.notBefore_ite, ite_self, implies_true, h]; done)
    | ((try dsimp only); (repeat' split) <;> first | (simp (maxDischargeDepth := 30) +contextual only [State.upTo_notBefore, State.powerFailNow_notBefore, stateOf_next, stateOf_ite, State.notBefore_forAll, State.notBefore_foldl, State.notBefore_ite, ite_self, implies_true, h]; done) | (simp_all (maxDischargeDepth := 30) only [State.upTo_notBefore, State.powerFailNow_notBefore, stateOf_next, stateOf_ite, State.notBefore_forAll, State.notBefore_foldl, State.notBefore_ite, ite_self, implies_true, h]; done))

theorem State.failHalf_notBefore (n0 : Nat) (s : State) (b : Bool) (h : s.notBefore n0) :
    (State.failHalf s b).notBefore n0 :=
  (State.notBefore_mask n0 (State.failHalf_mask _ _ _ rfl)).2 h

theorem execHoldupTest_notBefore (n0 : Nat) (ea eb : BitVec 8) (s : State) (h : s.notBefore n0) :
    (stateOf s (execHoldupTest ea eb s)).notBefore n0 := by
  unfold execHoldupTest
  first
    | (simp (maxDischargeDepth := 30) +contextual only [State.upTo_notBefore, State.modPwr_notBefore, State.modPwrReg_notBefore, State.failHalf_notBefore, stateOf_next, stateOf_ite, State.notBefore_forAll, State.notBefore_foldl, State.notBefore_ite, ite_self, implies_true, h]; done)
    | ((try dsimp only); (repeat' split) <;> first | (simp (maxDischargeDepth := 30) +contextual only [State.upTo_notBefore, State.modPwr_notBefore, State.modPwrReg_notBefore, State.failHalf_notBefore, stateOf_next, stateOf_ite, State.notBefore_forAll, State.notBefore_foldl, State.notBefore_ite, ite_self, implies_true, h]; done) | (simp_all (maxDischargeDepth := 30) only [State.upTo_notBefore, State.modPwr_notBefore, State.modPwrReg_notBefore, State.failHalf_notBefore, stateOf_next, stateOf_ite, State.notBefore_forAll, State.notBefore_foldl, State.notBefore_ite, ite_self, implies_true, h]; done))

theorem execHalfFailure_notBefore (n0 : Nat) (hub : Bool) (len : BitVec 16) (s : State) (h : s.notBefore n0) :
    (stateOf s (execHalfFailure hub len s)).notBefore n0 := by
  unfold execHalfFailure
  first
    | (simp (maxDischargeDepth := 30) +contextual only [State.powerFailNow_notBefore, State.failHalf_notBefore, stateOf_next, stateOf_ite, State.notBefore_forAll, State.notBefore_foldl, State.notBefore_ite, ite_self, implies_true, h]; done)
    | ((try dsimp only); (repeat' split) <;> first | (simp (maxDischargeDepth := 30) +contextual only [State.powerFailNow_notBefore, State.failHalf_notBefore, stateOf_next, stateOf_ite, State.notBefore_forAll, State.notBefore_foldl, State.notBefore_ite, ite_self, implies_true, h]; done) | (simp_all (maxDischargeDepth := 30) only [State.powerFailNow_notBefore, State.failHalf_notBefore, stateOf_next, stateOf_ite, State.notBefore_forAll, State.notBefore_foldl, State.notBefore_ite, ite_self, implies_true, h]; done))

theorem execNoHalfFlush_notBefore (n0 : Nat) (s : State) (h : s.notBefore n0) :
    (stateOf s (execNoHalfFlush s)).notBefore n0 := by
  unfold execNoHalfFlush
  first
    | (simp (maxDischargeDepth := 30) +contextual only [State.upTo_notBefore, State.modPwr_notBefore, State.flush_notBefore, stateOf_next, stateOf_ite, State.notBefore_forAll, State.notBefore_foldl, State.notBefore_ite, ite_self, implies_true, h]; done)
    | ((try dsimp only); (repeat' split) <;> first | (simp (maxDischargeDepth := 30) +contextual only [State.upTo_notBefore, State.modPwr_notBefore, State.flush_notBefore, stateOf_next, stateOf_ite, State.notBefore_forAll, State.notBefore_foldl, State.notBefore_ite, ite_self, implies_true, h]; done) | (simp_all (maxDischargeDepth := 30) only [State.upTo_notBefore, State.modPwr_notBefore, State.flush_notBefore, stateOf_next, stateOf_ite, State.notBefore_forAll, State.notBefore_foldl, State.notBefore_ite, ite_self, implies_true, h]; done))

theorem execHeadAdmission_notBefore (n0 : Nat) (pcore : BitVec 12) (s : State) (h : s.notBefore n0) :
    (stateOf s (execHeadAdmission pcore s)).notBefore n0 := by
  unfold execHeadAdmission
  first
    | (simp (maxDischargeDepth := 30) +contextual only [State.upTo_notBefore, State.modPwr_notBefore, State.modFel_notBefore, State.headAdmit_notBefore, stateOf_next, stateOf_ite, State.notBefore_forAll, State.notBefore_foldl, State.notBefore_ite, ite_self, implies_true, h]; done)
    | ((try dsimp only); (repeat' split) <;> first | (simp (maxDischargeDepth := 30) +contextual only [State.upTo_notBefore, State.modPwr_notBefore, State.modFel_notBefore, State.headAdmit_notBefore, stateOf_next, stateOf_ite, State.notBefore_forAll, State.notBefore_foldl, State.notBefore_ite, ite_self, implies_true, h]; done) | (simp_all (maxDischargeDepth := 30) only [State.upTo_notBefore, State.modPwr_notBefore, State.modFel_notBefore, State.headAdmit_notBefore, stateOf_next, stateOf_ite, State.notBefore_forAll, State.notBefore_foldl, State.notBefore_ite, ite_self, implies_true, h]; done))

theorem execHeadRetry_notBefore (n0 : Nat) (p : PortalIx) (s : State) (h : s.notBefore n0) :
    (stateOf s (execHeadRetry p s)).notBefore n0 := by
  unfold execHeadRetry
  first
    | (simp (maxDischargeDepth := 30) +contextual only [State.upTo_notBefore, State.modPwr_notBefore, State.headAdmit_notBefore, State.headWait_notBefore, stateOf_next, stateOf_ite, State.notBefore_forAll, State.notBefore_foldl, State.notBefore_ite, ite_self, implies_true, h]; done)
    | ((try dsimp only); (repeat' split) <;> first | (simp (maxDischargeDepth := 30) +contextual only [State.upTo_notBefore, State.modPwr_notBefore, State.headAdmit_notBefore, State.headWait_notBefore, stateOf_next, stateOf_ite, State.notBefore_forAll, State.notBefore_foldl, State.notBefore_ite, ite_self, implies_true, h]; done) | (simp_all (maxDischargeDepth := 30) only [State.upTo_notBefore, State.modPwr_notBefore, State.headAdmit_notBefore, State.headWait_notBefore, stateOf_next, stateOf_ite, State.notBefore_forAll, State.notBefore_foldl, State.notBefore_ite, ite_self, implies_true, h]; done))

theorem execAutoSleep_notBefore (n0 : Nat) (lvl : BitVec 4) (s : State) (h : s.notBefore n0) :
    (stateOf s (execAutoSleep lvl s)).notBefore n0 := by
  unfold execAutoSleep
  first
    | (simp (maxDischargeDepth := 30) +contextual only [State.upTo_notBefore, State.modPwrReg_notBefore, State.sleepRequest_notBefore, State.drainAll_notBefore, stateOf_next, stateOf_ite, State.notBefore_forAll, State.notBefore_foldl, State.notBefore_ite, ite_self, implies_true, h]; done)
    | ((try dsimp only); (repeat' split) <;> first | (simp (maxDischargeDepth := 30) +contextual only [State.upTo_notBefore, State.modPwrReg_notBefore, State.sleepRequest_notBefore, State.drainAll_notBefore, stateOf_next, stateOf_ite, State.notBefore_forAll, State.notBefore_foldl, State.notBefore_ite, ite_self, implies_true, h]; done) | (simp_all (maxDischargeDepth := 30) only [State.upTo_notBefore, State.modPwrReg_notBefore, State.sleepRequest_notBefore, State.drainAll_notBefore, stateOf_next, stateOf_ite, State.notBefore_forAll, State.notBefore_foldl, State.notBefore_ite, ite_self, implies_true, h]; done))

theorem execWake_notBefore (n0 : Nat) (src lvl : BitVec 4) (rtc : Nat) (s : State) (h : s.notBefore n0) :
    (stateOf s (execWake src lvl rtc s)).notBefore n0 := by
  unfold execWake
  first
    | (simp (maxDischargeDepth := 30) +contextual only [State.modPwr_notBefore, State.modPwrReg_notBefore, State.pass_notBefore, State.runFree_notBefore, stateOf_next, stateOf_ite, State.notBefore_mk, State.notBefore_fold, State.notBefore_forAll, State.notBefore_foldl, State.notBefore_ite, ite_self, implies_true, h]; done)
    | ((try dsimp only); (repeat' split) <;> first | (simp (maxDischargeDepth := 30) +contextual only [State.modPwr_notBefore, State.modPwrReg_notBefore, State.pass_notBefore, State.runFree_notBefore, stateOf_next, stateOf_ite, State.notBefore_mk, State.notBefore_fold, State.notBefore_forAll, State.notBefore_foldl, State.notBefore_ite, ite_self, implies_true, h]; done) | (simp_all (maxDischargeDepth := 30) only [State.modPwr_notBefore, State.modPwrReg_notBefore, State.pass_notBefore, State.runFree_notBefore, stateOf_next, stateOf_ite, State.notBefore_mk, State.notBefore_fold, State.notBefore_forAll, State.notBefore_foldl, State.notBefore_ite, ite_self, implies_true, h]; done))

theorem execResetRelease_notBefore (n0 : Nat) (b : BootIn) (s : State)
    (hs : s.releases ≠ some .power) (hr : s.releases = some .restart → b.rtc ≤ 65536) (h : s.notBefore n0) :
    (stateOf s (execResetRelease b s)).notBefore n0 := by
  unfold execResetRelease
  split
  · exact h
  · next src e =>
    have hp : src ≠ .power := fun x => hs (x ▸ e)
    generalize (if s.boot.chilled = true then (-38 : Int) else -40) = lim
    split
    · dsimp only
      simp only [stateOf_next, State.notBefore_mk, State.notBefore_fold]
      exact State.modPwrReg_notBefore n0 _ _ h
    · split
      · next x =>
        subst x
        have := hr e
        rw [if_neg (by omega)]
        exact State.bootUp_notBefore n0 _ _ _ hp (State.pass_notBefore n0 _ _ (State.runFree_notBefore n0 _ h))
      · exact State.bootUp_notBefore n0 _ _ _ hp h

theorem State.idle_notBefore (n0 : Nat) (s : State) (h : s.notBefore n0) :
    (State.idle s).notBefore n0 := by
  unfold State.idle
  first
    | (simp (maxDischargeDepth := 30) +contextual only [State.pass_notBefore, State.mbTick_notBefore, State.notBefore_forAll, State.notBefore_foldl, State.notBefore_ite, ite_self, implies_true, h]; done)
    | ((try dsimp only); (repeat' split) <;> first | (simp (maxDischargeDepth := 30) +contextual only [State.pass_notBefore, State.mbTick_notBefore, State.notBefore_forAll, State.notBefore_foldl, State.notBefore_ite, ite_self, implies_true, h]; done) | (simp_all (maxDischargeDepth := 30) only [State.pass_notBefore, State.mbTick_notBefore, State.notBefore_forAll, State.notBefore_foldl, State.notBefore_ite, ite_self, implies_true, h]; done))

end Sys2Proof.Machine
end

