-- ==== Sys2Proof/WellFormed.lean ====
section
/-! DEFINITION. Which commands have operands that the spec's encodings and links can carry. Meanings do not rest on it. -/

namespace Sys2Proof

/-- K of a MOT instruction names one of `n` units, or is 0xFF (R322). -/
def kNames (n : Nat) (k : BitVec 8) : Bool := decide (k.toNat < n) || k == 0xFF#8

/-- A payload within the 9,018-byte frames of a head link (R366). -/
def fitsJumbo (b : List Byte) : Bool := decide (b.length ≤ 9000)

/-- A payload that fits one Ethernet frame. -/
def fitsFrame (b : List Byte) : Bool := decide (b.length ≤ 1500)

/-- The longest payload of a session message (R430). -/
def maxMessage : Nat := 16777248

/-- The command can be issued as it stands: condition codes 0 to 16 (R293), shift words of 7 bits (R296), unit numbers of MOT and EMIT (R322,
R326), frames within one Ethernet payload, mailbox messages within their data limits (R390), session payloads within R430
(DEDUCED, log 53). -/
def Instr.wellFormed : Instr → Bool
  | .br c _ | .brl c _ | .bcc c => decide (c.toNat ≤ 16)
  | .shi _ _ imm => decide (imm.toNat < 128)
  | .mtgt _ _ k _ | .mvlim _ _ k | .mcmd _ _ k | .mstat _ k | .mpos _ k | .bhit _ k | .brearm _ _ k => kNames 64 k
  | .mleaf _ _ k _ => decide (k.toNat < 16)
  | .pcmd _ _ k => kNames 16 k
  | .lsw _ _ k _ | .lswb _ k _ => kNames 48 k
  | .trec _ _ k | .tword _ _ k => k != 0xFF#8
  | .mbsend _ _ k | .mbrecv _ _ k | .mbstat _ k => decide (k.toNat < 64)
  | .depthSegment _ b _ => fitsJumbo b
  | .panelReply _ b | .telegramReceive _ b | .pdInputReceive b | .prpFrameReceive _ _ _ _ (.porvar b) => fitsFrame b
  | .prpFrameReceive _ _ _ _ (.datagram _ _ _ b) => decide (b.length ≤ 1472)
  | .mailboxArrival (.can _) _ _ _ b => decide (b.length ≤ 64)
  | .mailboxArrival (.ser _) _ _ _ b | .serialMessageEnd _ b => decide (b.length ≤ 1024)
  | .mailboxArrival _ _ _ _ b => decide (b.length ≤ 1472)
  | .write _ _ _ ws => decide (4 * ws.length + 8 ≤ maxMessage)
  | .landData _ _ _ b => decide (b.length + 4 ≤ maxMessage)
  | .fwWrite _ _ _ _ b => decide (b.length + 8 ≤ maxMessage)
  | .envWrite _ _ b | .anchorWrite _ _ _ b | .attest _ _ b => decide (b.length ≤ maxMessage)
  | _ => true

end Sys2Proof
end

