-- ==== Sys2Proof/Tests/Slice0.lean ====
section
/-! SUPPORT. Tests: ill-formed commands are refused by WellFormed, instruction words decode, single steps give what the spec's tables
say, and a witness for the hypotheses of every statement. -/

namespace Sys2Proof.Tests

open Sys2Proof Sys2Proof.Machine

set_option Elab.async false

/-! ### Small states -/

/-- A machine in RUN after reset. -/
def base : State :=
  let s := State.reset
  let s : State := { s with boot := { s.boot with held := none, up := true } }
  s.modMode fun m => { m with mode := .run }
/-- The execute phase of cycle 7. -/
def inPhase : State := { base with eng := { base.eng with phase := .execute, cycno := 7 } }
def withBank (s : State) (f : Bank → Bank) : State := s.modEng fun e => { e with banks := e.banks.set 0 (f e.banks[0]) }
/-- Registers with varied contents, C and B set. -/
def aluState : State := withBank inPhase fun k => { k with pc := 0x100, l := Vector.ofFn fun i : Fin 32 => BitVec.ofNat 32 (i.val * 0x13579BDF), c := true, b := true }
def withReg (s : State) (d : Reg) (w : Word) : State := withBank s fun k => k.put d w
def aluMin : State := withReg (withReg aluState 4 0x80000000) 5 0xFFFFFFFF
def aluZero : State := withBank (withReg aluMin 5 0) fun k => { k with b := false, c := false, z := true }
/-- L6 points at the data word 0x0100_0010. -/
def pointing : State := withReg aluState 6 0x01000010
def queued (s : State) (l : List QStore) : State := s.modEng fun e => { e with sq := l }
def pointingAtWord : State := (pointing.setWord 0x01000010 0x8765F3A1)
/-- The wait phase at 1 ms, a cycle done. -/
def waiting : State := { base with mono := 400000, eng := { base.eng with phase := .wait, cycno := 7, outCyc := 7, wdStart := 300000, entry := 0x40 } }
def waitingPanel : State := waiting.modSys fun y => { y with plcfg := { y.plcfg with plen := 8 } }
def reply : List Byte :=
  let b : List Byte := [0x50, 2, 1, 3] ++ beBytes 4 7 ++ [0, 0, 0, 0]
  let d := List.replicate 240 (0x5A : Byte)
  b ++ beBytes 4 (crc32c (b ++ d)) ++ d
def executing : State := waitingPanel.modEng fun e => { e with phase := .execute }
def co1 : PendCo := ⟨0x0C05, 2, 77, 5, true⟩
def calloutPending : State := executing.modEng fun e => { e with pend := [⟨0x0100, 3, 5, 1, false⟩, co1], decls := [⟨0x0C05, 2, 0x80⟩], banks := e.banks.set 0 { l := Vector.replicate 32 9 } }
def inCallout : State := executing.modEng fun e => { e with running := e.running.set 1 (some ⟨0x0C05, 3⟩) }
def calloutSpent : State := executing.modEng fun e => { e with running := e.running.set 1 (some ⟨0x0C05, 2000⟩), pend := [co1] }
def atWord : State := withBank (executing.modEng fun e => { e with code := [0, 0, 0, 0xE0] }) fun k => { k with pc := 1 }
def stopped (c : BitVec 4) : State := (waiting.modMode fun m => { m with mode := .stop, cause := c }).modSys fun y => { y with rst := { y.rst with auto := 1 } }
def stoppedWatchdog : State := ((stopped 3).modEng fun e => { e with safeOut := [1, 2, 3], data0 := [7, 8] }).setWord 0x01000000 0x55
def sessionOf (r : BitVec 6) : Session := { num := 4, rights := r, serial := 9, at_ := 5 }
def withSes (s : State) (i : Fin 3) (r : BitVec 6) : State := s.modTru fun t => { t with sessions := t.sessions.set i.val (some (sessionOf r)) }
def atBreakpoint : State := withSes ((withBank executing fun k => { k with pc := 0xFFFFFC }).modSys fun y => { y with brk := y.brk.set 7 ⟨true, 0x3FFFFF⟩ }) 0 8
def moveDesc (from_ to_ len cw : Word) : State :=
  ((((withReg executing 6 0x01000100).setWord 0x01000100 from_).setWord 0x01000104 to_).setWord 0x01000108 len).setWord 0x0100010C cw
def moveReady : State := moveDesc 0x01000000 0x01000010 8 0x01000200
def moveFlying : State := (((moveReady.setWord 0x01000000 0x11223344).modEng fun e => { e with moves := e.moves.set 2 (some ⟨0x01000000, 0x01000010, 8, 0x01000200, 3, 0, []⟩) }))
def tagged (k : TagType) (q : Quad) (b : Bool) : State :=
  (withBank ((executing.modEng fun e => { e with tags := [⟨5, k, false, false, {}⟩] }).setQuad 5 q) fun r => { r with b := b, l := Vector.ofFn fun i : Fin 32 => BitVec.ofNat 32 (i.val + 1) })
def fitted (s : State) : State := { s with portals := Vector.ofFn fun p : Fin 16 =>
  let q := s.portal p
  { q with reg := { q.reg with cfg := { q.reg.cfg with kind := 3, axfit := 15, lkfit := true, kerffit := true, edgefit := true } } } }
def withAxis (s : State) (x : AxisIx) (f : Axis → Axis) : State := s.modAxis x f
def moving (y : Axis) : Axis :=
  let y := y.setSt .moving
  let y := y.setTrust .trusted
  let r := y.reg
  { y with bridges := true, reg := { r with mot := { r.mot with kind := 2 }, cal := { ofsok := true } } }
/-- All portals fitted, the execute phase. -/
def fittedRun : State := withReg (withReg (fitted executing) 5 7) 6 0x01000100
/-- Axis 6 moves, TRUSTED, its bridges on. -/
def axisMoves : State := withAxis fittedRun 6 moving
/-- Both leaves of portal 1 move. -/
def leavesMove : State := let s := withAxis (withAxis fittedRun 4 moving) 5 moving
                   s.modPortal 1 fun q => { q with dcl := 0, zsp := true }
def recNo (n : Nat) : Rec := { type := 0x10, payload := [1], calv := false, seq := n, cal := 0, mono := 0 }
def mailbox (s : State) (m : Fin 64) (dir : Bool) (link : BitVec 4) : State :=
  { s with net := { s.net with reg := { s.net.reg with mbcfg := s.net.reg.mbcfg.set m.val ⟨true, dir, link, false⟩ } } }
def message (x y : Word) : State := ((fittedRun.setWord 0x01000100 x).setWord 0x01000104 y).setWord 0x01000200 0xCAFE
def mailWaits : State := let s := message 0x01000200 12
                  { s with net := { s.net with mbox := s.net.mbox.set 63 { queue := [⟨7, 8, [1, 2, 3, 4]⟩], ovf := true } } }
def axisOff : State := withAxis (fitted executing) 6 fun y => { moving y with reg := { (moving y).reg with state := { (moving y).reg.state with state := .disabled } } }
def axisOffSde : State := { axisOff with sde := Vector.replicate 2 true }
def onlyPortal1 (s : State) : State := { s with portals := Vector.ofFn fun p : Fin 16 =>
  let q := s.portal p
  let f := decide (p.val = 1)
  { q with cl := f, reg := { q.reg with cfg := { q.reg.cfg with kind := if f then 3 else 0, axfit := 15, lkfit := true, kerffit := f, edgefit := true } } } }
/-- Portal 1 alone is fitted, closed and locked; leaf A is IDLE. -/
def idle : State := withAxis (onlyPortal1 executing) 4 fun y => (moving y).setSt .idle
def crossing : State := withAxis axisMoves 6 fun y =>
  let b := ((y.blz.set 20 100).set 21 0x00010003).set 22 9
  let y := { y with p0 := 99, pos := 100, blz := b }
  { y with fb := { y.fb with cfg := { y.fb.cfg with src := 2 } }, reg := { y.reg with blzarmd := 0xFFFFFFFF } }
def leavesMeasured : State :=
  let f := fun y : Axis => let z := moving y
                           { z with fb := { z.fb with cfg := { z.fb.cfg with src := 2 } } }
  (withAxis (withAxis (fitted executing) 4 f) 5 f).modPortal 1 fun q => { q with reg := { q.reg with ptspan := 1000, ptravb := Vector.replicate 16 { t0 := 7, t1 := 8 }, ptrava := Vector.replicate 16 { t0 := 500, t1 := 700 } } }
def withSource (s : State) (x : AxisIx) (c : FbkCfg) : State := withAxis s x fun y => { y with fb := { y.fb with cfg := c } }
def hallAxis : State := withAxis (withSource axisMoves 6 { src := 1, hall := true }) 6 fun y => { y with fb := { y.fb with sq := { y.fb.sq with hallc := 1 } } }
def abAxis : State := withAxis (withSource axisMoves 6 { src := 2, idxen := true }) 6 fun y => { y with idxDue := true }
def serialAxis : State := withAxis (withSource axisMoves 6 { src := 3 }) 6 fun y => { y with serGood := true, wakeTest := false, sraw := 0xFFFFFF, unwrap := -1, fb := { y.fb with ser := { y.fb.ser with crclen := 0 } } }
def withKerf (s : State) (f : Kerf → Kerf) : State := s.modKerf 1 f
def headUp : State := withKerf leavesMove fun k => { k with status := true, headId := 0x1234, headKnown := true, rateAt := 3, lastEnd := 9, segAt := 9 }
def partFrame (n : Nat) : State := withKerf headUp fun k => { k with part := some ⟨9, n, List.replicate n [7]⟩ }
def headLinkUp (b : Bool) : State := withKerf { headUp with net := { headUp.net with reg := { headUp.net.reg with lnk := { headUp.net.reg.lnk with hl := 2 } } } } fun k => { k with segRate := b }
def frameOf (n : Word) (live : Bool) : Frame := ⟨n, 9, 0, [], live⟩
def judgedAt (t : Nat) (v : Verdict) : Judged := { frame := { (frameOf 3 true) with fend := t }, verd := v }
def withWindow (s : State) (w : KWin) : State := withKerf s fun k => { k with reg := { k.reg with stat := { k.reg.stat with win := w } } }
def withSwitch (s : State) (f : LoadCh → LoadCh) : State := s.modLs 3 f
def switchOn : State := withSwitch leavesMove fun c => { c with safeGov := false, eff := true, reg := { c.reg with cmd := true, stat := { c.reg.stat with out := true } } }
def latched (s : State) (n : Option Nat) : State := withSwitch s fun c => { c with retryAt := n, reg := { c.reg with stat := { c.reg.stat with out := false, tlatch := true } } }
def withInput (s : State) (n : Fin 148) (c : FioIcfg) : State := { s with fio := { s.fio with reg := { s.fio.reg with icfg := s.fio.reg.icfg.set n.val c } } }
def withSafety (s : State) (f : Safety → Safety) : State := { s with safe := f s.safe }
def channelOf (f : Channel → Channel) : Channel := f { tested := true, frames := 49, gridAt := 390000 }
/-- Both safety channels run in NORMAL. -/
def safetyNormal : State := withSafety leavesMove fun f => { f with mode := .normal, linkUp := true, a := channelOf id, h := channelOf id, locked := some {}, swTests := true }
def safetyMode (m : SMode) (s : State) : State := withSafety s fun f => { f with mode := m }
def loopsDriven (s : State) : State := withSafety s fun f => { f with drive := 15, rb := 15 }
def sidesClosed : State := withSafety safetyNormal fun f =>
  let made : Pair := { raw := 3, val := true }
  let c := fun k : Channel => { k with portals := Vector.replicate 16 { dcl := made, eeh := made, iso := {} }, permit := true }
  { f with a := c f.a, h := c f.h }
def withSupply (s : State) (f : Supply → Supply) : State := { s with pwr := f s.pwr }
def withPwr (s : State) (f : Pwr → Pwr) : State := s.modPwrReg f
def withFel (s : State) (f : Fel → Fel) : State := { s with fel := f s.fel }
/-- A boot at 20 °C with both MRAM devices. -/
def bootIn : BootIn := { tcs := 20, mram0 := true, mram1 := true, holding := false, badStaged := [], newBad := 0, oldBad := 0, badRetain := [], echo := true, coreMs := 300, rtc := 0, ctl := 240, pcore := 50 }
/-- A telegram for connection 5 with TSEQ n and kind k, behind the carrier head. -/
def telegram (n : Nat) (k : Byte) : List Byte :=
  let t : List Byte := beBytes 4 5 ++ beBytes 4 n ++ beBytes 4 1000 ++ [1, 1] ++ beBytes 2 12 ++ [k, 7, 0, 0] ++ beBytes 4 9 ++ beBytes 4 0
  carrierHead ++ t ++ beBytes 4 (codeA 5 t) ++ beBytes 4 (codeH 5 t)
/-- What the telegram carries behind its carrier head. -/
def tel (n : Nat) (k : Byte) : List Byte := (telegram n k).drop 4
/-- A process data frame of dataset 9 with LEN n and four bytes of data. -/
def pdFrame (n : Nat) : List Byte := [0x44, 1] ++ beBytes 2 n ++ beBytes 2 9 ++ [0, 0] ++ beBytes 4 77 ++ [1, 2, 3, 4]
def ptpTime : State := { leavesMove with tim := { leavesMove.tim with src := { leavesMove.tim.src with state := .ptp } } }
def withJournal (s : State) (f : Journal → Journal) : State := s.modJnl f
def journalCmd : JCmd := { connid := 5, tseq := 8, kind := 1, target := 7, source := .tn, arg := 9, expms := 0 }
def connected (s : State) : State := withJournal s fun j => { j with conns := [⟨5, 8, [(8, 3)], 0⟩] }
def withNet (s : State) (f : Network → Network) : State := { s with net := f s.net }
def withNetReg (s : State) (f : Net → Net) : State := withNet s fun n => { n with reg := f n.reg }
/-- The service session is open with every right. -/
def serviceOpen : State := withSes leavesMove 0 0x3F
def inMode (m : RunMode) (s : State) : State := s.modMode fun y => { y with mode := m }
def withLanding (s : State) (f : Landing → Landing) : State := s.modLnd f
def landState (t : LndState) (l : Landing) : Landing := l.modStat fun y => { y with state := t }
def ptpMaster (n : BitVec 80) : PtpMaster := ⟨128, 6, 0x21, 0x4E5D, 128, 7, 0, n⟩
def withMaster (s : State) : State := withNet s fun n => { n with masters := [(n.reg.ptp.domain, ptpMaster 5, s.mono)] }
def doorBusy : State := leavesMove.modPortal 1 fun q => { q with eehOff := some 9, mtoAt := #v[some 9, none], utoAt := some 9, ltoAt := some 9, dcl := 1, mov := some .closing, g := 1000000000 }
def dmaQueued : State := withKerf leavesMove fun k => { k with dma := [(6, frameOf 5 false)], received := true, reg := { k.reg with fcnt := 4 } }
def ones96 : BitVec 96 := BitVec.allOnes 96
def entryIn (st : EntState) : Entry := { cmd := { journalCmd with expms := 60000 }, jseq := 3, state := st, tacc := 0, epoch := 0 }
def twinIn (st : TwinState) : State := withNetReg ptpTime fun r => { r with twin := { r.twin with en := true, state := st } }
def anchored : State :=
  let s : State := leavesMove.modTru fun t => { t with anchors := t.anchors.set 3 (some []) }
  { s with tim := { s.tim with src := { s.tim.src with valid := true } } }
def clientCert (b : Bool) : ClientCert := ⟨true, b, false, 0x3F, 0, 1000000, 55⟩
def tonTag : TagDecl := ⟨5, .ton, false, false, {}⟩
def forced : Force := ⟨5, 1, .ton, 6⟩
def nonce : List Byte := (List.range 32).map (BitVec.ofNat 8 ·)
def switchReady (s : State) : State := safetyMode .normal (withLanding s fun l => { landState .verified l with landing := [9, 8], active := [3], activate := true })
def oneEntry : List Byte := [0x50, 0x45, 0x4E, 0x56, 1, 0, 1, 0] ++ leBytes 4 0x6448 ++ leBytes 4 0 ++ List.replicate 48 0 ++ List.replicate 32 0 ++ List.replicate 96 0
def fio_ (s : State) (f : FieldIo → FieldIo) : State := { s with fio := f s.fio }

/-! ### Witnesses: states and operands that meet the hypotheses of each statement's clauses -/

/-- Witness for the hypotheses of EmptyQueueTick: (1) the statement. -/
theorem witness_EmptyQueueTick :
    serviceOpen.pending = [] :=
  by decide +kernel

/-- Witness for the hypotheses of AluOperations: (1) add; (2) adds. -/
theorem witness_AluOperations :
    (aluMin.ready = true) ∧
    (aluMin.ready = true) :=
  ⟨by decide +kernel,
   by decide +kernel⟩

/-- Witness for the hypotheses of ShiftsAndProducts: (1) the statement; (2) the statement; (3) the statement; (4) the statement; (5) mul,
div; (6) div. -/
theorem witness_ShiftsAndProducts :
    (aluState.ready = true ∧ BitVec.toNat (3 : BitVec 16) / 32 = 0) ∧
    (aluState.ready = true ∧ BitVec.toNat (35 : BitVec 16) / 32 = 1) ∧
    (aluState.ready = true ∧ BitVec.toNat (95 : BitVec 16) / 32 = 2) ∧
    (aluState.ready = true ∧ BitVec.toNat (96 : BitVec 16) / 32 = 3) ∧
    (aluMin.ready = true ∧ aluMin.r (5 : Reg) ≠ (0 : Word)) ∧
    (aluZero.ready = true ∧ aluZero.r (5 : Reg) = (0 : Word)) :=
  ⟨by decide +kernel,
   by decide +kernel,
   by decide +kernel,
   by decide +kernel,
   by decide +kernel,
   by decide +kernel⟩

/-- Witness for the hypotheses of Immediates: (1) addi. -/
theorem witness_Immediates :
    aluState.ready = true :=
  by decide +kernel

/-- Witness for the hypotheses of RegisterContacts: (1) bcc. -/
theorem witness_RegisterContacts :
    aluState.ready = true ∧ BitVec.toNat (0 : BitVec 5) ≤ 16 ∧ (conditions aluState.bank)[BitVec.toNat (0 : BitVec 5)]? = some true :=
  by decide +kernel

/-- Witness for the hypotheses of BranchesAndFlags: (1) br, nop; (2) br. -/
theorem witness_BranchesAndFlags :
    (aluState.ready = true ∧ (conditions aluState.bank)[BitVec.toNat (0 : BitVec 5)]? = some true) ∧
    (aluZero.ready = true ∧ (conditions aluZero.bank)[BitVec.toNat (3 : BitVec 5)]? = some false) :=
  ⟨by decide +kernel,
   by decide +kernel⟩

/-- Witness for the hypotheses of Jumps: (1) the statement; (2) the statement. -/
theorem witness_Jumps :
    (aluState.ready = true ∧ BitVec.toNat (201394176 : Word) / 2 ^ 26 = 3 ∧ BitVec.toNat (201394176 : Word) % 2 ^ 16 ≠ 0 ∧ BitVec.toNat (201394176 :
    Word) %
    2 ^ 16 ≠ 1) ∧
    (aluState.ready = true ∧ BitVec.toNat (203489280 : Word) / 2 ^ 26 = 3 ∧ BitVec.toNat (203489280 : Word) % 2 ^ 16 = 0 ∧ BitVec.toNat (203489280 :
    Word) /
    2 ^ 21 % 32 ≠ 0) :=
  ⟨by decide +kernel,
   by decide +kernel⟩

/-- Witness for the hypotheses of Loads: (1) ldhu, ldbu, ldw; (2) stw. -/
theorem witness_Loads :
    (noStoreTo pointingAtWord (BitVec.toNat (target pointingAtWord (6 : Reg) (0 : BitVec 16))) 2 ∧ noStoreTo pointingAtWord (BitVec.toNat (target
    pointingAtWord (6 : Reg) (0 : BitVec 16))) 1 ∧
    noStoreTo pointingAtWord (BitVec.toNat (target pointingAtWord (6 : Reg) (0 : BitVec 16))) 4 ∧ pointingAtWord.ready = true ∧ BitVec.toNat (target
    pointingAtWord (6 : Reg) (0 : BitVec 16)) % 2
    = 0 ∧ inMemory (BitVec.toNat (target pointingAtWord (6 : Reg) (0 : BitVec 16))) 2 = true ∧ inMemory (BitVec.toNat (target pointingAtWord (6 : Reg)
    (0 : BitVec 16))) 1 =
    true ∧ BitVec.toNat (target pointingAtWord (6 : Reg) (0 : BitVec 16)) % 4 = 0 ∧ inMemory (BitVec.toNat (target pointingAtWord (6 : Reg) (0 :
    BitVec 16))) 4 = true) ∧
    (pointingAtWord.memOk ∧ pointingAtWord.ready = true ∧ pointingAtWord.eng.sq = [] ∧ BitVec.toNat (target pointingAtWord (6 : Reg) (4 : BitVec 16))
    % 4 = 0 ∧ inData (BitVec.toNat (target pointingAtWord
    (6 : Reg) (4 : BitVec 16))) 4 = true) :=
  ⟨⟨by unfold noStoreTo; decide +kernel, by unfold noStoreTo; decide +kernel, by unfold noStoreTo; decide +kernel, by decide +kernel⟩,
   ⟨by unfold State.memOk; decide +kernel, by decide +kernel⟩⟩

/-- Witness for the hypotheses of FailedAccesses: (1) ldw, ldh; (2) ldw. -/
theorem witness_FailedAccesses :
    (storesToMemory pointing ∧ pointing.ready = true ∧ BitVec.toNat (target pointing (6 : Reg) (3 : BitVec 16)) % 4 ≠ 0 ∧ pointing.eng.sq = [] ∧
    BitVec.toNat (target pointing (6 :
    Reg) (3 : BitVec 16)) % 2 ≠ 0) ∧
    (pointingAtWord.ready = true ∧ FabFault.timeout ≠ FabFault.none ∧ pointingAtWord.eng.sq = [] ∧ pointingAtWord.eng.insns < 1999 ∧
    pointingAtWord.since pointingAtWord.eng.wdStart + 3 < us
    pointingAtWord.eng.sys.wdt.wdt.toNat ∧ BitVec.toNat (target pointingAtWord (6 : Reg) (0 : BitVec 16)) % 4 = 0 ∧ inData (BitVec.toNat (target
    pointingAtWord (6 : Reg) (0 : BitVec
    16))) 4 = true) :=
  ⟨⟨by unfold storesToMemory; decide +kernel, by decide +kernel⟩,
   by decide +kernel⟩

def stores1 : State := (queued pointingAtWord [⟨0x01000012,0x12345678,2,0⟩,⟨0x01000010,1,4,0⟩])
/-- Witness for the hypotheses of Stores: (1) stw, sth, stb; (2) storeDrain. -/
theorem witness_Stores :
    (pointing.ready = true ∧ pointing.eng.sq.length < 8 ∧ BitVec.toNat (target pointing (6 : Reg) (4 : BitVec 16)) % 4 = 0 ∧ (inData (BitVec.toNat
    (target pointing (6 : Reg)
    (4 : BitVec 16))) 4 = true ∨ inOutput (BitVec.toNat (target pointing (6 : Reg) (4 : BitVec 16))) 4 = true) ∧ BitVec.toNat (target pointing (6 :
    Reg) (4 :
    BitVec 16)) % 2 = 0 ∧ (inData (BitVec.toNat (target pointing (6 : Reg) (4 : BitVec 16))) 2 = true ∨ inOutput (BitVec.toNat (target pointing (6 :
    Reg) (4 :
    BitVec 16))) 2 = true) ∧ BitVec.toNat (target pointing (6 : Reg) (4 : BitVec 16)) % 1 = 0 ∧ (inData (BitVec.toNat (target pointing (6 : Reg) (4 :
    BitVec 16)))
    1 = true ∨ inOutput (BitVec.toNat (target pointing (6 : Reg) (4 : BitVec 16))) 1 = true)) ∧
    (stores1.memOk ∧ stores1.eng.sq = [{ addr := (16777234 : Word), val := (305419896 : Word), size := 2, ctx := (0 : Fin 5) },
    { addr := (16777232 : Word), val := (1 : Word), size := 4, ctx := (0 : Fin 5) }] ∧ stores1.online = true ∧ stores1.mode ≠ RunMode.stop ∧ (2 = 1 ∨
    2 = 2 ∨ 2 = 4) ∧ BitVec.toNat (16777234 : Word) % 2 = 0 ∧ (inData (BitVec.toNat (16777234 : Word)) 2 = true ∨ inOutput (BitVec.toNat (16777234 :
    Word)) 2 = true) ∧ FabFault.ecc ≠ FabFault.none ∧ stores1.wdOver = false ∧ stores1.eng.spent = false ∧ stores1.eng.moves = Vector.replicate 4
    none) :=
  ⟨by decide +kernel,
   ⟨by unfold State.memOk; decide +kernel, by decide +kernel⟩⟩

/-- Witness for the hypotheses of MemoryContactsAndCoils: (1) cld, cst; (2) cst. -/
theorem witness_MemoryContactsAndCoils :
    (pointingAtWord.memOk ∧ noStoreTo pointingAtWord (BitVec.toNat (target pointingAtWord (6 : Reg) (0 : BitVec 16))) 4 ∧ storesToMemory
    pointingAtWord ∧ pointingAtWord.ready = true ∧ BitVec.toNat (target
    pointingAtWord (6 : Reg) (0 : BitVec 16)) % 4 = 0 ∧ inMemory (BitVec.toNat (target pointingAtWord (6 : Reg) (0 : BitVec 16))) 4 = true ∧ (inData
    (BitVec.toNat (target
    pointingAtWord (6 : Reg) (0 : BitVec 16))) 4 = true ∨ inOutput (BitVec.toNat (target pointingAtWord (6 : Reg) (0 : BitVec 16))) 4 = true)) ∧
    (pointingAtWord.memOk ∧ storesToMemory pointingAtWord ∧ pointingAtWord.ready = true ∧ (BitVec.toNat (target pointingAtWord (6 : Reg) (1 : BitVec
    16)) % 4 ≠ 0 ∨ inData (BitVec.toNat (target
    pointingAtWord (6 : Reg) (1 : BitVec 16))) 4 = false ∧ inOutput (BitVec.toNat (target pointingAtWord (6 : Reg) (1 : BitVec 16))) 4 = false)) :=
  ⟨⟨by unfold State.memOk; decide +kernel, by unfold noStoreTo; decide +kernel, by unfold storesToMemory; decide +kernel, by decide +kernel⟩,
   ⟨by unfold State.memOk; decide +kernel, by unfold storesToMemory; decide +kernel, by decide +kernel⟩⟩

def fenceAndCommit1 : State := (withReg fittedRun 6 0x26001000)
def fenceAndCommit2 : State := (queued fittedRun [⟨0x01000010,0x12345678,4,0⟩])
def fenceAndCommit3 : State := ((withReg fittedRun 6 0x22007FFF).modEng fun e => { e with stepping := true, sys := { e.sys with mode := { e.sys.mode with mode := .hold } } })
def fenceAndCommit4 : State := ((withReg fittedRun 6 0x26001FFF).modKerf 1 fun k => { k with sZwide := 501 })
def fenceAndCommit5 : State := withReg executing 6 0x26001000
def fenceAndCommit6 : State := withReg fittedRun 6 0x25001000
def fenceAndCommit7 : State := withReg fittedRun 6 0x22000C00
/-- Witness for the hypotheses of FenceAndCommit: (1) fence, commit; (2) commit; (3) commit; (4) commit; (5) commit; (6) commit; (7) commit.
-/
theorem witness_FenceAndCommit :
    (storesToMemory fenceAndCommit1 ∧ fenceAndCommit1.ready = true ∧ blockAt (BitVec.toNat (fenceAndCommit1.r (6 : Reg))) = some (Block.kerf (1 :
    PortalIx)) ∧ fenceAndCommit1.eng.stepping = false ∧ fenceAndCommit1.blockFitted (Block.kerf (1 : PortalIx)) = true ∧ fenceAndCommit1.contentOk
    (Block.kerf (1 : PortalIx)) = true ∧ FabFault.timeout ≠ FabFault.none ∧ fenceAndCommit1.kerf[(1 : PortalIx).val].sZwide.toNat ≤ 500) ∧
    (storesToMemory fenceAndCommit2 ∧ fenceAndCommit2.ready = true ∧ blockAt (BitVec.toNat (fenceAndCommit2.r (6 : Reg))) = none) ∧
    (storesToMemory fenceAndCommit3 ∧ fenceAndCommit3.ready = true ∧ blockAt (BitVec.toNat (fenceAndCommit3.r (6 : Reg))) = some (Block.blaze (63 :
    AxisIx)) ∧ fenceAndCommit3.eng.stepping = true) ∧
    (storesToMemory fenceAndCommit4 ∧ fenceAndCommit4.ready = true ∧ blockAt (BitVec.toNat (fenceAndCommit4.r (6 : Reg))) = some (Block.kerf (1 :
    PortalIx)) ∧ fenceAndCommit4.eng.stepping = false ∧ fenceAndCommit4.blockFitted (Block.kerf (1 : PortalIx)) = true ∧ fenceAndCommit4.contentOk
    (Block.kerf (1 : PortalIx)) = false) ∧
    (storesToMemory fenceAndCommit5 ∧ fenceAndCommit5.ready = true ∧ blockAt (BitVec.toNat (fenceAndCommit5.r (6 : Reg))) = some (Block.kerf (1 :
    PortalIx)) ∧ fenceAndCommit5.eng.stepping = false ∧ fenceAndCommit5.blockFitted (Block.kerf (1 : PortalIx)) = false) ∧
    (storesToMemory fenceAndCommit6 ∧ fenceAndCommit6.ready = true ∧ blockAt (BitVec.toNat (fenceAndCommit6.r (6 : Reg))) = some (Block.output (1 :
    PortalIx)) ∧ fenceAndCommit6.eng.stepping = false ∧ fenceAndCommit6.blockFitted (Block.output (1 : PortalIx)) = true ∧ fenceAndCommit6.contentOk
    (Block.output (1 : PortalIx)) = true) ∧
    (storesToMemory fenceAndCommit7 ∧ fenceAndCommit7.ready = true ∧ blockAt (BitVec.toNat (fenceAndCommit7.r (6 : Reg))) = some (Block.blaze (6 :
    AxisIx)) ∧ fenceAndCommit7.eng.stepping = false ∧ fenceAndCommit7.blockFitted (Block.blaze (6 : AxisIx)) = true ∧ fenceAndCommit7.contentOk
    (Block.blaze (6 : AxisIx)) = true) :=
  ⟨⟨by unfold storesToMemory; decide +kernel, by decide +kernel⟩,
   ⟨by unfold storesToMemory; decide +kernel, by decide +kernel⟩,
   ⟨by unfold storesToMemory; decide +kernel, by decide +kernel⟩,
   ⟨by unfold storesToMemory; decide +kernel, by decide +kernel⟩,
   ⟨by unfold storesToMemory; decide +kernel, by decide +kernel⟩,
   ⟨by unfold storesToMemory; decide +kernel, by decide +kernel⟩,
   ⟨by unfold storesToMemory; decide +kernel, by decide +kernel⟩⟩

def blockMoves1 : State := (moveDesc 0x02000000 0x01000010 8 0x01000200)
def blockMoves2 : State := (withReg moveReady 6 0x01000102)
/-- Witness for the hypotheses of BlockMoves: (1) bmove, blockMoveComplete; (2) blockMoveComplete; (3) bmove; (4) bmove. -/
theorem witness_BlockMoves :
    (moveReady.memOk ∧ moveReady.ready = true ∧ moveReady.eng.sq = [] ∧ moveReady.eng.freeMove = some (0 : Fin 4) ∧ BitVec.toNat (moveReady.r (6 :
    Reg)) % 4 = 0 ∧ inData
    (BitVec.toNat (moveReady.r (6 : Reg))) 16 = true ∧ BitVec.toNat (moveReady.memWord (BitVec.toNat (moveReady.r (6 : Reg)) + 12)) % 4 = 0 ∧ inData
    (BitVec.toNat
    (moveReady.memWord (BitVec.toNat (moveReady.r (6 : Reg)) + 12))) 4 = true ∧ moveOk (BitVec.toNat (moveReady.memWord (BitVec.toNat (moveReady.r (6
    : Reg))))) (BitVec.toNat
    (moveReady.memWord (BitVec.toNat (moveReady.r (6 : Reg)) + 4))) (BitVec.toNat (moveReady.memWord (BitVec.toNat (moveReady.r (6 : Reg)) + 8))) =
    true ∧ (BitVec.toNat
    (moveReady.memWord (BitVec.toNat (moveReady.r (6 : Reg)) + 12)) + 4 ≤ BitVec.toNat (moveReady.memWord (BitVec.toNat (moveReady.r (6 : Reg)) + 4)) ∨ BitVec.toNat
    (moveReady.memWord (BitVec.toNat (moveReady.r (6 : Reg)) + 4)) + BitVec.toNat (moveReady.memWord (BitVec.toNat (moveReady.r (6 : Reg)) + 8)) ≤ BitVec.toNat (moveReady.memWord
    (BitVec.toNat (moveReady.r (6 : Reg)) + 12))) ∧ moveReady.eng.moves[(0 : Fin 4).val] = none) ∧
    (moveFlying.memOk ∧ moveFlying.online = true ∧ moveFlying.eng.moves[(2 : Fin 4).val] = some
    { src := 16777216, dst := 16777232, len := 8, cw := 16777728, tag := (3 : BitVec 8), ctx := (0 : Fin 5) } ∧ 8 % 4 = 0 ∧ 16777216 % 4 = 0 ∧
    inMemory 16777216 8 = true ∧ (16777728 + 4 ≤ 16777232 ∨ 16777232 + 8 ≤ 16777728)) ∧
    (blockMoves1.memOk ∧ blockMoves1.ready = true ∧ blockMoves1.eng.sq = [] ∧ blockMoves1.eng.freeMove = some (0 : Fin 4) ∧ BitVec.toNat
    (blockMoves1.r (6 : Reg)) % 4 = 0 ∧ inData (BitVec.toNat (blockMoves1.r (6 : Reg))) 16 = true ∧ BitVec.toNat (blockMoves1.memWord (BitVec.toNat
    (blockMoves1.r (6 : Reg)) + 12)) % 4 = 0 ∧ inData (BitVec.toNat (blockMoves1.memWord (BitVec.toNat (blockMoves1.r (6 : Reg)) + 12))) 4 = true ∧
    moveOk (BitVec.toNat (blockMoves1.memWord (BitVec.toNat (blockMoves1.r (6 : Reg))))) (BitVec.toNat (blockMoves1.memWord (BitVec.toNat
    (blockMoves1.r (6 : Reg)) + 4))) (BitVec.toNat (blockMoves1.memWord (BitVec.toNat (blockMoves1.r (6 : Reg)) + 8))) = false) ∧
    (blockMoves2.memOk ∧ blockMoves2.ready = true ∧ blockMoves2.eng.sq = [] ∧ blockMoves2.eng.freeMove = some (0 : Fin 4) ∧ (¬(BitVec.toNat
    (blockMoves2.r (6 : Reg)) % 4 = 0 ∧ inData (BitVec.toNat (blockMoves2.r (6 : Reg))) 16 = true ∧ BitVec.toNat (blockMoves2.memWord (BitVec.toNat
    (blockMoves2.r (6 : Reg)) + 12)) % 4 = 0 ∧ inData (BitVec.toNat (blockMoves2.memWord (BitVec.toNat (blockMoves2.r (6 : Reg)) + 12))) 4 = true)))
    :=
  ⟨⟨by unfold State.memOk; decide +kernel, by decide +kernel⟩,
   ⟨by unfold State.memOk; decide +kernel, by decide +kernel⟩,
   ⟨by unfold State.memOk; decide +kernel, by decide +kernel⟩,
   ⟨by unfold State.memOk; decide +kernel, by decide +kernel⟩⟩

/-- Witness for the hypotheses of ProgramCycle: (1) snapshot; (2) eoc. -/
theorem witness_ProgramCycle :
    (waiting.memOk ∧ waiting.online = true ∧ waiting.mode = RunMode.run ∧ waiting.eng.phase = Phase.wait ∧ waiting.eng.cur = (0 : Fin 5) ∧
    waiting.moveFromInput = false ∧ max
    waiting.mono waiting.snapDue - waiting.eng.wdStart < us waiting.eng.sys.wdt.wdt.toNat) ∧
    (executing.ready = true ∧ executing.mode = RunMode.run ∧ executing.eng.cur = (0 : Fin 5) ∧ executing.moveToOutput = false ∧ executing.eng.sq = []
    ∧ executing.eng.sys.mode.factory = false ∧
    executing.eng.holdReq = false ∧ executing.since executing.eng.wdStart + 1 + us 12 < us executing.eng.sys.wdt.wdt.toNat) :=
  ⟨⟨by unfold State.memOk; decide +kernel, by decide +kernel⟩,
   by decide +kernel⟩

/-- Witness for the hypotheses of PanelReplies: (1) plwaitExpiry, panelReply, panelTimeout; (2) panelReply. -/
theorem witness_PanelReplies :
    (tallyOpen waitingPanel ∧ waitingPanel.online = true ∧ waitingPanel.eng.sys.plcfg.plen.getLsbD (3 : PortalIx).val = true ∧ waitingPanel.mode =
    RunMode.run ∧ waitingPanel.eng.phase = Phase.wait ∧
    waitingPanel.eng.sys.wdt.mincyc = (0 : BitVec 15) ∧ replyOk (3 : PortalIx) reply = true ∧ beNat (bytesAt reply 4 4) = waitingPanel.eng.outCyc % 2
    ^ 32 ∧
    waitingPanel.eng.replied.getLsbD (3 : PortalIx).val = false ∧ waitingPanel.eng.sys.plstat.plflt.getLsbD (3 : PortalIx).val = false) ∧
    (executing.online = true ∧ executing.eng.sys.plcfg.plen.getLsbD (3 : PortalIx).val = true ∧ replyOk (3 : PortalIx) reply = true ∧ executing.mode =
    RunMode.run ∧
    executing.eng.phase = Phase.execute) :=
  ⟨⟨by unfold tallyOpen; decide +kernel, by decide +kernel⟩,
   by decide +kernel⟩

/-- Witness for the hypotheses of CallOutEntryAndReturn: (1) calloutStart; (2) retc. -/
theorem witness_CallOutEntryAndReturn :
    (calloutPending.online = true ∧ calloutPending.mode = RunMode.run ∧ calloutPending.since calloutPending.eng.wdStart < us
    calloutPending.eng.sys.wdt.wdt.toNat ∧ calloutPending.eng.insns < 2000 ∧ calloutPending.eng.stalled = false ∧
    calloutPending.eng.eligible = some co1) ∧
    (inCallout.ready = true ∧ inCallout.eng.cur ≠ (0 : Fin 5)) :=
  ⟨by decide +kernel,
   by decide +kernel⟩

def stopRestartHold1 : State := (stopped 4)
/-- Witness for the hypotheses of StopRestartHold: (1) progStop, fetchOutsideCode, illegalWord; (2) calloutBudgetExpiry; (3)
automaticRestart; (4) breakpoint. -/
theorem witness_StopRestartHold :
    (atWord.online = true ∧ atWord.mode = RunMode.run ∧ atWord.eng.sq = [] ∧ atWord.ready = true ∧ (4194304 ≤ BitVec.toNat atWord.bank.pc ∨
    atWord.eng.code.length <
    BitVec.toNat atWord.bank.pc + 4) ∧ decodeFilif (4294967295 : Word) = none) ∧
    (calloutSpent.online = true ∧ calloutSpent.mode = RunMode.run ∧ calloutSpent.eng.sq = [] ∧ calloutSpent.eng.cur ≠ (0 : Fin 5) ∧ 2000 ≤
    calloutSpent.eng.insns ∧ calloutSpent.since calloutSpent.eng.wdStart < us
    calloutSpent.eng.sys.wdt.wdt.toNat) ∧
    (stopRestartHold1.memOk ∧ stopRestartHold1.online = true ∧ stopRestartHold1.mode = RunMode.stop ∧ (stopRestartHold1.eng.sys.mode.cause = (3 :
    BitVec 4) ∨ stopRestartHold1.eng.sys.mode.cause = (4 : BitVec 4)) ∧ stopRestartHold1.eng.sq = [] ∧ stopRestartHold1.eng.autoAt.length <
    stopRestartHold1.eng.sys.rst.auto.toNat ∧ stopRestartHold1.eng.data0.length ≤ dataEnd - dataBase) ∧
    (atBreakpoint.ready = true ∧ atBreakpoint.mode = RunMode.run ∧ atBreakpoint.tru.debugs = true ∧ atBreakpoint.eng.sys.brk[(7 : Fin 8).val].en =
    true ∧ BitVec.toNat atBreakpoint.bank.pc = 4 *
    atBreakpoint.eng.sys.brk[(7 : Fin 8).val].addr.toNat) :=
  ⟨by decide +kernel,
   by decide +kernel,
   ⟨by unfold State.memOk; decide +kernel, by decide +kernel⟩,
   by decide +kernel⟩

def taggedInstances1 : State := (tagged .edge ⟨0xFFFFFFF4, 0, 0, 0⟩ true)
def taggedInstances2 : State := (tagged .sr ⟨1, 0, 0, 0⟩ false)
def taggedInstances3 : State := (tagged .rs ⟨1, 0, 0, 0⟩ true)
def taggedInstances4 : State := (tagged .ctud ⟨3, 2, 0, 0⟩ true)
def taggedInstances5 : State := (tagged .ramp ⟨3, 0x80000000, 0, 0⟩ false)
def taggedInstances6 : State := (tagged .ramp ⟨3, 0x80000000, 1000000, 0⟩ false)
def taggedInstances7 : State := (tagged .ramp ⟨3, 1000, 5000, 0⟩ false)
def taggedInstances8 : State := (tagged .ramp ⟨3, 1, 5000, 0⟩ false)
def taggedInstances9 : State := (tagged .edge ⟨3, 1000, 5000, 0⟩ false)
def taggedInstances10 : State := (tagged .ramp ⟨3, 1000, 5000, 0⟩ false)
def taggedInstances11 : State := (tagged .ramp ⟨3, 1000, 5000, 0⟩ false)
/-- Witness for the hypotheses of TaggedInstances: (1) edr; (2) lev; (3) lev; (4) ccu; (5) rtgt, rrun; (6) rrun; (7) rrun; (8) rrun; (9)
ccu, rrun, trun; (10) trun; (11) edr. -/
theorem witness_TaggedInstances :
    (tagReady taggedInstances1 (5 : BitVec 14) TagType.edge) ∧
    (tagReady taggedInstances2 (5 : BitVec 14) TagType.sr) ∧
    (tagReady taggedInstances3 (5 : BitVec 14) TagType.rs) ∧
    (tagReady taggedInstances4 (5 : BitVec 14) TagType.ctud) ∧
    (tagReady taggedInstances5 (5 : BitVec 14) TagType.ramp ∧ (taggedInstances5.quad (5 : BitVec 14)).w2 = (0 : Word)) ∧
    (tagReady taggedInstances6 (5 : BitVec 14) TagType.ramp ∧ (taggedInstances6.quad (5 : BitVec 14)).w2 ≠ (0 : Word) ∧ BitVec.toInt
    (taggedInstances6.quad (5 : BitVec 14)).w1 + ↑(BitVec.toNat (taggedInstances6.quad (5 : BitVec 14)).w2 * (BitVec.ofNat 32 ((taggedInstances6.mono
    + 4) / 400) - (taggedInstances6.quad (5 : BitVec 14)).w3).toNat / 1000000) < BitVec.toInt (taggedInstances6.quad (5 : BitVec 14)).w0) ∧
    (tagReady taggedInstances7 (5 : BitVec 14) TagType.ramp ∧ (taggedInstances7.quad (5 : BitVec 14)).w2 ≠ (0 : Word) ∧ BitVec.toInt
    (taggedInstances7.quad (5 : BitVec 14)).w0 < BitVec.toInt (taggedInstances7.quad (5 : BitVec 14)).w1 - ↑(BitVec.toNat (taggedInstances7.quad (5 :
    BitVec 14)).w2 * (BitVec.ofNat 32 ((taggedInstances7.mono + 4) / 400) - (taggedInstances7.quad (5 : BitVec 14)).w3).toNat / 1000000)) ∧
    (tagReady taggedInstances8 (5 : BitVec 14) TagType.ramp ∧ (taggedInstances8.quad (5 : BitVec 14)).w2 ≠ (0 : Word) ∧ (BitVec.toInt
    (taggedInstances8.quad (5 : BitVec 14)).w0 - BitVec.toInt (taggedInstances8.quad (5 : BitVec 14)).w1).natAbs ≤ BitVec.toNat (taggedInstances8.quad
    (5 : BitVec 14)).w2 * (BitVec.ofNat 32 ((taggedInstances8.mono + 4) / 400) - (taggedInstances8.quad (5 : BitVec 14)).w3).toNat / 1000000) ∧
    (taggedInstances9.ready = true ∧ taggedInstances9.eng.sq = [] ∧ taggedInstances9.eng.moves = Vector.replicate 4 none ∧ taggedInstances9.eng.tag (5
    : BitVec 14) = some { tag := (5 : BitVec 14), type := TagType.edge, retain := false, newpre := false, init := { } } ∧ TagType.edge ≠ TagType.ctud
    ∧ TagType.edge ≠ TagType.ramp ∧ TagType.edge = TagType.edge) ∧
    (taggedInstances10.ready = true ∧ taggedInstances10.eng.sq = [] ∧ taggedInstances10.eng.moves = Vector.replicate 4 none ∧
    taggedInstances10.eng.tag (6 : BitVec 14) = none) ∧
    (taggedInstances11.ready = true ∧ taggedInstances11.eng.sq = [] ∧ taggedInstances11.eng.moves = Vector.replicate 4 none ∧
    taggedInstances11.eng.tag (5 : BitVec 14) = some { tag := (5 : BitVec 14), type := TagType.ramp, retain := false, newpre := false, init := { } } ∧
    TagType.ramp ≠ TagType.edge) :=
  ⟨⟨by decide +kernel, by unfold State.memOk; decide +kernel, ⟨_, rfl, rfl⟩, by decide +kernel, by unfold noStoreTo; decide +kernel, by unfold storesToMemory; decide +kernel⟩,
   ⟨by decide +kernel, by unfold State.memOk; decide +kernel, ⟨_, rfl, rfl⟩, by decide +kernel, by unfold noStoreTo; decide +kernel, by unfold storesToMemory; decide +kernel⟩,
   ⟨by decide +kernel, by unfold State.memOk; decide +kernel, ⟨_, rfl, rfl⟩, by decide +kernel, by unfold noStoreTo; decide +kernel, by unfold storesToMemory; decide +kernel⟩,
   ⟨by decide +kernel, by unfold State.memOk; decide +kernel, ⟨_, rfl, rfl⟩, by decide +kernel, by unfold noStoreTo; decide +kernel, by unfold storesToMemory; decide +kernel⟩,
   ⟨⟨by decide +kernel, by unfold State.memOk; decide +kernel, ⟨_, rfl, rfl⟩, by decide +kernel, by unfold noStoreTo; decide +kernel, by unfold storesToMemory; decide +kernel⟩, by decide +kernel⟩,
   ⟨⟨by decide +kernel, by unfold State.memOk; decide +kernel, ⟨_, rfl, rfl⟩, by decide +kernel, by unfold noStoreTo; decide +kernel, by unfold storesToMemory; decide +kernel⟩, by decide +kernel⟩,
   ⟨⟨by decide +kernel, by unfold State.memOk; decide +kernel, ⟨_, rfl, rfl⟩, by decide +kernel, by unfold noStoreTo; decide +kernel, by unfold storesToMemory; decide +kernel⟩, by decide +kernel⟩,
   ⟨⟨by decide +kernel, by unfold State.memOk; decide +kernel, ⟨_, rfl, rfl⟩, by decide +kernel, by unfold noStoreTo; decide +kernel, by unfold storesToMemory; decide +kernel⟩, by decide +kernel⟩,
   by decide +kernel,
   by decide +kernel,
   by decide +kernel⟩

def onDelayTimer1 : State := (tagged .ton ⟨100, 0, 0, 0⟩ true)
def onDelayTimer2 : State := (tagged .ton ⟨100, 0, 900, 0x04000000⟩ true)
def onDelayTimer3 : State := (tagged .ton ⟨100, 0, 901, 0x04000000⟩ true)
def onDelayTimer4 : State := (tagged .ton ⟨100, 20, 901, 0x07000000⟩ false)
/-- Witness for the hypotheses of OnDelayTimer: (1) trun, tpre; (2) trun; (3) trun; (4) trun. -/
theorem witness_OnDelayTimer :
    (tagReady onDelayTimer1 (5 : BitVec 14) TagType.ton ∧ onDelayTimer1.bank.b = true ∧ BitVec.getLsbD (onDelayTimer1.quad (5 : BitVec 14)).w3 25 =
    false ∧ BitVec.getLsbD (onDelayTimer1.quad (5 : BitVec 14)).w3 26 = false ∧ (onDelayTimer1.quad (5 : BitVec 14)).w0 ≠ (0 : Word)) ∧
    (tagReady onDelayTimer2 (5 : BitVec 14) TagType.ton ∧ onDelayTimer2.bank.b = true ∧ BitVec.getLsbD (onDelayTimer2.quad (5 : BitVec 14)).w3 26 =
    true ∧ (onDelayTimer2.mono + 4) / 400 < 2 ^ 56 ∧ BitVec.toNat (onDelayTimer2.quad (5 : BitVec 14)).w2 + 4294967296 * (BitVec.toNat
    (onDelayTimer2.quad (5 : BitVec 14)).w3 % 16777216) ≤ (onDelayTimer2.mono + 4) / 400 ∧ BitVec.toNat (onDelayTimer2.quad (5 : BitVec 14)).w0 ≤
    BitVec.toNat (onDelayTimer2.quad (5 : BitVec 14)).w1 + ((onDelayTimer2.mono + 4) / 400 - (BitVec.toNat (onDelayTimer2.quad (5 : BitVec 14)).w2 +
    4294967296 * (BitVec.toNat (onDelayTimer2.quad (5 : BitVec 14)).w3 % 16777216)))) ∧
    (tagReady onDelayTimer3 (5 : BitVec 14) TagType.ton ∧ onDelayTimer3.bank.b = true ∧ BitVec.getLsbD (onDelayTimer3.quad (5 : BitVec 14)).w3 25 =
    false ∧ BitVec.getLsbD (onDelayTimer3.quad (5 : BitVec 14)).w3 26 = true ∧ (onDelayTimer3.mono + 4) / 400 < 2 ^ 56 ∧ BitVec.toNat
    (onDelayTimer3.quad (5 : BitVec 14)).w2 + 4294967296 * (BitVec.toNat (onDelayTimer3.quad (5 : BitVec 14)).w3 % 16777216) ≤ (onDelayTimer3.mono +
    4) / 400 ∧ BitVec.toNat (onDelayTimer3.quad (5 : BitVec 14)).w1 + ((onDelayTimer3.mono + 4) / 400 - (BitVec.toNat (onDelayTimer3.quad (5 : BitVec
    14)).w2 + 4294967296 * (BitVec.toNat (onDelayTimer3.quad (5 : BitVec 14)).w3 % 16777216))) < BitVec.toNat (onDelayTimer3.quad (5 : BitVec 14)).w0)
    ∧
    (tagReady onDelayTimer4 (5 : BitVec 14) TagType.ton ∧ onDelayTimer4.bank.b = false) :=
  ⟨⟨⟨by decide +kernel, by unfold State.memOk; decide +kernel, ⟨_, rfl, rfl⟩, by decide +kernel, by unfold noStoreTo; decide +kernel, by unfold storesToMemory; decide +kernel⟩, by decide +kernel⟩,
   ⟨⟨by decide +kernel, by unfold State.memOk; decide +kernel, ⟨_, rfl, rfl⟩, by decide +kernel, by unfold noStoreTo; decide +kernel, by unfold storesToMemory; decide +kernel⟩, by decide +kernel⟩,
   ⟨⟨by decide +kernel, by unfold State.memOk; decide +kernel, ⟨_, rfl, rfl⟩, by decide +kernel, by unfold noStoreTo; decide +kernel, by unfold storesToMemory; decide +kernel⟩, by decide +kernel⟩,
   ⟨⟨by decide +kernel, by unfold State.memOk; decide +kernel, ⟨_, rfl, rfl⟩, by decide +kernel, by unfold noStoreTo; decide +kernel, by unfold storesToMemory; decide +kernel⟩, by decide +kernel⟩⟩

def motionWords1 : State := (withReg leavesMove 6 0)
/-- Witness for the hypotheses of MotionWords: (1) mtgt, mvlim; (2) mleaf. -/
theorem witness_MotionWords :
    (axisMoves.ready = true ∧ axisMoves.eng.sq = [] ∧ axisMoves.eng.stepping = false ∧ axisMoves.fitted (6 : AxisIx) = true ∧ 2 ≤ (6 : AxisIx).val % 4
    ∧ axisMoves.refusal (6 : AxisIx)
    StartKind.target (BitVec.toInt (axisMoves.r (5 : Reg))) = none ∧ (axisMoves.axis (6 : AxisIx)).reg.state.state = AxState.moving ∧ (axisMoves.axis
    (6 : AxisIx)).landed
    = false ∧ (axisMoves.axis (6 : AxisIx)).axtgtAt ≠ some (updateOf (6 : AxisIx) (axisMoves.mono + 8))) ∧
    (motionWords1.ready = true ∧ motionWords1.eng.sq = [] ∧ motionWords1.eng.stepping = false ∧ (motionWords1.portal (1 : PortalIx)).twoLeaf = true ∧
    motionWords1.fitted (axisOf (1 : PortalIx) (0 : Fin 4)) = true ∧ motionWords1.fitted (axisOf (1 : PortalIx) (1 : Fin 4)) = true ∧
    (motionWords1.axis (axisOf (1 : PortalIx) (0 : Fin 4))).reg.state.state = AxState.moving ∧ (motionWords1.axis (axisOf (1 : PortalIx) (0 : Fin
    4))).landed = false ∧ (motionWords1.axis (axisOf (1 : PortalIx) (1 : Fin 4))).reg.state.state = AxState.moving ∧ (motionWords1.axis (axisOf (1 :
    PortalIx) (1 : Fin 4))).landed = false ∧ motionWords1.refusal (axisOf (1 : PortalIx) (0 : Fin 4)) StartKind.target (BitVec.toInt (motionWords1.r
    (6 : Reg))) = none ∧ motionWords1.refusal (axisOf (1 : PortalIx) (1 : Fin 4)) StartKind.target (BitVec.toInt (motionWords1.r (3 : Reg))) = none ∧
    (motionWords1.axis (axisOf (1 : PortalIx) (0 : Fin 4))).axtgtAt ≠ some (updateOf (axisOf (1 : PortalIx) (0 : Fin 4)) (motionWords1.mono + 10)) ∧
    (motionWords1.axis (axisOf (1 : PortalIx) (1 : Fin 4))).axtgtAt ≠ some (updateOf (axisOf (1 : PortalIx) (1 : Fin 4)) (motionWords1.mono + 10)) ∧
    ((motionWords1.portal (1 : PortalIx)).masked = true ∨ motionWords1.edgeActive (1 : PortalIx) 6 = false ∧ motionWords1.edgeActive (1 : PortalIx) 7
    = false)) :=
  ⟨by decide +kernel,
   by decide +kernel⟩

def unitWords1 : State := (withReg leavesMove 6 0x10)
def unitWords2 : State := (withReg leavesMove 6 2)
def unitWords3 : State := (withReg leavesMove 6 8)
def unitWords4 : State := (withReg leavesMove 6 8)
def unitWords5 : State := (withReg leavesMove 6 9)
/-- Witness for the hypotheses of UnitWords: (1) mcmd, pcmd; (2) mcmd; (3) mcmd; (4) mstat, bhit; (5) withSwitch. -/
theorem witness_UnitWords :
    (unitWords1.ready = true ∧ unitWords1.eng.sq = [] ∧ unitWords1.fitted (4 : AxisIx) = true ∧ unitWords1.r (6 : Reg) = (16 : Word)) ∧
    (unitWords2.ready = true ∧ unitWords2.eng.sq = [] ∧ unitWords2.fitted (4 : AxisIx) = true ∧ (unitWords2.axis (4 : AxisIx)).reg.state.state =
    AxState.moving ∧ (unitWords2.axis (4 : AxisIx)).landed = false ∧ unitWords2.r (6 : Reg) = (2 : Word)) ∧
    (unitWords3.ready = true ∧ unitWords3.eng.sq = [] ∧ unitWords3.fitted (4 : AxisIx) = true ∧ unitWords3.r (6 : Reg) = (8 : Word)) ∧
    (unitWords4.ready = true ∧ unitWords4.eng.sq = [] ∧ unitWords4.fitted (63 : AxisIx) = true) ∧
    (unitWords5.ready = true ∧ unitWords5.eng.sq = [] ∧ unitWords5.eng.stepping = false ∧ (unitWords5.portal (chanPortal (47 : ChanIx))).reg.cfg.kind
    ≠ (0 : BitVec 3)) :=
  ⟨by decide +kernel,
   by decide +kernel,
   by decide +kernel,
   by decide +kernel,
   by decide +kernel⟩

def recordsAndMessages1 : State := (withReg fittedRun 3 0x00010400)
def recordsAndMessages2 : State := (withReg (withReg fittedRun 3 0x00010401) 6 0x01000102)
def recordsAndMessages3 : State := (mailbox (message 0x01000200 8) 63 true 0)
/-- Witness for the hypotheses of RecordsAndMessages: (1) tword, trec; (2) trec; (3) mbsend, mbrecv, mbstat; (4) mbrecv. -/
theorem witness_RecordsAndMessages :
    (tallyOpen recordsAndMessages1 ∧ recordsAndMessages1.ready = true ∧ recordsAndMessages1.eng.sq = [] ∧ (254 : BitVec 8) ≠ (255 : BitVec 8) ∧
    recordsAndMessages1.tally.fill < 458752 ∧ BitVec.toNat (recordsAndMessages1.r (3 : Reg)) % 65536 ≤ 1024 ∧ BitVec.toNat (recordsAndMessages1.r (6 :
    Reg)) % 4 = 0 ∧ inData (BitVec.toNat (recordsAndMessages1.r (6 : Reg))) (BitVec.toNat (recordsAndMessages1.r (3 : Reg)) % 65536) = true) ∧
    (recordsAndMessages2.ready = true ∧ recordsAndMessages2.eng.sq = [] ∧ (254 : BitVec 8) ≠ (255 : BitVec 8) ∧ (1024 < BitVec.toNat
    (recordsAndMessages2.r (3 : Reg)) % 65536 ∨ BitVec.toNat (recordsAndMessages2.r (6 : Reg)) % 4 ≠ 0)) ∧
    (recordsAndMessages3.memOk ∧ recordsAndMessages3.ready = true ∧ recordsAndMessages3.eng.sq = [] ∧ BitVec.toNat (recordsAndMessages3.r (6 : Reg)) %
    4 = 0 ∧ inData (BitVec.toNat (recordsAndMessages3.r (6 : Reg))) 8 = true ∧ recordsAndMessages3.net.reg.mbcfg[(63 : Fin 64).val].en = true ∧
    recordsAndMessages3.net.reg.mbcfg[(63 : Fin 64).val].dir = true ∧ MbLink.ofCode recordsAndMessages3.net.reg.mbcfg[(63 : Fin 64).val].link = some
    MbLink.udp ∧ recordsAndMessages3.net.mbox[(63 : Fin 64).val].out.length < 16 ∧ 8 ≤ BitVec.toNat (recordsAndMessages3.memWord (BitVec.toNat
    (recordsAndMessages3.r (6 : Reg)) + 4)) ∧ BitVec.toNat (recordsAndMessages3.memWord (BitVec.toNat (recordsAndMessages3.r (6 : Reg)) + 4)) ≤ 1480 ∧
    BitVec.toNat (recordsAndMessages3.memWord (BitVec.toNat (recordsAndMessages3.r (6 : Reg)))) % 4 = 0 ∧ inData (BitVec.toNat
    (recordsAndMessages3.memWord (BitVec.toNat (recordsAndMessages3.r (6 : Reg))))) (BitVec.toNat (recordsAndMessages3.memWord (BitVec.toNat
    (recordsAndMessages3.r (6 : Reg)) + 4))) = true ∧ recordsAndMessages3.net.mbox[(63 : Fin 64).val].queue = []) ∧
    (mailWaits.memOk ∧ mailWaits.ready = true ∧ mailWaits.eng.sq = [] ∧ BitVec.toNat (mailWaits.r (6 : Reg)) % 4 = 0 ∧ inData (BitVec.toNat
    (mailWaits.r (6 : Reg))) 8 = true ∧
    BitVec.toNat (mailWaits.memWord (BitVec.toNat (mailWaits.r (6 : Reg)))) % 4 = 0 ∧ inData (BitVec.toNat (mailWaits.memWord (BitVec.toNat
    (mailWaits.r (6 : Reg)))))
    (BitVec.toNat (mailWaits.memWord (BitVec.toNat (mailWaits.r (6 : Reg)) + 4))) = true ∧ mailWaits.net.mbox[(63 : Fin 64).val].queue =
    [{ word0 := (7 : Word), port := (8 : BitVec 16), data := [(1 : Byte), (2 : Byte), (3 : Byte), (4 : Byte)] }] ∧ [(1 : Byte), (2 : Byte), (3 :
    Byte), (4 : Byte)].length + 8 ≤ BitVec.toNat (mailWaits.memWord (BitVec.toNat (mailWaits.r (6 : Reg)) + 4))) :=
  ⟨⟨by unfold tallyOpen; decide +kernel, by decide +kernel⟩,
   by decide +kernel,
   ⟨by unfold State.memOk; decide +kernel, by decide +kernel⟩,
   ⟨by unfold State.memOk; decide +kernel, by decide +kernel⟩⟩

def registerAccesses1 : State := (fitted pointing)
def registerAccesses2 : State := (fitted pointing)
/-- Witness for the hypotheses of RegisterAccesses: (1) rcFieldRead, edgeQueueRead, registerWrite; (2) registerWrite; (3) loHalfRead. -/
theorem witness_RegisterAccesses :
    (registerAccesses1.memOk ∧ registerAccesses1.online = true ∧ registerAccesses1.eng.sq = [] ∧ registerAccesses1.fio.queue = [] ∧ BitVec.toNat
    (16777232 : Word) % 4 = 0 ∧ inData (BitVec.toNat (16777232 : Word)) 4 = true ∧ registerAccesses1.fitted (0 : Fin 64) = true) ∧
    (pointing.online = true ∧ pointing.eng.sq = [] ∧ mayWrite (BitVec.toNat (0 : Word)) 4 = false) ∧
    (registerAccesses2.online = true ∧ registerAccesses2.eng.sq = [] ∧ mayRead (BitVec.toNat (4026535936 : Word)) 4 = true ∧ registerAccesses2.pair64
    (placeOf (BitVec.toNat (4026535936 : Word))) = some registerAccesses2.mono) :=
  ⟨⟨by unfold State.memOk; decide +kernel, by decide +kernel⟩,
   by decide +kernel,
   by decide +kernel⟩

def emissionAndFlush1 : State := { pointing with tally := { pointing.tally with staging := [recNo 1, recNo 2, recNo 3], seq := 4, flush := some 3 } }
/-- Witness for the hypotheses of EmissionAndFlush: (1) talFlush, emissionGo, tallyFlushComplete; (2) emissionGo, talFlush. -/
theorem witness_EmissionAndFlush :
    (emissionAndFlush1.online = true ∧ emissionAndFlush1.ready = true ∧ (1024 < (getF (67174451 : Word) 16 11).toNat ∨ (67174451 : Word) &&&
    (4160814848 : Word) ≠ (0 : Word)) ∧ emissionAndFlush1.tally.flush ≠ none ∧ emissionAndFlush1.tally.flush = some 3 ∧
    emissionAndFlush1.tally.starting = false ∧ emissionAndFlush1.tally.held = [] ∧ emissionAndFlush1.tally.commSeq = none ∧
    emissionAndFlush1.tally.reg.stat.spare = false ∧ (1 : BitVec 16).toNat + (2 : BitVec 16).toNat + (1 : BitVec 16).toNat + 64 ≤
    emissionAndFlush1.tally.spares ∧ emissionAndFlush1.tally.lost = 0) ∧
    (tallyOpen pointing ∧ pointing.online = true ∧ pointing.ready = true ∧ pointing.tally.fill < 458752 ∧ (getF (67108915 : Word) 16 11).toNat ≤ 1024
    ∧ (67108915 : Word) &&&
    (4160814848 : Word) = (0 : Word) ∧ pointing.tally.flush = none) :=
  ⟨by decide +kernel,
   ⟨by unfold tallyOpen; decide +kernel, by decide +kernel⟩⟩

def axisCommandRegisters1 : State := (withAxis axisOffSde 6 fun y => { y with fb := { y.fb with cfg := { y.fb.cfg with src := 2 } }, disable := true })
def axisCommandRegisters2 : State := withAxis axisMoves 6 fun y => { y with reg := { y.reg with cfg := { y.reg.cfg with sdo := true }, refofs := 77 } }
def axisCommandRegisters3 : State := (leavesMove)
def axisCommandRegisters4 : State := withAxis idle 4 fun y => { y with reg := { y.reg with cal := { y.reg.cal with ofsok := false } } }
/-- Witness for the hypotheses of AxisCommandRegisters: (1) cmdStop, cmdHalt, cmdReref; (2) cmdReref, cmdEnable; (3) cmdReref; (4) blzrearm,
calReq; (5) calReq. -/
theorem witness_AxisCommandRegisters :
    (axisMoves.online = true ∧ axisMoves.fitted (6 : AxisIx) = true ∧ (axisMoves.axis (6 : AxisIx)).st ≠ AxState.disabled ∧ (axisMoves.axis (6 :
    AxisIx)).st = AxState.moving ∧
    (axisMoves.axis (6 : AxisIx)).landed = false ∧ ((axisMoves.axis (6 : AxisIx)).reg.cfg.sdo = false ∨ (axisMoves.axis (6 : AxisIx)).hasFb = true) ∧
    axisMoves.refusal (6 :
    AxisIx) StartKind.reref (0 : Int) = none) ∧
    (axisCommandRegisters1.online = true ∧ axisCommandRegisters1.fitted (6 : AxisIx) = true ∧ axisCommandRegisters1.refusal (6 : AxisIx)
    StartKind.reref (0 : Int) = some (8 : BitVec 4) ∧ (axisCommandRegisters1.axis (6 : AxisIx)).st = AxState.disabled ∧ (axisCommandRegisters1.modAxis
    (6 : AxisIx) fun z => { z with disable := false }).offCause (6 : AxisIx) = none ∧ (axisCommandRegisters1.axis (6 : AxisIx)).hasFb = true) ∧
    (axisCommandRegisters2.online = true ∧ axisCommandRegisters2.fitted (6 : AxisIx) = true ∧ (axisCommandRegisters2.axis (6 : AxisIx)).reg.cfg.sdo =
    true ∧ (axisCommandRegisters2.axis (6 : AxisIx)).hasFb = false ∧ (axisCommandRegisters2.axis (6 : AxisIx)).st ≠ AxState.referencing ∧
    axisCommandRegisters2.refusal (6 : AxisIx) StartKind.reref (0 : Int) = none) ∧
    (tallyOpen axisCommandRegisters3 ∧ axisCommandRegisters3.online = true ∧ axisCommandRegisters3.fitted (4 : AxisIx) = true ∧
    (axisCommandRegisters3.axis (4 : AxisIx)).reg.cal.status ≠ ReqStat.deferred ∧ (axisCommandRegisters3.axis (4 : AxisIx)).reg.cal.status ≠
    ReqStat.running ∧ (axisCommandRegisters3.axis (4 : AxisIx)).calPend = false ∧ axisCommandRegisters3.calReady (4 : AxisIx) = false) ∧
    (axisCommandRegisters4.online = true ∧ axisCommandRegisters4.fitted (4 : AxisIx) = true ∧ (axisCommandRegisters4.axis (4 : AxisIx)).reg.cal.status
    ≠ ReqStat.deferred ∧ (axisCommandRegisters4.axis (4 : AxisIx)).reg.cal.status ≠ ReqStat.running ∧ (axisCommandRegisters4.axis (4 :
    AxisIx)).calPend = false ∧ axisCommandRegisters4.calReady (4 : AxisIx) = true) :=
  ⟨by decide +kernel,
   by decide +kernel,
   by decide +kernel,
   ⟨by unfold tallyOpen; decide +kernel, by decide +kernel⟩,
   by decide +kernel⟩

def axisUpdateMoves1 : State := (withAxis axisMoves 6 fun y => { y with acc := 5, vel := -4294967296, reg := { y.reg with tgtf := 0x80000000 } })
def axisUpdateMoves2 : State := withAxis axisMoves 6 fun y => { y with landing := true, acc := 5 * 4294967296, vel := 4294967296, reg := { y.reg with tgtf := 6 } }
/-- Witness for the hypotheses of AxisUpdateMoves: (1) axisUpdate; (2) axisUpdate; (3) axisUpdate; (4) axisUpdate. -/
theorem witness_AxisUpdateMoves :
    (axisUpdateMoves1.online = true ∧ (6 : AxisIx).val % 4 ≠ 0 ∧ ((fun a => (∀ (n : Fin 32), (blazeAt (axisUpdateMoves1.axis a).blz n).en = false) ∧ ∀
    (o : Nat × Vector Word 128 × Word), (axisUpdateMoves1.axis a).blzOld = some o → updateOf a o.fst < updateOf a axisUpdateMoves1.mono) (6 : AxisIx))
    ∧ (axisUpdateMoves1.axis (6 : AxisIx)).st = AxState.moving ∧ (axisUpdateMoves1.axis (6 : AxisIx)).landed = false ∧ (axisUpdateMoves1.axis (6 :
    AxisIx)).landing = false ∧ (axisUpdateMoves1.axis (6 : AxisIx)).reg.cfg.sdo = false ∧ -posMax ≤ ((axisUpdateMoves1.axis (6 : AxisIx)).acc +
    (axisUpdateMoves1.axis (6 : AxisIx)).vel) / (4294967296 : Int) ∧ ((axisUpdateMoves1.axis (6 : AxisIx)).acc + (axisUpdateMoves1.axis (6 :
    AxisIx)).vel) / (4294967296 : Int) ≤ posMax ∧ (axisUpdateMoves1.axis (6 : AxisIx)).hasFb = false) ∧
    (crossing.online = true ∧ (6 : AxisIx).val % 4 ≠ 0 ∧ (crossing.axis (6 : AxisIx)).hasFb = true ∧ (∀ (o : Nat × Vector Word 128 × Word),
    (crossing.axis (6 :
    AxisIx)).blzOld = some o → updateOf (6 : AxisIx) o.fst < updateOf (6 : AxisIx) crossing.mono) ∧ crossing.crossings (6 : AxisIx) = [(5 : Fin 32)] ∧
    (blazeAt
    (crossing.axis (6 : AxisIx)).blz (5 : Fin 32)).action = 1 ∧ (blazeAt (crossing.axis (6 : AxisIx)).blz (5 : Fin 32)).call = false ∧ (blazeAt
    (crossing.axis (6 :
    AxisIx)).blz (5 : Fin 32)).dir ≠ (3 : BitVec 2)) ∧
    (leavesMeasured.online = true ∧ ((fun a => (∀ (n : Fin 32), (blazeAt (leavesMeasured.axis a).blz n).en = false) ∧ ∀ (o : Nat × Vector Word 128 ×
    Word), (leavesMeasured.axis
    a).blzOld = some o → updateOf a o.fst < updateOf a leavesMeasured.mono) (axisOf (1 : PortalIx) (0 : Fin 4))) ∧ (leavesMeasured.portal (1 :
    PortalIx)).arm = (0 : BitVec
    5) ∧ leavesMeasured.leavesTrusted (1 : PortalIx) = true ∧ (∀ (a : AxisIx), a ∈ leavesMeasured.leaves (1 : PortalIx) → (leavesMeasured.axis
    a).hasFb = true)) ∧
    (axisUpdateMoves2.online = true ∧ (6 : AxisIx).val % 4 ≠ 0 ∧ ((fun a => (∀ (n : Fin 32), (blazeAt (axisUpdateMoves2.axis a).blz n).en = false) ∧ ∀
    (o : Nat × Vector Word 128 × Word), (axisUpdateMoves2.axis a).blzOld = some o → updateOf a o.fst < updateOf a axisUpdateMoves2.mono) (6 : AxisIx))
    ∧ (axisUpdateMoves2.axis (6 : AxisIx)).st = AxState.moving ∧ (axisUpdateMoves2.axis (6 : AxisIx)).landed = false ∧ (axisUpdateMoves2.axis (6 :
    AxisIx)).landing = true ∧ (axisUpdateMoves2.axis (6 : AxisIx)).reg.cfg.sdo = false ∧ -posMax ≤ ((axisUpdateMoves2.axis (6 : AxisIx)).acc +
    (axisUpdateMoves2.axis (6 : AxisIx)).vel) / (4294967296 : Int) ∧ ((axisUpdateMoves2.axis (6 : AxisIx)).acc + (axisUpdateMoves2.axis (6 :
    AxisIx)).vel) / (4294967296 : Int) ≤ posMax ∧ ((axisUpdateMoves2.axis (6 : AxisIx)).reg.tgtf.toInt * (4294967296 : Int) - ((axisUpdateMoves2.axis
    (6 : AxisIx)).acc + (axisUpdateMoves2.axis (6 : AxisIx)).vel)).natAbs ≤ max 64 (axisUpdateMoves2.axis (6 : AxisIx)).vel.natAbs) :=
  ⟨by decide +kernel,
   by decide +kernel,
   by decide +kernel,
   by decide +kernel⟩

def positionSaturates1 : State := (withAxis leavesMove 4 fun y => { y with acc := 2147483647*4294967296 + 4294967295, vel := 1 })
/-- Witness for the hypotheses of PositionSaturates: (1) axisUpdate. -/
theorem witness_PositionSaturates :
    positionSaturates1.online = true ∧ (∀ (e : Fin 32), (blazeAt (positionSaturates1.axis (4 : AxisIx)).blz e).en = false) ∧ (positionSaturates1.axis
    (4 : AxisIx)).st = AxState.moving ∧ (positionSaturates1.axis (4 : AxisIx)).landed = false ∧ (positionSaturates1.axis (4 : AxisIx)).landing = false
    ∧ (positionSaturates1.axis (4 : AxisIx)).reg.cfg.sdo = false ∧ (((positionSaturates1.axis (4 : AxisIx)).acc + (positionSaturates1.axis (4 :
    AxisIx)).vel) / (4294967296 : Int) < (-2147483647 : Int) ∨ (2147483647 : Int) < ((positionSaturates1.axis (4 : AxisIx)).acc +
    (positionSaturates1.axis (4 : AxisIx)).vel) / (4294967296 : Int)) :=
  by decide +kernel

def axisPlans1 : State := withAxis axisMoves 6 fun y => { y with velx := 0, accel := 5000 }
def axisPlans2 : State := ((withAxis axisMoves 6 fun y => { y with landed := true, inposAt := some 9 }))
def axisPlans3 : State := ((withAxis axisMoves 6 fun y => { y with kind := .target }.setSt .queued))
def axisPlans4 : State := ((withAxis axisMoves 6 fun y => { y with kind := .target }.setSt .queued))
def axisPlans5 : State := {(((withAxis leavesMove 4 fun y => { y with kind := .target }.setSt .warnhold).modPortal 1 fun q => { q with lpAt := some 9 }) : State) with fel := {({} : Fel) with budget := 0 } }
def axisPlans6 : State := ((withAxis axisMoves 6 fun y => { y with refOver := some 9 }.setSt .referencing))
def axisPlans7 : State := ((withAxis axisMoves 6 fun y => { y with pos := 0x7FFFFFFF }.setSt .referencing))
def axisPlans8 : State := ((withAxis (fitted (stopped 1)) 6 fun y => moving y))
/-- Witness for the hypotheses of AxisPlans: (1) planningPeriod, fellingEvaluation; (2) standstillAtTarget; (3) fellingEvaluation; (4)
fellingEvaluation; (5) warnMet; (6) endStopFound, referenceTimeout; (7) referenceTimeout; (8) bridgesOffInStop. -/
theorem witness_AxisPlans :
    (axisPlans1.online = true ∧ (axisPlans1.axis (6 : AxisIx)).st = AxState.moving ∧ (axisPlans1.axis (6 : AxisIx)).landed = false ∧
    axisPlans1.queuedStarts = [] ∧ (axisPlans1.axis (6 : AxisIx)).velx = (0 : Int) ∧ (axisPlans1.axis (6 : AxisIx)).accel ≠ (0 : Int)) ∧
    (axisPlans2.online = true ∧ (axisPlans2.axis (6 : AxisIx)).inposAt = some 9 ∧ (axisPlans2.axis (6 : AxisIx)).landed = true ∧ (axisPlans2.axis (6 :
    AxisIx)).st = AxState.moving) ∧
    (axisPlans3.online = true ∧ axisPlans3.queuedStarts = [(6 : AxisIx)] ∧ 2 ≤ (6 : AxisIx).val % 4 ∧ (axisPlans3.axis (6 : AxisIx)).kind =
    StartKind.target ∧ axisPlans3.startsBarred = false ∧
    ({ axisPlans3 with fel := { axisPlans3.fel with meas := { imeas := (5 : BitVec 12), vbus := (1100 : BitVec 12) } } } : State).beff ≠ 0 ∧
    ({ axisPlans3 with fel := { axisPlans3.fel with meas := { imeas := (5 : BitVec 12), vbus := (1100 : BitVec 12) } } } : State).load +
    (axisPlans3.axis (6 : AxisIx)).reg.fel.ipk.toNat ≤
    ({ axisPlans3 with fel := { axisPlans3.fel with meas := { imeas := (5 : BitVec 12), vbus := (1100 : BitVec 12) } } } : State).beff) ∧
    (axisPlans4.online = true ∧ axisPlans4.queuedStarts = [(6 : AxisIx)] ∧ 2 ≤ (6 : AxisIx).val % 4 ∧
    ({ axisPlans4 with fel := { axisPlans4.fel with meas := { imeas := (4095 : BitVec 12), vbus := (1100 : BitVec 12) } } } : State).beff <
    ({ axisPlans4 with fel := { axisPlans4.fel with meas := { imeas := (4095 : BitVec 12), vbus := (1100 : BitVec 12) } } } : State).load +
    (axisPlans4.axis (6 : AxisIx)).reg.fel.ipk.toNat ∧ axisPlans4.since (axisPlans4.axis (6 : AxisIx)).arrive ≤ ms axisPlans4.fel.bound.toNat) ∧
    (axisPlans5.online = true ∧ (4 : AxisIx) ∈ axisPlans5.leaves (1 : PortalIx) ∧ (axisPlans5.axis (4 : AxisIx)).st = AxState.warnhold ∧
    (axisPlans5.portal (1 : PortalIx)).lpAt = some 9 ∧ axisPlans5.queuedStarts = [] ∧ axisPlans5.beff = 0) ∧
    (axisPlans6.online = true ∧ (axisPlans6.axis (6 : AxisIx)).st = AxState.referencing ∧ (axisPlans6.axis (6 : AxisIx)).refOver = some 9 ∧
    (axisPlans6.axis (6 : AxisIx)).foundBy (6 : AxisIx) (if (5 : Int) * ((axisPlans6.axis (6 : AxisIx)).reg.slmax.toInt - (axisPlans6.axis (6 :
    AxisIx)).reg.refofs.toInt) < (4 : Int) * ↑((axisPlans6.axis (6 : AxisIx)).refAt - (axisPlans6.axis (6 : AxisIx)).pos).natAbs then axisPlans6.mono
    else max axisPlans6.mono ((axisPlans6.axis (6 : AxisIx)).admitAt + ms (100 * (axisPlans6.axis (6 : AxisIx)).reg.refv.reftmo.toNat))) = true) ∧
    (axisPlans7.online = true ∧ (axisPlans7.axis (6 : AxisIx)).st = AxState.referencing ∧ (axisPlans7.axis (6 : AxisIx)).foundBy (6 : AxisIx) (if (5 :
    Int) * ((axisPlans7.axis (6 : AxisIx)).reg.slmax.toInt - (axisPlans7.axis (6 : AxisIx)).reg.refofs.toInt) < (4 : Int) * ↑((axisPlans7.axis (6 :
    AxisIx)).refAt - (axisPlans7.axis (6 : AxisIx)).pos).natAbs then axisPlans7.mono else max axisPlans7.mono ((axisPlans7.axis (6 : AxisIx)).admitAt
    + ms (100 * (axisPlans7.axis (6 : AxisIx)).reg.refv.reftmo.toNat))) = false ∧ (axisPlans7.axis (6 : AxisIx)).causeAt ≠ updateOf (6 : AxisIx) (if
    (5 : Int) * ((axisPlans7.axis (6 : AxisIx)).reg.slmax.toInt - (axisPlans7.axis (6 : AxisIx)).reg.refofs.toInt) < (4 : Int) * ↑((axisPlans7.axis (6
    : AxisIx)).refAt - (axisPlans7.axis (6 : AxisIx)).pos).natAbs then axisPlans7.mono else max axisPlans7.mono ((axisPlans7.axis (6 :
    AxisIx)).admitAt + ms (100 * (axisPlans7.axis (6 : AxisIx)).reg.refv.reftmo.toNat)))) ∧
    (axisPlans8.online = true ∧ axisPlans8.mode = RunMode.stop ∧ (axisPlans8.axis (6 : AxisIx)).stopOff = false ∧ (axisPlans8.axis (6 : AxisIx)).st ≠
    AxState.disabled) :=
  ⟨by decide +kernel,
   by decide +kernel,
   by decide +kernel,
   by decide +kernel,
   by decide +kernel,
   by decide +kernel,
   by decide +kernel,
   by decide +kernel⟩

def controlLoops1 : State := (withAxis axisMoves 6 fun y => (({ y with calAt := some 3, lowSide := true }).setCal .running))
def controlLoops2 : State := (withAxis crossing 6 fun y => { y with ferrOver := true, acc := 0x7FFFFFFF00000000, pos := 0 })
def controlLoops3 : State := (withAxis axisMoves 6 fun y => (({ y with calAt := some 3, lowSide := true }).setCal .running))
def controlLoops4 : State := (withAxis axisMoves 6 fun y => (({ y with calAt := some 3, lowSide := true }).setCal .running))
/-- Witness for the hypotheses of ControlLoops: (1) currentLoopStep, positionLoopStep; (2) currentLoopStep; (3) currentLoopStep; (4)
positionLoopStep; (5) overcurrentComparator, stageOvertemp; (6) calibrationComplete; (7) stageOvertemp; (8) calibrationComplete. -/
theorem witness_ControlLoops :
    (axisMoves.online = true ∧ (axisMoves.axis (6 : AxisIx)).reg.mot.kind ≠ (0 : BitVec 2) ∧ (axisMoves.axis (6 : AxisIx)).reg.mot.kind ≠ (1 : BitVec
    2) ∧ (axisMoves.axis (6 :
    AxisIx)).calibrating = false ∧ (¬((axisMoves.axis (6 : AxisIx)).st ≠ AxState.disabled ∧ (axisMoves.axis (6 : AxisIx)).hasFb = true ∧
    ↑(axisMoves.axis (6 :
    AxisIx)).reg.trustb.toNat < ↑(axisMoves.axis (6 : AxisIx)).ferr.natAbs))) ∧
    (axisMoves.online = true ∧ (axisMoves.axis (7 : AxisIx)).reg.mot.kind = (0 : BitVec 2)) ∧
    (controlLoops1.online = true ∧ (controlLoops1.axis (6 : AxisIx)).reg.mot.kind ≠ (0 : BitVec 2) ∧ (controlLoops1.axis (6 : AxisIx)).calibrating =
    true) ∧
    (controlLoops2.online = true ∧ (controlLoops2.axis (6 : AxisIx)).st ≠ AxState.disabled ∧ (controlLoops2.axis (6 : AxisIx)).hasFb = true ∧
    ↑(controlLoops2.axis (6 : AxisIx)).reg.trustb.toNat < ↑(controlLoops2.axis (6 : AxisIx)).ferr.natAbs ∧ (controlLoops2.axis (6 : AxisIx)).ferrOver
    = true) ∧
    (axisMoves.online = true ∧ (axisMoves.axis (6 : AxisIx)).st ≠ AxState.disabled ∧ 150 < BitVec.toNat (151 : BitVec 8)) ∧
    (tallyOpen controlLoops3 ∧ controlLoops3.online = true ∧ (controlLoops3.axis (6 : AxisIx)).calAt = some 3 ∧ (controlLoops3.axis (6 :
    AxisIx)).calibrating = true ∧ (¬((BitVec.toInt (500 : BitVec 16)).natAbs ≤ 500 ∧ (BitVec.toInt (500 : BitVec 16)).natAbs ≤ 500 ∧ (-501 : BitVec
    16).toInt.natAbs ≤ 500))) ∧
    (axisMoves.online = true ∧ BitVec.toNat (129 : BitVec 8) < 130) ∧
    (controlLoops4.online = true ∧ (controlLoops4.axis (6 : AxisIx)).calAt = some 3 ∧ (controlLoops4.axis (6 : AxisIx)).calibrating = true ∧
    (BitVec.toInt (500 : BitVec 16)).natAbs ≤ 500 ∧ (BitVec.toInt (500 : BitVec 16)).natAbs ≤ 500 ∧ (-500 : BitVec 16).toInt.natAbs ≤ 500) :=
  ⟨by decide +kernel,
   by decide +kernel,
   by decide +kernel,
   by decide +kernel,
   by decide +kernel,
   ⟨by unfold tallyOpen; decide +kernel, by decide +kernel⟩,
   by decide +kernel,
   by decide +kernel⟩

def feedback1 : State := (withAxis hallAxis 6 fun y => { y with fb := { y.fb with lim := { y.fb.lim with illn := 1 } } })
def feedback2 : State := (abAxis.modPortal 1 fun q => { q with pa := true, poEnd := 9000000, po := { q.po with postat := { q.po.postat with active := true } } })
def feedback3 : State := withAxis abAxis 6 fun y => { y with idxDue := false }
/-- Witness for the hypotheses of Feedback: (1) feedbackEdge, feedbackStandstill, serialRequest, serialWord; (2) feedbackEdge; (3)
serialWord; (4) feedbackEdge; (5) indexEvent, comparePulseEnd; (6) indexEvent. -/
theorem witness_Feedback :
    (serialAxis.online = true ∧ (∀ (i : Fin 3), (fun i => (((serialAxis.axis (6 : AxisIx)).fb.sq.abz) ^^^ (2 : BitVec 3)).getLsbD ↑i = true) i →
    (Vector.replicate 3 10)[↑i] + 1 < max (serialAxis.axis (6 : AxisIx)).fb.cfg.filt.toNat 1) ∧ (serialAxis.axis (6 : AxisIx)).stepEdge = false ∧
    (serialAxis.axis (6
    : AxisIx)).fb.cfg.src = (3 : BitVec 2) ∧ (serialAxis.axis (6 : AxisIx)).serialBad (BitVec.toNat (5 : BitVec 40)) (BitVec.toNat (0 : BitVec 16))
    false
    false true (BitVec.toNat (0 : BitVec 16)) (BitVec.toNat (0 : BitVec 16)) = (false, false, false, false) ∧ (serialAxis.axis (6 : AxisIx)).serGood =
    true
    ∧ (serialAxis.axis (6 : AxisIx)).wakeTest = false ∧ serialCount (serialAxis.axis (6 : AxisIx)).fb.sofs (BitVec.ofInt 64 ((serialAxis.axis (6 :
    AxisIx)).unwrap +
    signOf (serialAxis.axis (6 : AxisIx)).fb.ser.len.toNat ((serialAxis.axis (6 : AxisIx)).serialData (BitVec.toNat (5 : BitVec 40)) + 2 ^ (serialAxis.axis (6 :
    AxisIx)).fb.ser.len.toNat - (serialAxis.axis (6 : AxisIx)).sraw))).toInt ≤ posMax ∧ -posMax ≤ serialCount (serialAxis.axis (6 : AxisIx)).fb.sofs
    (BitVec.ofInt 64 ((serialAxis.axis (6 : AxisIx)).unwrap + signOf (serialAxis.axis (6 : AxisIx)).fb.ser.len.toNat ((serialAxis.axis (6 : AxisIx)).serialData
    (BitVec.toNat (5 : BitVec 40)) + 2 ^ (serialAxis.axis (6 : AxisIx)).fb.ser.len.toNat - (serialAxis.axis (6 : AxisIx)).sraw))).toInt) ∧
    (feedback1.online = true ∧ (((6 : BitVec 3) ≠ (feedback1.axis (6 : AxisIx)).fb.sq.hallc) ∧ (∀ (i : Fin 3), (fun i => (((feedback1.axis (6 :
    AxisIx)).fb.sq.hallc) ^^^ (6 : BitVec 3)).getLsbD ↑i = true) i → (Vector.replicate 3 999)[↑i] = 999) ∧ max (feedback1.axis (6 :
    AxisIx)).fb.cfg.filt.toNat 1 ≤ 999 + 1) ∧ ((feedback1.axis (6 : AxisIx)).fb.cfg.hall = true) ∧ illegalChange true ((feedback1.axis (6 :
    AxisIx)).fb.sq.hallc) (6 : BitVec 3) = true ∧ (feedback1.axis (6 : AxisIx)).fb.lim.illn.toNat ≤ 1) ∧
    (serialAxis.online = true ∧ (serialAxis.axis (6 : AxisIx)).fb.cfg.src = (3 : BitVec 2) ∧ (false = false ∨ (serialAxis.axis (6 :
    AxisIx)).fb.cfg.sermode = (2 :
    BitVec 2) ∧ 1200 + 10 * (serialAxis.axis (6 : AxisIx)).fb.ser.clkdiv.toNat < BitVec.toNat (0 : BitVec 16))) ∧
    (hallAxis.online = true ∧ (((3 : BitVec 3) ≠ (hallAxis.axis (6 : AxisIx)).fb.sq.hallc) ∧ (∀ (i : Fin 3), (fun i => (((hallAxis.axis (6 :
    AxisIx)).fb.sq.hallc) ^^^ (3 : BitVec 3)).getLsbD ↑i = true) i → (Vector.replicate 3 999)[↑i] = 999) ∧ max (hallAxis.axis (6 :
    AxisIx)).fb.cfg.filt.toNat 1 ≤ 999 + 1) ∧ (hallAxis.axis (6 : AxisIx)).fb.cfg.src = (1 : BitVec 2) ∧ ((hallAxis.axis (6 : AxisIx)).fb.cfg.hall =
    true)
    ∧ illegalChange true ((hallAxis.axis (6 : AxisIx)).fb.sq.hallc) (3 : BitVec 3) = false ∧ stepUp (hallAxis.axis (6 : AxisIx)).fb.hallseq true
    ((hallAxis.axis (6 : AxisIx)).fb.sq.hallc) (3 : BitVec 3) = some true ∧ -posMax ≤ (if (true != (hallAxis.axis (6 : AxisIx)).fb.cfg.inv) = true
    then
    (hallAxis.axis (6 : AxisIx)).pos + ↑(hallAxis.axis (6 : AxisIx)).fb.hcnt.toNat else (hallAxis.axis (6 : AxisIx)).pos - ↑(hallAxis.axis (6 :
    AxisIx)).fb.hcnt.toNat) ∧ (if (true != (hallAxis.axis (6 : AxisIx)).fb.cfg.inv) = true then (hallAxis.axis (6 : AxisIx)).pos + ↑(hallAxis.axis (6
    :
    AxisIx)).fb.hcnt.toNat else (hallAxis.axis (6 : AxisIx)).pos - ↑(hallAxis.axis (6 : AxisIx)).fb.hcnt.toNat) ≤ posMax) ∧
    (feedback2.online = true ∧ (feedback2.axis (6 : AxisIx)).fb.cfg.idxen = true ∧ (feedback2.axis (6 : AxisIx)).fb.cfg.src = (2 : BitVec 2) ∧
    (feedback2.axis (6 : AxisIx)).idxDue = true ∧ (feedback2.axis (6 : AxisIx)).idxIll = false ∧ (feedback2.axis (6 : AxisIx)).reg.state.trust ≠
    Trust.untrusted ∧ (feedback2.axis (6 : AxisIx)).st ≠ AxState.referencing ∧ (feedback2.axis (6 : AxisIx)).learnPend = false ∧ (indexDev
    (feedback2.axis (6 : AxisIx)).idxCnt (feedback2.axis (6 : AxisIx)).fb.idxpos.toInt (feedback2.axis (6 : AxisIx)).fb.idxpitch.toNat).natAbs ≤
    (feedback2.axis (6 : AxisIx)).fb.lim.tol.toNat ∧ -posMax ≤ (feedback2.axis (6 : AxisIx)).pos - indexDev (feedback2.axis (6 : AxisIx)).idxCnt
    (feedback2.axis (6 : AxisIx)).fb.idxpos.toInt (feedback2.axis (6 : AxisIx)).fb.idxpitch.toNat ∧ (feedback2.axis (6 : AxisIx)).pos - indexDev
    (feedback2.axis (6 : AxisIx)).idxCnt (feedback2.axis (6 : AxisIx)).fb.idxpos.toInt (feedback2.axis (6 : AxisIx)).fb.idxpitch.toNat ≤ posMax ∧
    (feedback2.portal (1 : PortalIx)).po.postat.active = true) ∧
    (feedback3.online = true ∧ (feedback3.axis (6 : AxisIx)).idxDue = false) :=
  ⟨by decide +kernel,
   by decide +kernel,
   by decide +kernel,
   by decide +kernel,
   by decide +kernel,
   by decide +kernel⟩

def doorBounds1 : State := (withAxis (withAxis doorBusy 6 moving) 6 fun y => { y with fOverAt := some 9 })
def doorBounds2 : State := (withAxis doorBusy 4 fun y => { y with fOverAt := some 9 })
/-- Witness for the hypotheses of DoorBounds: (1) moveinhHoldoffEnd, moveTimeout, unlockTimeout, lockTimeout, edgeObstacle, giveupClear,
obstacleDetectionTime; (2) obstacleDetectionTime. -/
theorem witness_DoorBounds :
    (doorBounds1.online = true ∧ (doorBounds1.portal (1 : PortalIx)).eehOff = some 9 ∧ (List.filterMap id (doorBounds1.portal (1 :
    PortalIx)).mtoAt.toList).min? = some 9 ∧ (doorBounds1.portal (1 : PortalIx)).utoAt = some 9 ∧ (doorBounds1.portal (1 : PortalIx)).dcl ≠ (0 :
    BitVec 2) ∧ (doorBounds1.portal (1 : PortalIx)).ltoAt = some 9 ∧ (doorBounds1.portal (1 : PortalIx)).dcl ≠ (3 : BitVec 2) ∧ doorBounds1.edgeActive
    (1 : PortalIx) 6 = true ∧ (doorBounds1.portal (1 : PortalIx)).masked = false ∧ (doorBounds1.portal (1 : PortalIx)).mov = some Dir.closing ∧ ∃ a, a
    ∈ doorBounds1.leaves (1 : PortalIx) ∧ (doorBounds1.axis a).underPlan = true ∧ (doorBounds1.portal (1 : PortalIx)).counted = false ∧
    (doorBounds1.axis (6 : AxisIx)).fOverAt = some 9 ∧ portalOf (6 : AxisIx) = (1 : PortalIx) ∧ ↑(slotOf (6 : AxisIx)) = 2 ∧ (doorBounds1.axis (6 :
    AxisIx)).st ≠ AxState.disabled) ∧
    (doorBounds2.online = true ∧ (doorBounds2.axis (4 : AxisIx)).fOverAt = some 9 ∧ (4 : AxisIx) = axisOf (1 : PortalIx) (0 : Fin 4) ∧
    (doorBounds2.portal (1 : PortalIx)).masked = false) :=
  ⟨by decide +kernel,
   by decide +kernel⟩

def kerfAndHeads1 : State := (withKerf idle fun k => { k with reg := { k.reg with stat := { k.reg.stat with lrn := .deferred } } })
def kerfAndHeads2 : State := (headLinkUp true)
def kerfAndHeads3 : State := (headLinkUp false)
/-- Witness for the hypotheses of KerfAndHeads: (1) krfOpen, krfSnap, krfLearn, kerfLearnStart; (2) krfLearn; (3) kerfLearnStart; (4)
depthSegment, headStatusFrame, rateCommandRepeat; (5) rateCommandRepeat, headStatusFrame. -/
theorem witness_KerfAndHeads :
    (idle.online = true ∧ (idle.portal (1 : PortalIx)).fitted = true ∧ idle.kerfLive (1 : PortalIx) = true ∧ (idle.krf (1 : PortalIx)).reg.stat.win =
    KWin.closed ∧ (idle.krf (1 : PortalIx)).reg.stat.rate = false ∧ (idle.krf (1 : PortalIx)).reg.stat.lrn ≠ ReqStat.deferred ∧ (idle.krf (1 :
    PortalIx)).reg.stat.lrn ≠ ReqStat.running ∧ idle.idleWindow = true) ∧
    (tallyOpen leavesMove ∧ leavesMove.online = true ∧ (leavesMove.portal (1 : PortalIx)).fitted = true ∧ (leavesMove.krf (1 : PortalIx)).reg.stat.lrn
    ≠ ReqStat.deferred ∧
    (leavesMove.krf (1 : PortalIx)).reg.stat.lrn ≠ ReqStat.running ∧ leavesMove.idleWindow = false) ∧
    (kerfAndHeads1.online = true ∧ (kerfAndHeads1.portal (1 : PortalIx)).fitted = true ∧ kerfAndHeads1.idleWindow = true ∧ (kerfAndHeads1.krf (1 :
    PortalIx)).reg.stat.lrn = ReqStat.deferred) ∧
    (kerfAndHeads2.online = true ∧ (kerfAndHeads2.krf (1 : PortalIx)).status = true ∧ bytesAt [] 0 2 ≠ [(72 : Byte), (1 : Byte)] ∧ (kerfAndHeads2.krf
    (1 : PortalIx)).headKnown = true ∧ (kerfAndHeads2.krf (1 : PortalIx)).headId ≠ (4661 : BitVec 64) ∧ kerfAndHeads2.net.reg.lnk.hl.getLsbD (1 :
    PortalIx).val = true ∧ (kerfAndHeads2.krf (1 : PortalIx)).segRate ≠ (kerfAndHeads2.krf (1 : PortalIx)).reg.stat.rate ∧ (kerfAndHeads2.krf (1 :
    PortalIx)).rateAt < (kerfAndHeads2.krf (1 : PortalIx)).segAt) ∧
    (kerfAndHeads3.online = true ∧ (kerfAndHeads3.krf (1 : PortalIx)).status = true ∧ kerfAndHeads3.net.reg.lnk.hl.getLsbD (1 : PortalIx).val = true ∧
    (kerfAndHeads3.krf (1 : PortalIx)).segRate = (kerfAndHeads3.krf (1 : PortalIx)).reg.stat.rate ∧ (kerfAndHeads3.krf (1 : PortalIx)).headKnown =
    true ∧ (kerfAndHeads3.krf (1 : PortalIx)).headId = (4660 : BitVec 64)) :=
  ⟨by decide +kernel,
   ⟨by unfold tallyOpen; decide +kernel, by decide +kernel⟩,
   by decide +kernel,
   by decide +kernel,
   by decide +kernel⟩

def verdicts1 : State := (withWindow (withKerf leavesMove fun k => { k with wait := [judgedAt 9 .blind, judgedAt 50 .clear], received := true }) .closing)
def verdicts2 : State := ((withWindow (withKerf leavesMove fun k => { k with wait := [judgedAt 9 .occupied] }) .closing).modPortal 1 fun q => { q with mov := some .closing })
def verdicts3 : State := (withWindow leavesMove .watch)
def verdicts4 : State := (withKerf leavesMove fun k => { k with ovrLine := true, cfgNow := { k.reg.cfg with ovren := true }, reg := { k.reg with cfg := { k.reg.cfg with ovren := true } } })
def verdicts5 : State := (withKerf leavesMove fun k => { k with reg := { k.reg with stat := { k.reg.stat with ovrstuck := true } } })
/-- Witness for the hypotheses of Verdicts: (1) verdictIssue, verdictLate; (2) dmaComplete; (3) verdictIssue; (4) silentExpiry; (5)
ovrmaxExpiry; (6) ovrstuckClear. -/
theorem witness_Verdicts :
    (verdicts1.online = true ∧ (verdicts1.krf (1 : PortalIx)).wait = [judgedAt 9 Verdict.blind, judgedAt 50 Verdict.clear] ∧ verdicts1.since (judgedAt
    9
    Verdict.blind).frame.fend ≤ ms 12 ∧ (verdicts1.krf (1 : PortalIx)).reg.stat.win ≠ KWin.closed ∧ (verdicts1.krf (1 : PortalIx)).openAt ≤ (judgedAt
    9
    Verdict.blind).frame.fend ∧ (judgedAt 9 Verdict.blind).judged = true ∧ (judgedAt 9 Verdict.blind).verd = Verdict.blind ∧ (verdicts1.krf (1 :
    PortalIx)).episode = false ∧ (true = false ∨ FabFault.timeout ≠ FabFault.none) ∧ FabFault.timeout ≠ FabFault.none) ∧
    (dmaQueued.online = true ∧ (dmaQueued.krf (1 : PortalIx)).dma = [((6 : BitVec 8), frameOf (5 : Word) false)] ∧ (frameOf (5 : Word) false).live =
    false ∧ (dmaQueued.krf (1 :
    PortalIx)).received = true ∧ (frameOf (5 : Word) false).fcnt = (dmaQueued.krf (1 : PortalIx)).reg.fcnt + (1 : Word) ∧ (dmaQueued.krf (1 :
    PortalIx)).reg.fcnt ≠
    (4294967295 : BitVec 32) ∧ (dmaQueued.krf (1 : PortalIx)).reg.stat.lrn = ReqStat.idle) ∧
    (verdicts2.online = true ∧ (verdicts2.krf (1 : PortalIx)).wait = [judgedAt 9 Verdict.occupied] ∧ verdicts2.since (judgedAt 9
    Verdict.occupied).frame.fend ≤ ms
    12 ∧ (verdicts2.krf (1 : PortalIx)).reg.stat.win ≠ KWin.closed ∧ (verdicts2.krf (1 : PortalIx)).openAt ≤ (judgedAt 9 Verdict.occupied).frame.fend
    ∧ (judgedAt
    9 Verdict.occupied).verd = Verdict.occupied ∧ (verdicts2.krf (1 : PortalIx)).reg.stat.win = KWin.closing ∧ (verdicts2.portal (1 : PortalIx)).mov =
    some Dir.closing ∧ (verdicts2.portal (1 : PortalIx)).cl = false) ∧
    (verdicts3.online = true ∧ (verdicts3.krf (1 : PortalIx)).reg.stat.win = KWin.watch ∧ (verdicts3.krf (1 : PortalIx)).silAt = none) ∧
    (verdicts4.online = true ∧ (verdicts4.krf (1 : PortalIx)).ovrLine = true ∧ (verdicts4.krf (1 : PortalIx)).cfgNow.ovren = true ∧ (verdicts4.krf (1
    : PortalIx)).reg.stat.ovrstuck = false) ∧
    (verdicts5.online = true ∧ (verdicts5.krf (1 : PortalIx)).ovrLine = false ∧ (verdicts5.krf (1 : PortalIx)).reg.stat.ovrstuck = true) :=
  ⟨by decide +kernel,
   by decide +kernel,
   by decide +kernel,
   by decide +kernel,
   by decide +kernel,
   by decide +kernel⟩

def thermalProtection1 : State := (withSwitch switchOn fun c => { c with reg := { c.reg with stat := { c.reg.stat with retries := 3 } } })
def thermalProtection2 : State := (latched switchOn (some 9))
def thermalProtection3 : State := (latched switchOn (some 90000000))
def thermalProtection4 : State := (withSwitch switchOn fun c => { c with retryAt := some 9000000, reg := { c.reg with stat := { c.reg.stat with out := false } } })
/-- Witness for the hypotheses of ThermalProtection: (1) lsThermalShutdown, lsRetryCounterReset; (2) lsLatchClear; (3) openLoadDetect; (4)
lsThermalShutdown; (5) lsLatchClear; (6) lsRetry; (7) openLoadDetect. -/
theorem witness_ThermalProtection :
    (tallyOpen thermalProtection1 ∧ thermalProtection1.online = true ∧ (170 : Int) ≤ BitVec.toInt (170 : BitVec 16) ∧ (thermalProtection1.chan (3 :
    ChanIx)).reg.stat.tlatch = false ∧ (thermalProtection1.chan (3 : ChanIx)).reg.stat.out = true ∧ thermalProtection1.lsEff (3 : ChanIx) = true ∧
    (thermalProtection1.chan (3 : ChanIx)).reg.cfg.retryn.toNat ≤ (thermalProtection1.chan (3 : ChanIx)).reg.stat.retries.toNat) ∧
    (thermalProtection2.online = true ∧ BitVec.toInt (150 : BitVec 16) ≤ (150 : Int) ∧ (thermalProtection2.chan (3 : ChanIx)).reg.stat.tlatch = true ∧
    (thermalProtection2.chan (3 : ChanIx)).retryAt = some 9 ∧ 9 ≤ thermalProtection2.mono) ∧
    (switchOn.online = true ∧ (switchOn.chan (3 : ChanIx)).reg.stat.out = true ∧ BitVec.toNat (5 : BitVec 16) < (switchOn.chan (3 :
    ChanIx)).reg.cfg.olth.toNat ∧
    (switchOn.chan (3 : ChanIx)).reg.cfg.olen = true ∧ BitVec.toNat (5 : BitVec 16) < (switchOn.chan (3 : ChanIx)).reg.cfg.ilim.toNat * 100 ∧
    (switchOn.chan (3 :
    ChanIx)).reg.stat.openld = false) ∧
    (switchOn.online = true ∧ (170 : Int) ≤ BitVec.toInt (170 : BitVec 16) ∧ (switchOn.chan (3 : ChanIx)).reg.stat.tlatch = false ∧ switchOn.lsEff (3
    : ChanIx) =
    true ∧ (switchOn.chan (3 : ChanIx)).reg.stat.retries.toNat < (switchOn.chan (3 : ChanIx)).reg.cfg.retryn.toNat) ∧
    (thermalProtection3.online = true ∧ BitVec.toInt (150 : BitVec 16) ≤ (150 : Int) ∧ (thermalProtection3.chan (3 : ChanIx)).reg.stat.tlatch = true ∧
    (thermalProtection3.chan (3 : ChanIx)).retryAt = some 90000000 ∧ thermalProtection3.mono < 90000000) ∧
    (thermalProtection4.online = true ∧ (thermalProtection4.chan (3 : ChanIx)).retryAt = some 9000000 ∧ (thermalProtection4.chan (3 :
    ChanIx)).reg.stat.tlatch = false) ∧
    (switchOn.online = true ∧ (switchOn.chan (3 : ChanIx)).reg.stat.out = true ∧ (switchOn.chan (3 : ChanIx)).reg.cfg.ilim.toNat * 100 ≤ BitVec.toNat
    (4000 : BitVec
    16)) :=
  ⟨⟨by unfold tallyOpen; decide +kernel, by decide +kernel⟩,
   by decide +kernel,
   by decide +kernel,
   by decide +kernel,
   by decide +kernel,
   by decide +kernel,
   by decide +kernel⟩

def loadTestsAndBus1 : State := (withSwitch idle fun c => { c with clamping := true, reg := { c.reg with stat := { c.reg.stat with olt := .deferred } } })
def loadTestsAndBus2 : State := (withSwitch idle fun c => { c with clamping := true, acc := 2000000000, reg := { c.reg with stat := { c.reg.stat with olt := .running } } })
def loadTestsAndBus3 : State := { switchOn with lsg := { switchOn.lsg with hold := true } }
/-- Witness for the hypotheses of LoadTestsAndBus: (1) lsbOltest, chokerLeak, oltestStart, clampMeasurementComplete; (2) oltestComplete,
clampMeasurementComplete; (3) lsbOltest; (4) albUndervoltage, albReversed, albReturnLoss; (5) albOvervoltage; (6) supplyHoldoffEnd. -/
theorem witness_LoadTestsAndBus :
    (loadTestsAndBus1.online = true ∧ (loadTestsAndBus1.portal (chanPortal (3 : ChanIx))).fitted = true ∧ (loadTestsAndBus1.chan (3 :
    ChanIx)).reg.stat.olt ≠ OltStat.running ∧ loadTestsAndBus1.oltReady (3 : ChanIx) = true ∧ (loadTestsAndBus1.chan (3 : ChanIx)).reg.stat.olt =
    OltStat.deferred ∧ (loadTestsAndBus1.chan (3 : ChanIx)).clamping = true ∧ 5 ≤ 800000 ∧ (loadTestsAndBus1.chan (3 : ChanIx)).acc + 5 <
    (loadTestsAndBus1.chan (3 : ChanIx)).reg.chkcfg.budget.toNat * 1000) ∧
    (tallyOpen loadTestsAndBus2 ∧ loadTestsAndBus2.online = true ∧ (loadTestsAndBus2.portal (chanPortal (3 : ChanIx))).fitted = true ∧
    (loadTestsAndBus2.chan (3 : ChanIx)).reg.stat.olt = OltStat.running ∧ (loadTestsAndBus2.chan (3 : ChanIx)).clamping = true ∧ 800000 ≤ 800000 ∧
    (loadTestsAndBus2.chan (3 : ChanIx)).reg.chkcfg.budget.toNat * 1000 ≤ (loadTestsAndBus2.chan (3 : ChanIx)).acc + 800000) ∧
    (tallyOpen switchOn ∧ switchOn.online = true ∧ (switchOn.portal (chanPortal (3 : ChanIx))).fitted = true ∧ (switchOn.chan (3 :
    ChanIx)).reg.stat.olt ≠ OltStat.running
    ∧ (switchOn.chan (3 : ChanIx)).reg.stat.olt ≠ OltStat.deferred ∧ switchOn.oltReady (3 : ChanIx) = false) ∧
    (tallyOpen switchOn ∧ switchOn.online = true ∧ BitVec.toNat (79 : BitVec 12) < 80 ∧ switchOn.lsg.reg.alb.uv = false ∧ switchOn.lsg.reg.alb.rev =
    false ∧
    switchOn.lsg.reg.alb.gndl = false) ∧
    (tallyOpen switchOn ∧ switchOn.online = true ∧ 1540 < BitVec.toNat (1541 : BitVec 12) ∧ switchOn.lsg.reg.alb.ovw = false) ∧
    (loadTestsAndBus3.online = true ∧ loadTestsAndBus3.lsg.hold = true ∧ (loadTestsAndBus3.lsg.reg.alb.uv = false ∨ 90 ≤ BitVec.toNat (90 : BitVec
    12))) :=
  ⟨by decide +kernel,
   ⟨by unfold tallyOpen; decide +kernel, by decide +kernel⟩,
   ⟨by unfold tallyOpen; decide +kernel, by decide +kernel⟩,
   ⟨by unfold tallyOpen; decide +kernel, by decide +kernel⟩,
   ⟨by unfold tallyOpen; decide +kernel, by decide +kernel⟩,
   by decide +kernel⟩

def fieldIo1 : State := {(withInput (withInput leavesMove 144 { cnt := true }) 5 { qen := true, edge := 2 }) with fio := {(withInput leavesMove 144 { cnt := true }).fio with copFail := Vector.replicate 148 1, reg := {(withInput leavesMove 144 { cnt := true }).fio.reg with wpcnt := Vector.replicate 4 0xFFFFFFFF } } }
def fieldIo2 : State := (withInput (withInput leavesMove 144 { cnt := true }) 5 { qen := true, edge := 1 })
def fieldIo3 : State := { leavesMove with fio := { leavesMove.fio with copFlt := 0xFF, copPass := Vector.replicate 148 1 } }
def fieldIo4 : State := (withInput leavesMove 130 { qen := true, edge := 3, call := true })
def fieldIo5 : State := (stopped 1)
def fieldIo6 : State := fio_ leavesMove fun x => { x with pins := 0xFFFF, reg := { x.reg with focmd := { cmd := 0xFFFF, rb := 0 }, fosupv := { x.reg.fosupv with v0 := 240 } } }
def fieldIo7 : State := { leavesMove with fio := { leavesMove.fio with reg := { leavesMove.fio.reg with focmd := { cmd := 0xFFFF, rb := 0 }, fost2 := { leavesMove.fio.reg.fost2 with tsd := 0x20 } } } }
/-- Witness for the hypotheses of FieldIo: (1) couplerCheck, wheelPulseCount, fieldInputEdge; (2) fieldInputEdge, wheelPulseCount; (3)
fieldInputEdge; (4) couplerCheck; (5) fieldInputEdge; (6) outputRefresh, refreshTimeout, readbackDisagree; (7) readbackDisagree; (8)
readbackDisagree, foThermalRestart. -/
theorem witness_FieldIo :
    (tallyOpen fieldIo1 ∧ fieldIo1.online = true ∧ fieldIo1.inputFitted (5 : Fin 148) = true ∧ fieldIo1.fio.lvl.getLsbD (5 : Fin 148).val = false ∧
    fieldIo1.fio.copFlt.getLsbD (5 : Fin 148).val = false ∧ true = true ∧ (vget fieldIo1.fio.reg.icfg (144 + (0 : Fin 4).val) { }).cnt = true ∧
    fieldIo1.fio.copFlt.getLsbD (144 + (0 : Fin 4).val) = false ∧ (0 < us (10 * fieldIo1.fio.reg.icfg[(5 : Fin 148).val].filt.toNat) ∨
    fieldIo1.inputFitted (5 : Fin 148) = false) ∧ fieldIo1.fio.reg.wpcnt[(0 : Fin 4).val] = (4294967295 : BitVec 32) ∧ fieldIo1.fio.copFail[(5 : Fin
    148).val] = 1) ∧
    (fieldIo2.online = true ∧ ((if fieldIo2.fio.reg.icfg[(5 : Fin 148).val].cls = (0 : BitVec 2) then (150 : Int) else if fieldIo2.fio.reg.icfg[(5 :
    Fin 148).val].cls = (1 : BitVec 2) then (110 : Int) else if fieldIo2.fio.reg.icfg[(5 : Fin 148).val].cls = (2 : BitVec 2) then (430 : Int) else
    (660 : Int)) ≤ BitVec.toInt (200 : BitVec 12)) ∧ fieldIo2.fio.lvl.getLsbD (5 : Fin 148).val ≠ true ∧ fieldIo2.fio.copFlt.getLsbD (5 : Fin 148).val
    = false ∧ fieldIo2.inputFitted (5 : Fin 148) = true ∧ us (10 * fieldIo2.fio.reg.icfg[(5 : Fin 148).val].filt.toNat) ≤ 900000 ∧ fieldIo2.gapOf (5 :
    Fin 148) (fieldIo2.mono - 900000) = none ∧ (∀ (u : Nat), fieldIo2.fio.icfgAt[(5 : Fin 148).val] = some u → u < fieldIo2.mono - 900000) ∧ ((5 : Fin
    148).val < 128 ∨ 144 ≤ (5 : Fin 148).val) ∧ fieldIo2.fio.reg.icfg[(5 : Fin 148).val].call = false ∧ (fieldIo2.fio.reg.icfg[(5 : Fin
    148).val].edge.getLsbD 0) = true ∧ fieldIo2.fio.reg.icfg[(5 : Fin 148).val].cnt = false ∧ fieldIo2.fio.reg.icfg[(5 : Fin 148).val].qen = true ∧
    fieldIo2.fio.queue.length < 1024 ∧ (vget fieldIo2.fio.reg.icfg (144 + (0 : Fin 4).val) { }).cnt = true ∧ fieldIo2.fio.copFlt.getLsbD (144 + (0 :
    Fin 4).val) = false ∧ fieldIo2.fio.reg.wpcnt[(0 : Fin 4).val] ≠ (4294967295 : BitVec 32)) ∧
    (leavesMove.online = true ∧ ((if leavesMove.fio.reg.icfg[(5 : Fin 148).val].cls = (0 : BitVec 2) then (150 : Int) else if
    leavesMove.fio.reg.icfg[(5 : Fin
    148).val].cls = (1 : BitVec 2) then (110 : Int) else if leavesMove.fio.reg.icfg[(5 : Fin 148).val].cls = (2 : BitVec 2) then (430 : Int) else (660 :
    Int)) ≤ BitVec.toInt (200 : BitVec 12)) ∧ leavesMove.fio.lvl.getLsbD (5 : Fin 148).val ≠ true ∧ leavesMove.fio.copFlt.getLsbD (5 : Fin 148).val =
    false ∧
    leavesMove.inputFitted (5 : Fin 148) = true ∧ us (10 * leavesMove.fio.reg.icfg[(5 : Fin 148).val].filt.toNat) ≤ 900000 ∧ leavesMove.gapOf (5 : Fin
    148) (leavesMove.mono -
    900000) = none ∧ (∀ (u : Nat), leavesMove.fio.icfgAt[(5 : Fin 148).val] = some u → u < leavesMove.mono - 900000) ∧ ((5 : Fin 148).val < 128 ∨ 144
    ≤ (5 : Fin
    148).val) ∧ leavesMove.fio.reg.icfg[(5 : Fin 148).val].call = false ∧ ((leavesMove.fio.reg.icfg[(5 : Fin 148).val].edge.getLsbD 0) = false ∨
    leavesMove.fio.reg.icfg[(5
    : Fin 148).val].qen = false)) ∧
    (fieldIo3.online = true ∧ fieldIo3.inputFitted (5 : Fin 148) = true ∧ fieldIo3.fio.lvl.getLsbD (5 : Fin 148).val = false ∧
    fieldIo3.fio.copFlt.getLsbD (5 : Fin 148).val = true ∧ fieldIo3.fio.copPass[(5 : Fin 148).val] = 1) ∧
    (fieldIo4.online = true ∧ ((if fieldIo4.fio.reg.icfg[(130 : Fin 148).val].cls = (0 : BitVec 2) then (150 : Int) else if fieldIo4.fio.reg.icfg[(130
    : Fin 148).val].cls = (1 : BitVec 2) then (110 : Int) else if fieldIo4.fio.reg.icfg[(130 : Fin 148).val].cls = (2 : BitVec 2) then (430 : Int)
    else (660 : Int)) ≤ BitVec.toInt (700 : BitVec 12)) ∧ fieldIo4.fio.lvl.getLsbD (130 : Fin 148).val ≠ true ∧ fieldIo4.fio.copFlt.getLsbD (130 : Fin
    148).val = false ∧ fieldIo4.inputFitted (130 : Fin 148) = true ∧ us (10 * fieldIo4.fio.reg.icfg[(130 : Fin 148).val].filt.toNat) ≤ 900000 ∧
    fieldIo4.gapOf (130 : Fin 148) (fieldIo4.mono - 900000) = none ∧ (∀ (u : Nat), fieldIo4.fio.icfgAt[(130 : Fin 148).val] = some u → u <
    fieldIo4.mono - 900000) ∧ fieldIo4.fio.reg.icfg[(130 : Fin 148).val].call = true ∧ fieldIo4.fio.reg.icfg[(130 : Fin 148).val].cnt = false ∧
    (fieldIo4.fio.reg.icfg[(130 : Fin 148).val].edge.getLsbD 0) = true ∧ fieldIo4.eng.decl (BitVec.ofNat 16 (2048 + (130 : Fin 148).val)) = none) ∧
    (tallyOpen fieldIo5 ∧ fieldIo5.guarded = true ∧ fieldIo5.online = true ∧ fieldIo5.fio.reg.focmd.cmd.getLsbD (5 : Fin 16).val = false ∧ (fun m u =>
    (if ↑m < 8 then fieldIo5.fio.reg.fosupv.v0 else fieldIo5.fio.reg.fosupv.v1).toNat ≤ 2 * u.toNat) (5 : Fin 16) (180 : BitVec 12) ∧
    fieldIo5.fio.reg.fost.offhi.getLsbD (5 : Fin 16).val = false ∧ fieldIo5.fio.off = false ∧ fieldIo5.mode = RunMode.stop ∧
    fieldIo5.safe.active.egren = false) ∧
    (tallyOpen fieldIo6 ∧ fieldIo6.guarded = true ∧ fieldIo6.fio.reg.focmd.cmd.getLsbD (5 : Fin 16).val = true ∧ (¬(fun m u => (if ↑m < 8 then
    fieldIo6.fio.reg.fosupv.v0 else fieldIo6.fio.reg.fosupv.v1).toNat ≤ 2 * u.toNat) (5 : Fin 16) (79 : BitVec 12)) ∧
    fieldIo6.fio.reg.fost.onlo.getLsbD (5 : Fin 16).val = false ∧ fieldIo6.fio.reg.fost2.tsd.getLsbD (5 : Fin 16).val = false ∧ (true = true ∧
    fieldIo6.fio.pins.getLsbD (5 : Fin 16).val = true ∨ fieldIo6.fio.reg.fost2.tsd.getLsbD (5 : Fin 16).val = true)) ∧
    (fieldIo7.guarded = true ∧ (decide ((fun m u => (if ↑m < 8 then fieldIo7.fio.reg.fosupv.v0 else fieldIo7.fio.reg.fosupv.v1).toNat ≤ 2 * u.toNat)
    (5 : Fin 16) (179 : BitVec 12)) != fieldIo7.fio.reg.focmd.cmd.getLsbD (5 : Fin 16).val) = false ∧ fieldIo7.fio.reg.fost2.tsd.getLsbD (5 : Fin
    16).val = true) :=
  ⟨⟨by unfold tallyOpen; decide +kernel, by decide +kernel⟩,
   by decide +kernel,
   by decide +kernel,
   by decide +kernel,
   by decide +kernel,
   ⟨by unfold tallyOpen; decide +kernel, by decide +kernel⟩,
   ⟨by unfold tallyOpen; decide +kernel, by decide +kernel⟩,
   by decide +kernel⟩

def safetyGrid1 : State := (withSafety sidesClosed fun f => { f with a := { f.a with portals := f.a.portals.map fun q => { q with dcl := { q.dcl with diff := 50 } } } })
def safetyGrid2 : State := withSafety (loopsDriven sidesClosed) fun f => { f with pulse := some (1, true), pulseAt := f.pulseAt.set 1 (some 70) }
def safetyGrid3 : State := { sidesClosed with mono := 700000, fio := { sidesClosed.fio with gapAt := Vector.replicate 2 (some 790000) } }
def safetyGrid4 : State := withSafety safetyGrid2 fun f => { f with pulse := some (1, false) }
def safetyGrid5 : State := (loopsDriven safetyNormal)
def safetyGrid6 : State := withSafety safetyNormal fun f => { f with hFit := leavesMove.portalMap.1, hSide := leavesMove.portalMap.2 }
/-- Witness for the hypotheses of SafetyGrid: (1) gridInstant; (2) gridInstant; (3) gridInstant; (4) gridInstant; (5) gridInstant; (6)
testGap, wheelPulse, eventAck, switchTestPulse; (7) testGap. -/
theorem witness_SafetyGrid :
    (safetyGrid1.guarded = true ∧ safetyGrid1.safe.runs SafeCh.a = true ∧ safetyGrid1.safe.mode = SMode.normal ∧ SafeCh.a = SafeCh.a ∧
    safetyGrid1.readsPortal SafeCh.a (5 : PortalIx) = true ∧
    ({ safetyGrid1 with mono := max safetyGrid1.mono ((safetyGrid1.safe.ch SafeCh.a).gridAt + ms 1) } : State).inGap = false ∧ (safetyGrid1.safe.ch
    SafeCh.a).portals[(5 : PortalIx).val].tpf = (0 : BitVec 6) ∧ (safetyGrid1.safe.ch SafeCh.a).portals[(5 : PortalIx).val].held = (0 : BitVec 6) ∧
    (safetyGrid1.safe.ch SafeCh.a).portals[(5 : PortalIx).val].dcl.flt = false ∧ (pairBits (sixOf (BitVec.ofNat 96 26409387504754779197847983445) (5 :
    PortalIx).val) 0 = (1 : BitVec 2) ∨ pairBits (sixOf (BitVec.ofNat 96 26409387504754779197847983445) (5 : PortalIx).val) 0 = (2 : BitVec 2)) ∧
    (safetyGrid1.safe.ch SafeCh.a).portals[(5 : PortalIx).val].dcl.diff = safetyGrid1.safe.active.disc.toNat) ∧
    (sidesClosed.guarded = true ∧ sidesClosed.safe.runs SafeCh.h = true ∧ (¬sidesClosed.readsPortal SafeCh.h (5 : PortalIx) = true) ∧
    sidesClosed.safe.mode = SMode.normal ∧
    SafeCh.h = SafeCh.h ∧ ({ sidesClosed with mono := max sidesClosed.mono ((sidesClosed.safe.ch SafeCh.h).gridAt + ms 1) } : State).inGap = false ∧
    pairBits (sixOf (0 :
    BitVec 96) (5 : PortalIx).val) 0 = (0 : BitVec 2)) ∧
    (safetyGrid2.guarded = true ∧ safetyGrid2.safe.runs SafeCh.a = true ∧ safetyGrid2.readsPortal SafeCh.a (5 : PortalIx) = true ∧
    ({ safetyGrid2 with mono := max safetyGrid2.mono ((safetyGrid2.safe.ch SafeCh.a).gridAt + ms 1) } : State).inGap = false ∧ (safetyGrid2.safe.ch
    SafeCh.a).portals[(5 : PortalIx).val].tpf = (0 : BitVec 6) ∧ (safetyGrid2.safe.ch SafeCh.a).portals[(5 : PortalIx).val].held = (0 : BitVec 6) ∧
    (safetyGrid2.safe.ch SafeCh.a).portals[(5 : PortalIx).val].dcl.flt = false ∧ pairBits (sixOf ones96 (5 : PortalIx).val) 0 = (3 : BitVec 2) ∧
    safetyGrid2.safe.pulse = some ((1 : Fin 4), true) ∧ safetyGrid2.safe.stuck = (0 : BitVec 4) ∧ safetyGrid2.safe.badRb = Vector.replicate 4 0 ∧
    safetyGrid2.safe.pulsed (max safetyGrid2.mono ((safetyGrid2.safe.ch SafeCh.a).gridAt + ms 1)) (1 : Fin 4).val = false) ∧
    (safetyGrid3.guarded = true ∧ safetyGrid3.safe.runs SafeCh.a = true ∧ safetyGrid3.readsPortal SafeCh.a (5 : PortalIx) = true ∧
    ({ safetyGrid3 with mono := max safetyGrid3.mono ((safetyGrid3.safe.ch SafeCh.a).gridAt + ms 1) } : State).inGap = true ∧ (safetyGrid3.safe.ch
    SafeCh.a).portals[(5 : PortalIx).val].tpf = (0 : BitVec 6) ∧ (safetyGrid3.safe.ch SafeCh.a).portals[(5 : PortalIx).val].held = (0 : BitVec 6)) ∧
    (safetyGrid4.guarded = true ∧ safetyGrid4.safe.runs SafeCh.h = true ∧ safetyGrid4.safe.pulse = some ((1 : Fin 4), false) ∧
    safetyGrid4.safe.drive.getLsbD (1 : Fin 4).val = true ∧ safetyGrid4.safe.pulsed (max safetyGrid4.mono ((safetyGrid4.safe.ch SafeCh.h).gridAt + ms
    1)) (1 : Fin 4).val = false) ∧
    (safetyGrid5.guarded = true ∧ safetyGrid5.safe.aRuns = true ∧ safetyGrid5.safe.hRuns = true ∧ (2 : Fin 6).val % 2 = (0 : Fin 2).val ∧
    safetyGrid5.readsPortal SafeCh.a (3 : PortalIx) = true ∧ (sixOf ones96 (3 : PortalIx).val).getLsbD (2 : Fin 6).val = true ∧ safetyGrid5.online =
    true ∧ safetyGrid5.safe.runs (if (3 : Fin 4).val % 2 = 0 then SafeCh.a else SafeCh.h) = true ∧ safetyGrid5.safe.loop 1 = true ∧
    safetyGrid5.safe.pulse = none) ∧
    (safetyGrid6.guarded = true ∧ safetyGrid6.safe.aRuns = true ∧ safetyGrid6.safe.hRuns = true ∧ (2 : Fin 6).val % 2 = (0 : Fin 2).val ∧
    safetyGrid6.readsPortal SafeCh.h (3 : PortalIx) = true ∧ (sixOf ones96 (3 : PortalIx).val).getLsbD (2 : Fin 6).val = true) :=
  ⟨by decide +kernel,
   by decide +kernel,
   by decide +kernel,
   by decide +kernel,
   by decide +kernel,
   by decide +kernel,
   by decide +kernel⟩

def safetyModeChanges1 : State := (withSafety (loopsDriven safetyNormal) fun f => { f with linkBad := 2, a := { f.a with clkDev := 1 } })
def safetyModeChanges2 : State := withSafety (safetyMode .resync (loopsDriven safetyNormal)) fun f => { f with a := { f.a with portals := f.a.portals }, clIn := 0xFFFF, unbroken := 0xFF, winAt := some 5, rb := f.drive, hFit := leavesMove.portalMap.1, hSide := leavesMove.portalMap.2 }
def safetyModeChanges3 : State := withSafety (safetyMode .start safetyNormal) fun f => { f with hFit := leavesMove.portalMap.1, hSide := leavesMove.portalMap.2 }
def safetyModeChanges4 : State := (safetyMode .arbitrating safetyNormal)
def safetyModeChanges5 : State := withSafety (safetyMode .resync safetyNormal) fun f => { f with aReset := true, a := { f.a with tested := false } }
def safetyModeChanges6 : State := (withSafety (safetyMode .degA safetyNormal) fun f => { f with winAt := some 9 })
def safetyModeChanges7 : State := (withSafety (safetyMode .start safetyNormal) fun f => { f with a := { f.a with tested := false } })
/-- Witness for the hypotheses of SafetyModeChanges: (1) heartbeatAbsent, channelAResetLine, hingeLinkExchange, clockCrosscheck; (2)
clockCrosscheck, hingeLinkExchange; (3) hingeLinkExchange; (4) arbitrationTestComplete; (5) arsyncExpiry, startUpSelfTestComplete; (6)
degradedWindowExpiry; (7) startUpSelfTestComplete. -/
theorem witness_SafetyModeChanges :
    (safetyModeChanges1.guarded = true ∧ safetyModeChanges1.safe.mode = SMode.normal ∧ safetyModeChanges1.safe.aRuns = true ∧
    safetyModeChanges1.safe.hRuns = true ∧ safetyModeChanges1.safe.aReset = false ∧ safetyModeChanges1.safe.linkUp = true ∧
    safetyModeChanges1.safe.linkBad = 2 ∧ 200 < (BitVec.toInt (201 : BitVec 16)).natAbs ∧ safetyModeChanges1.safe.a.clkDev = 1) ∧
    (safetyModeChanges2.guarded = true ∧ (BitVec.toInt (100 : BitVec 16)).natAbs ≤ 200 ∧ safetyModeChanges2.safe.h.clkDev < 2 ∧
    safetyModeChanges2.safe.mode = SMode.resync ∧ safetyModeChanges2.safe.aRuns = true ∧ safetyModeChanges2.safe.hRuns = true ∧
    safetyModeChanges2.safe.a.tested = true ∧ safetyModeChanges2.differing = Vector.replicate 111 false ∧ safetyModeChanges2.safe.expired = false) ∧
    (safetyModeChanges3.guarded = true ∧ safetyModeChanges3.safe.mode = SMode.start ∧ safetyModeChanges3.safe.aRuns = true ∧
    safetyModeChanges3.safe.hRuns = true ∧ safetyModeChanges3.safe.a.tested = true ∧ safetyModeChanges3.safe.h.tested = true ∧
    safetyModeChanges3.safe.locked.isSome = true ∧ safetyModeChanges3.safe.swTests = true ∧ 49 ≤ safetyModeChanges3.safe.a.frames ∧ 49 ≤
    safetyModeChanges3.safe.h.frames ∧ safetyModeChanges3.startCals = false ∧ safetyModeChanges3.differing = Vector.replicate 111 false) ∧
    (safetyModeChanges4.guarded = true ∧ safetyModeChanges4.safe.mode = SMode.arbitrating ∧ safetyModeChanges4.safe.hRuns = true ∧
    safetyModeChanges4.safe.aRuns = true) ∧
    (safetyModeChanges5.guarded = true ∧ safetyModeChanges5.safe.mode = SMode.resync ∧ safetyModeChanges5.safe.aReset = true) ∧
    (safetyModeChanges6.guarded = true ∧ safetyModeChanges6.safe.winAt = some 9 ∧ safetyModeChanges6.safe.mode.degraded = true ∧
    safetyModeChanges6.safe.expired = false) ∧
    (safetyModeChanges7.guarded = true ∧ safetyModeChanges7.safe.mode = SMode.start ∧ safetyModeChanges7.safe.aReset = false ∧
    (safetyModeChanges7.safe.ch SafeCh.a).tested = false ∧ (safetyModeChanges7.safe.ch SafeCh.a).failed = false) :=
  ⟨by decide +kernel,
   by decide +kernel,
   by decide +kernel,
   by decide +kernel,
   by decide +kernel,
   by decide +kernel,
   by decide +kernel⟩

def supplies1 : State := {(withPwr (withSupply (withFel leavesMove fun f => { f with hstat := { f.hstat with on := 0x21 } }) fun w => { w with shed := 0x12 }) fun r => { r with ctl := { r.ctl with lowmot := true } }) with lsg := { leavesMove.lsg with reg := { leavesMove.lsg.reg with alb := { leavesMove.lsg.reg.alb with ovw := true } } } }
def supplies2 : State := (withFel leavesMove fun f => { f with hcfg := { f.hcfg with maxn := 0 }, hstat := { f.hstat with on := 0x20 } })
def supplies3 : State := (withFel leavesMove fun f => { f with hstat := { f.hstat with wait := 0x20 } })
def supplies4 : State := (withSupply (withFel leavesMove fun f => { f with hstat := { f.hstat with on := 0x20 } }) fun w => { w with tripAt := Vector.replicate 16 (some 3) })
def supplies5 : State := (withSupply (withFel leavesMove fun f => { f with hflt := { f.hflt with lock := 0x30 } }) fun w => { w with retryAt := Vector.replicate 16 (some 3) })
def supplies6 : State := (withSupply (withFel leavesMove fun f => { f with hflt := { f.hflt with lock := 0x30 } }) fun w => { w with retryAt := Vector.replicate 16 (some 3) })
/-- Witness for the hypotheses of Supplies: (1) mbusFault, supplyFaultEnd, headShed, lowmotClear; (2) ctlLow, mbusFault; (3) ctlOvervoltage,
mbusFault; (4) headReset, headAdmission, headTrip; (5) headAdmission; (6) headTrip; (7) headRetry; (8) headReset. -/
theorem witness_Supplies :
    (tallyOpen supplies1 ∧ supplies1.online = true ∧ BitVec.toNat (168 : BitVec 12) ≤ 1375 ∧ BitVec.toNat (168 : BitVec 12) ≤ 1540 ∧ 168 ≤
    BitVec.toNat (168 : BitVec 12) ∧ supplies1.pwr.reg.ctl.lowmot = true ∧ 150 ≤ BitVec.toNat (168 : BitVec 12) ∧ supplies1.lsg.reg.alb.ovw = true) ∧
    (leavesMove.online = true ∧ BitVec.toNat (139 : BitVec 12) < 140 ∧ leavesMove.pwr.reg.ctl.lowmot = false ∧ BitVec.toNat (139 : BitVec 12) < 168) ∧
    (leavesMove.online = true ∧ 1375 < BitVec.toNat (1541 : BitVec 12) ∧ 1540 < BitVec.toNat (1541 : BitVec 12)) ∧
    (supplies2.online = true ∧
    ({ supplies2 with mono := max supplies2.mono (supplies2.pwr.admAt + ms 10), fel := { supplies2.fel with hpwr := { supplies2.fel.hpwr with pcore := (9 : BitVec 12) } } }
    : State).headFits = false ∧ supplies2.fel.hstat.on.getLsbD (5 : PortalIx).val = true ∧ supplies2.pwr.tripAt[(5 : PortalIx).val] = none) ∧
    (supplies3.online = true ∧ supplies3.fel.hstat.wait = BitVec.ofNat 16 1 <<< (5 : PortalIx).val ∧
    ({ supplies3 with mono := max supplies3.mono (supplies3.pwr.admAt + ms 10), fel := { supplies3.fel with hpwr := { supplies3.fel.hpwr with pcore := (9 : BitVec 12) } } }
    : State).headFits = true) ∧
    (supplies4.online = true ∧ supplies4.fel.hstat.on.getLsbD (5 : PortalIx).val = true ∧ supplies4.pwr.tripAt[(5 : PortalIx).val] = some 3 ∧
    supplies4.since 3 ≤ sec 60) ∧
    (supplies5.online = true ∧ supplies5.pwr.retryAt[(6 : PortalIx).val] = some 3 ∧ (supplies5.portal (6 : PortalIx)).reg.cfg.kerffit = true ∧
    supplies5.fel.hflt.lock.getLsbD (6 : PortalIx).val = false ∧ supplies5.fel.hstat.on.getLsbD (6 : PortalIx).val = false) ∧
    (supplies6.online = true ∧ BitVec.getLsbD (32 : BitVec 16) (5 : PortalIx).val = true ∧ supplies6.fel.hflt.lock.getLsbD (5 : PortalIx).val = true ∧
    (supplies6.portal (5 : PortalIx)).reg.cfg.kerffit = true) :=
  ⟨⟨by unfold tallyOpen; decide +kernel, by decide +kernel⟩,
   by decide +kernel,
   by decide +kernel,
   by decide +kernel,
   by decide +kernel,
   by decide +kernel,
   by decide +kernel,
   by decide +kernel⟩

def holdUpAndPowerFail1 : State := (withPwr leavesMove fun r => { r with hu := { r.hu with noHalf := true } })
def holdUpAndPowerFail2 : State := (withSupply (withPwr leavesMove fun r => { r with hu := { r.hu with faila := true } }) fun w => { w with intrAt := some 9 })
def holdUpAndPowerFail3 : State := (withSupply { leavesMove with mono := 9 } fun w => { w with intrAt := some 9 })
def holdUpAndPowerFail4 : State := withPwr (withSupply leavesMove fun w => { w with startTest := false }) fun r => { r with hu := { r.hu with chg := true, faila := true } }
/-- Witness for the hypotheses of HoldUpAndPowerFail: (1) ctlInterruption, holdupTest, halfFailure; (2) ctlInterruption, noHalfFlush; (3)
powerFailStart, halfFailure; (4) interruptionEnd; (5) holdupTest. -/
theorem witness_HoldUpAndPowerFail :
    (leavesMove.eng.sq = [] ∧ leavesMove.boot.down = false ∧ BitVec.toNat (54 : BitVec 12) < 55 ∧ leavesMove.pwr.intrAt = none ∧
    leavesMove.pwr.reg.hu.noHalf = false ∧ leavesMove.online
    = true ∧ 72 ≤ BitVec.toNat (72 : BitVec 8) ∧ leavesMove.pwr.reg.hu.faila = false ∧ leavesMove.pwr.reg.hu.failb = false) ∧
    (holdUpAndPowerFail1.eng.sq = [] ∧ holdUpAndPowerFail1.boot.down = false ∧ BitVec.toNat (54 : BitVec 12) < 55 ∧ holdUpAndPowerFail1.pwr.intrAt =
    none ∧ holdUpAndPowerFail1.pwr.reg.hu.noHalf = true ∧ holdUpAndPowerFail1.online = true ∧ holdUpAndPowerFail1.tally.flush = none) ∧
    (holdUpAndPowerFail2.eng.sq = [] ∧ holdUpAndPowerFail2.boot.down = false ∧ holdUpAndPowerFail2.pwr.intrAt = some 9 ∧ holdUpAndPowerFail2.online =
    true ∧ holdUpAndPowerFail2.pwr.reg.hu.faila = true ∧ holdUpAndPowerFail2.pwr.reg.hu.failb = false) ∧
    (holdUpAndPowerFail3.eng.sq = [] ∧ holdUpAndPowerFail3.boot.down = false ∧ holdUpAndPowerFail3.pwr.intrAt = some 9 ∧ 60 ≤ BitVec.toNat (60 :
    BitVec 12) ∧ max holdUpAndPowerFail3.mono (9 + 4000000) - 9 ≤ ms 10) ∧
    (holdUpAndPowerFail4.eng.sq = [] ∧ holdUpAndPowerFail4.boot.down = false ∧ holdUpAndPowerFail4.online = true ∧ holdUpAndPowerFail4.pwr.intrAt =
    none ∧ 72 ≤ BitVec.toNat (72 : BitVec 8) ∧ 72 ≤ BitVec.toNat (90 : BitVec 8)) :=
  ⟨by decide +kernel,
   by decide +kernel,
   by decide +kernel,
   by decide +kernel,
   by decide +kernel⟩

def sleepAndWake1 : State := (withPwr idle fun r => { r with slpst := { r.slpst with state := .deferred }, slpcfg := { r.slpcfg with autoslp := true } })
def sleepAndWake2 : State := { idle with boot := { idle.boot with down := true, asleep := true } }
/-- Witness for the hypotheses of SleepAndWake: (1) sleepRequest, sleepCancel, sleepEntry, autoSleep; (2) wake, retentionLoss; (3)
sleepRequest. -/
theorem witness_SleepAndWake :
    (sleepAndWake1.eng.sq = [] ∧ sleepAndWake1.online = true ∧ sleepAndWake1.sleepReady = true ∧ sleepAndWake1.pwr.reg.slpst.state = SlpState.deferred
    ∧ sleepAndWake1.pwr.reg.slpcfg.autoslp = true ∧ (0 : BitVec 4) &&& sleepAndWake1.pwr.reg.slpcfg.wakeen = (0 : BitVec 4)) ∧
    (sleepAndWake2.eng.sq = [] ∧ sleepAndWake2.boot.asleep = true ∧ (1 : BitVec 4) &&& sleepAndWake2.pwr.reg.slpcfg.wakeen ≠ (0 : BitVec 4) ∧
    sleepAndWake2.boot.down = true) ∧
    (leavesMove.eng.sq = [] ∧ leavesMove.online = true ∧ leavesMove.sleepReady = false) :=
  ⟨by decide +kernel,
   by decide +kernel,
   by decide +kernel⟩

def resetAndStart1 : State := {(loopsDriven safetyNormal) with boot := { safetyNormal.boot with held := some .wake }, eng := { safetyNormal.eng with sys := { safetyNormal.eng.sys with id := { safetyNormal.eng.sys.id with variant := 1 } } } }
def resetAndStart2 : State := { resetAndStart1 with boot := { resetAndStart1.boot with heating := true } }
def resetAndStart3 : State := State.reset
def resetAndStart4 : State := (safetyMode .degA {(stoppedWatchdog) with boot := { safetyNormal.boot with starting := true } })
def resetAndStart5 : State := withSafety (safetyMode .start {(stoppedWatchdog) with boot := { safetyNormal.boot with starting := true } }) fun f => { f with locked := some {} }
/-- Witness for the hypotheses of ResetAndStart: (1) resetRelease, preheatComplete; (2) supervisorWatchdog; (3) resetRelease; (4)
startupRunEntry; (5) startupRunEntry. -/
theorem witness_ResetAndStart :
    (resetAndStart2.releases = some StartSrc.wake ∧ (if resetAndStart2.boot.chilled = true then (-38 : Int) else (-40 : Int)) ≤
    ({ bootIn with tcs := (-39 : BitVec 8) }).tcs.toInt ∧ resetAndStart2.tru.restart.chooseBank = none ∧ (resetAndStart2.eng.sys.id.variant == (1 :
    BitVec 4)) = true ∧ resetAndStart2.boot.heating = true ∧ (-38 : Int) ≤ (-38 : BitVec 8).toInt) ∧
    (safetyNormal.boot.held = none ∧ safetyNormal.boot.down = false ∧ safetyNormal.safe.mode = SMode.normal) ∧
    (resetAndStart3.releases = some StartSrc.power ∧ ({ bootIn with tcs := (-41 : BitVec 8) }).tcs.toInt < if resetAndStart3.boot.chilled = true then
    (-38 : Int) else (-40 : Int)) ∧
    (resetAndStart4.online = true ∧ resetAndStart4.boot.starting = true ∧ resetAndStart4.mode = RunMode.stop ∧ (resetAndStart4.safe.mode ≠ SMode.start
    ∨ resetAndStart4.safe.locked = none ∧ resetAndStart4.safe.a.tested = true ∧ resetAndStart4.safe.h.tested = true) ∧ resetAndStart4.startCals =
    false ∧ (resetAndStart4.boot.reg.last.src ≠ (0 : BitVec 3) ∨ true = true)) ∧
    (resetAndStart5.online = true ∧ resetAndStart5.boot.starting = true ∧ resetAndStart5.mode = RunMode.stop ∧ resetAndStart5.safe.mode = SMode.start
    ∧ resetAndStart5.safe.locked.isSome = true) :=
  ⟨by decide +kernel,
   by decide +kernel,
   by decide +kernel,
   by decide +kernel,
   by decide +kernel⟩

def telegrams1 : State := (connected ptpTime)
def telegrams2 : State := (withJournal (connected ptpTime) fun j => { j with closed := true })
/-- Witness for the hypotheses of Telegrams: (1) telegramReceive; (2) telegramReceive; (3) telegramReceive; (4) telegramReceive; (5)
telegramReceive; (6) telegramReceive; (7) telegramReceive; (8) telegramReceive. -/
theorem witness_Telegrams :
    (ptpTime.online = true ∧ [(67 : Byte)].headD (0 : Byte) ≠ (66 : Byte)) ∧
    (ptpTime.online = true ∧ [(66 : Byte)].headD (0 : Byte) = (66 : Byte) ∧ formatOk false [(66 : Byte)] = false) ∧
    (ptpTime.online = true ∧ ((telegram 9 (1 : Byte)).set 30 (77 : Byte)).headD (0 : Byte) = (66 : Byte) ∧ formatOk false ((telegram 9 (1 : Byte)).set
    30 (77 :
    Byte)) = true ∧ (¬(beNat (bytesAt (List.drop 4 ((telegram 9 (1 : Byte)).set 30 (77 : Byte))) 28 4) = codeA (BitVec.ofNat 32 (beNat (bytesAt
    (List.drop
    4 ((telegram 9 (1 : Byte)).set 30 (77 : Byte))) 0 4))) (List.take 28 (List.drop 4 ((telegram 9 (1 : Byte)).set 30 (77 : Byte)))) ∧ beNat (bytesAt
    (List.drop
    4 ((telegram 9 (1 : Byte)).set 30 (77 : Byte))) 32 4) = codeH (BitVec.ofNat 32 (beNat (bytesAt (List.drop 4 ((telegram 9 (1 : Byte)).set 30 (77 : Byte))) 0
    4))) (List.take 28 (List.drop 4 ((telegram 9 (1 : Byte)).set 30 (77 : Byte))))))) ∧
    (leavesMove.online = true ∧ (telegram 9 (1 : Byte)).headD (0 : Byte) = (66 : Byte) ∧ formatOk false (telegram 9 (1 : Byte)) = true ∧ beNat
    (bytesAt (tel 9 1) 28 4)
    = codeA (BitVec.ofNat 32 (beNat (bytesAt (tel 9 1) 0 4))) (List.take 28 (tel 9 1)) ∧ beNat (bytesAt (tel 9 1) 32 4) = codeH (BitVec.ofNat 32
    (beNat (bytesAt (tel 9 1) 0 4))) (List.take 28 (tel 9 1)) ∧ (¬leavesMove.timeOk (beNat (bytesAt (tel 9 1) 8 4)) = true)) ∧
    (ptpTime.online = true ∧ (telegram 9 (0 : Byte)).headD (0 : Byte) = (66 : Byte) ∧ formatOk true (telegram 9 (0 : Byte)) = true ∧ beNat (bytesAt
    (tel 9 0) 28 4)
    = codeA (BitVec.ofNat 32 (beNat (bytesAt (tel 9 0) 0 4))) (List.take 28 (tel 9 0)) ∧ beNat (bytesAt (tel 9 0) 32 4) = codeH (BitVec.ofNat 32
    (beNat (bytesAt (tel 9 0) 0 4))) (List.take 28 (tel 9 0)) ∧ ptpTime.timeOk (beNat (bytesAt (tel 9 0) 8 4)) = true ∧ reservedKind ((bytesAt (tel 9
    0)
    16 1).headD (0 : Byte)) = true) ∧
    (telegrams1.online = true ∧ (telegram 9 (1 : Byte)).headD (0 : Byte) = (66 : Byte) ∧ formatOk true (telegram 9 (1 : Byte)) = true ∧ (beNat
    (bytesAt (tel 9
    1) 28 4) = codeA (BitVec.ofNat 32 (beNat (bytesAt (tel 9 1) 0 4))) (List.take 28 (tel 9 1)) ∧ beNat (bytesAt (tel 9 1) 32 4) = codeH (BitVec.ofNat
    32 (beNat (bytesAt (tel 9 1) 0 4))) (List.take 28 (tel 9 1))) ∧ telegrams1.timeOk (beNat (bytesAt (tel 9 1) 8 4)) = true ∧ reservedKind ((bytesAt
    (tel 9 1) 16 1).headD (0 : Byte)) = false ∧ telegrams1.jnl.lastSeq (BitVec.ofNat 32 (beNat (bytesAt (tel 9 1) 0 4))) = some (8 : Word) ∧
    BitVec.ofNat 32 (beNat (bytesAt (tel 9 1) 4 4)) = (8 : Word) + (1 : Word) ∧ telegrams1.jnl.closed = false ∧ telegrams1.closing = false ∧
    telegrams1.jnl.entries.length + telegrams1.jnl.writes.length < 1024) ∧
    (telegrams2.online = true ∧ (telegram 9 (1 : Byte)).headD (0 : Byte) = (66 : Byte) ∧ formatOk true (telegram 9 (1 : Byte)) = true ∧ (beNat
    (bytesAt (tel 9
    1) 28 4) = codeA (BitVec.ofNat 32 (beNat (bytesAt (tel 9 1) 0 4))) (List.take 28 (tel 9 1)) ∧ beNat (bytesAt (tel 9 1) 32 4) = codeH (BitVec.ofNat
    32 (beNat (bytesAt (tel 9 1) 0 4))) (List.take 28 (tel 9 1))) ∧ telegrams2.timeOk (beNat (bytesAt (tel 9 1) 8 4)) = true ∧ reservedKind ((bytesAt
    (tel 9 1) 16 1).headD (0 : Byte)) = false ∧ (telegrams2.jnl.closed = true ∨ telegrams2.closing = true)) ∧
    (telegrams1.online = true ∧ (telegram 8 (1 : Byte)).headD (0 : Byte) = (66 : Byte) ∧ formatOk true (telegram 8 (1 : Byte)) = true ∧ (beNat
    (bytesAt (tel 8
    1) 28 4) = codeA (BitVec.ofNat 32 (beNat (bytesAt (tel 8 1) 0 4))) (List.take 28 (tel 8 1)) ∧ beNat (bytesAt (tel 8 1) 32 4) = codeH (BitVec.ofNat
    32 (beNat (bytesAt (tel 8 1) 0 4))) (List.take 28 (tel 8 1))) ∧ telegrams1.timeOk (beNat (bytesAt (tel 8 1) 8 4)) = true ∧ reservedKind ((bytesAt
    (tel 8 1) 16 1).headD (0 : Byte)) = false ∧ telegrams1.jnl.closed = false ∧ telegrams1.closing = false ∧ telegrams1.jnl.writes = [] ∧
    telegrams1.jnl.conns = [{ id := (5 : Word), last := (8 : Word), jseq := [((8 : Word), 3)], at_ := 0 }] ∧ (5 : Word) = BitVec.ofNat 32 (beNat
    (bytesAt (tel 8 1) 0 4)) ∧ (8 : Word) = BitVec.ofNat 32 (beNat (bytesAt (tel 8 1) 4 4)) ∧ [((8 : Word), 3)] = [(BitVec.ofNat 32 (beNat (bytesAt
    (tel 8 1) 4 4)), 3)]) :=
  ⟨by decide +kernel,
   by decide +kernel,
   by decide +kernel,
   by decide +kernel,
   by decide +kernel,
   by decide +kernel,
   by decide +kernel,
   by decide +kernel⟩

def journalEntries1 : State := (withJournal (connected ptpTime) fun j => { j with entries := [entryIn .delivered] })
def journalEntries2 : State := (withJournal (connected ptpTime) fun j => { j with writes := [⟨journalCmd, 4, []⟩] })
def journalEntries3 : State := (withJournal (connected ptpTime) fun j => { j with entries := [entryIn .accepted] })
def journalEntries4 : State := (withJournal (connected ptpTime) fun j => { j with entries := [{ entryIn .done with sent := true }] })
/-- Witness for the hypotheses of JournalEntries: (1) take, cmjRes, deliveryTimeout; (2) journalWriteComplete, cmjRes; (3) take; (4)
entryFree. -/
theorem witness_JournalEntries :
    (journalEntries1.online = true ∧ journalEntries1.fab.lastf.mram0 = false ∧ journalEntries1.fab.lastf.mram1 = false ∧ journalEntries1.jnl.delivered
    = some (entryIn EntState.delivered) ∧ (entryIn EntState.delivered).jseq % 65536 = (getF (196864 : Word) 16 16).toNat ∧ BitVec.getLsbD (196864 :
    Word) 8 =
    true ∧ getF (196864 : Word) 0 8 = (0 : BitVec 8) ∧ (entryIn EntState.delivered).cmd.source = CmdSource.tn) ∧
    (journalEntries2.online = true ∧ journalEntries2.fab.lastf.mram0 = false ∧ journalEntries2.fab.lastf.mram1 = false ∧ journalEntries2.jnl.writes =
    [{ cmd := journalCmd, tacc := 4 }] ∧ journalCmd.source = CmdSource.tn ∧ journalEntries2.jnl.delivered = none) ∧
    (journalEntries3.online = true ∧ journalEntries3.fab.lastf.mram0 = false ∧ journalEntries3.fab.lastf.mram1 = false ∧ journalEntries3.jnl.entries =
    [entryIn EntState.accepted] ∧ journalEntries3.jnl.delivered = none ∧ (entryIn EntState.accepted).state = EntState.accepted ∧
    journalEntries3.takeRefusal (entryIn
    EntState.accepted) = none) ∧
    (journalEntries4.online = true ∧ journalEntries4.fab.lastf.mram0 = false ∧ journalEntries4.fab.lastf.mram1 = false ∧ List.filter (fun q => q.sent)
    journalEntries4.jnl.entries = [{ entryIn EntState.done with sent := true }]) :=
  ⟨by decide +kernel,
   by decide +kernel,
   by decide +kernel,
   by decide +kernel⟩

def fabricAndStatus1 : State := (withSafety ptpTime fun f => { f with linkUp := true })
/-- Witness for the hypotheses of FabricAndStatus: (1) fabricOperationComplete, mramWriteComplete, fabricTimeout, statusTelegramSend; (2)
fabricOperationComplete, statusTelegramSend. -/
theorem witness_FabricAndStatus :
    (tallyOpen fabricAndStatus1 ∧ fabricAndStatus1.online = true ∧ fabricAndStatus1.fab.lastf.mram0 = false ∧ (2 : Fin 7).val = 2 ∧
    fabricAndStatus1.mode = RunMode.run ∧ fabricAndStatus1.eng.sq = [] ∧ fabricAndStatus1.safe.linkUp = true ∧ fabricAndStatus1.safe.a.silent = false
    ∧ fabricAndStatus1.safe.h.silent = false ∧ fabricAndStatus1.safe.aReset = false) ∧
    (ptpTime.online = true ∧ (0 : Fin 7).val ≠ 2 ∧ ptpTime.safe.linkUp = false) :=
  ⟨⟨by unfold tallyOpen; decide +kernel, by decide +kernel⟩,
   by decide +kernel⟩

def pathsAndData1 : State := (withNetReg ptpTime fun r => { r with red := 0x3F })
def pathsAndData2 : State := (withNet (withNetReg ptpTime fun r => { r with red := 0xFFFFFF }) fun n => { n with seen := [(0, 1, 3, 0)], lup := 0x3F, supSeen := 0x3F })
def pathsAndData3 : State := (withNetReg (stopped 1) fun r => { r with pdo := r.pdo.set 3 ⟨7, 20, 5⟩, pdi := r.pdi.set 3 ⟨9, 4⟩ })
def pathsAndData4 : State := (withNetReg ptpTime fun r => { r with pdo := r.pdo.set 3 ⟨7, 20, 5⟩, pdi := r.pdi.set 3 ⟨9, 4⟩ })
/-- Witness for the hypotheses of PathsAndData: (1) unsupportedFrame, prpFrameReceive, pathCheck; (2) pathCheck; (3) prpFrameReceive; (4)
the statement; (5) the statement; (6) the statement; (7) the statement; (8) pdOutputSend, pdHoldExpiry, pdInputReceive, panelFrameRepeat;
(9) pdInputReceive. -/
theorem witness_PathsAndData :
    (tallyOpen ptpTime ∧ ptpTime.online = true ∧ ptpTime.net.reg.red.getLsbD (0 : Fin 6).val = false ∧ ptpTime.net.seen = [] ∧ (0 : Fin 6).val < 2 ∧
    ptpTime.duplicateFrame (0 : Fin 6) (1 : BitVec 48) (3 : BitVec 16) = false ∧ (99 : BitVec 16) ≠ ptpTime.net.reg.bwport ∧ (99 : BitVec 16) ≠ (20548
    :
    BitVec 16) ∧ (ptpTime.net.lup.getLsbD (0 : Fin 6).val = false ∨ ptpTime.net.supSeen.getLsbD (0 : Fin 6).val = false)) ∧
    (pathsAndData1.online = true ∧ ((5 : Fin 6).val = 4 ∨ (5 : Fin 6).val = 5) ∧ (pathsAndData1.net.lup.getLsbD (5 : Fin 6).val = false ∨
    pathsAndData1.net.supSeen.getLsbD (5 : Fin 6).val = false) ∧ pathsAndData1.net.reg.red.getLsbD (5 : Fin 6).val = true) ∧
    (pathsAndData2.online = true ∧ pathsAndData2.duplicateFrame (1 : Fin 6) (1 : BitVec 48) (3 : BitVec 16) = true ∧ PrpKind.other ≠ .supervision 0) ∧
    (ptpTime.online = true ∧ ((2 : Fin 6).val = 2 ∨ (2 : Fin 6).val = 3) ∧ List.take 2 ([(88 : Byte), (1 : Byte)] ++ List.replicate 23 (0 : Byte)) =
    [(88
    : Byte), (1 : Byte)] ∧ 25 ≤ ([(88 : Byte), (1 : Byte)] ++ List.replicate 23 (0 : Byte)).length) ∧
    (ptpTime.online = true ∧ ((3 : Fin 6).val = 2 ∨ (3 : Fin 6).val = 3) ∧ List.take 2 [(88 : Byte), (2 : Byte), (7 : Byte)] = [(88 : Byte), (2 :
    Byte)]) ∧
    (ptpTime.online = true ∧ (1 : Fin 6).val < 2 ∧ (20546 : BitVec 16) = ptpTime.net.reg.bwport) ∧
    (ptpTime.online = true ∧ (0 : Fin 6).val < 2 ∧ (20548 : BitVec 16) ≠ ptpTime.net.reg.bwport ∧ (20548 : BitVec 16) = (20548 : BitVec 16)) ∧
    (tallyOpen pathsAndData3 ∧ pathsAndData3.online = true ∧ pathsAndData3.net.reg.pdo[(3 : Fin 8).val].len ≠ (0 : BitVec 10) ∧
    pathsAndData3.net.reg.pdi[(3 : Fin 8).val].len ≠ (0 : BitVec 10) ∧ pathsAndData3.net.pdi[(3 : Fin 8).val].lost = false ∧ ((pdFrame 5).getD 0 (0 :
    Byte) = (68 : Byte) ∧ (pdFrame 5).getD 1 (0 : Byte) = (1 : Byte) ∧ pathsAndData3.net.reg.pdi[(3 : Fin 8).val].len ≠ (0 : BitVec 10) ∧ beNat
    (bytesAt (pdFrame 5) 4 2) = pathsAndData3.net.reg.pdi[(3 : Fin 8).val].id.toNat ∧ ∀ (m : Fin 8), m ≠ (3 : Fin 8) →
    pathsAndData3.net.reg.pdi[↑m].len = (0 : BitVec 10)) ∧ 12 ≤ (pdFrame 5).length ∧ beNat (bytesAt (pdFrame 5) 2 2) ≠ pathsAndData3.net.reg.pdi[(3 :
    Fin 8).val].len.toNat ∧ pathsAndData3.mode ≠ RunMode.run) ∧
    (pathsAndData4.online = true ∧ ((pdFrame 4).getD 0 (0 : Byte) = (68 : Byte) ∧ (pdFrame 4).getD 1 (0 : Byte) = (1 : Byte) ∧
    pathsAndData4.net.reg.pdi[(3 : Fin 8).val].len ≠ (0 : BitVec 10) ∧ beNat (bytesAt (pdFrame 4) 4 2) = pathsAndData4.net.reg.pdi[(3 : Fin
    8).val].id.toNat ∧ ∀ (m : Fin 8), m ≠ (3 : Fin 8) → pathsAndData4.net.reg.pdi[↑m].len = (0 : BitVec 10)) ∧ beNat (bytesAt (pdFrame 4) 2 2) =
    pathsAndData4.net.reg.pdi[(3 : Fin 8).val].len.toNat ∧ 12 + pathsAndData4.net.reg.pdi[(3 : Fin 8).val].len.toNat ≤ (pdFrame 4).length) :=
  ⟨⟨by unfold tallyOpen; decide +kernel, by decide +kernel⟩,
   by decide +kernel,
   by decide +kernel,
   by decide +kernel,
   by decide +kernel,
   by decide +kernel,
   by decide +kernel,
   ⟨by unfold tallyOpen; decide +kernel, by decide +kernel⟩,
   by decide +kernel⟩

def calendarSources1 : State := (withNet ptpTime fun n => { n with ptpRow := 15, ptpAt := n.ptpAt.set 0 (some 9) })
def calendarSources2 : State := withMaster calendarSources1
def calendarSources3 : State := withNet { leavesMove with tim := { leavesMove.tim with src := { leavesMove.tim.src with state := .sync } } } fun n => { n with ppsBad := 2, ppsGood := 800000000, ppsAt := 1600000000 }
def calendarSources4 : State := withMaster calendarSources3
def calendarSources5 : State := (withNet ptpTime fun n => { n with ptpRow := 15 })
def calendarSources6 : State := withMaster calendarSources5
def calendarSources7 : State := (withNet { ptpTime with tim := { ptpTime.tim with src := { ptpTime.tim.src with state := .holdover } } } fun n => { n with ptpRow := 15, ptpAt := n.ptpAt.set 0 (some 9) })
def calendarSources8 : State := withMaster calendarSources7
def calendarSources9 : State := (withNet { leavesMove with tim := { leavesMove.tim with src := { leavesMove.tim.src with state := .free } } } fun n => { n with ppsRow := 2 })
def calendarSources10 : State := withMaster calendarSources9
def calendarSources11 : State := withNet { leavesMove with mono := 900000, tim := { leavesMove.tim with src := { leavesMove.tim.src with state := .sync } } } fun n => { n with ppsLost := true, ppsBad := 2, ppsGood := 10, ppsAt := 1200000000 }
def calendarSources12 : State := withMaster calendarSources11
/-- Witness for the hypotheses of CalendarSources: (1) ptpLoss, syncPulse, ptpSyncReceive; (2) ptpSyncReceive, syncPulseMissing; (3)
ptpSyncReceive; (4) holdoverExpiry; (5) syncPulse; (6) ptpLoss; (7) ptpSyncReceive. -/
theorem witness_CalendarSources :
    (tallyOpen calendarSources2 ∧ calendarSources2.online = true ∧ calendarSources2.tim.src.state = CalSrc.ptp ∧ calendarSources2.secondOffset.natAbs
    ≤ 1000000 ∧ (0 : Byte) = calendarSources2.net.reg.ptp.domain ∧ Option.map PtpMaster.sender calendarSources2.master = some (5 : BitVec 80) ∧
    calendarSources2.net.ptpAt[0] = some 9 ∧ calendarSources2.since 9 ≤ sec 3 ∧ 1000000 < (-1000001 : Int).natAbs) ∧
    (calendarSources4.online = true ∧ (0 : Byte) = calendarSources4.net.reg.ptp.domain ∧ Option.map PtpMaster.sender calendarSources4.master = some (5
    : BitVec 80) ∧ 1000 < (-1001 : Int).natAbs ∧ (-1001 : Int).natAbs ≤ 1000000 ∧ calendarSources4.tim.src.state = CalSrc.sync ∧
    calendarSources4.net.ppsBad = 2 ∧ calendarSources4.tim.src.state ≠ CalSrc.ptp) ∧
    (calendarSources6.online = true ∧ (0 : Byte) = calendarSources6.net.reg.ptp.domain ∧ Option.map PtpMaster.sender calendarSources6.master = some (5
    : BitVec 80) ∧ (1000 : Int).natAbs ≤ 1000 ∧ 15 ≤ calendarSources6.net.ptpRow) ∧
    (calendarSources8.online = true ∧ calendarSources8.tim.src.state = CalSrc.holdover) ∧
    (calendarSources10.online = true ∧ calendarSources10.tim.src.state = CalSrc.free ∧ calendarSources10.secondOffset.natAbs ≤ 1000000 ∧ 2 ≤
    calendarSources10.net.ppsRow) ∧
    (calendarSources12.online = true ∧ calendarSources12.tim.src.state = CalSrc.sync ∧ calendarSources12.net.ppsLost = true) ∧
    (ptpTime.online = true ∧ (¬((0 : Byte) = ptpTime.net.reg.ptp.domain ∧ Option.map PtpMaster.sender ptpTime.master = some (5 : BitVec 80)))) :=
  ⟨⟨by unfold tallyOpen; decide +kernel, by decide +kernel⟩,
   by decide +kernel,
   by decide +kernel,
   by decide +kernel,
   by decide +kernel,
   by decide +kernel,
   by decide +kernel⟩

def twinAndMailboxes1 : State := (withNet (twinIn .lost) fun n => { n with twinAt := some 9, twinRow := 9, twinMac := some 5, sups := [(5, 0)] })
def twinAndMailboxes2 : State := (withNet (twinIn .up) fun n => { n with twinAt := some 9 })
def twinAndMailboxes3 : State := (mailbox ptpTime 4 false 0)
def twinAndMailboxes4 : State := (withNetReg (mailbox ptpTime 4 false 8) fun r => { r with ser := Vector.replicate 4 { en := true } })
def twinAndMailboxes5 : State := (withNet (mailbox ptpTime 4 true 4) fun n => { n with mbox := n.mbox.set 4 { out := [(⟨7,0,[1]⟩, 5)] } })
def twinAndMailboxes6 : State := (withNet (mailbox ptpTime 4 false 0) fun n => { n with mbox := n.mbox.set 4 { queue := List.replicate 16 ⟨0,0,[]⟩ } })
/-- Witness for the hypotheses of TwinAndMailboxes: (1) twinHeartbeatSend, mailboxArrival, twinHeartbeatReceive, twinTimeout; (2)
twinTimeout; (3) mailboxArrival; (4) serialMessageEnd; (5) canSendTimeout, canBusOff; (6) mailboxArrival. -/
theorem witness_TwinAndMailboxes :
    (tallyOpen twinAndMailboxes1 ∧ twinAndMailboxes1.online = true ∧ twinAndMailboxes1.net.reg.twin.en = true ∧ ((∀ (k : Fin 64),
    twinAndMailboxes1.mbMatch k MbLink.udp (7 : Word) (0 : BitVec 16) = false) ∨ twinAndMailboxes1.net.reg.takes MbLink.udp (7 : Word) = false) ∧
    twinAndMailboxes1.net.reg.twin.state ≠ TwinState.up ∧ twinAndMailboxes1.net.twinAt = some 9 ∧ twinAndMailboxes1.since 9 ≤ ms 300 ∧ 9 ≤
    twinAndMailboxes1.net.twinRow ∧ twinAndMailboxes1.net.twinMac = some (5 : BitVec 48) ∧ ((5 : BitVec 48), 0) ∈ twinAndMailboxes1.net.sups ∧ max
    twinAndMailboxes1.mono (twinAndMailboxes1.net.twinAt.getD twinAndMailboxes1.boot.relAt + ms 300) - 0 ≤ sec 4) ∧
    (tallyOpen twinAndMailboxes2 ∧ twinAndMailboxes2.online = true ∧ twinAndMailboxes2.net.reg.twin.en = true ∧ twinAndMailboxes2.net.reg.twin.state =
    TwinState.up ∧ (∀ (e : BitVec 48 × Nat), e ∈ twinAndMailboxes2.net.sups → twinAndMailboxes2.net.twinMac ≠ some e.fst)) ∧
    (twinAndMailboxes3.online = true ∧ (fun l w => List.find? (fun k => twinAndMailboxes3.mbMatch k l w (0 : BitVec 16)) (List.finRange 64) = some (4
    : Fin 64)) MbLink.udp (7 : Word) ∧ twinAndMailboxes3.net.mbox[(4 : Fin 64).val].queue.length < 16 ∧ twinAndMailboxes3.eng.decl (BitVec.ofNat 16
    (3072 + (4 : Fin 64).val)) = none) ∧
    (twinAndMailboxes4.online = true ∧ twinAndMailboxes4.net.reg.ser[(2 : Fin 4).val].en = true ∧ (0 : BitVec 16) = (0 : BitVec 16) ∧ (fun l w =>
    List.find? (fun k => twinAndMailboxes4.mbMatch k l w (0 : BitVec 16)) (List.finRange 64) = some (4 : Fin 64)) (MbLink.ser (2 : Fin 4)) (0 : Word)
    ∧ twinAndMailboxes4.net.mbox[(4 : Fin 64).val].queue.length < 16 ∧ twinAndMailboxes4.eng.decl (BitVec.ofNat 16 (3072 + (4 : Fin 64).val)) = none)
    ∧
    (twinAndMailboxes5.online = true ∧ MbLink.ofCode twinAndMailboxes5.net.reg.mbcfg[(4 : Fin 64).val].link = some (MbLink.can (2 : Fin 4)) ∧
    twinAndMailboxes5.net.mbox[(4 : Fin 64).val].out = [({ word0 := (7 : Word), data := [(1 : Byte)] }, 5)]) ∧
    (twinAndMailboxes6.online = true ∧ (fun l w => List.find? (fun k => twinAndMailboxes6.mbMatch k l w (0 : BitVec 16)) (List.finRange 64) = some (4
    : Fin 64)) MbLink.udp (7 : Word) ∧ 16 ≤ twinAndMailboxes6.net.mbox[(4 : Fin 64).val].queue.length) :=
  ⟨⟨by unfold tallyOpen; decide +kernel, by decide +kernel⟩,
   ⟨by unfold tallyOpen; decide +kernel, by decide +kernel⟩,
   by decide +kernel,
   by decide +kernel,
   by decide +kernel,
   by decide +kernel⟩

def sessionLife1 : State := (withSes anchored 2 3)
def sessionLife2 : State := (withSes (anchored.modMode fun m => { m with mode := .hold }) 0 3)
/-- Witness for the hypotheses of SessionLife: (1) sessionHandshake, sessionMalformedMessage, sessionLoss, sessionNop; (2)
sessionMalformedMessage, sessionLoss; (3) sessionHandshake. -/
theorem witness_SessionLife :
    (sessionLife1.boot.held = none ∧ sessionLife1.boot.down = false ∧ sessionLife1.boot.up = true ∧ sessionLife1.boot.recovery = false ∧
    sessionLife1.tru.anchors[3].isSome = true ∧ ((clientCert false).tls = false ∨ (clientCert false).chains = false) ∧ 16777248 < BitVec.toNat
    (16777249 : Word) ∧
    sessionLife1.tru.sessions[(2 : Fin 3).val] = some (sessionOf (3 : BitVec 6)) ∧ (¬((2 : Fin 3).val = 0 ∧ sessionLife1.mode = RunMode.hold)) ∧
    sessionLife1.owes (2 : Fin 3) = false) ∧
    (sessionLife2.tru.sessions[(0 : Fin 3).val] = some (sessionOf (3 : BitVec 6)) ∧ sessionLife2.owes (0 : Fin 3) = false ∧ BitVec.toNat (16777248 :
    Word) ≤
    16777248 ∧ sessionLife2.tru.sessions[0] = some (sessionOf (3 : BitVec 6)) ∧ sessionLife2.mode = RunMode.hold ∧ sessionLife2.eng.sq = []) ∧
    (anchored.boot.held = none ∧ anchored.boot.down = false ∧ anchored.boot.up = true ∧ anchored.boot.recovery = false ∧
    anchored.tru.anchors[3].isSome = true ∧ (clientCert
    true).tls = true ∧ (clientCert true).chains = true ∧ anchored.tim.src.valid = true ∧ (clientCert true).notBefore ≤ anchored.calNow ∧
    anchored.calNow ≤ (clientCert true).notAfter ∧
    anchored.tru.sessions[0] = none) :=
  ⟨by decide +kernel,
   by decide +kernel,
   by decide +kernel⟩

def sessionAccess1 : State := (serviceOpen.modEng fun e => { e with forces := [forced] })
def sessionAccess2 : State := (serviceOpen.modEng fun e => { e with tags := [tonTag] })
def sessionAccess3 : State := ((withSes leavesMove 1 2).modEng fun e => { e with tags := [tonTag] })
def sessionAccess4 : State := { serviceOpen with tally := { serviceOpen.tally with reg := { serviceOpen.tally.reg with stat := { serviceOpen.tally.reg.stat with comm := true } } } }
/-- Witness for the hypotheses of SessionAccess: (1) write, commission, read, tallyRead, forceSet, forceRelease, forceList; (2) read,
forceSet; (3) read; (4) commission; (5) read. -/
theorem witness_SessionAccess :
    (openWith sessionAccess1 (0 : Fin 3) Right.service ∧ tallyOpen sessionAccess1 ∧ openWith sessionAccess1 (0 : Fin 3) Right.read ∧ openWith
    sessionAccess1 (0 : Fin 3) Right.force ∧ inData (BitVec.toNat (16777233 : Word)) 4 = true ∧ sessionAccess1.tally.reg.stat.comm = false ∧
    sessionAccess1.tally.held = [] ∧ Option.map Rec.type sessionAccess1.tally.staging.getLast? ≠ some (6 : BitVec 16) ∧ ((65536 : Word) = (0 : Word) ∨
    4096 < BitVec.toNat (65536 : Word)) ∧ 65536 ≤ BitVec.toNat (65536 : Word) ∧ BitVec.toNat (65536 : Word) ≤ 16777216 ∧ sessionAccess1.eng.tags = []
    ∧ (1 : Word) = (1 : Word) ∧ sessionAccess1.eng.forces = [forced]) ∧
    (openWith sessionAccess2 (0 : Fin 3) Right.read ∧ openWith sessionAccess2 (0 : Fin 3) Right.force ∧ tallyOpen sessionAccess2 ∧ ((0 : Fin 3).val =
    0 ∨ (0 : Fin 3).val = 1) ∧ BitVec.toNat (16777232 : Word) % 4 = 0 ∧ inData (BitVec.toNat (16777232 : Word)) 4 = true ∧ sessionAccess2.eng.tags =
    [tonTag] ∧ tonTag.type = TagType.ton ∧ (1 : Word) = (1 : Word) ∧ (List.filter (fun g => !(g.tag == tonTag.tag && g.field.toNat == BitVec.toNat (1
    : Word)))
    sessionAccess2.eng.forces).length < 256 ∧ sessionAccess2.fab.lastf.mram0 = false) ∧
    (sessionAccess3.tru.sessions[(1 : Fin 3).val] = some (sessionOf (2 : BitVec 6)) ∧ sessionAccess3.owes (1 : Fin 3) = false ∧ (sessionOf (2 : BitVec
    6)).has
    Right.read = false) ∧
    (openWith sessionAccess4 (0 : Fin 3) Right.service ∧ sessionAccess4.tally.reg.stat.comm = true) ∧
    (openWith serviceOpen (0 : Fin 3) Right.read ∧ BitVec.toNat (16777233 : Word) % 4 ≠ 0 ∧ 1 ≤ BitVec.toNat (4096 : Word) ∧ BitVec.toNat (4096 :
    Word) ≤ 4096) :=
  ⟨⟨⟨by decide +kernel, by decide +kernel, _, rfl, by decide +kernel⟩, by unfold tallyOpen; decide +kernel, ⟨by decide +kernel, by decide +kernel, _, rfl, by decide +kernel⟩, ⟨by decide +kernel, by decide +kernel, _, rfl, by decide +kernel⟩, by decide +kernel⟩,
   ⟨⟨by decide +kernel, by decide +kernel, _, rfl, by decide +kernel⟩, ⟨by decide +kernel, by decide +kernel, _, rfl, by decide +kernel⟩, by unfold tallyOpen; decide +kernel, by decide +kernel⟩,
   by decide +kernel,
   ⟨⟨by decide +kernel, by decide +kernel, _, rfl, by decide +kernel⟩, by decide +kernel⟩,
   ⟨⟨by decide +kernel, by decide +kernel, _, rfl, by decide +kernel⟩, by decide +kernel⟩⟩

def sessionModes1 : State := (withSes idle 0 0x3F)
def sessionModes2 : State := { (inMode .stop serviceOpen) with boot := { serviceOpen.boot with starting := true } }
def sessionModes3 : State := (inMode .hold (withSes (withBank atWord fun k => { k with pc := 0 }) 0 0x3F))
def sessionModes4 : State := (withSes (stopped 1) 0 0x3F)
def sessionModes5 : State := withSes axisCommandRegisters4 0 0x3F
/-- Witness for the hypotheses of SessionModes: (1) modeRun, modeStop, modeHold, reset, requestFlush, requestRelearn, requestOltest; (2)
modeStop, reref, modeRun; (3) modeResume, modeStep; (4) reref; (5) modeRun; (6) requestCalibration. -/
theorem witness_SessionModes :
    (openWith sessionModes1 (0 : Fin 3) Right.service ∧ openWith sessionModes1 (0 : Fin 3) Right.debug ∧ sessionModes1.mode ≠ RunMode.stop ∧
    sessionModes1.eng.sq = [] ∧ sessionModes1.mode = RunMode.run ∧ sessionModes1.tally.flush = none ∧ 1 ≤ BitVec.toNat (4294967295 : Word) ∧
    (sessionModes1.portal (1 : PortalIx)).fitted = true ∧ (sessionModes1.krf (1 : PortalIx)).reg.stat.lrn = ReqStat.idle ∧ sessionModes1.idleWindow =
    true ∧ (sessionModes1.portal (chanPortal (3 : ChanIx))).fitted = true ∧ (sessionModes1.chan (3 : ChanIx)).reg.stat.olt = OltStat.idle ∧
    sessionModes1.oltReady (3 : ChanIx) = true) ∧
    (openWith sessionModes2 (0 : Fin 3) Right.service ∧ sessionModes2.mode = RunMode.stop ∧ sessionModes2.fitted (4 : AxisIx) = true ∧
    sessionModes2.refusal (4 : AxisIx) StartKind.reref (0 : Int) true = some (3 : BitVec 4) ∧ sessionModes2.boot.starting = true) ∧
    (openWith sessionModes3 (0 : Fin 3) Right.debug ∧ sessionModes3.mode = RunMode.hold ∧ sessionModes3.eng.phase = Phase.execute ∧
    sessionModes3.eng.cur = (0 : Fin 5) ∧ sessionModes3.eng.sq = [] ∧ 4 ≤ sessionModes3.eng.code.length ∧ sessionModes3.bank.pc = (0 : Word) ∧ wordAt
    sessionModes3.eng.code 0 = (3758096384 : Word) ∧ sessionModes3.online = true) ∧
    (openWith serviceOpen (0 : Fin 3) Right.service ∧ serviceOpen.fitted (4 : AxisIx) = true ∧ (serviceOpen.axis (4 : AxisIx)).st = AxState.moving ∧
    (serviceOpen.axis (4 :
    AxisIx)).landed = false ∧ serviceOpen.refusal (4 : AxisIx) StartKind.reref (0 : Int) true = none ∧ ((serviceOpen.axis (4 : AxisIx)).reg.cfg.sdo =
    false ∨ (serviceOpen.axis
    (4 : AxisIx)).hasFb = true)) ∧
    (openWith sessionModes4 (0 : Fin 3) Right.service ∧ sessionModes4.mode = RunMode.stop ∧ sessionModes4.boot.starting = false ∧ sessionModes4.eng.sq
    = []) ∧
    (openWith sessionModes5 (0 : Fin 3) Right.service ∧ sessionModes5.fitted (4 : AxisIx) = true ∧ (sessionModes5.axis (4 : AxisIx)).reg.cal.status ≠
    ReqStat.deferred ∧ (sessionModes5.axis (4 : AxisIx)).reg.cal.status ≠ ReqStat.running ∧ (sessionModes5.axis (4 : AxisIx)).calPend = false ∧
    sessionModes5.calReady (4 : AxisIx) = true) :=
  ⟨⟨⟨by decide +kernel, by decide +kernel, _, rfl, by decide +kernel⟩, ⟨by decide +kernel, by decide +kernel, _, rfl, by decide +kernel⟩, by decide +kernel⟩,
   ⟨⟨by decide +kernel, by decide +kernel, _, rfl, by decide +kernel⟩, by decide +kernel⟩,
   ⟨⟨by decide +kernel, by decide +kernel, _, rfl, by decide +kernel⟩, by decide +kernel⟩,
   ⟨⟨by decide +kernel, by decide +kernel, _, rfl, by decide +kernel⟩, by decide +kernel⟩,
   ⟨⟨by decide +kernel, by decide +kernel, _, rfl, by decide +kernel⟩, by decide +kernel⟩,
   ⟨⟨by decide +kernel, by decide +kernel, _, rfl, by decide +kernel⟩, by decide +kernel⟩⟩

def landingAndSwitch1 : State := (withLanding (withSes leavesMove 2 2) fun l => { landState .receiving l with owner := some 2, landing := [9], previous := [4,5], total := 2 })
def landingAndSwitch2 : State := (withLanding (withSes leavesMove 2 2) fun l => { landState .verified l with owner := some 2, landing := [9], total := 1 })
def landingAndSwitch3 : State := (withLanding (withSes leavesMove 2 2) fun l => { landState .verifying l with owner := some 2, landing := [], total := 0, verifier := some (2, 5) })
def landingAndSwitch4 : State := (switchReady (stopped 1))
def landingAndSwitch5 : State := (withSafety (switchReady (stopped 1)) fun f => { f with par := { f.par with disc := 51 } })
/-- Witness for the hypotheses of LandingAndSwitch: (1) landBegin, landActivate, landCancel, imageSwitch, landData, landVerify; (2)
landData, landBegin, landVerify, landActivate; (3) verificationComplete; (4) imageSwitch; (5) imageSwitch. -/
theorem witness_LandingAndSwitch :
    (openWith landingAndSwitch1 (2 : Fin 3) Right.land ∧ landingAndSwitch1.lnd.verifier = none ∧ BitVec.toNat (1 : Word) ≤ 67108864 ∧
    landingAndSwitch1.lnd.reg.stat.state ≠ LndState.verified ∧ (landingAndSwitch1.lnd.activate = false ∨ landingAndSwitch1.switchPoint = false ∨
    landingAndSwitch1.holdReasons ≠ (0 : BitVec 4)) ∧ landingAndSwitch1.lnd.reg.stat.state = LndState.receiving ∧ landingAndSwitch1.lnd.owner = some
    (2 : Fin 3) ∧ [(1 : Byte)] ≠ [] ∧ [(1 : Byte)].length ≤ 1048576 ∧ BitVec.toNat (1 : Word) = landingAndSwitch1.lnd.landing.length ∧
    landingAndSwitch1.lnd.landing.length + [(1 : Byte)].length ≤ landingAndSwitch1.lnd.total ∧ landingAndSwitch1.lnd.landing.length ≠
    landingAndSwitch1.lnd.total) ∧
    (openWith landingAndSwitch2 (2 : Fin 3) Right.land ∧ landingAndSwitch2.lnd.verifier = none ∧ landingAndSwitch2.lnd.reg.stat.state ≠
    LndState.receiving ∧ [(1 : Byte)] ≠ [] ∧ [(1 : Byte)].length ≤ 1048576 ∧ 67108864 < BitVec.toNat (67108865 : Word) ∧
    (landingAndSwitch2.lnd.reg.stat.state = LndState.receiving ∨ landingAndSwitch2.lnd.reg.stat.state = LndState.rejected ∨
    landingAndSwitch2.lnd.reg.stat.state = LndState.verified ∧ landingAndSwitch2.lnd.activate = false) ∧ landingAndSwitch2.lnd.landing.length =
    landingAndSwitch2.lnd.total ∧ landingAndSwitch2.lnd.reg.stat.state = LndState.verified ∧ landingAndSwitch2.lnd.activate = false) ∧
    (tallyOpen landingAndSwitch3 ∧ landingAndSwitch3.online = true ∧ landingAndSwitch3.lnd.reg.stat.state = LndState.verifying ∧
    landingAndSwitch3.lnd.activate = false ∧ landingAndSwitch3.lnd.verifier = some ((2 : Fin 3), (5 : Word)) ∧ landingAndSwitch3.lnd.landing = []) ∧
    (landingAndSwitch4.online = true ∧ landingAndSwitch4.lnd.activate = true ∧ landingAndSwitch4.switchPoint = true ∧ landingAndSwitch4.holdReasons =
    (0 : BitVec 4) ∧ landingAndSwitch4.hingeChange (landingAndSwitch4.trial landingAndSwitch4.lnd.landing) = false) ∧
    (landingAndSwitch5.online = true ∧ landingAndSwitch5.lnd.activate = true ∧ landingAndSwitch5.switchPoint = true ∧ landingAndSwitch5.holdReasons =
    (0 : BitVec 4) ∧ landingAndSwitch5.hingeChange (landingAndSwitch5.trial landingAndSwitch5.lnd.landing) = true) :=
  ⟨⟨⟨by decide +kernel, by decide +kernel, _, rfl, by decide +kernel⟩, by decide +kernel⟩,
   ⟨⟨by decide +kernel, by decide +kernel, _, rfl, by decide +kernel⟩, by decide +kernel⟩,
   ⟨by unfold tallyOpen; decide +kernel, by decide +kernel⟩,
   by decide +kernel,
   by decide +kernel⟩

def trustRequests1 : State := (connected serviceOpen)
def trustRequests2 : State := (serviceOpen.modMode fun m => { m with factory := true })
def trustRequests3 : State := (serviceOpen.modTru fun t => { t with anchors := t.anchors.set 2 (some []) })
def trustRequests4 : State := (serviceOpen.modTru fun t => { t with attest := some (0, 5, [1], 9) })
def trustRequests5 : State := (serviceOpen.modTru fun t => { t with attest := some (1, 5, [1], 9) })
def trustRequests6 : State := withSes (switchReady (stopped 1)) 0 0x3F
/-- Witness for the hypotheses of TrustRequests: (1) envWrite, anchorWrite, advance, attest, command; (2) fwWrite, advance; (3) command,
envWrite; (4) attest; (5) attestationReportReady; (6) fwWrite; (7) attest; (8) advance. -/
theorem witness_TrustRequests :
    (openWith trustRequests1 (0 : Fin 3) Right.service ∧ openWith trustRequests1 (0 : Fin 3) Right.anchor ∧ openWith trustRequests1 (0 : Fin 3)
    Right.read ∧ certLayout ((4 : Byte) :: List.replicate 96 (1 : Byte)) = false ∧ ((5 : Word) = (0 : Word) ∨ 4 < BitVec.toNat (5 : Word)) ∧
    (¬(trustRequests1.lnd.activate = true ∧ trustRequests1.switchPoint = true ∧ trustRequests1.holdReasons = (0 : BitVec 4))) ∧
    trustRequests1.eng.sys.mode.factory = false ∧ ((5 : Word) = (0 : Word) ∨ 3 < BitVec.toNat (5 : Word)) ∧ ((4 : Byte) :: List.replicate 96 (1 :
    Byte)).length ≠ 32 ∧ ((4 : Byte) :: List.replicate 96 (1 : Byte)).length = 97 ∧ ((4 : Byte) :: List.replicate 96 (1 : Byte)).head? = some (4 :
    Byte) ∧ reservedKind (128 : Byte) = false ∧ trustRequests1.jnl.lastSeq (5 : Word) = some (8 : Word) ∧ trustRequests1.jnl.closed = false ∧
    trustRequests1.closing = false ∧ trustRequests1.jnl.entries.length + trustRequests1.jnl.writes.length < 1024) ∧
    (openWith trustRequests2 (0 : Fin 3) Right.service ∧ trustRequests2.tru.fwBuf = [] ∧ trustRequests2.tru.fwTotal = none ∧ (4 : Byte) ::
    List.replicate 96 (1 : Byte) ≠ [] ∧ ((4 : Byte) :: List.replicate 96 (1 : Byte)).length ≤ 1048576 ∧ BitVec.toNat (97 : Word) = ((4 : Byte) ::
    List.replicate 96 (1 : Byte)).length ∧ (¬(trustRequests2.lnd.activate = true ∧ trustRequests2.switchPoint = true ∧ trustRequests2.holdReasons = (0
    : BitVec 4))) ∧ trustRequests2.eng.sys.mode.factory = true) ∧
    (openWith trustRequests3 (0 : Fin 3) Right.service ∧ reservedKind (127 : Byte) = true ∧ certLayout (oneEntry.set 8 (0 : Byte)) = true ∧ certOk
    trustRequests3.tru.anchors[2] trustRequests3.tru.rbenv trustRequests3.tru.serial (oneEntry.set 8 (0 : Byte)) = false) ∧
    (openWith serviceOpen (0 : Fin 3) Right.read ∧ nonce.length = 32 ∧ serviceOpen.tru.attest = none) ∧
    (trustRequests4.tru.attest = some ((0 : Fin 3), (5 : Word), [(1 : Byte)], 9)) ∧
    (openWith serviceOpen (0 : Fin 3) Right.service ∧ serviceOpen.tru.fwBuf = [] ∧ serviceOpen.tru.fwTotal = none ∧ (4 : Byte) :: List.replicate 96 (1
    : Byte) ≠ [] ∧ ((4 : Byte)
    :: List.replicate 96 (1 : Byte)).length ≤ 1048576 ∧ ((4 : Byte) :: List.replicate 96 (1 : Byte)).length < BitVec.toNat (98 : Word) ∧ BitVec.toNat
    (98 : Word) ≤ 33554432) ∧
    (openWith trustRequests5 (0 : Fin 3) Right.read ∧ nonce.length = 32 ∧ trustRequests5.tru.attest.isSome = true) ∧
    (openWith trustRequests6 (0 : Fin 3) Right.service ∧ trustRequests6.lnd.activate = true ∧ trustRequests6.switchPoint = true ∧
    trustRequests6.holdReasons = (0 : BitVec 4) ∧ trustRequests6.hingeChange (trustRequests6.trial trustRequests6.lnd.landing) = false) :=
  ⟨⟨⟨by decide +kernel, by decide +kernel, _, rfl, by decide +kernel⟩, ⟨by decide +kernel, by decide +kernel, _, rfl, by decide +kernel⟩, ⟨by decide +kernel, by decide +kernel, _, rfl, by decide +kernel⟩, by decide +kernel⟩,
   ⟨⟨by decide +kernel, by decide +kernel, _, rfl, by decide +kernel⟩, by decide +kernel⟩,
   ⟨⟨by decide +kernel, by decide +kernel, _, rfl, by decide +kernel⟩, by decide +kernel⟩,
   ⟨⟨by decide +kernel, by decide +kernel, _, rfl, by decide +kernel⟩, by decide +kernel⟩,
   by decide +kernel,
   ⟨⟨by decide +kernel, by decide +kernel, _, rfl, by decide +kernel⟩, by decide +kernel⟩,
   ⟨⟨by decide +kernel, by decide +kernel, _, rfl, by decide +kernel⟩, by decide +kernel⟩,
   ⟨⟨by decide +kernel, by decide +kernel, _, rfl, by decide +kernel⟩, by decide +kernel⟩⟩


/-! The rest of the witnesses, which no evaluation of a concrete state shows: long payloads, and what rests on constants of Config. -/

/-- The reset state with its reset held as `r` says. -/
def heldBy (r : Option StartSrc) : State := { State.reset with boot := { State.reset.boot with held := r } }

theorem witness_EmptyQueueTick_in_reset :
    ((heldBy (some .service)).pending = [] ∧ (heldBy (some .service)).online = false ∧ (heldBy (some .service)).counting = true) ∧
    ((heldBy (some .power)).pending = [] ∧ (heldBy (some .power)).online = false ∧ (heldBy (some .power)).counting = false) ∧
    (serviceOpen.pending = [] ∧ serviceOpen.online = true) := by decide +kernel

theorem witness_StepKeepsMemory : pointingAtWord.memOk ∧ pointingAtWord.mem ≠ [] ∧ ∃ t, step pointingAtWord = .next t :=
  ⟨by unfold State.memOk; decide +kernel, by decide +kernel, _, rfl⟩

theorem witness_TimeNeverRunsBack : (∃ t, exec .nop pointing = .next t) ∧ 
    ¬ (∃ b : BootIn, Instr.nop = .resetRelease b ∧ (pointing.releases = some .power ∨ pointing.releases = some .restart ∧ 65536 < b.rtc)) :=
  ⟨⟨_, rfl⟩, fun h => by obtain ⟨b, hb, _⟩ := h; exact Instr.noConfusion hb⟩

theorem witness_NoWordRunsWithoutTheEngine : decodeFilif 0xE0000000 = some .nop ∧ waiting.ready = false := by decide +kernel

/-- All four block moves are in flight. -/
def movesFull : State := { moveReady with eng := { moveReady.eng with moves := Vector.replicate 4 moveFlying.eng.moves[2] } }

/-- Witness for the stall clause of BlockMoves: every channel is busy, so freeMove is none. -/
theorem witness_BlockMoves_stall : movesFull.memOk ∧ movesFull.ready = true ∧ movesFull.eng.freeMove = none :=
  ⟨by unfold State.memOk; decide +kernel, by decide +kernel, by decide +kernel⟩

/-- A CAN send mailbox holds two messages, its link up. -/
def mailboxFull : State :=
  { serviceOpen with net := { serviceOpen.net with
      reg := { serviceOpen.net.reg with mbcfg := serviceOpen.net.reg.mbcfg.set 4 ⟨true, true, 2, false⟩, can := serviceOpen.net.reg.can.set 0 { en := true } }
      mbox := serviceOpen.net.mbox.set 4 { out := [(⟨7, 0, [1]⟩, 5), (⟨8, 0, [2]⟩, 6)] } } }

theorem witness_EmptyQueueTick_leaves : mailboxFull.pending = [] ∧ mailboxFull.online = true ∧
    MbLink.ofCode (mailboxFull.net.reg.mbcfg[4]).link = some (.can 0) ∧
    (mailboxFull.net.mbox[4]).out = [(⟨7, 0, [1]⟩, 5), (⟨8, 0, [2]⟩, 6)] ∧
    mailboxFull.net.linkUp (mailboxFull.net.reg.mbcfg[4]).link = true ∧ mailboxFull.net.reg.takes (.can 0) 7 = true := by decide +kernel

/-! A depth segment: its CRC is carried as it stands. -/

theorem crcByte_lt (c b : Nat) (hc : c < 2 ^ 32) (hb : b < 2 ^ 32) : crcByte true 0x82F63B78 32 c b < 2 ^ 32 := by
  have step : ∀ l : List Nat, ∀ c : Nat, c < 2 ^ 32 →
      l.foldl (fun c _ => if c % 2 = 1 then c / 2 ^^^ 0x82F63B78 else c / 2) c < 2 ^ 32 := by
    intro l
    induction l with
    | nil => intro c h; exact h
    | cons x xs ih =>
      intro c h
      refine ih _ ?_
      show (if c % 2 = 1 then c / 2 ^^^ 0x82F63B78 else c / 2) < 2 ^ 32
      split
      · exact Nat.xor_lt_two_pow (by omega) (by decide)
      · omega
  simpa [crcByte] using step (List.range 8) (c ^^^ b) (Nat.xor_lt_two_pow hc hb)

theorem crc32c_lt (bs : List Byte) : crc32c bs < 2 ^ 32 := by
  have go : ∀ l : List Byte, ∀ c : Nat, c < 2 ^ 32 → l.foldl (fun c b => crcByte true 0x82F63B78 32 c b.toNat) c < 2 ^ 32 := by
    intro l
    induction l with
    | nil => intro c h; exact h
    | cons x xs ih => intro c h; exact ih _ (crcByte_lt c x.toNat h (by have := x.isLt; omega))
  exact Nat.xor_lt_two_pow (go bs _ (by decide)) (by decide)

theorem beNat_beBytes (c : Nat) (h : c < 2 ^ 32) : beNat (beBytes 4 c) = c := by
  simp [beNat, beBytes, leBytes, leNat]
  omega

/-- The head of segment `n` of frame 9 of head 0x1234. -/
def segHead (n : Nat) : List Byte := [0x48, 1, 1, 0] ++ beBytes 4 9 ++ beBytes 2 n ++ beBytes 2 (6 * n) ++ beBytes 2 6 ++ [0, 0] ++ beBytes 4 0x1234
/-- Six rows of zeros. -/
def segData : List Byte := List.replicate 7680 0
/-- Segment `n`. -/
def segment (n : Nat) : List Byte := segHead n ++ beBytes 4 (crc32c (segHead n ++ segData)) ++ segData

theorem segment_ok (n : Nat) (h : beNat (beBytes 2 (6 * n)) = 6 * beNat (beBytes 2 n)) : segOk 0x1234 (segment n) = true := by
  have c := beNat_beBytes _ (crc32c_lt (segHead n ++ segData))
  have parts : bytesAt (segment n) 0 20 = segHead n ∧ bytesAt (segment n) 24 7680 = segData ∧
      bytesAt (segment n) 20 4 = beBytes 4 (crc32c (segHead n ++ segData)) ∧ (segment n).length = 7704 := by
    unfold segment
    generalize crc32c _ = v
    have d : (segHead n ++ beBytes 4 v ++ segData).drop 24 = segData := rfl
    refine ⟨rfl, ?_, rfl, ?_⟩
    · unfold bytesAt
      rw [d]
      simp [segData, -List.reduceReplicate]
    · simp [segHead, beBytes, leBytes, segData, -List.reduceReplicate]
  have e : beNat (bytesAt (segment n) 8 2) = beNat (beBytes 2 n) ∧ beNat (bytesAt (segment n) 10 2) = beNat (beBytes 2 (6 * n)) ∧
      bytesAt (segment n) 2 1 = [1] ∧ bytesAt (segment n) 12 2 = [0, 6] ∧ bytesAt (segment n) 16 4 = [0, 0, 0x12, 0x34] := by
    unfold segment
    generalize crc32c _ = v
    exact ⟨rfl, rfl, rfl, rfl, rfl⟩
  unfold segOk
  simp only [parts, e, c, h, beq_self_eq_true, Bool.and_true, Bool.true_and]
  decide

/-- A damaged segment of frame 9 loses the frame next after frame 8. -/
def nextFrame : State := withKerf (partFrame 5) fun k => { k with received := true, reg := { k.reg with fcnt := 8 } }

theorem witness_KerfAndHeads_segments :
    (headUp.online = true ∧ bytesAt (segment 0) 0 2 = [0x48, 1] ∧ segOk 0x1234 (segment 0) = true ∧ beNat (bytesAt (segment 0) 8 2) = 0 ∧ (headUp.krf 1).headId = 0x1234 ∧ (headUp.krf 1).status = true ∧
      (headUp.krf 1).part = none) ∧
    ((partFrame 5).online = true ∧ bytesAt (segment 5) 0 2 = [0x48, 1] ∧ segOk 0x1234 (segment 5) = true ∧ beNat (bytesAt (segment 5) 8 2) = 5 ∧ beNat (bytesAt (segment 5) 4 4) = 9 ∧
      ((partFrame 5).krf 1).headId = 0x1234 ∧ ((partFrame 5).krf 1).status = true ∧ ((partFrame 5).krf 1).part = some ⟨9, 5, List.replicate 5 [7]⟩) ∧
    ((partFrame 79).online = true ∧ bytesAt (segment 79) 0 2 = [0x48, 1] ∧ segOk 0x1234 (segment 79) = true ∧ beNat (bytesAt (segment 79) 8 2) = 79 ∧ beNat (bytesAt (segment 79) 4 4) = 9 ∧
      ((partFrame 79).krf 1).headId = 0x1234 ∧ ((partFrame 79).krf 1).status = true ∧
      ((partFrame 79).krf 1).part = some ⟨9, 79, List.replicate 79 [7]⟩) ∧
    (nextFrame.online = true ∧ bytesAt (segment 6) 0 2 = [0x48, 1] ∧ (nextFrame.krf 1).status = true ∧ (nextFrame.krf 1).part = some ⟨9, 5, List.replicate 5 [7]⟩ ∧
      (nextFrame.krf 1).received = true ∧ (9 : Word) = (nextFrame.krf 1).reg.fcnt + 1 ∧ (nextFrame.krf 1).headId = 0x1234 ∧
      (nextFrame.krf 1).headId ≠ 0x1235) := by
  refine ⟨⟨by decide +kernel, ?_, segment_ok 0 (by decide), ?_, by decide +kernel⟩,
    ⟨by decide +kernel, ?_, segment_ok 5 (by decide), ?_, ?_, by decide +kernel⟩,
    ⟨by decide +kernel, ?_, segment_ok 79 (by decide), ?_, ?_, by decide +kernel⟩, by decide +kernel, ?_, by decide +kernel⟩ <;>
  · unfold segment
    generalize crc32c _ = v
    rfl

/-- A record of 64 KiB. -/
def bigRec : Rec := { recNo 0 with payload := List.replicate 65536 0 }
/-- Staging with the program's share full. -/
def fullTally : State :=
  let s := withReg fittedRun 3 0x00010400
  { s with tally := { s.tally with staging := [bigRec, bigRec, bigRec, bigRec, bigRec, bigRec, bigRec] } }

/-- Witness for the clause of RecordsAndMessages in which the program's share of staging is full: 459,004 bytes are staged. -/
theorem witness_RecordsAndMessages_full :
    (fullTally.ready = true ∧ fullTally.eng.sq = [] ∧ (0xFE : BitVec 8) ≠ 0xFF ∧ fullTally.tally.starting = false ∧
      fullTally.tally.reg.stat.spare = false ∧ (fullTally.r 3).toNat % 65536 = 1024 ∧ (fullTally.r 6).toNat % 4 = 0 ∧
      inData (fullTally.r 6).toNat 1024 = true) ∧ 458752 ≤ fullTally.tally.fill := by
  refine ⟨by decide +kernel, ?_⟩
  have h : bigRec.size = 65572 := by
    simp [Rec.size, bigRec, recNo, -List.reduceReplicate]
  show 458752 ≤ ([bigRec, bigRec, bigRec, bigRec, bigRec, bigRec, bigRec].map Rec.size).sum
  simp [h]

/-- Bank 0 holds a package, bank 1 none. -/
def onePackage : State := { State.reset with tru := { State.reset.tru with banks := #v[[1, 2, 3], []] } }

theorem witness_ResetAndStart_boots (hs : Config.fwSigOk [1, 2, 3] = true) (hp : Config.fwPart [1, 2, 3] = 0x6448) :
    onePackage.releases = some .power ∧ onePackage.boot.chilled = false ∧ -40 ≤ bootIn.tcs.toInt ∧ onePackage.tru.restart.chooseBank ≠ none := by
  refine ⟨by decide +kernel, by decide +kernel, by decide, ?_⟩
  have go : ∀ t : Security, t.banks = #v[[1, 2, 3], []] → t.rbfw = 0 → t.chooseBank ≠ none := by
    intro t hb hr
    simp [Security.chooseBank, Security.fwOk, hb, hr]
    exact ⟨hs, hp⟩
  refine go _ ?_ ?_
  · unfold Security.restart
    dsimp only
    split <;> rfl
  · unfold Security.restart
    dsimp only
    split <;> rfl

/-- The rollback counter stands above the package. -/
def highCounter : State := serviceOpen.modTru fun t => { t with rbfw := 6 }

theorem witness_TrustRequests_firmware (hs : Config.fwSigOk nonce = true) (hr : Config.fwRollback nonce = 5)
    (hp : Config.fwPart nonce = 0x6448) (hn : Config.fwSigOk [1] = false) :
    (openWith serviceOpen 0 .service ∧ serviceOpen.tru.fwBuf = [] ∧ serviceOpen.tru.fwTotal = none ∧ nonce ≠ [] ∧ nonce.length = 32 ∧
      Config.fwSigOk nonce = true ∧ serviceOpen.tru.rbfw.toNat ≤ (Config.fwRollback nonce).toNat ∧ Config.fwPart nonce = 0x6448) ∧
    (openWith highCounter 0 .service ∧ highCounter.tru.fwBuf = [] ∧ highCounter.tru.fwTotal = none ∧
      (Config.fwRollback nonce).toNat < highCounter.tru.rbfw.toNat) ∧
    (([1] : List Byte) ≠ [] ∧ Config.fwSigOk [1] = false) := by
  rw [hr]
  exact ⟨⟨⟨by decide +kernel, by decide +kernel, _, rfl, by decide +kernel⟩, by decide +kernel, by decide +kernel, by decide +kernel, by decide +kernel, hs,
    by decide +kernel, hp⟩, ⟨⟨by decide +kernel, by decide +kernel, _, rfl, by decide +kernel⟩, by decide +kernel, by decide +kernel, by decide +kernel⟩,
    by decide, hn⟩

/-- The service session is open and the ENVELOPE anchor is loaded. -/
def envelopeAnchored : State := serviceOpen.modTru fun t => { t with anchors := t.anchors.set 2 (some []) }

theorem witness_TrustRequests_certificate (h : Config.sigOk [] (oneEntry.take 96) (bytesAt oneEntry 96 96) = true) :
    openWith envelopeAnchored 0 .service ∧ certLayout oneEntry = true ∧
    certOk envelopeAnchored.tru.anchors[2] envelopeAnchored.tru.rbenv envelopeAnchored.tru.serial oneEntry = true := by
  refine ⟨⟨by decide +kernel, by decide +kernel, _, rfl, by decide +kernel⟩, by decide +kernel, ?_⟩
  have n : 64 + 32 * certCount oneEntry = 96 := by decide +kernel
  have k : envelopeAnchored.tru.anchors[2] = some [] := by decide +kernel
  unfold certOk
  rw [k, n]
  show (_ && Config.sigOk _ _ _) = true
  rw [h, Bool.and_true]
  decide +kernel

/-- The image `c` waits in LANDING for the end of its verification, which the third session asked for. -/
def verifying (c : List Byte) : State := withLanding (withSes (stopped 1) 2 2) fun l =>
  { landState .verifying l with owner := some 2, landing := c, total := c.length, verifier := some (2, 5) }

theorem witness_LandingAndSwitch_verified (c : List Byte) (h : (verifying c).verifyCode c = 0) :
    (verifying c).online = true ∧ (verifying c).lnd.reg.stat.state = .verifying ∧ (verifying c).lnd.activate = false ∧ (verifying c).lnd.verifier = some (2, 5) ∧
    (verifying c).verifyCode (verifying c).lnd.landing = 0 := ⟨rfl, rfl, rfl, rfl, h⟩

/-! ### WellFormed refuses ill-formed commands -/

theorem test_condition_17_is_refused : [Instr.br 17 0, .brl 17 0, .bcc 17].map Instr.wellFormed = [false, false, false] := by decide
theorem test_condition_16_is_accepted : [Instr.br 16 0, .brl 16 0, .bcc 16].map Instr.wellFormed = [true, true, true] := by decide
theorem test_shift_word_of_8_bits_is_refused : [Instr.shi 1 2 127, .shi 1 2 128].map Instr.wellFormed = [true, false] := by decide
theorem test_axis_number_64_is_refused :
    [Instr.mtgt 1 2 64 .none, .mvlim 1 2 64, .mcmd 1 2 64, .mstat 1 64, .mpos 1 64, .bhit 1 64, .brearm 1 2 64, .mtgt 1 2 0xFF .none].map
      Instr.wellFormed = [false, false, false, false, false, false, false, true] := by decide
theorem test_portal_number_16_is_refused :
    [Instr.mleaf 1 2 16 .none, .mleaf 1 2 0xFF .none, .pcmd 1 2 16, .pcmd 1 2 15].map Instr.wellFormed = [false, false, false, true] := by decide
theorem test_channel_number_48_is_refused :
    [Instr.lsw 1 2 48 .none, .lswb 1 48 .none, .lsw 1 2 47 .none].map Instr.wellFormed = [false, false, true] := by decide
theorem test_record_subtype_255_is_refused : [Instr.trec 1 2 0xFF, .tword 1 2 0xFF, .tword 1 2 0xFE].map Instr.wellFormed =
    [false, false, true] := by decide
theorem test_mailbox_number_64_is_refused :
    [Instr.mbsend 1 2 64, .mbrecv 1 2 64, .mbstat 1 64, .mbstat 1 63].map Instr.wellFormed = [false, false, false, true] := by decide

theorem length_ones (n : Nat) : (List.replicate n (1 : Byte)).length = n := List.length_replicate

theorem test_frames_beyond_their_limit_are_refused :
    (Instr.depthSegment 0 (List.replicate 9001 1) true).wellFormed = false ∧ (Instr.panelReply 0 (List.replicate 1501 1)).wellFormed = false ∧
    (Instr.telegramReceive true (List.replicate 1501 1)).wellFormed = false ∧
    (Instr.pdInputReceive (List.replicate 1501 1)).wellFormed = false := by
  simp only [Instr.wellFormed, fitsFrame, fitsJumbo, length_ones]
  decide
theorem test_messages_beyond_their_link_are_refused :
    (Instr.mailboxArrival (.can 0) 0 0 0 (List.replicate 65 1)).wellFormed = false ∧
    (Instr.mailboxArrival (.ser 0) 0 0 0 (List.replicate 1025 1)).wellFormed = false ∧
    (Instr.mailboxArrival .udp 0 0 0 (List.replicate 1473 1)).wellFormed = false ∧
    (Instr.serialMessageEnd 0 (List.replicate 1025 1)).wellFormed = false := by
  simp only [Instr.wellFormed, length_ones]
  decide
theorem test_payloads_beyond_the_greatest_message_are_refused :
    (Instr.write 0 1 2 (List.replicate 4194311 0)).wellFormed = false ∧ (Instr.landData 0 1 2 (List.replicate 16777245 1)).wellFormed = false ∧
    (Instr.fwWrite 0 1 2 3 (List.replicate 16777241 1)).wellFormed = false ∧ (Instr.envWrite 0 1 (List.replicate 16777249 1)).wellFormed = false ∧
    (Instr.anchorWrite 0 1 2 (List.replicate 16777249 1)).wellFormed = false ∧
    (Instr.attest 0 1 (List.replicate 16777249 1)).wellFormed = false := by
  simp only [Instr.wellFormed, maxMessage, List.length_replicate]
  decide

/-! ### Instruction words, written out from the encoding forms (R289, Tables 11-1 and 11-2) -/

theorem test_word_sub : decodeFilif 0b000000_00011_00001_00010_00000_000010 = some (.sub 3 1 2) := by decide
theorem test_word_shi : decodeFilif 0b001110_00101_00110_0000000000100011 = some (.shi 5 6 0x23) := by decide
theorem test_word_reserved_op : decodeFilif 0b111111_00000_00000_0000000000000000 = none := by decide

/-! ### Single steps, by the spec's tables -/

/-- The state after a command, where it has one. -/
def after (i : Instr) (s : State) : State :=
  match exec i s with
  | .next t => t
  | _ => s


/-- Z, N, C and V of the cycle's bank. -/
def flags (s : State) : List Bool := let k := s.eng.banks[0]
                                     [k.z, k.n, k.c, k.v]
/-- L4 and L5 hold the two words. -/
def two (x y : Word) : State := withReg (withReg aluState 4 x) 5 y

/-- Table 11-4, Table 11-1: a sum that wraps to 0 sets Z and C and leaves N and V 0. -/
theorem test_add_wraps : let t := after (.add 3 4 5) (two 0xFFFFFFFF 1)
    t.r 3 = 0 ∧ flags t = [true, false, true, false] := by decide +kernel
/-- The signed sum that leaves the range sets V. -/
theorem test_add_overflows : flags (after (.add 3 4 5) (two 0x7FFFFFFF 1)) = [false, true, false, true] := by decide +kernel
/-- C = 1 after a subtraction without a borrow, 0 with one (condition CC is unsigned less). -/
theorem test_cmp_borrow : flags (after (.cmp 4 5) (two 3 5)) = [false, true, false, false] ∧
    flags (after (.cmp 4 5) (two 5 5)) = [true, false, true, false] := by decide +kernel
/-- ADDS clamps and sets V. -/
theorem test_adds_clamps : let t := after (.adds 3 4 5) (two 0x80000000 0xFFFFFFFF)
    t.r 3 = 0x80000000 ∧ flags t = [false, true, true, true] := by decide +kernel
/-- R294: a shift by 0 leaves C; R294: a shift amount is the low five bits. -/
theorem test_shift_by_32_is_by_0 : let t := after (.shl 3 4 5) (two 0x80000001 32)
    t.r 3 = 0x80000001 ∧ flags t = [false, true, true, false] := by decide +kernel
/-- SAR by 4 brings copies of bit 31 in; C is the last bit out. -/
theorem test_sar : let t := after (.sar 3 4 5) (two 0x80000008 4)
    t.r 3 = 0xF8000000 ∧ (flags t)[2]? = some true := by decide +kernel
/-- Table 11-6: type 0b11 of SHI rotates right, here by 4, and C is bit 31 of the result. -/
theorem test_shi_rotates : let t := after (.shi 3 4 0x64) (two 0x12345678 0)
    t.r 3 = 0x81234567 ∧ (flags t)[2]? = some true := by decide +kernel
/-- R295: division by 0, with V. -/
theorem test_div_by_zero : let t := after (.div 3 4 5) (two 77 0)
    t.r 3 = 0 ∧ flags t = [true, false, true, true] := by decide +kernel
/-- R295: the remainder of a division by 0 is La. -/
theorem test_rem_by_zero : (after (.rem 3 4 5) (two 77 0)).r 3 = 77 := by decide +kernel
/-- R295: a signed remainder has the sign of the dividend. -/
theorem test_rem_sign : (after (.rem 3 4 5) (two (-7) 2)).r 3 = -1 := by decide +kernel
/-- R295: the greatest quotient does not fit. -/
theorem test_div_of_least : let t := after (.div 3 4 5) (two 0x80000000 0xFFFFFFFF)
    t.r 3 = 0x80000000 ∧ flags t = [false, true, true, true] := by decide +kernel
/-- R303: a JRL whose Ld names La jumps to the old La, with bits 1 and 0 ignored. -/
theorem test_jrl_same_register : let t := after (.jrl 4 4) (two 0x207 0)
    t.eng.banks[0].pc = 0x204 ∧ t.r 4 = 0x104 := by decide +kernel
/-- R302: BRL links to L31 and reaches backwards from its own address. -/
theorem test_brl_backwards : let t := after (.brl 0 0x1FFFFF) aluState
    t.eng.banks[0].pc = 0xFC ∧ t.r 31 = 0x104 := by decide +kernel
/-- R297: LDB extends the sign, LDBU does not; the byte at the lowest address is the word's lowest. -/
theorem test_ldb_extends : (after (.ldb 3 6 0 .none) pointingAtWord).r 3 = 0xFFFFFFA1 ∧
    (after (.ldbu 3 6 3 .none) pointingAtWord).r 3 = 0x87 := by decide +kernel
/-- R297: a misaligned load returns 0. -/
theorem test_misaligned_load : (after (.ldw 3 6 2 .none) pointingAtWord).r 3 = 0 := by decide +kernel
/-- R300: CANDN of a set bit clears B. -/
theorem test_candn : (after (.candn 31 6 0 .none) pointingAtWord).eng.banks[0].b = false := by decide +kernel
/-- Table 11-9: RST writes B into one bit. -/
theorem test_rst_keeps_other_bits : (after (.rst 4 7) (two 0xF00F 0)).r 4 = 0xF08F := by decide +kernel
/-- Table 11-10: RDF's layout. -/
theorem test_rdf : (after (.rdf 3) (two 0 0)).r 3 = 0b10100 := by decide +kernel
/-- Table 11-11: code 2 with Z clear for an address in no stageable block. -/
theorem test_commit_no_block : let t := after (.commit 3 6 .none) pointing
    t.r 3 = 2 ∧ t.eng.banks[0].z = false := by decide +kernel

/-! ### The worked examples of the spec -/

/-- Table 11-14: the eleven words of the lamp rung. -/
theorem test_lamp_rung_words :
    [0x34202000, 0x34400100, 0x80011510, 0x90620040, 0x89810074].map decodeFilif =
      [some (.lui 1 0x2000), some (.lui 2 0x100), some (.cld 0 1 0x1510 .none), some (.cor 3 2 0x40 .none), some (.cand 12 1 0x74 .none)] ∧
    [0xA0020044, 0x08600014, 0x34802300, 0x20A40440, 0x6065000C, 0xE0C51000].map decodeFilif =
      [some (.cst 0 2 0x44 .none), some (.bget 3), some (.lui 4 0x2300), some (.addi 5 4 0x440), some (.stw 3 5 0xC),
        some (.commit 6 5 .none)] := by decide +kernel
/-- Table 5-5: the position gains of AX-20. -/
def positionTable : Vector Word 32 := Vector.ofFn fun i : Fin 32 => BitVec.ofNat 32 (65536 * (10 + 5 * min i.val 6))
theorem test_position_gains : [gainAt positionTable 7 300, gainAt positionTable 7 50, gainAt positionTable 7 2000].map (· * 1000000) =
    [21718750 * 65536, 11953125 * 65536, 40000000 * 65536] := by decide +kernel
/-- The entry of AX-20 under Table 17-3. -/
def entry20 : List Byte := [0x14, 0x01, 0x8C, 0x00, 0x90, 0x01, 0x02, 0x00, 0xE8, 0x03, 0x40, 0x01, 0x10, 0x27, 0x5A, 0x00,
  0xF0, 0x0A, 0x90, 0x01, 0x00, 0xA0, 0x0F, 0x00, 0, 0, 0, 0, 0, 0, 0, 0]
theorem test_envelope_entry : entryOk entry20 = true ∧ entryZeros entry20 = true ∧
    let r := Axc.entryEnv {} entry20
    r.envf = { fc := 140, fo := 400, tf := 2 } ∧ r.envv = { v := 1000, mass := 320 } ∧ r.enve = 10000 ∧ r.envi = 90 ∧
      r.envk = { kf := 2800, frmax := 400 } ∧ r.envs = 1024000 := by decide +kernel
/-- The band of P-03 at G = 220 mm and at G = 0. -/
theorem test_kerf_band : let s := withKerf leavesMove fun k => { k with reg := { k.reg with kpx := 931 } }
    s.band 1 2200 = (281, 359) ∧ s.band 1 0 = (306, 334) := by decide +kernel
/-- The sixteenth switch-off of LS-15 reaches 2,084 mJ and locks the channel off, the fifteenth does not. -/
theorem test_choker_locks :
    let at_ := fun n : Nat => (after (.clampMeasurementComplete 3 224000) (withSwitch leavesMove fun c => { c with clamping := true, acc := n })).chan 3
    (at_ 1860000).choked = true ∧ (at_ 1736000).choked = false := by decide +kernel

end Sys2Proof.Tests
end

section
/-! SUPPORT. Register accesses by a context (R5, R8, R26, R249, R282): what a permitted access, a refused one, the latched halves and the
words of memory give, and from that the statement RegisterAccesses. -/

namespace Sys2Proof.Machine

/-! ### An empty store queue -/

theorem State.drainAll_of_sq_nil {s : State} (h : s.eng.sq = []) : s.drainAll = s := by
  simp [State.drainAll, State.drain, h]

theorem State.drainFor_of_sq_nil {s : State} (h : s.eng.sq = []) (a n : Nat) : s.drainFor a n = s := by
  simp [State.drainFor, drainDepth, State.drain, h]

/-! ### The four commands in a running module -/

theorem exec_registerWrite_refused {s : State} (c : Fin 5) {a : Word} (w : Word) (hon : s.online = true)
    (ha : mayWrite a.toNat 4 = false) : exec (.registerWrite c a w) s = .next (s.violation a) := by
  change execRegisterWrite c a w s = _
  simp [execRegisterWrite, hon, ha]

theorem exec_registerWrite_permitted {s : State} (c : Fin 5) {a : Word} (w : Word) (hon : s.online = true) (hq : s.eng.sq = [])
    (ha : mayWrite a.toNat 4 = true) :
    exec (.registerWrite c a w) s = .next (s.poke c false a.toNat w (BitVec.allOnes 32)) := by
  change execRegisterWrite c a w s = _
  simp [execRegisterWrite, hon, ha, State.drainAll_of_sq_nil hq]

theorem exec_loHalfRead_online {s : State} (c : Fin 5) (a : Word) (hon : s.online = true) :
    exec (.loHalfRead c a) s = .next (s.busRead c a) := by
  change execLoHalfRead c a s = _
  simp [execLoHalfRead, hon]

theorem exec_rcFieldRead_online {s : State} (c : Fin 5) (a : Word) (hon : s.online = true) :
    exec (.rcFieldRead c a) s = .next (s.busRead c a) := by
  change execRcFieldRead c a s = _
  simp [execRcFieldRead, hon]

theorem exec_edgeQueueRead_online {s : State} (c : Fin 5) (hon : s.online = true) :
    exec (.edgeQueueRead c) s = .next (s.busRead c 0x24000340) := by
  change execEdgeQueueRead c s = _
  simp [execEdgeQueueRead, hon]

/-- A permitted read touches the word and sends what the reader saw before that. -/
theorem State.busRead_permitted {s : State} (c : Fin 5) {a : Word} (hq : s.eng.sq = []) (ha : mayRead a.toNat 4 = true) :
    s.busRead c a = (s.touch c.val a.toNat (BitVec.allOnes 32)).send (.value c.val a.toNat (s.peek c.val a.toNat)) := by
  simp [State.busRead, ha, State.drainFor_of_sq_nil hq]

/-! ### Latched halves (R26) -/

@[simp] theorem State.latchGet_latchPut (s : State) (r n : Nat) (w : Word) : (s.latchPut r n w).latchGet r n = w := by
  simp [State.latchGet, State.latchPut]

/-- A latch put for one reader and address leaves every other reader's and address's half. -/
theorem State.latchGet_latchPut_ne (s : State) {r n r' n' : Nat} (w : Word) (h : r' ≠ r ∨ n' ≠ n) :
    (s.latchPut r n w).latchGet r' n' = s.latchGet r' n' := by
  have hput : (r == r' && n == n') = false := by
    rcases h with h | h <;> simp [h.symm]
  have hkept : ∀ e : Nat × Nat × Word, (!(e.1 == r && e.2.1 == n) && (e.1 == r' && e.2.1 == n')) = (e.1 == r' && e.2.1 == n') := by
    intro e
    by_cases he : e.1 = r' ∧ e.2.1 = n'
    · rcases h with h | h <;> simp [he.1, he.2, h]
    · rw [show (e.1 == r' && e.2.1 == n') = false by simpa using he, Bool.and_false]
  simp only [State.latchGet, State.latchPut, List.find?_cons, hput, List.find?_filter, Bool.decide_and, Bool.decide_eq_true, hkept]

@[simp] theorem State.latchGet_send (s : State) (o : Output) (r n : Nat) : (s.send o).latchGet r n = s.latchGet r n := rfl

/-! ### Words of memory (R11) -/

@[simp] theorem leBytes_length (n v : Nat) : (leBytes n v).length = n := by
  induction n generalizing v with
  | zero => rfl
  | succ n ih => simp [leBytes, ih]

theorem leNat_leBytes (n v : Nat) : leNat (leBytes n v) = v % 256 ^ n := by
  induction n generalizing v with
  | zero => simp [leBytes, leNat, Nat.mod_one]
  | succ n ih => rw [leBytes, leNat, ih, Nat.pow_succ', Nat.mod_mul, BitVec.toNat_ofNat]

theorem State.bytes_eq (s : State) (a : Nat) (bs : List Byte) (h : ∀ (i : Nat) (hi : i < bs.length), s.byte (a + i) = bs[i]) :
    s.bytes a bs.length = bs := by
  induction bs generalizing a with
  | nil => rfl
  | cons b bs ih =>
    have htail : s.bytes (a + 1) bs.length = bs :=
      ih (a + 1) fun i hi => by rw [Nat.add_assoc, Nat.add_comm 1 i]; exact h (i + 1) (Nat.succ_lt_succ hi)
    simp only [List.length_cons, State.bytes, htail, List.cons.injEq, and_true]
    exact h 0 (by simp)

/-- Bytes read back after they were written. -/
theorem State.bytes_setBytes {s : State} (a : Nat) (bs : List Byte) (h : s.memOk) : (s.setBytes a bs).bytes a bs.length = bs :=
  State.bytes_eq _ a bs fun i hi => Mem.read_writeList_in a bs i hi h

/-- A word read back after it was written. -/
theorem State.memWord_setWord {s : State} (a : Nat) (w : Word) (h : s.memOk) : (s.setWord a w).memWord a = w := by
  have hb : (s.setWord a w).bytes a 4 = leBytes 4 w.toNat := State.bytes_setBytes a (leBytes 4 w.toNat) h
  have hw : w.toNat % 256 ^ 4 = w.toNat := Nat.mod_eq_of_lt w.isLt
  rw [State.memWord, hb, leNat_leBytes, hw, BitVec.ofNat_toNat, BitVec.setWidth_eq]

theorem State.byte_setWord_out (s : State) (a x : Nat) (w : Word) (hx : x < a ∨ a + 4 ≤ x) : (s.setWord a w).byte x = s.byte x :=
  Mem.read_writeList_out a x (leBytes 4 w.toNat) (by simpa using hx)

/-- A write that covers a whole field replaces it. -/
theorem fmix_allOnes {n : Nat} (old new : BitVec n) : fmix old new (BitVec.allOnes n) = new := by
  simp [fmix]

theorem getF_allOnes16 : getF (BitVec.allOnes 32) 0 16 = BitVec.allOnes 16 := by decide

/-! ### The addresses used (Table 1-7, Table 10-7) -/

theorem wordOf_aligned {a : Nat} (h : a % 4 = 0) : wordOf a = a := by
  unfold wordOf; omega

theorem mayRead_word {a : Nat} (h : a % 4 = 0) : mayRead a 4 = (placeOf a).progRead := by
  simp [mayRead, wordOf_aligned h, h]

theorem mayWrite_word {a : Nat} (h : a % 4 = 0) : mayWrite a 4 = (placeOf a).progWrite a := by
  simp [mayWrite, wordOf_aligned h, h]

theorem placeOf_axis (x : AxisIx) {off : Nat} (h : off < 0x1000) : placeOf (0x21000000 + 0x1000 * x.val + off) = .axis x off := by
  have hx := x.isLt
  have hi : (0x21000000 + 0x1000 * x.val + off - 0x21000000) / 0x1000 % 64 = x.val := by omega
  have ho : (0x21000000 + 0x1000 * x.val + off) % 0x1000 = off := by omega
  unfold placeOf
  rw [if_neg (by omega), if_neg (by simp only [dataBase, dataEnd, inBase, outEnd]; omega), if_pos (by omega)]
  simp only [hi, ho]

theorem placeOf_mailbox (m : Fin 64) {off : Nat} (h : off < 0x1000) :
    placeOf (0x28000000 + 0x1000 * m.val + off) = .mailbox m off := by
  have hm := m.isLt
  have hi : (0x28000000 + 0x1000 * m.val + off - 0x28000000) / 0x1000 % 64 = m.val := by omega
  have ho : (0x28000000 + 0x1000 * m.val + off) % 0x1000 = off := by omega
  unfold placeOf
  rw [if_neg (by omega), if_neg (by simp only [dataBase, dataEnd, inBase, outEnd]; omega), if_neg (by omega), if_neg (by omega),
    if_neg (by omega), if_neg (by omega), if_neg (by omega), if_neg (by omega), if_neg (by omega), if_pos (by omega)]
  simp only [hi, ho]

theorem placeOf_mailboxWord (m : Fin 64) : placeOf (0x28000000 + 0x1000 * m.val) = .mailbox m 0 :=
  placeOf_mailbox m (off := 0) (by decide)

/-- The word before a mailbox word is no _LO register: it lies in the mailbox before, or nowhere. -/
theorem State.isLatched_mailboxWord (s : State) (m : Fin 64) : s.isLatched (0x28000000 + 0x1000 * m.val) = false := by
  have hne : ∀ n < 0x28000000, (0x28000000 + 0x1000 * m.val == n) = false := fun n hn => by
    rw [beq_eq_false_iff_ne]; omega
  have hpair : s.pair64 (placeOf (0x28000000 + 0x1000 * m.val - 4)) = none := by
    by_cases h0 : m.val = 0
    · rw [h0]; rfl
    · have hp : 0x28000000 + 0x1000 * m.val - 4 = 0x28000000 + 0x1000 * (m.val - 1) + 0xFFC := by omega
      rw [hp, placeOf_mailbox ⟨m.val - 1, by omega⟩ (by decide)]
      rfl
  simp [State.isLatched, hne, hpair]

/-! ### What a write does -/

theorem State.poke_memory (s : State) (c : Fin 5) (svc : Bool) {a : Nat} (w k : Word) (h : placeOf a = .memory) :
    s.poke c svc a w k = s.setWord a (fmix (s.memWord a) w k) := by
  simp [State.poke, h]

theorem State.poke_axis (s : State) (c : Fin 5) (svc : Bool) {a off : Nat} {x : AxisIx} (w k : Word) (h : placeOf a = .axis x off) :
    s.poke c svc a w k = s.writeAxis x off w k svc := by
  simp [State.poke, h]

/-- R33: a write to AXC.VLIM of a fitted axis is staged. -/
theorem State.writeAxis_vlim {s : State} {x : AxisIx} (w k : Word) (svc : Bool) (h : s.fitted x = true) :
    s.writeAxis x 0x14 w k svc = s.modAxis x fun y => { y with sVlim := fmix y.sVlim (getF w 0 16) (getF k 0 16), vlimSet := true } := by
  simp [State.writeAxis, h]

/-! ### What a read sees and does -/

theorem State.peek_pair {s : State} (r : Nat) {a v : Nat} (h : s.pair64 (placeOf a) = some v) : s.peek r a = BitVec.ofNat 32 v := by
  simp [State.peek, h]

theorem State.touch_pair {s : State} (r : Nat) {a v : Nat} (k : Word) (h : s.pair64 (placeOf a) = some v) :
    s.touch r a k = s.latchPut r (a + 4) (BitVec.ofNat 32 (v / 2 ^ 32)) := by
  simp [State.touch, h]

theorem State.peek_mailboxWord (s : State) (r : Nat) (m : Fin 64) : s.peek r (0x28000000 + 0x1000 * m.val) = s.mailboxStatus m := by
  simp [State.peek, placeOf_mailboxWord, State.pair64, State.isLatched_mailboxWord]

/-- R8, Table 15-11: a read of a whole mailbox word clears its two event bits. -/
theorem State.touch_mailboxWord (s : State) (r : Nat) (m : Fin 64) :
    s.touch r (0x28000000 + 0x1000 * m.val) (BitVec.allOnes 32) = s.modMbox m fun x => { x with ovf := false, txerr := false } := by
  simp [State.touch, placeOf_mailboxWord, State.pair64]

@[simp] theorem State.modMbox_get (s : State) (m : Fin 64) (f : Mailbox → Mailbox) :
    (s.modMbox m f).net.mbox[m.val] = f s.net.mbox[m.val] := by
  simp [State.modMbox]

theorem placeOf_edgeQueue : placeOf 0x24000340 = .field 0x340 := rfl

theorem State.peek_edgeQueue (s : State) (r : Nat) : s.peek r 0x24000340 = s.fioRead 0x340 := rfl

theorem State.touch_edgeQueue (s : State) (r : Nat) (k : Word) : s.touch r 0x24000340 k = (s.takeEdge r).1 := rfl

/-- R249: FIO.EQ shows the oldest edge with VALID set. -/
theorem State.fioRead_edgeQueue_cons {s : State} {e : Edge} {es : List Edge} (h : s.fio.queue = e :: es) :
    s.fioRead 0x340 = putV e.input 0 ||| putB e.level 8 ||| putB true 31 := by
  simp [State.fioRead, h]

theorem State.fioRead_edgeQueue_nil {s : State} (h : s.fio.queue = []) : s.fioRead 0x340 = 0 := by
  simp [State.fioRead, h]

theorem State.takeEdge_cons {s : State} (r : Nat) {e : Edge} {es : List Edge} (h : s.fio.queue = e :: es) :
    (s.takeEdge r).1 = ((s.modFio fun x => { x with queue := es }).latchPut r 0x24000344 (BitVec.ofNat 32 e.time)).latchPut r 0x24000348
      (BitVec.ofNat 32 (e.time / 2 ^ 32)) := by
  simp [State.takeEdge, h]

theorem State.takeEdge_nil {s : State} (r : Nat) (h : s.fio.queue = []) : (s.takeEdge r).1 = s := by
  simp [State.takeEdge, h]

/-! ### Each kind of access -/

theorem registerWrite_refused {s : State} (c : Fin 5) {a : Word} (w : Word) (hon : s.online = true)
    (ha : mayWrite a.toNat 4 = false) : completes (.registerWrite c a w) s (fun t => changesOnly [.eng] s t ∧
      t.eng = { s.eng with sys := { s.eng.sys with violn := satInc s.eng.sys.violn, viola := a } }) :=
  ⟨_, exec_registerWrite_refused c w hon ha, changesOnly_of_mask _ _ _ (State.violation_mask _ _ _ (by decide)),
    State.violation_eng s a⟩

theorem registerWrite_memory {s : State} (c : Fin 5) {a : Word} (w : Word) (hon : s.online = true) (hq : s.eng.sq = [])
    (hal : a.toNat % 4 = 0) (hin : inData a.toNat 4 = true) (hm : s.memOk) :
    completes (.registerWrite c a w) s (fun t => changesOnly [.mem] s t ∧ t.memWord a.toNat = w ∧ t.memOk ∧
      ∀ x : Nat, x < a.toNat ∨ a.toNat + 4 ≤ x → t.byte x = s.byte x) := by
  have hplace : placeOf a.toNat = .memory := wordOf_aligned hal ▸ placeOf_memory (.inl hin) (by decide)
  have hmay : mayWrite a.toNat 4 = true := by
    simp [mayWrite_word hal, hplace, Place.progWrite, inData] at hin ⊢; omega
  have hpoke : s.poke c false a.toNat w (BitVec.allOnes 32) = s.setWord a.toNat w := by
    rw [State.poke_memory _ _ _ _ _ hplace, fmix_allOnes]
  exact ⟨_, hpoke ▸ exec_registerWrite_permitted c w hon hq hmay,
    changesOnly_of_mask _ _ _ (State.setWord_mask _ _ _ _ (by decide)), State.memWord_setWord _ w hm,
    State.setBytes_memOk _ _ hm, fun x hx => State.byte_setWord_out s _ x w hx⟩

theorem registerWrite_vlim {s : State} (c : Fin 5) (x : AxisIx) (w : Word) (hon : s.online = true) (hq : s.eng.sq = [])
    (hf : s.fitted x = true) :
    completes (.registerWrite c (BitVec.ofNat 32 (0x21000014 + 0x1000 * x.val)) w) s (fun t => changesOnly [.axes] s t ∧
      t.axis x = { s.axis x with sVlim := getF w 0 16, vlimSet := true } ∧ ∀ y : AxisIx, y ≠ x → t.axis y = s.axis y) := by
  have hx := x.isLt
  have haddr : (BitVec.ofNat 32 (0x21000014 + 0x1000 * x.val)).toNat = 0x21000000 + 0x1000 * x.val + 0x14 := by
    rw [BitVec.toNat_ofNat]; omega
  have hplace : placeOf (BitVec.ofNat 32 (0x21000014 + 0x1000 * x.val)).toNat = .axis x 0x14 :=
    haddr ▸ placeOf_axis x (by decide)
  have hmay : mayWrite (BitVec.ofNat 32 (0x21000014 + 0x1000 * x.val)).toNat 4 = true := by
    rw [mayWrite_word (by omega), hplace]; rfl
  have hpoke : s.poke c false (BitVec.ofNat 32 (0x21000014 + 0x1000 * x.val)).toNat w (BitVec.allOnes 32)
      = s.modAxis x fun y => { y with sVlim := getF w 0 16, vlimSet := true } := by
    simp only [State.poke_axis _ _ _ _ _ hplace, State.writeAxis_vlim _ _ _ hf, getF_allOnes16, fmix_allOnes]
  exact ⟨_, hpoke ▸ exec_registerWrite_permitted c w hon hq hmay,
    changesOnly_of_mask _ _ _ (State.modAxis_mask _ _ _ _ (by decide)), State.modAxis_axis _ _ _,
    fun y hy => State.modAxis_axis_ne _ _ _ _ hy.symm⟩

theorem loHalfRead_latches {s : State} (c : Fin 5) {a : Word} {v : Nat} (hon : s.online = true) (hq : s.eng.sq = [])
    (ha : mayRead a.toNat 4 = true) (hv : s.pair64 (placeOf a.toNat) = some v) :
    completes (.loHalfRead c a) s (fun t => changesOnly [.latch, .sent] s t ∧
      t.sent = s.sent ++ [.value c.val a.toNat (BitVec.ofNat 32 v)] ∧
      t.latchGet c.val (a.toNat + 4) = BitVec.ofNat 32 (v / 2 ^ 32) ∧
      ∀ r n : Nat, r ≠ c.val → t.latchGet r n = s.latchGet r n) := by
  refine ⟨_, exec_loHalfRead_online c a hon, ?_⟩
  rw [State.busRead_permitted c hq ha, State.touch_pair _ _ hv, State.peek_pair _ hv]
  refine ⟨changesOnly_of_mask _ _ _ ?_, rfl, by simp, fun r n hr => ?_⟩
  · rw [State.send_mask _ _ _ (by decide), State.latchPut_mask _ _ _ _ _ (by decide)]
  · rw [State.latchGet_send, State.latchGet_latchPut_ne _ _ (.inl hr)]

theorem rcFieldRead_mailbox {s : State} (c : Fin 5) (m : Fin 64) (hon : s.online = true) (hq : s.eng.sq = []) :
    completes (.rcFieldRead c (BitVec.ofNat 32 (0x28000000 + 0x1000 * m.val))) s (fun t => changesOnly [.net, .sent] s t ∧
      t.sent = s.sent ++ [.value c.val (0x28000000 + 0x1000 * m.val) (s.mailboxStatus m)] ∧ (t.net.mbox[m.val]).ovf = false ∧
      (t.net.mbox[m.val]).txerr = false ∧ (t.net.mbox[m.val]).queue = (s.net.mbox[m.val]).queue) := by
  have hm := m.isLt
  have haddr : (BitVec.ofNat 32 (0x28000000 + 0x1000 * m.val)).toNat = 0x28000000 + 0x1000 * m.val := by
    rw [BitVec.toNat_ofNat]; omega
  have hmay : mayRead (BitVec.ofNat 32 (0x28000000 + 0x1000 * m.val)).toNat 4 = true := by
    rw [haddr, mayRead_word (by omega), placeOf_mailboxWord]; rfl
  refine ⟨_, exec_rcFieldRead_online c _ hon, ?_⟩
  rw [State.busRead_permitted c hq hmay, haddr, State.touch_mailboxWord, State.peek_mailboxWord]
  refine ⟨changesOnly_of_mask _ _ _ ?_, rfl, ?_⟩
  · rw [State.send_mask _ _ _ (by decide), State.modMbox_mask _ _ _ _ (by decide)]
  · simp

/-- A read of FIO.EQ shows the head of the queue and takes it. -/
theorem State.busRead_edgeQueue {s : State} (c : Fin 5) (hq : s.eng.sq = []) :
    s.busRead c 0x24000340 = ((s.takeEdge c.val).1).send (.value c.val 0x24000340 (s.fioRead 0x340)) := by
  have haddr : (0x24000340 : Word).toNat = 0x24000340 := rfl
  have hmay : mayRead (0x24000340 : Word).toNat 4 = true := by
    rw [haddr, mayRead_word (by decide), placeOf_edgeQueue]; rfl
  rw [State.busRead_permitted c hq hmay, haddr, State.touch_edgeQueue, State.peek_edgeQueue]

theorem edgeQueueRead_cons {s : State} (c : Fin 5) {e : Edge} {es : List Edge} (hon : s.online = true) (hq : s.eng.sq = [])
    (he : s.fio.queue = e :: es) :
    completes (.edgeQueueRead c) s (fun t => changesOnly [.fio, .latch, .sent] s t ∧ t.fio.queue = es ∧
      t.sent = s.sent ++ [.value c.val 0x24000340 (putV e.input 0 ||| putB e.level 8 ||| putB true 31)] ∧
      t.latchGet c.val 0x24000344 = BitVec.ofNat 32 e.time ∧
      t.latchGet c.val 0x24000348 = BitVec.ofNat 32 (e.time / 2 ^ 32)) := by
  refine ⟨_, exec_edgeQueueRead_online c hon, ?_⟩
  rw [State.busRead_edgeQueue c hq, State.takeEdge_cons _ he, State.fioRead_edgeQueue_cons he]
  refine ⟨changesOnly_of_mask _ _ _ ?_, rfl, rfl, ?_, by simp⟩
  · rw [State.send_mask _ _ _ (by decide), State.latchPut_mask _ _ _ _ _ (by decide), State.latchPut_mask _ _ _ _ _ (by decide),
      State.modFio_mask _ _ _ (by decide)]
  · rw [State.latchGet_send, State.latchGet_latchPut_ne _ _ (.inr (by decide)), State.latchGet_latchPut]

theorem edgeQueueRead_nil {s : State} (c : Fin 5) (hon : s.online = true) (hq : s.eng.sq = []) (he : s.fio.queue = []) :
    completes (.edgeQueueRead c) s (fun t => changesOnly [.sent] s t ∧ t.sent = s.sent ++ [.value c.val 0x24000340 0]) := by
  refine ⟨_, exec_edgeQueueRead_online c hon, ?_⟩
  rw [State.busRead_edgeQueue c hq, State.takeEdge_nil _ he, State.fioRead_edgeQueue_nil he]
  exact ⟨changesOnly_of_mask _ _ _ (State.send_mask _ _ _ (by decide)), rfl⟩

/-- Settles O30, one kind of access after the other. -/
theorem registerAccesses : Obligations.RegisterAccesses := by
  unfold Obligations.RegisterAccesses
  intro s c a w hon hq
  exact ⟨registerWrite_refused c w hon, registerWrite_memory c w hon hq, fun x hf => registerWrite_vlim c x w hon hq hf,
    fun _ ha hv => loHalfRead_latches c hon hq ha hv, fun m => rcFieldRead_mailbox c m hon hq,
    fun _ _ he => edgeQueueRead_cons c hon hq he, edgeQueueRead_nil c hon hq⟩

end Sys2Proof.Machine
end

section
/-! SUPPORT. Memory stays canonical and monotonic time does not run back, whatever the command. -/

namespace Sys2Proof.Machine

theorem stateOf_eq_of_next {o : Out} {s t : State} (h : o = .next t) : stateOf s o = t := by rw [h, stateOf_next]

/-! ### Memory (R40, R282) -/

/-- A Filif word keeps memory canonical: `exec` gives it the meaning that a single step gives it. -/
theorem exec_memOk_of_word {i : Instr} {s : State} (e : s.runInsn i = stateOf s (exec i s)) (h : s.memOk) :
    (stateOf s (exec i s)).memOk := e ▸ State.runInsn_memOk s i h

/-- Every command keeps memory canonical: a Filif word as a single step of it does, an event that writes memory by the lemma on its
meaning, and any other since memory is in its frame. -/
theorem exec_memOk (i : Instr) (s : State) (h : s.memOk) : (stateOf s (exec i s)).memOk := by
  cases i
  case add | adc | sub | sbc | cmp | neg | and_ | or_ | xor_ | andn | tst | not_ | mov | sel | shl | shr | sar | ror | mins | maxs | minu |
    maxu | adds | subs | mul | mulh | mulhu | div | divu | rem | remu | addi | cmpi | andi | ori | xori | lui | shi | tsti | ldw | ldh |
    ldhu | ldb | ldbu | stw | sth | stb | cld | cldn | cand | candn | cor | corn | cxor | cst | cstn | cset | crst | rld | rldn | rand |
    randn | rorContact | rorn | rxor | rst | rstn | rset | rrst | bnot | bone | bzero | bcc | bget | bput | br | brl | jr | jrl | nop |
    eoc | retc | rdf | wrf | fence | commit | bmove | trun | tpre | tres | edr | edf | edlf | ccu | ccd | cload | cres | cpre | lev |
    rtgt | rrate | rrun | rampRset | tadr | mtgt | mleaf | mvlim | mcmd | pcmd | mstat | mpos | bhit | brearm | lsw | lswb | trec |
    tword | mbsend | mbrecv | mbstat =>
    exact exec_memOk_of_word rfl h
  case storeDrain => exact execStoreDrain_memOk _ _ h
  case registerWrite => exact execRegisterWrite_memOk _ _ _ _ h
  case loHalfRead => exact execLoHalfRead_memOk _ _ _ h
  case rcFieldRead => exact execRcFieldRead_memOk _ _ _ h
  case edgeQueueRead => exact execEdgeQueueRead_memOk _ _ h
  case progStop => exact execProgStop_memOk _ h
  case sleepRequest => exact execSleepRequest_memOk _ h
  case snapshot => exact execSnapshot_memOk _ h
  case calloutBudgetExpiry => exact execCalloutBudgetExpiry_memOk _ h
  case cycleWatchdogExpiry => exact execCycleWatchdogExpiry_memOk _ h
  case automaticRestart => exact execAutomaticRestart_memOk _ h
  case blockMoveComplete => exact execBlockMoveComplete_memOk _ _ _ h
  case fabricOperationComplete => exact execFabricOperationComplete_memOk _ _ _ _ h
  case fabricTimeout => exact execFabricTimeout_memOk _ _ _ h
  case imageSwitch => exact execImageSwitch_memOk _ _ h
  case sessionLoss => exact execSessionLoss_memOk _ _ h
  case write => exact execWrite_memOk _ _ _ _ _ h
  case modeRun => exact execModeRun_memOk _ _ _ _ h
  case modeStop => exact execModeStop_memOk _ _ _ _ h
  case modeStep => exact execModeStep_memOk _ _ _ _ h
  case advance => exact execAdvance_memOk _ _ _ _ h
  case ctlInterruption => exact execCtlInterruption_memOk _ _ _ h
  case powerFailStart => exact execPowerFailStart_memOk _ _ _ h
  case halfFailure => exact execHalfFailure_memOk _ _ _ h
  case autoSleep => exact execAutoSleep_memOk _ _ h
  case sleepEntry => exact execSleepEntry_memOk _ h
  case resetRelease => exact execResetRelease_memOk _ _ h
  case startupRunEntry => exact execStartupRunEntry_memOk _ _ h
  case illegalWord => exact execIllegalWord_memOk _ _ h
  case fetchOutsideCode => exact execFetchOutsideCode_memOk _ h
  all_goals
    refine (State.memOk_mask ?_).2 h
    simp only [exec, execEmissionGo_mask, execCmdStop_mask, execCmdHalt_mask, execCmdReref_mask, execCmdDisable_mask, execCmdEnable_mask,
      execBlzrearm_mask, execFmapClear_mask, execCalReq_mask, execGiveupClear_mask, execKrfOpen_mask, execKrfLearn_mask,
      execKrfSnap_mask, execLsbOltest_mask, execEventAck_mask, execTalFlush_mask, execTake_mask, execCmjRes_mask, execSleepCancel_mask,
      execHeadReset_mask, execAxisUpdate_mask, execPlanningPeriod_mask, execFellingEvaluation_mask, execStandstillAtTarget_mask,
      execWarnMet_mask, execMoveinhHoldoffEnd_mask, execMoveTimeout_mask, execUnlockTimeout_mask, execLockTimeout_mask,
      execObstacleDetectionTime_mask, execEdgeObstacle_mask, execEndStopFound_mask, execReferenceTimeout_mask,
      execBridgesOffInStop_mask, execCurrentLoopStep_mask, execSpeedLoopStep_mask, execPositionLoopStep_mask,
      execOvercurrentComparator_mask, execStageOvertemp_mask, execCalibrationStart_mask, execCalibrationComplete_mask,
      execFeedbackEdge_mask, execIndexEvent_mask, execSerialRequest_mask, execSerialWord_mask, execFeedbackStandstill_mask,
      execComparePulseEnd_mask, execDepthSegment_mask, execHeadStatusFrame_mask, execRateCommandRepeat_mask, execDmaComplete_mask,
      execKerfLearnStart_mask, execVerdictIssue_mask, execVerdictLate_mask, execSilentExpiry_mask, execOvrmaxExpiry_mask,
      execOvrstuckClear_mask, execGridInstant_mask, execHingeLinkExchange_mask, execArbitrationTestComplete_mask,
      execHeartbeatAbsent_mask, execFaultLineAssert_mask, execChannelAResetLine_mask, execArsyncExpiry_mask,
      execDegradedWindowExpiry_mask, execChannelAWatchdog_mask, execClockCrosscheck_mask, execTestGap_mask, execSwitchTestPulse_mask,
      execWheelPulse_mask, execWheelPulseCount_mask, execFieldInputEdge_mask, execCouplerCheck_mask, execOutputRefresh_mask,
      execRefreshTimeout_mask, execReadbackDisagree_mask, execFoThermalShutdown_mask, execLsThermalShutdown_mask, execLsLatchClear_mask,
      execLsRetry_mask, execLsRetryCounterReset_mask, execOpenLoadDetect_mask, execOltestStart_mask, execOltestComplete_mask,
      execClampMeasurementComplete_mask, execChokerLeak_mask, execAlbUndervoltage_mask, execAlbReversed_mask, execAlbReturnLoss_mask,
      execAlbOvervoltage_mask, execSupplyHoldoffEnd_mask, execPlwaitExpiry_mask, execPanelReply_mask, execPanelTimeout_mask,
      execPanelFrameRepeat_mask, execCalloutStart_mask, execBreakpoint_mask, execMramWriteComplete_mask, execVerificationComplete_mask,
      execTelegramReceive_mask, execJournalWriteComplete_mask, execDeliveryTimeout_mask, execEntryFree_mask,
      execStatusTelegramSend_mask, execPrpFrameReceive_mask, execUnsupportedFrame_mask, execSupervisionSend_mask, execPathCheck_mask,
      execPdOutputSend_mask, execPdInputReceive_mask, execPdHoldExpiry_mask, execPtpSyncReceive_mask, execPtpLoss_mask,
      execHoldoverExpiry_mask, execSyncPulse_mask, execSyncPulseMissing_mask, execTwinHeartbeatSend_mask, execTwinHeartbeatReceive_mask,
      execTwinTimeout_mask, execMailboxArrival_mask, execCanSendTimeout_mask, execCanBusOffRecovery_mask, execSerialMessageEnd_mask,
      execSessionHandshake_mask, execSessionNop_mask, execRead_mask, execLandBegin_mask, execLandData_mask, execLandVerify_mask,
      execLandActivate_mask, execLandCancel_mask, execLandPrevious_mask, execModeHold_mask, execModeResume_mask, execReset_mask,
      execReref_mask, execRequestCalibration_mask, execRequestRelearn_mask, execRequestOltest_mask, execRequestFlush_mask,
      execForceSet_mask, execForceRelease_mask, execForceList_mask, execTallyRead_mask, execCommission_mask, execAttest_mask,
      execFwWrite_mask, execEnvWrite_mask, execAnchorWrite_mask, execCommand_mask, execTallyFlushComplete_mask, execCtlLow_mask,
      execHeadShed_mask, execLowmotClear_mask, execCtlOvervoltage_mask, execMbusFault_mask, execMbusOvercurrent_mask,
      execInterruptionEnd_mask, execHoldupTest_mask, execNoHalfFlush_mask, execHeadAdmission_mask, execHeadTrip_mask,
      execHeadRetry_mask, execPreheatComplete_mask, execWake_mask, execRetentionLoss_mask, execSupervisorWatchdog_mask,
      execLinkStateChange_mask, execCanBusOff_mask, execFoThermalRestart_mask, execGroupSupplyChange_mask, execSupplyFaultEnd_mask,
      execSessionMalformedMessage_mask, execAttestationReportReady_mask, execStartUpSelfTestComplete_mask,
      reduceCtorEq, beq_eq_false_iff_ne, ne_eq, not_false_eq_true]

theorem State.idle_memOk (s : State) (h : s.memOk) : s.idle.memOk := (State.memOk_mask (State.idle_mask _ s rfl rfl rfl)).2 h

/-- Settles O5: a step is the front command's effect on the state with the rest of the queue, or an idle tick, and each keeps memory
canonical. -/
theorem stepKeepsMemory : Obligations.StepKeepsMemory := by
  unfold Obligations.StepKeepsMemory
  intro s t h hst
  unfold step at hst
  split at hst
  · rw [Host.Outcome.next.injEq] at hst
    exact hst ▸ State.idle_memOk s h
  · next i rest _ =>
    have hrest : (State.memOk { s with pending := rest }) := h
    exact stateOf_eq_of_next hst ▸ exec_memOk i _ hrest

/-! ### Monotonic time (R19, R20) -/

/-- The release that restarts monotonic time at 0: of a POWER reset, or of a start after the retention domain was lost (log 64). -/
def restartsTime (i : Instr) (s : State) : Prop :=
  ∃ b : BootIn, i = .resetRelease b ∧ (s.releases = some .power ∨ s.releases = some .restart ∧ 65536 < b.rtc)

/-- A Filif word does not take monotonic time back: `exec` gives it the meaning that a single step gives it. -/
theorem exec_notBefore_of_word {n0 : Nat} {i : Instr} {s : State} (e : s.runInsn i = stateOf s (exec i s)) (h : s.notBefore n0) :
    (stateOf s (exec i s)).notBefore n0 := e ▸ State.runInsn_notBefore n0 s i h

/-- No command but such a release takes monotonic time back: a Filif word as a single step of it does not, an event that passes time by the
lemma on its meaning, and any other since monotonic time is in its frame. -/
theorem exec_notBefore (n0 : Nat) (i : Instr) (s : State) (hi : ¬ restartsTime i s) (h : s.notBefore n0) :
    (stateOf s (exec i s)).notBefore n0 := by
  cases i
  case add | adc | sub | sbc | cmp | neg | and_ | or_ | xor_ | andn | tst | not_ | mov | sel | shl | shr | sar | ror | mins | maxs | minu |
    maxu | adds | subs | mul | mulh | mulhu | div | divu | rem | remu | addi | cmpi | andi | ori | xori | lui | shi | tsti | ldw | ldh |
    ldhu | ldb | ldbu | stw | sth | stb | cld | cldn | cand | candn | cor | corn | cxor | cst | cstn | cset | crst | rld | rldn | rand |
    randn | rorContact | rorn | rxor | rst | rstn | rset | rrst | bnot | bone | bzero | bcc | bget | bput | br | brl | jr | jrl | nop |
    eoc | retc | rdf | wrf | fence | commit | bmove | trun | tpre | tres | edr | edf | edlf | ccu | ccd | cload | cres | cpre | lev |
    rtgt | rrate | rrun | rampRset | tadr | mtgt | mleaf | mvlim | mcmd | pcmd | mstat | mpos | bhit | brearm | lsw | lswb | trec |
    tword | mbsend | mbrecv | mbstat =>
    exact exec_notBefore_of_word rfl h
  case axisUpdate => exact execAxisUpdate_notBefore _ _ _ h
  case planningPeriod => exact execPlanningPeriod_notBefore _ _ _ h
  case standstillAtTarget => exact execStandstillAtTarget_notBefore _ _ _ h
  case warnMet => exact execWarnMet_notBefore _ _ _ h
  case moveinhHoldoffEnd => exact execMoveinhHoldoffEnd_notBefore _ _ _ h
  case moveTimeout => exact execMoveTimeout_notBefore _ _ _ h
  case unlockTimeout => exact execUnlockTimeout_notBefore _ _ _ h
  case lockTimeout => exact execLockTimeout_notBefore _ _ _ h
  case obstacleDetectionTime => exact execObstacleDetectionTime_notBefore _ _ _ h
  case edgeObstacle => exact execEdgeObstacle_notBefore _ _ _ _ h
  case endStopFound => exact execEndStopFound_notBefore _ _ _ h
  case referenceTimeout => exact execReferenceTimeout_notBefore _ _ _ h
  case bridgesOffInStop => exact execBridgesOffInStop_notBefore _ _ _ h
  case currentLoopStep => exact execCurrentLoopStep_notBefore _ _ _ _ _ _ h
  case speedLoopStep => exact execSpeedLoopStep_notBefore _ _ _ h
  case positionLoopStep => exact execPositionLoopStep_notBefore _ _ _ h
  case calibrationComplete => exact execCalibrationComplete_notBefore _ _ _ _ _ _ h
  case serialRequest => exact execSerialRequest_notBefore _ _ _ h
  case feedbackStandstill => exact execFeedbackStandstill_notBefore _ _ _ h
  case comparePulseEnd => exact execComparePulseEnd_notBefore _ _ _ h
  case rateCommandRepeat => exact execRateCommandRepeat_notBefore _ _ _ h
  case verdictLate => exact execVerdictLate_notBefore _ _ _ h
  case silentExpiry => exact execSilentExpiry_notBefore _ _ _ h
  case ovrmaxExpiry => exact execOvrmaxExpiry_notBefore _ _ _ h
  case ovrstuckClear => exact execOvrstuckClear_notBefore _ _ _ h
  case gridInstant => exact execGridInstant_notBefore _ _ _ _ _ _ h
  case arsyncExpiry => exact execArsyncExpiry_notBefore _ _ h
  case degradedWindowExpiry => exact execDegradedWindowExpiry_notBefore _ _ h
  case channelAWatchdog => exact execChannelAWatchdog_notBefore _ _ h
  case testGap => exact execTestGap_notBefore _ _ _ _ _ _ _ h
  case switchTestPulse => exact execSwitchTestPulse_notBefore _ _ _ _ h
  case couplerCheck => exact execCouplerCheck_notBefore _ _ _ _ h
  case refreshTimeout => exact execRefreshTimeout_notBefore _ _ h
  case readbackDisagree => exact execReadbackDisagree_notBefore _ _ _ _ _ h
  case lsRetry => exact execLsRetry_notBefore _ _ _ h
  case lsRetryCounterReset => exact execLsRetryCounterReset_notBefore _ _ _ h
  case oltestComplete => exact execOltestComplete_notBefore _ _ _ _ h
  case chokerLeak => exact execChokerLeak_notBefore _ _ h
  case snapshot => exact execSnapshot_notBefore _ _ h
  case plwaitExpiry => exact execPlwaitExpiry_notBefore _ _ h
  case panelTimeout => exact execPanelTimeout_notBefore _ _ _ h
  case panelFrameRepeat => exact execPanelFrameRepeat_notBefore _ _ h
  case calloutStart => exact execCalloutStart_notBefore _ _ h
  case cycleWatchdogExpiry => exact execCycleWatchdogExpiry_notBefore _ _ h
  case automaticRestart => exact execAutomaticRestart_notBefore _ _ h
  case imageSwitch => exact execImageSwitch_notBefore _ _ _ h
  case deliveryTimeout => exact execDeliveryTimeout_notBefore _ _ h
  case entryFree => exact execEntryFree_notBefore _ _ h
  case statusTelegramSend => exact execStatusTelegramSend_notBefore _ _ _ h
  case supervisionSend => exact execSupervisionSend_notBefore _ _ h
  case pathCheck => exact execPathCheck_notBefore _ _ h
  case pdOutputSend => exact execPdOutputSend_notBefore _ _ _ h
  case pdHoldExpiry => exact execPdHoldExpiry_notBefore _ _ _ h
  case ptpLoss => exact execPtpLoss_notBefore _ _ h
  case holdoverExpiry => exact execHoldoverExpiry_notBefore _ _ h
  case syncPulseMissing => exact execSyncPulseMissing_notBefore _ _ h
  case twinHeartbeatSend => exact execTwinHeartbeatSend_notBefore _ _ h
  case twinTimeout => exact execTwinTimeout_notBefore _ _ h
  case canSendTimeout => exact execCanSendTimeout_notBefore _ _ _ h
  case sessionLoss => exact execSessionLoss_notBefore _ _ _ h
  case modeStep => exact execModeStep_notBefore _ _ _ _ _ h
  case advance => exact execAdvance_notBefore _ _ _ _ _ h
  case ctlInterruption => exact execCtlInterruption_notBefore _ _ _ _ h
  case interruptionEnd => exact execInterruptionEnd_notBefore _ _ _ _ _ _ h
  case powerFailStart => exact execPowerFailStart_notBefore _ _ _ _ h
  case holdupTest => exact execHoldupTest_notBefore _ _ _ _ h
  case halfFailure => exact execHalfFailure_notBefore _ _ _ _ h
  case noHalfFlush => exact execNoHalfFlush_notBefore _ _ h
  case headAdmission => exact execHeadAdmission_notBefore _ _ _ h
  case headRetry => exact execHeadRetry_notBefore _ _ _ h
  case autoSleep => exact execAutoSleep_notBefore _ _ _ h
  case wake => exact execWake_notBefore _ _ _ _ _ h
  case resetRelease b =>
    have hpower : s.releases ≠ some .power := fun e => hi ⟨b, rfl, .inl e⟩
    have hrtc : s.releases = some .restart → b.rtc ≤ 65536 := fun e => Nat.not_lt.mp fun hb => hi ⟨b, rfl, .inr ⟨e, hb⟩⟩
    exact execResetRelease_notBefore n0 b s hpower hrtc h
  all_goals
    refine (State.notBefore_mask n0 ?_).2 h
    simp only [exec, execStoreDrain_mask, execRegisterWrite_mask, execLoHalfRead_mask, execRcFieldRead_mask, execEdgeQueueRead_mask,
      execEmissionGo_mask, execCmdStop_mask, execCmdHalt_mask, execCmdReref_mask, execCmdDisable_mask, execCmdEnable_mask,
      execBlzrearm_mask, execFmapClear_mask, execCalReq_mask, execGiveupClear_mask, execKrfOpen_mask, execKrfLearn_mask,
      execKrfSnap_mask, execLsbOltest_mask, execProgStop_mask, execEventAck_mask, execTalFlush_mask, execTake_mask, execCmjRes_mask,
      execSleepRequest_mask, execSleepCancel_mask, execHeadReset_mask, execFellingEvaluation_mask, execOvercurrentComparator_mask,
      execStageOvertemp_mask, execCalibrationStart_mask, execFeedbackEdge_mask, execIndexEvent_mask, execSerialWord_mask,
      execDepthSegment_mask, execHeadStatusFrame_mask, execDmaComplete_mask, execKerfLearnStart_mask, execVerdictIssue_mask,
      execHingeLinkExchange_mask, execArbitrationTestComplete_mask, execHeartbeatAbsent_mask, execFaultLineAssert_mask,
      execChannelAResetLine_mask, execClockCrosscheck_mask, execWheelPulse_mask, execWheelPulseCount_mask, execFieldInputEdge_mask,
      execOutputRefresh_mask, execFoThermalShutdown_mask, execLsThermalShutdown_mask, execLsLatchClear_mask, execOpenLoadDetect_mask,
      execOltestStart_mask, execClampMeasurementComplete_mask, execAlbUndervoltage_mask, execAlbReversed_mask, execAlbReturnLoss_mask,
      execAlbOvervoltage_mask, execSupplyHoldoffEnd_mask, execPanelReply_mask, execCalloutBudgetExpiry_mask, execBreakpoint_mask,
      execBlockMoveComplete_mask, execFabricOperationComplete_mask, execFabricTimeout_mask, execMramWriteComplete_mask,
      execVerificationComplete_mask, execTelegramReceive_mask, execJournalWriteComplete_mask, execPrpFrameReceive_mask,
      execUnsupportedFrame_mask, execPdInputReceive_mask, execPtpSyncReceive_mask, execSyncPulse_mask, execTwinHeartbeatReceive_mask,
      execMailboxArrival_mask, execCanBusOffRecovery_mask, execSerialMessageEnd_mask, execSessionHandshake_mask, execSessionNop_mask,
      execRead_mask, execWrite_mask, execLandBegin_mask, execLandData_mask, execLandVerify_mask, execLandActivate_mask,
      execLandCancel_mask, execLandPrevious_mask, execModeRun_mask, execModeStop_mask, execModeHold_mask, execModeResume_mask,
      execReset_mask, execReref_mask, execRequestCalibration_mask, execRequestRelearn_mask, execRequestOltest_mask,
      execRequestFlush_mask, execForceSet_mask, execForceRelease_mask, execForceList_mask, execTallyRead_mask, execCommission_mask,
      execAttest_mask, execFwWrite_mask, execEnvWrite_mask, execAnchorWrite_mask, execCommand_mask, execTallyFlushComplete_mask,
      execCtlLow_mask, execHeadShed_mask, execLowmotClear_mask, execCtlOvervoltage_mask, execMbusFault_mask, execMbusOvercurrent_mask,
      execHeadTrip_mask, execPreheatComplete_mask, execSleepEntry_mask, execRetentionLoss_mask, execStartupRunEntry_mask,
      execSupervisorWatchdog_mask, execLinkStateChange_mask, execCanBusOff_mask, execFoThermalRestart_mask, execGroupSupplyChange_mask,
      execSupplyFaultEnd_mask, execSessionMalformedMessage_mask, execAttestationReportReady_mask, execStartUpSelfTestComplete_mask,
      execIllegalWord_mask, execFetchOutsideCode_mask,
      reduceCtorEq, beq_eq_false_iff_ne, ne_eq, not_false_eq_true]

/-- Settles O6, with the time before the command as the bound. -/
theorem timeNeverRunsBack : Obligations.TimeNeverRunsBack := by
  unfold Obligations.TimeNeverRunsBack
  intro s t i hst hi
  exact stateOf_eq_of_next hst ▸ exec_notBefore s.mono i s hi (Nat.le_refl _)

end Sys2Proof.Machine
end

section
/-! SUPPORT. A step on an empty queue (R16, R19, R20, R390): which message leaves a send mailbox in a tick, what the walk over the mailboxes
leaves of each, and from that the statement EmptyQueueTick. -/

namespace Sys2Proof.Machine

/-- R390: the link and the message that leave send mailbox `m` in a tick, with the messages that stay. -/
def Network.leaving (w : Network) (m : Fin 64) : Option (MbLink × Msg × List (Msg × Nat)) :=
  match MbLink.ofCode (w.reg.mbcfg[m.val]).link, (w.mbox[m.val]).out with
  | some l, g :: gs => if w.linkUp (w.reg.mbcfg[m.val]).link && w.reg.takes l g.1.word0 then some (l, g.1, gs) else none
  | _, _ => none

/-- The mailbox after the tick. -/
def Network.afterTick (w : Network) (m : Fin 64) : Mailbox :=
  match w.leaving m with
  | some (_, _, gs) => { w.mbox[m.val] with out := gs }
  | none => w.mbox[m.val]

/-- One mailbox's part of a tick. -/
def State.sendOldest (s : State) (m : Fin 64) : State :=
  match s.net.leaving m with
  | some (l, g, gs) => (s.modMbox m fun b => { b with out := gs }).send (outputOf m l g)
  | none => s

theorem Network.leaving_eq_none {w : Network} {m : Fin 64}
    (h : MbLink.ofCode (w.reg.mbcfg[m.val]).link = none ∨ w.linkUp (w.reg.mbcfg[m.val]).link = false ∨ (w.mbox[m.val]).out = []) :
    w.leaving m = none := by
  unfold Network.leaving
  split
  · next hl ho => rcases h with h | h | h <;> simp_all
  · rfl

theorem Network.leaving_eq_some {w : Network} {m : Fin 64} {l : MbLink} {g : Msg × Nat} {gs : List (Msg × Nat)}
    (hl : MbLink.ofCode (w.reg.mbcfg[m.val]).link = some l) (ho : (w.mbox[m.val]).out = g :: gs)
    (hu : w.linkUp (w.reg.mbcfg[m.val]).link = true) (ht : w.reg.takes l g.1.word0 = true) : w.leaving m = some (l, g.1, gs) := by
  simp [Network.leaving, hl, ho, hu, ht]

/-- What leaves a mailbox does not depend on the other mailboxes. -/
theorem Network.leaving_set_ne (w : Network) {k m : Fin 64} (b : Mailbox) (h : k ≠ m) :
    ({ w with mbox := w.mbox.set k.val b } : Network).leaving m = w.leaving m := by
  have hv : k.val ≠ m.val := fun e => h (Fin.ext e)
  unfold Network.leaving
  simp only [Vector.getElem_set_ne _ _ hv]
  rfl

theorem Network.afterTick_set_ne (w : Network) {k m : Fin 64} (b : Mailbox) (h : k ≠ m) :
    ({ w with mbox := w.mbox.set k.val b } : Network).afterTick m = w.afterTick m := by
  have hv : k.val ≠ m.val := fun e => h (Fin.ext e)
  simp only [Network.afterTick, Network.leaving_set_ne w b h, Vector.getElem_set_ne _ _ hv]

/-- A tick changes of a mailbox only what waits to leave. -/
theorem Network.afterTick_out (w : Network) (m : Fin 64) : w.afterTick m = { w.mbox[m.val] with out := (w.afterTick m).out } := by
  unfold Network.afterTick
  split <;> rfl

theorem State.sendOldest_net (s : State) (m : Fin 64) :
    (s.sendOldest m).net = { s.net with mbox := s.net.mbox.set m.val (s.net.afterTick m) } := by
  unfold State.sendOldest Network.afterTick
  split
  · rfl
  · rw [Vector.set_getElem_self]

theorem State.sendOldest_sent_subset (s : State) (m : Fin 64) : s.sent ⊆ (s.sendOldest m).sent := by
  unfold State.sendOldest
  split
  · exact List.subset_append_left _ _
  · exact List.Subset.refl _

theorem State.sendOldest_sends {s : State} {m : Fin 64} {l : MbLink} {g : Msg} {gs : List (Msg × Nat)}
    (h : s.net.leaving m = some (l, g, gs)) : outputOf m l g ∈ (s.sendOldest m).sent := by
  simp [State.sendOldest, h]

theorem State.mbTick_eq_foldl (s : State) : s.mbTick = (List.finRange 64).foldl State.sendOldest s := by
  unfold State.mbTick State.forAll
  congr 1
  funext s m
  unfold State.sendOldest Network.leaving
  generalize MbLink.ofCode (s.net.reg.mbcfg[m.val]).link = link, (s.net.mbox[m.val]).out = out
  cases link with
  | none => rfl
  | some l =>
    cases out with
    | nil => rfl
    | cons g gs =>
      dsimp only
      split <;> rfl

/-- What the walk over the mailboxes `ms` leaves: each of them as after its own part of the tick, every other as it was. -/
theorem State.foldl_sendOldest (ms : List (Fin 64)) (hms : ms.Nodup) (s : State) :
    (ms.foldl State.sendOldest s).net = { s.net with mbox := (ms.foldl State.sendOldest s).net.mbox } ∧
      s.sent ⊆ (ms.foldl State.sendOldest s).sent ∧ ∀ m : Fin 64,
        (m ∉ ms → (ms.foldl State.sendOldest s).net.mbox[m.val] = s.net.mbox[m.val]) ∧
        (m ∈ ms → (ms.foldl State.sendOldest s).net.mbox[m.val] = s.net.afterTick m ∧
          ∀ l g gs, s.net.leaving m = some (l, g, gs) → outputOf m l g ∈ (ms.foldl State.sendOldest s).sent) := by
  induction ms generalizing s with
  | nil => exact ⟨rfl, List.Subset.refl _, fun m => ⟨fun _ => rfl, fun h => absurd h List.not_mem_nil⟩⟩
  | cons k ms ih =>
    obtain ⟨hk, hms⟩ := List.nodup_cons.mp hms
    obtain ⟨hnet, hsent, hbox⟩ := ih hms (s.sendOldest k)
    simp only [State.sendOldest_net] at hnet hbox
    rw [List.foldl_cons]
    refine ⟨hnet, fun _ h => hsent (State.sendOldest_sent_subset s k h), fun m => ?_⟩
    obtain ⟨hout, hin⟩ := hbox m
    by_cases e : k = m
    · subst e
      refine ⟨fun h => absurd List.mem_cons_self h, fun _ => ⟨?_, fun _ _ _ h => hsent (State.sendOldest_sends h)⟩⟩
      rw [hout hk, Vector.getElem_set_self]
    · have hv : k.val ≠ m.val := fun h => e (Fin.ext h)
      rw [Vector.getElem_set_ne _ _ hv] at hout
      rw [Network.afterTick_set_ne _ _ e, Network.leaving_set_ne _ _ e] at hin
      exact ⟨fun h => hout fun h' => h (List.mem_cons_of_mem _ h'),
        fun h => hin ((List.mem_cons.mp h).resolve_left fun h' => e h'.symm)⟩

theorem State.mbTick_net (s : State) : s.mbTick.net = { s.net with mbox := s.mbTick.net.mbox } := by
  rw [State.mbTick_eq_foldl]
  exact (State.foldl_sendOldest _ (List.nodup_finRange 64) s).1

theorem State.mbTick_mbox (s : State) (m : Fin 64) : s.mbTick.net.mbox[m.val] = s.net.afterTick m := by
  rw [State.mbTick_eq_foldl]
  obtain ⟨_, _, hbox⟩ := State.foldl_sendOldest _ (List.nodup_finRange 64) s
  exact ((hbox m).2 (List.mem_finRange m)).1

theorem State.mbTick_sends {s : State} {m : Fin 64} {l : MbLink} {g : Msg} {gs : List (Msg × Nat)}
    (h : s.net.leaving m = some (l, g, gs)) : outputOf m l g ∈ s.mbTick.sent := by
  rw [State.mbTick_eq_foldl]
  obtain ⟨_, _, hbox⟩ := State.foldl_sendOldest _ (List.nodup_finRange 64) s
  exact ((hbox m).2 (List.mem_finRange m)).2 l g gs h

theorem State.counting_of_online {s : State} (h : s.online = true) : s.counting = true := by
  simp only [State.online, State.clocked, Bool.and_eq_true, Option.isNone_iff_eq_none] at h
  obtain ⟨⟨hheld, hdown⟩, _⟩ := h
  simp [State.counting, hheld, hdown]

theorem State.idle_of_online {s : State} (h : s.online = true) : s.idle = (s.pass 1).mbTick := by simp [State.idle, h]

theorem State.idle_of_counting {s : State} (h : s.online = false) (hc : s.counting = true) : s.idle = s.pass 1 := by
  simp [State.idle, h, hc]

theorem State.idle_of_stopped {s : State} (h : s.online = false) (hc : s.counting = false) : s.idle = s := by
  simp [State.idle, h, hc]

theorem State.idle_mono {s : State} (hc : s.counting = true) : s.idle.mono = s.mono + 1 := by
  cases h : s.online with
  | true => rw [State.idle_of_online h, State.mono_of_mask (State.mbTick_mask _ _ rfl rfl), State.pass_mono]
  | false => rw [State.idle_of_counting h hc, State.pass_mono]

/-- Settles O2: the mailboxes of a running module are walked once, and each is changed by its own part of the tick alone. -/
theorem emptyQueueTick : Obligations.EmptyQueueTick := by
  unfold Obligations.EmptyQueueTick
  intro s hp
  have hstep : step s = .next s.idle := by simp [step, hp]
  refine ⟨s.idle, hstep, changesOnly_of_mask _ _ _ (State.idle_mask _ s rfl rfl rfl), State.idle_of_counting, State.idle_mono,
    State.idle_of_stopped, State.counting_of_online, fun hon => ?_⟩
  rw [State.idle_of_online hon]
  refine ⟨State.mbTick_net (s.pass 1), fun m => ?_⟩
  simp only [State.mbTick_mbox, State.pass_net]
  refine ⟨Network.afterTick_out _ m, fun h => ?_, fun l g gs hl ho hu ht => ?_⟩
  · rw [Network.afterTick, Network.leaving_eq_none h]
  · have hleave := Network.leaving_eq_some hl ho hu ht
    refine ⟨?_, State.mbTick_sends (s := s.pass 1) hleave⟩
    rw [Network.afterTick, hleave]

end Sys2Proof.Machine
end

section
/-! SUPPORT. The command journal (R28, R351, R352, R358 to R361): how a mirrored write ends, what the oldest journal write, an outcome and a
delivery leave, and from that the statement JournalEntries. -/

namespace Sys2Proof.Machine

/-! ### The commands in a running module -/

theorem exec_take_online {s : State} (hon : s.online = true) : exec .take s = .next s.take := by
  change execTake s = _
  simp [execTake, hon]

theorem exec_cmjRes_online {s : State} (w : Word) (hon : s.online = true) : exec (.cmjRes w) s = .next (s.result w) := by
  change execCmjRes w s = _
  simp [execCmjRes, hon]

theorem exec_journalWriteComplete_online {s : State} (ok0 ok1 : Bool) (hon : s.online = true) (hw : s.jnl.writes ≠ []) :
    exec (.journalWriteComplete ok0 ok1) s = .next (s.writeDone ok0 ok1) := by
  change execJournalWriteComplete ok0 ok1 s = _
  simp [execJournalWriteComplete, hon, hw]

theorem exec_deliveryTimeout_delivered {s : State} {e : Entry} (hon : s.online = true) (hd : s.jnl.delivered = some e) :
    exec .deliveryTimeout s = .next ((s.upTo (e.at_ + sec 60)).outcome e false 6) := by
  change execDeliveryTimeout s = _
  simp [execDeliveryTimeout, hon, hd]

theorem exec_entryFree_single {s : State} {e : Entry} (hon : s.online = true) (he : s.jnl.entries.filter (fun q => q.sent) = [e]) :
    exec .entryFree s =
      .next ((s.upTo (e.at_ + sec 60)).modJnl fun j => { j with entries := j.entries.filter fun q => q.jseq != e.jseq }) := by
  change execEntryFree s = _
  simp [execEntryFree, hon, he, -List.find?_filter]

/-! ### Mirrored writes (R28) -/

theorem State.mramWrite_both (s : State) (src : FabSource) (h0 : s.fab.lastf.mram0 = false) :
    s.mramWrite true true src = (s, true) := by
  simp [State.mramWrite, h0]

/-- R28: the failure of a device in a mirrored write: it is marked, at an address that is a free value, and recorded. -/
def State.mramFailed (s : State) (ok0 ok1 : Bool) (src : FabSource) : State :=
  let l := s.fab.lastf
  ({ s.used with fab := { s.fab with
      lastf := { l with kind := 4, source := src, new := true, mram0 := l.mram0 || !ok0, mram1 := l.mram1 || !ok1 }
      lasta := s.freeWord } }).event 0x18 moduleUnit 4 s.freeWord.toNat

theorem State.mramWrite_fail (s : State) {ok0 ok1 : Bool} (src : FabSource)
    (h : ((ok0 || s.fab.lastf.mram0) && (ok1 || s.fab.lastf.mram1)) = false) :
    s.mramWrite ok0 ok1 src = (s.mramFailed ok0 ok1 src, (ok0 && !s.fab.lastf.mram0) || (ok1 && !s.fab.lastf.mram1)) := by
  simp [State.mramWrite, State.mramFailed, h]

@[simp] theorem State.mramFailed_jnl (s : State) (ok0 ok1 : Bool) (src : FabSource) : (s.mramFailed ok0 ok1 src).jnl = s.jnl := rfl

@[simp] theorem State.mramFailed_lastf (s : State) (ok0 ok1 : Bool) (src : FabSource) : (s.mramFailed ok0 ok1 src).fab.lastf =
    { s.fab.lastf with kind := 4, source := src, new := true, mram0 := s.fab.lastf.mram0 || !ok0, mram1 := s.fab.lastf.mram1 || !ok1 } := rfl

/-! ### The end of a write (R351, R352) -/

/-- The connection table once the oldest write `w` stands under `n`. -/
def Journal.rowsAfter (j : Journal) (w : JWrite) (n : Nat) : List Conn :=
  let row := (j.conn w.cmd.connid).getD { id := w.cmd.connid, last := w.cmd.tseq, jseq := [], at_ := w.tacc }
  (j.conns.filter fun r => r.id != row.id) ++
    [{ row with last := w.cmd.tseq, jseq := (w.cmd.tseq, n) :: row.jseq.filter fun e => e.1 != w.cmd.tseq }]

/-- The journal once the oldest write `w`, with the writes `ws` behind it, stands in MRAM. -/
def Journal.written (j : Journal) (w : JWrite) (ws : List JWrite) : Journal :=
  { j with
    writes := ws
    jseq := j.jseq + 1
    entries := j.entries ++ [{ cmd := j.accepted w.cmd, jseq := j.jseq + 1, tacc := w.tacc, epoch := j.reg.epoch }]
    conns := j.rowsAfter w (j.jseq + 1)
    reg := { j.reg with cnt := { j.reg.cnt with accn := satInc j.reg.cnt.accn } } }

theorem Journal.accepted_eq (j : Journal) (c : JCmd) :
    j.accepted c = { c with expms := if c.expms = 0 then j.reg.defexp.setWidth 32 else c.expms } := by
  unfold Journal.accepted
  split <;> rfl

/-- R351: a confirmed write of a command from TN: its entry, and the acknowledgement to its sender alone. -/
theorem State.writeEnd_confirmed {s : State} {w : JWrite} {ws : List JWrite} (hw : s.jnl.writes = w :: ws) (hd : w.dups = [])
    (ht : w.cmd.source = .tn) :
    s.writeEnd true = (s.modJnl fun j => j.written w ws).send (.telegram false
      (s.telegram (w.cmd.connid ^^^ 0x80000000#32) w.cmd.tseq 2 (beBytes 8 (s.jnl.jseq + 1)))) := by
  unfold State.writeEnd
  rw [hw]
  simp only [hd, ht, List.foldl_nil]
  rfl

/-- R351: a failed write of a command from TN: it is refused to its sender alone. -/
theorem State.writeEnd_failed {s : State} {w : JWrite} {ws : List JWrite} (hw : s.jnl.writes = w :: ws) (hd : w.dups = []) :
    s.writeEnd false = (s.modJnl fun j => { j with writes := ws }).nak w.cmd 5 := by
  unfold State.writeEnd
  rw [hw]
  simp only [hd, List.foldl_nil]
  rfl

theorem State.nak_tn {s : State} {c : JCmd} (code : Nat) (ht : c.source = .tn) :
    s.nak c code = (s.modCmj fun r => { r with nakn := { r.nakn with nakn := satInc r.nakn.nakn } }).reply false c 3
      (beBytes 1 code ++ [0, 0, 0]) := by
  simp [State.nak, ht]

@[simp] theorem State.reply_jnl (s : State) (sg : Bool) (c : JCmd) (type : Nat) (b : List Byte) : (s.reply sg c type b).jnl = s.jnl := rfl
@[simp] theorem State.reply_fab (s : State) (sg : Bool) (c : JCmd) (type : Nat) (b : List Byte) : (s.reply sg c type b).fab = s.fab := rfl

theorem State.reply_sent_length (s : State) (sg : Bool) (c : JCmd) (type : Nat) (b : List Byte) :
    (s.reply sg c type b).sent.length = s.sent.length + 1 := by
  simp [State.reply, State.sendTelegram]

/-! ### Outcomes (R359, R360) -/

/-- The entry with its outcome. -/
def Entry.decided (e : Entry) (done : Bool) (reason : Byte) : Entry :=
  { e with state := if done then .done else .refused, reason := reason }

/-- The entry as its outcome and its report at `now` leave it. -/
def Entry.reported (e : Entry) (done : Bool) (reason : Byte) (now : Nat) : Entry := { e.decided done reason with sent := true, at_ := now }

/-- The journal once entry `e` has its outcome, before the report leaves. -/
def Journal.decided (j : Journal) (e : Entry) (done : Bool) (reason : Byte) : Journal :=
  { j with
    entries := j.entries.map fun q => if q.jseq = e.jseq then e.decided done reason else q
    dlv := if e.state = .delivered then j.dlv.set 1 (j.dlv[1] &&& 0x7FFFFFFF) else j.dlv
    reg := { j.reg with nakn := { j.reg.nakn with expn := if reason = 2 ∨ reason = 3 then satInc j.reg.nakn.expn else j.reg.nakn.expn } } }

theorem State.outcome_eq (s : State) (e : Entry) (done : Bool) (reason : Byte) :
    s.outcome e done reason = (s.modJnl fun j => j.decided e done reason).report (e.decided done reason) := rfl

theorem State.modEntry_entries (s : State) (n : Nat) (f : Entry → Entry) :
    (s.modEntry n f).jnl.entries = s.jnl.entries.map fun e => if e.jseq = n then f e else e := rfl

/-- A change of an entry that stands in the journal is there after it. -/
theorem State.mem_modEntry {s : State} {e : Entry} (f : Entry → Entry) (h : e ∈ s.jnl.entries) : f e ∈ (s.modEntry e.jseq f).jnl.entries := by
  rw [State.modEntry_entries]
  exact List.mem_map.mpr ⟨e, h, if_pos rfl⟩

theorem State.report_tn (s : State) {e : Entry} (ht : e.cmd.source = .tn) :
    s.report e = (s.reply false e.cmd 4 (beBytes 8 e.jseq ++ beBytes 1 (if e.state = .done then 1 else 0) ++ [e.reason, 0, 0])).modEntry e.jseq
      fun q => { q with sent := true, at_ := s.mono } := by
  simp [State.report, ht, State.reply, State.sendTelegram]

/-- R359, R360: the outcome of a command from TN, whose report leaves at once. -/
theorem State.outcome_tn_entries (s : State) {e : Entry} (done : Bool) (reason : Byte) (ht : e.cmd.source = .tn) :
    (s.outcome e done reason).jnl.entries = s.jnl.entries.map fun q => if q.jseq = e.jseq then e.reported done reason s.mono else q := by
  rw [State.outcome_eq, State.report_tn _ (e := e.decided done reason) ht, State.modEntry_entries,
    State.reply_jnl, State.modJnl_jnl, Journal.decided, List.map_map]
  refine List.map_congr_left fun q _ => ?_
  by_cases h : q.jseq = e.jseq <;> simp [h, Entry.reported, Entry.decided]

theorem State.outcome_tn_sent_length (s : State) {e : Entry} (done : Bool) (reason : Byte) (ht : e.cmd.source = .tn) :
    (s.outcome e done reason).sent.length = s.sent.length + 1 := by
  rw [State.outcome_eq, State.report_tn _ (e := e.decided done reason) ht]
  exact State.reply_sent_length _ _ _ _ _

/-- R359: VALID of the shown delivery falls with the outcome. -/
theorem State.outcome_tn_shown (s : State) {e : Entry} (done : Bool) (reason : Byte) (ht : e.cmd.source = .tn) (hs : e.state = .delivered) :
    ((s.outcome e done reason).jnl.dlv[1]).getLsbD 31 = false := by
  rw [State.outcome_eq, State.report_tn _ (e := e.decided done reason) ht]
  simp [State.modEntry, Journal.decided, hs]

theorem Journal.delivered_some {j : Journal} {e : Entry} (h : j.delivered = some e) : e ∈ j.entries ∧ e.state = .delivered := by
  refine ⟨List.mem_of_find?_eq_some h, ?_⟩
  simpa using List.find?_some h

/-- An outcome in a journal that holds the entry: the entry has it and is reported. -/
theorem State.outcome_tn_given {s : State} {e : Entry} (done : Bool) (reason : Byte) (he : e ∈ s.jnl.entries) (ht : e.cmd.source = .tn) :
    e.reported done reason s.mono ∈ (s.outcome e done reason).jnl.entries := by
  rw [State.outcome_tn_entries s done reason ht]
  exact List.mem_map.mpr ⟨e, he, if_pos rfl⟩

/-! ### The six commands -/

section
variable {s : State} {w : JWrite} {ws : List JWrite} {e : Entry} {es : List Entry} {r : Word}

theorem journalWriteComplete_confirmed (hon : s.online = true) (h0 : s.fab.lastf.mram0 = false) (hw : s.jnl.writes = w :: ws)
    (hd : w.dups = []) (ht : w.cmd.source = .tn) :
    completes (.journalWriteComplete true true) s (fun t => changesOnly [.jnl, .sent] s t ∧ t.jnl.writes = ws ∧
      t.jnl.jseq = s.jnl.jseq + 1 ∧
      t.jnl.entries = s.jnl.entries ++ [{ cmd := { w.cmd with expms := if w.cmd.expms = 0 then s.jnl.reg.defexp.setWidth 32 else w.cmd.expms },
                                          jseq := s.jnl.jseq + 1, tacc := w.tacc, epoch := s.jnl.reg.epoch }] ∧
      t.jnl.reg.cnt.accn = satInc s.jnl.reg.cnt.accn ∧ t.sent = s.sent ++ [.telegram false
        (s.telegram (w.cmd.connid ^^^ 0x80000000#32) w.cmd.tseq 2 (beBytes 8 (s.jnl.jseq + 1)))]) := by
  refine ⟨_, exec_journalWriteComplete_online true true hon (by simp [hw]), ?_⟩
  rw [State.writeDone, State.mramWrite_both s 6 h0]
  dsimp only
  rw [State.writeEnd_confirmed hw hd ht, ← Journal.accepted_eq]
  refine ⟨changesOnly_of_mask _ _ _ ?_, rfl, rfl, rfl, rfl, rfl⟩
  rw [State.send_mask _ _ _ (by decide), State.modJnl_mask _ _ _ (by decide)]

theorem journalWriteComplete_failed (hon : s.online = true) (h0 : s.fab.lastf.mram0 = false) (h1 : s.fab.lastf.mram1 = false)
    (hw : s.jnl.writes = w :: ws) (hd : w.dups = []) (ht : w.cmd.source = .tn) :
    completes (.journalWriteComplete false false) s (fun t => t.jnl.writes = ws ∧ t.jnl.entries = s.jnl.entries ∧ t.jnl.jseq = s.jnl.jseq ∧
      t.fab.lastf.mram0 = true ∧ t.fab.lastf.mram1 = true ∧ t.jnl.reg.nakn.nakn = satInc s.jnl.reg.nakn.nakn) := by
  refine ⟨_, exec_journalWriteComplete_online false false hon (by simp [hw]), ?_⟩
  rw [State.writeDone, State.mramWrite_fail s 6 (by simp [h0, h1])]
  simp only [Bool.false_and, Bool.or_self]
  rw [State.writeEnd_failed (s := s.mramFailed false false 6) hw hd, State.nak_tn 5 ht]
  simp

theorem take_delivers (hon : s.online = true) (he : s.jnl.entries = e :: es) (hd : s.jnl.delivered = none) (ha : e.state = .accepted)
    (hr : s.takeRefusal e = none) :
    completes .take s (fun t => changesOnly [.jnl] s t ∧ t.jnl.dlv[0] = BitVec.ofNat 32 e.jseq ∧ t.jnl.dlv[2] = e.cmd.arg ∧
      t.jnl.dlv[3] = e.cmd.connid ∧ t.jnl.dlv[4] = e.cmd.tseq ∧ (t.jnl.dlv[1]).getLsbD 31 = true ∧
      ∃ f ∈ t.jnl.entries, f.jseq = e.jseq ∧ f.cmd = e.cmd ∧ f.state = .delivered) := by
  have htake : s.take = s.deliver e := by simp [State.take, State.takeFrom, hd, he, ha, hr]
  refine ⟨_, exec_take_online hon, ?_⟩
  rw [htake]
  refine ⟨changesOnly_of_mask _ _ _ (State.deliver_mask _ s e (by decide)), rfl, rfl, rfl, rfl, ?_,
    { e with state := .delivered, at_ := s.mono }, ?_, rfl, rfl, rfl⟩
  · simp [State.deliver, putB, putV]
  · exact State.mem_modEntry (fun q => { q with state := .delivered, at_ := s.mono }) (by rw [he]; exact List.mem_cons_self)

theorem take_delivered (hon : s.online = true) (hd : s.jnl.delivered = some e) : completes .take s (fun t => t = s) :=
  ⟨_, exec_take_online hon, by simp [State.take, hd]⟩

theorem cmjRes_undelivered (hon : s.online = true) (hd : s.jnl.delivered = none) :
    completes (.cmjRes r) s (fun t => changesOnly [.jnl] s t ∧ t.jnl = { s.jnl with reg := { s.jnl.reg with rstat := 2 } }) := by
  have hres : s.result r = s.modCmj fun g => { g with rstat := 2 } := by simp [State.result, hd]
  refine ⟨_, exec_cmjRes_online r hon, ?_⟩
  rw [hres]
  exact ⟨changesOnly_of_mask _ _ _ (State.modCmj_mask _ _ _ (by decide)), rfl⟩

theorem cmjRes_done (hon : s.online = true) (hd : s.jnl.delivered = some e) (hseq : e.jseq % 65536 = (getF r 16 16).toNat)
    (hout : r.getLsbD 8 = true) (hreason : getF r 0 8 = 0) (ht : e.cmd.source = .tn) :
    completes (.cmjRes r) s (fun t => changesOnly [.jnl, .sent] s t ∧ t.jnl.reg.rstat = 1 ∧
      (∃ f ∈ t.jnl.entries, f.jseq = e.jseq ∧ f.cmd = e.cmd ∧ f.state = .done ∧ f.reason = 0 ∧ f.sent = true) ∧
      (t.jnl.dlv[1]).getLsbD 31 = false ∧ t.sent.length = s.sent.length + 1) := by
  obtain ⟨hmem, hstate⟩ := Journal.delivered_some hd
  have hbit : r[8] = true := by simpa using hout
  have hres : s.result r = (s.outcome e true 0).modCmj fun g => { g with rstat := 1 } := by
    simp [State.result, hd, hseq, hbit, hreason]
  refine ⟨_, exec_cmjRes_online r hon, ?_⟩
  rw [hres]
  refine ⟨changesOnly_of_mask _ _ _ ?_, rfl, ⟨_, State.outcome_tn_given true 0 hmem ht, rfl, rfl, rfl, rfl, rfl⟩,
    State.outcome_tn_shown s true 0 ht hstate, State.outcome_tn_sent_length s true 0 ht⟩
  rw [State.modCmj_mask _ _ _ (by decide), State.outcome_mask _ _ _ _ _ (by decide) (by decide)]

theorem deliveryTimeout_refuses (hon : s.online = true) (hd : s.jnl.delivered = some e) (ht : e.cmd.source = .tn) :
    completes .deliveryTimeout s (fun t => changesOnly [.mono, .jnl, .sent] s t ∧ t.mono = max s.mono (e.at_ + sec 60) ∧
      ∃ f ∈ t.jnl.entries, f.jseq = e.jseq ∧ f.cmd = e.cmd ∧ f.state = .refused ∧ f.reason = 6 ∧ f.sent = true) := by
  obtain ⟨hmem, -⟩ := Journal.delivered_some hd
  refine ⟨_, exec_deliveryTimeout_delivered hon hd, changesOnly_of_mask _ _ _ ?_, ?_,
    _, State.outcome_tn_given false 6 (by exact hmem) ht, rfl, rfl, rfl, rfl, rfl⟩
  · rw [State.outcome_mask _ _ _ _ _ (by decide) (by decide), State.upTo_mask _ _ _ (by decide)]
  · rw [State.mono_of_mask (State.outcome_mask _ _ _ _ _ rfl rfl), State.upTo_mono]

theorem entryFree_frees (hon : s.online = true) (he : s.jnl.entries.filter (fun q => q.sent) = [e]) :
    completes .entryFree s (fun t => changesOnly [.mono, .jnl] s t ∧ t.mono = max s.mono (e.at_ + sec 60) ∧
      t.jnl.entries = s.jnl.entries.filter (fun q => q.jseq != e.jseq)) := by
  refine ⟨_, exec_entryFree_single hon he, changesOnly_of_mask _ _ _ ?_, rfl, rfl⟩
  rw [State.modJnl_mask _ _ _ (by decide), State.upTo_mask _ _ _ (by decide)]

end

/-- Settles O51, one command after the other. -/
theorem journalEntries : Obligations.JournalEntries := by
  unfold Obligations.JournalEntries
  intro s w ws e es r hon h0 h1
  exact ⟨fun hw hd ht => ⟨journalWriteComplete_confirmed hon h0 hw hd ht, journalWriteComplete_failed hon h0 h1 hw hd ht⟩,
    fun he hd ha hr => take_delivers hon he hd ha hr, fun hd => take_delivered hon hd, fun hd => cmjRes_undelivered hon hd,
    fun hd hseq hout hreason ht => cmjRes_done hon hd hseq hout hreason ht, fun hd ht => deliveryTimeout_refuses hon hd ht,
    fun he => entryFree_frees hon he⟩

end Sys2Proof.Machine
end

section
/-! SUPPORT. Staging of a module record (R396, R404, R405): an open Tally engine holds it as the newest, staged anew or folded into one of its
type. -/

namespace Sys2Proof.Machine

@[simp] theorem Tally.trigger_staging (t : Tally) : t.trigger.staging = t.staging := by
  unfold Tally.trigger
  split
  · rfl
  · split <;> rfl

@[simp] theorem Tally.commissioned_staging (t : Tally) (r : Rec) : (t.commissioned r).staging = t.staging := by
  unfold Tally.commissioned
  split <;> rfl

theorem Tally.stage_newest (t : Tally) (r : Rec) : (t.stage r).staging.getLast?.map Rec.type = some r.type := by
  unfold Tally.stage
  dsimp only
  split <;> simp

/-- A record that fits is staged last where none is lost and ROLL goes on. -/
theorem Tally.putNew_newest {t : Tally} {r : Rec} (mk : BitVec 16 → List Byte → Rec) (hspare : t.reg.stat.spare = false)
    (hlost : t.lost = 0) (hfit : t.fill + r.size ≤ 524288) : (t.putNew r mk).1.staging.getLast?.map Rec.type = some r.type := by
  have hroom : t.putNew r mk = (t.stage r, .accepted) := by simp [Tally.putNew, Tally.report, hspare, hlost, hfit]
  rw [hroom]
  exact t.stage_newest r

theorem Tally.modNewest_some {t : Tally} {r : Rec} (f : Rec → Rec) (h : t.staging.getLast? = some r) :
    t.modNewest f = { t with staging := t.staging.dropLast ++ [f r] } := by
  simp [Tally.modNewest, h]

/-- A change of the newest record that keeps its size keeps the bytes staged. -/
theorem Tally.modNewest_fill {t : Tally} {r : Rec} {f : Rec → Rec} (h : t.staging.getLast? = some r) (hf : (f r).size = r.size) :
    (t.modNewest f).fill = t.fill := by
  obtain ⟨rs, hrs⟩ := List.getLast?_eq_some_iff.mp h
  rw [Tally.modNewest_some f h, Tally.fill, Tally.fill]
  simp only [hrs, List.dropLast_concat, List.map_append, List.map_cons, List.map_nil, hf]

/-- Of an open Tally engine the newest record has the type of the one that just came. -/
theorem Tally.put_newest {t : Tally} (mk : BitVec 16 → List Byte → Rec) {type : BitVec 16} {payload : List Byte} {snap : Option (List Byte)}
    (hstart : t.starting = false) (hspare : t.reg.stat.spare = false) (hlost : t.lost = 0) (htype : (mk type payload).type = type)
    (hfit : t.fill + { mk type payload with snap := snap }.size ≤ 524288) :
    (t.put false mk type payload snap).1.staging.getLast?.map Rec.type = some type := by
  have hnew : ∀ u : Tally, u.reg.stat.spare = false → u.lost = 0 → u.fill = t.fill →
      (u.putNew { mk type payload with snap := snap } mk).1.staging.getLast?.map Rec.type = some type := fun u hs hl hf => by
    rw [Tally.putNew_newest mk hs hl (by rw [hf]; exact hfit)]
    exact congrArg some htype
  unfold Tally.put
  simp only [Bool.false_and, Bool.false_eq_true, if_false, hstart]
  cases hlast : t.staging.getLast? with
  | none => exact hnew t hspare hlost rfl
  | some r =>
    dsimp only
    split
    · next hfold =>
      have hsame : r.type = type := by simp_all [Tally.foldable]
      simp [Tally.modNewest_some _ hlast, hsame]
    · split
      · exact hnew _ (by rw [Tally.modNewest_some _ hlast]; exact hspare) (by rw [Tally.modNewest_some _ hlast]; exact hlost)
          (Tally.modNewest_fill hlast rfl)
      · exact hnew t hspare hlost rfl

/-- A record of at most 4,056 bytes of payload that an open Tally engine takes is the newest. -/
theorem State.record_newest {s : State} (type : BitVec 16) {payload : List Byte} (hopen : tallyOpen s) (hlen : payload.length ≤ 4056) :
    newestIs type (s.record type payload) := by
  obtain ⟨hstart, hspare, hlost, hfill⟩ := hopen
  have hsize : ({ s.mkRec type payload with snap := none } : Rec).size ≤ 4096 := by
    simp only [Rec.size, State.mkRec, Option.getD_none, List.length_nil]
    omega
  exact Tally.put_newest s.mkRec hstart hspare hlost rfl (by omega)

theorem State.event_newest {s : State} (type : BitVec 16) (unit code arg : Nat) (hopen : tallyOpen s) :
    newestIs type (s.event type unit code arg) :=
  State.record_newest type hopen (by simp [leBytes_length])

end Sys2Proof.Machine
end

section
/-! SUPPORT. Fabric operations, mirrored writes and STATUS telegrams (R27, R28, R31, R32, R282, R385): what a failure records, what a stop
leaves of the mode, what a STATUS telegram holds, and from that the statement FabricAndStatus. -/

namespace Sys2Proof.Machine

/-! ### Parts that an operation keeps -/

theorem State.eng_of_mask {s t : State} (h : t.mask (· == .eng) = s.mask (· == .eng)) : t.eng = s.eng := by
  have := congrArg State.eng h
  simpa [State.mask] using this

theorem State.fab_of_mask {s t : State} (h : t.mask (· == .fab) = s.mask (· == .fab)) : t.fab = s.fab := by
  have := congrArg State.fab h
  simpa [State.mask] using this

theorem State.forAll_eng {ι : Type} (s : State) (is : List ι) (f : State → ι → State) (h : ∀ s i, (f s i).eng = s.eng) :
    (s.forAll is f).eng = s.eng := by
  unfold State.forAll
  induction is generalizing s with
  | nil => rfl
  | cons i is ih => rw [List.foldl_cons, ih, h]

theorem State.stopAxis_eng (s : State) (a : AxisIx) (cause : BitVec 4) : (s.stopAxis a cause).eng = s.eng :=
  State.eng_of_mask (State.stopAxis_mask _ s a cause rfl rfl)

theorem State.lsEval_eng (s : State) (c : ChanIx) : (s.lsEval c).eng = s.eng := State.eng_of_mask (State.lsEval_mask _ s c rfl rfl)

theorem State.redeliver_eng (s : State) : s.redeliver.eng = s.eng := State.eng_of_mask (State.redeliver_mask _ s rfl)

theorem State.discardStaged_eng (s : State) : s.discardStaged.eng = s.eng := rfl

theorem State.abortMoves_sys (s : State) : s.abortMoves.eng.sys = s.eng.sys := by
  have hmoves := State.forAll_eng s (s.eng.moves.toList.filterMap id) (fun s m => s.setWord m.cw (completion 3 0 m.tag)) fun _ _ => rfl
  have hsys := congrArg Engine.sys hmoves
  exact hsys

theorem State.saveRetain_sys (s : State) : s.saveRetain.eng.sys = s.eng.sys := rfl

theorem State.flush_eng (s : State) : s.flush.eng = s.eng := rfl

theorem State.event_eng (s : State) (type : BitVec 16) (unit code arg : Nat) (snap : Option (List Byte)) :
    (s.event type unit code arg snap).eng = s.eng := rfl

/-- R277: entry to STOP sets mode and cause. -/
theorem State.enterStop_mode {s : State} (cause : BitVec 4) (h : s.mode ≠ .stop) : stoppedWith cause (s.enterStop cause) := by
  have hmode : (s.enterStop cause).eng.sys.mode = { s.eng.sys.mode with mode := .stop, cause := cause } := by
    simp [State.enterStop, h, State.flush_eng, State.event_eng, State.forAll_eng, State.lsEval_eng, State.stopAxis_eng,
      State.redeliver_eng, State.saveRetain_sys, State.abortMoves_sys, State.discardStaged_eng]
  rw [stoppedWith, hmode]
  exact ⟨rfl, rfl⟩

theorem State.enterStop_fab (s : State) (cause : BitVec 4) : (s.enterStop cause).fab = s.fab :=
  State.fab_of_mask (State.enterStop_mask _ s cause rfl rfl rfl rfl rfl rfl rfl rfl)

/-! ### Fabric operations (R27, R31, R32) -/

section
variable {s : State} (src : Fin 7) (a : Word)

theorem exec_fabricOperationComplete_done (hon : s.online = true) : exec (.fabricOperationComplete src .done a) s = .next s := by
  change execFabricOperationComplete src .done a s = _
  simp [execFabricOperationComplete, hon]

theorem exec_fabricOperationComplete_corrected (hon : s.online = true) : exec (.fabricOperationComplete src .corrected a) s =
    .next { s with fab := { s.fab with ecccnt := { s.fab.ecccnt with corr := satInc s.fab.ecccnt.corr } } } := by
  change execFabricOperationComplete src .corrected a s = _
  simp [execFabricOperationComplete, hon]

theorem exec_fabricOperationComplete_ecc (hon : s.online = true) :
    exec (.fabricOperationComplete src .ecc a) s = .next (s.fabFail src .ecc a) := by
  change execFabricOperationComplete src .ecc a s = _
  simp [execFabricOperationComplete, hon]

theorem exec_fabricOperationComplete_violation (hon : s.online = true) : exec (.fabricOperationComplete src .violation a) s =
    .next (if src.val = 2 then s.violation a else s.fabViolation (BitVec.ofNat 4 src.val) a) := by
  change execFabricOperationComplete src .violation a s = _
  simp [execFabricOperationComplete, hon]

end

theorem exec_fabricTimeout_online {s : State} (src : Fin 7) (a : Word) (hon : s.online = true) :
    exec (.fabricTimeout src a) s = .next (s.fabFail src .timeout a) := by
  change execFabricTimeout src a s = _
  simp [execFabricTimeout, hon]

theorem exec_mramWriteComplete_online {s : State} (src : Fin 7) (ok0 ok1 : Bool) (hon : s.online = true) :
    exec (.mramWriteComplete src ok0 ok1) s = .next (s.mramWrite ok0 ok1 (BitVec.ofNat 4 src.val)).1 := by
  change execMramWriteComplete src ok0 ok1 s = _
  simp [execMramWriteComplete, hon]

/-- A failure of a source other than the instruction fetch is recorded and stops nothing. -/
theorem State.fabFail_records (s : State) {src : Fin 7} (f : FabFault) (a : Word) (h : src.val ≠ 2) :
    s.fabFail src f a = s.fabFault f (BitVec.ofNat 4 src.val) a := by
  simp [State.fabFail, h]

/-- Table 10-5: a failed fetch in RUN is recorded and stops the program. -/
theorem State.fabFail_timeout_stops {s : State} {src : Fin 7} (a : Word) (h : src.val = 2) (hrun : s.mode = .run) (hq : s.eng.sq = []) :
    s.fabFail src .timeout a = (s.fabFault .timeout (BitVec.ofNat 4 src.val) a).enterStop (s.stopCause 7) := by
  unfold State.fabFail
  dsimp only
  rw [if_pos ⟨h, hrun⟩, State.drainAll_of_sq_nil (s := s.fabFault .timeout (BitVec.ofNat 4 src.val) a) hq]
  rfl

section
variable {s : State} {src : Fin 7} {a : Word}

/-- What FAB.LASTF and FAB.LASTA show of a failure of kind `k`. -/
def lastFailure (k : BitVec 4) (src : Fin 7) (a : Word) (t : State) : Prop :=
  t.fab.lastf.kind = k ∧ t.fab.lastf.source = BitVec.ofNat 4 src.val ∧ t.fab.lastf.new = true ∧ t.fab.lasta = a

theorem fabricOperationComplete_done (hon : s.online = true) : completes (.fabricOperationComplete src .done a) s (fun t => t = s) :=
  ⟨_, exec_fabricOperationComplete_done src a hon, rfl⟩

theorem fabricOperationComplete_corrected (hon : s.online = true) :
    completes (.fabricOperationComplete src .corrected a) s (fun t => changesOnly [.fab] s t ∧
      t.fab = { s.fab with ecccnt := { s.fab.ecccnt with corr := satInc s.fab.ecccnt.corr } }) :=
  ⟨_, exec_fabricOperationComplete_corrected src a hon, changesOnly_of_mask _ _ _ (State.mask_with_fab _ _ _ (by decide)), rfl⟩

theorem fabricOperationComplete_ecc (hon : s.online = true) (h : src.val ≠ 2) :
    completes (.fabricOperationComplete src .ecc a) s (fun t => changesOnly [.fab, .tally] s t ∧ lastFailure 1 src a t ∧
      t.fab.ecccnt.uncorr = satInc s.fab.ecccnt.uncorr) := by
  refine ⟨_, exec_fabricOperationComplete_ecc src a hon, ?_⟩
  rw [State.fabFail_records s .ecc a h]
  exact ⟨changesOnly_of_mask _ _ _ (State.fabFault_mask _ _ _ _ _ (by decide) (by decide)), ⟨rfl, rfl, rfl, rfl⟩, rfl⟩

theorem fabricOperationComplete_violation (hon : s.online = true) (h : src.val ≠ 2) :
    completes (.fabricOperationComplete src .violation a) s (fun t => changesOnly [.fab] s t ∧ lastFailure 3 src a t) := by
  refine ⟨_, exec_fabricOperationComplete_violation src a hon, ?_⟩
  rw [if_neg h]
  exact ⟨changesOnly_of_mask _ _ _ (State.fabViolation_mask _ _ _ _ (by decide)), rfl, rfl, rfl, rfl⟩

theorem fabricTimeout_records (hon : s.online = true) (h : src.val ≠ 2) :
    completes (.fabricTimeout src a) s (fun t => changesOnly [.fab] s t ∧ lastFailure 2 src a t ∧ t.fab.tocnt = satInc s.fab.tocnt) := by
  refine ⟨_, exec_fabricTimeout_online src a hon, ?_⟩
  rw [State.fabFail_records s .timeout a h]
  exact ⟨changesOnly_of_mask _ _ _ (State.mask_with_fab _ _ _ (by decide)), ⟨rfl, rfl, rfl, rfl⟩, rfl⟩

theorem fabricOperationComplete_fetchViolation (hon : s.online = true) (h : src.val = 2) :
    completes (.fabricOperationComplete src .violation a) s (fun t => changesOnly [.eng] s t ∧
      t.eng.sys.violn = satInc s.eng.sys.violn ∧ t.eng.sys.viola = a) := by
  refine ⟨_, exec_fabricOperationComplete_violation src a hon, ?_⟩
  rw [if_pos h]
  exact ⟨changesOnly_of_mask _ _ _ (State.violation_mask _ _ _ (by decide)), rfl, rfl⟩

theorem fabricTimeout_stops (hon : s.online = true) (h : src.val = 2) (hrun : s.mode = .run) (hq : s.eng.sq = []) :
    completes (.fabricTimeout src a) s (fun t => stoppedWith (s.stopCause 7) t ∧ lastFailure 2 src a t) := by
  have hmode : (s.fabFault .timeout (BitVec.ofNat 4 src.val) a).mode ≠ .stop := by
    change s.mode ≠ .stop
    simp [hrun]
  refine ⟨_, exec_fabricTimeout_online src a hon, ?_⟩
  rw [State.fabFail_timeout_stops a h hrun hq]
  refine ⟨State.enterStop_mode _ hmode, ?_⟩
  rw [lastFailure, State.enterStop_fab]
  exact ⟨rfl, rfl, rfl, rfl⟩

/-! ### Mirrored writes (R28) -/

theorem State.mramWrite_confirmed (s : State) (src : FabSource) : (s.mramWrite true true src).1 = s := by
  simp [State.mramWrite]

theorem State.mramFailed_mask (k : Part → Bool) (s : State) (ok0 ok1 : Bool) (src : FabSource) (h0 : k .fab = false) (h1 : k .tally = false)
    (h2 : k .freeSeq = false) : (s.mramFailed ok0 ok1 src).mask k = s.mask k := by
  unfold State.mramFailed
  rw [State.event_mask _ _ _ _ _ _ _ h1, State.mask_with_fab _ _ _ h0, State.used_mask _ _ h2]

theorem mramWriteComplete_confirmed (hon : s.online = true) : completes (.mramWriteComplete src true true) s (fun t => t = s) :=
  ⟨_, exec_mramWriteComplete_online src true true hon, State.mramWrite_confirmed s _⟩

theorem mramWriteComplete_fails (hon : s.online = true) (h : s.fab.lastf.mram0 = false) :
    completes (.mramWriteComplete src false true) s (fun t => changesOnly [.fab, .tally, .freeSeq] s t ∧ t.fab.lastf.kind = 4 ∧
      t.fab.lastf.mram0 = true ∧ t.fab.lastf.mram1 = s.fab.lastf.mram1 ∧ (tallyOpen s → newestIs 0x18 t)) := by
  refine ⟨_, exec_mramWriteComplete_online src false true hon, ?_⟩
  rw [State.mramWrite_fail s _ (by simp [h])]
  refine ⟨changesOnly_of_mask _ _ _ (State.mramFailed_mask _ _ _ _ _ (by decide) (by decide) (by decide)), ?_⟩
  simp only [State.mramFailed_lastf, Bool.not_false, Bool.or_true, Bool.not_true, Bool.or_false, true_and]
  exact fun hopen => State.event_newest 0x18 _ _ _ hopen

end

/-! ### STATUS (R385) -/

/-- STATUS is due at the end of its period, whether or not it can leave. -/
def State.statusDue (s : State) : State :=
  let now := max s.mono (s.net.bwAt + ms s.net.reg.bw.sper.toNat)
  { s with mono := now
           net := { s.net with bwAt := now, reg := { s.net.reg with bwst := { s.net.reg.bwst with sending := true } } } }

/-- STATUS leaves on SG and TN under the next sequence with the CODEH `h`. -/
def State.statusLeaves (s : State) (h : Word) : State :=
  let conn := s.net.reg.bwsconn
  let n := s.net.bwSeq
  let u := (s.sendTelegram true conn n 5 s.statusData (some h)).sendTelegram false conn n 5 s.statusData (some h)
  { u with net := { u.net with bwSeq := n + 1 } }

/-- The sequence has run through: NET.BWST.WRAP and its record. -/
def State.statusWraps (s : State) : State :=
  ({ s with net := { s.net with reg := { s.net.reg with bwst := { s.net.reg.bwst with wrap := true } } } }).event 0x64 moduleUnit 0

section
variable {s : State} {h : Word}

theorem exec_statusTelegramSend_none (hon : s.online = true) (hl : s.safe.linkUp = true) (ha : s.safe.a.silent = false)
    (hh : s.safe.h.silent = false) (hr : s.safe.aReset = false) : exec (.statusTelegramSend none) s = .next s.statusDue := by
  change execStatusTelegramSend none s = _
  simp [execStatusTelegramSend, hon, hl, ha, hh, hr, State.statusDue, State.upTo]

theorem exec_statusTelegramSend_some (hon : s.online = true) (hl : s.safe.linkUp = true) (ha : s.safe.a.silent = false)
    (hh : s.safe.h.silent = false) (hr : s.safe.aReset = false) :
    exec (.statusTelegramSend (some h)) s =
      .next (if s.net.bwSeq + 1 = 0 then (s.statusDue.statusLeaves h).statusWraps else s.statusDue.statusLeaves h) := by
  change execStatusTelegramSend (some h) s = _
  simp only [execStatusTelegramSend, hon, hl, ha, hh, hr, Bool.not_true, Bool.not_false, Bool.and_self, Bool.false_eq_true, if_false,
    Option.isNone_some]
  rfl

theorem exec_statusTelegramSend_absent (hon : s.online = true) (hl : s.safe.linkUp = false) :
    exec (.statusTelegramSend (some h)) s =
      .next { s with net := { s.net with reg := { s.net.reg with bwst := { s.net.reg.bwst with sending := false } } } } := by
  change execStatusTelegramSend (some h) s = _
  simp [execStatusTelegramSend, hon, hl]

/-- R380: CODEH stands last in a telegram. -/
theorem State.telegram_codeh (s : State) (conn seq : Word) (type : Nat) (b : List Byte) (h : Word) :
    (s.telegram conn seq type b (some h)).drop ((s.telegram conn seq type b (some h)).length - 4) = beBytes 4 h.toNat := by
  unfold State.telegram
  dsimp only
  rw [List.drop_left']
  simp [beBytes]
  omega

/-- R379, R385: the telegram on SG is that on TN, padded. -/
theorem State.statusLeaves_sent (s : State) (h : Word) : ∃ x y : List Byte,
    (s.statusLeaves h).sent = s.sent ++ [.telegram true x, .telegram false y] ∧ x.take y.length = y ∧
      y.drop (y.length - 4) = beBytes 4 h.toNat := by
  refine ⟨padEthernet (s.telegram s.net.reg.bwsconn s.net.bwSeq 5 s.statusData (some h)),
    s.telegram s.net.reg.bwsconn s.net.bwSeq 5 s.statusData (some h), ?_, List.take_left' rfl, State.telegram_codeh _ _ _ _ _ _⟩
  rw [List.append_cons]
  rfl

theorem State.statusDue_mask (k : Part → Bool) (s : State) (h0 : k .mono = false) (h1 : k .net = false) :
    s.statusDue.mask k = s.mask k := by
  simp [State.mask, State.statusDue, h0, h1]

theorem State.statusLeaves_mask (k : Part → Bool) (s : State) (h : Word) (h0 : k .net = false) (h1 : k .sent = false) :
    (s.statusLeaves h).mask k = s.mask k := by
  simp [State.mask, State.statusLeaves, State.sendTelegram, h0, h1]

theorem State.statusWraps_mask (k : Part → Bool) (s : State) (h0 : k .net = false) (h1 : k .tally = false) :
    s.statusWraps.mask k = s.mask k := by
  rw [State.statusWraps, State.event_mask _ _ _ _ _ _ _ h1, State.mask_with_net _ _ _ h0]

theorem statusTelegramSend_leaves (hon : s.online = true) (hl : s.safe.linkUp = true) (ha : s.safe.a.silent = false)
    (hh : s.safe.h.silent = false) (hr : s.safe.aReset = false) :
    completes (.statusTelegramSend (some h)) s (fun t => changesOnly [.mono, .tally, .net, .sent] s t ∧
      t.mono = max s.mono (s.net.bwAt + ms s.net.reg.bw.sper.toNat) ∧ t.net.bwSeq = s.net.bwSeq + 1 ∧ t.net.bwAt = t.mono ∧
      t.net.reg.bwst.sending = true ∧ ∃ x y : List Byte, t.sent = s.sent ++ [.telegram true x, .telegram false y] ∧ x.take y.length = y ∧
        y.drop (y.length - 4) = beBytes 4 h.toNat) := by
  refine ⟨_, exec_statusTelegramSend_some hon hl ha hh hr, ?_⟩
  have hsent := State.statusLeaves_sent s.statusDue h
  split
  · refine ⟨changesOnly_of_mask _ _ _ ?_, rfl, rfl, rfl, rfl, hsent⟩
    rw [State.statusWraps_mask _ _ (by decide) (by decide), State.statusLeaves_mask _ _ _ (by decide) (by decide),
      State.statusDue_mask _ _ (by decide) (by decide)]
  · refine ⟨changesOnly_of_mask _ _ _ ?_, rfl, rfl, rfl, rfl, hsent⟩
    rw [State.statusLeaves_mask _ _ _ (by decide) (by decide), State.statusDue_mask _ _ (by decide) (by decide)]

theorem statusTelegramSend_withheld (hon : s.online = true) (hl : s.safe.linkUp = true) (ha : s.safe.a.silent = false)
    (hh : s.safe.h.silent = false) (hr : s.safe.aReset = false) :
    completes (.statusTelegramSend none) s (fun t => changesOnly [.mono, .net] s t ∧ t.net.bwSeq = s.net.bwSeq ∧ t.net.bwAt = t.mono) :=
  ⟨_, exec_statusTelegramSend_none hon hl ha hh hr,
    changesOnly_of_mask _ _ _ (State.statusDue_mask _ _ (by decide) (by decide)), rfl, rfl⟩

theorem statusTelegramSend_absent (hon : s.online = true) (hl : s.safe.linkUp = false) :
    completes (.statusTelegramSend (some h)) s (fun t => changesOnly [.net] s t ∧ t.net.reg.bwst.sending = false ∧
      t.net.bwSeq = s.net.bwSeq) :=
  ⟨_, exec_statusTelegramSend_absent hon hl, changesOnly_of_mask _ _ _ (State.mask_with_net _ _ _ (by decide)), rfl, rfl⟩

end

/-- Settles O52, one way to end after the other. -/
theorem fabricAndStatus : Obligations.FabricAndStatus := by
  unfold Obligations.FabricAndStatus
  intro s src a h hon
  exact ⟨fabricOperationComplete_done hon, fabricOperationComplete_corrected hon,
    fun hs => ⟨fabricOperationComplete_ecc hon hs, fabricOperationComplete_violation hon hs, fabricTimeout_records hon hs⟩,
    fabricOperationComplete_fetchViolation hon, fabricTimeout_stops hon, mramWriteComplete_confirmed hon, mramWriteComplete_fails hon,
    fun hl ha hh hr => ⟨statusTelegramSend_leaves hon hl ha hh hr, statusTelegramSend_withheld hon hl ha hh hr⟩,
    statusTelegramSend_absent hon⟩

end Sys2Proof.Machine
end

section
/-! SUPPORT. The sources of calendar time (R22 to R24, R377, R378): what a correction and a tuning leave, how a Sync message and a SYNC pulse
discipline, how a source is lost, and from that the statement CalendarSources. -/

namespace Sys2Proof.Machine

/-! ### Corrections and tuning (R22, R24) -/

theorem clampInt_mem {lo hi : Int} (h : lo ≤ hi) (x : Int) : lo ≤ clampInt lo hi x ∧ clampInt lo hi x ≤ hi := by
  unfold clampInt
  split
  · exact ⟨Int.le_refl _, h⟩
  · split <;> omega

theorem clampInt_of_mem {lo hi x : Int} (h : lo ≤ x) (h' : x ≤ hi) : clampInt lo hi x = x := by
  unfold clampInt
  rw [if_neg (by omega), if_neg (by omega)]

/-- R22: the frequency correction stays within MCLK's 50 ppm. -/
theorem State.tune_calPpb (s : State) : -50000 ≤ s.tune.calPpb ∧ s.tune.calPpb ≤ 50000 := clampInt_mem (by decide) _

/-- R24: a correction of at most 1 ms is slewed from now on. -/
def State.slewCal (s : State) (d : Int) : State := { s.setCal s.calNow with slew := d }

theorem State.correctCal_slews (s : State) {d : Int} (h : d.natAbs ≤ 1000000) : s.correctCal d = s.slewCal d := if_pos h

theorem State.correctCal_steps (s : State) {d : Int} (h : 1000000 < d.natAbs) : s.correctCal d = s.stepCal (s.calNow + d).toNat :=
  if_neg (by omega)

theorem State.slewCal_mask (k : Part → Bool) (s : State) (d : Int) (h : k .cal = false) : (s.slewCal d).mask k = s.mask k := by
  rw [State.slewCal, State.mask_with_slew _ _ _ h, State.setCal_mask _ _ _ h]

/-- R24: a step sets calendar time, leaves nothing to slew, shows STEPPED and is recorded. -/
theorem State.stepCal_newest {s : State} (new : Nat) (h : tallyOpen s) : newestIs 2 (s.stepCal new) :=
  State.record_newest (s := (s.setCal new).modSrc fun t => { t with stepped := true }) 2 h (by simp)

/-! ### Sync messages (R377) -/

section
variable {s : State} {k : Fin 2} {m : SyncMsg}

/-- A Sync message on path `k` of TN that disciplines is noted, with its path and its offset. -/
def State.syncNoted (s : State) (k : Fin 2) (ofs : Int) : State :=
  (s.modNet fun w => { w with ptpAt := w.ptpAt.set k.val (some s.mono) }).modNetReg fun r =>
    { r with ptp := { r.ptp with path := BitVec.ofNat 2 (k.val + 1) }, ptpofs := BitVec.ofInt 32 (clampInt (-posMax) posMax ofs) }

/-- R22: the row of Sync messages within 1 µs, with this one. -/
def State.syncRow (s : State) (ofs : Int) : Nat := if ofs.natAbs ≤ 1000 then s.net.ptpRow + 1 else 0

/-- A disciplining Sync message has corrected calendar time. -/
def State.syncCorrected (s : State) (k : Fin 2) (ofs : Int) : State :=
  ((s.syncNoted k ofs).correctCal (-ofs)).modNet fun w => { w with ptpRow := s.syncRow ofs }

/-- R22: a row of 16 gives PTP. -/
def State.locked (s : State) (row : Nat) : State :=
  if 16 ≤ row then s.modSrc fun t => { t with state := .ptp, valid := true } else s

/-- R22: PTP finds a frequency correction. -/
def State.tuned (s : State) : State := if s.tim.src.state = .ptp then s.tune else s

theorem State.tuned_of_ptp {s : State} (h : s.tim.src.state = .ptp) : s.tuned = s.tune := if_pos h

theorem State.tuned_of_other {s : State} (h : s.tim.src.state ≠ .ptp) : s.tuned = s := if_neg h

/-- The Sync message is of the module's domain and from the chosen master. -/
def ofMaster (s : State) (m : SyncMsg) : Prop := m.domain = s.net.reg.ptp.domain ∧ s.master.map PtpMaster.sender = some m.sender

theorem exec_ptpSyncReceive_foreign (hon : s.online = true) (h : ¬ ofMaster s m) : exec (.ptpSyncReceive k m) s = .next s := by
  have hor : m.domain ≠ s.net.reg.ptp.domain ∨ s.master.map PtpMaster.sender ≠ some m.sender := Classical.not_and_iff_not_or_not.mp h
  change execPtpSyncReceive k m s = _
  simp only [execPtpSyncReceive, hon, Bool.not_true, Bool.false_eq_true, if_false]
  rw [if_pos hor]

theorem exec_ptpSyncReceive_unused (hon : s.online = true) (h : ofMaster s m) (hp : s.ptpPath k = false) :
    exec (.ptpSyncReceive k m) s = .next (s.modNet fun w => { w with ptpAt := w.ptpAt.set k.val (some s.mono) }) := by
  obtain ⟨hdomain, hsender⟩ := h
  change execPtpSyncReceive k m s = _
  simp [execPtpSyncReceive, hon, hdomain, hsender, hp]

theorem exec_ptpSyncReceive_used (hon : s.online = true) (h : ofMaster s m) (hp : s.ptpPath k = true) :
    exec (.ptpSyncReceive k m) s = .next ((s.syncCorrected k m.ofs).locked (s.syncRow m.ofs)).tuned := by
  obtain ⟨hdomain, hsender⟩ := h
  change execPtpSyncReceive k m s = _
  simp [execPtpSyncReceive, hon, hdomain, hsender, hp]
  rfl

theorem State.ptpPath_a (s : State) : s.ptpPath 0 = true := rfl

theorem State.ptpPath_b {n : Nat} (h : s.net.ptpAt[0] = some n) (hn : s.since n ≤ sec 3) : s.ptpPath 1 = false := by
  simp [State.ptpPath, h, hn]

/-- R22: the sixteenth Sync message in a row within 1 µs: PTP governs, its offset is slewed and a frequency correction found. -/
theorem State.sync_locks (s : State) (k : Fin 2) {ofs : Int} (h : ofs.natAbs ≤ 1000) (hrow : 15 ≤ s.net.ptpRow) :
    ((s.syncCorrected k ofs).locked (s.syncRow ofs)).tuned =
      ((((s.syncNoted k ofs).slewCal (-ofs)).modNet fun w => { w with ptpRow := s.syncRow ofs }).modSrc fun t =>
        { t with state := .ptp, valid := true }).tune := by
  have hlock : 16 ≤ s.syncRow ofs := by
    rw [State.syncRow, if_pos h]
    omega
  rw [State.locked, if_pos hlock, State.syncCorrected, State.correctCal_slews _ (by omega)]
  exact State.tuned_of_ptp rfl

/-- A Sync message off by more than 1 µs breaks the row and changes no source. -/
theorem State.sync_breaks (s : State) (k : Fin 2) {ofs : Int} (h : 1000 < ofs.natAbs) :
    (s.syncCorrected k ofs).locked (s.syncRow ofs) =
      ((s.syncNoted k ofs).correctCal (-ofs)).modNet fun w => { w with ptpRow := 0 } := by
  have hrow : s.syncRow ofs = 0 := if_neg (by omega)
  rw [State.locked, State.syncCorrected, hrow]
  rfl

/-- Tuning changes the frequency correction and takes a free value, nothing else. -/
theorem State.tuned_mask (k : Part → Bool) (s : State) (h0 : k .cal = false) (h1 : k .freeSeq = false) : s.tuned.mask k = s.mask k := by
  unfold State.tuned
  split
  · exact State.tune_mask k s h0 h1
  · rfl

@[simp] theorem State.tuned_tim (s : State) : s.tuned.tim = s.tim := by unfold State.tuned; split <;> rfl
@[simp] theorem State.tuned_net (s : State) : s.tuned.net = s.net := by unfold State.tuned; split <;> rfl
@[simp] theorem State.tuned_tally (s : State) : s.tuned.tally = s.tally := by unfold State.tuned; split <;> rfl
@[simp] theorem State.tuned_calBase (s : State) : s.tuned.calBase = s.calBase := by unfold State.tuned; split <;> rfl
@[simp] theorem State.tuned_calAt (s : State) : s.tuned.calAt = s.calAt := by unfold State.tuned; split <;> rfl
@[simp] theorem State.tuned_slew (s : State) : s.tuned.slew = s.slew := by unfold State.tuned; split <;> rfl

theorem State.syncNoted_mask (k : Part → Bool) (s : State) (i : Fin 2) (ofs : Int) (h : k .net = false) :
    (s.syncNoted i ofs).mask k = s.mask k := by
  rw [State.syncNoted, State.modNetReg_mask _ _ _ h, State.modNet_mask _ _ _ h]

/-- What is to be slewed from now on is `d`. -/
def slewsFromNow (s t : State) (d : Int) : Prop := t.calBase = s.calNow ∧ t.calAt = s.mono ∧ t.slew = d

theorem ptpSyncReceive_foreign (hon : s.online = true) (h : ¬ ofMaster s m) : completes (.ptpSyncReceive k m) s (fun t => t = s) :=
  ⟨_, exec_ptpSyncReceive_foreign hon h, rfl⟩

theorem ptpSyncReceive_locks (hon : s.online = true) (h : ofMaster s m) (hofs : m.ofs.natAbs ≤ 1000) (hrow : 15 ≤ s.net.ptpRow) :
    completes (.ptpSyncReceive 0 m) s (fun t => changesOnly [.tim, .cal, .net, .freeSeq] s t ∧ t.tim.src.state = .ptp ∧
      (-50000 ≤ t.calPpb ∧ t.calPpb ≤ 50000) ∧ t.tim.src.valid = true ∧ slewsFromNow s t (-m.ofs) ∧ t.net.reg.ptp.path = 1 ∧
      t.net.reg.ptpofs = BitVec.ofInt 32 m.ofs) := by
  refine ⟨_, exec_ptpSyncReceive_used hon h s.ptpPath_a, ?_⟩
  rw [State.sync_locks s 0 hofs hrow]
  refine ⟨changesOnly_of_mask _ _ _ ?_, rfl, State.tune_calPpb _, rfl, ⟨rfl, rfl, rfl⟩, rfl, ?_⟩
  · rw [State.tune_mask _ _ (by decide) (by decide), State.modSrc_mask _ _ _ (by decide), State.modNet_mask _ _ _ (by decide),
      State.slewCal_mask _ _ _ (by decide), State.syncNoted_mask _ _ _ _ (by decide)]
  · have hclamp : clampInt (-posMax) posMax m.ofs = m.ofs := clampInt_of_mem (by unfold posMax; omega) (by unfold posMax; omega)
    exact congrArg (BitVec.ofInt 32) hclamp

theorem ptpSyncReceive_slews (hon : s.online = true) (h : ofMaster s m) (hlo : 1000 < m.ofs.natAbs) (hhi : m.ofs.natAbs ≤ 1000000) :
    completes (.ptpSyncReceive 0 m) s (fun t => changesOnly [.tim, .cal, .net, .freeSeq] s t ∧ t.tim.src = s.tim.src ∧
      slewsFromNow s t (-m.ofs) ∧ t.net.ptpRow = 0 ∧ (s.tim.src.state ≠ .ptp → t.calPpb = s.calPpb)) := by
  refine ⟨_, exec_ptpSyncReceive_used hon h s.ptpPath_a, ?_⟩
  rw [State.sync_breaks s 0 hlo, State.correctCal_slews _ (by omega)]
  refine ⟨changesOnly_of_mask _ _ _ ?_, ?_, ⟨?_, ?_, ?_⟩, ?_, fun hs => ?_⟩
  · rw [State.tuned_mask _ _ (by decide) (by decide), State.modNet_mask _ _ _ (by decide), State.slewCal_mask _ _ _ (by decide),
      State.syncNoted_mask _ _ _ _ (by decide)]
  · rw [State.tuned_tim]; rfl
  · rw [State.tuned_calBase]; rfl
  · rw [State.tuned_calAt]; rfl
  · rw [State.tuned_slew]; rfl
  · rw [State.tuned_net]; rfl
  · rw [State.tuned_of_other (by exact hs)]; rfl

theorem ptpSyncReceive_steps (hon : s.online = true) (h : ofMaster s m) (hofs : 1000000 < m.ofs.natAbs) :
    completes (.ptpSyncReceive 0 m) s (fun t => changesOnly [.tim, .cal, .tally, .net, .freeSeq] s t ∧ t.tim.src.stepped = true ∧
      t.calBase = (s.calNow - m.ofs).toNat ∧ t.slew = 0 ∧ (tallyOpen s → newestIs 2 t)) := by
  refine ⟨_, exec_ptpSyncReceive_used hon h s.ptpPath_a, ?_⟩
  rw [State.sync_breaks s 0 (by omega), State.correctCal_steps _ (by omega)]
  refine ⟨changesOnly_of_mask _ _ _ ?_, ?_, ?_, ?_, fun hopen => ?_⟩
  · rw [State.tuned_mask _ _ (by decide) (by decide), State.modNet_mask _ _ _ (by decide),
      State.stepCal_mask _ _ _ (by decide) (by decide) (by decide), State.syncNoted_mask _ _ _ _ (by decide)]
  · rw [State.tuned_tim]; rfl
  · rw [State.tuned_calBase]; rfl
  · rw [State.tuned_slew]; rfl
  · have hstep := State.stepCal_newest (s := s.syncNoted 0 m.ofs) ((s.syncNoted 0 m.ofs).calNow + -m.ofs).toNat hopen
    rw [newestIs, State.tuned_tally]
    exact hstep

theorem ptpSyncReceive_unused {n : Nat} (hon : s.online = true) (h : ofMaster s m) (ha : s.net.ptpAt[0] = some n)
    (hn : s.since n ≤ sec 3) :
    completes (.ptpSyncReceive 1 m) s (fun t => changesOnly [.net] s t ∧ t.net.ptpAt[1] = some s.mono ∧ t.net.reg = s.net.reg) := by
  refine ⟨_, exec_ptpSyncReceive_unused hon h (State.ptpPath_b ha hn), changesOnly_of_mask _ _ _ (State.modNet_mask _ _ _ (by decide)),
    ?_, rfl⟩
  exact Vector.getElem_set_self _

/-! ### Loss of a source and holdover (R22) -/

theorem exec_ptpLoss_ptp (hon : s.online = true) (h : s.tim.src.state = .ptp) : exec .ptpLoss s =
    .next ((((s.upTo (max ((s.net.ptpAt[0]).getD 0) ((s.net.ptpAt[1]).getD 0) + sec 3)).modNet fun w =>
      { w with ptpRow := 0, reg := { w.reg with ptp := { w.reg.ptp with path := 0 } } }).holdover).modSrc fun t =>
        { t with ptploss := true }) := by
  change execPtpLoss s = _
  simp [execPtpLoss, hon, h]

theorem exec_ptpLoss_sync (hon : s.online = true) (h : s.tim.src.state = .sync) (hl : s.net.ppsLost = true) :
    exec .ptpLoss s = .next (s.upTo (s.net.ppsGood + sec 3 + 1)).ppsHoldover := by
  change execPtpLoss s = _
  simp [execPtpLoss, hon, h, hl]

theorem exec_holdoverExpiry_holdover (hon : s.online = true) (h : s.tim.src.state = .holdover) :
    exec .holdoverExpiry s = .next ((s.upTo (s.net.holdAt + sec 3600)).runFree.modSrc fun t => { t with state := .free }) := by
  change execHoldoverExpiry s = _
  simp [execHoldoverExpiry, hon, h]

/-- R22: a SYNC that has been lost for more than 3 s gives HOLDOVER. -/
theorem State.ppsHoldover_overdue {s : State} (h : s.tim.src.state = .sync) (hl : s.net.ppsLost = true) (ho : sec 3 < s.since s.net.ppsGood) :
    s.ppsHoldover = s.holdover := if_pos ⟨h, hl, ho⟩

theorem State.ppsHoldover_early {s : State} (ho : s.since s.net.ppsGood ≤ sec 3) : s.ppsHoldover = s :=
  if_neg fun ⟨_, _, h⟩ => Nat.not_lt.mpr ho h

theorem ptpLoss_ptp (hon : s.online = true) (h : s.tim.src.state = .ptp) :
    completes .ptpLoss s (fun t => changesOnly [.mono, .tim, .net] s t ∧ t.tim.src.state = .holdover ∧ t.tim.src.ptploss = true ∧
      t.net.holdAt = t.mono ∧ t.net.reg.ptp.path = 0 ∧
      t.mono = max s.mono (max ((s.net.ptpAt[0]).getD 0) ((s.net.ptpAt[1]).getD 0) + sec 3)) := by
  refine ⟨_, exec_ptpLoss_ptp hon h, changesOnly_of_mask _ _ _ ?_, rfl, rfl, rfl, rfl, rfl⟩
  rw [State.modSrc_mask _ _ _ (by decide), State.holdover_mask _ _ (by decide) (by decide), State.modNet_mask _ _ _ (by decide),
    State.upTo_mask _ _ _ (by decide)]

theorem ptpLoss_sync (hon : s.online = true) (h : s.tim.src.state = .sync) (hl : s.net.ppsLost = true) :
    completes .ptpLoss s (fun t => changesOnly [.mono, .tim, .net] s t ∧ t.mono = max s.mono (s.net.ppsGood + sec 3 + 1) ∧
      t.tim.src = { s.tim.src with state := .holdover } ∧ t.net.holdAt = t.mono) := by
  have hover : sec 3 < (s.upTo (s.net.ppsGood + sec 3 + 1)).since s.net.ppsGood := by
    simp only [State.since, State.upTo]
    omega
  refine ⟨_, exec_ptpLoss_sync hon h hl, ?_⟩
  rw [State.ppsHoldover_overdue (s := s.upTo (s.net.ppsGood + sec 3 + 1)) h hl hover]
  refine ⟨changesOnly_of_mask _ _ _ ?_, rfl, rfl, rfl⟩
  rw [State.holdover_mask _ _ (by decide) (by decide), State.upTo_mask _ _ _ (by decide)]

theorem holdoverExpiry_frees (hon : s.online = true) (h : s.tim.src.state = .holdover) :
    completes .holdoverExpiry s (fun t => changesOnly [.mono, .tim, .cal] s t ∧ t.mono = max s.mono (s.net.holdAt + sec 3600) ∧
      t.tim.src = { s.tim.src with state := .free } ∧ t.calPpb = 0 ∧ t.calAt = t.mono ∧ t.calBase = ({ s with mono := t.mono }).calNow) := by
  refine ⟨_, exec_holdoverExpiry_holdover hon h, changesOnly_of_mask _ _ _ ?_, rfl, rfl, rfl, rfl, rfl⟩
  rw [State.modSrc_mask _ _ _ (by decide), State.runFree_mask _ _ (by decide), State.upTo_mask _ _ _ (by decide)]

/-! ### Pulses on SYNC (R23, R378) -/

/-- A valid pulse is noted. -/
def State.pulseNoted (s : State) : State :=
  (s.modNet fun w => { w with ppsAt := s.mono }).modNet fun w =>
    { w with ppsRow := w.ppsRow + 1, ppsBad := 0, ppsGood := s.mono, ppsLost := w.ppsLost && decide (w.ppsRow + 1 < 3) }

theorem State.pulseNoted_mask (k : Part → Bool) (s : State) (h : k .net = false) : s.pulseNoted.mask k = s.mask k := by
  rw [State.pulseNoted, State.modNet_mask _ _ _ h, State.modNet_mask _ _ _ h]

theorem exec_syncPulse_valid (hon : s.online = true) (hset : s.tim.src.state ≠ .unset) (hofs : s.secondOffset.natAbs ≤ 1000000) :
    exec .syncPulse s = .next (
      if s.tim.src.state ≠ .ptp ∧ (s.tim.src.state = .sync ∧ !s.pulseNoted.net.ppsLost ∨ 3 ≤ s.net.ppsRow + 1) then
        (s.pulseNoted.correctCal (-s.secondOffset)).tune.modSrc fun t => { t with state := .sync } else s.pulseNoted) := by
  change execSyncPulse s = _
  unfold execSyncPulse
  rw [hon]
  dsimp only
  rw [if_neg (by decide), if_neg (by exact hset), if_pos (by exact hofs)]
  rfl

theorem syncPulse_syncs (hon : s.online = true) (h : s.tim.src.state = .free) (hofs : s.secondOffset.natAbs ≤ 1000000)
    (hrow : 2 ≤ s.net.ppsRow) :
    completes .syncPulse s (fun t => changesOnly [.tim, .cal, .net, .freeSeq] s t ∧ t.tim.src.state = .sync ∧
      (-50000 ≤ t.calPpb ∧ t.calPpb ≤ 50000) ∧ slewsFromNow s t (-s.secondOffset) ∧ t.net.ppsAt = s.mono) := by
  have hgoverns : s.tim.src.state ≠ .ptp ∧ (s.tim.src.state = .sync ∧ !s.pulseNoted.net.ppsLost ∨ 3 ≤ s.net.ppsRow + 1) :=
    ⟨by simp [h], .inr (by omega)⟩
  refine ⟨_, exec_syncPulse_valid hon (by simp [h]) hofs, ?_⟩
  rw [if_pos hgoverns, State.correctCal_slews _ (by omega)]
  refine ⟨changesOnly_of_mask _ _ _ ?_, rfl, State.tune_calPpb _, ⟨rfl, rfl, rfl⟩, rfl⟩
  rw [State.modSrc_mask _ _ _ (by decide), State.tune_mask _ _ (by decide) (by decide), State.slewCal_mask _ _ _ (by decide),
    State.pulseNoted_mask _ _ (by decide)]

theorem syncPulse_underPtp (hon : s.online = true) (h : s.tim.src.state = .ptp) (hofs : s.secondOffset.natAbs ≤ 1000000) :
    completes .syncPulse s (fun t => changesOnly [.net] s t ∧ t.net.ppsRow = s.net.ppsRow + 1) := by
  refine ⟨_, exec_syncPulse_valid hon (by simp [h]) hofs, ?_⟩
  rw [if_neg fun hgoverns => hgoverns.1 h]
  exact ⟨changesOnly_of_mask _ _ _ (State.pulseNoted_mask _ _ (by decide)), rfl⟩

/-- A predicted second passes without its pulse, 1 ms late at the latest. -/
def State.pulseMissed (s : State) : State :=
  (s.upTo (s.net.ppsAt + sec 1 + ms 1)).modNet fun w => { w with ppsAt := s.net.ppsAt + sec 1 }

/-- R23: the third pulse missing in a row while SYNC governs is its loss. -/
def State.syncLost (s : State) : State :=
  (s.modNet fun w => { w with ppsRow := 0, ppsBad := s.net.ppsBad + 1, ppsLost := true }).modSrc fun t => { t with ppsloss := true }

theorem exec_syncPulseMissing_online (hon : s.online = true) : exec .syncPulseMissing s = .next s.pulseMissed.ppsBad := by
  change execSyncPulseMissing s = _
  simp [execSyncPulseMissing, hon, State.pulseMissed]

theorem State.ppsBad_third {s : State} (h : s.tim.src.state = .sync) (hb : s.net.ppsBad = 2) : s.ppsBad = s.syncLost.ppsHoldover := by
  simp [State.ppsBad, State.syncLost, h, hb]

theorem syncPulseMissing_loses (hon : s.online = true) (h : s.tim.src.state = .sync) (hb : s.net.ppsBad = 2) :
    completes .syncPulseMissing s (fun t => changesOnly [.mono, .tim, .net] s t ∧ t.mono = max s.mono (s.net.ppsAt + sec 1 + ms 1) ∧
      t.net.ppsAt = s.net.ppsAt + sec 1 ∧ t.net.ppsLost = true ∧ t.tim.src.ppsloss = true ∧
      (t.mono - s.net.ppsGood ≤ sec 3 → t.tim.src.state = .sync) ∧
      (sec 3 < t.mono - s.net.ppsGood → t.tim.src.state = .holdover ∧ t.net.holdAt = t.mono)) := by
  refine ⟨_, exec_syncPulseMissing_online hon, ?_⟩
  rw [State.ppsBad_third (s := s.pulseMissed) h hb]
  refine ⟨changesOnly_of_mask _ _ _ ?_, ?_⟩
  · rw [State.ppsHoldover_mask _ _ (by decide) (by decide), State.syncLost, State.modSrc_mask _ _ _ (by decide),
      State.modNet_mask _ _ _ (by decide), State.pulseMissed, State.modNet_mask _ _ _ (by decide), State.upTo_mask _ _ _ (by decide)]
  by_cases ho : sec 3 < s.pulseMissed.syncLost.since s.net.ppsGood
  · rw [State.ppsHoldover_overdue (s := s.pulseMissed.syncLost) h rfl ho]
    exact ⟨rfl, rfl, rfl, rfl, fun hlt => absurd ho (Nat.not_lt.mpr hlt), fun _ => ⟨rfl, rfl⟩⟩
  · rw [State.ppsHoldover_early (s := s.pulseMissed.syncLost) (Nat.not_lt.mp ho)]
    exact ⟨rfl, rfl, rfl, rfl, fun _ => h, fun hgt => absurd hgt ho⟩

end

/-- Settles O54, one event after the other. -/
theorem calendarSources : Obligations.CalendarSources := by
  unfold Obligations.CalendarSources
  intro s m n k hon
  exact ⟨ptpSyncReceive_foreign hon, ptpSyncReceive_locks hon, ptpSyncReceive_slews hon, ptpSyncReceive_steps hon,
    ptpSyncReceive_unused hon, ptpLoss_ptp hon, ptpLoss_sync hon, holdoverExpiry_frees hon, syncPulse_syncs hon, syncPulse_underPtp hon,
    syncPulseMissing_loses hon⟩

end Sys2Proof.Machine
end

section
/-! SUPPORT. The state that the first reset leaves (R19, R39, R62, R153, R276, R357, R404): the units as they come, and from that the
statement ResetState. -/

namespace Sys2Proof.Machine

theorem State.reset_axis (x : AxisIx) : State.reset.axis x = Axis.new := Vector.getElem_replicate _

theorem State.reset_chan (c : ChanIx) : State.reset.chan c = {} := Vector.getElem_replicate _

theorem State.reset_krf (p : PortalIx) : State.reset.krf p = {} := Vector.getElem_replicate _

theorem State.reset_sessions (i : Fin 3) : State.reset.tru.sessions[i.val] = none := Vector.getElem_replicate _

/-- No byte listed is memory in its canonical form. -/
theorem State.memOk_of_mem_nil {s : State} (h : s.mem = []) : s.memOk := by
  rw [State.memOk, h]
  exact ⟨List.Pairwise.nil, fun _ hc => absurd hc List.not_mem_nil⟩

/-- Settles O4: what holds of the whole module by its reset values, what holds of each unit by the one value that all of them get. -/
theorem resetState : Obligations.ResetState := by
  unfold Obligations.ResetState
  refine ⟨rfl, rfl, rfl, State.memOk_of_mem_nil rfl, rfl, rfl, rfl, rfl, rfl, rfl, rfl, rfl, rfl, fun x => ?_, fun c => ?_, fun p => ?_,
    State.reset_sessions⟩
  · rw [State.reset_axis]
    exact ⟨rfl, rfl, rfl⟩
  · rw [State.reset_chan]
  · rw [State.reset_krf]

end Sys2Proof.Machine
end

section
/-! SUPPORT. The kerf engine's commands and the head link (R157, R160, R165, R174, R177, R364, R366 to R369): what each operation on one
kerf engine leaves of it and of the others, what a depth segment, a status frame and a rate command do, and from that the statement
KerfAndHeads. -/

namespace Sys2Proof.Machine

/-! ### One kerf engine and the others -/

@[simp] theorem State.modKerf_krf (s : State) (p : PortalIx) (f : Kerf → Kerf) : (s.modKerf p f).krf p = f (s.krf p) := s.modKerf_get p f

theorem State.modKerf_krf_ne (s : State) {p q : PortalIx} (f : Kerf → Kerf) (h : p ≠ q) : (s.modKerf p f).krf q = s.krf q :=
  Vector.getElem_set_ne p.isLt q.isLt fun e => h (Fin.ext e)

@[simp] theorem State.send_krf (s : State) (o : Output) (p : PortalIx) : (s.send o).krf p = s.krf p := rfl

@[simp] theorem State.event_krf (s : State) (type : BitVec 16) (unit code arg : Nat) (snap : Option (List Byte)) (p : PortalIx) :
    (s.event type unit code arg snap).krf p = s.krf p := rfl

@[simp] theorem State.hlError_krf (s : State) (p : PortalIx) : s.hlError.krf p = s.krf p := rfl

/-- Every kerf engine but that of portal `p` is as it was. -/
def otherKerfKept (p : PortalIx) (s t : State) : Prop := ∀ q : PortalIx, q ≠ p → t.krf q = s.krf q

theorem otherKerfKept.trans {p : PortalIx} {s t u : State} (h : otherKerfKept p s t) (h' : otherKerfKept p t u) : otherKerfKept p s u :=
  fun q hq => (h' q hq).trans (h q hq)

theorem State.modKerf_others (s : State) (p : PortalIx) (f : Kerf → Kerf) : otherKerfKept p s (s.modKerf p f) :=
  fun _ hq => s.modKerf_krf_ne f hq.symm

theorem otherKerfKept.event {p : PortalIx} {s t : State} (h : otherKerfKept p s t) (type : BitVec 16) (unit code arg : Nat) :
    otherKerfKept p s (t.event type unit code arg) := h

theorem otherKerfKept.send {p : PortalIx} {s t : State} (h : otherKerfKept p s t) (o : Output) : otherKerfKept p s (t.send o) := h

theorem State.modKerf_modKerf_others (s : State) (p : PortalIx) (f g : Kerf → Kerf) : otherKerfKept p s ((s.modKerf p f).modKerf p g) :=
  (s.modKerf_others p f).trans (State.modKerf_others _ p g)

/-! ### The window and the rate command (R157, R160, R369) -/

/-- R369: the rate command is sent, and its time noted. -/
def State.sendRate (s : State) (p : PortalIx) (fast : Bool) : State :=
  (s.modKerf p fun k => { k with rateAt := s.mono }).send (.head p.val (rateFrame fast))

theorem State.sendRate_krf (s : State) (p : PortalIx) (fast : Bool) : (s.sendRate p fast).krf p = { s.krf p with rateAt := s.mono } := by
  rw [State.sendRate, State.send_krf, State.modKerf_krf]

theorem State.sendRate_others (s : State) (p : PortalIx) (fast : Bool) : otherKerfKept p s (s.sendRate p fast) :=
  (s.modKerf_others p _).send _

theorem State.sendRate_mask (k : Part → Bool) (s : State) (p : PortalIx) (fast : Bool) (h0 : k .kerf = false) (h1 : k .sent = false) :
    (s.sendRate p fast).mask k = s.mask k := by
  rw [State.sendRate, State.send_mask _ _ _ h1, State.modKerf_mask _ _ _ _ h0]

/-- R157: a window that goes to CLOSING from the low rate commands the head's high rate. -/
theorem State.setWin_closing {s : State} {p : PortalIx} (hrate : (s.krf p).reg.stat.rate = false) : s.setWin p .closing =
    (s.modKerf p fun k => k.modStat fun t => { t with win := .closing, rate := true }).sendRate p true := by
  simp [State.setWin, State.sendRate, hrate]

/-- R160: an opening source opens a closed window. -/
theorem State.kerfOpen_closed {s : State} {p : PortalIx} (gw : Int) (hlive : s.kerfLive p = true) (hwin : (s.krf p).reg.stat.win = .closed) :
    s.kerfOpen p gw =
      (s.modKerf p fun k => { k with gw := gw, openAt := s.mono, silAt := none, nonBlind := none, episode := false }).setWin p .closing := by
  simp [State.kerfOpen, hlive, hwin]

/-! ### KRF.CMD and the learn (R160, R174, R177) -/

/-- R174: the portal's learn starts, with no frame taken. -/
def Kerf.startLearn (k : Kerf) : Kerf := { k with learn := [] }.modStat fun t => { t with lrn := .running }

theorem State.learnRequest_idle {s : State} {p : PortalIx} (hfit : (s.portal p).fitted = true) (hdef : (s.krf p).reg.stat.lrn ≠ .deferred)
    (hrun : (s.krf p).reg.stat.lrn ≠ .running) (hidle : s.idleWindow = true) : s.learnRequest p = s.modKerf p Kerf.startLearn := by
  simp only [State.learnRequest, hfit, hdef, hrun, hidle]
  rfl

theorem State.learnRequest_busy {s : State} {p : PortalIx} (hfit : (s.portal p).fitted = true) (hdef : (s.krf p).reg.stat.lrn ≠ .deferred)
    (hrun : (s.krf p).reg.stat.lrn ≠ .running) (hidle : s.idleWindow = false) : s.learnRequest p =
      (s.modKerf p fun k => k.modStat fun t => { t with lrn := .deferred }).event 0x35 p.val 1 := by
  simp [State.learnRequest, hfit, hdef, hrun, hidle]

/-- A request for a learn changes of its kerf engine only the learn and its state. -/
theorem State.learnRequest_krf (s : State) (p : PortalIx) : ∃ (fs : List (List (BitVec 16))) (r : ReqStat),
    (s.learnRequest p).krf p = { s.krf p with learn := fs }.modStat fun t => { t with lrn := r } := by
  unfold State.learnRequest
  dsimp only
  split
  · exact ⟨_, _, rfl⟩
  · split
    · exact ⟨_, _, s.modKerf_krf p _⟩
    · rw [State.event_krf]
      exact ⟨_, _, s.modKerf_krf p _⟩

theorem State.learnRequest_others (s : State) (p : PortalIx) : otherKerfKept p s (s.learnRequest p) := by
  unfold State.learnRequest
  dsimp only
  split
  · exact fun _ _ => rfl
  · split
    · exact s.modKerf_others p _
    · exact (s.modKerf_others p _).event _ _ _ _

/-- R174: a pending learn of one portal starts. -/
def State.learnPending (s : State) (p : PortalIx) : State :=
  if (s.krf p).reg.stat.lrn == .deferred then s.modKerf p Kerf.startLearn else s

theorem State.learnPending_krf (s : State) (p : PortalIx) :
    (s.learnPending p).krf p = if (s.krf p).reg.stat.lrn = .deferred then (s.krf p).startLearn else s.krf p := by
  unfold State.learnPending
  split <;> simp_all

theorem State.learnPending_others (s : State) (p : PortalIx) : otherKerfKept p s (s.learnPending p) := by
  unfold State.learnPending
  split
  · exact s.modKerf_others p _
  · exact fun _ _ => rfl

theorem State.learnPending_mask (k : Part → Bool) (s : State) (p : PortalIx) (h : k .kerf = false) : (s.learnPending p).mask k = s.mask k := by
  unfold State.learnPending
  split
  · exact s.modKerf_mask k p _ h
  · rfl

/-- Of the portals walked, each learn that was pending starts; every other kerf engine is left. -/
theorem State.foldl_learnPending (ps : List PortalIx) (hps : ps.Nodup) (s : State) (p : PortalIx) :
    (ps.foldl State.learnPending s).krf p = if p ∈ ps then (s.learnPending p).krf p else s.krf p := by
  induction ps generalizing s with
  | nil => simp
  | cons q ps ih =>
    obtain ⟨hq, hps⟩ := List.nodup_cons.mp hps
    rw [List.foldl_cons, ih hps]
    by_cases e : p = q
    · subst e
      simp [hq]
    · have hkept : (s.learnPending q).krf p = s.krf p := s.learnPending_others q p e
      simp only [State.learnPending_krf, hkept, List.mem_cons, e, false_or]

/-! ### Missing frames (R165, R367) -/

theorem State.kcondEval_others (s : State) (p : PortalIx) : otherKerfKept p s (s.kcondEval p) := s.modKerf_others p _

/-- R169: the kerf condition and the override are all that the evaluation changes. -/
theorem State.kcondEval_krf (s : State) (p : PortalIx) : ∃ ovr kcond : Bool,
    (s.kcondEval p).krf p = (s.krf p).modStat fun t => { t with ovr := ovr, kcond := kcond } := ⟨_, _, s.modKerf_krf p _⟩

theorem State.frameMissing_others (s : State) (p : PortalIx) (n : Nat) : otherKerfKept p s (s.frameMissing p n) :=
  (s.modKerf_modKerf_others p _ _).trans (State.kcondEval_others _ p)

/-- R165: what a missing frame leaves of its kerf engine: `n` more are missing, the run has ended, the frame counter stays. -/
theorem State.frameMissing_krf (s : State) (p : PortalIx) (n : Nat) :
    ((s.frameMissing p n).krf p).part = (s.krf p).part ∧ ((s.frameMissing p n).krf p).reg.fcnt = (s.krf p).reg.fcnt ∧
      ((s.frameMissing p n).krf p).reg.stat.run = 0 ∧
      ((s.frameMissing p n).krf p).reg.cnt.miss = satNat 16 ((s.krf p).reg.cnt.miss.toNat + n) := by
  unfold State.frameMissing State.kerfBreak
  obtain ⟨ovr, kcond, heval⟩ := State.kcondEval_krf _ p
  rw [heval, State.modKerf_krf, State.modKerf_krf]
  exact ⟨rfl, rfl, rfl, rfl⟩

theorem State.countFrame_others (s : State) (p : PortalIx) (fcnt : Word) : otherKerfKept p s (s.countFrame p fcnt) := by
  unfold State.countFrame
  dsimp only
  split
  · exact (s.modKerf_modKerf_others p _ _).event _ _ _ _
  · exact s.modKerf_others p _

/-- R41, R165: KRF.FCNT takes the frame's counter; missing frames and the partial frame stay. -/
theorem State.countFrame_krf (s : State) (p : PortalIx) (fcnt : Word) :
    ((s.countFrame p fcnt).krf p).part = (s.krf p).part ∧ ((s.countFrame p fcnt).krf p).reg.fcnt = fcnt ∧
      ((s.countFrame p fcnt).krf p).reg.cnt = (s.krf p).reg.cnt := by
  unfold State.countFrame
  dsimp only
  split <;> simp [Kerf.modEvt]

theorem State.frameLost_others (s : State) (p : PortalIx) (fcnt : Word) : otherKerfKept p s (s.frameLost p fcnt) :=
  (s.countFrame_others p fcnt).trans (State.frameMissing_others _ p _)

theorem State.net_of_mask {s t : State} (h : t.mask (· == .net) = s.mask (· == .net)) : t.net = s.net := by
  have := congrArg State.net h
  simpa [State.mask] using this

theorem State.frameLost_net (s : State) (p : PortalIx) (fcnt : Word) : (s.frameLost p fcnt).net = s.net :=
  State.net_of_mask (State.frameLost_mask _ s p fcnt rfl rfl)

/-- R165: the loss of a frame with counter `fcnt`: it is the last received, and no run goes on. -/
theorem State.frameLost_krf (s : State) (p : PortalIx) (fcnt : Word) :
    ((s.frameLost p fcnt).krf p).part = (s.krf p).part ∧ ((s.frameLost p fcnt).krf p).reg.fcnt = fcnt ∧
      ((s.frameLost p fcnt).krf p).reg.stat.run = 0 := by
  obtain ⟨hpart, hfcnt, _⟩ := s.countFrame_krf p fcnt
  obtain ⟨hpart', hfcnt', hrun, _⟩ := State.frameMissing_krf (s.countFrame p fcnt) p _
  exact ⟨hpart'.trans hpart, hfcnt'.trans hfcnt, hrun⟩

/-- R165: a lost frame that follows the last one received is the only one missing. -/
theorem State.frameLost_next_miss {s : State} {p : PortalIx} {fcnt : Word} (hrec : (s.krf p).received = true)
    (hnext : fcnt = (s.krf p).reg.fcnt + 1) :
    ((s.frameLost p fcnt).krf p).reg.cnt.miss = satNat 16 ((s.krf p).reg.cnt.miss.toNat + 1) := by
  have hone : (fcnt - (s.krf p).reg.fcnt).toNat = 1 := by
    rw [hnext, BitVec.add_comm, BitVec.add_sub_cancel]
    rfl
  obtain ⟨_, _, hcnt⟩ := s.countFrame_krf p fcnt
  obtain ⟨_, _, _, hmiss⟩ := State.frameMissing_krf (s.countFrame p fcnt) p 1
  have hlost : s.frameLost p fcnt = (s.countFrame p fcnt).frameMissing p 1 := by simp [State.frameLost, hrec, hone]
  rw [hlost, hmiss, hcnt]

/-! ### Depth segments (R364, R366, R367) -/

/-- R367: the number of a depth segment, the counter of its frame and its depth. -/
def segNo (b : List Byte) : Nat := beNat (bytesAt b 8 2)
@[inherit_doc segNo] def segFcnt (b : List Byte) : Word := BitVec.ofNat 32 (beNat (bytesAt b 4 4))
@[inherit_doc segNo] def segRows (b : List Byte) : List (BitVec 16) := beWords (bytesAt b 24 7680)

/-- The bytes are a depth segment without damage of the head with this identity. -/
def segmentOf (id : BitVec 64) (b : List Byte) : Prop := bytesAt b 0 2 = [0x48, 0x01] ∧ segOk id b = true

/-- R369: the RATE flag of a segment is noted with its time. -/
def State.rateSeen (s : State) (p : PortalIx) (b : List Byte) : State :=
  s.modKerf p fun k => { k with segRate := (bytesAt b 3 1).any (·.getLsbD 0), segAt := s.mono }

/-- R367: an error on the link drops the partial frame. -/
def State.partDropped (s : State) (p : PortalIx) : State := s.hlError.modKerf p fun k => { k with part := none }

theorem State.partDropped_krf (s : State) (p : PortalIx) : (s.partDropped p).krf p = { s.krf p with part := none } :=
  s.hlError.modKerf_krf p _

theorem State.partError_some {s : State} {p : PortalIx} {f : Partial} (h : (s.krf p).part = some f) :
    s.partError p = (s.partDropped p).frameLost p f.fcnt := by
  unfold State.partError
  dsimp only
  rw [State.hlError_krf, h]
  rfl

section
variable {s : State} {p : PortalIx} {b : List Byte}

theorem exec_depthSegment_foreign (ok : Bool) (hon : s.online = true) (h : bytesAt b 0 2 ≠ [0x48, 0x01]) :
    exec (.depthSegment p b ok) s = .next s.dropFrame := by
  change execDepthSegment p b ok s = _
  unfold execDepthSegment
  rw [hon, if_neg (by decide)]
  dsimp only
  rw [if_pos (bne_iff_ne.mpr h)]

theorem exec_depthSegment_damaged {f : Partial} (hon : s.online = true) (hst : (s.krf p).status = true) (h : bytesAt b 0 2 = [0x48, 0x01])
    (hpart : (s.krf p).part = some f) : exec (.depthSegment p b false) s = .next (s.partError p) := by
  change execDepthSegment p b false s = _
  unfold execDepthSegment
  dsimp only
  rw [hon, h, hst, hpart, if_neg (by decide), if_neg (by decide), if_neg (by decide), if_pos (by rfl)]

theorem exec_depthSegment_begins (hon : s.online = true) (hst : (s.krf p).status = true) (h : segmentOf (s.krf p).headId b)
    (hpart : (s.krf p).part = none) (hseg : segNo b = 0) :
    exec (.depthSegment p b true) s = .next ((s.rateSeen p b).modKerf p fun k =>
      { k with tag := k.tag + 1, part := some { fcnt := segFcnt b, next := 1, rows := [segRows b] } }) := by
  obtain ⟨hours, hok⟩ := h
  change execDepthSegment p b true s = _
  unfold execDepthSegment
  dsimp only
  rw [hon, hours, hst, hok, hpart, if_neg (by decide), if_neg (by decide), if_neg (by decide), if_neg (by decide)]
  dsimp only
  rw [if_pos (by exact hseg)]
  rfl

/-- The segment that the partial frame expects extends it, or ends it as its segment 79. -/
theorem exec_depthSegment_follows {f : Partial} (hon : s.online = true) (hst : (s.krf p).status = true) (h : segmentOf (s.krf p).headId b)
    (hpart : (s.krf p).part = some f) (hseg : segNo b = f.next) (hfcnt : segFcnt b = f.fcnt) (hpos : 0 < segNo b) :
    exec (.depthSegment p b true) s = .next (if segNo b = 79 then (s.rateSeen p b).frameEnd p (segFcnt b) (segRows b :: f.rows)
      else (s.rateSeen p b).modKerf p fun k =>
        { k with part := some { f with next := segNo b + 1, rows := segRows b :: f.rows } }) := by
  obtain ⟨hours, hok⟩ := h
  have hnz : segNo b ≠ 0 := Nat.ne_of_gt hpos
  have hexp : segNo b = f.next ∧ segFcnt b = f.fcnt := ⟨hseg, hfcnt⟩
  change execDepthSegment p b true s = _
  unfold execDepthSegment
  dsimp only
  rw [hon, hours, hst, hok, hpart, if_neg (by decide), if_neg (by decide), if_neg (by decide), if_neg (by decide)]
  dsimp only
  rw [if_neg (by exact hnz), if_pos (by exact hexp)]
  rfl

theorem depthSegment_begins (hon : s.online = true) (hst : (s.krf p).status = true) (h : segmentOf (s.krf p).headId b)
    (hpart : (s.krf p).part = none) (hseg : segNo b = 0) :
    completes (.depthSegment p b true) s (fun t => changesOnly [.kerf] s t ∧ otherKerfKept p s t ∧
      (t.krf p).part = some { fcnt := segFcnt b, next := 1, rows := [segRows b] } ∧ (t.krf p).tag = (s.krf p).tag + 1) := by
  refine ⟨_, exec_depthSegment_begins hon hst h hpart hseg, changesOnly_of_mask _ _ _ ?_, s.modKerf_modKerf_others p _ _, ?_, ?_⟩
  · rw [State.modKerf_mask _ _ _ _ (by decide), State.rateSeen, State.modKerf_mask _ _ _ _ (by decide)]
  · rw [State.modKerf_krf]
  · rw [State.modKerf_krf, State.rateSeen, State.modKerf_krf]

theorem depthSegment_extends {f : Partial} (hon : s.online = true) (hst : (s.krf p).status = true) (h : segmentOf (s.krf p).headId b)
    (hpart : (s.krf p).part = some f) (hseg : segNo b = f.next) (hfcnt : segFcnt b = f.fcnt) (hpos : 0 < segNo b) (hlt : segNo b < 79) :
    completes (.depthSegment p b true) s (fun t => changesOnly [.kerf] s t ∧ otherKerfKept p s t ∧
      (t.krf p).part = some { fcnt := segFcnt b, next := segNo b + 1, rows := segRows b :: f.rows } ∧ (t.krf p).dma = (s.krf p).dma) := by
  refine ⟨_, exec_depthSegment_follows hon hst h hpart hseg hfcnt hpos, ?_⟩
  rw [if_neg (Nat.ne_of_lt hlt)]
  refine ⟨changesOnly_of_mask _ _ _ ?_, s.modKerf_modKerf_others p _ _, ?_, ?_⟩
  · rw [State.modKerf_mask _ _ _ _ (by decide), State.rateSeen, State.modKerf_mask _ _ _ _ (by decide)]
  · rw [State.modKerf_krf, hfcnt]
  · rw [State.modKerf_krf, State.rateSeen, State.modKerf_krf]

theorem depthSegment_ends {f : Partial} (hon : s.online = true) (hst : (s.krf p).status = true) (h : segmentOf (s.krf p).headId b)
    (hpart : (s.krf p).part = some f) (hseg : segNo b = 79) (hnext : f.next = 79) (hfcnt : segFcnt b = f.fcnt) :
    completes (.depthSegment p b true) s (fun t => changesOnly [.kerf] s t ∧ otherKerfKept p s t ∧ (t.krf p).part = none ∧
      (t.krf p).lastEnd = s.mono ∧ ∃ g : Frame, (t.krf p).dma = (s.krf p).dma ++ [((s.krf p).tag, g)] ∧
        g.fcnt = segFcnt b ∧ g.fend = s.mono ∧ g.g = (s.krf p).gmax ∧ g.depth = (segRows b :: f.rows).reverse.flatten) := by
  refine ⟨_, exec_depthSegment_follows hon hst h hpart (hseg.trans hnext.symm) hfcnt (by omega), ?_⟩
  rw [if_pos hseg]
  refine ⟨changesOnly_of_mask _ _ _ ?_, s.modKerf_modKerf_others p _ _, ?_⟩
  · rw [State.frameEnd_mask _ _ _ _ _ (by decide), State.rateSeen, State.modKerf_mask _ _ _ _ (by decide)]
  · rw [State.frameEnd, State.modKerf_krf, State.rateSeen, State.modKerf_krf]
    exact ⟨rfl, rfl, _, rfl, rfl, rfl, rfl, rfl⟩

theorem depthSegment_foreign (ok : Bool) (hon : s.online = true) (h : bytesAt b 0 2 ≠ [0x48, 0x01]) :
    completes (.depthSegment p b ok) s (fun t => changesOnly [.net] s t ∧ t.net.reg.err2.proto = satInc s.net.reg.err2.proto) :=
  ⟨_, exec_depthSegment_foreign ok hon h, changesOnly_of_mask _ _ _ (State.dropFrame_mask _ _ (by decide)), rfl⟩

theorem depthSegment_damaged {f : Partial} (hon : s.online = true) (hst : (s.krf p).status = true) (h : bytesAt b 0 2 = [0x48, 0x01])
    (hpart : (s.krf p).part = some f) :
    completes (.depthSegment p b false) s (fun t => changesOnly [.tally, .kerf, .net] s t ∧ otherKerfKept p s t ∧ (t.krf p).part = none ∧
      (t.krf p).reg.fcnt = f.fcnt ∧ t.net.reg.err.hlerr = satInc s.net.reg.err.hlerr ∧ (t.krf p).reg.stat.run = 0 ∧
      ((s.krf p).received = true → f.fcnt = (s.krf p).reg.fcnt + 1 →
        (t.krf p).reg.cnt.miss = satNat 16 ((s.krf p).reg.cnt.miss.toNat + 1))) := by
  refine ⟨_, exec_depthSegment_damaged hon hst h hpart,
    changesOnly_of_mask _ _ _ (State.partError_mask _ _ _ (by decide) (by decide) (by decide)), ?_⟩
  rw [State.partError_some hpart]
  have hkrf := s.partDropped_krf p
  obtain ⟨hnone, hlast, hrun⟩ := (s.partDropped p).frameLost_krf p f.fcnt
  refine ⟨(State.modKerf_others s.hlError p _).trans (State.frameLost_others _ p _), ?_, hlast, ?_, hrun, fun hrec hnext => ?_⟩
  · rw [hnone, hkrf]
  · rw [State.frameLost_net]
    rfl
  · rw [State.frameLost_next_miss (by rw [hkrf]; exact hrec) (by rw [hkrf]; exact hnext), hkrf]

end

/-! ### Status frames (R368) -/

/-- R173: the check of the model changes of its kerf engine only the model's state and digest. -/
theorem State.modelCheck_krf (s : State) (p : PortalIx) : ∃ (m : ModelStat) (d : Word), (s.modelCheck p).krf p =
    { (s.krf p) with reg := { (s.krf p).reg with stat := { (s.krf p).reg.stat with model := m }, mdig := d } } :=
  ⟨_, _, s.modKerf_krf p _⟩

theorem State.modelCheck_others (s : State) (p : PortalIx) : otherKerfKept p s (s.modelCheck p) := s.modKerf_others p _

/-- R368: what a status frame says of its head; the head's partial frame stays where `keep` is set. -/
def Kerf.headSeen (k : Kerf) (id : BitVec 64) (fw : Word) (rate temp : Byte) (keep : Bool) : Kerf :=
  { k with status := true, headKnown := true, headId := id, headFw := fw, headRate := rate, headTemp := temp
           part := if keep then k.part else none, reg := { k.reg with headid := id.setWidth 32 } }

section
variable {s : State} {p : PortalIx} {id : BitVec 64} (fw : Word) (rate temp : Byte)

theorem exec_headStatusFrame_same (hon : s.online = true) (hknown : (s.krf p).headKnown = true) (hid : (s.krf p).headId = id) :
    exec (.headStatusFrame p id fw rate temp) s =
      .next ((s.modKerf p fun k => k.headSeen id fw rate temp true).modelCheck p) := by
  change execHeadStatusFrame p id fw rate temp s = _
  simp [execHeadStatusFrame, hon, hknown, hid, Kerf.headSeen]

theorem exec_headStatusFrame_other (hon : s.online = true) (hknown : (s.krf p).headKnown = true) (hid : (s.krf p).headId ≠ id) :
    exec (.headStatusFrame p id fw rate temp) s =
      .next ((((s.modKerf p fun k => k.headSeen id fw rate temp false).modelCheck p).modKerf p fun k =>
        k.modEvt fun e => { e with headchg := true }).learnRequest p) := by
  change execHeadStatusFrame p id fw rate temp s = _
  simp [execHeadStatusFrame, hon, hknown, hid, Kerf.headSeen]

theorem headStatusFrame_same (hon : s.online = true) (hknown : (s.krf p).headKnown = true) (hid : (s.krf p).headId = id) :
    completes (.headStatusFrame p id fw rate temp) s (fun t => changesOnly [.kerf] s t ∧ otherKerfKept p s t ∧
      (t.krf p).headFw = fw ∧ (t.krf p).headRate = rate ∧ (t.krf p).headTemp = temp ∧ (t.krf p).reg.headid = id.setWidth 32 ∧
      (t.krf p).reg.evt.headchg = (s.krf p).reg.evt.headchg) := by
  refine ⟨_, exec_headStatusFrame_same fw rate temp hon hknown hid, changesOnly_of_mask _ _ _ ?_,
    (s.modKerf_others p _).trans (State.modelCheck_others _ p), ?_⟩
  · rw [State.modelCheck_mask _ _ _ (by decide), State.modKerf_mask _ _ _ _ (by decide)]
  · obtain ⟨m, d, hcheck⟩ := State.modelCheck_krf (s.modKerf p fun k => k.headSeen id fw rate temp true) p
    rw [hcheck, State.modKerf_krf]
    exact ⟨rfl, rfl, rfl, rfl, rfl⟩

theorem headStatusFrame_other (hon : s.online = true) (hknown : (s.krf p).headKnown = true) (hid : (s.krf p).headId ≠ id) :
    completes (.headStatusFrame p id fw rate temp) s (fun t => changesOnly [.tally, .kerf] s t ∧ otherKerfKept p s t ∧
      (t.krf p).headId = id ∧ (t.krf p).reg.evt.headchg = true ∧ (t.krf p).part = none) := by
  refine ⟨_, exec_headStatusFrame_other fw rate temp hon hknown hid, changesOnly_of_mask _ _ _ ?_, ?_, ?_⟩
  · rw [State.learnRequest_mask _ _ _ (by decide) (by decide), State.modKerf_mask _ _ _ _ (by decide), State.modelCheck_mask _ _ _ (by decide),
      State.modKerf_mask _ _ _ _ (by decide)]
  · have hseen := (s.modKerf_others p fun k => k.headSeen id fw rate temp false).trans (State.modelCheck_others _ p)
    exact (hseen.trans (State.modKerf_others _ p _)).trans (State.learnRequest_others _ p)
  · obtain ⟨fs, r, hlearn⟩ := State.learnRequest_krf (((s.modKerf p fun k => k.headSeen id fw rate temp false).modelCheck p).modKerf p
      fun k => k.modEvt fun e => { e with headchg := true }) p
    obtain ⟨m, d, hcheck⟩ := State.modelCheck_krf (s.modKerf p fun k => k.headSeen id fw rate temp false) p
    rw [hlearn, State.modKerf_krf, hcheck, State.modKerf_krf]
    exact ⟨rfl, rfl, rfl⟩

end

/-! ### The repeated rate command (R369) -/

/-- R369: a segment with the other RATE flag is counted. -/
def State.rateWrong (s : State) : State :=
  { s with net := { s.net with reg := { s.net.reg with err2 := { s.net.reg.err2 with rate := satInc s.net.reg.err2.rate } } } }

section
variable {s : State} {p : PortalIx}

theorem exec_rateCommandRepeat_right (hon : s.online = true) (hup : s.net.reg.lnk.hl.getLsbD p.val = true)
    (hright : (s.krf p).segRate = (s.krf p).reg.stat.rate) : exec (.rateCommandRepeat p) s =
      .next ((s.upTo ((s.krf p).rateAt + sec 1)).sendRate p (s.krf p).reg.stat.rate) := by
  change execRateCommandRepeat p s = _
  have hright' : ((s.krf p).segRate != (s.krf p).reg.stat.rate) = false := bne_eq_false_iff_eq.mpr hright
  unfold execRateCommandRepeat
  dsimp only
  rw [hon, hup, hright', if_neg (by decide), if_neg (by decide)]
  rfl

theorem exec_rateCommandRepeat_wrong (hon : s.online = true) (hup : s.net.reg.lnk.hl.getLsbD p.val = true)
    (hwrong : (s.krf p).segRate ≠ (s.krf p).reg.stat.rate) (hsince : (s.krf p).rateAt < (s.krf p).segAt) :
    exec (.rateCommandRepeat p) s =
      .next ((s.upTo ((s.krf p).rateAt + ms 100)).rateWrong.sendRate p (s.krf p).reg.stat.rate) := by
  change execRateCommandRepeat p s = _
  have hwrong' : ((s.krf p).segRate != (s.krf p).reg.stat.rate) = true := bne_iff_ne.mpr hwrong
  unfold execRateCommandRepeat
  dsimp only
  rw [hon, hup, hwrong', decide_eq_true hsince, if_neg (by decide), if_neg (by decide)]
  rfl

theorem rateCommandRepeat_right (hon : s.online = true) (hup : s.net.reg.lnk.hl.getLsbD p.val = true)
    (hright : (s.krf p).segRate = (s.krf p).reg.stat.rate) :
    completes (.rateCommandRepeat p) s (fun t => changesOnly [.mono, .kerf, .sent] s t ∧ otherKerfKept p s t ∧
      t.mono = max s.mono ((s.krf p).rateAt + sec 1) ∧ (t.krf p).rateAt = t.mono ∧
      t.sent = s.sent ++ [.head p.val (rateFrame (s.krf p).reg.stat.rate)]) := by
  refine ⟨_, exec_rateCommandRepeat_right hon hup hright, changesOnly_of_mask _ _ _ ?_, State.sendRate_others _ p _, rfl, ?_, rfl⟩
  · rw [State.sendRate_mask _ _ _ _ (by decide) (by decide), State.upTo_mask _ _ _ (by decide)]
  · rw [State.sendRate_krf]
    rfl

theorem rateCommandRepeat_wrong (hon : s.online = true) (hup : s.net.reg.lnk.hl.getLsbD p.val = true)
    (hwrong : (s.krf p).segRate ≠ (s.krf p).reg.stat.rate) (hsince : (s.krf p).rateAt < (s.krf p).segAt) :
    completes (.rateCommandRepeat p) s (fun t => t.mono = max s.mono ((s.krf p).rateAt + ms 100) ∧
      t.net.reg.err2.rate = satInc s.net.reg.err2.rate ∧ t.sent = s.sent ++ [.head p.val (rateFrame (s.krf p).reg.stat.rate)]) :=
  ⟨_, exec_rateCommandRepeat_wrong hon hup hwrong hsince, rfl, rfl, rfl⟩

end

/-! ### The commands of KRF.CMD -/

section
variable {s : State} {p : PortalIx}

theorem exec_krfOpen_fitted (hon : s.online = true) (hfit : (s.portal p).fitted = true) :
    exec (.krfOpen p) s = .next (s.kerfOpen p (s.portal p).g) := by
  change execKrfOpen p s = _
  simp [execKrfOpen, hon, hfit]

theorem exec_krfLearn_online (hon : s.online = true) : exec (.krfLearn p) s = .next (s.learnRequest p) := by
  change execKrfLearn p s = _
  simp [execKrfLearn, hon]

theorem exec_krfSnap_fitted (hon : s.online = true) (hfit : (s.portal p).fitted = true) :
    exec (.krfSnap p) s = .next (s.modKerf p fun k => { k with snapReq := true }) := by
  change execKrfSnap p s = _
  simp [execKrfSnap, hon, hfit]

theorem exec_kerfLearnStart_idle (hon : s.online = true) (hidle : s.idleWindow = true) :
    exec .kerfLearnStart s = .next (allPortals.foldl State.learnPending s) := by
  change execKerfLearnStart s = _
  simp only [execKerfLearnStart, hon, hidle]
  rfl

theorem krfOpen_opens (hon : s.online = true) (hfit : (s.portal p).fitted = true) (hlive : s.kerfLive p = true)
    (hwin : (s.krf p).reg.stat.win = .closed) (hrate : (s.krf p).reg.stat.rate = false) :
    completes (.krfOpen p) s (fun t => changesOnly [.kerf, .sent] s t ∧ otherKerfKept p s t ∧ (t.krf p).reg.stat.win = .closing ∧
      (t.krf p).gw = (s.portal p).g ∧ (t.krf p).openAt = s.mono ∧ (t.krf p).reg.stat.rate = true ∧
      t.sent = s.sent ++ [.head p.val (rateFrame true)]) := by
  refine ⟨_, exec_krfOpen_fitted hon hfit, changesOnly_of_mask _ _ _ (State.kerfOpen_mask _ _ _ _ (by decide) (by decide)), ?_⟩
  rw [State.kerfOpen_closed _ hlive hwin, State.setWin_closing (by rw [State.modKerf_krf]; exact hrate)]
  refine ⟨(s.modKerf_modKerf_others p _ _).trans (State.sendRate_others _ p _), ?_⟩
  rw [State.sendRate_krf, State.modKerf_krf, State.modKerf_krf]
  exact ⟨rfl, rfl, rfl, rfl, rfl⟩

theorem krfLearn_starts (hon : s.online = true) (hfit : (s.portal p).fitted = true) (hdef : (s.krf p).reg.stat.lrn ≠ .deferred)
    (hrun : (s.krf p).reg.stat.lrn ≠ .running) (hidle : s.idleWindow = true) :
    completes (.krfLearn p) s (fun t => changesOnly [.kerf] s t ∧ otherKerfKept p s t ∧ (t.krf p).reg.stat.lrn = .running ∧
      (t.krf p).learn = [] ∧ (t.krf p).model = (s.krf p).model) := by
  refine ⟨_, exec_krfLearn_online hon, ?_⟩
  rw [State.learnRequest_idle hfit hdef hrun hidle]
  refine ⟨changesOnly_of_mask _ _ _ (State.modKerf_mask _ _ _ _ (by decide)), s.modKerf_others p _, ?_⟩
  rw [State.modKerf_krf]
  exact ⟨rfl, rfl, rfl⟩

theorem krfLearn_waits (hon : s.online = true) (hfit : (s.portal p).fitted = true) (hdef : (s.krf p).reg.stat.lrn ≠ .deferred)
    (hrun : (s.krf p).reg.stat.lrn ≠ .running) (hidle : s.idleWindow = false) :
    completes (.krfLearn p) s (fun t => changesOnly [.tally, .kerf] s t ∧ otherKerfKept p s t ∧ (t.krf p).reg.stat.lrn = .deferred ∧
      (tallyOpen s → newestIs 0x35 t)) := by
  refine ⟨_, exec_krfLearn_online hon, changesOnly_of_mask _ _ _ (State.learnRequest_mask _ _ _ (by decide) (by decide)),
    s.learnRequest_others p, ?_⟩
  rw [State.learnRequest_busy hfit hdef hrun hidle]
  refine ⟨?_, State.event_newest (s := s.modKerf p _) 0x35 p.val 1 0⟩
  rw [State.event_krf, State.modKerf_krf]
  rfl

theorem krfSnap_asks (hon : s.online = true) (hfit : (s.portal p).fitted = true) :
    completes (.krfSnap p) s (fun t => changesOnly [.kerf] s t ∧ otherKerfKept p s t ∧ t.krf p = { s.krf p with snapReq := true }) :=
  ⟨_, exec_krfSnap_fitted hon hfit, changesOnly_of_mask _ _ _ (State.modKerf_mask _ _ _ _ (by decide)), s.modKerf_others p _,
    s.modKerf_krf p _⟩

theorem kerfLearnStart_starts (hon : s.online = true) (hidle : s.idleWindow = true) :
    completes .kerfLearnStart s (fun t => changesOnly [.kerf] s t ∧
      ((s.krf p).reg.stat.lrn = .deferred → (t.krf p).reg.stat.lrn = .running ∧ (t.krf p).learn = []) ∧
      ((s.krf p).reg.stat.lrn ≠ .deferred → t.krf p = s.krf p)) := by
  have hkrf : (allPortals.foldl State.learnPending s).krf p = (s.learnPending p).krf p := by
    rw [allPortals, State.foldl_learnPending _ (List.nodup_finRange 16), if_pos (List.mem_finRange p)]
  refine ⟨_, exec_kerfLearnStart_idle hon hidle, changesOnly_of_mask _ _ _ ?_, fun hdef => ?_, fun hdef => ?_⟩
  · exact State.mask_foldl _ _ (fun s p => s.learnPending_mask _ p (by decide)) _ s
  · rw [hkrf, State.learnPending_krf, if_pos hdef]
    exact ⟨rfl, rfl⟩
  · rw [hkrf, State.learnPending_krf, if_neg hdef]

end

/-- Settles O39: the commands of KRF.CMD and the pending learns, then the head link, one command or event after the other. -/
theorem kerfAndHeads : Obligations.KerfAndHeads := by
  unfold Obligations.KerfAndHeads
  refine ⟨fun s p hon hfit => ?_, fun s p b f id fw rate temp hon hst => ?_⟩
  · exact ⟨krfOpen_opens hon hfit, fun hdef hrun => ⟨krfLearn_starts hon hfit hdef hrun, krfLearn_waits hon hfit hdef hrun⟩,
      krfSnap_asks hon hfit, kerfLearnStart_starts hon⟩
  · exact ⟨depthSegment_begins hon hst, depthSegment_extends hon hst, depthSegment_ends hon hst, fun h ok => depthSegment_foreign ok hon h,
      depthSegment_damaged hon hst, headStatusFrame_same fw rate temp hon, headStatusFrame_other fw rate temp hon,
      rateCommandRepeat_right hon, rateCommandRepeat_wrong hon⟩

end Sys2Proof.Machine
end
